-- ==== Sys2Proof/Word.lean ====
section
/-! DEFINITION. The words of the TX-9400: the 64-bit register word (R13), the byte, the 256-bit Almanac row (R76), and a
table keyed by a number, the shape every sparse table of the state has. -/

namespace Sys2Proof

/-- A register or table word of the status and control space (R13). -/
abbrev Word := BitVec 64

/-- A byte of a memory tier or of a message. -/
abbrev Byte := BitVec 8

/-- An Almanac row (R76). -/
abbrev Row256 := BitVec 256

/-- A table keyed by a number, kept sorted by strictly rising key. -/
abbrev Tab (α : Type) := List (Nat × α)

end Sys2Proof
end

