-- ==== Sys2Proof/Machine/RegType.lean ====
section
/-! DEFINITION. The vocabulary the register map is written in: access codes (R18), fields, registers; and the completion
status codes of R60 with the fit report's resources of R111. -/

namespace Sys2Proof.Machine

/-- The access codes of R18. -/
inductive Access where
  | ro | rw | w1c | rc | wo | rws
  deriving DecidableEq, Repr

/-- A field of a register that is repeated `n1` times, and within that `n2` times. Instance `k` of the register lies at
`base + (k / n2) * s1 + (k % n2) * s2`; the field takes `w` bits from bit `lo`; `rst` is its reset value, `live` its live
mark. -/
structure Fld where
  base : Nat
  n1 : Nat
  n2 : Nat
  s1 : Nat
  s2 : Nat
  lo : Nat
  w : Nat
  acc : Access
  live : Bool
  rst : Nat
  deriving DecidableEq, Repr

/-- A register, repeated `n1` times at stride `s1` and within that `n2` times at stride `s2`; `rst` is its whole word
after reset, and `fields` are the fields that are not reserved. -/
structure Reg where
  base : Nat
  n1 : Nat
  s1 : Nat
  n2 : Nat
  s2 : Nat
  rst : Nat
  fields : List Fld
  deriving DecidableEq, Repr

/-- The completion status codes of R60. -/
inductive Status where
  | done | doneResent | doneDegraded | abortTooLate
  | failedLink | failedTag | failedResendLimit | failedLength | failedFenced | failedAborted
  | failedKeyErased | failedKeyExhausted | failedPoolEmpty | failedDisabled | failedMemberLost
  | failedTableGone | failedChecksum | failedHoldExpired
  | refusedFit | refusedMode | refusedSignature | refusedRollback | refusedBusy
  deriving DecidableEq, Repr

/-- The value of a status code (the table under R61). -/
def Status.code : Status → Nat
  | .done => 0x00 | .doneResent => 0x01 | .doneDegraded => 0x02 | .abortTooLate => 0x03
  | .failedLink => 0x10 | .failedTag => 0x11 | .failedResendLimit => 0x12 | .failedLength => 0x13
  | .failedFenced => 0x14 | .failedAborted => 0x15 | .failedKeyErased => 0x16
  | .failedKeyExhausted => 0x17 | .failedPoolEmpty => 0x18 | .failedDisabled => 0x19
  | .failedMemberLost => 0x1A | .failedTableGone => 0x1B | .failedChecksum => 0x1C
  | .failedHoldExpired => 0x1D | .refusedFit => 0x20 | .refusedMode => 0x21
  | .refusedSignature => 0x22 | .refusedRollback => 0x23 | .refusedBusy => 0x24

/-- A status from 0x00 to 0x0F: the item's result is valid (R60). -/
def Status.ok (c : Status) : Bool := c.code < 0x10

/-- A status from 0x20 to 0x2F: the item was refused before it started (R60). -/
def Status.refusal (c : Status) : Bool := 0x20 ≤ c.code

/-- One shortfall of a fit report (R110): resource, image section, first index, needed, available. -/
structure FitEntry where
  resource : Nat
  section_ : Nat
  first : Nat
  needed : Nat
  available : Nat
  deriving DecidableEq, Repr

end Sys2Proof.Machine
end

