-- ==== Sys2Proof/Syntax.lean ====
section
/-! DEFINITION. The commands of the block, one constructor per row of spec/opcode_table.json, and the types of their operands. -/

namespace Sys2Proof.Machine

/-- Who holds a buffer (R511). -/
inductive Holder where
  | item (id : Nat)
  | account (a : Nat)
  deriving DecidableEq, Repr

/-- What the hardware meets while an engine works on an item; the outside decides it. -/
structure Fx where
  /-- The sector that commits the item, 0xFF for none. -/
  sector : Nat
  /-- The sector that holds the other staged copy and checks (R25, R141), 0xFF for none. -/
  shadow : Nat
  /-- A checksum or a pair of rounding units differed (R141, R143, R144). -/
  mismatch : Bool
  /-- An uncorrectable word was met in the source (R36). -/
  ue : Bool
  /-- Words of the source in which a single-bit error was corrected (R35). -/
  ce : Nat := 0
  deriving DecidableEq, Repr

/-- The body of a KEYLOAD (R524): slot, generation, action, the reserved byte, and the wrapped record whose length is
WRAP_LEN. -/
structure KeyBody where
  slot : Nat
  gen : Nat
  action : Nat
  reserved : Nat
  wrapped : List Byte
  deriving DecidableEq, Repr

/-- What an Expin request says beside its body (R584): SEQUENCE, the live generation that verified it (none: the bootstrap
key, R588), IN_TXN, IN_SNAP and TXN. A request that the pole has forwarded to this member carries 2^32 plus the pole's
request sequence as its `seq` (R635, R636). -/
structure Req where
  seq : Nat
  gen : Option Nat
  inTxn : Bool
  inSnap : Bool
  txn : Nat
  deriving DecidableEq, Repr

/-- A codebook generation record (R206); its PINS are counted from the items in flight and the cblocks delivered. -/
structure Book where
  gen : Nat
  rate : Nat
  live : Bool
  current : Bool
  acked : Bool
  fixed : Bool
  conflicted : Bool
  lim : Nat
  step : Nat
  lastUse : Nat
  levels : List Nat
  /-- It retires as soon as no item pins it (R325). -/
  doomed : Bool
  deriving DecidableEq, Repr

/-- A page of tier S or H (R479): its primary and secondary sector or stack. -/
structure Page where
  primary : Nat
  secondary : Option Nat
  /-- It is to have a secondary: a page of a mirrored region or of a shadowed staging region. -/
  mirrored : Bool
  deriving DecidableEq, Repr

/-- A stream context (R497). -/
structure Ctx where
  valid : Bool
  send : Bool
  segment : Bool
  plain : Bool
  decoded : Bool
  session : Nat
  cls : Nat
  keySlot : Nat
  owner : Nat
  inFmt : Nat
  outFmt : Nat
  winTop : BitVec 8
  expect : Nat
  circuit : Nat
  peerStream : Nat
  seg : Nat
  txNext : BitVec 32
  rxNext : BitVec 32
  route : Nat
  held : Bool
  lastStep : BitVec 64
  /-- The image declares the context with a reserved field that is not zero (R499). -/
  reserved : Bool
  deriving DecidableEq, Repr

/-- A member entry (R341). -/
structure Member where
  site : Nat
  role : Nat
  state : Nat
  flags : Nat
  device : Nat
  deriving DecidableEq, Repr

/-- A session the image declares (R270): replay areas in bytes (R289) as descriptors' sizes. -/
structure SessConf where
  replayA : Nat
  replayB : Nat
  deriving DecidableEq, Repr

/-- What the STRUCT section of the active image gives that no register shows (R662 and the sections of the image). -/
structure Conf where
  job : Nat
  site : Nat
  role : Nat
  /-- Bit i: site i belongs to the job (R236). -/
  sites : Nat
  sess : Tab SessConf
  /-- Journal reservations: tier, address, length (R366). -/
  journal : List (Nat × Nat × Nat)
  /-- Host bulk regions, as descriptors' 52 bits (R608, R611). -/
  bulk : List Nat
  /-- Incoming staging of each receiving stream: tier, address, length (R249). -/
  incoming : Tab (Nat × Nat × Nat)
  /-- SCI of each MACsec slot (R546). -/
  sci : Tab Nat
  /-- The parking area and its tier H address (R261). -/
  parkAddr : Nat
  /-- The image's reservations: tier, address, length, mirrored (R106, R479, R486, R492). -/
  regions : List (Nat × Nat × Nat × Bool)
  /-- Bytes the fit check counts in tiers S and H, mirrored buffers twice (R109). -/
  needS : Nat
  needH : Nat
  /-- Home staging of BULK data by stream, as a descriptor's 52 bits (R433). -/
  landing : Tab Nat
  /-- YIELD_RANK of each site (R374). -/
  ranks : Tab Nat
  deriving DecidableEq, Repr

/-- A circuit table entry (R427) and what the gateway keeps beside it. -/
structure Circuit where
  endpoint : Nat
  fibre : Nat
  lambda : Nat
  /-- 0 FREE, 1 SETUP, 2 UP, 3 MOVING, 4 RELEASING. -/
  state : Nat
  stream : Nat
  use : Nat
  remote : Nat
  /-- Wavelength claimed while SETUP waits for training (R448). -/
  claim : Option Nat
  setupAt : Nat
  /-- Bytes landed of the fill in progress (R433), or cblocks built of an encoded flow (R434). -/
  fill : Nat
  /-- Bytes of a bridged flow that do not fill a message or a cblock yet (R434). -/
  raw : List Byte
  deriving DecidableEq, Repr

/-- One OTUC8 frame of a port (R381, R385, R401, R403, R407): of the one received, the BIP-8 of SM and PM of slice #1 and the parity found
for each, the BEI received in them, the FEC symbols corrected and codewords lost, GCC0 to GCC2 of slice #1 and the 42 monitored bytes;
and what GCSn_RXD gave in its time, the bits of each serial port in order. -/
structure OtucFrame where
  bipSm : Nat
  bipPm : Nat
  foundSm : Nat
  foundPm : Nat
  beiSm : Nat
  beiPm : Nat
  fecCorr : Nat
  fecUncorr : Nat
  gcc : List Byte
  mon : List Byte
  rxd : Tab (List Bool)
  deriving DecidableEq, Repr

/-- What a port's deframer gives: bytes of the OPUC8 payload as they come, and the OTUC8 frames that end with them (R391). -/
structure GfpInput where
  bytes : List Byte
  frames : List OtucFrame
  deriving DecidableEq, Repr

/-- A packet of the on-package network (R33): its flow, that is source die, destination die and traffic class, and its number in the
flow. -/
structure NocPacket where
  src : Nat
  dst : Nat
  cls : Nat
  seq : Nat
  deriving DecidableEq, Repr

/-- A packet that comes over a network link, and whether it passes its CRC (R31). -/
structure NocArrival where
  packet : NocPacket
  crcOk : Bool
  deriving DecidableEq, Repr

/-- A constellation link that goes down, and how often it has re-sent a flit since it trained, or since the last such count (R629,
R632). -/
structure CstFall where
  link : Nat
  resends : Nat
  deriving DecidableEq, Repr

/-- What the sections of an image say where the spec gives them no byte layout (R662): the words that STRUCT,
SCHED, TIME, OPTCAL and POOLS load into registers, the configuration that no register shows, and the tables. -/
structure ImageBody where
  regs : List (Nat × Word)
  conf : Conf
  /-- Use of each key slot (R521). -/
  uses : Tab Nat
  ctx : Tab Ctx
  /-- Contents placed in the tiers, segment descriptors among them (R189): tier, address, bytes. -/
  mem : List (Nat × Nat × List Byte)
  circuits : Tab Circuit
  /-- Fixed codebooks, by codebook record (R208). -/
  books : Tab Book
  /-- MIN and MAX of account a in pool p, at key `16 * a + p` (R503). -/
  limits : Tab (Nat × Nat)
  pages : Tab Page
  mirrorDX : List (Nat × Nat × Nat)
  /-- Sector records: ENABLE of each sector (R665). -/
  sectors : Tab Bool
  /-- Sensor coefficients of the tiles (R471), at key `16 * (256 * tile + heater) + sensor`. -/
  sensorCoef : Tab Int
  /-- Positions of the alternate pole and of the reserve (R627), and the members' coordinates. -/
  alternate : Nat
  reserve : Option Nat
  map : Tab Nat
  deriving DecidableEq, Repr

/-- An image read from staged bytes: header fields (R658), the Almanac part (R664), the entries (sector, set) of BISTSIG and
its signatures at key `8 * set + sector` (R709), whether it carries OPTCAL (R663), and the rest of its sections. -/
structure Image where
  kind : Nat
  version : Nat
  digest : List Byte
  owner : Nat
  sector : Nat
  len : Nat
  rows : Tab Row256
  count : Nat
  entries : List (Nat × Nat)
  sigIds : List (Nat × Nat)
  sigs : Tab (Nat × Nat)
  /-- The entries of the COLLECTIVES section, 32 bytes each (R233). -/
  colls : List (List Byte)
  optcal : Bool
  body : ImageBody
  deriving DecidableEq, Repr

end Sys2Proof.Machine

namespace Sys2Proof

open Machine

/-- A command: an act of the host, of a peer or of the environment, or of one of the gateway's own engines and timers. Its
operands are what the command carries and what its surroundings decide; the docstring of its meaning says what each is. -/
inductive Instr where
  /-- ITEM_ISSUE: A track issues the row at its cursor once its wait set holds tokens and it has fewer than 32 items in
  flight, with round-robin arbitration among tracks (R66) -/
  | itemIssue
  /-- ITEM_START: An engine accepts an issued item that had been waiting, for example for a forecast, for staging depth or
  for a result-write gate, and the item moves from ISSUED to RUNNING (R81) -/
  | itemStart (e : Nat)
  /-- MOVE: A MOVE item copies SRC to DST or to a circuit and commits at its last byte written (R80) -/
  | move (id : Nat) (fx : Fx)
  /-- REDUCE: A REDUCE item adds its elements into the exact accumulators and, when it is the rounding item, rounds once
  after every contribution has arrived (R124) -/
  | reduce (id : Nat) (fx : Fx)
  /-- FIRSTPASS: A FIRSTPASS item builds the histogram, exponent window and next codebook generation, retiring the previous
  generation, then sends CODEBOOK (R221) -/
  | firstpass (id : Nat) (fx : Fx)
  /-- ENCODE: An ENCODE item encodes source elements into fixed-size cblocks and writes new residuals to scratch (R192) -/
  | encode (id : Nat) (fx : Fx)
  /-- ENCODE_RESIDUAL_COPY: After an ENCODE commits, the scratch residuals are copied over the RESID region (R199) -/
  | encodeResidualCopy (item : Nat)
  /-- DECODE: A DECODE item checks and decodes cblocks into values, supplies its checksum, or re-requests blocks on a length
  mismatch (R195) -/
  | decode (id : Nat) (fx : Fx)
  /-- PROJECT: A PROJECT item folds a FORWARD or BACKWARD piece into the accumulator on the array or on the PPE (R136) -/
  | project (id : Nat) (fx : Fx)
  /-- ORTHO: An ORTHO item orthogonalises P by two Cholesky rounds on the array (R138) -/
  | ortho (id : Nat) (fx : Fx)
  /-- SEAL: A SEAL item encrypts cblocks into sealed line blocks under the slot's current generation (R528) -/
  | seal (id : Nat) (fx : Fx) (busy : List (Nat × Nat × Nat × Nat))
  /-- OPEN: An OPEN item decrypts and verifies line blocks into staging and posts only when every tag passes (R543) -/
  | openItem (id : Nat) (fx : Fx) (busy : List (Nat × Nat × Nat × Nat))
  /-- SEND: A SEND item hands line blocks to its session and ends when the peer has acknowledged every block (R308) -/
  | send (id : Nat) (fx : Fx)
  /-- RECV: A RECV item ends when the last block of its chunk is held in order in DST (R308) -/
  | recv (id : Nat)
  /-- CIRCUIT_SETUP: A CIRCUIT SETUP item claims a wavelength, locks it and trains the link with the endpoint (R430) -/
  | circuitSetup (id : Nat)
  /-- CIRCUIT_CONFIRM: A CIRCUIT CONFIRM item ends DONE on an UP circuit and FAILED_LINK otherwise (R430) -/
  | circuitConfirm (id : Nat)
  /-- CIRCUIT_RELEASE: A CIRCUIT RELEASE item refuses new items on the circuit and waits for items in flight to end (R430) -/
  | circuitRelease (id : Nat)
  /-- JOURNAL: A JOURNAL item writes a mirrored, encrypted step journal record, or writes nothing for a committed step (R364) -/
  | journal (id : Nat) (fx : Fx)
  /-- FORECAST: A FORECAST item commits when the power and tile controllers have taken the announced level (R94) -/
  | forecast (id : Nat)
  /-- FORECAST_LOWER_EFFECT: A FORECAST that lowers the level takes effect 20 µs after its issue (R93) -/
  | forecastLowerEffect
  /-- TOKEN_WAIT_WATCHDOG: A track waiting on tokens beyond SEQ_WATCHDOG.LIMIT raises WATCHDOG (R74) -/
  | tokenWaitWatchdog (n : Nat)
  /-- ARM_STEP: SEQ_SWAP ARM_STEP runs the fit check on the shadow set and arms a swap at step w (R99) -/
  | armStep
  /-- ARM_IDLE: SEQ_SWAP ARM_IDLE runs the fit check on the shadow set and arms a swap for when all tracks are idle (R97) -/
  | armIdle
  /-- CANCEL: SEQ_SWAP CANCEL disarms an armed swap and releases parked tracks (R103) -/
  | cancel
  /-- SWAP_STEP: Once step w's Meridian is reached and every track is parked, the sets swap in one cycle (R101) -/
  | swapStep
  /-- SWAP_IDLE: Once every track is IDLE or HALTED with no item in flight, an ARM_IDLE swap takes place (R102) -/
  | swapIdle
  /-- TRACK_RESUME: SEQ_TKn_CTRL RESUME restarts a halted track at its cursor (R105) -/
  | trackResume (n : Nat)
  /-- TRACK_HALT: SEQ_TKn_CTRL HALT stops a track issuing and lets its items end (R105) -/
  | trackHalt (n : Nat)
  /-- TRACK_ABORT: SEQ_TKn_CTRL ABORT ends the track's uncommitted items and halts the track (R91) -/
  | trackAbort (n : Nat)
  /-- TOKEN_WRITE: A write to SEQ_TOKEN sets a counter, or is refused while any track runs (R112) -/
  | tokenWrite (q : Req) (i : Nat) (v : Word)
  /-- ACTIVE_WINDOW_WRITE: A write into the active Almanac window ends REFUSED_BUSY (R95) -/
  | activeWindowWrite (q : Req) (off : Nat) (v : Word)
  /-- SHADOW_WINDOW_WRITE: A write into the shadow set is accepted unless a swap is armed (R96) -/
  | shadowWindowWrite (q : Req) (off : Nat) (v : Word)
  /-- REDUCE_COUNT_WAIT: A rounding REDUCE waiting for its contribution count beyond the watchdog limit sets COUNT_WAIT
  (R125) -/
  | reduceCountWait (id : Nat)
  /-- REDUCE_REBUILD_DONE: After a REDUCE mismatch, the shadow-sector rebuild completes and is checked, and the chunk's items
  end (R146) -/
  | reduceRebuildDone (id : Nat) (sector : Nat) (again : Bool)
  /-- ARRAY_REDO_DONE: The redo of a mismatched array piece in another sector completes and its checksums are compared (R147) -/
  | arrayRedoDone (id : Nat) (sector : Nat) (again : Bool)
  /-- PPE_BAND_START: The PPE starts integrating a band once the whole band lies in staging (R158) -/
  | ppeBandStart (id : Nat) (fx : Fx)
  /-- PPE_BAND_FOLD: At a band's last integration the PPE checks the checksums, then folds, repeats the band or falls back to
  the array (R164) -/
  | ppeBandFold (id : Nat) (fx : Fx)
  /-- PPE_LOCK_LOST: A lock error beyond PPE_LOCK.TOL during an integration discards the band's partials (R171) -/
  | ppeLockLost
  /-- PPE_LOCK_RETURN: When every PPE lock is within limits again, the waiting band is integrated again (R171) -/
  | ppeLockReturn
  /-- PPE_LOCK_WAIT_EXPIRED: Lock not regained within PPE_LOCK.WAIT sends the waiting band to the array (R172) -/
  | ppeLockWaitExpired (fx : Fx)
  /-- PPE_CAL_QUICK: PPE_CAL QUICK starts a quick calibration between bands (R176) -/
  | ppeCalQuick
  /-- PPE_CAL_FULL: PPE_CAL FULL starts a 20 ms full calibration, or is refused while a PPE item is in flight (R177) -/
  | ppeCalFull
  /-- PPE_CAL_PERIOD: The PPE_CAL.PERIOD timer starts a quick calibration (R176) -/
  | ppeCalPeriod
  /-- PPE_TEMP_DELTA: A die temperature move beyond TEMP_DELTA starts a quick calibration (R176) -/
  | ppeTempDelta (temp : Nat)
  /-- PPE_CAL_DONE: A calibration ends, and the PPE enters FAILED if a part is outside its limits (R174) -/
  | ppeCalDone (dark : List (Nat × Nat)) (gain : List (Nat × Nat)) (xt : List (Nat × Nat)) (lanes : List Nat) (cols : List Nat)
  /-- PPE_CAL_TABLE_WRITE: A write to a PPE calibration table is refused while the PPE integrates, calibrates or waits for
  lock (R179) -/
  | ppeCalTableWrite (q : Req) (table : Nat) (i : Nat) (v : Word)
  /-- FIRSTPASS_PIN_WAIT: A FIRSTPASS waiting to retire a generation beyond the watchdog limit sets PIN_WAIT (R222) -/
  | firstpassPinWait (id : Nat)
  /-- CODEBOOK_INSTALL_DEFERRED: A received CODEBOOK waiting for the older generation's pins to reach zero retires that
  generation, installs the new one and acknowledges (R225) -/
  | codebookInstallDeferred (slot : Nat)
  /-- CODEBOOK_REPEAT: No codebook acknowledgement within 1.5 × RTT + 200 µs makes the sender repeat CODEBOOK (R295) -/
  | codebookRepeat (n : Nat) (slot : Nat) (gen : Nat)
  /-- SUBMIT: An Expin SUBMIT starts, holds or refuses an ad hoc collective instance (R251) -/
  | submit (q : Req) (body : List Byte)
  /-- ADHOC_ADMIT: The head of the hold queue is admitted when its claim is free and the claimed share is below 87.5 % (R256) -/
  | adhocAdmit
  /-- PARK_EXPIRED: Blocks parked for COL_PARK.HOLD without admission are discarded (R263) -/
  | parkExpired (low : Nat)
  /-- HELLO_RECEIVE: A received HELLO opens, resumes or resets a session, and is answered (R325) -/
  | helloReceive (port : Nat) (bs : List Byte)
  /-- DATA_RECEIVE: A received DATA block passes the checks and is accepted into staging, the parking area or the bridged
  ingress (R292) -/
  | dataReceive (port : Nat) (bs : List Byte)
  /-- ABANDONMENT_RECEIVE: A received abandonment moves the cumulative point or ends the named RECV, DECODE or OPEN,
  according to its reason (R304) -/
  | abandonmentReceive (port : Nat) (bs : List Byte)
  /-- ACK_RECEIVE: A received ACK frees acknowledged blocks, releases held streams and takes codebook acknowledgements (R293) -/
  | ackReceive (port : Nat) (bs : List Byte)
  /-- NAK_RECEIVE: A received NAK re-sends the named blocks or answers them with abandonments (R298) -/
  | nakReceive (port : Nat) (bs : List Byte)
  /-- PROBE_REQUEST_RECEIVE: A received PROBE request is answered on its arrival port with T2 and T3 stamps (R310) -/
  | probeRequestReceive (port : Nat) (bs : List Byte)
  /-- PROBE_REPLY_RECEIVE: A PROBE reply yields an RTT sample, may declare a delay step and advances route proving (R313) -/
  | probeReplyReceive (port : Nat) (bs : List Byte)
  /-- CODEBOOK_RECEIVE: A received CODEBOOK is installed, re-acknowledged, marked conflicted or rejected (R225) -/
  | codebookReceive (port : Nat) (bs : List Byte)
  /-- STEP_READY_RECEIVE: A received STEP_READY is merged into the step's ready set (R335) -/
  | stepReadyReceive (port : Nat) (bs : List Byte)
  /-- STEP_COMMIT_RECEIVE: A received STEP_COMMIT updates the peer's recorded Meridian (R339) -/
  | stepCommitReceive (port : Nat) (bs : List Byte)
  /-- EPOCH_RECEIVE: A received EPOCH message suspends or resumes the session according to its epoch (R354) -/
  | epochReceive (port : Nat) (bs : List Byte)
  /-- HORIZON_RECEIVE: A received HORIZON sets the common step M, promotes Meridians up to M and begins the correction (R372) -/
  | horizonReceive (port : Nat) (bs : List Byte)
  /-- RECONCILE_RECEIVE: A received RECONCILE advances reconciliation: the correction is checked and applied, or the
  reconciliation finishes (R379) -/
  | reconcileReceive (port : Nat) (bs : List Byte)
  /-- CORRECTION_SENT: After its last correction block leaves, the gateway sends RECONCILE 0x02 with count and digest (R376) -/
  | correctionSent (n : Nat)
  /-- ACK_SEND: An ACK is sent after 16 accepted blocks, or 20 µs after the first of them (R291) -/
  | ackSend (n : Nat)
  /-- GAP_NAK: A missing sequence overtaken for 8 µs on every up route draws a NAK (R296) -/
  | gapNak (n : Nat)
  /-- RESEND_TIMER: An unacknowledged block's timer fires and the block is re-sent, or at the 16th re-send its SEND ends
  FAILED_RESEND_LIMIT (R299) -/
  | resendTimer (n : Nat) (dseq : Nat)
  /-- PROBE_SEND: Every 10 µs a PROBE request goes on each enabled route of each session (R309) -/
  | probeSend
  /-- ROUTE_SILENCE: Silence or failed ports for PEER_TIMING.SILENCE take a route DOWN, and its queued blocks move to the
  other route (R315) -/
  | routeSilence (n : Nat) (r : Nat)
  /-- ROUTE_PROVE_TIMEOUT: A reply missing for 30 µs returns a PROVING route to DOWN (R315) -/
  | routeProveTimeout (n : Nat) (r : Nat)
  /-- ROUTE_DISABLE_WRITE: Writing PEER_SESSn_CTRL disables or re-enables a route for maintenance (R315) -/
  | routeDisableWrite (n : Nat) (v : Nat)
  /-- HELLO_SEND: Every 100 µs in OPENING or ECLIPSE a HELLO goes on each route (R327) -/
  | helloSend (n : Nat)
  /-- ECLIPSE_ENTRY: Silence for T_ECLIPSE puts a session in ECLIPSE, with the mode's handling of its items (R327) -/
  | eclipseEntry (n : Nat)
  /-- MERIDIAN: When the previous Meridian, the ready set and every COMMIT item are in place, the step's Meridian is reached
  (R338) -/
  | meridian
  /-- EPOCH_WAIT_EXPIRED: A session suspended for a newer epoch reaches the hold time, and its waiting items end
  FAILED_HOLD_EXPIRED (R354) -/
  | epochWaitExpired (n : Nat)
  /-- MEMBER_SUSPECT: Silence from a member for PEER_FAULT_CFG.SUSPECT marks it SUSPECT (R347) -/
  | memberSuspect (n : Nat)
  /-- DOWN_PROPOSAL: Silence for T_DOWN sends a DOWN proposal and starts the hold timer (R347) -/
  | downProposal (n : Nat)
  /-- MEMBER_HOLD_EXPIRED: The hold timer of a proposed or contested member expires, and the items waiting on it fail (R350) -/
  | memberHoldExpired (n : Nat)
  /-- EXACT_HOLD_EXPIRED: In exact mode a session out of OPEN for HOLD stops the job and halts every track (R369) -/
  | exactHoldExpired (n : Nat)
  /-- MEMBERSHIP_TABLE: A MEMBERSHIP table part delivers the member table, which commits a new epoch outside a transaction
  (R617) -/
  | membershipTable (q : Req) (epoch : Nat) (ms : List Member)
  /-- MEMBERSHIP_KEEP: A MEMBERSHIP KEEP verdict moves a proposed member to CONTESTED (R618) -/
  | membershipKeep (q : Req) (site : Nat) (role : Nat)
  /-- RAW_DEFECT_CHANGE: A raw line defect begins or ends on a port (R395) -/
  | rawDefectChange (p : Nat) (bit : Nat) (on : Bool)
  /-- DEFECT_FAST_SET: A raw defect present for FAST_SET sets the defect and may fail the port (R397) -/
  | defectFastSet (p : Nat) (bit : Nat)
  /-- DEFECT_FAST_CLEAR: A raw defect absent for FAST_CLEAR clears the defect and may restore the port (R397) -/
  | defectFastClear (p : Nat) (bit : Nat)
  /-- FAILURE_REPORT_SET: A defect present for REP_SET sets a reported failure (R398) -/
  | failureReportSet (p : Nat) (bit : Nat)
  /-- FAILURE_REPORT_CLEAR: A defect absent for REP_CLEAR clears the reported failure (R398) -/
  | failureReportClear (p : Nat) (bit : Nat)
  /-- MOD_ALERT_FALL: A falling MOD_ALERT_N makes the gateway read the module's latched flags and take LOS from the alert
  (R410) -/
  | modAlertFall (p : Nat) (los : Bool)
  /-- LOS_FLAG_POLL: While LOS is present, the module flags are read every 100 µs, and LOS ends at a clear read (R410) -/
  | losFlagPoll (p : Nat) (flag : Bool)
  /-- GFP_FRAME_RECEIVE: A received GFP frame is delineated, discarded or passed to the line block checks (R393) -/
  | gfpFrameReceive (p : Nat) (input : GfpInput)
  /-- CSF_SEND: Every 100 ms a CSF frame is sent on a port whose IOD supplies no blocks (R402) -/
  | csfSend (p : Nat)
  /-- MODULE_READ: LINE_MOD_CMD GO with WRITE clear reads one CMIS byte of a module (R411) -/
  | moduleRead (port : Nat) (page : Nat) (offset : Nat)
  /-- MODULE_WRITE: LINE_MOD_CMD GO with WRITE set writes one CMIS byte, or is refused on a page that the gateway controls
  (R411) -/
  | moduleWrite (port : Nat) (page : Nat) (offset : Nat) (data : Nat)
  /-- MODULE_ACCESS_DONE: A module access over I3C completes and RESULT is set (R411) -/
  | moduleAccessDone (answered : Bool) (data : Nat)
  /-- GCS_MAP_WRITE: A LINE_GCS_MAP write maps a GCC channel, or is refused if the channel is already mapped (R405) -/
  | gcsMapWrite (q : Req) (n : Nat) (v : Word)
  /-- GCS_MAP_APPLY: A mapping change takes effect at the next OTUC frame boundary (R405) -/
  | gcsMapApply (n : Nat)
  /-- FABRIC_REQUEST_RECEIVE: A remote-bound request is policed, checked, given a credit and bridged, or answered with RETRY
  or ERROR (R437) -/
  | fabricRequestReceive (wave : Nat) (flit : Nat) (old : Option (Nat × Nat)) (bs : List Byte)
  /-- FABRIC_REPLY_RECEIVE: A remote-bound reply from the fabric is accepted on VC1 and bridged to its stream (R435) -/
  | fabricReplyReceive (wave : Nat) (flit : Nat) (old : Option (Nat × Nat)) (bs : List Byte)
  /-- BULK_RECEIVE: BULK data on a circuit lands in the stream's home and shadow staging, or is encoded for bridging (R433) -/
  | bulkReceive (i : Nat) (bs : List Byte)
  /-- ESCAPE_TIMEOUT: Link credit withheld beyond FAB_VC_CFG.ESCAPE moves packets to VC3 (R424) -/
  | escapeTimeout (wave : Nat) (flit : Nat)
  /-- BRIDGE_FLUSH: A bridge message is closed FLUSH ns after its first packet (R436) -/
  | bridgeFlush (stream : Nat)
  /-- CIRCUIT_TRAINED: Link training completes and the SETUP item ends DONE with the circuit UP (R430) -/
  | circuitTrained (ix : Nat)
  /-- CIRCUIT_SETUP_TIMEOUT: No wavelength or training within SETUP_LIMIT ends the SETUP FAILED_LINK (R430) -/
  | circuitSetupTimeout (ix : Nat)
  /-- CIRCUIT_RELEASED: Once no item is in flight and the link layer is idle, RELEASE ends and the wavelength is freed (R430) -/
  | circuitReleased (ix : Nat)
  /-- CIRCUIT_TABLE_WRITE: A write into the circuit table window ends REFUSED_BUSY (R428) -/
  | circuitTableWrite (q : Req) (off : Nat) (v : Word)
  /-- LASER_FAILED: Two low monitor readings or a wrong identity fail a laser, and its slot and circuit move (R445) -/
  | laserFailed (t : Nat) (n : Nat)
  /-- SPARE_SWITCHED: A spare laser is tuned, locked and verified into a failed slot (R446) -/
  | spareSwitched (t : Nat) (j : Nat) (ok : Bool)
  /-- LOCK_LOOP_PERIOD: Each 20 µs dither period updates every ring's heater and detects lock faults and wrong locks (R453) -/
  | lockLoopPeriod (t : Nat) (temps : List Int) (rings : List (Nat × Int × Nat × Nat))
  /-- RING_RELOCKED: A wrong-locked ring finishes its sweep and relocks on the matching pilot (R459) -/
  | ringRelocked (ring : Nat)
  /-- RELOCK_TIMEOUT: A ring not relocked within OPT_LOCK.RELOCK fails its slot (R459) -/
  | relockTimeout (ring : Nat)
  /-- CIRCUIT_NO_LIGHT: No light on a circuit slot for 4 µs moves the circuit to its alternate (R460) -/
  | circuitNoLight (ix : Nat)
  /-- MOVE_FLIT_RECEIVE: A MOVE flit from the endpoint moves the circuit to its alternate (R460) -/
  | moveFlitReceive (ix : Nat)
  /-- CIRCUIT_MOVE_DONE: Training on the alternate completes, LAMBDA is written and the circuit is UP again (R462) -/
  | circuitMoveDone (ix : Nat) (w : Nat)
  /-- ALTERNATE_HOLD_EXPIRED: 100 µs after a change of alternate, the old alternate is released (R464) -/
  | alternateHoldExpired (k : Nat) (w : Nat)
  /-- OPT_CAL_FULL: OPT_CAL FULL measures the crosstalk matrices of the named tiles, or is refused if a slot is up (R469) -/
  | optCalFull (tiles : Nat)
  /-- OPT_CAL_DONE: A tile crosstalk calibration completes (R469) -/
  | optCalDone (t : Nat) (xt : List Word)
  /-- OPT_XT_WRITE: A write to OPT_Tt_XT is refused while any slot of the tile is up (R470) -/
  | optXtWrite (q : Req) (tile : Nat) (i : Nat) (v : Word)
  /-- APR_TRIP: No light on a fibre pair for OPT_APR.TRIP turns off its lasers (R474) -/
  | aprTrip (k : Nat)
  /-- APR_BURST: Every OPT_APR.PERIOD a fibre pair in power reduction lights its packet wavelength for a burst (R475) -/
  | aprBurst (k : Nat)
  /-- APR_CLEAR: Light received for 10 ms ends power reduction and relights and relocks the lasers (R475) -/
  | aprClear (k : Nat)
  /-- LASER_EN_CHANGE: A change of LASER_ENt_N darkens the tile and frees its circuits, or lets its fibre pairs return (R751) -/
  | laserEnChange (t : Nat) (high : Bool)
  /-- SECTOR_FAULT: A sector leaves the healthy set; the array shrinks and its work and pages move (R23) -/
  | sectorFault (n : Nat) (moved : List Nat)
  /-- PAGE_REMAP: Within 20 µs the pages of a lost sector are remapped to secondaries or to zeroed pages (R481) -/
  | pageRemap
  /-- REMIRROR_DONE: Re-mirroring of pages that lost a copy completes (R482) -/
  | remirrorDone
  /-- SCRUB_PASS: The periodic scrub reads and corrects words, rewriting or poisoning uncorrectable ones (R495) -/
  | scrubPass (fixed : List Nat) (bad : List (Nat × Nat))
  /-- CXL_LINK_DOWN: A CXL device's link goes down, and its mirrored ranges are served from the partner (R493) -/
  | cxlLinkDown (d : Nat)
  /-- CONTEXT_FETCH: A stream context cache miss is fetched from tier H and the item proceeds (R500) -/
  | contextFetch (stream : Nat)
  /-- CONTEXT_WINDOW_WRITE: A write to the stream context window ends REFUSED_BUSY (R501) -/
  | contextWindowWrite (q : Req) (off : Nat) (v : Word)
  /-- BUFFER_GRANT: The queued need at the head of the queue is granted when its pools allow it (R510) -/
  | bufferGrant
  /-- BUFFER_HANDOFF: A holder hands a buffer to a named new holder (R511) -/
  | bufferHandoff (pool : Nat) (index : Nat) (old : Holder) (new : Holder)
  /-- BUFFER_FREE: A buffer is freed by its last holder, or the free is refused and counted (R512) -/
  | bufferFree (pool : Nat) (index : Nat) (by_ : Holder)
  /-- NOC_PACKET_RECEIVE: A network packet passes its CRC and is acknowledged, or is negatively acknowledged and re-sent
  (R31) -/
  | nocPacketReceive (l : Nat) (arr : NocArrival)
  /-- NOC_LINK_FAILED: Five consecutive CRC failures fail a network link and move its flows to the disjoint path (R32) -/
  | nocLinkFailed (l : Nat) (pk : NocPacket)
  /-- KEY_LOAD: KEYLOAD load unwraps and installs a key generation, which becomes current at its commit (R526) -/
  | keyLoad (q : Req) (slot : Nat) (gen : Nat) (reserved : Nat) (wrapped : List Byte)
  /-- KEY_ERASE_GRACEFUL: KEYLOAD graceful erase makes a generation unusable for new items (R536) -/
  | keyEraseGraceful (q : Req) (slot : Nat) (gen : Nat) (reserved : Nat) (wrapped : List Byte)
  /-- KEY_ERASE_IMMEDIATE: KEYLOAD immediate erase zeroes a generation and ends its uncommitted items FAILED_KEY_ERASED
  (R537) -/
  | keyEraseImmediate (q : Req) (slot : Nat) (gen : Nat) (reserved : Nat) (wrapped : List Byte)
  /-- KEY_ERASE_COMPLETE: Once its pins reach zero, a gracefully erased generation is overwritten with zero (R536) -/
  | keyEraseComplete (slot : Nat) (gen : Nat)
  /-- KEY_RETIRE: A non-current generation retires once its pins and drain conditions are met (R531) -/
  | keyRetire (slot : Nat) (gen : Nat)
  /-- SUSPENDED_RESUME: When an urgent message ends, the suspended message resumes on its pipeline (R540) -/
  | suspendedResume (pipeline : Nat)
  /-- MACSEC_FRAME_RECEIVE: A host-port frame is checked under MACsec and discarded or passed (R547) -/
  | macsecFrameReceive (fr : List Byte) (fw : Bool × Nat)
  /-- GCS_ENCRYPT_WRITE: A change of CIPH_GCS.ENCRYPT restarts the GCS channel under CFB (R517) -/
  | gcsEncryptWrite (v : Nat)
  /-- PORT_SERVE: When a port can take a block, the scheduler picks C0, C1 or the smallest finish tag and hands the block to
  a port (R550) -/
  | portServe (p : Nat)
  /-- HOST_FRAME_RECEIVE: A frame on the host port is policed and dispatched to ARP, ICMP, PTP or Expin, or discarded (R581) -/
  | hostFrameReceive (fr : List Byte) (fw : Bool × Nat)
  /-- PTP_MESSAGE_RECEIVE: A PTP message received by the host-port slave updates its time base and may relay it (R569) -/
  | ptpMessageReceive (fr : List Byte)
  /-- TIME_SOURCE_LOST: The loss of a base's source sends it to HOLDOVER or switches TB0 to TB1 (R567) -/
  | timeSourceLost (n : Nat)
  /-- HOLDOVER_EXPIRED: HOLDOVER_MAX in holdover returns a time base to FREE (R567) -/
  | holdoverExpired (n : Nat)
  /-- TB0_REVERT: TB0's own source valid for REVERT seconds returns TB0 to it (R568) -/
  | tb0Revert
  /-- TIME_REPORT_SEND: Every 1 ms a time report is sent on each up route of the time session (R573) -/
  | timeReportSend
  /-- TIME_REPORT_RECEIVE: A received time report updates the route's θ and asymmetry samples (R573) -/
  | timeReportReceive (port : Nat) (bs : List Byte)
  /-- TRANSFER_HOLDOVER_EXPIRED: A time-transfer route in HOLDOVER for HOLDOVER_MAX clears A and becomes FREE (R574) -/
  | transferHoldoverExpired (r : Nat)
  /-- TC_RELAY_RECEIVE: A relayed PTP frame gets its residence added and is sent out of the host port, or is discarded (R577) -/
  | tcRelayReceive (port : Nat) (bs : List Byte)
  /-- PPS_IN_EDGE: A rising PPS_IN edge is stamped, and it marks a second or is rejected (R579) -/
  | ppsInEdge
  /-- PPS_OUT_PULSE: PPS_OUT rises at each whole second of the selected base (R580) -/
  | ppsOutPulse
  /-- ASYM_WRITE: Writing TIME_Rr_ASYM with VALID stores A and locks the route (R574) -/
  | asymWrite (r : Nat) (w : Word)
  /-- TB_SEC_READ: A read of TIME_TBn_SEC latches the whole time value (R565) -/
  | tbSecRead (n : Nat)
  /-- READ: An Expin READ returns runs of registers or table words (R595) -/
  | read (q : Req) (body : List Byte)
  /-- WRITE: An Expin WRITE applies runs of words as one transaction, or holds them in a named transaction (R598) -/
  | write (q : Req) (body : List Byte)
  /-- TXN_BEGIN: TXN_BEGIN opens a transaction (R599) -/
  | txnBegin (q : Req)
  /-- TXN_COMMIT: TXN_COMMIT applies every held write, key operation and table part in one view generation, or none (R602) -/
  | txnCommit (q : Req) (body : List Byte)
  /-- SNAPSHOT_OPEN: SNAPSHOT ACTION 0x01 opens a snapshot at the current view (R605) -/
  | snapshotOpen (q : Req)
  /-- SNAPSHOT_CLOSE: SNAPSHOT ACTION 0x02 closes the named snapshot (R605) -/
  | snapshotClose (q : Req)
  /-- TXN_EXPIRED: A transaction idle for TXN_IDLE is discarded (R604) -/
  | txnExpired (id : Nat)
  /-- SNAPSHOT_EXPIRED: A snapshot open for SNAP_LIFE is closed (R607) -/
  | snapshotExpired (memberFull : Bool)
  /-- HOST_ADDRESS_APPLY: A written host address or configuration takes effect after the response has been sent (R583) -/
  | hostAddressApply
  /-- LOAD_STRUCTURE_IMAGE: LOAD_STREAM of target 0x01 stages part of a structure image (R609) -/
  | loadStructureImage (q : Req) (body : List Byte)
  /-- LOAD_SECTOR_PATCH: LOAD_STREAM of target 0x02 stages part of a sector patch (R609) -/
  | loadSectorPatch (q : Req) (body : List Byte)
  /-- LOAD_FIRMWARE_COPY: LOAD_STREAM of target 0x03 stages and writes the firmware copy that no processor runs (R686) -/
  | loadFirmwareCopy (q : Req) (body : List Byte) (sigOk : Bool) (version : Nat)
  /-- HOST_BULK_WRITE: LOAD_STREAM of target 0x04 without READ writes host bulk data (R611) -/
  | hostBulkWrite (q : Req) (body : List Byte)
  /-- HOST_BULK_READ: LOAD_STREAM of target 0x04 with READ returns host bulk data (R611) -/
  | hostBulkRead (q : Req) (body : List Byte)
  /-- LOAD_VERIFY: A complete load is checked in order and is activated, staged, written to the shadow set, applied as a
  patch or refused (R669) -/
  | loadVerify (sigOk : Bool) (body : ImageBody) (cxl : List Nat) (rejected : Bool) (others : List (Nat × Status × List FitEntry)) (part : Option Image)
  /-- ABORT_ITEM: ABORT ITEM ends the named item FAILED_ABORTED, or ends ABORT_TOO_LATE (R86) -/
  | abortItem (q : Req) (value : Nat)
  /-- ABORT_TRACK: ABORT TRACK aborts every uncommitted item of a track and halts it (R91) -/
  | abortTrack (q : Req) (value : Nat)
  /-- ABORT_COLLECTIVE: ABORT COLLECTIVE aborts an ad hoc instance or removes its held SUBMIT (R614) -/
  | abortCollective (q : Req) (value : Nat)
  /-- ABORT_TRANSACTION: ABORT TRANSACTION discards an open transaction (R614) -/
  | abortTransaction (q : Req) (value : Nat)
  /-- ABORT_LOAD: ABORT LOAD discards the staged data of a load not yet in verification (R614) -/
  | abortLoad (q : Req) (value : Nat)
  /-- EVENT_ACK: The host's EVENT acknowledgement completes service of the message's assertions (R625) -/
  | eventAck (q : Req) (channel : Nat) (seq : Nat)
  /-- EVENT_ASSERT: A source asserts and the assertion goes to its next enabled target in service (R621) -/
  | eventAssert (src : Nat)
  /-- EVENT_DELIVER: A target delivers its gathered assertions when COUNT or TIME is reached (R622) -/
  | eventDeliver (t : Nat) (origin : Nat)
  /-- EVENT_RESEND: An unacknowledged EVENT message is re-sent every RETRY (R626) -/
  | eventResend (c : Nat)
  /-- MP_EVENT_HANDLED: Management firmware reports an assertion handled, and the source is sampled again (R623) -/
  | mpEventHandled (t : Nat) (src : Nat)
  /-- PIN_CHANGE: A pin source holds a new level for FILTER cycles and is taken as changed (R620) -/
  | pinChange (i : Nat) (high : Bool)
  /-- CST_LINK_TRAINED: A constellation link trains and is checked against the wiring (R629) -/
  | cstLinkTrained (k : Nat) (cid : Nat) (pos : Nat) (link : Nat)
  /-- CST_LINK_DOWN: A constellation link goes down and link-state records are sent (R632) -/
  | cstLinkDown (fall : CstFall)
  /-- LINK_STATE_RECEIVE: A received link-state record updates routing (R632) -/
  | linkStateReceive (k : Nat) (m : Nat) (ns : List Nat)
  /-- ROUTES_INSTALLED: New shortest-path routes are installed, and the pole re-queries lost forwarded requests (R632) -/
  | routesInstalled
  /-- FORWARDED_REQUEST_RECEIVE: A member carries out a request forwarded by the pole and holds its result (R635) -/
  | forwardedRequestReceive (id : Nat) (type : Nat) (flags : Nat) (txn : Nat) (body : List Byte) (again : Bool) (fw : Bool × Nat)
  /-- FORWARD_RESPONSE_RECEIVE: The pole receives a member's result and answers the host (R636) -/
  | forwardResponseReceive (id : Nat) (pl : List Byte)
  /-- CST_PREPARE_RECEIVE: A member checks its held parts on the pole's prepare (R638) -/
  | cstPrepareReceive (txn : Nat) (check : Bool)
  /-- CST_PREPARE_REPLY_RECEIVE: The pole collects prepare replies and applies or refuses the commit (R638) -/
  | cstPrepareReplyReceive (txn : Nat) (pos : Nat) (code : Nat)
  /-- CST_APPLY_RECEIVE: A member applies its parts in view v and acknowledges (R638) -/
  | cstApplyReceive (txn : Nat) (v : Nat) (discard : Bool)
  /-- CST_APPLY_ACK_RECEIVE: The pole ends the commit once every member has acknowledged the apply (R638) -/
  | cstApplyAckReceive (txn : Nat) (pos : Nat) (held : Bool)
  /-- CONSTELLATION_MERIDIAN: Once every member with a COMMIT row has reached step s, the pole advances the view (R639) -/
  | constellationMeridian (step : Nat)
  /-- CST_EVENT_RECORD_RECEIVE: The pole receives a member's event records and delivers them on its channels (R642) -/
  | cstEventRecordReceive (pos : Nat) (bs : List Byte)
  /-- CST_TOKEN_POST_RECEIVE: An owner receives a constellation token post and applies or discards it (R647) -/
  | cstTokenPostReceive (i : Nat) (swaps : Nat)
  /-- CST_MERIDIAN_REPORT_RECEIVE: The pole receives a member's Meridian report and reaches the bound Meridian once all have
  reported (R648) -/
  | cstMeridianReportReceive (step : Nat) (pos : Nat)
  /-- CST_MERIDIAN_RECEIVE: A bound member receives the Meridian and ends its COMMIT items (R648) -/
  | cstMeridianReceive (step : Nat) (view : Nat)
  /-- CST_MEMBER_LOST: A bound member resets or loses the pole, and the other members fail their open steps and halt (R650) -/
  | cstMemberLost (pos : Nat)
  /-- POLE_LOST: No route to the pole for 10 ms sets POLE_LOST (R656) -/
  | poleLost
  /-- PROMOTE: CST_CTRL PROMOTE makes the alternate pole the pole (R656) -/
  | promote (highest : Nat)
  /-- ACTIVATE: IMG_CTRL ACTIVATE puts tracks, PPE and tiles into Twilight for activation of the staged image (R672) -/
  | activate
  /-- DISCARD: IMG_CTRL DISCARD drops the staged image (R671) -/
  | discard
  /-- IMAGE_ACTIVATION: When every item has ended, the staged image is activated in one cycle (R672) -/
  | imageActivation (cxl : List Nat) (rejected : Bool)
  /-- DISABLE: IMG_TWILIGHT DISABLE starts Twilight of a unit with a deadline (R677) -/
  | disable (u : Nat) (d : Nat)
  /-- ENABLE: IMG_TWILIGHT ENABLE restarts a dark unit (R679) -/
  | enable (u : Nat)
  /-- TWILIGHT_DEADLINE: A draining unit reaches its deadline and its remaining work is treated as the unit's kind requires
  (R679) -/
  | twilightDeadline (u : Nat) (moved : List Nat)
  /-- UNIT_DARK: A draining unit with no item in flight becomes DARK (R677) -/
  | unitDark (u : Nat)
  /-- RESTART: IMG_FW_CTRL RESTART restarts the management processors one at a time on the preferred copy (R687) -/
  | restart
  /-- MP_DRAIN_LIMIT: Work still in flight at DRAIN ends FAILED_DISABLED and the processor restarts (R687) -/
  | mpDrainLimit (left : List Nat)
  /-- MP_READY: A restarted processor reports ready and the next one starts (R687) -/
  | mpReady (m : Nat)
  /-- MP_READY_TIMEOUT: No ready report within 1 s returns the processor to its previous copy and stops the sequence (R688) -/
  | mpReadyTimeout
  /-- PORST_N_ASSERT: PORST_N held low for 1 µs resets the whole gateway (R741) -/
  | porstNAssert
  /-- PORST_N_RELEASE: The release of PORST_N starts the boot at stage 1 (R690) -/
  | porstNRelease (sel : Nat) (ready : Bool)
  /-- SYSRST_N: SYSRST_N held low for 1 µs performs a warm reset and restarts the boot at stage 2 (R741) -/
  | sysrstN
  /-- RAILS_READY: Rails in regulation and root PLL locked release the self-held reset (R733) -/
  | railsReady
  /-- BOOT_STAGE_END: A boot stage ends and the next stage, recovery mode or a wait for LOAD_STREAM begins (R690) -/
  | bootStageEnd (ok : Bool) (other : Bool) (ddr : List Nat)
  /-- CLAIM: The owner command CLAIM installs the first owner key, K0 and the bootstrap key (R704) -/
  | claim
  /-- ADD_KEY: The owner command ADD_KEY installs an owner key in an empty slot (R704) -/
  | addKey (sigOk : Bool)
  /-- REVOKE_KEY: The owner command REVOKE_KEY marks an owner slot revoked (R704) -/
  | revokeKey (sigOk : Bool)
  /-- RELEASE: The owner command RELEASE erases the owner state and returns the gateway to UNCLAIMED (R704) -/
  | release (sigOk : Bool)
  /-- QUOTE: SEC_CTRL QUOTE starts an attestation quote over SEC_NONCE (R700) -/
  | quote
  /-- QUOTE_DONE: The quote is signed and placed in SEC_QUOTE (R700) -/
  | quoteDone (sig : List Byte)
  /-- RAISE: SEC_CTRL RAISE lifts the anti-rollback counter to the active image's version (R707) -/
  | raise
  /-- PERSIST: SEC_CTRL PERSIST starts copying the staged image into the flash boot area (R694) -/
  | persist
  /-- PERSIST_DONE: The copy into the boot area completes and its length is recorded (R694) -/
  | persistDone
  /-- ID_TREE_BUILT: The next level-1 identity tree finishes building in the background (R698) -/
  | idTreeBuilt
  /-- BIST_START: A sector's BIST starts once the staggering and input-voltage conditions allow it (R711) -/
  | bistStart (n : Nat)
  /-- BIST_END: A sector's BIST ends in a pass, or in FAILED_CHECKSUM, which makes the sector unusable (R710) -/
  | bistEnd (n : Nat) (misr : Word) (boot : Word) (sramFail : Bool) (hbmFail : Bool)
  /-- BIST_PERIOD: Every BIST_CFG.PERIOD an in-service test cycle over the healthy sectors starts (R714) -/
  | bistPeriod
  /-- RUN_NOW: BIST_CTRL RUN_NOW starts an in-service cycle at once (R714) -/
  | runNow
  /-- UNRETIRE: BIST_CTRL UNRETIRE runs the extended set on a retired sector and clears its retirement on a pass (R722) -/
  | unretire (n : Nat)
  /-- VIN_CHANGE: The input voltage crosses a band of the monitoring table (R727) -/
  | vinChange (mv : Nat)
  /-- POWER_OFF: Input out of range for 20 µs turns the gateway off and records the cause (R727) -/
  | powerOff
  /-- CURRENT_SAMPLE: The 1 µs current sample imposes the array cap when the current, cooling or input requires it (R730) -/
  | currentSample (ma : Nat)
  /-- CAP_LIFT: Current 1 A below AMPS for 100 µs, with cooling and input good, lifts the cap (R730) -/
  | capLift
  /-- THERMAL_REPORT: A die's 10 µs temperature report is compared with WARN, THROTTLE and TRIP (R746) -/
  | thermalReport (d : Nat) (temp : Nat)
  /-- REFCLK_LOST: No REFCLK edge for 100 ns puts the root PLL in hold (R736) -/
  | refclkLost
  /-- REFCLK_FREE_RUN: After 1 ms of hold the root PLL runs free (R736) -/
  | refclkFreeRun
  /-- REFCLK_RETURN: REFCLK edges for 10 µs start the relock of the PLLs (R738) -/
  | refclkReturn
  /-- PLL_UNLOCK: A PLL loses lock with REFCLK present and starts to relock (R738) -/
  | pllUnlock (p : Nat)
  /-- PLL_RELOCKED: The root and PHY PLLs relock without a reset (R738) -/
  | pllRelocked
  /-- SOFT_RESET: PWR_CTRL SOFT_RESET performs a SYSRST_N after the response is sent (R744) -/
  | softReset
  /-- TTI_RX_ACCEPT: A received SM TTI that has been the same in three consecutive multiframes is stored in LINE_Pp_TTI_RX
  and sets LINE_EVENTS.TTI_CHANGE (R387) -/
  | ttiRxAccept (p : Nat) (tti : List Byte)
  /-- HOST_LINK_CHANGE: The host port PCS gains or loses alignment, changing HOST_STATUS.LINK_UP and setting HOST_EVENTS.LINK
  (R581) -/
  | hostLinkChange (up : Bool) (lanes : Nat)
  /-- FABRIC_DELIVERY: The local fabric takes a bridged request or reply from the gateway, which completes delivery, and for
  a reply or ERROR returns the request credit (R437) -/
  | fabricDelivery (wave : Nat) (flit : Nat)
  deriving DecidableEq, Repr

end Sys2Proof
end

