-- ==== Sys2Proof/Machine/Numeric.lean ====
section
/-! DEFINITION. The number formats of R113, exact dyadic values, the roundings of R124, R132 and R196, and the
accumulator entry of R117. Every value is converted to an exact dyadic, computed exactly, and rounded once. -/

namespace Sys2Proof.Machine

/-- An exact dyadic rational `m * 2 ^ e`. -/
structure Dy where
  m : Int
  e : Int
  deriving DecidableEq, Repr

/-- A value of a number format: a finite dyadic, with its sign kept for a zero, an infinity, or NaN. -/
inductive Val where
  | fin (neg : Bool) (v : Dy)
  | inf (neg : Bool)
  | nan
  deriving DecidableEq, Repr

/-- A binary format: `p` significand bits with the hidden one, `emin` the exponent of the lowest subnormal bit, `ew`
exponent bits, and how its all-ones exponent reads. -/
structure Fmt where
  p : Nat
  emin : Int
  ew : Nat
  ieee : Bool      -- all-ones exponent holds infinities and NaNs
  nanTop : Bool    -- only the all-ones code is NaN (E4M3)
  deriving DecidableEq, Repr

def Fmt.fp32 : Fmt := ⟨24, -149, 8, true, false⟩
def Fmt.bf16 : Fmt := ⟨8, -133, 8, true, false⟩
def Fmt.fp16 : Fmt := ⟨11, -24, 5, true, false⟩
def Fmt.e4m3 : Fmt := ⟨4, -9, 4, false, true⟩
def Fmt.e5m2 : Fmt := ⟨3, -16, 5, true, false⟩
def Fmt.e3m2 : Fmt := ⟨3, -4, 3, false, false⟩
def Fmt.e2m3 : Fmt := ⟨4, -3, 2, false, false⟩
def Fmt.e2m1 : Fmt := ⟨2, -1, 2, false, false⟩
/-- IEEE binary64, the node format of R132 when an operand is FP32. -/
def Fmt.fp64 : Fmt := ⟨53, -1074, 11, true, false⟩

/-- The element format of a format code (R113). -/
def fmtOf : Nat → Option Fmt
  | 0x0 => some .fp32 | 0x1 => some .bf16 | 0x2 => some .fp16 | 0x3 => some .e4m3 | 0x4 => some .e5m2
  | 0x5 => some .e4m3 | 0x6 => some .e5m2 | 0x7 => some .e3m2 | 0x8 => some .e2m3 | 0x9 => some .e2m1
  | _ => none

/-- Whether a format code is an MX block format (R113). -/
def fmtIsMx (c : Nat) : Bool := 0x5 ≤ c && c ≤ 0x9

/-- Bits of one element of a format code. -/
def fmtBits : Nat → Nat
  | 0x0 => 32 | 0x1 => 16 | 0x2 => 16 | 0x3 => 8 | 0x4 => 8 | 0x5 => 8 | 0x6 => 8 | 0x7 => 6 | 0x8 => 6
  | 0x9 => 4 | _ => 0

/-- Total width of a binary format. -/
def Fmt.bits (f : Fmt) : Nat := f.p + f.ew

/-- The value of a code of a binary format. -/
def Fmt.decode (f : Fmt) (c : Nat) : Val :=
  let fr := c % 2 ^ (f.p - 1)
  let ex := c / 2 ^ (f.p - 1) % 2 ^ f.ew
  let neg := c / 2 ^ (f.p - 1 + f.ew) % 2 = 1
  if f.ieee ∧ ex = 2 ^ f.ew - 1 then (if fr = 0 then .inf neg else .nan)
  else if f.nanTop ∧ ex = 2 ^ f.ew - 1 ∧ fr = 2 ^ (f.p - 1) - 1 then .nan
  else
    let mag : Int := if ex = 0 then fr else (2 ^ (f.p - 1) + fr : Nat)
    let e : Int := if ex = 0 then f.emin else f.emin + ex - 1
    .fin neg ⟨if neg then -mag else mag, e⟩

/-- The canonical NaN of a format (R124). -/
def Fmt.nanCode (f : Fmt) : Nat :=
  if f.nanTop then 2 ^ (f.p - 1 + f.ew) - 1
  else (2 ^ f.ew - 1) * 2 ^ (f.p - 1) + 2 ^ (f.p - 2)

/-- The code of the largest magnitude or of infinity that an overflow takes (R124): the infinity, or 448 in E4M3. -/
def Fmt.overCode (f : Fmt) : Nat :=
  if f.nanTop then 2 ^ (f.p - 1 + f.ew) - 2 else (2 ^ f.ew - 1) * 2 ^ (f.p - 1)

/-- `n / 2 ^ k` rounded to the nearest integer, ties to even. -/
def shiftRound (n k : Nat) : Nat :=
  let q := n >>> k
  let r := n - (q <<< k)
  if k = 0 then n
  else
    let h := 2 ^ (k - 1)
    if r < h then q else if r > h then q + 1 else if q % 2 = 0 then q else q + 1

/-- The magnitude code (without sign) of `m * 2 ^ e` in a format, rounded once to nearest even; an overflow gives
`overCode`. -/
def Fmt.encodeMag (f : Fmt) (m : Nat) (e : Int) : Nat :=
  if m = 0 then 0
  else
    let top : Int := Nat.log2 m + e
    let lsb : Int := max f.emin (top - (f.p - 1 : Nat))
    let n : Nat := if e ≥ lsb then m <<< (e - lsb).toNat else shiftRound m (lsb - e).toNat
    let c : Nat := (lsb - f.emin).toNat * 2 ^ (f.p - 1) + n
    if c > f.overCode then f.overCode else c

def Fmt.signBit (f : Fmt) : Nat := 2 ^ (f.p - 1 + f.ew)

/-- The code of an exact value rounded once to nearest even; a zero takes the sign given. -/
def Fmt.encode (f : Fmt) (negZero : Bool) (v : Dy) : Nat :=
  let neg := if v.m = 0 then negZero else decide (v.m < 0)
  (if neg then f.signBit else 0) + f.encodeMag v.m.natAbs v.e

/-- The code of any value. -/
def Fmt.encodeVal (f : Fmt) : Val → Nat
  | .fin neg v => f.encode neg v
  | .inf neg => (if neg then f.signBit else 0) + f.overCode
  | .nan => f.nanCode

def Dy.zero : Dy := ⟨0, 0⟩

/-- The sum of two dyadics, exact. -/
def Dy.add (a b : Dy) : Dy :=
  if a.e ≤ b.e then ⟨a.m + b.m * 2 ^ (b.e - a.e).toNat, a.e⟩
  else ⟨a.m * 2 ^ (a.e - b.e).toNat + b.m, b.e⟩

def Dy.neg (a : Dy) : Dy := ⟨-a.m, a.e⟩
def Dy.abs (a : Dy) : Dy := ⟨a.m.natAbs, a.e⟩
def Dy.sub (a b : Dy) : Dy := a.add b.neg
/-- The product of two dyadics, exact. -/
def Dy.mul (a b : Dy) : Dy := ⟨a.m * b.m, a.e + b.e⟩
/-- `a < b`, exactly. -/
def Dy.lt (a b : Dy) : Bool := (a.sub b).m < 0
/-- `a` scaled by `2 ^ k`. -/
def Dy.scale (a : Dy) (k : Int) : Dy := ⟨a.m, a.e + k⟩
/-- The unbiased exponent of a non-zero dyadic. -/
def Dy.expo (a : Dy) : Int := Nat.log2 a.m.natAbs + a.e

/-- Addition of values with infinities and NaN, exact on finite values. -/
def Val.add : Val → Val → Val
  | .nan, _ => .nan
  | _, .nan => .nan
  | .inf a, .inf b => if a = b then .inf a else .nan
  | .inf a, _ => .inf a
  | _, .inf b => .inf b
  | .fin na a, .fin nb b => .fin (na && nb) (a.add b)

def Val.neg : Val → Val
  | .nan => .nan
  | .inf a => .inf (!a)
  | .fin n a => .fin (!n) a.neg

/-- Multiplication of values, exact on finite values. -/
def Val.mul : Val → Val → Val
  | .nan, _ => .nan
  | _, .nan => .nan
  | .inf a, .inf b => .inf (a != b)
  | .inf a, .fin nb b => if b.m = 0 then .nan else .inf (a != nb)
  | .fin na a, .inf b => if a.m = 0 then .nan else .inf (na != b)
  | .fin na a, .fin nb b => .fin (na != nb) (a.mul b)

/-- A value rounded once into a format and read back. -/
def Val.round (f : Fmt) (v : Val) : Val := f.decode (f.encodeVal v)

def Val.finite : Val → Bool
  | .fin _ _ => true
  | _ => false

/-- Scaling by a power of two, exact (the scale of an MX block, R115). -/
def Val.scale (k : Int) : Val → Val
  | .fin n a => .fin n (a.scale k)
  | v => v

/-! ### Bytes -/

/-- The number a byte string spells least significant byte first (R12). -/
def leNat : List Byte → Nat
  | [] => 0
  | b :: bs => b.toNat + 256 * leNat bs

/-- The number a byte string spells most significant byte first (R11). -/
def beNat (bs : List Byte) : Nat := bs.foldl (fun n b => n * 256 + b.toNat) 0

/-- The `n` low bytes of a number, least significant first (R12). -/
def leBytes : Nat → Nat → List Byte
  | 0, _ => []
  | n + 1, v => BitVec.ofNat 8 v :: leBytes n (v / 256)

/-- The `n` low bytes of a number, most significant first (R11). -/
def beBytes (n v : Nat) : List Byte := (leBytes n v).reverse

/-- A list cut into `cnt` pieces of `k`. -/
def chunks {α : Type} (k : Nat) : Nat → List α → List (List α)
  | 0, _ => []
  | c + 1, xs => xs.take k :: chunks k c (xs.drop k)

/-- `cnt` elements of `w` bits taken from the low end of a number upward. -/
def bitFields (w : Nat) : Nat → Nat → List Nat
  | 0, _ => []
  | c + 1, n => n % 2 ^ w :: bitFields w c (n / 2 ^ w)

/-- The bytes of one MX block of 32 elements as it lies in a REDUCE source: the scale byte, then the packed elements.
DESIGN CHOICE (log entry 8): the spec does not place the scale of a lane input. -/
def mxBlockBytes (c : Nat) : Nat := 1 + 32 * fmtBits c / 8

/-- The 32 values of an MX block with scale byte `x` (R115). -/
def mxVals (f : Fmt) (x : Nat) (codes : List Nat) : List Val :=
  codes.map fun c => if x = 0xFF then .nan else (f.decode c).scale ((x : Int) - 127)

/-- The elements a byte string holds in a format (R113). -/
def decodeElems (c : Nat) (bs : List Byte) : List Val :=
  match fmtOf c with
  | none => []
  | some f =>
    if fmtIsMx c then
      (chunks (mxBlockBytes c) (bs.length / mxBlockBytes c) bs).flatMap fun blk =>
        mxVals f ((blk.headD 0).toNat) (bitFields (fmtBits c) 32 (leNat (blk.drop 1)))
    else
      (chunks (f.bits / 8) (bs.length / (f.bits / 8)) bs).map fun e => f.decode (leNat e)

/-- The bytes of a list of codes of a format of whole bytes. -/
def encodeCodes (f : Fmt) (cs : List Nat) : List Byte := cs.flatMap fun c => leBytes (f.bits / 8) c

/-! ### Accumulator entries -/

/-- An accumulator entry (R117). `sum` is the 320-bit two's-complement sum, in units of its layout's bit 0. -/
structure Entry where
  sum : BitVec 320
  contrib : Nat
  posInf : Nat
  negInf : Nat
  nan : Nat
  deriving DecidableEq, Repr

def Entry.zero : Entry := ⟨0, 0, 0, 0, 0⟩

/-- The 48 bytes of an entry (R117). -/
def Entry.bytes (a : Entry) : List Byte :=
  leBytes 40 a.sum.toNat ++ leBytes 2 a.contrib ++ leBytes 2 a.posInf ++ leBytes 2 a.negInf ++ leBytes 2 a.nan

/-- The entry that 48 bytes spell. -/
def Entry.ofBytes (bs : List Byte) : Entry :=
  ⟨BitVec.ofNat 320 (leNat (bs.take 40)), leNat ((bs.drop 40).take 2), leNat ((bs.drop 42).take 2),
   leNat ((bs.drop 44).take 2), leNat ((bs.drop 46).take 2)⟩

/-- A lane input converted into a layout: the addend in units of the layout's bit 0, and whether the low and the high
clip of R122 counted it. -/
structure LaneIn where
  add : Int
  low : Bool
  high : Bool
  deriving DecidableEq, Repr

/-- The exponent of bit 0 of the fixed layout (R118). -/
def fixedBase : Int := -133

/-- Conversion into the fixed layout (R118): always exact for its formats. -/
def toFixed (v : Dy) : LaneIn := ⟨v.m * 2 ^ (v.e - fixedBase).toNat, false, false⟩

/-- Conversion into the windowed layout with top `t` (R122). -/
def toWindow (t : Int) (v : Dy) : LaneIn :=
  let base := t - 255
  let mag := v.m.natAbs
  if mag = 0 then ⟨0, false, false⟩
  else if v.expo ≥ t + 1 then ⟨(if v.m < 0 then -1 else 1) * (2 ^ 256 - 1), false, true⟩
  else if v.e ≥ base then ⟨v.m * 2 ^ (v.e - base).toNat, false, false⟩
  else
    let k := (base - v.e).toNat
    let n := shiftRound mag k
    ⟨if v.m < 0 then -(n : Int) else n, decide (mag % 2 ^ k ≠ 0), false⟩

/-- An entry with one value folded in, `sign` +1, or retracted, `sign` −1 (R123, R129). -/
def Entry.fold (conv : Dy → LaneIn) (sign : Int) (a : Entry) (v : Val) : Entry :=
  let d (n : Nat) : Nat := if sign < 0 then n - 1 else n + 1
  match v with
  | .nan => { a with contrib := d a.contrib, nan := d a.nan }
  | .inf false => { a with contrib := d a.contrib, posInf := d a.posInf }
  | .inf true => { a with contrib := d a.contrib, negInf := d a.negInf }
  | .fin _ x => { a with contrib := d a.contrib, sum := a.sum + BitVec.ofInt 320 (sign * (conv x).add) }

/-- The rounded code of an entry whose bit 0 weighs `2 ^ base` (R124). -/
def Entry.round (f : Fmt) (base : Int) (a : Entry) : Nat :=
  if a.nan ≠ 0 ∨ (a.posInf ≠ 0 ∧ a.negInf ≠ 0) then f.nanCode
  else if a.posInf ≠ 0 then f.overCode
  else if a.negInf ≠ 0 then f.signBit + f.overCode
  else if a.sum = 0 then 0
  else f.encode false ⟨a.sum.toInt, base⟩

end Sys2Proof.Machine
end

