-- ==== Sys2Proof/Machine/Crypto.lean ====
section
/-! DEFINITION. The algorithms that the spec names by their standards: AES-256 with GCM, CTR, CBC and CFB-8 (R515),
AES key wrap with padding (R524), SHA-256, CRC-32C (R279) and the CRCs of the framing. The spec names them and does not
print them; their steps are PRESUMED from the standards it names (log entry 7). Bytes are numbers below 256. -/

namespace Sys2Proof.Machine

/-- The AES substitution box, byte `i` at bits `8i`. -/
def aesBox : Nat :=
  0x16BB54B00F2D99416842E6BF0D89A18CDF2855CEE9871E9B948ED9691198F8E19E1DC186B95735610EF6034866B53E708A8BBD4B1F74DDE8C6B4A61C2E2578BA08AE7A65EAF4566CA94ED58D6D37C8E779E4959162ACD3C25C2406490A3A32E0DB0B5EDE14B8EE4688902A22DC4F816073195D643D7EA7C41744975FEC130CCDD2F3FF1021DAB6BCF5389D928F40A351A89F3C507F02F94585334D43FBAAEFD0CF584C4A39BECB6A5BB1FC20ED00D153842FE329B3D63B52A05A6E1B1A2C830975B227EBE28012079A059618C323C7041531D871F1E5A534CCF73F362693FDB7C072A49CAFA2D4ADF04759FA7DC982CA76ABD7FE2B670130C56F6BF27B777C63

/-- The inverse AES substitution box. -/
def aesInvBox : Nat :=
  0x7D0C2155631469E126D677BA7E042B17619953833CBBEBC8B0F52AAE4D3BE0A0EF9CC9939F7AE52D0D4AB519A97F51605FEC8027591012B131C7078833A8DD1FF45ACD78FEC0DB9A2079D2C64B3E56FC1BBE18AA0E62B76F89C5291D711AF1476EDF751CE837F9E28535ADE72274AC9673E6B4F0CECFF297EADC674F4111913A6B8A130103BDAFC1020F3FCA8F1E2CD00645B3B80558E4F70AD3BC8C00ABD890849D8DA75746155EDAB9EDFD5048706C92B6655DCC5CA4D41698688664F6F87225D18B6D49A25B76B224D92866A12E084EC3FA420B954CEE3D23C2A632947B54CBE9DEC444438E3487FF2F9B8239E37CFBD7F3819EA340BF38A53630D56A0952

def sub8 (box b : Nat) : Nat := box >>> (8 * b) % 256

/-- Doubling in the field of AES. -/
def xtime (b : Nat) : Nat := if b < 128 then 2 * b else Nat.xor (2 * b) 0x11B

/-- A product in the field of AES with a constant below 16. -/
def gmul (c b : Nat) : Nat :=
  let b2 := xtime b
  let b4 := xtime b2
  let b8 := xtime b4
  Nat.xor (Nat.xor (if c % 2 = 1 then b else 0) (if c / 2 % 2 = 1 then b2 else 0))
    (Nat.xor (if c / 4 % 2 = 1 then b4 else 0) (if c / 8 % 2 = 1 then b8 else 0))

def xorList (a b : List Nat) : List Nat := List.zipWith Nat.xor a b

/-- One word of the AES-256 key schedule after another, newest first; `i` counts words. -/
def aesExpand : Nat → Nat → List (List Nat) → List (List Nat)
  | 0, _, ws => ws
  | n + 1, i, ws =>
    let prev := ws.headD []
    let old := ws.getD 7 []
    let t :=
      if i % 8 = 0 then
        xorList ((prev.drop 1 ++ prev.take 1).map (sub8 aesBox)) [2 ^ (i / 8 - 1), 0, 0, 0]
      else if i % 8 = 4 then prev.map (sub8 aesBox)
      else prev
    aesExpand n (i + 1) (xorList old t :: ws)

/-- The fifteen round keys of AES-256 for a 32-byte key. -/
def aesKeys (key : List Nat) : List (List Nat) :=
  ((chunks 4 15 ((aesExpand 52 8 (chunks 4 8 key).reverse).reverse)).map List.flatten)

def pick (s : List Nat) (ix : List Nat) : List Nat := ix.map fun i => s.getD i 0

def shiftRows (s : List Nat) : List Nat := pick s [0, 5, 10, 15, 4, 9, 14, 3, 8, 13, 2, 7, 12, 1, 6, 11]
def invShiftRows (s : List Nat) : List Nat := pick s [0, 13, 10, 7, 4, 1, 14, 11, 8, 5, 2, 15, 12, 9, 6, 3]

def mixCol (c0 c1 c2 c3 : Nat) (col : List Nat) : List Nat :=
  let a := col.getD 0 0
  let b := col.getD 1 0
  let c := col.getD 2 0
  let d := col.getD 3 0
  let mix (w x y z : Nat) : Nat := Nat.xor (Nat.xor (gmul w a) (gmul x b)) (Nat.xor (gmul y c) (gmul z d))
  [mix c0 c1 c2 c3, mix c3 c0 c1 c2, mix c2 c3 c0 c1, mix c1 c2 c3 c0]

def mixCols (c0 c1 c2 c3 : Nat) (s : List Nat) : List Nat := (chunks 4 4 s).flatMap (mixCol c0 c1 c2 c3)

/-- AES-256 encryption of a 16-byte block under expanded round keys. -/
def aesEnc (ks : List (List Nat)) (blk : List Nat) : List Nat :=
  let s0 := xorList blk (ks.headD [])
  let mid := ((ks.drop 1).take 13).foldl
    (fun s k => xorList (mixCols 2 3 1 1 (shiftRows (s.map (sub8 aesBox)))) k) s0
  xorList (shiftRows (mid.map (sub8 aesBox))) (ks.getD 14 [])

/-- AES-256 decryption of a 16-byte block. -/
def aesDec (ks : List (List Nat)) (blk : List Nat) : List Nat :=
  let s0 := xorList blk (ks.getD 14 [])
  let mid := ((ks.drop 1).take 13).reverse.foldl
    (fun s k => mixCols 14 11 13 9 (xorList ((invShiftRows s).map (sub8 aesInvBox)) k)) s0
  xorList ((invShiftRows mid).map (sub8 aesInvBox)) (ks.headD [])

/-- A byte list as a number, first byte most significant. -/
def natOf (bs : List Nat) : Nat := bs.foldl (fun n b => n * 256 + b) 0

/-- The `n` bytes of a number, most significant first. -/
def bytesOf (n v : Nat) : List Nat := (beBytes n v).map BitVec.toNat

def padTo16 (bs : List Nat) : List Nat := bs ++ List.replicate ((16 - bs.length % 16) % 16) 0

def blocks16 (bs : List Nat) : List (List Nat) := chunks 16 ((bs.length + 15) / 16) bs

/-- Multiplication in the field of GHASH. -/
def ghashMul (x y : Nat) : Nat :=
  ((List.range 128).foldl (fun (zv : Nat × Nat) i =>
    (if x >>> (127 - i) % 2 = 1 then Nat.xor zv.1 zv.2 else zv.1,
     if zv.2 % 2 = 1 then Nat.xor (zv.2 >>> 1) (0xE1 <<< 120) else zv.2 >>> 1)) (0, y)).1

def ghash (h : Nat) (bs : List Nat) : Nat :=
  (blocks16 bs).foldl (fun y b => ghashMul (Nat.xor y (natOf b)) h) 0

/-- The key stream of CTR mode from a counter block upward, its low 32 bits counting. -/
def ctrStream (ks : List (List Nat)) : Nat → Nat → List Nat
  | 0, _ => []
  | n + 1, c => aesEnc ks (bytesOf 16 c) ++ ctrStream ks n (c / 2 ^ 32 * 2 ^ 32 + (c + 1) % 2 ^ 32)

/-- CTR encryption, its own inverse. -/
def aesCtr (ks : List (List Nat)) (c : Nat) (bs : List Nat) : List Nat :=
  xorList bs (ctrStream ks ((bs.length + 15) / 16) c)

/-- The GCM tag over additional data and ciphertext, for a 12-byte IV. -/
def gcmTag (ks : List (List Nat)) (iv aad ct : List Nat) : List Nat :=
  let h := natOf (aesEnc ks (List.replicate 16 0))
  let s := ghash h (padTo16 aad ++ padTo16 ct ++ bytesOf 8 (8 * aad.length) ++ bytesOf 8 (8 * ct.length))
  xorList (bytesOf 16 s) (aesEnc ks (iv ++ [0, 0, 0, 1]))

/-- GCM encryption: ciphertext and tag. -/
def gcmSeal (ks : List (List Nat)) (iv aad pt : List Nat) : List Nat × List Nat :=
  let ct := aesCtr ks (natOf (iv ++ [0, 0, 0, 2])) pt
  (ct, gcmTag ks iv aad ct)

/-- GCM decryption: the plaintext when the tag passes. -/
def gcmOpen (ks : List (List Nat)) (iv aad ct tag : List Nat) : Option (List Nat) :=
  if gcmTag ks iv aad ct = tag then some (aesCtr ks (natOf (iv ++ [0, 0, 0, 2])) ct) else none

/-- CBC decryption of whole blocks. -/
def cbcDec (ks : List (List Nat)) (iv : List Nat) : List (List Nat) → List Nat
  | [] => []
  | b :: bs => xorList (aesDec ks b) iv ++ cbcDec ks b bs

/-- CFB with 8-bit segments: one byte encrypted, and the shifted register (R517). -/
def cfbEnc (ks : List (List Nat)) (reg b : Nat) : Nat × Nat :=
  let c := Nat.xor b ((aesEnc ks (bytesOf 16 reg)).headD 0)
  (c, (reg * 256 + c) % 2 ^ 128)

/-- CFB with 8-bit segments: one byte decrypted. -/
def cfbDec (ks : List (List Nat)) (reg c : Nat) : Nat × Nat :=
  (Nat.xor c ((aesEnc ks (bytesOf 16 reg)).headD 0), (reg * 256 + c) % 2 ^ 128)

/-- The unwrap steps of AES key wrap, `t` counting down: the register A and the 8-byte pieces. -/
def unwrapSteps (ks : List (List Nat)) (n : Nat) : Nat → Nat × List Nat → Nat × List Nat
  | 0, ar => ar
  | t + 1, (a, rs) =>
    let i := t % n
    let b := aesDec ks (bytesOf 8 (Nat.xor a (t + 1)) ++ bytesOf 8 (rs.getD i 0))
    unwrapSteps ks n t (natOf (b.take 8), rs.set i (natOf (b.drop 8)))

/-- AES key unwrap with padding (RFC 5649) of a wrapped text of more than two blocks: the plaintext when its integrity
check passes. -/
def keyUnwrap (key : List Nat) (wrapped : List Nat) : Option (List Nat) :=
  let n := wrapped.length / 8 - 1
  let ps := chunks 8 n (wrapped.drop 8)
  let ar := unwrapSteps (aesKeys key) n (6 * n) (natOf (wrapped.take 8), ps.map natOf)
  let len := ar.1 % 2 ^ 32
  let pt := ar.2.flatMap (bytesOf 8)
  if wrapped.length % 8 = 0 ∧ 2 ≤ n ∧ ar.1 / 2 ^ 32 = 0xA65959A6 ∧ 8 * (n - 1) < len ∧ len ≤ 8 * n
      ∧ (pt.drop len).all (fun b => b = 0) then some (pt.take len)
  else none

/-! ### SHA-256 -/

/-- The round constants of SHA-256, word `i` at bits `32i`. -/
def shaK : Nat :=
  0xC67178F2BEF9A3F7A4506CEB90BEFFFA8CC7020884C8781478A5636F748F82EE682E6FF35B9CCA4F4ED8AA4A391C0CB334B0BCB52748774C1E376C0819A4C116106AA070F40E3585D6990624D192E819C76C51A3C24B8B70A81A664BA2BFE8A192722C8581C2C92E766A0ABB650A735453380D134D2C6DFC2E1B213827B70A851429296706CA6351D5A79147C6E00BF3BF597FC7B00327C8A831C66D983E515276F988DA5CB0A9DC4A7484AA2DE92C6F240CA1CC0FC19DC6EFBE4786E49B69C1C19BF1749BDC06A780DEB1FE72BE5D74550C7DC3243185BE12835B01D807AA98AB1C5ED5923F82A459F111F13956C25BE9B5DBA5B5C0FBCF71374491428A2F98

def shaInit : List Nat := [0x6A09E667, 0xBB67AE85, 0x3C6EF372, 0xA54FF53A, 0x510E527F, 0x9B05688C, 0x1F83D9AB, 0x5BE0CD19]

def rotr32 (n x : Nat) : Nat := x >>> n + x % 2 ^ n * 2 ^ (32 - n)

/-- The message schedule extended by `n` words, newest first. -/
def shaSchedule : Nat → List Nat → List Nat
  | 0, ws => ws
  | n + 1, ws =>
    let w2 := ws.getD 1 0
    let w15 := ws.getD 14 0
    let s1 := Nat.xor (Nat.xor (rotr32 17 w2) (rotr32 19 w2)) (w2 >>> 10)
    let s0 := Nat.xor (Nat.xor (rotr32 7 w15) (rotr32 18 w15)) (w15 >>> 3)
    shaSchedule n ((s1 + ws.getD 6 0 + s0 + ws.getD 15 0) % 2 ^ 32 :: ws)

structure ShaRegs where
  a : Nat
  b : Nat
  c : Nat
  d : Nat
  e : Nat
  f : Nat
  g : Nat
  h : Nat

/-- One round of SHA-256 with round number and schedule word. -/
def shaRound (r : ShaRegs) (iw : Nat × Nat) : ShaRegs :=
  let s1 := Nat.xor (Nat.xor (rotr32 6 r.e) (rotr32 11 r.e)) (rotr32 25 r.e)
  let ch := Nat.xor (Nat.land r.e r.f) (Nat.land (2 ^ 32 - 1 - r.e) r.g)
  let t1 := r.h + s1 + ch + shaK >>> (32 * iw.1) % 2 ^ 32 + iw.2
  let s0 := Nat.xor (Nat.xor (rotr32 2 r.a) (rotr32 13 r.a)) (rotr32 22 r.a)
  let mj := Nat.xor (Nat.xor (Nat.land r.a r.b) (Nat.land r.a r.c)) (Nat.land r.b r.c)
  ⟨(t1 + s0 + mj) % 2 ^ 32, r.a, r.b, r.c, (r.d + t1) % 2 ^ 32, r.e, r.f, r.g⟩

def shaBlock (hs : List Nat) (blk : List Nat) : List Nat :=
  let ws := (shaSchedule 48 ((chunks 4 16 blk).map natOf).reverse).reverse
  let g (i : Nat) : Nat := hs.getD i 0
  let r := ((List.range 64).zip ws).foldl shaRound ⟨g 0, g 1, g 2, g 3, g 4, g 5, g 6, g 7⟩
  List.zipWith (fun x y => (x + y) % 2 ^ 32) hs [r.a, r.b, r.c, r.d, r.e, r.f, r.g, r.h]

/-- SHA-256 of a byte string: 32 bytes. -/
def sha256 (bs : List Nat) : List Nat :=
  let m := bs ++ [0x80] ++ List.replicate ((119 - bs.length % 64) % 64) 0 ++ bytesOf 8 (8 * bs.length)
  ((chunks 64 (m.length / 64) m).foldl shaBlock shaInit).flatMap (bytesOf 4)

/-! ### CRCs -/

def crcStep (poly : Nat) : Nat → Nat → Nat
  | 0, c => c
  | n + 1, c => crcStep poly n (if c % 2 = 1 then Nat.xor (c >>> 1) poly else c >>> 1)

/-- A reflected CRC-32 with initial value and final XOR of all ones. -/
def crc32r (poly : Nat) (bs : List Nat) : Nat :=
  Nat.xor (bs.foldl (fun c b => crcStep poly 8 (Nat.xor c b)) (2 ^ 32 - 1)) (2 ^ 32 - 1)

/-- CRC-32C, the Castagnoli polynomial 0x1EDC_6F41 reflected (R279). -/
def crc32c (bs : List Nat) : Nat := crc32r 0x82F63B78 bs

def crc16Step : Nat → Nat → Nat
  | 0, c => c
  | n + 1, c => crc16Step n (if c / 2 ^ 15 % 2 = 1 then Nat.xor (2 * c % 2 ^ 16) 0x1021 else 2 * c % 2 ^ 16)

/-- The CRC-16 of GFP headers: x^16 + x^12 + x^5 + 1, most significant bit first, initial value zero. -/
def crc16 (bs : List Nat) : Nat := bs.foldl (fun c b => crc16Step 8 (Nat.xor c (b * 256))) 0

/-- The CRC-32 of IEEE 802.3. -/
def crc32 (bs : List Nat) : Nat := crc32r 0xEDB88320 bs

/-- Bytes of a message as numbers. -/
def nats (bs : List Byte) : List Nat := bs.map BitVec.toNat

/-- Numbers as bytes. -/
def byts (ns : List Nat) : List Byte := ns.map (BitVec.ofNat 8)

end Sys2Proof.Machine
end

