-- ==== Sys2Proof/Config.lean ====
section
/-! DEFINITION. What the spec leaves open: the free values. Each is an opaque constant without a body, so that no proof can
see a value; each is named in a log entry. -/

namespace Sys2Proof.Config

/-- Free value: a fresh 64-bit value for each count (log entry 4). -/
opaque freeWord : Nat → BitVec 64

/-- Free value: the ADC code of a PPE integration (R163, R164; log entry 10). -/
opaque ppeAdc : Nat → BitVec 12

/-- Free value: one step of the PPE's ADC after an integration over K symbols, in 2^-16 of a code unit (log entry 10). -/
opaque ppeUnit : Nat → Nat

/-- Free value: the level an array item of these operand formats asks of this many healthy sectors, in the units of
`LEVEL` (FORECAST section of the Almanac chapter; log entry 11). -/
opaque arrayLevel : Nat → Nat → Nat → Nat

/-- Free value: the FP32 code that the factorisation of R138 takes for a square root, for a quotient, and for `a - b * c`, of FP32
codes: the spec does not say how these operations round (log entry 12). -/
opaque cholSqrt : Nat → Nat
opaque cholDiv : Nat → Nat → Nat
opaque cholSub : Nat → Nat → Nat → Nat

/-- Free value: the contents of an aborted item's destination (R89; log entry 13). -/
opaque abortedByte : Nat → BitVec 8

/-- Free value: the segment element that the first element of a low-rank ENCODE's SRC is, by stream and SRC descriptor
(R215 does not say; log entry 16). -/
opaque lowrankFirst : Nat → Nat → Nat

/-- Free value: the first block of the site's own contribution that the DECODE of a receiving stream stands for once its group has one
site, by stream and DST descriptor (R268; log entry 97). -/
opaque soloBlock : Nat → Nat → Nat

/-- Free value: how far one loop period moves a heater's target, by tile and heater, for a difference of the two sums: the
fixed gain times the difference less the calibrated set-point (R453; log entry 27). -/
opaque lockStep : Nat → Int → Int

/-- Free value: the change of a ring heater's drive that a dither of so many units of 1/256 linewidth is, by tile and heater (R453; log
entry 27). -/
opaque ditherStep : Nat → Nat → Int

/-- Free value: the lagged level after one loop period, by time constant in µs, lagged level, announced level (R471; log
entry 27). -/
opaque levelLag : Nat → Int → Int → Int

/-- Free value: the bytes of idle frames that a port has sent up to a time; idle frames fill the time in which no line block is ready
(R390; log entry 99). -/
opaque idleBytes : Nat → Nat → Nat

/-- Free value: the links of a path of the on-package network from one die to another (R30 says that there are two; log entry
43). -/
opaque nocPath : Nat → Nat → Bool → List Nat

end Sys2Proof.Config
end

