-- ==== Sys2Proof/Machine/RegMap.lean ====
section
/-! DEFINITION. The register map of the status and control space, one constant per register (R.<NAME>) and per field
(F.<NAME>_<FIELD>), transcribed from the register sections of the spec's chapters (R13, R18, R19): address, repetition,
bit position, width, access code, live mark and reset value. A field whose reset column reads a dash holds the value the
log entry 3 names. Reserved bits are the bits no field of a register covers; they read as zero (R16). -/

namespace Sys2Proof.Machine

def F.GLB_ID_STEPPING : Fld := ⟨0x0, 1, 1, 8, 8, 0, 8, .ro, false, 0x10⟩
def F.GLB_ID_PART : Fld := ⟨0x0, 1, 1, 8, 8, 8, 16, .ro, false, 0x9400⟩
def F.GLB_ID_FAMILY : Fld := ⟨0x0, 1, 1, 8, 8, 24, 8, .ro, false, 0x58⟩
def F.GLB_ID_ROM : Fld := ⟨0x0, 1, 1, 8, 8, 32, 16, .ro, false, 0x0⟩
def R.GLB_ID : Reg := ⟨0x0, 1, 8, 1, 8, 0x58940010,
  [F.GLB_ID_STEPPING, F.GLB_ID_PART, F.GLB_ID_FAMILY, F.GLB_ID_ROM]⟩
def F.GLB_STATUS_STAGE : Fld := ⟨0x8, 1, 1, 8, 8, 0, 4, .ro, true, 0x0⟩
def F.GLB_STATUS_RECOVERY : Fld := ⟨0x8, 1, 1, 8, 8, 4, 1, .ro, true, 0x0⟩
def F.GLB_STATUS_IMAGE : Fld := ⟨0x8, 1, 1, 8, 8, 5, 1, .ro, true, 0x0⟩
def F.GLB_STATUS_EXACT : Fld := ⟨0x8, 1, 1, 8, 8, 6, 1, .ro, false, 0x0⟩
def F.GLB_STATUS_READY : Fld := ⟨0x8, 1, 1, 8, 8, 7, 1, .ro, true, 0x0⟩
def F.GLB_STATUS_HEALTHY : Fld := ⟨0x8, 1, 1, 8, 8, 8, 8, .ro, true, 0x0⟩
def F.GLB_STATUS_CST_MODE : Fld := ⟨0x8, 1, 1, 8, 8, 16, 2, .ro, false, 0x0⟩
def R.GLB_STATUS : Reg := ⟨0x8, 1, 8, 1, 8, 0x0,
  [F.GLB_STATUS_STAGE, F.GLB_STATUS_RECOVERY, F.GLB_STATUS_IMAGE, F.GLB_STATUS_EXACT, F.GLB_STATUS_READY, F.GLB_STATUS_HEALTHY, F.GLB_STATUS_CST_MODE]⟩
def F.GLB_VIEW_VIEW : Fld := ⟨0x10, 1, 1, 8, 8, 0, 64, .ro, true, 0x0⟩
def R.GLB_VIEW : Reg := ⟨0x10, 1, 8, 1, 8, 0x0,
  [F.GLB_VIEW_VIEW]⟩
def F.GLB_DEVICE_DEVICE : Fld := ⟨0x18, 1, 1, 8, 8, 0, 64, .ro, false, 0x0⟩
def R.GLB_DEVICE : Reg := ⟨0x18, 1, 8, 1, 8, 0x0,
  [F.GLB_DEVICE_DEVICE]⟩
def F.GLB_SCRATCH_VALUE : Fld := ⟨0x20, 1, 1, 8, 8, 0, 64, .rws, false, 0x0⟩
def R.GLB_SCRATCH : Reg := ⟨0x20, 1, 8, 1, 8, 0x0,
  [F.GLB_SCRATCH_VALUE]⟩
def F.SEQ_STATUS_BANK : Fld := ⟨0x100008, 1, 1, 8, 8, 0, 1, .ro, false, 0x0⟩
def F.SEQ_STATUS_SWAP_ARMED : Fld := ⟨0x100008, 1, 1, 8, 8, 1, 1, .ro, false, 0x0⟩
def F.SEQ_STATUS_IDLE : Fld := ⟨0x100008, 1, 1, 8, 8, 2, 1, .ro, true, 0x1⟩
def F.SEQ_STATUS_TK_BUSY : Fld := ⟨0x100008, 1, 1, 8, 8, 16, 16, .ro, true, 0x0⟩
def R.SEQ_STATUS : Reg := ⟨0x100008, 1, 8, 1, 8, 0x4,
  [F.SEQ_STATUS_BANK, F.SEQ_STATUS_SWAP_ARMED, F.SEQ_STATUS_IDLE, F.SEQ_STATUS_TK_BUSY]⟩
def F.SEQ_SWAP_CMD : Fld := ⟨0x100010, 1, 1, 8, 8, 0, 2, .wo, false, 0x0⟩
def F.SEQ_SWAP_STATE : Fld := ⟨0x100010, 1, 1, 8, 8, 4, 2, .ro, false, 0x0⟩
def F.SEQ_SWAP_RESULT : Fld := ⟨0x100010, 1, 1, 8, 8, 8, 8, .ro, false, 0x0⟩
def R.SEQ_SWAP : Reg := ⟨0x100010, 1, 8, 1, 8, 0x0,
  [F.SEQ_SWAP_CMD, F.SEQ_SWAP_STATE, F.SEQ_SWAP_RESULT]⟩
def F.SEQ_SWAP_STEP_STEP : Fld := ⟨0x100018, 1, 1, 8, 8, 0, 64, .rw, false, 0x0⟩
def R.SEQ_SWAP_STEP : Reg := ⟨0x100018, 1, 8, 1, 8, 0x0,
  [F.SEQ_SWAP_STEP_STEP]⟩
def F.SEQ_ROWS_ACTIVE : Fld := ⟨0x100020, 1, 1, 8, 8, 0, 21, .ro, false, 0x0⟩
def F.SEQ_ROWS_SHADOW : Fld := ⟨0x100020, 1, 1, 8, 8, 32, 21, .rw, false, 0x0⟩
def R.SEQ_ROWS : Reg := ⟨0x100020, 1, 8, 1, 8, 0x0,
  [F.SEQ_ROWS_ACTIVE, F.SEQ_ROWS_SHADOW]⟩
def F.SEQ_MERIDIAN_STEP : Fld := ⟨0x100028, 1, 1, 8, 8, 0, 64, .ro, false, 0x0⟩
def R.SEQ_MERIDIAN : Reg := ⟨0x100028, 1, 8, 1, 8, 0x0,
  [F.SEQ_MERIDIAN_STEP]⟩
def F.SEQ_FORECAST_LEVEL : Fld := ⟨0x100030, 1, 1, 8, 8, 0, 8, .ro, true, 0x0⟩
def F.SEQ_FORECAST_APPLIED : Fld := ⟨0x100030, 1, 1, 8, 8, 8, 8, .ro, true, 0x0⟩
def R.SEQ_FORECAST : Reg := ⟨0x100030, 1, 8, 1, 8, 0x0,
  [F.SEQ_FORECAST_LEVEL, F.SEQ_FORECAST_APPLIED]⟩
def F.SEQ_WATCHDOG_LIMIT : Fld := ⟨0x100038, 1, 1, 8, 8, 0, 32, .rw, false, 0x3E8⟩
def R.SEQ_WATCHDOG : Reg := ⟨0x100038, 1, 8, 1, 8, 0x3E8,
  [F.SEQ_WATCHDOG_LIMIT]⟩
def F.SEQ_FIT_CODE : Fld := ⟨0x100040, 1, 1, 8, 8, 0, 8, .ro, false, 0x0⟩
def F.SEQ_FIT_COUNT : Fld := ⟨0x100040, 1, 1, 8, 8, 8, 8, .ro, false, 0x0⟩
def R.SEQ_FIT : Reg := ⟨0x100040, 1, 8, 1, 8, 0x0,
  [F.SEQ_FIT_CODE, F.SEQ_FIT_COUNT]⟩
def F.SEQ_EVENTS_WATCHDOG : Fld := ⟨0x100048, 1, 1, 8, 8, 0, 1, .w1c, false, 0x0⟩
def F.SEQ_EVENTS_TOKEN_SAT : Fld := ⟨0x100048, 1, 1, 8, 8, 1, 1, .w1c, false, 0x0⟩
def F.SEQ_EVENTS_ITEM_FAILED : Fld := ⟨0x100048, 1, 1, 8, 8, 2, 1, .w1c, false, 0x0⟩
def F.SEQ_EVENTS_SWAPPED : Fld := ⟨0x100048, 1, 1, 8, 8, 3, 1, .w1c, false, 0x0⟩
def R.SEQ_EVENTS : Reg := ⟨0x100048, 1, 8, 1, 8, 0x0,
  [F.SEQ_EVENTS_WATCHDOG, F.SEQ_EVENTS_TOKEN_SAT, F.SEQ_EVENTS_ITEM_FAILED, F.SEQ_EVENTS_SWAPPED]⟩
def F.SEQ_TKn_CTRL_CMD : Fld := ⟨0x101000, 16, 1, 64, 8, 0, 2, .wo, false, 0x0⟩
def R.SEQ_TKn_CTRL : Reg := ⟨0x101000, 16, 64, 1, 8, 0x0,
  [F.SEQ_TKn_CTRL_CMD]⟩
def F.SEQ_TKn_STATUS_STATE : Fld := ⟨0x101008, 16, 1, 64, 8, 0, 3, .ro, true, 0x0⟩
def F.SEQ_TKn_STATUS_IN_FLIGHT : Fld := ⟨0x101008, 16, 1, 64, 8, 8, 6, .ro, true, 0x0⟩
def F.SEQ_TKn_STATUS_CURSOR : Fld := ⟨0x101008, 16, 1, 64, 8, 32, 20, .ro, true, 0x0⟩
def R.SEQ_TKn_STATUS : Reg := ⟨0x101008, 16, 64, 1, 8, 0x0,
  [F.SEQ_TKn_STATUS_STATE, F.SEQ_TKn_STATUS_IN_FLIGHT, F.SEQ_TKn_STATUS_CURSOR]⟩
def F.SEQ_TKn_ENTRY_ACTIVE : Fld := ⟨0x101010, 16, 1, 64, 8, 0, 20, .ro, false, 0x0⟩
def F.SEQ_TKn_ENTRY_ACTIVE_EN : Fld := ⟨0x101010, 16, 1, 64, 8, 31, 1, .ro, false, 0x0⟩
def F.SEQ_TKn_ENTRY_SHADOW : Fld := ⟨0x101010, 16, 1, 64, 8, 32, 20, .rw, false, 0x0⟩
def F.SEQ_TKn_ENTRY_SHADOW_EN : Fld := ⟨0x101010, 16, 1, 64, 8, 63, 1, .rw, false, 0x0⟩
def R.SEQ_TKn_ENTRY : Reg := ⟨0x101010, 16, 64, 1, 8, 0x0,
  [F.SEQ_TKn_ENTRY_ACTIVE, F.SEQ_TKn_ENTRY_ACTIVE_EN, F.SEQ_TKn_ENTRY_SHADOW, F.SEQ_TKn_ENTRY_SHADOW_EN]⟩
def F.SEQ_TKn_STEP_STEP : Fld := ⟨0x101018, 16, 1, 64, 8, 0, 64, .ro, true, 0x0⟩
def R.SEQ_TKn_STEP : Reg := ⟨0x101018, 16, 64, 1, 8, 0x0,
  [F.SEQ_TKn_STEP_STEP]⟩
def F.SEQ_TKn_DONE_COUNT : Fld := ⟨0x101020, 16, 1, 64, 8, 0, 64, .ro, true, 0x0⟩
def R.SEQ_TKn_DONE : Reg := ⟨0x101020, 16, 64, 1, 8, 0x0,
  [F.SEQ_TKn_DONE_COUNT]⟩
def F.SEQ_TKn_FAILED_COUNT : Fld := ⟨0x101028, 16, 1, 64, 8, 0, 64, .rc, true, 0x0⟩
def R.SEQ_TKn_FAILED : Reg := ⟨0x101028, 16, 64, 1, 8, 0x0,
  [F.SEQ_TKn_FAILED_COUNT]⟩
def F.SEQ_TKn_LAST_FAIL_TAG : Fld := ⟨0x101030, 16, 1, 64, 8, 0, 64, .ro, true, 0x0⟩
def R.SEQ_TKn_LAST_FAIL : Reg := ⟨0x101030, 16, 64, 1, 8, 0x0,
  [F.SEQ_TKn_LAST_FAIL_TAG]⟩
def F.SEQ_TOKEN_COUNT : Fld := ⟨0x120000, 4096, 1, 8, 8, 0, 64, .rw, true, 0x0⟩
def R.SEQ_TOKEN : Reg := ⟨0x120000, 4096, 8, 1, 8, 0x0,
  [F.SEQ_TOKEN_COUNT]⟩
def F.SEQ_FIT_A_RESOURCE : Fld := ⟨0x130000, 64, 1, 16, 8, 0, 8, .ro, false, 0x0⟩
def F.SEQ_FIT_A_SECTION : Fld := ⟨0x130000, 64, 1, 16, 8, 8, 8, .ro, false, 0x0⟩
def F.SEQ_FIT_A_FIRST_INDEX : Fld := ⟨0x130000, 64, 1, 16, 8, 32, 32, .ro, false, 0x0⟩
def R.SEQ_FIT_A : Reg := ⟨0x130000, 64, 16, 1, 8, 0x0,
  [F.SEQ_FIT_A_RESOURCE, F.SEQ_FIT_A_SECTION, F.SEQ_FIT_A_FIRST_INDEX]⟩
def F.SEQ_FIT_B_NEEDED : Fld := ⟨0x130008, 64, 1, 16, 8, 0, 32, .ro, false, 0x0⟩
def F.SEQ_FIT_B_AVAILABLE : Fld := ⟨0x130008, 64, 1, 16, 8, 32, 32, .ro, false, 0x0⟩
def R.SEQ_FIT_B : Reg := ⟨0x130008, 64, 16, 1, 8, 0x0,
  [F.SEQ_FIT_B_NEEDED, F.SEQ_FIT_B_AVAILABLE]⟩
def F.SEQ_RING_A_TAG : Fld := ⟨0x140000, 16, 1024, 16384, 16, 0, 64, .ro, false, 0x0⟩
def R.SEQ_RING_A : Reg := ⟨0x140000, 16, 16384, 1024, 16, 0x0,
  [F.SEQ_RING_A_TAG]⟩
def F.SEQ_RING_B_STATUS : Fld := ⟨0x140008, 16, 1024, 16384, 16, 0, 8, .ro, false, 0x0⟩
def F.SEQ_RING_B_SECTOR : Fld := ⟨0x140008, 16, 1024, 16384, 16, 8, 8, .ro, false, 0xFF⟩
def F.SEQ_RING_B_TIME : Fld := ⟨0x140008, 16, 1024, 16384, 16, 32, 32, .ro, false, 0x0⟩
def R.SEQ_RING_B : Reg := ⟨0x140008, 16, 16384, 1024, 16, 0xFF00,
  [F.SEQ_RING_B_STATUS, F.SEQ_RING_B_SECTOR, F.SEQ_RING_B_TIME]⟩
def F.ARR_STATUS_HEALTHY : Fld := ⟨0x200000, 1, 1, 8, 8, 0, 8, .ro, true, 0x0⟩
def F.ARR_STATUS_SUSPECT : Fld := ⟨0x200000, 1, 1, 8, 8, 8, 8, .ro, true, 0x0⟩
def F.ARR_STATUS_ROWS : Fld := ⟨0x200000, 1, 1, 8, 8, 16, 10, .ro, true, 0x0⟩
def F.ARR_STATUS_ARRAY_BUSY : Fld := ⟨0x200000, 1, 1, 8, 8, 26, 1, .ro, true, 0x0⟩
def F.ARR_STATUS_RAMPING : Fld := ⟨0x200000, 1, 1, 8, 8, 27, 1, .ro, true, 0x0⟩
def R.ARR_STATUS : Reg := ⟨0x200000, 1, 8, 1, 8, 0x0,
  [F.ARR_STATUS_HEALTHY, F.ARR_STATUS_SUSPECT, F.ARR_STATUS_ROWS, F.ARR_STATUS_ARRAY_BUSY, F.ARR_STATUS_RAMPING]⟩
def F.ARR_ABFT_TOL : Fld := ⟨0x200008, 1, 1, 8, 8, 0, 5, .rw, false, 0xC⟩
def R.ARR_ABFT : Reg := ⟨0x200008, 1, 8, 1, 8, 0xC,
  [F.ARR_ABFT_TOL]⟩
def F.ARR_RAMP_TIME : Fld := ⟨0x200010, 1, 1, 8, 8, 0, 16, .rw, false, 0x7D0⟩
def R.ARR_RAMP : Reg := ⟨0x200010, 1, 8, 1, 8, 0x7D0,
  [F.ARR_RAMP_TIME]⟩
def F.ARR_WINDOW_MARGIN : Fld := ⟨0x200018, 1, 1, 8, 8, 0, 4, .rw, false, 0x2⟩
def R.ARR_WINDOW : Reg := ⟨0x200018, 1, 8, 1, 8, 0x2,
  [F.ARR_WINDOW_MARGIN]⟩
def F.ARR_EVENTS_MISMATCH : Fld := ⟨0x200020, 1, 1, 8, 8, 0, 1, .w1c, false, 0x0⟩
def F.ARR_EVENTS_REDO_FAILED : Fld := ⟨0x200020, 1, 1, 8, 8, 1, 1, .w1c, false, 0x0⟩
def F.ARR_EVENTS_SUSPECT : Fld := ⟨0x200020, 1, 1, 8, 8, 2, 1, .w1c, false, 0x0⟩
def F.ARR_EVENTS_WIN_CLIP : Fld := ⟨0x200020, 1, 1, 8, 8, 3, 1, .w1c, false, 0x0⟩
def F.ARR_EVENTS_ORTHO_CLAMP : Fld := ⟨0x200020, 1, 1, 8, 8, 4, 1, .w1c, false, 0x0⟩
def F.ARR_EVENTS_NONFINITE : Fld := ⟨0x200020, 1, 1, 8, 8, 5, 1, .w1c, false, 0x0⟩
def F.ARR_EVENTS_COUNT_WAIT : Fld := ⟨0x200020, 1, 1, 8, 8, 6, 1, .w1c, false, 0x0⟩
def F.ARR_EVENTS_MOVED : Fld := ⟨0x200020, 1, 1, 8, 8, 7, 1, .w1c, false, 0x0⟩
def R.ARR_EVENTS : Reg := ⟨0x200020, 1, 8, 1, 8, 0x0,
  [F.ARR_EVENTS_MISMATCH, F.ARR_EVENTS_REDO_FAILED, F.ARR_EVENTS_SUSPECT, F.ARR_EVENTS_WIN_CLIP, F.ARR_EVENTS_ORTHO_CLAMP, F.ARR_EVENTS_NONFINITE, F.ARR_EVENTS_COUNT_WAIT, F.ARR_EVENTS_MOVED]⟩
def F.ARR_MISMATCH_COUNT : Fld := ⟨0x200028, 1, 1, 8, 8, 0, 64, .rc, true, 0x0⟩
def R.ARR_MISMATCH : Reg := ⟨0x200028, 1, 8, 1, 8, 0x0,
  [F.ARR_MISMATCH_COUNT]⟩
def F.ARR_REDO_COUNT : Fld := ⟨0x200030, 1, 1, 8, 8, 0, 64, .rc, true, 0x0⟩
def R.ARR_REDO : Reg := ⟨0x200030, 1, 8, 1, 8, 0x0,
  [F.ARR_REDO_COUNT]⟩
def F.ARR_WIN_LOW_COUNT : Fld := ⟨0x200038, 1, 1, 8, 8, 0, 64, .rc, true, 0x0⟩
def R.ARR_WIN_LOW : Reg := ⟨0x200038, 1, 8, 1, 8, 0x0,
  [F.ARR_WIN_LOW_COUNT]⟩
def F.ARR_WIN_HIGH_COUNT : Fld := ⟨0x200040, 1, 1, 8, 8, 0, 64, .rc, true, 0x0⟩
def R.ARR_WIN_HIGH : Reg := ⟨0x200040, 1, 8, 1, 8, 0x0,
  [F.ARR_WIN_HIGH_COUNT]⟩
def F.ARR_NONFINITE_COUNT : Fld := ⟨0x200048, 1, 1, 8, 8, 0, 64, .rc, true, 0x0⟩
def R.ARR_NONFINITE : Reg := ⟨0x200048, 1, 8, 1, 8, 0x0,
  [F.ARR_NONFINITE_COUNT]⟩
def F.ARR_ORTHO_CLAMP_COUNT : Fld := ⟨0x200050, 1, 1, 8, 8, 0, 64, .rc, true, 0x0⟩
def R.ARR_ORTHO_CLAMP : Reg := ⟨0x200050, 1, 8, 1, 8, 0x0,
  [F.ARR_ORTHO_CLAMP_COUNT]⟩
def F.ARR_LAST_MISMATCH_TAG : Fld := ⟨0x200058, 1, 1, 8, 8, 0, 64, .ro, true, 0x0⟩
def R.ARR_LAST_MISMATCH : Reg := ⟨0x200058, 1, 8, 1, 8, 0x0,
  [F.ARR_LAST_MISMATCH_TAG]⟩
def F.ARR_SECn_STATUS_STATE : Fld := ⟨0x201000, 8, 1, 64, 8, 0, 3, .ro, true, 0x5⟩
def F.ARR_SECn_STATUS_LANES_BUSY : Fld := ⟨0x201000, 8, 1, 64, 8, 8, 11, .ro, true, 0x0⟩
def F.ARR_SECn_STATUS_CHECKING : Fld := ⟨0x201000, 8, 1, 64, 8, 19, 1, .ro, true, 0x0⟩
def R.ARR_SECn_STATUS : Reg := ⟨0x201000, 8, 64, 1, 8, 0x5,
  [F.ARR_SECn_STATUS_STATE, F.ARR_SECn_STATUS_LANES_BUSY, F.ARR_SECn_STATUS_CHECKING]⟩
def F.ARR_SECn_MISMATCH_COUNT : Fld := ⟨0x201008, 8, 1, 64, 8, 0, 64, .rws, true, 0x0⟩
def R.ARR_SECn_MISMATCH : Reg := ⟨0x201008, 8, 64, 1, 8, 0x0,
  [F.ARR_SECn_MISMATCH_COUNT]⟩
def F.ARR_SECn_LANE_OPS_COUNT : Fld := ⟨0x201010, 8, 1, 64, 8, 0, 64, .rc, true, 0x0⟩
def R.ARR_SECn_LANE_OPS : Reg := ⟨0x201010, 8, 64, 1, 8, 0x0,
  [F.ARR_SECn_LANE_OPS_COUNT]⟩
def F.PPE_STATUS_STATE : Fld := ⟨0x400000, 1, 1, 8, 8, 0, 3, .ro, true, 0x6⟩
def F.PPE_STATUS_PLACEMENT : Fld := ⟨0x400000, 1, 1, 8, 8, 3, 1, .ro, true, 0x0⟩
def F.PPE_STATUS_LOCKED : Fld := ⟨0x400000, 1, 1, 8, 8, 4, 1, .ro, true, 0x0⟩
def R.PPE_STATUS : Reg := ⟨0x400000, 1, 8, 1, 8, 0x6,
  [F.PPE_STATUS_STATE, F.PPE_STATUS_PLACEMENT, F.PPE_STATUS_LOCKED]⟩
def F.PPE_CTRL_KSEL : Fld := ⟨0x400008, 1, 1, 8, 8, 0, 3, .rw, false, 0x2⟩
def R.PPE_CTRL : Reg := ⟨0x400008, 1, 8, 1, 8, 0x2,
  [F.PPE_CTRL_KSEL]⟩
def F.PPE_CAL_CMD : Fld := ⟨0x400010, 1, 1, 8, 8, 0, 2, .wo, false, 0x0⟩
def F.PPE_CAL_PERIOD : Fld := ⟨0x400010, 1, 1, 8, 8, 8, 16, .rw, false, 0x64⟩
def F.PPE_CAL_TEMP_DELTA : Fld := ⟨0x400010, 1, 1, 8, 8, 24, 8, .rw, false, 0x8⟩
def R.PPE_CAL : Reg := ⟨0x400010, 1, 8, 1, 8, 0x8006400,
  [F.PPE_CAL_CMD, F.PPE_CAL_PERIOD, F.PPE_CAL_TEMP_DELTA]⟩
def F.PPE_CAL_STATUS_RESULT : Fld := ⟨0x400018, 1, 1, 8, 8, 0, 8, .ro, false, 0x0⟩
def F.PPE_CAL_STATUS_KIND : Fld := ⟨0x400018, 1, 1, 8, 8, 8, 1, .ro, false, 0x0⟩
def F.PPE_CAL_STATUS_TIME : Fld := ⟨0x400018, 1, 1, 8, 8, 32, 32, .ro, false, 0x0⟩
def R.PPE_CAL_STATUS : Reg := ⟨0x400018, 1, 8, 1, 8, 0x0,
  [F.PPE_CAL_STATUS_RESULT, F.PPE_CAL_STATUS_KIND, F.PPE_CAL_STATUS_TIME]⟩
def F.PPE_LOCK_TOL : Fld := ⟨0x400020, 1, 1, 8, 8, 0, 8, .rw, false, 0x10⟩
def F.PPE_LOCK_WAIT : Fld := ⟨0x400020, 1, 1, 8, 8, 16, 16, .rw, false, 0x1E⟩
def R.PPE_LOCK : Reg := ⟨0x400020, 1, 8, 1, 8, 0x1E0010,
  [F.PPE_LOCK_TOL, F.PPE_LOCK_WAIT]⟩
def F.PPE_ABFT_MULT : Fld := ⟨0x400028, 1, 1, 8, 8, 0, 4, .rw, false, 0x8⟩
def R.PPE_ABFT : Reg := ⟨0x400028, 1, 8, 1, 8, 0x8,
  [F.PPE_ABFT_MULT]⟩
def F.PPE_EVENTS_MISMATCH : Fld := ⟨0x400030, 1, 1, 8, 8, 0, 1, .w1c, false, 0x0⟩
def F.PPE_EVENTS_FALLBACK : Fld := ⟨0x400030, 1, 1, 8, 8, 1, 1, .w1c, false, 0x0⟩
def F.PPE_EVENTS_LOCK_LOST : Fld := ⟨0x400030, 1, 1, 8, 8, 2, 1, .w1c, false, 0x0⟩
def F.PPE_EVENTS_CAL_DONE : Fld := ⟨0x400030, 1, 1, 8, 8, 3, 1, .w1c, false, 0x0⟩
def F.PPE_EVENTS_FAILED : Fld := ⟨0x400030, 1, 1, 8, 8, 4, 1, .w1c, false, 0x0⟩
def F.PPE_EVENTS_CLIP : Fld := ⟨0x400030, 1, 1, 8, 8, 5, 1, .w1c, false, 0x0⟩
def R.PPE_EVENTS : Reg := ⟨0x400030, 1, 8, 1, 8, 0x0,
  [F.PPE_EVENTS_MISMATCH, F.PPE_EVENTS_FALLBACK, F.PPE_EVENTS_LOCK_LOST, F.PPE_EVENTS_CAL_DONE, F.PPE_EVENTS_FAILED, F.PPE_EVENTS_CLIP]⟩
def F.PPE_BANDS_COUNT : Fld := ⟨0x400038, 1, 1, 8, 8, 0, 64, .rc, true, 0x0⟩
def R.PPE_BANDS : Reg := ⟨0x400038, 1, 8, 1, 8, 0x0,
  [F.PPE_BANDS_COUNT]⟩
def F.PPE_MISMATCH_COUNT : Fld := ⟨0x400040, 1, 1, 8, 8, 0, 64, .rc, true, 0x0⟩
def R.PPE_MISMATCH : Reg := ⟨0x400040, 1, 8, 1, 8, 0x0,
  [F.PPE_MISMATCH_COUNT]⟩
def F.PPE_REPEAT_COUNT : Fld := ⟨0x400048, 1, 1, 8, 8, 0, 64, .rc, true, 0x0⟩
def R.PPE_REPEAT : Reg := ⟨0x400048, 1, 8, 1, 8, 0x0,
  [F.PPE_REPEAT_COUNT]⟩
def F.PPE_FALLBACK_COUNT : Fld := ⟨0x400050, 1, 1, 8, 8, 0, 64, .rc, true, 0x0⟩
def R.PPE_FALLBACK : Reg := ⟨0x400050, 1, 8, 1, 8, 0x0,
  [F.PPE_FALLBACK_COUNT]⟩
def F.PPE_CLIP_COUNT : Fld := ⟨0x400058, 1, 1, 8, 8, 0, 64, .rc, true, 0x0⟩
def R.PPE_CLIP : Reg := ⟨0x400058, 1, 8, 1, 8, 0x0,
  [F.PPE_CLIP_COUNT]⟩
def F.PPE_TEMP_NOW : Fld := ⟨0x400060, 1, 1, 8, 8, 0, 16, .ro, true, 0x0⟩
def F.PPE_TEMP_AT_CAL : Fld := ⟨0x400060, 1, 1, 8, 8, 16, 16, .ro, false, 0x0⟩
def R.PPE_TEMP : Reg := ⟨0x400060, 1, 8, 1, 8, 0x0,
  [F.PPE_TEMP_NOW, F.PPE_TEMP_AT_CAL]⟩
def F.PPE_FAULT_LASER_LANE : Fld := ⟨0x400068, 1, 1, 8, 8, 0, 64, .ro, false, 0x0⟩
def R.PPE_FAULT_LASER : Reg := ⟨0x400068, 1, 8, 1, 8, 0x0,
  [F.PPE_FAULT_LASER_LANE]⟩
def F.PPE_FAULT_COL_COLUMN : Fld := ⟨0x400070, 4, 1, 8, 8, 0, 64, .ro, false, 0x0⟩
def R.PPE_FAULT_COL : Reg := ⟨0x400070, 4, 8, 1, 8, 0x0,
  [F.PPE_FAULT_COL_COLUMN]⟩
def F.PPE_DARK_DARK : Fld := ⟨0x410000, 16384, 1, 8, 8, 0, 16, .rw, false, 0x0⟩
def R.PPE_DARK : Reg := ⟨0x410000, 16384, 8, 1, 8, 0x0,
  [F.PPE_DARK_DARK]⟩
def F.PPE_GAIN_GAIN : Fld := ⟨0x430000, 320, 1, 8, 8, 0, 16, .rw, false, 0x4000⟩
def R.PPE_GAIN : Reg := ⟨0x430000, 320, 8, 1, 8, 0x4000,
  [F.PPE_GAIN_GAIN]⟩
def F.PPE_XT_COEF0 : Fld := ⟨0x440000, 256, 144, 1152, 8, 0, 16, .rw, false, 0x0⟩
def F.PPE_XT_COEF1 : Fld := ⟨0x440000, 256, 144, 1152, 8, 16, 16, .rw, false, 0x0⟩
def F.PPE_XT_COEF2 : Fld := ⟨0x440000, 256, 144, 1152, 8, 32, 16, .rw, false, 0x0⟩
def F.PPE_XT_COEF3 : Fld := ⟨0x440000, 256, 144, 1152, 8, 48, 16, .rw, false, 0x0⟩
def R.PPE_XT : Reg := ⟨0x440000, 256, 1152, 144, 8, 0x0,
  [F.PPE_XT_COEF0, F.PPE_XT_COEF1, F.PPE_XT_COEF2, F.PPE_XT_COEF3]⟩
def F.CMP_STATUS_ENC_UP : Fld := ⟨0x300000, 1, 1, 8, 8, 0, 32, .ro, true, 0x0⟩
def F.CMP_STATUS_DEC_UP : Fld := ⟨0x300000, 1, 1, 8, 8, 32, 32, .ro, true, 0x0⟩
def R.CMP_STATUS : Reg := ⟨0x300000, 1, 8, 1, 8, 0x0,
  [F.CMP_STATUS_ENC_UP, F.CMP_STATUS_DEC_UP]⟩
def F.CMP_EVENTS_SATURATED : Fld := ⟨0x300008, 1, 1, 8, 8, 0, 1, .w1c, false, 0x0⟩
def F.CMP_EVENTS_NONFINITE : Fld := ⟨0x300008, 1, 1, 8, 8, 1, 1, .w1c, false, 0x0⟩
def F.CMP_EVENTS_LENGTH : Fld := ⟨0x300008, 1, 1, 8, 8, 2, 1, .w1c, false, 0x0⟩
def F.CMP_EVENTS_TABLE_GONE : Fld := ⟨0x300008, 1, 1, 8, 8, 3, 1, .w1c, false, 0x0⟩
def F.CMP_EVENTS_PIN_WAIT : Fld := ⟨0x300008, 1, 1, 8, 8, 4, 1, .w1c, false, 0x0⟩
def F.CMP_EVENTS_CONFLICT : Fld := ⟨0x300008, 1, 1, 8, 8, 5, 1, .w1c, false, 0x0⟩
def R.CMP_EVENTS : Reg := ⟨0x300008, 1, 8, 1, 8, 0x0,
  [F.CMP_EVENTS_SATURATED, F.CMP_EVENTS_NONFINITE, F.CMP_EVENTS_LENGTH, F.CMP_EVENTS_TABLE_GONE, F.CMP_EVENTS_PIN_WAIT, F.CMP_EVENTS_CONFLICT]⟩
def F.CMP_ENC_BLOCKS_COUNT : Fld := ⟨0x300010, 1, 1, 8, 8, 0, 64, .rc, true, 0x0⟩
def R.CMP_ENC_BLOCKS : Reg := ⟨0x300010, 1, 8, 1, 8, 0x0,
  [F.CMP_ENC_BLOCKS_COUNT]⟩
def F.CMP_DEC_BLOCKS_COUNT : Fld := ⟨0x300018, 1, 1, 8, 8, 0, 64, .rc, true, 0x0⟩
def R.CMP_DEC_BLOCKS : Reg := ⟨0x300018, 1, 8, 1, 8, 0x0,
  [F.CMP_DEC_BLOCKS_COUNT]⟩
def F.CMP_SATURATED_COUNT : Fld := ⟨0x300020, 1, 1, 8, 8, 0, 64, .rc, true, 0x0⟩
def R.CMP_SATURATED : Reg := ⟨0x300020, 1, 8, 1, 8, 0x0,
  [F.CMP_SATURATED_COUNT]⟩
def F.CMP_NONFINITE_COUNT : Fld := ⟨0x300028, 1, 1, 8, 8, 0, 64, .rc, true, 0x0⟩
def R.CMP_NONFINITE : Reg := ⟨0x300028, 1, 8, 1, 8, 0x0,
  [F.CMP_NONFINITE_COUNT]⟩
def F.CMP_LENGTH_COUNT : Fld := ⟨0x300030, 1, 1, 8, 8, 0, 64, .rc, true, 0x0⟩
def R.CMP_LENGTH : Reg := ⟨0x300030, 1, 8, 1, 8, 0x0,
  [F.CMP_LENGTH_COUNT]⟩
def F.CMP_REREQUEST_COUNT : Fld := ⟨0x300038, 1, 1, 8, 8, 0, 64, .rc, true, 0x0⟩
def R.CMP_REREQUEST : Reg := ⟨0x300038, 1, 8, 1, 8, 0x0,
  [F.CMP_REREQUEST_COUNT]⟩
def F.CMP_TABLE_GONE_COUNT : Fld := ⟨0x300040, 1, 1, 8, 8, 0, 64, .rc, true, 0x0⟩
def R.CMP_TABLE_GONE : Reg := ⟨0x300040, 1, 8, 1, 8, 0x0,
  [F.CMP_TABLE_GONE_COUNT]⟩
def F.CMP_FIRSTPASS_COUNT : Fld := ⟨0x300048, 1, 1, 8, 8, 0, 64, .rc, true, 0x0⟩
def R.CMP_FIRSTPASS : Reg := ⟨0x300048, 1, 8, 1, 8, 0x0,
  [F.CMP_FIRSTPASS_COUNT]⟩
def F.CMP_LAST_FAIL_TAG : Fld := ⟨0x300050, 1, 1, 8, 8, 0, 64, .ro, true, 0x0⟩
def R.CMP_LAST_FAIL : Reg := ⟨0x300050, 1, 8, 1, 8, 0x0,
  [F.CMP_LAST_FAIL_TAG]⟩
def F.CMP_LAST_FAIL_INFO_STATUS : Fld := ⟨0x300058, 1, 1, 8, 8, 0, 8, .ro, false, 0x0⟩
def F.CMP_LAST_FAIL_INFO_GEN : Fld := ⟨0x300058, 1, 1, 8, 8, 8, 8, .ro, false, 0x0⟩
def F.CMP_LAST_FAIL_INFO_CHECK : Fld := ⟨0x300058, 1, 1, 8, 8, 24, 8, .ro, false, 0x0⟩
def F.CMP_LAST_FAIL_INFO_BLOCK : Fld := ⟨0x300058, 1, 1, 8, 8, 32, 32, .ro, false, 0x0⟩
def R.CMP_LAST_FAIL_INFO : Reg := ⟨0x300058, 1, 8, 1, 8, 0x0,
  [F.CMP_LAST_FAIL_INFO_STATUS, F.CMP_LAST_FAIL_INFO_GEN, F.CMP_LAST_FAIL_INFO_CHECK, F.CMP_LAST_FAIL_INFO_BLOCK]⟩
def F.CMP_SLOTS_DECLARED : Fld := ⟨0x300060, 1, 1, 8, 8, 0, 17, .ro, false, 0x0⟩
def F.CMP_SLOTS_PINNED : Fld := ⟨0x300060, 1, 1, 8, 8, 32, 17, .ro, true, 0x0⟩
def R.CMP_SLOTS : Reg := ⟨0x300060, 1, 8, 1, 8, 0x0,
  [F.CMP_SLOTS_DECLARED, F.CMP_SLOTS_PINNED]⟩
def F.CMP_SLOT_QUERY_SLOT : Fld := ⟨0x300068, 1, 1, 8, 8, 0, 16, .rw, false, 0x0⟩
def R.CMP_SLOT_QUERY : Reg := ⟨0x300068, 1, 8, 1, 8, 0x0,
  [F.CMP_SLOT_QUERY_SLOT]⟩
def F.CMP_SLOT_STATE_CURRENT : Fld := ⟨0x300070, 1, 1, 8, 8, 0, 8, .ro, true, 0x0⟩
def F.CMP_SLOT_STATE_PREVIOUS : Fld := ⟨0x300070, 1, 1, 8, 8, 8, 8, .ro, true, 0x0⟩
def F.CMP_SLOT_STATE_CUR_LIVE : Fld := ⟨0x300070, 1, 1, 8, 8, 16, 1, .ro, true, 0x0⟩
def F.CMP_SLOT_STATE_PREV_LIVE : Fld := ⟨0x300070, 1, 1, 8, 8, 17, 1, .ro, true, 0x0⟩
def F.CMP_SLOT_STATE_CUR_ACKED : Fld := ⟨0x300070, 1, 1, 8, 8, 18, 1, .ro, true, 0x0⟩
def F.CMP_SLOT_STATE_CONFLICTED : Fld := ⟨0x300070, 1, 1, 8, 8, 19, 1, .ro, true, 0x0⟩
def F.CMP_SLOT_STATE_WAITING : Fld := ⟨0x300070, 1, 1, 8, 8, 20, 1, .ro, true, 0x0⟩
def F.CMP_SLOT_STATE_PINS : Fld := ⟨0x300070, 1, 1, 8, 8, 32, 32, .ro, true, 0x0⟩
def R.CMP_SLOT_STATE : Reg := ⟨0x300070, 1, 8, 1, 8, 0x0,
  [F.CMP_SLOT_STATE_CURRENT, F.CMP_SLOT_STATE_PREVIOUS, F.CMP_SLOT_STATE_CUR_LIVE, F.CMP_SLOT_STATE_PREV_LIVE, F.CMP_SLOT_STATE_CUR_ACKED, F.CMP_SLOT_STATE_CONFLICTED, F.CMP_SLOT_STATE_WAITING, F.CMP_SLOT_STATE_PINS]⟩
def F.COL_STATUS_ENTRIES : Fld := ⟨0x500000, 1, 1, 8, 8, 0, 15, .ro, false, 0x0⟩
def F.COL_STATUS_ADHOC_RUNNING : Fld := ⟨0x500000, 1, 1, 8, 8, 16, 16, .ro, true, 0x0⟩
def F.COL_STATUS_HELD : Fld := ⟨0x500000, 1, 1, 8, 8, 32, 13, .ro, true, 0x0⟩
def F.COL_STATUS_WARN : Fld := ⟨0x500000, 1, 1, 8, 8, 48, 1, .ro, true, 0x0⟩
def F.COL_STATUS_BACKPRESSURE : Fld := ⟨0x500000, 1, 1, 8, 8, 49, 1, .ro, true, 0x0⟩
def F.COL_STATUS_HOLD_MODE : Fld := ⟨0x500000, 1, 1, 8, 8, 50, 1, .ro, false, 0x0⟩
def R.COL_STATUS : Reg := ⟨0x500000, 1, 8, 1, 8, 0x0,
  [F.COL_STATUS_ENTRIES, F.COL_STATUS_ADHOC_RUNNING, F.COL_STATUS_HELD, F.COL_STATUS_WARN, F.COL_STATUS_BACKPRESSURE, F.COL_STATUS_HOLD_MODE]⟩
def F.COL_ADHOC_POOL_SIZE : Fld := ⟨0x500008, 1, 1, 8, 8, 0, 32, .ro, false, 0x0⟩
def F.COL_ADHOC_POOL_CLAIMED : Fld := ⟨0x500008, 1, 1, 8, 8, 32, 32, .ro, true, 0x0⟩
def R.COL_ADHOC_POOL : Reg := ⟨0x500008, 1, 8, 1, 8, 0x0,
  [F.COL_ADHOC_POOL_SIZE, F.COL_ADHOC_POOL_CLAIMED]⟩
def F.COL_PARK_LIMIT : Fld := ⟨0x500010, 1, 1, 8, 8, 0, 16, .rw, false, 0x100⟩
def F.COL_PARK_HOLD : Fld := ⟨0x500010, 1, 1, 8, 8, 16, 16, .rw, false, 0x78⟩
def F.COL_PARK_USED : Fld := ⟨0x500010, 1, 1, 8, 8, 32, 32, .ro, true, 0x0⟩
def R.COL_PARK : Reg := ⟨0x500010, 1, 8, 1, 8, 0x780100,
  [F.COL_PARK_LIMIT, F.COL_PARK_HOLD, F.COL_PARK_USED]⟩
def F.COL_EVENTS_WARN : Fld := ⟨0x500018, 1, 1, 8, 8, 0, 1, .w1c, false, 0x0⟩
def F.COL_EVENTS_BACKPRESSURE : Fld := ⟨0x500018, 1, 1, 8, 8, 1, 1, .w1c, false, 0x0⟩
def F.COL_EVENTS_HELD : Fld := ⟨0x500018, 1, 1, 8, 8, 2, 1, .w1c, false, 0x0⟩
def F.COL_EVENTS_POOL_EMPTY : Fld := ⟨0x500018, 1, 1, 8, 8, 3, 1, .w1c, false, 0x0⟩
def F.COL_EVENTS_PARK_FULL : Fld := ⟨0x500018, 1, 1, 8, 8, 4, 1, .w1c, false, 0x0⟩
def F.COL_EVENTS_PARK_EXPIRED : Fld := ⟨0x500018, 1, 1, 8, 8, 5, 1, .w1c, false, 0x0⟩
def F.COL_EVENTS_REFORMED : Fld := ⟨0x500018, 1, 1, 8, 8, 6, 1, .w1c, false, 0x0⟩
def F.COL_EVENTS_ORDER : Fld := ⟨0x500018, 1, 1, 8, 8, 7, 1, .w1c, false, 0x0⟩
def R.COL_EVENTS : Reg := ⟨0x500018, 1, 8, 1, 8, 0x0,
  [F.COL_EVENTS_WARN, F.COL_EVENTS_BACKPRESSURE, F.COL_EVENTS_HELD, F.COL_EVENTS_POOL_EMPTY, F.COL_EVENTS_PARK_FULL, F.COL_EVENTS_PARK_EXPIRED, F.COL_EVENTS_REFORMED, F.COL_EVENTS_ORDER]⟩
def F.COL_INSTANCES_COUNT : Fld := ⟨0x500020, 1, 1, 8, 8, 0, 64, .rc, true, 0x0⟩
def R.COL_INSTANCES : Reg := ⟨0x500020, 1, 8, 1, 8, 0x0,
  [F.COL_INSTANCES_COUNT]⟩
def F.COL_FAILED_COUNT : Fld := ⟨0x500028, 1, 1, 8, 8, 0, 64, .rc, true, 0x0⟩
def R.COL_FAILED : Reg := ⟨0x500028, 1, 8, 1, 8, 0x0,
  [F.COL_FAILED_COUNT]⟩
def F.COL_HELD_COUNT : Fld := ⟨0x500030, 1, 1, 8, 8, 0, 64, .rc, true, 0x0⟩
def R.COL_HELD : Reg := ⟨0x500030, 1, 8, 1, 8, 0x0,
  [F.COL_HELD_COUNT]⟩
def F.COL_POOL_EMPTY_COUNT : Fld := ⟨0x500038, 1, 1, 8, 8, 0, 64, .rc, true, 0x0⟩
def R.COL_POOL_EMPTY : Reg := ⟨0x500038, 1, 8, 1, 8, 0x0,
  [F.COL_POOL_EMPTY_COUNT]⟩
def F.COL_PARKED_COUNT : Fld := ⟨0x500040, 1, 1, 8, 8, 0, 64, .rc, true, 0x0⟩
def R.COL_PARKED : Reg := ⟨0x500040, 1, 8, 1, 8, 0x0,
  [F.COL_PARKED_COUNT]⟩
def F.COL_PARK_EXPIRED_COUNT : Fld := ⟨0x500048, 1, 1, 8, 8, 0, 64, .rc, true, 0x0⟩
def R.COL_PARK_EXPIRED : Reg := ⟨0x500048, 1, 8, 1, 8, 0x0,
  [F.COL_PARK_EXPIRED_COUNT]⟩
def F.COL_LAST_ADHOC_ID_ID : Fld := ⟨0x500050, 1, 1, 8, 8, 0, 48, .ro, true, 0x0⟩
def R.COL_LAST_ADHOC_ID : Reg := ⟨0x500050, 1, 8, 1, 8, 0x0,
  [F.COL_LAST_ADHOC_ID_ID]⟩
def F.COL_LAST_EXPIRED_ID_ID : Fld := ⟨0x500058, 1, 1, 8, 8, 0, 48, .ro, true, 0x0⟩
def R.COL_LAST_EXPIRED_ID : Reg := ⟨0x500058, 1, 8, 1, 8, 0x0,
  [F.COL_LAST_EXPIRED_ID_ID]⟩
def F.COL_QUERY_INDEX : Fld := ⟨0x500060, 1, 1, 8, 8, 0, 14, .rw, false, 0x0⟩
def R.COL_QUERY : Reg := ⟨0x500060, 1, 8, 1, 8, 0x0,
  [F.COL_QUERY_INDEX]⟩
def F.COL_INST_CHUNKS_DONE : Fld := ⟨0x500068, 1, 1, 8, 8, 0, 24, .ro, true, 0x0⟩
def F.COL_INST_WAITING_NOW : Fld := ⟨0x500068, 1, 1, 8, 8, 24, 16, .ro, true, 0x0⟩
def F.COL_INST_STATE : Fld := ⟨0x500068, 1, 1, 8, 8, 40, 3, .ro, true, 0x0⟩
def R.COL_INST : Reg := ⟨0x500068, 1, 8, 1, 8, 0x0,
  [F.COL_INST_CHUNKS_DONE, F.COL_INST_WAITING_NOW, F.COL_INST_STATE]⟩
def F.COL_INST_STEP_STEP : Fld := ⟨0x500070, 1, 1, 8, 8, 0, 64, .ro, true, 0x0⟩
def R.COL_INST_STEP : Reg := ⟨0x500070, 1, 8, 1, 8, 0x0,
  [F.COL_INST_STEP_STEP]⟩
def F.COL_ENTRY_A_ID : Fld := ⟨0x580000, 16384, 1, 32, 8, 0, 48, .ro, false, 0x0⟩
def F.COL_ENTRY_A_KIND : Fld := ⟨0x580000, 16384, 1, 32, 8, 48, 8, .ro, false, 0x0⟩
def F.COL_ENTRY_A_SITES : Fld := ⟨0x580000, 16384, 1, 32, 8, 56, 8, .ro, false, 0x0⟩
def R.COL_ENTRY_A : Reg := ⟨0x580000, 16384, 32, 1, 8, 0x0,
  [F.COL_ENTRY_A_ID, F.COL_ENTRY_A_KIND, F.COL_ENTRY_A_SITES]⟩
def F.COL_ENTRY_B_RING : Fld := ⟨0x580008, 16384, 1, 32, 8, 0, 64, .ro, false, 0x0⟩
def R.COL_ENTRY_B : Reg := ⟨0x580008, 16384, 32, 1, 8, 0x0,
  [F.COL_ENTRY_B_RING]⟩
def F.COL_ENTRY_C_EPOCH : Fld := ⟨0x580010, 16384, 1, 32, 8, 0, 64, .ro, false, 0x0⟩
def R.COL_ENTRY_C : Reg := ⟨0x580010, 16384, 32, 1, 8, 0x0,
  [F.COL_ENTRY_C_EPOCH]⟩
def F.COL_ENTRY_D_MY_POS : Fld := ⟨0x580018, 16384, 1, 32, 8, 0, 8, .ro, false, 0x0⟩
def F.COL_ENTRY_D_FLAGS : Fld := ⟨0x580018, 16384, 1, 32, 8, 8, 8, .ro, false, 0x0⟩
def F.COL_ENTRY_D_DEPTH : Fld := ⟨0x580018, 16384, 1, 32, 8, 16, 8, .ro, false, 0x0⟩
def F.COL_ENTRY_D_CHUNK_LOG2 : Fld := ⟨0x580018, 16384, 1, 32, 8, 24, 8, .ro, false, 0x0⟩
def F.COL_ENTRY_D_WAITING : Fld := ⟨0x580018, 16384, 1, 32, 8, 32, 16, .ro, false, 0x0⟩
def R.COL_ENTRY_D : Reg := ⟨0x580018, 16384, 32, 1, 8, 0x0,
  [F.COL_ENTRY_D_MY_POS, F.COL_ENTRY_D_FLAGS, F.COL_ENTRY_D_DEPTH, F.COL_ENTRY_D_CHUNK_LOG2, F.COL_ENTRY_D_WAITING]⟩
def F.PEER_STATUS_DECLARED : Fld := ⟨0x600000, 1, 1, 8, 8, 0, 6, .ro, false, 0x0⟩
def F.PEER_STATUS_OPEN : Fld := ⟨0x600000, 1, 1, 8, 8, 32, 32, .ro, true, 0x0⟩
def R.PEER_STATUS : Reg := ⟨0x600000, 1, 8, 1, 8, 0x0,
  [F.PEER_STATUS_DECLARED, F.PEER_STATUS_OPEN]⟩
def F.PEER_ROUTES_A_UP : Fld := ⟨0x600008, 1, 1, 8, 8, 0, 32, .ro, true, 0x0⟩
def F.PEER_ROUTES_B_UP : Fld := ⟨0x600008, 1, 1, 8, 8, 32, 32, .ro, true, 0x0⟩
def R.PEER_ROUTES : Reg := ⟨0x600008, 1, 8, 1, 8, 0x0,
  [F.PEER_ROUTES_A_UP, F.PEER_ROUTES_B_UP]⟩
def F.PEER_TIMING_T_ECLIPSE : Fld := ⟨0x600010, 1, 1, 8, 8, 0, 16, .rw, false, 0x14⟩
def F.PEER_TIMING_SILENCE : Fld := ⟨0x600010, 1, 1, 8, 8, 16, 8, .rw, false, 0x1E⟩
def R.PEER_TIMING : Reg := ⟨0x600010, 1, 8, 1, 8, 0x1E0014,
  [F.PEER_TIMING_T_ECLIPSE, F.PEER_TIMING_SILENCE]⟩
def F.PEER_EPH_CFG_STEP : Fld := ⟨0x600018, 1, 1, 8, 8, 0, 16, .rw, false, 0x64⟩
def F.PEER_EPH_CFG_SAMPLES : Fld := ⟨0x600018, 1, 1, 8, 8, 16, 8, .rw, false, 0x40⟩
def F.PEER_EPH_CFG_PROVE : Fld := ⟨0x600018, 1, 1, 8, 8, 24, 8, .rw, false, 0x40⟩
def R.PEER_EPH_CFG : Reg := ⟨0x600018, 1, 8, 1, 8, 0x40400064,
  [F.PEER_EPH_CFG_STEP, F.PEER_EPH_CFG_SAMPLES, F.PEER_EPH_CFG_PROVE]⟩
def F.PEER_MERIDIAN_READY : Fld := ⟨0x600020, 1, 1, 8, 8, 0, 16, .ro, true, 0x0⟩
def F.PEER_MERIDIAN_REQUIRED : Fld := ⟨0x600020, 1, 1, 8, 8, 16, 16, .ro, false, 0x0⟩
def R.PEER_MERIDIAN : Reg := ⟨0x600020, 1, 8, 1, 8, 0x0,
  [F.PEER_MERIDIAN_READY, F.PEER_MERIDIAN_REQUIRED]⟩
def F.PEER_EVENTS_ECLIPSE : Fld := ⟨0x600028, 1, 1, 8, 8, 0, 1, .w1c, false, 0x0⟩
def F.PEER_EVENTS_OPENED : Fld := ⟨0x600028, 1, 1, 8, 8, 1, 1, .w1c, false, 0x0⟩
def F.PEER_EVENTS_ROUTE_DOWN : Fld := ⟨0x600028, 1, 1, 8, 8, 2, 1, .w1c, false, 0x0⟩
def F.PEER_EVENTS_ROUTE_UP : Fld := ⟨0x600028, 1, 1, 8, 8, 3, 1, .w1c, false, 0x0⟩
def F.PEER_EVENTS_DELAY_STEP : Fld := ⟨0x600028, 1, 1, 8, 8, 4, 1, .w1c, false, 0x0⟩
def F.PEER_EVENTS_THROTTLE : Fld := ⟨0x600028, 1, 1, 8, 8, 5, 1, .w1c, false, 0x0⟩
def F.PEER_EVENTS_RESEND_LIMIT : Fld := ⟨0x600028, 1, 1, 8, 8, 6, 1, .w1c, false, 0x0⟩
def F.PEER_EVENTS_ABANDON : Fld := ⟨0x600028, 1, 1, 8, 8, 7, 1, .w1c, false, 0x0⟩
def F.PEER_EVENTS_HELLO_MISMATCH : Fld := ⟨0x600028, 1, 1, 8, 8, 8, 1, .w1c, false, 0x0⟩
def F.PEER_EVENTS_EPOCH_AHEAD : Fld := ⟨0x600028, 1, 1, 8, 8, 9, 1, .w1c, false, 0x0⟩
def R.PEER_EVENTS : Reg := ⟨0x600028, 1, 8, 1, 8, 0x0,
  [F.PEER_EVENTS_ECLIPSE, F.PEER_EVENTS_OPENED, F.PEER_EVENTS_ROUTE_DOWN, F.PEER_EVENTS_ROUTE_UP, F.PEER_EVENTS_DELAY_STEP, F.PEER_EVENTS_THROTTLE, F.PEER_EVENTS_RESEND_LIMIT, F.PEER_EVENTS_ABANDON, F.PEER_EVENTS_HELLO_MISMATCH, F.PEER_EVENTS_EPOCH_AHEAD]⟩
def F.PEER_CRC_ERR_COUNT : Fld := ⟨0x600030, 1, 1, 8, 8, 0, 64, .rc, true, 0x0⟩
def R.PEER_CRC_ERR : Reg := ⟨0x600030, 1, 8, 1, 8, 0x0,
  [F.PEER_CRC_ERR_COUNT]⟩
def F.PEER_PROTO_ERR_COUNT : Fld := ⟨0x600038, 1, 1, 8, 8, 0, 64, .rc, true, 0x0⟩
def R.PEER_PROTO_ERR : Reg := ⟨0x600038, 1, 8, 1, 8, 0x0,
  [F.PEER_PROTO_ERR_COUNT]⟩
def F.PEER_KEY_UNKNOWN_COUNT : Fld := ⟨0x600040, 1, 1, 8, 8, 0, 64, .rc, true, 0x0⟩
def R.PEER_KEY_UNKNOWN : Reg := ⟨0x600040, 1, 8, 1, 8, 0x0,
  [F.PEER_KEY_UNKNOWN_COUNT]⟩
def F.PEER_OUT_WINDOW_COUNT : Fld := ⟨0x600048, 1, 1, 8, 8, 0, 64, .rc, true, 0x0⟩
def R.PEER_OUT_WINDOW : Reg := ⟨0x600048, 1, 8, 1, 8, 0x0,
  [F.PEER_OUT_WINDOW_COUNT]⟩
def F.PEER_DUP_COUNT : Fld := ⟨0x600050, 1, 1, 8, 8, 0, 64, .rc, true, 0x0⟩
def R.PEER_DUP : Reg := ⟨0x600050, 1, 8, 1, 8, 0x0,
  [F.PEER_DUP_COUNT]⟩
def F.PEER_EPOCH_AHEAD_COUNT : Fld := ⟨0x600058, 1, 1, 8, 8, 0, 64, .rc, true, 0x0⟩
def R.PEER_EPOCH_AHEAD : Reg := ⟨0x600058, 1, 8, 1, 8, 0x0,
  [F.PEER_EPOCH_AHEAD_COUNT]⟩
def F.PEER_SESSn_CFG_PEER_SITE : Fld := ⟨0x601000, 32, 1, 256, 8, 0, 4, .ro, false, 0x0⟩
def F.PEER_SESSn_CFG_PEER_ROLE : Fld := ⟨0x601000, 32, 1, 256, 8, 8, 8, .ro, false, 0x0⟩
def F.PEER_SESSn_CFG_TX_SLOT : Fld := ⟨0x601000, 32, 1, 256, 8, 16, 8, .ro, false, 0x0⟩
def F.PEER_SESSn_CFG_RX_SLOT_PEER : Fld := ⟨0x601000, 32, 1, 256, 8, 24, 8, .ro, false, 0x0⟩
def F.PEER_SESSn_CFG_RATE : Fld := ⟨0x601000, 32, 1, 256, 8, 32, 16, .ro, false, 0x0⟩
def F.PEER_SESSn_CFG_A_SHARE : Fld := ⟨0x601000, 32, 1, 256, 8, 48, 16, .ro, false, 0x0⟩
def R.PEER_SESSn_CFG : Reg := ⟨0x601000, 32, 256, 1, 8, 0x0,
  [F.PEER_SESSn_CFG_PEER_SITE, F.PEER_SESSn_CFG_PEER_ROLE, F.PEER_SESSn_CFG_TX_SLOT, F.PEER_SESSn_CFG_RX_SLOT_PEER, F.PEER_SESSn_CFG_RATE, F.PEER_SESSn_CFG_A_SHARE]⟩
def F.PEER_SESSn_STATE_STATE : Fld := ⟨0x601008, 32, 1, 256, 8, 0, 3, .ro, true, 0x0⟩
def F.PEER_SESSn_STATE_THROTTLED : Fld := ⟨0x601008, 32, 1, 256, 8, 3, 1, .ro, true, 0x0⟩
def F.PEER_SESSn_STATE_ROUTE_A : Fld := ⟨0x601008, 32, 1, 256, 8, 4, 2, .ro, true, 0x0⟩
def F.PEER_SESSn_STATE_ROUTE_B : Fld := ⟨0x601008, 32, 1, 256, 8, 6, 2, .ro, true, 0x0⟩
def F.PEER_SESSn_STATE_EPOCH_WAIT : Fld := ⟨0x601008, 32, 1, 256, 8, 8, 1, .ro, true, 0x0⟩
def R.PEER_SESSn_STATE : Reg := ⟨0x601008, 32, 256, 1, 8, 0x0,
  [F.PEER_SESSn_STATE_STATE, F.PEER_SESSn_STATE_THROTTLED, F.PEER_SESSn_STATE_ROUTE_A, F.PEER_SESSn_STATE_ROUTE_B, F.PEER_SESSn_STATE_EPOCH_WAIT]⟩
def F.PEER_SESSn_CTRL_A_DISABLE : Fld := ⟨0x601010, 32, 1, 256, 8, 0, 1, .rw, false, 0x0⟩
def F.PEER_SESSn_CTRL_B_DISABLE : Fld := ⟨0x601010, 32, 1, 256, 8, 1, 1, .rw, false, 0x0⟩
def R.PEER_SESSn_CTRL : Reg := ⟨0x601010, 32, 256, 1, 8, 0x0,
  [F.PEER_SESSn_CTRL_A_DISABLE, F.PEER_SESSn_CTRL_B_DISABLE]⟩
def F.PEER_SESSn_TX_NEXT : Fld := ⟨0x601018, 32, 1, 256, 8, 0, 32, .ro, true, 0x0⟩
def F.PEER_SESSn_TX_OLDEST : Fld := ⟨0x601018, 32, 1, 256, 8, 32, 32, .ro, true, 0x0⟩
def R.PEER_SESSn_TX : Reg := ⟨0x601018, 32, 256, 1, 8, 0x0,
  [F.PEER_SESSn_TX_NEXT, F.PEER_SESSn_TX_OLDEST]⟩
def F.PEER_SESSn_RX_CUM : Fld := ⟨0x601020, 32, 1, 256, 8, 0, 32, .ro, true, 0x0⟩
def F.PEER_SESSn_RX_HIGH : Fld := ⟨0x601020, 32, 1, 256, 8, 32, 32, .ro, true, 0x0⟩
def R.PEER_SESSn_RX : Reg := ⟨0x601020, 32, 256, 1, 8, 0x0,
  [F.PEER_SESSn_RX_CUM, F.PEER_SESSn_RX_HIGH]⟩
def F.PEER_SESSn_WIN_A_WMAX : Fld := ⟨0x601028, 32, 1, 256, 8, 0, 27, .ro, false, 0x0⟩
def F.PEER_SESSn_WIN_A_NOW : Fld := ⟨0x601028, 32, 1, 256, 8, 32, 27, .ro, true, 0x0⟩
def R.PEER_SESSn_WIN_A : Reg := ⟨0x601028, 32, 256, 1, 8, 0x0,
  [F.PEER_SESSn_WIN_A_WMAX, F.PEER_SESSn_WIN_A_NOW]⟩
def F.PEER_SESSn_WIN_B_WMAX : Fld := ⟨0x601030, 32, 1, 256, 8, 0, 27, .ro, false, 0x0⟩
def F.PEER_SESSn_WIN_B_NOW : Fld := ⟨0x601030, 32, 1, 256, 8, 32, 27, .ro, true, 0x0⟩
def R.PEER_SESSn_WIN_B : Reg := ⟨0x601030, 32, 256, 1, 8, 0x0,
  [F.PEER_SESSn_WIN_B_WMAX, F.PEER_SESSn_WIN_B_NOW]⟩
def F.PEER_SESSn_EPH_A_RTT : Fld := ⟨0x601038, 32, 1, 256, 8, 0, 32, .ro, true, 0x0⟩
def F.PEER_SESSn_EPH_A_ONE_WAY : Fld := ⟨0x601038, 32, 1, 256, 8, 32, 32, .ro, true, 0x0⟩
def R.PEER_SESSn_EPH_A : Reg := ⟨0x601038, 32, 256, 1, 8, 0x0,
  [F.PEER_SESSn_EPH_A_RTT, F.PEER_SESSn_EPH_A_ONE_WAY]⟩
def F.PEER_SESSn_EPH_B_RTT : Fld := ⟨0x601040, 32, 1, 256, 8, 0, 32, .ro, true, 0x0⟩
def F.PEER_SESSn_EPH_B_ONE_WAY : Fld := ⟨0x601040, 32, 1, 256, 8, 32, 32, .ro, true, 0x0⟩
def R.PEER_SESSn_EPH_B : Reg := ⟨0x601040, 32, 256, 1, 8, 0x0,
  [F.PEER_SESSn_EPH_B_RTT, F.PEER_SESSn_EPH_B_ONE_WAY]⟩
def F.PEER_SESSn_REPLAY_A_MIB : Fld := ⟨0x601048, 32, 1, 256, 8, 0, 32, .ro, true, 0x0⟩
def F.PEER_SESSn_REPLAY_B_MIB : Fld := ⟨0x601048, 32, 1, 256, 8, 32, 32, .ro, true, 0x0⟩
def R.PEER_SESSn_REPLAY : Reg := ⟨0x601048, 32, 256, 1, 8, 0x0,
  [F.PEER_SESSn_REPLAY_A_MIB, F.PEER_SESSn_REPLAY_B_MIB]⟩
def F.PEER_SESSn_PEER_MERIDIAN_STEP : Fld := ⟨0x601050, 32, 1, 256, 8, 0, 64, .ro, true, 0x0⟩
def R.PEER_SESSn_PEER_MERIDIAN : Reg := ⟨0x601050, 32, 256, 1, 8, 0x0,
  [F.PEER_SESSn_PEER_MERIDIAN_STEP]⟩
def F.PEER_SESSn_LAST_ABANDON_STREAM : Fld := ⟨0x601058, 32, 1, 256, 8, 0, 21, .ro, true, 0x0⟩
def F.PEER_SESSn_LAST_ABANDON_REASON : Fld := ⟨0x601058, 32, 1, 256, 8, 24, 8, .ro, true, 0x0⟩
def F.PEER_SESSn_LAST_ABANDON_CHUNK : Fld := ⟨0x601058, 32, 1, 256, 8, 32, 32, .ro, true, 0x0⟩
def R.PEER_SESSn_LAST_ABANDON : Reg := ⟨0x601058, 32, 256, 1, 8, 0x0,
  [F.PEER_SESSn_LAST_ABANDON_STREAM, F.PEER_SESSn_LAST_ABANDON_REASON, F.PEER_SESSn_LAST_ABANDON_CHUNK]⟩
def F.PEER_SESSn_SENT_COUNT : Fld := ⟨0x601060, 32, 1, 256, 8, 0, 64, .rc, true, 0x0⟩
def R.PEER_SESSn_SENT : Reg := ⟨0x601060, 32, 256, 1, 8, 0x0,
  [F.PEER_SESSn_SENT_COUNT]⟩
def F.PEER_SESSn_RECEIVED_COUNT : Fld := ⟨0x601068, 32, 1, 256, 8, 0, 64, .rc, true, 0x0⟩
def R.PEER_SESSn_RECEIVED : Reg := ⟨0x601068, 32, 256, 1, 8, 0x0,
  [F.PEER_SESSn_RECEIVED_COUNT]⟩
def F.PEER_SESSn_RESENT_COUNT : Fld := ⟨0x601070, 32, 1, 256, 8, 0, 64, .rc, true, 0x0⟩
def R.PEER_SESSn_RESENT : Reg := ⟨0x601070, 32, 256, 1, 8, 0x0,
  [F.PEER_SESSn_RESENT_COUNT]⟩
def F.PEER_SESSn_NAKS_COUNT : Fld := ⟨0x601078, 32, 1, 256, 8, 0, 64, .rc, true, 0x0⟩
def R.PEER_SESSn_NAKS : Reg := ⟨0x601078, 32, 256, 1, 8, 0x0,
  [F.PEER_SESSn_NAKS_COUNT]⟩
def F.PEER_SESSn_TIMEOUTS_COUNT : Fld := ⟨0x601080, 32, 1, 256, 8, 0, 64, .rc, true, 0x0⟩
def R.PEER_SESSn_TIMEOUTS : Reg := ⟨0x601080, 32, 256, 1, 8, 0x0,
  [F.PEER_SESSn_TIMEOUTS_COUNT]⟩
def F.PEER_SESSn_DELAY_STEPS_COUNT : Fld := ⟨0x601088, 32, 1, 256, 8, 0, 64, .rc, true, 0x0⟩
def R.PEER_SESSn_DELAY_STEPS : Reg := ⟨0x601088, 32, 256, 1, 8, 0x0,
  [F.PEER_SESSn_DELAY_STEPS_COUNT]⟩
def F.PEER_SESSn_TAG_FAIL_COUNT : Fld := ⟨0x601090, 32, 1, 256, 8, 0, 64, .rc, true, 0x0⟩
def R.PEER_SESSn_TAG_FAIL : Reg := ⟨0x601090, 32, 256, 1, 8, 0x0,
  [F.PEER_SESSn_TAG_FAIL_COUNT]⟩
def F.PEER_SESSn_THROTTLE_NS_COUNT : Fld := ⟨0x601098, 32, 1, 256, 8, 0, 64, .rc, true, 0x0⟩
def R.PEER_SESSn_THROTTLE_NS : Reg := ⟨0x601098, 32, 256, 1, 8, 0x0,
  [F.PEER_SESSn_THROTTLE_NS_COUNT]⟩
def F.PEER_SESSn_RX_SLOT_SLOT : Fld := ⟨0x6010A0, 32, 1, 256, 8, 0, 8, .ro, false, 0x0⟩
def R.PEER_SESSn_RX_SLOT : Reg := ⟨0x6010A0, 32, 256, 1, 8, 0x0,
  [F.PEER_SESSn_RX_SLOT_SLOT]⟩
def F.PEER_FAULT_CFG_L : Fld := ⟨0x604000, 1, 1, 8, 8, 0, 7, .ro, false, 0x4⟩
def F.PEER_FAULT_CFG_EXACT : Fld := ⟨0x604000, 1, 1, 8, 8, 7, 1, .ro, false, 0x0⟩
def F.PEER_FAULT_CFG_POLICY : Fld := ⟨0x604000, 1, 1, 8, 8, 8, 2, .ro, false, 0x1⟩
def F.PEER_FAULT_CFG_YIELD_RANK : Fld := ⟨0x604000, 1, 1, 8, 8, 10, 4, .ro, false, 0x0⟩
def F.PEER_FAULT_CFG_T_DOWN : Fld := ⟨0x604000, 1, 1, 8, 8, 16, 16, .rw, false, 0x32⟩
def F.PEER_FAULT_CFG_HOLD : Fld := ⟨0x604000, 1, 1, 8, 8, 32, 16, .rw, false, 0x78⟩
def F.PEER_FAULT_CFG_SUSPECT : Fld := ⟨0x604000, 1, 1, 8, 8, 48, 8, .rw, false, 0x14⟩
def R.PEER_FAULT_CFG : Reg := ⟨0x604000, 1, 8, 1, 8, 0x14007800320104,
  [F.PEER_FAULT_CFG_L, F.PEER_FAULT_CFG_EXACT, F.PEER_FAULT_CFG_POLICY, F.PEER_FAULT_CFG_YIELD_RANK, F.PEER_FAULT_CFG_T_DOWN, F.PEER_FAULT_CFG_HOLD, F.PEER_FAULT_CFG_SUSPECT]⟩
def F.PEER_EPOCH_EPOCH : Fld := ⟨0x604008, 1, 1, 8, 8, 0, 64, .ro, false, 0x0⟩
def R.PEER_EPOCH : Reg := ⟨0x604008, 1, 8, 1, 8, 0x0,
  [F.PEER_EPOCH_EPOCH]⟩
def F.PEER_ISLAND_RELEASED : Fld := ⟨0x604010, 1, 1, 8, 8, 0, 7, .ro, true, 0x0⟩
def F.PEER_ISLAND_GATE : Fld := ⟨0x604010, 1, 1, 8, 8, 7, 1, .ro, true, 0x0⟩
def F.PEER_ISLAND_PENDING : Fld := ⟨0x604010, 1, 1, 8, 8, 8, 7, .ro, true, 0x0⟩
def R.PEER_ISLAND : Reg := ⟨0x604010, 1, 8, 1, 8, 0x0,
  [F.PEER_ISLAND_RELEASED, F.PEER_ISLAND_GATE, F.PEER_ISLAND_PENDING]⟩
def F.PEER_JOURNAL_D_MIB : Fld := ⟨0x604018, 1, 1, 8, 8, 0, 32, .ro, true, 0x0⟩
def F.PEER_JOURNAL_X_MIB : Fld := ⟨0x604018, 1, 1, 8, 8, 32, 32, .ro, true, 0x0⟩
def R.PEER_JOURNAL : Reg := ⟨0x604018, 1, 8, 1, 8, 0x0,
  [F.PEER_JOURNAL_D_MIB, F.PEER_JOURNAL_X_MIB]⟩
def F.PEER_RECON_STATE : Fld := ⟨0x604020, 1, 1, 8, 8, 0, 3, .ro, true, 0x0⟩
def F.PEER_RECON_SESSION : Fld := ⟨0x604020, 1, 1, 8, 8, 8, 5, .ro, true, 0x0⟩
def F.PEER_RECON_YIELDER : Fld := ⟨0x604020, 1, 1, 8, 8, 16, 8, .ro, true, 0xFF⟩
def F.PEER_RECON_LOST : Fld := ⟨0x604020, 1, 1, 8, 8, 24, 7, .ro, false, 0x0⟩
def R.PEER_RECON : Reg := ⟨0x604020, 1, 8, 1, 8, 0xFF0000,
  [F.PEER_RECON_STATE, F.PEER_RECON_SESSION, F.PEER_RECON_YIELDER, F.PEER_RECON_LOST]⟩
def F.PEER_HOLD_STATUS_MISSING : Fld := ⟨0x604028, 1, 1, 8, 8, 0, 16, .ro, true, 0x0⟩
def F.PEER_HOLD_STATUS_STALLED : Fld := ⟨0x604028, 1, 1, 8, 8, 16, 1, .ro, true, 0x0⟩
def F.PEER_HOLD_STATUS_EXPIRED : Fld := ⟨0x604028, 1, 1, 8, 8, 17, 1, .ro, false, 0x0⟩
def R.PEER_HOLD_STATUS : Reg := ⟨0x604028, 1, 8, 1, 8, 0x0,
  [F.PEER_HOLD_STATUS_MISSING, F.PEER_HOLD_STATUS_STALLED, F.PEER_HOLD_STATUS_EXPIRED]⟩
def F.PEER_STALL_STEP_STEP : Fld := ⟨0x604030, 1, 1, 8, 8, 0, 64, .ro, false, 0x0⟩
def R.PEER_STALL_STEP : Reg := ⟨0x604030, 1, 8, 1, 8, 0x0,
  [F.PEER_STALL_STEP_STEP]⟩
def F.PEER_MEMBER_QUERY_ROLE : Fld := ⟨0x604038, 1, 1, 8, 8, 0, 8, .rw, false, 0x0⟩
def F.PEER_MEMBER_QUERY_SITE : Fld := ⟨0x604038, 1, 1, 8, 8, 8, 4, .rw, false, 0x0⟩
def R.PEER_MEMBER_QUERY : Reg := ⟨0x604038, 1, 8, 1, 8, 0x0,
  [F.PEER_MEMBER_QUERY_ROLE, F.PEER_MEMBER_QUERY_SITE]⟩
def F.PEER_MEMBER_STATE_STATE : Fld := ⟨0x604040, 1, 1, 8, 8, 0, 3, .ro, true, 0x0⟩
def F.PEER_MEMBER_STATE_REMOVED : Fld := ⟨0x604040, 1, 1, 8, 8, 3, 1, .ro, false, 0x0⟩
def F.PEER_MEMBER_STATE_HOLD_S : Fld := ⟨0x604040, 1, 1, 8, 8, 32, 32, .ro, true, 0x0⟩
def R.PEER_MEMBER_STATE : Reg := ⟨0x604040, 1, 8, 1, 8, 0x0,
  [F.PEER_MEMBER_STATE_STATE, F.PEER_MEMBER_STATE_REMOVED, F.PEER_MEMBER_STATE_HOLD_S]⟩
def F.PEER_MEMBER_FENCE_EPOCH : Fld := ⟨0x604048, 1, 1, 8, 8, 0, 64, .ro, false, 0x0⟩
def R.PEER_MEMBER_FENCE : Reg := ⟨0x604048, 1, 8, 1, 8, 0x0,
  [F.PEER_MEMBER_FENCE_EPOCH]⟩
def F.PEER_MEMBER_DEVICE_DEVICE : Fld := ⟨0x604050, 1, 1, 8, 8, 0, 64, .ro, false, 0x0⟩
def R.PEER_MEMBER_DEVICE : Reg := ⟨0x604050, 1, 8, 1, 8, 0x0,
  [F.PEER_MEMBER_DEVICE_DEVICE]⟩
def F.PEER_FAULT_EVENTS_SUSPECT : Fld := ⟨0x604058, 1, 1, 8, 8, 0, 1, .w1c, false, 0x0⟩
def F.PEER_FAULT_EVENTS_DOWN_PROPOSED : Fld := ⟨0x604058, 1, 1, 8, 8, 1, 1, .w1c, false, 0x0⟩
def F.PEER_FAULT_EVENTS_CONTESTED : Fld := ⟨0x604058, 1, 1, 8, 8, 2, 1, .w1c, false, 0x0⟩
def F.PEER_FAULT_EVENTS_HOLD_EXPIRED : Fld := ⟨0x604058, 1, 1, 8, 8, 3, 1, .w1c, false, 0x0⟩
def F.PEER_FAULT_EVENTS_FENCED_RX : Fld := ⟨0x604058, 1, 1, 8, 8, 4, 1, .w1c, false, 0x0⟩
def F.PEER_FAULT_EVENTS_SELF_FENCED : Fld := ⟨0x604058, 1, 1, 8, 8, 5, 1, .w1c, false, 0x0⟩
def F.PEER_FAULT_EVENTS_GATE : Fld := ⟨0x604058, 1, 1, 8, 8, 6, 1, .w1c, false, 0x0⟩
def F.PEER_FAULT_EVENTS_RECONCILED : Fld := ⟨0x604058, 1, 1, 8, 8, 7, 1, .w1c, false, 0x0⟩
def F.PEER_FAULT_EVENTS_RECON_FAIL : Fld := ⟨0x604058, 1, 1, 8, 8, 8, 1, .w1c, false, 0x0⟩
def F.PEER_FAULT_EVENTS_MEMBERSHIP : Fld := ⟨0x604058, 1, 1, 8, 8, 9, 1, .w1c, false, 0x0⟩
def R.PEER_FAULT_EVENTS : Reg := ⟨0x604058, 1, 8, 1, 8, 0x0,
  [F.PEER_FAULT_EVENTS_SUSPECT, F.PEER_FAULT_EVENTS_DOWN_PROPOSED, F.PEER_FAULT_EVENTS_CONTESTED, F.PEER_FAULT_EVENTS_HOLD_EXPIRED, F.PEER_FAULT_EVENTS_FENCED_RX, F.PEER_FAULT_EVENTS_SELF_FENCED, F.PEER_FAULT_EVENTS_GATE, F.PEER_FAULT_EVENTS_RECONCILED, F.PEER_FAULT_EVENTS_RECON_FAIL, F.PEER_FAULT_EVENTS_MEMBERSHIP]⟩
def F.PEER_FENCED_COUNT : Fld := ⟨0x604060, 1, 1, 8, 8, 0, 64, .rc, true, 0x0⟩
def R.PEER_FENCED : Reg := ⟨0x604060, 1, 8, 1, 8, 0x0,
  [F.PEER_FENCED_COUNT]⟩
def F.PEER_ISLAND_STEPS_COUNT : Fld := ⟨0x604068, 1, 1, 8, 8, 0, 64, .rc, true, 0x0⟩
def R.PEER_ISLAND_STEPS : Reg := ⟨0x604068, 1, 8, 1, 8, 0x0,
  [F.PEER_ISLAND_STEPS_COUNT]⟩
def F.PEER_RECONCILES_COUNT : Fld := ⟨0x604070, 1, 1, 8, 8, 0, 64, .rc, true, 0x0⟩
def R.PEER_RECONCILES : Reg := ⟨0x604070, 1, 8, 1, 8, 0x0,
  [F.PEER_RECONCILES_COUNT]⟩
def F.LINE_STATUS_IN_SERVICE : Fld := ⟨0x700000, 1, 1, 8, 8, 0, 16, .ro, true, 0x0⟩
def F.LINE_STATUS_GFP_SYNC : Fld := ⟨0x700000, 1, 1, 8, 8, 16, 16, .ro, true, 0x0⟩
def F.LINE_STATUS_ALERT : Fld := ⟨0x700000, 1, 1, 8, 8, 32, 16, .ro, true, 0x0⟩
def R.LINE_STATUS : Reg := ⟨0x700000, 1, 8, 1, 8, 0x0,
  [F.LINE_STATUS_IN_SERVICE, F.LINE_STATUS_GFP_SYNC, F.LINE_STATUS_ALERT]⟩
def F.LINE_EVENTS_PORT_FAILED : Fld := ⟨0x700008, 1, 1, 8, 8, 0, 1, .w1c, false, 0x0⟩
def F.LINE_EVENTS_PORT_RESTORED : Fld := ⟨0x700008, 1, 1, 8, 8, 1, 1, .w1c, false, 0x0⟩
def F.LINE_EVENTS_FAILURE : Fld := ⟨0x700008, 1, 1, 8, 8, 2, 1, .w1c, false, 0x0⟩
def F.LINE_EVENTS_TTI_CHANGE : Fld := ⟨0x700008, 1, 1, 8, 8, 3, 1, .w1c, false, 0x0⟩
def F.LINE_EVENTS_MOD_ALERT : Fld := ⟨0x700008, 1, 1, 8, 8, 4, 1, .w1c, false, 0x0⟩
def R.LINE_EVENTS : Reg := ⟨0x700008, 1, 8, 1, 8, 0x0,
  [F.LINE_EVENTS_PORT_FAILED, F.LINE_EVENTS_PORT_RESTORED, F.LINE_EVENTS_FAILURE, F.LINE_EVENTS_TTI_CHANGE, F.LINE_EVENTS_MOD_ALERT]⟩
def F.LINE_GCS_MAP_PORT : Fld := ⟨0x700010, 4, 1, 8, 8, 0, 4, .rw, false, 0x0⟩
def F.LINE_GCS_MAP_CHANNEL : Fld := ⟨0x700010, 4, 1, 8, 8, 4, 2, .rw, false, 0x0⟩
def R.LINE_GCS_MAP : Reg := ⟨0x700010, 4, 8, 1, 8, 0x0,
  [F.LINE_GCS_MAP_PORT, F.LINE_GCS_MAP_CHANNEL]⟩
def F.LINE_LMON_PORT : Fld := ⟨0x700030, 1, 1, 8, 8, 0, 4, .rw, false, 0x0⟩
def F.LINE_LMON_ENABLE : Fld := ⟨0x700030, 1, 1, 8, 8, 4, 1, .rw, false, 0x0⟩
def R.LINE_LMON : Reg := ⟨0x700030, 1, 8, 1, 8, 0x0,
  [F.LINE_LMON_PORT, F.LINE_LMON_ENABLE]⟩
def F.LINE_MOD_CMD_PORT : Fld := ⟨0x700038, 1, 1, 8, 8, 0, 4, .rw, false, 0x0⟩
def F.LINE_MOD_CMD_WRITE : Fld := ⟨0x700038, 1, 1, 8, 8, 4, 1, .rw, false, 0x0⟩
def F.LINE_MOD_CMD_GO : Fld := ⟨0x700038, 1, 1, 8, 8, 5, 1, .wo, false, 0x0⟩
def F.LINE_MOD_CMD_BUSY : Fld := ⟨0x700038, 1, 1, 8, 8, 6, 1, .ro, true, 0x0⟩
def F.LINE_MOD_CMD_RESULT : Fld := ⟨0x700038, 1, 1, 8, 8, 8, 8, .ro, false, 0x0⟩
def F.LINE_MOD_CMD_PAGE : Fld := ⟨0x700038, 1, 1, 8, 8, 16, 8, .rw, false, 0x0⟩
def F.LINE_MOD_CMD_OFFSET : Fld := ⟨0x700038, 1, 1, 8, 8, 24, 8, .rw, false, 0x0⟩
def F.LINE_MOD_CMD_DATA : Fld := ⟨0x700038, 1, 1, 8, 8, 32, 8, .rw, false, 0x0⟩
def R.LINE_MOD_CMD : Reg := ⟨0x700038, 1, 8, 1, 8, 0x0,
  [F.LINE_MOD_CMD_PORT, F.LINE_MOD_CMD_WRITE, F.LINE_MOD_CMD_GO, F.LINE_MOD_CMD_BUSY, F.LINE_MOD_CMD_RESULT, F.LINE_MOD_CMD_PAGE, F.LINE_MOD_CMD_OFFSET, F.LINE_MOD_CMD_DATA]⟩
def F.LINE_Pp_CFG_ENABLE : Fld := ⟨0x701000, 16, 1, 512, 8, 0, 1, .rw, false, 0x0⟩
def F.LINE_Pp_CFG_FEC_HERE : Fld := ⟨0x701000, 16, 1, 512, 8, 1, 1, .rw, false, 0x1⟩
def F.LINE_Pp_CFG_PFCS : Fld := ⟨0x701000, 16, 1, 512, 8, 2, 1, .rw, false, 0x0⟩
def F.LINE_Pp_CFG_LOCK : Fld := ⟨0x701000, 16, 1, 512, 8, 3, 1, .rw, false, 0x0⟩
def F.LINE_Pp_CFG_DELTA : Fld := ⟨0x701000, 16, 1, 512, 8, 4, 3, .rw, false, 0x1⟩
def F.LINE_Pp_CFG_TIM_ACT : Fld := ⟨0x701000, 16, 1, 512, 8, 7, 1, .rw, false, 0x0⟩
def F.LINE_Pp_CFG_TIM_MODE : Fld := ⟨0x701000, 16, 1, 512, 8, 8, 2, .rw, false, 0x0⟩
def F.LINE_Pp_CFG_GID : Fld := ⟨0x701000, 16, 1, 512, 8, 16, 16, .rw, false, 0x0⟩
def R.LINE_Pp_CFG : Reg := ⟨0x701000, 16, 512, 1, 8, 0x12,
  [F.LINE_Pp_CFG_ENABLE, F.LINE_Pp_CFG_FEC_HERE, F.LINE_Pp_CFG_PFCS, F.LINE_Pp_CFG_LOCK, F.LINE_Pp_CFG_DELTA, F.LINE_Pp_CFG_TIM_ACT, F.LINE_Pp_CFG_TIM_MODE, F.LINE_Pp_CFG_GID]⟩
def F.LINE_Pp_INTEG_FAST_SET : Fld := ⟨0x701008, 16, 1, 512, 8, 0, 8, .rw, false, 0x10⟩
def F.LINE_Pp_INTEG_FAST_CLEAR : Fld := ⟨0x701008, 16, 1, 512, 8, 8, 8, .rw, false, 0x64⟩
def F.LINE_Pp_INTEG_REP_SET : Fld := ⟨0x701008, 16, 1, 512, 8, 16, 16, .rw, false, 0x19⟩
def F.LINE_Pp_INTEG_REP_CLEAR : Fld := ⟨0x701008, 16, 1, 512, 8, 32, 16, .rw, false, 0x64⟩
def R.LINE_Pp_INTEG : Reg := ⟨0x701008, 16, 512, 1, 8, 0x6400196410,
  [F.LINE_Pp_INTEG_FAST_SET, F.LINE_Pp_INTEG_FAST_CLEAR, F.LINE_Pp_INTEG_REP_SET, F.LINE_Pp_INTEG_REP_CLEAR]⟩
def F.LINE_Pp_DEFECT_DEFECT : Fld := ⟨0x701010, 16, 1, 512, 8, 0, 10, .ro, true, 0x0⟩
def R.LINE_Pp_DEFECT : Reg := ⟨0x701010, 16, 512, 1, 8, 0x0,
  [F.LINE_Pp_DEFECT_DEFECT]⟩
def F.LINE_Pp_FAILURE_FAILURE : Fld := ⟨0x701018, 16, 1, 512, 8, 0, 10, .ro, true, 0x0⟩
def R.LINE_Pp_FAILURE : Reg := ⟨0x701018, 16, 512, 1, 8, 0x0,
  [F.LINE_Pp_FAILURE_FAILURE]⟩
def F.LINE_Pp_LATCH_LATCH : Fld := ⟨0x701020, 16, 1, 512, 8, 0, 10, .w1c, false, 0x0⟩
def R.LINE_Pp_LATCH : Reg := ⟨0x701020, 16, 512, 1, 8, 0x0,
  [F.LINE_Pp_LATCH_LATCH]⟩
def F.LINE_Pp_TTI_EXP_TTI : Fld := ⟨0x701040, 16, 8, 512, 8, 0, 64, .rw, false, 0x0⟩
def R.LINE_Pp_TTI_EXP : Reg := ⟨0x701040, 16, 512, 8, 8, 0x0,
  [F.LINE_Pp_TTI_EXP_TTI]⟩
def F.LINE_Pp_TTI_TX_TTI : Fld := ⟨0x701080, 16, 8, 512, 8, 0, 64, .rw, false, 0x0⟩
def R.LINE_Pp_TTI_TX : Reg := ⟨0x701080, 16, 512, 8, 8, 0x0,
  [F.LINE_Pp_TTI_TX_TTI]⟩
def F.LINE_Pp_TTI_RX_TTI : Fld := ⟨0x7010C0, 16, 8, 512, 8, 0, 64, .ro, true, 0x0⟩
def R.LINE_Pp_TTI_RX : Reg := ⟨0x7010C0, 16, 512, 8, 8, 0x0,
  [F.LINE_Pp_TTI_RX_TTI]⟩
def F.LINE_Pp_BIP_SM_COUNT : Fld := ⟨0x701100, 16, 1, 512, 8, 0, 64, .rc, true, 0x0⟩
def R.LINE_Pp_BIP_SM : Reg := ⟨0x701100, 16, 512, 1, 8, 0x0,
  [F.LINE_Pp_BIP_SM_COUNT]⟩
def F.LINE_Pp_BIP_PM_COUNT : Fld := ⟨0x701108, 16, 1, 512, 8, 0, 64, .rc, true, 0x0⟩
def R.LINE_Pp_BIP_PM : Reg := ⟨0x701108, 16, 512, 1, 8, 0x0,
  [F.LINE_Pp_BIP_PM_COUNT]⟩
def F.LINE_Pp_BEI_SM_COUNT : Fld := ⟨0x701110, 16, 1, 512, 8, 0, 64, .rc, true, 0x0⟩
def R.LINE_Pp_BEI_SM : Reg := ⟨0x701110, 16, 512, 1, 8, 0x0,
  [F.LINE_Pp_BEI_SM_COUNT]⟩
def F.LINE_Pp_BEI_PM_COUNT : Fld := ⟨0x701118, 16, 1, 512, 8, 0, 64, .rc, true, 0x0⟩
def R.LINE_Pp_BEI_PM : Reg := ⟨0x701118, 16, 512, 1, 8, 0x0,
  [F.LINE_Pp_BEI_PM_COUNT]⟩
def F.LINE_Pp_FEC_CORR_COUNT : Fld := ⟨0x701120, 16, 1, 512, 8, 0, 64, .rc, true, 0x0⟩
def R.LINE_Pp_FEC_CORR : Reg := ⟨0x701120, 16, 512, 1, 8, 0x0,
  [F.LINE_Pp_FEC_CORR_COUNT]⟩
def F.LINE_Pp_FEC_UNCORR_COUNT : Fld := ⟨0x701128, 16, 1, 512, 8, 0, 64, .rc, true, 0x0⟩
def R.LINE_Pp_FEC_UNCORR : Reg := ⟨0x701128, 16, 512, 1, 8, 0x0,
  [F.LINE_Pp_FEC_UNCORR_COUNT]⟩
def F.LINE_Pp_GFP_FRAMES_COUNT : Fld := ⟨0x701130, 16, 1, 512, 8, 0, 64, .rc, true, 0x0⟩
def R.LINE_Pp_GFP_FRAMES : Reg := ⟨0x701130, 16, 512, 1, 8, 0x0,
  [F.LINE_Pp_GFP_FRAMES_COUNT]⟩
def F.LINE_Pp_GFP_CHEC_CORR_COUNT : Fld := ⟨0x701138, 16, 1, 512, 8, 0, 64, .rc, true, 0x0⟩
def R.LINE_Pp_GFP_CHEC_CORR : Reg := ⟨0x701138, 16, 512, 1, 8, 0x0,
  [F.LINE_Pp_GFP_CHEC_CORR_COUNT]⟩
def F.LINE_Pp_GFP_DISCARD_COUNT : Fld := ⟨0x701140, 16, 1, 512, 8, 0, 64, .rc, true, 0x0⟩
def R.LINE_Pp_GFP_DISCARD : Reg := ⟨0x701140, 16, 512, 1, 8, 0x0,
  [F.LINE_Pp_GFP_DISCARD_COUNT]⟩
def F.FAB_STATUS_TILE_UP : Fld := ⟨0x800000, 1, 1, 8, 8, 0, 4, .ro, true, 0x0⟩
def F.FAB_STATUS_CIRCUITS_UP : Fld := ⟨0x800000, 1, 1, 8, 8, 16, 13, .ro, true, 0x0⟩
def F.FAB_STATUS_PKT_UP : Fld := ⟨0x800000, 1, 1, 8, 8, 32, 9, .ro, true, 0x0⟩
def R.FAB_STATUS : Reg := ⟨0x800000, 1, 8, 1, 8, 0x0,
  [F.FAB_STATUS_TILE_UP, F.FAB_STATUS_CIRCUITS_UP, F.FAB_STATUS_PKT_UP]⟩
def F.FAB_COORD_COORD : Fld := ⟨0x800008, 1, 1, 8, 8, 0, 40, .ro, false, 0x0⟩
def R.FAB_COORD : Reg := ⟨0x800008, 1, 8, 1, 8, 0x0,
  [F.FAB_COORD_COORD]⟩
def F.FAB_BRIDGE_CFG_BASE : Fld := ⟨0x800010, 1, 1, 8, 8, 0, 21, .ro, false, 0x0⟩
def F.FAB_BRIDGE_CFG_LANES : Fld := ⟨0x800010, 1, 1, 8, 8, 21, 8, .ro, false, 0x1⟩
def F.FAB_BRIDGE_CFG_GATEWAYS : Fld := ⟨0x800010, 1, 1, 8, 8, 29, 7, .ro, false, 0x1⟩
def F.FAB_BRIDGE_CFG_ROLE : Fld := ⟨0x800010, 1, 1, 8, 8, 36, 6, .ro, false, 0x0⟩
def F.FAB_BRIDGE_CFG_CHECK : Fld := ⟨0x800010, 1, 1, 8, 8, 42, 1, .rw, false, 0x1⟩
def F.FAB_BRIDGE_CFG_FLUSH : Fld := ⟨0x800010, 1, 1, 8, 8, 48, 16, .rw, false, 0x3E8⟩
def R.FAB_BRIDGE_CFG : Reg := ⟨0x800010, 1, 8, 1, 8, 0x3E8040020200000,
  [F.FAB_BRIDGE_CFG_BASE, F.FAB_BRIDGE_CFG_LANES, F.FAB_BRIDGE_CFG_GATEWAYS, F.FAB_BRIDGE_CFG_ROLE, F.FAB_BRIDGE_CFG_CHECK, F.FAB_BRIDGE_CFG_FLUSH]⟩
def F.FAB_SITE_MAP_SITES : Fld := ⟨0x800018, 1, 1, 8, 8, 0, 16, .ro, false, 0x0⟩
def R.FAB_SITE_MAP : Reg := ⟨0x800018, 1, 8, 1, 8, 0x0,
  [F.FAB_SITE_MAP_SITES]⟩
def F.FAB_VC_CFG_ESCAPE : Fld := ⟨0x800020, 1, 1, 8, 8, 0, 16, .rw, false, 0xA⟩
def R.FAB_VC_CFG : Reg := ⟨0x800020, 1, 8, 1, 8, 0xA,
  [F.FAB_VC_CFG_ESCAPE]⟩
def F.FAB_CIRCUIT_CFG_SETUP_LIMIT : Fld := ⟨0x800028, 1, 1, 8, 8, 0, 16, .rw, false, 0x3E8⟩
def R.FAB_CIRCUIT_CFG : Reg := ⟨0x800028, 1, 8, 1, 8, 0x3E8,
  [F.FAB_CIRCUIT_CFG_SETUP_LIMIT]⟩
def F.FAB_EVENTS_CIRCUIT_FAIL : Fld := ⟨0x800030, 1, 1, 8, 8, 0, 1, .w1c, false, 0x0⟩
def F.FAB_EVENTS_CIRCUIT_MOVED : Fld := ⟨0x800030, 1, 1, 8, 8, 1, 1, .w1c, false, 0x0⟩
def F.FAB_EVENTS_RETRY : Fld := ⟨0x800030, 1, 1, 8, 8, 2, 1, .w1c, false, 0x0⟩
def F.FAB_EVENTS_ERROR : Fld := ⟨0x800030, 1, 1, 8, 8, 3, 1, .w1c, false, 0x0⟩
def F.FAB_EVENTS_ESCAPE : Fld := ⟨0x800030, 1, 1, 8, 8, 4, 1, .w1c, false, 0x0⟩
def F.FAB_EVENTS_PROTO : Fld := ⟨0x800030, 1, 1, 8, 8, 5, 1, .w1c, false, 0x0⟩
def R.FAB_EVENTS : Reg := ⟨0x800030, 1, 8, 1, 8, 0x0,
  [F.FAB_EVENTS_CIRCUIT_FAIL, F.FAB_EVENTS_CIRCUIT_MOVED, F.FAB_EVENTS_RETRY, F.FAB_EVENTS_ERROR, F.FAB_EVENTS_ESCAPE, F.FAB_EVENTS_PROTO]⟩
def F.FAB_RETRY_COUNT : Fld := ⟨0x800038, 1, 1, 8, 8, 0, 64, .rc, true, 0x0⟩
def R.FAB_RETRY : Reg := ⟨0x800038, 1, 8, 1, 8, 0x0,
  [F.FAB_RETRY_COUNT]⟩
def F.FAB_MISROUTED_COUNT : Fld := ⟨0x800040, 1, 1, 8, 8, 0, 64, .rc, true, 0x0⟩
def R.FAB_MISROUTED : Reg := ⟨0x800040, 1, 8, 1, 8, 0x0,
  [F.FAB_MISROUTED_COUNT]⟩
def F.FAB_UNREACHABLE_COUNT : Fld := ⟨0x800048, 1, 1, 8, 8, 0, 64, .rc, true, 0x0⟩
def R.FAB_UNREACHABLE : Reg := ⟨0x800048, 1, 8, 1, 8, 0x0,
  [F.FAB_UNREACHABLE_COUNT]⟩
def F.FAB_PROTO_ERR_COUNT : Fld := ⟨0x800050, 1, 1, 8, 8, 0, 64, .rc, true, 0x0⟩
def R.FAB_PROTO_ERR : Reg := ⟨0x800050, 1, 8, 1, 8, 0x0,
  [F.FAB_PROTO_ERR_COUNT]⟩
def F.FAB_LATE_REPLY_COUNT : Fld := ⟨0x800058, 1, 1, 8, 8, 0, 64, .rc, true, 0x0⟩
def R.FAB_LATE_REPLY : Reg := ⟨0x800058, 1, 8, 1, 8, 0x0,
  [F.FAB_LATE_REPLY_COUNT]⟩
def F.FAB_ESCAPED_COUNT : Fld := ⟨0x800060, 1, 1, 8, 8, 0, 64, .rc, true, 0x0⟩
def R.FAB_ESCAPED : Reg := ⟨0x800060, 1, 8, 1, 8, 0x0,
  [F.FAB_ESCAPED_COUNT]⟩
def F.FAB_BRIDGED_TX_COUNT : Fld := ⟨0x800068, 1, 1, 8, 8, 0, 64, .rc, true, 0x0⟩
def R.FAB_BRIDGED_TX : Reg := ⟨0x800068, 1, 8, 1, 8, 0x0,
  [F.FAB_BRIDGED_TX_COUNT]⟩
def F.FAB_BRIDGED_RX_COUNT : Fld := ⟨0x800070, 1, 1, 8, 8, 0, 64, .rc, true, 0x0⟩
def R.FAB_BRIDGED_RX : Reg := ⟨0x800070, 1, 8, 1, 8, 0x0,
  [F.FAB_BRIDGED_RX_COUNT]⟩
def F.FAB_CREDITSs_POOL : Fld := ⟨0x800100, 16, 1, 8, 8, 0, 32, .ro, false, 0x0⟩
def F.FAB_CREDITSs_IN_USE : Fld := ⟨0x800100, 16, 1, 8, 8, 32, 32, .ro, true, 0x0⟩
def R.FAB_CREDITSs : Reg := ⟨0x800100, 16, 8, 1, 8, 0x0,
  [F.FAB_CREDITSs_POOL, F.FAB_CREDITSs_IN_USE]⟩
def F.FAB_Fk_CFG_PKT_LAMBDAS : Fld := ⟨0x801000, 16, 1, 64, 8, 0, 16, .ro, false, 0x1⟩
def F.FAB_Fk_CFG_CIRCUIT_LAMBDAS : Fld := ⟨0x801000, 16, 1, 64, 8, 16, 16, .ro, true, 0x0⟩
def F.FAB_Fk_CFG_UP : Fld := ⟨0x801000, 16, 1, 64, 8, 32, 16, .ro, true, 0x0⟩
def R.FAB_Fk_CFG : Reg := ⟨0x801000, 16, 64, 1, 8, 0x1,
  [F.FAB_Fk_CFG_PKT_LAMBDAS, F.FAB_Fk_CFG_CIRCUIT_LAMBDAS, F.FAB_Fk_CFG_UP]⟩
def F.FAB_Fk_FLIT_CRC_COUNT : Fld := ⟨0x801008, 16, 1, 64, 8, 0, 64, .rc, true, 0x0⟩
def R.FAB_Fk_FLIT_CRC : Reg := ⟨0x801008, 16, 64, 1, 8, 0x0,
  [F.FAB_Fk_FLIT_CRC_COUNT]⟩
def F.FAB_Fk_LINK_RESEND_COUNT : Fld := ⟨0x801010, 16, 1, 64, 8, 0, 64, .rc, true, 0x0⟩
def R.FAB_Fk_LINK_RESEND : Reg := ⟨0x801010, 16, 64, 1, 8, 0x0,
  [F.FAB_Fk_LINK_RESEND_COUNT]⟩
def F.OPT_STATUS_LIT : Fld := ⟨0x900000, 1, 1, 8, 8, 0, 4, .ro, true, 0x0⟩
def F.OPT_STATUS_CALIBRATING : Fld := ⟨0x900000, 1, 1, 8, 8, 4, 4, .ro, true, 0x0⟩
def F.OPT_STATUS_APR : Fld := ⟨0x900000, 1, 1, 8, 8, 16, 16, .ro, true, 0x0⟩
def R.OPT_STATUS : Reg := ⟨0x900000, 1, 8, 1, 8, 0x0,
  [F.OPT_STATUS_LIT, F.OPT_STATUS_CALIBRATING, F.OPT_STATUS_APR]⟩
def F.OPT_LOCK_TOL : Fld := ⟨0x900008, 1, 1, 8, 8, 0, 8, .rw, false, 0x10⟩
def F.OPT_LOCK_DITHER : Fld := ⟨0x900008, 1, 1, 8, 8, 8, 8, .rw, false, 0x4⟩
def F.OPT_LOCK_RELOCK : Fld := ⟨0x900008, 1, 1, 8, 8, 16, 16, .rw, false, 0x96⟩
def R.OPT_LOCK : Reg := ⟨0x900008, 1, 8, 1, 8, 0x960410,
  [F.OPT_LOCK_TOL, F.OPT_LOCK_DITHER, F.OPT_LOCK_RELOCK]⟩
def F.OPT_LASER_MIN_POWER : Fld := ⟨0x900010, 1, 1, 8, 8, 0, 8, .rw, false, 0x80⟩
def R.OPT_LASER : Reg := ⟨0x900010, 1, 8, 1, 8, 0x80,
  [F.OPT_LASER_MIN_POWER]⟩
def F.OPT_CAL_CMD : Fld := ⟨0x900018, 1, 1, 8, 8, 0, 2, .wo, false, 0x0⟩
def F.OPT_CAL_TILES : Fld := ⟨0x900018, 1, 1, 8, 8, 2, 4, .rw, false, 0x0⟩
def F.OPT_CAL_RESULT : Fld := ⟨0x900018, 1, 1, 8, 8, 8, 8, .ro, false, 0x0⟩
def R.OPT_CAL : Reg := ⟨0x900018, 1, 8, 1, 8, 0x0,
  [F.OPT_CAL_CMD, F.OPT_CAL_TILES, F.OPT_CAL_RESULT]⟩
def F.OPT_FF_LEVEL_GAIN : Fld := ⟨0x900020, 1, 1, 8, 8, 0, 16, .rw, false, 0x0⟩
def F.OPT_FF_TAU : Fld := ⟨0x900020, 1, 1, 8, 8, 16, 16, .rw, false, 0x190⟩
def R.OPT_FF : Reg := ⟨0x900020, 1, 8, 1, 8, 0x1900000,
  [F.OPT_FF_LEVEL_GAIN, F.OPT_FF_TAU]⟩
def F.OPT_APR_TRIP : Fld := ⟨0x900028, 1, 1, 8, 8, 0, 16, .rw, false, 0x64⟩
def F.OPT_APR_PERIOD : Fld := ⟨0x900028, 1, 1, 8, 8, 16, 16, .rw, false, 0x3E8⟩
def F.OPT_APR_BURST : Fld := ⟨0x900028, 1, 1, 8, 8, 32, 16, .rw, false, 0x7D0⟩
def R.OPT_APR : Reg := ⟨0x900028, 1, 8, 1, 8, 0x7D003E80064,
  [F.OPT_APR_TRIP, F.OPT_APR_PERIOD, F.OPT_APR_BURST]⟩
def F.OPT_EVENTS_LASER_FAIL : Fld := ⟨0x900030, 1, 1, 8, 8, 0, 1, .w1c, false, 0x0⟩
def F.OPT_EVENTS_LOCK_FAULT : Fld := ⟨0x900030, 1, 1, 8, 8, 1, 1, .w1c, false, 0x0⟩
def F.OPT_EVENTS_WRONG_LOCK : Fld := ⟨0x900030, 1, 1, 8, 8, 2, 1, .w1c, false, 0x0⟩
def F.OPT_EVENTS_MOVED : Fld := ⟨0x900030, 1, 1, 8, 8, 3, 1, .w1c, false, 0x0⟩
def F.OPT_EVENTS_MOVE_FAILED : Fld := ⟨0x900030, 1, 1, 8, 8, 4, 1, .w1c, false, 0x0⟩
def F.OPT_EVENTS_SPARE_USED : Fld := ⟨0x900030, 1, 1, 8, 8, 5, 1, .w1c, false, 0x0⟩
def F.OPT_EVENTS_SPARES_OUT : Fld := ⟨0x900030, 1, 1, 8, 8, 6, 1, .w1c, false, 0x0⟩
def F.OPT_EVENTS_RESERVE_LOW : Fld := ⟨0x900030, 1, 1, 8, 8, 7, 1, .w1c, false, 0x0⟩
def F.OPT_EVENTS_APR_TRIP : Fld := ⟨0x900030, 1, 1, 8, 8, 8, 1, .w1c, false, 0x0⟩
def F.OPT_EVENTS_APR_CLEAR : Fld := ⟨0x900030, 1, 1, 8, 8, 9, 1, .w1c, false, 0x0⟩
def F.OPT_EVENTS_CAL_DONE : Fld := ⟨0x900030, 1, 1, 8, 8, 10, 1, .w1c, false, 0x0⟩
def R.OPT_EVENTS : Reg := ⟨0x900030, 1, 8, 1, 8, 0x0,
  [F.OPT_EVENTS_LASER_FAIL, F.OPT_EVENTS_LOCK_FAULT, F.OPT_EVENTS_WRONG_LOCK, F.OPT_EVENTS_MOVED, F.OPT_EVENTS_MOVE_FAILED, F.OPT_EVENTS_SPARE_USED, F.OPT_EVENTS_SPARES_OUT, F.OPT_EVENTS_RESERVE_LOW, F.OPT_EVENTS_APR_TRIP, F.OPT_EVENTS_APR_CLEAR, F.OPT_EVENTS_CAL_DONE]⟩
def F.OPT_LASER_FAIL_COUNT : Fld := ⟨0x900038, 1, 1, 8, 8, 0, 64, .rc, true, 0x0⟩
def R.OPT_LASER_FAIL : Reg := ⟨0x900038, 1, 8, 1, 8, 0x0,
  [F.OPT_LASER_FAIL_COUNT]⟩
def F.OPT_LOCK_FAULT_COUNT : Fld := ⟨0x900040, 1, 1, 8, 8, 0, 64, .rc, true, 0x0⟩
def R.OPT_LOCK_FAULT : Reg := ⟨0x900040, 1, 8, 1, 8, 0x0,
  [F.OPT_LOCK_FAULT_COUNT]⟩
def F.OPT_WRONG_LOCK_COUNT : Fld := ⟨0x900048, 1, 1, 8, 8, 0, 64, .rc, true, 0x0⟩
def R.OPT_WRONG_LOCK : Reg := ⟨0x900048, 1, 8, 1, 8, 0x0,
  [F.OPT_WRONG_LOCK_COUNT]⟩
def F.OPT_MOVES_COUNT : Fld := ⟨0x900050, 1, 1, 8, 8, 0, 64, .rc, true, 0x0⟩
def R.OPT_MOVES : Reg := ⟨0x900050, 1, 8, 1, 8, 0x0,
  [F.OPT_MOVES_COUNT]⟩
def F.OPT_MOVE_FAILED_COUNT : Fld := ⟨0x900058, 1, 1, 8, 8, 0, 64, .rc, true, 0x0⟩
def R.OPT_MOVE_FAILED : Reg := ⟨0x900058, 1, 8, 1, 8, 0x0,
  [F.OPT_MOVE_FAILED_COUNT]⟩
def F.OPT_APR_TRIPS_COUNT : Fld := ⟨0x900060, 1, 1, 8, 8, 0, 64, .rc, true, 0x0⟩
def R.OPT_APR_TRIPS : Reg := ⟨0x900060, 1, 8, 1, 8, 0x0,
  [F.OPT_APR_TRIPS_COUNT]⟩
def F.OPT_Tt_STATUS_SPARE_USED : Fld := ⟨0x900400, 4, 1, 64, 8, 0, 8, .ro, true, 0x0⟩
def F.OPT_Tt_STATUS_SPARE_FAILED : Fld := ⟨0x900400, 4, 1, 64, 8, 8, 8, .ro, true, 0x0⟩
def F.OPT_Tt_STATUS_FAILED_SLOTS : Fld := ⟨0x900400, 4, 1, 64, 8, 16, 7, .ro, true, 0x0⟩
def F.OPT_Tt_STATUS_TEMP_MAX : Fld := ⟨0x900400, 4, 1, 64, 8, 32, 16, .ro, true, 0x0⟩
def R.OPT_Tt_STATUS : Reg := ⟨0x900400, 4, 64, 1, 8, 0x0,
  [F.OPT_Tt_STATUS_SPARE_USED, F.OPT_Tt_STATUS_SPARE_FAILED, F.OPT_Tt_STATUS_FAILED_SLOTS, F.OPT_Tt_STATUS_TEMP_MAX]⟩
def F.OPT_Tt_TEMP_TEMP0 : Fld := ⟨0x900408, 4, 4, 64, 8, 0, 16, .ro, true, 0x0⟩
def F.OPT_Tt_TEMP_TEMP1 : Fld := ⟨0x900408, 4, 4, 64, 8, 16, 16, .ro, true, 0x0⟩
def F.OPT_Tt_TEMP_TEMP2 : Fld := ⟨0x900408, 4, 4, 64, 8, 32, 16, .ro, true, 0x0⟩
def F.OPT_Tt_TEMP_TEMP3 : Fld := ⟨0x900408, 4, 4, 64, 8, 48, 16, .ro, true, 0x0⟩
def R.OPT_Tt_TEMP : Reg := ⟨0x900408, 4, 64, 4, 8, 0x0,
  [F.OPT_Tt_TEMP_TEMP0, F.OPT_Tt_TEMP_TEMP1, F.OPT_Tt_TEMP_TEMP2, F.OPT_Tt_TEMP_TEMP3]⟩
def F.OPT_Fk_LAMBDA_USE : Fld := ⟨0x901000, 16, 1, 64, 8, 0, 32, .ro, true, 0x0⟩
def F.OPT_Fk_LAMBDA_FAILED : Fld := ⟨0x901000, 16, 1, 64, 8, 32, 16, .ro, true, 0x0⟩
def F.OPT_Fk_LAMBDA_WRONG : Fld := ⟨0x901000, 16, 1, 64, 8, 48, 16, .ro, true, 0x0⟩
def R.OPT_Fk_LAMBDA : Reg := ⟨0x901000, 16, 64, 1, 8, 0x0,
  [F.OPT_Fk_LAMBDA_USE, F.OPT_Fk_LAMBDA_FAILED, F.OPT_Fk_LAMBDA_WRONG]⟩
def F.OPT_Fk_CFG_ENABLE : Fld := ⟨0x901008, 16, 1, 64, 8, 0, 1, .ro, false, 0x0⟩
def F.OPT_Fk_CFG_RESERVE : Fld := ⟨0x901008, 16, 1, 64, 8, 4, 4, .ro, false, 0x1⟩
def R.OPT_Fk_CFG : Reg := ⟨0x901008, 16, 64, 1, 8, 0x10,
  [F.OPT_Fk_CFG_ENABLE, F.OPT_Fk_CFG_RESERVE]⟩
def F.OPT_Tt_XT_COEF0 : Fld := ⟨0x910000, 4, 450, 4096, 8, 0, 16, .rw, false, 0x0⟩
def F.OPT_Tt_XT_COEF1 : Fld := ⟨0x910000, 4, 450, 4096, 8, 16, 16, .rw, false, 0x0⟩
def F.OPT_Tt_XT_COEF2 : Fld := ⟨0x910000, 4, 450, 4096, 8, 32, 16, .rw, false, 0x0⟩
def F.OPT_Tt_XT_COEF3 : Fld := ⟨0x910000, 4, 450, 4096, 8, 48, 16, .rw, false, 0x0⟩
def R.OPT_Tt_XT : Reg := ⟨0x910000, 4, 4096, 450, 8, 0x0,
  [F.OPT_Tt_XT_COEF0, F.OPT_Tt_XT_COEF1, F.OPT_Tt_XT_COEF2, F.OPT_Tt_XT_COEF3]⟩
def F.MEM_STATUS_S_UP : Fld := ⟨0xA00000, 1, 1, 8, 8, 0, 8, .ro, true, 0x0⟩
def F.MEM_STATUS_H_UP : Fld := ⟨0xA00000, 1, 1, 8, 8, 8, 8, .ro, true, 0x0⟩
def F.MEM_STATUS_D_UP : Fld := ⟨0xA00000, 1, 1, 8, 8, 16, 8, .ro, true, 0x0⟩
def F.MEM_STATUS_X_UP : Fld := ⟨0xA00000, 1, 1, 8, 8, 24, 4, .ro, true, 0x0⟩
def F.MEM_STATUS_REMIRRORING : Fld := ⟨0xA00000, 1, 1, 8, 8, 28, 1, .ro, true, 0x0⟩
def R.MEM_STATUS : Reg := ⟨0xA00000, 1, 8, 1, 8, 0x0,
  [F.MEM_STATUS_S_UP, F.MEM_STATUS_H_UP, F.MEM_STATUS_D_UP, F.MEM_STATUS_X_UP, F.MEM_STATUS_REMIRRORING]⟩
def F.MEM_CAP_D_GIB : Fld := ⟨0xA00008, 1, 1, 8, 8, 0, 16, .ro, false, 0x0⟩
def F.MEM_CAP_X_GIB : Fld := ⟨0xA00008, 1, 1, 8, 8, 16, 16, .ro, false, 0x0⟩
def R.MEM_CAP : Reg := ⟨0xA00008, 1, 8, 1, 8, 0x0,
  [F.MEM_CAP_D_GIB, F.MEM_CAP_X_GIB]⟩
def F.MEM_X_CFG_LINKS : Fld := ⟨0xA00010, 1, 1, 8, 8, 0, 2, .ro, false, 0x0⟩
def R.MEM_X_CFG : Reg := ⟨0xA00010, 1, 8, 1, 8, 0x0,
  [F.MEM_X_CFG_LINKS]⟩
def F.MEM_SCRUB_PERIOD : Fld := ⟨0xA00018, 1, 1, 8, 8, 0, 16, .rw, false, 0x18⟩
def R.MEM_SCRUB : Reg := ⟨0xA00018, 1, 8, 1, 8, 0x18,
  [F.MEM_SCRUB_PERIOD]⟩
def F.MEM_REMIRROR_RATE : Fld := ⟨0xA00020, 1, 1, 8, 8, 0, 16, .rw, false, 0x64⟩
def R.MEM_REMIRROR : Reg := ⟨0xA00020, 1, 8, 1, 8, 0x64,
  [F.MEM_REMIRROR_RATE]⟩
def F.MEM_EVENTS_CE : Fld := ⟨0xA00028, 1, 1, 8, 8, 0, 1, .w1c, false, 0x0⟩
def F.MEM_EVENTS_UE : Fld := ⟨0xA00028, 1, 1, 8, 8, 1, 1, .w1c, false, 0x0⟩
def F.MEM_EVENTS_REMAPPED : Fld := ⟨0xA00028, 1, 1, 8, 8, 2, 1, .w1c, false, 0x0⟩
def F.MEM_EVENTS_REMIRRORED : Fld := ⟨0xA00028, 1, 1, 8, 8, 3, 1, .w1c, false, 0x0⟩
def F.MEM_EVENTS_D_UNEVEN : Fld := ⟨0xA00028, 1, 1, 8, 8, 4, 1, .w1c, false, 0x0⟩
def F.MEM_EVENTS_X_REJECTED : Fld := ⟨0xA00028, 1, 1, 8, 8, 5, 1, .w1c, false, 0x0⟩
def F.MEM_EVENTS_X_LOST : Fld := ⟨0xA00028, 1, 1, 8, 8, 6, 1, .w1c, false, 0x0⟩
def F.MEM_EVENTS_REMIRROR_SHORT : Fld := ⟨0xA00028, 1, 1, 8, 8, 7, 1, .w1c, false, 0x0⟩
def R.MEM_EVENTS : Reg := ⟨0xA00028, 1, 8, 1, 8, 0x0,
  [F.MEM_EVENTS_CE, F.MEM_EVENTS_UE, F.MEM_EVENTS_REMAPPED, F.MEM_EVENTS_REMIRRORED, F.MEM_EVENTS_D_UNEVEN, F.MEM_EVENTS_X_REJECTED, F.MEM_EVENTS_X_LOST, F.MEM_EVENTS_REMIRROR_SHORT]⟩
def F.MEM_CE_S_COUNT : Fld := ⟨0xA00030, 1, 1, 8, 8, 0, 64, .rc, true, 0x0⟩
def R.MEM_CE_S : Reg := ⟨0xA00030, 1, 8, 1, 8, 0x0,
  [F.MEM_CE_S_COUNT]⟩
def F.MEM_CE_H_COUNT : Fld := ⟨0xA00038, 1, 1, 8, 8, 0, 64, .rc, true, 0x0⟩
def R.MEM_CE_H : Reg := ⟨0xA00038, 1, 8, 1, 8, 0x0,
  [F.MEM_CE_H_COUNT]⟩
def F.MEM_CE_D_COUNT : Fld := ⟨0xA00040, 1, 1, 8, 8, 0, 64, .rc, true, 0x0⟩
def R.MEM_CE_D : Reg := ⟨0xA00040, 1, 8, 1, 8, 0x0,
  [F.MEM_CE_D_COUNT]⟩
def F.MEM_UE_S_COUNT : Fld := ⟨0xA00048, 1, 1, 8, 8, 0, 64, .rc, true, 0x0⟩
def R.MEM_UE_S : Reg := ⟨0xA00048, 1, 8, 1, 8, 0x0,
  [F.MEM_UE_S_COUNT]⟩
def F.MEM_UE_H_COUNT : Fld := ⟨0xA00050, 1, 1, 8, 8, 0, 64, .rc, true, 0x0⟩
def R.MEM_UE_H : Reg := ⟨0xA00050, 1, 8, 1, 8, 0x0,
  [F.MEM_UE_H_COUNT]⟩
def F.MEM_UE_D_COUNT : Fld := ⟨0xA00058, 1, 1, 8, 8, 0, 64, .rc, true, 0x0⟩
def R.MEM_UE_D : Reg := ⟨0xA00058, 1, 8, 1, 8, 0x0,
  [F.MEM_UE_D_COUNT]⟩
def F.MEM_UE_X_COUNT : Fld := ⟨0xA00060, 1, 1, 8, 8, 0, 64, .rc, true, 0x0⟩
def R.MEM_UE_X : Reg := ⟨0xA00060, 1, 8, 1, 8, 0x0,
  [F.MEM_UE_X_COUNT]⟩
def F.MEM_CTX_MISS_COUNT : Fld := ⟨0xA00068, 1, 1, 8, 8, 0, 64, .rc, true, 0x0⟩
def R.MEM_CTX_MISS : Reg := ⟨0xA00068, 1, 8, 1, 8, 0x0,
  [F.MEM_CTX_MISS_COUNT]⟩
def F.MEM_LAST_UE_TIER : Fld := ⟨0xA00070, 1, 1, 8, 8, 0, 2, .ro, true, 0x0⟩
def F.MEM_LAST_UE_ADDR : Fld := ⟨0xA00070, 1, 1, 8, 8, 2, 46, .ro, true, 0x0⟩
def R.MEM_LAST_UE : Reg := ⟨0xA00070, 1, 8, 1, 8, 0x0,
  [F.MEM_LAST_UE_TIER, F.MEM_LAST_UE_ADDR]⟩
def F.MEM_CTX_CACHE_RESIDENT : Fld := ⟨0xA00078, 1, 1, 8, 8, 0, 17, .ro, true, 0x0⟩
def F.MEM_CTX_CACHE_PINNED : Fld := ⟨0xA00078, 1, 1, 8, 8, 32, 10, .ro, true, 0x0⟩
def R.MEM_CTX_CACHE : Reg := ⟨0xA00078, 1, 8, 1, 8, 0x0,
  [F.MEM_CTX_CACHE_RESIDENT, F.MEM_CTX_CACHE_PINNED]⟩
def F.BPM_STATUS_WARN : Fld := ⟨0xB00000, 1, 1, 8, 8, 0, 10, .ro, true, 0x0⟩
def F.BPM_STATUS_BACKPRESSURE : Fld := ⟨0xB00000, 1, 1, 8, 8, 16, 10, .ro, true, 0x0⟩
def F.BPM_STATUS_HOLD_MODE : Fld := ⟨0xB00000, 1, 1, 8, 8, 32, 1, .ro, false, 0x0⟩
def R.BPM_STATUS : Reg := ⟨0xB00000, 1, 8, 1, 8, 0x0,
  [F.BPM_STATUS_WARN, F.BPM_STATUS_BACKPRESSURE, F.BPM_STATUS_HOLD_MODE]⟩
def F.BPM_EVENTS_WARN : Fld := ⟨0xB00008, 1, 1, 8, 8, 0, 1, .w1c, false, 0x0⟩
def F.BPM_EVENTS_BACKPRESSURE : Fld := ⟨0xB00008, 1, 1, 8, 8, 1, 1, .w1c, false, 0x0⟩
def F.BPM_EVENTS_EMPTY : Fld := ⟨0xB00008, 1, 1, 8, 8, 2, 1, .w1c, false, 0x0⟩
def F.BPM_EVENTS_QUEUED : Fld := ⟨0xB00008, 1, 1, 8, 8, 3, 1, .w1c, false, 0x0⟩
def F.BPM_EVENTS_BAD_FREE : Fld := ⟨0xB00008, 1, 1, 8, 8, 4, 1, .w1c, false, 0x0⟩
def R.BPM_EVENTS : Reg := ⟨0xB00008, 1, 8, 1, 8, 0x0,
  [F.BPM_EVENTS_WARN, F.BPM_EVENTS_BACKPRESSURE, F.BPM_EVENTS_EMPTY, F.BPM_EVENTS_QUEUED, F.BPM_EVENTS_BAD_FREE]⟩
def F.BPM_EMPTY_COUNT : Fld := ⟨0xB00010, 1, 1, 8, 8, 0, 64, .rc, true, 0x0⟩
def R.BPM_EMPTY : Reg := ⟨0xB00010, 1, 8, 1, 8, 0x0,
  [F.BPM_EMPTY_COUNT]⟩
def F.BPM_QUEUED_COUNT : Fld := ⟨0xB00018, 1, 1, 8, 8, 0, 64, .rc, true, 0x0⟩
def R.BPM_QUEUED : Reg := ⟨0xB00018, 1, 8, 1, 8, 0x0,
  [F.BPM_QUEUED_COUNT]⟩
def F.BPM_BAD_FREE_COUNT : Fld := ⟨0xB00020, 1, 1, 8, 8, 0, 64, .rc, true, 0x0⟩
def R.BPM_BAD_FREE : Reg := ⟨0xB00020, 1, 8, 1, 8, 0x0,
  [F.BPM_BAD_FREE_COUNT]⟩
def F.BPM_LAST_BAD_INDEX : Fld := ⟨0xB00028, 1, 1, 8, 8, 0, 28, .ro, true, 0x0⟩
def F.BPM_LAST_BAD_POOL : Fld := ⟨0xB00028, 1, 1, 8, 8, 28, 4, .ro, true, 0x0⟩
def F.BPM_LAST_BAD_ACCOUNT : Fld := ⟨0xB00028, 1, 1, 8, 8, 32, 6, .ro, true, 0x0⟩
def R.BPM_LAST_BAD : Reg := ⟨0xB00028, 1, 8, 1, 8, 0x0,
  [F.BPM_LAST_BAD_INDEX, F.BPM_LAST_BAD_POOL, F.BPM_LAST_BAD_ACCOUNT]⟩
def F.BPM_ACCT_QUERY_ACCOUNT : Fld := ⟨0xB00030, 1, 1, 8, 8, 0, 6, .rw, false, 0x0⟩
def F.BPM_ACCT_QUERY_POOL : Fld := ⟨0xB00030, 1, 1, 8, 8, 8, 4, .rw, false, 0x0⟩
def R.BPM_ACCT_QUERY : Reg := ⟨0xB00030, 1, 8, 1, 8, 0x0,
  [F.BPM_ACCT_QUERY_ACCOUNT, F.BPM_ACCT_QUERY_POOL]⟩
def F.BPM_ACCT_LIMITS_MIN : Fld := ⟨0xB00038, 1, 1, 8, 8, 0, 28, .ro, false, 0x0⟩
def F.BPM_ACCT_LIMITS_MAX : Fld := ⟨0xB00038, 1, 1, 8, 8, 32, 28, .ro, false, 0x0⟩
def R.BPM_ACCT_LIMITS : Reg := ⟨0xB00038, 1, 8, 1, 8, 0x0,
  [F.BPM_ACCT_LIMITS_MIN, F.BPM_ACCT_LIMITS_MAX]⟩
def F.BPM_ACCT_HELD_HELD : Fld := ⟨0xB00040, 1, 1, 8, 8, 0, 28, .ro, true, 0x0⟩
def R.BPM_ACCT_HELD : Reg := ⟨0xB00040, 1, 8, 1, 8, 0x0,
  [F.BPM_ACCT_HELD_HELD]⟩
def F.BPM_POOLp_CFG_COUNT : Fld := ⟨0xB01000, 10, 1, 32, 8, 0, 28, .ro, false, 0x0⟩
def F.BPM_POOLp_CFG_TIER : Fld := ⟨0xB01000, 10, 1, 32, 8, 28, 1, .ro, false, 0x0⟩
def F.BPM_POOLp_CFG_MIRROR : Fld := ⟨0xB01000, 10, 1, 32, 8, 29, 1, .ro, false, 0x0⟩
def F.BPM_POOLp_CFG_SIZE : Fld := ⟨0xB01000, 10, 1, 32, 8, 32, 3, .ro, false, 0x0⟩
def R.BPM_POOLp_CFG : Reg := ⟨0xB01000, 10, 32, 1, 8, 0x0,
  [F.BPM_POOLp_CFG_COUNT, F.BPM_POOLp_CFG_TIER, F.BPM_POOLp_CFG_MIRROR, F.BPM_POOLp_CFG_SIZE]⟩
def F.BPM_POOLp_USE_HELD : Fld := ⟨0xB01008, 10, 1, 32, 8, 0, 28, .ro, true, 0x0⟩
def F.BPM_POOLp_USE_HIGH : Fld := ⟨0xB01008, 10, 1, 32, 8, 32, 28, .rc, true, 0x0⟩
def R.BPM_POOLp_USE : Reg := ⟨0xB01008, 10, 32, 1, 8, 0x0,
  [F.BPM_POOLp_USE_HELD, F.BPM_POOLp_USE_HIGH]⟩
def F.BPM_POOLp_QUEUE_WAITING : Fld := ⟨0xB01010, 10, 1, 32, 8, 0, 11, .ro, true, 0x0⟩
def F.BPM_POOLp_QUEUE_HEAD : Fld := ⟨0xB01010, 10, 1, 32, 8, 11, 1, .ro, true, 0x0⟩
def R.BPM_POOLp_QUEUE : Reg := ⟨0xB01010, 10, 32, 1, 8, 0x0,
  [F.BPM_POOLp_QUEUE_WAITING, F.BPM_POOLp_QUEUE_HEAD]⟩
def F.CIPH_STATUS_ENC_UP : Fld := ⟨0xC00000, 1, 1, 8, 8, 0, 7, .ro, true, 0x0⟩
def F.CIPH_STATUS_DEC_UP : Fld := ⟨0xC00000, 1, 1, 8, 8, 8, 7, .ro, true, 0x0⟩
def F.CIPH_STATUS_K0_LIVE : Fld := ⟨0xC00000, 1, 1, 8, 8, 15, 1, .ro, false, 0x0⟩
def F.CIPH_STATUS_SUSPENDED : Fld := ⟨0xC00000, 1, 1, 8, 8, 16, 8, .ro, true, 0x0⟩
def R.CIPH_STATUS : Reg := ⟨0xC00000, 1, 8, 1, 8, 0x0,
  [F.CIPH_STATUS_ENC_UP, F.CIPH_STATUS_DEC_UP, F.CIPH_STATUS_K0_LIVE, F.CIPH_STATUS_SUSPENDED]⟩
def F.CIPH_CFG_DRAIN : Fld := ⟨0xC00008, 1, 1, 8, 8, 0, 16, .rw, false, 0x3E8⟩
def R.CIPH_CFG : Reg := ⟨0xC00008, 1, 8, 1, 8, 0x3E8,
  [F.CIPH_CFG_DRAIN]⟩
def F.CIPH_MACSEC_ENABLE : Fld := ⟨0xC00010, 1, 1, 8, 8, 0, 1, .rw, false, 0x0⟩
def F.CIPH_MACSEC_REPLAY : Fld := ⟨0xC00010, 1, 1, 8, 8, 1, 1, .rw, false, 0x1⟩
def F.CIPH_MACSEC_WINDOW : Fld := ⟨0xC00010, 1, 1, 8, 8, 2, 30, .rw, false, 0x0⟩
def R.CIPH_MACSEC : Reg := ⟨0xC00010, 1, 8, 1, 8, 0x2,
  [F.CIPH_MACSEC_ENABLE, F.CIPH_MACSEC_REPLAY, F.CIPH_MACSEC_WINDOW]⟩
def F.CIPH_GCS_ENCRYPT : Fld := ⟨0xC00018, 1, 1, 8, 8, 0, 4, .rw, false, 0x0⟩
def R.CIPH_GCS : Reg := ⟨0xC00018, 1, 8, 1, 8, 0x0,
  [F.CIPH_GCS_ENCRYPT]⟩
def F.CIPH_EVENTS_KEY_WARN : Fld := ⟨0xC00020, 1, 1, 8, 8, 0, 1, .w1c, false, 0x0⟩
def F.CIPH_EVENTS_KEY_EXHAUSTED : Fld := ⟨0xC00020, 1, 1, 8, 8, 1, 1, .w1c, false, 0x0⟩
def F.CIPH_EVENTS_KEY_SUSPECT : Fld := ⟨0xC00020, 1, 1, 8, 8, 2, 1, .w1c, false, 0x0⟩
def F.CIPH_EVENTS_ERASED : Fld := ⟨0xC00020, 1, 1, 8, 8, 3, 1, .w1c, false, 0x0⟩
def F.CIPH_EVENTS_RETIRED : Fld := ⟨0xC00020, 1, 1, 8, 8, 4, 1, .w1c, false, 0x0⟩
def F.CIPH_EVENTS_KEYLOAD_REFUSED : Fld := ⟨0xC00020, 1, 1, 8, 8, 5, 1, .w1c, false, 0x0⟩
def R.CIPH_EVENTS : Reg := ⟨0xC00020, 1, 8, 1, 8, 0x0,
  [F.CIPH_EVENTS_KEY_WARN, F.CIPH_EVENTS_KEY_EXHAUSTED, F.CIPH_EVENTS_KEY_SUSPECT, F.CIPH_EVENTS_ERASED, F.CIPH_EVENTS_RETIRED, F.CIPH_EVENTS_KEYLOAD_REFUSED]⟩
def F.CIPH_KEY_WARN_SLOTS : Fld := ⟨0xC00028, 4, 1, 8, 8, 0, 64, .w1c, true, 0x0⟩
def R.CIPH_KEY_WARN : Reg := ⟨0xC00028, 4, 8, 1, 8, 0x0,
  [F.CIPH_KEY_WARN_SLOTS]⟩
def F.CIPH_KEY_EXHAUSTED_SLOTS : Fld := ⟨0xC00048, 4, 1, 8, 8, 0, 64, .w1c, true, 0x0⟩
def R.CIPH_KEY_EXHAUSTED : Reg := ⟨0xC00048, 4, 8, 1, 8, 0x0,
  [F.CIPH_KEY_EXHAUSTED_SLOTS]⟩
def F.CIPH_TAG_FAIL_COUNT : Fld := ⟨0xC00068, 1, 1, 8, 8, 0, 64, .rc, true, 0x0⟩
def R.CIPH_TAG_FAIL : Reg := ⟨0xC00068, 1, 8, 1, 8, 0x0,
  [F.CIPH_TAG_FAIL_COUNT]⟩
def F.CIPH_SUSPENDS_COUNT : Fld := ⟨0xC00070, 1, 1, 8, 8, 0, 64, .rc, true, 0x0⟩
def R.CIPH_SUSPENDS : Reg := ⟨0xC00070, 1, 8, 1, 8, 0x0,
  [F.CIPH_SUSPENDS_COUNT]⟩
def F.CIPH_EXHAUSTED_ITEMS_COUNT : Fld := ⟨0xC00078, 1, 1, 8, 8, 0, 64, .rc, true, 0x0⟩
def R.CIPH_EXHAUSTED_ITEMS : Reg := ⟨0xC00078, 1, 8, 1, 8, 0x0,
  [F.CIPH_EXHAUSTED_ITEMS_COUNT]⟩
def F.CIPH_ERASED_ITEMS_COUNT : Fld := ⟨0xC00080, 1, 1, 8, 8, 0, 64, .rc, true, 0x0⟩
def R.CIPH_ERASED_ITEMS : Reg := ⟨0xC00080, 1, 8, 1, 8, 0x0,
  [F.CIPH_ERASED_ITEMS_COUNT]⟩
def F.CIPH_KEYLOADS_COUNT : Fld := ⟨0xC00088, 1, 1, 8, 8, 0, 64, .rc, true, 0x0⟩
def R.CIPH_KEYLOADS : Reg := ⟨0xC00088, 1, 8, 1, 8, 0x0,
  [F.CIPH_KEYLOADS_COUNT]⟩
def F.CIPH_MAC_ICV_FAIL_COUNT : Fld := ⟨0xC00090, 1, 1, 8, 8, 0, 64, .rc, true, 0x0⟩
def R.CIPH_MAC_ICV_FAIL : Reg := ⟨0xC00090, 1, 8, 1, 8, 0x0,
  [F.CIPH_MAC_ICV_FAIL_COUNT]⟩
def F.CIPH_MAC_REPLAY_COUNT : Fld := ⟨0xC00098, 1, 1, 8, 8, 0, 64, .rc, true, 0x0⟩
def R.CIPH_MAC_REPLAY : Reg := ⟨0xC00098, 1, 8, 1, 8, 0x0,
  [F.CIPH_MAC_REPLAY_COUNT]⟩
def F.CIPH_MAC_UNTAGGED_COUNT : Fld := ⟨0xC000A0, 1, 1, 8, 8, 0, 64, .rc, true, 0x0⟩
def R.CIPH_MAC_UNTAGGED : Reg := ⟨0xC000A0, 1, 8, 1, 8, 0x0,
  [F.CIPH_MAC_UNTAGGED_COUNT]⟩
def F.CIPH_SUSPECT_SESSION : Fld := ⟨0xC000A8, 1, 1, 8, 8, 0, 5, .ro, true, 0x0⟩
def F.CIPH_SUSPECT_SLOT : Fld := ⟨0xC000A8, 1, 1, 8, 8, 8, 8, .ro, true, 0x0⟩
def F.CIPH_SUSPECT_GEN : Fld := ⟨0xC000A8, 1, 1, 8, 8, 16, 8, .ro, true, 0x0⟩
def R.CIPH_SUSPECT : Reg := ⟨0xC000A8, 1, 8, 1, 8, 0x0,
  [F.CIPH_SUSPECT_SESSION, F.CIPH_SUSPECT_SLOT, F.CIPH_SUSPECT_GEN]⟩
def F.CIPH_SLOT_QUERY_SLOT : Fld := ⟨0xC000B0, 1, 1, 8, 8, 0, 8, .rw, false, 0x0⟩
def R.CIPH_SLOT_QUERY : Reg := ⟨0xC000B0, 1, 8, 1, 8, 0x0,
  [F.CIPH_SLOT_QUERY_SLOT]⟩
def F.CIPH_SLOT_STATE_USE : Fld := ⟨0xC000B8, 1, 1, 8, 8, 0, 4, .ro, false, 0x0⟩
def F.CIPH_SLOT_STATE_CURRENT : Fld := ⟨0xC000B8, 1, 1, 8, 8, 8, 8, .ro, true, 0x0⟩
def F.CIPH_SLOT_STATE_OLDER : Fld := ⟨0xC000B8, 1, 1, 8, 8, 16, 8, .ro, true, 0x0⟩
def F.CIPH_SLOT_STATE_CUR_LIVE : Fld := ⟨0xC000B8, 1, 1, 8, 8, 24, 1, .ro, true, 0x0⟩
def F.CIPH_SLOT_STATE_OLDER_LIVE : Fld := ⟨0xC000B8, 1, 1, 8, 8, 25, 1, .ro, true, 0x0⟩
def F.CIPH_SLOT_STATE_ERASING : Fld := ⟨0xC000B8, 1, 1, 8, 8, 26, 1, .ro, true, 0x0⟩
def F.CIPH_SLOT_STATE_PINS : Fld := ⟨0xC000B8, 1, 1, 8, 8, 32, 32, .ro, true, 0x0⟩
def R.CIPH_SLOT_STATE : Reg := ⟨0xC000B8, 1, 8, 1, 8, 0x0,
  [F.CIPH_SLOT_STATE_USE, F.CIPH_SLOT_STATE_CURRENT, F.CIPH_SLOT_STATE_OLDER, F.CIPH_SLOT_STATE_CUR_LIVE, F.CIPH_SLOT_STATE_OLDER_LIVE, F.CIPH_SLOT_STATE_ERASING, F.CIPH_SLOT_STATE_PINS]⟩
def F.CIPH_SLOT_INVOC_COUNT : Fld := ⟨0xC000C0, 1, 1, 8, 8, 0, 64, .ro, true, 0x0⟩
def R.CIPH_SLOT_INVOC : Reg := ⟨0xC000C0, 1, 8, 1, 8, 0x0,
  [F.CIPH_SLOT_INVOC_COUNT]⟩
def F.CIPH_SLOT_INVOC_OLDER_COUNT : Fld := ⟨0xC000C8, 1, 1, 8, 8, 0, 64, .ro, true, 0x0⟩
def R.CIPH_SLOT_INVOC_OLDER : Reg := ⟨0xC000C8, 1, 8, 1, 8, 0x0,
  [F.CIPH_SLOT_INVOC_OLDER_COUNT]⟩
def F.SCH_STATUS_A_SINGLE : Fld := ⟨0xD00000, 1, 1, 8, 8, 0, 1, .ro, true, 0x0⟩
def F.SCH_STATUS_B_SINGLE : Fld := ⟨0xD00000, 1, 1, 8, 8, 1, 1, .ro, true, 0x0⟩
def R.SCH_STATUS : Reg := ⟨0xD00000, 1, 8, 1, 8, 0x0,
  [F.SCH_STATUS_A_SINGLE, F.SCH_STATUS_B_SINGLE]⟩
def F.SCH_EVENTS_SOJOURN : Fld := ⟨0xD00008, 1, 1, 8, 8, 0, 1, .w1c, false, 0x0⟩
def F.SCH_EVENTS_SINGLE_ROUTE : Fld := ⟨0xD00008, 1, 1, 8, 8, 1, 1, .w1c, false, 0x0⟩
def F.SCH_EVENTS_RED_BRIDGE : Fld := ⟨0xD00008, 1, 1, 8, 8, 2, 1, .w1c, false, 0x0⟩
def F.SCH_EVENTS_RED_HOST : Fld := ⟨0xD00008, 1, 1, 8, 8, 3, 1, .w1c, false, 0x0⟩
def R.SCH_EVENTS : Reg := ⟨0xD00008, 1, 8, 1, 8, 0x0,
  [F.SCH_EVENTS_SOJOURN, F.SCH_EVENTS_SINGLE_ROUTE, F.SCH_EVENTS_RED_BRIDGE, F.SCH_EVENTS_RED_HOST]⟩
def F.SCH_PPM_PPM : Fld := ⟨0xD00010, 1, 1, 8, 8, 0, 16, .rw, false, 0x14⟩
def R.SCH_PPM : Reg := ⟨0xD00010, 1, 8, 1, 8, 0x14,
  [F.SCH_PPM_PPM]⟩
def F.SCH_Rr_Cc_CFG_OVH : Fld := ⟨0xD01000, 2, 6, 256, 32, 0, 8, .rw, false, 0x8⟩
def F.SCH_Rr_Cc_CFG_WEIGHT : Fld := ⟨0xD01000, 2, 6, 256, 32, 8, 16, .rw, false, 0x1⟩
def F.SCH_Rr_Cc_CFG_WEIGHT_ONE : Fld := ⟨0xD01000, 2, 6, 256, 32, 24, 16, .rw, false, 0x1⟩
def F.SCH_Rr_Cc_CFG_SOJ_LIMIT : Fld := ⟨0xD01000, 2, 6, 256, 32, 40, 24, .rw, false, 0x0⟩
def R.SCH_Rr_Cc_CFG : Reg := ⟨0xD01000, 2, 256, 6, 32, 0x1000108,
  [F.SCH_Rr_Cc_CFG_OVH, F.SCH_Rr_Cc_CFG_WEIGHT, F.SCH_Rr_Cc_CFG_WEIGHT_ONE, F.SCH_Rr_Cc_CFG_SOJ_LIMIT]⟩
def F.SCH_Rr_Cc_QUEUE_BYTES : Fld := ⟨0xD01008, 2, 6, 256, 32, 0, 40, .ro, true, 0x0⟩
def F.SCH_Rr_Cc_QUEUE_BLOCKS : Fld := ⟨0xD01008, 2, 6, 256, 32, 40, 24, .ro, true, 0x0⟩
def R.SCH_Rr_Cc_QUEUE : Reg := ⟨0xD01008, 2, 256, 6, 32, 0x0,
  [F.SCH_Rr_Cc_QUEUE_BYTES, F.SCH_Rr_Cc_QUEUE_BLOCKS]⟩
def F.SCH_Rr_Cc_SOJOURN_HIGH_NS : Fld := ⟨0xD01010, 2, 6, 256, 32, 0, 32, .rc, true, 0x0⟩
def R.SCH_Rr_Cc_SOJOURN : Reg := ⟨0xD01010, 2, 256, 6, 32, 0x0,
  [F.SCH_Rr_Cc_SOJOURN_HIGH_NS]⟩
def F.SCH_Rr_Cc_LATE_COUNT : Fld := ⟨0xD01018, 2, 6, 256, 32, 0, 64, .rc, true, 0x0⟩
def R.SCH_Rr_Cc_LATE : Reg := ⟨0xD01018, 2, 256, 6, 32, 0x0,
  [F.SCH_Rr_Cc_LATE_COUNT]⟩
def F.SCH_PLk_RATE_CIR : Fld := ⟨0xD02000, 18, 1, 64, 8, 0, 32, .rw, false, 0x0⟩
def F.SCH_PLk_RATE_PIR : Fld := ⟨0xD02000, 18, 1, 64, 8, 32, 32, .rw, false, 0x0⟩
def R.SCH_PLk_RATE : Reg := ⟨0xD02000, 18, 64, 1, 8, 0x0,
  [F.SCH_PLk_RATE_CIR, F.SCH_PLk_RATE_PIR]⟩
def F.SCH_PLk_BURST_CBS : Fld := ⟨0xD02008, 18, 1, 64, 8, 0, 32, .rw, false, 0x0⟩
def F.SCH_PLk_BURST_PBS : Fld := ⟨0xD02008, 18, 1, 64, 8, 32, 32, .rw, false, 0x0⟩
def R.SCH_PLk_BURST : Reg := ⟨0xD02008, 18, 64, 1, 8, 0x0,
  [F.SCH_PLk_BURST_CBS, F.SCH_PLk_BURST_PBS]⟩
def F.SCH_PLk_CTRL_ENABLE : Fld := ⟨0xD02010, 18, 1, 64, 8, 0, 1, .rw, false, 0x0⟩
def F.SCH_PLk_CTRL_MODE : Fld := ⟨0xD02010, 18, 1, 64, 8, 1, 1, .rw, false, 0x0⟩
def F.SCH_PLk_CTRL_AWARE : Fld := ⟨0xD02010, 18, 1, 64, 8, 2, 1, .rw, false, 0x0⟩
def F.SCH_PLk_CTRL_YELLOW_RETRY : Fld := ⟨0xD02010, 18, 1, 64, 8, 3, 1, .rw, false, 0x0⟩
def F.SCH_PLk_CTRL_OVH : Fld := ⟨0xD02010, 18, 1, 64, 8, 8, 8, .rw, false, 0x0⟩
def R.SCH_PLk_CTRL : Reg := ⟨0xD02010, 18, 64, 1, 8, 0x0,
  [F.SCH_PLk_CTRL_ENABLE, F.SCH_PLk_CTRL_MODE, F.SCH_PLk_CTRL_AWARE, F.SCH_PLk_CTRL_YELLOW_RETRY, F.SCH_PLk_CTRL_OVH]⟩
def F.SCH_PLk_GREEN_COUNT : Fld := ⟨0xD02018, 18, 1, 64, 8, 0, 64, .rc, true, 0x0⟩
def R.SCH_PLk_GREEN : Reg := ⟨0xD02018, 18, 64, 1, 8, 0x0,
  [F.SCH_PLk_GREEN_COUNT]⟩
def F.SCH_PLk_YELLOW_COUNT : Fld := ⟨0xD02020, 18, 1, 64, 8, 0, 64, .rc, true, 0x0⟩
def R.SCH_PLk_YELLOW : Reg := ⟨0xD02020, 18, 64, 1, 8, 0x0,
  [F.SCH_PLk_YELLOW_COUNT]⟩
def F.SCH_PLk_RED_COUNT : Fld := ⟨0xD02028, 18, 1, 64, 8, 0, 64, .rc, true, 0x0⟩
def R.SCH_PLk_RED : Reg := ⟨0xD02028, 18, 64, 1, 8, 0x0,
  [F.SCH_PLk_RED_COUNT]⟩
def F.TIME_STATUS_TB0 : Fld := ⟨0xE00000, 1, 1, 8, 8, 0, 2, .ro, true, 0x0⟩
def F.TIME_STATUS_TB1 : Fld := ⟨0xE00000, 1, 1, 8, 8, 2, 2, .ro, true, 0x0⟩
def F.TIME_STATUS_TB2 : Fld := ⟨0xE00000, 1, 1, 8, 8, 4, 2, .ro, true, 0x0⟩
def F.TIME_STATUS_ON_TB1 : Fld := ⟨0xE00000, 1, 1, 8, 8, 6, 1, .ro, true, 0x0⟩
def F.TIME_STATUS_PEER_TRACEABLE : Fld := ⟨0xE00000, 1, 1, 8, 8, 7, 1, .ro, true, 0x0⟩
def F.TIME_STATUS_ROUTE_A : Fld := ⟨0xE00000, 1, 1, 8, 8, 8, 2, .ro, true, 0x0⟩
def F.TIME_STATUS_ROUTE_B : Fld := ⟨0xE00000, 1, 1, 8, 8, 10, 2, .ro, true, 0x0⟩
def R.TIME_STATUS : Reg := ⟨0xE00000, 1, 8, 1, 8, 0x0,
  [F.TIME_STATUS_TB0, F.TIME_STATUS_TB1, F.TIME_STATUS_TB2, F.TIME_STATUS_ON_TB1, F.TIME_STATUS_PEER_TRACEABLE, F.TIME_STATUS_ROUTE_A, F.TIME_STATUS_ROUTE_B]⟩
def F.TIME_CFG_TB0_SRC : Fld := ⟨0xE00008, 1, 1, 8, 8, 0, 2, .rw, false, 0x0⟩
def F.TIME_CFG_TRACEABLE : Fld := ⟨0xE00008, 1, 1, 8, 8, 2, 1, .rw, false, 0x0⟩
def F.TIME_CFG_TB1_EN : Fld := ⟨0xE00008, 1, 1, 8, 8, 3, 1, .rw, false, 0x0⟩
def F.TIME_CFG_TB0_DOMAIN : Fld := ⟨0xE00008, 1, 1, 8, 8, 4, 8, .rw, false, 0x0⟩
def F.TIME_CFG_TB1_DOMAIN : Fld := ⟨0xE00008, 1, 1, 8, 8, 12, 8, .rw, false, 0x0⟩
def F.TIME_CFG_SESSION : Fld := ⟨0xE00008, 1, 1, 8, 8, 20, 5, .rw, false, 0x0⟩
def F.TIME_CFG_PPS_SRC : Fld := ⟨0xE00008, 1, 1, 8, 8, 25, 2, .rw, false, 0x0⟩
def F.TIME_CFG_PPS_WIDTH : Fld := ⟨0xE00008, 1, 1, 8, 8, 48, 16, .rw, false, 0x64⟩
def R.TIME_CFG : Reg := ⟨0xE00008, 1, 8, 1, 8, 0x64000000000000,
  [F.TIME_CFG_TB0_SRC, F.TIME_CFG_TRACEABLE, F.TIME_CFG_TB1_EN, F.TIME_CFG_TB0_DOMAIN, F.TIME_CFG_TB1_DOMAIN, F.TIME_CFG_SESSION, F.TIME_CFG_PPS_SRC, F.TIME_CFG_PPS_WIDTH]⟩
def F.TIME_TC_ENABLE : Fld := ⟨0xE00010, 1, 1, 8, 8, 0, 1, .rw, false, 0x0⟩
def F.TIME_TC_TC_DOMAIN : Fld := ⟨0xE00010, 1, 1, 8, 8, 8, 8, .rw, false, 0x0⟩
def F.TIME_TC_SLACK : Fld := ⟨0xE00010, 1, 1, 8, 8, 16, 16, .rw, false, 0x32⟩
def R.TIME_TC : Reg := ⟨0xE00010, 1, 8, 1, 8, 0x320000,
  [F.TIME_TC_ENABLE, F.TIME_TC_TC_DOMAIN, F.TIME_TC_SLACK]⟩
def F.TIME_HOLD_HOLDOVER_MAX : Fld := ⟨0xE00018, 1, 1, 8, 8, 0, 16, .rw, false, 0xE10⟩
def F.TIME_HOLD_REVERT : Fld := ⟨0xE00018, 1, 1, 8, 8, 16, 16, .rw, false, 0x3C⟩
def F.TIME_HOLD_ASYM_SAMPLES : Fld := ⟨0xE00018, 1, 1, 8, 8, 32, 16, .rw, false, 0x400⟩
def F.TIME_HOLD_SLEW_MAX : Fld := ⟨0xE00018, 1, 1, 8, 8, 48, 16, .rw, false, 0x2710⟩
def R.TIME_HOLD : Reg := ⟨0xE00018, 1, 8, 1, 8, 0x27100400003C0E10,
  [F.TIME_HOLD_HOLDOVER_MAX, F.TIME_HOLD_REVERT, F.TIME_HOLD_ASYM_SAMPLES, F.TIME_HOLD_SLEW_MAX]⟩
def F.TIME_TOD_SECONDS : Fld := ⟨0xE00020, 1, 1, 8, 8, 0, 64, .rw, true, 0x0⟩
def R.TIME_TOD : Reg := ⟨0xE00020, 1, 8, 1, 8, 0x0,
  [F.TIME_TOD_SECONDS]⟩
def F.TIME_LAT_HOST_TX : Fld := ⟨0xE00028, 1, 1, 8, 8, 0, 16, .rw, false, 0x0⟩
def F.TIME_LAT_HOST_RX : Fld := ⟨0xE00028, 1, 1, 8, 8, 16, 16, .rw, false, 0x0⟩
def F.TIME_LAT_LINE_TX : Fld := ⟨0xE00028, 1, 1, 8, 8, 32, 16, .rw, false, 0x0⟩
def F.TIME_LAT_LINE_RX : Fld := ⟨0xE00028, 1, 1, 8, 8, 48, 16, .rw, false, 0x0⟩
def R.TIME_LAT : Reg := ⟨0xE00028, 1, 8, 1, 8, 0x0,
  [F.TIME_LAT_HOST_TX, F.TIME_LAT_HOST_RX, F.TIME_LAT_LINE_TX, F.TIME_LAT_LINE_RX]⟩
def F.TIME_EVENTS_LOCKED : Fld := ⟨0xE00030, 1, 1, 8, 8, 0, 1, .w1c, false, 0x0⟩
def F.TIME_EVENTS_HOLDOVER : Fld := ⟨0xE00030, 1, 1, 8, 8, 1, 1, .w1c, false, 0x0⟩
def F.TIME_EVENTS_FREE : Fld := ⟨0xE00030, 1, 1, 8, 8, 2, 1, .w1c, false, 0x0⟩
def F.TIME_EVENTS_SWITCHOVER : Fld := ⟨0xE00030, 1, 1, 8, 8, 3, 1, .w1c, false, 0x0⟩
def F.TIME_EVENTS_ASYM_DONE : Fld := ⟨0xE00030, 1, 1, 8, 8, 4, 1, .w1c, false, 0x0⟩
def F.TIME_EVENTS_PPS_LOST : Fld := ⟨0xE00030, 1, 1, 8, 8, 5, 1, .w1c, false, 0x0⟩
def F.TIME_EVENTS_TC_DISCARD : Fld := ⟨0xE00030, 1, 1, 8, 8, 6, 1, .w1c, false, 0x0⟩
def R.TIME_EVENTS : Reg := ⟨0xE00030, 1, 8, 1, 8, 0x0,
  [F.TIME_EVENTS_LOCKED, F.TIME_EVENTS_HOLDOVER, F.TIME_EVENTS_FREE, F.TIME_EVENTS_SWITCHOVER, F.TIME_EVENTS_ASYM_DONE, F.TIME_EVENTS_PPS_LOST, F.TIME_EVENTS_TC_DISCARD]⟩
def F.TIME_TC_RELAYED_COUNT : Fld := ⟨0xE00038, 1, 1, 8, 8, 0, 64, .rc, true, 0x0⟩
def R.TIME_TC_RELAYED : Reg := ⟨0xE00038, 1, 8, 1, 8, 0x0,
  [F.TIME_TC_RELAYED_COUNT]⟩
def F.TIME_TC_LATE_COUNT : Fld := ⟨0xE00040, 1, 1, 8, 8, 0, 64, .rc, true, 0x0⟩
def R.TIME_TC_LATE : Reg := ⟨0xE00040, 1, 8, 1, 8, 0x0,
  [F.TIME_TC_LATE_COUNT]⟩
def F.TIME_TC_NOLOCK_COUNT : Fld := ⟨0xE00048, 1, 1, 8, 8, 0, 64, .rc, true, 0x0⟩
def R.TIME_TC_NOLOCK : Reg := ⟨0xE00048, 1, 8, 1, 8, 0x0,
  [F.TIME_TC_NOLOCK_COUNT]⟩
def F.TIME_PPS_REJECT_COUNT : Fld := ⟨0xE00050, 1, 1, 8, 8, 0, 64, .rc, true, 0x0⟩
def R.TIME_PPS_REJECT : Reg := ⟨0xE00050, 1, 8, 1, 8, 0x0,
  [F.TIME_PPS_REJECT_COUNT]⟩
def F.TIME_TBn_SEC_SECONDS : Fld := ⟨0xE00100, 4, 1, 32, 8, 0, 64, .ro, true, 0x0⟩
def R.TIME_TBn_SEC : Reg := ⟨0xE00100, 4, 32, 1, 8, 0x0,
  [F.TIME_TBn_SEC_SECONDS]⟩
def F.TIME_TBn_NS_NS : Fld := ⟨0xE00108, 4, 1, 32, 8, 0, 32, .ro, false, 0x0⟩
def F.TIME_TBn_NS_FRAC : Fld := ⟨0xE00108, 4, 1, 32, 8, 32, 16, .ro, false, 0x0⟩
def R.TIME_TBn_NS : Reg := ⟨0xE00108, 4, 32, 1, 8, 0x0,
  [F.TIME_TBn_NS_NS, F.TIME_TBn_NS_FRAC]⟩
def F.TIME_TBn_OFFSET_OFFSET : Fld := ⟨0xE00110, 4, 1, 32, 8, 0, 64, .ro, true, 0x0⟩
def R.TIME_TBn_OFFSET : Reg := ⟨0xE00110, 4, 32, 1, 8, 0x0,
  [F.TIME_TBn_OFFSET_OFFSET]⟩
def F.TIME_PPS_IN_SEC_SECONDS : Fld := ⟨0xE00200, 1, 1, 8, 8, 0, 64, .ro, true, 0x0⟩
def R.TIME_PPS_IN_SEC : Reg := ⟨0xE00200, 1, 8, 1, 8, 0x0,
  [F.TIME_PPS_IN_SEC_SECONDS]⟩
def F.TIME_PPS_IN_NS_NS : Fld := ⟨0xE00208, 1, 1, 8, 8, 0, 32, .ro, true, 0x0⟩
def F.TIME_PPS_IN_NS_FRAC : Fld := ⟨0xE00208, 1, 1, 8, 8, 32, 16, .ro, true, 0x0⟩
def R.TIME_PPS_IN_NS : Reg := ⟨0xE00208, 1, 8, 1, 8, 0x0,
  [F.TIME_PPS_IN_NS_NS, F.TIME_PPS_IN_NS_FRAC]⟩
def F.TIME_Rr_ASYM_ASYM : Fld := ⟨0xE00300, 2, 1, 32, 8, 0, 32, .rw, true, 0x0⟩
def F.TIME_Rr_ASYM_VALID : Fld := ⟨0xE00300, 2, 1, 32, 8, 32, 1, .wo, false, 0x0⟩
def R.TIME_Rr_ASYM : Reg := ⟨0xE00300, 2, 32, 1, 8, 0x0,
  [F.TIME_Rr_ASYM_ASYM, F.TIME_Rr_ASYM_VALID]⟩
def F.TIME_Rr_THETA_THETA : Fld := ⟨0xE00308, 2, 1, 32, 8, 0, 64, .ro, true, 0x0⟩
def R.TIME_Rr_THETA : Reg := ⟨0xE00308, 2, 32, 1, 8, 0x0,
  [F.TIME_Rr_THETA_THETA]⟩
def F.HOST_STATUS_LINK_UP : Fld := ⟨0xF00000, 1, 1, 8, 8, 0, 1, .ro, true, 0x0⟩
def F.HOST_STATUS_LANE_LOCK : Fld := ⟨0xF00000, 1, 1, 8, 8, 1, 4, .ro, true, 0x0⟩
def F.HOST_STATUS_BOOTSTRAP : Fld := ⟨0xF00000, 1, 1, 8, 8, 5, 1, .ro, true, 0x0⟩
def F.HOST_STATUS_TXN_OPEN : Fld := ⟨0xF00000, 1, 1, 8, 8, 8, 5, .ro, true, 0x0⟩
def F.HOST_STATUS_SNAP_OPEN : Fld := ⟨0xF00000, 1, 1, 8, 8, 16, 4, .ro, true, 0x0⟩
def F.HOST_STATUS_LOADING : Fld := ⟨0xF00000, 1, 1, 8, 8, 20, 1, .ro, true, 0x0⟩
def F.HOST_STATUS_BOOTSTRAP_SPENT : Fld := ⟨0xF00000, 1, 1, 8, 8, 21, 1, .ro, true, 0x0⟩
def R.HOST_STATUS : Reg := ⟨0xF00000, 1, 8, 1, 8, 0x0,
  [F.HOST_STATUS_LINK_UP, F.HOST_STATUS_LANE_LOCK, F.HOST_STATUS_BOOTSTRAP, F.HOST_STATUS_TXN_OPEN, F.HOST_STATUS_SNAP_OPEN, F.HOST_STATUS_LOADING, F.HOST_STATUS_BOOTSTRAP_SPENT]⟩
def F.HOST_CFG_PORT : Fld := ⟨0xF00008, 1, 1, 8, 8, 0, 16, .rw, false, 0xC0A8⟩
def F.HOST_CFG_IPV4_EN : Fld := ⟨0xF00008, 1, 1, 8, 8, 16, 1, .rw, false, 0x0⟩
def F.HOST_CFG_IPV6_EN : Fld := ⟨0xF00008, 1, 1, 8, 8, 17, 1, .rw, false, 0x0⟩
def F.HOST_CFG_VLAN_EN : Fld := ⟨0xF00008, 1, 1, 8, 8, 18, 1, .rw, false, 0x0⟩
def F.HOST_CFG_VLAN_ID : Fld := ⟨0xF00008, 1, 1, 8, 8, 20, 12, .rw, false, 0x0⟩
def F.HOST_CFG_TXN_IDLE : Fld := ⟨0xF00008, 1, 1, 8, 8, 32, 16, .rw, false, 0xA⟩
def F.HOST_CFG_SNAP_LIFE : Fld := ⟨0xF00008, 1, 1, 8, 8, 48, 16, .rw, false, 0xA⟩
def R.HOST_CFG : Reg := ⟨0xF00008, 1, 8, 1, 8, 0xA000A0000C0A8,
  [F.HOST_CFG_PORT, F.HOST_CFG_IPV4_EN, F.HOST_CFG_IPV6_EN, F.HOST_CFG_VLAN_EN, F.HOST_CFG_VLAN_ID, F.HOST_CFG_TXN_IDLE, F.HOST_CFG_SNAP_LIFE]⟩
def F.HOST_MAC_MAC : Fld := ⟨0xF00010, 1, 1, 8, 8, 0, 48, .ro, false, 0x0⟩
def R.HOST_MAC : Reg := ⟨0xF00010, 1, 8, 1, 8, 0x0,
  [F.HOST_MAC_MAC]⟩
def F.HOST_IPV4_ADDR : Fld := ⟨0xF00018, 1, 1, 8, 8, 0, 32, .rw, false, 0x0⟩
def F.HOST_IPV4_PREFIX : Fld := ⟨0xF00018, 1, 1, 8, 8, 32, 6, .rw, false, 0x0⟩
def R.HOST_IPV4 : Reg := ⟨0xF00018, 1, 8, 1, 8, 0x0,
  [F.HOST_IPV4_ADDR, F.HOST_IPV4_PREFIX]⟩
def F.HOST_IPV6_HI_ADDR : Fld := ⟨0xF00020, 1, 1, 8, 8, 0, 64, .rw, false, 0x0⟩
def R.HOST_IPV6_HI : Reg := ⟨0xF00020, 1, 8, 1, 8, 0x0,
  [F.HOST_IPV6_HI_ADDR]⟩
def F.HOST_IPV6_LO_ADDR : Fld := ⟨0xF00028, 1, 1, 8, 8, 0, 64, .rw, false, 0x0⟩
def R.HOST_IPV6_LO : Reg := ⟨0xF00028, 1, 8, 1, 8, 0x0,
  [F.HOST_IPV6_LO_ADDR]⟩
def F.HOST_IPV6_PFX_PREFIX : Fld := ⟨0xF00030, 1, 1, 8, 8, 0, 8, .rw, false, 0x0⟩
def R.HOST_IPV6_PFX : Reg := ⟨0xF00030, 1, 8, 1, 8, 0x0,
  [F.HOST_IPV6_PFX_PREFIX]⟩
def F.HOST_EVENTS_AUTH_FAIL : Fld := ⟨0xF00038, 1, 1, 8, 8, 0, 1, .w1c, false, 0x0⟩
def F.HOST_EVENTS_REPLAY : Fld := ⟨0xF00038, 1, 1, 8, 8, 1, 1, .w1c, false, 0x0⟩
def F.HOST_EVENTS_TXN_EXPIRED : Fld := ⟨0xF00038, 1, 1, 8, 8, 2, 1, .w1c, false, 0x0⟩
def F.HOST_EVENTS_SNAP_CLOSED : Fld := ⟨0xF00038, 1, 1, 8, 8, 3, 1, .w1c, false, 0x0⟩
def F.HOST_EVENTS_LINK : Fld := ⟨0xF00038, 1, 1, 8, 8, 4, 1, .w1c, false, 0x0⟩
def F.HOST_EVENTS_LOAD_DONE : Fld := ⟨0xF00038, 1, 1, 8, 8, 5, 1, .w1c, false, 0x0⟩
def R.HOST_EVENTS : Reg := ⟨0xF00038, 1, 8, 1, 8, 0x0,
  [F.HOST_EVENTS_AUTH_FAIL, F.HOST_EVENTS_REPLAY, F.HOST_EVENTS_TXN_EXPIRED, F.HOST_EVENTS_SNAP_CLOSED, F.HOST_EVENTS_LINK, F.HOST_EVENTS_LOAD_DONE]⟩
def F.HOST_REQUESTS_COUNT : Fld := ⟨0xF00040, 1, 1, 8, 8, 0, 64, .rc, true, 0x0⟩
def R.HOST_REQUESTS : Reg := ⟨0xF00040, 1, 8, 1, 8, 0x0,
  [F.HOST_REQUESTS_COUNT]⟩
def F.HOST_AUTH_FAIL_COUNT : Fld := ⟨0xF00048, 1, 1, 8, 8, 0, 64, .rc, true, 0x0⟩
def R.HOST_AUTH_FAIL : Reg := ⟨0xF00048, 1, 8, 1, 8, 0x0,
  [F.HOST_AUTH_FAIL_COUNT]⟩
def F.HOST_REPLAY_COUNT : Fld := ⟨0xF00050, 1, 1, 8, 8, 0, 64, .rc, true, 0x0⟩
def R.HOST_REPLAY : Reg := ⟨0xF00050, 1, 8, 1, 8, 0x0,
  [F.HOST_REPLAY_COUNT]⟩
def F.HOST_DUP_COUNT : Fld := ⟨0xF00058, 1, 1, 8, 8, 0, 64, .rc, true, 0x0⟩
def R.HOST_DUP : Reg := ⟨0xF00058, 1, 8, 1, 8, 0x0,
  [F.HOST_DUP_COUNT]⟩
def F.HOST_MALFORMED_COUNT : Fld := ⟨0xF00060, 1, 1, 8, 8, 0, 64, .rc, true, 0x0⟩
def R.HOST_MALFORMED : Reg := ⟨0xF00060, 1, 8, 1, 8, 0x0,
  [F.HOST_MALFORMED_COUNT]⟩
def F.HOST_REFUSED_COUNT : Fld := ⟨0xF00068, 1, 1, 8, 8, 0, 64, .rc, true, 0x0⟩
def R.HOST_REFUSED : Reg := ⟨0xF00068, 1, 8, 1, 8, 0x0,
  [F.HOST_REFUSED_COUNT]⟩
def F.HOST_LOAD_TARGET : Fld := ⟨0xF00070, 1, 1, 8, 8, 0, 8, .ro, true, 0x0⟩
def F.HOST_LOAD_RESULT : Fld := ⟨0xF00070, 1, 1, 8, 8, 8, 8, .ro, false, 0x0⟩
def F.HOST_LOAD_LOAD_ID : Fld := ⟨0xF00070, 1, 1, 8, 8, 32, 32, .ro, true, 0x0⟩
def R.HOST_LOAD : Reg := ⟨0xF00070, 1, 8, 1, 8, 0x0,
  [F.HOST_LOAD_TARGET, F.HOST_LOAD_RESULT, F.HOST_LOAD_LOAD_ID]⟩
def F.HOST_BOOT_FLOOR_FLOOR : Fld := ⟨0xF00078, 1, 1, 8, 8, 0, 32, .ro, true, 0x0⟩
def F.HOST_BOOT_FLOOR_CEILING : Fld := ⟨0xF00078, 1, 1, 8, 8, 32, 32, .ro, true, 0x0⟩
def R.HOST_BOOT_FLOOR : Reg := ⟨0xF00078, 1, 8, 1, 8, 0x0,
  [F.HOST_BOOT_FLOOR_FLOOR, F.HOST_BOOT_FLOOR_CEILING]⟩
def F.EVT_STATUS_TGT_UP : Fld := ⟨0xF08000, 1, 1, 8, 8, 0, 12, .ro, true, 0x0⟩
def F.EVT_STATUS_PENDING : Fld := ⟨0xF08000, 1, 1, 8, 8, 16, 12, .ro, true, 0x0⟩
def R.EVT_STATUS : Reg := ⟨0xF08000, 1, 8, 1, 8, 0x0,
  [F.EVT_STATUS_TGT_UP, F.EVT_STATUS_PENDING]⟩
def F.EVT_TGTt_CFG_COUNT : Fld := ⟨0xF08100, 12, 1, 8, 8, 0, 11, .rw, false, 0x1⟩
def F.EVT_TGTt_CFG_TIME : Fld := ⟨0xF08100, 12, 1, 8, 8, 16, 16, .rw, false, 0x64⟩
def R.EVT_TGTt_CFG : Reg := ⟨0xF08100, 12, 8, 1, 8, 0x640001,
  [F.EVT_TGTt_CFG_COUNT, F.EVT_TGTt_CFG_TIME]⟩
def F.EVT_ECn_ADDR_HI_ADDR : Fld := ⟨0xF08200, 8, 1, 32, 8, 0, 64, .rw, false, 0x0⟩
def R.EVT_ECn_ADDR_HI : Reg := ⟨0xF08200, 8, 32, 1, 8, 0x0,
  [F.EVT_ECn_ADDR_HI_ADDR]⟩
def F.EVT_ECn_ADDR_LO_ADDR : Fld := ⟨0xF08208, 8, 1, 32, 8, 0, 64, .rw, false, 0x0⟩
def R.EVT_ECn_ADDR_LO : Reg := ⟨0xF08208, 8, 32, 1, 8, 0x0,
  [F.EVT_ECn_ADDR_LO_ADDR]⟩
def F.EVT_ECn_CFG_PORT : Fld := ⟨0xF08210, 8, 1, 32, 8, 0, 16, .rw, false, 0x0⟩
def F.EVT_ECn_CFG_ENABLE : Fld := ⟨0xF08210, 8, 1, 32, 8, 16, 1, .rw, false, 0x0⟩
def F.EVT_ECn_CFG_RETRY : Fld := ⟨0xF08210, 8, 1, 32, 8, 24, 8, .rw, false, 0x5⟩
def F.EVT_ECn_CFG_OUTSTANDING : Fld := ⟨0xF08210, 8, 1, 32, 8, 32, 5, .ro, true, 0x0⟩
def R.EVT_ECn_CFG : Reg := ⟨0xF08210, 8, 32, 1, 8, 0x5000000,
  [F.EVT_ECn_CFG_PORT, F.EVT_ECn_CFG_ENABLE, F.EVT_ECn_CFG_RETRY, F.EVT_ECn_CFG_OUTSTANDING]⟩
def F.EVT_ECn_SEQ_LAST : Fld := ⟨0xF08218, 8, 1, 32, 8, 0, 32, .ro, true, 0x0⟩
def R.EVT_ECn_SEQ : Reg := ⟨0xF08218, 8, 32, 1, 8, 0x0,
  [F.EVT_ECn_SEQ_LAST]⟩
def F.EVT_SRCs_CFG_ENABLE : Fld := ⟨0xF09000, 1024, 1, 8, 8, 0, 1, .rw, false, 0x0⟩
def F.EVT_SRCs_CFG_EDGE : Fld := ⟨0xF09000, 1024, 1, 8, 8, 1, 1, .rw, false, 0x0⟩
def F.EVT_SRCs_CFG_INVERT : Fld := ⟨0xF09000, 1024, 1, 8, 8, 2, 1, .rw, false, 0x0⟩
def F.EVT_SRCs_CFG_TARGETS : Fld := ⟨0xF09000, 1024, 1, 8, 8, 4, 12, .rw, false, 0x0⟩
def F.EVT_SRCs_CFG_FILTER : Fld := ⟨0xF09000, 1024, 1, 8, 8, 16, 16, .rw, false, 0x1⟩
def F.EVT_SRCs_CFG_ASSERTED : Fld := ⟨0xF09000, 1024, 1, 8, 8, 32, 1, .ro, true, 0x0⟩
def F.EVT_SRCs_CFG_HELD : Fld := ⟨0xF09000, 1024, 1, 8, 8, 33, 1, .ro, true, 0x0⟩
def F.EVT_SRCs_CFG_LAST_TGT : Fld := ⟨0xF09000, 1024, 1, 8, 8, 40, 4, .ro, true, 0x0⟩
def R.EVT_SRCs_CFG : Reg := ⟨0xF09000, 1024, 8, 1, 8, 0x10000,
  [F.EVT_SRCs_CFG_ENABLE, F.EVT_SRCs_CFG_EDGE, F.EVT_SRCs_CFG_INVERT, F.EVT_SRCs_CFG_TARGETS, F.EVT_SRCs_CFG_FILTER, F.EVT_SRCs_CFG_ASSERTED, F.EVT_SRCs_CFG_HELD, F.EVT_SRCs_CFG_LAST_TGT]⟩
def F.CST_STATUS_MODE : Fld := ⟨0x1000000, 1, 1, 8, 8, 0, 2, .ro, false, 0x0⟩
def F.CST_STATUS_IS_POLE : Fld := ⟨0x1000000, 1, 1, 8, 8, 2, 1, .ro, true, 0x0⟩
def F.CST_STATUS_IS_RESERVE : Fld := ⟨0x1000000, 1, 1, 8, 8, 3, 1, .ro, true, 0x0⟩
def F.CST_STATUS_MEMBERS : Fld := ⟨0x1000000, 1, 1, 8, 8, 4, 7, .ro, false, 0x0⟩
def F.CST_STATUS_POSITION : Fld := ⟨0x1000000, 1, 1, 8, 8, 16, 6, .ro, false, 0x0⟩
def F.CST_STATUS_POLE : Fld := ⟨0x1000000, 1, 1, 8, 8, 24, 6, .ro, true, 0x0⟩
def F.CST_STATUS_CID : Fld := ⟨0x1000000, 1, 1, 8, 8, 32, 32, .ro, false, 0x0⟩
def R.CST_STATUS : Reg := ⟨0x1000000, 1, 8, 1, 8, 0x0,
  [F.CST_STATUS_MODE, F.CST_STATUS_IS_POLE, F.CST_STATUS_IS_RESERVE, F.CST_STATUS_MEMBERS, F.CST_STATUS_POSITION, F.CST_STATUS_POLE, F.CST_STATUS_CID]⟩
def F.CST_CTRL_PROMOTE : Fld := ⟨0x1000008, 1, 1, 8, 8, 0, 1, .wo, false, 0x0⟩
def R.CST_CTRL : Reg := ⟨0x1000008, 1, 8, 1, 8, 0x0,
  [F.CST_CTRL_PROMOTE]⟩
def F.CST_EVENTS_LINK_DOWN : Fld := ⟨0x1000010, 1, 1, 8, 8, 0, 1, .w1c, false, 0x0⟩
def F.CST_EVENTS_LINK_UP : Fld := ⟨0x1000010, 1, 1, 8, 8, 1, 1, .w1c, false, 0x0⟩
def F.CST_EVENTS_MISWIRED : Fld := ⟨0x1000010, 1, 1, 8, 8, 2, 1, .w1c, false, 0x0⟩
def F.CST_EVENTS_REROUTED : Fld := ⟨0x1000010, 1, 1, 8, 8, 3, 1, .w1c, false, 0x0⟩
def F.CST_EVENTS_MEMBER_LOST : Fld := ⟨0x1000010, 1, 1, 8, 8, 4, 1, .w1c, false, 0x0⟩
def F.CST_EVENTS_POLE_LOST : Fld := ⟨0x1000010, 1, 1, 8, 8, 5, 1, .w1c, false, 0x0⟩
def F.CST_EVENTS_EVENTS_HELD : Fld := ⟨0x1000010, 1, 1, 8, 8, 6, 1, .w1c, false, 0x0⟩
def R.CST_EVENTS : Reg := ⟨0x1000010, 1, 8, 1, 8, 0x0,
  [F.CST_EVENTS_LINK_DOWN, F.CST_EVENTS_LINK_UP, F.CST_EVENTS_MISWIRED, F.CST_EVENTS_REROUTED, F.CST_EVENTS_MEMBER_LOST, F.CST_EVENTS_POLE_LOST, F.CST_EVENTS_EVENTS_HELD]⟩
def F.CST_UNREACHABLE_POSITIONS : Fld := ⟨0x1000018, 1, 1, 8, 8, 0, 64, .ro, true, 0x0⟩
def R.CST_UNREACHABLE : Reg := ⟨0x1000018, 1, 8, 1, 8, 0x0,
  [F.CST_UNREACHABLE_POSITIONS]⟩
def F.CST_HELD_RECORDS : Fld := ⟨0x1000020, 1, 1, 8, 8, 0, 13, .ro, true, 0x0⟩
def R.CST_HELD : Reg := ⟨0x1000020, 1, 8, 1, 8, 0x0,
  [F.CST_HELD_RECORDS]⟩
def F.CST_LINK_FAIL_COUNT : Fld := ⟨0x1000028, 1, 1, 8, 8, 0, 64, .rc, true, 0x0⟩
def R.CST_LINK_FAIL : Reg := ⟨0x1000028, 1, 8, 1, 8, 0x0,
  [F.CST_LINK_FAIL_COUNT]⟩
def F.CST_REROUTES_COUNT : Fld := ⟨0x1000030, 1, 1, 8, 8, 0, 64, .rc, true, 0x0⟩
def R.CST_REROUTES : Reg := ⟨0x1000030, 1, 8, 1, 8, 0x0,
  [F.CST_REROUTES_COUNT]⟩
def F.CST_MGMT_LOST_COUNT : Fld := ⟨0x1000038, 1, 1, 8, 8, 0, 64, .rc, true, 0x0⟩
def R.CST_MGMT_LOST : Reg := ⟨0x1000038, 1, 8, 1, 8, 0x0,
  [F.CST_MGMT_LOST_COUNT]⟩
def F.CST_MAP_QUERY_COORD : Fld := ⟨0x1000040, 1, 1, 8, 8, 0, 40, .rw, false, 0x0⟩
def R.CST_MAP_QUERY : Reg := ⟨0x1000040, 1, 8, 1, 8, 0x0,
  [F.CST_MAP_QUERY_COORD]⟩
def F.CST_MAP_POSITION : Fld := ⟨0x1000048, 1, 1, 8, 8, 0, 6, .rw, false, 0x0⟩
def F.CST_MAP_VALID : Fld := ⟨0x1000048, 1, 1, 8, 8, 6, 1, .ro, false, 0x0⟩
def R.CST_MAP : Reg := ⟨0x1000048, 1, 8, 1, 8, 0x0,
  [F.CST_MAP_POSITION, F.CST_MAP_VALID]⟩
def F.CST_LINKk_STATE : Fld := ⟨0x1000100, 8, 1, 8, 8, 0, 2, .ro, true, 0x0⟩
def F.CST_LINKk_FAR_POS : Fld := ⟨0x1000100, 8, 1, 8, 8, 2, 6, .ro, true, 0x0⟩
def F.CST_LINKk_FAR_LINK : Fld := ⟨0x1000100, 8, 1, 8, 8, 8, 3, .ro, true, 0x0⟩
def F.CST_LINKk_RESENDS : Fld := ⟨0x1000100, 8, 1, 8, 8, 32, 32, .rc, true, 0x0⟩
def R.CST_LINKk : Reg := ⟨0x1000100, 8, 8, 1, 8, 0x0,
  [F.CST_LINKk_STATE, F.CST_LINKk_FAR_POS, F.CST_LINKk_FAR_LINK, F.CST_LINKk_RESENDS]⟩
def F.IMG_STATUS_ACTIVE : Fld := ⟨0x1100000, 1, 1, 8, 8, 0, 1, .ro, false, 0x0⟩
def F.IMG_STATUS_STAGED : Fld := ⟨0x1100000, 1, 1, 8, 8, 1, 1, .ro, true, 0x0⟩
def F.IMG_STATUS_STATE : Fld := ⟨0x1100000, 1, 1, 8, 8, 2, 3, .ro, true, 0x0⟩
def F.IMG_STATUS_RESULT : Fld := ⟨0x1100000, 1, 1, 8, 8, 8, 8, .ro, false, 0x0⟩
def F.IMG_STATUS_SECTION : Fld := ⟨0x1100000, 1, 1, 8, 8, 16, 8, .ro, false, 0x0⟩
def F.IMG_STATUS_CHECK : Fld := ⟨0x1100000, 1, 1, 8, 8, 24, 4, .ro, false, 0x0⟩
def F.IMG_STATUS_VERSION : Fld := ⟨0x1100000, 1, 1, 8, 8, 32, 32, .ro, false, 0x0⟩
def R.IMG_STATUS : Reg := ⟨0x1100000, 1, 8, 1, 8, 0x0,
  [F.IMG_STATUS_ACTIVE, F.IMG_STATUS_STAGED, F.IMG_STATUS_STATE, F.IMG_STATUS_RESULT, F.IMG_STATUS_SECTION, F.IMG_STATUS_CHECK, F.IMG_STATUS_VERSION]⟩
def F.IMG_CTRL_CMD : Fld := ⟨0x1100008, 1, 1, 8, 8, 0, 2, .wo, false, 0x0⟩
def F.IMG_CTRL_DEADLINE : Fld := ⟨0x1100008, 1, 1, 8, 8, 32, 32, .rw, false, 0x186A0⟩
def R.IMG_CTRL : Reg := ⟨0x1100008, 1, 8, 1, 8, 0x186A000000000,
  [F.IMG_CTRL_CMD, F.IMG_CTRL_DEADLINE]⟩
def F.IMG_DIGEST_DIGEST : Fld := ⟨0x1100010, 4, 1, 8, 8, 0, 64, .ro, false, 0x0⟩
def R.IMG_DIGEST : Reg := ⟨0x1100010, 4, 8, 1, 8, 0x0,
  [F.IMG_DIGEST_DIGEST]⟩
def F.IMG_TWILIGHT_UNIT : Fld := ⟨0x1100030, 1, 1, 8, 8, 0, 6, .rw, false, 0x0⟩
def F.IMG_TWILIGHT_CMD : Fld := ⟨0x1100030, 1, 1, 8, 8, 6, 2, .wo, false, 0x0⟩
def F.IMG_TWILIGHT_RESULT : Fld := ⟨0x1100030, 1, 1, 8, 8, 8, 8, .ro, false, 0x0⟩
def F.IMG_TWILIGHT_DEADLINE : Fld := ⟨0x1100030, 1, 1, 8, 8, 16, 32, .rw, false, 0x3E8⟩
def R.IMG_TWILIGHT : Reg := ⟨0x1100030, 1, 8, 1, 8, 0x3E80000,
  [F.IMG_TWILIGHT_UNIT, F.IMG_TWILIGHT_CMD, F.IMG_TWILIGHT_RESULT, F.IMG_TWILIGHT_DEADLINE]⟩
def F.IMG_DRAINING_UNITS : Fld := ⟨0x1100038, 1, 1, 8, 8, 0, 34, .ro, true, 0x0⟩
def R.IMG_DRAINING : Reg := ⟨0x1100038, 1, 8, 1, 8, 0x0,
  [F.IMG_DRAINING_UNITS]⟩
def F.IMG_DARK_UNITS : Fld := ⟨0x1100040, 1, 1, 8, 8, 0, 34, .ro, true, 0x0⟩
def R.IMG_DARK : Reg := ⟨0x1100040, 1, 8, 1, 8, 0x0,
  [F.IMG_DARK_UNITS]⟩
def F.IMG_PATCH_SECTOR : Fld := ⟨0x1100048, 1, 1, 8, 8, 0, 3, .ro, true, 0x0⟩
def F.IMG_PATCH_STEP : Fld := ⟨0x1100048, 1, 1, 8, 8, 3, 3, .ro, true, 0x0⟩
def F.IMG_PATCH_RESULT : Fld := ⟨0x1100048, 1, 1, 8, 8, 8, 8, .ro, false, 0x0⟩
def F.IMG_PATCH_DEADLINE : Fld := ⟨0x1100048, 1, 1, 8, 8, 16, 32, .rw, false, 0x3E8⟩
def R.IMG_PATCH : Reg := ⟨0x1100048, 1, 8, 1, 8, 0x3E80000,
  [F.IMG_PATCH_SECTOR, F.IMG_PATCH_STEP, F.IMG_PATCH_RESULT, F.IMG_PATCH_DEADLINE]⟩
def F.IMG_FW_STATUS_COPY_B : Fld := ⟨0x1100050, 1, 1, 8, 8, 0, 4, .ro, true, 0x0⟩
def F.IMG_FW_STATUS_RESTARTING : Fld := ⟨0x1100050, 1, 1, 8, 8, 4, 1, .ro, true, 0x0⟩
def F.IMG_FW_STATUS_PREFER_B : Fld := ⟨0x1100050, 1, 1, 8, 8, 5, 1, .ro, false, 0x0⟩
def F.IMG_FW_STATUS_MP : Fld := ⟨0x1100050, 1, 1, 8, 8, 6, 2, .ro, true, 0x0⟩
def F.IMG_FW_STATUS_RESULT : Fld := ⟨0x1100050, 1, 1, 8, 8, 8, 8, .ro, false, 0x0⟩
def F.IMG_FW_STATUS_A_VERSION : Fld := ⟨0x1100050, 1, 1, 8, 8, 32, 16, .ro, false, 0x0⟩
def F.IMG_FW_STATUS_B_VERSION : Fld := ⟨0x1100050, 1, 1, 8, 8, 48, 16, .ro, false, 0x0⟩
def R.IMG_FW_STATUS : Reg := ⟨0x1100050, 1, 8, 1, 8, 0x0,
  [F.IMG_FW_STATUS_COPY_B, F.IMG_FW_STATUS_RESTARTING, F.IMG_FW_STATUS_PREFER_B, F.IMG_FW_STATUS_MP, F.IMG_FW_STATUS_RESULT, F.IMG_FW_STATUS_A_VERSION, F.IMG_FW_STATUS_B_VERSION]⟩
def F.IMG_FW_CTRL_RESTART : Fld := ⟨0x1100058, 1, 1, 8, 8, 0, 1, .wo, false, 0x0⟩
def F.IMG_FW_CTRL_DRAIN : Fld := ⟨0x1100058, 1, 1, 8, 8, 16, 16, .rw, false, 0x64⟩
def R.IMG_FW_CTRL : Reg := ⟨0x1100058, 1, 8, 1, 8, 0x640000,
  [F.IMG_FW_CTRL_RESTART, F.IMG_FW_CTRL_DRAIN]⟩
def F.IMG_EVENTS_STAGED : Fld := ⟨0x1100060, 1, 1, 8, 8, 0, 1, .w1c, false, 0x0⟩
def F.IMG_EVENTS_ACTIVATED : Fld := ⟨0x1100060, 1, 1, 8, 8, 1, 1, .w1c, false, 0x0⟩
def F.IMG_EVENTS_REFUSED : Fld := ⟨0x1100060, 1, 1, 8, 8, 2, 1, .w1c, false, 0x0⟩
def F.IMG_EVENTS_PATCHED : Fld := ⟨0x1100060, 1, 1, 8, 8, 3, 1, .w1c, false, 0x0⟩
def F.IMG_EVENTS_DARK : Fld := ⟨0x1100060, 1, 1, 8, 8, 4, 1, .w1c, false, 0x0⟩
def F.IMG_EVENTS_FW_RESTARTED : Fld := ⟨0x1100060, 1, 1, 8, 8, 5, 1, .w1c, false, 0x0⟩
def F.IMG_EVENTS_FW_FAIL : Fld := ⟨0x1100060, 1, 1, 8, 8, 6, 1, .w1c, false, 0x0⟩
def R.IMG_EVENTS : Reg := ⟨0x1100060, 1, 8, 1, 8, 0x0,
  [F.IMG_EVENTS_STAGED, F.IMG_EVENTS_ACTIVATED, F.IMG_EVENTS_REFUSED, F.IMG_EVENTS_PATCHED, F.IMG_EVENTS_DARK, F.IMG_EVENTS_FW_RESTARTED, F.IMG_EVENTS_FW_FAIL]⟩
def F.IMG_LOADS_COUNT : Fld := ⟨0x1100068, 1, 1, 8, 8, 0, 64, .rc, true, 0x0⟩
def R.IMG_LOADS : Reg := ⟨0x1100068, 1, 8, 1, 8, 0x0,
  [F.IMG_LOADS_COUNT]⟩
def F.IMG_REFUSED_COUNT : Fld := ⟨0x1100070, 1, 1, 8, 8, 0, 64, .rc, true, 0x0⟩
def R.IMG_REFUSED : Reg := ⟨0x1100070, 1, 8, 1, 8, 0x0,
  [F.IMG_REFUSED_COUNT]⟩
def F.IMG_DISABLED_ITEMS_COUNT : Fld := ⟨0x1100078, 1, 1, 8, 8, 0, 64, .rc, true, 0x0⟩
def R.IMG_DISABLED_ITEMS : Reg := ⟨0x1100078, 1, 8, 1, 8, 0x0,
  [F.IMG_DISABLED_ITEMS_COUNT]⟩
def F.SEC_STATUS_OWNED : Fld := ⟨0x1200000, 1, 1, 8, 8, 0, 1, .ro, true, 0x0⟩
def F.SEC_STATUS_PUF_FAIL : Fld := ⟨0x1200000, 1, 1, 8, 8, 1, 1, .ro, false, 0x0⟩
def F.SEC_STATUS_RECOVERY : Fld := ⟨0x1200000, 1, 1, 8, 8, 2, 1, .ro, true, 0x0⟩
def F.SEC_STATUS_BOOT_SEL : Fld := ⟨0x1200000, 1, 1, 8, 8, 3, 2, .ro, false, 0x0⟩
def F.SEC_STATUS_FW_B : Fld := ⟨0x1200000, 1, 1, 8, 8, 5, 1, .ro, false, 0x0⟩
def F.SEC_STATUS_QUOTE_BUSY : Fld := ⟨0x1200000, 1, 1, 8, 8, 6, 1, .ro, true, 0x0⟩
def F.SEC_STATUS_CMD_BUSY : Fld := ⟨0x1200000, 1, 1, 8, 8, 7, 1, .ro, true, 0x0⟩
def F.SEC_STATUS_ACTIVE : Fld := ⟨0x1200000, 1, 1, 8, 8, 8, 4, .ro, true, 0x0⟩
def F.SEC_STATUS_REVOKED : Fld := ⟨0x1200000, 1, 1, 8, 8, 12, 4, .ro, true, 0x0⟩
def F.SEC_STATUS_CERT_LEN : Fld := ⟨0x1200000, 1, 1, 8, 8, 16, 16, .ro, false, 0x0⟩
def R.SEC_STATUS : Reg := ⟨0x1200000, 1, 8, 1, 8, 0x0,
  [F.SEC_STATUS_OWNED, F.SEC_STATUS_PUF_FAIL, F.SEC_STATUS_RECOVERY, F.SEC_STATUS_BOOT_SEL, F.SEC_STATUS_FW_B, F.SEC_STATUS_QUOTE_BUSY, F.SEC_STATUS_CMD_BUSY, F.SEC_STATUS_ACTIVE, F.SEC_STATUS_REVOKED, F.SEC_STATUS_CERT_LEN]⟩
def F.SEC_DEVICE_DEVICE : Fld := ⟨0x1200008, 1, 1, 8, 8, 0, 64, .ro, false, 0x0⟩
def R.SEC_DEVICE : Reg := ⟨0x1200008, 1, 8, 1, 8, 0x0,
  [F.SEC_DEVICE_DEVICE]⟩
def F.SEC_ROLLBACK_COUNTER : Fld := ⟨0x1200010, 1, 1, 8, 8, 0, 32, .ro, true, 0x0⟩
def R.SEC_ROLLBACK : Reg := ⟨0x1200010, 1, 8, 1, 8, 0x0,
  [F.SEC_ROLLBACK_COUNTER]⟩
def F.SEC_CHALLENGE_CHALLENGE : Fld := ⟨0x1200018, 1, 1, 8, 8, 0, 64, .ro, true, 0x0⟩
def R.SEC_CHALLENGE : Reg := ⟨0x1200018, 1, 8, 1, 8, 0x0,
  [F.SEC_CHALLENGE_CHALLENGE]⟩
def F.SEC_CTRL_CMD : Fld := ⟨0x1200020, 1, 1, 8, 8, 0, 3, .wo, false, 0x0⟩
def F.SEC_CTRL_RESULT : Fld := ⟨0x1200020, 1, 1, 8, 8, 8, 8, .ro, true, 0x0⟩
def R.SEC_CTRL : Reg := ⟨0x1200020, 1, 8, 1, 8, 0x0,
  [F.SEC_CTRL_CMD, F.SEC_CTRL_RESULT]⟩
def F.SEC_LEAVES_NEXT : Fld := ⟨0x1200028, 1, 1, 8, 8, 0, 41, .ro, true, 0x0⟩
def F.SEC_LEAVES_NEXT_TREE : Fld := ⟨0x1200028, 1, 1, 8, 8, 41, 1, .ro, true, 0x0⟩
def R.SEC_LEAVES : Reg := ⟨0x1200028, 1, 8, 1, 8, 0x0,
  [F.SEC_LEAVES_NEXT, F.SEC_LEAVES_NEXT_TREE]⟩
def F.SEC_EVENTS_QUOTE_DONE : Fld := ⟨0x1200030, 1, 1, 8, 8, 0, 1, .w1c, false, 0x0⟩
def F.SEC_EVENTS_CMD_DONE : Fld := ⟨0x1200030, 1, 1, 8, 8, 1, 1, .w1c, false, 0x0⟩
def F.SEC_EVENTS_CMD_REFUSED : Fld := ⟨0x1200030, 1, 1, 8, 8, 2, 1, .w1c, false, 0x0⟩
def F.SEC_EVENTS_ID_LOW : Fld := ⟨0x1200030, 1, 1, 8, 8, 3, 1, .w1c, false, 0x0⟩
def F.SEC_EVENTS_ID_EXHAUSTED : Fld := ⟨0x1200030, 1, 1, 8, 8, 4, 1, .w1c, false, 0x0⟩
def F.SEC_EVENTS_ROLLBACK : Fld := ⟨0x1200030, 1, 1, 8, 8, 5, 1, .w1c, false, 0x0⟩
def R.SEC_EVENTS : Reg := ⟨0x1200030, 1, 8, 1, 8, 0x0,
  [F.SEC_EVENTS_QUOTE_DONE, F.SEC_EVENTS_CMD_DONE, F.SEC_EVENTS_CMD_REFUSED, F.SEC_EVENTS_ID_LOW, F.SEC_EVENTS_ID_EXHAUSTED, F.SEC_EVENTS_ROLLBACK]⟩
def F.SEC_QUOTES_COUNT : Fld := ⟨0x1200038, 1, 1, 8, 8, 0, 64, .rc, true, 0x0⟩
def R.SEC_QUOTES : Reg := ⟨0x1200038, 1, 8, 1, 8, 0x0,
  [F.SEC_QUOTES_COUNT]⟩
def F.SEC_NONCE_NONCE : Fld := ⟨0x1200040, 4, 1, 8, 8, 0, 64, .rw, false, 0x0⟩
def R.SEC_NONCE : Reg := ⟨0x1200040, 4, 8, 1, 8, 0x0,
  [F.SEC_NONCE_NONCE]⟩
def F.SEC_QUOTE_BYTES : Fld := ⟨0x1201000, 470, 1, 8, 8, 0, 64, .ro, true, 0x0⟩
def R.SEC_QUOTE : Reg := ⟨0x1201000, 470, 8, 1, 8, 0x0,
  [F.SEC_QUOTE_BYTES]⟩
def F.SEC_CMD_BYTES : Fld := ⟨0x1204000, 2048, 1, 8, 8, 0, 64, .rw, false, 0x0⟩
def R.SEC_CMD : Reg := ⟨0x1204000, 2048, 8, 1, 8, 0x0,
  [F.SEC_CMD_BYTES]⟩
def F.SEC_CERT_BYTES : Fld := ⟨0x1208000, 1024, 1, 8, 8, 0, 64, .ro, false, 0x0⟩
def R.SEC_CERT : Reg := ⟨0x1208000, 1024, 8, 1, 8, 0x0,
  [F.SEC_CERT_BYTES]⟩
def F.BIST_STATUS_TESTING : Fld := ⟨0x1300000, 1, 1, 8, 8, 0, 8, .ro, true, 0x0⟩
def F.BIST_STATUS_UNUSABLE : Fld := ⟨0x1300000, 1, 1, 8, 8, 8, 8, .ro, true, 0x0⟩
def F.BIST_STATUS_RETIRED : Fld := ⟨0x1300000, 1, 1, 8, 8, 16, 8, .ro, true, 0x0⟩
def F.BIST_STATUS_PHASE : Fld := ⟨0x1300000, 1, 1, 8, 8, 24, 3, .ro, true, 0x0⟩
def F.BIST_STATUS_ONE_AT_A_TIME : Fld := ⟨0x1300000, 1, 1, 8, 8, 27, 1, .ro, true, 0x0⟩
def R.BIST_STATUS : Reg := ⟨0x1300000, 1, 8, 1, 8, 0x0,
  [F.BIST_STATUS_TESTING, F.BIST_STATUS_UNUSABLE, F.BIST_STATUS_RETIRED, F.BIST_STATUS_PHASE, F.BIST_STATUS_ONE_AT_A_TIME]⟩
def F.BIST_CFG_PERIOD : Fld := ⟨0x1300008, 1, 1, 8, 8, 0, 16, .rw, false, 0xA8⟩
def F.BIST_CFG_DEADLINE : Fld := ⟨0x1300008, 1, 1, 8, 8, 16, 32, .rw, false, 0x3E8⟩
def R.BIST_CFG : Reg := ⟨0x1300008, 1, 8, 1, 8, 0x3E800A8,
  [F.BIST_CFG_PERIOD, F.BIST_CFG_DEADLINE]⟩
def F.BIST_CTRL_CMD : Fld := ⟨0x1300010, 1, 1, 8, 8, 0, 2, .wo, false, 0x0⟩
def F.BIST_CTRL_SECTOR : Fld := ⟨0x1300010, 1, 1, 8, 8, 2, 3, .rw, false, 0x0⟩
def F.BIST_CTRL_RESULT : Fld := ⟨0x1300010, 1, 1, 8, 8, 8, 8, .ro, false, 0x0⟩
def R.BIST_CTRL : Reg := ⟨0x1300010, 1, 8, 1, 8, 0x0,
  [F.BIST_CTRL_CMD, F.BIST_CTRL_SECTOR, F.BIST_CTRL_RESULT]⟩
def F.BIST_EVENTS_FAILED : Fld := ⟨0x1300018, 1, 1, 8, 8, 0, 1, .w1c, false, 0x0⟩
def F.BIST_EVENTS_SKIPPED : Fld := ⟨0x1300018, 1, 1, 8, 8, 1, 1, .w1c, false, 0x0⟩
def F.BIST_EVENTS_RETIRED : Fld := ⟨0x1300018, 1, 1, 8, 8, 2, 1, .w1c, false, 0x0⟩
def F.BIST_EVENTS_UNRETIRED : Fld := ⟨0x1300018, 1, 1, 8, 8, 3, 1, .w1c, false, 0x0⟩
def F.BIST_EVENTS_NO_FIT : Fld := ⟨0x1300018, 1, 1, 8, 8, 4, 1, .w1c, false, 0x0⟩
def F.BIST_EVENTS_NOC_LINK : Fld := ⟨0x1300018, 1, 1, 8, 8, 5, 1, .w1c, false, 0x0⟩
def F.BIST_EVENTS_CYCLE_DONE : Fld := ⟨0x1300018, 1, 1, 8, 8, 6, 1, .w1c, false, 0x0⟩
def R.BIST_EVENTS : Reg := ⟨0x1300018, 1, 8, 1, 8, 0x0,
  [F.BIST_EVENTS_FAILED, F.BIST_EVENTS_SKIPPED, F.BIST_EVENTS_RETIRED, F.BIST_EVENTS_UNRETIRED, F.BIST_EVENTS_NO_FIT, F.BIST_EVENTS_NOC_LINK, F.BIST_EVENTS_CYCLE_DONE]⟩
def F.BIST_RUNS_COUNT : Fld := ⟨0x1300020, 1, 1, 8, 8, 0, 64, .rc, true, 0x0⟩
def R.BIST_RUNS : Reg := ⟨0x1300020, 1, 8, 1, 8, 0x0,
  [F.BIST_RUNS_COUNT]⟩
def F.BIST_FAILS_COUNT : Fld := ⟨0x1300028, 1, 1, 8, 8, 0, 64, .rc, true, 0x0⟩
def R.BIST_FAILS : Reg := ⟨0x1300028, 1, 8, 1, 8, 0x0,
  [F.BIST_FAILS_COUNT]⟩
def F.BIST_SKIPPED_COUNT : Fld := ⟨0x1300030, 1, 1, 8, 8, 0, 64, .rc, true, 0x0⟩
def R.BIST_SKIPPED : Reg := ⟨0x1300030, 1, 8, 1, 8, 0x0,
  [F.BIST_SKIPPED_COUNT]⟩
def F.BIST_NOC_RESENDS_COUNT : Fld := ⟨0x1300038, 1, 1, 8, 8, 0, 64, .rc, true, 0x0⟩
def R.BIST_NOC_RESENDS : Reg := ⟨0x1300038, 1, 8, 1, 8, 0x0,
  [F.BIST_NOC_RESENDS_COUNT]⟩
def F.BIST_NOC_PATH_CHANGES_COUNT : Fld := ⟨0x1300040, 1, 1, 8, 8, 0, 64, .rc, true, 0x0⟩
def R.BIST_NOC_PATH_CHANGES : Reg := ⟨0x1300040, 1, 8, 1, 8, 0x0,
  [F.BIST_NOC_PATH_CHANGES_COUNT]⟩
def F.BIST_NOC_LINK_FAILS_COUNT : Fld := ⟨0x1300048, 1, 1, 8, 8, 0, 64, .rc, true, 0x0⟩
def R.BIST_NOC_LINK_FAILS : Reg := ⟨0x1300048, 1, 8, 1, 8, 0x0,
  [F.BIST_NOC_LINK_FAILS_COUNT]⟩
def F.BIST_NOC_QUERY_LINK : Fld := ⟨0x1300050, 1, 1, 8, 8, 0, 8, .rw, false, 0x0⟩
def R.BIST_NOC_QUERY : Reg := ⟨0x1300050, 1, 8, 1, 8, 0x0,
  [F.BIST_NOC_QUERY_LINK]⟩
def F.BIST_NOC_LINK_RESENDS : Fld := ⟨0x1300058, 1, 1, 8, 8, 0, 32, .rc, true, 0x0⟩
def F.BIST_NOC_LINK_PATHS : Fld := ⟨0x1300058, 1, 1, 8, 8, 32, 16, .rc, true, 0x0⟩
def F.BIST_NOC_LINK_FAILED : Fld := ⟨0x1300058, 1, 1, 8, 8, 48, 1, .ro, true, 0x0⟩
def R.BIST_NOC_LINK : Reg := ⟨0x1300058, 1, 8, 1, 8, 0x0,
  [F.BIST_NOC_LINK_RESENDS, F.BIST_NOC_LINK_PATHS, F.BIST_NOC_LINK_FAILED]⟩
def F.BIST_BIN_QUERY_SECTOR : Fld := ⟨0x1300060, 1, 1, 8, 8, 0, 3, .rw, false, 0x0⟩
def F.BIST_BIN_QUERY_CLASS : Fld := ⟨0x1300060, 1, 1, 8, 8, 3, 2, .rw, false, 0x0⟩
def F.BIST_BIN_QUERY_TEMP : Fld := ⟨0x1300060, 1, 1, 8, 8, 5, 5, .rw, false, 0x0⟩
def R.BIST_BIN_QUERY : Reg := ⟨0x1300060, 1, 8, 1, 8, 0x0,
  [F.BIST_BIN_QUERY_SECTOR, F.BIST_BIN_QUERY_CLASS, F.BIST_BIN_QUERY_TEMP]⟩
def F.BIST_BIN_CHARGES : Fld := ⟨0x1300068, 1, 1, 8, 8, 0, 2, .ro, true, 0x0⟩
def F.BIST_BIN_LAST : Fld := ⟨0x1300068, 1, 1, 8, 8, 32, 32, .ro, true, 0x0⟩
def R.BIST_BIN : Reg := ⟨0x1300068, 1, 8, 1, 8, 0x0,
  [F.BIST_BIN_CHARGES, F.BIST_BIN_LAST]⟩
def F.BIST_SECn_MISR_MISR : Fld := ⟨0x1301000, 8, 1, 64, 8, 0, 64, .ro, true, 0x0⟩
def R.BIST_SECn_MISR : Reg := ⟨0x1301000, 8, 64, 1, 8, 0x0,
  [F.BIST_SECn_MISR_MISR]⟩
def F.BIST_SECn_LAST_RESULT : Fld := ⟨0x1301008, 8, 1, 64, 8, 0, 8, .ro, false, 0x0⟩
def F.BIST_SECn_LAST_SET : Fld := ⟨0x1301008, 8, 1, 64, 8, 8, 2, .ro, false, 0x0⟩
def F.BIST_SECn_LAST_SRAM_FAIL : Fld := ⟨0x1301008, 8, 1, 64, 8, 10, 1, .ro, false, 0x0⟩
def F.BIST_SECn_LAST_HBM_FAIL : Fld := ⟨0x1301008, 8, 1, 64, 8, 11, 1, .ro, false, 0x0⟩
def F.BIST_SECn_LAST_TIME : Fld := ⟨0x1301008, 8, 1, 64, 8, 32, 32, .ro, false, 0x0⟩
def R.BIST_SECn_LAST : Reg := ⟨0x1301008, 8, 64, 1, 8, 0x0,
  [F.BIST_SECn_LAST_RESULT, F.BIST_SECn_LAST_SET, F.BIST_SECn_LAST_SRAM_FAIL, F.BIST_SECn_LAST_HBM_FAIL, F.BIST_SECn_LAST_TIME]⟩
def F.PWR_STATUS_VIN_STATE : Fld := ⟨0x1400000, 1, 1, 8, 8, 0, 2, .ro, true, 0x0⟩
def F.PWR_STATUS_READY : Fld := ⟨0x1400000, 1, 1, 8, 8, 2, 1, .ro, true, 0x0⟩
def F.PWR_STATUS_CURRENT_CAP : Fld := ⟨0x1400000, 1, 1, 8, 8, 3, 1, .ro, true, 0x0⟩
def F.PWR_STATUS_THERM_CAP : Fld := ⟨0x1400000, 1, 1, 8, 8, 4, 1, .ro, true, 0x0⟩
def F.PWR_STATUS_THERM_ALERT : Fld := ⟨0x1400000, 1, 1, 8, 8, 5, 1, .ro, true, 0x0⟩
def F.PWR_STATUS_ONE_SECTOR : Fld := ⟨0x1400000, 1, 1, 8, 8, 6, 1, .ro, true, 0x0⟩
def R.PWR_STATUS : Reg := ⟨0x1400000, 1, 8, 1, 8, 0x0,
  [F.PWR_STATUS_VIN_STATE, F.PWR_STATUS_READY, F.PWR_STATUS_CURRENT_CAP, F.PWR_STATUS_THERM_CAP, F.PWR_STATUS_THERM_ALERT, F.PWR_STATUS_ONE_SECTOR]⟩
def F.PWR_VIN_MV : Fld := ⟨0x1400008, 1, 1, 8, 8, 0, 16, .ro, true, 0x0⟩
def F.PWR_VIN_MA : Fld := ⟨0x1400008, 1, 1, 8, 8, 16, 16, .ro, true, 0x0⟩
def F.PWR_VIN_W : Fld := ⟨0x1400008, 1, 1, 8, 8, 32, 16, .ro, true, 0x0⟩
def R.PWR_VIN : Reg := ⟨0x1400008, 1, 8, 1, 8, 0x0,
  [F.PWR_VIN_MV, F.PWR_VIN_MA, F.PWR_VIN_W]⟩
def F.PWR_PEAK_MA : Fld := ⟨0x1400010, 1, 1, 8, 8, 0, 16, .rc, true, 0x0⟩
def F.PWR_PEAK_W : Fld := ⟨0x1400010, 1, 1, 8, 8, 16, 16, .rc, true, 0x0⟩
def R.PWR_PEAK : Reg := ⟨0x1400010, 1, 8, 1, 8, 0x0,
  [F.PWR_PEAK_MA, F.PWR_PEAK_W]⟩
def F.PWR_LIMIT_AMPS : Fld := ⟨0x1400018, 1, 1, 8, 8, 0, 6, .rw, false, 0x1E⟩
def F.PWR_LIMIT_LEVEL_CAP : Fld := ⟨0x1400018, 1, 1, 8, 8, 8, 8, .rw, false, 0x80⟩
def R.PWR_LIMIT : Reg := ⟨0x1400018, 1, 8, 1, 8, 0x801E,
  [F.PWR_LIMIT_AMPS, F.PWR_LIMIT_LEVEL_CAP]⟩
def F.PWR_THERM_WARN : Fld := ⟨0x1400020, 1, 1, 8, 8, 0, 8, .rw, false, 0x5F⟩
def F.PWR_THERM_THROTTLE : Fld := ⟨0x1400020, 1, 1, 8, 8, 8, 8, .rw, false, 0x64⟩
def F.PWR_THERM_TRIP : Fld := ⟨0x1400020, 1, 1, 8, 8, 16, 8, .ro, false, 0x73⟩
def R.PWR_THERM : Reg := ⟨0x1400020, 1, 8, 1, 8, 0x73645F,
  [F.PWR_THERM_WARN, F.PWR_THERM_THROTTLE, F.PWR_THERM_TRIP]⟩
def F.PWR_EVENTS_UV_WARN : Fld := ⟨0x1400028, 1, 1, 8, 8, 0, 1, .w1c, false, 0x0⟩
def F.PWR_EVENTS_OV_WARN : Fld := ⟨0x1400028, 1, 1, 8, 8, 1, 1, .w1c, false, 0x0⟩
def F.PWR_EVENTS_CURRENT_CAP : Fld := ⟨0x1400028, 1, 1, 8, 8, 2, 1, .w1c, false, 0x0⟩
def F.PWR_EVENTS_THERM_WARN : Fld := ⟨0x1400028, 1, 1, 8, 8, 3, 1, .w1c, false, 0x0⟩
def F.PWR_EVENTS_THERM_CAP : Fld := ⟨0x1400028, 1, 1, 8, 8, 4, 1, .w1c, false, 0x0⟩
def F.PWR_EVENTS_REF_LOST : Fld := ⟨0x1400028, 1, 1, 8, 8, 5, 1, .w1c, false, 0x0⟩
def F.PWR_EVENTS_REF_BACK : Fld := ⟨0x1400028, 1, 1, 8, 8, 6, 1, .w1c, false, 0x0⟩
def F.PWR_EVENTS_PLL_UNLOCK : Fld := ⟨0x1400028, 1, 1, 8, 8, 7, 1, .w1c, false, 0x0⟩
def F.PWR_EVENTS_PHY_UNLOCK : Fld := ⟨0x1400028, 1, 1, 8, 8, 8, 1, .w1c, false, 0x0⟩
def R.PWR_EVENTS : Reg := ⟨0x1400028, 1, 8, 1, 8, 0x0,
  [F.PWR_EVENTS_UV_WARN, F.PWR_EVENTS_OV_WARN, F.PWR_EVENTS_CURRENT_CAP, F.PWR_EVENTS_THERM_WARN, F.PWR_EVENTS_THERM_CAP, F.PWR_EVENTS_REF_LOST, F.PWR_EVENTS_REF_BACK, F.PWR_EVENTS_PLL_UNLOCK, F.PWR_EVENTS_PHY_UNLOCK]⟩
def F.PWR_CTRL_SOFT_RESET : Fld := ⟨0x1400030, 1, 1, 8, 8, 0, 1, .wo, false, 0x0⟩
def R.PWR_CTRL : Reg := ⟨0x1400030, 1, 8, 1, 8, 0x0,
  [F.PWR_CTRL_SOFT_RESET]⟩
def F.PWR_LAST_OFF_CAUSE : Fld := ⟨0x1400038, 1, 1, 8, 8, 0, 2, .ro, false, 0x0⟩
def F.PWR_LAST_OFF_DIE : Fld := ⟨0x1400038, 1, 1, 8, 8, 8, 5, .ro, false, 0x0⟩
def R.PWR_LAST_OFF : Reg := ⟨0x1400038, 1, 8, 1, 8, 0x0,
  [F.PWR_LAST_OFF_CAUSE, F.PWR_LAST_OFF_DIE]⟩
def F.PWR_PINS_HS_FAULT_N : Fld := ⟨0x1400040, 1, 1, 8, 8, 0, 1, .ro, true, 0x1⟩
def F.PWR_PINS_COOL_FAULT_N : Fld := ⟨0x1400040, 1, 1, 8, 8, 1, 1, .ro, true, 0x1⟩
def F.PWR_PINS_GPI : Fld := ⟨0x1400040, 1, 1, 8, 8, 2, 8, .ro, true, 0xFF⟩
def F.PWR_PINS_LASER_EN_N : Fld := ⟨0x1400040, 1, 1, 8, 8, 10, 4, .ro, true, 0xF⟩
def R.PWR_PINS : Reg := ⟨0x1400040, 1, 8, 1, 8, 0x3FFF,
  [F.PWR_PINS_HS_FAULT_N, F.PWR_PINS_COOL_FAULT_N, F.PWR_PINS_GPI, F.PWR_PINS_LASER_EN_N]⟩
def F.PWR_CAPPED_NS_COUNT : Fld := ⟨0x1400048, 1, 1, 8, 8, 0, 64, .rc, true, 0x0⟩
def R.PWR_CAPPED_NS : Reg := ⟨0x1400048, 1, 8, 1, 8, 0x0,
  [F.PWR_CAPPED_NS_COUNT]⟩
def F.PWR_REF_LOSSES_COUNT : Fld := ⟨0x1400050, 1, 1, 8, 8, 0, 64, .rc, true, 0x0⟩
def R.PWR_REF_LOSSES : Reg := ⟨0x1400050, 1, 8, 1, 8, 0x0,
  [F.PWR_REF_LOSSES_COUNT]⟩
def F.PWR_TEMPd_NOW : Fld := ⟨0x1400100, 20, 1, 8, 8, 0, 16, .ro, true, 0x0⟩
def F.PWR_TEMPd_MAX : Fld := ⟨0x1400100, 20, 1, 8, 8, 16, 16, .rc, true, 0x0⟩
def R.PWR_TEMPd : Reg := ⟨0x1400100, 20, 8, 1, 8, 0x0,
  [F.PWR_TEMPd_NOW, F.PWR_TEMPd_MAX]⟩
def F.CLK_STATUS_REF_OK : Fld := ⟨0x1400200, 1, 1, 8, 8, 0, 1, .ro, true, 0x0⟩
def F.CLK_STATUS_ROOT_LOCK : Fld := ⟨0x1400200, 1, 1, 8, 8, 1, 1, .ro, true, 0x0⟩
def F.CLK_STATUS_HOLD : Fld := ⟨0x1400200, 1, 1, 8, 8, 2, 1, .ro, true, 0x0⟩
def F.CLK_STATUS_FREE_RUN : Fld := ⟨0x1400200, 1, 1, 8, 8, 3, 1, .ro, true, 0x0⟩
def F.CLK_STATUS_PHY_LOCK : Fld := ⟨0x1400200, 1, 1, 8, 8, 8, 8, .ro, true, 0x0⟩
def R.CLK_STATUS : Reg := ⟨0x1400200, 1, 8, 1, 8, 0x0,
  [F.CLK_STATUS_REF_OK, F.CLK_STATUS_ROOT_LOCK, F.CLK_STATUS_HOLD, F.CLK_STATUS_FREE_RUN, F.CLK_STATUS_PHY_LOCK]⟩
def F.CLK_REF_PPB_PPB : Fld := ⟨0x1400208, 1, 1, 8, 8, 0, 32, .ro, true, 0x0⟩
def F.CLK_REF_PPB_VALID : Fld := ⟨0x1400208, 1, 1, 8, 8, 32, 1, .ro, true, 0x0⟩
def R.CLK_REF_PPB : Reg := ⟨0x1400208, 1, 8, 1, 8, 0x0,
  [F.CLK_REF_PPB_PPB, F.CLK_REF_PPB_VALID]⟩

/-- The registers of block 0, of the block window at 0x0. -/
def regBlock0 : List Reg :=
  [R.GLB_ID, R.GLB_STATUS, R.GLB_VIEW, R.GLB_DEVICE,
   R.GLB_SCRATCH]

/-- The registers of block 1, of the block window at 0x100000. -/
def regBlock1 : List Reg :=
  [R.SEQ_STATUS, R.SEQ_SWAP, R.SEQ_SWAP_STEP, R.SEQ_ROWS,
   R.SEQ_MERIDIAN, R.SEQ_FORECAST, R.SEQ_WATCHDOG, R.SEQ_FIT,
   R.SEQ_EVENTS, R.SEQ_TKn_CTRL, R.SEQ_TKn_STATUS, R.SEQ_TKn_ENTRY,
   R.SEQ_TKn_STEP, R.SEQ_TKn_DONE, R.SEQ_TKn_FAILED, R.SEQ_TKn_LAST_FAIL,
   R.SEQ_TOKEN, R.SEQ_FIT_A, R.SEQ_FIT_B, R.SEQ_RING_A,
   R.SEQ_RING_B]

/-- The registers of block 2, of the block window at 0x200000. -/
def regBlock2 : List Reg :=
  [R.ARR_STATUS, R.ARR_ABFT, R.ARR_RAMP, R.ARR_WINDOW,
   R.ARR_EVENTS, R.ARR_MISMATCH, R.ARR_REDO, R.ARR_WIN_LOW,
   R.ARR_WIN_HIGH, R.ARR_NONFINITE, R.ARR_ORTHO_CLAMP, R.ARR_LAST_MISMATCH,
   R.ARR_SECn_STATUS, R.ARR_SECn_MISMATCH, R.ARR_SECn_LANE_OPS]

/-- The registers of block 3, of the block window at 0x300000. -/
def regBlock3 : List Reg :=
  [R.CMP_STATUS, R.CMP_EVENTS, R.CMP_ENC_BLOCKS, R.CMP_DEC_BLOCKS,
   R.CMP_SATURATED, R.CMP_NONFINITE, R.CMP_LENGTH, R.CMP_REREQUEST,
   R.CMP_TABLE_GONE, R.CMP_FIRSTPASS, R.CMP_LAST_FAIL, R.CMP_LAST_FAIL_INFO,
   R.CMP_SLOTS, R.CMP_SLOT_QUERY, R.CMP_SLOT_STATE]

/-- The registers of block 4, of the block window at 0x400000. -/
def regBlock4 : List Reg :=
  [R.PPE_STATUS, R.PPE_CTRL, R.PPE_CAL, R.PPE_CAL_STATUS,
   R.PPE_LOCK, R.PPE_ABFT, R.PPE_EVENTS, R.PPE_BANDS,
   R.PPE_MISMATCH, R.PPE_REPEAT, R.PPE_FALLBACK, R.PPE_CLIP,
   R.PPE_TEMP, R.PPE_FAULT_LASER, R.PPE_FAULT_COL, R.PPE_DARK,
   R.PPE_GAIN, R.PPE_XT]

/-- The registers of block 5, of the block window at 0x500000. -/
def regBlock5 : List Reg :=
  [R.COL_STATUS, R.COL_ADHOC_POOL, R.COL_PARK, R.COL_EVENTS,
   R.COL_INSTANCES, R.COL_FAILED, R.COL_HELD, R.COL_POOL_EMPTY,
   R.COL_PARKED, R.COL_PARK_EXPIRED, R.COL_LAST_ADHOC_ID, R.COL_LAST_EXPIRED_ID,
   R.COL_QUERY, R.COL_INST, R.COL_INST_STEP, R.COL_ENTRY_A,
   R.COL_ENTRY_B, R.COL_ENTRY_C, R.COL_ENTRY_D]

/-- The registers of block 6, of the block window at 0x600000. -/
def regBlock6 : List Reg :=
  [R.PEER_STATUS, R.PEER_ROUTES, R.PEER_TIMING, R.PEER_EPH_CFG,
   R.PEER_MERIDIAN, R.PEER_EVENTS, R.PEER_CRC_ERR, R.PEER_PROTO_ERR,
   R.PEER_KEY_UNKNOWN, R.PEER_OUT_WINDOW, R.PEER_DUP, R.PEER_EPOCH_AHEAD,
   R.PEER_SESSn_CFG, R.PEER_SESSn_STATE, R.PEER_SESSn_CTRL, R.PEER_SESSn_TX,
   R.PEER_SESSn_RX, R.PEER_SESSn_WIN_A, R.PEER_SESSn_WIN_B, R.PEER_SESSn_EPH_A,
   R.PEER_SESSn_EPH_B, R.PEER_SESSn_REPLAY, R.PEER_SESSn_PEER_MERIDIAN, R.PEER_SESSn_LAST_ABANDON,
   R.PEER_SESSn_SENT, R.PEER_SESSn_RECEIVED, R.PEER_SESSn_RESENT, R.PEER_SESSn_NAKS,
   R.PEER_SESSn_TIMEOUTS, R.PEER_SESSn_DELAY_STEPS, R.PEER_SESSn_TAG_FAIL, R.PEER_SESSn_THROTTLE_NS,
   R.PEER_SESSn_RX_SLOT, R.PEER_FAULT_CFG, R.PEER_EPOCH, R.PEER_ISLAND,
   R.PEER_JOURNAL, R.PEER_RECON, R.PEER_HOLD_STATUS, R.PEER_STALL_STEP,
   R.PEER_MEMBER_QUERY, R.PEER_MEMBER_STATE, R.PEER_MEMBER_FENCE, R.PEER_MEMBER_DEVICE,
   R.PEER_FAULT_EVENTS, R.PEER_FENCED, R.PEER_ISLAND_STEPS, R.PEER_RECONCILES]

/-- The registers of block 7, of the block window at 0x700000. -/
def regBlock7 : List Reg :=
  [R.LINE_STATUS, R.LINE_EVENTS, R.LINE_GCS_MAP, R.LINE_LMON,
   R.LINE_MOD_CMD, R.LINE_Pp_CFG, R.LINE_Pp_INTEG, R.LINE_Pp_DEFECT,
   R.LINE_Pp_FAILURE, R.LINE_Pp_LATCH, R.LINE_Pp_TTI_EXP, R.LINE_Pp_TTI_TX,
   R.LINE_Pp_TTI_RX, R.LINE_Pp_BIP_SM, R.LINE_Pp_BIP_PM, R.LINE_Pp_BEI_SM,
   R.LINE_Pp_BEI_PM, R.LINE_Pp_FEC_CORR, R.LINE_Pp_FEC_UNCORR, R.LINE_Pp_GFP_FRAMES,
   R.LINE_Pp_GFP_CHEC_CORR, R.LINE_Pp_GFP_DISCARD]

/-- The registers of block 8, of the block window at 0x800000. -/
def regBlock8 : List Reg :=
  [R.FAB_STATUS, R.FAB_COORD, R.FAB_BRIDGE_CFG, R.FAB_SITE_MAP,
   R.FAB_VC_CFG, R.FAB_CIRCUIT_CFG, R.FAB_EVENTS, R.FAB_RETRY,
   R.FAB_MISROUTED, R.FAB_UNREACHABLE, R.FAB_PROTO_ERR, R.FAB_LATE_REPLY,
   R.FAB_ESCAPED, R.FAB_BRIDGED_TX, R.FAB_BRIDGED_RX, R.FAB_CREDITSs,
   R.FAB_Fk_CFG, R.FAB_Fk_FLIT_CRC, R.FAB_Fk_LINK_RESEND]

/-- The registers of block 9, of the block window at 0x900000. -/
def regBlock9 : List Reg :=
  [R.OPT_STATUS, R.OPT_LOCK, R.OPT_LASER, R.OPT_CAL,
   R.OPT_FF, R.OPT_APR, R.OPT_EVENTS, R.OPT_LASER_FAIL,
   R.OPT_LOCK_FAULT, R.OPT_WRONG_LOCK, R.OPT_MOVES, R.OPT_MOVE_FAILED,
   R.OPT_APR_TRIPS, R.OPT_Tt_STATUS, R.OPT_Tt_TEMP, R.OPT_Fk_LAMBDA,
   R.OPT_Fk_CFG, R.OPT_Tt_XT]

/-- The registers of block 10, of the block window at 0xA00000. -/
def regBlock10 : List Reg :=
  [R.MEM_STATUS, R.MEM_CAP, R.MEM_X_CFG, R.MEM_SCRUB,
   R.MEM_REMIRROR, R.MEM_EVENTS, R.MEM_CE_S, R.MEM_CE_H,
   R.MEM_CE_D, R.MEM_UE_S, R.MEM_UE_H, R.MEM_UE_D,
   R.MEM_UE_X, R.MEM_CTX_MISS, R.MEM_LAST_UE, R.MEM_CTX_CACHE]

/-- The registers of block 11, of the block window at 0xB00000. -/
def regBlock11 : List Reg :=
  [R.BPM_STATUS, R.BPM_EVENTS, R.BPM_EMPTY, R.BPM_QUEUED,
   R.BPM_BAD_FREE, R.BPM_LAST_BAD, R.BPM_ACCT_QUERY, R.BPM_ACCT_LIMITS,
   R.BPM_ACCT_HELD, R.BPM_POOLp_CFG, R.BPM_POOLp_USE, R.BPM_POOLp_QUEUE]

/-- The registers of block 12, of the block window at 0xC00000. -/
def regBlock12 : List Reg :=
  [R.CIPH_STATUS, R.CIPH_CFG, R.CIPH_MACSEC, R.CIPH_GCS,
   R.CIPH_EVENTS, R.CIPH_KEY_WARN, R.CIPH_KEY_EXHAUSTED, R.CIPH_TAG_FAIL,
   R.CIPH_SUSPENDS, R.CIPH_EXHAUSTED_ITEMS, R.CIPH_ERASED_ITEMS, R.CIPH_KEYLOADS,
   R.CIPH_MAC_ICV_FAIL, R.CIPH_MAC_REPLAY, R.CIPH_MAC_UNTAGGED, R.CIPH_SUSPECT,
   R.CIPH_SLOT_QUERY, R.CIPH_SLOT_STATE, R.CIPH_SLOT_INVOC, R.CIPH_SLOT_INVOC_OLDER]

/-- The registers of block 13, of the block window at 0xD00000. -/
def regBlock13 : List Reg :=
  [R.SCH_STATUS, R.SCH_EVENTS, R.SCH_PPM, R.SCH_Rr_Cc_CFG,
   R.SCH_Rr_Cc_QUEUE, R.SCH_Rr_Cc_SOJOURN, R.SCH_Rr_Cc_LATE, R.SCH_PLk_RATE,
   R.SCH_PLk_BURST, R.SCH_PLk_CTRL, R.SCH_PLk_GREEN, R.SCH_PLk_YELLOW,
   R.SCH_PLk_RED]

/-- The registers of block 14, of the block window at 0xE00000. -/
def regBlock14 : List Reg :=
  [R.TIME_STATUS, R.TIME_CFG, R.TIME_TC, R.TIME_HOLD,
   R.TIME_TOD, R.TIME_LAT, R.TIME_EVENTS, R.TIME_TC_RELAYED,
   R.TIME_TC_LATE, R.TIME_TC_NOLOCK, R.TIME_PPS_REJECT, R.TIME_TBn_SEC,
   R.TIME_TBn_NS, R.TIME_TBn_OFFSET, R.TIME_PPS_IN_SEC, R.TIME_PPS_IN_NS,
   R.TIME_Rr_ASYM, R.TIME_Rr_THETA]

/-- The registers of block 15, of the block window at 0xF00000. -/
def regBlock15 : List Reg :=
  [R.HOST_STATUS, R.HOST_CFG, R.HOST_MAC, R.HOST_IPV4,
   R.HOST_IPV6_HI, R.HOST_IPV6_LO, R.HOST_IPV6_PFX, R.HOST_EVENTS,
   R.HOST_REQUESTS, R.HOST_AUTH_FAIL, R.HOST_REPLAY, R.HOST_DUP,
   R.HOST_MALFORMED, R.HOST_REFUSED, R.HOST_LOAD, R.HOST_BOOT_FLOOR,
   R.EVT_STATUS, R.EVT_TGTt_CFG, R.EVT_ECn_ADDR_HI, R.EVT_ECn_ADDR_LO,
   R.EVT_ECn_CFG, R.EVT_ECn_SEQ, R.EVT_SRCs_CFG]

/-- The registers of block 16, of the block window at 0x1000000. -/
def regBlock16 : List Reg :=
  [R.CST_STATUS, R.CST_CTRL, R.CST_EVENTS, R.CST_UNREACHABLE,
   R.CST_HELD, R.CST_LINK_FAIL, R.CST_REROUTES, R.CST_MGMT_LOST,
   R.CST_MAP_QUERY, R.CST_MAP, R.CST_LINKk]

/-- The registers of block 17, of the block window at 0x1100000. -/
def regBlock17 : List Reg :=
  [R.IMG_STATUS, R.IMG_CTRL, R.IMG_DIGEST, R.IMG_TWILIGHT,
   R.IMG_DRAINING, R.IMG_DARK, R.IMG_PATCH, R.IMG_FW_STATUS,
   R.IMG_FW_CTRL, R.IMG_EVENTS, R.IMG_LOADS, R.IMG_REFUSED,
   R.IMG_DISABLED_ITEMS]

/-- The registers of block 18, of the block window at 0x1200000. -/
def regBlock18 : List Reg :=
  [R.SEC_STATUS, R.SEC_DEVICE, R.SEC_ROLLBACK, R.SEC_CHALLENGE,
   R.SEC_CTRL, R.SEC_LEAVES, R.SEC_EVENTS, R.SEC_QUOTES,
   R.SEC_NONCE, R.SEC_QUOTE, R.SEC_CMD, R.SEC_CERT]

/-- The registers of block 19, of the block window at 0x1300000. -/
def regBlock19 : List Reg :=
  [R.BIST_STATUS, R.BIST_CFG, R.BIST_CTRL, R.BIST_EVENTS,
   R.BIST_RUNS, R.BIST_FAILS, R.BIST_SKIPPED, R.BIST_NOC_RESENDS,
   R.BIST_NOC_PATH_CHANGES, R.BIST_NOC_LINK_FAILS, R.BIST_NOC_QUERY, R.BIST_NOC_LINK,
   R.BIST_BIN_QUERY, R.BIST_BIN, R.BIST_SECn_MISR, R.BIST_SECn_LAST]

/-- The registers of block 20, of the block window at 0x1400000. -/
def regBlock20 : List Reg :=
  [R.PWR_STATUS, R.PWR_VIN, R.PWR_PEAK, R.PWR_LIMIT,
   R.PWR_THERM, R.PWR_EVENTS, R.PWR_CTRL, R.PWR_LAST_OFF,
   R.PWR_PINS, R.PWR_CAPPED_NS, R.PWR_REF_LOSSES, R.PWR_TEMPd,
   R.CLK_STATUS, R.CLK_REF_PPB]

/-- The registers of the block window that starts at `b * 0x10_0000` (Conventions of the scope chapter). -/
def regBlock : Nat → List Reg
  | 0 => regBlock0
  | 1 => regBlock1
  | 2 => regBlock2
  | 3 => regBlock3
  | 4 => regBlock4
  | 5 => regBlock5
  | 6 => regBlock6
  | 7 => regBlock7
  | 8 => regBlock8
  | 9 => regBlock9
  | 10 => regBlock10
  | 11 => regBlock11
  | 12 => regBlock12
  | 13 => regBlock13
  | 14 => regBlock14
  | 15 => regBlock15
  | 16 => regBlock16
  | 17 => regBlock17
  | 18 => regBlock18
  | 19 => regBlock19
  | 20 => regBlock20
  | _ => []

end Sys2Proof.Machine
end

