-- ==== Sys2Proof/Machine/State.lean ====
section
/-! DEFINITION. The state of the gateway: the queue of waiting commands, the register file of the status and control
space, the memory of the four tiers, and beside them every structure of the spec that no register holds. Plain data. -/

namespace Sys2Proof.Machine

/-! ### Faults and refusals -/

/-- Why the machine stops with a fault. -/
inductive Fault where
  /-- An engine was made to touch bytes beyond the capacity of their tier (R477), an address the spec says does not
  exist; the fit check (R106) keeps such rows out of an active set. Raised by the shared memory access of the engines.
  Safe: the spec gives the access no effect. -/
  | outsideTier (tier addr : Nat)
  deriving DecidableEq, Repr

/-- Why a command is refused by the model. -/
inductive Refusal where
  /-- The command has no meaning in this model yet; raised by the arms of Dispatch.lean only. Safe: the run stops. -/
  | notModelled (mnemonic : String)
  deriving DecidableEq, Repr

/-! ### The sequencer and the Almanac -/

/-- An item in flight (R65, R81). `id` numbers items in issue order over the whole gateway. -/
structure Item where
  id : Nat
  /-- The track, or for an item of an ad hoc instance the track its row names. -/
  track : Nat
  rowIx : Nat
  row : Row256
  /-- Track step number at issue. -/
  step : Nat
  /-- The ad hoc instance the item belongs to, by collective ID (R251). -/
  adhoc : Option Nat
  /-- Whether the item's wait set has been taken (an ad hoc item takes it at its start). -/
  waitTaken : Bool
  running : Bool
  issuedAt : Nat
  resent : Bool
  degraded : Bool
  /-- The engine's own progress; each engine says what its numbers mean. -/
  phase : Nat
  /-- When the current phase began. -/
  phaseAt : Nat
  /-- The key slot and generation the item latched (R528). -/
  key : Option (Nat × Nat)
  /-- The codebook slot and generation an ENCODE latched (R217) or a DECODE reads (R219, R226). -/
  books : List (Nat × Nat)
  /-- Data sequence numbers: those a SEAL reserved (R528) or a SEND waits on (R308). -/
  seqs : List Nat
  /-- The item waits for its queued buffer need (R510). -/
  needQueued : Bool
  /-- The item's stream context is in the cache (R500). -/
  ctxReady : Bool
  deriving DecidableEq, Repr

/-- The kinds of an armed swap (R97). -/
inductive SwapKind where
  | step | idle
  deriving DecidableEq, Repr

/-- A FORECAST announced and still remembered (R92, R93). -/
structure Forecast where
  at_ : Nat
  level : Nat
  deriving DecidableEq, Repr

/-- The sequencer beside its registers. -/
structure SeqState where
  /-- Rows of the active and the shadow set (R76); an absent row is all zeros. -/
  active : Tab Row256
  shadow : Tab Row256
  items : List Item
  nextId : Nat
  /-- The track that issued first in the last cycle in which any track issued (R756). -/
  lastFirst : Nat
  swap : Option SwapKind
  /-- Since when each track has waited on the tokens of the row at its cursor (R74). -/
  waitAt : Tab Nat
  /-- For a track with a failed item: the issue number and NEXT_FAULT row of its earliest-issued failing item (R69). -/
  faultTo : Tab (Nat × Nat)
  /-- The level in effect before the newest FORECAST, and the FORECASTs of the last 20 µs (R92, R93). -/
  forecasts : List Forecast
  /-- The track each engine served last (R73). -/
  turn : Tab Nat
  deriving DecidableEq, Repr

/-! ### The reduction and projection array -/

/-- The record of a DECODE's checksum (R142): its DST descriptor, as a number, and the exact sum of the values written. -/
structure DecRec where
  dst : Nat
  /-- Where the values stand in their segment, in bytes of its input, and how many such bytes they stand for (R237). -/
  off : Nat
  len : Nat
  sum : Dy
  count : Nat
  posInf : Nat
  negInf : Nat
  nan : Nat
  deriving DecidableEq, Repr

/-- The lanes and the array beside their registers. -/
structure ArrState where
  /-- Accumulator entries of each stream's exact accumulators (R117), at key `stream * 2 ^ 24 + element`. -/
  acc : Tab Entry
  /-- The WIN_TOP a stream's accumulator region latched at its first contribution (R121). -/
  winTop : Tab Int
  /-- Checksum records of DECODE items (R142). -/
  decRecs : List DecRec
  /-- The sector that holds a stream's entries, and the one that holds the second copy of its chunk (R25, R116); 0xFF for none. -/
  home : Tab (Nat × Nat)
  /-- SRC descriptors of the REDUCE items that have committed to a stream's entries since they were cleared (R146). -/
  chunk : Tab (List Nat)
  /-- The level the array is to run at, when the ramp toward it began, and the level before it (R153, R154). -/
  level : Nat
  rampAt : Nat
  prev : Nat
  /-- Sectors whose redo or check is in progress, with the item they work for (R149). -/
  helping : List (Nat × Nat)
  deriving DecidableEq, Repr

/-! ### The photonic projection engine -/

/-- One fold a PPE item will make at its commit point (R164, R165): entry index, FP32 code, contributions raised. -/
structure PpeFold where
  entry : Nat
  code : Nat
  count : Nat
  deriving DecidableEq, Repr

/-- A row of M or a column of Q as the engine converts it (R161, R162): its exponent, its codes, and whether an element of it is NaN or
infinite. -/
structure PpeLine where
  exp : Int
  codes : List Int
  bad : Bool
  deriving DecidableEq, Repr

/-- What a calibration in progress is. -/
inductive CalKind where
  | quick | full
  deriving DecidableEq, Repr

/-- The engine beside its registers. -/
structure PpeState where
  /-- The item the engine runs, its latched K (R166) and the band it is at. -/
  item : Option Nat
  k : Nat
  band : Nat
  integrating : Bool
  /-- Mismatches of the current band so far (R170). -/
  mismatches : Nat
  folds : List PpeFold
  /-- The rows of the current band have been converted for an integration of it (R161, R170). -/
  begun : Bool
  /-- What items whose bands are all done have still to fold (R165), by item. -/
  held : Tab (List PpeFold)
  /-- OTHER descriptor, stream and track step of the Q in the Q store, and its columns there (R159). -/
  qStore : Option (Nat × Nat × Nat)
  q : List PpeLine
  /-- Since when a lock has been out of its limit (R171, R172), and the last lock error of each ring (R455): lane modulators 0 to 63,
  ring `r` of bank `b` at `64 + 64 * b + r`. -/
  lockLostAt : Option Nat
  lockErr : Tab Nat
  /-- Heater targets and drives, by the same numbers (R453, R455). -/
  target : Tab Int
  drive : Tab Int
  cal : Option (CalKind × Nat)
  /-- A quick calibration is due as soon as no band integrates (R176). -/
  calDue : Bool
  calEndedAt : Nat
  /-- The engine is FAILED (R174, R175). -/
  failed : Bool
  deriving DecidableEq, Repr

/-! ### Fixed-rate compression -/

/-- A codebook body as it travels (R209). -/
structure BookBody where
  gen : Nat
  rate : Nat
  lim : Nat
  step : Nat
  levels : List Nat
  deriving DecidableEq, Repr

/-- A CODEBOOK sent and not yet acknowledged by a session (R223, R295). -/
structure BookSend where
  session : Nat
  slot : Nat
  stream : Nat
  gen : Nat
  sentAt : Nat
  deriving DecidableEq, Repr

/-- A CODEBOOK received that waits for the older generation's pins (R225). -/
structure BookWait where
  session : Nat
  slot : Nat
  stream : Nat
  body : BookBody
  deriving DecidableEq, Repr

/-- A residual copy outstanding after an ENCODE committed (R199). -/
structure ResidCopy where
  item : Nat
  tier : Nat
  addr : Nat
  bytes : List Byte
  mirror : Bool
  deriving DecidableEq, Repr

/-- What an OPEN keeps for its DST staging (R230): data sequence and byte range of one line block's payload. -/
structure OpenRec where
  session : Nat
  dseq : Nat
  /-- ORIGIN of the block (R276), the builder's site for blocks relayed on (R332). -/
  origin : Nat
  tier : Nat
  addr : Nat
  len : Nat
  /-- Codebook slot of the stream that the block came on (R243). -/
  slot : Nat
  deriving DecidableEq, Repr

structure CmpState where
  /-- Codebook records at key `2 * slot + copy` (R206). -/
  books : Tab Book
  sends : List BookSend
  waits : List BookWait
  copies : List ResidCopy
  opens : List OpenRec
  /-- OPEN and DECODE items that asked for a fresh copy of line blocks and wait for it (R230, R544): item, session, sequences. -/
  refetch : List (Nat × Nat × List Nat)
  /-- Line blocks that a DECODE in flight has asked for (R230): item, session, sequence. -/
  asked : List (Nat × Nat × Nat)
  /-- Cblocks that an OPEN has delivered and no DECODE has ended (R226): codebook slot, generation, key of the first byte. -/
  delivered : List (Nat × Nat × Nat)
  /-- Codebook acknowledgements received (R224): session, slot, generation. -/
  acks : List (Nat × Nat × Nat)
  /-- Generations that items had latched when a correction's codebook took their record (R217, R374), by slot. -/
  displaced : List (Nat × Book)
  deriving DecidableEq, Repr

/-! ### Collectives -/

/-- An ad hoc instance, admitted or held (R251 to R258). -/
structure AdHoc where
  id : Nat
  template : Nat
  channel : Nat
  elems : Nat
  src : Nat
  dst : Nat
  /-- Bytes of staging the instance claims (R253). -/
  claim : Nat
  /-- What the instance is to report (R60): the first failure of an item of it, else the first in table order of the
  degradations of its items. -/
  outcome : Status
  deriving DecidableEq, Repr

/-- A line block parked for an ad hoc instance not yet admitted (R261): ID, session, stream, chunk, payload, arrival. -/
structure Parked where
  id : Nat
  session : Nat
  stream : Nat
  dseq : Nat
  bytes : List Byte
  at_ : Nat
  deriving DecidableEq, Repr

/-- A chunk that holds input (R245): its stream, whether a site sum has started on it, and once its site sum has committed the
descriptor of the sum and the bytes of it that are not encoded yet. -/
structure Holding where
  stream : Nat
  started : Bool
  sum : Option Nat
  left : Nat
  deriving DecidableEq, Repr

/-- A chunk on its way to its result (R246): stream, entry, number, step or ad hoc ID; `own` once its ENCODE has committed, so that it
waits; the bytes of input whose cross-site sum and whose result have committed. -/
structure Waiting where
  stream : Nat
  entry : Nat
  chunk : Nat
  inst : Nat
  own : Bool
  summed : Nat
  done : Nat
  deriving DecidableEq, Repr

structure ColState where
  running : List AdHoc
  held : List AdHoc
  lastId : Option Nat
  parked : List Parked
  /-- Chunks of each entry's current instance whose result has committed, and its step or ID (COL_INST). -/
  chunksDone : Tab Nat
  instStep : Tab Nat
  /-- Chunks holding input, oldest first (R245). -/
  holding : List Holding
  /-- Chunks on their way to their results, oldest first (R246; log entry 15). -/
  waiting : List Waiting
  /-- Entries whose current instance had an item end from 0x10 to 0x2F. -/
  failed : List Nat
  deriving DecidableEq, Repr

/-! ### Memory tiers, stream contexts and the buffer pools -/

structure MemState where
  /-- The bytes of the four tiers at key `tier * 2 ^ 48 + address`; an unlisted byte reads zero (log entry 5). -/
  cells : List Host.Cell
  /-- Keys divided by 8 of the words marked poisoned (R496). -/
  poison : List Nat
  /-- Lost pages, by key of the page's first byte over the page size, with the byte ranges (key, length) of each that
  have not been written again since the loss (R28, R483). -/
  lost : Tab (List (Nat × Nat))
  /-- Residual ranges of a reserve that took a role, not encoded yet (R359). -/
  unencoded : List (Nat × Nat)
  /-- Pages of tiers S and H the image declared, at key `tier * 2 ^ 32 + page` (R479), and the areas of tier H that the gateway
  mirrors by itself (R26, R478), at key `2 ^ 40 + area`: 0 context backing, 1 codebook table, 2 Almanac sets, 3 other tables,
  `16 + 2 * n + r` the replay area of route r of session n. -/
  pages : Tab Page
  /-- Key ranges of staging whose shadow copy a committed REDUCE has freed and that nothing has written since (R25). -/
  unshadowed : List (Nat × Nat)
  /-- Regions of tier D and X declared mirrored: (tier, address, length) (R486, R492). -/
  mirrorDX : List (Nat × Nat × Nat)
  /-- Sectors lost whose pages wait for their remap (R481), with the time of the loss. -/
  remapDue : List (Nat × Nat)
  remirroring : List Nat
  ctx : Tab Ctx
  /-- Cached stream contexts, least recently used first (R500). -/
  cache : List Nat
  scrubAt : Nat
  /-- Capacity in bytes of each CXL device enumerated at image activation, in device order (R491). -/
  xRanges : List Nat
  deriving DecidableEq, Repr

/-- A held buffer. -/
structure Buf where
  pool : Nat
  index : Nat
  holder : Holder
  account : Nat
  deriving DecidableEq, Repr

/-- A queued need (R510): holder, charged account, buffers by pool. -/
structure Need where
  holder : Holder
  account : Nat
  want : List (Nat × Nat)
  deriving DecidableEq, Repr

structure BpmState where
  bufs : List Buf
  queue : List Need
  /-- MIN and MAX of account a in pool p, at key `16 * a + p` (R503). -/
  limits : Tab (Nat × Nat)
  deriving DecidableEq, Repr

/-! ### Cipher engine and key slots -/

/-- A key generation (R522). -/
structure KeyGen where
  gen : Nat
  key : BitVec 256
  salt : BitVec 96
  an : Nat
  ssci : Nat
  invoc : Nat
  /-- A graceful erase waits (R536): no longer live for new items. -/
  erasing : Bool
  /-- A message was refused for R535. -/
  exhausted : Bool
  /-- Messages, other than items, that pin the generation. -/
  pins : Nat
  /-- When the newer generation was first used (R531) and, for LINE_RX, the lowest data sequence accepted under it. -/
  firstUse : Option Nat
  lowSeq : Option Nat
  /-- Next journal record number (R516) or GCS start count (R517). -/
  records : Nat
  /-- When its load committed (R529). -/
  loadedAt : Nat
  deriving DecidableEq, Repr

/-- One direction of a GCS channel under CFB (R517). -/
structure GcsCipher where
  txReg : BitVec 128
  rxReg : BitVec 128
  /-- Bytes the receive side still replaces by all-ones. -/
  rxFill : Nat
  deriving DecidableEq, Repr

structure CiphState where
  /-- K0, the key-encryption key (R520). -/
  k0 : Option (BitVec 256)
  /-- Generations of each slot, newest first (R522). -/
  slots : Tab (List KeyGen)
  /-- Use of each slot (R521). -/
  uses : Tab Nat
  gcs : Tab GcsCipher
  /-- Suspended messages: pipeline, item, key slot times 256 plus generation, blocks left (R540). -/
  suspended : List (Nat × Nat × Nat × Nat)
  /-- Run of consecutive tag failures of each session (R545). -/
  tagRun : Tab Nat
  /-- MACsec receive state at key `256 * slot + generation`: the packet number after the highest accepted (R547). -/
  macRx : Tab Nat
  deriving DecidableEq, Repr

/-! ### Peer sessions and the egress scheduler -/

/-- Where a sent data-space block stands. -/
inductive TxPhase where
  /-- Offered, but no route has room, or R224, R319 or a missing key holds it. -/
  | waiting
  /-- In a scheduler queue. -/
  | queued
  /-- Sent at least once and unacknowledged. -/
  | sent
  /-- Acknowledged and kept in the replay area (R290). -/
  | acked
  deriving DecidableEq, Repr

/-- A data-space block of a session's sending side (R281, R289). `bytes` are the sealed bytes. -/
structure TxBlock where
  dseq : Nat
  kind : Nat
  cls : Nat
  stream : Nat
  localStream : Nat
  step : Nat
  chunk : Nat
  adhoc : Bool
  bytes : List Byte
  /-- The SEND item that offered the block. -/
  item : Option Nat
  /-- Codebook slots and generations of the cblocks it carries (R224). -/
  books : List (Nat × Nat)
  phase : TxPhase
  /-- Route of the first and of the last transmission. -/
  firstRoute : Nat
  lastRoute : Nat
  lastSent : Nat
  /-- When the re-send timer last started (R299, R300). -/
  timerAt : Nat
  resends : Nat
  /-- Re-sending has stopped (R302). -/
  abandoned : Bool
  /-- A correction block, or a CODEBOOK that one needs (R377, R379). -/
  corr : Bool
  deriving DecidableEq, Repr

/-- What a session knows of one of its two routes (R313 to R315). -/
structure RouteState where
  samples : List Nat
  /-- The RTT in ns is recorded (R314). -/
  hasRtt : Bool
  proved : Nat
  /-- When a valid block last arrived on the route. -/
  heardAt : Nat
  replyAt : Nat
  /-- Windows' bucket of R554, in millionths of a counted byte, and when it was last filled. -/
  tokens : Nat
  filledAt : Nat
  /-- Rate r_ρ in bytes per second (R284, R555). -/
  rate : Nat
  nextPort : Nat
  /-- A smaller window that waits for the unacknowledged blocks to fall below it (R285). -/
  due : Option Nat
  deriving DecidableEq, Repr

/-- What a line block says besides its sequence number and key (R276). -/
structure Head where
  kind : Nat
  adhoc : Bool
  abandon : Bool
  relay : Bool
  cls : Nat
  origin : Nat
  step : Nat
  stream : Nat
  chunk : Nat
  part : Nat
  parts : Nat
  deriving DecidableEq, Repr

/-- A session beside its registers. -/
structure Sess where
  txCtl : Nat
  rxCtlHigh : Option Nat
  rxCtlSeen : List Nat
  tx : List TxBlock
  /-- Messages that wait for the session's slot to be able to seal (R275): header, local stream, body. -/
  unsealed : List (Head × Nat × List Byte)
  /-- Data sequences that a SEAL reserved and no SEND has offered, with the codebook generations of their cblocks. -/
  reserved : List (Nat × List (Nat × Nat))
  /-- Data sequences accepted above the cumulative point, with the route and time of acceptance (R296). -/
  rxAbove : List (Nat × Nat × Nat)
  /-- Sequences below the cumulative point under re-request (R287). -/
  rxWanted : List Nat
  /-- The peer's V (R287). -/
  peerWindow : Option Nat
  /-- Data-space blocks accepted since the last ACK and the time of the first of them (R291). -/
  ackCount : Nat
  ackFirst : Option Nat
  /-- Codebook acknowledgements still to repeat: stream, generation, repeats left (R294). -/
  cbAcks : List (Nat × Nat × Nat)
  routeA : RouteState
  routeB : RouteState
  probeId : Nat
  /-- A HELLO with NEW has gone out and the first agreeing HELLO has not arrived (R325). -/
  awaitNew : Bool
  sendNew : Bool
  helloAt : Nat
  heardAt : Nat
  throttledAt : Option Nat
  /-- When the session was suspended for a newer epoch (R330). -/
  epochWaitAt : Option Nat
  /-- The newer epoch that the session waits for (R354); 0 when it waits for the peer (R330). -/
  waitFor : Nat
  epochSentAt : Option Nat
  /-- Bridged streams held until their old route's blocks are acknowledged (R319): stream. -/
  heldStreams : List Nat
  /-- Time the session left OPEN (R369). -/
  leftOpenAt : Option Nat
  /-- Eclipse entry of a session whose member was still SUSPECT then (R367). -/
  bridgedAt : Option Nat
  /-- The NAKs already sent for a gap: sequence and time. -/
  naked : List (Nat × Nat)
  deriving DecidableEq, Repr

/-- A block in a scheduler queue (R549). `len` is its counted length in millionths of a byte (R552). -/
structure QBlock where
  session : Nat
  /-- The data sequence, or none for a control-space block. -/
  dseq : Option Nat
  fresh : Bool
  len : Nat
  tag : Rat
  joined : Nat
  bytes : List Byte
  /-- The port of the route that it must leave on (R309, R310). -/
  port : Option Nat
  deriving DecidableEq, Repr

/-- A policer's buckets, in thousandths of a bit (R560). -/
structure Policer where
  c : Nat
  p : Nat
  at_ : Nat
  deriving DecidableEq, Repr

structure SchState where
  /-- Queues of route r and class c at key `8 * r + c` (R549). -/
  queues : Tab (List QBlock)
  finish : Tab Rat
  vtime : Tab Rat
  policers : Tab Policer
  /-- The frames in each port's transmit buffer, the one in transmission first (R553, R558): bytes, class, time at which the block
  joined its queue. -/
  portBuf : Tab (List (Nat × Nat × Nat))
  deriving DecidableEq, Repr

/-- A received chunk or bridged message in assembly (R249, R320). -/
structure RxChunk where
  session : Nat
  stream : Nat
  step : Nat
  chunk : Nat
  parts : Nat
  adhoc : Bool
  /-- Parts accepted: part number, data sequence, sealed bytes, or the payload of a class C3 message. -/
  got : List (Nat × Nat × List Byte)
  /-- The sender has abandoned the chunk at its re-send limit (R304). -/
  failed : Bool
  deriving DecidableEq, Repr

/-- A watched member (R347). -/
structure Watch where
  heardAt : Nat
  /-- 1 ALIVE, 2 SUSPECT, 3 PROPOSED, 4 CONTESTED, 5 EXPIRED, 6 FENCED, as PEER_MEMBER_STATE numbers them. -/
  state : Nat
  holdAt : Option Nat
  deriving DecidableEq, Repr

/-- A step journal record (R364). -/
structure JRec where
  step : Nat
  tier : Nat
  addr : Nat
  len : Nat
  number : Nat
  gen : Nat
  stream : Nat
  /-- KIND and RELEASE of R364, the first cblock, and the codebook generation a CODEBOOK record holds. -/
  kind : Nat
  release : Nat
  block0 : Nat
  book : Nat
  deriving DecidableEq, Repr

/-- A reconciliation in progress (R372 to R380). -/
structure Recon where
  session : Nat
  /-- Island steps exchanged: the common step M, the peer's through step and its last released step. -/
  common : Nat
  peerThrough : Nat
  peerLast : Nat
  yielder : Nat
  /-- This gateway's own HORIZON: last released step. -/
  ownLast : Nat
  /-- Cblocks of the correction sent, in send order. -/
  outBlocks : List Byte
  /-- Correction blocks received: data sequence, stream, payload. -/
  inBlocks : List (Nat × Nat × List Byte)
  ownSent : Bool
  /-- DELTA_BLOCKS and DIGEST of the peer's RECONCILE 0x02. -/
  peerSent : Option (Nat × Nat)
  peerApplied : Bool
  deriving DecidableEq, Repr

structure PeerState where
  sess : Tab Sess
  rx : List RxChunk
  /-- Ready set of each step (R335). -/
  ready : Tab Nat
  members : List Member
  fences : Tab Nat
  watch : Tab Watch
  journal : List JRec
  /-- Steps released above the Meridian (R361) and whether each was an island step. -/
  released : List (Nat × Bool)
  recon : Option Recon
  stalledAt : Option Nat
  /-- The gateway has fenced itself (R346). -/
  selfFenced : Bool
  /-- Steps above the Meridian whose result is the site's own contribution alone (R361). -/
  islands : List Nat
  /-- RECV rows whose item of a step has committed, by step (R334). -/
  recvDone : Tab (List Nat)
  /-- COMMIT items that ended good before their Meridian (R361): step and row. -/
  pendingCommits : List (Nat × Nat)
  /-- The gateway is a reserve that adopts a role (R358), and the MERIDIAN of each session's first agreeing HELLO. -/
  adopting : Bool
  hellos : Tab Nat
  /-- When the last PROBE requests went out (R309). -/
  probeAt : Option Nat
  deriving DecidableEq, Repr

/-! ### The event controller -/

/-- A record of an EVENT message (R624). -/
structure EvRec where
  completion : Bool
  status : Nat
  source : Nat
  count : Nat
  tag : Nat
  time : Nat
  deriving DecidableEq, Repr

/-- An EVENT message of a host channel not yet acknowledged (R626). -/
structure EvMsg where
  sequence : Nat
  /-- 0 for this gateway's own records, else the position of the member they come from plus one (R642). -/
  origin : Nat
  gen : Nat
  recs : List EvRec
  sentAt : Nat
  deriving DecidableEq, Repr

structure EvtState where
  /-- The target that took each source's last assertion (R621). -/
  last : Tab Nat
  /-- Assertions gathered at target t, by source (R622), at key `16 * origin + t`, with the origin as in `EvMsg`, and since
  when. -/
  gathered : Tab (List EvRec)
  gatherAt : Tab Nat
  /-- Completion records waiting on host channel c (R626), at key `16 * origin + c`. -/
  completions : Tab (List EvRec)
  outstanding : Tab (List EvMsg)
  /-- Assertions delivered to a management processor and not yet reported handled (R623). -/
  delivered : Tab (List Nat)
  /-- Assertions that found no target in service (R621). -/
  held : List EvRec
  /-- Next event sequence of each EXPIN generation (R589). -/
  seqs : Tab Nat
  /-- Accepted level of each pin source after its filter (R620). -/
  pins : Tab Bool
  deriving DecidableEq, Repr

/-! ### What the active image declares beyond registers -/

/-! ### Output -/

/-- Output pins that a command drives (R750). -/
inductive Pin where
  | readyN | thermAlertN | cxlPerstN | txDisableN (port : Nat)
  /-- CXL_CLKd, which runs (true) or is held low (R490). -/
  | cxlClk (device : Nat)
  deriving DecidableEq, Repr

/-- SM, PM or TCM1 of one slice as a port sends it: TTI, BEI, BDI and STAT; every other field is zero (R382, R387, R388, R400, R401). -/
structure SectionOh where
  tti : List Byte
  bei : Nat
  bdi : Bool
  stat : Nat
  deriving DecidableEq, Repr

/-- The overhead of one slice of an OTUC8 frame: SM, PM, TCM1, the six bytes of GCC0 to GCC2, the payload type in the PSI; every
other field is zero (R381, R382, R386). -/
structure SliceOh where
  sm : SectionOh
  pm : SectionOh
  tcm1 : SectionOh
  gcc : List Byte
  pt : Nat
  deriving DecidableEq, Repr

/-- What the gateway sends or drives. -/
inductive Emit where
  /-- A response to an Expin request: sequence, status code, view, transaction or snapshot ID, body (R584, R594). -/
  | response (seq status view txn : Nat) (body : List Byte)
  /-- An EVENT message of a host channel (R622, R624), with its sequence and the position plus one of the member its records
  come from, 0 for this gateway (R642). -/
  | hostEvent (channel seq origin : Nat) (recs : List EvRec)
  /-- An interrupt to a management processor, with its sources (R622). -/
  | interrupt (mp : Nat) (sources : List Nat)
  /-- A GFP frame handed to a line port (R390, R553). -/
  | line (port : Nat) (bytes : List Byte)
  /-- A GFP client management frame on a port (R402). -/
  | csf (port : Nat)
  /-- The overhead of the eight slices of an OTUC8 frame sent on a port (R382, R386). -/
  | otuc (port : Nat) (slices : List SliceOh)
  /-- Bits given out on GCSn_TXD (R403), and on LMON_D (R407), in order. -/
  | gcs (n : Nat) (bits : List Bool)
  | lmon (bits : List Bool)
  /-- Bytes written to the circuit with this table index (MOVE, R80). -/
  | circuit (index : Nat) (bytes : List Byte)
  /-- A message to the local fabric: kind, bytes (R437, R438). -/
  | fabric (kind : Nat) (bytes : List Byte)
  /-- A MOVE flit on a circuit's old slot (R461), and the burst of a fibre pair in automatic power reduction, of `us` µs (R475). -/
  | moveFlit (index fibre lambda : Nat)
  | burst (fibre lambda us : Nat)
  /-- A frame out of the host port other than Expin (R577). -/
  | hostFrame (bytes : List Byte)
  /-- A message to another member of the constellation: position, kind, number, body (constellations chapter). -/
  | member (position kind : Nat) (id : Nat) (body : List Byte)
  /-- A byte exchanged with a module over I3C: port, page, offset, written data (R411). -/
  | module (port page offset : Nat) (data : Option Nat)
  /-- An output pin driven to a level. -/
  | pin (p : Pin) (level : Bool)
  /-- PPS_OUT raised for so many nanoseconds (R580). -/
  | pps (ns : Nat)
  /-- Every output undriven or released and every laser dark (R753). -/
  | rest
  deriving DecidableEq, Repr

/-! ### Self-test, Twilight -/

/-- A sector under BIST or waiting for its start (R711 to R716). -/
structure BistRun where
  sector : Nat
  /-- Pattern set of R708. -/
  set : Nat
  /-- What asked for it, as BIST_STATUS.PHASE numbers it: 1 boot, 2 in service, 3 ENABLE or patch, 4 UNRETIRE. -/
  why : Nat
  /-- When the test started; none while it waits. -/
  started : Option Nat
  /-- The sector stays DARK whatever its result (R716). -/
  stayDark : Bool
  /-- The run belongs to a sector patch (R682). -/
  patch : Bool
  deriving DecidableEq, Repr

/-- A packet that the sending end of an on-package network link holds (R31): the link, its flow, its sequence number in the
flow, and its run of CRC failures on the link (R32). -/
structure NocPkt where
  link : Nat
  flow : Nat
  seq : Nat
  fails : Nat
  deriving DecidableEq, Repr

/-- A flow of the on-package network (R33): whether it has moved to its second path, the sequence number that its destination
delivers next, and those accepted ahead of it. -/
structure NocFlow where
  alt : Bool
  next : Nat
  ahead : List Nat
  deriving DecidableEq, Repr

/-- The on-package network (R30 to R34). -/
structure NocState where
  /-- Re-sends, path changes and failure of each link (R34). -/
  links : Tab (Nat × Nat × Bool)
  held : List NocPkt
  /-- Flows at key `(class * 32 + destination) * 32 + source`, dies numbered as PWR_TEMPd numbers them. -/
  flows : Tab NocFlow
  deriving DecidableEq, Repr

structure BistState where
  /-- Times (ns) of the last three charges of bin `68 * sector + 17 * class + temperature`, oldest first (R717). -/
  bins : Tab (List Nat)
  runs : List BistRun
  lastStart : Option Nat
  /-- Retirements that wait for the end of a test (R719). -/
  retireAfter : List Nat
  /-- Sectors still to be tested in the in-service cycle (R714). -/
  cycle : Option (List Nat)
  cycleEnd : Nat
  /-- Expected signatures at key `8 * set + sector`: cycles, MISR (R709). -/
  sigs : Tab (Nat × Nat)
  noc : NocState
  deriving DecidableEq, Repr
/-! ### Line ports -/

/-- GFP delineation (R394). -/
inductive GfpState where
  | hunt
  /-- Further consecutive frames with a matching cHEC so far. -/
  | presync (n : Nat)
  | sync
  deriving DecidableEq, Repr

/-- A line port beside its registers. -/
structure LinePort where
  /-- Raw defects present, before masking (R395). -/
  raw : Nat
  /-- Raw defects after masking (R396), and when each bit took its present value. -/
  eff : Nat
  since : Tab Nat
  /-- When each fast-integrated defect took its present value (R398). -/
  fastSince : Tab Nat
  gfp : GfpState
  /-- The last 43 scrambled bits sent and received (R391). -/
  txScr : Nat
  rxScr : Nat
  /-- Bytes of frames other than idle ones sent, and where in the OPUC8 payload area the last of them began (R392). -/
  txSent : Nat
  txPlace : Nat
  /-- BIP-8 errors found in SM and PM of the last frame received, which the next frame sent reports (R401). -/
  beiSm : Nat
  beiPm : Nat
  /-- When a client management frame last arrived (R395) and last left (R402). -/
  csfAt : Option Nat
  csfSentAt : Nat
  /-- Last reads of the module's flags while LOS is present (R410). -/
  pollAt : Nat
  alertAt : Nat
  deriving DecidableEq, Repr

/-- A module access in progress (R411). -/
structure ModAccess where
  port : Nat
  write : Bool
  page : Nat
  offset : Nat
  data : Nat
  deriving DecidableEq, Repr

structure LineState where
  ports : Tab LinePort
  access : Option ModAccess
  /-- The channels in effect: port and channel of each serial port (R404, R405). -/
  gcs : Tab (Nat × Nat)
  deriving DecidableEq, Repr

/-! ### The site fabric -/

/-- A bridge message in packing (R436). -/
structure BridgeMsg where
  opened : Nat
  bytes : List Byte
  deriving DecidableEq, Repr

/-- A request that holds a credit (R437): remote site, its coordinates and tag. -/
structure FabReq where
  site : Nat
  src : Nat
  dst : Nat
  tag : Nat
  /-- Bridge stream and session that carry it. -/
  stream : Nat
  session : Nat
  deriving DecidableEq, Repr

/-- A packet sent, or to be sent, into the local fabric on a packet wavelength (R422). -/
structure FabPkt where
  bytes : List Byte
  /-- Channel it travels on. -/
  vc : Nat
  fibre : Nat
  lambda : Nat
  flit : Nat
  /-- Old wavelength and flit number of a re-sent packet (R422). -/
  old : Option (Nat × Nat)
  /-- It ends a request of this gateway when it is delivered (R437). -/
  ends : Option FabReq
  /-- Since when the fabric withholds credit for it (R424). -/
  since : Nat
  deriving DecidableEq, Repr

structure FabState where
  circuits : Tab Circuit
  bridge : Tab BridgeMsg
  reqs : List FabReq
  sent : List FabPkt
  /-- Next flit number of each packet wavelength, at key `16 * fibre + lambda`. -/
  flits : Tab Nat
  /-- Highest flit number received in order on each (R423). -/
  rxFlits : Tab Nat
  /-- The packet wavelength of each pair that has sent, by the H of its coordinates (R422). -/
  homes : Tab Nat
  deriving DecidableEq, Repr

/-! ### Lasers and locks -/

structure OptState where
  /-- The slot (16 * fibre pair + wavelength) each spare 8 * tile + j serves. -/
  spares : Tab Nat
  /-- Spares being switched in: spare, slot, start. -/
  switching : List (Nat × Nat × Nat)
  /-- Rings that relock after a wrong lock (R459): ring 2 * slot + (0 modulator, 1 drop), start. -/
  relocking : List (Nat × Nat)
  /-- The alternate named on each fibre pair (R451) and former ones held (R464): fibre pair, wavelength, since. -/
  alternate : Tab Nat
  held : List (Nat × Nat × Nat)
  /-- Circuits that move: index, alternate, start. -/
  moving : List (Nat × Nat × Nat)
  calStart : Tab Nat
  /-- Slots with a lock fault at the end of the last loop period (R454). -/
  unlocked : List Nat
  /-- Last burst of a fibre pair in power reduction (R475). -/
  burstAt : Tab Nat
  /-- Heater targets and drives of each tile, at key `256 * tile + heater` (R453, R467). -/
  target : Tab Int
  drive : Tab Int
  /-- Sensor readings at calibration, at key `16 * tile + sensor`, and coefficients, at key
  `16 * (256 * tile + heater) + sensor` (R471). -/
  sensor0 : Tab Int
  sensorCoef : Tab Int
  /-- The lagged change of the announced level, by tile, and the level each tile has taken (R471, R94). -/
  lag : Tab Int
  level : Nat
  deriving DecidableEq, Repr

/-! ### The time unit -/

/-- A steered time base (R564, R567) as its offset from TB3 in linear units: the offset when it was last set, how fast the
addend moves it, in parts per 10^12, and the phase still to be slewed away. -/
structure TimeBase where
  /-- 0 FREE, 1 LOCKED, 2 HOLDOVER. -/
  state : Nat
  off : Int
  rate : Int
  phase : Int
  at_ : Nat
  /-- Consecutive valid updates of its source. -/
  good : Nat
  /-- When holdover began. -/
  heldAt : Nat
  deriving DecidableEq, Repr

/-- A route of the time session (R573, R574). -/
structure TimeRoute where
  state : Nat
  asym : Option Int
  samples : List Int
  /-- θ as last estimated, when, and how it moved between the last two estimates: units gained in so many nanoseconds. -/
  theta : Int
  at_ : Nat
  gain : Int
  over_ : Nat
  /-- When holdover began. -/
  heldAt : Nat
  deriving DecidableEq, Repr

/-- A foreign master of a PTP domain (R569): its port identity, the data sets that rank it, when its last Announce arrived,
its announce interval in ns, and whether two Announce messages have come within four intervals. -/
structure PtpMaster where
  ident : Nat
  rank : List Nat
  at_ : Nat
  interval : Nat
  qualified : Bool
  deriving DecidableEq, Repr

/-- The host-port PTP slave of a domain (R569). -/
structure PtpPort where
  masters : List PtpMaster
  /-- The last Sync: its sequence, its receive stamp in TB3, its correction, its origin time once known. -/
  syncSeq : Nat
  syncRx : Int
  syncCorr : Int
  syncTx : Option Int
  syncAt : Nat
  syncInterval : Nat
  /-- The Delay_Req sent for it: sequence and transmit stamp in TB3. -/
  delaySeq : Nat
  delayTx : Option Int
  deriving DecidableEq, Repr

structure TimeState where
  bases : Tab TimeBase
  routes : Tab TimeRoute
  ptp : Tab PtpPort
  /-- The peer's TB3 and TB0, linear, at one instant, with the state and TRACEABLE of its last report (R573). -/
  peer : Option (Int × Int × Nat × Bool)
  /-- The difference D of R568 while TB0 is steered from TB1. -/
  diff : Option Int
  /-- Since when TB0's own source has been valid again without a break (R568). -/
  validSince : Option Nat
  /-- The route that TB2 follows (R575). -/
  follows : Option Nat
  /-- When the last accepted edge of PPS_IN came (R567). -/
  ppsAt : Nat
  deriving DecidableEq, Repr

/-! ### The constellation -/

/-- A request that the pole has forwarded and not yet answered (R635, R636). -/
structure Fwd where
  id : Nat
  member : Nat
  /-- Sequence of the host's request, and the transaction it belongs to. -/
  seq : Nat
  txn : Nat
  inTxn : Bool
  kind : Nat
  deriving DecidableEq, Repr

/-- A commit in two phases at the pole (R638): the host's sequence, the members that have still to prepare, the code that
refuses it, and, once applied, the members that have still to acknowledge. -/
structure TwoPhase where
  seq : Nat
  txn : Nat
  /-- CFLAGS bit 0 of the commit (R603). -/
  check : Bool
  prepare : List Nat
  refusal : Option Status
  applying : Bool
  /-- The view generation that the apply carries. -/
  view : Nat
  acks : List Nat
  deriving DecidableEq, Repr

structure CstState where
  alternate : Nat
  reserve : Option Nat
  /-- Member coordinates and the positions that serve them (CST_MAP). -/
  map : Tab Nat
  /-- Neighbours of each member as the link-state records give them (R632). -/
  links : Tab (List Nat)
  /-- Whether routes wait to be installed since a link change, and since when. -/
  changedAt : Option Nat
  /-- Next request sequence of the pole, the requests outstanding, and at a member the last results (R636). -/
  nextFwd : Nat
  fwds : List Fwd
  results : List (Nat × List Byte)
  /-- At the pole, the members that hold parts of each open transaction (R637). -/
  txnMembers : Tab (List Nat)
  /-- At a member, the transactions whose parts it has applied or discarded for the pole, last 64 (R638). -/
  applied : List Nat
  commits : List TwoPhase
  /-- Event records for the pole that wait (R643), by source and channel. -/
  held : List (Nat × EvRec)
  /-- At the pole, members that have reported a step (R648), and the last constellation Meridian (R639). -/
  reports : Tab Nat
  meridian : Nat
  /-- The last step this member has reported (R648). -/
  reported : Nat
  /-- Swaps since activation (R647). -/
  swaps : Nat
  /-- Since when no route has reached the pole (R651, R656). -/
  poleGone : Option Nat
  deriving DecidableEq, Repr

/-! ### The host port -/

/-- An operation that an open transaction holds (R600). -/
inductive HeldOp where
  | word (addr : Nat) (v : Word)
  | key (b : KeyBody)
  | table (epoch : Nat) (ms : List Member)
  deriving DecidableEq, Repr

/-- Committed state as one view shows it (R49): the registers, the Almanac sets, the circuit table, the member table and
the live key generations of each slot. -/
structure Picture where
  view : Nat
  regs : Tab Word
  active : Tab Row256
  shadow : Tab Row256
  circuits : Tab Circuit
  members : List Member
  keys : Tab (List Nat)
  deriving DecidableEq, Repr

/-- An open transaction (R599): the picture at its TXN_BEGIN, and its last message. -/
structure HTxn where
  id : Nat
  base : Picture
  lastAt : Nat
  ops : List HeldOp
  deriving DecidableEq, Repr

/-- An open snapshot (R605). -/
structure Snap where
  id : Nat
  pic : Picture
  openedAt : Nat
  deriving DecidableEq, Repr

/-- The load of targets 0x01 to 0x03 in progress (R609, R610): offsets and data staged, whether LAST has come, and the
request that completed it. -/
structure Load where
  target : Nat
  id : Nat
  total : Nat
  region : Nat
  parts : List (Nat × List Byte)
  last : Bool
  by_ : Option Req
  /-- Messages whose buffer is queued (R510, R668): their data is held and they are answered at the grant. -/
  late : List Req
  deriving DecidableEq, Repr

structure HostState where
  /-- Requests carried out and not yet answered, with the generation to answer under. -/
  asked : List (Nat × Option Nat)
  /-- The responses to the last 1,024 accepted requests, by generation and SEQUENCE (R594). -/
  answered : List (Option Nat × Nat × Emit)
  /-- Highest SEQUENCE accepted and those accepted among the 1,024 below it, by generation plus one, 0 for the bootstrap
  key (R593). -/
  replay : Tab (Nat × List Nat)
  /-- The configuration and address registers in effect (R583), by register address. -/
  inEffect : Tab Word
  lastTxn : Nat
  txns : List HTxn
  lastSnap : Nat
  snaps : List Snap
  load : Option Load
  deriving DecidableEq, Repr

/-! ### Images, Twilight and firmware -/

/-- A firmware copy of the SPI NOR: its version (major and minor) and SHA-256. -/
structure FwCopy where
  version : Nat
  digest : List Byte
  deriving DecidableEq, Repr

/-- A restart of the management processors (R687): the processor, whether it still drains, since when, and the copy it
ran before. -/
structure FwRun where
  mp : Nat
  draining : Bool
  since : Nat
  oldB : Bool
  deriving DecidableEq, Repr

/-- A sector patch in progress (R682). -/
structure PatchRun where
  image : Image
  enable : Bool
  step : Nat
  deriving DecidableEq, Repr

structure ImgState where
  /-- OWNER_SLOT of the active image. -/
  owner : Nat
  /-- Sector records of the active image (R665). -/
  sectors : Tab Bool
  staged : Option Image
  /-- When the deadline of a draining unit is reached. -/
  deadlines : Tab Nat
  activating : Bool
  patch : Option PatchRun
  /-- Sectors that the in-service cycle of R714, a retirement or nothing else sends dark, by sector: 1 in-service test,
  2 retirement, 3 patch. -/
  purpose : Tab Nat
  fw : Option FwRun
  /-- The SPI NOR (R693): both firmware copies, the preferred one, and the boot image area. -/
  copyA : Option FwCopy
  copyB : Option FwCopy
  preferB : Bool
  area : Option Image
  deriving DecidableEq, Repr

/-! ### The vault die and boot -/

structure SecState where
  /-- The claim key, derived from the PUF. -/
  claimKey : BitVec 256
  /-- BOOT_KEY and BOOT_SALT while OWNED (R701). -/
  boot : Option (BitVec 256 × BitVec 32)
  /-- Owner slots: 1 active, 2 revoked, with the HSS public key (R704). -/
  owners : Tab (Nat × List Byte)
  /-- The next unreserved identity leaf that the vault holds (R697). -/
  reservedLeaf : Nat
  /-- A quote in building: when it began, its leaf, its first 152 bytes. -/
  quote : Option (Nat × Nat × List Byte)
  /-- The image being copied into the boot area (R694). -/
  persisting : Option Image
  /-- When the boot stage in progress began. -/
  stageAt : Nat
  deriving DecidableEq, Repr

/-! ### Power, clocks and reset -/

structure PwrState where
  /-- PORST_N is low. -/
  porst : Bool
  /-- PORST_N was released and the gateway holds itself in reset (R733). -/
  held : Bool
  /-- The gateway is off (R727, R728). -/
  off : Bool
  /-- Since when the input has been out of range (R727). -/
  outAt : Option Nat
  /-- Since when the current has stayed 1 A or more below AMPS (R730). -/
  calmAt : Option Nat
  /-- Since when the array has been capped (PWR_CAPPED_NS). -/
  cappedAt : Option Nat
  refLostAt : Option Nat
  /-- A SYSRST_N waits for the response to the WRITE that asked for it (R744). -/
  softDue : Bool
  /-- The actions of R746 in force. -/
  warm : Bool
  hot : Bool
  deriving DecidableEq, Repr


/-! ### The whole state -/

/-- The state of the gateway. -/
structure State where
  /-- Commands that wait, first in, first out. -/
  pending : List Instr
  /-- TCLK cycles, that is nanoseconds, since PORST_N was released (log entry 2). -/
  now : Nat
  /-- How many free values have been taken; the model's own field (log entry 4). -/
  free : Nat
  /-- What the gateway has sent or driven, oldest first; the model's own field (log entry 6). -/
  out : List Emit
  /-- The register file: entries that differ from the register's reset word. -/
  regs : Tab Word
  conf : Conf
  seq : SeqState
  arr : ArrState
  ppe : PpeState
  cmp : CmpState
  col : ColState
  mem : MemState
  bpm : BpmState
  ciph : CiphState
  sch : SchState
  peer : PeerState
  evt : EvtState
  bist : BistState
  line : LineState
  fab : FabState
  opt : OptState
  time : TimeState
  cst : CstState
  host : HostState
  img : ImgState
  sec : SecState
  pwr : PwrState
  deriving DecidableEq, Repr

def Conf.none : Conf :=
  { job := 0, site := 0, role := 0, sites := 0, sess := [], journal := [], bulk := [], incoming := [], sci := [],
    parkAddr := 0, regions := [], needS := 0, needH := 0, landing := [], ranks := [] }

/-- The machine in reset, PORST_N still held low: every register at its reset value (R19), nothing else held. -/
def State.reset : State :=
  { pending := [], now := 0, free := 0, out := [], regs := [], conf := Conf.none
    seq := { active := [], shadow := [], items := [], nextId := 0, lastFirst := 15, swap := none, waitAt := [],
             faultTo := [], forecasts := [], turn := [] }
    arr := { acc := [], winTop := [], decRecs := [], home := [], chunk := [], level := 0, rampAt := 0, prev := 0, helping := [] }
    ppe := { item := none, k := 0, band := 0, integrating := false, mismatches := 0, folds := [], begun := false, held := [],
             qStore := none, q := [], lockLostAt := none, lockErr := [], target := [], drive := [], cal := none, calDue := false, calEndedAt := 0, failed := false }
    cmp := { books := [], sends := [], waits := [], copies := [], opens := [], refetch := [], asked := [], delivered := [], acks := [], displaced := [] }
    col := { running := [], held := [], lastId := none, parked := [], chunksDone := [], instStep := [], holding := [],
             waiting := [], failed := [] }
    mem := { cells := [], poison := [], lost := [], unencoded := [], pages := [], unshadowed := [], mirrorDX := [], remapDue := [], remirroring := [],
             ctx := [], cache := [], scrubAt := 0, xRanges := [] }
    bpm := { bufs := [], queue := [], limits := [] }
    ciph := { k0 := none, slots := [], uses := [], gcs := [], suspended := [], tagRun := [], macRx := [] }
    sch := { queues := [], finish := [], vtime := [], policers := [], portBuf := [] }
    peer := { sess := [], rx := [], ready := [], members := [], fences := [], watch := [], journal := [], released := [],
              recon := none, stalledAt := none, selfFenced := false, islands := [], recvDone := [],
              pendingCommits := [], adopting := false, hellos := [], probeAt := none }
    evt := { last := [], gathered := [], gatherAt := [], completions := [], outstanding := [], delivered := [], held := [],
             seqs := [], pins := [] }
    bist := { bins := [], runs := [], lastStart := none, retireAfter := [], cycle := none, cycleEnd := 0, sigs := [],
              noc := { links := [], held := [], flows := [] } }
    line := { ports := [], access := none, gcs := [] }
    fab := { circuits := [], bridge := [], reqs := [], sent := [], flits := [], rxFlits := [], homes := [] }
    opt := { spares := [], switching := [], relocking := [], alternate := [], held := [], moving := [], calStart := [], unlocked := [],
             burstAt := [], target := [], drive := [], sensor0 := [], sensorCoef := [], lag := [], level := 0 }
    time := { bases := [], routes := [], ptp := [], peer := none, diff := none, validSince := none, follows := none, ppsAt := 0 }
    cst := { alternate := 0, reserve := none, map := [], links := [], changedAt := none, nextFwd := 0, fwds := [], results := [],
             txnMembers := [], applied := [], commits := [], held := [], reports := [], meridian := 0, reported := 0, swaps := 0,
             poleGone := none }
    host := { asked := [], answered := [], replay := [], inEffect := [], lastTxn := 0, txns := [], lastSnap := 0, snaps := [],
              load := none }
    img := { owner := 0, sectors := [], staged := none, deadlines := [], activating := false, patch := none, purpose := [],
             fw := none, copyA := none, copyB := none, preferB := false, area := none }
    sec := { claimKey := 0, boot := none, owners := [], reservedLeaf := 0, quote := none, persisting := none, stageAt := 0 }
    pwr := { porst := true, held := false, off := false, outAt := none, calmAt := none, cappedAt := none, refLostAt := none,
             softDue := false, warm := false, hot := false } }

end Sys2Proof.Machine
end

