-- ==== Sys2Proof/Machine/Ops.lean ====
section
/-! DEFINITION. The named operations over the state that every meaning is written with: sparse tables, the register file,
memory of the four tiers, free values, output. -/

namespace Sys2Proof.Machine

/-! ### Sparse tables -/

/-- The entry of a key. -/
def tfind {α : Type} (k : Nat) : Tab α → Option α
  | [] => none
  | (k', v) :: t => if k' = k then some v else tfind k t

/-- The table with the entry of a key set, keys kept rising. -/
def tput {α : Type} (k : Nat) (v : α) : Tab α → Tab α
  | [] => [(k, v)]
  | (k', v') :: t =>
    if k < k' then (k, v) :: (k', v') :: t
    else if k = k' then (k, v) :: t
    else (k', v') :: tput k v t

/-- The table without the entry of a key. -/
def tdel {α : Type} (k : Nat) : Tab α → Tab α
  | [] => []
  | (k', v) :: t => if k' = k then tdel k t else (k', v) :: tdel k t

/-- The entry of a key, or what an unlisted key holds. -/
def tget {α : Type} (d : Nat → α) (t : Tab α) (k : Nat) : α := (tfind k t).getD (d k)

/-- The table with a key set; an entry equal to what an unlisted key holds is not listed. -/
def tset {α : Type} [DecidableEq α] (d : Nat → α) (t : Tab α) (k : Nat) (v : α) : Tab α :=
  if v = d k then tdel k t else tput k v t

/-- The canonical form of a table over a default: keys strictly rising, no entry equal to its default. -/
def tabWf {α : Type} [DecidableEq α] (d : Nat → α) : Tab α → Bool
  | [] => true
  | [(k, v)] => decide (v ≠ d k)
  | (k, v) :: (k', v') :: t => decide (v ≠ d k) && decide (k < k') && tabWf d ((k', v') :: t)

/-- A table changed at every key that a list names. -/
def tsetAll {α : Type} [DecidableEq α] (d : Nat → α) (t : Tab α) (kvs : List (Nat × α)) : Tab α :=
  kvs.foldl (fun t kv => tset d t kv.1 kv.2) t

/-! ### Lists of records -/

/-- The first element that satisfies a test replaced by its image. -/
def lmodify {α : Type} (p : α → Bool) (f : α → α) : List α → List α
  | [] => []
  | x :: xs => if p x then f x :: xs else x :: lmodify p f xs

/-! ### The register map -/

/-- The address of instance `k` of a field's register. -/
def Fld.addr (x : Fld) (k : Nat) : Nat := x.base + k / x.n2 * x.s1 + k % x.n2 * x.s2

/-- Whether a register has an instance at an address. -/
def Reg.covers (r : Reg) (a : Nat) : Bool :=
  decide (r.base ≤ a) &&
    (let o := a - r.base
     decide (o / r.s1 < r.n1) && decide (o % r.s1 / r.s2 < r.n2) && decide (o % r.s1 % r.s2 = 0))

/-- The instance number of the register at an address it covers. -/
def Reg.index (r : Reg) (a : Nat) : Nat := (a - r.base) / r.s1 * r.n2 + (a - r.base) % r.s1 / r.s2

/-- The register at an address (R13, R15). -/
def regAt (a : Nat) : Option Reg := (regBlock (a / 0x100000)).find? fun r => r.covers a

/-- What a register word holds after reset (R19); an address without a register holds zero. -/
def resetWord (a : Nat) : Word := BitVec.ofNat 64 (match regAt a with | some r => r.rst | none => 0)

/-- The word a register file holds at an address. -/
def regGet (t : Tab Word) (a : Nat) : Word := tget resetWord t a

/-- A number with `w` bits from bit `lo` replaced. -/
def putBits (n lo w v : Nat) : Nat :=
  n % 2 ^ lo + (v % 2 ^ w) * 2 ^ lo + n / 2 ^ (lo + w) * 2 ^ (lo + w)

/-- A field of instance `k` in a register file. -/
def regFld (t : Tab Word) (x : Fld) (k : Nat) : Nat := (regGet t (x.addr k)).toNat / 2 ^ x.lo % 2 ^ x.w

/-- Whether a field's register has an instance `k`. -/
def Fld.has (x : Fld) (k : Nat) : Bool := decide (k < x.n1 * x.n2)

/-- A register file with a field of instance `k` written; nothing is written where the register has no instance `k`. -/
def regSetFld (t : Tab Word) (x : Fld) (k v : Nat) : Tab Word :=
  if x.has k then
    tset resetWord t (x.addr k) (BitVec.ofNat 64 (putBits (regGet t (x.addr k)).toNat x.lo x.w v))
  else t

/-- The register word at an address, as the register file holds it. -/
def State.word (s : State) (a : Nat) : Word := regGet s.regs a

/-- The register word at an address replaced. -/
def State.setWord (s : State) (a : Nat) (v : Word) : State := { s with regs := tset resetWord s.regs a v }

/-- The word of instance `k` of a register replaced; nothing is written where the register has no instance `k`. -/
def State.setReg (s : State) (r : Reg) (k : Nat) (v : Word) : State :=
  if k < r.n1 * r.n2 then s.setWord (r.base + k / r.n2 * r.s1 + k % r.n2 * r.s2) v else s

/-- A field of instance `k` of its register. -/
def State.f (s : State) (x : Fld) (k : Nat := 0) : Nat := regFld s.regs x k

/-- A field of instance `k` written by the gateway itself. -/
def State.setf (s : State) (x : Fld) (v : Nat) (k : Nat := 0) : State := { s with regs := regSetFld s.regs x k v }

/-- Whether bit `b` of a field is set. -/
def State.bit (s : State) (x : Fld) (b : Nat) (k : Nat := 0) : Bool := (s.f x k).testBit b

/-- Bit `b` of a number set or cleared. -/
def setBit (n b : Nat) (on : Bool) : Nat := if n.testBit b = on then n else if on then n + 2 ^ b else n - 2 ^ b

/-- Bit `b` of a field set or cleared. -/
def State.putBit (s : State) (x : Fld) (b : Nat) (on : Bool) (k : Nat := 0) : State :=
  s.setf x (setBit (s.f x k) b on) k

/-! ### Free values and output -/

/-- A value the spec leaves open, and the state whose counter has moved past it (log entry 4). -/
def State.fresh (s : State) : Word × State := (Config.freeWord s.free, { s with free := s.free + 1 })

/-- Something the gateway sends or drives. -/
def State.emit (s : State) (e : Emit) : State := { s with out := s.out ++ [e] }

/-! ### Memory -/

/-- The key of a byte of a tier (R77: tiers S, H, D and X are 0 to 3). -/
def memKey (tier addr : Nat) : Nat := tier * 2 ^ 48 + addr

/-- What an unlisted byte reads as: zero. DESIGN CHOICE (log entry 5): the spec gives memory no contents after reset. -/
def unlistedByte (_ : Nat) : Byte := 0

/-- The canonical form of memory. -/
def memWf (m : List Host.Cell) : Bool := tabWf unlistedByte m

/-- The extent of a tier in bytes (R7, R477): 16 GiB of S, 512 GiB of H, what MEM_CAP shows of D, and of X the ranges of the
devices enumerated at image activation (R491), those lost since among them (R493). -/
def State.tierCap (s : State) : Nat → Nat
  | 0 => 16 * 2 ^ 30
  | 1 => 512 * 2 ^ 30
  | 2 => s.f F.MEM_CAP_D_GIB * 2 ^ 30
  | 3 => s.mem.xRanges.sum
  | _ => 0

/-- The capacity of a tier that the fit check counts against (R109): as `tierCap`, without the CXL devices lost (R493). -/
def State.fitCap (s : State) (tier : Nat) : Nat :=
  if tier = 3 then s.f F.MEM_CAP_X_GIB * 2 ^ 30 else s.tierCap tier

/-- Whether a range lies inside its tier. -/
def State.inTier (s : State) (tier addr len : Nat) : Bool := decide (addr + len ≤ s.tierCap tier)

def State.rdByte (s : State) (tier addr : Nat) : Byte := tget unlistedByte s.mem.cells (memKey tier addr)

/-- `n` bytes from an address upward. -/
def State.rdBytes (s : State) (tier addr : Nat) : Nat → List Byte
  | 0 => []
  | n + 1 => s.rdByte tier addr :: s.rdBytes tier (addr + 1) n

/-- A list of cells with bytes stored from a key upward. -/
def cellsWrite (m : List Host.Cell) (key : Nat) : List Byte → List Host.Cell
  | [] => m
  | b :: bs => cellsWrite (tset unlistedByte m key b) (key + 1) bs

/-- A list of byte ranges with one range taken out. -/
def rangesCut (rs : List (Nat × Nat)) (a n : Nat) : List (Nat × Nat) :=
  rs.flatMap fun (b, m) =>
    if a + n ≤ b ∨ b + m ≤ a then [(b, m)]
    else (if b < a then [(b, a - b)] else []) ++ (if a + n < b + m then [(a + n, b + m - (a + n))] else [])

/-- Whether a range meets one of a list of ranges. -/
def rangesMeet (rs : List (Nat × Nat)) (a n : Nat) : Bool :=
  rs.any fun (b, m) => decide (a < b + m) && decide (b < a + n)

/-- Size of a page of tiers S and H (R479). -/
def pageSize : Nat := 2 * 2 ^ 20

/-- The lost pages after a write of `n` bytes at a key: a page wholly written again reads normally (R28, R483). -/
def lostAfter (ps : Tab (List (Nat × Nat))) (key n : Nat) : Tab (List (Nat × Nat)) :=
  ps.filterMap fun (p, rs) => if rangesCut rs key n = [] then none else some (p, rangesCut rs key n)

/-- Whether a range of keys touches a lost page. -/
def lostMeet (ps : Tab (List (Nat × Nat))) (key n : Nat) : Bool :=
  rangesMeet (ps.map fun (p, _) => (p * pageSize, pageSize)) key n

/-- Bytes stored in a tier from an address upward; a stored word is no longer poisoned. -/
def State.wrBytes (s : State) (tier addr : Nat) (bs : List Byte) : State :=
  { s with mem := { s.mem with
      cells := cellsWrite s.mem.cells (memKey tier addr) bs
      lost := lostAfter s.mem.lost (memKey tier addr) bs.length
      unshadowed := rangesCut s.mem.unshadowed (memKey tier addr) bs.length
      unencoded := rangesCut s.mem.unencoded (memKey tier addr) bs.length
      poison := s.mem.poison.filter fun w =>
        decide (w * 8 + 8 ≤ memKey tier addr) || decide (memKey tier addr + bs.length ≤ w * 8) } }

/-! ### Time -/

/-- Nanoseconds of TB3 (log entry 2): what completion records and results stamp. -/
def State.tb3 (s : State) : Nat := s.now

/-- Whether `d` ns have passed since `t`. -/
def State.elapsed (s : State) (t d : Nat) : Bool := decide (t + d ≤ s.now)

/-- Whether more than `d` ns have passed since `t`. -/
def State.longer (s : State) (t d : Nat) : Bool := decide (t + d < s.now)

end Sys2Proof.Machine
end

