-- ==== Sys2Proof/Machine/Flags.lean ====
section
/-! DEFINITION. The flags and counters: latched event bits, saturating counters (R59), and the status bits derived from
several registers. -/

namespace Sys2Proof.Machine

/-- The largest value of a 64-bit saturating counter (R59). -/
def satMax : Nat := 2 ^ 64 - 1

/-- A saturating sum (R59). -/
def satAdd (a n : Nat) : Nat := min satMax (a + n)

/-- A counter field raised by `n`, saturating at its width (R59). -/
def State.count (s : State) (x : Fld) (n : Nat := 1) (k : Nat := 0) : State :=
  s.setf x (min (2 ^ x.w - 1) (s.f x k + n)) k

/-- A latched event bit set. -/
def State.event (s : State) (x : Fld) (k : Nat := 0) : State := s.setf x 1 k

/-- The event set when a condition holds. -/
def State.eventIf (s : State) (b : Bool) (x : Fld) (k : Nat := 0) : State := if b then s.event x k else s

/-- A counter raised and its event latched. -/
def State.countEv (s : State) (c e : Fld) (n : Nat := 1) : State := (s.count c n).event e

/-- Sectors that are healthy (sectors section of the architecture chapter; ARR_SECn_STATUS states 0 and 1: a suspect
sector stays in service, R149). -/
def State.healthy (s : State) (n : Nat) : Bool := decide (s.f F.ARR_SECn_STATUS_STATE n ≤ 1)

/-- The healthy sectors in number order. -/
def State.healthyList (s : State) : List Nat := (List.range 8).filter fun n => s.healthy n

/-- A number whose bit `n` is set for each `n` of a list. -/
def bitsOf (l : List Nat) : Nat := l.foldl (fun a n => setBit a n true) 0

/-- ARR_STATUS and the unit and memory counts of R23 and R24 recomputed from the sector states; SUSPECT is the home of the
suspect marks (R149, R721) and stays. -/
def State.syncSectors (s : State) : State :=
  let h := s.healthyList
  let units := h.flatMap fun n => [4 * n, 4 * n + 1, 4 * n + 2, 4 * n + 3]
  (((((s.setf F.ARR_STATUS_HEALTHY (bitsOf h)).setf
    F.ARR_STATUS_ROWS (64 * h.length)).setf F.CMP_STATUS_ENC_UP (bitsOf units)).setf
    F.CMP_STATUS_DEC_UP (bitsOf units)).setf F.MEM_STATUS_S_UP (bitsOf h)).setf F.MEM_STATUS_H_UP (bitsOf h)

/-- Exact mode is the fault contract of the active image (R52). -/
def State.exact (s : State) : Bool := s.f F.PEER_FAULT_CFG_EXACT = 1

/-- An image is active. -/
def State.imageActive (s : State) : Bool := s.f F.IMG_STATUS_ACTIVE = 1

/-- The view generation raised by one (R45). -/
def State.nextView (s : State) : State := s.setf F.GLB_VIEW_VIEW (s.f F.GLB_VIEW_VIEW + 1)

/-- The view at a Meridian or a swap of this gateway: in a constellation only commits and constellation Meridians advance
it (R45, R639). -/
def State.ownView (s : State) : State := if s.f F.CST_STATUS_MODE = 0 then s.nextView else s

/-- The kind of the message that applies a member's parts of a transaction in a view (R638). -/
def mkApply : Nat := 6

/-- The pole tells every other member the view (R639); a message of kind `mkApply` for no transaction carries it (DEDUCED). -/
def State.tellView (s : State) : State :=
  ((List.range (s.f F.CST_STATUS_MEMBERS)).filter fun m => decide (m ≠ s.f F.CST_STATUS_POSITION)).foldl
    (fun (s : State) m => s.emit (.member m mkApply 0 (beBytes 8 (s.f F.GLB_VIEW_VIEW) ++ [0]))) s

/-- The view at a commit: single, or at the pole (R45, R638, R639). -/
def State.commitView (s : State) : State :=
  if s.f F.CST_STATUS_MODE = 0 then s.nextView else if s.f F.CST_STATUS_IS_POLE = 1 then s.nextView.tellView else s

end Sys2Proof.Machine
end

