-- ==== Sys2Proof/Machine/Operands.lean ====
section
/-! DEFINITION. The operand forms: descriptors (R77), Almanac rows (R76, R79), stream contexts (R497), segment
descriptors (R189), operand headers (R135), collective entries (R233). -/

namespace Sys2Proof.Machine

/-- A descriptor (R77): tier, byte address, length in bytes. -/
structure Desc where
  tier : Nat
  addr : Nat
  len : Nat
  deriving DecidableEq, Repr

/-- The descriptor that 52 bits spell (R77). -/
def descOf (n : Nat) : Desc := ⟨n % 4, n / 4 % 2 ^ 34 * 256, (n / 2 ^ 36 % 2 ^ 16 + 1) * 256⟩

/-- `w` bits of a row from bit `lo` (R76). -/
def rowBits (r : Row256) (lo w : Nat) : Nat := r.toNat / 2 ^ lo % 2 ^ w

def rowOpcode (r : Row256) : Nat := rowBits r 0 8
def rowTrack (r : Row256) : Nat := rowBits r 8 4
def rowNextOk (r : Row256) : Nat := rowBits r 20 20
def rowNextFault (r : Row256) : Nat := rowBits r 40 20
def rowStream (r : Row256) : Nat := rowBits r 60 21
def rowColl (r : Row256) : Nat := rowBits r 81 16
def rowSrcBits (r : Row256) : Nat := rowBits r 129 52
def rowDstBits (r : Row256) : Nat := rowBits r 181 52
def rowSrc (r : Row256) : Desc := descOf (rowSrcBits r)
def rowDst (r : Row256) : Desc := descOf (rowDstBits r)
def rowSrcValid (r : Row256) : Bool := r.toNat.testBit 12
def rowDstValid (r : Row256) : Bool := r.toNat.testBit 13
def rowSerial (r : Row256) : Bool := r.toNat.testBit 14
def rowEdge (r : Row256) : Bool := r.toNat.testBit 15
def rowPpe (r : Row256) : Bool := r.toNat.testBit 16
def rowUrgent (r : Row256) : Bool := r.toNat.testBit 17
def rowMirror (r : Row256) : Bool := r.toNat.testBit 18
/-- LEVEL of a FORECAST row: SRC bits [136:129] (FORECAST section). -/
def rowLevel (r : Row256) : Nat := rowBits r 129 8
/-- Action of a CIRCUIT row: SRC bits [130:129] (R429). -/
def rowCircuitAction (r : Row256) : Nat := rowBits r 129 2

/-- The counters that a base and a 4-bit mask name (R70). -/
def tokenSet (base mask : Nat) : List Nat := ((List.range 4).filter fun i => mask.testBit i).map fun i => base + i

def rowWait (r : Row256) : List Nat := tokenSet (rowBits r 97 12) (rowBits r 109 4)
def rowPost (r : Row256) : List Nat := tokenSet (rowBits r 113 12) (rowBits r 125 4)

/-- The row with its SRC bits replaced. -/
def rowSetSrc (r : Row256) (d : Nat) : Row256 := BitVec.ofNat 256 (putBits r.toNat 129 52 d)
/-- The row with its DST bits replaced. -/
def rowSetDst (r : Row256) (d : Nat) : Row256 := BitVec.ofNat 256 (putBits r.toNat 181 52 d)

/-- Opcode numbers (R80). -/
def opHalt : Nat := 0x00
def opMove : Nat := 0x01
def opReduce : Nat := 0x02
def opFirstpass : Nat := 0x03
def opEncode : Nat := 0x04
def opDecode : Nat := 0x05
def opProject : Nat := 0x06
def opOrtho : Nat := 0x07
def opSeal : Nat := 0x08
def opOpen : Nat := 0x09
def opSend : Nat := 0x0A
def opRecv : Nat := 0x0B
def opCircuit : Nat := 0x0C
def opWait : Nat := 0x0D
def opPost : Nat := 0x0E
def opCommit : Nat := 0x0F
def opJournal : Nat := 0x10
def opForecast : Nat := 0x11

/-- The item tag (R85). -/
def itemTag (it : Item) : Nat := it.track * 2 ^ 60 + it.rowIx * 2 ^ 40 + it.step % 2 ^ 32

/-! ### Stream contexts -/

/-- A context that is not valid (R498). -/
def Ctx.invalid : Ctx :=
  { valid := false, send := false, segment := false, plain := false, decoded := false, session := 0, cls := 0,
    keySlot := 0, owner := 0, inFmt := 0, outFmt := 0, winTop := 0, expect := 0, circuit := 0, peerStream := 0,
    seg := 0, txNext := 0, rxNext := 0, route := 0, held := false, lastStep := 0, reserved := false }

def State.ctx (s : State) (i : Nat) : Ctx := (tfind i s.mem.ctx).getD Ctx.invalid

def State.setCtx (s : State) (i : Nat) (c : Ctx) : State := { s with mem := { s.mem with ctx := tput i c s.mem.ctx } }

def b2n (b : Bool) : Nat := if b then 1 else 0

/-- The 64 bytes of a context, as one number least significant byte first (R497). -/
def Ctx.nat (c : Ctx) : Nat :=
  (b2n c.valid + 2 * b2n c.send + 4 * b2n c.segment + 8 * b2n c.plain + 16 * b2n c.decoded)
  + (c.session + 32 * c.cls) * 2 ^ 8 + c.keySlot * 2 ^ 16 + c.owner * 2 ^ 24 + c.inFmt * 2 ^ 32 + c.outFmt * 2 ^ 40
  + c.winTop.toNat * 2 ^ 48 + c.expect * 2 ^ 64 + c.circuit * 2 ^ 80 + c.peerStream * 2 ^ 96 + c.seg * 2 ^ 128
  + c.txNext.toNat * 2 ^ 256 + c.rxNext.toNat * 2 ^ 288 + c.route * 2 ^ 320 + b2n c.held * 2 ^ 328
  + c.lastStep.toNat * 2 ^ 384

/-- The context that the image's bytes 0 to 31 spell, bytes 32 to 63 clear (R497, R498). -/
def Ctx.ofNat (n : Nat) : Ctx :=
  let fl (lo w : Nat) : Nat := n / 2 ^ lo % 2 ^ w
  { valid := n.testBit 0, send := n.testBit 1, segment := n.testBit 2, plain := n.testBit 3, decoded := n.testBit 4
    session := fl 8 5, cls := fl 13 3, keySlot := fl 16 8, owner := fl 24 6, inFmt := fl 32 8, outFmt := fl 40 8
    winTop := BitVec.ofNat 8 (fl 48 8), expect := fl 64 16, circuit := fl 80 16, peerStream := fl 96 21
    seg := fl 128 52, txNext := 0, rxNext := 0, route := 0, held := false, lastStep := 0
    reserved := [(5, 3), (30, 2), (56, 8), (117, 11), (180, 12), (192, 64)].any fun x => decide (fl x.1 x.2 ≠ 0) }

/-! ### Segment descriptors -/

/-- A segment descriptor (R189). -/
structure Seg where
  elems : Nat
  inFmt : Nat
  outFmt : Nat
  rate : Nat
  kind : Nat
  cbSlot : Nat
  cbBase : Desc
  base : Desc
  resid : Desc
  recon : Desc
  fixedCb : Bool
  lowrank : Bool
  hasBase : Bool
  hasResid : Bool
  hasRecon : Bool
  sample : Nat
  /-- A reserved field is not zero (R190). -/
  reserved : Bool
  deriving DecidableEq, Repr

/-- The segment descriptor that 64 bytes spell (R189). -/
def segOf (bs : List Byte) : Seg :=
  let n := leNat bs
  let fl (lo w : Nat) : Nat := n / 2 ^ lo % 2 ^ w
  { elems := fl 0 64, inFmt := fl 64 8, outFmt := fl 72 8, rate := fl 80 8, kind := fl 88 8, cbSlot := fl 96 32
    cbBase := descOf (fl 128 52), base := descOf (fl 192 52), resid := descOf (fl 256 52), recon := descOf (fl 320 52)
    fixedCb := n.testBit 384, lowrank := n.testBit 385, hasBase := n.testBit 386, hasResid := n.testBit 387
    hasRecon := n.testBit 388, sample := fl 389 3
    reserved := decide (fl 392 120 ≠ 0) || [128, 192, 256, 320].any fun o => decide (fl (o + 52) 12 ≠ 0) }

/-- The segment descriptor that a context's SEG names (R189, R497). -/
def State.seg (s : State) (c : Ctx) : Seg :=
  let d := descOf c.seg
  segOf (s.rdBytes d.tier d.addr 64)

/-- The bytes of the segment descriptor that a context names. -/
def Ctx.segDesc (c : Ctx) : Desc := { descOf c.seg with len := 64 }

/-- The size in bytes of a cblock of a rate code (R183). -/
def cblockSize : Nat → Nat
  | 0x2 => 72 | 0x3 => 104 | 0x4 => 136 | 0x6 => 200 | 0x8 => 264 | 0xF => 264 | _ => 0

/-- The magnitude bits of a rate code: k = 2^(rate − 1) levels. -/
def rateLevels (r : Nat) : Nat := 2 ^ (r - 1)

/-- Bytes of one element of a format of whole bytes. -/
def fmtSize (c : Nat) : Nat := fmtBits c / 8

/-! ### Operand headers -/

/-- The operand header of a PROJECT or ORTHO (R135). -/
structure OpHdr where
  kind : Nat
  inFmt : Nat
  otherFmt : Nat
  outFmt : Nat
  rows : Nat
  cols : Nat
  rank : Nat
  start : Nat
  other : Nat
  acc : Nat
  scales : Nat
  len : Nat
  reserved : Bool
  deriving DecidableEq, Repr

/-- The operand header that 64 bytes spell (R135). -/
def opHdrOf (bs : List Byte) : OpHdr :=
  let n := leNat bs
  let fl (lo w : Nat) : Nat := n / 2 ^ lo % 2 ^ w
  { kind := fl 0 8, inFmt := fl 8 8, otherFmt := fl 16 8, outFmt := fl 24 8, rows := fl 32 32, cols := fl 64 32
    rank := fl 96 16, start := fl 128 64, other := fl 192 52, acc := fl 256 52, scales := fl 320 52, len := fl 384 32
    reserved := decide (fl 112 16 ≠ 0) || decide (fl 244 12 ≠ 0) || decide (fl 308 12 ≠ 0) || decide (fl 372 12 ≠ 0)
      || decide (fl 416 96 ≠ 0) }

/-! ### Collective entries -/

/-- The RING as site numbers by position (R233). -/
def ringSites (ring n : Nat) : List Nat := (List.range n).map fun p => ring / 16 ^ p % 16

/-- The ring number of a list of sites. -/
def ringOf (sites : List Nat) : Nat := sites.foldr (fun x a => x + 16 * a) 0

end Sys2Proof.Machine
end

