-- ==== Sys2Proof/Machine/Buffers.lean ====
section
/-! DEFINITION. The buffer pool manager (R502 to R513): needs, grants, hand-offs and frees. -/

namespace Sys2Proof.Machine

/-- Buffer size of a size code (R502). -/
def bufSize : Nat → Nat
  | 0 => 256 | 1 => 4096 | 2 => 65536 | 3 => 2 ^ 20 | _ => 16 * 2 ^ 20

/-- The buffers a need of `b` bytes takes, by size code (R505). -/
def splitNeed (b : Nat) : List (Nat × Nat) :=
  let big := b / (16 * 2 ^ 20)
  let r := b % (16 * 2 ^ 20)
  let tail : List (Nat × Nat) :=
    if r = 0 then []
    else if r > 2 ^ 20 then [(3, (r + 2 ^ 20 - 1) / 2 ^ 20)]
    else if r ≤ 256 then [(0, 1)] else if r ≤ 4096 then [(1, 1)] else if r ≤ 65536 then [(2, 1)] else [(3, 1)]
  (if big = 0 then [] else [(4, big)]) ++ tail

/-- The pools of a need of `b` bytes in tier S (`t` = 0) or H (`t` = 1): pool 2c + t (R502). -/
def needPools (b t : Nat) : List (Nat × Nat) := (splitNeed b).map fun (c, n) => (2 * c + t, n)

def BpmState.heldIn (m : BpmState) (p : Nat) : Nat := (m.bufs.filter fun b => b.pool = p).length

def BpmState.heldBy (m : BpmState) (a p : Nat) : Nat := (m.bufs.filter fun b => b.pool = p ∧ b.account = a).length

/-- MIN and MAX of an account in a pool (R503). -/
def BpmState.limit (m : BpmState) (a p : Nat) : Nat × Nat := (tfind (16 * a + p) m.limits).getD (0, 0)

/-- Buffers that other accounts' unused MIN holds back in a pool (R507). -/
def BpmState.reservedForOthers (m : BpmState) (a p : Nat) : Nat :=
  (((List.range 64).filter fun b => b ≠ a).map fun b => (m.limit b p).1 - m.heldBy b p).sum

/-- Whether R507 lets an account take `n` buffers of a pool. -/
def State.poolAllows (s : State) (a p n : Nat) : Bool :=
  let held := s.bpm.heldBy a p
  let lim := s.bpm.limit a p
  let free := s.f F.BPM_POOLp_CFG_COUNT p - s.bpm.heldIn p
  decide (held + n ≤ lim.1) && decide (n ≤ free)
    || (decide (held + n ≤ lim.2) && decide (n + s.bpm.reservedForOthers a p ≤ free))

/-- Whether R507 grants a whole need (R506). -/
def State.needAllowed (s : State) (a : Nat) (want : List (Nat × Nat)) : Bool :=
  want.all fun (p, n) => s.poolAllows a p n

/-- Whether a need draws only on the account's reservations (R510). -/
def State.needReserved (s : State) (a : Nat) (want : List (Nat × Nat)) : Bool :=
  want.all fun (p, n) => decide (s.bpm.heldBy a p + n ≤ (s.bpm.limit a p).1)

/-- Whether a pool stands below 87.5 % occupancy (R508, R510). -/
def State.poolBelowLimit (s : State) (p : Nat) : Bool :=
  decide (s.bpm.heldIn p * 8 < 7 * s.f F.BPM_POOLp_CFG_COUNT p)

/-- The registers of a pool brought up to date with its held buffers, with the thresholds of R508. -/
def State.syncPool (s : State) (p : Nat) : State :=
  let held := s.bpm.heldIn p
  let cnt := s.f F.BPM_POOLp_CFG_COUNT p
  let warn := decide (0 < cnt) && decide (3 * cnt ≤ 4 * held)
  let bp := decide (0 < cnt) && decide (7 * cnt ≤ 8 * held)
  let s1 := (s.setf F.BPM_POOLp_USE_HELD held p).setf F.BPM_POOLp_USE_HIGH (max held (s.f F.BPM_POOLp_USE_HIGH p)) p
  let s2 := s1.eventIf (warn && !s.bit F.BPM_STATUS_WARN p) F.BPM_EVENTS_WARN
  let s3 := s2.eventIf (bp && !s.bit F.BPM_STATUS_BACKPRESSURE p) F.BPM_EVENTS_BACKPRESSURE
  (s3.putBit F.BPM_STATUS_WARN p warn).putBit F.BPM_STATUS_BACKPRESSURE p bp

def State.syncPools (s : State) (ps : List Nat) : State := ps.foldl State.syncPool s

/-- The `n` lowest free buffer indexes of a pool. DESIGN CHOICE (log entry 14): the spec does not say which. -/
def BpmState.freeIndexes (m : BpmState) (p n : Nat) : List Nat :=
  let used := (m.bufs.filter fun b => b.pool = p).map Buf.index
  ((List.range (used.length + n)).filter fun i => !used.contains i).take n

/-- A need's buffers taken for a holder and charged to an account (R511). -/
def State.takeBuffers (s : State) (h : Holder) (a : Nat) (want : List (Nat × Nat)) : State :=
  let add (m : BpmState) (pn : Nat × Nat) : BpmState :=
    { m with bufs := m.bufs ++ (m.freeIndexes pn.1 pn.2).map fun i => Buf.mk pn.1 i h a }
  ({ s with bpm := want.foldl add s.bpm }).syncPools (want.map Prod.fst)

/-- The outcome of asking for a need. -/
inductive NeedResult where
  | granted | queued | failed
  deriving DecidableEq, Repr

/-- The queue's counts per pool (BPM_POOLp_QUEUE). -/
def State.syncQueue (s : State) : State :=
  (List.range 10).foldl (fun s p =>
    let n := (s.bpm.queue.filter fun q => q.want.any fun w => w.1 = p).length
    let hd := match s.bpm.queue with | q :: _ => q.want.any fun w => w.1 = p | [] => false
    (s.setf F.BPM_POOLp_QUEUE_WAITING n p).setf F.BPM_POOLp_QUEUE_HEAD (b2n hd) p) s

/-- A need asked for (R505 to R510): granted at once, queued, or refused with FAILED_POOL_EMPTY. -/
def State.askNeed (s : State) (h : Holder) (a bytes t : Nat) : NeedResult × State :=
  let want := needPools bytes t
  if want = [] then (.granted, s)
  else if s.f F.BPM_STATUS_HOLD_MODE = 1 then
    if s.needReserved a want && s.needAllowed a want then (.granted, s.takeBuffers h a want)
    else
      (.queued, (({ s with bpm := { s.bpm with queue := s.bpm.queue ++ [Need.mk h a want] } }).countEv
        F.BPM_QUEUED_COUNT F.BPM_EVENTS_QUEUED).syncQueue)
  else if s.needAllowed a want then (.granted, s.takeBuffers h a want)
  else (.failed, s.countEv F.BPM_EMPTY_COUNT F.BPM_EVENTS_EMPTY)

/-- Every buffer a holder holds freed, and its queued need withdrawn (R510, R513). -/
def State.freeHolder (s : State) (h : Holder) : State :=
  let ps := ((s.bpm.bufs.filter fun b => b.holder = h).map Buf.pool).dedup
  (({ s with bpm := { s.bpm with
      bufs := s.bpm.bufs.filter fun b => !decide (b.holder = h)
      queue := s.bpm.queue.filter fun q => !decide (q.holder = h) } }).syncPools ps).syncQueue

/-- Whether the head of the queue can be granted (R510). -/
def State.headGrantable (s : State) : Bool :=
  match s.bpm.queue with
  | [] => false
  | q :: _ => s.needAllowed q.account q.want && q.want.all fun w => s.poolBelowLimit w.1

/-- The head of the queue granted when R510 allows it. -/
def State.grantHead (s : State) : State :=
  match s.bpm.queue with
  | [] => s
  | q :: rest =>
    if s.headGrantable then
      let s1 := ({ s with bpm := { s.bpm with queue := rest } }).takeBuffers q.holder q.account q.want
      let s2 : State := match q.holder with
        | .item id => { s1 with seq := { s1.seq with
            items := lmodify (fun it => it.id = id) (fun it => { it with needQueued := false }) s1.seq.items } }
        | .account _ => s1
      s2.syncQueue
    else s

/-- BUFFER_HANDOFF (R511): the holder of a buffer names its new holder; the charged account stays. A hand-off by any
other party changes nothing. -/
def execBufferHandoff (pool index : Nat) (old new : Holder) (s : State) : Host.Outcome State Fault Refusal :=
  .next { s with bpm := { s.bpm with
    bufs := s.bpm.bufs.map fun b => if b.pool = pool ∧ b.index = index ∧ b.holder = old then { b with holder := new } else b } }

/-- BUFFER_FREE (R512): freed by the holder named last, refused and counted otherwise. -/
def execBufferFree (pool index : Nat) (by_ : Holder) (s : State) : Host.Outcome State Fault Refusal :=
  if s.bpm.bufs.any fun b => b.pool = pool ∧ b.index = index ∧ b.holder = by_ then
    .next (({ s with bpm := { s.bpm with
      bufs := s.bpm.bufs.filter fun b => !decide (b.pool = pool ∧ b.index = index ∧ b.holder = by_) } }).syncPool pool)
  else
    let acct := match s.bpm.bufs.find? fun b => b.pool = pool ∧ b.index = index with
      | some b => b.account
      | none => match by_ with | .account a => a | .item _ => 0
    .next ((((s.countEv F.BPM_BAD_FREE_COUNT F.BPM_EVENTS_BAD_FREE).setf F.BPM_LAST_BAD_INDEX index).setf
      F.BPM_LAST_BAD_POOL pool).setf F.BPM_LAST_BAD_ACCOUNT acct)

end Sys2Proof.Machine
end

