-- ==== Sys2Proof/Machine/Pages.lean ====
section
/-! DEFINITION. The pages of tiers S and H (R479 to R484): the loss of a sector's copies, the remap onto secondaries or
zeroed pages, and the search for new secondaries. -/

namespace Sys2Proof.Machine

/-- The compute base die of a sector or of its stack (R22, R479). -/
def baseDie (n : Nat) : Nat := n / 2

/-- The key of the page of tier S or H that holds an address. -/
def pageKey (tier addr : Nat) : Nat := tier * 2 ^ 32 + addr / pageSize

/-- The first byte key of a page in memory. -/
def pageCell (k : Nat) : Nat := memKey (k / 2 ^ 32) (k % 2 ^ 32 * pageSize)

/-- The key of an area of tier H that the gateway mirrors by itself (R26, R478). -/
def areaKey (a : Nat) : Nat := 2 ^ 40 + a

/-- The tier of a page or area. -/
def pageTier (k : Nat) : Nat := if areaKey 0 ≤ k then 1 else k / 2 ^ 32

/-- Pages of 2 MiB that an entry of the page table stands for: of an area, its size (R289, R478). -/
def State.pageSpan (s : State) (k : Nat) : Nat :=
  let a := k - areaKey 0
  if k < areaKey 0 then 1
  else if a = 0 then 64 else if a = 1 ∨ a = 2 then 32 else if a = 3 then 1
  else match tfind ((a - 16) / 2) s.conf.sess with
    | some c => ((if a % 2 = 0 then c.replayA else c.replayB) + pageSize - 1) / pageSize
    | none => 0

/-- Pages of a tier that one sector or stack holds (R7, R479). -/
def sectorPages (tier : Nat) : Nat := if tier = 0 then 1024 else 32768

/-- Whether a page has its second copy whole (R482). -/
def State.copied (s : State) (k : Nat) (p : Page) : Bool := p.secondary.isSome && !s.mem.remirroring.contains k

/-- Copies of pages of a tier that lie in sector or stack `n`. -/
def State.pagesIn (s : State) (tier n : Nat) : Nat :=
  ((s.mem.pages.filter fun e => pageTier e.1 = tier ∧ (e.2.primary = n ∨ e.2.secondary = some n)).map fun e => s.pageSpan e.1).sum

/-- The lowest-numbered healthy sector or stack with room for the page or area `k` that a test admits (R481, R482). -/
def State.freeSector (s : State) (k : Nat) (ok : Nat → Bool) : Option Nat :=
  s.healthyList.find? fun n => ok n && decide (s.pagesIn (pageTier k) n + s.pageSpan k ≤ sectorPages (pageTier k))

/-- A page filled with zeros and lost until every byte of it is written again (R28, R483). -/
def MemState.losePage (m : MemState) (k : Nat) : MemState :=
  { m with
    cells := m.cells.filter fun c => decide (c.1 < pageCell k) || decide (pageCell k + pageSize ≤ c.1)
    poison := m.poison.filter fun w => decide (w * 8 < pageCell k) || decide (pageCell k + pageSize ≤ w * 8)
    lost := tput (pageCell k / pageSize) [(pageCell k, pageSize)] m.lost }

/-- Staging whose freed shadow copy (R25) leaves nothing behind when its home is lost: its bytes read zero. -/
def MemState.dropFreed (m : MemState) (k : Nat) : MemState :=
  let mine := m.unshadowed.filter fun r => rangesMeet [r] (pageCell k) pageSize
  { m with cells := m.cells.filter fun c => !(decide (pageCell k ≤ c.1) && decide (c.1 < pageCell k + pageSize) && rangesMeet mine c.1 1) }

/-- The copies in sector `n` gone: a page without another whole copy is lost (R28, R483). An area of the gateway's own keeps its
contents even when both copies go (DESIGN CHOICE, log entry 88). -/
def State.loseSector (s : State) (n : Nat) : State :=
  let mine := s.mem.pages.filter fun e => e.2.primary = n ∧ e.1 < areaKey 0
  let gone := mine.filter fun e => !s.copied e.1 e.2
  let kept := mine.filter fun e => s.copied e.1 e.2
  { s with mem := (gone.map Prod.fst).foldl MemState.losePage ((kept.map Prod.fst).foldl MemState.dropFreed s.mem) }

/-- A page after the loss of sector `n` (R481): its secondary becomes its primary, or it lies on a fresh page. -/
def State.remapPage (s : State) (n k : Nat) (p : Page) : Page :=
  if p.primary = n then
    match p.secondary with
    | some m =>
      if s.mem.remirroring.contains k then { p with primary := (s.freeSector k fun _ => true).getD m, secondary := none }
      else { p with primary := m, secondary := none }
    | none => { p with primary := (s.freeSector k fun _ => true).getD n }
  else if p.secondary = some n then { p with secondary := none }
  else p

def State.setPage (s : State) (k : Nat) (p : Page) : State := { s with mem := { s.mem with pages := tput k p s.mem.pages } }

/-- A list of page keys being copied, with the status bit of R482. -/
def State.setRemirroring (s : State) (ks : List Nat) : State :=
  ({ s with mem := { s.mem with remirroring := ks } }).setf F.MEM_STATUS_REMIRRORING (if ks = [] then 0 else 1)

/-- A mirrored page without a secondary given one (R482), or REMIRROR_SHORT. -/
def State.remirrorPage (s : State) (k : Nat) : State :=
  match tfind k s.mem.pages with
  | none => s
  | some p =>
    if p.mirrored && p.secondary.isNone then
      match s.freeSector k fun n => decide (baseDie n ≠ baseDie p.primary) with
      | some n => (s.setPage k { p with secondary := some n }).setRemirroring (s.mem.remirroring ++ [k])
      | none => s.event F.MEM_EVENTS_REMIRROR_SHORT
    else s

/-- New secondaries for every page that lacks one (R482, R484). -/
def State.remirror (s : State) : State := (s.mem.pages.map Prod.fst).foldl State.remirrorPage s

/-- The remap of the pages of sector `n` (R481), then new secondaries (R482). -/
def State.remapSector (s : State) (n : Nat) : State :=
  let hit := s.mem.pages.filter fun e => e.2.primary = n ∨ e.2.secondary = some n
  let s1 := hit.foldl (fun s e => s.setPage e.1 (s.remapPage n e.1 e.2)) s
  let s2 := s1.setRemirroring (s1.mem.remirroring.filter fun k => !(hit.map Prod.fst).contains k)
  (s2.eventIf (hit.any fun e => e.2.primary = n) F.MEM_EVENTS_REMAPPED).remirror

/-! ### Pages placed by the gateway -/

/-- The areas of R26 and R478 that an active image has: the tables, and the replay areas of its sessions. -/
def State.areaKeys (s : State) : List Nat :=
  ([0, 1, 2, 3] ++ s.conf.sess.flatMap fun (e : Nat × SessConf) => [16 + 2 * e.1, 17 + 2 * e.1]).map areaKey

/-- An area placed on the lowest-numbered healthy stack with room and mirrored on the lowest-numbered one of another base die
(R26; which stacks: DESIGN CHOICE, log entry 88). -/
def State.placeArea (s : State) (k : Nat) : State :=
  match s.freeSector k fun _ => true with
  | none => s
  | some n => s.setPage k { primary := n, secondary := s.freeSector k fun m => decide (baseDie m ≠ baseDie n), mirrored := true }

/-- The pages of tiers S and H that a descriptor touches. -/
def Desc.pages (d : Desc) : List Nat :=
  if d.tier ≤ 1 then (List.range ((d.addr + d.len - 1) / pageSize + 1 - d.addr / pageSize)).map fun i => pageKey d.tier d.addr + i else []

/-- A page of an error-feedback residual mirrored in exact mode (R27) like the pages of R26. -/
def State.mirrorPage (s : State) (k : Nat) : State :=
  match tfind k s.mem.pages with
  | some p =>
    if p.secondary.isSome then s
    else s.setPage k { p with secondary := s.freeSector k fun m => decide (baseDie m ≠ baseDie p.primary), mirrored := true }
  | none => s

/-- The RESID regions of the declared streams. -/
def State.residDescs (s : State) : List Desc :=
  (s.mem.ctx.filter fun kv => kv.2.valid && kv.2.segment && (s.seg kv.2).hasResid).map fun kv => (s.seg kv.2).resid

/-- The pages of the RESID regions of the declared streams. -/
def State.residPages (s : State) : List Nat := (s.residDescs.flatMap Desc.pages).dedup

/-- What the gateway mirrors without a mark in the image (R26, R27). -/
def State.mirrorOwn (s : State) : State :=
  let s1 := s.areaKeys.foldl State.placeArea s
  if s1.exact then s1.residPages.foldl State.mirrorPage s1 else s1

end Sys2Proof.Machine
end

