-- ==== Sys2Proof/Machine/Items.lean ====
section
/-! DEFINITION. Items and tracks: tokens (R70, R71), issue and end of an item (R60 to R64, R66 to R69, R75, R81 to R85),
retraction of an item's additions (R129), ad hoc instances' ends (R253). -/

namespace Sys2Proof.Machine

/-! ### Tokens and tracks -/

def State.token (s : State) (i : Nat) : Nat := s.f F.SEQ_TOKEN_COUNT i

/-- The kind that a token post between members of a constellation carries. -/
def mkToken : Nat := 9

/-- The member that owns a constellation token (R646), when another member does. -/
def State.tokenOwner (s : State) (i : Nat) : Option Nat :=
  let m := (i - 3840) / 32
  if s.f F.CST_STATUS_MODE = 1 ∧ 3840 ≤ i ∧ m ≠ s.f F.CST_STATUS_POSITION then some m else none

/-- One added to a token counter of this gateway, saturating (R70, R71). -/
def State.addToken (s : State) (i : Nat) : State :=
  (s.setf F.SEQ_TOKEN_COUNT (satAdd (s.token i) 1) i).eventIf (decide (s.token i + 1 ≥ satMax)) F.SEQ_EVENTS_TOKEN_SAT

/-- A post to a token counter (R70, R71); one that another member owns goes to it with the swap count (R647). -/
def State.postToken (s : State) (i : Nat) : State :=
  match s.tokenOwner i with
  | some m => s.emit (.member m mkToken i (beBytes 8 s.cst.swaps))
  | none => s.addToken i

def State.postTokens (s : State) (l : List Nat) : State := l.foldl State.postToken s

/-- One taken from every counter of a wait set (R66). -/
def State.takeTokens (s : State) (l : List Nat) : State :=
  l.foldl (fun s i => s.setf F.SEQ_TOKEN_COUNT (s.token i - 1) i) s

/-- Whether every counter of a wait set holds at least one (R66). -/
def State.tokensReady (s : State) (l : List Nat) : Bool := l.all fun i => decide (1 ≤ s.token i)

/-- Every token counter set to zero (R72). -/
def State.clearTokens (s : State) : State :=
  { s with regs := s.regs.filter fun kv => decide (kv.1 < 0x120000) || decide (0x128000 ≤ kv.1) }

/-- Track states (SEQ_TKn_STATUS.STATE). -/
def tkIdle : Nat := 0
def tkRunning : Nat := 1
def tkWaiting : Nat := 2
def tkParked : Nat := 3
def tkHalted : Nat := 4
def tkDraining : Nat := 5
def tkDark : Nat := 6

def State.track (s : State) (n : Nat) : Nat := s.f F.SEQ_TKn_STATUS_STATE n
def State.setTrack (s : State) (n st : Nat) : State := s.setf F.SEQ_TKn_STATUS_STATE st n
def State.cursor (s : State) (n : Nat) : Nat := s.f F.SEQ_TKn_STATUS_CURSOR n
def State.trackStep (s : State) (n : Nat) : Nat := s.f F.SEQ_TKn_STEP_STEP n

/-- A track's cursor moved: it waits on no tokens of its new row yet (R74). -/
def State.setCursor (s : State) (n row : Nat) : State :=
  let s1 := s.setf F.SEQ_TKn_STATUS_CURSOR row n
  { s1 with seq := { s1.seq with waitAt := tdel n s1.seq.waitAt } }

/-- The row of the active set (R76); an absent row is all zeros. -/
def State.activeRow (s : State) (i : Nat) : Row256 := (tfind i s.seq.active).getD 0

/-- The planned items of a track in flight. -/
def State.trackItems (s : State) (n : Nat) : List Item := s.seq.items.filter fun it => it.track = n ∧ it.adhoc = none

/-- IN_FLIGHT of a track and the sequencer's idle flags brought up to date. -/
def State.syncTrack (s : State) (n : Nat) : State :=
  let c := (s.trackItems n).length
  let s1 := (s.setf F.SEQ_TKn_STATUS_IN_FLIGHT c n).putBit F.SEQ_STATUS_TK_BUSY n (decide (0 < c))
  let idle := s1.seq.items.isEmpty &&
    (List.range 16).all fun t => decide (s1.track t = tkIdle) || decide (s1.track t = tkHalted)
  s1.setf F.SEQ_STATUS_IDLE (b2n idle)

def State.syncTracks (s : State) : State := (List.range 16).foldl State.syncTrack s

def State.item (s : State) (id : Nat) : Option Item := s.seq.items.find? fun it => it.id = id

def State.updItem (s : State) (id : Nat) (g : Item → Item) : State :=
  { s with seq := { s.seq with items := lmodify (fun it => it.id = id) g s.seq.items } }

/-! ### Retraction -/

/-- The key of an accumulator entry of a stream. -/
def accKey (stream e : Nat) : Nat := stream * 2 ^ 24 + e

/-- A stream's accumulator region clear: its entries gone and no latched WIN_TOP (R121, R126). -/
def ArrState.clearAcc (a : ArrState) (stream : Nat) : ArrState :=
  { a with
    acc := a.acc.filter fun kv => decide (kv.1 / 2 ^ 24 ≠ stream)
    winTop := tdel stream a.winTop
    home := tdel stream a.home
    chunk := tdel stream a.chunk }

/-- The values of a REDUCE's source. -/
def State.reduceVals (s : State) (it : Item) : List Val :=
  let d := rowSrc it.row
  decodeElems (s.ctx (rowStream it.row)).inFmt (s.rdBytes d.tier d.addr d.len)

/-- The conversion into the layout of a stream's accumulators (R118, R119, R121). -/
def State.laneConv (s : State) (stream : Nat) : Dy → LaneIn :=
  let fmt := (s.ctx stream).inFmt
  if fmt = 0 ∨ fmtIsMx fmt then
    toWindow ((tfind stream s.arr.winTop).getD (s.ctx stream).winTop.toInt)
  else toFixed

/-- A list of values folded into a stream's entries from element `e` upward, or retracted with `sign` −1 (R123, R129). -/
def foldVals (conv : Dy → LaneIn) (sign : Int) (stream : Nat) : Nat → List Val → Tab Entry → Tab Entry
  | _, [], t => t
  | e, v :: vs, t =>
    let k := accKey stream e
    foldVals conv sign stream (e + 1) vs
      (tset (fun _ => Entry.zero) t k ((tget (fun _ => Entry.zero) t k).fold conv sign v))

/-- Phase of a REDUCE of a one-site group that had nothing to add and waits for its count (R125, R268). -/
def phAbsent : Nat := 5

/-- A REDUCE has added its elements (R124, R129). -/
def Item.added (it : Item) : Bool := decide (rowOpcode it.row = opReduce) && decide (1 ≤ it.phase) && decide (it.phase ≠ phAbsent)

/-- The home and the shadow of a REDUCE's source (R25, R116): the sectors of its page of tier S, and where the image declares none,
those that the command names. -/
def State.homeSector (s : State) (it : Item) (fx : Fx) : Nat × Nat :=
  let d := rowSrc it.row
  match (if d.tier = 0 then tfind (pageKey 0 d.addr) s.mem.pages else none) with
  | some p => (p.primary, p.secondary.getD fx.shadow)
  | none => (fx.sector, fx.shadow)

/-- Elements that a sector's lanes have worked on counted (ARR_SECn_LANE_OPS); 0xFF names no sector. -/
def State.laneOps (s : State) (sector n : Nat) : State := if sector < 8 then s.count F.ARR_SECn_LANE_OPS_COUNT n sector else s

/-- The additions of a REDUCE undone by the lanes of its home (R129). -/
def State.retract (s : State) (it : Item) : State :=
  let stream := rowStream it.row
  let vals := s.reduceVals it
  let acc := foldVals (s.laneConv stream) (-1) stream 0 vals s.arr.acc
  let empty := (acc.filter fun kv => decide (kv.1 / 2 ^ 24 = stream)).isEmpty
  ({ s with arr := { s.arr with acc := acc, winTop := if empty then tdel stream s.arr.winTop else s.arr.winTop } }).laneOps
    (((tfind stream s.arr.home).map Prod.fst).getD 0xFF) vals.length

/-! ### The level of the array -/

/-- The array is held under the cap of R730 or R746. -/
def State.capped (s : State) : Bool := decide (s.f F.PWR_STATUS_CURRENT_CAP = 1) || decide (s.f F.PWR_STATUS_THERM_CAP = 1)

/-- The level the array runs at: the item's, held under the caps of R730 and R746. -/
def State.runLevel (s : State) (level : Nat) : Nat := if s.capped then min level (s.f F.PWR_LIMIT_LEVEL_CAP) else level

/-- How many of the `h` healthy sectors have changed to the level of the ramp in progress (R153, R154): the starts are spread evenly
over ARR_RAMP.TIME, and each sector takes one share of it. -/
def State.sectorsRamped (s : State) : Nat :=
  let h := s.healthyList.length
  if s.f F.ARR_RAMP_TIME = 0 then h else min h ((s.now - s.arr.rampAt) * h / s.f F.ARR_RAMP_TIME)

/-- The level that sector `n` runs at (R153, R154): a rising array brings its healthy sectors up in sector order, a falling one lowers
them in the reverse order. A sector in the middle of its share still counts as at its old level (DESIGN CHOICE, log entry 92). -/
def State.sectorLevel (s : State) (n : Nat) : Nat :=
  let h := s.healthyList
  let k := h.findIdx fun m => m = n
  let place := if s.arr.prev ≤ s.arr.level then k else h.length - 1 - k
  if h.contains n then (if place < s.sectorsRamped then s.arr.level else s.arr.prev) else 0

/-- The level that the array runs at as a whole: the mean over its healthy sectors (log entry 92). -/
def State.levelNow (s : State) : Nat := (s.healthyList.map s.sectorLevel).sum / max 1 s.healthyList.length

/-- The array changes its level; a ramp begins (R153, R154). -/
def State.rampTo (s : State) (level : Nat) : State :=
  let l := s.runLevel level
  if l = s.arr.level then s
  else ({ s with arr := { s.arr with prev := s.levelNow, level := l, rampAt := s.now } }).setf F.SEQ_FORECAST_APPLIED l

/-- Whether a row runs on the array (R131): PROJECT without PPE, and ORTHO. -/
def rowOnArray (r : Row256) : Bool :=
  (decide (rowOpcode r = opProject) && !rowPpe r) || decide (rowOpcode r = opOrtho)

/-! ### Ad hoc instances -/

/-- Bytes of the ad hoc pool: ADHOC's MAX times the buffer size over the tier S pools (section after R504). -/
def State.adhocPool (s : State) : Nat :=
  ((List.range 5).map fun c => (s.bpm.limit 1 (2 * c)).2 * bufSize c).sum

/-- Bytes claimed by admitted instances (R253). -/
def State.adhocClaimed (s : State) : Nat := (s.col.running.map AdHoc.claim).sum

/-- COL_STATUS and COL_ADHOC_POOL brought up to date; the thresholds of R256 set their events. -/
def State.syncAdhoc (s : State) : State :=
  let claimed := s.adhocClaimed
  let pool := s.adhocPool
  let warn := decide (0 < pool) && decide (4 * claimed ≥ 3 * pool)
  let bp := decide (0 < pool) && decide (8 * claimed ≥ 7 * pool)
  let s1 := (s.eventIf (warn && s.f F.COL_STATUS_WARN = 0) F.COL_EVENTS_WARN).eventIf
    (bp && s.f F.COL_STATUS_BACKPRESSURE = 0) F.COL_EVENTS_BACKPRESSURE
  (((((s1.setf F.COL_STATUS_WARN (b2n warn)).setf F.COL_STATUS_BACKPRESSURE (b2n bp)).setf
    F.COL_STATUS_ADHOC_RUNNING s.col.running.length).setf F.COL_STATUS_HELD s.col.held.length).setf
    F.COL_ADHOC_POOL_SIZE (pool / 2 ^ 20)).setf F.COL_ADHOC_POOL_CLAIMED ((claimed + 2 ^ 20 - 1) / 2 ^ 20)

/-- Kind of the message that carries event records to the pole (R642). -/
def mkEvents : Nat := 8

/-- A member of a constellation that is not its pole. -/
def State.cstMember (s : State) : Bool := decide (s.f F.CST_STATUS_MODE ≠ 0) && decide (s.f F.CST_STATUS_IS_POLE = 0)

/-- The 32 bytes of a record of an EVENT message (R624). -/
def EvRec.bytes (r : EvRec) : List Byte :=
  beBytes 1 (if r.completion then 2 else 1) ++ beBytes 1 r.status ++ beBytes 2 r.source ++ beBytes 4 0 ++ beBytes 8 r.count
  ++ beBytes 8 r.tag ++ beBytes 8 r.time

/-- A record added to a list: an event of a source already there adds to its count (R622, R643). -/
def addRec (l : List EvRec) (r : EvRec) : List EvRec :=
  if !r.completion && l.any (fun x => !x.completion && decide (x.source = r.source)) then
    lmodify (fun x => !x.completion && decide (x.source = r.source)) (fun x => { x with count := satAdd x.count r.count }) l
  else l ++ [r]

def State.syncHeld (s : State) : State := s.setf F.CST_HELD_RECORDS s.cst.held.length

/-- A record for the pole held for a channel (R643). -/
def State.holdRec (s : State) (channel : Nat) (r : EvRec) : State :=
  let mine := (s.cst.held.filter fun e => e.1 = channel).map Prod.snd
  if (addRec mine r).length = mine.length then
    let same (e : Nat × EvRec) : Bool := decide (e.1 = channel) && !e.2.completion && decide (e.2.source = r.source)
    let more (e : Nat × EvRec) : Nat × EvRec := (e.1, { e.2 with count := satAdd e.2.count r.count })
    { s with cst := { s.cst with held := lmodify same more s.cst.held } }
  else ({ s with cst := { s.cst with held := s.cst.held ++ [(channel, r)] } }).syncHeld

/-- Held records sent to the pole while a route reaches it (R642, R643). -/
def State.flushHeld (s : State) : State :=
  if s.cst.held = [] then s
  else if s.bit F.CST_UNREACHABLE_POSITIONS (s.f F.CST_STATUS_POLE) then s.event F.CST_EVENTS_EVENTS_HELD
  else
    let body := s.cst.held.flatMap fun e => beBytes 1 e.1 ++ e.2.bytes
    (({ s with cst := { s.cst with held := [] } }).syncHeld).emit (.member (s.f F.CST_STATUS_POLE) mkEvents 0 body)

/-- A completion record put on a host channel (R613, R626). -/
def State.completion (s : State) (channel : Nat) (st : Status) (id : Nat) : State :=
  let r : EvRec := { completion := true, status := st.code, source := 0, count := 0, tag := id, time := s.tb3 }
  if s.cstMember then (s.holdRec channel r).flushHeld else
  { s with evt := { s.evt with
    completions := tput channel ((tfind channel s.evt.completions).getD [] ++ [r]) s.evt.completions } }

/-- The number of an instance of an ad hoc collective, apart from every step. -/
def adhocInst (id : Nat) : Nat := 2 ^ 64 + id

/-- An ad hoc instance ended: claim released, counted, completion record sent (R253, R613). -/
def State.endInstance (s : State) (a : AdHoc) : State :=
  let st := a.outcome
  let s1 : State := { s with col := { s.col with
    running := s.col.running.filter fun b => b.id ≠ a.id
    waiting := s.col.waiting.filter fun w => w.inst ≠ adhocInst a.id } }
  let s2 := if st.ok then s1.count F.COL_INSTANCES_COUNT else s1.count F.COL_FAILED_COUNT
  (s2.completion a.channel st a.id).syncAdhoc

/-- What is reported of a piece of work when a further part of it ends (R60): its first failure, else a degradation before a
re-send. -/
def Status.join (old st : Status) : Status :=
  if !old.ok then old else if !st.ok then st
  else if old = .doneDegraded ∨ st = .doneDegraded then .doneDegraded
  else if old = .doneResent ∨ st = .doneResent then .doneResent else .done

/-- What the end of an item does to its ad hoc instance. -/
def State.adhocItemEnded (s : State) (id : Nat) (st : Status) : State :=
  let note (a : AdHoc) : AdHoc := { a with outcome := a.outcome.join st }
  let s1 : State := { s with col := { s.col with running := lmodify (fun a => a.id = id) note s.col.running } }
  if s1.seq.items.any fun it => it.adhoc = some id then s1
  else match s1.col.running.find? fun a => a.id = id with
    | some a => s1.endInstance a
    | none => s1

/-! ### Checksum records of DECODE items -/

/-- A DECODE's record goes once no item in flight reads its region any more (R142; log entry 17). -/
def State.dropDecRec (s : State) (it : Item) : State :=
  if rowSrcValid it.row && !(s.seq.items.any fun j => rowSrcBits j.row = rowSrcBits it.row) then
    { s with arr := { s.arr with decRecs := s.arr.decRecs.filter fun r => r.dst ≠ rowSrcBits it.row } }
  else s

/-- The part of an OPEN's records of staging that a range leaves. -/
def OpenRec.cut (d : Desc) (o : OpenRec) : List OpenRec :=
  (rangesCut [(memKey o.tier o.addr, o.len)] (memKey d.tier d.addr) d.len).map fun r => { o with addr := r.1 - memKey o.tier 0, len := r.2 }

/-- An ended DECODE frees the cblocks that an OPEN had delivered into its staging (R226), and the records of that staging end with the
last DECODE in flight that reads it (R230). -/
def State.unpinDelivered (s : State) (it : Item) : State :=
  if rowOpcode it.row = opDecode then
    let d := rowSrc it.row
    let key := memKey d.tier d.addr
    let shared := s.seq.items.any fun j => decide (rowOpcode j.row = opDecode) && decide ((rowSrc j.row).tier = d.tier) &&
      rangesMeet [((rowSrc j.row).addr, (rowSrc j.row).len)] d.addr d.len
    { s with cmp := { s.cmp with
        delivered := s.cmp.delivered.filter fun x => !(decide (key ≤ x.2.2) && decide (x.2.2 < key + d.len))
        opens := if shared then s.cmp.opens else s.cmp.opens.flatMap (OpenRec.cut d)
        asked := s.cmp.asked.filter fun x => x.1 ≠ it.id } }
  else s

/-- PINS of a generation (R219, R226): the items in flight that name it, and the cblocks of it that were delivered. -/
def State.bookPins (s : State) (slot gen : Nat) : Nat :=
  (s.seq.items.filter fun it => it.books.contains (slot, gen)).length +
    (s.cmp.delivered.filter fun x => x.1 = slot ∧ x.2.1 = gen).length

/-- Codebook generations that R325 retires go as soon as nothing pins them. -/
def State.sweepDoomed (s : State) : State :=
  let one (e : Nat × Book) : Nat × Book :=
    if e.2.doomed ∧ e.2.live ∧ s.bookPins (e.1 / 2) e.2.gen = 0 then (e.1, { e.2 with live := false, current := false, doomed := false }) else e
  { s with cmp := { s.cmp with
      books := s.cmp.books.map one, displaced := s.cmp.displaced.filter fun d => decide (0 < s.bookPins d.1 d.2.gen) } }

/-! ### The photonic engine at rest -/

/-- The engine between bands: ready or FAILED, or in the quick calibration that is due (R174 to R176). -/
def State.ppeRest (s : State) : State :=
  if s.ppe.calDue then
    ({ s with ppe := { s.ppe with integrating := false, calDue := false, cal := some (.quick, s.now) } }).setf
      F.PPE_STATUS_STATE 2
  else
    ({ s with ppe := { s.ppe with integrating := false } }).setf F.PPE_STATUS_STATE (if s.ppe.failed then 5 else 0)

/-- The engine lets go of an item that ended (R165: what it had to fold is dropped). -/
def State.ppeRelease (s : State) (id : Nat) : State :=
  let s0 : State := { s with ppe := { s.ppe with held := tdel id s.ppe.held } }
  if s.ppe.item = some id then
    let s1 : State := { s0 with ppe := { s0.ppe with item := none, folds := [], mismatches := 0, begun := false } }
    if s.f F.PPE_STATUS_STATE = 1 ∨ s.f F.PPE_STATUS_STATE = 4 then s1.ppeRest else s1
  else s0

/-! ### The end of an item -/

/-- The status an item ends with when its commit point is reached: the first degradation in table order (R60, R308). -/
def Item.okStatus (it : Item) : Status :=
  if it.degraded then .doneDegraded else if it.resent then .doneResent else .done

/-- The completion record of an ended item (R84, R85). -/
def State.record (s : State) (it : Item) (st : Status) (sector : Nat) : State :=
  let c := s.f F.SEQ_TKn_DONE_COUNT it.track
  let k := it.track * 1024 + c % 1024
  let s1 := (((s.setf F.SEQ_RING_A_TAG (itemTag it) k).setf F.SEQ_RING_B_STATUS st.code k).setf
    F.SEQ_RING_B_SECTOR sector k).setf F.SEQ_RING_B_TIME (s.tb3 % 2 ^ 32) k
  let s2 := s1.count F.SEQ_TKn_DONE_COUNT 1 it.track
  if st.ok then s2
  else ((s2.count F.SEQ_TKn_FAILED_COUNT 1 it.track).setf F.SEQ_TKn_LAST_FAIL_TAG (itemTag it) it.track).event
    F.SEQ_EVENTS_ITEM_FAILED

/-- A track enters PARKED (R100). DESIGN CHOICE (log entry 84): a track that is HALTED, DRAINING or DARK keeps its state, and
parks at the next EDGE item that it ends well once it runs again. -/
def State.parkTrack (s : State) (n : Nat) : State :=
  if s.track n = tkHalted ∨ s.track n = tkDraining ∨ s.track n = tkDark then s else s.setTrack n tkParked

/-- What the good end of an EDGE item does to its track's step and state (R75, R100, R104). -/
def State.edgeEnded (s : State) (n : Nat) : State :=
  let step := s.trackStep n
  if s.seq.swap = some .step then
    let w := s.f F.SEQ_SWAP_STEP_STEP
    if step = w then (s.setf F.SEQ_TKn_STEP_STEP (step + 1) n).parkTrack n
    else if step = w + 1 then s.parkTrack n
    else s.setf F.SEQ_TKn_STEP_STEP (step + 1) n
  else s.setf F.SEQ_TKn_STEP_STEP (step + 1) n

/-- Whether a track is in Twilight (R677). -/
def State.trackTwilight (s : State) (n : Nat) : Bool := decide (s.track n = tkDraining) || decide (s.track n = tkDark)

/-- The NEXT_FAULT that a track's failures give it: that of the earliest-issued failing item (R69). -/
def State.noteFault (s : State) (it : Item) : State :=
  let keep := match tfind it.track s.seq.faultTo with
    | some (id, _) => decide (id ≤ it.id)
    | none => false
  if keep then s
  else { s with seq := { s.seq with faultTo := tput it.track (it.id, rowNextFault it.row) s.seq.faultTo } }

/-- A track whose failures' other items have all ended takes its NEXT_FAULT row (R69); a parked track leaves PARKED
(R104). -/
def State.settleFault (s : State) (n : Nat) : State :=
  match tfind n s.seq.faultTo with
  | none => s
  | some (_, row) =>
    if (s.trackItems n).isEmpty then
      let s1 : State := { s with seq := { s.seq with faultTo := tdel n s.seq.faultTo } }
      if s1.trackTwilight n then s1
      else
        let s2 := s1.setCursor n row
        if s2.track n = tkParked then s2.setTrack n tkRunning else s2
    else s

/-- The planned collective entry a row names, if any (R76, R106). -/
def rowEntry (r : Row256) : Option Nat :=
  if rowOpcode r = opHalt ∨ opWait ≤ rowOpcode r ∧ rowOpcode r ≠ opJournal ∨ rowColl r = 0xFFFF then none
  else some (rowColl r)

/-- A row of a collective whose group has one site left: its instances complete locally (R268). -/
def State.solo (s : State) (r : Row256) : Bool :=
  match rowEntry r with
  | some c => decide (s.f F.COL_ENTRY_A_SITES c = 1)
  | none => false

/-- A planned item that ended from 0x10 to 0x2F marks its collective's current instance failed (COL_FAILED). -/
def State.noteCollFail (s : State) (it : Item) (st : Status) : State :=
  match rowEntry it.row with
  | some c =>
    if st.ok ∨ s.col.failed.contains c then s else { s with col := { s.col with failed := c :: s.col.failed } }
  | none => s

/-- What the end of a planned item does to its track's cursor (R67 to R69, R75); a status written while the track is DRAINING
or DARK moves none (R69). -/
def State.moveTrack (s : State) (it : Item) (st : Status) : State :=
  let s1 :=
    if st.ok then
      let s1 := if rowEdge it.row then s.edgeEnded it.track else s
      if (rowSerial it.row || rowEdge it.row) && (tfind it.track s1.seq.faultTo).isNone && !s1.trackTwilight it.track then
        s1.setCursor it.track (rowNextOk it.row)
      else s1
    else if s.trackTwilight it.track then s
    else s.noteFault it
  s1.settleFault it.track

/-- The end of an item with a status (R60 to R64, R154 of the array's level, R68 to R71, R82 to R85, R129, R513). `sector` is the sector that
committed it, 0xFF for none. An item that is not in flight is left alone. -/
def State.endItem (s : State) (id : Nat) (st : Status) (sector : Nat := 0xFF) : State :=
  match s.item id with
  | none => s
  | some it =>
    let s0 := if !st.ok && it.added then s.retract it else s
    let s1 := if it.running && rowOnArray it.row then s0.rampTo 0 else s0
    let s2 : State := { s1 with
      seq := { s1.seq with items := s1.seq.items.filter fun j => j.id ≠ id }
      arr := { s1.arr with helping := s1.arr.helping.filter fun h => h.2 ≠ id }
      cmp := { s1.cmp with refetch := s1.cmp.refetch.filter fun r => r.1 ≠ id } }
    let s3 := ((((s2.freeHolder (.item id)).ppeRelease id).dropDecRec it).unpinDelivered it).sweepDoomed
    let s4 := if st.ok then s3.postTokens (rowPost it.row)
      else if st = .failedDisabled then s3.count F.IMG_DISABLED_ITEMS_COUNT else s3
    let s5 := s4.record it st sector
    match it.adhoc with
    | some a => (s5.adhocItemEnded a st).syncTrack it.track
    | none => ((s5.noteCollFail it st).moveTrack it st).syncTrack it.track

/-- An item refused by its engine before it starts: its tokens go back (R81, R83). -/
def State.refuseItem (s : State) (id : Nat) (st : Status) : State :=
  match s.item id with
  | none => s
  | some it => (if it.waitTaken then s.postTokens (rowWait it.row) else s).endItem id st

/-- Every item that satisfies a test ended with one status, in issue order. -/
def State.endWhere (s : State) (p : Item → Bool) (st : Status) : State :=
  ((s.seq.items.filter p).map Item.id).foldl (fun s id => s.endItem id st) s

/-- A commit point reached (R60): the item ends with what happened to it on the way. -/
def State.commitItem (s : State) (id : Nat) (sector : Nat := 0xFF) : State :=
  match s.item id with
  | none => s
  | some it => s.endItem id it.okStatus sector

/-- An item marked degraded. -/
def State.degrade (s : State) (id : Nat) : State := s.updItem id fun it => { it with degraded := true }

/-- An item marked as having had blocks re-sent. -/
def State.markResent (s : State) (id : Nat) : State := s.updItem id fun it => { it with resent := true }

/-! ### Reading the memory an item names -/

/-- How a read of an item's source ends (R28, R36, R483). -/
inductive ReadEnd where
  | clean | degraded | failed
  deriving DecidableEq, Repr

/-- The worst of two reads. -/
def ReadEnd.worse : ReadEnd → ReadEnd → ReadEnd
  | .failed, _ => .failed
  | _, .failed => .failed
  | .degraded, _ => .degraded
  | _, e => e

/-- The ranges of tier X by device: first address and length (R491). -/
def xPlaces (base : Nat) : List Nat → List (Nat × Nat)
  | [] => []
  | n :: ns => (base, n) :: xPlaces (base + n) ns

/-- Whether a byte range has a second copy: mirrored pages, a mirrored region of D or X whose other half or partner
is in service (R485, R486, R492, R493), or staging shadowed at arrival whose shadow has not been freed yet (R25, R36). -/
def State.hasCopy (s : State) (tier addr len : Nat) : Bool :=
  if tier ≤ 1 then
    ((Desc.mk tier addr len).pages.all fun k => match tfind k s.mem.pages with
      | some p => p.secondary.isSome && !s.mem.remirroring.contains k
      | none => false) && !rangesMeet s.mem.unshadowed (memKey tier addr) len
  else (s.mem.mirrorDX.any fun (t, a, n) => t = tier ∧ a ≤ addr ∧ addr + len ≤ a + n) &&
    (if tier = 2 then !s.bit F.IMG_DARK_UNITS 29
     else (xPlaces 0 s.mem.xRanges).zipIdx.all fun e => !rangesMeet [e.1] addr len || s.bit F.MEM_STATUS_X_UP (e.2 ^^^ 1))

/-- Whether a range holds a poisoned word (R496). -/
def State.poisonedIn (s : State) (tier addr len : Nat) : Bool :=
  s.mem.poison.any fun w => decide (memKey tier addr < w * 8 + 8) && decide (w * 8 < memKey tier addr + len)

/-- Whether a range lies on a CXL device whose link is down (R493), or in the half of tier D behind a dark IOD-B (R679). -/
def State.behindLoss (s : State) (d : Desc) : Bool :=
  if d.tier = 3 then
    ((xPlaces 0 s.mem.xRanges).zipIdx).any fun e =>
      !s.bit F.MEM_STATUS_X_UP e.2 && rangesMeet [e.1] d.addr d.len
  else decide (d.tier = 2) && s.bit F.IMG_DARK_UNITS 29 && decide (s.tierCap 2 < 2 * (d.addr + d.len))

/-- Whether a read of a range meets an uncorrectable word or a lost device (R36, R493, R679). -/
def State.readBad (s : State) (d : Desc) (ue : Bool) : Bool :=
  ue || s.poisonedIn d.tier d.addr d.len || s.behindLoss d

/-- The end of a read of a range in which `ue` says an uncorrectable word was met. -/
def State.readEnd (s : State) (d : Desc) (ue : Bool) : ReadEnd :=
  if s.readBad d ue && !s.hasCopy d.tier d.addr d.len then .failed
  else if lostMeet s.mem.lost (memKey d.tier d.addr) d.len then (if s.exact then .failed else .degraded)
  else if s.readBad d ue || rangesMeet s.mem.unencoded (memKey d.tier d.addr) d.len then .degraded
  else .clean

/-- The uncorrectable-error counter of a tier. -/
def ueCounter : Nat → Fld
  | 0 => F.MEM_UE_S_COUNT | 1 => F.MEM_UE_H_COUNT | 2 => F.MEM_UE_D_COUNT | _ => F.MEM_UE_X_COUNT

/-- The correctable-error counter of a tier. -/
def ceCounter : Nat → Fld
  | 0 => F.MEM_CE_S_COUNT | 1 => F.MEM_CE_H_COUNT | _ => F.MEM_CE_D_COUNT

/-- An uncorrectable error counted and located (R36, MEM_LAST_UE). -/
def State.noteUe (s : State) (tier addr : Nat) : State :=
  ((s.countEv (ueCounter tier) F.MEM_EVENTS_UE).setf F.MEM_LAST_UE_TIER tier).setf F.MEM_LAST_UE_ADDR addr

/-- Bytes that an item reads, read for its engine: the item degraded, the errors counted (R35, R36), or the item to fail. -/
def State.readSrc (s : State) (id : Nat) (d : Desc) (fx : Fx) : ReadEnd × State :=
  let s0 := if d.tier < 3 ∧ 0 < fx.ce then s.countEv (ceCounter d.tier) F.MEM_EVENTS_CE fx.ce else s
  let s1 := if fx.ue || s.poisonedIn d.tier d.addr d.len then s0.noteUe d.tier d.addr else s0
  match s1.readEnd d fx.ue with
  | .clean => (.clean, s1)
  | .degraded => (.degraded, s1.degrade id)
  | .failed => (.failed, s1)

/-- Further operands of an item read (R28, R36), after a read that ended `r`. -/
def State.readAlso (s : State) (id : Nat) (r : ReadEnd) : List Desc → ReadEnd × State
  | [] => (r, s)
  | d :: ds =>
    let x := s.readSrc id d { sector := 0xFF, shadow := 0xFF, mismatch := false, ue := false }
    x.2.readAlso id (r.worse x.1) ds

/-- A state that has touched the bytes of some descriptors, when all of them lie in their tiers (R477). -/
def State.within (s : State) (ds : List Desc) (t : State) : Host.Outcome State Fault Refusal :=
  match ds.find? fun d => !s.inTier d.tier d.addr d.len with
  | some d => .fault (.outsideTier d.tier d.addr)
  | none => .next t

/-- Whether a descriptor lies in one of the image's reservations (R106, R137). -/
def State.reserved (s : State) (d : Desc) : Bool :=
  s.conf.regions.any fun (t, a, n, _) => decide (t = d.tier) && decide (a ≤ d.addr) && decide (d.addr + d.len ≤ a + n)

/-- Whether a descriptor lies in a region that the image declares mirrored (R479). -/
def State.mirroredDesc (s : State) (d : Desc) : Bool :=
  s.conf.regions.any fun (t, a, n, m) => decide (t = d.tier) && decide (a ≤ d.addr) && decide (d.addr + d.len ≤ a + n) && m

/-- The answer of an engine that looks at an issued item (R81). -/
inductive StartRes where
  | go | wait
  /-- Refused before it starts (R83). -/
  | refuse (st : Status)
  /-- Started and failed at once. -/
  | fail (st : Status)
  deriving DecidableEq, Repr

/-- A fit report written to SEQ_FIT (R110). DESIGN CHOICE (log entry 91): the entry for what is left out names section 0, no index and
nothing available, and registers past COUNT keep what an earlier report left there. -/
def State.fitReport (s : State) (code : Status) (es : List FitEntry) : State :=
  let n := es.length
  let shown := if n ≤ 64 then es else es.take 63 ++ [FitEntry.mk 0xFF 0 0xFFFFFFFF (n - 63) 0]
  let s1 := (s.setf F.SEQ_FIT_CODE code.code).setf F.SEQ_FIT_COUNT shown.length
  (shown.zipIdx).foldl (fun s ei =>
    (((((s.setf F.SEQ_FIT_A_RESOURCE ei.1.resource ei.2).setf F.SEQ_FIT_A_SECTION ei.1.section_ ei.2).setf
      F.SEQ_FIT_A_FIRST_INDEX ei.1.first ei.2).setf F.SEQ_FIT_B_NEEDED ei.1.needed ei.2).setf
      F.SEQ_FIT_B_AVAILABLE ei.1.available ei.2)) s1

/-- The running item of an opcode that a command names. -/
def State.runningItem (s : State) (id op : Nat) : Option Item :=
  match s.item id with
  | some it => if it.running ∧ rowOpcode it.row = op then some it else none
  | none => none

end Sys2Proof.Machine
end

