-- ==== Sys2Proof/Machine/Keys.lean ====
section
/-! DEFINITION. Key slots and their generations (R520 to R538): which generation is current, which are live, what an
encryption counts, when a generation retires or is overwritten. -/

namespace Sys2Proof.Machine

/-- The uses of a slot (R521). -/
def useLineTx : Nat := 0x2
def useLineRx : Nat := 0x3
def useMacTx : Nat := 0x4
def useMacRx : Nat := 0x5
def useJournal : Nat := 0x6
def useImage : Nat := 0x7
def useGcsTx : Nat := 0x8
def useGcsRx : Nat := 0x9
def useExpin : Nat := 0xA

def State.slotUse (s : State) (k : Nat) : Nat := (tfind k s.ciph.uses).getD 0
def State.gens (s : State) (k : Nat) : List KeyGen := (tfind k s.ciph.slots).getD []
def State.setGens (s : State) (k : Nat) (g : List KeyGen) : State :=
  { s with ciph := { s.ciph with slots := if g = [] then tdel k s.ciph.slots else tput k g s.ciph.slots } }

/-- The generations not under a graceful erase, newest first (R536). -/
def State.liveGens (s : State) (k : Nat) : List KeyGen := (s.gens k).filter fun g => !g.erasing

/-- The current generation of a slot: the newest live one (R522). -/
def State.currentGen (s : State) (k : Nat) : Option KeyGen := (s.liveGens k).head?

/-- The number of the SCLK cycle, at 750 MHz, in which a nanosecond begins. -/
def sclkCycle (ns : Nat) : Nat := ns * 3 / 4

/-- The generation that an item which starts now latches: the newest live one whose load committed in an earlier SCLK cycle (R528,
R529). DESIGN CHOICE (log entry 102): a slot that had none before this cycle gives the one just loaded. -/
def State.startGen (s : State) (k : Nat) : Option KeyGen :=
  ((s.liveGens k).find? fun g => decide (sclkCycle g.loadedAt < sclkCycle s.now)).or (s.currentGen k)

/-- The generation of a number, whatever its state. -/
def State.genOf (s : State) (k g : Nat) : Option KeyGen := (s.gens k).find? fun x => x.gen = g

/-- The generation of a number that is live (check 3 of R280). -/
def State.liveGen (s : State) (k g : Nat) : Option KeyGen := (s.liveGens k).find? fun x => x.gen = g

def State.updGen (s : State) (k g : Nat) (f : KeyGen → KeyGen) : State :=
  s.setGens k (lmodify (fun x => x.gen = g) f (s.gens k))

/-- The limit of R535. -/
def invocLimit : Nat := 2 ^ 32

/-- Pins of a generation: the items that latched it, the messages that name it, and the requests to be
answered under it (R522, R588). -/
def State.pins (s : State) (k g : Nat) : Nat :=
  (s.seq.items.filter fun it => it.key = some (k, g)).length + ((s.genOf k g).map KeyGen.pins).getD 0
  + (if s.slotUse k = useExpin then (s.host.asked.filter fun a => a.2 = some g).length else 0)

/-- Invocations counted on a generation, with the warning of R534. -/
def State.countInvoc (s : State) (k g n : Nat) : State :=
  let old := ((s.genOf k g).map KeyGen.invoc).getD 0
  let s1 := s.updGen k g fun x => { x with invoc := x.invoc + n }
  if old < 2 ^ 31 ∧ 2 ^ 31 ≤ old + n then
    (s1.putBit F.CIPH_KEY_WARN_SLOTS (k % 64) true (k / 64)).event F.CIPH_EVENTS_KEY_WARN
  else s1

/-- Whether `n` more invocations stay within the limit (R535). -/
def KeyGen.allows (x : KeyGen) (n : Nat) : Bool := !x.exhausted && decide (x.invoc + n ≤ invocLimit)

/-- A generation refused for its limit (R535): it encrypts nothing from now on. -/
def State.exhaust (s : State) (k g : Nat) : State :=
  ((s.updGen k g fun x => { x with exhausted := true }).putBit F.CIPH_KEY_EXHAUSTED_SLOTS (k % 64) true (k / 64)).event
    F.CIPH_EVENTS_KEY_EXHAUSTED

/-- The expanded round keys of a generation. -/
def KeyGen.keys (x : KeyGen) : List (List Nat) := aesKeys (bytesOf 32 x.key.toNat)

/-- The 12 bytes of a generation's SALT. -/
def KeyGen.saltBytes (x : KeyGen) : List Nat := bytesOf 12 x.salt.toNat

/-- A fresh generation record. -/
def KeyGen.mk' (gen key salt an ssci : Nat) (loadedAt : Nat := 0) : KeyGen :=
  { gen := gen, key := BitVec.ofNat 256 key, salt := BitVec.ofNat 96 salt, an := an, ssci := ssci, invoc := 0
    erasing := false, exhausted := false, pins := 0, firstUse := none, lowSeq := none, records := 0, loadedAt := loadedAt }

/-! ### MACsec on the host port, sending side (R546) -/

/-- MACsec is in force on the host port. -/
def State.macsec (s : State) : Bool := decide (s.f F.CIPH_MACSEC_ENABLE = 1)

/-- The slot of the transmit secure channel (R546). -/
def State.macSlot (s : State) : Option Nat := (s.ciph.uses.find? fun u => u.2 = useMacTx).map Prod.fst

/-- The transmit slot and its current generation. -/
def State.macGen (s : State) : Option (Nat × KeyGen) := s.macSlot.bind fun k => (s.currentGen k).map fun g => (k, g)

/-- A frame about to leave the host port: with MACsec in force it takes the next packet number and an invocation of the
current generation, or cannot leave (R533, R535, R546). -/
def State.macOut (s : State) : Bool × State :=
  if !s.macsec then (true, s)
  else match s.macGen with
    | none => (false, s)
    | some (k, g) =>
      if g.allows 1 then (true, (s.updGen k g.gen fun x => { x with records := x.records + 1 }).countInvoc k g.gen 1)
      else (false, s.exhaust k g.gen)

/-- A message sent out of the host port when MACsec lets it leave. -/
def State.sendOut (s : State) (e : Emit) : State :=
  let r := s.macOut
  if r.1 then r.2.emit e else r.2

/-- K1 to K255 with every generation overwritten and none live (R523). -/
def State.wipeKeys (s : State) : State := { s with ciph := { s.ciph with slots := [], gcs := [], suspended := [] } }

end Sys2Proof.Machine
end

