-- ==== Sys2Proof/Machine/Queues.lean ====
section
/-! DEFINITION. The egress queues (R549 to R552): counted length, finish tags, joining a queue. -/

namespace Sys2Proof.Machine

/-- The key of a route and class. -/
def rc (r c : Nat) : Nat := 8 * r + c

/-- The register instance of a route and class. -/
def rcReg (r c : Nat) : Nat := 6 * r + c

/-- The counted length of a block with `len` payload bytes, in millionths of a byte (R552). -/
def State.counted (s : State) (r c len : Nat) : Nat :=
  (52 + len + s.f F.SCH_Rr_Cc_CFG_OVH (rcReg r c)) * (1000000 + s.f F.SCH_PPM_PPM)

/-- The weight in force of a class on a route (R551, R556); 0 acts as 1. -/
def State.weight (s : State) (r c : Nat) : Nat :=
  let one := if r = 0 then s.f F.SCH_STATUS_A_SINGLE else s.f F.SCH_STATUS_B_SINGLE
  max 1 (if one = 1 then s.f F.SCH_Rr_Cc_CFG_WEIGHT_ONE (rcReg r c) else s.f F.SCH_Rr_Cc_CFG_WEIGHT (rcReg r c))

def State.queue (s : State) (r c : Nat) : List QBlock := (tfind (rc r c) s.sch.queues).getD []

def State.setQueue (s : State) (r c : Nat) (q : List QBlock) : State :=
  let s1 : State := { s with sch := { s.sch with
    queues := if q = [] then tdel (rc r c) s.sch.queues else tput (rc r c) q s.sch.queues } }
  (s1.setf F.SCH_Rr_Cc_QUEUE_BYTES ((q.map QBlock.len).sum / 1000000) (rcReg r c)).setf
    F.SCH_Rr_Cc_QUEUE_BLOCKS q.length (rcReg r c)

/-- The finish tag a joining block of counted length `len` takes (R551); C0 and C1 carry none. -/
def State.finishTag (s : State) (r c len : Nat) : Rat :=
  if c < 2 then 0
  else max ((tfind r s.sch.vtime).getD 0) ((tfind (rc r c) s.sch.finish).getD 0) + (len : Rat) / (s.weight r c : Rat)

/-- A block joins a queue (R549, R551): at the tail, or, re-sent, ahead of every fresh block; one that moves
from a lost route joins at the tail whatever it is (R555). -/
def State.enqueue (s : State) (r c session : Nat) (dseq : Option Nat) (fresh : Bool) (bytes : List Byte)
    (port : Option Nat := none) (tail : Bool := fresh) : State :=
  let len := s.counted r c (bytes.length - 52)
  let tag := s.finishTag r c len
  let b : QBlock := { session := session, dseq := dseq, fresh := fresh, len := len, tag := tag, joined := s.now, bytes := bytes, port := port }
  let q := s.queue r c
  let q' := if tail then q ++ [b] else (q.takeWhile fun x => !x.fresh) ++ [b] ++ (q.dropWhile fun x => !x.fresh)
  let s1 : State := if c < 2 then s else { s with sch := { s.sch with finish := tput (rc r c) tag s.sch.finish } }
  s1.setQueue r c q'

end Sys2Proof.Machine
end

