-- ==== Sys2Proof/Machine/Session.lean ====
section
/-! DEFINITION. A session's sending side: line block headers (R276), sealing (R278, R279), sequence numbers (R281),
windows (R283 to R285), hand-over to the routes (R288, R554) and the holds of R224, R319, R330 and R379. -/

namespace Sys2Proof.Machine

/-- Line block kinds (R277). -/
def kHello : Nat := 0x1
def kData : Nat := 0x2
def kAck : Nat := 0x3
def kNak : Nat := 0x4
def kProbe : Nat := 0x5
def kCodebook : Nat := 0x6
def kStepReady : Nat := 0x7
def kStepCommit : Nat := 0x8
def kEpoch : Nat := 0x9
def kHorizon : Nat := 0xA
def kReconcile : Nat := 0xB

/-- Session states (PEER_SESSn_STATE.STATE). -/
def ssIdle : Nat := 0
def ssOpening : Nat := 1
def ssOpen : Nat := 2
def ssEclipse : Nat := 3
def ssResync : Nat := 4

/-- Route states (PEER_SESSn_STATE.ROUTE_A and ROUTE_B). -/
def rtDown : Nat := 0
def rtProving : Nat := 1
def rtUp : Nat := 2

def RouteState.init : RouteState :=
  { samples := [], hasRtt := false, proved := 0, heardAt := 0, replyAt := 0, tokens := 0, filledAt := 0, rate := 0,
    nextPort := 0, due := none }

/-- A session before anything has happened on it. -/
def Sess.init : Sess :=
  { txCtl := 0, rxCtlHigh := none, rxCtlSeen := [], tx := [], unsealed := [], reserved := [], rxAbove := [], rxWanted := [],
    peerWindow := none, ackCount := 0, ackFirst := none, cbAcks := [], routeA := RouteState.init,
    routeB := RouteState.init, probeId := 0, awaitNew := false, sendNew := false, helloAt := 0, heardAt := 0,
    throttledAt := none, epochWaitAt := none, waitFor := 0, epochSentAt := none, heldStreams := [], leftOpenAt := none, bridgedAt := none, naked := [] }

def State.sess (s : State) (n : Nat) : Sess := (tfind n s.peer.sess).getD Sess.init

def State.updSess (s : State) (n : Nat) (g : Sess → Sess) : State :=
  { s with peer := { s.peer with sess := tput n (g (s.sess n)) s.peer.sess } }

def State.sessState (s : State) (n : Nat) : Nat := s.f F.PEER_SESSn_STATE_STATE n
def State.setSessState (s : State) (n st : Nat) : State :=
  (s.setf F.PEER_SESSn_STATE_STATE st n).putBit F.PEER_STATUS_OPEN n (decide (st = ssOpen))

/-- State of route `r` (0 A, 1 B) of a session. -/
def State.route (s : State) (n r : Nat) : Nat :=
  if r = 0 then s.f F.PEER_SESSn_STATE_ROUTE_A n else s.f F.PEER_SESSn_STATE_ROUTE_B n

def State.setRoute (s : State) (n r st : Nat) : State :=
  if r = 0 then (s.setf F.PEER_SESSn_STATE_ROUTE_A st n).putBit F.PEER_ROUTES_A_UP n (decide (st = rtUp))
  else (s.setf F.PEER_SESSn_STATE_ROUTE_B st n).putBit F.PEER_ROUTES_B_UP n (decide (st = rtUp))

def State.routeUp (s : State) (n r : Nat) : Bool := decide (s.route n r = rtUp)

/-- The up routes of a session. -/
def State.upRoutes (s : State) (n : Nat) : List Nat := [0, 1].filter fun r => s.routeUp n r

/-- A route disabled by its session's register (R315), or route B with IOD-B dark (R679). -/
def State.routeDisabled (s : State) (n r : Nat) : Bool :=
  decide ((if r = 0 then s.f F.PEER_SESSn_CTRL_A_DISABLE n else s.f F.PEER_SESSn_CTRL_B_DISABLE n) = 1) ||
    (decide (r = 1) && s.bit F.IMG_DARK_UNITS 29)

def Sess.rt (x : Sess) (r : Nat) : RouteState := if r = 0 then x.routeA else x.routeB
def Sess.setRt (x : Sess) (r : Nat) (y : RouteState) : Sess := if r = 0 then { x with routeA := y } else { x with routeB := y }

/-- The recorded RTT of a route in ns (R313). -/
def State.rtt (s : State) (n r : Nat) : Nat :=
  if r = 0 then s.f F.PEER_SESSn_EPH_A_RTT n else s.f F.PEER_SESSn_EPH_B_RTT n

def State.wmax (s : State) (n r : Nat) : Nat :=
  if r = 0 then s.f F.PEER_SESSn_WIN_A_WMAX n else s.f F.PEER_SESSn_WIN_B_WMAX n

def State.window (s : State) (n r : Nat) : Nat :=
  if r = 0 then s.f F.PEER_SESSn_WIN_A_NOW n else s.f F.PEER_SESSn_WIN_B_NOW n

/-- A session's whole RATE in bytes per second (PEER_SESSn_CFG). -/
def State.sessRate (s : State) (n : Nat) : Nat := s.f F.PEER_SESSn_CFG_RATE n * 10 ^ 10 / 8

/-- A route's share r_ρ of the rate (R284, R555): all of it while the other route is not up. -/
def State.routeRate (s : State) (n r : Nat) : Nat :=
  let all := s.sessRate n
  let a := all * s.f F.PEER_SESSn_CFG_A_SHARE n / 65536
  if s.route n (1 - r) ≠ rtUp then all else if r = 0 then a else all - a

/-- Unacknowledged blocks whose first transmission is on a route (R283, R289). -/
def Sess.unacked (x : Sess) (r : Nat) : Nat :=
  (x.tx.filter fun b => b.firstRoute = r ∧ (b.phase = .queued ∨ b.phase = .sent)).length

/-- The window of R284. -/
def State.windowOf (s : State) (n r : Nat) : Nat :=
  let num := s.routeRate n r * (s.rtt n r + 240000)
  min ((num + 8244 * 10 ^ 9 - 1) / (8244 * 10 ^ 9)) (s.wmax n r)

/-- A window in force, with none waiting (R285). -/
def State.putWindow (s : State) (n r w : Nat) : State :=
  (if r = 0 then s.setf F.PEER_SESSn_WIN_A_NOW w n else s.setf F.PEER_SESSn_WIN_B_NOW w n).updSess n
    fun x => x.setRt r { (x.rt r) with due := none }

/-- The window recomputed (R285): a larger one at once, a smaller one once the unacknowledged blocks of the route have fallen below
it. -/
def State.setWindow (s : State) (n r : Nat) : State :=
  let w := s.windowOf n r
  if s.window n r ≤ w ∨ (s.sess n).unacked r < w then s.putWindow n r w
  else s.updSess n fun x => x.setRt r { (x.rt r) with due := some w }

/-- A smaller window that waits taken into force when it may be (R285). -/
def State.settleWindow (s : State) (n r : Nat) : State :=
  match ((s.sess n).rt r).due with
  | some w => if (s.sess n).unacked r < w then s.putWindow n r w else s
  | none => s

/-! ### Sealing -/

/-- The header of a control or protocol block: class C0, this site, the last Meridian (R277). -/
def State.plainHead (s : State) (kind : Nat) : Head :=
  { kind := kind, adhoc := false, abandon := false, relay := false, cls := 0, origin := s.conf.site
    step := s.f F.SEQ_MERIDIAN_STEP, stream := 0, chunk := 0, part := 0, parts := 0 }

/-- The 32 bytes of a line block header (R276). -/
def State.headBytes (s : State) (n : Nat) (h : Head) (seq gen len : Nat) : List Nat :=
  [0x10 + h.kind, b2n h.adhoc + 2 * b2n h.abandon + 4 * b2n h.relay, n + 32 * h.cls, h.origin]
  ++ bytesOf 4 seq ++ bytesOf 4 (s.f F.PEER_EPOCH_EPOCH)
  ++ [s.f F.PEER_SESSn_CFG_RX_SLOT_PEER n, gen] ++ bytesOf 2 len ++ bytesOf 4 h.step ++ bytesOf 4 h.stream
  ++ bytesOf 4 h.chunk ++ bytesOf 2 h.part ++ bytesOf 2 h.parts

/-- The IV of a line block (R278). -/
def lineIv (salt : List Nat) (site space session seq : Nat) : List Nat :=
  salt.take 4 ++ [site, space, session, 0] ++ bytesOf 4 seq

/-- Whether a kind travels in the data space (R277). -/
def dataSpace (kind : Nat) : Bool := decide (kind = kData) || decide (kCodebook ≤ kind)

/-- A line block sealed: header, ciphertext, tag, CRC-32C (R276, R278, R279). -/
def State.sealBlock (s : State) (n : Nat) (h : Head) (seq : Nat) (g : KeyGen) (payload : List Byte) : List Byte :=
  let hd := s.headBytes n h seq g.gen payload.length
  let ct := gcmSeal g.keys (lineIv g.saltBytes s.conf.site (if dataSpace h.kind then 0 else 1) n seq) hd (nats payload)
  let body := hd ++ ct.1 ++ ct.2
  byts (body ++ bytesOf 4 (crc32c body))

/-- The generation a session seals its own messages under: the current one of its TX_SLOT, within its limit (R275). -/
def State.txGen (s : State) (n : Nat) : Option KeyGen :=
  match s.currentGen (s.f F.PEER_SESSn_CFG_TX_SLOT n) with
  | some g => if g.allows 1 then some g else none
  | none => none

/-- A control-space block sent on a route, on one of its ports where that is fixed (R281, R275): nothing leaves while the
slot cannot seal. -/
def State.sendCtlOn (s : State) (n kind : Nat) (body : List Byte) (r : Nat) (port : Option Nat) : State :=
  match s.txGen n with
  | none => s
  | some g =>
    let seq := (s.sess n).txCtl
    let bytes := s.sealBlock n (s.plainHead kind) seq g body
    let s1 := s.countInvoc (s.f F.PEER_SESSn_CFG_TX_SLOT n) g.gen 1
    let s2 := s1.updSess n fun x => { x with txCtl := (seq + 1) % 2 ^ 32 }
    s2.enqueue r 0 n none true bytes port

/-- A control-space block sent on some routes. -/
def State.sendCtl (s : State) (n kind : Nat) (body : List Byte) (routes : List Nat) : State :=
  routes.foldl (fun s r => s.sendCtlOn n kind body r none) s

/-- The routes an ACK or a NAK travels on: each up route, or else each route that is proving (R291, R296). -/
def State.ackRoutes (s : State) (n : Nat) : List Nat :=
  if (s.upRoutes n).isEmpty then [0, 1].filter fun r => s.route n r = rtProving else s.upRoutes n

/-- The next data sequence (R281), and OLDEST beside it. -/
def State.takeSeq (s : State) (n : Nat) : Nat × State :=
  let q := s.f F.PEER_SESSn_TX_NEXT n
  (q, s.setf F.PEER_SESSn_TX_NEXT ((q + 1) % 2 ^ 32) n)

/-- OLDEST of a session: the first unacknowledged data sequence, or NEXT when none is (PEER_SESSn_TX). -/
def State.syncOldest (s : State) (n : Nat) : State :=
  let o := match (s.sess n).tx.find? fun b => b.phase ≠ .acked with
    | some b => b.dseq
    | none => s.f F.PEER_SESSn_TX_NEXT n
  s.setf F.PEER_SESSn_TX_OLDEST o n

/-! ### Hand-over to the routes -/

/-- The bytes a route's bucket holds now, in millionths of a counted byte (R554). -/
def State.bucketNow (s : State) (n r c : Nat) : Nat :=
  let x := (s.sess n).rt r
  min (64 * s.counted r c 8192) (x.tokens + s.routeRate n r * (s.now - x.filledAt) / 1000)

/-- Whether a route has room for a block under R283. -/
def State.hasRoom (s : State) (n r : Nat) : Bool := decide ((s.sess n).unacked r < s.window n r)

/-- Whether a route has room and tokens for a fresh block (R283, R554). -/
def State.canTake (s : State) (n r c len : Nat) : Bool :=
  s.routeUp n r && s.hasRoom n r && (decide (c < 2) || decide (s.counted r c len ≤ s.bucketNow n r c))

/-- The route a bridged stream is bound to: its bound up route, or the up route with the smaller RTT (R317). -/
def State.bridgeRoute (s : State) (n stream : Nat) : Option Nat :=
  let c := s.ctx stream
  if c.route ≠ 0 ∧ s.routeUp n (c.route - 1) then some (c.route - 1)
  else match s.upRoutes n with
    | [] => none
    | [r] => some r
    | _ => some (if s.rtt n 1 < s.rtt n 0 then 1 else 0)

/-- The route a fresh block leaves on, when one can take it (R317, R554). -/
def State.chooseRoute (s : State) (n : Nat) (b : TxBlock) : Option Nat :=
  let len := b.bytes.length - 52
  if b.cls = 3 then
    match s.bridgeRoute n b.localStream with
    | some r => if s.canTake n r 3 len && !(s.sess n).heldStreams.contains b.localStream then some r else none
    | none => none
  else
    match s.canTake n 0 b.cls len, s.canTake n 1 b.cls len with
    | true, true => some (if s.bucketNow n 1 b.cls > s.bucketNow n 0 b.cls then 1 else 0)
    | true, false => some 0
    | false, true => some 1
    | false, false => none

/-- Whether the peer of a session has acknowledged a codebook generation, or it is fixed or no longer live (R208, R224): a stream names
one peer session, and a relayed block waits for the one that it leaves by (R243). -/
def State.bookReleased (s : State) (n slot gen : Nat) : Bool :=
  s.cmp.acks.contains (n, slot, gen) || !([2 * slot, 2 * slot + 1].any fun k =>
    match tfind k s.cmp.books with
    | some b => b.gen = gen ∧ b.live ∧ !b.fixed
    | none => false)

/-- Whether a fresh block may leave a session in RESYNC (R379): correction, abandonment and protocol blocks only. -/
def resyncMay (b : TxBlock) : Bool :=
  decide (b.kind = kEpoch) || decide (b.kind = kHorizon) || decide (b.kind = kReconcile) || b.corr
    || (decide (b.kind = kData) && decide (b.cls = 0))

/-- Whether a session hands fresh data-space blocks to its routes: not while its slot cannot seal (R275). -/
def State.maySend (s : State) (n : Nat) (b : TxBlock) : Bool :=
  !b.abandoned && (s.txGen n).isSome && decide (s.f F.PEER_SESSn_STATE_EPOCH_WAIT n = 0) &&
    (decide (s.sessState n = ssOpen) || (decide (s.sessState n = ssResync) && resyncMay b)) &&
    b.books.all fun kg => s.bookReleased n kg.1 kg.2

/-- Bytes of the blocks that a route's replay area holds (R289). -/
def replayBytes (tx : List TxBlock) (r : Nat) : Nat := ((tx.filter fun b => b.firstRoute = r).map fun b => b.bytes.length).sum

/-- MiB that a session's replay areas hold (PEER_SESSn_REPLAY). -/
def State.syncReplay (s : State) (n : Nat) : State :=
  let mib (r : Nat) : Nat := (replayBytes (s.sess n).tx r + 2 ^ 20 - 1) / 2 ^ 20
  (s.setf F.PEER_SESSn_REPLAY_A_MIB (mib 0) n).setf F.PEER_SESSn_REPLAY_B_MIB (mib 1) n

/-- Blocks of a session once room is made in a route's replay area (R290): the oldest acknowledged blocks go first. -/
def trimTx (area r need : Nat) : Nat → List TxBlock → List TxBlock
  | 0, tx => tx
  | fuel + 1, tx =>
    if replayBytes tx r + need ≤ area then tx
    else match tx.find? fun b => decide (b.firstRoute = r) && decide (b.phase = TxPhase.acked) with
      | some b => trimTx area r need fuel (tx.erase b)
      | none => tx

/-- Bytes of a route's replay area, as the image declares it. -/
def State.replayArea (s : State) (n r : Nat) : Nat :=
  match tfind n s.conf.sess with
  | some c => if r = 0 then c.replayA else c.replayB
  | none => 0

/-- Room for a new block made in a route's replay area (R290). -/
def State.trimReplay (s : State) (n r need : Nat) : State :=
  s.updSess n fun x => { x with tx := trimTx (s.replayArea n r) r need x.tx.length x.tx }

/-- A waiting block handed to a route. -/
def State.handOn (s : State) (n : Nat) (b : TxBlock) (r : Nat) : State :=
    let left := s.bucketNow n r b.cls - (if b.cls < 2 then 0 else s.counted r b.cls (b.bytes.length - 52))
    let one := decide ((s.upRoutes n).length = 1)
    let mark (t : TxBlock) : TxBlock := { t with phase := .queued, firstRoute := r, lastRoute := r }
    let s1 := (s.trimReplay n r b.bytes.length).updSess n fun x =>
      ({ x with tx := lmodify (fun t => decide (t.dseq = b.dseq) && decide (t.phase = TxPhase.waiting)) mark x.tx }).setRt r
        { (x.rt r) with tokens := left, filledAt := s.now }
    let s2 := match b.item with
      | some id => if one then s1.degrade id else s1
      | none => s1
    let s3 := if b.cls = 3 then s2.setCtx b.localStream { (s2.ctx b.localStream) with route := r + 1 } else s2
    (s3.enqueue r b.cls n (some b.dseq) true b.bytes).syncReplay n

/-- One waiting block handed to a route, when R283, R554 and the holds allow it. -/
def State.handOver (s : State) (n : Nat) (b : TxBlock) : State :=
  if !s.maySend n b then s
  else match s.chooseRoute n b with
  | none => s
  | some r => s.handOn n b r

/-- THROTTLED and its time brought up to date (R288). -/
def State.syncThrottle (s : State) (n : Nat) : State :=
  let wait := (s.sess n).tx.any fun b => b.phase = .waiting
  let full := decide (s.sessState n = ssOpen) && wait && !s.hasRoom n 0 && !s.hasRoom n 1
  match (s.sess n).throttledAt with
  | none =>
    if full then
      ((s.setf F.PEER_SESSn_STATE_THROTTLED 1 n).event F.PEER_EVENTS_THROTTLE).updSess n
        fun x => { x with throttledAt := some s.now }
    else s
  | some t =>
    if full then s
    else ((s.setf F.PEER_SESSn_STATE_THROTTLED 0 n).count F.PEER_SESSn_THROTTLE_NS_COUNT (s.now - t) n).updSess n
      fun x => { x with throttledAt := none }

/-- Every waiting block offered to the routes, in order (R283, R288). -/
def State.pumpTx (s : State) (n : Nat) : State :=
  (((s.sess n).tx.filter fun b => b.phase = .waiting).foldl (fun s b => s.handOver n b) s).syncThrottle n

/-- A data-space message of the session's own put in its sending side: sealed with the next data sequence. -/
def State.sealData (s : State) (n : Nat) (h : Head) (g : KeyGen) (localStream : Nat) (body : List Byte) : State :=
  let q := s.takeSeq n
  let s1 := q.2.countInvoc (s.f F.PEER_SESSn_CFG_TX_SLOT n) g.gen 1
  let b : TxBlock :=
    { dseq := q.1, kind := h.kind, cls := h.cls, stream := h.stream, localStream := localStream, step := h.step,
      chunk := h.chunk, adhoc := h.adhoc, bytes := s.sealBlock n h q.1 g body, item := none, books := [],
      phase := .waiting, firstRoute := 2, lastRoute := 2, lastSent := 0, timerAt := 0, resends := 0, abandoned := false, corr := false }
  (s1.updSess n fun x => { x with tx := x.tx ++ [b] }).syncOldest n

/-- A data-space message sent: sealed at once, or kept until the session's slot can seal (R275). -/
def State.sendData (s : State) (n : Nat) (h : Head) (localStream : Nat) (body : List Byte) : State :=
  match s.txGen n with
  | some g => if (s.sess n).unsealed = [] then (s.sealData n h g localStream body).pumpTx n
      else s.updSess n fun x => { x with unsealed := x.unsealed ++ [(h, localStream, body)] }
  | none => s.updSess n fun x => { x with unsealed := x.unsealed ++ [(h, localStream, body)] }

/-- A data-space message sent on a named route that has room for it (R573). -/
def State.sendDataOn (s : State) (n r : Nat) (h : Head) (localStream : Nat) (body : List Byte) : State :=
  match s.txGen n with
  | some g =>
    let q := s.f F.PEER_SESSn_TX_NEXT n
    let s1 := s.sealData n h g localStream body
    match (s1.sess n).tx.find? fun b => b.dseq = q ∧ b.phase = .waiting with
    | some b => if s1.maySend n b && s1.routeUp n r && s1.hasRoom n r then s1.handOn n b r else s1.pumpTx n
    | none => s1
  | none => s.sendData n h localStream body

/-- Messages that waited for a key sealed in order (R275), and the waiting blocks offered. -/
def State.flushTx (s : State) (n : Nat) : State :=
  let q := (s.sess n).unsealed
  (q.foldl (fun s m =>
    match s.txGen n with
    | some g => (s.updSess n fun x => { x with unsealed := x.unsealed.drop 1 }).sealData n m.1 g m.2.1 m.2.2
    | none => s) s).pumpTx n

/-! ### NAKs and abandonments -/

/-- Sequences, ascending, as ranges of first and last. -/
def seqRanges : List Nat → List (Nat × Nat)
  | [] => []
  | q :: qs => match seqRanges qs with
    | (a, b) :: t => if a = q + 1 then (q, b) :: t else (q, q) :: (a, b) :: t
    | [] => [(q, q)]

/-- The bytes of ranges in a NAK or abandonment (R297, R303). -/
def rangeBytes (rs : List (Nat × Nat)) : List Byte := rs.flatMap fun r => beBytes 4 r.1 ++ beBytes 4 r.2

/-- NAKs for sequences, eight ranges to a NAK, on the routes of R291 (R296, R297). -/
def State.sendNak (s : State) (n reason : Nat) (seqs : List Nat) : State :=
  let rs := seqRanges seqs
  (chunks 8 ((rs.length + 7) / 8) rs).foldl (fun s part =>
    (s.sendCtl n kNak (beBytes 1 part.length ++ beBytes 1 reason ++ beBytes 2 0 ++ rangeBytes part) (s.ackRoutes n)).count
      F.PEER_SESSn_NAKS_COUNT 1 n) s

/-- An abandonment of a chunk sent (R303): DATA in class C0 with ABANDON set. -/
def State.sendAbandon (s : State) (n reason stream step chunk : Nat) (adhoc : Bool) (rs : List (Nat × Nat)) : State :=
  let h : Head := { kind := kData, adhoc := adhoc, abandon := true, relay := false, cls := 0, origin := s.conf.site,
                    step := step % 2 ^ 32, stream := (s.ctx stream).peerStream, chunk := chunk, part := 0, parts := 1 }
  (chunks 8 (max 1 ((rs.length + 7) / 8)) rs).foldl (fun s part =>
    s.sendData n h stream (beBytes 1 reason ++ beBytes 1 part.length ++ beBytes 2 0 ++ rangeBytes part)) s

/-- Line blocks asked for once more (R230, R307): sequences below the cumulative point become acceptable again (R287). -/
def State.reRequest (s : State) (n : Nat) (seqs : List Nat) : State :=
  (s.updSess n fun x => { x with rxWanted := (x.rxWanted ++ seqs).dedup }).sendNak n 2 seqs

/-- The sessions the image declares (R270). -/
def State.declared (s : State) : List Nat := s.conf.sess.map Prod.fst

/-- The session OPEN whose declared peer is a site. -/
def State.openSessions (s : State) : List Nat := s.declared.filter fun n => s.sessState n = ssOpen

end Sys2Proof.Machine
end

