-- ==== Sys2Proof/Machine/Clock.lean ====
section
/-! DEFINITION. The time bases as offsets from TB3 (R564 to R567), and time across the line: asymmetry, θ and the states of
the time session's routes (R573 to R575). -/

namespace Sys2Proof.Machine

/-- The linear form of TB3 (R565, R566): 65,536 units a nanosecond. -/
def State.tb3Lin (s : State) : Nat := s.now * 65536

/-- Time base and route states (TIME_STATUS). -/
def tbFree : Nat := 0
def tbLocked : Nat := 1
def tbHoldover : Nat := 2

def TimeBase.init : TimeBase := { state := 0, off := 0, rate := 0, phase := 0, at_ := 0, good := 0, heldAt := 0 }
def TimeRoute.init : TimeRoute :=
  { state := 0, asym := none, samples := [], theta := 0, at_ := 0, gain := 0, over_ := 0, heldAt := 0 }

def State.base (s : State) (n : Nat) : TimeBase := (tfind n s.time.bases).getD TimeBase.init
def State.timeRoute (s : State) (r : Nat) : TimeRoute := (tfind r s.time.routes).getD TimeRoute.init

/-- TIME_STATUS brought up to date. -/
def State.syncTime (s : State) : State :=
  ((((s.setf F.TIME_STATUS_TB0 (s.base 0).state).setf F.TIME_STATUS_TB1 (s.base 1).state).setf F.TIME_STATUS_TB2 (s.base 2).state).setf
    F.TIME_STATUS_ROUTE_A (s.timeRoute 0).state).setf F.TIME_STATUS_ROUTE_B (s.timeRoute 1).state

def State.setBase (s : State) (n : Nat) (b : TimeBase) : State :=
  ({ s with time := { s.time with bases := tput n b s.time.bases } }).syncTime

def State.setTimeRoute (s : State) (r : Nat) (x : TimeRoute) : State :=
  ({ s with time := { s.time with routes := tput r x s.time.routes } }).syncTime

/-- A number held within bounds. -/
def clampInt (v b : Int) : Int := max (-b) (min b v)

/-- What is left of a phase correction after slewing for `dt` ns (R567). -/
def State.slewed (s : State) (b : TimeBase) (dt : Nat) : Int :=
  clampInt b.phase (((max 1 (s.f F.TIME_HOLD_SLEW_MAX)) * 65536 * dt / 1000000000 : Nat) : Int)

/-- The offset of a base from TB3 now (R567): its addend and what has been slewed. -/
def State.baseOff (s : State) (n : Nat) : Int :=
  let b := s.base n
  let dt := s.now - b.at_
  b.off + b.rate * 65536 * dt / 1000000000000 + s.slewed b dt

/-- The value of a base in linear form (R565); TB3 is base 3. -/
def State.baseLin (s : State) (n : Nat) : Nat := if 3 ≤ n then s.tb3Lin else (s.tb3Lin + s.baseOff n).toNat

/-- The addend a base takes when it locks: within ±200 ppm, not given further by the spec: a free value (log entry 4). -/
def addendOf (w : Word) : Int := ((w.toNat % 400000001 : Nat) : Int) - 200000000

/-- A base's source says what its offset from TB3 ought to be (R567). -/
def State.baseUpdate (s : State) (n : Nat) (want : Int) : State :=
  let b := s.base n
  let cur := s.baseOff n
  let s1 := s.setf F.TIME_TBn_OFFSET_OFFSET (BitVec.ofInt 64 (cur - want)).toNat n
  if b.state = tbFree then
    if 16 ≤ b.good + 1 then
      ((s1.fresh.2).setBase n { b with state := tbLocked, off := want, rate := addendOf s1.fresh.1, phase := 0, at_ := s.now, good := b.good + 1 }).event
        F.TIME_EVENTS_LOCKED
    else s1.setBase n { b with good := b.good + 1 }
  else
    let s2 := s1.eventIf (decide (b.state = tbHoldover)) F.TIME_EVENTS_LOCKED
    s2.setBase n { b with state := tbLocked, off := cur, phase := want - cur, at_ := s.now }

/-- A base's source is lost (R567): LOCKED goes to HOLDOVER, and FREE counts its updates anew. -/
def State.baseLost (s : State) (n : Nat) : State :=
  let b := s.base n
  if b.state = tbLocked then
    (s.setBase n { b with state := tbHoldover, off := s.baseOff n, phase := b.phase - s.slewed b (s.now - b.at_), at_ := s.now, heldAt := s.now, good := 0 }).event
      F.TIME_EVENTS_HOLDOVER
  else if b.state = tbFree then s.setBase n { b with good := 0 }
  else s

/-- Holdover of a base has run out (R567). -/
def State.baseFree (s : State) (n : Nat) : State := (s.setBase n { (s.base n) with state := tbFree, good := 0 }).event F.TIME_EVENTS_FREE

/-- TB0 is steered by TB2 (TIME_CFG.TB0_SRC). -/
def State.tb0OnTb2 (s : State) : Bool := decide (s.f F.TIME_CFG_TB0_SRC = 2)

/-- Whether a session is the time session (R573). -/
def State.timeSession (s : State) (n : Nat) : Bool := decide (s.f F.TIME_CFG_SESSION = n) && (tfind n s.conf.sess).isSome

/-- ONE_WAY of both routes of the time session, or RTT/2 (R313, R574). -/
def State.syncOneWay (s : State) (n r : Nat) : State :=
  let x := s.timeRoute r
  let half := s.rtt n r / 2
  let extra : Int := if s.timeSession n ∧ x.state = tbLocked then x.asym.getD 0 / 65536 else 0
  let v := ((half : Int) + extra).toNat
  if r = 0 then s.setf F.PEER_SESSn_EPH_A_ONE_WAY v n else s.setf F.PEER_SESSn_EPH_B_ONE_WAY v n

/-- θ of a route now (R574): in holdover it keeps moving at its rate. -/
def State.thetaNow (s : State) (r : Nat) : Int :=
  let x := s.timeRoute r
  x.theta + x.gain * ((s.now - x.at_ : Nat) : Int) / (max 1 x.over_ : Nat)

/-- The route whose θ TB2 follows (R575): LOCKED, the smaller RTT, route A on a tie. -/
def State.followed (s : State) : Option Nat :=
  let n := s.f F.TIME_CFG_SESSION
  let up := [0, 1].filter fun r => (s.timeRoute r).state = tbLocked
  match up with
  | [] => none
  | [r] => some r
  | _ => some (if s.rtt n 1 < s.rtt n 0 then 1 else 0)

/-- TB2 loses its source when no route is LOCKED (R567), and TB0 with it when it follows TB2. -/
def State.checkFollowed (s : State) : State :=
  let s1 : State := { s with time := { s.time with follows := s.followed } }
  if s.followed.isSome then s1
  else if s.tb0OnTb2 then (s1.baseLost 2).baseLost 0 else s1.baseLost 2

/-- TIME_Rr_ASYM, in ps, and the route's forward delay. -/
def State.syncAsym (s : State) (r : Nat) : State :=
  let ps := (s.timeRoute r).asym.getD 0 * 1000 / 65536
  (s.setf F.TIME_Rr_ASYM_ASYM (BitVec.ofInt 32 ps).toNat r).syncOneWay (s.f F.TIME_CFG_SESSION) r

/-- A measured or written asymmetry stored (R574): the route is LOCKED. -/
def State.storeAsym (s : State) (r : Nat) (a : Int) : State :=
  let x := s.timeRoute r
  let s1 := s.setTimeRoute r { x with asym := some a, state := tbLocked }
  ((s1.syncAsym r).event F.TIME_EVENTS_ASYM_DONE).checkFollowed

/-- A delay step on a route (R574): its samples and its asymmetry are discarded. -/
def State.timeDelayStep (s : State) (n r : Nat) : State :=
  if s.timeSession n then
    let x := s.timeRoute r
    let s1 := s.setTimeRoute r { x with samples := [], asym := none, state := if x.state = tbLocked then tbHoldover else x.state
                                        heldAt := if x.state = tbLocked then s.now else x.heldAt }
    ((s1.eventIf (decide (x.state = tbLocked)) F.TIME_EVENTS_HOLDOVER).syncOneWay n r).checkFollowed
  else s

/-- A route of the time session goes DOWN (R574). -/
def State.timeRouteDown (s : State) (n r : Nat) : State :=
  let x := s.timeRoute r
  if s.timeSession n ∧ x.state = tbLocked then
    (((s.setTimeRoute r { x with state := tbHoldover, heldAt := s.now }).event F.TIME_EVENTS_HOLDOVER).syncOneWay n r).checkFollowed
  else s

/-- A route of the time session returns UP (R574): LOCKED again when its asymmetry was not discarded. -/
def State.timeRouteUp (s : State) (n r : Nat) : State :=
  let x := s.timeRoute r
  if s.timeSession n ∧ x.state = tbHoldover ∧ x.asym.isSome then
    ((s.setTimeRoute r { x with state := tbLocked }).syncOneWay n r).checkFollowed
  else s

/-- The 64-bit value nearest a known one (the difference is taken modulo 2^64, R311). -/
def nearest64 (known : Int) (low : Nat) : Int := known + (BitVec.ofInt 64 ((low : Int) - known)).toInt

/-- The peer's TB0 at an instant of its TB3 (R573). -/
def State.peerTb0 (s : State) (low : Nat) : Option Int :=
  s.time.peer.map fun p => p.2.1 + (nearest64 p.1 low - p.1)

/-- The own TB0 at an instant of TB3, linear. -/
def State.ownTb0 (s : State) (t : Int) : Int := t + s.baseOff 0

/-- The median of a list: the mean of the two middle values when their number is even (log entry 23). -/
def medianInt (l : List Int) : Int :=
  let m := l.mergeSort (· ≤ ·)
  (m.getD ((m.length - 1) / 2) 0 + m.getD (m.length / 2) 0) / 2

/-- ASYM_SAMPLES as it acts. -/
def State.asymCount (s : State) : Nat := max 64 (s.f F.TIME_HOLD_ASYM_SAMPLES)

/-- A sample of the asymmetry taken in (R573, R574). -/
def State.asymSample (s : State) (r : Nat) (v : Int) : State :=
  let x := s.timeRoute r
  let l := x.samples ++ [v]
  let l1 := l.drop (l.length - s.asymCount)
  let s1 := s.setTimeRoute r { x with samples := l1 }
  if l1.length = s.asymCount then s1.storeAsym r (medianInt l1) else s1

/-- A probe reply on a route of the time session (R573, R575); times in TB3 linear units, T2 the peer's. -/
def State.timeProbe (s : State) (n r : Nat) (t1 : Int) (t2 : Nat) (rtt : Int) : State :=
  if !s.timeSession n then s
  else match s.peerTb0 t2, s.time.peer with
    | some pt, some (_, _, st, tr) =>
      let good := decide (st = tbLocked) && tr && decide ((s.base 0).state = tbLocked) && decide (s.f F.TIME_CFG_TRACEABLE = 1)
      let s1 := if good then s.asymSample r (pt - s.ownTb0 t1 - rtt / 2) else s
      let x := s1.timeRoute r
      let th := pt - t1 - (rtt / 2 + x.asym.getD 0)
      let s2 := s1.setTimeRoute r { x with theta := th, gain := if x.at_ = 0 then 0 else th - x.theta, over_ := s.now - x.at_, at_ := s.now }
      let s3 := s2.setf F.TIME_Rr_THETA_THETA (BitVec.ofInt 64 th).toNat r
      let s4 : State := { s3 with time := { s3.time with follows := s3.followed } }
      if s4.followed = some r then
        let s5 := s4.baseUpdate 2 th
        if s5.tb0OnTb2 then s5.baseUpdate 0 (s5.baseOff 2) else s5
      else s4
    | _, _ => s

/-- One cycle of TCLK with nothing commanded: a nanosecond passes (R566; log entry 2). -/
def State.tick (s : State) : State := { s with now := s.now + 1 }

end Sys2Proof.Machine
end

