-- ==== Sys2Proof/Machine/Health.lean ====
section
/-! DEFINITION. Sector health: suspect marks, the choice of a helping sector (R149), a sector leaving and rejoining the
healthy set (R23, R24, R150), charges by condition and retirement (R717 to R720), the caps of R730 and R746, and the
Twilight marks of a unit (R677). -/

namespace Sys2Proof.Machine

/-- A sector's suspect mark (R149). -/
def State.suspect (s : State) (n : Nat) : Bool := s.bit F.ARR_STATUS_SUSPECT n

/-- The sector R149 chooses to redo or check work of sector `bad`; `busy` holds the sectors that hold a copy of the chunk
or already check the rebuild. The conditions drop from the last one backwards until a sector meets the rest. -/
def State.helper (s : State) (bad : Nat) (busy : List Nat) : Option Nat :=
  let c1 (n : Nat) : Bool := !s.suspect n
  let c3 (n : Nat) : Bool := decide (n ≠ bad) && !busy.contains n
  let c4 (n : Nat) : Bool := decide (baseDie n ≠ baseDie bad)
  let h := s.healthyList
  let pick4 := h.find? fun n => c1 n && c3 n && c4 n
  let pick3 := h.find? fun n => c1 n && c3 n
  (pick4.or pick3).or ((h.find? c1).or h.head?)

/-! ### Twilight marks -/

/-- Unit indices of IMG_TWILIGHT. -/
def unitTrack (n : Nat) : Nat := 8 + n
def unitPpe : Nat := 24
def unitTile (t : Nat) : Nat := 25 + t
def unitIodB : Nat := 29

def State.unitDraining (s : State) (u : Nat) : Bool := s.bit F.IMG_DRAINING_UNITS u
def State.unitDark (s : State) (u : Nat) : Bool := s.bit F.IMG_DARK_UNITS u
/-- A unit in Twilight or dark (R677). -/
def State.unitOut (s : State) (u : Nat) : Bool := s.unitDraining u || s.unitDark u

/-- A unit marked DARK (R677). -/
def State.markDark (s : State) (u : Nat) : State :=
  ((s.putBit F.IMG_DRAINING_UNITS u false).putBit F.IMG_DARK_UNITS u true).event F.IMG_EVENTS_DARK

/-- A unit marked running again. -/
def State.markRunning (s : State) (u : Nat) : State :=
  (s.putBit F.IMG_DRAINING_UNITS u false).putBit F.IMG_DARK_UNITS u false

/-! ### The healthy set -/

/-- Sector states (ARR_SECn_STATUS.STATE). -/
def secHealthy : Nat := 0
def secSuspect : Nat := 1
def secUnusable : Nat := 2
def secRetired : Nat := 3
def secTwilight : Nat := 4
def secReset : Nat := 5

def State.secState (s : State) (n : Nat) : Nat := s.f F.ARR_SECn_STATUS_STATE n
def State.setSec (s : State) (n st : Nat) : State := (s.setf F.ARR_SECn_STATUS_STATE st n).syncSectors

/-- The array item that runs (R131). -/
def State.arrayItem (s : State) : Option Item := s.seq.items.find? fun it => it.running && rowOnArray it.row

/-- Sectors that R149 keeps from helping a REDUCE: those that hold a copy of its chunk or already help it. -/
def State.busyWith (s : State) (id : Nat) : List Nat :=
  (s.arr.helping.filter fun h => h.2 = id).map Prod.fst ++
    (match s.item id with
     | some it =>
       if rowOpcode it.row = opReduce then
         match tfind (rowStream it.row) s.arr.home with
         | some h => [h.1, h.2]
         | none => []
       else []
     | none => [])

/-- Helping work of a sector that leaves service handed to another sector (R149, R150). -/
def State.moveHelp (s : State) (n : Nat) : State :=
  let one (h : Nat × Nat) : Nat × Nat := if h.1 = n then ((s.helper n (s.busyWith h.2)).getD n, h.2) else h
  { s with arr := { s.arr with helping := s.arr.helping.map one } }

/-- Entries of a home that is lost are those that their shadow rebuilds from its copies (R25, R150): the shadow is home from now
on; a shadow that is lost is none. -/
def State.moveHomes (s : State) (n : Nat) : State :=
  let one (e : Nat × Nat × Nat) : Nat × Nat × Nat :=
    if e.2.1 = n then (e.1, e.2.2, 0xFF) else if e.2.2 = n then (e.1, e.2.1, 0xFF) else e
  { s with arr := { s.arr with home := s.arr.home.map one } }

/-- The sector whose lanes, encoders or decoders work for an item: the one that holds its entries or its source (R116). -/
def State.sectorOf (s : State) (it : Item) : Option Nat :=
  let d := rowSrc it.row
  match (if rowOpcode it.row = opReduce then tfind (rowStream it.row) s.arr.home else none) with
  | some h => some h.1
  | none => if d.tier ≤ 1 then (tfind (pageKey d.tier d.addr) s.mem.pages).map Page.primary else none

/-- The lane, encoder and decoder items that a sector works for. -/
def State.workOf (s : State) (n : Nat) : List Nat :=
  (s.seq.items.filter fun it => it.running && [opReduce, opFirstpass, opEncode, opDecode].contains (rowOpcode it.row)
    && decide (s.sectorOf it = some n)).map Item.id

/-- What a sector's loss does to work and pages: the array item's work, the work of the lane, encoder and decoder items of the
sector, of the items `moved` and helping work move to other sectors (R150), pages without another copy are lost (R28, R483; an access waits for
the remap, so none sees the old contents) and its pages wait for their remap (R481). -/
def State.sectorLoss (s : State) (n : Nat) (moved : List Nat) : State :=
  let ids := moved ++ s.workOf n ++ (s.arr.helping.filter fun h => h.1 = n).map Prod.snd ++
    (match s.arrayItem with | some it => [it.id] | none => [])
  let s1 := ((s.moveHelp n).moveHomes n).loseSector n
  let s2 : State := { s1 with mem := { s1.mem with remapDue := s1.mem.remapDue ++ [(n, s1.now)] } }
  (ids.foldl State.degrade s2).eventIf (!ids.isEmpty) F.ARR_EVENTS_MOVED

/-- A sector leaves service with state `st` (R23, R24): the array shrinks; a sector that was healthy or drained in Twilight
gives up its work and pages. -/
def State.sectorLeaves (s : State) (n st : Nat) (moved : List Nat) : State :=
  if s.healthy n ∨ s.secState n = secTwilight ∧ s.unitDraining n then (s.setSec n st).sectorLoss n moved else s.setSec n st

/-- A sector rejoins the healthy set; its suspect mark stands (R721), and it takes new secondaries only (R484). -/
def State.sectorJoins (s : State) (n : Nat) : State :=
  ((s.setSec n (if s.suspect n then secSuspect else secHealthy)).markRunning n).remirror

/-- What `h` sectors leave of tier S and of tier H for an image beside the system areas (R7, R478). -/
def spaceS (h : Nat) : Nat := h * (2 ^ 31 - 640 * 1024)
def spaceH (h : Nat) : Nat := h * 2 ^ 36 - 514 * 2 ^ 20

/-- Whether the active image fits tiers S and H with `h` sectors (R109, R680). -/
def State.fitsWith (s : State) (h : Nat) : Bool :=
  decide (s.conf.needS ≤ spaceS h) && decide (s.conf.needH ≤ spaceH h)

/-! ### Charges and retirement -/

/-- The temperature bin of a sector's base die now (R717); PWR_TEMPd.NOW counts 1/16 °C, signed. -/
def State.tempBin (s : State) (n : Nat) : Nat :=
  let t := s.f F.PWR_TEMPd_NOW (baseDie n)
  if 2 ^ 15 ≤ t then 0 else min ((t - 20 * 16) / (5 * 16)) 16

/-- The load class of R717 for the formats of an array product. -/
def loadClass (a b : Nat) : Nat :=
  if a = 0 ∨ b = 0 then 3 else if a ≤ 2 ∨ b ≤ 2 then 2 else 1

/-- The bin of a sector, class and temperature (R717). -/
def binKey (n cls temp : Nat) : Nat := 68 * n + 17 * cls + temp

/-- A sector marked retired (R718), with the halt of R720 when the image no longer fits. -/
def State.retireNow (s : State) (n : Nat) (moved : List Nat) : State :=
  let s1 := (((s.sectorLeaves n secRetired moved).markDark n).putBit F.BIST_STATUS_RETIRED n true).event
    F.BIST_EVENTS_RETIRED
  if s1.imageActive && !s1.fitsWith s1.healthyList.length then
    (((List.range 16).foldl (fun s t => s.setTrack t tkHalted) s1).syncTracks).event F.BIST_EVENTS_NO_FIT
  else s1

/-- A retirement due: at once, or at the end of the sector's test (R718, R719). -/
def State.retire (s : State) (n : Nat) : State :=
  if s.bit F.BIST_STATUS_RETIRED n then s
  else if s.bist.runs.any fun r => r.sector = n ∧ r.started.isSome then
    { s with bist := { s.bist with retireAfter := n :: s.bist.retireAfter.filter (· ≠ n) } }
  else s.retireNow n []

/-- A mismatch charged to a sector (R149, R717, R718): counted, the sector marked suspect, its bin charged, and the sector
retired when the third charge of a bin lies within 3,600 s of its first. -/
def State.chargeMismatch (s : State) (n cls : Nat) (it : Item) : State :=
  let key := binKey n cls (s.tempBin n)
  let ts := (tfind key s.bist.bins).getD [] ++ [s.tb3]
  let ts := ts.drop (ts.length - 3)
  let s1 := (((s.countEv F.ARR_MISMATCH_COUNT F.ARR_EVENTS_MISMATCH).count F.ARR_SECn_MISMATCH_COUNT 1 n).setf
    F.ARR_LAST_MISMATCH_TAG (itemTag it)).eventIf (!s.suspect n) F.ARR_EVENTS_SUSPECT
  let s2 := s1.putBit F.ARR_STATUS_SUSPECT n true
  let s3 := if s2.secState n = secHealthy then s2.setSec n secSuspect else s2
  let s4 : State := { s3 with bist := { s3.bist with bins := tput key ts s3.bist.bins } }
  if ts.length = 3 ∧ s.tb3 ≤ ts.headD 0 + 3600 * 10 ^ 9 then s4.retire n else s4

end Sys2Proof.Machine
end

