-- ==== Sys2Proof/Machine/Chunks.lean ====
section
/-! DEFINITION. The chunk pipeline of collectives: how a segment divides into chunks and shares (R237), which chunks
of a stream hold input (R245), which wait (R246), and what COL_INST counts of the current instance of an entry. -/

namespace Sys2Proof.Machine

/-- The header of the cblock at an address (R182): GEN, EXP, RATE, KIND, SAT, BLOCK. -/
structure CbHead where
  gen : Nat
  ex : Nat
  rate : Nat
  kind : Nat
  sat : Nat
  block : Nat
  deriving DecidableEq, Repr

def cbHeadOf (bs : List Byte) : CbHead :=
  let fl (o n : Nat) : Nat := beNat ((bs.drop o).take n)
  { gen := fl 0 1, ex := fl 1 1, rate := fl 2 1 / 16, kind := fl 2 1 % 16, sat := fl 3 1, block := fl 4 4 }

/-- Bytes of one source element of a segment: one for RAW (R189). -/
def srcSize (g : Seg) : Nat := if g.rate = 0xF then 1 else fmtSize g.inFmt

/-- The first block, first element and element count of an ENCODE (R192), and of a low-rank pass. -/
def State.encodeSpan (s : State) (it : Item) : Nat × Nat × Nat :=
  let stream := rowStream it.row
  let g := s.seg (s.ctx stream)
  let n := (rowSrc it.row).len / srcSize g
  if g.lowrank then
    let e0 := Config.lowrankFirst stream (rowSrcBits it.row) % max 1 g.elems
    (0, e0, min n (g.elems - e0))
  else
    let b0 := ((rowDst it.row).addr - g.cbBase.addr) / cblockSize g.rate
    (b0, 256 * b0, min n (g.elems - 256 * b0))

/-! ### Chunks and shares -/

/-- The bytes of input in a chunk of an entry (R233, R237). -/
def State.chunkSize (s : State) (c : Nat) : Nat := 2 ^ s.f F.COL_ENTRY_D_CHUNK_LOG2 c

/-- The chunk that a byte of a segment's input lies in (R237). -/
def State.chunkOf (s : State) (c off : Nat) : Nat := off / s.chunkSize c

/-- The share, and so the position that owns it, of a chunk (R237). -/
def State.shareOf (s : State) (c k : Nat) : Nat := k % max 1 (s.f F.COL_ENTRY_A_SITES c)

/-- The position before this one in an entry's ring (R238). -/
def State.prevPos (s : State) (c : Nat) : Nat :=
  let n := max 1 (s.f F.COL_ENTRY_A_SITES c)
  (s.f F.COL_ENTRY_D_MY_POS c + n - 1) % n

/-- The bytes of input in chunk `k` of a stream's segment; only the last is shorter (R237). -/
def State.chunkLen (s : State) (c stream k : Nat) : Nat :=
  let g := s.seg (s.ctx stream)
  if (s.ctx stream).segment then min (s.chunkSize c) (g.elems * srcSize g - k * s.chunkSize c) else s.chunkSize c

/-- Whether an entry has the gather form. -/
def State.gathers (s : State) (c : Nat) : Bool := decide (s.f F.COL_ENTRY_D_FLAGS c % 2 = 1)

/-- Whether the entry that a row names is a gather-form or reduce-scatter collective, whose results are rounded sums
(R240, R241). -/
def State.resultIsSum (s : State) (c : Nat) : Bool :=
  decide (s.gathers c = true ∧ s.f F.COL_ENTRY_A_KIND c ≠ 2) || decide (s.f F.COL_ENTRY_A_KIND c = 1)

/-- Whether this gateway needs a cross-site sum of a chunk: in the gather form of every chunk whose sum it takes, in the ring form
of every share but the one it only sends at the first hop (R238, R239, R241). -/
def State.needsSum (s : State) (c k : Nat) : Bool :=
  if s.f F.COL_ENTRY_A_KIND c = 2 then false
  else if s.gathers c then decide (s.f F.COL_ENTRY_A_KIND c = 3) || decide (s.shareOf c k = s.f F.COL_ENTRY_D_MY_POS c)
  else decide (s.shareOf c k ≠ s.prevPos c)

/-- Whether this gateway needs anything of a chunk from a cross-site REDUCE or DECODE (R246). -/
def State.needsResult (s : State) (c k : Nat) : Bool := s.needsSum c k || !s.resultIsSum c

/-! ### Chunks that hold input -/

/-- Chunks of a stream that hold input now. -/
def State.holdingNow (s : State) (stream : Nat) : Nat := (s.col.holding.filter fun h => h.stream = stream).length

/-- A chunk that starts to hold input. -/
def Holding.new (stream : Nat) (started : Bool) : Holding := { stream := stream, started := started, sum := none, left := 0 }

/-- The entry that the rows of a stream name. -/
def State.streamEntry (s : State) (stream : Nat) : Option Nat :=
  (s.seq.active.find? fun kv => decide (rowStream kv.2 = stream) && (rowEntry kv.2).isSome).bind fun kv => rowEntry kv.2

/-- Input of a stream arrives at bytes `off` to `off + n` of its staging: every chunk that begins there holds input (R245). -/
def State.noteArrival (s : State) (stream off n : Nat) : State :=
  match s.streamEntry stream with
  | none => s
  | some c =>
    let m := (off + n + s.chunkSize c - 1) / s.chunkSize c - (off + s.chunkSize c - 1) / s.chunkSize c
    { s with col := { s.col with holding := s.col.holding ++ List.replicate m (Holding.new stream false) } }

/-- A stream's accumulator region holds nothing and no REDUCE of the stream has started on it. -/
def State.accClear (s : State) (stream : Nat) : Bool :=
  !(s.arr.acc.any fun kv => decide (kv.1 / 2 ^ 24 = stream)) &&
  !(s.seq.items.any fun it => it.running && decide (rowOpcode it.row = opReduce) && decide (rowStream it.row = stream))

/-- Whether a REDUCE begins the site sum of a chunk (R245): one whose region is clear. -/
def State.startsSum (s : State) (it : Item) : Bool :=
  decide (rowOpcode it.row = opReduce) && (rowEntry it.row).isSome && !(s.ctx (rowStream it.row)).decoded &&
    s.accClear (rowStream it.row)

/-- Whether a chunk of the stream has arrived whose site sum has not begun. -/
def State.arrived (s : State) (stream : Nat) : Bool := s.col.holding.any fun h => decide (h.stream = stream) && !h.started

/-- Whether a REDUCE would start a further chunk of its stream (R245): none has arrived that it could take. -/
def State.startsChunk (s : State) (it : Item) : Bool := s.startsSum it && !s.arrived (rowStream it.row)

/-- A site sum takes the oldest chunk that has arrived, or starts a further one (R245). -/
def State.noteChunkStart (s : State) (it : Item) : State :=
  let st := rowStream it.row
  if !s.startsSum it then s
  else
    let l := if s.arrived st then lmodify (fun h => decide (h.stream = st) && !h.started) (fun h => { h with started := true }) s.col.holding
      else s.col.holding ++ [Holding.new st true]
    { s with col := { s.col with holding := l } }

/-- The commit of a site sum into a destination: its chunk holds input until that is encoded (R245). -/
def State.noteSiteSum (s : State) (it : Item) : State :=
  let st := rowStream it.row
  let l := lmodify (fun h => decide (h.stream = st) && h.started && h.sum.isNone)
    (fun h => { h with sum := some (rowDstBits it.row), left := (rowDst it.row).len }) s.col.holding
  { s with col := { s.col with holding := l } }

/-- Bytes that two descriptors share. -/
def Desc.common (a b : Desc) : Nat :=
  if a.tier = b.tier then min (a.addr + a.len) (b.addr + b.len) - max a.addr b.addr else 0

/-- What an ENCODE's source leaves of a chunk that holds input: its site sum less the bytes encoded, or nothing of a chunk whose input
is encoded as it arrived. -/
def Holding.encoded (stream : Nat) (src : Desc) (h : Holding) : Option Holding :=
  match h.sum with
  | some d =>
    let left := h.left - src.common (descOf d)
    if left = 0 then none else some { h with left := left }
  | none => if h.stream = stream ∧ !h.started then none else some h

/-- The chunks that hold input after an ENCODE has written their cblocks (R245): an ENCODE encodes at most one chunk. -/
def Holding.take (stream : Nat) (src : Desc) : List Holding → List Holding
  | [] => []
  | h :: hs => if h.encoded stream src = some h then h :: Holding.take stream src hs else (h.encoded stream src).toList ++ hs

/-! ### Chunks that wait -/

/-- Chunks of a stream that wait now. -/
def State.waitingNow (s : State) (stream : Nat) : Nat := (s.col.waiting.filter fun w => decide (w.stream = stream) && w.own).length

/-- The instance an item belongs to: its step, or its ad hoc collective. -/
def Item.inst (it : Item) : Nat := (it.adhoc.map adhocInst).getD it.step

/-- The chunk that an ENCODE writes (R192, R237). -/
def State.encodeChunk (s : State) (it : Item) (c : Nat) : Nat :=
  s.chunkOf c ((s.encodeSpan it).2.1 * srcSize (s.seg (s.ctx (rowStream it.row))))

/-- Whether an ENCODE would make a further chunk of its stream wait (R246): a chunk that waits already is one whose partial sum,
result or further part is encoded. -/
def State.startsWait (s : State) (it : Item) (c : Nat) : Bool :=
  let k := s.encodeChunk it c
  decide (rowOpcode it.row = opEncode) && s.needsResult c k &&
    !(s.col.waiting.any fun w => w.own && decide (w.stream = rowStream it.row) && decide (w.entry = c) && decide (w.chunk = k)
      && decide (w.inst = it.inst))

/-- Whether R245 or R246 keeps an item in ISSUED. -/
def State.chunkHeld (s : State) (it : Item) : Bool :=
  match rowEntry it.row with
  | none => false
  | some c =>
    (s.startsChunk it && decide (s.f F.COL_ENTRY_D_DEPTH c ≤ s.holdingNow (rowStream it.row))) ||
    (s.startsWait it c && decide (s.f F.COL_ENTRY_D_WAITING c ≤ s.waitingNow (rowStream it.row)))

/-- A chunk that has started on its way to its result. -/
def Waiting.new (stream c k inst : Nat) (own : Bool) : Waiting :=
  { stream := stream, entry := c, chunk := k, inst := inst, own := own, summed := 0, done := 0 }

/-- The commit of an ENCODE: its chunk stops holding input and begins to wait (R245, R246). -/
def State.noteEncoded (s : State) (it : Item) : State :=
  match rowEntry it.row with
  | none => s
  | some c =>
    let st := rowStream it.row
    let w := if s.startsWait it c then [Waiting.new st c (s.encodeChunk it c) it.inst true] else []
    { s with col := { s.col with holding := Holding.take st (rowSrc it.row) s.col.holding, waiting := s.col.waiting ++ w } }

/-- Whether a committed cross-site sum (`sum`) or DECODE is a result of its chunk (R240, R241): of the DECODEs of a ring-form
ALL_REDUCE, those after the chunk's cross-site sum. -/
def State.isResult (s : State) (c : Nat) (w : Waiting) (sum : Bool) (len : Nat) : Bool :=
  if sum then s.resultIsSum c
  else !s.resultIsSum c && (!s.needsSum c w.chunk || decide (len ≤ w.summed))

/-- The commit of a cross-site REDUCE (`sum`) or DECODE of an item that stands for `len` bytes of input from byte `off` of its segment
(R246): a chunk whose whole result has committed stops waiting and counts in its entry's current instance. A chunk is told by its entry,
number and instance (log entry 15). -/
def State.noteResult (s : State) (it : Item) (sum : Bool) (off len : Nat) : State :=
  match rowEntry it.row with
  | none => s
  | some c =>
    let st := rowStream it.row
    let k := s.chunkOf c off
    let here (w : Waiting) : Bool := decide (w.entry = c) && decide (w.chunk = k) && decide (w.inst = it.inst)
    let all := if s.col.waiting.any here then s.col.waiting else s.col.waiting ++ [Waiting.new st c k it.inst false]
    let size := s.chunkLen c (((all.find? here).map Waiting.stream).getD st) k
    let add (w : Waiting) : Waiting :=
      if s.isResult c w sum size then { w with done := w.done + len } else if sum then { w with summed := w.summed + len } else w
    let ws := lmodify here add all
    let whole (w : Waiting) : Bool := here w && decide (size ≤ w.done)
    if ws.any whole then
      { s with col := { s.col with
          waiting := ws.eraseP whole
          chunksDone := tput c (min 0xFFFFFF ((tfind c s.col.chunksDone).getD 0 + 1)) s.col.chunksDone } }
    else { s with col := { s.col with waiting := ws } }

/-- Where the values of a REDUCE's source stand in their segment, by the record of the DECODE that wrote them; in a group of one site,
where the source of another site's contribution is absent (R268), the oldest chunk of its entry that waits. -/
def State.recSpan (s : State) (it : Item) : Nat × Nat :=
  match s.arr.decRecs.find? fun r => r.dst = rowSrcBits it.row with
  | some r => (r.off, r.len)
  | none => match s.col.waiting.find? fun w => decide (rowEntry it.row = some w.entry) && w.own with
    | some w => (w.chunk * s.chunkSize w.entry, s.chunkSize w.entry)
    | none => (0, 0)

/-- What is forgotten of the chunks of the steps up to a Meridian, or of an ended ad hoc instance: a chunk whose instance failed leaves
so (log entry 15). -/
def State.dropWaiting (s : State) (p : Nat → Bool) : State :=
  { s with col := { s.col with waiting := s.col.waiting.filter fun w => !p w.inst } }

/-- The current instance of an entry becomes that of an item's step, or of its ad hoc ID (COL_INST, COL_INST_STEP). -/
def State.noteInstance (s : State) (it : Item) : State :=
  match rowEntry it.row with
  | none => s
  | some c =>
    let n := it.adhoc.getD it.step
    if tfind c s.col.instStep = some n then s
    else { s with col := { s.col with
      instStep := tput c n s.col.instStep, chunksDone := tput c 0 s.col.chunksDone, failed := s.col.failed.filter (· ≠ c) } }

end Sys2Proof.Machine
end

