-- ==== Sys2Proof/Machine/Array.lean ====
section
/-! DEFINITION. The reduction and projection array: REDUCE on the exact lanes with rebuild (R116 to R130, R141 to R146),
PROJECT and ORTHO on the array with redo (R131 to R140, R144 to R152). -/

namespace Sys2Proof.Machine

/-! ### The lanes -/

/-- The checksum record of a DECODE that wrote these values (R142, R213). -/
def decRecOf (dst : Nat) (vs : List Val) : DecRec :=
  { dst := dst, off := 0, len := 0
    sum := vs.foldl (fun a v => match v with | .fin _ x => a.add x | _ => a) Dy.zero
    count := vs.length
    posInf := (vs.filter fun v => v = .inf false).length
    negInf := (vs.filter fun v => v = .inf true).length
    nan := (vs.filter fun v => v = .nan).length }

/-- Exponent of bit 0 of a stream's accumulators (R118, R119). -/
def State.accBase (s : State) (stream : Nat) : Int :=
  let fmt := (s.ctx stream).inFmt
  if fmt = 0 ∨ fmtIsMx fmt then (tfind stream s.arr.winTop).getD (s.ctx stream).winTop.toInt - 255 else fixedBase

def State.entry (s : State) (stream e : Nat) : Entry := tget (fun _ => Entry.zero) s.arr.acc (accKey stream e)

/-- REDUCE items of a stream that have started and not yet added. -/
def State.addsDue (s : State) (stream : Nat) : Nat :=
  (s.seq.items.filter fun it => it.running ∧ it.phase = 0 ∧ rowOpcode it.row = opReduce ∧ rowStream it.row = stream).length

/-- A REDUCE of a group of one site whose decoded contribution never came: it adds nothing (R268). -/
def State.absent (s : State) (it : Item) : Bool :=
  s.solo it.row && (s.ctx (rowStream it.row)).decoded && !(s.arr.decRecs.any fun r => r.dst = rowSrcBits it.row)

/-- How the lanes answer an issued REDUCE: R142's missing record, R127's full count. -/
def State.startReduce (s : State) (it : Item) : StartRes :=
  let stream := rowStream it.row
  let c := s.ctx stream
  let n := (s.reduceVals it).length
  if s.absent it then .go
  else if c.decoded && !(s.arr.decRecs.any fun r => r.dst = rowSrcBits it.row) then .refuse .refusedFit
  else if (List.range n).any fun e => c.expect < (s.entry stream e).contrib + s.addsDue stream + 1 then
    .refuse .refusedBusy
  else .go

/-- A REDUCE of the stream has its chunk's entries under rebuild (R146). -/
def State.rebuilding (s : State) (stream : Nat) : Bool :=
  s.seq.items.any fun it => it.running ∧ it.phase = 2 ∧ rowOpcode it.row = opReduce ∧ rowStream it.row = stream

/-- The additions of a REDUCE (R121 to R123), with the counts of R122 and of the lanes. -/
def State.addReduce (s : State) (it : Item) (fx : Fx) : State :=
  let stream := rowStream it.row
  let vals := s.reduceVals it
  let clear := !(s.arr.acc.any fun kv => decide (kv.1 / 2 ^ 24 = stream))
  let s1 : State := if clear then
      { s with arr := { s.arr with winTop := tput stream (s.ctx stream).winTop.toInt s.arr.winTop } } else s
  let conv := s1.laneConv stream
  let ins := vals.filterMap fun v => match v with | .fin _ x => some (conv x) | _ => none
  let low := (ins.filter LaneIn.low).length
  let high := (ins.filter LaneIn.high).length
  let hs := s.homeSector it fx
  let home := if clear then tput stream hs s1.arr.home else s1.arr.home
  let s2 : State := { s1 with arr := { s1.arr with acc := foldVals conv 1 stream 0 vals s1.arr.acc, home := home } }
  let s3 := ((s2.count F.ARR_WIN_LOW_COUNT low).count F.ARR_WIN_HIGH_COUNT high).eventIf (decide (0 < low + high))
    F.ARR_EVENTS_WIN_CLIP
  let s4 := s3.laneOps hs.1 vals.length
  if (s.ctx stream).decoded then s4 else s4.laneOps hs.2 vals.length

/-- A sum with its four count fields, as the lanes compare them (R141). -/
structure LaneSum where
  sum : BitVec 320
  contrib : Nat
  posInf : Nat
  negInf : Nat
  nan : Nat
  deriving DecidableEq, Repr

/-- The checksum of an item's input that the shadow's lanes compute from their copy (R141). -/
def shadowSum (conv : Dy → LaneIn) (vs : List Val) : LaneSum :=
  let a := vs.foldl (fun a v => a.fold conv 1 v) Entry.zero
  { sum := a.sum, contrib := a.contrib, posInf := a.posInf, negInf := a.negInf, nan := a.nan }

/-- The sum of (entry after - entry before) over the `n` entries of a stream (R141). -/
def State.homeSum (before after : State) (stream n : Nat) : LaneSum :=
  let total (g : Entry → Nat) : Nat := ((List.range n).map fun e => g (after.entry stream e) - g (before.entry stream e)).sum
  { sum := ((List.range n).map fun e => (after.entry stream e).sum - (before.entry stream e).sum).foldl (· + ·) 0
    contrib := total Entry.contrib, posInf := total Entry.posInf, negInf := total Entry.negInf, nan := total Entry.nan }

/-- The checksum record of the DECODE that wrote a REDUCE's source differs from the values read there (R142). -/
def State.recDiffers (s : State) (it : Item) : Bool :=
  match s.arr.decRecs.find? fun r => r.dst = rowSrcBits it.row with
  | some r =>
    let x := decRecOf r.dst (s.reduceVals it)
    decide ((r.sum.sub x.sum).m ≠ 0) || decide ((r.count, r.posInf, r.negInf, r.nan) ≠ (x.count, x.posInf, x.negInf, x.nan))
  | none => false

/-- Whether the two sides that R141 or R142 has the gateway compare differ, or two rounding units do (R143). `fx.mismatch` says that
a fault of the hardware made them differ; without one the home's entries gain what the shadow's checksum says, so only a DECODE's
record can differ, from values written over since. -/
def State.reduceDiffers (s : State) (it : Item) (fx : Fx) : Bool :=
  let stream := rowStream it.row
  let t := s.addReduce it fx
  fx.mismatch || (if (s.ctx stream).decoded then s.recDiffers it
    else decide (shadowSum (t.laneConv stream) (s.reduceVals it) ≠ s.homeSum t stream (s.reduceVals it).length))

/-- Whether every entry of a rounding REDUCE holds the expected count (R125). -/
def State.countsFull (s : State) (it : Item) : Bool :=
  let stream := rowStream it.row
  (List.range (s.reduceVals it).length).all fun e => (s.entry stream e).contrib = (s.ctx stream).expect ∨ (s.solo it.row ∧ 1 ≤ (s.entry stream e).contrib)

/-- Codes that are infinite or NaN in a format. -/
def nonFinite (f : Fmt) (codes : List Nat) : Nat := (codes.filter fun c => !(f.decode c).finite).length

/-- The shadow copies of a chunk's contributions freed when its reduction has committed (R25); what the image declares mirrored keeps
both copies. -/
def State.freeShadows (s : State) (ds : List Desc) : State :=
  let mine := ds.filter fun d => decide (d.tier = 0) && !s.mirroredDesc d
  let add (l : List (Nat × Nat)) (d : Desc) : List (Nat × Nat) :=
    rangesCut l (memKey d.tier d.addr) d.len ++ [(memKey d.tier d.addr, d.len)]
  { s with mem := { s.mem with unshadowed := mine.foldl add s.mem.unshadowed } }

/-- The SRC descriptors of the contributions committed to a stream's entries (R146). -/
def State.chunkSrcs (s : State) (stream : Nat) : List Nat := (tfind stream s.arr.chunk).getD []

/-- A contribution committed: its source is remembered until the chunk's reduction commits (R146). -/
def State.noteContribution (s : State) (it : Item) : State :=
  { s with arr := { s.arr with chunk := tput (rowStream it.row) (s.chunkSrcs (rowStream it.row) ++ [rowSrcBits it.row]) s.arr.chunk } }

/-- The commit of a REDUCE: the rounded results written, counted and its region cleared when DST is used (R124, R126). -/
def State.commitReduce (s : State) (it : Item) (sector : Nat) : State :=
  let stream := rowStream it.row
  let s0 := if s.capped then s.degrade it.id else s
  if rowDstValid it.row then
    let f := (fmtOf (s.ctx stream).outFmt).getD .fp32
    let codes := (List.range (s.reduceVals it).length).map fun e => (s.entry stream e).round f (s.accBase stream)
    let d := rowDst it.row
    let s1 := s0.wrBytes d.tier d.addr ((encodeCodes f codes).take d.len)
    let bad := nonFinite f codes
    let s2 := (s1.count F.ARR_NONFINITE_COUNT bad).eventIf (decide (0 < bad)) F.ARR_EVENTS_NONFINITE
    let at_ := s.recSpan it
    let s3 := if (s.ctx stream).decoded then s2.noteResult it true at_.1 at_.2 else s2.noteSiteSum it
    let s4 := (s3.freeShadows ((s.chunkSrcs stream ++ [rowSrcBits it.row]).map descOf)).commitItem it.id sector
    { s4 with arr := s4.arr.clearAcc stream }
  else (s0.noteContribution it).commitItem it.id sector

/-- After its additions a REDUCE commits, or waits for the full count (R125). -/
def State.settleReduce (s : State) (it : Item) (sector : Nat) : State :=
  if !rowDstValid it.row || s.countsFull it then s.commitReduce it sector
  else s.updItem it.id fun i => if i.phase = 1 ∨ i.phase = phAbsent then i else { i with phase := 1, phaseAt := s.now }

/-- A mismatch in a REDUCE (R146): the home sector charged, the shadow sector rebuilds, a third sector checks, and every
item of the chunk in flight ends degraded. -/
def State.mismatchReduce (s : State) (it : Item) (fx : Fx) : State :=
  let hs := s.homeSector it fx
  let s1 := (s.chargeMismatch hs.1 0 it).count F.ARR_REDO_COUNT
  let third := (s1.helper hs.1 [hs.1, hs.2]).getD hs.2
  let s2 := (s1.updItem it.id fun i => { i with phase := 2, phaseAt := s.now })
  let mark (i : Item) : Item :=
    if rowOpcode i.row = opReduce ∧ rowStream i.row = rowStream it.row then { i with degraded := true } else i
  let help := s2.arr.helping ++ [(hs.2, it.id), (third, it.id)]
  { s2 with arr := { s2.arr with helping := help }, seq := { s2.seq with items := s2.seq.items.map mark } }

/-- Helping work for an item ended. -/
def State.helpDone (s : State) (id : Nat) : State :=
  { s with arr := { s.arr with helping := s.arr.helping.filter fun h => h.2 ≠ id } }

/-- The lanes work on a running REDUCE (R124): it adds, and then commits, waits for the count of R125, or enters the
rebuild of R146. -/
def State.runReduce (s : State) (it : Item) (fx : Fx) : State :=
  if s.rebuilding (rowStream it.row) then s
  else if it.phase = 0 ∧ s.absent it then
    (s.updItem it.id fun i => { i with phase := phAbsent, phaseAt := s.now }).settleReduce it fx.sector
  else if it.phase = 0 then
    match s.readSrc it.id (rowSrc it.row) fx with
    | (.failed, s1) => s1.endItem it.id .failedChecksum fx.sector
    | (_, s1) =>
      let s2 := (s1.addReduce it fx).updItem it.id fun i => { i with phase := 1, phaseAt := s.now }
      if s1.reduceDiffers it fx then s2.mismatchReduce it fx else s2.settleReduce it fx.sector
  else if (it.phase = 1 ∨ it.phase = phAbsent) ∧ s.countsFull it then
    if fx.mismatch then s.mismatchReduce it fx else s.commitReduce it fx.sector
  else s

/-- REDUCE (R124 to R130, R141 to R143). -/
def execReduce (id : Nat) (fx : Fx) (s : State) : Host.Outcome State Fault Refusal :=
  match s.runningItem id opReduce with
  | none => .next s
  | some it => s.within (rowSrc it.row :: if rowDstValid it.row then [rowDst it.row] else []) (s.runReduce it fx)

/-- The values that a descriptor's bytes hold in a stream's input format. -/
def State.valsAt (s : State) (stream : Nat) (d : Desc) : List Val := decodeElems (s.ctx stream).inFmt (s.rdBytes d.tier d.addr d.len)

/-- Sources of every contribution that a rebuild adds (R146): those committed to the chunk, and those of its items in flight that have
added, the current item's among them. -/
def State.rebuildSrcs (s : State) (stream : Nat) : List Nat :=
  s.chunkSrcs stream ++ (s.seq.items.filter fun i => i.running && i.added && decide (rowStream i.row = stream)).map fun i => rowSrcBits i.row

/-- The entries of a chunk dropped and rebuilt from the shadow copies (R146, steps 1 and 2); the latched window stays (R121). -/
def State.rebuildAcc (s : State) (stream : Nat) : State :=
  let clear := s.arr.acc.filter fun kv => decide (kv.1 / 2 ^ 24 ≠ stream)
  let conv := s.laneConv stream
  { s with arr := { s.arr with
      acc := (s.rebuildSrcs stream).foldl (fun t b => foldVals conv 1 stream 0 (s.valsAt stream (descOf b)) t) clear } }

/-- The sector that rebuilt a chunk becomes its home, and its pages get shadow copies in a healthy sector of another base die (R146,
steps 3 and 4). -/
def State.rehomeChunk (s : State) (stream sector : Nat) : State :=
  let one (s : State) (k : Nat) : State :=
    match tfind k s.mem.pages with
    | some p =>
      if k < areaKey 0 ∧ p.secondary = some sector then
        let p1 : Page := { p with primary := sector, secondary := none, mirrored := true }
        (s.setPage k p1).remirrorPage k
      else s
    | none => s
  let ks := ((s.rebuildSrcs stream).flatMap fun b => (descOf b).pages).dedup
  let s1 := ks.foldl one s
  let shadow := (s1.healthyList.find? fun n => decide (baseDie n ≠ baseDie sector)).getD 0xFF
  { s1 with arr := { s1.arr with home := tput stream (sector, shadow) s1.arr.home } }

/-- REDUCE_REBUILD_DONE (R146, R148): the rebuild has completed; `again` says its check mismatched, `sector` rebuilt. -/
def execReduceRebuildDone (id sector : Nat) (again : Bool) (s : State) : Host.Outcome State Fault Refusal :=
  match s.runningItem id opReduce with
  | none => .next s
  | some it =>
    if it.phase ≠ 2 then .next s
    else
      let s1 := (s.helpDone id).updItem id fun i => { i with phase := 1, phaseAt := s.now }
      if again then
        .next (((s1.chargeMismatch sector 0 it).event F.ARR_EVENTS_REDO_FAILED).endItem id .failedChecksum sector)
      else s.within (rowSrc it.row :: if rowDstValid it.row then [rowDst it.row] else []) (((s1.rebuildAcc (rowStream it.row)).rehomeChunk (rowStream it.row) sector).settleReduce it sector)


/-! ### The array -/

/-- The operand header of a row's SRC region (R135). -/
def State.opHdr (s : State) (r : Row256) : OpHdr := opHdrOf (s.rdBytes (rowSrc r).tier (rowSrc r).addr 64)

/-- Whether R137 refuses a PROJECT or ORTHO with REFUSED_FIT. -/
def State.badHdr (s : State) (r : Row256) : Bool :=
  let h := s.opHdr r
  let mx := fmtIsMx h.inFmt || fmtIsMx h.otherFmt
  h.reserved || decide (9 < h.inFmt) || decide (9 < h.otherFmt) || decide (4 < h.outFmt) || decide (3 < h.kind)
  || decide (h.rank = 0) || decide (256 < h.rank)
  || (decide (h.kind = 1) && (decide (h.start % 64 ≠ 0) || decide (h.len % 64 ≠ 0)))
  || (decide (h.kind = 2) && (decide (h.start % (64 * h.cols) ≠ 0) || decide (h.len % (64 * h.cols) ≠ 0)))
  || (decide (rowOpcode r = opOrtho) != decide (h.kind = 3)) || decide (h.kind = 0)
  || !s.reserved (descOf h.other) || !s.reserved (descOf h.acc)
  || (mx && !s.reserved (descOf h.scales)) || (!mx && decide (h.scales ≠ 0))

/-- Whether R152 refuses an item for its accumulator. -/
def State.badAcc (s : State) (r : Row256) : Bool :=
  let d := descOf (s.opHdr r).acc
  s.exact && decide (d.tier = 0) && !s.mirroredDesc d

/-- The level an array item asks for (FORECAST section; log entry 11). -/
def State.itemLevel (s : State) (r : Row256) : Nat :=
  let h := s.opHdr r
  Config.arrayLevel h.inFmt h.otherFmt s.healthyList.length

/-- The announced level that starts of array items may use now (R92, R93): that of the newest FORECAST issued at least
20 µs ago. -/
def State.startLevel (s : State) : Nat :=
  match (s.seq.forecasts.filter fun f => s.elapsed f.at_ 20000).getLast? with
  | some f => f.level
  | none => 0

/-- How the array answers an issued PROJECT or ORTHO (R92, R131, R137, R152). -/
def State.startArray (s : State) (it : Item) : StartRes :=
  if s.badHdr it.row then .refuse .refusedFit
  else if s.badAcc it.row then .refuse .refusedMode
  else if s.arrayItem.isSome || decide (s.startLevel < s.itemLevel it.row) then .wait
  else .go

/-- Values of `n` elements of a format from an address, MX elements scaled by their blocks' bytes: element `i` by scale
byte `blk i` of the list. -/
def State.elems (s : State) (fmt tier addr n : Nat) (scales : List Byte) (blk : Nat → Nat) : List Val :=
  match fmtOf fmt with
  | none => []
  | some f =>
    let codes := bitFields (fmtBits fmt) n (leNat (s.rdBytes tier addr ((n * fmtBits fmt + 7) / 8)))
    if fmtIsMx fmt then
      codes.zipIdx.map fun (c, i) =>
        let x := ((scales[blk i]?).getD 0).toNat
        if x = 0xFF then .nan else (f.decode c).scale ((x : Int) - 127)
    else codes.map f.decode

/-- The fixed binary tree of a tile (R132); each node rounds into `f`. DESIGN CHOICE (log entry 93): a node adds the two halves of
its stretch of neighbouring products. -/
def treeSum (f : Fmt) : Nat → List Val → Val
  | 0, vs => vs.headD (.fin false Dy.zero)
  | d + 1, vs => (Val.add (treeSum f d (vs.take (2 ^ d))) (treeSum f d (vs.drop (2 ^ d)))).round f

/-- A tile partial: 64 exact products summed in the tree and rounded once to FP32 (R132). -/
def tilePartial (wide : Bool) (a b : List Val) : Val :=
  (treeSum (if wide then .fp64 else .fp32) 6 (List.zipWith Val.mul a b)).round .fp32

/-- The projection layout (R133). -/
def toProj (v : Dy) : LaneIn := ⟨v.m * 2 ^ (v.e + 149).toNat, false, false⟩

/-- A value of a list, zero past its end. -/
def valAt (l : List Val) (i : Nat) : Val := l.getD i (.fin false Dy.zero)

/-- A tile of a product (R132): the entry it folds into, and its 64 pairs of operands. -/
structure Tile where
  entry : Nat
  a : List Val
  b : List Val
  deriving DecidableEq, Repr

/-- Whether tiles are summed in binary64 (R132). -/
def OpHdr.wide (h : OpHdr) : Bool := decide (h.inFmt = 0) || decide (h.otherFmt = 0)

/-- The tiles of a FORWARD piece (R132, R136). DESIGN CHOICE (log entry 93): where COLS is no multiple of 64, a tile that runs on into the
next row of M belongs to the row of its first element, and elements past the piece read zero. -/
def forwardParts (h : OpHdr) (m q : List Val) : List Tile :=
  (List.range (h.len / 64)).flatMap fun t =>
    let i0 := h.start + 64 * t
    let a := (List.range 64).map fun k => valAt m (64 * t + k)
    (List.range h.rank).map fun c =>
      { entry := i0 / h.cols * h.rank + c, a := a, b := (List.range 64).map fun k => valAt q ((i0 + k) % h.cols * h.rank + c) }

/-- The tiles of a BACKWARD piece (R132, R136). -/
def backwardParts (h : OpHdr) (m p : List Val) : List Tile :=
  (List.range (h.len / (64 * h.cols))).flatMap fun b =>
    let row0 := h.start / h.cols + 64 * b
    (List.range h.cols).flatMap fun j =>
      let a := (List.range 64).map fun k => valAt m ((64 * b + k) * h.cols + j)
      (List.range h.rank).map fun c =>
        { entry := j * h.rank + c, a := a, b := (List.range 64).map fun k => valAt p ((row0 + k) * h.rank + c) }

/-- The partial of a tile, with its entry. -/
def Tile.fold (wide : Bool) (t : Tile) : Nat × Val := (t.entry, tilePartial wide t.a t.b)

/-! ### Checksums of products -/

/-- An exact sum of finite values; infinities and NaN add nothing. -/
def dySum (vs : List Val) : Dy := vs.foldl (fun a v => match v with | .fin _ x => a.add x | _ => a) Dy.zero

/-- One comparison of R144 over the tiles of one element of the checksum column or row: it fails when the sum of the tile partials and
the checksum differ by more than 2^-tol times the sum of the magnitudes. DESIGN CHOICE (log entry 94): the checksum cells round
nothing, and tiles with a non-finite partial are not compared. -/
def sumsDiffer (wide : Bool) (tol : Nat) (ts : List Tile) : Bool :=
  let ps := ts.map fun t => (t.fold wide).2
  let check := ts.foldl (fun a t => a.add (dySum (List.zipWith Val.mul t.a t.b))) Dy.zero
  let mags := (ps.map fun v => match v with | .fin n x => .fin n x.abs | v => v)
  ps.all Val.finite && (((dySum mags).add check.abs).scale (-(tol : Int))).lt ((dySum ps).sub check).abs

/-- The checksum column or the checksum row of a product with `r` result columns differs from its tile partials (R144). -/
def tilesDiffer (wide : Bool) (tol r : Nat) (ts : List Tile) : Bool :=
  let column := (ts.map fun t => t.entry / r).dedup
  let row := (ts.map fun t => t.entry % r).dedup
  (column.any fun i => sumsDiffer wide tol (ts.filter fun t => t.entry / r = i)) ||
    row.any fun c => sumsDiffer wide tol (ts.filter fun t => t.entry % r = c)

/-- The scale byte of element `i` of the piece: blocks of 32 along the reduction dimension (R115; log entry 8). -/
def pieceBlk (h : OpHdr) (i : Nat) : Nat := if h.kind = 2 then i / h.cols / 32 * h.cols + i % h.cols else i / 32

/-- The scale byte of element `i` of the resident operand, after those of an MX piece (log entry 8). -/
def otherBlk (h : OpHdr) (i : Nat) : Nat :=
  (if fmtIsMx h.inFmt then h.len / 32 else 0) + (i / h.rank / 32 * h.rank + i % h.rank)

/-- Rows of the resident operand. -/
def otherRows (h : OpHdr) : Nat := if h.kind = 2 then h.rows else h.cols

/-- The tiles of a piece (R136). -/
def State.pieceParts (s : State) (r : Row256) : List Tile :=
  let h := s.opHdr r
  let sd := descOf h.scales
  let scales := if fmtIsMx h.inFmt ∨ fmtIsMx h.otherFmt then s.rdBytes sd.tier sd.addr sd.len else []
  let m := s.elems h.inFmt (rowSrc r).tier ((rowSrc r).addr + 64) h.len scales (pieceBlk h)
  let od := descOf h.other
  let o := s.elems h.otherFmt od.tier od.addr (otherRows h * h.rank) scales (otherBlk h)
  if h.kind = 2 then backwardParts h m o else forwardParts h m o

/-- The tile partials of a piece (R132). -/
def State.pieceTiles (s : State) (r : Row256) : List (Nat × Val) := (s.pieceParts r).map (Tile.fold (s.opHdr r).wide)

/-- Whether the checksums of a piece mismatch (R144). -/
def State.pieceDiffers (s : State) (r : Row256) : Bool :=
  tilesDiffer (s.opHdr r).wide (s.f F.ARR_ABFT_TOL) (max 1 (s.opHdr r).rank) (s.pieceParts r)

/-- The accumulator entry `e` of an accumulator region in memory (R133, R135). -/
def State.memEntry (s : State) (d : Desc) (e : Nat) : Entry := Entry.ofBytes (s.rdBytes d.tier (d.addr + 48 * e) 48)

def State.setMemEntry (s : State) (d : Desc) (e : Nat) (a : Entry) : State := s.wrBytes d.tier (d.addr + 48 * e) a.bytes

/-- Tile partials folded into an accumulator region (R133, R145). -/
def State.foldTiles (s : State) (d : Desc) (ts : List (Nat × Val)) : State :=
  ts.foldl (fun s t => s.setMemEntry d t.1 ((s.memEntry d t.1).fold toProj 1 t.2)) s

/-- Output elements of a PROJECT and the count each expects (R136, R137). -/
def outCount (h : OpHdr) : Nat := (if h.kind = 2 then h.cols else h.rows) * h.rank
def tileCount (h : OpHdr) : Nat := (if h.kind = 2 then h.rows else h.cols) / 64

/-- Whether every entry of a rounding piece's accumulation holds the expected count. -/
def State.projectFull (s : State) (h : OpHdr) : Bool :=
  (List.range (outCount h)).all fun e => (s.memEntry (descOf h.acc) e).contrib = tileCount h

/-- The codes a rounding piece writes (R133). -/
def State.projectCodes (s : State) (h : OpHdr) : List Nat :=
  let f := (fmtOf h.outFmt).getD .fp32
  (List.range (outCount h)).map fun e => (s.memEntry (descOf h.acc) e).round f (-149)

/-- The commit of an array item whose results are these codes: DST written when used, the array free for its next item
(R80, R131). -/
def State.commitArray (s : State) (it : Item) (h : OpHdr) (codes : List Nat) (sector : Nat) : State :=
  let f := (fmtOf h.outFmt).getD .fp32
  let bad := nonFinite f codes
  let s0 := if s.capped then s.degrade it.id else s
  let s1 := if rowDstValid it.row then
      ((s0.wrBytes (rowDst it.row).tier (rowDst it.row).addr ((encodeCodes f codes).take (rowDst it.row).len)).count
        F.ARR_NONFINITE_COUNT bad).eventIf (decide (0 < bad)) F.ARR_EVENTS_NONFINITE
    else s0
  s1.commitItem it.id sector

/-- After its fold a PROJECT commits, or waits for the full count (R137). -/
def State.settleProject (s : State) (it : Item) (sector : Nat) : State :=
  let h := s.opHdr it.row
  if !rowDstValid it.row then s.commitArray it h [] sector
  else if s.projectFull h then s.commitArray it h (s.projectCodes h) sector
  else s.updItem it.id fun i => if i.phase = 1 then i else { i with phase := 1, phaseAt := s.now }

/-- The folding of a piece, once its checksums have matched (R145). -/
def State.foldPiece (s : State) (it : Item) (sector : Nat) : State :=
  let h := s.opHdr it.row
  (s.foldTiles (descOf h.acc) (s.pieceTiles it.row)).settleProject it sector

/-- Folds made into an accumulator region (R133, R164). -/
def State.makeFolds (s : State) (d : Desc) (fs : List PpeFold) : State :=
  fs.foldl (fun s f =>
    let a := (s.memEntry d f.entry).fold toProj 1 (Fmt.fp32.decode f.code)
    s.setMemEntry d f.entry { a with contrib := a.contrib + f.count - 1 }) s

/-- The folds that a PPE item has made ready and not yet folded (R165). -/
def State.heldFolds (s : State) (id : Nat) : List PpeFold := (tfind id s.ppe.held).getD []

/-- The commit of a PROJECT with what it still has to fold (R165): a rounding one waits until its own folds would fill the count
(R137; DESIGN CHOICE, log entry 95). -/
def State.settleHeld (s : State) (it : Item) (sector : Nat) : State :=
  let h := s.opHdr it.row
  let t := s.makeFolds (descOf h.acc) (s.heldFolds it.id)
  if !rowDstValid it.row || t.projectFull h then t.settleProject it sector
  else s.updItem it.id fun i => if i.phase = 1 then i else { i with phase := 1, phaseAt := s.now }

/-- Phases of an array item whose work another sector does again: its tiles (R147), or its rounding (R143). -/
def phRedo : Nat := 3
def phReround : Nat := 4

/-- A mismatch in an array item (R143, R147, R149): the sector charged, another sector redoes the work. -/
def State.mismatchArray (s : State) (it : Item) (sector phase : Nat) : State :=
  let h := s.opHdr it.row
  let cls := if rowOpcode it.row = opOrtho then 3 else loadClass h.inFmt h.otherFmt
  let s1 := (s.chargeMismatch sector cls it).count F.ARR_REDO_COUNT
  let other := (s1.helper sector []).getD sector
  ({ s1 with arr := { s1.arr with helping := s1.arr.helping ++ [(other, it.id)] } }).updItem it.id
    fun i => { i with phase := phase, phaseAt := s.now, degraded := true }

/-- The descriptors a PROJECT on the array touches. -/
def State.projectDescs (s : State) (r : Row256) : List Desc :=
  let h := s.opHdr r
  let need (d : Desc) (n : Nat) : Desc := { d with len := n }
  [need (rowSrc r) (max (rowSrc r).len (64 + (h.len * fmtBits h.inFmt + 7) / 8)),
   need (descOf h.other) ((otherRows h * h.rank * fmtBits h.otherFmt + 7) / 8),
   need (descOf h.acc) (48 * outCount h)] ++ (if rowDstValid r then [rowDst r] else [])

/-- The scales that an MX operand needs. -/
def OpHdr.scaleDescs (h : OpHdr) : List Desc := if fmtIsMx h.inFmt ∨ fmtIsMx h.otherFmt then [descOf h.scales] else []

/-- The operands of a PROJECT read (R28, R36): its piece, its resident operand, its accumulator and its scales. -/
def State.readOps (s : State) (it : Item) (fx : Fx) : ReadEnd × State :=
  let h := s.opHdr it.row
  let r := s.readSrc it.id (rowSrc it.row) fx
  r.2.readAlso it.id r.1 ([descOf h.other, descOf h.acc] ++ h.scaleDescs)

/-- The array works on a running PROJECT without PPE. -/
def State.runProject (s : State) (it : Item) (fx : Fx) : State :=
  if it.phase = 0 then
    match s.readOps it fx with
    | (.failed, s1) => s1.endItem it.id .failedChecksum fx.sector
    | (_, s1) => if fx.mismatch || s1.pieceDiffers it.row then s1.mismatchArray it fx.sector phRedo else s1.foldPiece it fx.sector
  else if it.phase = 1 ∧ (s.makeFolds (descOf (s.opHdr it.row).acc) (s.heldFolds it.id)).projectFull (s.opHdr it.row) then
    if fx.mismatch then s.mismatchArray it fx.sector phReround else s.settleHeld it fx.sector
  else s

/-- PROJECT (R131 to R137, R144). An item with the PPE flag belongs to the engine's band commands. -/
def execProject (id : Nat) (fx : Fx) (s : State) : Host.Outcome State Fault Refusal :=
  match s.runningItem id opProject with
  | none => .next s
  | some it =>
    if rowPpe it.row ∧ it.phase = 0 then .next s
    else s.within (s.projectDescs it.row) (s.runProject it fx)

/-! ### Orthogonalisation -/

/-- A value of a list of `n` rows and `r` columns; zero outside. -/
def matAt (n r : Nat) (l : List Val) (i j : Nat) : Val := if i < n ∧ j < r then valAt l (i * r + j) else .fin false Dy.zero

/-- The tiles of P·B, P being n × r and B r × r (R138). -/
def applyParts (n r : Nat) (p b : List Val) : List Tile :=
  (List.range (n * r)).flatMap fun e => (List.range ((r + 63) / 64)).map fun t =>
    { entry := e, a := (List.range 64).map fun k => matAt n r p (e / r) (64 * t + k)
      b := (List.range 64).map fun k => matAt r r b (64 * t + k) (e % r) }

/-- The tiles of the Gram matrix Pᵀ·P (R138). -/
def gramParts (n r : Nat) (p : List Val) : List Tile :=
  (List.range (r * r)).flatMap fun e => (List.range ((n + 63) / 64)).map fun t =>
    { entry := e, a := (List.range 64).map fun k => matAt n r p (64 * t + k) (e / r)
      b := (List.range 64).map fun k => matAt n r p (64 * t + k) (e % r) }

/-- `cnt` entries with the tiles of a product folded in exactly (R133). -/
def foldedEntries (cnt : Nat) (ts : List Tile) : List Entry :=
  (List.range cnt).map fun e => (ts.filter fun t => t.entry = e).foldl (fun a t => a.fold toProj 1 (t.fold true).2) Entry.zero

/-- Codes of a product as FP32 (R138). -/
def roundedEntries (es : List Entry) : List Nat := es.map fun a => a.round .fp32 (-149)

/-- An FP32 code as an exact number, zero where it is not finite. -/
def codeDy (c : Nat) : Dy := match Fmt.fp32.decode c with | .fin _ x => x | _ => Dy.zero

/-- A code of an r × r matrix. -/
def codeAt (r : Nat) (m : List Nat) (i j : Nat) : Nat := m.getD (i * r + j) 0

/-- `g - Σ a_k · b_k` over a list of pairs, by the free roundings of log entry 12. -/
def cholDot (g : Nat) (ab : List (Nat × Nat)) : Nat := ab.foldl (fun x p => Config.cholSub x p.1 p.2) g

/-- The bound of R139: 2^-24 times the largest diagonal element of G. -/
def pivotBound (r : Nat) (g : List Nat) : Dy :=
  (((List.range r).map fun j => codeDy (codeAt r g j j)).foldl (fun a x => if a.lt x then x else a) Dy.zero).scale (-24)

/-- One row of R from the rows above it (R138, R139): its codes, and whether its pivot was replaced by the bound. -/
def cholRow (r : Nat) (g : List Nat) (rows : List (List Nat)) (j : Nat) : List Nat × Bool :=
  let above (a b : Nat) : List (Nat × Nat) := rows.map fun x => (x.getD a 0, x.getD b 0)
  let d := cholDot (codeAt r g j j) (above j j)
  let low := !(pivotBound r g).lt (codeDy d)
  let piv := Config.cholSqrt (if low then Fmt.fp32.encode false (pivotBound r g) else d)
  ((List.range r).map fun i => if i < j then 0 else if i = j then piv else Config.cholDiv (cholDot (codeAt r g j i) (above j i)) piv, low)

/-- The factor R of G = Rᵀ·R, column after column (R138), and the pivots clamped (R139). -/
def cholesky (r : Nat) (g : List Nat) : List (List Nat) × Nat :=
  (List.range r).foldl (fun (a : List (List Nat) × Nat) j =>
    let x := cholRow r g a.1 j
    (a.1 ++ [x.1], if x.2 then a.2 + 1 else a.2)) ([], 0)

/-- Column `j` of the inverse of R, by substitution from the diagonal upward: the entries `j - k` to `j`. -/
def invColumn (rows : List (List Nat)) (j : Nat) : Nat → List Nat
  | 0 => [Config.cholDiv (Fmt.fp32.encode false ⟨1, 0⟩) ((rows.getD j []).getD j 0)]
  | k + 1 =>
    let below := invColumn rows j k
    let i := j - (k + 1)
    let row := rows.getD i []
    Config.cholDiv (cholDot 0 (below.zipIdx.map fun x => (row.getD (i + 1 + x.2) 0, x.1))) (row.getD i 0) :: below

/-- The inverse of R, row-major (R138). -/
def cholInverse (r : Nat) (rows : List (List Nat)) : List Nat :=
  let cols := (List.range r).map fun j => invColumn rows j j
  (List.range (r * r)).map fun e => (cols.getD (e % r) []).getD (e / r) 0

/-- The products of one round of an ORTHO (R138) of P: the tiles of G, the factor with its clamps, the tiles of P·R⁻¹. -/
def orthoProducts (n r : Nat) (p : List Val) : List Tile × Nat × List Tile :=
  let gram := gramParts n r p
  let f := cholesky r (roundedEntries (foldedEntries (r * r) gram))
  (gram, f.2, applyParts n r p ((cholInverse r f.1).map Fmt.fp32.decode))

/-- The P that an ORTHO works on, as FP32 values: its MX blocks lie along n, the reduction dimension of Pᵀ·P (R115). -/
def State.orthoInput (s : State) (r : Row256) : List Val :=
  let h := s.opHdr r
  let sd := descOf h.scales
  let scales := if fmtIsMx h.inFmt then s.rdBytes sd.tier sd.addr sd.len else []
  (s.elems h.inFmt (rowSrc r).tier ((rowSrc r).addr + 64) (h.rows * h.rank) scales
    fun i => i / h.rank / 32 * h.rank + i % h.rank).map fun v => v.round .fp32

/-- Both rounds of an ORTHO (R138). -/
def State.orthoRounds (s : State) (r : Row256) : (List Tile × Nat × List Tile) × (List Tile × Nat × List Tile) :=
  let h := s.opHdr r
  let a := orthoProducts h.rows h.rank (s.orthoInput r)
  let p := (roundedEntries (foldedEntries (h.rows * h.rank) a.2.2)).map Fmt.fp32.decode
  (a, orthoProducts h.rows h.rank p)

/-- The results of an ORTHO as codes of its output format, each rounded once from its entry (R133), and the pivots it clamped. -/
def State.orthoResult (s : State) (r : Row256) : List Nat × Nat :=
  let h := s.opHdr r
  let x := s.orthoRounds r
  let f := (fmtOf h.outFmt).getD .fp32
  ((foldedEntries (h.rows * h.rank) x.2.2.2).map fun a => a.round f (-149), x.1.2.1 + x.2.2.1)

/-- Whether the checksums of a product of an ORTHO mismatch (R144). -/
def State.orthoDiffers (s : State) (r : Row256) : Bool :=
  let x := s.orthoRounds r
  [x.1.1, x.1.2.2, x.2.1, x.2.2.2].any fun ts => tilesDiffer true (s.f F.ARR_ABFT_TOL) (max 1 (s.opHdr r).rank) ts

/-- The commit of an ORTHO. -/
def State.commitOrtho (s : State) (it : Item) (sector : Nat) : State :=
  let h := s.opHdr it.row
  let r := s.orthoResult it.row
  ((s.count F.ARR_ORTHO_CLAMP_COUNT r.2).eventIf (decide (0 < r.2)) F.ARR_EVENTS_ORTHO_CLAMP).commitArray it h r.1 sector

/-- The operands of an ORTHO read (R28, R36): P and its scales. -/
def State.readOrtho (s : State) (it : Item) (fx : Fx) : ReadEnd × State :=
  let h := s.opHdr it.row
  let r := s.readSrc it.id (rowSrc it.row) fx
  r.2.readAlso it.id r.1 (if fmtIsMx h.inFmt then [descOf h.scales] else [])

/-- ORTHO (R138, R139, R144). -/
def execOrtho (id : Nat) (fx : Fx) (s : State) : Host.Outcome State Fault Refusal :=
  match s.runningItem id opOrtho with
  | none => .next s
  | some it =>
    if it.phase ≠ 0 then .next s
    else
      let h := s.opHdr it.row
      let src : Desc := { rowSrc it.row with len := max (rowSrc it.row).len (64 + (h.rows * h.rank * fmtBits h.inFmt + 7) / 8) }
      s.within [src, rowDst it.row]
        (match s.readOrtho it fx with
         | (.failed, s1) => s1.endItem id .failedChecksum fx.sector
         | (_, s1) => if fx.mismatch || s1.orthoDiffers it.row then s1.mismatchArray it fx.sector phRedo else s1.commitOrtho it fx.sector)

end Sys2Proof.Machine
end

