-- ==== Sys2Proof/Machine/Respond.lean ====
section
/-! DEFINITION. Responses to Expin requests (R590, R592, R594, R636). -/

namespace Sys2Proof.Machine

/-- The position of this gateway and of the pole in the constellation (CST_STATUS). -/
def State.position (s : State) : Nat := s.f F.CST_STATUS_POSITION
def State.pole (s : State) : Nat := s.f F.CST_STATUS_POLE

/-- The slot that serves the use EXPIN, if one does (R586, R587). -/
def State.expinSlot (s : State) : Option Nat := (s.ciph.uses.find? fun u => u.2 = useExpin).map Prod.fst

/-- Message kinds between members of a constellation (R633). -/
def mkForward : Nat := 1
def mkResult : Nat := 2
def mkAgain : Nat := 3
def mkPrepare : Nat := 4
def mkPrepared : Nat := 5
def mkApplied : Nat := 7
def mkLinkState : Nat := 12

/-- A request taken up: the generation it is to be answered under is remembered. -/
def State.ask (s : State) (q : Req) : State :=
  { s with host := { s.host with asked := (q.seq, q.gen) :: s.host.asked } }

/-- The bootstrap ceiling raised before an answer under the bootstrap key, no higher than the floor's end 0xFFFF_FC00 (R592, log
entry 105). -/
def State.raiseCeiling (s : State) (seq : Nat) : State :=
  if s.f F.HOST_BOOT_FLOOR_CEILING ≤ seq then s.setf F.HOST_BOOT_FLOOR_CEILING (min ((seq / 1024 + 1) * 1024) 0xFFFFFC00) else s

/-- The one response to a request: sent to the host under the generation that verified it and kept (R590, R592, R594), or
returned to the pole and kept for it (R636). A generation that has reached its limit since seals none (R535). -/
def State.answer (s : State) (seq : Nat) (st : Status) (txn : Nat) (body : List Byte) (view : Option Nat := none) : State :=
  if 2 ^ 32 ≤ seq then
    let id := seq - 2 ^ 32
    let pl := [BitVec.ofNat 8 st.code] ++ beBytes 8 (view.getD (s.f F.GLB_VIEW_VIEW)) ++ beBytes 4 txn ++ body
    let rs := s.cst.results ++ [(id, pl)]
    ({ s with
        cst := { s.cst with results := rs.drop (rs.length - 4096) }
        host := { s.host with asked := s.host.asked.filter fun a => a.1 ≠ seq } }).emit (.member s.pole mkResult id pl)
  else
    let asked := (s.host.asked.find? fun a => a.1 = seq).map Prod.snd
    let gen := asked.bind id
    let e := Emit.response seq st.code (view.getD (s.f F.GLB_VIEW_VIEW)) txn body
    let spent : Bool := match gen, s.expinSlot with
      | some g, some k => ((s.genOf k g).map fun x => !x.allows 1).getD false
      | _, _ => false
    let s1 := match asked, s.expinSlot with
      | some (some g), some k => if spent then s.exhaust k g else s.countInvoc k g 1
      | some none, _ => s.raiseCeiling seq
      | _, _ => s
    let kept := s1.host.answered ++ [(gen, seq, e)]
    let s2 : State := { s1 with host := { s1.host with
      asked := s1.host.asked.filter fun a => a.1 ≠ seq
      answered := kept.drop (kept.length - 1024) } }
    let s3 := if st.refusal then s2.count F.HOST_REFUSED_COUNT else s2
    if spent then s3 else s3.sendOut e

/-- A response with a status and no body. -/
def State.respond (s : State) (seq : Nat) (st : Status) : State := s.answer seq st 0 []

/-- The gateway is held in reset or off: it answers nothing and drives nothing (R727, R733, R741, R753). -/
def State.asleep (s : State) : Bool := s.pwr.porst || s.pwr.held || s.pwr.off

/-- Whether Expin is answered: from stage 2 on, unless the PUF has failed (R690). -/
def State.answers (s : State) : Bool :=
  !s.asleep && decide (2 ≤ s.f F.GLB_STATUS_STAGE) && decide (s.f F.SEC_STATUS_PUF_FAIL = 0)

/-- A request taken up: nothing while Expin is not answered; in recovery mode REFUSED_BUSY but for what R692 lets through. -/
def State.gated (s : State) (q : Req) (inRecovery : Bool) (f : State → State) : State :=
  if !s.answers then s
  else if s.f F.SEC_STATUS_RECOVERY = 1 ∧ !inRecovery then (s.ask q).respond q.seq .refusedBusy
  else f (s.ask q)

/-- A request that belongs to no transaction and no snapshot; one that says it does ends with REFUSED_FIT (R600, R606). -/
def State.alone (s : State) (q : Req) (f : State → State) : State :=
  if q.inTxn || q.inSnap then s.respond q.seq .refusedFit else f s

end Sys2Proof.Machine
end

