-- ==== Sys2Proof/Machine/Links.lean ====
section
/-! DEFINITION. The links of a constellation: their wiring (R629 to R631), link-state records and routes (R632), and what the
pole does for the requests that a lost path carried (R636, R638). -/

namespace Sys2Proof.Machine

/-! ### Wiring -/

/-- How far CL0, CL2, CL4 and CL6 of a member reach in array mode, and the members from which they are wired (R631). -/
def chords : List (Nat × Nat) := [(1, 2), (2, 5), (8, 17), (16, 33)]

/-- The far end that the wiring lays down for link `k`: its position and link number (R630, R631). -/
def State.wiring (s : State) (k : Nat) : Option (Nat × Nat) :=
  let n := s.f F.CST_STATUS_MEMBERS
  let m := s.position
  if s.f F.CST_STATUS_MODE = 1 then if k < n ∧ k ≠ m then some (k, m) else none
  else if s.f F.CST_STATUS_MODE = 2 then
    let (far, need) := chords.getD (k / 2) (0, 0)
    if k < 8 ∧ need ≤ n then some (if k % 2 = 0 then ((m + far) % n, k + 1) else ((m + n - far) % n, k - 1)) else none
  else none

/-- Link `k` is up. -/
def State.linkUp (s : State) (k : Nat) : Bool := decide (s.f F.CST_LINKk_STATE k = 3)

/-- The links that are up. -/
def State.linksUp (s : State) : List Nat := (List.range 8).filter s.linkUp

/-- The members joined to this one by links that are up. -/
def State.neighbours (s : State) : List Nat := ((s.linksUp.map fun k => s.f F.CST_LINKk_FAR_POS k).dedup).mergeSort (· ≤ ·)

/-! ### Link-state records -/

/-- A link-state record sent over link `k`: the neighbours of member `m`. -/
def State.sendLinkState (s : State) (k m : Nat) : State :=
  s.emit (.member (s.f F.CST_LINKk_FAR_POS k) mkLinkState m (((tfind m s.cst.links).getD []).map (BitVec.ofNat 8)))

/-- The neighbours of a member taken down, and the change dated (R632). -/
def State.noteLinks (s : State) (m : Nat) (ns : List Nat) : State :=
  { s with cst := { s.cst with links := tput m ns s.cst.links, changedAt := s.cst.changedAt.or (some s.now) } }

/-- This member's own record, sent over every link that is up but `k` (R632). -/
def State.ownLinkState (s : State) (k : Nat) : State :=
  let s1 := s.noteLinks s.position s.neighbours
  (s1.linksUp.filter (· ≠ k)).foldl (fun (s : State) l => s.sendLinkState l s.position) s1

/-- A link goes down (R632). -/
def State.linkDown (s : State) (k : Nat) : State :=
  if s.linkUp k then
    ((s.setf F.CST_LINKk_STATE 1 k).countEv F.CST_LINK_FAIL_COUNT F.CST_EVENTS_LINK_DOWN).ownLinkState k
  else s

/-- CST_LINK_TRAINED (R629 to R631): link `k` has trained, its far end being position `pos` of constellation `cid`, link
`link`. A wrong far end holds it down. Records known so far go over the new link (DEDUCED: the new neighbour may lack them). -/
def execCstLinkTrained (k cid pos link : Nat) (s : State) : Host.Outcome State Fault Refusal :=
  if 8 ≤ k ∨ s.f F.CST_STATUS_MODE = 0 ∨ s.linkUp k = true ∨ (4 ≤ k ∧ s.bit F.IMG_DARK_UNITS 29) then .next s
  else if s.wiring k ≠ some (pos, link) ∨ cid ≠ s.f F.CST_STATUS_CID then
    .next ((if (s.wiring k).isSome then s.setf F.CST_LINKk_STATE 1 k else s).event F.CST_EVENTS_MISWIRED)
  else
    let s1 := ((s.setf F.CST_LINKk_STATE 3 k).setf F.CST_LINKk_FAR_POS pos k).setf F.CST_LINKk_FAR_LINK link k
    let s2 := (s1.event F.CST_EVENTS_LINK_UP).ownLinkState k
    .next ((s2.cst.links.map Prod.fst).foldl (fun (s : State) m => s.sendLinkState k m) s2)

/-- CST_LINK_DOWN (R629, R632): a link goes down. -/
def execCstLinkDown (fall : CstFall) (s : State) : Host.Outcome State Fault Refusal :=
  let k := fall.link
  .next (if k < 8 then (s.count F.CST_LINKk_RESENDS (if s.linkUp k then fall.resends else 0) k).linkDown k else s)

/-- LINK_STATE_RECEIVE (R632): a record of member `m` arrives over link `k`; a record that says something new goes on over the
other links. -/
def execLinkStateReceive (k m : Nat) (ns : List Nat) (s : State) : Host.Outcome State Fault Refusal :=
  if !s.linkUp k ∨ s.f F.CST_STATUS_MEMBERS ≤ m ∨ m = s.position ∨ (tfind m s.cst.links).getD [] = ns then .next s
  else .next (((s.linksUp.filter (· ≠ k)).foldl (fun (s : State) l => s.sendLinkState l m) (s.noteLinks m ns)))

/-! ### Routes -/

/-- The members reached from a list of members in a number of hops. -/
def reachMembers (links : Tab (List Nat)) : Nat → List Nat → List Nat
  | 0, seen => seen
  | n + 1, seen => reachMembers links n ((seen ++ seen.flatMap fun m => (tfind m links).getD []).dedup)

/-- Positions that no route reaches (R632). -/
def State.cutOff (s : State) : List Nat :=
  let seen := reachMembers s.cst.links 64 [s.position]
  (List.range (s.f F.CST_STATUS_MEMBERS)).filter fun m => !seen.contains m

/-- A forwarded request that ends with FAILED_LINK at the pole (R636). -/
def State.fwdLost (s : State) (w : Fwd) : State :=
  let s1 : State := { s with cst := { s.cst with fwds := s.cst.fwds.filter fun x => x.id ≠ w.id } }
  (s1.count F.CST_MGMT_LOST_COUNT).respond w.seq .failedLink

/-- The pole asks the destination of a forwarded request again (R636). -/
def State.askAgain (s : State) (w : Fwd) : State :=
  if s.bit F.CST_UNREACHABLE_POSITIONS w.member then s.fwdLost w else s.emit (.member w.member mkAgain w.id [])

/-- The count of open transactions shown. -/
def State.syncTxns (s : State) : State := s.setf F.HOST_STATUS_TXN_OPEN s.host.txns.length

/-- A transaction closed (R602). -/
def State.closeTxn (s : State) (id : Nat) : State :=
  ({ s with host := { s.host with txns := s.host.txns.filter fun t => t.id ≠ id }
            cst := { s.cst with txnMembers := tdel id s.cst.txnMembers } }).syncTxns

/-- A prepare sent to a member that holds parts of a transaction (R638). -/
def State.sendPrepare (s : State) (txn : Nat) (check : Bool) (m : Nat) : State :=
  s.emit (.member m mkPrepare txn [BitVec.ofNat 8 (b2n check)])

/-- A message that applies the parts of a transaction at a member in a view, or discards them (R638). -/
def State.sendApply (s : State) (txn view : Nat) (discard : Bool) (m : Nat) : State :=
  s.emit (.member m mkApply txn (beBytes 8 view ++ [BitVec.ofNat 8 (if discard then 1 else 0)]))

/-- A commit in two phases that ends with a code and applies nothing (R638). -/
def State.refuseCommit (s : State) (c : TwoPhase) (st : Status) : State :=
  let ms := (tfind c.txn s.cst.txnMembers).getD []
  let s1 : State := { s with cst := { s.cst with commits := s.cst.commits.filter fun x => x.seq ≠ c.seq } }
  ((ms.foldl (fun (s : State) m => s.sendApply c.txn 0 true m) s1).closeTxn c.txn).answer c.seq st c.txn []

/-- A commit in two phases over new routes (R638): what waits goes out again; a member that cannot prepare because no route
reaches it ends the commit with FAILED_LINK (DEDUCED). -/
def State.commitAgain (s : State) (c : TwoPhase) : State :=
  if c.applying then c.acks.foldl (fun (s : State) m => s.sendApply c.txn c.view false m) s
  else if c.prepare.any fun m => s.bit F.CST_UNREACHABLE_POSITIONS m then s.refuseCommit c .failedLink
  else c.prepare.foldl (fun (s : State) m => s.sendPrepare c.txn c.check m) s

/-- ROUTES_INSTALLED (R632, R636, R638, R643, R656). -/
def execRoutesInstalled (s : State) : Host.Outcome State Fault Refusal :=
  if s.cst.changedAt.isNone then .next s
  else
    let gone := s.cutOff
    let new := gone.any fun m => !s.bit F.CST_UNREACHABLE_POSITIONS m
    let poleCut := gone.contains s.pole
    let s1 : State := { s with cst := { s.cst with
      changedAt := none
      poleGone := if poleCut then s.cst.poleGone.or (some s.now) else none } }
    let s2 := ((s1.setf F.CST_UNREACHABLE_POSITIONS (bitsOf gone)).countEv F.CST_REROUTES_COUNT F.CST_EVENTS_REROUTED).eventIf
      new F.CST_EVENTS_MEMBER_LOST
    let s3 := if s2.f F.CST_STATUS_IS_POLE = 1 then s2.cst.commits.foldl State.commitAgain (s2.cst.fwds.foldl State.askAgain s2) else s2
    .next s3.flushHeld

end Sys2Proof.Machine
end

