-- ==== Sys2Proof/Machine/Fit.lean ====
section
/-! DEFINITION. The fit check of an Almanac set (R106 to R111, R755, with R78, R152, R191, R340, R365 and R429). -/

namespace Sys2Proof.Machine

/-- Resource numbers of a fit report (R111). -/
def resRows : Nat := 0x01
def resTier (t : Nat) : Nat := 0x02 + t
def resStreams : Nat := 0x06
def resTokens : Nat := 0x07
def resCollectives : Nat := 0x08
def resKeySlots : Nat := 0x09
def resCircuits : Nat := 0x0A
def resPool : Nat := 0x0B
def resRowForm : Nat := 0x10
def resTrackCross : Nat := 0x11
def resMode : Nat := 0x12

/-- Section numbers of an image (R662). -/
def secStruct : Nat := 1
def secAlmanac : Nat := 2
def secCollectives : Nat := 3
def secCircuits : Nat := 4
def secOptcal : Nat := 7
def secBistsig : Nat := 8
def secPools : Nat := 9

/-- No index (R110). -/
def noIndex : Nat := 0xFFFFFFFF

/-- An Almanac set to check: rows, row count, and the entry row of each track it uses. -/
structure AlmSet where
  rows : Tab Row256
  count : Nat
  entries : List (Nat × Nat)
  deriving DecidableEq, Repr

/-- What the check holds an Almanac set against: tier capacities, the image's reservations, its declared contexts with
their segment descriptors, the flags of its collective entries, and its fault contract. -/
structure FitEnv where
  caps : List Nat
  regions : List (Nat × Nat × Nat × Bool)
  ctx : Tab Ctx
  seg : Tab Seg
  collFlags : List Nat
  exact : Bool
  deriving DecidableEq, Repr

def AlmSet.row (a : AlmSet) (i : Nat) : Row256 := (tfind i a.rows).getD 0

/-- Rows reachable from a list of rows over NEXT_OK and NEXT_FAULT. -/
def AlmSet.reach (a : AlmSet) : Nat → List Nat → List Nat → List Nat
  | 0, _, seen => seen
  | _, [], seen => seen
  | fuel + 1, i :: todo, seen =>
    if seen.contains i || decide (a.count ≤ i) then a.reach fuel todo seen
    else a.reach fuel (rowNextOk (a.row i) :: rowNextFault (a.row i) :: todo) (i :: seen)

def AlmSet.reachFrom (a : AlmSet) (starts : List Nat) : List Nat :=
  a.reach (3 * a.count + starts.length + 1) starts []

/-- What R755 asks of SRC_VALID and DST_VALID of an opcode: some b: the flag must be b; none: either. -/
def rowForm (op : Nat) (lowrank : Bool) : Option Bool × Option Bool :=
  if op = opMove ∨ op = opReduce ∨ op = opProject then (some true, none)
  else if op = opFirstpass ∨ op = opSend ∨ op = opJournal then (some true, some false)
  else if op = opEncode then (some true, if lowrank then none else some true)
  else if op = opDecode ∨ op = opOrtho ∨ op = opSeal ∨ op = opOpen then (some true, some true)
  else if op = opRecv then (some false, some true)
  else (some false, some false)

/-- Whether an opcode uses its row's STREAM and COLL (R106). -/
def opUsesStream (op : Nat) : Bool :=
  !(decide (op = opHalt) || decide (op = opWait) || decide (op = opPost) || decide (op = opCommit) || decide (op = opForecast))

/-- A descriptor lies in its tier and in one of the reservations (R106). DESIGN CHOICE (log entry 89): it lies whole in one of
them; two that adjoin do not hold it together. -/
def FitEnv.holds (e : FitEnv) (d : Desc) : Bool :=
  decide (d.addr + d.len ≤ e.caps.getD d.tier 0) &&
    e.regions.any fun (t, a, n, _) => decide (t = d.tier) && decide (a ≤ d.addr) && decide (d.addr + d.len ≤ a + n)

/-- Whether a row is malformed (R106, R755, R78, R191, R365, R429). -/
def FitEnv.badRow (e : FitEnv) (a : AlmSet) (r : Row256) : Bool :=
  let op := rowOpcode r
  let seg := tfind (rowStream r) e.seg
  let form := rowForm op ((seg.map Seg.lowrank).getD false)
  let okFlag (want : Option Bool) (b : Bool) : Bool := match want with | some w => decide (w = b) | none => true
  decide (opForecast < op) || decide (rowBits r 233 23 ≠ 0) || r.toNat.testBit 19
  || decide (a.count ≤ rowNextOk r) || decide (a.count ≤ rowNextFault r)
  || !okFlag form.1 (rowSrcValid r) || !okFlag form.2 (rowDstValid r)
  || (decide (op = opForecast) && decide (rowBits r 137 96 ≠ 0))
  || (decide (op = opCircuit) && (decide (rowCircuitAction r = 0) || decide (rowBits r 131 102 ≠ 0)))
  || (rowSrcValid r && !e.holds (rowSrc r)) || (rowDstValid r && !e.holds (rowDst r))
  || (opUsesStream op && (tfind (rowStream r) e.ctx).isNone)
  || (opUsesStream op && decide (rowColl r ≠ 0xFFFF) && decide (e.collFlags.length ≤ rowColl r))
  || (decide (op = opFirstpass) && (match seg with | some g => g.fixedCb || decide (3 ≤ g.kind) || decide (g.kind = 2) | none => true))
  || (decide (op = opJournal) && (match seg with | some g => decide (2 ≤ g.kind) | none => true))

/-- Rows that exact mode disallows (R107, R152). -/
def badInExact (r : Row256) : Bool :=
  rowPpe r || ((decide (rowOpcode r = opProject) || decide (rowOpcode r = opOrtho)) && rowDstValid r
    && decide ((rowDst r).tier = 0) && !rowMirror r)

/-- The shortfalls of an Almanac set. DESIGN CHOICE (log entry 89), where R106 and R111 leave it open: a STREAM, a COLL or a
descriptor that R106 refuses is a malformed row, a counter above 4,095 is short of TOKENS, and a set of no rows or with an entry
row that is not below the row count is refused too, as short of ROWS and as a malformed row. -/
def FitEnv.almanac (e : FitEnv) (a : AlmSet) : List FitEntry :=
  let rows := a.rows.filter fun kv => decide (kv.1 < a.count)
  let row (res i : Nat) : FitEntry := FitEntry.mk res secAlmanac i 0 0
  let size := if 1 ≤ a.count ∧ a.count ≤ 2 ^ 20 then [] else [FitEntry.mk resRows secAlmanac noIndex a.count (2 ^ 20)]
  let entry := (a.entries.filter fun x => decide (a.count ≤ x.2)).map fun x => row resRowForm x.2
  let form := (rows.filter fun kv => e.badRow a kv.2).map fun kv => row resRowForm kv.1
  let toks := rows.filterMap fun kv =>
    let top := (rowWait kv.2 ++ rowPost kv.2).foldl max 0
    if 4095 < top then some (FitEntry.mk resTokens secAlmanac kv.1 (top + 1) 4096) else none
  let reach := a.entries.map fun x => (x.1, a.reachFrom [x.2])
  let cross := (List.range a.count).filter fun i =>
    let by_ := (reach.filter fun x => x.2.contains i).map Prod.fst
    decide (by_ ≠ []) && decide (by_ ≠ [rowTrack (a.row i)])
  let adhoc := (rows.filter fun kv => opUsesStream (rowOpcode kv.2) && decide (e.collFlags.getD (rowColl kv.2) 0 / 4 % 2 = 1)).map Prod.fst
  let commits := (a.reachFrom adhoc).filter fun i => rowOpcode (a.row i) = opCommit
  size ++ entry ++ form ++ toks ++ cross.map (row resTrackCross) ++ commits.map (row resRowForm)

/-- The rows that the fault contract disallows. -/
def FitEnv.modeRows (e : FitEnv) (a : AlmSet) : List FitEntry :=
  if e.exact then
    ((a.rows.filter fun kv => decide (kv.1 < a.count) && badInExact kv.2).map fun kv => FitEntry.mk resMode secAlmanac kv.1 0 0)
  else []

/-- The code and report of a check (R107, R108). -/
def fitResult (mode short : List FitEntry) : Status × List FitEntry :=
  if mode ≠ [] then (.refusedMode, mode) else if short ≠ [] then (.refusedFit, short) else (.done, [])

/-- Declared contexts (R498). -/
def State.declaredCtx (s : State) : Tab Ctx := s.mem.ctx.filter fun kv => kv.2.valid

/-- What the active image gives the check. -/
def State.fitEnv (s : State) : FitEnv :=
  { caps := (List.range 4).map s.fitCap
    regions := s.conf.regions
    ctx := s.declaredCtx
    seg := (s.declaredCtx.filter fun kv => kv.2.segment).map fun kv => (kv.1, s.seg kv.2)
    collFlags := (List.range (s.f F.COL_STATUS_ENTRIES)).map fun i => s.f F.COL_ENTRY_D_FLAGS i
    exact := s.exact }

/-- The shadow set as the registers and the window give it (R97). -/
def State.shadowSet (s : State) : AlmSet :=
  { rows := s.seq.shadow
    count := s.f F.SEQ_ROWS_SHADOW
    entries := ((List.range 16).filter fun t => s.f F.SEQ_TKn_ENTRY_SHADOW_EN t = 1).map fun t => (t, s.f F.SEQ_TKn_ENTRY_SHADOW t) }

end Sys2Proof.Machine
end

