-- ==== Sys2Proof/Machine/Loads.lean ====
section
/-! DEFINITION. Loads of targets 0x01 to 0x03 and host bulk data (R608 to R611, R614, R668, R686): staging, the message that
completes a load, the end of a load, and the grant of buffers that staging waits for (R510). -/

namespace Sys2Proof.Machine

/-! ### The end of a load -/

/-- A fit report as a response carries it (R110, R610). -/
def FitEntry.bytes (e : FitEntry) : List Byte :=
  beBytes 1 e.resource ++ beBytes 1 e.section_ ++ beBytes 2 0 ++ beBytes 4 e.first ++ beBytes 4 e.needed ++ beBytes 4 e.available

def reportBytes (es : List FitEntry) : List Byte :=
  (if es.length ≤ 64 then es else es.take 63 ++ [FitEntry.mk 0xFF 0 0xFFFFFFFF (es.length - 63) 0]).flatMap FitEntry.bytes

/-- The staged data of a load let go of (R668, R669). -/
def State.dropStaging (s : State) : State := s.freeHolder (.account 0)

/-- The load in progress ends with a code (R610, R669): shown, counted, and the message that completed it answered. `keep`
leaves the staged data in place. -/
def State.endLoad (s : State) (st : Status) (es : List FitEntry) (keep : Bool) : State :=
  match s.host.load with
  | none => s
  | some l =>
    let s1 := (({ s with host := { s.host with load := none } }.setf F.HOST_LOAD_RESULT st.code).setf F.HOST_STATUS_LOADING 0).event
      F.HOST_EVENTS_LOAD_DONE
    let s2 := if l.target = 3 then s1
      else if st.ok then (s1.setf F.IMG_STATUS_STATE 0).count F.IMG_LOADS_COUNT
      else if st.refusal then (s1.setf F.IMG_STATUS_STATE 0).countEv F.IMG_REFUSED_COUNT F.IMG_EVENTS_REFUSED
      else s1.setf F.IMG_STATUS_STATE 0
    let s3 := if keep then s2 else s2.dropStaging
    let s4 := l.late.foldl (fun (s : State) q => s.respond q.seq st) s3
    match l.by_ with
    | some q => s4.answer q.seq st 0 (if st = .refusedFit ∨ st = .refusedMode then reportBytes es else [])
    | none => s4

/-! ### Staging -/

/-- The body of LOAD_STREAM (R608). -/
structure LoadBody where
  target : Nat
  last : Bool
  read : Bool
  len : Nat
  id : Nat
  offset : Nat
  total : Nat
  region : Nat
  data : List Byte
  deriving DecidableEq, Repr

/-- The fields of a LOAD_STREAM body; none where a length or reserved bit is wrong. -/
def loadOf (bs : List Byte) : Option LoadBody :=
  let n (o k : Nat) : Nat := beNat ((bs.drop o).take k)
  let b : LoadBody := { target := n 0 1, last := (n 1 1).testBit 0, read := (n 1 1).testBit 1, len := n 2 2, id := n 4 4, offset := n 8 8
                        total := n 16 8, region := n 24 8, data := bs.drop 32 }
  if 32 ≤ bs.length ∧ n 1 1 < 4 ∧ b.len ≤ 8192 ∧ b.offset % 8192 = 0 ∧ 1 ≤ b.target ∧ b.target ≤ 4
      ∧ b.data.length = (if b.read then 0 else b.len) ∧ (b.read = true → b.target = 4) then some b else none

/-- What R608 and R609 ask of a message of targets 0x01 to 0x03. -/
def LoadBody.fits (b : LoadBody) : Bool :=
  decide (b.total ≤ 2 ^ 31) && decide (b.len = min 8192 (b.total - b.offset)) && decide (b.offset + b.len ≤ b.total)
  && (if b.target = 2 then decide (b.region < 8) else decide (b.region = 0))

/-- The bytes of a load in order. -/
def Load.bytes (l : Load) : List Byte := (l.parts.mergeSort fun a b => a.1 ≤ b.1).flatMap Prod.snd

/-- A load whose every byte is staged and whose LAST has come (R610). -/
def Load.complete (l : Load) : Bool := l.last && decide ((l.parts.map fun p => p.2.length).sum = l.total) && l.late.isEmpty

/-- A firmware copy loaded (R686, R692): verified against Traica's key by the caller, marked preferred, the load ended.
Recovery mode runs no copy; it writes the copy that is not preferred. -/
def State.finishFirmware (s : State) (sigOk : Bool) (version : Nat) : State :=
  match s.host.load with
  | none => s
  | some l =>
    if !sigOk then s.endLoad .refusedSignature [] false
    else
      let toB := decide ((if s.f F.SEC_STATUS_RECOVERY = 1 then s.f F.IMG_FW_STATUS_PREFER_B else s.f F.IMG_FW_STATUS_COPY_B % 2) = 0)
      let c : FwCopy := { version := version, digest := byts (sha256 (nats l.bytes)) }
      let s1 : State := { s with img := { s.img with copyA := if toB then s.img.copyA else some c
                                                     copyB := if toB then some c else s.img.copyB, preferB := toB } }
      let s2 := if toB then s1.setf F.IMG_FW_STATUS_B_VERSION version else s1.setf F.IMG_FW_STATUS_A_VERSION version
      (s2.setf F.IMG_FW_STATUS_PREFER_B (b2n toB)).endLoad .done [] false

/-- A message's data put in its place, a part of the same offset replaced. -/
def Load.put (l : Load) (b : LoadBody) : Load :=
  { l with parts := (l.parts.filter fun p => p.1 ≠ b.offset) ++ [(b.offset, b.data)], last := l.last || b.last }

/-- The load taken into verification once complete (R610): STATE shows it; LOAD_VERIFY follows. A firmware copy is written at
once. -/
def State.loadReady (s : State) (fw : Bool × Nat) : State :=
  match s.host.load with
  | some l => if l.complete then (if l.target = 3 then s.finishFirmware fw.1 fw.2 else s.setf F.IMG_STATUS_STATE 2) else s
  | none => s

/-- A message of targets 0x01 to 0x03 (R609, R610, R668, R671, R686); `fw` is what the check of a firmware copy would find. -/
def State.stage (s : State) (q : Req) (b : LoadBody) (fw : Bool × Nat) : State :=
  let c := s.f F.IMG_FW_STATUS_COPY_B
  let busy := (match s.host.load with
      | some l => decide (l.id ≠ b.id) || decide (l.target ≠ b.target) || l.complete
      | none => false)
    || (decide (b.target ≠ 3) && s.img.staged.isSome)
    || (decide (b.target = 3) && (s.img.fw.isSome || (decide (c ≠ 0) && decide (c ≠ 15))))
  if !b.fits then s.respond q.seq .refusedFit
  else if busy then s.respond q.seq .refusedBusy
  else
    let l := s.host.load.getD { target := b.target, id := b.id, total := b.total, region := b.region, parts := [], last := false
                                by_ := none, late := [] }
    if l.total ≠ b.total ∨ l.region ≠ b.region then s.respond q.seq .refusedFit
    else
      let slab := 16 * 2 ^ 20
      let fresh := !(l.parts.any fun p => decide (p.1 / slab = b.offset / slab)) && s.imageActive
      let r := if fresh then s.askNeed (.account 0) 0 slab 1 else (.granted, s)
      match r.1 with
      | .failed => r.2.respond q.seq .failedPoolEmpty
      | got =>
        let l1 := l.put b
        let done := decide (got = .granted) && l1.complete
        let l2 := if got = .queued then { l1 with late := l1.late ++ [q] } else if done then { l1 with by_ := some q } else l1
        let s1 := (((({ r.2 with host := { r.2.host with load := some l2 } }).setf F.HOST_LOAD_TARGET b.target).setf
          F.HOST_LOAD_LOAD_ID b.id).setf F.HOST_STATUS_LOADING 1)
        let s2 := if b.target = 3 then s1 else s1.setf F.IMG_STATUS_STATE 1
        if done then s2.loadReady fw else if got = .queued then s2 else s2.respond q.seq .done

/-- A LOAD_STREAM of a target carried out. -/
def State.takeLoad (s : State) (target : Nat) (q : Req) (body : List Byte) (fw : Bool × Nat) : State :=
  s.alone q fun s => match loadOf body with
    | some b => if b.target = target then s.stage q b fw else s.respond q.seq .refusedFit
    | none => s.respond q.seq .refusedFit

/-- LOAD_STRUCTURE_IMAGE (R608 to R610, R668). -/
def execLoadStructureImage (q : Req) (body : List Byte) (s : State) : Host.Outcome State Fault Refusal :=
  .next (s.gated q false fun s => s.takeLoad 1 q body (false, 0))

/-- LOAD_SECTOR_PATCH (R608 to R610, R668). -/
def execLoadSectorPatch (q : Req) (body : List Byte) (s : State) : Host.Outcome State Fault Refusal :=
  .next (s.gated q false fun s => s.takeLoad 2 q body (false, 0))

/-- LOAD_FIRMWARE_COPY (R608 to R610, R686, R692): `sigOk` and `version` are what the check against Traica's key finds in a
copy that this message completes. -/
def execLoadFirmwareCopy (q : Req) (body : List Byte) (sigOk : Bool) (version : Nat) (s : State) : Host.Outcome State Fault Refusal :=
  .next (s.gated q true fun s => s.takeLoad 3 q body (sigOk, version))

/-- BUFFER_GRANT (R510, R668): the head of the queue granted; staging that waited is answered. -/
def execBufferGrant (s : State) : Host.Outcome State Fault Refusal :=
  let mine := match s.bpm.queue with | n :: _ => decide (n.holder = .account 0) && s.headGrantable | [] => false
  let s1 := s.grantHead
  match s1.host.load with
  | some l =>
    match l.late with
    | q :: rest =>
      if !mine then .next s1
      else
        let l1 : Load := { l with late := rest }
        let s2 : State := { s1 with host := { s1.host with load := some (if l1.complete then { l1 with by_ := some q } else l1) } }
        .next (if l1.complete then s2.loadReady (false, 0) else s2.respond q.seq .done)
    | [] => .next s1
  | none => .next s1

/-! ### Host bulk data -/

/-- The bytes of a bulk message lie in its region, which the image declares (R608, R611). -/
def State.bulkFits (s : State) (b : LoadBody) : Bool :=
  s.conf.bulk.contains b.region && decide (b.offset + b.len ≤ (descOf b.region).len)

/-- A bulk message (R611). -/
def State.takeBulk (s : State) (read : Bool) (q : Req) (body : List Byte) : Host.Outcome State Fault Refusal :=
  if q.inTxn || q.inSnap then .next (s.respond q.seq .refusedFit)
  else match loadOf body with
    | none => .next (s.respond q.seq .refusedFit)
    | some b =>
      let d := descOf b.region
      if b.target ≠ 4 ∨ b.read ≠ read ∨ !s.bulkFits b then .next (s.respond q.seq .refusedFit)
      else if !s.inTier d.tier d.addr d.len then .fault (.outsideTier d.tier (d.addr + b.offset))
      else if read then .next (s.answer q.seq .done 0 (s.rdBytes d.tier (d.addr + b.offset) b.len))
      else .next ((s.wrBytes d.tier (d.addr + b.offset) b.data).respond q.seq .done)

/-- Whether a bulk request is carried out now (R690, R692). -/
def State.bulkOpen (s : State) : Bool := s.answers && decide (s.f F.SEC_STATUS_RECOVERY = 0)

/-- HOST_BULK_WRITE (R611). -/
def execHostBulkWrite (q : Req) (body : List Byte) (s : State) : Host.Outcome State Fault Refusal :=
  if s.bulkOpen then (s.ask q).takeBulk false q body else .next (s.gated q false fun s => s)

/-- HOST_BULK_READ (R611). -/
def execHostBulkRead (q : Req) (body : List Byte) (s : State) : Host.Outcome State Fault Refusal :=
  if s.bulkOpen then (s.ask q).takeBulk true q body else .next (s.gated q false fun s => s)

/-! ### ABORT of a load -/

/-- ABORT's body (R614): TARGET and VALUE; none where it is malformed. -/
def abortOf (bs : List Byte) : Option (Nat × Nat) :=
  let n (o k : Nat) : Nat := beNat ((bs.drop o).take k)
  if bs.length = 16 ∧ n 1 7 = 0 ∧ 1 ≤ n 0 1 ∧ n 0 1 ≤ 5 then some (n 0 1, n 8 8) else none

/-- The staged data of a load whose verification has not begun discarded (R614, R615). -/
def State.abortLoad (s : State) (id : Nat) : Bool × State :=
  match s.host.load with
  | some l => if l.id = id ∧ !l.complete then (true, s.endLoad .failedAborted [] false) else (false, s)
  | none => (false, s)

end Sys2Proof.Machine
end

