-- ==== Sys2Proof/Machine/Police.lean ====
section
/-! DEFINITION. The policers of remote-bound requests and host frames (R559 to R563). -/

namespace Sys2Proof.Machine

/-- The colours of a marker. -/
inductive Colour where
  | green | yellow | red
  deriving DecidableEq, Repr

/-- A byte in the buckets' unit, thousandths of a bit: 1 Mbit/s brings one unit a nanosecond. -/
def bucketUnit : Nat := 8000

/-- A policer's buckets full (R560). -/
def State.fullPolicer (s : State) (k : Nat) : Policer :=
  { c := s.f F.SCH_PLk_BURST_CBS k * bucketUnit, p := s.f F.SCH_PLk_BURST_PBS k * bucketUnit, at_ := s.now }

/-- A policer's buckets filled up to now: (R560, R563). -/
def State.policerNow (s : State) (k : Nat) : Policer :=
  let x := (tfind k s.sch.policers).getD (s.fullPolicer k)
  let dt := s.now - x.at_
  { c := min (s.f F.SCH_PLk_BURST_CBS k * bucketUnit) (x.c + s.f F.SCH_PLk_RATE_CIR k * dt)
    p := min (s.f F.SCH_PLk_BURST_PBS k * bucketUnit) (x.p + s.f F.SCH_PLk_RATE_PIR k * dt), at_ := s.now }

/-- The marker of RFC 2698 (two rates) on a packet of `n` units and an input colour, with the buckets after it. -/
def mark2698 (x : Policer) (n : Nat) (input : Colour) : Colour × Policer :=
  if input = .red ∨ x.p < n then (.red, x)
  else if input = .yellow ∨ x.c < n then (.yellow, { x with p := x.p - n })
  else (.green, { x with c := x.c - n, p := x.p - n })

/-- The marker of RFC 4115: the excess bucket takes what the committed one does not. -/
def mark4115 (x : Policer) (n : Nat) (input : Colour) : Colour × Policer :=
  if input = .green ∧ n ≤ x.c then (.green, { x with c := x.c - n })
  else if input ≠ .red ∧ n ≤ x.p then (.yellow, { x with p := x.p - n })
  else (.red, x)

/-- A packet of `len` bytes through a policer (R559, R560), counted by its colour. -/
def State.police (s : State) (k len : Nat) (input : Colour) : Colour × State :=
  if s.f F.SCH_PLk_CTRL_ENABLE k = 0 then (.green, s.count F.SCH_PLk_GREEN_COUNT 1 k)
  else
    let n := (len + s.f F.SCH_PLk_CTRL_OVH k) * bucketUnit
    let r := if s.f F.SCH_PLk_CTRL_MODE k = 0 then mark2698 (s.policerNow k) n input else mark4115 (s.policerNow k) n input
    let s1 : State := { s with sch := { s.sch with policers := tput k r.2 s.sch.policers } }
    (r.1, match r.1 with
      | .green => s1.count F.SCH_PLk_GREEN_COUNT 1 k
      | .yellow => s1.count F.SCH_PLk_YELLOW_COUNT 1 k
      | .red => (s1.count F.SCH_PLk_RED_COUNT 1 k).event (if k < 16 then F.SCH_EVENTS_RED_BRIDGE else F.SCH_EVENTS_RED_HOST))

/-- The input colour of a DSCP (R561). -/
def dscpColour (d : Nat) : Colour := if d % 8 = 4 then .yellow else if d % 8 = 6 then .red else .green

end Sys2Proof.Machine
end

