-- ==== Sys2Proof/Machine/Ppe.lean ====
section
/-! DEFINITION. The photonic projection engine: bands, operand codes, checksums, repeats, fallback to the array (R155 to
R173), its locks (R171, R172, R455), calibration (R174 to R179). What its ADCs read are free values (R163, R167; log entry 10). -/

namespace Sys2Proof.Machine

/-- Rows of a band (R156). -/
def bandRows (h : OpHdr) : Nat := if h.rank ≤ 64 then 256 else 64

/-- Bands of a piece (R157). -/
def bandCount (h : OpHdr) : Nat := (h.len + bandRows h * h.cols - 1) / (bandRows h * h.cols)

/-- Whether R157 refuses a PPE item with REFUSED_FIT. -/
def badPpe (h : OpHdr) : Bool :=
  decide (h.kind ≠ 1) || decide (h.start % (bandRows h * h.cols) ≠ 0)
  || (decide (h.len % (bandRows h * h.cols) ≠ 0) && decide (h.start + h.len ≠ h.rows * h.cols))
  || decide (8388608 < h.cols * h.rank)

/-- How the engine answers an issued PROJECT with PPE (R107, R137, R157, R159, R177). -/
def State.startPpe (s : State) (it : Item) : StartRes :=
  if s.badHdr it.row || badPpe (s.opHdr it.row) then .refuse .refusedFit
  else if s.exact || s.badAcc it.row then .refuse .refusedMode
  else if s.ppe.item.isSome || decide (s.f F.PPE_STATUS_STATE = 3) || decide (s.f F.PPE_STATUS_STATE = 6) then .wait
  else .go

/-- K of PPE_CTRL.KSEL (R166). -/
def kOf : Nat → Nat
  | 0 => 16 | 1 => 64 | 3 => 1024 | 4 => 4096 | _ => 256

/-- Ten times the combined effective bits of K (R167). -/
def effBits10 (k : Nat) : Nat :=
  if k = 16 then 45 else if k = 64 then 55 else if k = 256 then 65 else if k = 1024 then 75 else 83

/-! ### Codes -/

/-- A dyadic rounded to the nearest integer, ties to even. -/
def Dy.toInt (v : Dy) : Int :=
  if 0 ≤ v.e then v.m * 2 ^ v.e.toNat
  else if v.m < 0 then -(shiftRound v.m.natAbs (-v.e).toNat : Int) else shiftRound v.m.natAbs (-v.e).toNat

/-- The exponent of a row or column (R161). -/
def codeExp (vs : List Val) : Int :=
  let es := vs.filterMap fun v => match v with | .fin _ x => if x.m = 0 then none else some x.expo | _ => none
  match es with
  | [] => 0
  | e :: t => t.foldl max e

/-- The code of an element with exponent `e`, and whether it was clipped (R161). -/
def codeOf (e : Int) : Val → Int × Bool
  | .fin _ x =>
    let n := (x.scale (6 - e)).toInt
    if 127 < n then (127, true) else if n < -127 then (-127, true) else (n, false)
  | _ => (0, false)

/-- One band of an item: the rows of M in it, and the columns of Q. -/
structure Band where
  row0 : Nat
  rows : List (List Val)
  cols : List (List Val)
  deriving DecidableEq, Repr

/-- Band `b` of a row's piece (R156, R158). -/
def State.bandOf (s : State) (r : Row256) (b : Nat) : Band :=
  let h := s.opHdr r
  let sd := descOf h.scales
  let scales := if fmtIsMx h.inFmt ∨ fmtIsMx h.otherFmt then s.rdBytes sd.tier sd.addr sd.len else []
  let m := s.elems h.inFmt (rowSrc r).tier ((rowSrc r).addr + 64) h.len scales (pieceBlk h)
  let od := descOf h.other
  let q := s.elems h.otherFmt od.tier od.addr (h.cols * h.rank) scales (otherBlk h)
  let row0 := h.start / h.cols + b * bandRows h
  let n := min (bandRows h) (h.rows - row0)
  { row0 := row0
    rows := (List.range n).map fun i => (List.range h.cols).map fun j => valAt m ((b * bandRows h + i) * h.cols + j)
    cols := (List.range h.rank).map fun c => (List.range h.cols).map fun j => valAt q (j * h.rank + c) }

/-- A row or column converted to codes (R161, R162). -/
def ppeLine (vs : List Val) : PpeLine :=
  { exp := codeExp vs, codes := vs.map fun v => (codeOf (codeExp vs) v).1, bad := vs.any fun v => !v.finite }

/-- Clips of the conversion of some rows or columns (R161). -/
def lineClips (ls : List (List Val)) : Nat := (ls.map fun r => (r.filter fun v => (codeOf (codeExp r) v).2).length).sum

/-- Clips counted (R161). -/
def State.countClips (s : State) (n : Nat) : State := (s.count F.PPE_CLIP_COUNT n).eventIf (decide (0 < n)) F.PPE_EVENTS_CLIP

/-- The engine takes an item: K latched (R166), and Q loaded into the Q store, unless it holds this Q (R159). -/
def State.ppeTake (s : State) (it : Item) : State :=
  let h := s.opHdr it.row
  let key := (h.other, rowStream it.row, it.step)
  let cols := (s.bandOf it.row 0).cols
  let hit : Bool := s.ppe.qStore = some key
  ((({ s with ppe := { s.ppe with
      item := some it.id, k := kOf (s.f F.PPE_CTRL_KSEL), band := 0, mismatches := 0, begun := false, folds := [], qStore := some key
      q := if hit then s.ppe.q else cols.map ppeLine } }).setf
    F.PPE_STATUS_PLACEMENT (b2n (decide (64 < h.rank)))).countClips (if hit then 0 else lineClips cols))

/-- A band as the engine sees it: its first row, the codes of its rows, and the Q store. -/
structure CodeBand where
  row0 : Nat
  rows : List PpeLine
  cols : List PpeLine
  deriving DecidableEq, Repr

/-- The codes of band `b` of the engine's item (R159, R161). -/
def State.codeBand (s : State) (r : Row256) (b : Nat) : CodeBand :=
  { row0 := (s.bandOf r b).row0, rows := (s.bandOf r b).rows.map ppeLine, cols := s.ppe.q }

/-- Integrations of a band (R163). -/
def State.ints (s : State) (b : CodeBand) : Nat := ((b.cols.map fun c => c.codes.length).headD 0 + s.ppe.k - 1) / s.ppe.k

/-! ### Readout -/

/-- The sum of the codes that a lane or column is driven with in integration `t` (R155); symbols past the end carry code zero. -/
def driveSum (k t : Nat) (l : PpeLine) : Int := ((l.codes.drop (k * t)).take k).sum

/-- The back end's value of one partial (R164, steps 1 to 3): the ADC code of the photodiode of lane `i` and column `j` less its dark
offset scaled to K, times the gains of its lane and column, less the offset terms of R155. -/
def State.ppePartial (s : State) (adc i j : Nat) (sa sb : Int) : Dy :=
  let k := s.ppe.k
  let steps : Int := (Config.ppeAdc adc).toNat * 256 - s.f F.PPE_DARK_DARK (256 * i + j) * k
  let lit : Dy := ⟨steps * s.f F.PPE_GAIN_GAIN i * s.f F.PPE_GAIN_GAIN (64 + j) * Config.ppeUnit k, -52⟩
  lit.sub ⟨128 * sa + 128 * sb + 16384 * k, 0⟩

/-- The per-photodiode sums of a band, row by row (R163, R164): row `i` and column `c` meet in lane `c` and column `i` of the narrow
placement, in lane `i` and column `c` of the wide one (R156). -/
def State.bandSums (s : State) (b : CodeBand) : List (List Dy) :=
  let n := s.ints b
  let wide : Bool := s.f F.PPE_STATUS_PLACEMENT = 1
  b.rows.zipIdx.map fun r => b.cols.zipIdx.map fun c =>
    ((List.range n).map fun t =>
      s.ppePartial (s.free + (r.2 * b.cols.length + c.2) * n + t) (if wide then r.2 else c.2) (if wide then c.2 else r.2)
        (driveSum s.ppe.k t r.1) (driveSum s.ppe.k t c.1)).foldl Dy.add Dy.zero

/-- An exact inner product of codes. -/
def dotInt (a b : List Int) : Int := (List.zipWith (· * ·) a b).sum

/-- Whether a difference exceeds MULT times σ for `n` partials (R169), in exact integers. -/
def beyondSigma (k mult n : Nat) (d : Dy) : Bool :=
  let x := 10 * d.e + effBits10 k
  let σ := (mult ^ 2 * (2 * 127 ^ 2 * k) ^ 2 * n) ^ 5
  let δ := (12 * d.m.natAbs ^ 2) ^ 5
  decide (σ * 2 ^ (-x).toNat < δ * 2 ^ x.toNat)

/-- Whether a band's checksum column or row mismatches its sums (R168, R169). -/
def State.bandMismatch (s : State) (b : CodeBand) (sums : List (List Dy)) : Bool :=
  let k := s.ppe.k
  let mult := max 4 (s.f F.PPE_ABFT_MULT)
  let off (n : Nat) (l : List Dy) (check : Int) : Bool := beyondSigma k mult (n * s.ints b) ((l.foldl Dy.add Dy.zero).sub ⟨check, 0⟩)
  let colErr := b.rows.zipIdx.any fun r => off b.cols.length (sums.getD r.2 []) ((b.cols.map fun c => dotInt r.1.codes c.codes).sum)
  let rowErr := b.cols.zipIdx.any fun c =>
    off b.rows.length (sums.map fun l => l.getD c.2 Dy.zero) ((b.rows.map fun r => dotInt r.codes c.1.codes).sum)
  colErr || rowErr

/-- The folds a band makes from its sums (R162, R164): one FP32 value for each output, raising CONTRIB as the array's
tiles would. -/
def bandFolds (h : OpHdr) (b : CodeBand) (sums : List (List Dy)) : List PpeFold :=
  b.rows.zipIdx.flatMap fun r => b.cols.zipIdx.map fun c =>
    let v := ((sums.getD r.2 []).getD c.2 Dy.zero).scale (r.1.exp + c.1.exp - 12)
    let code := if r.1.bad || c.1.bad then Fmt.fp32.nanCode else Fmt.fp32.encode false v
    { entry := (b.row0 + r.2) * h.rank + c.2, code := code, count := h.cols / 64 }

/-- The FORWARD tiles of a band run on the array (R170). -/
def bandTiles (h : OpHdr) (b : Band) : List Tile :=
  let q := (List.range (h.cols * h.rank)).map fun e => valAt (b.cols.getD (e % h.rank) []) (e / h.rank)
  forwardParts { h with start := b.row0 * h.cols, len := b.rows.length * h.cols } b.rows.flatten q

/-- The folds of a band run on the array as FORWARD tiles (R170). -/
def arrayFolds (h : OpHdr) (b : Band) : List PpeFold :=
  (bandTiles h b).map fun t => { entry := t.entry, code := Fmt.fp32.encodeVal (t.fold h.wide).2, count := 1 }

/-- A band done with these folds: the next band, or the commit point of the item (R165). -/
def State.bandDone (s : State) (it : Item) (fs : List PpeFold) (sector : Nat) : State :=
  let s1 := (({ s with ppe := { s.ppe with
      folds := s.ppe.folds ++ fs, band := s.ppe.band + 1, mismatches := 0, begun := false } }).count F.PPE_BANDS_COUNT).ppeRest
  if s1.ppe.band < bandCount (s.opHdr it.row) then s1
  else
    let s2 : State := { s1 with ppe := { s1.ppe with item := none, folds := [], held := tput it.id s1.ppe.folds s1.ppe.held } }
    s2.settleHeld it sector

/-- The band at hand run on the array (R170, R172, R174); a mismatch of its checksums there is charged and its tiles are redone
(R144, R147). -/
def State.bandOnArray (s : State) (it : Item) (fx : Fx) : State :=
  let h := s.opHdr it.row
  let b := s.bandOf it.row s.ppe.band
  let s1 := (s.countEv F.PPE_FALLBACK_COUNT F.PPE_EVENTS_FALLBACK).degrade it.id
  if fx.mismatch || tilesDiffer h.wide (s.f F.ARR_ABFT_TOL) (max 1 h.rank) (bandTiles h b) then
    s1.ppeRest.mismatchArray it fx.sector phRedo
  else s1.bandDone it (arrayFolds h b) fx.sector

/-- The PPE item that runs, when a command names it; while the array redoes a band of it the engine does nothing (R147). -/
def State.ppeItem (s : State) (id : Nat) : Option Item :=
  match s.runningItem id opProject with
  | some it => if s.ppe.item = some id ∧ it.phase = 0 then some it else none
  | none => none

/-- The current band is integrated (R158): the first time its rows are converted (R161), later it is a repeat (R170). -/
def State.integrate (s : State) (it : Item) : State :=
  let s1 := ({ s with ppe := { s.ppe with integrating := true, begun := true } }).setf F.PPE_STATUS_STATE 1
  if s.ppe.begun then s1.count F.PPE_REPEAT_COUNT else s1.countClips (lineClips (s.bandOf it.row s.ppe.band).rows)

/-- PPE_BAND_START (R158): the band lies in staging. While FAILED the array runs it (R174); a due calibration runs
first (R176); without lock it waits (R171). -/
def execPpeBandStart (id : Nat) (fx : Fx) (s : State) : Host.Outcome State Fault Refusal :=
  match s.ppeItem id with
  | none => .next s
  | some it =>
    let st := s.f F.PPE_STATUS_STATE
    if st = 5 ∧ s.ppe.cal.isNone then s.within (s.projectDescs it.row) (s.bandOnArray it fx)
    else if st ≠ 0 ∨ s.ppe.integrating then .next s
    else if s.f F.PPE_STATUS_LOCKED = 0 then
      .next (({ s with ppe := { s.ppe with lockLostAt := some (s.ppe.lockLostAt.getD s.now) } }).setf F.PPE_STATUS_STATE 4)
    else s.within (s.projectDescs it.row) (s.integrate it)

/-- The engine's back end after a band's last integration (R164, R168 to R170). -/
def State.foldBand (s : State) (it : Item) (fx : Fx) : State :=
  match s.readOps it fx with
  | (.failed, s1) => s1.endItem it.id .failedChecksum
  | (_, s1) =>
    let b := s1.codeBand it.row s1.ppe.band
    let sums := s1.bandSums b
    let s2 : State := { s1 with free := s1.free + b.rows.length * b.cols.length * s1.ints b }
    if s1.bandMismatch b sums then
      let s3 := s2.countEv F.PPE_MISMATCH_COUNT F.PPE_EVENTS_MISMATCH
      if s3.ppe.mismatches = 0 then ({ s3 with ppe := { s3.ppe with mismatches := 1 } }).count F.PPE_REPEAT_COUNT
      else s3.bandOnArray it fx
    else s2.bandDone it (bandFolds (s1.opHdr it.row) b sums) 0xFF

/-- PPE_BAND_FOLD (R164, R168 to R170). -/
def execPpeBandFold (id : Nat) (fx : Fx) (s : State) : Host.Outcome State Fault Refusal :=
  match s.ppeItem id with
  | none => .next s
  | some it =>
    if s.f F.PPE_STATUS_STATE ≠ 1 then .next s
    else s.within (s.projectDescs it.row) (s.foldBand it fx)

/-! ### Locks -/

/-- The lock error of a ring noted (R454, R455). -/
def State.noteLockErr (s : State) (ring err : Nat) : State := { s with ppe := { s.ppe with lockErr := tput ring err s.ppe.lockErr } }

/-- A lock error beyond PPE_LOCK.TOL (R171): during an integration the band's partials are discarded and the band waits for lock. -/
def State.ppeUnlock (s : State) : State :=
  let s1 := ({ s with ppe := { s.ppe with lockLostAt := some (s.ppe.lockLostAt.getD s.now) } }).setf F.PPE_STATUS_LOCKED 0
  if s.f F.PPE_STATUS_STATE = 1 then
    (({ s1 with ppe := { s1.ppe with integrating := false } }).setf F.PPE_STATUS_STATE 4).event F.PPE_EVENTS_LOCK_LOST
  else s1

/-- Every lock is within its limit again (R171): a waiting band is integrated. -/
def State.ppeLock (s : State) : State :=
  let s1 := ({ s with ppe := { s.ppe with lockLostAt := none } }).setf F.PPE_STATUS_LOCKED 1
  match s.ppe.item.bind s.item with
  | some it => if s.f F.PPE_STATUS_STATE = 4 then s1.integrate it else s1
  | none => s1

/-- Whether every lane modulator and ring bank is within PPE_LOCK.TOL by its last lock error (R455). -/
def State.ppeInLock (s : State) : Bool := s.ppe.lockErr.all fun e => decide (e.2 ≤ s.f F.PPE_LOCK_TOL)

/-- PPE_LOCK_LOST (R171, R455): a lock error last read, in 1/256 of a ring's linewidth, is beyond PPE_LOCK.TOL. -/
def execPpeLockLost (s : State) : Host.Outcome State Fault Refusal := .next (if s.ppeInLock then s else s.ppeUnlock)

/-- PPE_LOCK_RETURN (R171, R455): once every lock error last read is within limits the waiting band is integrated. -/
def execPpeLockReturn (s : State) : Host.Outcome State Fault Refusal := .next (if s.ppeInLock then s.ppeLock else s)

/-- PPE_LOCK_WAIT_EXPIRED (R172): the waiting band runs on the array. -/
def execPpeLockWaitExpired (fx : Fx) (s : State) : Host.Outcome State Fault Refusal :=
  match s.ppe.item.bind s.item, s.ppe.lockLostAt with
  | some it, some t =>
    if s.f F.PPE_STATUS_STATE = 4 ∧ s.elapsed t (s.f F.PPE_LOCK_WAIT * 1000) then
      s.within (s.projectDescs it.row) (s.bandOnArray it fx)
    else .next s
  | _, _ => .next s

/-- Crosstalk coefficient q of a ring bank (PPE_XT). -/
def State.ppeXt (s : State) (b q : Nat) : Int :=
  let n := s.f (if q % 4 = 0 then F.PPE_XT_COEF0 else if q % 4 = 1 then F.PPE_XT_COEF1 else if q % 4 = 2 then F.PPE_XT_COEF2 else F.PPE_XT_COEF3)
    (144 * b + q / 4)
  if n < 2 ^ 15 then n else (n : Int) - 2 ^ 16

/-- Heater targets and drives after a loop period (R453, R455), with the difference of its two sums read of each ring: the targets of the
rings move, and each bank is driven through its crosstalk matrix; drives in units of 2^-14. Heaters that nothing has moved yet rest at
target zero and are not listed. -/
def State.ppeHeaters (s : State) (rings : List (Nat × Int)) : State :=
  let tgt := rings.foldl (fun (m : Tab Int) r => tput r.1 ((tfind r.1 m).getD 0 + Config.lockStep (2 ^ 16 + r.1) r.2) m) s.ppe.target
  let power (h : Nat) : Int := (tfind h tgt).getD 0
  let drive (h : Nat) : Int :=
    if h < 64 then power h * 2 ^ 14
    else
      let b := (h - 64) / 64
      let r := (h - 64) % 64
      ((List.range 9).map fun d =>
        if 4 ≤ r + d ∧ r + d - 4 < 64 then s.ppeXt b (9 * r + d) * power (64 + 64 * b + (r + d - 4)) else 0).sum
  let near := (rings.flatMap fun r => if r.1 < 64 then [r.1] else (List.range 64).map fun i => 64 + (r.1 - 64) / 64 * 64 + i).dedup
  { s with ppe := { s.ppe with target := tgt, drive := near.foldl (fun (m : Tab Int) h => tput h (drive h) m) s.ppe.drive } }

/-! ### Calibration -/

/-- A quick calibration asked for (R176): at once between bands, else as soon as no band integrates. -/
def State.askQuickCal (s : State) : State :=
  if s.ppe.cal.isSome then s
  else
    let s1 : State := { s with ppe := { s.ppe with calDue := true } }
    if s.f F.PPE_STATUS_STATE = 1 ∨ s.f F.PPE_STATUS_STATE = 4 then s1 else s1.ppeRest

/-- PPE_CAL_QUICK (R176). -/
def execPpeCalQuick (s : State) : Host.Outcome State Fault Refusal := .next s.askQuickCal

/-- Whether a PPE item is in flight (R177). -/
def State.ppeInFlight (s : State) : Bool :=
  s.seq.items.any fun it => rowOpcode it.row = opProject ∧ rowPpe it.row

/-- A full calibration asked for (R177). -/
def State.askFullCal (s : State) : State :=
  if s.ppeInFlight || s.ppe.cal.isSome then s.setf F.PPE_CAL_STATUS_RESULT Status.refusedBusy.code
  else ({ s with ppe := { s.ppe with cal := some (.full, s.now) } }).setf F.PPE_STATUS_STATE 3

/-- PPE_CAL_FULL (R177). -/
def execPpeCalFull (s : State) : Host.Outcome State Fault Refusal := .next s.askFullCal

/-- PPE_CAL_PERIOD (R176): the period since the last calibration has passed; 0 disables it. -/
def execPpeCalPeriod (s : State) : Host.Outcome State Fault Refusal :=
  if 0 < s.f F.PPE_CAL_PERIOD ∧ s.elapsed s.ppe.calEndedAt (s.f F.PPE_CAL_PERIOD * 10 ^ 6) then .next s.askQuickCal
  else .next s

/-- A 16-bit signed field as an integer. -/
def signed16 (n : Nat) : Int := if n < 2 ^ 15 then n else (n : Int) - 2 ^ 16

/-- PPE_TEMP_DELTA (R176): the die reads `temp` (1/16 °C, signed in 16 bits). -/
def execPpeTempDelta (temp : Nat) (s : State) : Host.Outcome State Fault Refusal :=
  let s1 := s.setf F.PPE_TEMP_NOW temp
  let d := (signed16 (s1.f F.PPE_TEMP_NOW) - signed16 (s1.f F.PPE_TEMP_AT_CAL)).natAbs
  if 4 * s1.f F.PPE_CAL_TEMP_DELTA < d then .next s1.askQuickCal else .next s1

/-- Gain table indices whose value fails calibration (PPE_GAIN). -/
def badGains (gain : List (Nat × Nat)) : List Nat := (gain.filter fun g => g.2 < 0x2000 ∨ 0x8000 < g.2).map Prod.fst

/-- Set bits of a word-indexed fault map. -/
def State.faultCols (s : State) (cols : List Nat) : State :=
  cols.foldl (fun s c => s.putBit F.PPE_FAULT_COL_COLUMN (c % 64) true (c / 64)) s

/-- PPE_CAL_DONE (R174 to R177): the measured tables by index, and the lanes and columns found outside their limits. -/
def execPpeCalDone (dark gain xt : List (Nat × Nat)) (lanes cols : List Nat) (s : State) :
    Host.Outcome State Fault Refusal :=
  match s.ppe.cal with
  | none => .next s
  | some (kind, t) =>
    if !s.elapsed t (if kind = .quick then 20000 else 20000000) then .next s
    else
      let bad := badGains gain
      let badLanes := lanes ++ bad.filter (· < 64)
      let badCols := cols ++ (bad.filter (64 ≤ ·)).map (· - 64)
      let s1 := dark.foldl (fun s d => s.setf F.PPE_DARK_DARK d.2 d.1) s
      let s2 := gain.foldl (fun s g => s.setf F.PPE_GAIN_GAIN g.2 g.1) s1
      let s3 := if kind = .full then xt.foldl (fun s x => s.setReg R.PPE_XT x.1 (BitVec.ofNat 64 x.2)) s2 else s2
      let s4 := if kind = .full then
          (List.range 4).foldl (fun s w => s.setf F.PPE_FAULT_COL_COLUMN 0 w) (s3.setf F.PPE_FAULT_LASER_LANE 0)
        else s3
      let s5 := (badLanes.foldl (fun s l => s.putBit F.PPE_FAULT_LASER_LANE l true) s4).faultCols badCols
      let fails := !(badLanes.isEmpty && badCols.isEmpty)
      let failed := fails || (s.ppe.failed && decide (kind = .quick))
      let s6 := (((((s5.setf F.PPE_CAL_STATUS_RESULT (if fails then Status.failedChecksum.code else 0)).setf
        F.PPE_CAL_STATUS_KIND (b2n (decide (kind = .full)))).setf F.PPE_CAL_STATUS_TIME (s.tb3 % 2 ^ 32)).setf
        F.PPE_TEMP_AT_CAL (s.f F.PPE_TEMP_NOW)).event F.PPE_EVENTS_CAL_DONE).eventIf (fails && !s.ppe.failed)
        F.PPE_EVENTS_FAILED
      .next ({ s6 with ppe := { s6.ppe with cal := none, failed := failed, calEndedAt := s.now } }).ppeRest

/-- Whether a calibration table may be written now (R179). -/
def State.calWritable (s : State) : Bool :=
  let st := s.f F.PPE_STATUS_STATE
  decide (st = 0) || decide (st = 5) || decide (st = 6)

/-- The band at hand of the engine's item run on the array, unless the array redoes one of it. -/
def State.ppeFinishBand (s : State) : State :=
  match s.ppe.item.bind s.item with
  | some it => if it.phase = 0 then s.bandOnArray it { sector := 0xFF, shadow := 0xFF, mismatch := false, ue := false } else s
  | none => s

/-- The remaining bands of the engine's item run on the array (R679). -/
def State.ppeFinish (s : State) : State :=
  match s.ppe.item.bind s.item with
  | some it => (List.range (bandCount (s.opHdr it.row) - s.ppe.band)).foldl (fun s _ => s.ppeFinishBand) s
  | none => s

end Sys2Proof.Machine
end

