-- ==== Sys2Proof/Machine/Codebook.lean ====
section
/-! DEFINITION. Codebooks: the fit of a first pass (R202, R203), the codebook table and its generations (R206, R217 to
R226), the body that travels (R209, R757), sending and receiving CODEBOOK messages (R223 to R225, R295). -/

namespace Sys2Proof.Machine

/-! ### The fit -/

/-- A dyadic rounded to FP32. -/
def f32 (v : Dy) : Dy :=
  match (Val.fin false v).round .fp32 with
  | .fin _ x => x
  | _ => v

/-- A quotient rounded once to FP32: 64 more bits and a sticky bit, then one rounding. -/
def f32Div (a : Dy) (n : Nat) : Dy :=
  let q : Nat := a.m.natAbs * 2 ^ 64 / n
  let st : Nat := if a.m.natAbs * 2 ^ 64 % n = 0 then 0 else 1
  let mag : Int := (2 * q + st : Nat)
  f32 ⟨if a.m < 0 then -mag else mag, a.e - 65⟩

/-- The centre of histogram bin `b` (R202). -/
def binCentre (b : Nat) : Dy := ⟨2 * b + 1, -12⟩

/-- `a ≤ b`. -/
def Dy.le (a b : Dy) : Bool := !(b.lt a)

/-- The initial level at mass quantile `i` (R203). -/
def quantile (bins : List Nat) (last k i : Nat) : Dy :=
  let target := (f32 ((⟨2 * i + 1, -1⟩ : Dy).mul ⟨bins.length, 0⟩)).scale (-(Nat.log2 k : Int))
  let ok (b : Nat) : Bool := target.le ⟨(bins.filter (· ≤ b)).length, 0⟩
  binCentre (((bins.filter ok).min?).getD last)

/-- One Lloyd-Max step (R203): each level the count-weighted mean of its interval, in FP32, in ascending bin order. -/
def lloydMax (bins : List Nat) (m : List Dy) : List Dy :=
  let k := m.length
  let lvl (i : Nat) : Dy := m.getD i Dy.zero
  let thr (i : Nat) : Dy :=
    if i = 0 then Dy.zero else if i = k then ⟨2, 0⟩ else (f32 ((lvl (i - 1)).add (lvl i))).scale (-1)
  let distinct := (bins.mergeSort (· ≤ ·)).dedup
  (List.range k).map fun i =>
    let ins := distinct.filter fun b => (thr i).lt (binCentre b) && (binCentre b).le (thr (i + 1))
    let cnt (b : Nat) : Nat := (bins.filter (· = b)).length
    let n := (ins.map cnt).sum
    if n = 0 then lvl i
    else f32Div (ins.foldl (fun a b => f32 (a.add (f32 ((binCentre b).mul ⟨cnt b, 0⟩)))) Dy.zero) n

/-- The value of a BF16 code. -/
def bf16Dy (c : Nat) : Dy := match Fmt.bf16.decode c with | .fin _ x => x | _ => Dy.zero

/-- Levels made strictly ascending from below (R203). -/
def ascend : Nat → List Nat → List Nat
  | _, [] => []
  | prev, c :: cs => let c' := if c ≤ prev then prev + 1 else c; c' :: ascend c' cs

/-- Levels made strictly ascending from above, walking the reversed list (R203). -/
def descend : Nat → List Nat → List Nat
  | _, [] => []
  | next, c :: cs => let c' := if next ≤ c then next - 1 else c; c' :: descend c' cs

/-- The last lines of R203, on BF16 codes of positive levels: code order is value order. -/
def tidyLevels (cs : List Nat) : List Nat :=
  match cs with
  | [] => []
  | c :: t =>
    match (c :: ascend c t).reverse with
    | [] => []
    | top :: rest =>
      let top' := if 0x4000 ≤ top then 0x3FFF else top
      (top' :: descend top' rest).reverse

/-- The codebook that a histogram gives at a rate (R203): LIM as an FP32 code and the levels as BF16 codes. -/
def fitBook (rate : Nat) (bins : List Nat) : Nat × List Nat :=
  let k := rateLevels rate
  match bins.max? with
  | none =>
    (Fmt.fp32.encode false ⟨2, 0⟩,
     tidyLevels ((List.range k).map fun i => Fmt.bf16.encode false (f32Div ⟨2 * i + 1, 0⟩ k)))
  | some last =>
    let m := lloydMax bins (lloydMax bins ((List.range k).map fun i => quantile bins last k i))
    (Fmt.fp32.encode false ⟨last + 1, -11⟩, tidyLevels (m.map fun v => Fmt.bf16.encode false v))

/-! ### The table -/

/-- The records of a slot, copy 0 then 1 (R206). -/
def State.slotBooks (s : State) (slot : Nat) : List (Nat × Book) :=
  s.cmp.books.filter fun e => e.1 / 2 = slot

/-- The live records of a slot. -/
def State.liveBooks (s : State) (slot : Nat) : List (Nat × Book) := (s.slotBooks slot).filter fun e => e.2.live

/-- The current record of a slot (R217). -/
def State.curBook (s : State) (slot : Nat) : Option Book :=
  ((s.liveBooks slot).find? fun e => e.2.current).map Prod.snd

/-- The previous live record of a slot. -/
def State.prevBook (s : State) (slot : Nat) : Option Book :=
  ((s.liveBooks slot).find? fun e => !e.2.current).map Prod.snd

/-- The live record of a generation. -/
def State.bookOf (s : State) (slot gen : Nat) : Option Book :=
  ((s.liveBooks slot).find? fun e => e.2.gen = gen).map Prod.snd

def State.setBook (s : State) (key : Nat) (b : Book) : State :=
  { s with cmp := { s.cmp with books := tput key b s.cmp.books } }

/-- Records of a slot changed. -/
def State.mapBooks (s : State) (slot : Nat) (g : Book → Book) : State :=
  let one (e : Nat × Book) : Nat × Book := if e.1 / 2 = slot then (e.1, g e.2) else e
  { s with cmp := { s.cmp with books := s.cmp.books.map one } }

/-- A generation of a slot ceases to be live. -/
def State.retireBook (s : State) (slot gen : Nat) : State :=
  s.mapBooks slot fun b => if b.gen = gen ∧ b.live then { b with live := false, current := false } else b

/-- The record that a new generation of a slot is written into: the one that is not live, copy 0 first (R221, R225). -/
def State.freeCopy (s : State) (slot : Nat) : Nat :=
  if (s.liveBooks slot).any fun e => e.1 = 2 * slot then 2 * slot + 1 else 2 * slot

/-- A new current generation of a slot; the old current becomes previous, and what was acknowledged of an older generation of the same
number is forgotten. -/
def State.installBook (s : State) (slot : Nat) (b : BookBody) (acked : Bool) : State :=
  let s1 := s.mapBooks slot fun x => { x with current := false }
  let s2 : State := { s1 with cmp := { s1.cmp with
    acks := s1.cmp.acks.filter fun a => !(decide (a.2.1 = slot) && decide (a.2.2 = b.gen))
    waits := s1.cmp.waits.filter fun w => !(decide (w.slot = slot) && decide (w.body.gen = b.gen)) } }
  s2.setBook (s1.freeCopy slot)
    { gen := b.gen, rate := b.rate, live := true, current := true, acked := acked, fixed := false, conflicted := false,
      lim := b.lim, step := b.step, lastUse := 0, levels := b.levels, doomed := false }

/-! ### The body that travels -/

/-- The bytes of a body (R209). -/
def BookBody.bytes (b : BookBody) : List Byte :=
  beBytes 1 b.gen ++ beBytes 1 b.rate ++ beBytes 2 0 ++ beBytes 4 b.lim ++ beBytes 4 b.step ++ beBytes 4 0 ++
    b.levels.flatMap (beBytes 2)

/-- Whether levels ascend strictly within (0, 2): BF16 codes of positive values order as the values do (R757). -/
def levelsOk : Nat → List Nat → Bool
  | _, [] => true
  | prev, c :: cs => decide (prev < c) && decide (c < 0x4000) && levelsOk c cs

/-- Whether LIM is finite, above 0 and at most 2 (R757). -/
def limOk (c : Nat) : Bool :=
  match Fmt.fp32.decode c with
  | .fin _ v => decide (0 < v.m) && v.le ⟨2, 0⟩
  | _ => false

/-- The codebook that a message body spells for a segment of this rate, if it is one (R757). -/
def bookOfBytes (rate : Nat) (bs : List Byte) : Option BookBody :=
  let fl (o n : Nat) : Nat := beNat ((bs.drop o).take n)
  let r := fl 1 1
  if ¬ [2, 3, 4, 6, 8].contains r ∨ r ≠ rate ∨ bs.length ≠ 16 + 2 ^ r then none
  else
    let levels := (List.range (rateLevels r)).map fun i => fl (16 + 2 * i) 2
    if fl 2 2 ≠ 0 ∨ fl 12 4 ≠ 0 ∨ !limOk (fl 4 4) ∨ !levelsOk 0 levels then none
    else some { gen := fl 0 1, rate := r, lim := fl 4 4, step := fl 8 4, levels := levels }

def Book.body (b : Book) : BookBody :=
  { gen := b.gen, rate := b.rate, lim := b.lim, step := b.step % 2 ^ 32, levels := b.levels }

/-! ### Sending -/

/-- The peer session that a context names, if any (R497, R499). -/
def Ctx.peer (c : Ctx) : Option Nat := if c.valid ∧ c.keySlot ≠ 0 then some c.session else none

/-- A CODEBOOK sent on a session for a generation of a slot, in class C0 (R223, R243, R332). -/
def State.sendBook (s : State) (n slot stream origin : Nat) (b : Book) : State :=
  let h := { s.plainHead kCodebook with origin := origin, step := b.step, stream := (s.ctx stream).peerStream }
  let s1 := s.sendData n h stream b.body.bytes
  { s1 with cmp := { s1.cmp with sends := s1.cmp.sends ++ [BookSend.mk n slot stream b.gen s.now] } }

/-- A codebook acknowledgement arrived on a session (R224, R293): its CODEBOOK is done with, and ACKED is set once no
session still owes one. -/
def State.bookAcked (s : State) (n peerStream gen : Nat) : State :=
  let mine (b : BookSend) : Bool := decide (b.session = n ∧ b.gen = gen) && decide ((s.ctx b.stream).peerStream = peerStream)
  match s.cmp.sends.find? mine with
  | none => s
  | some b =>
    let s1 : State := { s with cmp := { s.cmp with
      sends := s.cmp.sends.filter fun x => !mine x, acks := s.cmp.acks ++ [(n, b.slot, gen)] } }
    if s1.cmp.sends.any fun x => x.slot = b.slot ∧ x.gen = gen then s1
    else s1.mapBooks b.slot fun x => if x.gen = gen then { x with acked := true } else x

/-- CODEBOOK_REPEAT (R295): no codebook acknowledgement within 1.5 × RTT + 200 µs of the transport acknowledgement. -/
def execCodebookRepeat (n slot gen : Nat) (s : State) : Host.Outcome State Fault Refusal :=
  let rtt := max (s.rtt n 0) (s.rtt n 1)
  match s.cmp.sends.find? fun b => b.session = n ∧ b.slot = slot ∧ b.gen = gen, s.bookOf slot gen with
  | some b, some k =>
    let held := (s.sess n).tx.any fun t => t.kind = kCodebook ∧ t.localStream = b.stream ∧ t.phase ≠ TxPhase.acked
    if held ∨ !s.elapsed b.sentAt (3 * rtt / 2 + 200000) then .next s
    else
      let s1 : State := { s with cmp := { s.cmp with sends := s.cmp.sends.filter fun x => x ≠ b } }
      .next (s1.sendBook n slot b.stream s.conf.site k)
  | _, _ => .next s

/-! ### Receiving -/

/-- A codebook acknowledgement put among those a session's next eight ACKs carry (R294). -/
def State.ackBook (s : State) (n stream gen : Nat) : State := s.updSess n fun x => { x with cbAcks := x.cbAcks ++ [(stream, gen, 8)] }

/-- The live generation that a further one retires: a conflicted one, else the older (R225). -/
def State.retiring (s : State) (slot : Nat) : Option Book :=
  match (s.liveBooks slot).find? fun e => e.2.conflicted with
  | some e => some e.2
  | none => s.prevBook slot

/-- A codebook for a receiving stream's slot (R225). -/
def State.takeBook (s : State) (n slot stream : Nat) (b : BookBody) : State :=
  let live := s.liveBooks slot
  match s.bookOf slot b.gen with
  | some x =>
    if x.conflicted then s
    else if x.body.lim = b.lim ∧ x.body.levels = b.levels ∧ x.rate = b.rate ∧ x.step % 2 ^ 32 = b.step % 2 ^ 32 then s.ackBook n stream b.gen
    else (s.mapBooks slot fun y => if y.gen = b.gen ∧ y.live then { y with conflicted := true } else y).event F.CMP_EVENTS_CONFLICT
  | none =>
    if live.length < 2 then (s.installBook slot b false).ackBook n stream b.gen
    else match s.retiring slot with
      | none => s
      | some old =>
        if s.bookPins slot old.gen = 0 then
          ((s.retireBook slot old.gen).installBook slot b false).ackBook n stream b.gen
        else
          let waits := s.cmp.waits.filter fun w => !(decide (w.slot = slot) && decide (w.body.gen = b.gen))
          { s with cmp := { s.cmp with waits := waits ++ [BookWait.mk n slot stream b] } }

/-- The generation of a slot that must go before a further one is installed (R225): none while fewer than two are live. -/
def State.mustRetire (s : State) (slot : Nat) : Option Book := if (s.liveBooks slot).length < 2 then none else s.retiring slot

/-- CODEBOOK_INSTALL_DEFERRED (R225): the older generation's pins of a slot have reached zero. -/
def execCodebookInstallDeferred (slot : Nat) (s : State) : Host.Outcome State Fault Refusal :=
  match s.cmp.waits.find? fun w => w.slot = slot with
  | none => .next s
  | some w =>
    match s.mustRetire slot with
    | none => .next ((s.installBook slot w.body false).ackBook w.session w.stream w.body.gen)
    | some old =>
      if s.bookPins slot old.gen = 0 then
        .next (((s.retireBook slot old.gen).installBook slot w.body false).ackBook w.session w.stream w.body.gen)
      else .next s

end Sys2Proof.Machine
end

