-- ==== Sys2Proof/Machine/Compress.lean ====
section
/-! DEFINITION. Fixed-rate compression: FIRSTPASS (R202 to R205, R220 to R223), ENCODE and its residual copy (R192 to R201,
R210, R211, R215, R217, R218), DECODE with its header checks and re-requests (R195, R212, R213, R227 to R231). -/

namespace Sys2Proof.Machine

/-! ### The elements x_e -/

/-- Element `e` of a region of a format, from a descriptor's address. -/
def State.regionElem (s : State) (fmt : Nat) (d : Desc) (e : Nat) : Val :=
  match fmtOf fmt with
  | some f => f.decode (leNat (s.rdBytes d.tier (d.addr + e * fmtSize fmt) (fmtSize fmt)))
  | none => .fin false Dy.zero

/-- x_e of R196 for the `i`-th element of SRC, element `e` of the segment. -/
def State.xElem (s : State) (g : Seg) (src : Desc) (i e : Nat) : Val :=
  let zero : Val := .fin false Dy.zero
  let site := s.regionElem g.inFmt src i
  let b := if g.hasBase then s.regionElem g.inFmt g.base e else zero
  let r := if g.hasResid then s.regionElem 0 g.resid e else zero
  (((site.add b.neg).add r)).round .fp32

/-- The descriptors that forming x_e reads besides SRC: base and residual elements `e0` to `e0 + c`. -/
def formDescs (g : Seg) (e0 c : Nat) : List Desc :=
  (if g.hasBase then [Desc.mk g.base.tier (g.base.addr + e0 * fmtSize g.inFmt) (c * fmtSize g.inFmt)] else []) ++
  (if g.hasResid then [Desc.mk g.resid.tier (g.resid.addr + 4 * e0) (4 * c)] else [])

/-- Reads of several descriptors together with SRC (R28, R36). -/
def State.readMany (s : State) (id : Nat) (src : Desc) (ds : List Desc) (fx : Fx) : ReadEnd × State :=
  let r := s.readSrc id src fx
  r.2.readAlso id r.1 ds

/-- The largest unbiased exponent among finite elements of magnitude at least 2^−126 (R210). -/
def blockExp (xs : List Val) : Option Int :=
  let es := xs.filterMap fun v => match v with
    | .fin _ x => if x.m ≠ 0 ∧ -126 ≤ x.expo then some x.expo else none
    | _ => none
  match es with
  | [] => none
  | e :: t => some (t.foldl max e)

/-! ### FIRSTPASS -/

/-- How the gateway answers an issued FIRSTPASS (R220): one of a stream at a time, in issue order. -/
def State.startFirstpass (s : State) (it : Item) : StartRes :=
  let stream := rowStream it.row
  if s.seq.items.any fun j => rowOpcode j.row = opFirstpass ∧ rowStream j.row = stream ∧ j.id < it.id then .wait else .go

/-- The sampled elements of a first pass, block by block (R202). -/
def State.firstpassBlocks (s : State) (it : Item) : List (List Val) :=
  let g := s.seg (s.ctx (rowStream it.row))
  let n := min g.elems ((rowSrc it.row).len / fmtSize g.inFmt)
  ((List.range ((n + 255) / 256)).filter fun b => b % 2 ^ g.sample = 0).map fun b =>
    (List.range (min 256 (n - 256 * b))).map fun i => s.xElem g (rowSrc it.row) (256 * b + i) (256 * b + i)

/-- The floor of a non-negative dyadic. -/
def Dy.toFloor (v : Dy) : Nat := if 0 ≤ v.e then v.m.toNat * 2 ^ v.e.toNat else v.m.toNat / 2 ^ (-v.e).toNat

/-- The histogram bins of a block (R202). -/
def blockBins (xs : List Val) : List Nat :=
  match blockExp xs with
  | none => if xs.all Val.finite then [] else xs.filterMap fun v => match v with
      | .fin _ x => some ((x.abs.scale 11).toFloor)
      | _ => none
  | some e => xs.filterMap fun v => match v with
      | .fin _ x => some ((x.abs.scale (11 - e)).toFloor)
      | _ => none

/-- E_max of R120: the largest unbiased exponent among the finite, non-zero values. DESIGN CHOICE (log entry 96): that of a subnormal
value is its normalised exponent. -/
def maxExp (xs : List Val) : Option Int :=
  let es := xs.filterMap fun v => match v with | .fin _ x => if x.m = 0 then none else some x.expo | _ => none
  match es with
  | [] => none
  | e :: t => some (t.foldl max e)

/-- Whether the previous generation of a stream may be retired (R221). -/
def State.mayRetire (s : State) (stream : Nat) (old : Book) : Bool :=
  let c := s.ctx stream
  decide (s.bookPins (s.seg c).cbSlot old.gen = 0) &&
    (decide (old.lastUse ≤ s.f F.SEQ_MERIDIAN_STEP) ||
      (!s.exact && (match c.peer with | some n => decide (s.sessState n = ssEclipse) | none => false)))

/-- The sectors that hold a range of tiers S and H, element by element (R205): of an element on no declared page, the one named. -/
def State.sectorsOf (s : State) (src : Desc) (size other : Nat) (es : List Nat) : List Nat :=
  es.map fun e => match (if src.tier ≤ 1 then tfind (pageKey src.tier (src.addr + e * size)) s.mem.pages else none) with
    | some p => p.primary
    | none => other

/-- Lane operations on sampled elements counted in the sectors that hold the source (R205). -/
def State.sampleOps (s : State) (it : Item) (sector : Nat) : State :=
  let g := s.seg (s.ctx (rowStream it.row))
  let n := min g.elems ((rowSrc it.row).len / fmtSize g.inFmt)
  let at_ := s.sectorsOf (rowSrc it.row) (fmtSize g.inFmt) sector ((List.range n).filter fun e => e / 256 % 2 ^ g.sample = 0)
  (List.range 8).foldl (fun s k => s.laneOps k (at_.filter (· = k)).length) s

/-- The commit of a FIRSTPASS (R120, R203, R204, R205, R221, R223). DESIGN CHOICE (log entry 4): a WIN_TOP below the lowest that its signed
byte holds is a free word. -/
def State.commitFirstpass (s : State) (it : Item) (sector : Nat) : State :=
  let stream := rowStream it.row
  let c := s.ctx stream
  let g := s.seg c
  let blocks := s.firstpassBlocks it
  let fit := fitBook g.rate (blocks.flatMap blockBins)
  let gen := match s.curBook g.cbSlot with | some b => (b.gen + 1) % 256 | none => 1
  let s1 := match s.prevBook g.cbSlot with | some old => s.retireBook g.cbSlot old.gen | none => s
  let s2 := s1.installBook g.cbSlot { gen := gen, rate := g.rate, lim := fit.1, step := it.step, levels := fit.2 } false
  let s3 := match maxExp blocks.flatten with
    | none => s2
    | some e =>
      let top := min 127 (e + s.f F.ARR_WINDOW_MARGIN)
      if top < -128 then s2.fresh.2.setCtx stream { c with winTop := BitVec.ofNat 8 s2.fresh.1.toNat }
      else s2.setCtx stream { c with winTop := BitVec.ofInt 8 top }
  let s4 := s3.sampleOps it sector
  let s5 := (if s4.capped then s4.degrade it.id else s4).count F.CMP_FIRSTPASS_COUNT
  let s6 := match c.peer, s5.bookOf g.cbSlot gen with
    | some n, some b => s5.sendBook n g.cbSlot stream s.conf.site b
    | _, _ => s5
  s6.commitItem it.id sector

/-- The engine has read a FIRSTPASS's source, or its wait of R221 may be over. -/
def State.runFirstpass (s : State) (it : Item) (fx : Fx) : State :=
  let stream := rowStream it.row
  let g := s.seg (s.ctx stream)
  let n := (rowSrc it.row).len / fmtSize g.inFmt
  let r : ReadEnd × State := if it.phase = 0 then s.readMany it.id (rowSrc it.row) ((s.ctx stream).segDesc :: formDescs g 0 (min n g.elems)) fx else (.clean, s)
  if r.1 = .failed then r.2.endItem it.id .failedChecksum fx.sector
  else
    let free := match r.2.prevBook g.cbSlot with | some old => r.2.mayRetire stream old | none => true
    if free then r.2.commitFirstpass it fx.sector
    else r.2.updItem it.id fun i => if i.phase = 1 then i else { i with phase := 1, phaseAt := s.now }

/-- FIRSTPASS (R202 to R205, R220 to R223). -/
def execFirstpass (id : Nat) (fx : Fx) (s : State) : Host.Outcome State Fault Refusal :=
  match s.runningItem id opFirstpass with
  | none => .next s
  | some it =>
    let g := s.seg (s.ctx (rowStream it.row))
    s.within (rowSrc it.row :: formDescs g 0 (min g.elems ((rowSrc it.row).len / fmtSize g.inFmt))) (s.runFirstpass it fx)

/-- FIRSTPASS_PIN_WAIT (R222). -/
def execFirstpassPinWait (id : Nat) (s : State) : Host.Outcome State Fault Refusal :=
  match s.runningItem id opFirstpass with
  | none => .next s
  | some it =>
    .next (s.eventIf (decide (it.phase = 1) && decide (0 < s.f F.SEQ_WATCHDOG_LIMIT) &&
      s.longer it.phaseAt (s.f F.SEQ_WATCHDOG_LIMIT * 10 ^ 6)) F.CMP_EVENTS_PIN_WAIT)

/-! ### Residual copies -/

/-- Whether a residual copy outstanding overlaps a range (R199). -/
def State.copyPending (s : State) (d : Desc) : Bool :=
  s.cmp.copies.any fun c => decide (c.tier = d.tier) && decide (c.addr < d.addr + d.len) &&
    decide (d.addr < c.addr + c.bytes.length)

/-- What an item reads: its SRC, what forms the elements of a compression pass, and the operands of a product. -/
def State.itemReads (s : State) (it : Item) : List Desc :=
  let g := s.seg (s.ctx (rowStream it.row))
  let op := rowOpcode it.row
  (if rowSrcValid it.row then [rowSrc it.row] else []) ++
  (if op = opFirstpass ∨ op = opEncode then
    [g.base, g.resid, g.recon].zip [g.hasBase, g.hasResid, g.hasRecon && decide (op = opEncode)] |>.filterMap fun x => if x.2 then some x.1 else none
  else []) ++
  (if op = opProject then s.projectDescs it.row else [])

/-- Whether R199 keeps an item waiting: it reads elements whose residual copy has not ended. -/
def State.copyHeld (s : State) (it : Item) : Bool := (s.itemReads it).any s.copyPending

/-! ### ENCODE -/

/-- Whether R193 refuses an ENCODE. -/
def State.badEncode (s : State) (it : Item) : Bool :=
  let g := s.seg (s.ctx (rowStream it.row))
  let d := rowDst it.row
  let sp := s.encodeSpan it
  !g.lowrank &&
    (decide (d.tier ≠ g.cbBase.tier) || decide (d.addr < g.cbBase.addr)
    || decide ((d.addr - g.cbBase.addr) % cblockSize g.rate ≠ 0)
    || decide ((g.elems + 255) / 256 ≤ sp.1)
    || decide (d.len < (sp.2.2 + 255) / 256 * cblockSize g.rate)
    || (decide (sp.2.2 % 256 ≠ 0) && decide (sp.2.1 + sp.2.2 ≠ g.elems)))

/-- How the gateway answers an issued ENCODE (R193, R199, R218). -/
def State.startEncode (s : State) (it : Item) : StartRes :=
  let g := s.seg (s.ctx (rowStream it.row))
  if s.badEncode it then .refuse .refusedFit
  else if g.rate ≠ 0xF && !g.lowrank && (s.curBook g.cbSlot).isNone then .fail .failedTableGone
  else .go

/-- Bytes of residual scratch an ENCODE needs (R199). -/
def State.encodeNeed (s : State) (it : Item) : Nat :=
  let g := s.seg (s.ctx (rowStream it.row))
  if g.hasResid && !(g.lowrank && rowDstValid it.row) then 4 * (s.encodeSpan it).2.2 else 0

/-- One element encoded (R201, R211): code, saturated, not finite, new residual. -/
structure EncOut where
  code : Nat
  sat : Bool
  bad : Bool
  resid : Val
  deriving DecidableEq, Repr

/-- The threshold count of R211. -/
def levelIndex (levels : List Dy) (y : Dy) : Nat :=
  ((List.range (levels.length - 1)).filter fun i =>
    (((levels.getD i Dy.zero).add (levels.getD (i + 1) Dy.zero)).scale (-1)).lt y).length

/-- An element of a block with exponent `E` (R201, R211); the residual is x less its decoded value (R198, R212). -/
def encodeElem (rate : Nat) (levels : List Dy) (lim : Dy) (out : Fmt) (E : Int) (v : Val) : EncOut :=
  let top := levels.length - 1
  let sgn := 2 ^ (rate - 1)
  let zero : Val := .fin false Dy.zero
  match v with
  | .inf neg => { code := (if neg then sgn else 0) + top, sat := true, bad := true, resid := zero }
  | .nan => { code := 0, sat := true, bad := true, resid := zero }
  | .fin _ x =>
    let y := x.scale (-E)
    let big := lim.lt y.abs
    let a := if big then lim else y.abs
    let i := levelIndex levels a
    let neg := decide (x.m < 0)
    let d0 := (levels.getD i Dy.zero).scale E
    let d := (Val.fin neg (if neg then d0.neg else d0)).round out
    { code := (if neg then sgn else 0) + i, sat := big, bad := false, resid := (v.add d.neg).round .fp32 }

/-- A coded cblock (R182, R185, R194, R210). -/
structure BlockOut where
  bytes : List Byte
  sat : Nat
  bad : Nat
  resid : List Val
  deriving DecidableEq, Repr

/-- The header of a cblock (R182). -/
def cblockHead (gen ex rate kind sat block : Nat) : List Byte :=
  beBytes 1 gen ++ beBytes 1 ex ++ beBytes 1 (16 * rate + kind) ++ beBytes 1 (min sat 255) ++ beBytes 4 block

/-- A block of elements encoded (R194, R210, R211). -/
def encodeBlock (g : Seg) (b : Book) (block : Nat) (xs : List Val) : BlockOut :=
  let out := (fmtOf g.outFmt).getD .fp32
  match blockExp xs, xs.all Val.finite with
  | none, true =>
    { bytes := cblockHead b.gen 0 g.rate g.kind 0 block ++ List.replicate (32 * g.rate) 0, sat := 0, bad := 0, resid := xs }
  | e, _ =>
    let E := e.getD 0
    let lim := match Fmt.fp32.decode b.lim with | .fin _ v => v | _ => Dy.zero
    let os := xs.map (encodeElem g.rate (b.levels.map bf16Dy) lim out E)
    let sat := (os.filter EncOut.sat).length
    let codes := os.map EncOut.code ++ List.replicate (256 - xs.length) 0
    { bytes := cblockHead b.gen (E + 127).toNat g.rate g.kind sat block ++
        beBytes (32 * g.rate) (codes.foldl (fun n c => n * 2 ^ g.rate + c) 0)
      sat := sat, bad := (os.filter EncOut.bad).length, resid := os.map EncOut.resid }

/-- The codebook of a generation that an item has latched (R217). -/
def State.latchedBook (s : State) (slot gen : Nat) : Option Book :=
  (s.bookOf slot gen).or ((s.cmp.displaced.find? fun d => d.1 = slot ∧ d.2.gen = gen).map Prod.snd)

/-- The blocks an ENCODE writes (R192, R188 for RAW). -/
def State.encodeBlocks (s : State) (it : Item) : List BlockOut :=
  let g := s.seg (s.ctx (rowStream it.row))
  let sp := s.encodeSpan it
  let src := rowSrc it.row
  let book := match it.books.head? with | some kg => s.latchedBook kg.1 kg.2 | none => none
  (List.range ((sp.2.2 + 255) / 256)).map fun i =>
    let len := min 256 (sp.2.2 - 256 * i)
    match book, decide (g.rate = 0xF) with
    | some b, false => encodeBlock g b (sp.1 + i) ((List.range len).map fun k => s.xElem g src (256 * i + k) (sp.2.1 + 256 * i + k))
    | _, _ =>
      let data := s.rdBytes src.tier (src.addr + 256 * i) len
      { bytes := cblockHead 0 0 0xF g.kind 0 (sp.1 + i) ++ data ++ List.replicate (256 - len) 0, sat := 0, bad := 0, resid := [] }

/-- FP32 codes of residuals as bytes. -/
def residBytes (vs : List Val) : List Byte := vs.flatMap fun v => leBytes 4 (Fmt.fp32.encodeVal v)

/-- A residual copy left to do after an ENCODE's commit (R199). -/
def State.queueCopy (s : State) (it : Item) (g : Seg) (e0 : Nat) (vs : List Val) : State :=
  if g.hasResid then
    { s with cmp := { s.cmp with copies := s.cmp.copies ++
        [ResidCopy.mk it.id g.resid.tier (g.resid.addr + 4 * e0) (residBytes vs) s.exact] } }
  else s

/-- The commit of an ENCODE whose source has been read. -/
def State.commitEncode (s : State) (it : Item) (sector : Nat) : State :=
  let stream := rowStream it.row
  let g := s.seg (s.ctx stream)
  let sp := s.encodeSpan it
  let d := rowDst it.row
  if g.lowrank then
    let xs := (List.range sp.2.2).map fun i => s.xElem g (rowSrc it.row) i (sp.2.1 + i)
    if rowDstValid it.row then
      let f := (fmtOf g.outFmt).getD .fp32
      (s.wrBytes d.tier d.addr ((encodeCodes f (xs.map f.encodeVal)).take d.len)).commitItem it.id sector
    else
      let bad := (xs.filter fun x => !x.finite).length
      let rs := xs.zipIdx.map fun (x, i) =>
        if x.finite then (x.add (s.regionElem 0 g.recon (sp.2.1 + i)).neg).round .fp32 else .fin false Dy.zero
      let s1 := (s.countEv F.CMP_SATURATED_COUNT F.CMP_EVENTS_SATURATED bad).countEv F.CMP_NONFINITE_COUNT F.CMP_EVENTS_NONFINITE bad
      ((if 0 < bad then s1 else s).queueCopy it g sp.2.1 rs).commitItem it.id sector
  else
    let bs := s.encodeBlocks it
    let sat := (bs.map BlockOut.sat).sum
    let bad := (bs.map BlockOut.bad).sum
    let s1 := s.wrBytes d.tier d.addr (bs.flatMap BlockOut.bytes)
    let s2 := ((s1.count F.CMP_ENC_BLOCKS_COUNT bs.length).count F.CMP_SATURATED_COUNT sat).count F.CMP_NONFINITE_COUNT bad
    let s3 := (s2.eventIf (decide (0 < sat)) F.CMP_EVENTS_SATURATED).eventIf (decide (0 < bad)) F.CMP_EVENTS_NONFINITE
    (((s3.queueCopy it g sp.2.1 (bs.flatMap BlockOut.resid)).noteEncoded it)).commitItem it.id sector

/-- ENCODE (R192 to R201, R210, R211, R215). -/
def execEncode (id : Nat) (fx : Fx) (s : State) : Host.Outcome State Fault Refusal :=
  match s.runningItem id opEncode with
  | none => .next s
  | some it =>
    let g := s.seg (s.ctx (rowStream it.row))
    let sp := s.encodeSpan it
    let extra := (s.ctx (rowStream it.row)).segDesc :: formDescs g sp.2.1 sp.2.2 ++
      (if g.lowrank && !rowDstValid it.row then [Desc.mk g.recon.tier (g.recon.addr + 4 * sp.2.1) (4 * sp.2.2)] else [])
    s.within (rowSrc it.row :: extra ++ if rowDstValid it.row then [rowDst it.row] else [])
      (match s.readMany id (rowSrc it.row) extra fx with
       | (.failed, s1) => s1.endItem id .failedChecksum fx.sector
       | (_, s1) => s1.commitEncode it fx.sector)

/-- ENCODE_RESIDUAL_COPY (R199): the scratch of a committed ENCODE copied over its RESID elements. -/
def execEncodeResidualCopy (item : Nat) (s : State) : Host.Outcome State Fault Refusal :=
  match s.cmp.copies.find? fun c => c.item = item with
  | none => .next s
  | some c =>
    s.within [Desc.mk c.tier c.addr c.bytes.length]
      (({ s with cmp := { s.cmp with copies := s.cmp.copies.erase c } }).wrBytes c.tier c.addr c.bytes)

/-! ### DECODE -/

/-- Bytes of one decoded element. -/
def outSize (g : Seg) : Nat := if g.rate = 0xF then 1 else fmtSize g.outFmt

/-- The element counts of the blocks a DECODE reads, from block `b` on, for `left` elements of DST (R195). -/
def decodeLens (elems : Nat) : Nat → Nat → Nat → List Nat
  | 0, _, _ => []
  | fuel + 1, b, left =>
    let len := min (min 256 (elems - 256 * b)) left
    if len = 0 then [] else len :: decodeLens elems fuel (b + 1) (left - len)

/-- The header check of R229 on the `i`-th cblock; 0 when it passes. -/
def cbCheck (g : Seg) (srcLen b0 i : Nat) (h : CbHead) : Nat :=
  if srcLen < (i + 1) * cblockSize g.rate then 6
  else if h.rate ≠ g.rate then 1
  else if h.kind ≠ g.kind then 2
  else if h.block ≠ b0 + i ∨ (g.elems + 255) / 256 ≤ h.block then 3
  else if h.ex = 0xFF then 4
  else if g.rate = 0xF ∧ (h.gen ≠ 0 ∨ h.ex ≠ 0 ∨ h.sat ≠ 0) then 5
  else 0

/-- What stops a DECODE: a failed check of R229, or a generation that R227 refuses. -/
inductive DecStop where
  | length (check i : Nat) (h : CbHead)
  | gone (h : CbHead)
  deriving DecidableEq, Repr

/-- The cblocks that a DECODE reads, in order, with their element counts. -/
def State.decodePlan (s : State) (it : Item) : List (CbHead × Nat) :=
  let g := s.seg (s.ctx (rowStream it.row))
  let src := rowSrc it.row
  let size := cblockSize g.rate
  let b0 := (cbHeadOf (s.rdBytes src.tier src.addr 8)).block
  let lens := decodeLens g.elems ((rowDst it.row).len + 1) b0 ((rowDst it.row).len / outSize g)
  (if lens = [] then [0] else lens).zipIdx.map fun (n, i) => (cbHeadOf (s.rdBytes src.tier (src.addr + i * size) 8), n)

/-- The first thing that stops a DECODE, if any. -/
def State.decodeStop (s : State) (it : Item) : Option DecStop :=
  let g := s.seg (s.ctx (rowStream it.row))
  let plan := s.decodePlan it
  let b0 := ((plan.map Prod.fst).headD ⟨0, 0, 0, 0, 0, 0⟩).block
  plan.zipIdx.findSome? fun (p, i) =>
    let c := cbCheck g (rowSrc it.row).len b0 i p.1
    if c ≠ 0 then some (.length c i p.1)
    else if g.rate = 0xF then none
    else match s.bookOf g.cbSlot p.1.gen with
      | some b => if b.conflicted then some (.gone p.1) else none
      | none => some (.gone p.1)

/-- The decoded codes in OUT_FMT of one cblock with this header and these coded bytes (R212). -/
def cblockCodes (g : Seg) (levels : List Dy) (h : CbHead) (coded : List Byte) (n : Nat) : List Nat :=
  let f := (fmtOf g.outFmt).getD .fp32
  if h.ex = 0 then List.replicate n 0
  else
    let all := beNat coded
    (List.range n).map fun i =>
      let c := all / 2 ^ (g.rate * (255 - i)) % 2 ^ g.rate
      let v := (levels.getD (c % 2 ^ (g.rate - 1)) Dy.zero).scale ((h.ex : Int) - 127)
      let neg := decide (2 ^ (g.rate - 1) ≤ c)
      f.encodeVal (.fin neg (if neg then v.neg else v))

/-- The levels of a live generation. -/
def State.bookLevels (s : State) (slot gen : Nat) : List Dy :=
  match s.bookOf slot gen with | some b => b.levels.map bf16Dy | none => []

/-- The decoded codes of one cblock in memory. -/
def State.decodeBlock (s : State) (g : Seg) (addr tier : Nat) (h : CbHead) (n : Nat) : List Nat :=
  cblockCodes g (s.bookLevels g.cbSlot h.gen) h (s.rdBytes tier (addr + 8) (32 * g.rate)) n

/-- The bytes a DECODE writes (R195, R188). -/
def State.decodeBytes (s : State) (it : Item) : List Byte :=
  let g := s.seg (s.ctx (rowStream it.row))
  let src := rowSrc it.row
  let f := (fmtOf g.outFmt).getD .fp32
  (s.decodePlan it).zipIdx.flatMap fun (p, i) =>
    let a := src.addr + i * cblockSize g.rate
    if g.rate = 0xF then s.rdBytes src.tier (a + 8) p.2 else encodeCodes f (s.decodeBlock g a src.tier p.1 p.2)

/-- The last failing compression item named (CMP_LAST_FAIL, CMP_LAST_FAIL_INFO). -/
def State.cmpFail (s : State) (it : Item) (st : Status) (gen check block : Nat) : State :=
  let s1 := ((((s.setf F.CMP_LAST_FAIL_TAG (itemTag it)).setf F.CMP_LAST_FAIL_INFO_STATUS st.code).setf
    F.CMP_LAST_FAIL_INFO_GEN gen).setf F.CMP_LAST_FAIL_INFO_CHECK check).setf F.CMP_LAST_FAIL_INFO_BLOCK block
  if st = .failedTableGone then s1.countEv F.CMP_TABLE_GONE_COUNT F.CMP_EVENTS_TABLE_GONE else s1

/-- The generations that a DECODE's cblocks name: it pins them (R219, R226). -/
def State.decodeBooks (s : State) (it : Item) : List (Nat × Nat) :=
  let g := s.seg (s.ctx (rowStream it.row))
  if g.rate = 0xF then [] else (s.decodePlan it).map fun p => (g.cbSlot, p.1.gen)

/-- The line blocks, by session, that carried byte range `a`, `n` of a tier into staging (R230). -/
def State.carriers (s : State) (tier a n : Nat) : List OpenRec :=
  s.cmp.opens.filter fun o => decide (o.tier = tier) && decide (a < o.addr + o.len) && decide (o.addr < a + n)

/-- A length mismatch (R229 to R231): the line blocks that carried the cblock asked for once more, when a peer sent it and the item has
not asked for them before. -/
def State.lengthStop (s : State) (it : Item) (check i : Nat) (h : CbHead) : State :=
  let g := s.seg (s.ctx (rowStream it.row))
  let size := cblockSize g.rate
  let os := s.carriers (rowSrc it.row).tier ((rowSrc it.row).addr + i * size) size
  let s1 := s.countEv F.CMP_LENGTH_COUNT F.CMP_EVENTS_LENGTH
  match os.head? with
  | some o =>
    let seqs := (os.filter fun x => x.session = o.session).map OpenRec.dseq
    if seqs.all fun q => s.cmp.asked.contains (it.id, o.session, q) then
      (s1.cmpFail it .failedLength h.gen check h.block).endItem it.id .failedLength
    else
      let s2 : State := { s1 with cmp := { s1.cmp with
        refetch := s1.cmp.refetch ++ [(it.id, o.session, seqs)], asked := s1.cmp.asked ++ seqs.map fun q => (it.id, o.session, q) } }
      ((s2.updItem it.id fun j => { j with phase := 1, phaseAt := s.now, resent := true }).count F.CMP_REREQUEST_COUNT).reRequest
        o.session seqs
  | none => (s1.cmpFail it .failedLength h.gen check h.block).endItem it.id .failedLength

/-- The commit of a DECODE (R80, R142, R213). -/
def State.commitDecode (s : State) (it : Item) (sector : Nat) : State :=
  let g := s.seg (s.ctx (rowStream it.row))
  let bs := s.decodeBytes it
  let vals := if g.rate = 0xF then [] else decodeElems g.outFmt bs
  let off := 256 * (cbHeadOf (s.rdBytes (rowSrc it.row).tier (rowSrc it.row).addr 8)).block * srcSize g
  let len := bs.length / outSize g * srcSize g
  let r := { decRecOf (rowDstBits it.row) vals with off := off, len := len }
  let s1 := (s.wrBytes (rowDst it.row).tier (rowDst it.row).addr bs).count F.CMP_DEC_BLOCKS_COUNT (s.decodePlan it).length
  let s2 : State := { s1 with arr := { s1.arr with decRecs := r :: s1.arr.decRecs.filter fun x => x.dst ≠ r.dst } }
  (s2.noteResult it false off len).commitItem it.id sector

/-- The decoder works on a running DECODE; while a fresh copy is on its way it waits (R230). -/
def State.runDecode (s : State) (it : Item) (fx : Fx) : State :=
  if it.phase = 1 ∧ s.cmp.refetch.any (fun r => r.1 = it.id) then s
  else
    let r := s.readMany it.id (rowSrc it.row) [(s.ctx (rowStream it.row)).segDesc] fx
    match r.2.decodeStop it with
    | none => if r.1 = .failed then r.2.endItem it.id .failedChecksum fx.sector else r.2.commitDecode it fx.sector
    | some (.gone h) => (r.2.cmpFail it .failedTableGone h.gen 0 h.block).endItem it.id .failedTableGone fx.sector
    | some (.length c i h) => r.2.lengthStop it c i h

/-- The encoding stream of the collective that a row names: the lowest ENCODE row of its entry gives it. -/
def State.ownStream (s : State) (r : Row256) : Option Nat :=
  (s.seq.active.find? fun kv => decide (rowOpcode kv.2 = opEncode) && decide (rowEntry kv.2 = rowEntry r)).map fun kv => rowStream kv.2

/-- The first cblock of the own contribution that stands for a row's: a free value within the segment (log entry 97). -/
def soloFirst (it : Item) (g : Seg) : Nat :=
  Config.soloBlock (rowStream it.row) (rowDstBits it.row) % max 1 ((g.elems + 255) / 256)

/-- The values that the DECODE of a receiving stream writes in a group of one site: the site's own decoded contribution (R268), from its
cblocks at CB_BASE. -/
def State.soloBytes (s : State) (it : Item) : List Byte :=
  match s.ownStream it.row with
  | none => []
  | some k =>
    let g := s.seg (s.ctx k)
    let size := cblockSize g.rate
    let b0 := soloFirst it g
    let f := (fmtOf g.outFmt).getD .fp32
    (decodeLens g.elems ((rowDst it.row).len + 1) b0 ((rowDst it.row).len / outSize g)).zipIdx.flatMap fun (n, i) =>
      let a := g.cbBase.addr + (b0 + i) * size
      if g.rate = 0xF then s.rdBytes g.cbBase.tier (a + 8) n
      else encodeCodes f (s.decodeBlock g a g.cbBase.tier (cbHeadOf (s.rdBytes g.cbBase.tier a 8)) n)

/-- Where those values stand in the segment, in bytes of its input. -/
def State.soloSpan (s : State) (it : Item) : Nat × Nat :=
  match s.ownStream it.row with
  | none => (0, 0)
  | some k =>
    let g := s.seg (s.ctx k)
    (256 * soloFirst it g * srcSize g, (s.soloBytes it).length / outSize g * srcSize g)

/-- The commit of a DECODE of a receiving stream in a group of one site (R268). -/
def State.commitSolo (s : State) (it : Item) (sector : Nat) : State :=
  ((s.wrBytes (rowDst it.row).tier (rowDst it.row).addr (s.soloBytes it)).noteResult it false (s.soloSpan it).1 (s.soloSpan it).2).commitItem it.id sector

/-- DECODE (R195, R212, R213, R227 to R231). -/
def execDecode (id : Nat) (fx : Fx) (s : State) : Host.Outcome State Fault Refusal :=
  match s.runningItem id opDecode with
  | none => .next s
  | some it =>
    let c := s.ctx (rowStream it.row)
    if s.solo it.row && decide (c.keySlot ≠ 0) && !c.send then s.within [rowDst it.row] (s.commitSolo it fx.sector)
    else s.within [rowSrc it.row, rowDst it.row] (s.runDecode it fx)

end Sys2Proof.Machine
end

