-- ==== Sys2Proof/Machine/Cipher.lean ====
section
/-! DEFINITION. The cipher engine: SEAL and OPEN (R528, R533, R535, R538, R543 to R545), suspension (R540, R541), key
records and their loading, erasing and retiring (R524 to R538, R759), GCS channels under CFB (R517). -/

namespace Sys2Proof.Machine

/-! ### Line blocks in memory -/

/-- A line block split into its parts (R276): header bytes, payload, tag, trailer. -/
structure LineBlk where
  head : List Byte
  payload : List Byte
  tag : List Byte
  crc : List Byte
  deriving DecidableEq, Repr

/-- A field of `n` bytes at an offset of a header, most significant byte first (R11). -/
def hdrAt (bs : List Byte) (o n : Nat) : Nat := beNat ((bs.drop o).take n)

def LineBlk.seq (b : LineBlk) : Nat := hdrAt b.head 4 4
def LineBlk.kind (b : LineBlk) : Nat := hdrAt b.head 0 1 % 16
def LineBlk.session (b : LineBlk) : Nat := hdrAt b.head 2 1 % 32
def LineBlk.cls (b : LineBlk) : Nat := hdrAt b.head 2 1 / 32
def LineBlk.flags (b : LineBlk) : Nat := hdrAt b.head 1 1
def LineBlk.origin (b : LineBlk) : Nat := hdrAt b.head 3 1 % 16
def LineBlk.epoch (b : LineBlk) : Nat := hdrAt b.head 8 4
def LineBlk.slot (b : LineBlk) : Nat := hdrAt b.head 12 1
def LineBlk.gen (b : LineBlk) : Nat := hdrAt b.head 13 1
def LineBlk.step (b : LineBlk) : Nat := hdrAt b.head 16 4
def LineBlk.stream (b : LineBlk) : Nat := hdrAt b.head 20 4 % 2 ^ 21
def LineBlk.chunk (b : LineBlk) : Nat := hdrAt b.head 24 4
def LineBlk.part (b : LineBlk) : Nat := hdrAt b.head 28 2
def LineBlk.parts (b : LineBlk) : Nat := hdrAt b.head 30 2

/-- The line block at the start of some bytes. -/
def lineBlk (bs : List Byte) : LineBlk :=
  let n := hdrAt bs 14 2
  { head := bs.take 32, payload := (bs.drop 32).take n, tag := (bs.drop (32 + n)).take 16, crc := (bs.drop (48 + n)).take 4 }

def LineBlk.bytes (b : LineBlk) : List Byte := b.head ++ b.payload ++ b.tag ++ b.crc

/-- Bytes that a line block takes (R279). -/
def LineBlk.len (b : LineBlk) : Nat := 52 + b.payload.length

/-- The line blocks laid end to end from an address, up to the chunk's last part or the end of the range. -/
def State.blocksAt (s : State) (tier : Nat) : Nat → Nat → Nat → List LineBlk
  | 0, _, _ => []
  | fuel + 1, a, left =>
    let n := beNat (s.rdBytes tier (a + 14) 2)
    if left < 52 + n then []
    else
      let b := lineBlk (s.rdBytes tier a (52 + n))
      if b.part + 1 < b.parts then b :: s.blocksAt tier fuel (a + 52 + n) (left - (52 + n)) else [b]

/-- The line blocks of a descriptor. -/
def State.blocksOf (s : State) (d : Desc) : List LineBlk := s.blocksAt d.tier (d.len / 52 + 1) d.addr d.len

/-- A block decrypted and verified under a generation (R278); the sender's site is the session's peer. -/
def State.openBlk (s : State) (n : Nat) (g : KeyGen) (b : LineBlk) : Option (List Byte) :=
  (gcmOpen g.keys (lineIv g.saltBytes (s.f F.PEER_SESSn_CFG_PEER_SITE n) (if dataSpace b.kind then 0 else 1) n b.seq)
    (nats b.head) (nats b.payload) (nats b.tag)).map byts

/-! ### SEAL -/

/-- The bytes a SEAL encrypts (R38, R528): the whole cblocks of its segment that SRC holds, or all of SRC. -/
def State.sealBytes (s : State) (it : Item) : List Byte :=
  let src := rowSrc it.row
  let c := s.ctx (rowStream it.row)
  if c.segment then
    let g := s.seg c
    let size := cblockSize g.rate
    let b0 := (cbHeadOf (s.rdBytes src.tier src.addr 8)).block
    s.rdBytes src.tier src.addr (size * min (src.len / size) ((g.elems + 255) / 256 - b0))
  else s.rdBytes src.tier src.addr src.len

/-- Line blocks that `n` bytes take. -/
def lineBlocks (n : Nat) : Nat := max 1 ((n + 8191) / 8192)

/-- The CHUNK number of a SEAL (R276): from the first block's number and the collective's chunk size (R237), or the
stream's next message number (R497). -/
def State.sealChunk (s : State) (it : Item) : Nat :=
  let src := rowSrc it.row
  let c := s.ctx (rowStream it.row)
  if c.segment ∧ c.cls ≠ 3 then
    let g := s.seg c
    let b0 := (cbHeadOf (s.rdBytes src.tier src.addr 8)).block
    match rowEntry it.row with
    | some e => s.chunkOf e (256 * b0 * srcSize g)
    | none => 0
  else c.txNext.toNat

/-- How the engine answers an issued SEAL (R535, R538). -/
def State.startSeal (s : State) (it : Item) : StartRes :=
  match s.startGen (s.ctx (rowStream it.row)).keySlot with
  | none => .fail .failedKeyErased
  | some g => if g.allows (lineBlocks (s.sealBytes it).length) then .go else .fail .failedKeyExhausted

/-- A SEAL at its start latches its generation and reserves its sequences and invocations (R528, R533). -/
def State.latchSeal (s : State) (it : Item) : State :=
  let c := s.ctx (rowStream it.row)
  match s.startGen c.keySlot with
  | none => s
  | some g =>
    let nb := lineBlocks (s.sealBytes it).length
    let q := s.f F.PEER_SESSn_TX_NEXT c.session
    let seqs := (List.range nb).map fun i => (q + i) % 2 ^ 32
    let s1 := (s.countInvoc c.keySlot g.gen nb).setf F.PEER_SESSn_TX_NEXT ((q + nb) % 2 ^ 32) c.session
    s1.updItem it.id fun j => { j with key := some (c.keySlot, g.gen), seqs := seqs }

/-- The cblocks of a range came from a peer: the receive slot that holds their codebooks and their builder (R242, R243). -/
def State.relayOf (s : State) (d : Desc) : Option OpenRec := (s.carriers d.tier d.addr 1).head?

/-- The cblocks of a coded segment that bytes `a` to `a + n` of a SEAL's source touch, as codebook slot and generation: the stream's own
slot, or the receive slot that a relayed block came by (R224, R243). -/
def State.sealBooks (s : State) (it : Item) (a n : Nat) : List (Nat × Nat) :=
  let c := s.ctx (rowStream it.row)
  let g := s.seg c
  let src := rowSrc it.row
  let size := cblockSize g.rate
  if c.segment ∧ g.rate ≠ 0xF ∧ 0 < n then
    ((List.range ((a + n - 1) / size + 1 - a / size)).map fun i =>
      let at_ := src.addr + (a / size + i) * size
      (match (s.carriers src.tier at_ 1).head? with | some o => o.slot | none => g.cbSlot, (cbHeadOf (s.rdBytes src.tier at_ 8)).gen)).dedup
  else []

/-- The suspension of R540: an urgent message finds no pipeline free; `busy` are the non-urgent messages (pipeline, item,
key slot times 256 plus generation, blocks left). The one with the most blocks left stops, on the lowest pipeline among equals. -/
def State.suspendFor (s : State) (urgent : Bool) (busy : List (Nat × Nat × Nat × Nat)) : State :=
  let cands := (busy.filter fun b => !(s.ciph.suspended.any fun x => x.1 = b.1)).mergeSort fun a b => a.1 ≤ b.1
  match cands.foldl (fun best b => match best with
      | none => some b
      | some x => if x.2.2.2 < b.2.2.2 then some b else best) (none : Option (Nat × Nat × Nat × Nat)) with
  | some b =>
    if urgent then
      let s1 : State := { s with ciph := { s.ciph with suspended := s.ciph.suspended ++ [b] } }
      (s1.count F.CIPH_SUSPENDS_COUNT).setf F.CIPH_STATUS_SUSPENDED s1.ciph.suspended.length
    else s
  | none => s

/-- Whether an item's messages are urgent (R539). -/
def State.urgent (s : State) (it : Item) : Bool := rowUrgent it.row || decide ((s.ctx (rowStream it.row)).cls < 2)

/-- The codebooks of relayed cblocks sent on the outgoing session before they leave (R243). -/
def State.relayBooks (s : State) (n stream origin : Nat) (gens : List (Nat × Nat)) : State :=
  gens.foldl (fun s kg =>
    match s.bookOf kg.1 kg.2 with
    | some b =>
      if b.fixed || s.cmp.acks.contains (n, kg.1, kg.2) || (s.cmp.sends.any fun x => x.session = n ∧ x.slot = kg.1 ∧ x.gen = kg.2) then s
      else s.sendBook n kg.1 stream origin b
    | none => s) s

/-- The commit of a SEAL (R38, R276, R278): its blocks sealed into DST. -/
def State.commitSeal (s : State) (it : Item) (g : KeyGen) : State :=
  let stream := rowStream it.row
  let c := s.ctx stream
  let n := c.session
  let pl := s.sealBytes it
  let chunk := s.sealChunk it
  let relay := if c.segment then s.relayOf (rowSrc it.row) else none
  let origin := match relay with | some o => o.origin | none => s.conf.site
  let parts := lineBlocks pl.length
  let blk (i : Nat) : List Byte :=
    let h : Head := { kind := kData, adhoc := it.adhoc.isSome, abandon := false, relay := relay.isSome, cls := c.cls, origin := origin,
                      step := (it.adhoc.getD it.step) % 2 ^ 32, stream := c.peerStream, chunk := chunk % 2 ^ 32, part := i, parts := parts }
    s.sealBlock n h (it.seqs.getD i 0) g ((pl.drop (8192 * i)).take 8192)
  let out := (List.range parts).flatMap blk
  let d := rowDst it.row
  let s1 := s.wrBytes d.tier d.addr (out.take d.len)
  let books (i : Nat) : List (Nat × Nat) := s.sealBooks it (8192 * i) (min 8192 (pl.length - 8192 * i))
  let s2 := s1.updSess n fun x => { x with reserved := x.reserved ++ it.seqs.zipIdx.map fun q => (q.1, books q.2) }
  let s3 := if c.segment ∧ c.cls ≠ 3 then s2 else s2.setCtx stream { c with txNext := c.txNext + 1 }
  let s4 := if relay.isSome then s3.relayBooks n stream origin (s.sealBooks it 0 pl.length) else s3
  s4.commitItem it.id

/-- SEAL (R528, R533, R540). `busy` lists the non-urgent messages when no pipeline was free. -/
def execSeal (id : Nat) (fx : Fx) (busy : List (Nat × Nat × Nat × Nat)) (s : State) : Host.Outcome State Fault Refusal :=
  match s.runningItem id opSeal with
  | none => .next s
  | some it =>
    let s0 := s.suspendFor (s.urgent it) busy
    s.within [rowSrc it.row, rowDst it.row]
      (match s0.readSrc id (rowSrc it.row) fx with
       | (.failed, s1) => s1.endItem id .failedChecksum
       | (_, s1) =>
         match it.key with
         | none => s1.endItem id .failedKeyErased
         | some (k, g) =>
           match s1.genOf k g with
           | some x => s1.commitSeal it x
           | none => s1.endItem id .failedKeyErased)

/-! ### OPEN -/

/-- A data-space block's tag has passed or failed (R545). -/
def State.tagResult (s : State) (n slot gen : Nat) (ok : Bool) : State :=
  let run := if ok then 0 else (tfind n s.ciph.tagRun).getD 0 + 1
  let s1 : State := { s with ciph := { s.ciph with tagRun := tput n run s.ciph.tagRun } }
  if 4 ≤ run then
    (((s1.setf F.CIPH_SUSPECT_SESSION n).setf F.CIPH_SUSPECT_SLOT slot).setf F.CIPH_SUSPECT_GEN gen).event
      F.CIPH_EVENTS_KEY_SUSPECT
  else s1

/-- How the engine answers an issued OPEN (R538). -/
def State.startOpen (s : State) (it : Item) : StartRes :=
  match s.startGen (s.ctx (rowStream it.row)).keySlot with
  | none => .fail .failedKeyErased
  | some _ => .go

/-- An OPEN at its start latches its slot's current generation (R528). -/
def State.latchOpen (s : State) (it : Item) : State :=
  let k := (s.ctx (rowStream it.row)).keySlot
  match s.startGen k with
  | none => s
  | some g => s.updItem it.id fun j => { j with key := some (k, g.gen) }

/-- A block of an OPEN decrypted under the generation its header names (log entry 18). -/
def State.openOne (s : State) (it : Item) (b : LineBlk) : Option (List Byte) :=
  let c := s.ctx (rowStream it.row)
  match s.genOf c.keySlot b.gen with
  | some g => s.openBlk c.session g b
  | none => none

/-- What an OPEN records of its staging (R230), and the cblocks it delivers (R226). -/
def State.noteOpened (s : State) (it : Item) (bs : List LineBlk) (plain : List Byte) : State :=
  let c := s.ctx (rowStream it.row)
  let d := rowDst it.row
  let keep := s.cmp.opens.filter fun o => !(decide (o.tier = d.tier) && decide (d.addr < o.addr + o.len) && decide (o.addr < d.addr + d.len))
  let offs := bs.zipIdx.map fun (b, i) =>
    OpenRec.mk c.session b.seq b.origin d.tier (d.addr + ((bs.take i).map fun x => x.payload.length).sum) b.payload.length
      (s.seg c).cbSlot
  let g := s.seg c
  let size := cblockSize g.rate
  let key := memKey d.tier d.addr
  let here := if c.segment ∧ g.rate ≠ 0xF then
      (chunks size (plain.length / size) plain).zipIdx.map fun (x, i) => (g.cbSlot, (cbHeadOf x).gen, key + i * size)
    else []
  { s with cmp := { s.cmp with
      opens := keep ++ offs
      delivered := (s.cmp.delivered.filter fun x => !(decide (key ≤ x.2.2) && decide (x.2.2 < key + d.len))) ++ here } }

/-- The engine opens an item's blocks: all tags pass and it commits, or the blocks that failed are asked for again, or the
fresh copies failed too (R543, R544). -/
def State.runOpen (s : State) (it : Item) : State :=
  let c := s.ctx (rowStream it.row)
  let bs := s.blocksOf (rowSrc it.row)
  let rs := bs.map fun b => (b, s.openOne it b)
  let bad := (rs.filter fun r => r.2.isNone).map Prod.fst
  let s1 := rs.foldl (fun s r => s.tagResult c.session c.keySlot r.1.gen r.2.isSome) s
  let s2 := s1.count F.CIPH_TAG_FAIL_COUNT bad.length
  if bad.isEmpty then
    let plain := rs.flatMap fun r => r.2.getD []
    let d := rowDst it.row
    ((s2.wrBytes d.tier d.addr (plain.take d.len)).noteOpened it bs (plain.take d.len)).commitItem it.id
  else if it.phase = 0 then
    let seqs := bad.map LineBlk.seq
    let s3 : State := { s2 with cmp := { s2.cmp with refetch := s2.cmp.refetch ++ [(it.id, c.session, seqs)] } }
    let s4 := s3.updItem it.id fun j => { j with phase := 1, phaseAt := s.now, resent := true }
    (s4.updSess c.session fun x => { x with rxWanted := (x.rxWanted ++ seqs).dedup }).sendNak c.session 1 seqs
  else s2.endItem it.id .failedTag

/-- OPEN (R528, R543, R544); a tag that fails comes before an uncorrectable word (R64). -/
def execOpen (id : Nat) (fx : Fx) (busy : List (Nat × Nat × Nat × Nat)) (s : State) : Host.Outcome State Fault Refusal :=
  match s.runningItem id opOpen with
  | none => .next s
  | some it =>
    if s.solo it.row then .next (s.commitItem id)
    else if it.phase = 1 ∧ s.cmp.refetch.any (fun r => r.1 = id) then .next s
    else
      let s0 := s.suspendFor (s.urgent it) busy
      s.within [rowSrc it.row, rowDst it.row]
        (match s0.readSrc id (rowSrc it.row) fx with
         | (.failed, s1) =>
           if (s1.blocksOf (rowSrc it.row)).all fun b => (s1.openOne it b).isSome then s1.endItem id .failedChecksum else s1.runOpen it
         | (_, s1) => s1.runOpen it)

/-- SUSPENDED_RESUME (R540, R541): the urgent message on a pipeline ended, and its suspended message resumes. -/
def execSuspendedResume (pipeline : Nat) (s : State) : Host.Outcome State Fault Refusal :=
  let l := s.ciph.suspended.filter fun x => x.1 ≠ pipeline
  .next (({ s with ciph := { s.ciph with suspended := l } }).setf F.CIPH_STATUS_SUSPENDED l.length)

/-! ### Loading and erasing keys -/

/-- The key record of R525. -/
structure KeyRec where
  key : Nat
  salt : Nat
  device : Nat
  slot : Nat
  gen : Nat
  use : Nat
  an : Nat
  ssci : Nat
  deriving DecidableEq, Repr

/-- The key record that 60 bytes spell, in network byte order. -/
def keyRecOf (bs : List Byte) : KeyRec :=
  let fl (o n : Nat) : Nat := hdrAt bs o n
  { key := fl 0 32, salt := fl 32 12, device := fl 44 8, slot := fl 52 1, gen := fl 53 1, use := fl 54 1, an := fl 55 1, ssci := fl 56 4 }

/-- The record of a load unwrapped under K0 (R524). -/
def State.unwrapKey (s : State) (b : KeyBody) : Option KeyRec :=
  match s.ciph.k0 with
  | none => none
  | some k =>
    match keyUnwrap (bytesOf 32 k.toNat) (nats b.wrapped) with
    | some l => if l.length = 60 then some (keyRecOf (byts l)) else none
    | none => none

/-- The code that refuses a KEYLOAD, if one does (R526). -/
def State.keyRefusal (s : State) (b : KeyBody) : Option Status :=
  if b.action = 0 ∨ 3 < b.action ∨ b.reserved ≠ 0 ∨ b.wrapped.length ≠ (if b.action = 1 then 72 else 0) then some .refusedFit
  else
    let r := if b.action = 1 then s.unwrapKey b else none
    let badRec : Bool := decide (b.action = 1) &&
      (match r with
       | some x => decide (x.device ≠ s.f F.GLB_DEVICE_DEVICE) || decide (x.slot ≠ b.slot) || decide (x.gen ≠ b.gen)
       | none => true)
    if badRec then some .refusedSignature
    else if b.slot = 0 ∨ s.slotUse b.slot = 0 then some .refusedFit
    else if b.action = 1 ∧ (r.map KeyRec.use) ≠ some (s.slotUse b.slot) then some .refusedFit
    else if b.action = 1 ∧ ((s.gens b.slot).any (fun g => g.gen = b.gen) ∨ 2 ≤ (s.gens b.slot).length) then some .refusedBusy
    else none

/-- A generation overwritten with zero (R536, R537). -/
def State.dropGen (s : State) (k g : Nat) : State := s.setGens k ((s.gens k).filter fun x => x.gen ≠ g)

/-- The sessions that seal under a slot. -/
def State.sessionsOf (s : State) (slot : Nat) : List Nat := s.declared.filter fun n => s.f F.PEER_SESSn_CFG_TX_SLOT n = slot

/-- What the host port keeps of an earlier generation of this number is dropped: MACsec receive state, the replay state of
Expin (R593) and the event sequence (R589). -/
def State.newGen (s : State) (k g : Nat) : State :=
  let s1 : State := { s with ciph := { s.ciph with macRx := tdel (256 * k + g) s.ciph.macRx } }
  if s.slotUse k = useExpin then
    { s1 with host := { s1.host with replay := tdel (g + 1) s1.host.replay }, evt := { s1.evt with seqs := tdel g s1.evt.seqs } }
  else s1

/-- A generation loaded: it becomes current (R527); sessions that waited for a key send again (R275). -/
def State.loadKey (s : State) (b : KeyBody) (r : KeyRec) : State :=
  let s1 := (s.newGen b.slot b.gen).setGens b.slot (KeyGen.mk' b.gen r.key r.salt r.an r.ssci s.now :: s.gens b.slot)
  (s.sessionsOf b.slot).foldl State.flushTx (s1.count F.CIPH_KEYLOADS_COUNT)

/-- A graceful erase (R536, R759). -/
def State.eraseGraceful (s : State) (k g : Nat) : State :=
  if (s.liveGen k g).isSome then s.updGen k g fun x => { x with erasing := true } else s

/-- An immediate erase (R537): the items that latched the generation end FAILED_KEY_ERASED. -/
def State.eraseNow (s : State) (k g : Nat) : State :=
  if (s.genOf k g).isSome then
    let n := (s.seq.items.filter fun it => it.key = some (k, g)).length
    (((s.dropGen k g).endWhere (fun it => it.key = some (k, g)) .failedKeyErased).count F.CIPH_ERASED_ITEMS_COUNT n).event
      F.CIPH_EVENTS_ERASED
  else s

/-- A KEYLOAD that R526 does not refuse, applied (R527, R536, R537). -/
def State.applyKey (s : State) (b : KeyBody) : State :=
  if b.action = 1 then
    match s.unwrapKey b with
    | some r => s.loadKey b r
    | none => s
  else if b.action = 2 then (s.eraseGraceful b.slot b.gen).count F.CIPH_KEYLOADS_COUNT
  else (s.eraseNow b.slot b.gen).count F.CIPH_KEYLOADS_COUNT

/-- KEY_ERASE_COMPLETE (R536): the pins of a gracefully erased generation have reached zero. -/
def execKeyEraseComplete (slot gen : Nat) (s : State) : Host.Outcome State Fault Refusal :=
  match s.genOf slot gen with
  | some g =>
    if g.erasing ∧ s.pins slot gen = 0 then .next ((s.dropGen slot gen).event F.CIPH_EVENTS_ERASED) else .next s
  | none => .next s

/-- The session that opens its blocks under a slot. -/
def State.rxSession (s : State) (slot : Nat) : Option Nat := s.declared.find? fun n => s.f F.PEER_SESSn_RX_SLOT_SLOT n = slot

/-- Serial order of 32-bit values: `a` newer than `b` (R55). -/
def newer (a b : Nat) : Bool :=
  let d := (a + 2 ^ 32 - b % 2 ^ 32) % 2 ^ 32
  decide (0 < d) && decide (d < 2 ^ 31)

/-- The drain condition of a slot's older generation (R530 to R532), its pins apart. -/
def State.drained (s : State) (slot : Nat) (old new : KeyGen) : Bool :=
  let use := s.slotUse slot
  if use = useLineTx ∨ use = useMacTx ∨ use = useGcsTx ∨ use = useExpin then true
  else if use = useLineRx then
    match s.rxSession slot, new.lowSeq, new.firstUse with
    | some n, some q, some t =>
      newer (s.f F.PEER_SESSn_RX_CUM n) q || s.elapsed t (2 * max (s.rtt n 0) (s.rtt n 1))
    | _, _, _ => false
  else if use = useMacRx ∨ use = useGcsRx then
    match new.firstUse with
    | some t => s.elapsed t (max 1 (s.f F.CIPH_CFG_DRAIN) * 1000)
    | none => false
  else if use = useJournal then !(s.peer.journal.any fun r => r.gen = old.gen)
  else true

/-- KEY_RETIRE (R530 to R532): a generation no longer current retires once its pins and its drain condition are met. -/
def execKeyRetire (slot gen : Nat) (s : State) : Host.Outcome State Fault Refusal :=
  match s.currentGen slot, s.liveGen slot gen with
  | some new, some old =>
    if new.gen ≠ gen ∧ s.pins slot gen = 0 ∧ s.drained slot old new then
      .next ((s.dropGen slot gen).event F.CIPH_EVENTS_RETIRED)
    else .next s
  | _, _ => .next s

/-! ### GCS channels (R517) -/

/-- The slot of a GCS port: the n-th slot of its use in slot order (log entry 19). -/
def State.gcsSlot (s : State) (use n : Nat) : Option Nat :=
  ((s.ciph.uses.filter fun u => u.2 = use).map Prod.fst)[n]?

/-- A GCS channel started (R517): the transmit register takes SALT and the start count, and the receive side drives
all-ones for 16 bytes. -/
def State.startGcs (s : State) (n : Nat) : State :=
  match s.gcsSlot useGcsTx n with
  | none => { s with ciph := { s.ciph with gcs := tput n { txReg := 0, rxReg := 0, rxFill := 16 } s.ciph.gcs } }
  | some k =>
    match s.currentGen k with
    | none => { s with ciph := { s.ciph with gcs := tput n { txReg := 0, rxReg := 0, rxFill := 16 } s.ciph.gcs } }
    | some g =>
      let reg := BitVec.ofNat 128 (g.salt.toNat * 2 ^ 32 + g.records % 2 ^ 32)
      let s1 := s.updGen k g.gen fun x => { x with records := x.records + 1, firstUse := some (x.firstUse.getD s.now) }
      { s1 with ciph := { s1.ciph with gcs := tput n { txReg := reg, rxReg := 0, rxFill := 16 } s1.ciph.gcs } }

/-- A write of CIPH_GCS.ENCRYPT: each changed channel restarts (R517). -/
def State.writeGcsEncrypt (s : State) (v : Nat) : State :=
  let old := s.f F.CIPH_GCS_ENCRYPT
  ((List.range 4).filter fun n => old.testBit n ≠ v.testBit n).foldl State.startGcs (s.setf F.CIPH_GCS_ENCRYPT v)

/-- GCS_ENCRYPT_WRITE (R517). -/
def execGcsEncryptWrite (v : Nat) (s : State) : Host.Outcome State Fault Refusal := .next (s.writeGcsEncrypt v)

end Sys2Proof.Machine
end

