-- ==== Sys2Proof/Machine/Transfer.lean ====
section
/-! DEFINITION. The items that carry data out and in: MOVE with the result writes of R362 and R363, SEND and RECV (R80,
R90, R268, R305, R308), JOURNAL (R364 to R366, R516, R528, R538); readiness for a step (R334). -/

namespace Sys2Proof.Machine

/-! ### Circuits as items see them -/

def cFree : Nat := 0
def cSetup : Nat := 1
def cUp : Nat := 2
def cMoving : Nat := 3
def cReleasing : Nat := 4

def State.circuit (s : State) (i : Nat) : Option Circuit := tfind i s.fab.circuits

/-- Circuits counted UP or MOVING (FAB_STATUS.CIRCUITS_UP). -/
def State.syncCircuits (s : State) : State :=
  s.setf F.FAB_STATUS_CIRCUITS_UP (s.fab.circuits.filter fun c => c.2.state = cUp ∨ c.2.state = cMoving).length

def State.setCircuit (s : State) (i : Nat) (c : Circuit) : State :=
  ({ s with fab := { s.fab with circuits := tput i c s.fab.circuits } }).syncCircuits

/-- Whether a row needs its stream's circuit (R431): a MOVE without DST, or a CIRCUIT row. -/
def rowOnCircuit (r : Row256) : Bool :=
  (decide (rowOpcode r = opMove) && !rowDstValid r) || decide (rowOpcode r = opCircuit)

/-- The circuit index that an item's stream context names (R497). -/
def State.circuitIx (s : State) (r : Row256) : Nat := (s.ctx (rowStream r)).circuit

/-- Whether data can go over a circuit: its state is UP or MOVING (R431). -/
def State.circuitLive (s : State) (i : Nat) : Bool :=
  match s.circuit i with
  | some c => decide (c.state = cUp) || decide (c.state = cMoving)
  | none => false

/-- The member that a session names is EXPIRED (R350). -/
def State.expired (s : State) (n : Nat) : Bool :=
  match tfind n s.peer.watch with
  | some w => decide (w.state = 5)
  | none => false

/-- An item on a circuit ends FAILED_LINK. -/
def State.failLink (s : State) (id : Nat) : State :=
  match s.item id with
  | some it => (s.eventIf (rowOnCircuit it.row) F.FAB_EVENTS_CIRCUIT_FAIL).endItem id .failedLink
  | none => s

/-! ### Released steps -/

/-- PEER_ISLAND brought up to date (R363): released and pending steps above the Meridian. -/
def State.syncIsland (s : State) : State :=
  let l := s.peer.released.filter fun r => decide (s.f F.SEQ_MERIDIAN_STEP < r.1)
  let s1 : State := { s with peer := { s.peer with released := l } }
  (s1.setf F.PEER_ISLAND_RELEASED l.length).setf F.PEER_ISLAND_PENDING (l.filter fun r => !r.2).length

/-- A result write (R362). -/
def resultWrite (r : Row256) : Bool :=
  decide (rowOpcode r = opMove) && !rowDstValid r && decide (rowColl r ≠ 0xFFFF)

/-- Whether R362 holds a result write of a step. -/
def State.resultHeld (s : State) (step : Nat) : Bool :=
  if s.exact then decide (s.f F.SEQ_MERIDIAN_STEP < step)
  else decide (s.f F.SEQ_MERIDIAN_STEP + s.f F.PEER_FAULT_CFG_L < step)

/-- PEER_ISLAND.GATE: whether an issued result write waits under R362. -/
def State.syncGate (s : State) : State :=
  s.setf F.PEER_ISLAND_GATE (b2n (s.seq.items.any fun it => !it.running && resultWrite it.row && it.adhoc.isNone && s.resultHeld it.step))

/-- A result of a step goes to the fabric: above the Meridian the step is released (R361, R363). -/
def State.noteRelease (s : State) (step : Nat) : State :=
  if step ≤ s.f F.SEQ_MERIDIAN_STEP then s
  else
    let island := s.peer.islands.contains step
    if s.peer.released.any fun r => r.1 = step then
      ({ s with peer := { s.peer with released := s.peer.released.map fun (r : Nat × Bool) => if r.1 = step then (step, r.2 || island) else r } }).syncIsland
    else
      (({ s with peer := { s.peer with released := s.peer.released ++ [(step, island)] } }).count F.PEER_ISLAND_STEPS_COUNT).syncIsland

/-! ### MOVE -/

/-- MOVE (R80): SRC copied to DST, or written to the circuit of the stream context. A circuit that has gone comes before an
uncorrectable word (R64). DESIGN CHOICE (log entry 87): the MIRROR flag of a row (R79) changes nothing here; whether a write
reaches two copies depends on the pages and regions that the image declares mirrored. -/
def execMove (id : Nat) (fx : Fx) (s : State) : Host.Outcome State Fault Refusal :=
  match s.runningItem id opMove with
  | none => .next s
  | some it =>
    let src := rowSrc it.row
    let d := rowDst it.row
    s.within (src :: if rowDstValid it.row then [d] else [])
      (if !rowDstValid it.row && !s.circuitLive (s.circuitIx it.row) then s.failLink id
       else match s.readSrc id src fx with
       | (.failed, s1) => s1.endItem id .failedChecksum fx.sector
       | (_, s1) =>
         let bs := s1.rdBytes src.tier src.addr src.len
         if rowDstValid it.row then (s1.wrBytes d.tier d.addr (bs.take d.len)).commitItem id fx.sector
         else
           let s2 := s1.emit (.circuit (s1.circuitIx it.row) bs)
           let s3 := if resultWrite it.row ∧ it.adhoc.isNone then s2.noteRelease it.step else s2
           s3.commitItem id fx.sector)

/-! ### SEND -/

/-- A block put in the sending side in order of sequence (R281). -/
def insertTx (b : TxBlock) : List TxBlock → List TxBlock
  | [] => [b]
  | x :: xs => if newer x.dseq b.dseq then b :: x :: xs else x :: insertTx b xs

/-- A SEND's line block as the session holds it. -/
def State.txOf (s : State) (it : Item) (n : Nat) (b : LineBlk) : TxBlock :=
  { dseq := b.seq, kind := b.kind, cls := b.cls, stream := b.stream, localStream := rowStream it.row, step := it.adhoc.getD it.step,
    chunk := b.chunk, adhoc := it.adhoc.isSome, bytes := b.bytes, item := some it.id
    books := (((s.sess n).reserved.find? fun r => r.1 = b.seq).map Prod.snd).getD []
    phase := .waiting, firstRoute := 2, lastRoute := 2, lastSent := 0, timerAt := 0, resends := 0, abandoned := false, corr := false }

/-- The blocks of a SEND offered to its session. -/
def State.offer (s : State) (it : Item) : State :=
  let n := (s.ctx (rowStream it.row)).session
  let bs := s.blocksOf (rowSrc it.row)
  let seqs := bs.map LineBlk.seq
  let s1 := s.updSess n fun x =>
    { x with tx := bs.foldl (fun l b => insertTx (s.txOf it n b) l) x.tx, reserved := x.reserved.filter fun r => !seqs.contains r.1 }
  ((s1.updItem it.id fun j => { j with phase := 1, phaseAt := s.now, seqs := seqs }).syncOldest n).pumpTx n

/-- A SEND ends once the peer has acknowledged every block it offered (R80, R308). -/
def State.sendDone (s : State) (id : Nat) : State :=
  match s.runningItem id opSend with
  | some it =>
    let n := (s.ctx (rowStream it.row)).session
    if it.phase = 1 ∧ !((s.sess n).tx.any fun b => b.item = some id ∧ b.phase ≠ .acked) then s.commitItem id else s
  | none => s

/-- SEND (R80, R288, R308). -/
def execSend (id : Nat) (fx : Fx) (s : State) : Host.Outcome State Fault Refusal :=
  match s.runningItem id opSend with
  | none => .next s
  | some it =>
    if s.solo it.row then .next (s.commitItem id)
    else if it.phase = 0 then
      s.within [rowSrc it.row]
        (match s.readSrc id (rowSrc it.row) fx with
         | (.failed, s1) => s1.endItem id .failedChecksum fx.sector
         | (_, s1) => (s1.offer it).sendDone id)
    else .next (s.sendDone id)

/-- The host stops a SEND (R90, R305): an abandonment with reason 0x02 and no ranges goes to the peer. -/
def State.abandonSend (s : State) (it : Item) : State :=
  let c := s.ctx (rowStream it.row)
  let bs := if s.inTier (rowSrc it.row).tier (rowSrc it.row).addr (rowSrc it.row).len then s.blocksOf (rowSrc it.row) else []
  s.sendAbandon c.session 2 (rowStream it.row) (it.adhoc.getD it.step) ((bs.head?.map LineBlk.chunk).getD 0) it.adhoc.isSome []

/-! ### Readiness and RECV -/

/-- The RECV rows of the active set that are not rows of ad hoc templates (R334). -/
def State.recvRows (s : State) : List Nat :=
  let entry (r : Row256) : Bool := match rowEntry r with
    | some c => !((s.f F.COL_ENTRY_D_FLAGS c).testBit 2)
    | none => true
  (s.seq.active.filter fun kv => rowOpcode kv.2 = opRecv ∧ entry kv.2 = true ∧ kv.1 < s.f F.SEQ_ROWS_ACTIVE).map Prod.fst

/-- The gateway is ready for a step (R334). -/
def State.ready (s : State) (step : Nat) : Bool :=
  s.recvRows.all fun r => ((tfind step s.peer.recvDone).getD []).contains r

/-- A STEP_READY or STEP_COMMIT sent on every OPEN session (R335, R337, R338). -/
def State.sendStep (s : State) (kind step set : Nat) : State :=
  s.openSessions.foldl (fun s n => s.sendData n { s.plainHead kind with step := step } 0
    (beBytes 8 step ++ beBytes 2 set ++ List.replicate 6 0)) s

/-- A ready set that takes in sites, and STEP_READY when it grows (R335). -/
def State.growReady (s : State) (step set : Nat) : State :=
  let old := (tfind step s.peer.ready).getD 0
  let new := Nat.lor old set
  if new = old then s
  else ({ s with peer := { s.peer with ready := tput step new s.peer.ready } }).sendStep kStepReady step new

/-- The gateway's own site added to the ready sets of the steps it has become ready for (R335). -/
def State.noteReady (s : State) : State :=
  let m := s.f F.SEQ_MERIDIAN_STEP
  (s.peer.recvDone.filter fun kv => decide (m < kv.1) && decide (kv.1 ≤ m + 64)).foldl
    (fun s kv => if s.ready kv.1 then s.growReady kv.1 (2 ^ s.conf.site) else s) s

/-- A committed RECV counted for its step (R334). -/
def State.noteRecv (s : State) (it : Item) : State :=
  if it.adhoc.isSome then s
  else
    let l := (tfind it.step s.peer.recvDone).getD []
    ({ s with peer := { s.peer with recvDone := tput it.step (if l.contains it.rowIx then l else it.rowIx :: l) s.peer.recvDone } }).noteReady

/-- All parts of a chunk have been accepted. -/
def RxChunk.complete (c : RxChunk) : Bool := decide (c.got.length = c.parts) && decide (0 < c.parts)

/-- The sealed bytes of a chunk, part by part. -/
def RxChunk.bytes (c : RxChunk) : List Byte := (c.got.mergeSort fun a b => a.1 ≤ b.1).flatMap fun g => g.2.2

/-- The chunk a RECV takes: the lowest-numbered complete or abandoned chunk of its stream and step. DESIGN CHOICE (log
entry 20). -/
def State.recvChunk (s : State) (it : Item) : Option RxChunk :=
  let n := match it.adhoc with | some id => id % 2 ^ 32 | none => it.step
  let cs := s.peer.rx.filter fun c => decide (c.stream = rowStream it.row) && decide (c.step = n) && (c.adhoc == it.adhoc.isSome) && (c.complete || c.failed)
  cs.foldl (fun b c => match b with
    | none => some c
    | some x => if c.chunk < x.chunk then some c else some x) none

/-- A RECV whose chunk is complete commits (R80, R308); one whose chunk was abandoned fails (R304). -/
def State.recvDone (s : State) (it : Item) : State :=
  match s.recvChunk it with
  | none => s
  | some c =>
    let d := rowDst it.row
    let s1 : State := { s with peer := { s.peer with rx := s.peer.rx.erase c } }
    if c.failed then s1.endItem it.id .failedResendLimit
    else ((s1.wrBytes d.tier d.addr (c.bytes.take d.len)).commitItem it.id).noteRecv it

/-- RECV (R80, R268, R308). -/
def execRecv (id : Nat) (s : State) : Host.Outcome State Fault Refusal :=
  match s.runningItem id opRecv with
  | none => .next s
  | some it =>
    if s.solo it.row then .next ((s.commitItem id).noteRecv it)
    else s.within [rowDst it.row] (s.recvDone it)

/-- Items that run and that a test names marked degraded. -/
def State.degradeWhere (s : State) (p : Item → Bool) : State :=
  { s with seq := { s.seq with items := s.seq.items.map fun it => if p it then { it with degraded := true } else it } }

/-! ### JOURNAL -/

/-- The journal slot: the lowest slot of that use (R521). -/
def State.journalSlot (s : State) : Option Nat := (s.ciph.uses.find? fun u => u.2 = useJournal).map Prod.fst

/-- Where the next record of `n` bytes goes: after the last one of the first reservation that has room, tier D before
tier X (R364, R366). DESIGN CHOICE (log entry 21): records are packed without gaps. -/
def State.journalPlace (s : State) (n : Nat) : Option (Nat × Nat) :=
  let rs := s.conf.journal.mergeSort fun a b => a.1 ≤ b.1
  rs.findSome? fun (t, a, len) =>
    let next := (s.peer.journal.filter fun r => decide (r.tier = t) && decide (a ≤ r.addr) && decide (r.addr < a + len)).foldl
      (fun m r => max m (r.addr + r.len)) a
    if next + n ≤ a + len then some (t, next) else none

/-- The 64-byte header of a journal record (R364). -/
def recHeader (step stream kind release bytes block0 : Nat) : List Byte :=
  leBytes 8 step ++ leBytes 4 stream ++ [BitVec.ofNat 8 kind, BitVec.ofNat 8 release, 0, 0] ++ leBytes 8 bytes ++ leBytes 8 block0
    ++ List.replicate 32 0

/-- A record encrypted under CTR (R516). -/
def ctrRecord (g : KeyGen) (number : Nat) (bs : List Byte) : List Byte :=
  let c0 := natOf (g.saltBytes.take 4 ++ bytesOf 8 number ++ bytesOf 4 0)
  byts (aesCtr g.keys c0 (nats bs))

/-- PEER_JOURNAL brought up to date: MiB used, mirrored copies included. -/
def State.syncJournal (s : State) : State :=
  let used (t : Nat) : Nat := 2 * ((s.peer.journal.filter fun r => r.tier = t).map JRec.len).sum
  (s.setf F.PEER_JOURNAL_D_MIB ((used 2 + 2 ^ 20 - 1) / 2 ^ 20)).setf F.PEER_JOURNAL_X_MIB ((used 3 + 2 ^ 20 - 1) / 2 ^ 20)

/-- A record written to the step journal (R364, R516): header and payload, encrypted, with its index entry. -/
def State.writeRecord (s : State) (slot : Nat) (gen : Nat) (step stream kind release block0 book : Nat) (payload : List Byte) : State :=
  match s.genOf slot gen, s.journalPlace (64 + payload.length) with
  | some g, some (t, a) =>
    let plain := recHeader step stream kind release payload.length block0 ++ payload
    let s1 := (s.wrBytes t a (ctrRecord g g.records plain)).updGen slot gen fun x => { x with records := x.records + 1 }
    let r : JRec := { step := step, tier := t, addr := a, len := plain.length, number := g.records, gen := gen, stream := stream,
                      kind := kind, release := release, block0 := block0, book := book }
    ({ s1 with peer := { s1.peer with journal := s1.peer.journal ++ [r] } }).syncJournal
  | _, _ => s

/-- The plaintext of a record, header and payload (R516). -/
def State.readRecord (s : State) (r : JRec) : List Byte :=
  match s.journalSlot with
  | some k =>
    match s.genOf k r.gen with
    | some g => ctrRecord g r.number (s.rdBytes r.tier r.addr r.len)
    | none => []
  | none => []

/-- How the gateway answers an issued JOURNAL (R364, R528, R538). -/
def State.startJournal (s : State) (it : Item) : StartRes :=
  if it.phase = 1 then .go
  else match s.journalSlot with
    | none => .fail .failedKeyErased
    | some k => if (s.startGen k).isSome then .go else .fail .failedKeyErased

def State.latchJournal (s : State) (it : Item) : State :=
  match s.journalSlot with
  | some k =>
    match s.startGen k with
    | some g => s.updItem it.id fun j => { j with key := some (k, g.gen) }
    | none => s
  | none => s

/-- The CODEBOOK records a journal record needs first (R365). -/
def State.journalBooks (s : State) (it : Item) (slot gen release : Nat) (bs : List Byte) : State :=
  let stream := rowStream it.row
  (s.sealBooks it 0 bs.length).foldl (fun s kg =>
    if s.peer.journal.any fun r => r.kind = 3 ∧ r.stream = stream ∧ r.book = kg.2 then s
    else match s.bookOf kg.1 kg.2 with
      | some b => s.writeRecord slot gen it.step stream 3 release 0 kg.2 b.body.bytes
      | none => s) s

/-- JOURNAL (R364, R365). -/
def execJournal (id : Nat) (fx : Fx) (s : State) : Host.Outcome State Fault Refusal :=
  match s.runningItem id opJournal with
  | none => .next s
  | some it =>
    if it.phase = 1 then .next (s.commitItem id)
    else
      s.within [rowSrc it.row]
        (match s.readSrc id (rowSrc it.row) fx with
         | (.failed, s1) => s1.endItem id .failedChecksum fx.sector
         | (_, s1) =>
           match it.key with
           | none => s1.endItem id .failedKeyErased
           | some (k, gen) =>
             let bs := s1.sealBytes it
             let g := s1.seg (s1.ctx (rowStream it.row))
             let release := if s1.peer.islands.contains it.step then 2 else 1
             let s2 := s1.journalBooks it k gen release bs
             let block0 := (cbHeadOf bs).block
             ((s2.writeRecord k gen it.step (rowStream it.row) (g.kind + 1) release block0 0 bs)).commitItem id)

end Sys2Proof.Machine
end

