-- ==== Sys2Proof/Machine/Fabric.lean ====
section
/-! DEFINITION. The site fabric (R412 to R442): packets and their channels, packet wavelengths, bridging of requests and
replies with credits, bulk data on circuits, what arrives bridged from the line. -/

namespace Sys2Proof.Machine

/-! ### Packets -/

/-- A fabric packet split into its fields (R418). -/
structure FPkt where
  dst : Nat
  src : Nat
  vc : Nat
  type : Nat
  status : Nat
  len : Nat
  tag : Nat
  payload : List Byte
  deriving DecidableEq, Repr

/-- The packet that some bytes spell. -/
def fpktOf (bs : List Byte) : FPkt :=
  { dst := hdrAt bs 0 5, src := hdrAt bs 5 5, vc := hdrAt bs 10 1 / 64, type := hdrAt bs 10 1 % 64, status := hdrAt bs 11 1
    len := hdrAt bs 12 2, tag := hdrAt bs 14 2, payload := (bs.drop 16).take (hdrAt bs 12 2) }

def FPkt.bytes (p : FPkt) : List Byte :=
  beBytes 5 p.dst ++ beBytes 5 p.src ++ beBytes 1 (64 * p.vc + p.type) ++ beBytes 1 p.status ++ beBytes 2 p.len
    ++ beBytes 2 p.tag ++ p.payload

def FPkt.isRequest (p : FPkt) : Bool := decide (0x01 ≤ p.type) && decide (p.type ≤ 0x0F)
def FPkt.isReply (p : FPkt) : Bool := decide (0x10 ≤ p.type) && decide (p.type ≤ 0x1F)

/-- The order channel of a request or reply (R419). -/
def FPkt.order (p : FPkt) : Nat := if p.isRequest then 0 else 1

/-- A packet that R420 discards. -/
def FPkt.bad (p : FPkt) : Bool :=
  !(p.isRequest || p.isReply || decide (p.type = 0x20)) || decide (4096 < p.len) || (decide (p.type = 0x20) != decide (p.vc = 2))

/-- The site of a coordinate (R412). -/
def coordSite (c : Nat) : Nat := c / 2 ^ 36 % 16

/-- H of R414: the CRC-32C of the two coordinates, the lower first. -/
def pairHash (a b : Nat) : Nat := crc32c (bytesOf 5 (min a b) ++ bytesOf 5 (max a b))

/-! ### Packet wavelengths -/

/-- The packet wavelengths that are up, as `16 * fibre + lambda` (R417). -/
def State.pktWaves (s : State) : List Nat :=
  (List.range 256).filter fun w => s.bit F.FAB_Fk_CFG_PKT_LAMBDAS (w % 16) (w / 16) && s.bit F.FAB_Fk_CFG_UP (w % 16) (w / 16)

/-- FAB_STATUS.PKT_UP brought up to date. -/
def State.syncPkt (s : State) : State := s.setf F.FAB_STATUS_PKT_UP s.pktWaves.length

/-- The wavelength that a pair chooses (R422), or 256 while none is up: H modulo their number picks among them (log entry 22). -/
def State.waveFor (s : State) (h : Nat) : Nat :=
  let ws := s.pktWaves
  ws.getD (h % max 1 ws.length) 256

/-- The wavelength that a pair keeps, or chooses now (R422). -/
def State.waveOf (s : State) (h : Nat) : Nat := (tfind h s.fab.homes).getD (s.waveFor h)

/-- A packet queued on its pair's wavelength, as that wavelength's next flit (R422). -/
def State.putFlit (s : State) (x : FabPkt) : State :=
  let p := fpktOf x.bytes
  let h := pairHash p.dst p.src
  let w := s.waveOf h
  let fl := (tfind w s.fab.flits).getD 0
  { s with fab := { s.fab with
      sent := s.fab.sent ++ [{ x with fibre := w / 16, lambda := w % 16, flit := fl, since := s.now }]
      flits := tput w (fl + 1) s.fab.flits
      homes := if w < 256 then tput h w s.fab.homes else s.fab.homes } }

/-- A packet put on its pair's wavelength toward the local fabric (R421, R422). -/
def State.fabSend (s : State) (p : FPkt) (ends : Option FabReq) : State :=
  s.putFlit { bytes := p.bytes, vc := p.vc, fibre := 0, lambda := 0, flit := 0, old := none, ends := ends, since := s.now }

/-- The pairs of a wavelength that went down, or of none, move, their packets re-sent in their order before any newer one (R422). -/
def State.rehome (s : State) (w : Nat) : State :=
  let mine := s.fab.sent.filter fun x => 16 * x.fibre + x.lambda = w
  let rest := s.fab.sent.filter fun x => 16 * x.fibre + x.lambda ≠ w
  let s0 : State := { s with fab := { s.fab with sent := rest, homes := s.fab.homes.filter fun kv => decide (kv.2 ≠ w) } }
  mine.foldl (fun (s : State) (x : FabPkt) => s.putFlit { x with old := if w < 256 then some (w, x.flit) else x.old }) s0

/-- A wavelength of a fibre pair goes up or down, a packet wavelength's packets moving with it (R422). -/
def State.setWave (s : State) (w : Nat) (up : Bool) : State :=
  if s.bit F.FAB_Fk_CFG_UP (w % 16) (w / 16) = up then s
  else
    let s1 := (s.putBit F.FAB_Fk_CFG_UP (w % 16) up (w / 16)).syncPkt
    if s1.bit F.FAB_Fk_CFG_PKT_LAMBDAS (w % 16) (w / 16) then s1.rehome (if up then 256 else w) else s1

/-! ### Replies of the gateway's own -/

/-- A reply of the gateway's own: RETRY or ERROR, to the sender of a packet (R415, R416, R438, R440). -/
def ownReply (p : FPkt) (type status : Nat) : FPkt :=
  { dst := p.src, src := p.dst, vc := 1, type := type, status := status, len := 0, tag := p.tag, payload := [] }

def State.sendError (s : State) (p : FPkt) (st : Status) (ends : Option FabReq) : State :=
  (s.fabSend (ownReply p 0x1F st.code) ends).event F.FAB_EVENTS_ERROR

def State.sendRetry (s : State) (p : FPkt) : State :=
  (s.fabSend (ownReply p 0x1E 0) none).countEv F.FAB_RETRY_COUNT F.FAB_EVENTS_RETRY

/-- ERROR to every request that holds a credit and satisfies a test (R440): it can no longer be answered. -/
def State.errorReqs (s : State) (which : FabReq → Bool) (st : Status) : State :=
  let out := s.fab.reqs.filter which
  let s1 : State := { s with fab := { s.fab with reqs := s.fab.reqs.filter fun r => !which r } }
  out.foldl (fun (s : State) (r : FabReq) =>
    s.sendError { dst := r.dst, src := r.src, vc := 0, type := 1, status := 0, len := 0, tag := r.tag, payload := [] } st (some r)) s1

/-! ### Bridging out -/

/-- The bridge stream of a pair toward a site on an order channel (R435). -/
def State.bridgeStream (s : State) (site c h : Nat) : Nat :=
  let l := s.f F.FAB_BRIDGE_CFG_LANES
  s.f F.FAB_BRIDGE_CFG_BASE + (3 * site + c) * l + h / 2 ^ 16 % max 1 l

/-- A message of a class C3 stream sent (R276, R436): CHUNK is the stream's message number. -/
def State.sendMessage (s : State) (stream : Nat) (body : List Byte) : State :=
  let c := s.ctx stream
  let h : Head := { s.plainHead kData with cls := 3, stream := c.peerStream, chunk := c.txNext.toNat, parts := 1 }
  (s.setCtx stream { c with txNext := c.txNext + 1 }).sendData c.session h stream body

/-- A stream's message closed (R436). -/
def State.closeBridge (s : State) (stream : Nat) : State :=
  match tfind stream s.fab.bridge with
  | some m => ({ s with fab := { s.fab with bridge := tdel stream s.fab.bridge } }).sendMessage stream m.bytes
  | none => s

/-- A packet put into the message its bridge stream packs (R436). -/
def State.bridgePkt (s : State) (stream : Nat) (bs : List Byte) : State :=
  let fits := match tfind stream s.fab.bridge with
    | some m => decide (m.bytes.length + bs.length ≤ 8192)
    | none => true
  let s1 := if fits then s else s.closeBridge stream
  let m := (tfind stream s1.fab.bridge).getD { opened := s.now, bytes := [] }
  ({ s1 with fab := { s1.fab with bridge := tput stream { m with bytes := m.bytes ++ bs } s1.fab.bridge } }).count F.FAB_BRIDGED_TX_COUNT

/-- A re-sent flit that has already been received on its old wavelength (R423), or the note of a flit received. -/
def State.rxFlit (s : State) (wave flit : Nat) (old : Option (Nat × Nat)) : Bool × State :=
  let dup := match old with
    | some (w, f) => (match tfind w s.fab.rxFlits with | some h => decide (f ≤ h) | none => false)
    | none => false
  (dup, { s with fab := { s.fab with rxFlits := tput wave (max flit ((tfind wave s.fab.rxFlits).getD 0)) s.fab.rxFlits } })

/-- What the gateway makes of an arriving packet before it bridges it (R415, R416, R420): answered or discarded, or none. -/
def State.screenPkt (s : State) (p : FPkt) : Option State :=
  let own := s.f F.FAB_COORD_COORD
  if p.bad then some (s.countEv F.FAB_PROTO_ERR_COUNT F.FAB_EVENTS_PROTO)
  else if p.dst = own then some s
  else if coordSite p.dst = coordSite own ∨ !s.bit F.FAB_SITE_MAP_SITES (coordSite p.dst) then
    some ((s.count F.FAB_UNREACHABLE_COUNT).sendError p .failedLink none)
  else if s.f F.FAB_BRIDGE_CFG_CHECK = 1 ∧ pairHash p.dst p.src % max 1 (s.f F.FAB_BRIDGE_CFG_GATEWAYS) ≠ s.f F.FAB_BRIDGE_CFG_ROLE then
    some ((s.count F.FAB_MISROUTED_COUNT).sendError p .failedLink none)
  else none

/-- A remote-bound request bridged with a credit, or answered with RETRY (R437, R438); one whose member is EXPIRED ends as it
arrives (R350, R440). -/
def State.takeRequest (s : State) (p : FPkt) (bs : List Byte) : State :=
  let site := coordSite p.dst
  if s.f F.FAB_CREDITSs_POOL site ≤ s.f F.FAB_CREDITSs_IN_USE site then s.sendRetry p
  else
    let stream := s.bridgeStream site 0 (pairHash p.dst p.src)
    let r : FabReq := { site := site, src := p.src, dst := p.dst, tag := p.tag, stream := stream, session := (s.ctx stream).session }
    let s1 := s.setf F.FAB_CREDITSs_IN_USE (s.f F.FAB_CREDITSs_IN_USE site + 1) site
    if s.expired r.session then s1.sendError p .failedHoldExpired (some r)
    else ({ s1 with fab := { s1.fab with reqs := s1.fab.reqs ++ [r] } }).bridgePkt stream bs

/-- FABRIC_REQUEST_RECEIVE (R415, R416, R420, R423, R435 to R438, R559 to R562): a packet that arrives on a packet
wavelength, with its flit number and, when the fabric re-sends it, its old wavelength and flit. -/
def execFabricRequestReceive (wave flit : Nat) (old : Option (Nat × Nat)) (bs : List Byte) (s : State) : Host.Outcome State Fault Refusal :=
  let p := fpktOf bs
  if !p.isRequest && !p.bad then .next s
  else
    let r := s.rxFlit wave flit old
    if r.1 then .next r.2
    else
      match r.2.screenPkt p with
      | some t => .next t
      | none =>
        let q := r.2.police (coordSite p.dst) (16 + p.len) .green
        let retry := q.1 = .red ∨ (q.1 = .yellow ∧ s.f F.SCH_PLk_CTRL_YELLOW_RETRY (coordSite p.dst) = 1)
        .next (if retry then q.2.sendRetry p else q.2.takeRequest p bs)

/-- FABRIC_REPLY_RECEIVE (R425, R435): a remote-bound reply, always accepted. -/
def execFabricReplyReceive (wave flit : Nat) (old : Option (Nat × Nat)) (bs : List Byte) (s : State) : Host.Outcome State Fault Refusal :=
  let p := fpktOf bs
  if !p.isReply && !p.bad then .next s
  else
    let r := s.rxFlit wave flit old
    if r.1 then .next r.2
    else
      match r.2.screenPkt p with
      | some t => .next t
      | none => .next (r.2.bridgePkt (r.2.bridgeStream (coordSite p.dst) 1 (pairHash p.dst p.src)) bs)

/-- BRIDGE_FLUSH (R436). -/
def execBridgeFlush (stream : Nat) (s : State) : Host.Outcome State Fault Refusal :=
  match tfind stream s.fab.bridge with
  | some m => .next (if s.elapsed m.opened (s.f F.FAB_BRIDGE_CFG_FLUSH) then s.closeBridge stream else s)
  | none => .next s

/-! ### Into the local fabric -/

/-- FABRIC_DELIVERY (R437): the fabric takes a packet, which completes its delivery; a reply or ERROR gives its request's
credit back. -/
def execFabricDelivery (wave flit : Nat) (s : State) : Host.Outcome State Fault Refusal :=
  match s.fab.sent.find? fun x => 16 * x.fibre + x.lambda = wave ∧ x.flit = flit with
  | none => .next s
  | some x =>
    let s1 : State := ({ s with fab := { s.fab with sent := s.fab.sent.erase x } }).emit (.fabric x.vc x.bytes)
    .next (match x.ends with
      | some r => s1.setf F.FAB_CREDITSs_IN_USE (s1.f F.FAB_CREDITSs_IN_USE r.site - 1) r.site
      | none => s1)

/-- ESCAPE_TIMEOUT (R424): credit withheld for longer than ESCAPE moves a packet to VC3, once every earlier packet of its
pair and order channel has been taken. -/
def execEscapeTimeout (wave flit : Nat) (s : State) : Host.Outcome State Fault Refusal :=
  match s.fab.sent.find? fun x => 16 * x.fibre + x.lambda = wave ∧ x.flit = flit with
  | none => .next s
  | some x =>
    let p := fpktOf x.bytes
    let same (y : FabPkt) : Bool := decide ((fpktOf y.bytes).dst = p.dst ∧ (fpktOf y.bytes).src = p.src ∧ (fpktOf y.bytes).order = p.order)
    let limit := max 1 (s.f F.FAB_VC_CFG_ESCAPE) * 1000
    if x.vc < 2 ∧ x.since + limit < s.now ∧ s.fab.sent.find? same = some x then
      let y : FabPkt := { x with vc := 3, bytes := { p with vc := 3 }.bytes, since := s.now }
      .next (({ s with fab := { s.fab with sent := s.fab.sent.map fun z => if z = x then y else z } }).countEv F.FAB_ESCAPED_COUNT F.FAB_EVENTS_ESCAPE)
    else .next s

/-- A bridged request or reply from the line goes into the local fabric (R437, R439, R441). -/
def State.bridgedIn (s : State) (bs : List Byte) : State :=
  let p := fpktOf bs
  let s1 := s.count F.FAB_BRIDGED_RX_COUNT
  if p.isRequest then s1.fabSend { p with vc := 0 } none
  else
    let mine (r : FabReq) : Bool := decide (r.src = p.dst) && decide (r.dst = p.src) && decide (r.tag = p.tag)
    match s1.fab.reqs.find? mine with
    | some r => ({ s1 with fab := { s1.fab with reqs := s1.fab.reqs.erase r } }).fabSend { p with vc := 1 } (some r)
    | none => s1.count F.FAB_LATE_REPLY_COUNT

/-- The packets that a bridge message holds end to end (R436). -/
def splitPkts : Nat → List Byte → List (List Byte)
  | 0, _ => []
  | fuel + 1, bs =>
    let n := 16 + hdrAt bs 12 2
    if bs.length < n then [] else bs.take n :: splitPkts fuel (bs.drop n)

/-- The values that cblocks of a bridged flow decode to (R434). -/
def State.decodeFlow (s : State) (g : Seg) (bs : List Byte) : List Byte :=
  let size := cblockSize g.rate
  (chunks size (bs.length / size) bs).flatMap fun cb =>
    let h := cbHeadOf cb
    encodeCodes ((fmtOf g.outFmt).getD .fp32) (cblockCodes g (s.bookLevels g.cbSlot h.gen) h (cb.drop 8) 256)

/-- Whether a stream is a bridge stream of R435. -/
def State.isBridge (s : State) (stream : Nat) : Bool :=
  let b := s.f F.FAB_BRIDGE_CFG_BASE
  decide (b ≤ stream) && decide (stream < b + 48 * s.f F.FAB_BRIDGE_CFG_LANES)

/-- A complete message of a class C3 stream delivered to the fabric (R320, R434). -/
def State.deliverMessage (s : State) (stream : Nat) (bs : List Byte) : State :=
  if s.isBridge stream then (splitPkts (bs.length / 16 + 1) bs).foldl State.bridgedIn s
  else
    let c := s.ctx stream
    match s.circuit c.circuit with
    | some x => s.emit (.circuit c.circuit (if x.use = 3 then s.decodeFlow (s.seg c) bs else bs))
    | none => s

/-! ### Bulk data on circuits -/

/-- Bulk data of a collective in its stream's home staging, from where the fill stands (R433); a full staging starts again. -/
def State.landBulk (s : State) (i : Nat) (c : Circuit) (bs : List Byte) : State :=
  match tfind c.stream s.conf.landing with
  | none => s
  | some d =>
    let x := descOf d
    let part := bs.take (x.len - c.fill)
    ((s.wrBytes x.tier (x.addr + c.fill) part).noteArrival c.stream c.fill part.length).setCircuit i { c with fill := (c.fill + part.length) % x.len }

/-- Bulk data of a bridged flow: raw, or encoded 256 elements at a time with the stream's fixed codebook (R434); `fill`
counts the flow's cblocks. -/
def State.bridgeBulk (s : State) (i : Nat) (c : Circuit) (bs : List Byte) : State :=
  if c.use = 2 then s.sendMessage c.stream bs
  else
    let g := s.seg (s.ctx c.stream)
    let size := 256 * fmtSize g.inFmt
    let all := c.raw ++ bs
    let n := all.length / size
    let s1 := s.setCircuit i { c with raw := all.drop (n * size), fill := (c.fill + n) % 2 ^ 32 }
    match s.curBook g.cbSlot, decide (0 < n) with
    | some b, true =>
      let cbs := (chunks size n all).zipIdx.flatMap fun (x, k) => (encodeBlock g b (c.fill + k) (decodeElems g.inFmt x)).bytes
      s1.sendMessage c.stream cbs
    | _, _ => s1

/-- BULK_RECEIVE (R420, R433, R434): the payload of a BULK packet on a circuit. -/
def execBulkReceive (i : Nat) (bs : List Byte) (s : State) : Host.Outcome State Fault Refusal :=
  match s.circuit i with
  | none => .next s
  | some c =>
    if 4096 < bs.length then .next (s.countEv F.FAB_PROTO_ERR_COUNT F.FAB_EVENTS_PROTO)
    else if c.state ≠ cUp ∧ c.state ≠ cMoving then .next s
    else if c.use = 1 then
      match tfind c.stream s.conf.landing with
      | some d => s.within [descOf d] (s.landBulk i c bs)
      | none => .next s
    else .next (s.bridgeBulk i c bs)

end Sys2Proof.Machine
end

