-- ==== Sys2Proof/Machine/Sequencer.lean ====
section
/-! DEFINITION. The sequencer: issue (R66 to R68, R81, R756) and start (R73, R81, R83) of items, FORECAST (R92 to R94),
track commands (R91, R105), aborts (R86 to R90), token and window writes (R95, R96, R112), the watchdog (R74), and swaps
(R97 to R105). -/

namespace Sys2Proof.Machine

/-! ### Issue -/

/-- A SERIAL or EDGE item of the row at a track's cursor is in flight (R68). -/
def State.serialBusy (s : State) (n : Nat) : Bool :=
  (s.trackItems n).any fun it => (rowSerial it.row || rowEdge it.row) && decide (it.rowIx = s.cursor n)

/-- A track that tries to issue the row at its cursor (R66 to R69, R346). -/
def State.trackTries (s : State) (n : Nat) : Bool :=
  decide (s.track n = tkRunning) && (tfind n s.seq.faultTo).isNone && !s.serialBusy n && s.imageActive && !s.peer.selfFenced

/-- The target unit of a row is dark, in Twilight or in patch (R81). -/
def State.targetOut (s : State) (r : Row256) : Bool :=
  (decide (rowOpcode r = opProject) && rowPpe r && s.unitOut unitPpe) ||
  (rowOnCircuit r && (match s.circuit (s.circuitIx r) with | some c => s.unitOut (unitTile (c.fibre / 4)) | none => false))

/-- A fresh item of a row. A JOURNAL item is in phase 1 when its step is at or below the Meridian at issue (R364). -/
def State.mkItem (s : State) (track rowIx : Nat) (row : Row256) (adhoc : Option Nat) : Item :=
  { id := s.seq.nextId, track := track, rowIx := rowIx, row := row, step := s.trackStep track, adhoc := adhoc
    waitTaken := adhoc.isNone, running := false, issuedAt := s.now, resent := false, degraded := false
    phase := b2n (decide (rowOpcode row = opJournal) && decide (s.trackStep track ≤ s.f F.SEQ_MERIDIAN_STEP))
    phaseAt := s.now, key := none, books := [], seqs := [], needQueued := false, ctxReady := true }

/-- The row at a track's cursor is an item that has not been issued yet (R81). -/
def State.hasPending (s : State) (n : Nat) : Bool :=
  decide (s.track n = tkRunning) && (tfind n s.seq.faultTo).isNone && !s.serialBusy n && s.imageActive

/-- An item put in flight. -/
def State.addItem (s : State) (it : Item) : State :=
  ({ s with seq := { s.seq with items := s.seq.items ++ [it], nextId := it.id + 1 } }).syncTrack it.track

/-- Streams whose contexts are pinned by items in flight (R500). -/
def State.pinnedCtx (s : State) : List Nat :=
  ((s.seq.items.filter fun it => opUsesStream (rowOpcode it.row)).map fun it => rowStream it.row).dedup

def State.syncCache (s : State) : State :=
  (s.setf F.MEM_CTX_CACHE_RESIDENT s.mem.cache.length).setf F.MEM_CTX_CACHE_PINNED s.pinnedCtx.length

/-- A context made the most recently used of the cache; a full cache of 65,536 entries evicts its least recently used
unpinned one (R500). -/
def State.cacheTouch (s : State) (stream : Nat) : State :=
  let l := s.mem.cache.filter (· ≠ stream)
  let pins := s.pinnedCtx
  let l1 := if 65536 ≤ l.length then (match l.find? fun x => !pins.contains x with | some v => l.erase v | none => l) else l
  ({ s with mem := { s.mem with cache := l1 ++ [stream] } }).syncCache

/-- The context of an issued item looked up in the cache (R500): a miss is counted and the item waits. -/
def State.lookCtx (s : State) (it : Item) : State :=
  let stream := rowStream it.row
  if !opUsesStream (rowOpcode it.row) then s
  else if s.mem.cache.contains stream then s.cacheTouch stream
  else (s.count F.MEM_CTX_MISS_COUNT).updItem it.id fun j => { j with ctxReady := false }

/-- CONTEXT_FETCH (R500): a missed context has come from tier H, and its items may start. -/
def execContextFetch (stream : Nat) (s : State) : Host.Outcome State Fault Refusal :=
  if s.seq.items.any fun it => !it.ctxReady && decide (rowStream it.row = stream) then
    let ready (it : Item) : Item := if rowStream it.row = stream then { it with ctxReady := true } else it
    .next (({ s with seq := { s.seq with items := s.seq.items.map ready } }).cacheTouch stream)
  else .next s

/-- LAST_STEP of the stream's context (R497). -/
def State.noteLastStep (s : State) (it : Item) : State :=
  let stream := rowStream it.row
  if !opUsesStream (rowOpcode it.row) then s
  else
    let c := s.ctx stream
    s.setCtx stream { c with lastStep := BitVec.ofNat 64 (max c.lastStep.toNat it.step) }

/-- An item that waits for the Meridian of the stalled step in exact mode while a member is EXPIRED (R349, R350). -/
def State.stalledOut (s : State) (it : Item) : Bool :=
  s.exact && it.adhoc.isNone && decide (it.step = s.f F.SEQ_MERIDIAN_STEP + 1) && (decide (rowOpcode it.row = opCommit) || resultWrite it.row)
    && s.declared.any s.expired

/-- A FORECAST announced (R92): remembered from its issue; what 20 µs have made useless is forgotten. -/
def State.announce (s : State) (level : Nat) : State :=
  let old := s.seq.forecasts.filter fun f => s.elapsed f.at_ 20000
  let recent := s.seq.forecasts.filter fun f => !s.elapsed f.at_ 20000
  { s with seq := { s.seq with forecasts := old.drop (old.length - 1) ++ recent ++ [Forecast.mk s.now level] } }

/-- The buffers an item uses asked for as one need at issue (R199, R506, R509, R510). -/
def State.askItemNeed (s : State) (it : Item) : State :=
  let need := if rowOpcode it.row = opEncode then s.encodeNeed it else 0
  match s.askNeed (.item it.id) (s.ctx (rowStream it.row)).owner need 1 with
  | (.granted, s1) => s1
  | (.queued, s1) => s1.updItem it.id fun j => { j with needQueued := true }
  | (.failed, s1) => s1.endItem it.id .failedPoolEmpty

/-- What the issue of an item does beyond taking tokens: rows that commit at issue end (R80), items whose circuit is not
live or whose member is EXPIRED end (R350, R431), the others look up their context and ask for their buffers. -/
def State.issued (s : State) (it : Item) : State :=
  let op := rowOpcode it.row
  let n := (s.ctx (rowStream it.row)).session
  if op = opHalt then
    let s1 := s.commitItem it.id
    if s1.trackTwilight it.track then s1 else (s1.setTrack it.track tkHalted).syncTrack it.track
  else if op = opWait ∨ op = opPost then s.commitItem it.id
  else if op = opForecast then s.announce (rowLevel it.row)
  else if s.stalledOut it then s.endItem it.id .failedHoldExpired
  else if op = opCommit then s
  else
    let s1 := (s.noteLastStep it).noteInstance it
    if op = opMove ∧ !rowDstValid it.row ∧ !s1.circuitLive (s1.circuitIx it.row) then s1.failLink it.id
    else if (op = opSend ∨ op = opRecv) ∧ s1.expired n then s1.endItem it.id .failedHoldExpired
    else ((s1.lookCtx it).askItemNeed it).syncGate

/-- The pending item of a track put among the items with nothing consumed, to be ended there (R81). -/
def State.addPending (s : State) (n : Nat) : State :=
  s.addItem { (s.mkItem n (s.cursor n) (s.activeRow (s.cursor n)) none) with waitTaken := false }

/-- The pending items that a test picks, put among the items to be ended there (R81). -/
def State.addPendings (s : State) (p : Item → Bool) : State :=
  ((List.range 16).filter fun n => s.hasPending n && p (s.mkItem n (s.cursor n) (s.activeRow (s.cursor n)) none)).foldl State.addPending s

/-- Since when a track waits on the tokens of its row, for the watchdog (R74): from the first cycle in which nothing else holds
the row back. -/
def State.noteWait (s : State) (n : Nat) : State :=
  if s.trackTries n && decide ((s.trackItems n).length < 32) && !s.tokensReady (rowWait (s.activeRow (s.cursor n))) then
    { s with seq := { s.seq with waitAt := tput n ((tfind n s.seq.waitAt).getD s.now) s.seq.waitAt } }
  else { s with seq := { s.seq with waitAt := tdel n s.seq.waitAt } }

/-- One track's turn in an issue cycle: the state, and whether it issued (R66 to R68, R81). -/
def State.issueOne (s : State) (n : Nat) : Bool × State :=
  if !s.trackTries n then (false, s.noteWait n)
  else
    let i := s.cursor n
    let r := s.activeRow i
    let it := s.mkItem n i r none
    if s.targetOut r then (false, (s.addPending n).endItem it.id .refusedBusy)
    else if s.tokensReady (rowWait r) && decide ((s.trackItems n).length < 32) then
      let s1 := (s.takeTokens (rowWait r)).addItem it
      let s2 := if rowSerial r || rowEdge r then s1 else s1.setCursor n (rowNextOk r)
      (true, s2.issued it)
    else (false, s.noteWait n)

/-- One SCLK cycle of issue: every track in round-robin order, from the track after the first that issued in the last
cycle in which any issued (R756). DESIGN CHOICE (log entry 85): tokens that a WAIT, POST or HALT row posts at its issue can be
taken by a later track of the same cycle. -/
def State.issueCycle (s : State) : State :=
  let order := (List.range 16).map fun k => (s.seq.lastFirst + 1 + k) % 16
  let r := order.foldl (fun (a : Option Nat × State) n =>
    let b := a.2.issueOne n
    (if b.1 then a.1.or (some n) else a.1, b.2)) (none, s)
  match r.1 with
  | some n => { r.2 with seq := { r.2.seq with lastFirst := n } }
  | none => r.2

/-- ITEM_ISSUE (R66 to R69, R81, R756): one SCLK cycle of the sequencer. -/
def execItemIssue (s : State) : Host.Outcome State Fault Refusal := .next s.issueCycle

/-! ### Start -/

/-- The engine that a row's item starts on: its opcode, with ORTHO beside PROJECT on the array, FIRSTPASS beside ENCODE,
and the photonic engine apart. -/
def engineOf (r : Row256) : Nat :=
  let op := rowOpcode r
  if op = opOrtho then opProject
  else if op = opProject ∧ rowPpe r then 0x20
  else if op = opFirstpass then opEncode
  else op

/-- A session that a planned instance needs (R361): the session of a SEND or RECV row of the active set. -/
def State.plannedSessions (s : State) : List Nat :=
  ((s.seq.active.filter fun kv => decide (kv.1 < s.f F.SEQ_ROWS_ACTIVE) && (decide (rowOpcode kv.2 = opSend) || decide (rowOpcode kv.2 = opRecv))
    && (rowEntry kv.2).isSome).map fun kv => (s.ctx (rowStream kv.2)).session).dedup

/-- A row of the bridge service (R367): its stream is of class C3. -/
def State.bridged (s : State) (r : Row256) : Bool := decide ((s.ctx (rowStream r)).cls = 3)

/-- Native mode cut off for a step above the Meridian: a session is in ECLIPSE (R361). -/
def State.nativeCut (s : State) (n step : Nat) : Bool :=
  !s.exact && decide (s.sessState n = ssEclipse) && decide (s.f F.SEQ_MERIDIAN_STEP < step)

/-- What an Eclipse makes of a COMMIT of a step above the Meridian in native mode (R361): pending when the gateway is
ready, the island path otherwise. -/
def State.eclipseCommit (s : State) (it : Item) : State :=
  if s.ready it.step then
    ({ (s.degrade it.id) with peer := { s.peer with pendingCommits := s.peer.pendingCommits ++ [(it.step, it.rowIx)] } }).commitItem it.id
  else
    let s1 : State := { s with peer := { s.peer with islands := if s.peer.islands.contains it.step then s.peer.islands else s.peer.islands ++ [it.step] } }
    s1.endItem it.id .failedLink

/-- How an item's engine answers it (R81), hold conditions of every engine first. -/
def State.startRes (s : State) (it : Item) : StartRes :=
  let op := rowOpcode it.row
  let n := (s.ctx (rowStream it.row)).session
  if it.running || !it.ctxReady || it.needQueued || s.chunkHeld it || s.copyHeld it then .wait
  else if it.adhoc.isSome && !it.waitTaken && !s.tokensReady (rowWait it.row) then .wait
  else if op = opMove then
    if !resultWrite it.row || it.adhoc.isSome || !s.resultHeld it.step then .go else .wait
  else if op = opReduce then s.startReduce it
  else if op = opFirstpass then s.startFirstpass it
  else if op = opEncode then s.startEncode it
  else if op = opProject ∧ rowPpe it.row then s.startPpe it
  else if op = opProject ∨ op = opOrtho then s.startArray it
  else if op = opSeal then s.startSeal it
  else if op = opOpen then s.startOpen it
  else if op = opSend ∨ op = opRecv then
    if s.nativeCut n it.step && it.adhoc.isNone && (rowEntry it.row).isSome && !s.bridged it.row then .fail .failedLink else .go
  else if op = opJournal then s.startJournal it
  else .go

/-- Whether an item that has not started is the next of its track on its engine (R73); an item of an ad hoc instance that lacks
tokens holds back no other (R260). -/
def State.headOf (s : State) (it : Item) : Bool :=
  !it.running && !(s.seq.items.any fun j => !j.running && decide (j.track = it.track) && decide (engineOf j.row = engineOf it.row)
    && decide (j.id < it.id) && !(j.adhoc.isSome && !j.waitTaken && !s.tokensReady (rowWait j.row)))

/-- The current codebook of an ENCODE latched, and its LAST_USE (R217, R221). -/
def State.latchEncode (s : State) (it : Item) : State :=
  let g := s.seg (s.ctx (rowStream it.row))
  match s.curBook g.cbSlot with
  | some b =>
    if g.rate = 0xF ∨ g.lowrank then s
    else (s.mapBooks g.cbSlot fun x => if x.gen = b.gen ∧ x.live then { x with lastUse := max x.lastUse it.step } else x).updItem
      it.id fun j => { j with books := [(g.cbSlot, b.gen)] }
  | none => s

/-- An item begins to run: what its engine latches at the start. -/
def State.startItem (s : State) (it : Item) : State :=
  let op := rowOpcode it.row
  let s1 := if it.adhoc.isSome && !it.waitTaken then s.takeTokens (rowWait it.row) else s
  let s2 := (s1.noteChunkStart it).updItem it.id fun j => { j with running := true, waitTaken := true, phaseAt := s.now }
  if op = opEncode then s2.latchEncode it
  else if op = opDecode then s2.updItem it.id fun j => { j with books := s.decodeBooks it }
  else if op = opProject ∧ rowPpe it.row then s2.ppeTake it
  else if op = opProject ∨ op = opOrtho then s2.rampTo (s.itemLevel it.row)
  else if op = opSeal then s2.latchSeal it
  else if op = opOpen then s2.latchOpen it
  else if op = opJournal then s2.latchJournal it
  else if op = opRecv ∧ (s.upRoutes (s.ctx (rowStream it.row)).session).length = 1 then s2.degrade it.id
  else if op = opCommit ∧ s.plannedSessions.any (fun n => s.nativeCut n it.step) then s2.eclipseCommit it
  else s2

/-- What a failure at the start does besides ending the item (R227, R535, R538). -/
def State.startFailed (s : State) (it : Item) (st : Status) : State :=
  let slot := (s.ctx (rowStream it.row)).keySlot
  if st = .failedKeyExhausted then
    match s.startGen slot with
    | some g => ((s.exhaust slot g.gen).count F.CIPH_EXHAUSTED_ITEMS_COUNT).endItem it.id st
    | none => s.endItem it.id st
  else if st = .failedKeyErased then (s.count F.CIPH_ERASED_ITEMS_COUNT).endItem it.id st
  else if st = .failedTableGone then (s.cmpFail it st 0 0 0).endItem it.id st
  else s.endItem it.id st

/-- The report of a refusal before start (R127, R137, R142, R152, R157, R193). -/
def State.refuseReport (s : State) (it : Item) (st : Status) : State :=
  if st = .refusedFit then s.fitReport st [FitEntry.mk resRowForm secAlmanac it.rowIx 0 0]
  else if st = .refusedMode then s.fitReport st [FitEntry.mk resMode secAlmanac it.rowIx 0 0]
  else s

/-- An item looked at by its engine (R81, R83). -/
def State.tryStart (s : State) (it : Item) : State :=
  match s.startRes it with
  | .go => s.startItem it
  | .wait => s.syncGate.eventIf (resultWrite it.row && it.adhoc.isNone && s.resultHeld it.step) F.PEER_FAULT_EVENTS_GATE
  | .refuse st => (s.refuseReport it st).refuseItem it.id st
  | .fail st => s.startFailed it st

/-- The item an engine takes next: among tracks in round robin from the one after the last it served, the first whose head
item it does not have to leave waiting; failing that, the first head (R73). -/
def State.nextFor (s : State) (e : Nat) : Option Item :=
  let last := (tfind e s.seq.turn).getD 15
  let heads := ((List.range 16).map fun k => (last + 1 + k) % 16).filterMap fun t =>
    s.seq.items.find? fun it => decide (it.track = t) && decide (engineOf it.row = e) && s.headOf it
  (heads.find? fun it => s.startRes it ≠ .wait).or heads.head?

/-- ITEM_START (R73, R81, R83): engine `e` looks at the item whose turn it is. -/
def execItemStart (e : Nat) (s : State) : Host.Outcome State Fault Refusal :=
  match s.nextFor e with
  | none => .next s
  | some it =>
    let s1 : State := if s.startRes it = .wait then s else { s with seq := { s.seq with turn := tput e it.track s.seq.turn } }
    .next (s1.tryStart it).syncGate

/-! ### FORECAST -/

/-- FORECAST (R94): the power controller and the four tile controllers have taken the level. A raise is in effect from
here (FORECAST section); a fall waits for R93. -/
def execForecast (id : Nat) (s : State) : Host.Outcome State Fault Refusal :=
  match s.runningItem id opForecast with
  | none => .next s
  | some it =>
    let l := rowLevel it.row
    let s1 : State := { s with opt := { s.opt with level := l } }
    .next ((if s.f F.SEQ_FORECAST_LEVEL < l then s1.setf F.SEQ_FORECAST_LEVEL l else s1).commitItem id)

/-- The level in effect once what R93 holds back has taken effect: that of the last FORECAST that is 20 µs old, or a higher one
announced since. -/
def State.settledLevel (s : State) : Nat :=
  ((s.seq.forecasts.filter fun f => !s.elapsed f.at_ 20000).map Forecast.level).foldl max s.startLevel

/-- FORECAST_LOWER_EFFECT (R93, R154): 20 µs after its issue a lowering FORECAST takes effect, and an array that runs no
item above it lowers its sectors. -/
def execForecastLowerEffect (s : State) : Host.Outcome State Fault Refusal :=
  let l := s.settledLevel
  if (s.seq.forecasts.any fun f => s.elapsed f.at_ 20000) ∧ l < s.f F.SEQ_FORECAST_LEVEL then
    let s1 := s.setf F.SEQ_FORECAST_LEVEL l
    .next (if s.arrayItem.isNone then s1.rampTo (min l s.arr.level) else s1)
  else .next s

/-! ### The watchdog -/

/-- TOKEN_WAIT_WATCHDOG (R74). -/
def execTokenWaitWatchdog (n : Nat) (s : State) : Host.Outcome State Fault Refusal :=
  let long : Bool := match tfind n s.seq.waitAt with
    | some since => decide (since + s.f F.SEQ_WATCHDOG_LIMIT * 10 ^ 6 < s.now)
    | none => false
  .next (s.eventIf (s.trackTries n && !s.tokensReady (rowWait (s.activeRow (s.cursor n))) && decide (0 < s.f F.SEQ_WATCHDOG_LIMIT)
    && long) F.SEQ_EVENTS_WATCHDOG)

/-! ### Aborts and track commands -/

/-- The destination of an aborted item holds undefined contents (R89; log entry 13). -/
def State.scramble (s : State) (it : Item) : State :=
  let d := rowDst it.row
  if it.running && rowDstValid it.row && s.inTier d.tier d.addr d.len then
    ({ s with free := s.free + d.len }).wrBytes d.tier d.addr ((List.range d.len).map fun i => Config.abortedByte (s.free + i))
  else s

/-- A CIRCUIT SETUP that is stopped lets go of its wavelength. -/
def State.dropSetup (s : State) (it : Item) : State :=
  if it.running ∧ rowOpcode it.row = opCircuit ∧ rowCircuitAction it.row = 1 then
    match s.circuit (s.circuitIx it.row) with
    | some c =>
      if c.state = cSetup ∧ !(s.seq.items.any fun j => j.running ∧ j.id ≠ it.id ∧ rowOpcode j.row = opCircuit ∧ rowStream j.row = rowStream it.row) then
        let w := c.claim.getD c.lambda
        let s1 := s.setCircuit (s.circuitIx it.row) { c with state := cFree, claim := none }
        (s1.putBit F.FAB_Fk_CFG_CIRCUIT_LAMBDAS w false c.fibre).setf F.OPT_Fk_LAMBDA_USE
          (putBits (s.f F.OPT_Fk_LAMBDA_USE c.fibre) (2 * w) 2 0) c.fibre
      else s
    | none => s
  else s

/-- The saved contexts of an aborted item's suspended messages discarded (R541). -/
def State.dropContext (s : State) (id : Nat) : State :=
  let l := s.ciph.suspended.filter fun x => x.2.1 ≠ id
  if l.length = s.ciph.suspended.length then s
  else ({ s with ciph := { s.ciph with suspended := l } }).setf F.CIPH_STATUS_SUSPENDED l.length

/-- An item before its commit point stopped by an ABORT (R81, R86, R89, R90, R305, R541). -/
def State.abortItem (s : State) (id : Nat) : State :=
  match s.item id with
  | none => s
  | some it =>
    let s1 := s.endItem id .failedAborted
    let s2 := (s1.scramble it).dropContext id
    let s3 := s2.dropSetup it
    if rowOpcode it.row = opSend ∧ it.running then s3.abandonSend it else s3

/-- Items of a track ended with one status without following any NEXT_FAULT: the cursor stays (R69, R91, R679). -/
def State.stopTrackItems (s : State) (n : Nat) (stop : State → Nat → State) : State :=
  let cur := s.cursor n
  let s1 := (((s.trackItems n).map Item.id).foldl stop s)
  ({ s1 with seq := { s1.seq with faultTo := tdel n s1.seq.faultTo } }).setCursor n cur

/-- An ABORT of a whole track (R91), the item at its cursor that is still PENDING among them (R81). -/
def State.abortTrack (s : State) (n : Nat) : State :=
  let s1 := (if s.hasPending n then s.addPending n else s).stopTrackItems n State.abortItem
  if s1.trackTwilight n then s1 else (s1.setTrack n tkHalted).syncTrack n

def State.resumeTrack (s : State) (n : Nat) : State :=
  if s.track n = tkHalted then ((s.setTrack n tkRunning).setCursor n (s.cursor n)).syncTrack n else s

def State.haltTrack (s : State) (n : Nat) : State :=
  if s.track n = tkRunning ∨ s.track n = tkParked then (s.setTrack n tkHalted).syncTrack n else s

/-- TRACK_RESUME (R105). -/
def execTrackResume (n : Nat) (s : State) : Host.Outcome State Fault Refusal := .next (s.resumeTrack n)

/-- TRACK_HALT (R105). -/
def execTrackHalt (n : Nat) (s : State) : Host.Outcome State Fault Refusal := .next (s.haltTrack n)

/-- TRACK_ABORT (R91). -/
def execTrackAbort (n : Nat) (s : State) : Host.Outcome State Fault Refusal := .next (s.abortTrack n)

/-! ### Writes of tokens and windows -/

/-- A token counter written, or refused while any track runs (R112). -/
def State.writeToken (s : State) (i v : Nat) : Status × State :=
  if (List.range 16).any fun t => s.track t = tkRunning ∨ s.track t = tkWaiting ∨ s.track t = tkParked then (.refusedBusy, s)
  else (.done, s.setf F.SEQ_TOKEN_COUNT v i)

/-- A word of the shadow window written, word `w` of its 8-byte words (R96); past the last row it has no effect (R15). -/
def State.writeShadow (s : State) (w v : Nat) : Status × State :=
  if s.seq.swap.isSome then (.refusedBusy, s)
  else if 4 * 2 ^ 20 ≤ w then (.done, s)
  else
    let i := w / 4
    let r := (tfind i s.seq.shadow).getD 0
    let r1 : Row256 := BitVec.ofNat 256 (putBits r.toNat (64 * (w % 4)) 64 v)
    (.done, { s with seq := { s.seq with shadow := tset (fun _ => (0 : Row256)) s.seq.shadow i r1 } })

/-! ### The conditions of the Meridian -/

/-- The entries of the collective table (R233). -/
def State.colEntries (s : State) : List Nat := List.range (s.f F.COL_STATUS_ENTRIES)

/-- The sites of an entry's ring. -/
def State.entrySites (s : State) (c : Nat) : List Nat := ringSites (s.f F.COL_ENTRY_B_RING c) (s.f F.COL_ENTRY_A_SITES c)

/-- The required sites (R334), as bits. -/
def State.requiredSites (s : State) : Nat := bitsOf ((s.colEntries.flatMap s.entrySites).dedup)

/-- The COMMIT rows of the active set. -/
def State.commitRows (s : State) : List Nat :=
  (s.seq.active.filter fun kv => decide (rowOpcode kv.2 = opCommit) && decide (kv.1 < s.f F.SEQ_ROWS_ACTIVE)).map Prod.fst

/-- The COMMIT items of a step in flight. -/
def State.commitItems (s : State) (step : Nat) : List Item :=
  s.seq.items.filter fun it => decide (rowOpcode it.row = opCommit) && decide (it.step = step)

/-- Whether R338 lets the gateway reach the Meridian of the next step; an active set without COMMIT rows reaches none. -/
def State.meridianDue (s : State) : Bool :=
  let m := s.f F.SEQ_MERIDIAN_STEP + 1
  let set := (tfind m s.peer.ready).getD 0
  s.imageActive && !s.peer.selfFenced && !s.commitRows.isEmpty && decide (Nat.land set s.requiredSites = s.requiredSites) &&
    s.commitRows.all fun r => (s.commitItems m).any (fun it => it.rowIx = r) || s.peer.pendingCommits.contains (m, r)

/-- PEER_MERIDIAN brought up to date. -/
def State.syncMeridian (s : State) : State :=
  (s.setf F.PEER_MERIDIAN_READY ((tfind (s.f F.SEQ_MERIDIAN_STEP + 1) s.peer.ready).getD 0)).setf F.PEER_MERIDIAN_REQUIRED s.requiredSites

/-! ### Swaps -/

/-- A swap disarmed and parked tracks released (R103). -/
def State.cancelSwap (s : State) : State :=
  if s.seq.swap.isNone then s
  else
    let s1 : State := { s with seq := { s.seq with swap := none } }
    let s2 := (s1.setf F.SEQ_SWAP_STATE 3).setf F.SEQ_STATUS_SWAP_ARMED 0
    ((List.range 16).foldl (fun s n => if s.track n = tkParked then s.setTrack n tkRunning else s) s2).syncTracks

/-- CANCEL (R103). -/
def execCancel (s : State) : Host.Outcome State Fault Refusal := .next s.cancelSwap

/-- The tracks of the active set started at a step: RUNNING at their entry rows; every other track IDLE. A track in
Twilight keeps its state (R677, R681). -/
def State.startTracks (s : State) (step : Nat) : State :=
  ((List.range 16).foldl (fun (s : State) n =>
    let on := decide (s.f F.SEQ_TKn_ENTRY_ACTIVE_EN n = 1)
    let s1 := if on then (s.setf F.SEQ_TKn_STEP_STEP step n).setCursor n (s.f F.SEQ_TKn_ENTRY_ACTIVE n) else s
    if s1.trackTwilight n then s1 else s1.setTrack n (if on then tkRunning else tkIdle))
    { s with seq := { s.seq with faultTo := [] } }).syncTracks

/-- The sets exchanged in one cycle (R72, R101, R102). -/
def State.doSwap (s : State) (step : Nat) : State :=
  let s1 : State := { s with seq := { s.seq with active := s.seq.shadow, shadow := s.seq.active, swap := none }, cst := { s.cst with swaps := s.cst.swaps + 1 } }
  let s2 := ((s1.setf F.SEQ_ROWS_ACTIVE (s.f F.SEQ_ROWS_SHADOW)).setf F.SEQ_ROWS_SHADOW (s.f F.SEQ_ROWS_ACTIVE)).setf
    F.SEQ_STATUS_BANK (1 - s.f F.SEQ_STATUS_BANK)
  let s3 := (List.range 16).foldl (fun x n =>
    (((x.setf F.SEQ_TKn_ENTRY_ACTIVE (s.f F.SEQ_TKn_ENTRY_SHADOW n) n).setf F.SEQ_TKn_ENTRY_ACTIVE_EN (s.f F.SEQ_TKn_ENTRY_SHADOW_EN n) n).setf
      F.SEQ_TKn_ENTRY_SHADOW (s.f F.SEQ_TKn_ENTRY_ACTIVE n) n).setf F.SEQ_TKn_ENTRY_SHADOW_EN (s.f F.SEQ_TKn_ENTRY_ACTIVE_EN n) n) s2
  ((((s3.clearTokens.startTracks step).setf F.SEQ_SWAP_STATE 2).setf F.SEQ_STATUS_SWAP_ARMED 0).event F.SEQ_EVENTS_SWAPPED).commitView

/-- A Meridian due in this cycle comes before a swap (R46). -/
def State.meridianFirst (s : State) : Bool := s.meridianDue && decide (s.f F.CST_STATUS_MODE ≠ 1)

/-- Whether an ARM_STEP swap can take place (R46, R101, R105, R681). -/
def State.stepSwapDue (s : State) : Bool :=
  decide (s.seq.swap = some .step) && !s.meridianFirst && decide (s.f F.SEQ_SWAP_STEP_STEP ≤ s.f F.SEQ_MERIDIAN_STEP) && s.seq.items.isEmpty
    && (List.range 16).all fun n => decide (s.f F.SEQ_TKn_ENTRY_ACTIVE_EN n = 0) || decide (s.track n = tkParked)

/-- Whether an ARM_IDLE swap can take place (R46, R102, R681). -/
def State.idleSwapDue (s : State) : Bool :=
  decide (s.seq.swap = some .idle) && !s.meridianFirst && s.seq.items.isEmpty
    && (List.range 16).all fun n => decide (s.track n = tkIdle) || decide (s.track n = tkHalted) || decide (s.track n = tkDark)

/-- Work of the steps after the last Meridian abandoned (R102; log entry 86): accumulator entries, the marks of RECV and COMMIT
rows, the ready sets and the counts of chunks in progress. -/
def State.abandonWork (s : State) : State :=
  { s with
    arr := { s.arr with acc := [], winTop := [], decRecs := [], home := [], chunk := [] }
    col := { s.col with holding := [], waiting := [], chunksDone := [], instStep := [], failed := [] }
    peer := { s.peer with recvDone := [], ready := [], pendingCommits := [], islands := [] } }

/-- The swap of an ARM_STEP that is due (R101). -/
def State.stepSwap (s : State) : State := s.doSwap (s.f F.SEQ_SWAP_STEP_STEP + 1)

/-- The swap of an ARM_IDLE that is due (R102). -/
def State.idleSwap (s : State) : State := s.abandonWork.syncMeridian.doSwap (s.f F.SEQ_MERIDIAN_STEP + 1)

/-- SWAP_STEP (R101). -/
def execSwapStep (s : State) : Host.Outcome State Fault Refusal := .next (if s.stepSwapDue then s.stepSwap else s)

/-- SWAP_IDLE (R102). -/
def execSwapIdle (s : State) : Host.Outcome State Fault Refusal := .next (if s.idleSwapDue then s.idleSwap else s)

end Sys2Proof.Machine
end

