-- ==== Sys2Proof/Machine/Meridian.lean ====
section
/-! DEFINITION. The Meridian (R334 to R338, R42, R45, R290), the resumption of a session (R326, R378), routes that come and
go (R315 to R319, R555, R556), Eclipse (R327, R361, R368) and the ends of items that wait on a member (R350, R369). -/

namespace Sys2Proof.Machine

/-! ### The Meridian -/

/-- Acknowledged collective blocks of steps up to a Meridian leave the replay areas (R290). -/
def State.freeReplay (s : State) (step : Nat) : State :=
  s.declared.foldl (fun (s : State) n =>
    (s.updSess n fun x => { x with tx := x.tx.filter fun b => !(decide (b.phase = TxPhase.acked) && !b.adhoc && decide (b.step ≤ step)) }).syncReplay n) s

/-- What is forgotten of the steps up to a Meridian (R334, R335, R361). -/
def State.forgetSteps (s : State) (m : Nat) : State :=
  let s1 : State := { s with peer := { s.peer with
    ready := s.peer.ready.filter (fun kv => decide (m < kv.1))
    recvDone := s.peer.recvDone.filter (fun kv => decide (m < kv.1))
    islands := s.peer.islands.filter (fun k => decide (m < k))
    pendingCommits := s.peer.pendingCommits.filter (fun k => decide (m < k.1)) } }
  ((((s1.dropWaiting fun n => decide (n ≤ m)).syncIsland).syncGate).freeReplay m).syncMeridian

/-- The Meridian of a step reached (R338): its COMMIT items end DONE, SEQ_MERIDIAN takes the step, STEP_COMMIT goes out. A
constellation counts its views at its pole (R639). -/
def State.reachMeridian (s : State) (m : Nat) : State :=
  let s1 := ((s.commitItems m).map Item.id).foldl (fun (s : State) id => s.endItem id .done) s
  let s2 := s1.setf F.SEQ_MERIDIAN_STEP m
  let s3 := s2.ownView
  (s3.sendStep kStepCommit m 0).forgetSteps m

/-- The kinds of the Meridian's messages between members of a constellation. -/
def mkMeridianReport : Nat := 10
def mkMeridian : Nat := 11

/-- A member's report of a step at the pole (R648), and the Meridian of the constellation once all have reported. -/
def State.noteReport (s : State) (step pos : Nat) : State :=
  let set := setBit ((tfind step s.cst.reports).getD 0) pos true
  let n := s.f F.CST_STATUS_MEMBERS
  if set = 2 ^ n - 1 ∧ step = s.f F.SEQ_MERIDIAN_STEP + 1 then
    let s1 : State := { s with cst := { s.cst with reports := s.cst.reports.filter fun kv => decide (step < kv.1) } }
    let s2 := (s1.reachMeridian step).nextView
    ((List.range n).filter (· ≠ s.f F.CST_STATUS_POSITION)).foldl
      (fun (s : State) m => s.emit (.member m mkMeridian step (beBytes 8 (s.f F.GLB_VIEW_VIEW)))) s2
  else { s with cst := { s.cst with reports := tput step set s.cst.reports } }

/-- A bound member tells the pole that it meets the conditions of R338 for the next step (R648). -/
def State.reportMeridian (s : State) : State :=
  let m := s.f F.SEQ_MERIDIAN_STEP + 1
  if m ≤ s.cst.reported then s
  else
    let s1 : State := { s with cst := { s.cst with reported := m } }
    if s.f F.CST_STATUS_IS_POLE = 1 then s1.noteReport m (s.f F.CST_STATUS_POSITION)
    else s1.emit (.member (s.f F.CST_STATUS_POLE) mkMeridianReport m [])

/-- One SCLK cycle of the Meridian's conditions (R338, R648). -/
def State.meridianCycle (s : State) : State :=
  let m := s.f F.SEQ_MERIDIAN_STEP + 1
  let s1 := (if s.imageActive ∧ s.ready m then s.growReady m (2 ^ s.conf.site) else s).syncMeridian
  if !s1.meridianDue then s1 else if s1.f F.CST_STATUS_MODE = 1 then s1.reportMeridian else s1.reachMeridian m

/-- MERIDIAN (R338, R648). -/
def execMeridian (s : State) : Host.Outcome State Fault Refusal := .next s.meridianCycle

/-- A Meridian, then a swap, that fall in the cycle of a commit come before it (R46). -/
def State.beforeCommit (s : State) : State :=
  let s1 := if s.meridianFirst then s.meridianCycle else s
  if s1.stepSwapDue then s1.stepSwap else if s1.idleSwapDue then s1.idleSwap else s1

/-! ### Re-sending and resuming -/

/-- The route of a re-send (R298): the up route other than the last one, or the only up route. -/
def State.resendRoute (s : State) (n last : Nat) : Option Nat :=
  match s.upRoutes n with
  | [] => none
  | [r] => some r
  | _ => some (if last = 0 then 1 else 0)

/-- A block sent again from the replay area (R279, R298, R549); `counts` says whether R301 counts it. -/
def State.resend (s : State) (n : Nat) (b : TxBlock) (counts : Bool) : State :=
  match s.resendRoute n b.lastRoute with
  | none => s
  | some r =>
    let again (t : TxBlock) : TxBlock := { t with lastRoute := r, timerAt := s.now, resends := if counts then t.resends + 1 else t.resends }
    let s1 := s.updSess n fun x => { x with tx := lmodify (fun t => decide (t.dseq = b.dseq)) again x.tx }
    let s2 := s1.count F.PEER_SESSn_RESENT_COUNT 1 n
    let s3 := match b.item with | some id => s2.markResent id | none => s2
    s3.enqueue r b.cls n (some b.dseq) false b.bytes

/-- An abandonment for a block of the sending side (R303). -/
def State.abandonBlock (s : State) (n reason : Nat) (b : TxBlock) : State :=
  let h : Head := { kind := kData, adhoc := b.adhoc, abandon := true, relay := false, cls := 0, origin := s.conf.site
                    step := b.step, stream := b.stream, chunk := b.chunk, part := 0, parts := 1 }
  s.sendData n h b.localStream (beBytes 1 reason ++ beBytes 1 1 ++ beBytes 2 0 ++ rangeBytes [(b.dseq, b.dseq)])

/-- Blocks of a session that the peer has taken in (R290, R293, R308): collective blocks stay for their Meridian, others go. -/
def State.markAcked (s : State) (n : Nat) (taken : TxBlock → Bool) : State :=
  let hit (b : TxBlock) : Bool := decide (b.phase = TxPhase.sent) && taken b
  let keep (b : TxBlock) : Bool :=
    decide (b.kind = kData) && decide (b.cls ≠ 3) && b.item.isSome && (b.adhoc || decide (s.f F.SEQ_MERIDIAN_STEP < b.step))
  let books := ((s.sess n).tx.filter fun b => hit b && decide (b.kind = kCodebook)).map TxBlock.localStream
  let after (b : TxBlock) : Option TxBlock := if hit b then (if keep b then some { b with phase := .acked } else none) else some b
  let stamp (k : BookSend) : BookSend := if k.session = n ∧ books.contains k.stream then { k with sentAt := s.now } else k
  let s1 := s.updSess n fun x => { x with tx := x.tx.filterMap after }
  let s2 : State := { s1 with cmp := { s1.cmp with sends := s1.cmp.sends.map stamp } }
  (s2.syncOldest n).syncReplay n

/-- SENDs whose blocks have all been acknowledged end (R80, R308). -/
def State.settleSends (s : State) : State :=
  ((s.seq.items.filter fun it => it.running && decide (rowOpcode it.row = opSend)).map Item.id).foldl State.sendDone s

/-- Streams of a session held under R319 released once their old route's blocks are acknowledged. -/
def State.releaseHeld (s : State) (n : Nat) : State :=
  let out (st : Nat) : Bool := (s.sess n).tx.any fun b => decide (b.localStream = st) && decide (b.cls = 3) && decide (b.phase = TxPhase.sent)
  let free := (s.sess n).heldStreams.filter fun st => !out st
  let s1 := free.foldl (fun (s : State) st => s.setCtx st { (s.ctx st) with held := false }) s
  s1.updSess n fun x => { x with heldStreams := x.heldStreams.filter fun st => !free.contains st }

/-- The blocks of a session that are out and unacknowledged go out again, in sequence order (R326); those of steps above
`above`, if given, are abandoned instead (R378). While no route is up they wait. -/
def State.resume (s : State) (n : Nat) (above : Option Nat) : State :=
  let out := (s.sess n).tx.filter fun b => b.phase = TxPhase.sent
  let gone (b : TxBlock) : Bool := match above with
    | some m => decide (b.kind = kData) && decide (b.cls ≠ 3) && !b.adhoc && b.item.isSome && decide (m < b.step)
    | none => false
  let one (s : State) (b : TxBlock) : State :=
    if gone b then
      (s.updSess n fun x => { x with tx := lmodify (fun t => decide (t.dseq = b.dseq)) (fun t => { t with abandoned := true }) x.tx }).abandonBlock n 1 b
    else if b.abandoned then s
    else if (s.upRoutes n).isEmpty then
      s.updSess n fun x => { x with tx := lmodify (fun t => decide (t.dseq = b.dseq)) (fun t => { t with phase := .waiting }) x.tx }
    else s.resend n b false
  (out.foldl one s).pumpTx n

/-- A session enters OPEN (R327) and resumes. -/
def State.enterOpen (s : State) (n : Nat) (above : Option Nat) : State :=
  let s1 := (s.setSessState n ssOpen).event F.PEER_EVENTS_OPENED
  let s2 := s1.updSess n fun x => { x with leftOpenAt := none, sendNew := false, bridgedAt := none }
  let s3 := if s2.declared.any (fun k => (s2.sess k).leftOpenAt.isSome) then s2 else s2.setf F.PEER_HOLD_STATUS_STALLED 0
  s3.resume n above

/-! ### Routes -/

/-- The weight set of each route (R556). -/
def State.syncSingle (s : State) : State :=
  let ns := s.declared
  let one (s : State) (r : Nat) (x : Fld) : State :=
    let down := !ns.isEmpty && ns.all fun n => decide (s.route n (1 - r) = rtDown)
    let up := ns.any fun n => decide (s.route n (1 - r) = rtUp)
    let cur := s.f x
    let new := if down then 1 else if up then 0 else cur
    (s.setf x new).eventIf (decide (new ≠ cur)) F.SCH_EVENTS_SINGLE_ROUTE
  one (one s 0 F.SCH_STATUS_A_SINGLE) 1 F.SCH_STATUS_B_SINGLE

/-- The bridged streams of a session bound to a route bound anew to the other (R318, R319): held while blocks first sent on
the old one are out. -/
def State.rebind (s : State) (n r : Nat) : State :=
  let bound := (s.mem.ctx.filter fun kv => decide (kv.2.session = n) && decide (kv.2.cls = 3) && decide (kv.2.route = r + 1)).map Prod.fst
  bound.foldl (fun (s : State) st =>
    let out := (s.sess n).tx.any fun b => decide (b.localStream = st) && decide (b.cls = 3) && decide (b.phase = TxPhase.sent)
    let c := s.ctx st
    let s1 := s.setCtx st { c with route := if s.routeUp n (1 - r) then (1 - r) + 1 else 0, held := out }
    if out then s1.updSess n fun x => { x with heldStreams := if x.heldStreams.contains st then x.heldStreams else x.heldStreams ++ [st] } else s1) s

/-- The queued and untransmitted blocks of a session on a route taken to the other route (R555): data-space blocks to the
tail of their class in sequence order, class C3 as new, control-space blocks discarded. -/
def State.moveQueued (s : State) (n r : Nat) : State :=
  (List.range 6).foldl (fun (s : State) c =>
    let mine := (s.queue r c).filter fun q => decide (q.session = n)
    let s1 := s.setQueue r c ((s.queue r c).filter fun q => decide (q.session ≠ n))
    let data := mine.filter fun q => q.dseq.isSome
    let sorted := data.mergeSort fun a b => !newer (a.dseq.getD 0) (b.dseq.getD 0)
    sorted.foldl (fun (s : State) q =>
      let d := q.dseq.getD 0
      let hit (t : TxBlock) : Bool := decide (t.dseq = d)
      if c = 3 ∧ q.fresh then
        s.updSess n fun x => { x with tx := lmodify hit (fun t => { t with phase := .waiting, firstRoute := 2, lastRoute := 2 }) x.tx }
      else
        let mark (t : TxBlock) : TxBlock := { t with firstRoute := if q.fresh then 1 - r else t.firstRoute, lastRoute := 1 - r }
        (s.updSess n fun x => { x with tx := lmodify hit mark x.tx }).enqueue (1 - r) c n (some d) q.fresh q.bytes none true) s1) s

/-- A route of a session goes DOWN (R315 to R319, R308, R555, R556, R574). -/
def State.routeDown (s : State) (n r : Nat) : State :=
  let was := s.route n r
  let s1 := ((s.setRoute n r rtDown).eventIf (decide (was ≠ rtDown)) F.PEER_EVENTS_ROUTE_DOWN).syncSingle
  if was ≠ rtUp then s1
  else
    let s2 := ((s1.setWindow n (1 - r)).rebind n r).timeRouteDown n r
    let s3 := if s2.routeUp n (1 - r) then s2.moveQueued n r else s2
    let s4 := s3.degradeWhere fun it => it.running && decide (rowOpcode it.row = opRecv) && decide ((s.ctx (rowStream it.row)).session = n)
    s4.pumpTx n

/-- A route of a session comes UP (R285, R315, R554, R555). -/
def State.routeUpNow (s : State) (n r : Nat) (stepped : Bool) : State :=
  let s1 := ((s.setRoute n r rtUp).event F.PEER_EVENTS_ROUTE_UP).syncSingle
  let s2 := (s1.setWindow n r).setWindow n (1 - r)
  let s3 := s2.updSess n fun x => x.setRt r { (x.rt r) with tokens := 64 * s2.counted r 2 8192, filledAt := s.now }
  let s4 := if stepped then s3 else s3.timeRouteUp n r
  let s5 := if s4.route n (1 - r) = rtUp then s4 else s4.moveQueued n (1 - r)
  s5.pumpTx n

/-! ### Items that wait on a session -/

/-- SEND and RECV items on a session that satisfy a test ended with a status. -/
def State.endSession (s : State) (n : Nat) (p : Item → Bool) (st : Status) : State :=
  s.endWhere (fun it => (decide (rowOpcode it.row = opSend) || decide (rowOpcode it.row = opRecv))
    && decide ((s.ctx (rowStream it.row)).session = n) && p it) st

/-- Everything that waits on a session's peer ended with a status (R330, R350, R354, R440). -/
def State.endWaiting (s : State) (n : Nat) (st : Status) : State :=
  (s.endSession n (fun _ => true) st).errorReqs (fun r => r.session = n) st

/-- The hold time in ns (PEER_FAULT_CFG.HOLD). -/
def State.holdNs (s : State) : Nat := max 1 (s.f F.PEER_FAULT_CFG_HOLD) * 10 ^ 9

/-- What native mode makes of a session's Eclipse (R361). -/
def State.eclipseNative (s : State) (n : Nat) : State :=
  if !s.plannedSessions.contains n then s
  else
    let m := s.f F.SEQ_MERIDIAN_STEP
    let above (it : Item) : Bool := decide (m < it.step) && it.adhoc.isNone
    let commits := s.seq.items.filter fun it => it.running && decide (rowOpcode it.row = opCommit) && above it
    let s1 := commits.foldl State.eclipseCommit s
    (s1.endSession n (fun it => above it && (rowEntry it.row).isSome && !s.bridged it.row && !s.ready it.step) .failedLink).syncGate

/-- A session enters ECLIPSE (R327, R361, R367, R368): fresh sends and timers stop, and HELLOs start. -/
def State.eclipse (s : State) (n : Nat) : State :=
  let s1 := (s.setSessState n ssEclipse).event F.PEER_EVENTS_ECLIPSE
  let suspect := match tfind n s.peer.watch with | some w => decide (w.state = 2) | none => false
  let s2 := s1.updSess n fun x =>
    { x with leftOpenAt := some (x.leftOpenAt.getD s.now), helloAt := 0, bridgedAt := if suspect then some s.now else x.bridgedAt }
  let s3 := match s2.peer.recon with
    | some r => if r.session = n then ({ s2 with peer := { s2.peer with recon := none } }).setf F.PEER_RECON_STATE 0 else s2
    | none => s2
  if s3.exact then
    (({ s3 with peer := { s3.peer with stalledAt := some s.now } }).setf F.PEER_HOLD_STATUS_STALLED 1).setf F.PEER_STALL_STEP_STEP
      (s3.f F.SEQ_MERIDIAN_STEP + 1)
  else s3.eclipseNative n

/-- The job stopped in exact mode (R369). -/
def State.stopJob (s : State) : State :=
  let m := s.f F.SEQ_MERIDIAN_STEP
  let missing := (List.range 16).filter fun i => s.requiredSites.testBit i && !((tfind (m + 1) s.peer.ready).getD 0).testBit i
  let s1 := s.endWhere (fun it => decide (m < it.step) && it.adhoc.isNone) .failedHoldExpired
  let s2 := ((List.range 16).foldl (fun (s : State) t => if s.trackTwilight t then s else s.setTrack t tkHalted) s1).syncTracks
  (((s2.setf F.PEER_HOLD_STATUS_MISSING (bitsOf missing)).setf F.PEER_HOLD_STATUS_EXPIRED 1).setf F.PEER_STALL_STEP_STEP (m + 1)).event
    F.PEER_FAULT_EVENTS_HOLD_EXPIRED

end Sys2Proof.Machine
end

