-- ==== Sys2Proof/Machine/Frames.lean ====
section
/-! DEFINITION. Ethernet frames of the host port that carry IEEE 1588 messages (R569), time payloads (R572), and the egress
side of the transparent clock (R576 to R578). Frame layouts are those of IEEE 802.3, RFC 791, RFC 8200 and RFC 768
(log entry 7). -/

namespace Sys2Proof.Machine

/-- A field of HOST_CFG or of a host address register as it is in effect (R583). -/
def State.hostF (s : State) (x : Fld) : Nat := regFld s.host.inEffect x 0

/-- Where the payload of an Ethernet frame begins: after its EtherType, past one 802.1Q tag. -/
def l3At (fr : List Byte) : Nat := if hdrAt fr 12 2 = 0x8100 then 18 else 14

/-- Where a PTP message begins in an Ethernet frame without FCS, and how it is carried: 0 Ethernet, 4 UDP over IPv4, 6 UDP
over IPv6. -/
def ptpAt (fr : List Byte) : Option (Nat × Nat) :=
  let o := l3At fr
  let et := hdrAt fr (o - 2) 2
  if et = 0x88F7 then some (o, 0)
  else if et = 0x0800 then
    let ihl := hdrAt fr o 1 % 16 * 4
    let port := hdrAt fr (o + ihl + 2) 2
    if hdrAt fr (o + 9) 1 = 17 ∧ (port = 319 ∨ port = 320) then some (o + ihl + 8, 4) else none
  else if et = 0x86DD then
    let port := hdrAt fr (o + 42) 2
    if hdrAt fr (o + 6) 1 = 17 ∧ (port = 319 ∨ port = 320) then some (o + 48, 6) else none
  else none

/-- Bytes replaced from an offset. -/
def patch (bs : List Byte) (o : Nat) (new : List Byte) : List Byte := bs.take o ++ new ++ bs.drop (o + new.length)

/-- The one's complement sum of 16-bit words. -/
def onesSum (bs : List Byte) : Nat :=
  let t := ((chunks 2 ((bs.length + 1) / 2) bs).map fun w => hdrAt (w ++ [0]) 0 2).sum
  let t1 := t % 65536 + t / 65536
  (t1 % 65536 + t1 / 65536) % 65536

/-- A frame with its UDP checksum made right: zero over IPv4, computed over IPv6 (R577). -/
def fixUdp (fr : List Byte) (off carrier : Nat) : List Byte :=
  if carrier = 4 then patch fr (off - 2) (beBytes 2 0)
  else if carrier = 6 then
    let len := hdrAt fr (off - 4) 2
    let z := patch fr (off - 2) (beBytes 2 0)
    let seg := (z.drop (off - 8)).take len
    let c := 65535 - onesSum ((z.drop (off - 40)).take 32 ++ beBytes 4 len ++ beBytes 4 17 ++ seg)
    patch fr (off - 2) (beBytes 2 (if c = 0 then 65535 else c))
  else fr

/-- A frame with its FCS. -/
def withFcs (fr : List Byte) : List Byte := fr ++ leBytes 4 (crc32 (nats fr))

/-- A frame without FCS as MACsec sends it (R546): SecTAG with SCI, payload sealed under GCM-AES-XPN-256, ICV. -/
def macSeal (g : KeyGen) (sci : Nat) (fr : List Byte) : List Byte :=
  let pn := g.records + 1
  let n := (fr.drop 12).length
  let tag := beBytes 2 0x88E5 ++ beBytes 1 (0x2C + g.an % 4) ++ beBytes 1 (if n < 48 then n else 0) ++ beBytes 4 (pn % 2 ^ 32) ++ beBytes 8 sci
  let iv := xorList (bytesOf 12 g.salt.toNat) (bytesOf 4 g.ssci ++ bytesOf 8 pn)
  let r := gcmSeal g.keys iv (nats (fr.take 12 ++ tag)) (nats (fr.drop 12))
  fr.take 12 ++ tag ++ byts r.1 ++ byts r.2

/-- A frame padded to the least length of Ethernet, its FCS apart. -/
def padFrame (fr : List Byte) : List Byte := fr ++ List.replicate (60 - fr.length) 0

/-- A frame, given without FCS, sent out of the host port (R546). -/
def State.hostSend (s : State) (fr : List Byte) : State :=
  match s.macGen with
  | some (k, g) => s.sendOut (.hostFrame (withFcs (padFrame (if s.macsec then macSeal g ((tfind k s.conf.sci).getD 0) fr else fr))))
  | none => s.sendOut (.hostFrame (withFcs (padFrame fr)))

/-- messageType and domainNumber of a PTP message. -/
def ptpType (m : List Byte) : Nat := hdrAt m 0 1 % 16
def ptpDomain (m : List Byte) : Nat := hdrAt m 4 1

/-- Stamps corrected by the fixed latencies of R570, in TB3 linear units. -/
def State.hostRxStamp (s : State) : Int := (s.tb3Lin : Int) - s.f F.TIME_LAT_HOST_RX * 4096
def State.hostTxStamp (s : State) : Int := (s.tb3Lin : Int) + s.f F.TIME_LAT_HOST_TX * 4096
def State.lineRxStamp (s : State) : Int := (s.tb3Lin : Int) - s.f F.TIME_LAT_LINE_RX * 4096
def State.lineTxStamp (s : State) : Int := (s.tb3Lin : Int) + s.f F.TIME_LAT_LINE_TX * 4096

/-- A time value in linear form as SECONDS, NS and FRAC (R565). -/
def timeBytes (lin : Nat) : List Byte :=
  let ns := lin / 65536
  beBytes 8 (ns / 1000000000) ++ beBytes 4 (ns % 1000000000) ++ beBytes 2 (lin % 65536)

/-- The linear form of SECONDS, NS and FRAC at an offset of some bytes. -/
def linearAt (bs : List Byte) (o : Nat) : Nat := (hdrAt bs o 8 * 1000000000 + hdrAt bs (o + 8) 4) * 65536 + hdrAt bs (o + 12) 2

/-- The egress side of the transparent clock (R576 to R578): a relayed frame leaves by the host port. -/
def State.relayOut (s : State) (pl : List Byte) : State :=
  let full := (pl.drop 32).take (hdrAt pl 2 2)
  let fr := full.take (full.length - 4)
  if (s.base 2).state = tbFree then (s.count F.TIME_TC_NOLOCK_COUNT).event F.TIME_EVENTS_TC_DISCARD
  else match ptpAt fr with
  | none => s
  | some (off, carrier) =>
    let m := fr.drop off
    if ptpType m ≤ 1 then
      let stamp := (s.baseLin 2 : Int) + s.f F.TIME_LAT_HOST_TX * 4096
      let res : Int := stamp - linearAt pl 16
      let r := s.time.follows.getD 0
      let n := s.f F.TIME_CFG_SESSION
      let fwd := if r = 0 then s.f F.PEER_SESSn_EPH_A_ONE_WAY n else s.f F.PEER_SESSn_EPH_B_ONE_WAY n
      let limit : Int := ((fwd + s.f F.TIME_TC_SLACK * 1000) * 65536 : Nat)
      if limit < res then (s.count F.TIME_TC_LATE_COUNT).event F.TIME_EVENTS_TC_DISCARD
      else
        let corr := BitVec.ofNat 64 (hdrAt m 8 8) + BitVec.ofInt 64 res
        let out := fixUdp (patch fr (off + 8) (beBytes 8 corr.toNat)) off carrier
        (s.hostSend out).count F.TIME_TC_RELAYED_COUNT
    else (s.hostSend fr).count F.TIME_TC_RELAYED_COUNT

/-- A time report of the peer taken in (R573). -/
def State.takeReport (s : State) (pl : List Byte) : State :=
  let fl := hdrAt pl 1 1
  let low := hdrAt pl 8 8
  let known : Int := match s.time.peer with | some p => p.1 | none => low
  let tr := fl.testBit 2
  ({ s with time := { s.time with peer := some (nearest64 known low, linearAt pl 16, fl % 4, tr) } }).setf F.TIME_STATUS_PEER_TRACEABLE (b2n tr)

/-- The stream index of time payloads (R572). -/
def timeStream : Nat := 0x1FFFFF

/-- A time payload that arrived on the time session (R572). -/
def State.timePayload (s : State) (n : Nat) (pl : List Byte) : State :=
  if !s.timeSession n then s
  else if hdrAt pl 0 1 = 1 then s.takeReport pl
  else if hdrAt pl 0 1 = 2 then s.relayOut pl
  else s

end Sys2Proof.Machine
end

