-- ==== Sys2Proof/Machine/Members.lean ====
section
/-! DEFINITION. Members and epochs: the member table (R341 to R346), the failure detector (R347 to R350), EPOCH messages
(R329 to R331, R353, R354), membership commits and the re-forming of groups (R265 to R269, R355). -/

namespace Sys2Proof.Machine

/-- Entry states (R341). -/
def meMember : Nat := 1
def meRemoved : Nat := 2

/-- Detector states (PEER_MEMBER_STATE). -/
def mbAlive : Nat := 1
def mbSuspect : Nat := 2
def mbProposed : Nat := 3
def mbContested : Nat := 4
def mbExpired : Nat := 5
def mbFenced : Nat := 6

/-- The key of an entry: its site and role. -/
def memberKey (site role : Nat) : Nat := 256 * site + role

def State.member (s : State) (site role : Nat) : Option Member := s.peer.members.find? fun m => m.site = site ∧ m.role = role

/-- The fence epoch of an entry (R345). -/
def State.fence (s : State) (site role : Nat) : Nat := (tfind (memberKey site role) s.peer.fences).getD 0

/-- Site and role of a session's peer. -/
def State.peerSite (s : State) (n : Nat) : Nat := s.f F.PEER_SESSn_CFG_PEER_SITE n
def State.peerRole (s : State) (n : Nat) : Nat := s.f F.PEER_SESSn_CFG_PEER_ROLE n

/-- The peer of a session has been removed (R355). -/
def State.peerRemoved (s : State) (n : Nat) : Bool :=
  match s.member (s.peerSite n) (s.peerRole n) with
  | some m => decide (m.state = meRemoved)
  | none => false

/-- An entry in network byte order, the reserved bytes zero (R341, R342). -/
def Member.bytes (m : Member) : List Byte :=
  beBytes 1 m.site ++ beBytes 1 m.role ++ beBytes 1 m.state ++ beBytes 5 0 ++ beBytes 8 m.device

/-- The DIGEST of the member table (R342). -/
def memberDigest (ms : List Member) : List Byte :=
  byts (sha256 (nats ((ms.mergeSort fun a b => memberKey a.site a.role ≤ memberKey b.site b.role).flatMap Member.bytes)))

/-- The sites that are members (R331): those of the table, or of the image before any table has come. -/
def State.memberSites (s : State) : Nat :=
  if s.peer.members = [] then s.conf.sites else bitsOf ((s.peer.members.filter fun m => m.state = meMember).map Member.site).dedup

/-- An EPOCH message on a session (R331). -/
def State.sendEpoch (s : State) (n : Nat) : State :=
  s.sendData n (s.plainHead kEpoch) 0
    (beBytes 8 (s.f F.PEER_EPOCH_EPOCH) ++ beBytes 2 s.memberSites ++ beBytes 6 0 ++ memberDigest s.peer.members)

/-- An EPOCH message in answer to a block, at most one in 100 µs (R329, R353). -/
def State.answerEpoch (s : State) (n : Nat) : State :=
  let due := match (s.sess n).epochSentAt with | some t => s.elapsed t 100000 | none => true
  if due then (s.updSess n fun x => { x with epochSentAt := some s.now }).sendEpoch n else s

/-! ### The detector -/

def State.watch (s : State) (n : Nat) : Watch := (tfind n s.peer.watch).getD { heardAt := 0, state := 0, holdAt := none }

def State.setWatch (s : State) (n : Nat) (w : Watch) : State := { s with peer := { s.peer with watch := tput n w s.peer.watch } }

/-- A valid block from a session's member has arrived (R347): silence ends, on the session and on the route. -/
def State.heard (s : State) (n r : Nat) : State :=
  let s1 := s.updSess n fun x => ({ x with heardAt := s.now }).setRt r { (x.rt r) with heardAt := s.now }
  let w := s1.watch n
  s1.setWatch n { w with heardAt := s.now, state := if w.state = mbSuspect then mbAlive else w.state }

/-- The valid block carries a current epoch (R347). -/
def State.heardCurrent (s : State) (n : Nat) : State :=
  let w := s.watch n
  if w.state = mbProposed ∨ w.state = mbContested ∨ w.state = mbExpired then s.setWatch n { w with state := mbAlive, holdAt := none } else s

/-- A member's silence so far. -/
def State.silent (s : State) (n d : Nat) : Bool := s.elapsed (s.watch n).heardAt d

/-- MEMBER_SUSPECT (R347). -/
def execMemberSuspect (n : Nat) (s : State) : Host.Outcome State Fault Refusal :=
  let w := s.watch n
  if w.state = mbAlive ∧ s.silent n (max 1 (s.f F.PEER_FAULT_CFG_SUSPECT) * 10000) then
    .next ((s.setWatch n { w with state := mbSuspect }).event F.PEER_FAULT_EVENTS_SUSPECT)
  else .next s

/-- DOWN_PROPOSAL (R347, R348). -/
def execDownProposal (n : Nat) (s : State) : Host.Outcome State Fault Refusal :=
  let w := s.watch n
  if w.state = mbSuspect ∧ s.silent n (max 1 (s.f F.PEER_FAULT_CFG_T_DOWN) * 100000) then
    .next ((s.setWatch n { w with state := mbProposed, holdAt := some s.now }).event F.PEER_FAULT_EVENTS_DOWN_PROPOSED)
  else .next s

/-- The items that wait on a member that is EXPIRED end (R349, R350); in exact mode the stalled step's items with them. -/
def State.expireMember (s : State) (n : Nat) : State :=
  let s1 := (s.endWaiting n .failedHoldExpired).event F.PEER_FAULT_EVENTS_HOLD_EXPIRED
  if s.exact then
    s1.endWhere (fun it => it.adhoc.isNone && decide (it.step = s.f F.SEQ_MERIDIAN_STEP + 1)) .failedHoldExpired
  else s1

/-- The bridged items of a session whose hold time runs from Eclipse entry (R367): they end with it. -/
def State.expireBridged (s : State) (n : Nat) : State :=
  match (s.sess n).bridgedAt with
  | some t =>
    if s.elapsed t s.holdNs then
      let s1 := s.updSess n fun x => { x with bridgedAt := none }
      ((s1.endSession n (fun it => s1.bridged it.row) .failedHoldExpired).errorReqs (fun r => r.session = n) .failedHoldExpired).event
        F.PEER_FAULT_EVENTS_HOLD_EXPIRED
    else s
  | none => s

/-- MEMBER_HOLD_EXPIRED (R347, R350, R367). -/
def execMemberHoldExpired (n : Nat) (s : State) : Host.Outcome State Fault Refusal :=
  let s1 := s.expireBridged n
  let w := s1.watch n
  match w.holdAt with
  | some t =>
    if (w.state = mbProposed ∨ w.state = mbContested) ∧ s1.elapsed t s1.holdNs then
      .next ((s1.setWatch n { w with state := mbExpired }).expireMember n)
    else .next s1
  | none => .next s1

/-- EXACT_HOLD_EXPIRED (R369). -/
def execExactHoldExpired (n : Nat) (s : State) : Host.Outcome State Fault Refusal :=
  match (s.sess n).leftOpenAt with
  | some t =>
    if s.exact ∧ s.sessState n ≠ ssOpen ∧ s.f F.PEER_HOLD_STATUS_EXPIRED = 0 ∧ s.elapsed t s.holdNs then .next s.stopJob else .next s
  | none => .next s

/-- A KEEP verdict (R347, R618). -/
def State.keepMember (s : State) (site role : Nat) : State :=
  s.declared.foldl (fun (s : State) n =>
    let w := s.watch n
    if s.peerSite n = site ∧ s.peerRole n = role ∧ w.state = mbProposed then
      (s.setWatch n { w with state := mbContested }).event F.PEER_FAULT_EVENTS_CONTESTED
    else s) s

/-! ### Suspension for an epoch -/

/-- A session suspended for an epoch (R330, R354); `e` is the newer epoch it waits for, 0 when it waits for the peer. -/
def State.suspendEpoch (s : State) (n e : Nat) : State :=
  let s1 := s.setf F.PEER_SESSn_STATE_EPOCH_WAIT 1 n
  (s1.updSess n fun x => { x with epochWaitAt := some (x.epochWaitAt.getD s.now), waitFor := max e x.waitFor }).eventIf (decide (0 < e)) F.PEER_EVENTS_EPOCH_AHEAD

/-- A suspended session goes on (R326). -/
def State.endEpochWait (s : State) (n : Nat) : State :=
  if s.f F.PEER_SESSn_STATE_EPOCH_WAIT n = 1 then
    let s1 := (s.setf F.PEER_SESSn_STATE_EPOCH_WAIT 0 n).updSess n fun x => { x with epochWaitAt := none, waitFor := 0 }
    if s1.sessState n = ssOpen then s1.resume n none else s1
  else s

/-- EPOCH_WAIT_EXPIRED: the waiting SENDs of a session whose peer named an older epoch end (R330), and every waiting item of one that
has had a newer one (R354). -/
def execEpochWaitExpired (n : Nat) (s : State) : Host.Outcome State Fault Refusal :=
  match (s.sess n).epochWaitAt with
  | some t =>
    if s.f F.PEER_SESSn_STATE_EPOCH_WAIT n = 1 ∧ s.elapsed t s.holdNs then
      .next (if (s.sess n).waitFor = 0 then s.endSession n (fun it => decide (rowOpcode it.row = opSend)) .failedHoldExpired
        else s.endWaiting n .failedHoldExpired)
    else .next s
  | none => .next s

/-! ### Groups -/

/-- A row's item that R266 ends: it takes part across sites. -/
def State.crossSite (s : State) (it : Item) : Bool :=
  let op := rowOpcode it.row
  let c := s.ctx (rowStream it.row)
  decide (op = opSend) || decide (op = opRecv) || decide (op = opOpen)
    || (decide (op = opDecode) && !(s.carriers (rowSrc it.row).tier (rowSrc it.row).addr 1).isEmpty)
    || (decide (op = opReduce) && c.decoded)

/-- Streams whose accumulators a collective's cross-site REDUCE rows use. -/
def State.crossStreams (s : State) (c : Nat) : List Nat :=
  ((s.seq.active.filter fun kv => decide (rowOpcode kv.2 = opReduce) && decide (rowEntry kv.2 = some c) && (s.ctx (rowStream kv.2)).decoded).map
    fun kv => rowStream kv.2).dedup

/-- An entry rewritten without some sites (R265). -/
def State.shrinkEntry (s : State) (lost : List Nat) (epoch c : Nat) : State :=
  let left := (s.entrySites c).filter fun x => !lost.contains x
  let pos := left.idxOf s.conf.site
  (((s.setf F.COL_ENTRY_B_RING (ringOf left) c).setf F.COL_ENTRY_A_SITES left.length c).setf F.COL_ENTRY_D_MY_POS pos c).setf
    F.COL_ENTRY_C_EPOCH epoch c

/-- The groups re-formed without the sites a commit removes (R265 to R267), or with a new epoch only (R269). The row at a running
track's cursor is a PENDING item (R81), which R266 ends too. -/
def State.reform (s : State) (lost changed : List Nat) (epoch : Nat) : State :=
  let hit := s.colEntries.filter fun c => (s.entrySites c).any fun x => lost.contains x
  let moved := s.colEntries.filter fun c => !hit.contains c && (s.entrySites c).any fun x => changed.contains x
  let m := s.f F.SEQ_MERIDIAN_STEP
  let s1 := hit.foldl (fun (s : State) c => s.shrinkEntry lost epoch c) s
  let s2 := moved.foldl (fun (s : State) c => s.setf F.COL_ENTRY_C_EPOCH epoch c) s1
  if hit.isEmpty then s2
  else
    let inHit (it : Item) : Bool := match rowEntry it.row with | some c => hit.contains c | none => false
    let plan (it : Item) : Bool := it.adhoc.isNone && decide (m < it.step) &&
      ((inHit it && s.crossSite it) || decide (rowOpcode it.row = opCommit))
    let adhoc (it : Item) : Bool := match it.adhoc with
      | some id => (match s.col.running.find? fun a => a.id = id with | some a => hit.contains a.template | none => false)
      | none => false
    let s3 := (s2.addPendings plan).endWhere (fun it => plan it || adhoc it) .failedMemberLost
    let s4 := (hit.flatMap s.crossStreams).foldl (fun (s : State) k => { s with arr := s.arr.clearAcc k }) s3
    s4.event F.COL_EVENTS_REFORMED

/-! ### Membership commits -/

/-- A session's peer removed, or its role taken by another device (R352, R355, R440). -/
def State.fencePeer (s : State) (n : Nat) (removed siteLost : Bool) : State :=
  let s1 := s.setWatch n { (s.watch n) with state := mbFenced, holdAt := none }
  let s2 := s1.errorReqs (fun r => r.session = n) (if siteLost then .failedMemberLost else .failedFenced)
  if removed then s2.setSessState n ssIdle else s2

/-- The gateway fences itself (R346). -/
def State.fenceSelf (s : State) : State :=
  let s1 := s.declared.foldl (fun (s : State) n => s.setSessState n ssIdle) s
  let s2 := s1.endWhere (fun _ => true) .failedFenced
  ({ s2 with peer := { s2.peer with selfFenced := true } }).event F.PEER_FAULT_EVENTS_SELF_FENCED

/-- A session in IDLE whose peer is a member starts to open again (R355, R346). -/
def State.reopen (s : State) (n : Nat) : State :=
  if s.sessState n = ssIdle then (s.setSessState n ssOpening).updSess n fun x => { x with helloAt := 0 } else s

/-- A membership commit (R342 to R346, R265 to R269, R331, R354, R355), the view apart. A commit whose epoch is not greater
is refused. Items that both causes would end report FAILED_FENCED, the first of the two (R64). -/
def State.commitMembers (s : State) (epoch : Nat) (ms : List Member) : Status × State :=
  if epoch ≤ s.f F.PEER_EPOCH_EPOCH then (.refusedBusy, s)
  else
    let old (m : Member) : Option Member := s.member m.site m.role
    let raises (m : Member) : Bool := match old m with
      | some o => (decide (m.state = meRemoved) && decide (o.state ≠ meRemoved)) || decide (o.device ≠ m.device)
      | none => decide (m.state = meRemoved)
    let fenced := ms.filter raises
    let role := s.conf.role
    let siteGone (x : Nat) : Bool := !(ms.any fun m => m.site = x ∧ m.state = meMember)
    let roleGone (x : Nat) : Bool := ms.any fun m => m.site = x ∧ m.role = role ∧ m.state = meRemoved
    let lost := ((s.colEntries.flatMap s.entrySites).dedup).filter fun x => siteGone x || roleGone x
    let changed := (fenced.filter fun m => m.state = meMember).map Member.site
    let s1 : State := { s with peer := { s.peer with
      members := ms
      fences := fenced.foldl (fun t m => tput (memberKey m.site m.role) epoch t) s.peer.fences } }
    let s2 := (s1.setf F.PEER_EPOCH_EPOCH epoch).event F.PEER_FAULT_EVENTS_MEMBERSHIP
    let own := ms.find? fun m => m.site = s.conf.site ∧ m.role = role
    let bad := match own with
      | some m => decide (m.state = meRemoved) || decide (m.device ≠ s.f F.GLB_DEVICE_DEVICE)
      | none => false
    if bad then (.done, (s2.fenceSelf.reform lost changed epoch).syncMeridian)
    else
      let s3 : State := { s2 with peer := { s2.peer with selfFenced := if own.isSome then false else s2.peer.selfFenced } }
      let each (s : State) (n : Nat) : State :=
        let hit := fenced.find? fun m => m.site = s.peerSite n ∧ m.role = s.peerRole n
        match hit with
        | some m =>
          let s1 := s.fencePeer n (m.state = meRemoved) (siteGone m.site)
          if m.state = meMember ∧ s.imageActive then s1.reopen n else s1
        | none =>
          let w := s.watch n
          let named := ms.any fun m => m.site = s.peerSite n ∧ m.role = s.peerRole n ∧ m.state = meMember
          let s1 := if w.state = mbFenced ∧ named then s.setWatch n { w with state := mbAlive, heardAt := s.now } else s
          if named ∧ s.imageActive then s1.reopen n else s1
      let s4 := s3.declared.foldl each (s3.reform lost changed epoch)
      let s5 := s4.declared.foldl (fun (s : State) n =>
        if s.f F.PEER_SESSn_STATE_EPOCH_WAIT n = 1 ∧ 0 < (s.sess n).waitFor ∧ (s.sess n).waitFor ≤ epoch then s.endEpochWait n else s) s4
      let live := s5.declared.filter fun n => s5.sessState n = ssOpen ∨ s5.sessState n = ssResync
      (.done, (live.foldl State.sendEpoch s5).syncMeridian)

end Sys2Proof.Machine
end

