-- ==== Sys2Proof/Machine/Recon.lean ====
section
/-! DEFINITION. Reconnection: HORIZON and RECONCILE (R333, R371 to R380), the reserve as yielder (R360). -/

namespace Sys2Proof.Machine

/-- PEER_RECON.STATE. -/
def rcHorizon : Nat := 1
def rcDelta : Nat := 2
def rcApplied : Nat := 3
def rcFailed : Nat := 4

/-- Journal record kinds (R364). -/
def jIsland : Nat := 1
def jApplied : Nat := 2
def jBook : Nat := 3

def State.setRecon (s : State) (r : Option Recon) : State := { s with peer := { s.peer with recon := r } }

/-- Journal records of a kind in ascending order of STEP, STREAM and BLOCK0 (R371). -/
def State.journalOf (s : State) (kind : Nat) : List JRec :=
  (s.peer.journal.filter fun r => r.kind = kind).mergeSort fun a b =>
    decide (a.step < b.step) || (decide (a.step = b.step) && (decide (a.stream < b.stream) ||
      (decide (a.stream = b.stream) && decide (a.block0 ≤ b.block0))))

/-- FIRST_ISLAND (R371). -/
def State.firstIsland (s : State) : Nat :=
  match ((s.peer.released.filter fun r => r.2).map Prod.fst).min? with
  | some k => k
  | none => s.f F.SEQ_MERIDIAN_STEP + s.f F.PEER_ISLAND_RELEASED + 1

/-- The last released step (R380). -/
def State.lastReleased (s : State) : Nat := s.f F.SEQ_MERIDIAN_STEP + s.f F.PEER_ISLAND_RELEASED

/-- The body of HORIZON (R333, R371). -/
def State.horizonBody (s : State) : List Byte :=
  beBytes 8 (s.f F.SEQ_MERIDIAN_STEP) ++ beBytes 8 s.firstIsland ++ beBytes 1 (s.f F.PEER_ISLAND_RELEASED) ++ beBytes 1 s.conf.site
    ++ beBytes 6 0 ++ byts (sha256 (nats ((s.journalOf jIsland).flatMap s.readRecord)))

/-- A session enters RESYNC (R327, R371); `yielder` is the site that R360 makes the yielder. -/
def State.enterResync (s : State) (n : Nat) (yielder : Option Nat) : State :=
  let r : Recon := { session := n, common := 0, peerThrough := 0, peerLast := 0, yielder := yielder.getD 0xFF, ownLast := s.lastReleased
                     outBlocks := [], inBlocks := [], ownSent := false, peerSent := none, peerApplied := false }
  let s1 := ((((s.setSessState n ssResync).setRecon (some r)).setf F.PEER_RECON_STATE rcHorizon).setf F.PEER_RECON_SESSION n).setf
    F.PEER_RECON_YIELDER r.yielder
  s1.sendData n (s1.plainHead kHorizon) 0 s1.horizonBody

/-- The body of RECONCILE (R333). -/
def reconcileBody (r : Recon) (phase : Nat) : List Byte :=
  let g := cblockCount r.outBlocks
  beBytes 8 r.common ++ beBytes 1 (if r.yielder = 0xFF then 1 else 2) ++ beBytes 1 r.yielder ++ beBytes 1 phase ++ beBytes 5 0
    ++ beBytes 8 (if phase = 2 then g else 0) ++ (if phase = 2 then byts (sha256 (nats r.outBlocks)) else beBytes 32 0)
where
  /-- Cblocks laid end to end, by the size that each one's rate gives (R183). -/
  cblockCount (bs : List Byte) : Nat := walk (bs.length / 72 + 1) bs
  walk : Nat → List Byte → Nat
    | 0, _ => 0
    | fuel + 1, bs =>
      let size := cblockSize (cbHeadOf bs).rate
      if bs.length < 8 ∨ size = 0 ∨ bs.length < size then 0 else 1 + walk fuel (bs.drop size)

/-- A block of the correction marked so that it may leave in RESYNC (R379). -/
def State.markCorr (s : State) (n : Nat) : State :=
  let q := (s.f F.PEER_SESSn_TX_NEXT n + 2 ^ 32 - 1) % 2 ^ 32
  (s.updSess n fun x => { x with tx := lmodify (fun t => decide (t.dseq = q)) (fun t => { t with corr := true }) x.tx }).pumpTx n

/-- Cblocks of a stream sent as correction DATA (R277, R377). -/
def State.sendCorr (s : State) (n stream step chunk : Nat) (cbs : List Byte) : State :=
  let parts := lineBlocks cbs.length
  let h (i : Nat) : Head :=
    { s.plainHead kData with cls := 4, step := step % 2 ^ 32, stream := (s.ctx stream).peerStream, chunk := chunk, part := i, parts := parts }
  let s1 := (List.range parts).foldl (fun (s : State) i => (s.sendData n (h i) stream ((cbs.drop (8192 * i)).take 8192)).markCorr n) s
  match s1.peer.recon with
  | some r => s1.setRecon (some { r with outBlocks := r.outBlocks ++ cbs })
  | none => s1

/-- A codebook body sent ahead of correction blocks (R373, R374). -/
def State.sendCorrBook (s : State) (n stream step : Nat) (body : List Byte) : State :=
  (s.sendData n { s.plainHead kCodebook with step := step % 2 ^ 32, stream := (s.ctx stream).peerStream } stream body).markCorr n

/-- The codebook records that a journal record names, still to be sent. -/
def State.recordBooks (s : State) (r : JRec) : List JRec :=
  let size := cblockSize (s.seg (s.ctx r.stream)).rate
  let bs := (s.readRecord r).drop 64
  let gens := (chunks size (bs.length / size) bs).map fun c => (cbHeadOf c).gen
  (s.journalOf jBook).filter fun b => b.stream = r.stream ∧ b.book ∈ gens

/-- The correction of MERGE (R373): ISLAND_SUM records of steps above the peer's through step. -/
def State.sendMerge (s : State) (n above : Nat) : State :=
  let rs := (s.journalOf jIsland).filter fun r => above < r.step
  let books := (rs.flatMap s.recordBooks).dedup
  let s1 := books.foldl (fun (s : State) b => s.sendCorrBook n b.stream b.step ((s.readRecord b).drop 64)) s
  rs.zipIdx.foldl (fun (s : State) (ri : JRec × Nat) => s.sendCorr n ri.1.stream ri.1.step ri.2 ((s.readRecord ri.1).drop 64)) s1

/-- The values that cblocks decode to, added exactly per element (R373, R374). -/
def State.sumBlocks (s : State) (g : Seg) (bs : List Byte) : Tab Val :=
  let size := cblockSize g.rate
  let f := (fmtOf g.outFmt).getD .fp32
  (chunks size (bs.length / size) bs).foldl (fun t cb =>
    let h := cbHeadOf cb
    (cblockCodes g (s.bookLevels g.cbSlot h.gen) h (cb.drop 8) 256).zipIdx.foldl (fun (t : Tab Val) (ci : Nat × Nat) =>
      let e := 256 * h.block + ci.2
      tput e (((tfind e t).getD (.fin false Dy.zero)).add (f.decode ci.1)) t) t) []

/-- Sums over a segment rounded once into a format, element by element. -/
def sumBytes (f : Fmt) (elems : Nat) (t : Tab Val) : List Byte :=
  encodeCodes f ((List.range elems).map fun e => f.encodeVal ((tfind e t).getD (.fin false Dy.zero)))

/-- The previous generation of a slot goes for a correction's codebook; items that had latched it keep it (R217; log entry 98). -/
def State.displaceBook (s : State) (slot : Nat) : State :=
  match s.prevBook slot with
  | none => s
  | some old =>
    let s1 : State := if 0 < s.bookPins slot old.gen then { s with cmp := { s.cmp with displaced := s.cmp.displaced ++ [(slot, old)] } } else s
    s1.retireBook slot old.gen

/-- Values of a segment encoded with a codebook fitted to them (R202, R203, R374): the codebook installed and sent, then the
cblocks. A stream with a fixed codebook uses that one, which is not sent (R208). -/
def State.sendFitted (s : State) (n stream step chunk : Nat) (vals : List Val) : State :=
  let g := s.seg (s.ctx stream)
  let nb := (vals.length + 255) / 256
  let blks := (List.range nb).map fun b => (vals.drop (256 * b)).take 256
  let fit := fitBook g.rate (blks.flatMap blockBins)
  let gen := if g.fixedCb then 0 else match s.curBook g.cbSlot with | some b => (b.gen + 1) % 256 | none => 1
  let s1 := if g.fixedCb then s else
    (s.displaceBook g.cbSlot).installBook g.cbSlot { gen := gen, rate := g.rate, lim := fit.1, step := step, levels := fit.2 } false
  match s1.bookOf g.cbSlot gen with
  | some b =>
    let cbs := blks.zipIdx.flatMap fun (x, i) => (encodeBlock g b i x).bytes
    (if g.fixedCb then s1 else s1.sendCorrBook n stream step b.body.bytes).sendCorr n stream step chunk cbs
  | none => s1

/-- The sending streams of weight deltas toward a session. -/
def State.deltaStreams (s : State) (n : Nat) : List Nat :=
  (s.mem.ctx.filter fun kv => kv.2.valid && kv.2.send && kv.2.segment && decide (kv.2.session = n) && decide ((s.seg kv.2).kind = 1)).map Prod.fst

/-- The correction of YIELD from the site that does not yield (R360, R374): the sum of its APPLIED records of steps above M,
or, toward a gateway that opened with NEW, its full weights against a zero base. -/
def State.sendYield (s : State) (n common : Nat) (full : Bool) : State :=
  let m := s.f F.SEQ_MERIDIAN_STEP
  (s.deltaStreams n).zipIdx.foldl (fun (s : State) (ki : Nat × Nat) =>
    let g := s.seg (s.ctx ki.1)
    let vals : List Val :=
      if full then (List.range g.elems).map fun e => s.regionElem g.inFmt (if g.hasRecon then g.recon else g.base) e
      else
        let bs := ((s.journalOf jApplied).filter fun r => decide (r.stream = ki.1) && decide (common < r.step)).flatMap fun r => (s.readRecord r).drop 64
        let t := s.sumBlocks g bs
        (List.range g.elems).map fun e => ((tfind e t).getD (.fin false Dy.zero)).round .fp32
    s.sendFitted n ki.1 m ki.2 vals) s

/-- Decoded correction blocks, stream by stream in the order of their first block: stream, cblocks in send order. -/
def Recon.byStream (r : Recon) : List (Nat × List Byte) :=
  let l := r.inBlocks.mergeSort fun a b => !newer a.1 b.1
  ((l.map fun b => b.2.1).dedup).map fun st => (st, (l.filter fun b => b.2.1 = st).flatMap fun b => b.2.2)

/-- The correction written to the fabric over the streams' result circuits (R373, R374). -/
def State.applyCorrection (s : State) (r : Recon) : State :=
  let mine (st : Nat) (bs : List Byte) (s : State) : State :=
    let g := s.seg (s.ctx st)
    let f := (fmtOf g.outFmt).getD .fp32
    let body := sumBytes f g.elems (s.sumBlocks g bs)
    s.emit (.circuit (s.ctx st).circuit (if r.yielder = 0xFF then body else leBytes 8 r.common ++ body))
  let s1 := r.byStream.foldl (fun (s : State) (kb : Nat × List Byte) => mine kb.1 kb.2 s) s
  if r.yielder ≠ 0xFF ∧ r.yielder ≠ s.conf.site then
    (s1.deltaStreams r.session).foldl (fun (s : State) st =>
      match s.curBook (s.seg (s.ctx st)).cbSlot with
      | some b => mine st (ownBlocks (s.seg (s.ctx st)) b.gen r.outBlocks) s
      | none => s) s1
  else s1
where
  /-- The cblocks of this gateway's own correction that name a generation of this rate. -/
  ownBlocks (g : Seg) (gen : Nat) (bs : List Byte) : List Byte :=
    let size := cblockSize g.rate
    ((chunks size (bs.length / size) bs).filter fun cb => decide ((cbHeadOf cb).gen = gen)).flatten

/-- Reconciliation finished (R380): the session opens at the reconciliation step. -/
def State.finishRecon (s : State) (r : Recon) : State :=
  let rs := max r.ownLast r.peerLast
  let lost :=
    if r.yielder = 0xFF then 0
    else if r.yielder = s.conf.site then r.ownLast - r.peerThrough
    else r.peerLast - (s.firstIsland - 1)
  let s1 := s.endWhere (fun it => decide (r.common < it.step) && it.adhoc.isNone) .failedLink
  let s2 := (((s1.setf F.SEQ_MERIDIAN_STEP rs).clearTokens).startTracks (rs + 1)).ownView
  let s3 : State := { s2 with peer := { s2.peer with journal := [], released := [], recon := none } }
  let s4 := (((s3.syncJournal).syncIsland).setf F.PEER_RECON_STATE 0).setf F.PEER_RECON_LOST lost
  let s5 := (s4.countEv F.PEER_RECONCILES_COUNT F.PEER_FAULT_EVENTS_RECONCILED).forgetSteps rs
  s5.enterOpen r.session (some r.common)

/-- The states of R379 driven on: a mismatch fails at once, a match is applied once the own correction has been sent, and the
peer's 0x03 finishes. -/
def State.driveRecon (s : State) : State :=
  match s.peer.recon with
  | none => s
  | some r =>
    if s.f F.PEER_RECON_STATE = rcApplied then (if r.peerApplied then s.finishRecon r else s)
    else if s.f F.PEER_RECON_STATE ≠ rcDelta then s
    else match r.peerSent with
    | none => s
    | some (count, digest) =>
      let bs := (r.inBlocks.mergeSort fun a b => !newer a.1 b.1).flatMap fun b => b.2.2
      let got := reconcileBody.cblockCount bs
      if got < count then s
      else if got ≠ count ∨ beNat (byts (sha256 (nats bs))) ≠ digest then
        let s1 := ((List.range 16).foldl State.haltTrack s).setf F.PEER_RECON_STATE rcFailed
        s1.event F.PEER_FAULT_EVENTS_RECON_FAIL
      else if !r.ownSent then s
      else
        let s1 := (s.applyCorrection r).setf F.PEER_RECON_STATE rcApplied
        let s2 := s1.sendData r.session (s1.plainHead kReconcile) 0 (reconcileBody r 3)
        if r.peerApplied then s2.finishRecon r else s2

/-- The site that yields under this gateway's policy (R374): the higher rank, the higher site among equals. -/
def State.yielderOf (s : State) (n : Nat) : Nat :=
  let p := s.peerSite n
  let a := s.f F.PEER_FAULT_CFG_YIELD_RANK
  let b := (tfind p s.conf.ranks).getD 0
  if a < b ∨ (a = b ∧ s.conf.site < p) then p else s.conf.site

/-- A HORIZON (R372 to R374, R379). A gateway that opened with NEW meets it in OPEN and yields (R360);
one that has not yet left ECLIPSE leaves it (log entry 24). -/
def State.takeHorizon (s : State) (n : Nat) (body : List Byte) : State :=
  let last := hdrAt body 0 8
  let first := hdrAt body 8 8
  let isl := hdrAt body 16 1
  let s0 := if s.sessState n = ssOpen then s.enterResync n (some s.conf.site) else if s.sessState n = ssEclipse then s.enterResync n none else s
  match s0.peer.recon with
  | none => s0
  | some r =>
    if r.session ≠ n ∨ s0.f F.PEER_RECON_STATE ≠ rcHorizon then s0
    else
      let common := min (s0.firstIsland - 1) (first - 1)
      let m := s0.f F.SEQ_MERIDIAN_STEP
      let s1 := (List.range (common - m)).foldl (fun (s : State) i => s.reachMeridian (m + 1 + i)) s0
      if s1.exact then ((s1.setRecon none).setf F.PEER_RECON_STATE 0).enterOpen n none
      else
        let y := if r.yielder ≠ 0xFF then r.yielder else if s1.f F.PEER_FAULT_CFG_POLICY = 2 then s1.yielderOf n else 0xFF
        let r1 : Recon := { r with common := common, peerThrough := first - 1, peerLast := last + isl, yielder := y }
        let s2 := ((s1.setRecon (some r1)).setf F.PEER_RECON_STATE rcDelta).setf F.PEER_RECON_YIELDER y
        let s3 := s2.sendData n (s2.plainHead kReconcile) 0 (reconcileBody r1 1)
        if y = 0xFF then s3.sendMerge n (first - 1)
        else if y = s.conf.site then s3
        else s3.sendYield n common (decide (r.yielder ≠ 0xFF))

/-- A RECONCILE (R376, R379, R380). -/
def State.takeReconcile (s : State) (n : Nat) (body : List Byte) : State :=
  match s.peer.recon with
  | none => s
  | some r =>
    if r.session ≠ n then s
    else
      let ph := hdrAt body 10 1
      let r1 : Recon :=
        if ph = 2 then { r with peerSent := some (hdrAt body 16 8, hdrAt body 24 32) }
        else if ph = 3 then { r with peerApplied := true }
        else r
      (s.setRecon (some r1)).driveRecon

/-- A correction block (R377). -/
def State.takeCorrection (s : State) (dseq stream : Nat) (pl : List Byte) : State :=
  match s.peer.recon with
  | none => s
  | some r => (s.setRecon (some { r with inBlocks := r.inBlocks ++ [(dseq, stream, pl)] })).driveRecon

/-- CORRECTION_SENT (R376, R379): the last correction block has left, and RECONCILE 0x02 follows. -/
def execCorrectionSent (n : Nat) (s : State) : Host.Outcome State Fault Refusal :=
  match s.peer.recon with
  | none => .next s
  | some r =>
    let waits := (s.sess n).tx.any fun b => b.corr && (decide (b.phase = TxPhase.waiting) || decide (b.phase = TxPhase.queued))
    if r.session ≠ n ∨ s.f F.PEER_RECON_STATE ≠ rcDelta ∨ r.ownSent = true ∨ waits = true then .next s
    else
      let s1 := s.setRecon (some { r with ownSent := true })
      .next ((s1.sendData n (s1.plainHead kReconcile) 0 (reconcileBody r 2)).driveRecon)

end Sys2Proof.Machine
end

