-- ==== Sys2Proof/Machine/Receive.lean ====
section
/-! DEFINITION. The receiving side of a session: the checks of R280 with the epoch and fencing rules (R56, R57, R328, R329,
R351 to R353, R758), the acceptance span (R282, R287), acceptance and acknowledgement (R291 to R294), and what becomes of an
accepted block of each kind. -/

namespace Sys2Proof.Machine

/-! ### Checks -/

/-- What the checks of R280 say of a block that passes them. -/
structure Arrival where
  session : Nat
  /-- Route and port on which it came. -/
  route : Nat
  port : Nat
  blk : LineBlk
  payload : List Byte
  deriving DecidableEq, Repr

/-- Whether a payload length fits a block's kind (check 2). -/
def lengthFits (kind : Nat) (abandon : Bool) (n : Nat) : Bool :=
  if kind = kData then (if abandon then decide (4 ≤ n) && decide (n ≤ 68) && decide (n % 8 = 4) else decide (n ≤ 8192))
  else if kind = kHello then n = 48
  else if kind = kAck then decide (16 ≤ n) && decide (n ≤ 96) && decide (n % 4 = 0)
  else if kind = kNak then decide (12 ≤ n) && decide (n ≤ 68) && decide (n % 8 = 4)
  else if kind = kProbe then n = 32
  else if kind = kCodebook then [20, 24, 32, 80, 272].contains n
  else if kind = kStepReady ∨ kind = kStepCommit then n = 16
  else if kind = kEpoch then n = 48
  else n = 56

/-- Check 2 of R280. -/
def State.formOk (s : State) (b : LineBlk) : Bool :=
  decide (hdrAt b.head 0 1 / 16 = 1) && decide (1 ≤ b.kind) && decide (b.kind ≤ kReconcile) && decide (b.flags < 8) && decide (b.cls ≤ 5)
    && decide (hdrAt b.head 3 1 < 16) && decide (hdrAt b.head 20 4 < 2 ^ 21) && decide (b.session < 32)
    && lengthFits b.kind (b.flags.testBit 1) b.payload.length && s.declared.contains b.session

/-- Check 1 of R280: the block is whole and its CRC-32C is right. -/
def crcOk (bs : List Byte) (b : LineBlk) : Bool :=
  decide (bs.length = b.len) && decide (32 ≤ bs.length) && decide (beNat b.crc = crc32c (nats (b.head ++ b.payload ++ b.tag)))

/-- A 32-bit wire value extended to the 64-bit value nearest one's own, when it lies inside the window (R56, R57). -/
def extend32 (own low : Nat) : Option Nat :=
  let d := (low + 2 ^ 32 - own % 2 ^ 32) % 2 ^ 32
  if d = 2 ^ 31 then none
  else if d < 2 ^ 31 then some (own + d)
  else if own + d < 2 ^ 32 then none
  else some (own + d - 2 ^ 32)

/-- Check 5 of R280: the state when it discards the block, or none. -/
def State.epochStop (s : State) (n : Nat) (b : LineBlk) : Option State :=
  let own := s.f F.PEER_EPOCH_EPOCH
  let fenced (s : State) : State := (s.countEv F.PEER_FENCED_COUNT F.PEER_FAULT_EVENTS_FENCED_RX).answerEpoch n
  if s.peerRemoved n then some (fenced s)
  else if s.sessState n = ssIdle then some (s.count F.PEER_PROTO_ERR_COUNT)
  else match extend32 own b.epoch with
  | none => some (s.count F.PEER_PROTO_ERR_COUNT)
  | some e =>
    if e < s.fence (s.peerSite n) (s.peerRole n) then some (fenced s)
    else if own < e ∧ b.kind ≠ kEpoch then some (((s.count F.PEER_EPOCH_AHEAD_COUNT).event F.PEER_EVENTS_EPOCH_AHEAD).answerEpoch n)
    else if !b.flags.testBit 0 && (extend32 (s.f F.SEQ_MERIDIAN_STEP) b.step).isNone then some (s.count F.PEER_PROTO_ERR_COUNT)
    else none

/-- Where a data sequence stands to the receiver (R287). -/
inductive SeqPlace where
  | fresh | wanted | taken | outside
  deriving DecidableEq, Repr

/-- V of R287; the window of sequence numbers is at most 2^29 (R55, R58). -/
def State.span (s : State) (n : Nat) : Nat := min (2 ^ 29) (((s.sess n).peerWindow).getD (s.wmax n 0 + s.wmax n 1))

def State.seqPlace (s : State) (n q : Nat) : SeqPlace :=
  let x := s.sess n
  let d := (q + 2 ^ 32 - s.f F.PEER_SESSn_RX_CUM n) % 2 ^ 32
  if d < s.span n then (if x.rxAbove.any fun a => a.1 = q then .taken else .fresh)
  else if 2 ^ 32 - s.span n ≤ d then (if x.rxWanted.contains q then .wanted else .taken)
  else .outside

/-- Where a control sequence stands (R282). -/
def State.ctlPlace (s : State) (n q : Nat) : SeqPlace :=
  let x := s.sess n
  match x.rxCtlHigh with
  | none => .fresh
  | some h =>
    if newer q h then .fresh
    else if (h + 2 ^ 32 - q) % 2 ^ 32 ≤ 1024 then (if q = h ∨ x.rxCtlSeen.contains q then .taken else .fresh)
    else .outside

/-- A control sequence accepted (R282). -/
def State.takeCtl (s : State) (n q : Nat) : State :=
  s.updSess n fun x =>
    match x.rxCtlHigh with
    | none => { x with rxCtlHigh := some q, rxCtlSeen := [q] }
    | some h =>
      let h1 := if newer q h then q else h
      { x with rxCtlHigh := some h1, rxCtlSeen := q :: x.rxCtlSeen.filter fun k => decide ((h1 + 2 ^ 32 - k) % 2 ^ 32 ≤ 1024) }

/-- Ranges of the sequences accepted above the cumulative point (R293): the lowest eight. -/
def State.sackRanges (s : State) (n : Nat) : List (Nat × Nat) :=
  let l := (s.sess n).rxAbove.map Prod.fst
  (seqRanges (l.mergeSort fun a b => !newer a b)).take 8

/-- An ACK sent (R291, R293, R294). -/
def State.sendAck (s : State) (n : Nat) : State :=
  let rs := s.ackRoutes n
  if rs.isEmpty || (s.txGen n).isNone then s
  else
    let sack := s.sackRanges n
    let cb := (s.sess n).cbAcks.take 4
    let body := beBytes 4 (s.f F.PEER_SESSn_RX_CUM n) ++ beBytes 4 (s.wmax n 0 + s.wmax n 1) ++ beBytes 1 sack.length ++ beBytes 1 cb.length
      ++ beBytes 6 0 ++ rangeBytes sack ++ cb.flatMap fun c => beBytes 4 (c.1 * 256 + c.2.1)
    let spent (l : List (Nat × Nat × Nat)) : List (Nat × Nat × Nat) :=
      ((l.take 4).filterMap fun c => if c.2.2 ≤ 1 then none else some (c.1, c.2.1, c.2.2 - 1)) ++ l.drop 4
    (s.sendCtl n kAck body rs).updSess n fun x => { x with cbAcks := spent x.cbAcks, ackCount := 0, ackFirst := none }

/-- Checks 1 to 7 of R280 on a block from a line port: what passed, and the state with what the checks counted and sent. -/
def State.screen (s : State) (port : Nat) (bs : List Byte) : Option Arrival × State :=
  let b := lineBlk bs
  let r := port / 8
  let n := b.session
  if !crcOk bs b then (none, s.count F.PEER_CRC_ERR_COUNT)
  else if !s.formOk b then (none, s.count F.PEER_PROTO_ERR_COUNT)
  else
    let slot := s.f F.PEER_SESSn_RX_SLOT_SLOT n
    match (if b.slot = slot then s.liveGen slot b.gen else none) with
    | none => (none, s.count F.PEER_KEY_UNKNOWN_COUNT)
    | some g =>
      match s.openBlk n g b with
      | none =>
        let s1 := s.count F.PEER_SESSn_TAG_FAIL_COUNT 1 n
        (none, if dataSpace b.kind then (s1.tagResult n slot b.gen false).sendNak n 1 [b.seq] else s1)
      | some pl =>
        let s1 := if dataSpace b.kind then s.tagResult n slot b.gen true else s
        match s1.epochStop n b with
        | some t => (none, t)
        | none =>
          let s2 := (s1.heard n r).heardCurrent n
          let a : Arrival := { session := n, route := r, port := port, blk := b, payload := pl }
          if b.kind = kHello then (some a, s2.takeCtl n b.seq)
          else
            match (if dataSpace b.kind then s2.seqPlace n b.seq else s2.ctlPlace n b.seq) with
            | .outside => (none, s2.count F.PEER_OUT_WINDOW_COUNT)
            | .taken =>
              let s3 := s2.count F.PEER_DUP_COUNT
              (none, if dataSpace b.kind then s3.sendAck n else s3)
            | _ => (some a, if dataSpace b.kind then s2 else s2.takeCtl n b.seq)

/-! ### Acceptance -/

/-- The cumulative point moved past what has been accepted in order. -/
def Sess.advance (x : Sess) : Nat → Nat → Nat × Sess
  | 0, cum => (cum, x)
  | fuel + 1, cum =>
    if x.rxAbove.any fun a => a.1 = cum then
      ({ x with rxAbove := x.rxAbove.filter fun a => a.1 ≠ cum, naked := x.naked.filter fun a => a.1 ≠ cum } : Sess).advance fuel ((cum + 1) % 2 ^ 32)
    else (cum, x)

/-- Sequences taken in for the cumulative point (R293, R304). -/
def State.takeSeqs (s : State) (n r : Nat) (qs : List Nat) : State :=
  let fresh := qs.filter fun q => s.seqPlace n q = SeqPlace.fresh
  let x : Sess := { (s.sess n) with
    rxAbove := (s.sess n).rxAbove ++ fresh.map fun q => (q, r, s.now)
    rxWanted := (s.sess n).rxWanted.filter fun q => !qs.contains q }
  let a := x.advance (x.rxAbove.length) (s.f F.PEER_SESSn_RX_CUM n)
  let high := fresh.foldl (fun h q => if newer q h then q else h) (s.f F.PEER_SESSn_RX_HIGH n)
  ((s.updSess n fun _ => a.2).setf F.PEER_SESSn_RX_CUM a.1 n).setf F.PEER_SESSn_RX_HIGH high n

/-- The first acceptance under a newer generation noted (R531). -/
def State.noteGen (s : State) (n : Nat) (b : LineBlk) : State :=
  let slot := s.f F.PEER_SESSn_RX_SLOT_SLOT n
  s.updGen slot b.gen fun g =>
    { g with firstUse := some (g.firstUse.getD s.now)
             lowSeq := some (match g.lowSeq with | some q => if newer q b.seq then b.seq else q | none => b.seq) }

/-- A data-space block accepted (check 8, R291, R292). -/
def State.accept (s : State) (a : Arrival) : State :=
  let n := a.session
  let s1 := ((s.takeSeqs n a.route [a.blk.seq]).noteGen n a.blk).count F.PEER_SESSn_RECEIVED_COUNT 1 n
  s1.updSess n fun x => { x with ackCount := x.ackCount + 1, ackFirst := some (x.ackFirst.getD s.now) }

/-! ### DATA -/

/-- The step of a block as the gateway keeps it: the extended 64-bit number (R57), or the low half of an ad hoc ID. -/
def State.stepOf (s : State) (b : LineBlk) : Nat :=
  if b.flags.testBit 0 then b.step else (extend32 (s.f F.SEQ_MERIDIAN_STEP) b.step).getD b.step

/-- A part put in the chunk or message it belongs to (R249, R320). -/
def State.landPart (s : State) (a : Arrival) (bytes : List Byte) : State :=
  let b := a.blk
  let ad := b.flags.testBit 0
  let hit (c : RxChunk) : Bool := decide (c.session = a.session ∧ c.stream = b.stream ∧ c.step = s.stepOf b ∧ c.chunk = b.chunk) && (c.adhoc == ad)
  let c0 : RxChunk := { session := a.session, stream := b.stream, step := s.stepOf b, chunk := b.chunk, parts := b.parts, adhoc := ad, got := [], failed := false }
  let add (c : RxChunk) : RxChunk :=
    if c.got.any fun g => g.1 = b.part then c else { c with parts := b.parts, got := c.got ++ [(b.part, b.seq, bytes)] }
  let rx := if s.peer.rx.any hit then lmodify hit add s.peer.rx else s.peer.rx ++ [add c0]
  { s with peer := { s.peer with rx := rx } }

/-- The complete messages of a class C3 stream delivered in CHUNK order (R320). -/
def State.deliverC3 (s : State) (n stream : Nat) : Nat → State
  | 0 => s
  | fuel + 1 =>
    let k := (s.ctx stream).rxNext.toNat
    match s.peer.rx.find? fun c => decide (c.session = n ∧ c.stream = stream ∧ c.chunk = k) && c.complete with
    | none => s
    | some c =>
      let s1 : State := { s with peer := { s.peer with rx := s.peer.rx.erase c } }
      let s2 := s1.setCtx stream { (s1.ctx stream) with rxNext := (s1.ctx stream).rxNext + 1 }
      (s2.deliverMessage stream c.bytes).deliverC3 n stream fuel

/-- A fresh copy of a line block for the OPEN or DECODE that asked for it (R230, R544). -/
def State.applyFresh (s : State) (a : Arrival) (bytes : List Byte) : State :=
  let q := a.blk.seq
  let n := a.session
  let mine (r : Nat × Nat × List Nat) : Bool := decide (r.2.1 = n) && r.2.2.contains q
  let one (s : State) (r : Nat × Nat × List Nat) : State :=
    if !mine r then s
    else match s.item r.1 with
    | none => s
    | some it =>
      if rowOpcode it.row = opOpen then
        let d := rowSrc it.row
        let bl := s.blocksOf d
        match (bl.zipIdx.find? fun (x, _) => x.seq = q) with
        | some (_, i) => s.wrBytes d.tier (d.addr + ((bl.take i).map LineBlk.len).sum) bytes
        | none => s
      else match s.cmp.opens.find? fun o => o.session = n ∧ o.dseq = q with
        | some o => s.wrBytes o.tier o.addr a.payload
        | none => s
  let s1 := s.cmp.refetch.foldl one s
  let left := (s1.cmp.refetch.map fun r => if mine r then (r.1, r.2.1, r.2.2.filter (· ≠ q)) else r).filter fun r => !r.2.2.isEmpty
  { s1 with cmp := { s1.cmp with refetch := left } }

/-- MiB that the parked blocks take (COL_PARK.USED). -/
def parkedMib (ps : List Parked) : Nat := ((ps.map fun p => p.bytes.length).sum + 2 ^ 20 - 1) / 2 ^ 20

/-- A block of an ad hoc instance that has not been admitted parked, or not accepted while the area is full (R261, R262). -/
def State.park (s : State) (a : Arrival) (bytes : List Byte) : Bool × State :=
  if s.f F.COL_PARK_LIMIT * 2 ^ 20 < (s.col.parked.map fun p => p.bytes.length).sum + bytes.length then (false, s.event F.COL_EVENTS_PARK_FULL)
  else
    let p : Parked := { id := a.blk.step, session := a.session, stream := a.blk.stream, dseq := a.blk.seq, bytes := bytes, at_ := s.now }
    let s1 : State := { s with col := { s.col with parked := s.col.parked ++ [p] } }
    (true, (s1.setf F.COL_PARK_USED (parkedMib s1.col.parked)).count F.COL_PARKED_COUNT)

/-- An ad hoc instance of a wire ID that has been admitted. -/
def State.admitted (s : State) (low : Nat) : Bool := s.col.running.any fun i => i.id % 2 ^ 32 = low

/-- A DATA block put where it belongs: whether it is accepted (R292), and the state. -/
def State.takeData (s : State) (a : Arrival) (bytes : List Byte) : Bool × State :=
  let b := a.blk
  if s.seqPlace a.session b.seq = SeqPlace.wanted then (true, s.applyFresh a bytes)
  else if b.cls = 1 ∧ b.stream = timeStream then (true, s.timePayload a.session a.payload)
  else if b.cls = 3 then
    let s1 := s.landPart a a.payload
    (true, s1.deliverC3 a.session b.stream (s1.peer.rx.length + 1))
  else if b.cls = 4 ∧ s.sessState a.session = ssResync then (true, s.takeCorrection b.seq b.stream a.payload)
  else if b.flags.testBit 0 ∧ !s.admitted b.step then s.park a bytes
  else (true, s.landPart a bytes)

/-- A data block accepted when it was taken. -/
def State.acceptTaken (a : Arrival) (r : Bool × State) : State := if r.1 then r.2.accept a else r.2

/-! ### Abandonments -/

/-- The ranges of a NAK or abandonment body, from the number of them and offset 4. -/
def bodyRanges (body : List Byte) (n : Nat) : List (Nat × Nat) := (List.range n).map fun i => (hdrAt body (4 + 8 * i) 4, hdrAt body (8 + 8 * i) 4)

/-- Whether a sequence lies in a range, by serial arithmetic. -/
def inRange (q : Nat) (r : Nat × Nat) : Bool := decide ((q + 2 ^ 32 - r.1) % 2 ^ 32 ≤ (r.2 + 2 ^ 32 - r.1) % 2 ^ 32)

/-- The sequences of a range that the receiver has yet to accept. -/
def State.newIn (s : State) (n : Nat) (r : Nat × Nat) : List Nat :=
  let len := min ((r.2 + 2 ^ 32 - r.1) % 2 ^ 32 + 1) (2 * s.span n)
  ((List.range len).map fun i => (r.1 + i) % 2 ^ 32).filter fun q => s.seqPlace n q = SeqPlace.fresh

/-- The items whose re-request named abandoned sequences end (R230, R304, R544). -/
def State.failRefetch (s : State) (n : Nat) (rs : List (Nat × Nat)) : State :=
  let hit := s.cmp.refetch.filter fun r => decide (r.2.1 = n) && r.2.2.any fun q => rs.any fun x => inRange q x
  let one (s : State) (r : Nat × Nat × List Nat) : State :=
    match s.item r.1 with
    | some it => if rowOpcode it.row = opOpen then s.endItem r.1 .failedTag else (s.cmpFail it .failedLength 0 0 0).endItem r.1 .failedLength
    | none => s
  (hit.foldl one s).updSess n fun x => { x with rxWanted := x.rxWanted.filter fun q => !(rs.any fun y => inRange q y) }

/-- An abandonment taken in (R303, R304). -/
def State.takeAbandon (s : State) (a : Arrival) : State :=
  let n := a.session
  let b := a.blk
  let reason := hdrAt a.payload 0 1
  let rs := bodyRanges a.payload (hdrAt a.payload 1 1)
  let s1 := (((s.event F.PEER_EVENTS_ABANDON).setf F.PEER_SESSn_LAST_ABANDON_STREAM b.stream n).setf F.PEER_SESSn_LAST_ABANDON_REASON reason n).setf
    F.PEER_SESSn_LAST_ABANDON_CHUNK b.chunk n
  if reason = 1 then
    let new := (rs.flatMap (s1.newIn n)).dedup
    let s2 := s1.takeSeqs n a.route new
    let ad := b.flags.testBit 0
    let hit (c : RxChunk) : Bool := decide (c.session = n ∧ c.stream = b.stream ∧ c.step = s.stepOf b ∧ c.chunk = b.chunk) && (c.adhoc == ad)
    if new.isEmpty && !s2.peer.rx.any hit then s2
    else
      let c0 : RxChunk := { session := n, stream := b.stream, step := s.stepOf b, chunk := b.chunk, parts := 0, adhoc := ad, got := [], failed := true }
      let rx := if s2.peer.rx.any hit then lmodify hit (fun c => { c with failed := true }) s2.peer.rx else s2.peer.rx ++ [c0]
      let s3 : State := { s2 with peer := { s2.peer with rx := rx } }
      match s3.seq.items.find? fun it => it.running && decide (rowOpcode it.row = opRecv) && decide (s3.recvChunk it = some (rx.find? hit |>.getD c0)) with
      | some it => s3.recvDone it
      | none => s3
  else if reason = 3 then s1.failRefetch n rs
  else s1

/-! ### The other kinds of the data space -/

/-- A CODEBOOK taken in (R225, R757). -/
def State.takeCodebook (s : State) (a : Arrival) : State :=
  let c := s.ctx a.blk.stream
  let g := s.seg c
  let ok := c.valid && !c.send && c.segment && decide (c.session = a.session) && decide (g.rate ≠ 0xF) && !g.fixedCb && !g.lowrank
  match ok, bookOfBytes g.rate a.payload with
  | true, some b => s.takeBook a.session g.cbSlot a.blk.stream { b with step := (extend32 (s.f F.SEQ_MERIDIAN_STEP) b.step).getD b.step }
  | _, _ => s.count F.PEER_PROTO_ERR_COUNT

/-- A STEP_READY taken in (R335, R336). -/
def State.takeStepReady (s : State) (body : List Byte) : State :=
  let k := hdrAt body 0 8
  let m := s.f F.SEQ_MERIDIAN_STEP
  if m < k ∧ k ≤ m + 64 then (s.growReady k (hdrAt body 8 2)).syncMeridian else s.count F.PEER_PROTO_ERR_COUNT

/-- A STEP_COMMIT taken in (R339). -/
def State.takeStepCommit (s : State) (n : Nat) (body : List Byte) : State :=
  s.setf F.PEER_SESSn_PEER_MERIDIAN_STEP (max (s.f F.PEER_SESSn_PEER_MERIDIAN_STEP n) (hdrAt body 0 8)) n

/-- An EPOCH message taken in (R330, R354). -/
def State.takeEpoch (s : State) (n : Nat) (body : List Byte) : State :=
  let e := hdrAt body 0 8
  let own := s.f F.PEER_EPOCH_EPOCH
  if own < e then s.suspendEpoch n e
  else if e < own then s.suspendEpoch n 0
  else if (s.sess n).waitFor = 0 then s.endEpochWait n
  else s

/-! ### The control space -/

/-- An ACK taken in (R287, R290, R293, R319): acknowledged blocks are done with, held streams go on, codebooks are released. -/
def State.takeAck (s : State) (n : Nat) (body : List Byte) : State :=
  let cum := hdrAt body 0 4
  let ns := hdrAt body 8 1
  let nc := hdrAt body 9 1
  let rs := (List.range ns).map fun i => (hdrAt body (16 + 8 * i) 4, hdrAt body (20 + 8 * i) 4)
  let cbs := (List.range nc).map fun i => hdrAt body (16 + 8 * ns + 4 * i) 4
  let taken (b : TxBlock) : Bool := newer cum b.dseq || rs.any fun r => inRange b.dseq r
  let s1 := (s.updSess n fun x => { x with peerWindow := some (hdrAt body 4 4) }).markAcked n taken
  let s2 := cbs.foldl (fun (s : State) c => s.bookAcked n (c / 256 % 2 ^ 21) (c % 256)) s1
  (((s2.settleSends).releaseHeld n).settleWindow n 0).settleWindow n 1

/-- A range cut at the sequences that are held. -/
def cutRange (held : List Nat) (r : Nat × Nat) : List (Nat × Nat) :=
  let pts := (held.filter fun q => inRange q r).mergeSort fun a b => decide ((a + 2 ^ 32 - r.1) % 2 ^ 32 ≤ (b + 2 ^ 32 - r.1) % 2 ^ 32)
  let go := pts.foldl (fun (acc : List (Nat × Nat) × Option Nat) q =>
    match acc.2 with
    | none => acc
    | some lo =>
      let out := if lo = q then acc.1 else acc.1 ++ [(lo, (q + 2 ^ 32 - 1) % 2 ^ 32)]
      (out, if q = r.2 then none else some ((q + 1) % 2 ^ 32))) (([], some r.1) : List (Nat × Nat) × Option Nat)
  match go.2 with
  | some lo => go.1 ++ [(lo, r.2)]
  | none => go.1

/-- Sequences that the sender no longer holds answered with an abandonment of reason 0x03 (R298, R307); the spec does not say
what its STREAM, STEP and CHUNK name then (log entry 25). -/
def State.notHeld (s : State) (n : Nat) (rs : List (Nat × Nat)) : State :=
  (chunks 8 ((rs.length + 7) / 8) rs).foldl (fun (s : State) part =>
    s.sendData n { s.plainHead kData with abandon := true, parts := 1 } 0 (beBytes 1 3 ++ beBytes 1 part.length ++ beBytes 2 0 ++ rangeBytes part)) s

/-- A NAK taken in (R298, R307). -/
def State.takeNak (s : State) (n : Nat) (body : List Byte) : State :=
  let reason := hdrAt body 1 1
  let rs := bodyRanges body (hdrAt body 0 1)
  let named := (s.sess n).tx.filter fun b => (decide (b.phase = TxPhase.sent) || decide (b.phase = TxPhase.acked)) && rs.any fun r => inRange b.dseq r
  let held := ((s.sess n).tx.map TxBlock.dseq)
  let frozen := decide (s.f F.PEER_SESSn_STATE_EPOCH_WAIT n = 1)
  let one (s : State) (b : TxBlock) : State :=
    if b.abandoned ∨ frozen ∨ (reason ≠ 2 ∧ !s.elapsed b.lastSent (s.rtt n b.lastRoute)) then s else s.resend n b true
  let s1 := named.foldl one s
  if reason = 0 then s1 else s1.notHeld n (rs.flatMap (cutRange held))

/-! ### HELLO -/

/-- A HELLO agrees (R322). -/
def State.helloAgrees (s : State) (n : Nat) (body : List Byte) : Bool :=
  decide (hdrAt body 0 8 = s.conf.job) && decide (hdrAt body 24 1 = s.peerSite n) && decide (hdrAt body 25 1 = s.peerRole n)

/-- A HELLO sent on a route (R321, R324). -/
def State.sendHello (s : State) (n r : Nat) (reply : Bool) : State :=
  let x := s.sess n
  let new := x.sendNew
  let body := beBytes 8 s.conf.job ++ beBytes 8 (s.f F.PEER_EPOCH_EPOCH) ++ beBytes 8 (s.f F.SEQ_MERIDIAN_STEP) ++ beBytes 1 s.conf.site
    ++ beBytes 1 s.conf.role ++ beBytes 1 (b2n new + 2 * b2n reply) ++ beBytes 1 0 ++ beBytes 4 (if new then 0 else s.f F.PEER_SESSn_TX_OLDEST n)
    ++ beBytes 4 (if new then 0 else s.f F.PEER_SESSn_RX_CUM n) ++ beBytes 4 (s.wmax n 0 + s.wmax n 1) ++ beBytes 8 0
  s.sendCtlOn n kHello body r none

/-- The receive state reset for a peer that opened with NEW (R282, R325). -/
def State.resetRx (s : State) (n ctl oldest : Nat) : State :=
  let s1 := s.updSess n fun x => { x with rxCtlHigh := some ctl, rxCtlSeen := [], rxAbove := [], rxWanted := [], naked := [], ackCount := 0, ackFirst := none }
  let s2 : State := { s1 with peer := { s1.peer with rx := s1.peer.rx.filter fun c => c.session ≠ n } }
  let s3 := (s2.setf F.PEER_SESSn_RX_CUM oldest n).setf F.PEER_SESSn_RX_HIGH oldest n
  let streams := (s3.mem.ctx.filter fun kv => kv.2.valid && !kv.2.send && decide (kv.2.session = n)).map Prod.fst
  let slots := ((streams.filter fun st => (s3.ctx st).segment).map fun st => (s3.seg (s3.ctx st)).cbSlot).dedup
  let s4 := slots.foldl (fun (s : State) k => s.mapBooks k fun b => if b.live ∧ !b.fixed then { b with doomed := true } else b) s3
  (streams.foldl (fun (s : State) st => s.setCtx st { (s.ctx st) with rxNext := 0 }) s4).sweepDoomed

/-- The sequences a reserve asks for anew (R358): the spec does not say how it knows them: a free value, cut to the peer's
window below its oldest unacknowledged sequence (log entry 26). -/
def adoptedSeqs (w : Word) (oldest span : Nat) : List Nat :=
  let k := w.toNat % (span + 1)
  (List.range k).map fun i => (oldest + 2 ^ 32 - k + i) % 2 ^ 32

/-- A reserve adopts its role's Meridian once every session has had an agreeing HELLO (R45, R358). -/
def State.adopt (s : State) (n : Nat) (body : List Byte) : State :=
  if !s.peer.adopting then s
  else
    let oldest := hdrAt body 28 4
    let first := (tfind n s.peer.hellos).isNone
    let s1 : State := { s with peer := { s.peer with hellos := if first then tput n (hdrAt body 16 8) s.peer.hellos else s.peer.hellos } }
    let w := s1.fresh
    let s2 := if first then w.2.reRequest n (adoptedSeqs w.1 oldest (s1.span n)) else s1
    if s2.declared.all fun k => (tfind k s2.peer.hellos).isSome then
      let m := (s2.peer.hellos.map Prod.snd).min?.getD 0
      let s3 : State := { s2 with peer := { s2.peer with adopting := false } }
      (((s3.setf F.SEQ_MERIDIAN_STEP m).startTracks (m + 1)).ownView).forgetSteps m
    else s2

/-- A HELLO taken in (R322 to R327, R357). -/
def State.takeHello (s : State) (a : Arrival) : State :=
  let n := a.session
  let body := a.payload
  if !s.helloAgrees n body then
    if s.sessState n = ssOpening then (s.count F.PEER_PROTO_ERR_COUNT).event F.PEER_EVENTS_HELLO_MISMATCH else s
  else
    let fl := hdrAt body 26 1
    let new := fl.testBit 0
    let oldest := hdrAt body 28 4
    let cum := hdrAt body 32 4
    let st := s.sessState n
    let s1 := s.updSess n fun x => { x with peerWindow := some (hdrAt body 36 4) }
    let s2 :=
      if new then s1.resetRx n a.blk.seq oldest
      else if (s1.sess n).awaitNew then (s1.setf F.PEER_SESSn_RX_CUM oldest n).setf F.PEER_SESSn_RX_HIGH oldest n
      else s1
    let s3 := s2.updSess n fun x => { x with awaitNew := false }
    let s4 := if new then s3 else s3.markAcked n fun b => newer cum b.dseq
    let s5 := if fl.testBit 1 then s4 else s4.sendHello n a.route true
    let s6 := s5.adopt n body
    if st = ssOpening then s6.enterOpen n none
    else if st = ssOpen ∧ new then s6.enterResync n (some (s6.peerSite n))
    else if st = ssEclipse then s6.enterResync n (if new then some (s6.peerSite n) else none)
    else s6

/-! ### PROBE -/

/-- The low 64 bits of a TB3 time (R311). -/
def low64 (t : Int) : Nat := (BitVec.ofInt 64 t).toNat

/-- A PROBE request answered on its port (R310 to R312). -/
def State.answerProbe (s : State) (a : Arrival) : State :=
  let body := a.payload.take 4 ++ beBytes 1 1 ++ beBytes 1 a.port ++ beBytes 2 0 ++ (a.payload.drop 8).take 8 ++ beBytes 8 (low64 s.lineRxStamp)
    ++ beBytes 8 (low64 s.lineTxStamp)
  s.sendCtlOn a.session kProbe body a.route (some (a.port % 8))

/-- SAMPLES and PROVE as they act (PEER_EPH_CFG). -/
def State.ephSamples (s : State) : Nat := max 8 (s.f F.PEER_EPH_CFG_SAMPLES)
def State.ephProve (s : State) : Nat := max 8 (s.f F.PEER_EPH_CFG_PROVE)

/-- A recorded RTT of a route (R313). -/
def State.recordRtt (s : State) (n r v : Nat) : State :=
  let s1 := if r = 0 then s.setf F.PEER_SESSn_EPH_A_RTT v n else s.setf F.PEER_SESSn_EPH_B_RTT v n
  (s1.updSess n fun x => x.setRt r { (x.rt r) with hasRtt := true }).syncOneWay n r

/-- A delay step (R285, R300, R314). -/
def State.delayStep (s : State) (n r v : Nat) : State :=
  let s1 := (((s.recordRtt n r v).count F.PEER_SESSn_DELAY_STEPS_COUNT 1 n).event F.PEER_EVENTS_DELAY_STEP).setWindow n r
  let restart (t : TxBlock) : TxBlock := if t.lastRoute = r then { t with timerAt := s.now } else t
  (s1.updSess n fun x => { x with tx := x.tx.map restart }).timeDelayStep n r

/-- The smallest sample against the recorded RTT (R314): whether it was a delay step, and the state. -/
def State.judgeRtt (s : State) (n r : Nat) : Bool × State :=
  match (((s.sess n).rt r).samples).min? with
  | none => (false, s)
  | some v =>
    let old := s.rtt n r
    let far := decide (s.f F.PEER_EPH_CFG_STEP * 1000 < (if old ≤ v then v - old else old - v))
    if ((s.sess n).rt r).hasRtt && far then (true, s.delayStep n r v) else (false, s.recordRtt n r v)

/-- A PROBE reply on a route (R313 to R315, R573). -/
def State.takeReply (s : State) (a : Arrival) : State :=
  let n := a.session
  let r := a.route
  let t4 := s.lineRxStamp
  let t1 := nearest64 t4 (hdrAt a.payload 8 8)
  let turn := (BitVec.ofNat 64 (hdrAt a.payload 24 8) - BitVec.ofNat 64 (hdrAt a.payload 16 8)).toNat
  let rtt : Int := t4 - t1 - turn
  let v := (rtt / 65536).toNat
  if s.routeDisabled n r then s
  else
    let x := (s.sess n).rt r
    let st := s.route n r
    if st = rtDown then
      (((s.setRoute n r rtProving).updSess n fun y => y.setRt r { x with samples := [v], proved := 1, replyAt := s.now }).syncSingle).timeProbe n r t1
        (hdrAt a.payload 16 8) rtt
    else
      let l := x.samples ++ [v]
      let s1 := s.updSess n fun y => y.setRt r { (y.rt r) with samples := l.drop (l.length - s.ephSamples), proved := x.proved + 1, replyAt := s.now }
      let s2 := s1.timeProbe n r t1 (hdrAt a.payload 16 8) rtt
      if st = rtProving then
        if s.ephProve ≤ x.proved + 1 then
          let j := s2.judgeRtt n r
          j.2.routeUpNow n r j.1
        else s2
      else if s.ephSamples ≤ l.length then (s2.judgeRtt n r).2
      else s2

/-! ### Every kind -/

/-- An arrival handled by its kind. -/
def State.handle (s : State) (a : Arrival) (bytes : List Byte) : State :=
  let k := a.blk.kind
  let n := a.session
  let c := s.count F.PEER_SESSn_RECEIVED_COUNT 1 n
  if k = kHello then c.takeHello a
  else if k = kAck then (c.takeAck n a.payload).pumpTx n
  else if k = kNak then c.takeNak n a.payload
  else if k = kProbe then (if (hdrAt a.payload 4 1).testBit 0 then c.takeReply a else c.answerProbe a)
  else if k = kData ∧ !a.blk.flags.testBit 1 then State.acceptTaken a (s.takeData a bytes)
  else
    let s1 := s.accept a
    if k = kData then s1.takeAbandon a
    else if k = kCodebook then s1.takeCodebook a
    else if k = kStepReady then s1.takeStepReady a.payload
    else if k = kStepCommit then s1.takeStepCommit n a.payload
    else if k = kEpoch then s1.takeEpoch n a.payload
    else if k = kHorizon then s1.takeHorizon n a.payload
    else s1.takeReconcile n a.payload

/-- A line block from a port: checked, and handled when it passes (R280). -/
def State.receiveBlock (s : State) (port : Nat) (bs : List Byte) : State :=
  match s.screen port bs with
  | (none, t) => t
  | (some a, t) => t.handle a bs

end Sys2Proof.Machine
end

