-- ==== Sys2Proof/Machine/Peer.lean ====
section
/-! DEFINITION. The commands of the peer protocol (R270 to R340): what arrives on the line, and what its timers do. -/

namespace Sys2Proof.Machine

/-- A line block of a named sort received; bytes of another sort are no such command. -/
def State.receiveSort (s : State) (sort : LineBlk → Bool) (port : Nat) (bs : List Byte) : State :=
  if sort (lineBlk bs) then s.receiveBlock port bs else s

def LineBlk.abandon (b : LineBlk) : Bool := b.flags.testBit 1
def LineBlk.timeBlock (b : LineBlk) : Bool := decide (b.kind = kData) && !b.abandon && decide (b.cls = 1) && decide (b.stream = timeStream)

/-- HELLO_RECEIVE (R322 to R327, R357, R358). -/
def execHelloReceive (port : Nat) (bs : List Byte) (s : State) : Host.Outcome State Fault Refusal :=
  .next (s.receiveSort (fun b => b.kind = kHello) port bs)

/-- DATA_RECEIVE (R249, R261, R262, R287, R292, R320, R377). -/
def execDataReceive (port : Nat) (bs : List Byte) (s : State) : Host.Outcome State Fault Refusal :=
  .next (s.receiveSort (fun b => decide (b.kind = kData) && !b.abandon && !b.timeBlock) port bs)

/-- ABANDONMENT_RECEIVE (R303, R304). -/
def execAbandonmentReceive (port : Nat) (bs : List Byte) (s : State) : Host.Outcome State Fault Refusal :=
  .next (s.receiveSort (fun b => decide (b.kind = kData) && b.abandon) port bs)

/-- ACK_RECEIVE (R287, R290, R293, R319). -/
def execAckReceive (port : Nat) (bs : List Byte) (s : State) : Host.Outcome State Fault Refusal :=
  .next (s.receiveSort (fun b => b.kind = kAck) port bs)

/-- NAK_RECEIVE (R298, R307). -/
def execNakReceive (port : Nat) (bs : List Byte) (s : State) : Host.Outcome State Fault Refusal :=
  .next (s.receiveSort (fun b => b.kind = kNak) port bs)

/-- A PROBE received, as a reply or as a request. -/
def State.receiveProbe (s : State) (reply : Bool) (port : Nat) (bs : List Byte) : State :=
  if (lineBlk bs).kind ≠ kProbe then s
  else match s.screen port bs with
  | (none, t) => t
  | (some a, t) => if (hdrAt a.payload 4 1).testBit 0 = reply then t.handle a bs else s

/-- PROBE_REQUEST_RECEIVE (R310 to R312). -/
def execProbeRequestReceive (port : Nat) (bs : List Byte) (s : State) : Host.Outcome State Fault Refusal :=
  .next (s.receiveProbe false port bs)

/-- PROBE_REPLY_RECEIVE (R313 to R315, R573, R574). -/
def execProbeReplyReceive (port : Nat) (bs : List Byte) (s : State) : Host.Outcome State Fault Refusal :=
  .next (s.receiveProbe true port bs)

/-- CODEBOOK_RECEIVE (R225, R292, R757). -/
def execCodebookReceive (port : Nat) (bs : List Byte) (s : State) : Host.Outcome State Fault Refusal :=
  .next (s.receiveSort (fun b => b.kind = kCodebook) port bs)

/-- STEP_READY_RECEIVE (R335, R336). -/
def execStepReadyReceive (port : Nat) (bs : List Byte) (s : State) : Host.Outcome State Fault Refusal :=
  .next (s.receiveSort (fun b => b.kind = kStepReady) port bs)

/-- STEP_COMMIT_RECEIVE (R339). -/
def execStepCommitReceive (port : Nat) (bs : List Byte) (s : State) : Host.Outcome State Fault Refusal :=
  .next (s.receiveSort (fun b => b.kind = kStepCommit) port bs)

/-- EPOCH_RECEIVE (R329, R330, R353, R354). -/
def execEpochReceive (port : Nat) (bs : List Byte) (s : State) : Host.Outcome State Fault Refusal :=
  .next (s.receiveSort (fun b => b.kind = kEpoch) port bs)

/-- HORIZON_RECEIVE (R372 to R374). -/
def execHorizonReceive (port : Nat) (bs : List Byte) (s : State) : Host.Outcome State Fault Refusal :=
  .next (s.receiveSort (fun b => b.kind = kHorizon) port bs)

/-- RECONCILE_RECEIVE (R376, R379, R380). -/
def execReconcileReceive (port : Nat) (bs : List Byte) (s : State) : Host.Outcome State Fault Refusal :=
  .next (s.receiveSort (fun b => b.kind = kReconcile) port bs)

/-- ACK_SEND (R291): 16 blocks since the last ACK, or 20 µs since the first of them. -/
def execAckSend (n : Nat) (s : State) : Host.Outcome State Fault Refusal :=
  let x := s.sess n
  let late := match x.ackFirst with | some t => s.elapsed t 20000 | none => false
  .next (if 16 ≤ x.ackCount ∨ late = true then s.sendAck n else s)

/-- The missing sequences of a session that R296 lets it ask for now. -/
def State.overtaken (s : State) (n : Nat) : List Nat :=
  let x := s.sess n
  let cum := s.f F.PEER_SESSn_RX_CUM n
  let len := (s.f F.PEER_SESSn_RX_HIGH n + 2 ^ 32 - cum) % 2 ^ 32
  let ups := s.upRoutes n
  let over_ (q : Nat) : Bool := !ups.isEmpty && ups.all fun r => x.rxAbove.any fun a => newer a.1 q && decide (a.2.1 = r) && s.elapsed a.2.2 8000
  if x.rxAbove.isEmpty then []
  else ((List.range (min len (s.span n))).map fun i => (cum + i) % 2 ^ 32).filter fun q =>
    !(x.rxAbove.any fun a => a.1 = q) && !(x.naked.any fun a => a.1 = q) && over_ q

/-- GAP_NAK (R296). -/
def execGapNak (n : Nat) (s : State) : Host.Outcome State Fault Refusal :=
  let qs := s.overtaken n
  if qs.isEmpty then .next s
  else .next ((s.updSess n fun x => { x with naked := x.naked ++ qs.map fun q => (q, s.now) }).sendNak n 0 qs)

/-- A block whose 16th re-send has timed out (R302): its SEND ends, re-sending of that SEND's blocks stops, and an abandonment
goes out. -/
def State.resendLimit (s : State) (n : Nat) (b : TxBlock) : State :=
  let mine (t : TxBlock) : Bool := decide (t.phase ≠ TxPhase.acked) && (match b.item with | some id => decide (t.item = some id) | none => decide (t.dseq = b.dseq))
  let seqs := ((s.sess n).tx.filter mine).map TxBlock.dseq
  let drop (t : TxBlock) : TxBlock := if mine t then { t with abandoned := true, phase := .sent } else t
  let s1 := s.updSess n fun x => { x with tx := x.tx.map drop }
  let s2 := (match b.item with | some id => s1.endItem id .failedResendLimit | none => s1).event F.PEER_EVENTS_RESEND_LIMIT
  let h : Head := { kind := kData, adhoc := b.adhoc, abandon := true, relay := false, cls := 0, origin := s.conf.site
                    step := b.step, stream := b.stream, chunk := b.chunk, part := 0, parts := 1 }
  let rs := seqRanges seqs
  (chunks 8 ((rs.length + 7) / 8) rs).foldl (fun (s : State) part =>
    s.sendData n h b.localStream (beBytes 1 1 ++ beBytes 1 part.length ++ beBytes 2 0 ++ rangeBytes part)) s2

/-- Whether re-send timers run on a session for a block (R327, R330). -/
def State.timersRun (s : State) (n : Nat) (b : TxBlock) : Bool :=
  decide (s.f F.PEER_SESSn_STATE_EPOCH_WAIT n = 0) && (decide (s.sessState n = ssOpen) || (decide (s.sessState n = ssResync) && resyncMay b))

/-- RESEND_TIMER (R299 to R302). -/
def execResendTimer (n dseq : Nat) (s : State) : Host.Outcome State Fault Refusal :=
  match (s.sess n).tx.find? fun b => b.dseq = dseq ∧ b.phase = TxPhase.sent with
  | none => .next s
  | some b =>
    if b.abandoned ∨ !s.timersRun n b ∨ !s.elapsed b.timerAt (3 * s.rtt n b.lastRoute / 2 + 200000) then .next s
    else
      let s1 := s.count F.PEER_SESSn_TIMEOUTS_COUNT 1 n
      .next (if 16 ≤ b.resends then s1.resendLimit n b else s1.resend n b true)

/-- A PROBE request on a route of a session, on the next of its ports (R309, R311). -/
def State.sendProbe (s : State) (n r : Nat) : State :=
  let x := s.sess n
  let p := (x.rt r).nextPort
  let body := beBytes 4 x.probeId ++ beBytes 1 0 ++ beBytes 1 (8 * r + p) ++ beBytes 2 0 ++ beBytes 8 (low64 s.lineTxStamp) ++ beBytes 16 0
  (s.sendCtlOn n kProbe body r (some p)).updSess n fun y =>
    ({ y with probeId := (y.probeId + 1) % 2 ^ 32 }).setRt r { (y.rt r) with nextPort := (p + 1) % 8 }

/-- PROBE_SEND (R309): the 10 µs period of every session's PROBE requests. -/
def execProbeSend (s : State) : Host.Outcome State Fault Refusal :=
  let due := match s.peer.probeAt with | some t => s.elapsed t 10000 | none => true
  if !due then .next s
  else
    let s0 : State := { s with peer := { s.peer with probeAt := some s.now } }
    .next ((s.declared.filter fun n => s.sessState n ≠ ssIdle).foldl (fun (s : State) n =>
      ([0, 1].filter fun r => !s.routeDisabled n r).foldl (fun (s : State) r => s.sendProbe n r) s) s0)

/-- Whether a route of a session has lost its light or its blocks (R315). -/
def State.routeLost (s : State) (n r : Nat) : Bool :=
  s.elapsed ((s.sess n).rt r).heardAt (max 10 (s.f F.PEER_TIMING_SILENCE) * 1000) || decide (s.f F.LINE_STATUS_IN_SERVICE / 2 ^ (8 * r) % 256 = 0)

/-- ROUTE_SILENCE (R315 to R319, R555, R556). -/
def execRouteSilence (n r : Nat) (s : State) : Host.Outcome State Fault Refusal :=
  .next (if s.route n r = rtUp ∧ s.routeLost n r then s.routeDown n r else s)

/-- ROUTE_PROVE_TIMEOUT (R315). -/
def execRouteProveTimeout (n r : Nat) (s : State) : Host.Outcome State Fault Refusal :=
  .next (if s.route n r = rtProving ∧ s.elapsed ((s.sess n).rt r).replyAt 30000 then s.routeDown n r else s)

/-- A write of PEER_SESSn_CTRL (R315). -/
def State.writeSessCtrl (s : State) (n v : Nat) : State :=
  let s1 := (s.setf F.PEER_SESSn_CTRL_A_DISABLE (v % 2) n).setf F.PEER_SESSn_CTRL_B_DISABLE (v / 2 % 2) n
  [0, 1].foldl (fun (s : State) r => if s.routeDisabled n r ∧ s.route n r ≠ rtDown then s.routeDown n r else s) s1

/-- ROUTE_DISABLE_WRITE (R315, R318). -/
def execRouteDisableWrite (n v : Nat) (s : State) : Host.Outcome State Fault Refusal := .next (if n < 32 then s.writeSessCtrl n v else s)

/-- HELLO_SEND (R321, R324, R327): every 100 µs in OPENING and ECLIPSE, on each route. -/
def execHelloSend (n : Nat) (s : State) : Host.Outcome State Fault Refusal :=
  let st := s.sessState n
  let x := s.sess n
  if (st = ssOpening ∨ st = ssEclipse) ∧ (x.helloAt = 0 ∨ s.elapsed x.helloAt 100000) then
    let s1 := s.updSess n fun y => { y with helloAt := s.now, awaitNew := y.awaitNew || y.sendNew }
    .next ((s1.sendHello n 0 false).sendHello n 1 false)
  else .next s

/-- ECLIPSE_ENTRY (R327, R361, R368). -/
def execEclipseEntry (n : Nat) (s : State) : Host.Outcome State Fault Refusal :=
  let st := s.sessState n
  .next (if (st = ssOpen ∨ st = ssResync) ∧ s.elapsed (s.sess n).heardAt (max 1 (s.f F.PEER_TIMING_T_ECLIPSE) * 100000) then s.eclipse n else s)

end Sys2Proof.Machine
end

