-- ==== Sys2Proof/Machine/Line.lean ====
section
/-! DEFINITION. Line ports: GFP-F framing (R390 to R394, R402), defects and their integrations (R395 to R400), the TTI
(R387), the GCC serial map (R404 to R406), the module sideband (R410, R411), and what the ports drive (R388, R389). -/

namespace Sys2Proof.Machine

/-! ### Ports -/

def LinePort.init : LinePort :=
  { raw := 0, eff := 0x100, since := [], fastSince := [], gfp := .hunt, txScr := 0, rxScr := 0, txSent := 0, txPlace := 0, beiSm := 0, beiPm := 0, csfAt := none, csfSentAt := 0,
    pollAt := 0, alertAt := 0 }

def State.port (s : State) (p : Nat) : LinePort := (tfind p s.line.ports).getD LinePort.init
def State.setPort (s : State) (p : Nat) (x : LinePort) : State := { s with line := { s.line with ports := tput p x s.line.ports } }

/-- Bit positions of R395. -/
def dLos : Nat := 0
def dLof : Nat := 1
def dLom : Nat := 2
def dOduAis : Nat := 3
def dOci : Nat := 4
def dLck : Nat := 5
def dBdi : Nat := 6
def dTim : Nat := 7
def dLfd : Nat := 8
def dCsf : Nat := 9

/-- Whether any of some defects is fast-integrated on a port. -/
def State.hasDefect (s : State) (p : Nat) (bits : List Nat) : Bool := bits.any fun b => (s.f F.LINE_Pp_DEFECT_DEFECT p).testBit b

/-- A port is failed (R399). -/
def State.portFailed (s : State) (p : Nat) : Bool :=
  s.hasDefect p [dLos, dLof, dLom, dOduAis, dOci, dLck, dBdi, dLfd, dCsf] || (s.hasDefect p [dTim] && decide (s.f F.LINE_Pp_CFG_TIM_ACT p = 1))

/-- A port is enabled and not failed (LINE_STATUS.IN_SERVICE). -/
def State.inService (s : State) (p : Nat) : Bool := decide (s.f F.LINE_Pp_CFG_ENABLE p = 1) && !s.portFailed p

def State.syncPort (s : State) (p : Nat) : State := s.putBit F.LINE_STATUS_IN_SERVICE p (s.inService p)

/-- The ports of a route (R381: LA0 to LA7 are 0 to 7, LB0 to LB7 are 8 to 15). -/
def routePorts (r : Nat) : List Nat := (List.range 8).map fun i => 8 * r + i

/-- Every enabled port of a route is failed (R315). -/
def State.allFailed (s : State) (r : Nat) : Bool := (routePorts r).all fun p => !s.inService p

/-- The fast-integrated defects of a port replaced (R397): the port fails or returns (R399), and the route of a last port
goes DOWN for every session (R315). -/
def State.setDefects (s : State) (p v : Nat) : State :=
  let was := s.portFailed p
  let s1 := (s.setf F.LINE_Pp_DEFECT_DEFECT v p).syncPort p
  let now := s1.portFailed p
  if !was && now then
    let s2 := s1.event F.LINE_EVENTS_PORT_FAILED
    if s2.allFailed (p / 8) then
      s2.declared.foldl (fun (s : State) n => if s.routeUp n (p / 8) then s.routeDown n (p / 8) else s) s2
    else s2
  else if was && !now then s1.event F.LINE_EVENTS_PORT_RESTORED
  else s1

/-! ### Raw defects and integration -/

/-- The raw defects of a port, LFD being present while delineation is not in SYNC (R395). -/
def LinePort.rawAll (x : LinePort) : Nat := setBit x.raw dLfd (x.raw.testBit dLfd || decide (x.gfp ≠ .sync))

/-- A higher defect masks every lower one (R396). -/
def maskDefects (raw : Nat) : Nat :=
  let has (b : Nat) : Bool := raw.testBit b
  let los := has dLos
  let lof := has dLof && !los
  let lom := has dLom && !los && !lof
  let top := los || lof || lom
  let odu := (has dOduAis || has dOci || has dLck) && !top
  let tim := has dTim && !top && !odu
  let lfd := has dLfd && !top && !odu && !tim
  let csf := has dCsf && !top && !odu && !tim && !lfd
  bitsOf ((if los then [dLos] else []) ++ (if lof then [dLof] else []) ++ (if lom then [dLom] else [])
    ++ (if has dOduAis && odu then [dOduAis] else []) ++ (if has dOci && odu then [dOci] else []) ++ (if has dLck && odu then [dLck] else [])
    ++ (if has dBdi then [dBdi] else []) ++ (if tim then [dTim] else []) ++ (if lfd then [dLfd] else []) ++ (if csf then [dCsf] else []))

/-- The masked raw defects brought up to date: each bit that changes takes its new value now. -/
def LinePort.remask (x : LinePort) (now : Nat) : LinePort :=
  let e := maskDefects x.rawAll
  let changed := (List.range 10).filter fun b => e.testBit b != x.eff.testBit b
  { x with eff := e, since := changed.foldl (fun t b => tput b now t) x.since }

def State.remask (s : State) (p : Nat) : State := s.setPort p ((s.port p).remask s.now)

/-- The words of a TTI that TIM_MODE selects: the SAPI in the first 16 bytes, the DAPI in the next 16 (PRESUMED; log entry 104). -/
def timWords (mode : Nat) : List Nat := (if mode % 2 = 1 then [0, 1] else []) ++ (if mode / 2 % 2 = 1 then [2, 3] else [])

/-- The received TTI differs from the expected one in the parts that TIM_MODE selects (R387, R395). -/
def State.ttiDiffers (s : State) (p : Nat) : Bool :=
  (timWords (s.f F.LINE_Pp_CFG_TIM_MODE p)).any fun w => decide (s.f F.LINE_Pp_TTI_RX_TTI (8 * p + w) ≠ s.f F.LINE_Pp_TTI_EXP_TTI (8 * p + w))

/-- Raw TIM as the TTI last accepted gives it (R387, R395). -/
def State.syncTim (s : State) (p : Nat) : State :=
  (s.setPort p { (s.port p) with raw := setBit (s.port p).raw dTim (s.ttiDiffers p) }).remask p

/-- RAW_DEFECT_CHANGE (R395, R396). TIM is present only while TIM_MODE selects a part of the TTI. LOS begins and ends through R410; the CSF defect ends 300 ms after its last frame. -/
def execRawDefectChange (p bit : Nat) (on : Bool) (s : State) : Host.Outcome State Fault Refusal :=
  let x := s.port p
  if 16 ≤ p ∨ bit = dLos ∨ 10 ≤ bit then .next s
  else if bit = dCsf then
    match x.csfAt with
    | some t => .next (if !on && s.elapsed t 300000000 then (s.setPort p { x with raw := setBit x.raw dCsf false, csfAt := none }).remask p else s)
    | none => .next s
  else
    let present := on && (decide (bit ≠ dTim) || decide (s.f F.LINE_Pp_CFG_TIM_MODE p ≠ 0))
    .next ((s.setPort p { x with raw := setBit x.raw bit present }).remask p)

def clampUs (v : Nat) : Nat := max 8 (min 250 v) * 1000

/-- DEFECT_FAST_SET (R397, R399). -/
def execDefectFastSet (p bit : Nat) (s : State) : Host.Outcome State Fault Refusal :=
  let x := s.port p
  let d := s.f F.LINE_Pp_DEFECT_DEFECT p
  if p < 16 ∧ bit < 10 ∧ x.eff.testBit bit ∧ ¬d.testBit bit ∧ s.elapsed ((tfind bit x.since).getD 0) (clampUs (s.f F.LINE_Pp_INTEG_FAST_SET p)) then
    let s1 := (s.setPort p { x with fastSince := tput bit s.now x.fastSince }).putBit F.LINE_Pp_LATCH_LATCH bit true p
    .next (s1.setDefects p (setBit d bit true))
  else .next s

/-- DEFECT_FAST_CLEAR (R397, R399). -/
def execDefectFastClear (p bit : Nat) (s : State) : Host.Outcome State Fault Refusal :=
  let x := s.port p
  let d := s.f F.LINE_Pp_DEFECT_DEFECT p
  if p < 16 ∧ bit < 10 ∧ ¬x.eff.testBit bit ∧ d.testBit bit ∧ s.elapsed ((tfind bit x.since).getD 0) (clampUs (s.f F.LINE_Pp_INTEG_FAST_CLEAR p)) then
    .next ((s.setPort p { x with fastSince := tput bit s.now x.fastSince }).setDefects p (setBit d bit false))
  else .next s

/-- FAILURE_REPORT_SET (R398). -/
def execFailureReportSet (p bit : Nat) (s : State) : Host.Outcome State Fault Refusal :=
  let x := s.port p
  if p < 16 ∧ bit < 10 ∧ (s.f F.LINE_Pp_DEFECT_DEFECT p).testBit bit ∧ ¬(s.f F.LINE_Pp_FAILURE_FAILURE p).testBit bit
      ∧ s.elapsed ((tfind bit x.fastSince).getD 0) (s.f F.LINE_Pp_INTEG_REP_SET p * 100000000) then
    .next ((s.putBit F.LINE_Pp_FAILURE_FAILURE bit true p).event F.LINE_EVENTS_FAILURE)
  else .next s

/-- FAILURE_REPORT_CLEAR (R398). -/
def execFailureReportClear (p bit : Nat) (s : State) : Host.Outcome State Fault Refusal :=
  let x := s.port p
  if p < 16 ∧ bit < 10 ∧ ¬(s.f F.LINE_Pp_DEFECT_DEFECT p).testBit bit ∧ (s.f F.LINE_Pp_FAILURE_FAILURE p).testBit bit
      ∧ s.elapsed ((tfind bit x.fastSince).getD 0) (s.f F.LINE_Pp_INTEG_REP_CLEAR p * 100000000) then
    .next ((s.putBit F.LINE_Pp_FAILURE_FAILURE bit false p).event F.LINE_EVENTS_FAILURE)
  else .next s

/-! ### The module sideband -/

/-- MOD_ALERT_FALL (R410): the alert falls and the latched flags are read; a loss-of-signal flag makes raw LOS present. -/
def execModAlertFall (p : Nat) (los : Bool) (s : State) : Host.Outcome State Fault Refusal :=
  if 16 ≤ p then .next s
  else
    let x := s.port p
    let s1 := (s.putBit F.LINE_STATUS_ALERT p true).event F.LINE_EVENTS_MOD_ALERT
    .next ((s1.setPort p { x with alertAt := s.now, pollAt := s.now, raw := if los then setBit x.raw dLos true else x.raw }).remask p)

/-- LOS_FLAG_POLL (R410): every 100 µs while LOS is present; a clear flag ends raw LOS. -/
def execLosFlagPoll (p : Nat) (flag : Bool) (s : State) : Host.Outcome State Fault Refusal :=
  let x := s.port p
  if p < 16 ∧ x.raw.testBit dLos ∧ s.elapsed x.pollAt 100000 then
    .next ((s.setPort p { x with pollAt := s.now, raw := setBit x.raw dLos flag }).remask p)
  else .next s

/-- A module byte that the gateway controls: the lane data path and transmitter control page (R411). PRESUMED from CMIS: upper
page 0x10. -/
def controlledByte (page offset : Nat) : Bool := decide (page = 0x10) && decide (128 ≤ offset)

/-- GO in LINE_MOD_CMD (R411): the code of the WRITE, and the access begun. -/
def State.moduleGo (s : State) (port : Nat) (write : Bool) (page offset data : Nat) : Status × State :=
  if s.line.access.isSome then (.refusedBusy, s)
  else if write && controlledByte page offset then (.done, s.setf F.LINE_MOD_CMD_RESULT Status.refusedBusy.code)
  else
    let a : ModAccess := { port := port, write := write, page := page, offset := offset, data := data }
    let s1 : State := { s with line := { s.line with access := some a } }
    (.done, (s1.setf F.LINE_MOD_CMD_BUSY 1).emit (.module port page offset (if write then some data else none)))

/-- The fields of LINE_MOD_CMD that name an access. -/
def State.setModule (s : State) (port : Nat) (write : Bool) (page offset data : Nat) : State :=
  ((((s.setf F.LINE_MOD_CMD_PORT port).setf F.LINE_MOD_CMD_WRITE (b2n write)).setf F.LINE_MOD_CMD_PAGE page).setf F.LINE_MOD_CMD_OFFSET offset).setf
    F.LINE_MOD_CMD_DATA data

/-- MODULE_READ (R411). -/
def execModuleRead (port page offset : Nat) (s : State) : Host.Outcome State Fault Refusal :=
  .next ((s.setModule port false page offset (s.f F.LINE_MOD_CMD_DATA)).moduleGo (port % 16) false (page % 256) (offset % 256) 0).2

/-- MODULE_WRITE (R411). -/
def execModuleWrite (port page offset data : Nat) (s : State) : Host.Outcome State Fault Refusal :=
  .next ((s.setModule port true page offset data).moduleGo (port % 16) true (page % 256) (offset % 256) (data % 256)).2

/-- MODULE_ACCESS_DONE (R411): the module answered, with the byte read, or did not. -/
def execModuleAccessDone (answered : Bool) (data : Nat) (s : State) : Host.Outcome State Fault Refusal :=
  match s.line.access with
  | none => .next s
  | some a =>
    let s1 := ({ s with line := { s.line with access := none } }).setf F.LINE_MOD_CMD_BUSY 0
    let s2 := s1.setf F.LINE_MOD_CMD_RESULT (if answered then Status.done.code else Status.failedLink.code)
    .next (if answered && !a.write then s2.setf F.LINE_MOD_CMD_DATA data else s2)

/-! ### GFP -/

/-- The core header mask (R391). -/
def coreMask : List Nat := [0xB6, 0xAB, 0x31, 0xE0]

/-- One byte through the x^43 + 1 scrambler, most significant bit first; the register holds the last 43 scrambled bits,
newest lowest (R391). -/
def scrByte (rx : Bool) : Nat → Nat → Nat → Nat → Nat × Nat
  | 0, _, out, reg => (out, reg)
  | k + 1, b, out, reg =>
    let inBit := b / 2 ^ k % 2
    let o := (inBit + reg / 2 ^ 42) % 2
    scrByte rx k b (2 * out + o) (2 * (reg % 2 ^ 42) + (if rx then inBit else o))

/-- A payload area scrambled (or, on receipt, descrambled), and the register after it. -/
def gfpScramble (rx : Bool) (reg : Nat) : List Nat → List Nat × Nat
  | [] => ([], reg)
  | b :: bs =>
    let r := scrByte rx 8 b 0 reg
    let t := gfpScramble rx r.2 bs
    (r.1 :: t.1, t.2)

/-- TYPE of a client data frame (R390). -/
def gfpType (pfcs : Bool) : Nat := (if pfcs then 0x1000 else 0) + 0x00F3

/-- The frame that carries a line block, before masking and scrambling: core header and payload area (R390). -/
def gfpParts (pfcs : Bool) (block : List Nat) : List Nat × List Nat :=
  let ty := bytesOf 2 (gfpType pfcs)
  let area := ty ++ bytesOf 2 (crc16 ty) ++ block ++ (if pfcs then bytesOf 4 (crc32 block) else [])
  let pli := bytesOf 2 area.length
  (pli ++ bytesOf 2 (crc16 pli), area)

/-- The frame of a client management frame with UPI 0x01 (R402). -/
def csfParts : List Nat × List Nat :=
  let ty := bytesOf 2 0x8001
  let area := ty ++ bytesOf 2 (crc16 ty)
  let pli := bytesOf 2 area.length
  (pli ++ bytesOf 2 (crc16 pli), area)

/-- Bytes in the payload area of an OPUC8 frame: four rows, columns 17 to 3,824, eight slices (R392). -/
def opucBytes : Nat := 4 * 3808 * 8

/-- Row, column and slice of byte `i` of the payload stream (R392): slices first, then columns, then rows, then frames. -/
def opucCell (i : Nat) : Nat × Nat × Nat := (i % opucBytes / (3808 * 8) + 1, i / 8 % 3808 + 17, i % 8 + 1)

/-- A frame as it leaves a port: core header masked, payload area scrambled (R391), in the payload stream after the idle frames sent
before it (R392). -/
def State.gfpOut (s : State) (p : Nat) (parts : List Nat × List Nat) : List Byte × State :=
  let x := s.port p
  let r := gfpScramble false x.txScr parts.2
  let out := byts (xorList parts.1 coreMask ++ r.1)
  (out, s.setPort p { x with txScr := r.2, txSent := x.txSent + out.length, txPlace := (Config.idleBytes p s.now + x.txSent) % opucBytes })

/-- Row, column and slice of the OPUC8 payload area in which the last frame of a port began (R392). -/
def State.txCell (s : State) (p : Nat) : Nat × Nat × Nat := opucCell (s.port p).txPlace

/-- A 4-byte or TYPE header with its CRC checked and a single-bit error corrected: the corrected two bytes and whether a bit
was wrong (R394). -/
def crcHeader (h : List Nat) : Option (Nat × Bool) :=
  let v := natOf h
  let ok (x : Nat) : Bool := decide (crc16 (bytesOf 2 (x / 2 ^ 16)) = x % 2 ^ 16)
  if ok v then some (v / 2 ^ 16, false)
  else match (List.range 32).find? fun b => ok (Nat.xor v (2 ^ b)) with
    | some b => some (Nat.xor v (2 ^ b) / 2 ^ 16, true)
    | none => none

/-- The delineation state of a port replaced: LINE_STATUS and the LFD defect follow. -/
def State.setGfp (s : State) (p : Nat) (g : GfpState) : State :=
  ((s.setPort p { (s.port p) with gfp := g }).putBit F.LINE_STATUS_GFP_SYNC p (decide (g = .sync))).remask p

def State.gfpDiscard (s : State) (p : Nat) : State := s.count F.LINE_Pp_GFP_DISCARD_COUNT 1 p

/-- A frame in SYNC, `pli` its payload length, `area` its descrambled payload area (R393). -/
def State.gfpFrame (s : State) (p pli : Nat) (area : List Nat) : State :=
  let pfcs := decide (s.f F.LINE_Pp_CFG_PFCS p = 1)
  if pli = 0 then s
  else if pli < 4 ∨ 8252 < pli then (s.gfpDiscard p).setGfp p .hunt
  else match crcHeader (area.take 4) with
  | none => s.gfpDiscard p
  | some (ty, _) =>
    if ty / 2 ^ 13 = 4 then
      if ty % 256 = 1 ∨ ty % 256 = 2 then
        let x := s.port p
        (s.setPort p { x with csfAt := some s.now, raw := setBit x.raw dCsf true }).remask p
      else s
    else
      let body := area.drop 4
      let len := hdrAt (byts body) 14 2
      let block := body.take (52 + len)
      if ty ≠ gfpType pfcs ∨ pli < 56 ∨ pli ≠ 56 + len + (if pfcs then 4 else 0) ∨ area.length ≠ pli then s.gfpDiscard p
      else if pfcs ∧ natOf (body.drop (52 + len)) ≠ crc32 block then s.gfpDiscard p
      else (s.count F.LINE_Pp_GFP_FRAMES_COUNT 1 p).receiveBlock p (byts block)

/-- The first byte at which the search of HUNT finds a matching header (R394). -/
def headAt (ns : List Nat) : Option Nat :=
  (List.range (ns.length - 3)).find? fun i => match crcHeader (xorList ((ns.drop i).take 4) coreMask) with
    | some (_, false) => true
    | _ => false

/-- The search of HUNT over the bytes given (R394). -/
def State.gfpHunt (s : State) (p : Nat) (ns : List Nat) : State :=
  s.setGfp p (if (headAt ns).isSome then .presync 0 else .hunt)

/-- A frame, or in HUNT the bytes of the search, delineated (R391, R393, R394). A header that does not match in PRESYNC resumes the
search within the same bytes (log entry 104). -/
def State.gfpReceive (s : State) (p : Nat) (bs : List Byte) : State :=
  let ns := nats bs
  let x := s.port p
  let r := gfpScramble true x.rxScr (ns.drop 4)
  let s1 := s.setPort p { x with rxScr := r.2 }
  let h := crcHeader (xorList (ns.take 4) coreMask)
  match x.gfp with
  | .hunt => s1.gfpHunt p ns
  | .presync n => match h with
    | some (_, false) => s1.setGfp p (if max 1 (s.f F.LINE_Pp_CFG_DELTA p) ≤ n + 1 then .sync else .presync (n + 1))
    | _ => s1.gfpHunt p (ns.drop 1)
  | .sync => match h with
    | some (pli, fixed) =>
      (if fixed then s1.count F.LINE_Pp_GFP_CHEC_CORR_COUNT 1 p else s1).gfpFrame p pli r.1
    | none => (s1.gfpDiscard p).setGfp p .hunt

/-- CSF_SEND (R402); a port that sends LCK carries idle frames only (R388). -/
def execCsfSend (p : Nat) (s : State) : Host.Outcome State Fault Refusal :=
  let x := s.port p
  if p < 16 ∧ s.f F.LINE_Pp_CFG_ENABLE p = 1 ∧ s.f F.LINE_Pp_CFG_LOCK p = 0 ∧ s.elapsed x.csfSentAt 100000000 then
    let r := s.gfpOut p csfParts
    .next ((r.2.setPort p { (r.2.port p) with csfSentAt := s.now }).emit (.line p r.1))
  else .next s

/-! ### TTI and serial ports -/

/-- TTI_RX_ACCEPT (R387): the SM TTI the same in three consecutive multiframes, 64 bytes. -/
def execTtiRxAccept (p : Nat) (tti : List Byte) (s : State) : Host.Outcome State Fault Refusal :=
  if p < 16 ∧ tti.length = 64 then
    let word (w : Nat) : Nat := leNat ((tti.drop (8 * w)).take 8)
    let same := (List.range 8).all fun w => decide (s.f F.LINE_Pp_TTI_RX_TTI (8 * p + w) = word w)
    let s1 := (List.range 8).foldl (fun (s : State) w => s.setf F.LINE_Pp_TTI_RX_TTI (word w) (8 * p + w)) s
    .next ((s1.syncTim p).eventIf (!same) F.LINE_EVENTS_TTI_CHANGE)
  else .next s

/-- A mapping of serial port `n` written (R404, R405). -/
def State.writeGcsMap (s : State) (n v : Nat) : Status × State :=
  let port := v % 16
  let ch := v / 16 % 4
  if ch ≠ 0 ∧ (List.range 4).any fun m => decide (m ≠ n) && decide (s.f F.LINE_GCS_MAP_PORT m = port) && decide (s.f F.LINE_GCS_MAP_CHANNEL m = ch) then
    (.refusedBusy, s)
  else (.done, (s.setf F.LINE_GCS_MAP_PORT port n).setf F.LINE_GCS_MAP_CHANNEL ch n)

/-- The mapping of a serial port in effect replaced; a channel that it newly connects starts (R517; log entry 19). -/
def State.applyGcsMap (s : State) (n : Nat) : State :=
  let m := (s.f F.LINE_GCS_MAP_PORT n, s.f F.LINE_GCS_MAP_CHANNEL n)
  let s1 : State := { s with line := { s.line with gcs := tput n m s.line.gcs } }
  if m.2 = 0 ∨ tfind n s.line.gcs = some m then s1 else s1.startGcs n

/-- GCS_MAP_APPLY (R405): the mapping in LINE_GCS_MAP takes effect at a frame boundary. -/
def execGcsMapApply (n : Nat) (s : State) : Host.Outcome State Fault Refusal := .next (if n < 4 then s.applyGcsMap n else s)

/-! ### What a port drives -/

/-- TX_DISABLE_N of a port is low (R389). -/
def State.txDisabled (s : State) (p : Nat) : Bool :=
  decide (s.f F.LINE_Pp_CFG_ENABLE p = 0) || !s.imageActive || (decide (8 ≤ p) && s.unitOut unitIodB)

/-- TX_DISABLE_N of every port whose level has changed since `old` (R389). -/
def State.driveTx (s old : State) : State :=
  ((List.range 16).filter fun p => s.txDisabled p != old.txDisabled p).foldl
    (fun (s : State) p => s.emit (.pin (.txDisableN p) (!s.txDisabled p))) s

/-- A port sends LCK and idle frames (R388). -/
def State.sendsLck (s : State) (p : Nat) : Bool := decide (s.f F.LINE_Pp_CFG_LOCK p = 1)

/-- A port sends SM BDI, PM BDI (R400). -/
def State.sendsSmBdi (s : State) (p : Nat) : Bool := s.hasDefect p [dLos, dLof, dLom]
def State.sendsPmBdi (s : State) (p : Nat) : Bool :=
  s.hasDefect p [dOduAis, dOci, dLck, dLfd] || (s.hasDefect p [dTim] && decide (s.f F.LINE_Pp_CFG_TIM_ACT p = 1))

/-- GCSn_TXD drives all-ones (R406). -/
def State.gcsAllOnes (s : State) (n : Nat) : Bool :=
  match tfind n s.line.gcs with
  | some (p, ch) => decide (ch ≠ 0) && (s.hasDefect p [dLos, dLof, dLom] || (decide (2 ≤ ch) && s.hasDefect p [dOduAis, dOci, dLck]))
  | none => false

/-- LMON_D drives all-ones (R407). -/
def State.lmonAllOnes (s : State) : Bool := s.hasDefect (s.f F.LINE_LMON_PORT) [dLos, dLof, dLom, dOduAis, dOci, dLck]

/-! ### OTUC8 frames -/

/-- The bits of bytes, bit 7 of each first (R403), and the bytes that bits spell. -/
def bitsOut (bs : List Byte) : List Bool := bs.flatMap fun b => (List.range 8).map fun k => b.toNat.testBit (7 - k)
def bitsIn (bits : List Bool) : List Byte :=
  (chunks 8 (bits.length / 8) bits).map fun w => BitVec.ofNat 8 (w.foldl (fun a b => 2 * a + b2n b) 0)

/-- All-ones in place of bytes. -/
def allOnes (bs : List Byte) : List Byte := bs.map fun _ => 0xFF

/-- GCSn has its channel encrypted (R517). -/
def State.gcsEncrypted (s : State) (n : Nat) : Bool := (s.f F.CIPH_GCS_ENCRYPT).testBit n

/-- The CFB registers of a GCS channel. -/
def State.gcsCipher (s : State) (n : Nat) : GcsCipher := (tfind n s.ciph.gcs).getD { txReg := 0, rxReg := 0, rxFill := 16 }
def State.setGcsCipher (s : State) (n : Nat) (g : GcsCipher) : State := { s with ciph := { s.ciph with gcs := tput n g s.ciph.gcs } }

/-- The slot of one use of a GCS port and its current generation; none where it has none. -/
def State.gcsGen (s : State) (use n : Nat) : Option (Nat × KeyGen) :=
  (s.gcsSlot use n).bind fun k => (s.currentGen k).map fun g => (k, g)

/-- The first use of a generation noted (R531). -/
def State.noteUse (s : State) (k g : Nat) : State := s.updGen k g fun x => { x with firstUse := some (x.firstUse.getD s.now) }

/-- One byte from the GCC channel as GCSn_TXD gives it out (R406, R517): all-ones while the port has a defect that says so and for 16
bytes after it, else the byte, decrypted where the channel is encrypted. A channel without a key gives a free value (log entry 4). -/
def State.gcsByteOut (s : State) (n : Nat) (b : Byte) : Byte × State :=
  let g := s.gcsCipher n
  let shifted : GcsCipher := { g with rxReg := g.rxReg * 256 + b.setWidth 128, rxFill := g.rxFill - 1 }
  if s.gcsAllOnes n then (0xFF, s.setGcsCipher n { g with rxFill := 16 })
  else if !s.gcsEncrypted n then (b, s)
  else if 0 < g.rxFill then (0xFF, s.setGcsCipher n shifted)
  else match s.gcsGen useGcsRx n with
    | some kg =>
      let r := cfbDec kg.2.keys g.rxReg.toNat b.toNat
      (BitVec.ofNat 8 r.1, (s.noteUse kg.1 kg.2.gen).setGcsCipher n { g with rxReg := BitVec.ofNat 128 r.2 })
    | none => (s.fresh.1.setWidth 8, s.fresh.2)

/-- One byte from GCSn_RXD as it goes into the GCC channel (R517). -/
def State.gcsByteIn (s : State) (n : Nat) (b : Byte) : Byte × State :=
  let g := s.gcsCipher n
  if !s.gcsEncrypted n then (b, s)
  else match s.gcsGen useGcsTx n with
    | some kg =>
      let r := cfbEnc kg.2.keys g.txReg.toNat b.toNat
      (BitVec.ofNat 8 r.1, s.setGcsCipher n { g with txReg := BitVec.ofNat 128 r.2 })
    | none => (s.fresh.1.setWidth 8, s.fresh.2)

/-- Bytes received on a channel, each passed out through serial port `n`. -/
def State.gcsBytesOut (s : State) (n : Nat) (bs : List Byte) : List Byte × State :=
  bs.foldl (fun (x : List Byte × State) b => let r := x.2.gcsByteOut n b; (x.1 ++ [r.1], r.2)) ([], s)

/-- Bytes taken in on serial port `n`, each passed on to its channel. -/
def State.gcsBytesIn (s : State) (n : Nat) (bs : List Byte) : List Byte × State :=
  bs.foldl (fun (x : List Byte × State) b => let r := x.2.gcsByteIn n b; (x.1 ++ [r.1], r.2)) ([], s)

/-- The serial ports mapped to a port in effect, with their channels (R404). -/
def State.gcsOf (s : State) (p : Nat) : List (Nat × Nat) :=
  (s.line.gcs.filter fun kv => decide (kv.2.1 = p) && decide (kv.2.2 ≠ 0)).map fun kv => (kv.1, kv.2.2)

/-- The two bytes of channel 1 (GCC0), 2 (GCC1) or 3 (GCC2) among the six of a slice. -/
def gccBytes (gcc : List Byte) (ch : Nat) : List Byte := (gcc.drop (2 * (ch - 1))).take 2

/-- What a frame gives out on the serial ports of its port, and the six GCC bytes that the frame sent carries: a channel that no serial
port is mapped to is zero (R403, R404). -/
def State.serveGcs (s : State) (p : Nat) (fr : OtucFrame) : List Byte × State :=
  (s.gcsOf p).foldl (fun (a : List Byte × State) m =>
    let out := a.2.gcsBytesOut m.1 (gccBytes fr.gcc m.2)
    let inn := (out.2.emit (.gcs m.1 (bitsOut out.1))).gcsBytesIn m.1 (bitsIn ((tfind m.1 fr.rxd).getD []))
    (a.1.take (2 * (m.2 - 1)) ++ (inn.1 ++ [0, 0]).take 2 ++ a.1.drop (2 * m.2), inn.2)) (List.replicate 6 0, s)

/-- STAT of a signal that is not a maintenance signal (PRESUMED from G.709; log entry 99), and of ODUC8 LCK (R395). -/
def statNormal : Nat := 1
def statLck : Nat := 5

/-- The TTI that a port sends in SM, PM and TCM1 (R387). -/
def State.sentTti (s : State) (p : Nat) : List Byte := (List.range 8).flatMap fun w => leBytes 8 (s.f F.LINE_Pp_TTI_TX_TTI (8 * p + w))

/-- The overhead of the eight slices of a frame that a port sends, `gcc` being the GCC bytes of slice #1: the other slices carry its SM, PM
and TCM1, and zero elsewhere; every slice sends payload type 0x05 (R381, R382, R386 to R388, R400, R401). -/
def State.sentOverhead (s : State) (p : Nat) (gcc : List Byte) : List SliceOh :=
  let stat := if s.sendsLck p then statLck else statNormal
  let sm : SectionOh := { tti := s.sentTti p, bei := (s.port p).beiSm, bdi := s.sendsSmBdi p, stat := 0 }
  let pm : SectionOh := { tti := s.sentTti p, bei := (s.port p).beiPm, bdi := s.sendsPmBdi p, stat := stat }
  let tcm : SectionOh := { tti := s.sentTti p, bei := 0, bdi := false, stat := stat }
  (List.range 8).map fun i => { sm := sm, pm := pm, tcm1 := tcm, gcc := if i = 0 then gcc else List.replicate 6 0, pt := 5 }

/-- Bits in which two BIP-8 codes differ (R401). -/
def bipErrors (a b : Nat) : Nat := ((List.range 8).filter fun k => a.testBit k != b.testBit k).length

/-- One OTUC8 frame of a port: its errors counted and reported back in the frame sent, its GCC channels served, the monitored bytes given
out (R385, R401 to R404, R407). -/
def State.takeOtuc (s : State) (p : Nat) (fr : OtucFrame) : State :=
  let eSm := bipErrors fr.bipSm fr.foundSm
  let ePm := bipErrors fr.bipPm fr.foundPm
  let s1 := ((s.count F.LINE_Pp_BIP_SM_COUNT eSm p).count F.LINE_Pp_BIP_PM_COUNT ePm p).count F.LINE_Pp_BEI_SM_COUNT fr.beiSm p
  let s2 := ((s1.count F.LINE_Pp_BEI_PM_COUNT fr.beiPm p).count F.LINE_Pp_FEC_CORR_COUNT
    (if s.f F.LINE_Pp_CFG_FEC_HERE p = 1 then fr.fecCorr else 0) p).count F.LINE_Pp_FEC_UNCORR_COUNT fr.fecUncorr p
  let g := (s2.setPort p { (s2.port p) with beiSm := eSm, beiPm := ePm }).serveGcs p fr
  let s3 := g.2.emit (.otuc p (g.2.sentOverhead p g.1))
  if s3.f F.LINE_LMON_ENABLE = 1 ∧ s3.f F.LINE_LMON_PORT = p then
    s3.emit (.lmon (bitsOut (if s3.lmonAllOnes then allOnes fr.mon else fr.mon)))
  else s3

/-- GFP_FRAME_RECEIVE (R391, R393, R394): the bytes as they come from the OPUC8 payload of an enabled port, and the OTUC8 frames that end
with them. -/
def execGfpFrameReceive (p : Nat) (input : GfpInput) (s : State) : Host.Outcome State Fault Refusal :=
  .next (if p < 16 ∧ s.f F.LINE_Pp_CFG_ENABLE p = 1 then
    (input.frames.foldl (fun (s : State) fr => s.takeOtuc p fr) s).gfpReceive p input.bytes else s)

end Sys2Proof.Machine
end

