-- ==== Sys2Proof/Machine/Sched.lean ====
section
/-! DEFINITION. The egress scheduler's service of a port: choice of a block (R549 to R551), of a port (R553), sojourn (R558),
and the frame that leaves (R390). -/

namespace Sys2Proof.Machine

/-- Frames in a port's transmit buffer (R553). -/
def State.portBuffer (s : State) (p : Nat) : List (Nat × Nat × Nat) := (tfind p s.sch.portBuf).getD []
def State.setPortBuffer (s : State) (p : Nat) (l : List (Nat × Nat × Nat)) : State := { s with sch := { s.sch with portBuf := tput p l s.sch.portBuf } }

/-- A port takes one more frame: it is in service, sends no LCK, and its buffer holds less than two full frames (R388, R399,
R553). -/
def State.portTakes (s : State) (p : Nat) : Bool :=
  s.inService p && !s.sendsLck p && s.imageActive && decide ((s.portBuffer p).length < 2)

/-- The ports of a route that can take a frame, and the one R553 chooses: fewest bytes waiting, then lowest number. -/
def State.bestPort (s : State) (ps : List Nat) : Option Nat :=
  (ps.filter s.portTakes).foldl (fun (best : Option Nat) p => match best with
    | none => some p
    | some b => if ((s.portBuffer p).map Prod.fst).sum < ((s.portBuffer b).map Prod.fst).sum then some p else some b) none

/-- What the scheduler does with a block of a queue of route `r`. -/
inductive Verdict where
  | serve (port : Nat)
  | wait
  /-- The block is no longer to be sent: its sequence was freed or abandoned, or its port has failed. -/
  | drop
  deriving DecidableEq, Repr

/-- Whether a queued block may leave now, and on which port: none while the slot of its session cannot seal (R275); a fixed port (R309, R310), a fresh data-space block only on an up
route of a session that sends (R315, R327), a re-sent one while its session runs. -/
def State.verdict (s : State) (r : Nat) (q : QBlock) : Verdict :=
  let go (ps : List Nat) : Verdict :=
    if (s.txGen q.session).isNone then .wait else match s.bestPort ps with | some p => .serve p | none => .wait
  match q.dseq with
  | none => match q.port with
    | some i => if s.inService (8 * r + i) then go [8 * r + i] else .drop
    | none => go (routePorts r)
  | some d =>
    match (s.sess q.session).tx.find? fun t => t.dseq = d with
    | none => .drop
    | some t =>
      if t.abandoned ∨ t.phase = TxPhase.acked then .drop
      else if !s.routeUp q.session r then .wait
      else if q.fresh then (if s.maySend q.session t then go (routePorts r) else .wait)
      else if s.sessState q.session = ssOpen ∨ s.sessState q.session = ssResync then go (routePorts r)
      else .wait

/-- Blocks that are no longer to be sent leave their queues. -/
def State.dropStale (s : State) (r : Nat) : State :=
  (List.range 6).foldl (fun (s : State) c =>
    let q := s.queue r c
    let keep := q.filter fun b => s.verdict r b ≠ .drop
    if keep.length = q.length then s else s.setQueue r c keep) s

/-- The first block of a class queue that may leave, with its port. -/
def State.headBlock (s : State) (r c : Nat) : Option (QBlock × Nat) :=
  (s.queue r c).findSome? fun q => match s.verdict r q with | .serve p => some (q, p) | _ => none

/-- The block R550 serves: class, block, port. -/
def State.pickBlock (s : State) (r : Nat) : Option (Nat × QBlock × Nat) :=
  match s.headBlock r 0 with
  | some (q, p) => some (0, q, p)
  | none => match s.headBlock r 1 with
    | some (q, p) => some (1, q, p)
    | none => [2, 3, 4, 5].foldl (fun (best : Option (Nat × QBlock × Nat)) c => match s.headBlock r c, best with
        | some (q, p), none => some (c, q, p)
        | some (q, p), some b => if q.tag < b.2.1.tag then some (c, q, p) else some b
        | none, b => b) none

/-- The sojourn of a block of route `r` and class `c` that joined its queue at `joined`, measured at the start of its transmission
(R558). -/
def State.noteSojourn (s : State) (r c joined : Nat) : State :=
  let d := s.now - joined
  let k := rcReg r c
  let limit := s.f F.SCH_Rr_Cc_CFG_SOJ_LIMIT k * 1000
  let s1 := s.setf F.SCH_Rr_Cc_SOJOURN_HIGH_NS (max (s.f F.SCH_Rr_Cc_SOJOURN_HIGH_NS k) (min d (2 ^ 32 - 1))) k
  if limit ≠ 0 ∧ limit < d then (s1.count F.SCH_Rr_Cc_LATE_COUNT 1 k).event F.SCH_EVENTS_SOJOURN else s1

/-- The sending side after a data-space block has left: it is out, and its re-send timer starts (R299). -/
def State.noteSent (s : State) (r : Nat) (q : QBlock) : State :=
  let sent (t : TxBlock) : TxBlock := { t with phase := .sent, lastRoute := r, lastSent := s.now, timerAt := s.now }
  let s1 := match q.dseq with
    | some d => s.updSess q.session fun x => { x with tx := lmodify (fun t => decide (t.dseq = d)) sent x.tx }
    | none => s
  if q.fresh then s1.count F.PEER_SESSn_SENT_COUNT 1 q.session else s1

/-- One block handed to a port (R390, R550 to R553, R558). -/
def State.serveRoute (s : State) (r : Nat) : State :=
  let s0 := s.dropStale r
  match s0.pickBlock r with
  | none => s0
  | some (c, q, p) =>
    let s1 := s0.setQueue r c ((s0.queue r c).erase q)
    let s2 : State := if c < 2 then s1 else { s1 with sch := { s1.sch with vtime := tput r q.tag s1.sch.vtime } }
    let s3 := (if s2.portBuffer p = [] then s2.noteSojourn r c q.joined else s2).noteSent r q
    let g := s3.gfpOut p (gfpParts (decide (s3.f F.LINE_Pp_CFG_PFCS p = 1)) (nats q.bytes))
    ((g.2.setPortBuffer p (g.2.portBuffer p ++ [(g.1.length, c, q.joined)])).emit (.line p g.1)).pumpTx q.session

/-- A port has finished the frame it was sending, if any, and starts on the next one in its buffer (R553, R558). -/
def State.portNext (s : State) (p : Nat) : State :=
  let l := (s.portBuffer p).drop 1
  let s1 := s.setPortBuffer p l
  match l with
  | x :: _ => s1.noteSojourn (p / 8) x.2.1 x.2.2
  | [] => s1

/-- PORT_SERVE (R549 to R553): port `p` has finished the frame it was sending, if any, and its route's scheduler serves one
block. -/
def execPortServe (p : Nat) (s : State) : Host.Outcome State Fault Refusal :=
  .next (if p < 16 then (s.portNext p).serveRoute (p / 8) else s)

end Sys2Proof.Machine
end

