-- ==== Sys2Proof/Machine/Optical.lean ====
section
/-! DEFINITION. Wavelengths, lasers, lock and circuits: the circuit states (R430, R431), slots and reserve (R443 to R452),
ring lock and identity (R453 to R459), moves (R460 to R466), crosstalk and feedforward (R467 to R471), automatic power
reduction and the laser enables (R473 to R476, R751). -/

namespace Sys2Proof.Machine

/-! ### Slots -/

/-- What a slot carries (OPT_Fk_LAMBDA.USE): 0 free, 1 packet, 2 circuit, 3 reserve. -/
def useFree : Nat := 0
def usePacket : Nat := 1
def useCircuit : Nat := 2
def useReserve : Nat := 3

def State.slotUsage (s : State) (k w : Nat) : Nat := s.f F.OPT_Fk_LAMBDA_USE k / 2 ^ (2 * w) % 4

/-- A slot's use written, with CIRCUIT_LAMBDAS beside it. -/
def State.setUsage (s : State) (k w u : Nat) : State :=
  (s.setf F.OPT_Fk_LAMBDA_USE (putBits (s.f F.OPT_Fk_LAMBDA_USE k) (2 * w) 2 u) k).putBit F.FAB_Fk_CFG_CIRCUIT_LAMBDAS w (decide (u = useCircuit)) k

/-- The slot number `16 * fibre pair + wavelength`. -/
def slotNo (k w : Nat) : Nat := 16 * k + w

/-- A slot that is neither failed nor out of lock (R445, R454, R459). -/
def State.slotHealthy (s : State) (k w : Nat) : Bool :=
  !s.bit F.OPT_Fk_LAMBDA_FAILED w k && !s.bit F.OPT_Fk_LAMBDA_WRONG w k && !s.opt.unlocked.contains (slotNo k w)

/-- A slot kept lit and barred from every SETUP after a change of alternate (R464). -/
def State.slotHeld (s : State) (k w : Nat) : Bool := s.opt.held.any fun h => decide (h.1 = k) && decide (h.2.1 = w) && !s.elapsed h.2.2 100000

def State.pairEnabled (s : State) (k : Nat) : Bool := decide (s.f F.OPT_Fk_CFG_ENABLE k = 1)
def State.pairApr (s : State) (k : Nat) : Bool := s.bit F.OPT_STATUS_APR k

/-- The lasers of a tile may be lit (R473, R751). -/
def State.tileMayLight (s : State) (t : Nat) : Bool :=
  s.imageActive && !s.unitDark (unitTile t) && !s.bit F.PWR_PINS_LASER_EN_N t && (List.range 4).any fun i => s.pairEnabled (4 * t + i)

/-- A fibre pair carries light: enabled, its tile allowed, and not in automatic power reduction. -/
def State.pairLit (s : State) (k : Nat) : Bool := s.pairEnabled k && s.tileMayLight (k / 4) && !s.pairApr k

/-- OPT_STATUS.LIT and FAB_STATUS.TILE_UP of a tile. -/
def State.syncTile (s : State) (t : Nat) : State :=
  let lit := (List.range 4).any fun i => s.pairLit (4 * t + i)
  (s.putBit F.OPT_STATUS_LIT t lit).putBit F.FAB_STATUS_TILE_UP t (s.tileMayLight t)

/-- The reserve slots of a fibre pair that are healthy, lowest first. -/
def State.reserves (s : State) (k : Nat) : List Nat := (List.range 16).filter fun w => s.slotUsage k w = useReserve && s.slotHealthy k w

/-- The alternate that the gateway names on a fibre pair brought up to date: the lowest reserve slot; the one named before
stays lit and barred for 100 µs (R451, R464). -/
def State.syncAlternate (s : State) (k : Nat) : State :=
  let old := tfind k s.opt.alternate
  let new := (s.reserves k).head?
  if old = new then s
  else
    let alt := match new with | some w => tput k w s.opt.alternate | none => tdel k s.opt.alternate
    let held := match old with | some w => s.opt.held ++ [(k, w, s.now)] | none => s.opt.held
    { s with opt := { s.opt with alternate := alt, held := held } }

/-- Free healthy slots promoted to reserve, the highest-numbered first, until the image's reserve is kept (R447, R449). -/
def State.promote (s : State) (k : Nat) : Nat → State
  | 0 => s
  | fuel + 1 =>
    if (s.reserves k).length < s.f F.OPT_Fk_CFG_RESERVE k then
      match ((List.range 16).filter fun w => s.slotUsage k w = useFree && s.slotHealthy k w).getLast? with
      | some w => (s.setUsage k w useReserve).promote k fuel
      | none => s.event F.OPT_EVENTS_RESERVE_LOW
    else s

/-- The reserve and the alternates of a fibre pair brought up to date (R447, R449, R451). -/
def State.syncReserve (s : State) (k : Nat) : State := if s.pairEnabled k then (s.promote k 16).syncAlternate k else s

/-- The wavelength that a SETUP claims (R448). -/
def State.freeWave (s : State) (k : Nat) : Option Nat :=
  if !s.pairLit k then none
  else (List.range 16).find? fun w => s.slotUsage k w = useFree && s.slotHealthy k w && !s.slotHeld k w

/-- Circuits in SETUP that wait for a wavelength of a fibre pair claim one, in table order (R448). -/
def State.claimWaiting (s : State) (k : Nat) : State :=
  let waiting := s.fab.circuits.filter fun c => decide (c.2.fibre = k) && decide (c.2.state = cSetup) && decide (c.2.claim = none)
  waiting.foldl (fun (s : State) (c : Nat × Circuit) =>
    match s.freeWave k with
    | some w => (s.setCircuit c.1 { c.2 with claim := some w }).setUsage k w useCircuit
    | none => s) s

/-- A slot that a circuit has left becomes free (R430, R461). -/
def State.freeSlot (s : State) (k w : Nat) : State := (((s.setUsage k w useFree).setWave (slotNo k w) false).syncReserve k).claimWaiting k

/-! ### Circuits -/

/-- Items in flight on a circuit. -/
def State.onCircuit (s : State) (ix : Nat) (it : Item) : Bool := rowOnCircuit it.row && decide (s.circuitIx it.row = ix)

/-- The running CIRCUIT items of an action on a circuit. -/
def State.circuitItems (s : State) (ix action : Nat) : List Nat :=
  (s.seq.items.filter fun it => it.running && decide (rowOpcode it.row = opCircuit) && decide (rowCircuitAction it.row = action) && s.onCircuit ix it).map Item.id

/-- A circuit's entry at the state FREE, its slot let go. -/
def State.freeCircuit (s : State) (ix : Nat) : State :=
  match s.circuit ix with
  | none => s
  | some c =>
    let s1 := s.setCircuit ix { c with state := cFree, claim := none, fill := 0, raw := [] }
    let s2 : State := { s1 with opt := { s1.opt with moving := s1.opt.moving.filter fun m => m.1 ≠ ix } }
    if c.state = cSetup then (match c.claim with | some w => s2.freeSlot c.fibre w | none => s2)
    else if c.state = cFree then s2
    else s2.freeSlot c.fibre c.lambda

/-- Items on a circuit ended with a status, and the circuit freed (R430, R463, R476, R679, R751). -/
def State.dropCircuit (s : State) (st : Status) (ix : Nat) : State :=
  let hit := (s.seq.items.filter (s.onCircuit ix)).map Item.id
  let s1 := hit.foldl (fun (s : State) id => if st = .failedLink then s.failLink id else s.endItem id st) s
  s1.freeCircuit ix

/-- Every circuit of a fibre pair dropped, and its packet pairs moved (R422, R476, R679, R751). -/
def State.darkPair (s : State) (st : Status) (k : Nat) : State :=
  let mine := (s.fab.circuits.filter fun c => decide (c.2.fibre = k) && decide (c.2.state ≠ cFree)).map Prod.fst
  let s1 := mine.foldl (fun (s : State) ix => s.dropCircuit st ix) s
  (List.range 16).foldl (fun (s : State) w => s.setWave (slotNo k w) false) s1

/-- CIRCUIT_SETUP (R430, R431, R448). -/
def execCircuitSetup (id : Nat) (s : State) : Host.Outcome State Fault Refusal :=
  match s.item id with
  | none => .next s
  | some it =>
    if !it.running ∨ rowOpcode it.row ≠ opCircuit ∨ rowCircuitAction it.row ≠ 1 then .next s
    else
      let ix := s.circuitIx it.row
      match s.circuit ix with
      | none => .next (s.failLink id)
      | some c =>
        if c.state = cUp then .next (s.commitItem id)
        else if c.state = cFree then
          .next ((s.setCircuit ix { c with state := cSetup, claim := none, setupAt := s.now, fill := 0, raw := [] }).claimWaiting c.fibre)
        else .next s

/-- CIRCUIT_CONFIRM (R430). -/
def execCircuitConfirm (id : Nat) (s : State) : Host.Outcome State Fault Refusal :=
  match s.item id with
  | none => .next s
  | some it =>
    if !it.running ∨ rowOpcode it.row ≠ opCircuit ∨ rowCircuitAction it.row ≠ 2 then .next s
    else match s.circuit (s.circuitIx it.row) with
      | none => .next (s.failLink id)
      | some c => .next (if c.state = cUp then s.commitItem id else if c.state = cMoving then s else s.failLink id)

/-- CIRCUIT_RELEASE (R430): the state RELEASING refuses new items at once, a move in progress ends first. -/
def execCircuitRelease (id : Nat) (s : State) : Host.Outcome State Fault Refusal :=
  match s.item id with
  | none => .next s
  | some it =>
    if !it.running ∨ rowOpcode it.row ≠ opCircuit ∨ rowCircuitAction it.row ≠ 3 then .next s
    else
      let ix := s.circuitIx it.row
      match s.circuit ix with
      | none => .next (s.commitItem id)
      | some c =>
        if c.state = cFree then .next (s.commitItem id)
        else if c.state = cUp ∨ c.state = cMoving then .next (s.setCircuit ix { c with state := cReleasing })
        else .next s

/-- CIRCUIT_TRAINED (R430): the link of a circuit in SETUP has trained on the wavelength claimed. -/
def execCircuitTrained (ix : Nat) (s : State) : Host.Outcome State Fault Refusal :=
  match s.circuit ix with
  | none => .next s
  | some c => match c.claim with
    | none => .next s
    | some w =>
      if c.state ≠ cSetup then .next s
      else
        let s1 := (s.setCircuit ix { c with state := cUp, lambda := w, claim := none }).setWave (slotNo c.fibre w) true
        .next ((s1.circuitItems ix 1).foldl (fun (s : State) id => s.commitItem id) s1)

/-- CIRCUIT_SETUP_TIMEOUT (R430). -/
def execCircuitSetupTimeout (ix : Nat) (s : State) : Host.Outcome State Fault Refusal :=
  match s.circuit ix with
  | none => .next s
  | some c =>
    if c.state = cSetup ∧ s.elapsed c.setupAt (max 1 (s.f F.FAB_CIRCUIT_CFG_SETUP_LIMIT) * 1000) then
      .next (((s.circuitItems ix 1).foldl (fun (s : State) id => s.failLink id) s).freeCircuit ix)
    else .next s

/-- CIRCUIT_RELEASED (R430): no other item is in flight on the circuit, no move runs, the link layer is idle. -/
def execCircuitReleased (ix : Nat) (s : State) : Host.Outcome State Fault Refusal :=
  match s.circuit ix with
  | none => .next s
  | some c =>
    let rel := s.circuitItems ix 3
    let others := s.seq.items.any fun it => s.onCircuit ix it && it.running && !rel.contains it.id
      && !(decide (rowOpcode it.row = opCircuit) && decide (rowCircuitAction it.row = 1))
    if c.state = cReleasing ∧ !others ∧ !(s.opt.moving.any fun m => m.1 = ix) then
      .next ((rel.foldl (fun (s : State) id => s.commitItem id) s).freeCircuit ix)
    else .next s

/-! ### Moves -/

/-- Reserve slots of a fibre pair that no circuit is moving to. -/
def State.openReserves (s : State) (k : Nat) : List Nat :=
  let taken := s.opt.moving.filterMap fun m => match s.circuit m.1 with | some c => if c.fibre = k then some m.2.1 else none | none => none
  (s.reserves k).filter fun w => !taken.contains w

/-- A circuit moved to its alternate, or dropped when none is left (R461, R463). -/
def State.startMove (s : State) (ix : Nat) (txWorks : Bool) : State :=
  match s.circuit ix with
  | none => s
  | some c =>
    if c.state ≠ cUp ∧ c.state ≠ cReleasing ∧ c.state ≠ cMoving then s
    else match (s.openReserves c.fibre).head? with
    | none => ((s.dropCircuit .failedLink ix).count F.OPT_MOVE_FAILED_COUNT).event F.OPT_EVENTS_MOVE_FAILED
    | some w =>
      let s1 := s.setCircuit ix { c with state := if c.state = cReleasing then cReleasing else cMoving }
      let s2 : State := { s1 with opt := { s1.opt with moving := (s1.opt.moving.filter fun m => m.1 ≠ ix) ++ [(ix, w, s.now)] } }
      let s3 := s2.setWave (slotNo c.fibre c.lambda) false
      if txWorks then s3.emit (.moveFlit ix c.fibre c.lambda) else s3

/-- The circuit on a slot, its current wavelength. -/
def State.circuitOn (s : State) (k w : Nat) : Option Nat :=
  (s.fab.circuits.find? fun c => decide (c.2.fibre = k) && decide (c.2.lambda = w) && (decide (c.2.state = cUp) || decide (c.2.state = cReleasing))
    && !(s.opt.moving.any fun m => m.1 = c.1)).map Prod.fst

/-- A circuit that moves to a slot, or a SETUP that has claimed it. -/
def State.bound (s : State) (k w : Nat) : List Nat :=
  (s.opt.moving.filter fun m => decide (m.2.1 = w) && (match s.circuit m.1 with | some c => decide (c.fibre = k) | none => false)).map Prod.fst

/-- A reserve slot of a tile taken for packets when its last packet wavelength has gone down (R466). -/
def State.promotePacket (s : State) (t : Nat) : State :=
  if (s.pktWaves.any fun x => x / 64 = t) then s
  else match ((List.range 4).flatMap fun i => (s.openReserves (4 * t + i)).map fun w => (4 * t + i, w)).head? with
    | none => s
    | some (k, w) => (((s.setUsage k w usePacket).putBit F.FAB_Fk_CFG_PKT_LAMBDAS w true k).setWave (slotNo k w) true).syncReserve k

/-- What a fault on a slot does to what it carries, circuits apart (R465, R466). -/
def State.slotFault (s : State) (k w : Nat) : State :=
  let u := s.slotUsage k w
  if u = usePacket then (s.setWave (slotNo k w) false).promotePacket (k / 4)
  else if u = useReserve then
    let s1 := ((s.setUsage k w useFree).syncReserve k)
    (s.bound k w).foldl (fun (s : State) ix => s.startMove ix false) s1
  else if u = useCircuit then
    let again := s.fab.circuits.filter fun c => decide (c.2.fibre = k) && decide (c.2.state = cSetup) && decide (c.2.claim = some w)
    let s1 := again.foldl (fun (s : State) (c : Nat × Circuit) => s.setCircuit c.1 { c.2 with claim := none }) s
    if again.isEmpty then s1 else (s1.setUsage k w useFree).claimWaiting k
  else s

/-- Faults on a list of slots, each with whether its transmit path still works: packet and reserve slots first, then
circuits in ascending order of table index (R463). -/
def State.slotFaults (s : State) (fs : List (Nat × Bool)) : State :=
  let s1 := fs.foldl (fun (s : State) (x : Nat × Bool) => s.slotFault (x.1 / 16) (x.1 % 16)) s
  let moves := s1.fab.circuits.filterMap fun c =>
    match fs.find? fun x => s1.circuitOn (x.1 / 16) (x.1 % 16) = some c.1 with
    | some x => some (c.1, x.2)
    | none => none
  moves.foldl (fun (s : State) (x : Nat × Bool) => s.startMove x.1 x.2) s1

/-- CIRCUIT_NO_LIGHT (R460): 4 µs without light on an UP circuit's slot. -/
def execCircuitNoLight (ix : Nat) (s : State) : Host.Outcome State Fault Refusal :=
  match s.circuit ix with
  | some c => .next (if c.state = cUp then s.startMove ix true else s)
  | none => .next s

/-- MOVE_FLIT_RECEIVE (R460, R461). -/
def execMoveFlitReceive (ix : Nat) (s : State) : Host.Outcome State Fault Refusal :=
  match s.circuit ix with
  | some c => .next (if c.state = cUp then s.startMove ix true else s)
  | none => .next s

/-- CIRCUIT_MOVE_DONE (R461, R464): the link has trained on the alternate, or, within 100 µs of a change of alternate, on the
former one that the endpoint took. -/
def execCircuitMoveDone (ix w : Nat) (s : State) : Host.Outcome State Fault Refusal :=
  match s.opt.moving.find? fun m => m.1 = ix with
  | none => .next s
  | some m => match s.circuit ix with
    | none => .next s
    | some c =>
      if w ≠ m.2.1 ∧ ¬(s.slotHeld c.fibre w ∧ s.slotHealthy c.fibre w ∧ s.slotUsage c.fibre w ≠ useCircuit ∧ s.slotUsage c.fibre w ≠ usePacket) then .next s
      else
        let old := c.lambda
        let s1 : State := { s with opt := { s.opt with moving := s.opt.moving.filter fun x => x.1 ≠ ix } }
        let s2 := s1.setCircuit ix { c with lambda := w % 16, state := if c.state = cReleasing then cReleasing else cUp }
        let s3 := ((s2.setUsage c.fibre (w % 16) useCircuit).setWave (slotNo c.fibre (w % 16)) true).degradeWhere fun it => it.running && s.onCircuit ix it
        .next ((((s3.freeSlot c.fibre old).count F.OPT_MOVES_COUNT).event F.OPT_EVENTS_MOVED).event F.FAB_EVENTS_CIRCUIT_MOVED)

/-- ALTERNATE_HOLD_EXPIRED (R464). -/
def execAlternateHoldExpired (k w : Nat) (s : State) : Host.Outcome State Fault Refusal :=
  let gone (h : Nat × Nat × Nat) : Bool := decide (h.1 = k) && decide (h.2.1 = w) && s.elapsed h.2.2 100000
  if s.opt.held.any gone then
    let s1 : State := { s with opt := { s.opt with held := s.opt.held.filter fun h => !gone h } }
    .next (s1.claimWaiting k)
  else .next s

/-! ### Lasers and spares -/

/-- FAILED_SLOTS of a tile: failed slots for which no spare is being switched in. -/
def State.syncFailedSlots (s : State) (t : Nat) : State :=
  let failed := (List.range 64).filter fun n =>
    s.bit F.OPT_Fk_LAMBDA_FAILED (n % 16) (4 * t + n / 16) && !(s.opt.switching.any fun x => x.2.1 = slotNo (4 * t + n / 16) (n % 16))
  s.setf F.OPT_Tt_STATUS_FAILED_SLOTS failed.length t

/-- A slot has failed: its circuit or packets move, and a free spare of its wavelength is switched in (R444, R446). -/
def State.failSlot (s : State) (k w : Nat) (txWorks : Bool) : State :=
  let t := k / 4
  let j := w / 2
  let s1 := (s.putBit F.OPT_Fk_LAMBDA_FAILED w true k).slotFaults [(slotNo k w, txWorks)]
  let free := !s1.bit F.OPT_Tt_STATUS_SPARE_USED j t && !s1.bit F.OPT_Tt_STATUS_SPARE_FAILED j t && !(s1.opt.switching.any fun x => x.1 = 8 * t + j)
  let s2 : State := if free then { s1 with opt := { s1.opt with switching := s1.opt.switching ++ [(8 * t + j, slotNo k w, s.now)] } }
    else s1.event F.OPT_EVENTS_SPARES_OUT
  s2.syncFailedSlots t

/-- LASER_FAILED (R445, R446): laser `n` of a tile, 64 to 71 the spares. The laser of a slot that a spare serves is dark already. -/
def execLaserFailed (t n : Nat) (s : State) : Host.Outcome State Fault Refusal :=
  if 4 ≤ t ∨ 72 ≤ n then .next s
  else
    let s1 := (s.count F.OPT_LASER_FAIL_COUNT).event F.OPT_EVENTS_LASER_FAIL
    if n < 64 then
      let k := 4 * t + n / 16
      let spared := s.opt.spares.any fun x => x.2 = slotNo k (n % 16)
      .next (if s.pairLit k && !spared && !s.bit F.OPT_Fk_LAMBDA_FAILED (n % 16) k then s1.failSlot k (n % 16) false else s)
    else
      let j := n - 64
      let s2 := (s1.putBit F.OPT_Tt_STATUS_SPARE_FAILED j true t).putBit F.OPT_Tt_STATUS_SPARE_USED j false t
      let sw := s2.opt.switching.filter fun x => x.1 ≠ 8 * t + j
      let s3 : State := { s2 with opt := { s2.opt with switching := sw, spares := tdel (8 * t + j) s2.opt.spares } }
      match tfind (8 * t + j) s.opt.spares with
      | some slot => .next (s3.failSlot (slot / 16) (slot % 16) false)
      | none => .next (if s.opt.switching.any fun x => x.1 = 8 * t + j then (s3.event F.OPT_EVENTS_SPARES_OUT).syncFailedSlots t else s3)

/-- A slot works again: its wavelength comes up if it carries packets, and it may be reserve or claimed. -/
def State.slotBack (s : State) (k w : Nat) : State :=
  let s1 := if s.slotUsage k w = usePacket ∧ s.slotHealthy k w ∧ s.pairLit k then s.setWave (slotNo k w) true else s
  (s1.syncReserve k).claimWaiting k

/-- SPARE_SWITCHED (R446): the spare is tuned, locked and verified, or its rings would not lock to it. -/
def execSpareSwitched (t j : Nat) (ok : Bool) (s : State) : Host.Outcome State Fault Refusal :=
  match s.opt.switching.find? fun x => x.1 = 8 * t + j with
  | none => .next s
  | some (_, slot, _) =>
    let k := slot / 16
    let w := slot % 16
    let s1 : State := { s with opt := { s.opt with
      switching := s.opt.switching.filter fun x => x.1 ≠ 8 * t + j
      relocking := s.opt.relocking.filter fun x => x.1 / 2 ≠ slot
      unlocked := s.opt.unlocked.filter fun x => x ≠ slot } }
    if ok then
      let s2 : State := { s1 with opt := { s1.opt with spares := tput (8 * t + j) slot s1.opt.spares } }
      let s3 := ((s2.putBit F.OPT_Tt_STATUS_SPARE_USED j true t).putBit F.OPT_Fk_LAMBDA_FAILED w false k).putBit F.OPT_Fk_LAMBDA_WRONG w false k
      .next (((s3.event F.OPT_EVENTS_SPARE_USED).slotBack k w).syncFailedSlots t)
    else .next (((s1.putBit F.OPT_Tt_STATUS_SPARE_FAILED j true t).event F.OPT_EVENTS_SPARES_OUT).syncFailedSlots t)

/-! ### The lock loop -/

/-- What a loop period finds of a ring: ring `2 * slot + (0 modulator, 1 drop)`, difference of the two sums, lock error,
decided pilot (R453, R454, R458). -/
abbrev RingReading := Nat × Int × Nat × Nat

/-- The heater of a ring within its tile. -/
def ringHeater (ring : Nat) : Nat := ring / 2 % 64 + 64 * (ring % 2)

def sgn16 (n : Nat) : Int := if n < 2 ^ 15 then n else (n : Int) - 2 ^ 16

/-- Crosstalk coefficient q of a tile (OPT_Tt_XT). -/
def State.xtCoef (s : State) (t q : Nat) : Int :=
  let k := 450 * t + q / 4
  sgn16 (s.f (if q % 4 = 0 then F.OPT_Tt_XT_COEF0 else if q % 4 = 1 then F.OPT_Tt_XT_COEF1 else if q % 4 = 2 then F.OPT_Tt_XT_COEF2 else F.OPT_Tt_XT_COEF3) k)

/-- Sensor `i` of a tile (OPT_Tt_TEMP). -/
def State.tileTemp (s : State) (t i : Nat) : Int :=
  sgn16 (s.f (if i % 4 = 0 then F.OPT_Tt_TEMP_TEMP0 else if i % 4 = 1 then F.OPT_Tt_TEMP_TEMP1 else if i % 4 = 2 then F.OPT_Tt_TEMP_TEMP2 else F.OPT_Tt_TEMP_TEMP3) (4 * t + i / 4))

def nat16 (v : Int) : Nat := (v % 2 ^ 16).toNat

/-- The sensors of a tile written. -/
def State.setTemps (s : State) (t : Nat) (temps : List Int) : State :=
  let s1 := temps.zipIdx.foldl (fun (s : State) (x : Int × Nat) =>
    s.setf (if x.2 % 4 = 0 then F.OPT_Tt_TEMP_TEMP0 else if x.2 % 4 = 1 then F.OPT_Tt_TEMP_TEMP1 else if x.2 % 4 = 2 then F.OPT_Tt_TEMP_TEMP2 else F.OPT_Tt_TEMP_TEMP3)
      (nat16 x.1) (4 * t + x.2 / 4)) s
  match temps with
  | [] => s1
  | x :: xs => s1.setf F.OPT_Tt_STATUS_TEMP_MAX (nat16 (xs.foldl max x)) t

/-- The feedforward of a heater, in units of 2^-14 (R471). -/
def State.feedforward (s : State) (t h : Nat) : Int :=
  let sens := (List.range 16).map fun i =>
    (s.tileTemp t i - (tfind (16 * t + i) s.opt.sensor0).getD 0) * (tfind (16 * (256 * t + h) + i) s.opt.sensorCoef).getD 0
  sens.sum + (tfind t s.opt.lag).getD 0 * sgn16 (s.f F.OPT_FF_LEVEL_GAIN)

/-- Targets, lag and drives of a tile after a loop period (R453, R467, R471); drives in units of 2^-28, those of the rings as the second
half of the period has them, lowered by the dither. -/
def State.driveTile (s : State) (t : Nat) (rs : List RingReading) : State :=
  let tgt := rs.foldl (fun (m : Tab Int) (r : RingReading) =>
    let key := 256 * t + ringHeater r.1
    tput key ((tfind key m).getD 0 + Config.lockStep key r.2.1) m) s.opt.target
  let lag := Config.levelLag (max 1 (s.f F.OPT_FF_TAU)) ((tfind t s.opt.lag).getD 0) (s.f F.SEQ_FORECAST_LEVEL)
  let s1 : State := { s with opt := { s.opt with target := tgt, lag := tput t lag s.opt.lag, level := s.f F.SEQ_FORECAST_LEVEL } }
  let power (h : Nat) : Int := (tfind (256 * t + h) s1.opt.target).getD 0 * 2 ^ 14 + s1.feedforward t h
  let dither (r : Nat) : Int := if r < 128 then Config.ditherStep (256 * t + r) (max 1 (s.f F.OPT_LOCK_DITHER)) else 0
  let row (r : Nat) : Int := ((List.range 9).map fun d => if 4 ≤ r + d ∧ r + d - 4 < 200 then s1.xtCoef t (9 * r + d) * power (r + d - 4) else 0).sum - dither r
  { s1 with opt := { s1.opt with drive := (List.range 200).foldl (fun (m : Tab Int) h => tput (256 * t + h) (row h) m) s1.opt.drive } }

/-- One 20 µs period of the PPE's locks (R455): its temperature, its heaters, and its lock errors against PPE_LOCK.TOL. -/
def State.ppeLoop (s : State) (temps : List Int) (rings : List RingReading) : State :=
  let s1 := match temps with
    | [] => s
    | x :: xs => s.setf F.PPE_TEMP_NOW (nat16 (xs.foldl max x))
  let s2 := rings.foldl (fun (s : State) r => s.noteLockErr r.1 r.2.2.1) (s1.ppeHeaters (rings.map fun r => (r.1, r.2.1)))
  if s2.ppeInLock then (if s2.f F.PPE_STATUS_LOCKED = 1 then s2 else s2.ppeLock) else s2.ppeUnlock

/-- LOCK_LOOP_PERIOD (R453 to R460, R467, R471): one 20 µs period of a tile, or as tile 4 of the PPE (R455), with what it reads of each
ring. -/
def execLockLoopPeriod (t : Nat) (temps : List Int) (rings : List RingReading) (s : State) : Host.Outcome State Fault Refusal :=
  if t = 4 then .next (s.ppeLoop temps rings)
  else if 4 ≤ t ∨ !s.tileMayLight t then .next s
  else
    let rs := rings.filter fun r => decide (r.1 / 2 / 64 = t) && s.pairLit (r.1 / 2 / 16) && !(s.opt.relocking.any fun x => x.1 = r.1)
      && !s.bit F.OPT_Fk_LAMBDA_FAILED (r.1 / 2 % 16) (r.1 / 2 / 16)
    let s1 := (s.setTemps t (temps.take 16)).driveTile t rs
    let faults := rs.filter fun r => s.f F.OPT_LOCK_TOL < r.2.2.1
    let wrong := rs.filter fun r => !(s.f F.OPT_LOCK_TOL < r.2.2.1) && decide (r.2.2.2 ≠ r.1 / 2 % 16) && decide (r.2.2.2 < 16)
    let badSlots := ((faults ++ wrong).map fun r => r.1 / 2).dedup
    let before := s.opt.unlocked.filter fun x => x / 64 = t
    let seen := (rs.map fun r => r.1 / 2).dedup
    let nowBad := ((faults.map fun r => r.1 / 2).dedup)
    let keep := (s.opt.unlocked.filter fun x => !seen.contains x) ++ nowBad
    let s2 : State := { s1 with opt := { s1.opt with unlocked := keep, relocking := s1.opt.relocking ++ wrong.map fun r => (r.1, s.now) } }
    let s3 := wrong.foldl (fun (s : State) r => s.putBit F.OPT_Fk_LAMBDA_WRONG (r.1 / 2 % 16) true (r.1 / 2 / 16)) s2
    let s4 := ((s3.count F.OPT_LOCK_FAULT_COUNT faults.length).eventIf (!faults.isEmpty) F.OPT_EVENTS_LOCK_FAULT)
    let s5 := ((s4.count F.OPT_WRONG_LOCK_COUNT wrong.length).eventIf (!wrong.isEmpty) F.OPT_EVENTS_WRONG_LOCK)
    let tx (x : Nat) : Bool := !((faults ++ wrong).any fun r => r.1 = 2 * x)
    let s6 := s5.slotFaults (badSlots.map fun x => (x, tx x))
    let back := before.filter fun x => seen.contains x && !badSlots.contains x
    .next (back.foldl (fun (s : State) x => s.slotBack (x / 16) (x % 16)) s6)

/-- RING_RELOCKED (R459). -/
def execRingRelocked (ring : Nat) (s : State) : Host.Outcome State Fault Refusal :=
  if s.opt.relocking.any fun x => x.1 = ring then
    let left := s.opt.relocking.filter fun x => x.1 ≠ ring
    let s1 : State := { s with opt := { s.opt with relocking := left } }
    let k := ring / 32
    let w := ring / 2 % 16
    .next (if left.any fun x => x.1 / 2 = ring / 2 then s1 else (s1.putBit F.OPT_Fk_LAMBDA_WRONG w false k).slotBack k w)
  else .next s

/-- RELOCK_TIMEOUT (R446, R459). -/
def execRelockTimeout (ring : Nat) (s : State) : Host.Outcome State Fault Refusal :=
  match s.opt.relocking.find? fun x => x.1 = ring with
  | none => .next s
  | some x =>
    if s.elapsed x.2 (s.f F.OPT_LOCK_RELOCK * 1000) then
      let s1 : State := { s with opt := { s.opt with relocking := s.opt.relocking.filter fun y => y.1 / 2 ≠ ring / 2 } }
      .next (s1.failSlot (ring / 32) (ring / 2 % 16) true)
    else .next s

/-! ### Crosstalk calibration -/

/-- A slot of a tile is up (R469, R470). -/
def State.tileSlotUp (s : State) (t : Nat) : Bool := (List.range 4).any fun i => decide (s.f F.FAB_Fk_CFG_UP (4 * t + i) ≠ 0)

/-- A FULL command (R469) on the tiles of a bit map. -/
def State.calFull (s : State) (tiles : Nat) : State :=
  let ts := (List.range 4).filter fun t => tiles.testBit t
  if ts.any fun t => s.tileSlotUp t || s.bit F.OPT_STATUS_CALIBRATING t then s.setf F.OPT_CAL_RESULT Status.refusedBusy.code
  else ts.foldl (fun (s : State) t =>
    let s1 : State := { s with opt := { s.opt with calStart := tput t s.now s.opt.calStart } }
    s1.putBit F.OPT_STATUS_CALIBRATING t true) s

/-- OPT_CAL_FULL (R469). -/
def execOptCalFull (tiles : Nat) (s : State) : Host.Outcome State Fault Refusal :=
  .next ((s.setf F.OPT_CAL_TILES tiles).calFull (tiles % 16))

/-- OPT_CAL_DONE (R469): 40 ms after its start, a tile's matrix measured, as words of OPT_Tt_XT. -/
def execOptCalDone (t : Nat) (xt : List Word) (s : State) : Host.Outcome State Fault Refusal :=
  if t < 4 ∧ s.bit F.OPT_STATUS_CALIBRATING t ∧ s.elapsed ((tfind t s.opt.calStart).getD 0) 40000000 then
    let s1 := ((xt.take 450).zipIdx).foldl (fun (s : State) (x : Word × Nat) => s.setReg R.OPT_Tt_XT (450 * t + x.2) x.1) s
    let s2 := (s1.putBit F.OPT_STATUS_CALIBRATING t false).setf F.OPT_CAL_RESULT Status.done.code
    let temps := (List.range 16).foldl (fun (m : Tab Int) i => tput (16 * t + i) (s2.tileTemp t i) m) s2.opt.sensor0
    .next ({ s2 with opt := { s2.opt with sensor0 := temps, calStart := tdel t s2.opt.calStart } }.event F.OPT_EVENTS_CAL_DONE)
  else .next s

/-! ### Automatic power reduction and laser enables -/

/-- APR_TRIP (R474, R476): no light on any wavelength of an enabled fibre pair for OPT_APR.TRIP. -/
def execAprTrip (k : Nat) (s : State) : Host.Outcome State Fault Refusal :=
  if k < 16 ∧ s.pairLit k then
    let s1 := (((s.putBit F.OPT_STATUS_APR k true).event F.OPT_EVENTS_APR_TRIP).count F.OPT_APR_TRIPS_COUNT).darkPair .failedLink k
    .next (({ s1 with opt := { s1.opt with burstAt := tput k s.now s1.opt.burstAt } }).syncTile (k / 4))
  else .next s

/-- APR_BURST (R475). -/
def execAprBurst (k : Nat) (s : State) : Host.Outcome State Fault Refusal :=
  if k < 16 ∧ s.pairApr k ∧ s.pairEnabled k ∧ s.tileMayLight (k / 4)
      ∧ s.elapsed ((tfind k s.opt.burstAt).getD 0) (max 100 (s.f F.OPT_APR_PERIOD) * 1000000) then
    match (List.range 16).find? fun w => s.bit F.FAB_Fk_CFG_PKT_LAMBDAS w k with
    | some w => .next (({ s with opt := { s.opt with burstAt := tput k s.now s.opt.burstAt } }).emit (.burst k w (min 2000 (s.f F.OPT_APR_BURST))))
    | none => .next s
  else .next s

/-- APR_CLEAR (R475): light has been received on the fibre pair for 10 ms, and every ring has been relocked and checked. -/
def execAprClear (k : Nat) (s : State) : Host.Outcome State Fault Refusal :=
  if k < 16 ∧ s.pairApr k ∧ s.pairEnabled k ∧ s.tileMayLight (k / 4) then
    let s1 := ((s.putBit F.OPT_STATUS_APR k false).event F.OPT_EVENTS_APR_CLEAR).syncTile (k / 4)
    let pkts := (List.range 16).filter fun w => s1.bit F.FAB_Fk_CFG_PKT_LAMBDAS w k && s1.slotHealthy k w
    let s2 := pkts.foldl (fun (s : State) w => s.setWave (slotNo k w) true) s1
    .next ((s2.syncReserve k).claimWaiting k)
  else .next s

/-- The enabled fibre pairs of a tile start in automatic power reduction (R475). -/
def State.tileToApr (s : State) (t : Nat) : State :=
  ((List.range 4).foldl (fun (s : State) i =>
    let k := 4 * t + i
    if s.pairEnabled k then
      let s1 := s.putBit F.OPT_STATUS_APR k true
      { s1 with opt := { s1.opt with burstAt := tput k s.now s1.opt.burstAt } }
    else s) s).syncTile t

/-- A tile goes dark: circuit items end with a status, its circuits are freed, its packet pairs move (R679, R751). -/
def State.darkTile (s : State) (t : Nat) (st : Status) : State :=
  ((List.range 4).foldl (fun (s : State) i => if s.pairEnabled (4 * t + i) then s.darkPair st (4 * t + i) else s) s).syncTile t

/-- LASER_EN_CHANGE (R751). -/
def execLaserEnChange (t : Nat) (high : Bool) (s : State) : Host.Outcome State Fault Refusal :=
  if 4 ≤ t ∨ s.bit F.PWR_PINS_LASER_EN_N t = high then .next s
  else
    let s1 := s.putBit F.PWR_PINS_LASER_EN_N t high
    .next (if high then s1.darkTile t .failedLink else s1.tileToApr t)

end Sys2Proof.Machine
end

