-- ==== Sys2Proof/Machine/Twilight.lean ====
section
/-! DEFINITION. Twilight (R677 to R681): DISABLE, the deadline, dark units and ENABLE; what follows when a sector goes dark
for a patch or an in-service test (R682, R683, R714). -/

namespace Sys2Proof.Machine

/-! ### Patches -/

/-- A sector reset (R741): its own fields return to their reset values; its suspect mark stands (R721). -/
def State.resetSector (s : State) (n : Nat) : State :=
  let z (r : Reg) : Word := BitVec.ofNat 64 r.rst
  (((s.setSec n secReset).setReg R.ARR_SECn_LANE_OPS n (z R.ARR_SECn_LANE_OPS)).setReg R.BIST_SECn_MISR n (z R.BIST_SECn_MISR)).setReg
    R.BIST_SECn_LAST n (z R.BIST_SECn_LAST)

/-- A sector put in line for BIST (R711). -/
def State.askBist (s : State) (n set why : Nat) (patch : Bool) : State :=
  let r : BistRun := { sector := n, set := set, why := why, started := none, stayDark := false, patch := patch }
  { s with bist := { s.bist with runs := s.bist.runs ++ [r] } }

/-- The end of a patch (R682): its status, its load's end. -/
def State.endPatch (s : State) (n : Nat) (st : Status) : State :=
  let s1 : State := { s with img := { s.img with patch := none, purpose := tdel n s.img.purpose } }
  ((((s1.setf F.IMG_PATCH_RESULT st.code).setf F.IMG_PATCH_STEP 0).setf F.IMG_STATUS_RESULT st.code).event
    F.IMG_EVENTS_PATCHED).endLoad st [] false

/-- The record and signatures of a patch replace the active image's, in one view generation (R682, R683). -/
def State.replacePatch (s : State) (n : Nat) (p : PatchRun) : State :=
  let sigs := p.image.sigs.foldl (fun t kv => tput kv.1 kv.2 t) s.bist.sigs
  let s1 : State := { s with bist := { s.bist with sigs := sigs }, img := { s.img with sectors := tput n p.enable s.img.sectors } }
  s1.commitView.endPatch n .done

/-- A patch goes on once its sector is out of service: to its end with ENABLE clear, to BIST with it set (R682). -/
def State.patchOn (s : State) (n : Nat) (p : PatchRun) : State :=
  let put (s : State) (k : Nat) : State :=
    ({ s with img := { s.img with patch := some { p with step := k } } }).setf F.IMG_PATCH_STEP k
  if p.enable then ((put s 3).resetSector n).askBist n 1 3 true
  else ((if s.unitDark n then put s 2 else (put s 2).markDark n)).replacePatch n p

/-! ### Units -/

/-- The deadline of a unit set; an earlier one stands (R677). -/
def State.setDeadline (s : State) (u d : Nat) : State :=
  let t := s.now + d * 1000
  let t1 := match tfind u s.img.deadlines with | some old => min old t | none => t
  { s with img := { s.img with deadlines := tput u t1 s.img.deadlines } }

def State.clearDeadline (s : State) (u : Nat) : State := { s with img := { s.img with deadlines := tdel u s.img.deadlines } }

/-- The row that waits at the cursor of a track entering Twilight ends with REFUSED_BUSY (R81); it is recorded once, and the
cursor stays (R69). -/
def State.refusePending (s : State) (n : Nat) : State :=
  let it := s.mkItem n (s.cursor n) (s.activeRow (s.cursor n)) none
  (s.addItem { it with waitTaken := false }).endItem it.id .refusedBusy

/-- A unit enters Twilight with a deadline of `d` µs (R677); one already in it takes the earlier deadline. -/
def State.startDrain (s : State) (u d : Nat) : State :=
  if s.unitDark u then s
  else if s.unitDraining u then s.setDeadline u d
  else
    let s1 := (s.setDeadline u d).putBit F.IMG_DRAINING_UNITS u true
    if u < 8 then (if s1.healthy u then s1.setSec u secTwilight else s1)
    else if u < 24 then
      let n := u - 8
      let s2 := (s1.setTrack n tkDraining).syncTrack n
      if s.hasPending n then s2.refusePending n else s2
    else s1.driveTx s

/-- A sector goes dark (R677, R679); what the drain was for follows (R682, R714). -/
def State.sectorDark (s : State) (n : Nat) (moved : List Nat) : State :=
  let s1 := if s.secState n = secTwilight then s.sectorLoss n moved else s
  let s2 := s1.markDark n
  match tfind n s2.img.purpose, s2.img.patch with
  | some 1, _ => s2.askBist n 1 2 false
  | some 3, some p => s2.patchOn n p
  | _, _ => s2

/-- The photonic engine's items in flight run their bands on the array (R679); an item that has not started is started
there, or refused as its engine refuses it. -/
def State.ppeToArray (s : State) : State :=
  let mine := (s.seq.items.filter fun it => decide (rowOpcode it.row = opProject) && rowPpe it.row).map Item.id
  mine.foldl (fun (s : State) id =>
    match s.item id with
    | none => s
    | some it =>
      if it.running then s.ppeFinish
      else match s.startPpe it with
        | .refuse st => (s.refuseReport it st).refuseItem id st
        | .fail st => s.startFailed it st
        | _ => if s.ppe.item.isSome then s else (s.startItem it).ppeFinish) s.ppeFinish

/-- REDUCE_COUNT_WAIT (R125, R137): a rounding REDUCE or PROJECT has waited for its count beyond the limit. -/
def execReduceCountWait (id : Nat) (s : State) : Host.Outcome State Fault Refusal :=
  match s.item id with
  | none => .next s
  | some it =>
    let waits := it.running && ((decide (rowOpcode it.row = opReduce) && (decide (it.phase = 1) || decide (it.phase = phAbsent)) && !s.countsFull it)
      || (decide (rowOpcode it.row = opProject) && decide (it.phase = 1)))
    .next (s.eventIf (waits && decide (0 < s.f F.SEQ_WATCHDOG_LIMIT) && s.longer it.phaseAt (s.f F.SEQ_WATCHDOG_LIMIT * 10 ^ 6))
      F.ARR_EVENTS_COUNT_WAIT)

/-- The work that the sector which redid an array item's tiles goes on with (R147): the fold of a piece, the commit of an ORTHO, or the
rest of a band of a PPE item; the last of these lets a dark engine's further bands run (R679). -/
def State.redone (s : State) (it : Item) (sector : Nat) : State :=
  if rowOpcode it.row = opOrtho then s.commitOrtho it sector
  else if rowPpe it.row then
    let s1 := (s.updItem it.id fun i => { i with phase := 0 }).bandDone it
      (arrayFolds (s.opHdr it.row) (s.bandOf it.row s.ppe.band)) sector
    if s1.unitDark unitPpe then s1.ppeToArray else s1
  else s.foldPiece it sector

/-- Whether the work that was done again mismatches by its own bits (R144, R147). -/
def State.redoDiffers (s : State) (it : Item) : Bool :=
  let h := s.opHdr it.row
  if it.phase = phReround then false
  else if rowOpcode it.row = opOrtho then s.orthoDiffers it.row
  else if rowPpe it.row then tilesDiffer h.wide (s.f F.ARR_ABFT_TOL) (max 1 h.rank) (bandTiles h (s.bandOf it.row s.ppe.band))
  else s.pieceDiffers it.row

/-- The bytes that a redo of an array item touches. -/
def State.redoDescs (s : State) (it : Item) : List Desc :=
  if rowOpcode it.row = opOrtho then [rowDst it.row] else s.projectDescs it.row

/-- ARRAY_REDO_DONE (R143, R147, R148): the redo of a PROJECT or ORTHO ends; `again` says that it mismatched in `sector`. -/
def execArrayRedoDone (id sector : Nat) (again : Bool) (s : State) : Host.Outcome State Fault Refusal :=
  match s.item id with
  | none => .next s
  | some it =>
    let h := s.opHdr it.row
    let cls := if rowOpcode it.row = opOrtho then 3 else loadClass h.inFmt h.otherFmt
    let s1 := s.helpDone id
    if !it.running ∨ (it.phase ≠ phRedo ∧ it.phase ≠ phReround) ∨ !(rowOnArray it.row || decide (rowOpcode it.row = opProject)) then .next s
    else if again || s.redoDiffers it then
      .next (((s1.chargeMismatch sector cls it).event F.ARR_EVENTS_REDO_FAILED).endItem id .failedChecksum sector)
    else s.within (s.redoDescs it) (if it.phase = phReround then s1.settleHeld it sector else s1.redone it sector)

/-- A tile goes dark in Twilight (R679). -/
def State.tileDark (s : State) (t : Nat) : State :=
  let on (it : Item) : Bool := rowOnCircuit it.row && (match s.circuit (s.circuitIx it.row) with
    | some c => decide (c.fibre / 4 = t)
    | none => false)
  (((s.endWhere on .failedDisabled).markDark (unitTile t)).darkTile t .failedDisabled)

/-- IOD-B goes dark (R679): route B of every session, CL4 to CL7. -/
def State.iodBDark (s : State) : State :=
  let s1 := s.declared.foldl (fun (s : State) n => s.routeDown n 1) (s.markDark unitIodB)
  [4, 5, 6, 7].foldl (fun (s : State) k => s.linkDown k) s1

/-- A unit goes dark with the work that remains on it treated as R679 lays down. -/
def State.goDark (s : State) (u : Nat) (moved : List Nat) : State :=
  let s0 := s.clearDeadline u
  if u < 8 then s0.sectorDark u moved
  else if u < 24 then
    let n := u - 8
    let s1 := s0.stopTrackItems n fun s id => s.endItem id .failedDisabled
    ((s1.setTrack n tkDark).syncTrack n).markDark u
  else if u = unitPpe then
    s0.ppeToArray.markDark u
  else if u < 29 then s0.tileDark (u - 25)
  else if u = unitIodB then s0.iodBDark
  else s0

/-- No item is in flight on a unit (R677). For a sector, what lane work it holds is not shown: only array work and help to
other sectors keep it from going dark before its deadline (DEDUCED); for IOD-B, cipher work and transfers (DEDUCED). -/
def State.unitIdle (s : State) (u : Nat) : Bool :=
  if u < 8 then s.arrayItem.isNone && !(s.arr.helping.any fun h => h.1 = u)
  else if u < 24 then (s.trackItems (u - 8)).isEmpty
  else if u = unitPpe then !s.ppeInFlight
  else if u < 29 then
    !(s.seq.items.any fun it => rowOnCircuit it.row && (match s.circuit (s.circuitIx it.row) with
      | some c => decide (c.fibre / 4 = u - 25)
      | none => false))
  else !(s.seq.items.any fun it => [opSeal, opOpen, opSend, opRecv].contains (rowOpcode it.row))

/-! ### Commands -/

/-- The fit check of R680: sector `n` and every sector outside the healthy set missing. -/
def State.fitsWithout (s : State) (n : Nat) : Bool :=
  !s.imageActive || s.fitsWith (s.healthyList.filter (· ≠ n)).length

/-- The in-service test or patch that a sector is under (R716). -/
def State.testing (s : State) (n : Nat) : Bool := s.bist.runs.any fun r => r.sector = n

/-- A sector under test that a DISABLE tells to stay dark (R716). -/
def State.stayDark (s : State) (n : Nat) : State :=
  { s with bist := { s.bist with runs := s.bist.runs.map fun r => if r.sector = n then { r with stayDark := true } else r } }

/-- DISABLE of a unit: its code and effect (R677, R680, R716). -/
def State.disable (s : State) (u d : Nat) : Status × State :=
  if 30 ≤ u then (.refusedBusy, s)
  else if u < 8 ∧ s.testing u then (.done, s.stayDark u)
  else if u < 8 ∧ !s.unitOut u ∧ !s.fitsWithout u then (.refusedFit, s)
  else (.done, s.startDrain u d)

/-- ENABLE of a unit: its code and effect (R677, R679, R716). A retired sector is not enabled (log entry 29). -/
def State.enable (s : State) (u : Nat) : Status × State :=
  if 30 ≤ u ∨ s.unitDraining u then (.refusedBusy, s)
  else if u < 8 ∧ (s.testing u ∨ s.bit F.BIST_STATUS_RETIRED u) then (.refusedBusy, s)
  else if !s.unitDark u then (.done, s)
  else if u < 8 then (.done, (s.resetSector u).askBist u 1 3 false)
  else if u < 24 then (.done, ((s.markRunning u).setTrack (u - 8) tkHalted).syncTrack (u - 8))
  else if u = unitPpe then (.done, (s.markRunning u).askQuickCal)
  else if u < 29 then (.done, (s.markRunning u).tileToApr (u - 25))
  else (.done, (s.markRunning u).driveTx s)

/-- The outcome of a Twilight command shown in its register. -/
def State.twilightResult (r : Status × State) : State := r.2.setf F.IMG_TWILIGHT_RESULT r.1.code

/-- DISABLE (R677, R680). -/
def execDisable (u d : Nat) (s : State) : Host.Outcome State Fault Refusal := .next (State.twilightResult (s.disable u d))

/-- ENABLE (R677, R679). -/
def execEnable (u : Nat) (s : State) : Host.Outcome State Fault Refusal := .next (State.twilightResult (s.enable u))

/-- TWILIGHT_DEADLINE (R677 to R679): `moved` names the lane, encoder and decoder items that a sector worked for. -/
def execTwilightDeadline (u : Nat) (moved : List Nat) (s : State) : Host.Outcome State Fault Refusal :=
  match tfind u s.img.deadlines with
  | some t => .next (if s.unitDraining u ∧ t ≤ s.now then s.goDark u moved else s)
  | none => .next s

/-- UNIT_DARK (R677). -/
def execUnitDark (u : Nat) (s : State) : Host.Outcome State Fault Refusal :=
  .next (if u < 30 ∧ s.unitDraining u ∧ s.unitIdle u then s.goDark u [] else s)

end Sys2Proof.Machine
end

