-- ==== Sys2Proof/Machine/Bist.lean ====
section
/-! DEFINITION. Self-test and retirement (R708 to R722) and the end of a sector patch's test (R682). -/

namespace Sys2Proof.Machine

/-- The order in which sectors are tested (R713). -/
def bistOrder : List Nat := [0, 2, 4, 6, 1, 3, 5, 7]

/-- Duration of a pattern set in ns (R708). -/
def bistNs (set : Nat) : Nat := if set = 2 then 60000000 else 12000000

/-- TESTING and PHASE brought up to date. -/
def State.syncBist (s : State) : State :=
  let testing := (s.bist.runs.filter fun r => r.started.isSome).map BistRun.sector
  let phase := match s.bist.runs with
    | r :: _ => r.why
    | [] => if s.bist.cycle.isSome then 2 else 0
  ((s.setf F.BIST_STATUS_TESTING (bitsOf testing)).setf F.BIST_STATUS_PHASE phase).setf F.BIST_STATUS_ONE_AT_A_TIME
    (if s.bist.runs.isEmpty then 0 else s.f F.BIST_STATUS_ONE_AT_A_TIME)

/-! ### The in-service cycle -/

/-- Whether R715 skips the test of sector `n`. -/
def State.skipsTest (s : State) (n : Nat) : Bool :=
  ((List.range 8).any fun m => decide (m ≠ n) && !s.healthy m) || s.img.patch.isSome || s.seq.swap.isSome || !s.fitsWithout n

/-- The cycle's next sector sent into Twilight, or the cycle ended (R714, R715). -/
def State.nextInCycle (s : State) : Nat → State
  | 0 => s
  | fuel + 1 =>
    match s.bist.cycle with
    | none => s
    | some [] =>
      ({ s with bist := { s.bist with cycle := none, cycleEnd := s.now } }.event F.BIST_EVENTS_CYCLE_DONE).syncBist
    | some (n :: rest) =>
      let s1 : State := { s with bist := { s.bist with cycle := some rest } }
      if !s.healthy n ∨ s.suspect n ∨ s.unitOut n then s1.nextInCycle fuel
      else if s.skipsTest n then (s1.countEv F.BIST_SKIPPED_COUNT F.BIST_EVENTS_SKIPPED).nextInCycle fuel
      else
        let s2 : State := { s1 with img := { s1.img with purpose := tput n 1 s1.img.purpose } }
        (s2.startDrain n (s.f F.BIST_CFG_DEADLINE)).syncBist

/-- An in-service cycle starts (R714). -/
def State.startCycle (s : State) : State :=
  ({ s with bist := { s.bist with cycle := some (bistOrder.filter s.healthy) } }).nextInCycle 9

/-- BIST_PERIOD (R714): the period since the last cycle's end has passed; 0 disables it. Without an image there are no
signatures to test against (DEDUCED). -/
def execBistPeriod (s : State) : Host.Outcome State Fault Refusal :=
  let p := s.f F.BIST_CFG_PERIOD
  if 0 < p ∧ s.imageActive ∧ s.bist.cycle.isNone ∧ s.elapsed s.bist.cycleEnd (p * 3600 * 10 ^ 9) then .next s.startCycle
  else .next s

/-- RUN_NOW: its code and effect (BIST_CTRL). -/
def State.runNow (s : State) : Status × State :=
  if s.bist.cycle.isSome ∨ !s.imageActive then (.refusedBusy, s) else (.done, s.startCycle)

/-- UNRETIRE: its code and effect (R722). -/
def State.unretire (s : State) (n : Nat) : Status × State :=
  if !s.bit F.BIST_STATUS_RETIRED n ∨ s.testing n then (.refusedBusy, s) else (.done, (s.askBist n 2 4 false).syncBist)

/-- The outcome of a BIST command shown in its register. -/
def State.bistResult (r : Status × State) : State := r.2.setf F.BIST_CTRL_RESULT r.1.code

/-- RUN_NOW (R714). -/
def execRunNow (s : State) : Host.Outcome State Fault Refusal := .next (State.bistResult s.runNow)

/-- UNRETIRE (R722). -/
def execUnretire (n : Nat) (s : State) : Host.Outcome State Fault Refusal :=
  .next (if n < 8 then State.bistResult (s.unretire n) else s)

/-! ### One test -/

/-- Whether R711 and R712 allow a start now. -/
def State.mayTest (s : State) : Bool :=
  let k := (s.bist.runs.filter fun r => r.started.isSome).length
  let mv := s.f F.PWR_VIN_MV
  decide (k < 2) && (match s.bist.lastStart with | some t => s.elapsed t 2000000 | none => true) && decide (40000 ≤ mv)
    && (decide (42200 ≤ mv) || decide (k = 0))

/-- BIST_START (R711 to R713): the next test in line starts, sector `n`. -/
def execBistStart (n : Nat) (s : State) : Host.Outcome State Fault Refusal :=
  match s.bist.runs.find? fun r => r.started.isNone with
  | none => .next s
  | some r =>
    if r.sector ≠ n then .next s
    else if !s.mayTest then .next (s.setf F.BIST_STATUS_ONE_AT_A_TIME (b2n (decide (s.f F.PWR_VIN_MV < 42200))))
    else
      let go (x : BistRun) : BistRun := { x with started := some s.now }
      let s1 : State := { s with bist := { s.bist with
        runs := lmodify (fun x => decide (x.sector = n) && x.started.isNone) go s.bist.runs, lastStart := some s.now } }
      .next (((if r.why = 2 then s1.resetSector n else s1).setf F.BIST_STATUS_ONE_AT_A_TIME 0).syncBist)

/-- The signature that a run is held against (R708, R709); none: no signature is held, and the test fails. -/
def State.expectedSig (s : State) (r : BistRun) (boot : Word) : Option Nat :=
  if r.set = 0 then some boot.toNat
  else if r.patch then s.img.patch.bind fun p => (tfind (8 * r.set + r.sector) p.image.sigs).map Prod.snd
  else (tfind (8 * r.set + r.sector) s.bist.sigs).map Prod.snd

/-- The bins of a sector cleared (R721, R722). -/
def State.clearBins (s : State) (n : Nat) : State :=
  { s with bist := { s.bist with bins := s.bist.bins.filter fun kv => decide (kv.1 / 68 ≠ n) } }

/-- What a test's result does (R679, R682, R710, R714, R716, R722). A patch does not re-admit a retired sector (R684). -/
def State.afterBist (s : State) (r : BistRun) (pass : Bool) : State :=
  let n := r.sector
  let s1 := if pass then s
    else if r.why = 4 then s.setSec n secRetired else s.setSec n secUnusable
  if r.patch then
    match s1.img.patch with
    | none => s1
    | some p =>
      if pass then
        let s2 := s1.setf F.IMG_PATCH_STEP 4
        (if s.bit F.BIST_STATUS_RETIRED n then s2.setSec n secRetired else s2.sectorJoins n).replacePatch n p
      else (s1.setf F.IMG_PATCH_STEP 5).endPatch n .failedChecksum
  else if r.why = 1 then (if pass then s1.sectorJoins n else s1)
  else if r.why = 4 then
    if pass then ((((s1.putBit F.BIST_STATUS_RETIRED n false).clearBins n).setSec n secTwilight).event
      F.BIST_EVENTS_UNRETIRED).setf F.BIST_CTRL_RESULT Status.done.code
    else s1.setf F.BIST_CTRL_RESULT Status.failedChecksum.code
  else if r.stayDark then (if pass then s1.setSec n secTwilight else s1)
  else if pass then s1.sectorJoins n
  else s1

/-- BIST_END (R710, R714, R716, R719, R722): the test of sector `n` ends with signature `misr`; `boot` is the signature that
the firmware carries for pattern set 0. -/
def execBistEnd (n : Nat) (misr boot : Word) (sramFail hbmFail : Bool) (s : State) : Host.Outcome State Fault Refusal :=
  match s.bist.runs.find? fun r => decide (r.sector = n) && r.started.isSome with
  | none => .next s
  | some r =>
    if !s.elapsed (r.started.getD 0) (bistNs r.set) then .next s
    else
      let pass := decide (s.expectedSig r boot = some misr.toNat) && !sramFail && !hbmFail
      let s1 : State := { s with bist := { s.bist with runs := s.bist.runs.erase r
                                                       retireAfter := s.bist.retireAfter.filter (· ≠ n) }
                                 img := { s.img with purpose := if r.patch then s.img.purpose else tdel n s.img.purpose } }
      let s2 := ((((((s1.setf F.BIST_SECn_MISR_MISR misr.toNat n).setf F.BIST_SECn_LAST_RESULT
        (if pass then Status.done.code else Status.failedChecksum.code) n).setf F.BIST_SECn_LAST_SET r.set n).setf
        F.BIST_SECn_LAST_SRAM_FAIL (b2n sramFail) n).setf F.BIST_SECn_LAST_HBM_FAIL (b2n hbmFail) n).setf
        F.BIST_SECn_LAST_TIME (s.tb3 % 2 ^ 32) n).count F.BIST_RUNS_COUNT
      let s3 := (if pass then s2 else s2.countEv F.BIST_FAILS_COUNT F.BIST_EVENTS_FAILED).putBit F.BIST_STATUS_UNUSABLE n (!pass)
      let s4 := s3.afterBist r pass
      let s5 := if s.bist.retireAfter.contains n then s4.retireNow n [] else s4
      .next ((if r.why = 2 then s5.nextInCycle 9 else s5).syncBist)

end Sys2Proof.Machine
end

