-- ==== Sys2Proof/Machine/Events.lean ====
section
/-! DEFINITION. The event controller (R619 to R626) and the delivery of a constellation's records by its pole (R642). -/

namespace Sys2Proof.Machine

/-! ### Sources -/

/-- The events register of word w (R619), words 1 to 21. -/
def eventWord : Nat → Option Nat
  | 1 => some R.SEQ_EVENTS.base | 2 => some R.ARR_EVENTS.base | 3 => some R.CMP_EVENTS.base | 4 => some R.PPE_EVENTS.base
  | 5 => some R.COL_EVENTS.base | 6 => some R.PEER_EVENTS.base | 7 => some R.PEER_FAULT_EVENTS.base
  | 8 => some R.LINE_EVENTS.base | 9 => some R.FAB_EVENTS.base | 10 => some R.OPT_EVENTS.base
  | 11 => some R.MEM_EVENTS.base | 12 => some R.BPM_EVENTS.base | 13 => some R.CIPH_EVENTS.base
  | 14 => some R.SCH_EVENTS.base | 15 => some R.TIME_EVENTS.base | 16 => some R.HOST_EVENTS.base
  | 17 => some R.CST_EVENTS.base | 18 => some R.IMG_EVENTS.base | 19 => some R.SEC_EVENTS.base
  | 20 => some R.BIST_EVENTS.base | 21 => some R.PWR_EVENTS.base | _ => none

/-- The word whose events register stands at an address. -/
def wordOfEvents (a : Nat) : Option Nat := (List.range 22).find? fun w => eventWord w = some a

/-- The level a pin rests at (R754): PPS_IN low, the others high. -/
def pinRest (i : Nat) : Bool := decide (i ≠ 26)

/-- The accepted level of pin source `i` of word 31 (R620, R752). -/
def State.pinLevel (s : State) (i : Nat) : Bool := (tfind i s.evt.pins).getD (pinRest i)

/-- Whether a source is asserted now as a level (R620). -/
def State.sourceLevel (s : State) (src : Nat) : Bool :=
  let w := src / 32
  if w = 31 then
    decide (src % 32 < 28) && (s.pinLevel (src % 32) != decide (s.f F.EVT_SRCs_CFG_INVERT src = 1))
  else match eventWord w with
    | some a => (s.word a).toNat.testBit (src % 32)
    | none => false

def State.edgeSource (s : State) (src : Nat) : Bool := decide (src / 32 = 31) && decide (s.f F.EVT_SRCs_CFG_EDGE src = 1)

/-! ### Targets -/

/-- Target t in service (EVT_STATUS). -/
def State.targetUp (s : State) (t : Nat) : Bool := s.bit F.EVT_STATUS_TGT_UP t

/-- The enabled target in service that takes a source's next assertion (R621). -/
def State.nextTarget (s : State) (src : Nat) : Option Nat :=
  let ok := (List.range 12).filter fun t => s.bit F.EVT_SRCs_CFG_TARGETS t src && s.targetUp t
  match tfind src s.evt.last with
  | some l => (ok.find? fun t => decide (l < t)).or ok.head?
  | none => ok.head?

/-- PENDING of EVT_STATUS. -/
def State.syncGathered (s : State) : State :=
  s.setf F.EVT_STATUS_PENDING (bitsOf ((List.range 12).filter fun t => s.evt.gathered.any fun g => decide (g.1 % 16 = t) && decide (g.2 ≠ [])))

/-- A record gathered at target t for an origin (R622, R642). -/
def State.gather (s : State) (origin t : Nat) (r : EvRec) : State :=
  let k := 16 * origin + t
  let old := (tfind k s.evt.gathered).getD []
  ({ s with evt := { s.evt with
      gathered := tput k (addRec old r) s.evt.gathered
      gatherAt := if old = [] then tput k s.now s.evt.gatherAt else s.evt.gatherAt } }).syncGathered

/-- Assertions of a source sent to its next target, or kept until one returns (R621); at a member that is not the pole, those
for host channels go to the pole (R642). -/
def State.route1 (s : State) (r : EvRec) : State :=
  match s.nextTarget r.source with
  | none => ({ s with evt := { s.evt with held := addRec s.evt.held r } }).setf F.EVT_SRCs_CFG_HELD 1 r.source
  | some t =>
    let s1 : State := { s with evt := { s.evt with last := tput r.source t s.evt.last } }
    let s2 := (s1.setf F.EVT_SRCs_CFG_LAST_TGT t r.source).setf F.EVT_SRCs_CFG_HELD 0 r.source
    if 4 ≤ t ∧ s2.cstMember then (s2.holdRec (t - 4) r).flushHeld else s2.gather 0 t r

/-- One assertion of a source (R621). -/
def State.assertSource (s : State) (src : Nat) : State :=
  s.route1 { completion := false, status := 0, source := src, count := 1, tag := 0, time := s.tb3 }

/-- Assertions that found no target, tried again (R621). -/
def State.retryHeld (s : State) : State :=
  s.evt.held.foldl State.route1 { s with evt := { s.evt with held := [] } }

/-- A target enters or leaves service (R621). -/
def State.setTarget (s : State) (t : Nat) (up : Bool) : State :=
  let s1 := s.putBit F.EVT_STATUS_TGT_UP t up
  if up then s1.retryHeld else s1

/-- A level source sampled (R621, R623): one assertion when it becomes asserted. -/
def State.sample (s : State) (src : Nat) : State :=
  if s.f F.EVT_SRCs_CFG_ENABLE src = 0 ∨ s.edgeSource src then s
  else if s.sourceLevel src then
    if s.f F.EVT_SRCs_CFG_ASSERTED src = 1 then s
    else (s.setf F.EVT_SRCs_CFG_ASSERTED 1 src).assertSource src
  else s.setf F.EVT_SRCs_CFG_ASSERTED 0 src

/-- Service of an assertion complete (R623): a level source still asserted asserts anew. -/
def State.served (s : State) (src : Nat) : State :=
  if s.edgeSource src then s else (s.setf F.EVT_SRCs_CFG_ASSERTED 0 src).sample src

/-- EVENT_ASSERT (R621). -/
def execEventAssert (src : Nat) (s : State) : Host.Outcome State Fault Refusal :=
  if src < 1024 then .next (s.sample src) else .next s

/-! ### Delivery -/

/-- The EXPIN generation that seals the gateway's own messages (R588, R592): the newest live one that can still encrypt. -/
def State.expinGen (s : State) : Option (Nat × KeyGen) :=
  match s.expinSlot with
  | some k => ((s.liveGens k).find? fun g => g.allows 1).map fun g => (k, g)
  | none => none

/-- COUNT and TIME of a target; 0 acts as 1. -/
def State.deliverDue (s : State) (k : Nat) : Bool :=
  let t := k % 16
  let rs := (tfind k s.evt.gathered).getD []
  decide (rs ≠ []) && (decide (max 1 (s.f F.EVT_TGTt_CFG_COUNT t) ≤ (rs.map EvRec.count).sum) ||
    s.elapsed ((tfind k s.evt.gatherAt).getD 0) (max 1 (s.f F.EVT_TGTt_CFG_TIME t) * 1000))

def State.channelMsgs (s : State) (c : Nat) : List EvMsg := (tfind c s.evt.outstanding).getD []

def State.setChannel (s : State) (c : Nat) (ms : List EvMsg) : State :=
  ({ s with evt := { s.evt with outstanding := tput c ms s.evt.outstanding } }).setf F.EVT_ECn_CFG_OUTSTANDING ms.length c

/-- The records a channel would send now for an origin: gathered assertions that are due, then completions. -/
def State.channelRecs (s : State) (origin c : Nat) : List EvRec × List EvRec :=
  (if s.deliverDue (16 * origin + 4 + c) then (tfind (16 * origin + 4 + c) s.evt.gathered).getD [] else [],
   (tfind (16 * origin + c) s.evt.completions).getD [])

/-- Delivery on a host channel (R622, R624, R626, R592): at most 256 records and 16 messages outstanding, under a live EXPIN
generation. -/
def State.deliverChannel (s : State) (origin c : Nat) : State :=
  let (evs, comps) := s.channelRecs origin c
  if (evs = [] ∧ comps = []) ∨ 16 ≤ (s.channelMsgs c).length ∨ s.f F.EVT_ECn_CFG_ENABLE c = 0 then s
  else match s.expinGen with
    | none => s
    | some (k, g) =>
      let e1 := evs.take 256
      let c1 := comps.take (256 - e1.length)
      let seq := (tfind g.gen s.evt.seqs).getD 0
      let s1 : State := { s with evt := { s.evt with
        gathered := if evs = [] then s.evt.gathered else tput (16 * origin + 4 + c) (evs.drop 256) s.evt.gathered
        completions := tput (16 * origin + c) (comps.drop c1.length) s.evt.completions
        seqs := tput g.gen ((seq + 1) % 2 ^ 32) s.evt.seqs } }
      let s2 := (s1.setChannel c (s.channelMsgs c ++ [EvMsg.mk seq origin g.gen (e1 ++ c1) s.now])).setf F.EVT_ECn_SEQ_LAST seq c
      ((s2.countInvoc k g.gen 1).sendOut (.hostEvent c seq origin (e1 ++ c1))).syncGathered

/-- Delivery to a management processor: an interrupt (R622). -/
def State.interruptMp (s : State) (t : Nat) : State :=
  if s.deliverDue t then
    let rs := (tfind t s.evt.gathered).getD []
    let old := (tfind t s.evt.delivered).getD []
    ((({ s with evt := { s.evt with
        gathered := tput t [] s.evt.gathered
        delivered := tput t (old ++ rs.map EvRec.source) s.evt.delivered } }).syncGathered).emit (.interrupt t (rs.map EvRec.source)))
  else s

/-- EVENT_DELIVER of target `t` (R622, R624, R626); at the pole, `origin` names the member whose records it delivers, by its
position plus one, 0 for its own. -/
def execEventDeliver (t origin : Nat) (s : State) : Host.Outcome State Fault Refusal :=
  if 12 ≤ t ∨ 64 < origin then .next s
  else if t < 4 then .next (if origin = 0 then s.interruptMp t else s)
  else .next (s.deliverChannel origin (t - 4))

/-- EVENT_RESEND of channel `c` (R626): every message whose RETRY has passed, unchanged. -/
def execEventResend (c : Nat) (s : State) : Host.Outcome State Fault Refusal :=
  let due (m : EvMsg) : Bool := s.elapsed m.sentAt (max 1 (s.f F.EVT_ECn_CFG_RETRY c) * 1000000)
  let ms := s.channelMsgs c
  if c < 8 ∧ ms.any due then
    let s1 := s.setChannel c (ms.map fun m => if due m then { m with sentAt := s.now } else m)
    .next ((ms.filter due).foldl (fun (s : State) m => s.sendOut (.hostEvent c m.sequence m.origin m.recs)) s1)
  else .next s

/-- MP_EVENT_HANDLED (R623): processor `t` reports an assertion of a source handled. -/
def execMpEventHandled (t src : Nat) (s : State) : Host.Outcome State Fault Refusal :=
  let l := (tfind t s.evt.delivered).getD []
  if t < 4 ∧ l.contains src then
    .next (({ s with evt := { s.evt with delivered := tput t (l.erase src) s.evt.delivered } }).served src)
  else .next s

/-- The host's acknowledgement of an EVENT message (R623, R625): `seq` on channel `c`. The records of another member are
sampled there, and the pole tells it. -/
def State.ackEvent (s : State) (c seq : Nat) : State :=
  match (s.channelMsgs c).find? fun m => m.sequence = seq with
  | none => s
  | some m =>
    let s1 := s.setChannel c ((s.channelMsgs c).erase m)
    let srcs := (m.recs.filter fun r => !r.completion).map EvRec.source
    if m.origin = 0 then srcs.foldl State.served s1
    else s1.emit (.member (m.origin - 1) mkEvents 1 (srcs.flatMap (beBytes 2)))

/-- The operation EVENT of a request (R625): its answer and effect. -/
def State.serveEvent (s : State) (body : List Byte) : Status × State :=
  if body.length ≠ 8 ∨ beNat ((body.drop 2).take 2) ≠ 0 ∨ 8 ≤ beNat (body.take 1) then (.refusedFit, s)
  else (.done, s.ackEvent (beNat (body.take 1)) (beNat (body.drop 4)))

/-- The records a member sends its pole, 33 bytes each (R642). -/
def recsOf (bs : List Byte) : List (Nat × EvRec) :=
  (chunks 33 (bs.length / 33) bs).map fun b =>
    (beNat (b.take 1), { completion := decide (beNat ((b.drop 1).take 1) = 2), status := beNat ((b.drop 2).take 1)
                         source := beNat ((b.drop 3).take 2), count := beNat ((b.drop 9).take 8)
                         tag := beNat ((b.drop 17).take 8), time := beNat ((b.drop 25).take 8) })

/-- CST_EVENT_RECORD_RECEIVE (R642): records of the member at `pos` arrive at the pole. -/
def execCstEventRecordReceive (pos : Nat) (bs : List Byte) (s : State) : Host.Outcome State Fault Refusal :=
  if s.f F.CST_STATUS_IS_POLE = 0 ∨ s.f F.CST_STATUS_MEMBERS ≤ pos then .next s
  else .next ((recsOf bs).foldl (fun (s : State) e =>
    if 8 ≤ e.1 then s
    else if e.2.completion then
      { s with evt := { s.evt with
        completions := tput (16 * (pos + 1) + e.1) ((tfind (16 * (pos + 1) + e.1) s.evt.completions).getD [] ++ [e.2]) s.evt.completions } }
    else s.gather (pos + 1) (4 + e.1) e.2) s)

end Sys2Proof.Machine
end

