-- ==== Sys2Proof/Machine/Collective.lean ====
section
/-! DEFINITION. Ad hoc collectives: SUBMIT, admission, holding and parking (R251 to R263, R612, R613, R644). -/

namespace Sys2Proof.Machine

/-- The body of SUBMIT (R612): template, channel, ID, elements, source and destination descriptors. -/
structure SubmitBody where
  template : Nat
  channel : Nat
  id : Nat
  elems : Nat
  src : Nat
  dst : Nat
  deriving DecidableEq, Repr

/-- The fields of a SUBMIT body, none where its length or a reserved field is wrong (R593, R612). -/
def submitOf (bs : List Byte) : Option SubmitBody :=
  if bs.length = 40 ∧ hdrAt bs 3 3 = 0 ∧ hdrAt bs 12 4 = 0 ∧ hdrAt bs 24 8 < 2 ^ 52 ∧ hdrAt bs 32 8 < 2 ^ 52 ∧ hdrAt bs 2 1 < 8 then
    some { template := hdrAt bs 0 2, channel := hdrAt bs 2 1, id := hdrAt bs 6 6, elems := hdrAt bs 16 8, src := hdrAt bs 24 8, dst := hdrAt bs 32 8 }
  else none

/-- The rows of the active set that name a template, in row order. -/
def State.templateRows (s : State) (c : Nat) : List (Nat × Row256) :=
  s.seq.active.filter fun kv => decide (kv.1 < s.f F.SEQ_ROWS_ACTIVE) && opUsesStream (rowOpcode kv.2) && decide (rowColl kv.2 = c)

/-- The staging of one stream of an entry (R247), a chunk being no longer than `elems` elements. -/
def State.streamStaging (s : State) (c elems stream : Nat) : Nat :=
  let g := s.seg (s.ctx stream)
  let depth := s.f F.COL_ENTRY_D_DEPTH c
  let size := max 1 (fmtSize g.inFmt)
  let u := min elems (2 ^ s.f F.COL_ENTRY_D_CHUNK_LOG2 c / size)
  let bytes := u * size
  depth * (2 * bytes + 48 * u + bytes + 2 * u * fmtSize g.outFmt + 48 * u)
    + s.f F.COL_ENTRY_D_WAITING c * (2 * ((u + 255) / 256) * cblockSize g.rate)

/-- The whole staging of a SUBMIT (R253). -/
def State.submitClaim (s : State) (b : SubmitBody) : Nat :=
  ((((s.templateRows b.template).map fun kv => rowStream kv.2).dedup).map fun st => s.streamStaging b.template b.elems st).sum

/-- The template's rows with the values of the SUBMIT in place: SRC in the first row that has one, DST in the last. -/
def substituteRows (rows : List (Nat × Row256)) (src dst : Nat) : List (Nat × Row256) :=
  let first := (rows.find? fun kv => rowSrcValid kv.2).map Prod.fst
  let last := (rows.reverse.find? fun kv => rowDstValid kv.2).map Prod.fst
  rows.map fun kv =>
    let r1 := if first = some kv.1 then rowSetSrc kv.2 src else kv.2
    (kv.1, if last = some kv.1 then rowSetDst r1 dst else r1)

/-- An instance admitted: its claim taken, its items put in flight, its parked blocks delivered in order (R253, R261). -/
def State.admitInstance (s : State) (a : AdHoc) : State :=
  let s1 : State := { s with col := { s.col with running := s.col.running ++ [a] } }
  let rows := substituteRows (s1.templateRows a.template) a.src a.dst
  let put (s : State) (kv : Nat × Row256) : State :=
    let it := s.mkItem (rowTrack kv.2) kv.1 kv.2 (some a.id)
    ((s.addItem it).noteInstance it).lookCtx it
  let s2 := rows.foldl put s1
  let mine := s2.col.parked.filter fun p => p.id = a.id % 2 ^ 32
  let s3 : State := { s2 with col := { s2.col with parked := s2.col.parked.filter fun p => p.id ≠ a.id % 2 ^ 32 } }
  let land (s : State) (p : Parked) : State :=
    let b := lineBlk p.bytes
    s.landPart { session := p.session, route := 0, port := 0, blk := b, payload := b.payload } p.bytes
  let s4 := (mine.foldl land s3).setf F.COL_PARK_USED (parkedMib s3.col.parked)
  if rows.isEmpty then (s4.endInstance a).syncAdhoc else s4.syncAdhoc

/-- Whether a SUBMIT holds instead of failing for want of pool space (R255, R256). -/
def State.holdMode (s : State) : Bool := decide (s.f F.CST_STATUS_MODE = 2) && decide (16 ≤ s.f F.CST_STATUS_MEMBERS)

/-- The claimed share is at or above 87.5 % (R256). -/
def State.poolPressed (s : State) : Bool := decide (7 * s.adhocPool ≤ 8 * s.adhocClaimed)

/-- Completion records in a member's store for the pole (R644). -/
def State.heldCompletions (s : State) : Nat := (s.cst.held.filter fun e => e.2.completion).length

/-- SUBMIT carried out: the code, the phase and the state (R181, R251 to R257, R613, R644). -/
def State.submit (s : State) (b : SubmitBody) : Status × Option Nat × State :=
  let a : AdHoc := { id := b.id, template := b.template, channel := b.channel, elems := b.elems, src := b.src, dst := b.dst,
                     claim := s.submitClaim b, outcome := .done }
  let note (s : State) : State :=
    { s with col := { s.col with lastId := some b.id } }.setf F.COL_LAST_ADHOC_ID_ID b.id
  if !s.imageActive || decide (s.f F.COL_STATUS_ENTRIES ≤ b.template) || decide (s.f F.COL_ENTRY_D_FLAGS b.template / 4 % 2 = 0) then
    (.refusedFit, none, s)
  else if s.exact && (s.templateRows b.template).any fun kv => decide (rowOpcode kv.2 = opProject) && rowPpe kv.2 then
    (.refusedMode, none, s)
  else if b.id < 2 ^ 47 || (match s.col.lastId with | some l => decide (b.id ≤ l) | none => false) then
    (.refusedBusy, none, s.event F.COL_EVENTS_ORDER)
  else if 3072 ≤ s.heldCompletions then (.refusedBusy, none, s)
  else if s.adhocPool < a.claim then
    (.refusedFit, none, s.fitReport .refusedFit [FitEntry.mk resPool secCollectives b.template a.claim s.adhocPool])
  else if !s.holdMode then
    if s.adhocPool < s.adhocClaimed + a.claim then
      (.failedPoolEmpty, none, (s.count F.COL_POOL_EMPTY_COUNT).event F.COL_EVENTS_POOL_EMPTY)
    else (.done, some 1, (note s).admitInstance a)
  else if s.poolPressed || !s.col.held.isEmpty || decide (s.adhocPool < s.adhocClaimed + a.claim) then
    if 4096 ≤ s.col.held.length then (.refusedBusy, none, s)
    else
      let s1 := note s
      let s2 : State := { s1 with col := { s1.col with held := s1.col.held ++ [a] } }
      (.done, some 2, ((s2.count F.COL_HELD_COUNT).event F.COL_EVENTS_HELD).syncAdhoc)
  else (.done, some 1, (note s).admitInstance a)

/-- The answer to a SUBMIT: its status and the place in the hold queue (R612). -/
def State.endSubmit (seq : Nat) (r : Status × Option Nat × State) : State :=
  r.2.2.answer seq r.1 0 (match r.2.1 with | some p => [BitVec.ofNat 8 p] | none => [])

/-- A SUBMIT request answered (R613): a refusal in R110's format where it reports a shortfall is read from the registers. -/
def State.takeSubmit (s : State) (q : Req) (body : List Byte) : State :=
  s.alone q fun s => match submitOf body with
    | none => s.respond q.seq .refusedFit
    | some b => State.endSubmit q.seq (s.submit b)

/-- SUBMIT (R251 to R257, R612, R613). -/
def execSubmit (q : Req) (body : List Byte) (s : State) : Host.Outcome State Fault Refusal :=
  .next (s.gated q false fun s => s.takeSubmit q body)

/-- ADHOC_ADMIT (R256): the head of the hold queue admitted when its claim is free and the claimed share below 87.5 %. -/
def execAdhocAdmit (s : State) : Host.Outcome State Fault Refusal :=
  match s.col.held with
  | [] => .next s
  | a :: rest =>
    if s.poolPressed || decide (s.adhocPool < s.adhocClaimed + a.claim) then .next s
    else .next (({ s with col := { s.col with held := rest } }).admitInstance a)

/-- The collective ID whose low 32 bits parked blocks carry: whole where a held SUBMIT names it. Elsewhere the gateway has never seen
the other 16 bits, and COL_LAST_EXPIRED_ID shows a free value there (log entry 4). -/
def State.parkedId (s : State) (low : Nat) : Nat × State :=
  match s.col.held.find? fun a => a.id % 2 ^ 32 = low with
  | some a => (a.id, s)
  | none => (s.fresh.1.toNat % 2 ^ 16 * 2 ^ 32 + low, s.fresh.2)

/-- PARK_EXPIRED (R263): the blocks of an ID parked for COL_PARK.HOLD seconds since their first arrival are discarded; a HOLD of 0
acts as 1. -/
def execParkExpired (low : Nat) (s : State) : Host.Outcome State Fault Refusal :=
  let mine := s.col.parked.filter fun p => p.id = low
  match mine with
  | [] => .next s
  | p :: _ =>
    if !s.elapsed p.at_ (max 1 (s.f F.COL_PARK_HOLD) * 10 ^ 9) then .next s
    else
      let left := s.col.parked.filter fun p => p.id ≠ low
      let x := s.parkedId low
      let s1 : State := { x.2 with col := { x.2.col with parked := left } }
      .next ((((s1.setf F.COL_PARK_USED (parkedMib left)).count F.COL_PARK_EXPIRED_COUNT mine.length).setf F.COL_LAST_EXPIRED_ID_ID
        x.1).event F.COL_EVENTS_PARK_EXPIRED)

end Sys2Proof.Machine
end

