-- ==== Sys2Proof/Machine/ImageFit.lean ====
section
/-! DEFINITION. The fit check of a whole image (R108, R109, R689), run over the state that the image would leave: tier space,
pools, sessions, stream contexts, segment descriptors, collectives, journal space, circuits, signatures. -/

namespace Sys2Proof.Machine

def mibUp (n : Nat) : Nat := (n + 2 ^ 20 - 1) / 2 ^ 20

/-- A shortfall in a section. -/
def short (res sec : Nat) (first : Nat := noIndex) (needed : Nat := 0) (available : Nat := 0) : FitEntry :=
  FitEntry.mk res sec first needed available

/-! ### Space -/

/-- Bytes of the image's reservations in a tier, mirrored ones of S and H twice (R29, R109). -/
def State.regionNeed (t : State) (tier : Nat) : Nat :=
  ((t.conf.regions.filter fun r => r.1 = tier).map fun r => if r.2.2.2 ∧ tier ≤ 1 then 2 * r.2.2.1 else r.2.2.1).sum

/-- Bytes of the pools of tier S (0) or H (1), mirrored ones twice (R502, R504). -/
def State.poolNeed (t : State) (tier : Nat) : Nat :=
  ((List.range 5).map fun c =>
    let p := 2 * c + tier
    t.f F.BPM_POOLp_CFG_COUNT p * bufSize c * (if t.f F.BPM_POOLp_CFG_MIRROR p = 1 then 2 else 1)).sum

/-- Replay areas, mirrored (R26, R286), and the room of bridge credits (R439), in tier H. -/
def State.lineNeed (t : State) : Nat :=
  (t.conf.sess.map fun e => 2 * (e.2.replayA + e.2.replayB)).sum + ((List.range 16).map fun x => 8224 * t.f F.FAB_CREDITSs_POOL x).sum

/-- The streams of a planned entry, by the rows that name it. -/
def State.entryStreams (t : State) (c : Nat) : List Nat := ((t.templateRows c).map fun kv => rowStream kv.2).dedup

def State.plannedEntries (t : State) : List Nat :=
  (List.range (t.f F.COL_STATUS_ENTRIES)).filter fun c => t.f F.COL_ENTRY_D_FLAGS c / 4 % 2 = 0

/-- Staging of every stream of every planned collective (R247): stream and bytes. -/
def State.plannedStaging (t : State) : List (Nat × Nat) :=
  t.plannedEntries.flatMap fun c => (t.entryStreams c).map fun st => (st, t.streamStaging c (2 ^ 64) st)

/-- Whether a row of an opcode names a stream. -/
def State.namedBy (t : State) (ops : List Nat) (st : Nat) : Bool :=
  t.seq.active.any fun kv => decide (kv.1 < t.f F.SEQ_ROWS_ACTIVE) && ops.contains (rowOpcode kv.2) && decide (rowStream kv.2 = st)

/-- Staging of M' of each low-rank stream that pieces project (R250): whole, since its first piece is staged no later than its last
one is consumed (DEDUCED, log entry 103). -/
def State.lowrankStaging (t : State) : List (Nat × Nat) :=
  (t.declaredCtx.filter fun kv => kv.2.segment && (t.seg kv.2).lowrank && t.namedBy [opProject] kv.1).map fun kv =>
    (kv.1, (t.seg kv.2).elems * fmtSize (t.seg kv.2).outFmt)

/-- The staging that the check reserves in tier S, by stream (R247, R250). -/
def State.staging (t : State) : List (Nat × Nat) := t.plannedStaging ++ t.lowrankStaging

/-- Bytes that mirroring the residuals adds in exact mode beyond the regions declared mirrored (R27, R29). -/
def State.residNeed (t : State) (tier : Nat) : Nat :=
  if t.exact then
    pageSize * (t.residPages.filter fun k => decide (k / 2 ^ 32 = tier) && !t.conf.regions.any fun (u, a, n, m) =>
      m && decide (u = tier) && decide (a / pageSize ≤ k % 2 ^ 32) && decide (k % 2 ^ 32 * pageSize < a + n)).length
  else 0

/-- What the regions of the image take of a tier, the gateway's own mirrors among them (R29, R109). -/
def State.structNeed (t : State) (tier : Nat) : Nat :=
  t.regionNeed tier + t.residNeed tier + (if tier = 1 then t.lineNeed else 0)

/-- What the image takes of tiers S and H (R109). -/
def State.imageNeedS (t : State) : Nat := t.structNeed 0 + t.poolNeed 0 + (t.staging.map Prod.snd).sum
def State.imageNeedH (t : State) : Nat := t.structNeed 1 + t.poolNeed 1

/-- An entry about tier space, in MiB. -/
def shortMib (res sec first need avail : Nat) : FitEntry := short res sec first (mibUp need) (avail / 2 ^ 20)

/-- Pools of a tier that do not fit beside `used` bytes of `space` (R504), in pool order: pool buffers needed and available. -/
def State.fitPoolSpace (t : State) (tier space used : Nat) : List FitEntry :=
  ((List.range 5).foldl (fun (a : Nat × List FitEntry) c =>
    let p := 2 * c + tier
    let size := bufSize c * (if t.f F.BPM_POOLp_CFG_MIRROR p = 1 then 2 else 1)
    let n := t.f F.BPM_POOLp_CFG_COUNT p
    (a.1 + n * size, if space < a.1 + n * size ∧ 0 < n then a.2 ++ [short resPool secPools p n ((space - a.1) / size)] else a.2))
    (used, [])).2

/-- The sector that holds the input of a stream's reductions: the primary of the page of its first REDUCE row's SRC, and that
page's secondary, its shadow (R25, R247; DEDUCED, log entry 103). -/
def State.homeOf (t : State) (stream : Nat) : Option (Nat × Option Nat) :=
  match t.seq.active.find? fun kv => decide (rowOpcode kv.2 = opReduce) && decide (rowStream kv.2 = stream) && decide ((rowSrc kv.2).tier = 0) with
  | some kv => (tfind (pageKey 0 (rowSrc kv.2).addr) t.mem.pages).map fun p => (p.primary, p.secondary)
  | none => none

/-- What planned collectives and declared pages take of tier S in sector `n` (R117, R247): staging lies in its stream's home, but
the second copy of the input in its shadow. -/
def State.sectorNeed (t : State) (n : Nat) : Nat :=
  let copy (e : Nat) (st : Nat) : Nat := t.f F.COL_ENTRY_D_DEPTH e * 2 ^ t.f F.COL_ENTRY_D_CHUNK_LOG2 e * (if (t.homeOf st).isSome then 1 else 0)
  t.pagesIn 0 n * pageSize + (t.plannedEntries.flatMap fun c => (t.entryStreams c).map fun st =>
    match t.homeOf st with
    | some (h, sh) => (if h = n then t.streamStaging c (2 ^ 64) st - copy c st else 0) + (if sh = some n then copy c st else 0)
    | none => 0).sum

/-- Sectors whose share of tier S is too small for what R117 and R247 place in them. -/
def State.fitHomes (t : State) : List FitEntry :=
  ((List.range 8).filter fun n => decide (spaceS 1 < t.sectorNeed n)).map fun n =>
    let first := ((t.plannedStaging.map Prod.fst).find? fun st => decide ((t.homeOf st).map Prod.fst = some n)).getD noIndex
    shortMib (resTier 0) secCollectives first (t.sectorNeed n) (spaceS 1)

/-- Every shortfall of tiers S and H with one sector missing (R29, R108, R109, R248, R504), `h` sectors being healthy: the regions
first, the pools after them, the staging of the collectives last. DESIGN CHOICE (log entry 90): the sector that is missing is one
of those healthy when the check runs. -/
def State.fitSH (t : State) (h : Nat) : List FitEntry :=
  let s := spaceS (h - 1)
  let hh := spaceH (h - 1)
  let base := t.structNeed 0 + t.poolNeed 0
  let fill := t.staging.foldl (fun (a : Nat × List FitEntry) x =>
    (a.1 + x.2, if s < a.1 + x.2 ∧ 0 < x.2 ∧ a.2 = [] then [shortMib (resTier 0) secCollectives x.1 t.imageNeedS s] else a.2)) (base, [])
  (if s < t.structNeed 0 then [shortMib (resTier 0) secStruct noIndex (t.structNeed 0) s] else [])
  ++ t.fitPoolSpace 0 s (t.structNeed 0) ++ fill.2 ++ t.fitHomes
  ++ (if hh < t.structNeed 1 then [shortMib (resTier 1) secStruct noIndex (t.structNeed 1) hh] else [])
  ++ t.fitPoolSpace 1 hh (t.structNeed 1)

/-- The ranges of a tier that the image reserves, with their index. -/
def State.regionsOf (t : State) (tier : Nat) : List (Nat × Nat × Nat × Bool) :=
  (t.conf.regions.zipIdx.filter fun r => r.1.1 = tier).map fun r => (r.2, r.1.2.1, r.1.2.2.1, r.1.2.2.2)

/-- The regions of tier D or X counted against what MEM_CAP shows, mirrored ones twice (R109). -/
def State.fitCount (t : State) (tier : Nat) : List FitEntry :=
  let need := ((t.regionsOf tier).map fun r => if r.2.2.2 then 2 * r.2.2.1 else r.2.2.1).sum
  if t.fitCap tier < need then [shortMib (resTier tier) secStruct noIndex need (t.fitCap tier)] else []

/-- Shortfalls of tier D (R109, R486, R488). -/
def State.fitD (t : State) : List FitEntry :=
  let cap := t.fitCap 2
  let rs := t.regionsOf 2
  let copies := (rs.filter fun r => r.2.2.2).map fun r => (r.2.1 + cap / 2, r.2.2.1)
  ((rs.filter fun r => decide (cap < r.2.1 + r.2.2.1) || (r.2.2.2 && decide (cap / 2 < r.2.1 + r.2.2.1)) || rangesMeet copies r.2.1 r.2.2.1).map
    fun r => short (resTier 2) secStruct r.1 (mibUp (r.2.1 + r.2.2.1)) (cap / 2 ^ 20)) ++ t.fitCount 2

/-- Shortfalls of tier X (R109, R492). -/
def State.fitX (t : State) : List FitEntry :=
  let cap := t.fitCap 3
  let places := (xPlaces 0 t.mem.xRanges).zipIdx
  let alone (a n : Nat) : Bool := decide (t.mem.xRanges.length < 2) ||
    places.any fun p => rangesMeet [p.1] a n && decide (t.mem.xRanges.length ≤ Nat.xor p.2 1)
  (((t.regionsOf 3).filter fun r => decide (cap < r.2.1 + r.2.2.1) || (r.2.2.2 && alone r.2.1 r.2.2.1)).map
    fun r => short (resTier 3) secStruct r.1 (mibUp (r.2.1 + r.2.2.1)) (cap / 2 ^ 20)) ++ t.fitCount 3

/-- Journal space for L released steps, counted mirrored (R364, R366): a header of 64 bytes and the source of every JOURNAL
row, twice (DEDUCED, log entry 103). -/
def State.fitJournal (t : State) : List FitEntry :=
  let rows := t.seq.active.filter fun kv => decide (kv.1 < t.f F.SEQ_ROWS_ACTIVE) && decide (rowOpcode kv.2 = opJournal)
  let need := 2 * t.f F.PEER_FAULT_CFG_L * (rows.map fun kv => 64 + (rowSrc kv.2).len).sum
  let have_ := 2 * (t.conf.journal.map fun j => j.2.2).sum
  if have_ < need then
    [short (resTier (if t.conf.journal.any fun j => j.1 = 3 then 3 else 2)) secStruct noIndex (mibUp need) (have_ / 2 ^ 20)]
  else []

/-! ### Structure -/

/-- Regions of S and H that are no whole number of pages, or whose copies share a base die (R480). -/
def State.fitRegions (t : State) : List FitEntry :=
  let odd := (t.conf.regions.zipIdx.filter fun r => decide (r.1.1 ≤ 1) &&
    (decide (r.1.2.1 % pageSize ≠ 0) || decide (r.1.2.2.1 % pageSize ≠ 0) || decide (r.1.2.2.1 = 0))).map Prod.snd
  let near := (t.mem.pages.filter fun p => match p.2.secondary with
    | some m => decide (baseDie m = baseDie p.2.primary)
    | none => false).map Prod.fst
  let holds (r : Nat × Nat × Nat × Bool) (k : Nat) : Bool :=
    decide (r.1 = k / 2 ^ 32) && decide (r.2.1 / pageSize ≤ k % 2 ^ 32) && decide (k % 2 ^ 32 * pageSize < r.2.1 + r.2.2.1)
  let same := (t.conf.regions.zipIdx.filter fun r => near.any (holds r.1)).map Prod.snd
  (odd ++ same.filter fun i => !odd.contains i).map fun i => short resRowForm secStruct i

/-- Key slots: one EXPIN slot (R587), a receive slot of its own for each session (R272). -/
def State.fitSlots (t : State) : List FitEntry :=
  let expin := (t.ciph.uses.filter fun u => u.2 = useExpin).length
  let rx (n : Nat) : Nat := t.f F.PEER_SESSn_RX_SLOT_SLOT n
  let bad := t.declared.filter fun n => decide (t.slotUse (rx n) ≠ useLineRx) || t.declared.any fun m => decide (m < n) && decide (rx m = rx n)
  (if 1 < expin then [short resKeySlots secStruct noIndex expin 1] else []) ++ bad.map fun n => short resKeySlots secStruct n

/-- Replay areas (R286), in MiB. -/
def State.fitReplay (t : State) : List FitEntry :=
  t.conf.sess.flatMap fun e =>
    let big (b : Nat) : List FitEntry := if 32 * 2 ^ 30 < b then [short (resTier 1) secStruct e.1 (mibUp b) 32768] else []
    big e.2.replayA ++ big e.2.replayB ++
      (if 2 ^ 28 < e.2.replayA / 8244 + e.2.replayB / 8244 then [short (resTier 1) secStruct e.1 (mibUp (e.2.replayA + e.2.replayB)) 2110464] else [])

/-! ### Streams -/

/-- Whether a segment descriptor is refused (R189, R190, R113): DECODE writes formats 0x0 and 0x1, and only the form pass of a
low-rank stream one of the others. -/
def segBad (g : Seg) : Bool :=
  let small (present : Bool) (d : Desc) (size : Nat) : Bool := present && decide (d.len < g.elems * size)
  g.reserved || decide (cblockSize g.rate = 0) || decide (4 < g.kind) || (decide (g.kind = 4) != decide (g.rate = 0xF)) || decide (65535 < g.cbSlot)
  || decide (4 < g.inFmt) || decide ((if g.lowrank then 4 else 1) < g.outFmt) || decide (g.cbBase.len < (g.elems + 255) / 256 * cblockSize g.rate)
  || small g.hasBase g.base (fmtSize g.inFmt) || small g.hasResid g.resid 4 || small g.hasRecon g.recon 4
  || (g.lowrank && !(g.hasResid && g.hasRecon))

/-- Whether a stream context is refused (R113, R128, R190, R434, R499, R573). -/
def State.ctxBad (t : State) (st : Nat) (c : Ctx) : Bool :=
  let g := t.seg c
  let slot := if c.send then t.f F.PEER_SESSn_CFG_TX_SLOT c.session else t.f F.PEER_SESSn_RX_SLOT_SLOT c.session
  let bridged := t.fab.circuits.any fun e => decide (2 ≤ e.2.use) && decide (e.2.stream = st)
  c.reserved || decide (st = timeStream) || decide (9 < c.inFmt) || decide (4 < c.outFmt) || decide (c.expect = 0) || decide (65535 < c.expect) || (decide (1 ≤ c.owner) && decide (c.owner ≤ 7))
  || (if c.keySlot ≠ 0 then decide (c.cls < 2) || decide (5 < c.cls) || !t.declared.contains c.session || decide (c.keySlot ≠ slot)
      else decide (c.session ≠ 0) || decide (c.cls ≠ 0) || t.namedBy [opSeal, opOpen, opSend, opRecv] st || bridged || t.isBridge st)
  || (decide (c.owner = 0) && c.segment && g.hasResid && t.namedBy [opEncode] st)
  || (c.segment && segBad g)

def State.fitStreams (t : State) : List FitEntry :=
  (t.declaredCtx.filter fun kv => t.ctxBad kv.1 kv.2).map fun kv => short resStreams secStruct kv.1

/-! ### Collectives, circuits, pools -/

/-- Whether a collective entry is refused (R236). -/
def State.collBad (t : State) (c : Nat) : Bool :=
  let n := t.f F.COL_ENTRY_A_SITES c
  let ring := t.f F.COL_ENTRY_B_RING c
  let sites := ringSites ring n
  let fl := t.f F.COL_ENTRY_D_FLAGS c
  let kind := t.f F.COL_ENTRY_A_KIND c
  let adhoc := decide (fl / 4 % 2 = 1)
  let id := t.f F.COL_ENTRY_A_ID c
  decide (n < 2) || decide (16 < n) || decide (16 ^ n ≤ ring) || decide (sites.dedup.length ≠ n) || sites.any (fun x => !t.conf.sites.testBit x)
  || decide (sites[t.f F.COL_ENTRY_D_MY_POS c]? ≠ some t.conf.site) || decide (kind < 1) || decide (3 < kind) || decide (8 ≤ fl)
  || decide (t.f F.COL_ENTRY_D_DEPTH c < 1) || decide (8 < t.f F.COL_ENTRY_D_DEPTH c)
  || decide (t.f F.COL_ENTRY_D_CHUNK_LOG2 c < 16) || decide (24 < t.f F.COL_ENTRY_D_CHUNK_LOG2 c) || decide (t.f F.COL_ENTRY_D_WAITING c < 1)
  || (decide (fl / 2 % 2 = 1) && decide (kind ≠ 3)) || (decide (id / 2 ^ 47 % 2 = 1) != adhoc)
  || (!adhoc && (List.range c).any fun d => decide (t.f F.COL_ENTRY_D_FLAGS d / 4 % 2 = 0) && decide (t.f F.COL_ENTRY_A_ID d = id))

/-- The COLLECTIVES section, given its entries (R235, R236): the size of the table, the entries that lie in it, their reserved bytes. -/
def State.fitColl (t : State) (es : List (List Byte)) : List FitEntry :=
  (if 16384 < es.length then [short resCollectives secCollectives noIndex es.length 16384] else []) ++
    (((es.take 16384).zipIdx.filter fun e => t.collBad e.2 || decide (leNat (e.1.drop 30) ≠ 0)).map fun e =>
      short resRowForm secCollectives e.2)

/-- Circuits and wavelengths (R417, R427, R434, R450). -/
def State.fitCircuits (t : State) : List FitEntry :=
  let pkt (k : Nat) : Nat := t.f F.FAB_Fk_CFG_PKT_LAMBDAS k
  let bare := (List.range 4).filter fun x => (List.range 4).all fun i => decide (pkt (4 * x + i) = 0)
  let uses (k : Nat) : Bool := t.fab.circuits.any fun c => decide (c.2.fibre = k)
  let tight := (List.range 16).filter fun k =>
    let r := t.f F.OPT_Fk_CFG_RESERVE k
    (uses k && decide (r = 0)) || decide (15 < ((List.range 16).filter fun w => (pkt k).testBit w).length + r)
  let flows := (t.fab.circuits.filter fun c => decide (c.2.use = 3) &&
    !((t.seg (t.ctx c.2.stream)).fixedCb && [2, 3].contains (t.seg (t.ctx c.2.stream)).kind)).map Prod.fst
  (if 4096 < t.fab.circuits.length then [short resCircuits secCircuits noIndex t.fab.circuits.length 4096] else [])
    ++ bare.map (fun _ => short resCircuits secStruct) ++ tight.map (fun _ => short resCircuits secCircuits)
    ++ flows.map fun i => short resRowForm secCircuits i

/-- Pools and accounts (R503, R504). -/
def State.fitPools (t : State) : List FitEntry :=
  let pool := (List.range 10).flatMap fun p =>
    let cnt := t.f F.BPM_POOLp_CFG_COUNT p
    let mins := ((List.range 64).map fun a => (t.bpm.limit a p).1).sum
    let bad := (List.range 64).filter fun a =>
      let l := t.bpm.limit a p
      decide (l.2 < l.1) || decide (cnt < l.2) || (decide (4 ≤ a) && decide (a ≤ 7) && decide (l ≠ (0, 0)))
    (if cnt < mins then [short resPool secPools p mins cnt] else []) ++ bad.map fun a => short resPool secPools a (t.bpm.limit a p).1 cnt
  let owners := ((t.declaredCtx.filter fun kv => kv.2.segment && (t.seg kv.2).hasResid && t.namedBy [opEncode] kv.1).map fun kv => kv.2.owner).dedup
  let plain := owners.filter fun a => (List.range 5).any fun c =>
    decide (0 < (t.bpm.limit a (2 * c + 1)).2) && decide (t.f F.BPM_POOLp_CFG_MIRROR (2 * c + 1) = 0)
  pool ++ (if t.exact then plain.map fun a => short resPool secPools a else [])

/-- Tokens of a bound member: a wait on a token of another member, a post to an owner that is not there (R646). -/
def State.fitTokens (t : State) : List FitEntry :=
  if t.f F.CST_STATUS_MODE ≠ 1 then []
  else
    let owner (c : Nat) : Nat := (c - 3840) / 32
    let bad (r : Row256) : Bool :=
      (rowWait r).any (fun c => decide (3840 ≤ c) && decide (c < 4096) && decide (owner c ≠ t.f F.CST_STATUS_POSITION)) ||
      (rowPost r).any (fun c => decide (3840 ≤ c) && decide (c < 4096) && decide (t.f F.CST_STATUS_MEMBERS ≤ owner c))
    (t.seq.active.filter fun kv => decide (kv.1 < t.f F.SEQ_ROWS_ACTIVE) && bad kv.2).map fun kv => short resTokens secAlmanac kv.1

/-- Signatures: one for every sector in set 1 and in set 2, of the entries (sector, set) given (R709). -/
def fitSigs (sectors : List Nat) (es : List (Nat × Nat)) : List FitEntry :=
  if decide (es.dedup.length ≠ es.length) || sectors.any (fun n => !es.contains (n, 1) || !es.contains (n, 2))
      || es.any (fun e => !sectors.contains e.1 || !([1, 2].contains e.2)) then [short resRowForm secBistsig] else []

/-- An image without OPTCAL that enables a fibre pair or holds a PPE row (R663). -/
def State.fitOptcal (t : State) (has : Bool) : List FitEntry :=
  if !has && ((List.range 16).any (fun k => decide (t.f F.OPT_Fk_CFG_ENABLE k = 1))
      || t.seq.active.any (fun kv => decide (kv.1 < t.f F.SEQ_ROWS_ACTIVE) && rowPpe kv.2)) then [short resRowForm secOptcal] else []

/-- What the check finds of an Almanac set beside its rows (R97, R109): tokens, streams, tier space, journal space. -/
def State.fitSet (t : State) (h : Nat) : List FitEntry :=
  t.fitTokens ++ t.fitStreams ++ t.fitSH h ++ t.fitD ++ t.fitX ++ t.fitJournal

/-- The state as it would be with a set active. -/
def State.withSet (t : State) (a : AlmSet) : State :=
  ({ t with seq := { t.seq with active := a.rows } }).setf F.SEQ_ROWS_ACTIVE a.count

/-- The fit check of an Almanac set against the active image (R97, R109). -/
def State.fitSwap (s : State) (a : AlmSet) : Status × List FitEntry :=
  let e := s.fitEnv
  fitResult (e.modeRows a) (e.almanac a ++ (s.withSet a).fitSet s.healthyList.length)

/-- The Almanac set of an image. -/
def Image.set (im : Image) : AlmSet := { rows := im.rows, count := im.count, entries := im.entries }

/-- The fit check of a FULL image over the state it would leave, `h` sectors being healthy. -/
def State.fitFull (t : State) (im : Image) (h : Nat) : Status × List FitEntry :=
  let e := t.fitEnv
  let a := im.set
  fitResult (e.modeRows a)
    (e.almanac a ++ t.fitSet h ++ t.fitRegions ++ t.fitSlots ++ t.fitReplay ++ t.fitColl im.colls ++ t.fitCircuits ++ t.fitPools
      ++ fitSigs (List.range 8) im.sigIds ++ t.fitOptcal im.optcal)

end Sys2Proof.Machine
end

