-- ==== Sys2Proof/Machine/ImageFile.lean ====
section
/-! DEFINITION. The image file (R657 to R667) and checks 1 to 8 of a load (R669). -/

namespace Sys2Proof.Machine

/-! ### The header and the section table -/

/-- A little-endian field of a byte list. -/
def leAt (bs : List Byte) (o n : Nat) : Nat := leNat ((bs.drop o).take n)

/-- A section entry (R660). -/
structure SecEnt where
  type : Nat
  flags : Nat
  member : Nat
  rsvd : Nat
  crc : Nat
  off : Nat
  len : Nat
  plain : Nat
  deriving DecidableEq, Repr

/-- The header (R658). -/
structure ImgHdr where
  magic : Nat
  kind : Nat
  stepping : Nat
  version : Nat
  sigLen : Nat
  total : Nat
  base : Nat
  owner : Nat
  sector : Nat
  crc : Nat
  count : Nat
  secs : List SecEnt
  deriving DecidableEq, Repr

def secEntOf (bs : List Byte) (o : Nat) : SecEnt :=
  { type := leAt bs o 1, flags := leAt bs (o + 1) 1, member := leAt bs (o + 2) 1, rsvd := leAt bs (o + 3) 1, crc := leAt bs (o + 4) 4
    off := leAt bs (o + 8) 8, len := leAt bs (o + 16) 8, plain := leAt bs (o + 24) 8 }

def imgHdrOf (bs : List Byte) : ImgHdr :=
  let n := leAt bs 6 2
  { magic := leAt bs 0 4, kind := leAt bs 4 1, stepping := leAt bs 5 1, version := leAt bs 8 4, sigLen := leAt bs 12 4
    total := leAt bs 16 8, base := leAt bs 24 32, owner := leAt bs 56 1, sector := leAt bs 57 1, crc := leAt bs 60 4, count := n
    secs := (List.range (min n 126)).map fun i => secEntOf bs (64 + 32 * i) }

/-- Image kinds (R659). -/
def imFull : Nat := 1
def imAlmanac : Nat := 2
def imPatch : Nat := 3

def SecEnt.encrypted (e : SecEnt) : Bool := e.flags.testBit 0

/-- The stored bytes of a section. -/
def SecEnt.stored (e : SecEnt) (bs : List Byte) : List Byte := (bs.drop e.off).take e.len

/-- Section types a kind must and may carry (R663). -/
def kindMust (kind : Nat) : List Nat := if kind = imFull then [1, 2, 3, 8, 9] else if kind = imAlmanac then [2] else [1, 8]
def kindMay (kind : Nat) : List Nat := if kind = imFull then [4, 5, 6, 7] else []

/-- Whether an image is bound: a section other than BISTSIG names a member (R663). -/
def ImgHdr.bound (h : ImgHdr) : Bool := h.secs.any fun e => decide (e.type ≠ 8) && decide (e.member ≠ 0xFF)

/-- The members of a bound image. -/
def ImgHdr.members (h : ImgHdr) : Nat := (h.secs.filter fun e => e.type = (kindMust h.kind).headD 1).length

/-- The sections are those that R663 asks for. -/
def ImgHdr.composed (h : ImgHdr) : Bool :=
  let of (t : Nat) : List Nat := (h.secs.filter fun e => e.type = t).map SecEnt.member
  let whole (t : Nat) : Bool :=
    if h.bound ∧ t ≠ 8 then decide ((of t).mergeSort (· ≤ ·) = List.range h.members) else decide (of t = [0xFF])
  (kindMust h.kind).all whole && (kindMay h.kind).all (fun t => decide (of t = []) || whole t)
    && h.secs.all fun e => (kindMust h.kind ++ kindMay h.kind).contains e.type

/-- Check 1 (R669). DEDUCED: TOTAL is the length of the load, and the fields that R658 and R660 call zero or equal are among
those it holds to. -/
def ImgHdr.wellFormed (h : ImgHdr) (bs : List Byte) : Bool :=
  let room := h.total - h.sigLen
  let zero (l : List Byte) : Bool := l.all fun b => decide (b = 0)
  let apart (a b : SecEnt) : Bool := decide (a.off + a.len ≤ b.off) || decide (b.off + b.len ≤ a.off)
  decide (4096 ≤ bs.length) && decide (h.magic = 0x54534931) && decide (1 ≤ h.kind) && decide (h.kind ≤ 3)
  && decide (1 ≤ h.count) && decide (h.count ≤ 126) && decide (1 ≤ h.sigLen) && decide (h.sigLen ≤ 65536)
  && decide (h.total = bs.length) && decide (h.total ≤ 2 ^ 31) && decide (4096 + h.sigLen ≤ h.total)
  && (decide (h.kind ≠ imFull) || decide (h.base = 0)) && (if h.kind = imPatch then decide (h.sector < 8) else decide (h.sector = 0))
  && decide (leAt bs 58 2 = 0) && zero ((bs.take 4096).drop (64 + 32 * h.count))
  && h.secs.all (fun e => decide (e.flags < 2) && decide (e.rsvd = 0) && decide (e.off % 4096 = 0) && decide (4096 ≤ e.off)
    && decide (e.off + e.len ≤ room) && (if e.encrypted then decide (e.type ≠ 1) else decide (e.plain = e.len)))
  && decide (h.secs.Pairwise fun a b => apart a b = true) && h.composed

/-- Check 2 (R669): HDR_CRC. -/
def ImgHdr.crcFits (h : ImgHdr) (bs : List Byte) : Bool :=
  let hd := bs.take 4096
  decide (crc32c (nats (hd.take 60 ++ beBytes 4 0 ++ hd.drop 64)) = h.crc)

/-- The digest of an image (R661). -/
def ImgHdr.digest (h : ImgHdr) (bs : List Byte) : List Byte := byts (sha256 (nats (bs.take (h.total - h.sigLen))))

/-- The digest of the active image, as IMG_DIGEST shows it. -/
def State.activeDigest (s : State) : List Byte := (List.range 4).flatMap fun w => leBytes 8 (s.f F.IMG_DIGEST_DIGEST w)

/-! ### Encrypted sections -/

/-- The current generation of the IMAGE slot (R518). -/
def State.imageKey (s : State) : Option KeyGen :=
  match (s.ciph.uses.find? fun u => u.2 = useImage).map Prod.fst with
  | some k => s.currentGen k
  | none => none

/-- The plaintext of a section's stored bytes (R666); none where length or padding is wrong. -/
def SecEnt.open_ (e : SecEnt) (g : KeyGen) (stored : List Byte) : Option (List Byte) :=
  let ct := stored.drop 16
  let pt := cbcDec g.keys (nats (stored.take 16)) (blocks16 (nats ct))
  let p := pt.getLastD 0
  if 32 ≤ stored.length ∧ ct.length % 16 = 0 ∧ 1 ≤ p ∧ p ≤ 16 ∧ (pt.drop (pt.length - p)).all (fun x => x = p) ∧ e.plain = pt.length - p then
    some (byts (pt.take e.plain))
  else none

/-- Check 8 on one section: its plaintext, or the code that refuses it. -/
def State.openSection (s : State) (bs : List Byte) (e : SecEnt) : Except Status (List Byte) :=
  if !e.encrypted then .ok (e.stored bs)
  else if 2 ^ 30 < e.plain then .error .refusedFit
  else match s.imageKey with
    | none => .error .refusedSignature
    | some g => match e.open_ g (e.stored bs) with
      | some pt => .ok pt
      | none => .error .refusedSignature

/-! ### Sections with a byte layout -/

/-- An ALMANAC section (R664): rows, row count, entries of the tracks used; none where its length or reserved bits are
wrong. -/
def almanacOf (bs : List Byte) : Option (Tab Row256 × Nat × List (Nat × Nat)) :=
  let n := leAt bs 0 4
  let tracks := leAt bs 4 2
  let entry (t : Nat) : Nat := leAt bs (8 + 4 * t) 4
  let rows := ((chunks 32 n (bs.drop 128)).zipIdx).map fun r => (r.2, BitVec.ofNat 256 (leNat r.1))
  if bs.length = 128 + 32 * n ∧ leAt bs 6 2 = 0 ∧ ((bs.take 128).drop 72).all (fun b => b = 0) ∧ (List.range 16).all (fun t => entry t < 2 ^ 20) then
    some (rows.filter (fun r => r.2 ≠ 0), n, ((List.range 16).filter fun t => tracks.testBit t).map fun t => (t, entry t))
  else none

/-- A COLLECTIVES section (R233): its entries, none where its length is no whole number of them. -/
def collectivesOf (bs : List Byte) : Option (List (List Byte)) :=
  if bs.length % 32 = 0 then some (chunks 32 (bs.length / 32) bs) else none

/-- A BISTSIG section (R709): entries (sector, set) in order, and the signatures. -/
def bistsigOf (bs : List Byte) : Option (List (Nat × Nat) × Tab (Nat × Nat)) :=
  let es := (chunks 16 (bs.length / 16) bs).map fun b => (leAt b 0 1, leAt b 1 1, leAt b 2 2, leAt b 4 4, leAt b 8 8)
  if bs.length % 16 = 0 ∧ es.all (fun e => e.2.2.1 = 0) then
    some (es.map (fun e => (e.1, e.2.1)), es.foldl (fun t e => tput (8 * e.2.1 + e.1) (e.2.2.2.1, e.2.2.2.2) t) [])
  else none

/-- The sector record of a PATCH image (R665): ENABLE. -/
def patchRecOf (sector : Nat) (bs : List Byte) : Option Bool :=
  if bs.length = 8 ∧ leAt bs 0 1 = sector ∧ leAt bs 1 1 < 2 ∧ leAt bs 2 6 = 0 then some (decide (leAt bs 1 1 = 1)) else none

/-! ### The checks -/

/-- A check of R669 that failed: its number, the code, the section, the report. -/
structure Finding where
  check : Nat
  st : Status
  section_ : Nat
  report : List FitEntry
  deriving DecidableEq, Repr

/-- What checks 1 to 8 leave of an image for check 9: the header, its length, its digest, and the plaintext of this member's
sections. -/
structure Checked where
  hdr : ImgHdr
  len : Nat
  digest : List Byte
  plain : List (Nat × List Byte)
  deriving DecidableEq, Repr

/-- The plaintext of a section of a type. -/
def Checked.sec (c : Checked) (t : Nat) : Option (List Byte) := (c.plain.find? fun p => p.1 = t).map Prod.snd

/-- Check 8 on every section, in table order; the plaintext of those that `mine` keeps. -/
def State.openAll (s : State) (bs : List Byte) (mine : SecEnt → Bool) : List SecEnt → Except (Status × Nat) (List (Nat × List Byte))
  | [] => .ok []
  | e :: es =>
    match s.openSection bs e with
    | .error st => .error (st, e.type)
    | .ok pt =>
      match s.openAll bs mine es with
      | .error x => .error x
      | .ok rest => .ok (if mine e then (e.type, pt) :: rest else rest)

/-- Checks 1 to 8 (R669, R670) of a load of a target; `sigOk` says whether the signature verifies under the key of
OWNER_SLOT, `pos` whose sections of a bound image are wanted. DEDUCED: target 0x01 carries kinds 0x01 and 0x02, target 0x02
kind 0x03; another kind fails check 1. -/
def State.checkFile (s : State) (bs : List Byte) (target : Nat) (sigOk : Bool) (pos : Nat) : Except Finding Checked :=
  let h := imgHdrOf bs
  let bad (n : Nat) (st : Status) (sec : Nat) : Finding :=
    { check := n, st := st, section_ := sec, report := if st = .refusedFit then [short resRowForm sec] else [] }
  let crcBad := h.secs.find? fun e => crc32c (nats (e.stored bs)) ≠ e.crc
  if !h.wellFormed bs ∨ (target = 2 ↔ h.kind ≠ imPatch) then .error (bad 1 .refusedFit 0)
  else if !h.crcFits bs then .error (bad 2 .refusedSignature 0)
  else if h.stepping ≠ s.f F.GLB_ID_STEPPING then .error (bad 3 .refusedFit 0)
  else match crcBad with
  | some e => .error (bad 4 .refusedSignature e.type)
  | none =>
    if !sigOk ∨ 4 ≤ h.owner ∨ !s.bit F.SEC_STATUS_ACTIVE h.owner then .error (bad 5 .refusedSignature 0)
    else if h.version < s.f F.SEC_ROLLBACK_COUNTER then .error (bad 6 .refusedRollback 0)
    else if h.kind ≠ imFull ∧ (!s.imageActive ∨ leBytes 32 h.base ≠ s.activeDigest) then .error (bad 7 .refusedFit 0)
    else match s.openAll bs (fun e => decide (e.member = 0xFF) || decide (e.member = pos)) h.secs with
      | .error (st, sec) => .error (bad 8 st sec)
      | .ok ps => .ok { hdr := h, len := bs.length, digest := h.digest bs, plain := ps }

end Sys2Proof.Machine
end

