-- ==== Sys2Proof/Machine/Time.lean ====
section
/-! DEFINITION. The commands of the time unit (R564 to R580): the host-port PTP slave (R569; messages and the best master
clock algorithm as in IEEE 1588-2019, log entry 7), sources lost and found, time reports, PPS and the time registers. -/

namespace Sys2Proof.Machine

/-! ### Steering -/

/-- TB0 is steered from TB1 (R568). -/
def State.onTb1 (s : State) : Bool := decide (s.f F.TIME_STATUS_ON_TB1 = 1)

/-- TB0's source is the host-port PTP slave; the code 0b11 acts as 0b00 (TIME_CFG). -/
def State.tb0OnPtp (s : State) : Bool := decide (s.f F.TIME_CFG_TB0_SRC = 0) || decide (s.f F.TIME_CFG_TB0_SRC = 3)

/-- TB0 moved to or from TB1 (R568). -/
def State.switchTb1 (s : State) (on : Bool) (d : Option Int) : State :=
  (({ s with time := { s.time with diff := d, validSince := none } }).setf F.TIME_STATUS_ON_TB1 (b2n on)).event F.TIME_EVENTS_SWITCHOVER

/-- TB0 steered to TB1 + D while D shrinks under the slew limit (R568): it takes TB1's rate and slews toward TB1. -/
def State.steerTb1 (s : State) : State :=
  if s.onTb1 ∧ (s.base 1).state = tbLocked then
    let cur := s.baseOff 0
    let s1 := s.setBase 0 { (s.base 0) with rate := (s.base 1).rate, off := cur, phase := 0, at_ := s.now }
    let s2 := s1.baseUpdate 0 (s1.baseOff 1)
    { s2 with time := { s2.time with diff := some (s2.baseOff 0 - s2.baseOff 1) } }
  else s

/-- The own source of TB0 or TB1 says what the offset ought to be (R567, R568). -/
def State.sourceUpdate (s : State) (n : Nat) (want : Int) : State :=
  if n = 1 then (s.baseUpdate 1 want).steerTb1
  else if s.onTb1 then
    if (s.base 0).state = tbHoldover then (s.switchTb1 false none).baseUpdate 0 want
    else { s with time := { s.time with validSince := s.time.validSince.or (some s.now) } }
  else s.baseUpdate 0 want

/-! ### The PTP slave -/

def PtpPort.init : PtpPort :=
  { masters := [], syncSeq := 0, syncRx := 0, syncCorr := 0, syncTx := none, syncAt := 0, syncInterval := 0, delaySeq := 0, delayTx := none }

def State.ptp (s : State) (n : Nat) : PtpPort := (tfind n s.time.ptp).getD PtpPort.init
def State.setPtp (s : State) (n : Nat) (p : PtpPort) : State := { s with time := { s.time with ptp := tput n p s.time.ptp } }

/-- Nanoseconds of a logMessageInterval. -/
def logInterval (b : Nat) : Nat := if b < 128 then 10 ^ 9 * 2 ^ min b 16 else 10 ^ 9 / 2 ^ (256 - b)

/-- Lexicographic order of data sets. -/
def rankLe : List Nat → List Nat → Bool
  | [], _ => true
  | _, [] => false
  | a :: as, b :: bs => decide (a < b) || (decide (a = b) && rankLe as bs)

/-- The data sets an Announce ranks its master by: priority1, clockClass, clockAccuracy, offsetScaledLogVariance, priority2,
grandmasterIdentity, stepsRemoved, sender. -/
def announceRank (m : List Byte) : List Nat :=
  [hdrAt m 47 1, hdrAt m 48 1, hdrAt m 49 1, hdrAt m 50 2, hdrAt m 52 1, hdrAt m 53 8, hdrAt m 61 2, hdrAt m 20 10]

/-- A master whose Announce messages still come (R567). -/
def State.masterValid (s : State) (m : PtpMaster) : Bool := m.qualified && decide (s.now ≤ m.at_ + 3 * m.interval)

/-- The master that the best master clock algorithm selects. -/
def State.ptpBest (s : State) (n : Nat) : Option PtpMaster :=
  ((s.ptp n).masters.filter s.masterValid).foldl (fun (b : Option PtpMaster) (m : PtpMaster) =>
    match b with
    | none => some m
    | some x => if rankLe x.rank m.rank then some x else some m) none

/-- The PTP source of a base is lost (R567). -/
def State.ptpLost (s : State) (n : Nat) : Bool :=
  (s.ptpBest n).isNone || decide ((s.ptp n).syncAt + 3 * (s.ptp n).syncInterval < s.now)

/-- An Announce taken in: up to four foreign masters a domain (R569). -/
def State.ptpAnnounce (s : State) (n : Nat) (m : List Byte) : State :=
  let p := s.ptp n
  let id := hdrAt m 20 10
  let iv := logInterval (hdrAt m 33 1)
  let old := p.masters.find? fun x => x.ident = id
  let q := match old with | some x => x.qualified || decide (s.now ≤ x.at_ + 4 * x.interval) | none => false
  let rest := p.masters.filter fun x => x.ident ≠ id
  let rest := if 4 ≤ rest.length then rest.filter fun x => decide (s.now ≤ x.at_ + 4 * x.interval) else rest
  if 255 ≤ hdrAt m 61 2 ∨ 4 ≤ rest.length then s
  else s.setPtp n { p with masters := rest ++ [PtpMaster.mk id (announceRank m) s.now iv q] }

/-- The own port identity: the EUI-64 of the host MAC and port 1. -/
def State.ptpIdent (s : State) : Nat :=
  let mac := s.f F.HOST_MAC_MAC
  (mac / 2 ^ 24 * 2 ^ 40 + 0xFFFE * 2 ^ 24 + mac % 2 ^ 24) * 2 ^ 16 + 1

/-- An IPv4 header of 20 bytes with its checksum. -/
def ip4Head (src dst len ttl proto : Nat) : List Byte :=
  let h := beBytes 2 0x4500 ++ beBytes 2 (20 + len) ++ beBytes 4 0x00004000 ++ beBytes 1 ttl ++ beBytes 1 proto ++ beBytes 2 0
    ++ beBytes 4 src ++ beBytes 4 dst
  patch h 10 (beBytes 2 (65535 - onesSum h))

/-- An IPv6 header of 40 bytes. -/
def ip6Head (src dst len hops next : Nat) : List Byte :=
  beBytes 4 0x60000000 ++ beBytes 2 len ++ beBytes 1 next ++ beBytes 1 hops ++ beBytes 16 src ++ beBytes 16 dst

/-- The own IPv6 address. -/
def State.hostIp6 (s : State) : Nat := s.hostF F.HOST_IPV6_HI_ADDR * 2 ^ 64 + s.hostF F.HOST_IPV6_LO_ADDR

/-- The Ethernet header of a frame that the host port sends, with the VLAN of HOST_CFG. -/
def State.ethHead (s : State) (dst et : Nat) : List Byte :=
  beBytes 6 dst ++ beBytes 6 (s.f F.HOST_MAC_MAC)
  ++ (if s.hostF F.HOST_CFG_VLAN_EN = 1 then beBytes 2 0x8100 ++ beBytes 2 (s.hostF F.HOST_CFG_VLAN_ID) else []) ++ beBytes 2 et

/-- An event message of the slave in a frame, without FCS, of the carrier that its master uses. -/
def State.ptpFrame (s : State) (carrier : Nat) (m : List Byte) : List Byte :=
  let udp := beBytes 2 319 ++ beBytes 2 319 ++ beBytes 2 (8 + m.length) ++ beBytes 2 0 ++ m
  if carrier = 4 then
    (s.ethHead 0x01005E000181 0x0800 ++ ip4Head (s.hostF F.HOST_IPV4_ADDR) 0xE0000181 udp.length 64 17 ++ udp)
  else if carrier = 6 then
    let dst := 0xFF0E * 2 ^ 112 + 0x181
    let c := 65535 - onesSum (beBytes 16 s.hostIp6 ++ beBytes 16 dst ++ beBytes 4 udp.length ++ beBytes 4 17 ++ udp)
    (s.ethHead 0x333300000181 0x86DD ++ ip6Head s.hostIp6 dst udp.length 64 17
      ++ patch udp 6 (beBytes 2 (if c = 0 then 65535 else c)))
  else (s.ethHead 0x011B19000000 0x88F7 ++ m)

/-- A Delay_Req sent (R569): 44 bytes, origin time zero. -/
def State.ptpAskDelay (s : State) (n carrier : Nat) : State :=
  let p := s.ptp n
  let seq := (p.delaySeq + 1) % 65536
  let dom := if n = 0 then s.f F.TIME_CFG_TB0_DOMAIN else s.f F.TIME_CFG_TB1_DOMAIN
  let m := beBytes 2 0x0102 ++ beBytes 2 44 ++ beBytes 1 dom ++ beBytes 3 0 ++ beBytes 8 0 ++ beBytes 4 0
    ++ beBytes 10 s.ptpIdent ++ beBytes 2 seq ++ beBytes 1 1 ++ beBytes 1 0x7F ++ beBytes 10 0
  (s.setPtp n { p with delaySeq := seq, delayTx := some s.hostTxStamp }).hostSend (s.ptpFrame carrier m)

/-- A PTP timestamp and a correction field, in linear units. -/
def ptpTime (m : List Byte) (o : Nat) : Int := ((hdrAt m o 6 * 10 ^ 9 + hdrAt m (o + 6) 4) * 65536 : Nat)
def ptpCorr (m : List Byte) : Int := (BitVec.ofNat 64 (hdrAt m 8 8)).toInt

/-- A message of the selected master taken in: Sync, Follow_Up, Delay_Resp (R569). A base is updated once an exchange of
Sync and delay request is complete (log entry 28). -/
def State.ptpEvent (s : State) (n carrier : Nat) (m : List Byte) : State :=
  let p := s.ptp n
  let seq := hdrAt m 30 2
  match ptpType m with
  | 0 =>
    let p1 := { p with syncSeq := seq, syncRx := s.hostRxStamp, syncCorr := ptpCorr m, syncAt := s.now
                       syncInterval := logInterval (hdrAt m 33 1), delayTx := none }
    if (hdrAt m 6 1).testBit 1 then s.setPtp n { p1 with syncTx := none }
    else (s.setPtp n { p1 with syncTx := some (ptpTime m 34 + ptpCorr m) }).ptpAskDelay n carrier
  | 8 =>
    if seq = p.syncSeq ∧ p.syncTx = none then
      (s.setPtp n { p with syncTx := some (ptpTime m 34 + p.syncCorr + ptpCorr m) }).ptpAskDelay n carrier
    else s
  | 9 =>
    match p.syncTx, p.delayTx with
    | some t1, some t3 =>
      if seq = p.delaySeq ∧ hdrAt m 44 10 = s.ptpIdent then
        let t4 := ptpTime m 34 - ptpCorr m
        (s.setPtp n { p with delayTx := none }).sourceUpdate n ((t1 - p.syncRx + (t4 - t3)) / 2)
      else s
    | _, _ => s
  | _ => s

/-- A PTP message of the domain of base `n` (R569). -/
def State.ptpSlave (s : State) (n carrier : Nat) (m : List Byte) : State :=
  if ptpType m = 11 then s.ptpAnnounce n m
  else match s.ptpBest n with
    | some b => if b.ident = hdrAt m 20 10 then s.ptpEvent n carrier m else s
    | none => s

/-- A time payload's head (R572) before its FRAME. -/
def State.timeHead (s : State) (tkind len tb3 lin : Nat) : List Byte :=
  beBytes 1 tkind ++ beBytes 1 ((s.base 0).state + 4 * s.f F.TIME_CFG_TRACEABLE) ++ beBytes 2 len ++ beBytes 4 0 ++ beBytes 8 (tb3 % 2 ^ 64)
  ++ timeBytes lin ++ beBytes 2 0

/-- The head of a line block that carries a time payload: class C1 on stream 0x1F_FFFF. -/
def State.timeBlockHead (s : State) : Head := { s.plainHead kData with cls := 1, stream := timeStream, parts := 1 }

/-- A PTP frame relayed to the peer (R576, R577). -/
def State.relayIn (s : State) (fr : List Byte) : State :=
  let stamp := (s.hostRxStamp + s.baseOff 0).toNat
  s.sendData (s.f F.TIME_CFG_SESSION) s.timeBlockHead timeStream (s.timeHead 2 fr.length 0 stamp ++ fr)

/-- A PTP message in a frame of the host port, FCS included: used by the bases of its domain, and relayed (R569, R576). -/
def State.ptpFrameIn (s : State) (fr : List Byte) : State :=
  match ptpAt (fr.take (fr.length - 4)) with
  | none => s
  | some (off, carrier) =>
    let m := (fr.take (fr.length - 4)).drop off
    let d := ptpDomain m
    let s1 := if s.tb0OnPtp ∧ s.f F.TIME_CFG_TB0_DOMAIN = d then s.ptpSlave 0 carrier m else s
    let s2 := if s.f F.TIME_CFG_TB1_EN = 1 ∧ s.f F.TIME_CFG_TB1_DOMAIN = d then s1.ptpSlave 1 carrier m else s1
    if s.f F.TIME_TC_ENABLE = 1 ∧ s.f F.TIME_TC_TC_DOMAIN = d ∧ s.timeSession (s.f F.TIME_CFG_SESSION) then s2.relayIn fr else s2

/-- PTP_MESSAGE_RECEIVE (R569, R576, R577). -/
def execPtpMessageReceive (fr : List Byte) (s : State) : Host.Outcome State Fault Refusal := .next (s.ptpFrameIn fr)

/-! ### Sources lost, holdover -/

/-- The source of base `n` is lost now (R567). -/
def State.sourceLost (s : State) (n : Nat) : Bool :=
  if n = 1 then s.ptpLost 1
  else if n = 2 then s.followed.isNone
  else if s.tb0OnPtp then s.ptpLost 0
  else if s.tb0OnTb2 then s.followed.isNone
  else s.elapsed s.time.ppsAt 1100000000

/-- TB0's own source lost (R567, R568). -/
def State.tb0Lost (s : State) : State :=
  if s.onTb1 then { s with time := { s.time with validSince := none } }
  else if s.tb0OnPtp ∧ (s.base 0).state = tbLocked ∧ (s.base 1).state = tbLocked ∧ !s.ptpLost 1 then
    (s.switchTb1 true (some (s.baseOff 0 - s.baseOff 1))).steerTb1
  else (s.baseLost 0).eventIf (decide (s.f F.TIME_CFG_TB0_SRC = 1) && decide ((s.base 0).state = tbLocked)) F.TIME_EVENTS_PPS_LOST

/-- TIME_SOURCE_LOST of base `n` (R567, R568). -/
def execTimeSourceLost (n : Nat) (s : State) : Host.Outcome State Fault Refusal :=
  if 3 ≤ n ∨ !s.sourceLost n then .next s
  else if n = 0 then .next s.tb0Lost
  else if n = 2 then .next s.checkFollowed
  else
    let s1 := s.baseLost 1
    if s1.onTb1 then .next (s1.baseLost 0) else .next s1

/-- HOLDOVER_MAX in ns; 0 acts as 1 s. -/
def State.holdoverNs (s : State) : Nat := max 1 (s.f F.TIME_HOLD_HOLDOVER_MAX) * 10 ^ 9

/-- HOLDOVER_EXPIRED of base `n` (R567). -/
def execHoldoverExpired (n : Nat) (s : State) : Host.Outcome State Fault Refusal :=
  if n < 3 ∧ (s.base n).state = tbHoldover ∧ s.elapsed (s.base n).heldAt s.holdoverNs then
    let s1 := s.baseFree n
    .next (if n = 0 ∧ s1.onTb1 then s1.switchTb1 false none else s1)
  else .next s

/-- TB0_REVERT (R568). -/
def execTb0Revert (s : State) : Host.Outcome State Fault Refusal :=
  match s.time.validSince with
  | some t => if s.onTb1 ∧ s.elapsed t (s.f F.TIME_HOLD_REVERT * 10 ^ 9) then .next (s.switchTb1 false none) else .next s
  | none => .next s

/-! ### Time across the line -/

/-- TIME_REPORT_SEND (R573): a report on each up route of the time session. -/
def execTimeReportSend (s : State) : Host.Outcome State Fault Refusal :=
  let n := s.f F.TIME_CFG_SESSION
  if s.timeSession n then
    let body := s.timeHead 1 0 s.tb3Lin (s.baseLin 0)
    .next ((s.upRoutes n).foldl (fun s r => s.sendDataOn n r s.timeBlockHead timeStream body) s)
  else .next s

/-- A time payload of one kind received on a line port (R572). -/
def State.receiveTime (s : State) (port : Nat) (bs : List Byte) : State := s.receiveSort LineBlk.timeBlock port bs

/-- TIME_REPORT_RECEIVE (R573). -/
def execTimeReportReceive (port : Nat) (bs : List Byte) (s : State) : Host.Outcome State Fault Refusal :=
  .next (s.receiveTime port bs)

/-- TC_RELAY_RECEIVE (R577, R578). -/
def execTcRelayReceive (port : Nat) (bs : List Byte) (s : State) : Host.Outcome State Fault Refusal :=
  .next (s.receiveTime port bs)

/-- TRANSFER_HOLDOVER_EXPIRED of route `r` (R574). -/
def execTransferHoldoverExpired (r : Nat) (s : State) : Host.Outcome State Fault Refusal :=
  let x := s.timeRoute r
  if r < 2 ∧ x.state = tbHoldover ∧ s.elapsed x.heldAt s.holdoverNs then
    .next (((s.setTimeRoute r { x with state := tbFree, asym := none }).syncAsym r).event F.TIME_EVENTS_FREE)
  else .next s

/-! ### PPS -/

/-- A linear value shown in TIME_PPS_IN (R579). -/
def State.showPps (s : State) (lin : Nat) : State :=
  ((s.setf F.TIME_PPS_IN_SEC_SECONDS (lin / 65536 / 10 ^ 9)).setf F.TIME_PPS_IN_NS_NS (lin / 65536 % 10 ^ 9)).setf F.TIME_PPS_IN_NS_FRAC (lin % 65536)

/-- Distance of a linear value from the nearest whole second. -/
def offSecond (lin : Nat) : Nat :=
  let x := lin % (65536 * 10 ^ 9)
  min x (65536 * 10 ^ 9 - x)

/-- PPS_IN_EDGE (R579). -/
def execPpsInEdge (s : State) : Host.Outcome State Fault Refusal :=
  let lin := s.baseLin 0
  let tod := s.f F.TIME_TOD_SECONDS
  let s1 := (s.showPps lin).setf F.TIME_TOD_SECONDS (tod + 1)
  if (s.base 0).state = tbLocked ∧ 100000 * 65536 < offSecond lin then .next (s1.count F.TIME_PPS_REJECT_COUNT)
  else
    let s2 : State := { s1 with time := { s1.time with ppsAt := s1.now } }
    if s.f F.TIME_CFG_TB0_SRC = 1 then .next (s2.sourceUpdate 0 (((tod * 10 ^ 9 * 65536 : Nat) : Int) - s.tb3Lin))
    else .next s2

/-- PPS_OUT_PULSE (R580): in the cycle that begins a whole second of the selected base. -/
def execPpsOutPulse (s : State) : Host.Outcome State Fault Refusal :=
  let n := s.f F.TIME_CFG_PPS_SRC
  if (n = 3 ∨ (s.base n).state ≠ tbFree) ∧ s.baseLin n % (65536 * 10 ^ 9) < 65536 then
    .next (s.emit (.pps (max 1 (s.f F.TIME_CFG_PPS_WIDTH) * 1000)))
  else .next s

/-! ### Registers with behaviour of their own -/

/-- TIME_Rr_ASYM written (R574): ASYM in ps, stored as A when VALID is set. -/
def State.writeAsym (s : State) (r : Nat) (w : Word) : State :=
  if w.toNat.testBit 32 then
    s.storeAsym r ((BitVec.ofNat 32 w.toNat).toInt * 65536 / 1000)
  else s.setf F.TIME_Rr_ASYM_ASYM (w.toNat % 2 ^ 32) r

/-- ASYM_WRITE of route `r` (R574). -/
def execAsymWrite (r : Nat) (w : Word) (s : State) : Host.Outcome State Fault Refusal :=
  if r < 2 then .next (s.writeAsym r w) else .next s

/-- The whole value of base `n` latched by a read of its SEC register (R565). -/
def State.latchBase (s : State) (n : Nat) : State :=
  let lin := s.baseLin n
  (((s.setf F.TIME_TBn_SEC_SECONDS (lin / 65536 / 10 ^ 9) n).setf F.TIME_TBn_NS_NS (lin / 65536 % 10 ^ 9) n).setf F.TIME_TBn_NS_FRAC (lin % 65536) n)

/-- TB_SEC_READ of base `n` (TIME_TBn_SEC). -/
def execTbSecRead (n : Nat) (s : State) : Host.Outcome State Fault Refusal :=
  if n < 4 then .next (s.latchBase n) else .next s

end Sys2Proof.Machine
end

