-- ==== Sys2Proof/Machine/Activate.lean ====
section
/-! DEFINITION. What a FULL image leaves of the gateway (R672 to R674): its tables and registers placed, and everything that
starts anew with it. -/

namespace Sys2Proof.Machine

/-! ### Registers that an image loads -/

/-- A number with some fields taken from another. -/
def takeFields (fs : List Fld) (w v : Nat) : Nat := fs.foldl (fun w x => putBits w x.lo x.w (v / 2 ^ x.lo)) w

/-- Registers whose read-only settings the image fixes (R662). -/
def imageRegs : List Nat :=
  [R.CMP_SLOTS.base, R.COL_STATUS.base, R.COL_ENTRY_A.base, R.COL_ENTRY_B.base, R.COL_ENTRY_C.base, R.COL_ENTRY_D.base,
   R.PEER_SESSn_CFG.base, R.PEER_SESSn_WIN_A.base, R.PEER_SESSn_WIN_B.base, R.PEER_SESSn_RX_SLOT.base, R.PEER_FAULT_CFG.base]
  ++ [R.FAB_COORD.base, R.FAB_BRIDGE_CFG.base, R.FAB_SITE_MAP.base, R.FAB_CREDITSs.base, R.FAB_Fk_CFG.base, R.OPT_Fk_CFG.base,
   R.MEM_X_CFG.base, R.BPM_POOLp_CFG.base, R.CST_STATUS.base]

/-- A read-only setting that the image fixes; the pole is one of them although it can move (R656). -/
def Fld.fixed (x : Fld) : Bool :=
  decide (x.acc = .ro) && imageRegs.contains x.base && (!x.live || decide (x = F.CST_STATUS_POLE))

/-- A field that an image sets: a setting of its own, or a setting the host may write (R662). -/
def Fld.loads (x : Fld) : Bool := x.fixed || decide (x.acc = .rw)

/-- RW registers of sections that may be absent (SCHED, TIME, OPTCAL) return to their reset values first (R663). -/
def Fld.optional (x : Fld) : Bool :=
  decide (x.acc = .rw) && (decide (x.base / 0x100000 = 0xD) || decide (x.base / 0x100000 = 0xE)
    || [R.OPT_Tt_XT.base, R.OPT_FF.base, R.PPE_XT.base].contains x.base)

/-- Live fields of the sessions, of the peer block's instances and of pools, that start anew with an image. -/
def Fld.restarts (x : Fld) : Bool :=
  decide (x.acc = .ro) && x.live && (decide (x.base / 0x100000 = 6) || decide (x.base / 0x100000 = 0xB)
    || [R.COL_PARK.base, R.COL_STATUS.base, R.CIPH_STATUS.base, R.FAB_CREDITSs.base, R.FAB_Fk_CFG.base, R.OPT_Fk_LAMBDA.base,
        R.FAB_STATUS.base].contains x.base)
  && !([R.PEER_SESSn_PEER_MERIDIAN.base, R.BPM_LAST_BAD.base, R.COL_LAST_ADHOC_ID.base].contains x.base)
  && !([F.CIPH_STATUS_ENC_UP, F.CIPH_STATUS_DEC_UP].contains x)

/-- A register file with the fields that a test picks back at their reset values. -/
def regsReset (p : Fld → Bool) (t : Tab Word) : Tab Word :=
  t.foldl (fun (a : Tab Word) kv => match regAt kv.1 with
    | some r => tset resetWord a kv.1 (BitVec.ofNat 64 (takeFields (r.fields.filter p) kv.2.toNat r.rst))
    | none => a) []

/-- A register file with an image's words loaded. -/
def regsLoad (t : Tab Word) (ws : List (Nat × Word)) : Tab Word :=
  ws.foldl (fun (a : Tab Word) kv => match regAt kv.1 with
    | some r => tset resetWord a kv.1 (BitVec.ofNat 64 (takeFields (r.fields.filter Fld.loads) (regGet a kv.1).toNat kv.2.toNat))
    | none => a) t

/-- The words of the collective table that the entries of a COLLECTIVES section spell (R233). -/
def collWords (es : List (List Byte)) : List (Nat × Word) :=
  es.zipIdx.flatMap fun e => (List.range 4).map fun k =>
    (R.COL_ENTRY_A.base + 32 * e.2 + 8 * k, BitVec.ofNat 64 (leNat ((e.1.drop (8 * k)).take 8)))

/-! ### Tables -/

/-- A context as an image declares it: bytes 32 to 63 clear (R498). -/
def Ctx.declared (c : Ctx) : Ctx := { c with txNext := 0, rxNext := 0, route := 0, held := false, lastStep := 0 }

/-- A circuit as an image declares it: FREE (R430). -/
def Circuit.declared (c : Circuit) : Circuit := { c with state := cFree, lambda := 0, claim := none, setupAt := 0, fill := 0, raw := [] }

/-- The tables and register words of an image in place of the active one's; `cxl` gives the capacities in GiB of the CXL
devices enumerated in its layout (R490, R491). -/
def State.withTables (s : State) (im : Image) (cxl : List Nat) : State :=
  let b := im.body
  let rst (x : Fld) : Bool := x.fixed || x.optional || x.restarts
  { s with
    regs := regsLoad (regsReset rst s.regs) ((b.regs.filter fun kv => kv.1 < R.COL_ENTRY_A.base ∨ R.COL_ENTRY_A.base + 2 ^ 19 ≤ kv.1)
      ++ collWords (im.colls.take 16384))
    conf := b.conf
    seq := { s.seq with active := im.rows, shadow := [], swap := none, faultTo := [], waitAt := [] }
    mem := { s.mem with ctx := b.ctx.map fun kv => (kv.1, kv.2.declared), pages := b.pages, mirrorDX := b.mirrorDX, remapDue := []
                        remirroring := [], unshadowed := [], unencoded := [], cache := [], xRanges := cxl.map (· * 2 ^ 30) }
    bpm := { bufs := [], queue := [], limits := b.limits }
    ciph := { s.ciph with uses := b.uses }
    fab := { State.reset.fab with circuits := b.circuits.map fun kv => (kv.1, kv.2.declared) }
    bist := { s.bist with sigs := im.sigs }
    opt := { s.opt with sensorCoef := b.sensorCoef }
    img := { s.img with sectors := b.sectors } }

/-- WMAX of both routes of every session the image declares: the replay area divided by the size of a full block (R284). -/
def State.sizeWindows (s : State) : State :=
  s.conf.sess.foldl (fun (s : State) e =>
    (s.setf F.PEER_SESSn_WIN_A_WMAX (e.2.replayA / 8244) e.1).setf F.PEER_SESSn_WIN_B_WMAX (e.2.replayB / 8244) e.1) s

/-- The tables, registers and memory contents of an image in place of the active one's. -/
def State.placed (s : State) (im : Image) (cxl : List Nat) : State :=
  let b := im.body
  let s1 := s.withTables im cxl
  let s2 := ((((s1.setf F.COL_STATUS_ENTRIES (min 16384 im.colls.length)).setf F.SEQ_ROWS_ACTIVE im.count).setf F.SEQ_ROWS_SHADOW 0).setf F.MEM_CAP_X_GIB cxl.sum).sizeWindows
  let s3 := (List.range 16).foldl (fun (s : State) t =>
    let e := im.entries.find? fun x => x.1 = t
    (((s.setf F.SEQ_TKn_ENTRY_ACTIVE ((e.map Prod.snd).getD 0) t).setf F.SEQ_TKn_ENTRY_ACTIVE_EN (b2n e.isSome) t).setf
      F.SEQ_TKn_ENTRY_SHADOW 0 t).setf F.SEQ_TKn_ENTRY_SHADOW_EN 0 t) s2
  let s4 := (b.mem.filter fun m => s3.inTier m.1 m.2.1 m.2.2.length).foldl (fun (s : State) m => s.wrBytes m.1 m.2.1 m.2.2) s3
  let s5 := s4.mirrorOwn
  { s5 with conf := { s5.conf with needS := s5.imageNeedS, needH := s5.imageNeedH } }

/-! ### What starts anew -/

/-- The fixed codebooks of an image as R208 loads them. -/
def State.fixedBooks (s : State) (bs : Tab Book) : Tab Book :=
  let slots := (s.mem.ctx.filter fun kv => kv.2.valid && kv.2.segment && (s.seg kv.2).fixedCb).map fun kv => (s.seg kv.2).cbSlot
  (bs.filter fun e => e.1 % 2 = 0 ∧ slots.contains (e.1 / 2)).map fun e =>
    (e.1, { e.2 with gen := 0, live := true, current := true, acked := true, fixed := true, conflicted := false, lastUse := 0, doomed := false })

/-- The engines without anything left of the image before (R208, R523, R551, R672). What the member table, the epoch, the
fences and the Meridian hold stays. -/
def State.freshEngines (s : State) (im : Image) : State :=
  let p := State.reset.peer
  let s1 : State := { s with
    arr := { State.reset.arr with level := s.arr.level, rampAt := s.arr.rampAt, prev := s.arr.prev }
    ppe := { s.ppe with item := none, band := 0, integrating := false, mismatches := 0, folds := [], begun := false, held := [], qStore := none, q := [] }
    cmp := { State.reset.cmp with books := s.fixedBooks im.body.books }
    col := State.reset.col
    sch := State.reset.sch
    peer := { p with members := s.peer.members, fences := s.peer.fences }
    evt := { s.evt with seqs := [] }
    cst := { s.cst with alternate := im.body.alternate, reserve := im.body.reserve, map := im.body.map, swaps := 0, reports := []
                        reported := s.f F.SEQ_MERIDIAN_STEP }
    host := { s.host with replay := s.host.replay.filter fun kv => decide (kv.1 = 0) } }
  { s1.wipeKeys with ciph := { s1.wipeKeys.ciph with tagRun := [], macRx := [] } }.clearTokens.setf F.COL_LAST_ADHOC_ID_ID 0

/-- A gateway whose role a membership commit took from another device, or the reserve, adopts it (R358). -/
def State.adopts (s : State) (wasReserve : Bool) : Bool :=
  match s.member s.conf.site s.conf.role with
  | some m => decide (m.state = meMember) && decide (m.device = s.f F.GLB_DEVICE_DEVICE) &&
      (wasReserve || decide (0 < s.fence s.conf.site s.conf.role))
  | none => false

/-- The residuals of a reserve that adopts a role in native mode (R359): what reads them before its first encoding is degraded. -/
def State.freshResiduals (s : State) : State :=
  { s with mem := { s.mem with unencoded := if s.exact then [] else (s.residDescs).map fun d => (memKey d.tier d.addr, d.len) } }

/-- Sessions declared by the image: each opens with NEW set (R270, R324, R327, R673), and its member is watched from now on
(R347; DEDUCED: the first state is ALIVE). A reserve without a role opens none (R652), nor does a session whose peer has been
removed (R355). -/
def State.openSessionsAnew (s : State) : State :=
  let s1 := s.setf F.PEER_STATUS_DECLARED s.declared.length
  s1.declared.foldl (fun (s : State) n =>
    let s2 := (s.updSess n fun _ => { Sess.init with sendNew := true, heardAt := s.now }).setWatch n
      { heardAt := s.now, state := if s.peerRemoved n then mbFenced else mbAlive, holdAt := none }
    if s.f F.CST_STATUS_IS_RESERVE = 1 ∨ s.peerRemoved n then s2 else s2.setSessState n ssOpening) s1

/-- CXL devices of the lane layout that the image selects (R490). -/
def State.xDevices (s : State) : Nat := match s.f F.MEM_X_CFG_LINKS with | 0 => 1 | 1 => 2 | _ => 4

/-- The clocks that the layout uses run, the others are held low, and the devices leave reset (R490). -/
def State.startCxl (s : State) : State :=
  ((List.range 4).foldl (fun (s : State) d => s.emit (.pin (.cxlClk d) (decide (d < s.xDevices)))) s).emit (.pin .cxlPerstN true)

/-- Lasers of an image: every enabled fibre pair starts in automatic power reduction, its packet wavelengths and its reserve
marked (R449, R475). -/
def State.startLasers (s : State) : State :=
  let o : OptState := { s.opt with spares := [], switching := [], relocking := [], alternate := [], held := [], moving := [], unlocked := []
                                   burstAt := [] }
  let s1 := ({ s with opt := o }.setf F.OPT_STATUS_APR 0)
  let s2 := (List.range 16).foldl (fun (s : State) k =>
    if s.pairEnabled k then
      ((List.range 16).foldl (fun (s : State) w => if s.bit F.FAB_Fk_CFG_PKT_LAMBDAS w k then s.setUsage k w usePacket else s) s).syncReserve k
    else s) s1
  ((List.range 4).foldl State.tileToApr s2).syncPkt.syncCircuits

/-- The constellation as the image lays it out (R627). -/
def State.startCst (s : State) (adopting : Bool) : State :=
  let on := decide (s.f F.CST_STATUS_MODE ≠ 0)
  let hold := decide (s.f F.CST_STATUS_MODE = 2) && decide (16 ≤ s.f F.CST_STATUS_MEMBERS)
  let s1 := (s.setf F.CST_STATUS_IS_POLE (b2n (on && decide (s.position = s.pole)))).setf F.CST_STATUS_IS_RESERVE
    (b2n (on && decide (s.cst.reserve = some s.position) && !adopting))
  (s1.setf F.COL_STATUS_HOLD_MODE (b2n hold)).setf F.BPM_STATUS_HOLD_MODE (b2n hold)

/-- The units that the drain of R672 took, running again. -/
def State.unitsBack (s : State) : State :=
  let us := (List.range 21).map (8 + ·)
  let s1 := us.foldl (fun (s : State) u => (s.clearDeadline u).markRunning u) s
  (List.range 16).foldl (fun (s : State) n => s.setTrack n tkIdle) s1

/-- Sectors whose record in the image has ENABLE clear go dark (R665). -/
def State.applyRecords (s : State) : State :=
  (s.img.sectors.filter fun r => !r.2 && decide (r.1 < 8) && !s.unitDark r.1).foldl (fun (s : State) r =>
    (if s.healthy r.1 then s.sectorLeaves r.1 secTwilight [] else s).markDark r.1) s

/-- The host port's registers and the event channels take what the image says (R583, R619). -/
def State.hostInEffect (s : State) : State :=
  let as := [R.HOST_CFG.base, R.HOST_IPV4.base, R.HOST_IPV6_HI.base, R.HOST_IPV6_LO.base, R.HOST_IPV6_PFX.base]
  { s with host := { s.host with inEffect := as.map fun a => (a, s.word a) } }

/-- The channels of the event controller that are enabled are its targets in service (EVT_STATUS). -/
def State.syncChannels (s : State) : State :=
  (List.range 8).foldl (fun (s : State) c => s.setTarget (4 + c) (decide (s.f F.EVT_ECn_CFG_ENABLE c = 1))) s

/-- The bootstrap floor after a reset or an activation (R592). -/
def State.raiseFloor (s : State) : State :=
  let f := s.f F.HOST_BOOT_FLOOR_CEILING
  (s.setf F.HOST_BOOT_FLOOR_FLOOR f).setf F.HOST_STATUS_BOOTSTRAP_SPENT (b2n (decide (0xFFFFFC00 ≤ f)))

/-- IMG_STATUS and IMG_DIGEST of an image that is active from now on. -/
def State.showImage (s : State) (im : Image) : State :=
  let s1 := (List.range 4).foldl (fun (s : State) w => s.setf F.IMG_DIGEST_DIGEST (leAt im.digest (8 * w) 8) w) s
  ((((((s1.setf F.IMG_STATUS_ACTIVE 1).setf F.IMG_STATUS_STAGED 0).setf F.IMG_STATUS_STATE 0).setf F.IMG_STATUS_RESULT 0).setf
    F.IMG_STATUS_SECTION 0).setf F.IMG_STATUS_CHECK 0).setf F.IMG_STATUS_VERSION im.version

/-- A FULL image activated in one cycle, as one transaction commit (R45, R176, R356, R363 of the registers it sets, R672,
R673); `cxl` and `rejected` say what the CXL port enumerates in the image's layout (R490, R491). -/
def State.activate (s : State) (im : Image) (cxl : List Nat) (rejected : Bool) : State :=
  let wasReserve := decide (s.f F.CST_STATUS_IS_RESERVE = 1)
  let n := s.f F.TIME_CFG_SESSION
  let s0 := (s.cancelSwap.timeRouteDown n 0).timeRouteDown n 1
  let s1 := s0.col.held.foldl (fun (s : State) a => (s.count F.COL_FAILED_COUNT).completion a.channel .failedDisabled a.id) s0
  let s2 := ((s1.placed im cxl).freshEngines im).setf F.PEER_HOLD_STATUS_EXPIRED 0
  let adopting := s2.adopts wasReserve
  let s3 : State := { s2 with
    peer := { s2.peer with adopting := adopting }
    img := { s2.img with owner := im.owner, staged := none, activating := false } }
  let s4 := s3.unitsBack.startCst adopting
  let s5 := (s4.showImage im).event F.IMG_EVENTS_ACTIVATED
  let s6 := ((s5.setf F.MEM_STATUS_X_UP (2 ^ cxl.length - 1)).eventIf rejected F.MEM_EVENTS_X_REJECTED).startCxl
  let s7 := (if adopting then s6.freshResiduals else s6).applyRecords.startLasers.askQuickCal.openSessionsAnew
  let s8 := (((s7.startTracks (s7.f F.SEQ_MERIDIAN_STEP + 1)).syncMeridian.syncAdhoc).syncPools (List.range 10)).syncCache
  ((List.range 16).foldl State.syncTim (s8.hostInEffect.syncChannels.raiseFloor.driveTx s)).commitView

end Sys2Proof.Machine
end

