-- ==== Sys2Proof/Machine/Image.lean ====
section
/-! DEFINITION. Images (R663 to R676, R682 to R685): the verification of a load and what it leads to, ACTIVATE, DISCARD and
the activation; the restart of the management processors (R687, R688). -/

namespace Sys2Proof.Machine

/-! ### From the sections to an image -/

/-- The image that checked sections and the layout-less ones spell; an ALMANAC, COLLECTIVES or BISTSIG part, or a sector record, that is
malformed fails check 9 in its section (DEDUCED). -/
def Checked.image (c : Checked) (body : ImageBody) : Except Finding Image :=
  let h := c.hdr
  let bad (sec : Nat) : Except Finding Image := .error { check := 9, st := .refusedFit, section_ := sec, report := [short resRowForm sec] }
  let im : Image := { kind := h.kind, version := h.version, digest := c.digest, owner := h.owner, sector := h.sector, len := c.len
                      rows := [], count := 0, entries := [], sigIds := [], sigs := [], colls := [], optcal := (c.sec 7).isSome, body := body }
  let alm := (c.sec 2).bind almanacOf
  let sig := (c.sec 8).bind bistsigOf
  let coll := (c.sec 3).bind collectivesOf
  let record := (c.sec 1).bind (patchRecOf h.sector)
  if h.kind ≠ imPatch ∧ alm.isNone then bad secAlmanac
  else if h.kind ≠ imAlmanac ∧ sig.isNone then bad secBistsig
  else if h.kind = imFull ∧ coll.isNone then bad secCollectives
  else if h.kind = imPatch ∧ record.isNone then bad secStruct
  else
    let a := alm.getD ([], 0, [])
    let g := sig.getD ([], [])
    let sectors := match record with | some on => [(h.sector, on)] | none => body.sectors
    .ok { im with rows := a.1, count := a.2.1, entries := a.2.2, sigIds := g.1, sigs := g.2, colls := coll.getD [], body := { body with sectors := sectors } }

/-- ENABLE of a PATCH image's record (R665). -/
def Image.enable (im : Image) : Bool := (tfind im.sector im.body.sectors).getD false

/-- Check 9 (R669): the fit check of an image. -/
def State.fitImage (s : State) (im : Image) (cxl : List Nat) : Status × List FitEntry :=
  if im.kind = imFull then (s.placed im cxl).fitFull im s.healthyList.length
  else if im.kind = imAlmanac then s.fitSwap im.set
  else
    let small := !im.enable && s.healthy im.sector && !s.fitsWithout im.sector
    let left := (s.healthyList.filter (· ≠ im.sector)).length
    let tier (t need space : Nat) : List FitEntry := if small ∧ space < need then [shortMib (resTier t) secStruct noIndex need space] else []
    fitResult [] (fitSigs [im.sector] im.sigIds ++ tier 0 s.conf.needS (spaceS left) ++ tier 1 s.conf.needH (spaceH left))

/-! ### The end of a verification -/

/-- The result of a verification shown (IMG_STATUS, SEC_EVENTS.ROLLBACK). -/
def State.showVerdict (s : State) (v : Finding) : State :=
  (((s.setf F.IMG_STATUS_RESULT v.st.code).setf F.IMG_STATUS_SECTION v.section_).setf F.IMG_STATUS_CHECK v.check).eventIf
    (decide (v.st = .refusedRollback)) F.SEC_EVENTS_ROLLBACK

/-- The boot stage shown while no image has been activated since the reset (R690). -/
def State.bootStage (s : State) (n : Nat) : State := if s.imageActive then s else s.setf F.GLB_STATUS_STAGE n

/-- A load refused (R62, R669). -/
def State.refuseLoad (s : State) (v : Finding) : State := ((s.showVerdict v).bootStage 5).endLoad v.st v.report false

/-- A verdict without a fault. -/
def Finding.good : Finding := { check := 0, st := .done, section_ := 0, report := [] }

/-- A verified FULL image: activated at once when no image is active, staged otherwise (R671). -/
def State.takeFull (s : State) (im : Image) (cxl : List Nat) (rejected : Bool) : State :=
  if !s.imageActive then ((s.activate im cxl rejected).setf F.GLB_STATUS_STAGE 8).endLoad .done [] false
  else
    let s1 : State := { s with img := { s.img with staged := some im } }
    (((s1.showVerdict Finding.good).setf F.IMG_STATUS_STAGED 1).event F.IMG_EVENTS_STAGED).endLoad .done [] true

/-- A verified ALMANAC_ONLY image written into the shadow set as one transaction (R675, R45). -/
def State.takeAlmanac (s : State) (im : Image) : State :=
  if s.seq.swap.isSome then s.refuseLoad { check := 0, st := .refusedBusy, section_ := 0, report := [] }
  else
    let s1 := ({ s with seq := { s.seq with shadow := im.rows } }).setf F.SEQ_ROWS_SHADOW im.count
    let s2 := (List.range 16).foldl (fun (s : State) t =>
      let e := im.entries.find? fun x => x.1 = t
      (s.setf F.SEQ_TKn_ENTRY_SHADOW ((e.map Prod.snd).getD 0) t).setf F.SEQ_TKn_ENTRY_SHADOW_EN (b2n e.isSome) t) s1
    ((s2.showVerdict Finding.good).commitView).endLoad .done [] false

/-- A verified PATCH image (R682, R684, R685, R716): its sector goes through Twilight first when it runs. -/
def State.takePatch (s : State) (im : Image) : State :=
  let n := im.sector
  let waits := s.bist.runs.any fun r => decide (r.sector = n)
  if s.seq.swap.isSome ∨ waits ∨ tfind n s.img.purpose = some 1 then
    s.refuseLoad { check := 0, st := .refusedBusy, section_ := 0, report := [] }
  else
    let p : PatchRun := { image := im, enable := im.enable, step := 1 }
    let s1 : State := { s with img := { s.img with patch := some p, purpose := tput n 3 s.img.purpose } }
    let s2 := (((s1.showVerdict Finding.good).setf F.IMG_STATUS_STATE 4).setf F.IMG_PATCH_SECTOR n).setf F.IMG_PATCH_STEP 1
    if s.healthy n ∨ s.unitDraining n then s2.startDrain n (s.f F.IMG_PATCH_DEADLINE) else s2.patchOn n p

/-- A load whose nine checks have passed. -/
def State.takeImage (s : State) (im : Image) (cxl : List Nat) (rejected : Bool) : State :=
  if im.kind = imFull then s.takeFull im cxl rejected
  else if im.kind = imAlmanac then s.takeAlmanac im
  else s.takePatch im

/-- A member's result of check 9: position, code, report (R670). -/
structure PartCode where
  pos : Nat
  st : Status
  report : List FitEntry
  deriving DecidableEq, Repr

/-- The first failing result in position order (R670). -/
def firstFailing (ps : List PartCode) : Option PartCode := (ps.mergeSort fun a b => a.pos ≤ b.pos).find? fun p => p.st ≠ .done

/-- The kind that carries ACTIVATE, and an image part and its result, between members of a constellation. -/
def mkActivate : Nat := 14
def mkImagePart : Nat := 15

/-- Check 9 and its result, which SEQ_FIT shows, this gateway's own first put beside those of the other members of a bound constellation. -/
def State.verifyImage (s : State) (im : Image) (cxl : List Nat) (rejected : Bool) (others : List PartCode) : State :=
  let own := s.fitImage im cxl
  match firstFailing (PartCode.mk s.position own.1 own.2 :: others) with
  | none => (s.fitReport .done []).takeImage im cxl rejected
  | some p => (s.fitReport p.st p.report).refuseLoad { check := 9, st := p.st, section_ := (p.report.head?.map FitEntry.section_).getD 0, report := p.report }

/-- A complete load verified (R669, R670). -/
def State.verifyLoad (s : State) (l : Load) (sigOk : Bool) (body : ImageBody) (cxl : List Nat) (rejected : Bool) (others : List PartCode) :
    State :=
  let s1 := s.bootStage 6
  match s1.checkFile l.bytes l.target sigOk s1.position with
  | .error v => s1.refuseLoad v
  | .ok c => match c.image body with
    | .error v => s1.refuseLoad v
    | .ok im => s1.verifyImage im cxl rejected (if c.hdr.bound then others else [])

/-- The image of the boot area verified in stages 6 to 8 (R690): its signature, its version, its fit. -/
def State.verifyArea (s : State) (im : Image) (sigOk : Bool) (cxl : List Nat) (rejected : Bool) : State :=
  if !sigOk ∨ !s.bit F.SEC_STATUS_ACTIVE im.owner then s.refuseLoad { check := 5, st := .refusedSignature, section_ := 0, report := [] }
  else if im.version < s.f F.SEC_ROLLBACK_COUNTER then s.refuseLoad { check := 6, st := .refusedRollback, section_ := 0, report := [] }
  else s.verifyImage im cxl rejected []

/-- LOAD_VERIFY (R663 to R671, R675, R682 to R685, R690). `sigOk` says whether the HSS signature verifies under the owner
key; `body` is what the sections without a byte layout say; `cxl` and `rejected` are what the CXL port enumerates in the image's
layout; `others` are the results of the other members of a bound constellation. `part` is the part that a bound member is
sent by its pole, which has made checks 1 to 8; the member tells the pole its code. -/
def execLoadVerify (sigOk : Bool) (body : ImageBody) (cxl : List Nat) (rejected : Bool) (others : List (Nat × Status × List FitEntry))
    (part : Option Image) (s : State) : Host.Outcome State Fault Refusal :=
  let os := others.map fun o => PartCode.mk o.1 o.2.1 o.2.2
  match s.host.load, s.img.area, part with
  | some l, _, _ =>
    .next (if l.complete ∧ l.target ≤ 2 ∧ s.img.patch.isNone then s.verifyLoad l sigOk body cxl rejected os else s)
  | none, some im, none => .next (if s.f F.GLB_STATUS_STAGE = 6 ∧ !s.imageActive then s.verifyArea im sigOk cxl rejected else s)
  | none, _, some im =>
    if s.f F.CST_STATUS_MODE = 1 ∧ s.f F.CST_STATUS_IS_POLE = 0 ∧ s.img.staged.isNone ∧ s.img.patch.isNone then
      let r := (s.fitImage im cxl).1
      .next ((s.verifyImage im cxl rejected []).emit (.member s.pole mkImagePart s.position [BitVec.ofNat 8 r.code]))
    else .next s
  | none, none, none => .next s

/-! ### ACTIVATE and DISCARD -/

/-- Tracks, the photonic engine and the enabled tiles, the units that R672 drains. -/
def State.drainUnits (s : State) : List Nat :=
  (List.range 16).map unitTrack ++ [unitPpe] ++
    ((List.range 4).filter fun t => (List.range 4).any fun i => s.pairEnabled (4 * t + i)).map unitTile

/-- IMG_CTRL.CMD ACTIVATE (R672, R674); a second one brings its own deadline (R677), and one without a staged image takes no
action. -/
def State.startActivation (s : State) : State :=
  if s.img.staged.isNone then s
  else
    let d := s.f F.IMG_CTRL_DEADLINE
    let s1 := ({ s with img := { s.img with activating := true } }).setf F.IMG_STATUS_STATE 3
    let s2 := s1.drainUnits.foldl (fun (s : State) u => s.startDrain u d) s1
    if s.f F.CST_STATUS_MODE = 1 ∧ s.f F.CST_STATUS_IS_POLE = 1 then
      ((List.range (s.f F.CST_STATUS_MEMBERS)).filter (· ≠ s.position)).foldl
        (fun (s : State) m => s.emit (.member m mkActivate 0 (beBytes 4 d))) s2
    else s2

/-- IMG_CTRL.CMD DISCARD (R671): the staged image is dropped; none staged, or one whose activation has begun, takes no
action. -/
def State.discard (s : State) : State :=
  if s.img.staged.isNone ∨ s.img.activating then s
  else ({ s with img := { s.img with staged := none } }.setf F.IMG_STATUS_STAGED 0).dropStaging

/-- ACTIVATE (R672, R674). -/
def execActivate (s : State) : Host.Outcome State Fault Refusal := .next s.startActivation

/-- DISCARD (R671). -/
def execDiscard (s : State) : Host.Outcome State Fault Refusal := .next s.discard

/-- IMAGE_ACTIVATION (R672 to R674): every item has ended. -/
def execImageActivation (cxl : List Nat) (rejected : Bool) (s : State) : Host.Outcome State Fault Refusal :=
  match s.img.staged with
  | some im => .next (if s.img.activating ∧ s.seq.items.isEmpty then (s.activate im cxl rejected).dropStaging else s)
  | none => .next s

/-! ### Management firmware -/

/-- The event target and the unit index of a management processor are `m` and `30 + m`. -/
def unitMp (m : Nat) : Nat := 30 + m

def State.setFw (s : State) (r : Option FwRun) : State :=
  ({ s with img := { s.img with fw := r } }.setf F.IMG_FW_STATUS_RESTARTING (b2n r.isSome)).setf F.IMG_FW_STATUS_MP
    ((r.map FwRun.mp).getD (s.f F.IMG_FW_STATUS_MP))

/-- A processor takes no new work (R687). -/
def State.drainMp (s : State) (m : Nat) : State :=
  (s.setFw (some { mp := m, draining := true, since := s.now, oldB := s.bit F.IMG_FW_STATUS_COPY_B m })).putBit
    F.IMG_DRAINING_UNITS (unitMp m) true

/-- A drained processor restarts on the preferred copy, out of service as an event target (R687). -/
def State.restartMp (s : State) (r : FwRun) : State :=
  let s1 := (s.setFw (some { r with draining := false, since := s.now })).putBit F.IMG_FW_STATUS_COPY_B r.mp
    (decide (s.f F.IMG_FW_STATUS_PREFER_B = 1))
  (s1.setTarget r.mp false).markDark (unitMp r.mp)

/-- Major version of a copy. -/
def State.major (s : State) (b : Bool) : Nat := (if b then s.f F.IMG_FW_STATUS_B_VERSION else s.f F.IMG_FW_STATUS_A_VERSION) / 256

/-- IMG_FW_CTRL.RESTART: its code and effect (R687, R688); one in progress refuses another. -/
def State.restartFw (s : State) : Status × State :=
  if s.img.fw.isSome ∨ s.f F.SEC_STATUS_RECOVERY = 1 then (.refusedBusy, s)
  else if (List.range 4).any fun m => s.major (s.bit F.IMG_FW_STATUS_COPY_B m) ≠ s.major (decide (s.f F.IMG_FW_STATUS_PREFER_B = 1)) then
    (.refusedMode, s)
  else (.done, s.drainMp 0)

/-- RESTART (R687, R688). -/
def execRestart (s : State) : Host.Outcome State Fault Refusal :=
  .next (s.restartFw.2.setf F.IMG_FW_STATUS_RESULT s.restartFw.1.code)

/-- MP_DRAIN_LIMIT (R687): the work of the draining processor has ended, `left` being empty, or the requests `left` are still
in flight at DRAIN and end FAILED_DISABLED; the processor restarts. -/
def execMpDrainLimit (left : List Nat) (s : State) : Host.Outcome State Fault Refusal :=
  match s.img.fw with
  | some r =>
    if r.draining ∧ (left = [] ∨ s.elapsed r.since (max 1 (s.f F.IMG_FW_CTRL_DRAIN) * 1000000)) then
      let mine := left.filter fun q => s.host.asked.any fun a => a.1 = q
      .next ((mine.foldl (fun (s : State) q => s.respond q .failedDisabled) s).restartMp r)
    else .next s
  | none => .next s

/-- MP_READY (R687): processor `m` reports ready; the next one starts, or the sequence has ended. A processor that came back
on its previous copy (R688) returns to service. -/
def execMpReady (m : Nat) (s : State) : Host.Outcome State Fault Refusal :=
  if 4 ≤ m then .next s
  else
    let s1 := (s.setTarget m true).markRunning (unitMp m)
    match s.img.fw with
    | some r =>
      if r.mp ≠ m ∨ r.draining then .next (if s.unitDark (unitMp m) then s1 else s)
      else if m < 3 then .next (s1.drainMp (m + 1))
      else .next (((s1.setFw none).setf F.IMG_FW_STATUS_RESULT Status.done.code).event F.IMG_EVENTS_FW_RESTARTED)
    | none => .next (if s.unitDark (unitMp m) then s1 else s)

/-- MP_READY_TIMEOUT (R688): the processor goes back to its previous copy and the sequence stops. The spec gives RESULT no
code here: a free value (log entry 4). -/
def execMpReadyTimeout (s : State) : Host.Outcome State Fault Refusal :=
  match s.img.fw with
  | some r =>
    if !r.draining ∧ s.elapsed r.since 1000000000 then
      let v := s.fresh
      .next ((((v.2.setFw none).putBit F.IMG_FW_STATUS_COPY_B r.mp r.oldB).setf F.IMG_FW_STATUS_RESULT (v.1.toNat % 256)).event
        F.IMG_EVENTS_FW_FAIL)
    else .next s
  | none => .next s

end Sys2Proof.Machine
end

