-- ==== Sys2Proof/Machine/Sec.lean ====
section
/-! DEFINITION. Ownership (R701 to R705), attestation and the identity key (R697 to R700), the anti-rollback counter (R707)
and PERSIST (R694). -/

namespace Sys2Proof.Machine

/-! ### Owner commands -/

/-- The owner command as SEC_CMD holds it: `n` bytes from offset `o` (R702). -/
def State.cmdBytes (s : State) (o n : Nat) : List Byte :=
  let ws := (List.range ((o % 8 + n + 7) / 8)).flatMap fun k => beBytes 8 (s.f F.SEC_CMD_BYTES (o / 8 + k))
  (ws.drop (o % 8)).take n

def State.cmdNat (s : State) (o n : Nat) : Nat := beNat (s.cmdBytes o n)

/-- Owner commands (R702). -/
def ocClaim : Nat := 1
def ocAddKey : Nat := 2
def ocRevoke : Nat := 3
def ocRelease : Nat := 4

/-- The state of an owner slot: 0 empty, 1 active, 2 revoked. -/
def State.ownerState (s : State) (k : Nat) : Nat := ((tfind k s.sec.owners).map Prod.fst).getD 0

def State.owned (s : State) : Bool := s.sec.boot.isSome

/-- OWNED, ACTIVE and REVOKED of SEC_STATUS. -/
def State.syncOwners (s : State) : State :=
  ((s.setf F.SEC_STATUS_OWNED (b2n s.owned)).setf F.SEC_STATUS_ACTIVE (bitsOf ((List.range 4).filter fun k => s.ownerState k = 1))).setf
    F.SEC_STATUS_REVOKED (bitsOf ((List.range 4).filter fun k => s.ownerState k = 2))

/-- The record that a CLAIM's AUTH wraps under the claim key (R702): K0, BOOT_KEY, BOOT_SALT, digest of KEY. -/
def State.claimRecord (s : State) : Option (Nat × Nat × Nat × List Byte) :=
  if s.cmdNat 84 4 ≠ 112 then none
  else match keyUnwrap (bytesOf 32 s.sec.claimKey.toNat) (nats (s.cmdBytes 88 112)) with
    | some l => if l.length = 100 then some (natOf (l.take 32), natOf ((l.drop 32).take 32), natOf ((l.drop 64).take 4), byts (l.drop 68)) else none
    | none => none

/-- The code that refuses an owner command, if one does (R703); `sigOk` is the verdict on the HSS signature of a command other
than CLAIM. DEDUCED: a CMD that R702 does not name, and a slot above 3, authenticate nothing and name no slot. -/
def State.cmdRefusal (s : State) (sigOk : Bool) : Option Status :=
  let cmd := s.cmdNat 0 1
  let slot := s.cmdNat 1 1
  let signer := s.cmdNat 2 1
  let auth := if cmd = ocClaim then (match s.claimRecord with
      | some r => decide (r.2.2.2 = byts (sha256 (nats (s.cmdBytes 24 60))))
      | none => false)
    else sigOk && decide (ocAddKey ≤ cmd) && decide (cmd ≤ ocRelease)
  let lastActive := decide (s.ownerState slot = 1) && decide (((List.range 4).filter fun k => s.ownerState k = 1).length = 1)
  if s.cmdNat 8 8 ≠ s.f F.SEC_DEVICE_DEVICE ∨ s.cmdNat 16 8 ≠ s.f F.SEC_CHALLENGE_CHALLENGE ∨ !auth then some .refusedSignature
  else if cmd = ocClaim then (if s.owned ∨ 4 ≤ slot then some .refusedBusy else none)
  else if !s.owned ∨ s.ownerState signer ≠ 1 then some .refusedBusy
  else if cmd = ocAddKey ∧ (s.ownerState slot ≠ 0 ∨ 4 ≤ slot) then some .refusedBusy
  else if cmd = ocRevoke ∧ (lastActive ∨ 4 ≤ slot ∨ (s.imageActive ∧ slot = s.img.owner)) then some .refusedBusy
  else if cmd = ocRelease ∧ (s.imageActive ∨ s.img.staged.isSome) then some .refusedBusy
  else none

/-- The bootstrap key has changed: F and C return to zero (R592). -/
def State.newBootKey (s : State) : State :=
  let s1 : State := { s with host := { s.host with replay := s.host.replay.filter fun kv => decide (kv.1 ≠ 0) } }
  ((s1.setf F.HOST_BOOT_FLOOR_FLOOR 0).setf F.HOST_BOOT_FLOOR_CEILING 0).setf F.HOST_STATUS_BOOTSTRAP_SPENT 0

/-- The effect of an owner command (R704). -/
def State.carryOut (s : State) : State :=
  let cmd := s.cmdNat 0 1
  let slot := s.cmdNat 1 1
  let key := s.cmdBytes 24 60
  let own (t : Tab (Nat × List Byte)) : State := { s with sec := { s.sec with owners := t } }
  if cmd = ocClaim then
    match s.claimRecord with
    | some r =>
      let s1 := own (tput slot (1, key) s.sec.owners)
      ({ s1 with sec := { s1.sec with boot := some (BitVec.ofNat 256 r.2.1, BitVec.ofNat 32 r.2.2.1) }
                 ciph := { s1.ciph with k0 := some (BitVec.ofNat 256 r.1) } }.setf F.CIPH_STATUS_K0_LIVE 1).newBootKey.syncOwners
    | none => s
  else if cmd = ocAddKey then (own (tput slot (1, key) s.sec.owners)).syncOwners
  else if cmd = ocRevoke then (own (tput slot (2, ((tfind slot s.sec.owners).map Prod.snd).getD []) s.sec.owners)).syncOwners
  else if cmd = ocRelease then
    let s1 := own []
    ({ s1 with sec := { s1.sec with boot := none }, ciph := { s1.ciph with k0 := none } }.setf F.CIPH_STATUS_K0_LIVE 0).newBootKey.syncOwners
  else s

/-- SEC_CTRL EXECUTE (R702 to R705): the command's code, and its effect; the challenge changes either way. -/
def State.execute (s : State) (sigOk : Bool) : Status × State :=
  let st := (s.cmdRefusal sigOk).getD .done
  let s1 := if st = .done then s.carryOut else s
  let v := s1.fresh
  let s2 := (v.2.setf F.SEC_CHALLENGE_CHALLENGE v.1.toNat).setf F.SEC_CTRL_RESULT st.code
  (st, (s2.event F.SEC_EVENTS_CMD_DONE).eventIf (decide (st ≠ .done)) F.SEC_EVENTS_CMD_REFUSED)

/-- CLAIM (R702 to R705). -/
def execClaim (s : State) : Host.Outcome State Fault Refusal := .next (if s.cmdNat 0 1 = ocClaim then (s.execute false).2 else s)

/-- ADD_KEY (R702 to R705). -/
def execAddKey (sigOk : Bool) (s : State) : Host.Outcome State Fault Refusal :=
  .next (if s.cmdNat 0 1 = ocAddKey then (s.execute sigOk).2 else s)

/-- REVOKE_KEY (R702 to R705). -/
def execRevokeKey (sigOk : Bool) (s : State) : Host.Outcome State Fault Refusal :=
  .next (if s.cmdNat 0 1 = ocRevoke then (s.execute sigOk).2 else s)

/-- RELEASE of ownership (R702 to R705). -/
def execRelease (sigOk : Bool) (s : State) : Host.Outcome State Fault Refusal :=
  .next (if s.cmdNat 0 1 = ocRelease then (s.execute sigOk).2 else s)

/-! ### The identity key and quotes -/

/-- Leaves of the identity key (R697) and of a level-1 tree (R695). -/
def idLeaves : Nat := 2 ^ 40
def treeLeaves : Nat := 2 ^ 20

/-- The next leaf is the first of a level-1 tree that must be built first (R698). -/
def State.treeSpent (s : State) : Bool :=
  let n := s.f F.SEC_LEAVES_NEXT
  decide (0 < n) && decide (n % treeLeaves = 0)

/-- Bytes 0 to 151 of a quote (R700), its leaf given. -/
def State.quoteBytes (s : State) (leaf : Nat) : List Byte :=
  let b := decide (s.f F.SEC_STATUS_FW_B = 1)
  let fw := ((if b then s.img.copyB else s.img.copyA).map FwCopy.digest).getD (List.replicate 32 0)
  beBytes 4 0x54515431 ++ beBytes 1 (s.f F.GLB_ID_STEPPING) ++ beBytes 1 (s.f F.SEC_STATUS_BOOT_SEL + 4 * b2n b)
  ++ beBytes 1 (s.f F.SEC_STATUS_ACTIVE + 16 * s.f F.SEC_STATUS_REVOKED) ++ beBytes 1 (s.f F.ARR_STATUS_HEALTHY)
  ++ beBytes 8 (s.f F.SEC_DEVICE_DEVICE) ++ ((List.range 4).flatMap fun w => beBytes 8 (s.f F.SEC_NONCE_NONCE w)) ++ fw
  ++ s.activeDigest ++ beBytes 4 (s.f F.IMG_STATUS_VERSION) ++ beBytes 4 (s.f F.SEC_ROLLBACK_COUNTER)
  ++ beBytes 1 (if s.imageActive then s.img.owner else 0) ++ beBytes 7 0 ++ beBytes 8 (s.f F.GLB_VIEW_VIEW)
  ++ beBytes 8 (s.f F.SEQ_MERIDIAN_STEP) ++ beBytes 8 leaf

/-- A leaf taken, reserved first where the reservation is used up (R697, R699). -/
def State.takeLeaf (s : State) : State :=
  let n := s.f F.SEC_LEAVES_NEXT
  let s1 : State := if n < s.sec.reservedLeaf then s else { s with sec := { s.sec with reservedLeaf := n + 1024 } }
  ((s1.setf F.SEC_LEAVES_NEXT (n + 1)).setf F.SEC_LEAVES_NEXT_TREE (if s.treeSpent then 0 else s.f F.SEC_LEAVES_NEXT_TREE)).eventIf
    (decide (idLeaves < n + 1 + 2 ^ 30)) F.SEC_EVENTS_ID_LOW

/-- SEC_CTRL QUOTE (R697 to R700): its code and effect. -/
def State.startQuote (s : State) : Status × State :=
  if s.sec.quote.isSome then (.refusedBusy, s)
  else if idLeaves ≤ s.sec.reservedLeaf then (.refusedFit, s.event F.SEC_EVENTS_ID_EXHAUSTED)
  else if s.treeSpent ∧ s.f F.SEC_LEAVES_NEXT_TREE = 0 then (.refusedBusy, s)
  else
    let leaf := s.f F.SEC_LEAVES_NEXT
    let s1 : State := { s with sec := { s.sec with quote := some (s.now, leaf, s.quoteBytes leaf) } }
    (.done, (s1.takeLeaf).setf F.SEC_STATUS_QUOTE_BUSY 1)

/-- A command of SEC_CTRL whose end is already known shows its code. -/
def State.secResult (r : Status × State) : State := if r.1 = .done then r.2 else r.2.setf F.SEC_CTRL_RESULT r.1.code

/-- QUOTE (R700). -/
def execQuote (s : State) : Host.Outcome State Fault Refusal := .next (State.secResult s.startQuote)

/-- Bytes placed in registers of eight bytes each, byte 8k in bits [63:56]. -/
def State.putBytes (s : State) (x : Fld) (bs : List Byte) : State :=
  ((chunks 8 ((bs.length + 7) / 8) (bs ++ List.replicate ((8 - bs.length % 8) % 8) 0)).zipIdx).foldl
    (fun (s : State) c => s.setf x (beNat c.1) c.2) s

/-- QUOTE_DONE (R700): the identity signature, 3,604 bytes, is made; the spec gives its bytes no value here, so they are an
operand. -/
def execQuoteDone (sig : List Byte) (s : State) : Host.Outcome State Fault Refusal :=
  match s.sec.quote with
  | some q =>
    if sig.length ≠ 3604 then .next s
    else
      let s1 := ({ s with sec := { s.sec with quote := none } }).putBytes F.SEC_QUOTE_BYTES (q.2.2 ++ sig)
      .next ((((s1.setf F.SEC_STATUS_QUOTE_BUSY 0).setf F.SEC_CTRL_RESULT Status.done.code).count F.SEC_QUOTES_COUNT).event
        F.SEC_EVENTS_QUOTE_DONE)
  | none => .next s

/-- ID_TREE_BUILT (R698): fewer than 2^18 leaves of the current tree remain, and the next tree is built. -/
def execIdTreeBuilt (s : State) : Host.Outcome State Fault Refusal :=
  let n := s.f F.SEC_LEAVES_NEXT
  .next (if s.treeSpent ∨ treeLeaves - n % treeLeaves < 2 ^ 18 then s.setf F.SEC_LEAVES_NEXT_TREE 1 else s)

/-! ### Anti-rollback and PERSIST -/

/-- SEC_CTRL RAISE (R707): its code and effect. -/
def State.raise (s : State) : Status × State :=
  if !s.imageActive then (.refusedBusy, s)
  else
    let v := s.f F.IMG_STATUS_VERSION
    (.done, (if s.f F.SEC_ROLLBACK_COUNTER < v then s.setf F.SEC_ROLLBACK_COUNTER v else s).setf F.SEC_CTRL_RESULT Status.done.code)

/-- RAISE (R707). -/
def execRaise (s : State) : Host.Outcome State Fault Refusal := .next (State.secResult s.raise)

/-- Bytes of the boot image area (R693). -/
def areaBytes : Nat := 192 * 2 ^ 20

/-- SEC_CTRL PERSIST (R694): its code and effect. A copy in progress refuses another; while one runs the area is empty. -/
def State.persist (s : State) : Status × State :=
  match s.img.staged with
  | none => (.refusedBusy, s)
  | some im =>
    if s.sec.persisting.isSome then (.refusedBusy, s)
    else if areaBytes < im.len then (.refusedFit, s)
    else (.done, { s with sec := { s.sec with persisting := some im }, img := { s.img with area := none } })

/-- PERSIST (R694). -/
def execPersist (s : State) : Host.Outcome State Fault Refusal := .next (State.secResult s.persist)

/-- PERSIST_DONE (R694). -/
def execPersistDone (s : State) : Host.Outcome State Fault Refusal :=
  match s.sec.persisting with
  | some im =>
    .next (({ s with sec := { s.sec with persisting := none }, img := { s.img with area := some im } }).setf F.SEC_CTRL_RESULT Status.done.code)
  | none => .next s

end Sys2Proof.Machine
end

