-- ==== Sys2Proof/Machine/Boot.lean ====
section
/-! DEFINITION. Resets (R739 to R744, R753), the boot stages (R690 to R693) and recovery mode (R692). -/

namespace Sys2Proof.Machine

/-! ### What a reset keeps -/

/-- Fields read from the vault die or the flash, which every reset keeps (R19, R741). -/
def Fld.vault (x : Fld) : Bool :=
  [F.GLB_ID_ROM, F.GLB_DEVICE_DEVICE, F.HOST_MAC_MAC, F.HOST_BOOT_FLOOR_FLOOR, F.HOST_BOOT_FLOOR_CEILING, F.SEC_DEVICE_DEVICE,
   F.SEC_ROLLBACK_COUNTER].contains x
  || [F.BIST_STATUS_RETIRED, F.PWR_LAST_OFF_CAUSE, F.PWR_LAST_OFF_DIE, F.SEC_CERT_BYTES, F.SEC_STATUS_CERT_LEN, F.IMG_FW_STATUS_A_VERSION,
      F.IMG_FW_STATUS_B_VERSION, F.IMG_FW_STATUS_PREFER_B].contains x

/-- Live fields that show what the board applies; they show it again as soon as they are read (DEDUCED). -/
def Fld.outside (x : Fld) : Bool :=
  [F.PWR_STATUS_VIN_STATE, F.PWR_STATUS_ONE_SECTOR, F.PWR_VIN_MV, F.PWR_PINS_HS_FAULT_N, F.PWR_PINS_COOL_FAULT_N, F.PWR_PINS_GPI,
   F.PWR_PINS_LASER_EN_N, F.PWR_TEMPd_NOW].contains x
  || [F.CLK_STATUS_REF_OK, F.CLK_STATUS_ROOT_LOCK, F.CLK_STATUS_HOLD, F.CLK_STATUS_FREE_RUN, F.CLK_STATUS_PHY_LOCK].contains x

/-- Fields that SYSRST_N keeps beside those (R19, R691, R741). -/
def Fld.sticky (x : Fld) : Bool :=
  decide (x.acc = .rws) || [F.ARR_STATUS_SUSPECT, F.SEC_STATUS_BOOT_SEL, F.TIME_TBn_SEC_SECONDS, F.TIME_TBn_NS_NS, F.TIME_TBn_NS_FRAC,
    F.TIME_TBn_OFFSET_OFFSET].contains x

/-- A register file in which only some fields are kept. -/
def regsKept (p : Fld → Bool) (t : Tab Word) : Tab Word :=
  t.foldl (fun (a : Tab Word) kv => match regAt kv.1 with
    | some r => tset resetWord a kv.1 (BitVec.ofNat 64 (takeFields (r.fields.filter p) r.rst kv.2.toNat))
    | none => a) []

/-- A reset: every field at its reset value but those kept; K1 to K255 zeroed (R523); tiers S, H and D undefined (R741): they
read as what an unlisted byte reads as (log entry 5), and tier X is kept; the vault die and the flash are kept, and a copy into
the boot area that was in progress leaves it empty (R694). What the gateway has sent, its queue and its time stay. -/
def State.resetTo (s : State) (keep : Fld → Bool) : State :=
  let z := State.reset
  { z with
    pending := s.pending
    now := s.now
    free := s.free
    out := s.out ++ [Emit.rest]
    regs := regsKept keep s.regs
    mem := { z.mem with cells := s.mem.cells.filter fun c => decide (memKey 3 0 ≤ c.1)
                        poison := s.mem.poison.filter fun w => decide (memKey 3 0 ≤ w * 8) }
    ciph := { z.ciph with k0 := s.ciph.k0 }
    evt := { z.evt with pins := s.evt.pins }
    img := { z.img with copyA := s.img.copyA, copyB := s.img.copyB, preferB := s.img.preferB, area := s.img.area }
    sec := { z.sec with claimKey := s.sec.claimKey, boot := s.sec.boot, owners := s.sec.owners, reservedLeaf := s.sec.reservedLeaf }
    pwr := { z.pwr with porst := s.pwr.porst, held := s.pwr.held, off := s.pwr.off, outAt := s.pwr.outAt, refLostAt := s.pwr.refLostAt } }

/-- PORST_N taken as a reset (R739, R741): the time bases, the bins and the suspect marks go as well. -/
def State.porstReset (s : State) : State :=
  let s1 := s.resetTo fun x => x.vault || x.outside
  { s1 with pwr := { s1.pwr with porst := true, held := false } }

/-- SYSRST_N taken as a reset (R19, R741): the time bases keep running; RWS fields, bins, suspect marks, the state of retired
sectors, FAILED of the PPE (R175) and BOOT_SEL are kept, and so is the numbering of transactions (R599). -/
def State.sysReset (s : State) : State :=
  let s0 := s.resetTo fun x => x.vault || x.outside || x.sticky
  let s1 := ((List.range 8).filter fun n => decide (s.secState n = secRetired)).foldl (fun (s : State) n => s.setf F.ARR_SECn_STATUS_STATE secRetired n) s0
  { s1 with
    time := { s1.time with bases := s.time.bases }
    bist := { s1.bist with bins := s.bist.bins }
    ppe := { s1.ppe with failed := s.ppe.failed }
    host := { s1.host with lastTxn := s.host.lastTxn, lastSnap := s.host.lastSnap } }

/-! ### Boot stages -/

/-- A boot stage begins (R690). -/
def State.beginStage (s : State) (n : Nat) : State :=
  ({ s with sec := { s.sec with stageAt := s.now } }).setf F.GLB_STATUS_STAGE n

/-- Stage 2 (R690, R731): READY_N is driven low and Expin is answered; K0 is loaded, and the vault's state is shown. -/
def State.stage2 (s : State) : State :=
  let s1 := ((s.beginStage 2).setf F.PWR_STATUS_READY 1).emit (.pin .readyN false)
  (((s1.setf F.CIPH_STATUS_K0_LIVE (b2n s.ciph.k0.isSome)).setf F.SEC_LEAVES_NEXT s.sec.reservedLeaf).syncOwners).raiseFloor

/-- Recovery mode (R692). -/
def State.recovery (s : State) : State := s.setf F.SEC_STATUS_RECOVERY 1

/-- The smallest capacity of eight DDR5 channels, in GiB over all of them (R488): zero where one is empty. -/
def ddrTotal (ddr : List Nat) : Nat := if ddr.length = 8 then 8 * (ddr.min?.getD 0) else 0

/-- Tier D as the channels give it (R488). -/
def State.setDdr (s : State) (ddr : List Nat) : State :=
  let up := bitsOf ((List.range 8).filter fun n => 0 < ddr.getD n 0)
  ((s.setf F.MEM_CAP_D_GIB (ddrTotal ddr)).setf F.MEM_STATUS_D_UP up).eventIf (decide (1 < ddr.dedup.length)) F.MEM_EVENTS_D_UNEVEN

/-- Stage 4 (R690, R713, R718): firmware runs on copy `b`, the management processors are in service, and every sector that is
not retired waits for its test. -/
def State.stage4 (s : State) (b : Bool) (ddr : List Nat) : State :=
  let s1 := ((s.beginStage 4).setf F.SEC_STATUS_FW_B (b2n b)).setf F.IMG_FW_STATUS_COPY_B (if b then 15 else 0)
  let s2 := (List.range 4).foldl (fun (s : State) m => s.setTarget m true) (s1.setDdr ddr)
  let gone := (List.range 8).filter fun n => s.bit F.BIST_STATUS_RETIRED n
  let s3 := gone.foldl (fun (s : State) n => (s.setSec n secRetired).putBit F.IMG_DARK_UNITS n true) s2
  ((bistOrder.filter fun n => !gone.contains n).foldl (fun (s : State) n => s.askBist n 0 1 false) s3).syncBist

/-- BOOT_STAGE_END (R690 to R692): the stage in progress ends. `ok` is the outcome of stage 1 and of the preferred firmware
copy's check in stage 3, `other` that of the other copy's, and `ddr` the capacity in GiB of each DDR5 channel. -/
def execBootStageEnd (ok other : Bool) (ddr : List Nat) (s : State) : Host.Outcome State Fault Refusal :=
  let sel := s.f F.SEC_STATUS_BOOT_SEL
  let prefB := decide (s.f F.IMG_FW_STATUS_PREFER_B = 1)
  if s.asleep ∨ s.f F.SEC_STATUS_PUF_FAIL = 1 ∨ s.f F.SEC_STATUS_RECOVERY = 1 then .next s
  else match s.f F.GLB_STATUS_STAGE with
    | 1 => .next (if ok then (s.setf F.CLK_STATUS_PHY_LOCK 0xFF).stage2 else s.setf F.SEC_STATUS_PUF_FAIL 1)
    | 2 => .next (if sel = 2 then s.recovery else s.beginStage 3)
    | 3 => .next (if ok then s.stage4 prefB ddr else if other then s.stage4 (!prefB) ddr else s.recovery)
    | 4 => .next (if s.bist.runs.isEmpty then s.beginStage 5 else s)
    | 5 => .next (if sel = 0 ∧ s.img.area.isSome ∧ s.host.load.isNone ∧ !s.imageActive then s.beginStage 6 else s)
    | _ => .next s

/-! ### The reset pins -/

/-- The input is in range (R727, R728). -/
def State.vinInRange (s : State) : Bool := decide (38000 ≤ s.f F.PWR_VIN_MV) && decide (s.f F.PWR_VIN_MV ≤ 62000)

/-- The boot from stage 1, TB3 at zero (R566, R690, R733). -/
def State.boot1 (s : State) : State :=
  ((({ s with now := 0, pwr := { s.pwr with held := false } }).beginStage 1).setf F.CLK_STATUS_REF_OK 1).setf F.CLK_STATUS_ROOT_LOCK 1

/-- PORST_N_ASSERT (R739, R741). -/
def execPorstNAssert (s : State) : Host.Outcome State Fault Refusal := .next s.porstReset

/-- PORST_N_RELEASE (R690, R691, R728, R733): BOOT_SEL is sampled; `ready` says whether every rail is in regulation and the
root PLL locked. -/
def execPorstNRelease (sel : Nat) (ready : Bool) (s : State) : Host.Outcome State Fault Refusal :=
  if !s.pwr.porst then .next s
  else
    let off := s.pwr.off && !s.vinInRange
    let s1 : State := { s with pwr := { s.pwr with porst := false, off := off, held := !ready } }
    let s2 := s1.setf F.SEC_STATUS_BOOT_SEL (sel % 4)
    .next (if ready ∧ !off then s2.boot1 else s2)

/-- RAILS_READY (R733). -/
def execRailsReady (s : State) : Host.Outcome State Fault Refusal :=
  .next (if s.pwr.held ∧ !s.pwr.porst ∧ !s.pwr.off then s.boot1 else s)

/-- A warm reset and the restart of the boot at stage 2, or at stage 1 where stage 2 had not begun (R741 to R743). -/
def State.warmReset (s : State) : State :=
  if s.asleep then s
  else if s.f F.GLB_STATUS_STAGE < 2 ∨ s.f F.SEC_STATUS_PUF_FAIL = 1 then s.sysReset.beginStage 1
  else s.sysReset.stage2

/-- SYSRST_N (R741 to R743): held low for 1 µs and released. -/
def execSysrstN (s : State) : Host.Outcome State Fault Refusal := .next s.warmReset

/-- SOFT_RESET (R744): the response to the WRITE that asked for it has been sent. -/
def execSoftReset (s : State) : Host.Outcome State Fault Refusal := .next (if s.pwr.softDue then s.warmReset else s)

end Sys2Proof.Machine
end

