-- ==== Sys2Proof/Machine/Power.lean ====
section
/-! DEFINITION. Power, caps, temperature, clocks and board pins (R727 to R730, R736 to R738, R746, R747, R619, R620, R752). -/

namespace Sys2Proof.Machine

/-! ### The caps -/

/-- PWR_CAPPED_NS brought up to now. -/
def State.tallyCapped (s : State) : State :=
  match s.pwr.cappedAt with
  | some t => { (s.count F.PWR_CAPPED_NS_COUNT (s.now - t)) with pwr := { s.pwr with cappedAt := some s.now } }
  | none => s

/-- Work on the array or the lanes (R730). -/
def onLanes (it : Item) : Bool :=
  it.running && (rowOnArray it.row || decide (rowOpcode it.row = opReduce) || decide (rowOpcode it.row = opFirstpass))

/-- The array's level brought under a cap, or back to its item's (R730). -/
def State.relevel (s : State) : State :=
  if s.capped then s.rampTo s.arr.level
  else match s.arrayItem with
    | some it => s.rampTo (s.itemLevel it.row)
    | none => s

/-- A cap comes into force: what runs on the array or the lanes ends degraded (R730, R746). -/
def State.enterCap (s : State) (x e : Fld) : State :=
  if s.f x = 1 then s
  else
    let s1 := ((s.setf x 1).event e).degradeWhere onLanes
    { s1 with pwr := { s1.pwr with cappedAt := some (s1.pwr.cappedAt.getD s1.now) } }.relevel

/-- A cap ends; the count of capped time stops with the last one. -/
def State.leaveCap (s : State) (x : Fld) : State :=
  if s.f x = 0 then s
  else
    let s1 := s.setf x 0
    if s1.capped then s1
    else
      let s2 := s1.tallyCapped
      { s2 with pwr := { s2.pwr with cappedAt := none } }.relevel

/-- COOL_FAULT_N is low. -/
def State.coolFault (s : State) : Bool := decide (s.f F.PWR_PINS_COOL_FAULT_N = 0)

/-- PWR_LIMIT.AMPS as it acts, in mA. -/
def State.ampsLimit (s : State) : Nat := 1000 * min 32 (max 20 (s.f F.PWR_LIMIT_AMPS))

/-- The cap of R730 put in force where the current, the coolant or the input asks for it. -/
def State.checkCap (s : State) : State :=
  if !s.asleep && (decide (s.ampsLimit < s.f F.PWR_VIN_MA) || s.coolFault || decide (s.f F.PWR_VIN_MV < 40000)) then
    s.enterCap F.PWR_STATUS_CURRENT_CAP F.PWR_EVENTS_CURRENT_CAP
  else s

/-! ### Input -/

/-- VIN_CHANGE (R712, R727): the input stands at `mv` millivolts. -/
def execVinChange (mv : Nat) (s : State) : Host.Outcome State Fault Refusal :=
  let old := s.f F.PWR_VIN_MV
  let s1 := s.setf F.PWR_VIN_MV (min 65535 mv)
  let low (v : Nat) : Bool := decide (38000 ≤ v) && decide (v < 40000)
  let high (v : Nat) : Bool := decide (60000 < v) && decide (v ≤ 62000)
  let s2 := (s1.setf F.PWR_STATUS_VIN_STATE (if low mv then 1 else if high mv then 2 else 0)).setf F.PWR_STATUS_ONE_SECTOR (b2n (decide (mv < 42200)))
  let s3 : State := { s2 with pwr := { s2.pwr with outAt := if s1.vinInRange then none else s2.pwr.outAt.or (some s.now) } }
  if s.asleep then .next s3
  else .next ((s3.eventIf (low mv && !low old) F.PWR_EVENTS_UV_WARN).eventIf (high mv && !high old) F.PWR_EVENTS_OV_WARN).checkCap

/-- Off (R727, R728, R746): everything but the vault and the flash is lost, and the cause is recorded. -/
def State.turnOff (s : State) (cause die : Nat) : State :=
  let s1 := s.resetTo fun x => x.vault || x.outside
  { s1 with pwr := { s1.pwr with off := true } }.setf F.PWR_LAST_OFF_CAUSE cause |>.setf F.PWR_LAST_OFF_DIE die

/-- POWER_OFF (R727): the input has been out of range for 20 µs. -/
def execPowerOff (s : State) : Host.Outcome State Fault Refusal :=
  match s.pwr.outAt with
  | some t => .next (if !s.pwr.off ∧ s.elapsed t 20000 then s.turnOff (if s.f F.PWR_VIN_MV < 38000 then 1 else 2) 0 else s)
  | none => .next s

/-- CURRENT_SAMPLE (R730): the input current is `ma` milliamperes. -/
def execCurrentSample (ma : Nat) (s : State) : Host.Outcome State Fault Refusal :=
  if s.asleep then .next s
  else
    let w := s.f F.PWR_VIN_MV * ma / 1000000
    let s1 := (s.setf F.PWR_VIN_MA (min 65535 ma)).setf F.PWR_VIN_W (min 65535 w)
    let s2 := (s1.setf F.PWR_PEAK_MA (max (s.f F.PWR_PEAK_MA) (min 65535 ma))).setf F.PWR_PEAK_W (max (s.f F.PWR_PEAK_W) (min 65535 w))
    let s3 : State := { s2 with pwr := { s2.pwr with calmAt := if ma + 1000 ≤ s.ampsLimit then s2.pwr.calmAt.or (some s.now) else none } }
    .next s3.checkCap

/-- CAP_LIFT (R730). -/
def execCapLift (s : State) : Host.Outcome State Fault Refusal :=
  match s.pwr.calmAt with
  | some t =>
    .next (if s.f F.PWR_STATUS_CURRENT_CAP = 1 ∧ s.elapsed t 100000 ∧ !s.coolFault ∧ 40000 ≤ s.f F.PWR_VIN_MV then
      s.leaveCap F.PWR_STATUS_CURRENT_CAP else s)
  | none => .next s

/-! ### Temperature -/

/-- How far R746 lowers the thresholds of a die, in °C. -/
def dieMargin (d : Nat) : Nat := if 6 ≤ d ∧ d ≠ 10 then 10 else 0

/-- The thresholds of PWR_THERM as they act, in °C. -/
def State.throttleAt (s : State) : Nat := min 110 (s.f F.PWR_THERM_THROTTLE)
def State.warnAt (s : State) : Nat := min (s.f F.PWR_THERM_WARN) s.throttleAt

/-- A die's temperature, in 1/16 °C, reaches a threshold. -/
def atOrAbove (d : Nat) (t : Int) (c : Nat) : Bool := decide (16 * ((c : Int) - dieMargin d) ≤ t)

/-- Every die has fallen 5 °C below a threshold (R747). -/
def State.allBelow (s : State) (c : Nat) : Bool :=
  (List.range 20).all fun d => decide (signed16 (s.f F.PWR_TEMPd_NOW d) ≤ 16 * ((c : Int) - dieMargin d - 5))

/-- The alert of WARN (R746, R747). -/
def State.setAlert (s : State) (on : Bool) : State :=
  if decide (s.f F.PWR_STATUS_THERM_ALERT = 1) = on then s
  else
    let s1 := (s.setf F.PWR_STATUS_THERM_ALERT (b2n on)).emit (.pin .thermAlertN (!on))
    { s1 with pwr := { s1.pwr with warm := on } }

/-- THERMAL_REPORT (R746, R747): die `d` reports `temp`, signed in 16 bits, in 1/16 °C. -/
def execThermalReport (d temp : Nat) (s : State) : Host.Outcome State Fault Refusal :=
  if 20 ≤ d ∨ s.asleep then .next s
  else
    let t := signed16 (temp % 2 ^ 16)
    let old := signed16 (s.f F.PWR_TEMPd_NOW d)
    let s1 := (s.setf F.PWR_TEMPd_NOW (temp % 2 ^ 16) d).setf F.PWR_TEMPd_MAX
      (if signed16 (s.f F.PWR_TEMPd_MAX d) ≤ t then temp % 2 ^ 16 else s.f F.PWR_TEMPd_MAX d) d
    let reach (c : Nat) (on : Bool) : Bool := atOrAbove d t c && (!atOrAbove d old c || !on)
    if atOrAbove d t (s.f F.PWR_THERM_TRIP) then .next (s1.turnOff 3 d)
    else
      let s2 := s1.eventIf (reach s.warnAt s.pwr.warm) F.PWR_EVENTS_THERM_WARN
      let s3 := if atOrAbove d t s.warnAt then s2.setAlert true else if s2.allBelow s.warnAt then s2.setAlert false else s2
      let s4 := s3.eventIf (reach s.throttleAt s.pwr.hot) F.PWR_EVENTS_THERM_CAP
      let hot := if atOrAbove d t s.throttleAt then true else if s4.allBelow s.throttleAt then false else s4.pwr.hot
      let s5 : State := { s4 with pwr := { s4.pwr with hot := hot } }
      .next (if hot then s5.enterCap F.PWR_STATUS_THERM_CAP F.PWR_EVENTS_THERM_CAP else s5.leaveCap F.PWR_STATUS_THERM_CAP)

/-! ### Clocks -/

/-- REFCLK_LOST (R736). -/
def execRefclkLost (s : State) : Host.Outcome State Fault Refusal :=
  if s.f F.CLK_STATUS_REF_OK = 0 then .next s
  else
    let s1 := ((s.setf F.CLK_STATUS_REF_OK 0).setf F.CLK_STATUS_ROOT_LOCK 0).setf F.CLK_STATUS_HOLD 1
    .next { (s1.countEv F.PWR_REF_LOSSES_COUNT F.PWR_EVENTS_REF_LOST) with pwr := { s1.pwr with refLostAt := some s.now } }

/-- REFCLK_FREE_RUN (R736): the loss has lasted 1 ms. -/
def execRefclkFreeRun (s : State) : Host.Outcome State Fault Refusal :=
  match s.pwr.refLostAt with
  | some t => .next (if s.f F.CLK_STATUS_HOLD = 1 ∧ s.elapsed t 1000000 then (s.setf F.CLK_STATUS_HOLD 0).setf F.CLK_STATUS_FREE_RUN 1 else s)
  | none => .next s

/-- REFCLK_RETURN (R738): REFCLK has shown edges for 10 µs, and the PLLs start to relock. -/
def execRefclkReturn (s : State) : Host.Outcome State Fault Refusal :=
  .next (if s.pwr.refLostAt.isSome then s.setf F.CLK_STATUS_REF_OK 1 else s)

/-- PLL_UNLOCK (R738): a PLL loses lock with REFCLK present, 0 the root PLL, 1 to 8 the PHY PLLs in the order of
CLK_STATUS.PHY_LOCK. -/
def execPllUnlock (p : Nat) (s : State) : Host.Outcome State Fault Refusal :=
  if s.f F.CLK_STATUS_REF_OK = 0 ∨ 9 ≤ p then .next s
  else if p = 0 then .next ((s.setf F.CLK_STATUS_ROOT_LOCK 0).event F.PWR_EVENTS_PLL_UNLOCK)
  else .next ((s.putBit F.CLK_STATUS_PHY_LOCK (p - 1) false).event F.PWR_EVENTS_PHY_UNLOCK)

/-- PLL_RELOCKED (R738). -/
def execPllRelocked (s : State) : Host.Outcome State Fault Refusal :=
  if s.f F.CLK_STATUS_REF_OK = 0 then .next s
  else
    let s1 := (((s.setf F.CLK_STATUS_HOLD 0).setf F.CLK_STATUS_FREE_RUN 0).setf F.CLK_STATUS_ROOT_LOCK 1).setf F.CLK_STATUS_PHY_LOCK 0xFF
    .next { (s1.eventIf s.pwr.refLostAt.isSome F.PWR_EVENTS_REF_BACK) with pwr := { s1.pwr with refLostAt := none } }

/-! ### Pins -/

/-- The register bits that show pin `i` of event word 31, brought to its level (PWR_PINS, LINE_STATUS.ALERT). -/
def State.showPin (s : State) (i : Nat) (high : Bool) : State :=
  if i < 16 then s.putBit F.LINE_STATUS_ALERT i (!high)
  else if i < 24 then s.putBit F.PWR_PINS_GPI (i - 16) high
  else if i = 24 then s.setf F.PWR_PINS_HS_FAULT_N (b2n high)
  else if i = 25 then (s.setf F.PWR_PINS_COOL_FAULT_N (b2n high)).checkCap
  else s

/-- PIN_CHANGE (R620, R621, R730, R752): pin `i` of word 31 has held its new level for FILTER cycles. An edge source takes the
change to its asserted level as its edge (DEDUCED). -/
def execPinChange (i : Nat) (high : Bool) (s : State) : Host.Outcome State Fault Refusal :=
  if 28 ≤ i ∨ s.pinLevel i = high then .next s
  else
    let src := 32 * 31 + i
    let s1 := ({ s with evt := { s.evt with pins := tput i high s.evt.pins } }).showPin i high
    if s1.asleep then .next s1
    else if s1.edgeSource src then
      .next (if s1.f F.EVT_SRCs_CFG_ENABLE src = 1 ∧ s1.sourceLevel src then s1.assertSource src else s1)
    else .next (s1.sample src)

end Sys2Proof.Machine
end

