-- ==== Sys2Proof/Machine/Pole.lean ====
section
/-! DEFINITION. Loss of a constellation's member or pole, and the promotion of the alternate pole (R650, R651, R656). -/

namespace Sys2Proof.Machine

/-- A bound constellation has lost a member: the planned items of steps above the Meridian, those at the tracks' cursors among
them, end FAILED_MEMBER_LOST and every track enters HALTED (R650, R651). -/
def State.loseBound (s : State) : State :=
  let late (it : Item) : Bool := decide (s.f F.SEQ_MERIDIAN_STEP < it.step) && it.adhoc.isNone
  let s1 := (s.addPendings late).endWhere late .failedMemberLost
  ((List.range 16).foldl (fun (s : State) t => if s.trackTwilight t then s else s.setTrack t tkHalted) s1).syncTracks

/-- CST_MEMBER_LOST (R650): the bound member at `pos` has reset or lost every path to the pole. -/
def execCstMemberLost (pos : Nat) (s : State) : Host.Outcome State Fault Refusal :=
  if s.f F.CST_STATUS_MODE = 1 ∧ pos < s.f F.CST_STATUS_MEMBERS ∧ pos ≠ s.position then
    .next (s.eventIf (decide (s.f F.CST_STATUS_IS_POLE = 1)) F.CST_EVENTS_MEMBER_LOST).loseBound
  else .next s

/-- POLE_LOST (R651, R656): no route has reached the pole for 10 ms. -/
def execPoleLost (s : State) : Host.Outcome State Fault Refusal :=
  match s.cst.poleGone with
  | some t =>
    if s.cstMember ∧ s.elapsed t 10000000 then
      let s1 := ({ s with cst := { s.cst with poleGone := none } }).event F.CST_EVENTS_POLE_LOST
      .next (if s.f F.CST_STATUS_MODE = 1 then s1.loseBound else s1)
    else .next s
  | none => .next s

/-- What the old pole held open is discarded (R656). -/
def State.dropOldPole (s : State) : State :=
  ({ s with host := { s.host with txns := [], snaps := [] }
            cst := { s.cst with fwds := [], commits := [], txnMembers := [], poleGone := none } }).syncTxns

/-- Records that waited for the old pole delivered by this gateway itself (R642, R643). -/
def State.keepHeld (s : State) : State :=
  let s1 := ({ s with cst := { s.cst with held := [] } }).syncHeld
  s.cst.held.foldl (fun (s : State) e =>
    if e.2.completion then
      { s with evt := { s.evt with completions := tput e.1 ((tfind e.1 s.evt.completions).getD [] ++ [e.2]) s.evt.completions } }
    else s.gather 0 (4 + e.1) e.2) s1

/-- The alternate pole becomes the pole; the view goes on from the highest applied at any member, plus one (R656). -/
def State.takePole (s : State) (highest : Nat) : State :=
  let s1 := ((s.dropOldPole.setf F.CST_STATUS_POLE s.position).setf F.CST_STATUS_IS_POLE 1).keepHeld
  s1.setf F.GLB_VIEW_VIEW (max (s.f F.GLB_VIEW_VIEW) highest + 1)

/-- Another member learns of the new pole (R656). -/
def State.newPole (s : State) : State :=
  ((s.dropOldPole.setf F.CST_STATUS_POLE s.cst.alternate).setf F.CST_STATUS_IS_POLE 0).flushHeld

/-- PROMOTE at the alternate pole, or its news at another member that it reaches (R656); `highest` is the highest view applied
at any member. -/
def execPromote (highest : Nat) (s : State) : Host.Outcome State Fault Refusal :=
  if s.f F.CST_STATUS_MODE = 0 ∨ s.pole = s.cst.alternate then .next s
  else if s.position = s.cst.alternate then .next (s.takePole highest)
  else .next s.newPole

/-- A write of PROMOTE to CST_CTRL: it acts only at the alternate pole. The highest view at other members is a free value
(log entry 4). -/
def State.writePromote (s : State) : State :=
  if s.f F.CST_STATUS_MODE ≠ 0 ∧ s.pole ≠ s.cst.alternate ∧ s.position = s.cst.alternate then
    s.fresh.2.takePole s.fresh.1.toNat
  else s

/-- A write of CST_MAP: COORD served by a position (R653); it acts only at the pole, on a coordinate that names a member. -/
def State.writeMap (s : State) (v : Nat) : State :=
  let c := s.f F.CST_MAP_QUERY_COORD
  if s.f F.CST_STATUS_IS_POLE = 1 ∧ (tfind c s.cst.map).isSome then
    { s with cst := { s.cst with map := tput c (v % 64) s.cst.map } }
  else s

end Sys2Proof.Machine
end

