-- ==== Sys2Proof/Machine/Memory.lean ====
section
/-! DEFINITION. Sectors, pages, scrub, CXL links and the on-package network (R23, R31 to R34, R481 to R496). -/

namespace Sys2Proof.Machine

/-- SECTOR_FAULT (R23, R24, R150): sector `n` fails and leaves the healthy set; `moved` names the lane, encoder and decoder
items it worked for. -/
def execSectorFault (n : Nat) (moved : List Nat) (s : State) : Host.Outcome State Fault Refusal :=
  if n < 8 ∧ (s.healthy n ∨ s.secState n = secTwilight ∧ s.unitDraining n) then
    .next (((s.sectorLeaves n secUnusable moved).markRunning n).putBit F.BIST_STATUS_UNUSABLE n true)
  else .next s

/-- PAGE_REMAP (R481, R482). -/
def execPageRemap (s : State) : Host.Outcome State Fault Refusal :=
  match s.mem.remapDue with
  | [] => .next s
  | (n, _) :: rest => .next (({ s with mem := { s.mem with remapDue := rest } }).remapSector n)

/-- REMIRROR_DONE (R482): the copies in progress are whole; REMIRRORED when every mirrored page has both copies. -/
def execRemirrorDone (s : State) : Host.Outcome State Fault Refusal :=
  if s.mem.remirroring = [] then .next s
  else .next ((s.setRemirroring []).eventIf (s.mem.pages.all fun e => !e.2.mirrored || e.2.secondary.isSome)
    F.MEM_EVENTS_REMIRRORED)

/-- A correctable error corrected in a tier (R35). -/
def State.noteCe (s : State) (tier : Nat) : State := s.countEv (ceCounter tier) F.MEM_EVENTS_CE

/-- An uncorrectable word that a scrub met (R496): rewritten from its copy, or poisoned. -/
def State.scrubBad (s : State) (w : Nat × Nat) : State :=
  let word := memKey w.1 w.2 / 8
  let keep := s.mem.poison.filter fun x => x ≠ word
  let s1 := s.noteUe w.1 w.2
  { s1 with mem := { s1.mem with poison := if s.hasCopy w.1 w.2 1 then keep else word :: keep } }

/-- SCRUB_PASS (R495, R496): a pass over tiers S, H and D ends; `fixed` lists the tiers of the words it corrected, `bad`
the tier and address of the words it could not. -/
def execScrubPass (fixed : List Nat) (bad : List (Nat × Nat)) (s : State) : Host.Outcome State Fault Refusal :=
  let p := s.f F.MEM_SCRUB_PERIOD
  if p = 0 ∨ !s.elapsed s.mem.scrubAt (p * 3600 * 10 ^ 9) then .next s
  else
    let s1 := (fixed.filter (· < 3)).foldl State.noteCe s
    let s2 := (bad.filter fun w => w.1 < 3 ∧ w.2 < s.tierCap w.1).foldl State.scrubBad s1
    .next { s2 with mem := { s2.mem with scrubAt := s2.now } }

/-- A device of tier X lost (R493); MEM_CAP allows for it (R109). -/
def State.cxlDown (s : State) (d : Nat) : State :=
  if s.bit F.MEM_STATUS_X_UP d then
    ((s.putBit F.MEM_STATUS_X_UP d false).setf F.MEM_CAP_X_GIB (s.f F.MEM_CAP_X_GIB - s.mem.xRanges.getD d 0 / 2 ^ 30)).event
      F.MEM_EVENTS_X_LOST
  else s

/-- CXL_LINK_DOWN (R493). -/
def execCxlLinkDown (d : Nat) (s : State) : Host.Outcome State Fault Refusal :=
  if d < 4 then .next (s.cxlDown d) else .next s

/-! ### The on-package network -/

/-- Counts of a network link (R34): re-sends, path changes, failed. -/
def State.nocLink (s : State) (l : Nat) : Nat × Nat × Bool := (tfind l s.bist.noc.links).getD (0, 0, false)

def State.setNocLink (s : State) (l : Nat) (v : Nat × Nat × Bool) : State :=
  { s with bist := { s.bist with noc := { s.bist.noc with links := tput l v s.bist.noc.links } } }

/-- The links of the two paths of a pair of dies; the second shares none with the first (R30). -/
def nocPath (src dst : Nat) (alt : Bool) : List Nat :=
  let first := Config.nocPath src dst false
  if alt then (Config.nocPath src dst true).filter fun l => !first.contains l else first

/-- The flow of a source die, a destination die and a traffic class (R33). -/
def nocKey (src dst cls : Nat) : Nat := (cls * 32 + dst % 32) * 32 + src % 32

/-- A flow; one that has carried nothing uses its first path. -/
def State.nocFlow (s : State) (k : Nat) : NocFlow := (tfind k s.bist.noc.flows).getD { alt := false, next := 0, ahead := [] }

def State.setNocFlow (s : State) (k : Nat) (f : NocFlow) : State :=
  { s with bist := { s.bist with noc := { s.bist.noc with flows := tput k f s.bist.noc.flows } } }

/-- The path that a flow uses. -/
def NocFlow.path (f : NocFlow) (k : Nat) : List Nat := nocPath (k % 32) (k / 32 % 32) f.alt

/-- A packet arrived at its destination (R33): a duplicate is discarded; what is in order is delivered, with what had come ahead of
it. -/
def NocFlow.deliver (f : NocFlow) (seq : Nat) : NocFlow :=
  if seq < f.next ∨ f.ahead.contains seq then f
  else
    let all := seq :: f.ahead
    let n := ((List.range all.length).takeWhile fun i => all.contains (f.next + i)).length
    { f with next := f.next + n, ahead := all.filter fun q => decide (f.next + n ≤ q) }

def State.setNocHeld (s : State) (h : List NocPkt) : State := { s with bist := { s.bist with noc := { s.bist.noc with held := h } } }

/-- The packet that the sending end of a link holds. -/
def State.nocHeld (s : State) (l k seq : Nat) : Option NocPkt :=
  s.bist.noc.held.find? fun p => decide (p.link = l) && decide (p.flow = k) && decide (p.seq = seq)

/-- Packets held, without one of them. -/
def State.nocRest (s : State) (l k seq : Nat) : List NocPkt :=
  s.bist.noc.held.filter fun p => !(decide (p.link = l) && decide (p.flow = k) && decide (p.seq = seq))

/-- A packet taken by the receiving end of a link (R31, R33): acknowledged, so the sending end lets it go; it is delivered at the
end of its flow's path, and else the next link of the path holds it. -/
def State.nocTake (s : State) (l k seq : Nat) : State :=
  let f := s.nocFlow k
  match (f.path k).dropWhile (· ≠ l) with
  | _ :: next :: _ => (s.setNocFlow k f).setNocHeld (s.nocRest l k seq ++ [NocPkt.mk next k seq 0])
  | _ => (s.setNocFlow k (f.deliver seq)).setNocHeld (s.nocRest l k seq)

/-- A packet that fails its CRC on a link (R31, R32, R34): the receiving end sends a negative acknowledgement, and the sending end,
which holds the packet, re-sends it. -/
def State.nocNak (s : State) (l k seq : Nat) : State :=
  let v := s.nocLink l
  let fails := ((s.nocHeld l k seq).map NocPkt.fails).getD 0 + 1
  (((s.setNocFlow k (s.nocFlow k)).setNocHeld (s.nocRest l k seq ++ [NocPkt.mk l k seq fails])).setNocLink l
    (min (2 ^ 32 - 1) (v.1 + 1), v.2.1, v.2.2)).count F.BIST_NOC_RESENDS_COUNT

/-- The flow of a packet. -/
def nocFlowOf (p : NocPacket) : Nat := nocKey p.src p.dst p.cls

/-- NOC_PACKET_RECEIVE (R31, R33, R34): a packet comes over link `l`. -/
def execNocPacketReceive (l : Nat) (arr : NocArrival) (s : State) : Host.Outcome State Fault Refusal :=
  let k := nocFlowOf arr.packet
  if 256 ≤ l ∨ (s.nocLink l).2.2 = true then .next s
  else .next (if arr.crcOk then s.nocTake l k arr.packet.seq else s.nocNak l k arr.packet.seq)

/-- Flows whose path uses a link. -/
def State.nocOn (s : State) (l : Nat) : List Nat :=
  (s.bist.noc.flows.filter fun e => (e.2.path e.1).contains l).map Prod.fst

/-- A flow moved to its other path (R32), on which every packet of it that the failed link holds is sent again. -/
def State.nocMove (s : State) (l k : Nat) : State :=
  let f := s.nocFlow k
  let g : NocFlow := { f with alt := !f.alt }
  let one (p : NocPkt) : NocPkt := if p.link = l ∧ p.flow = k then { p with link := (g.path k).headD l, fails := 0 } else p
  (s.setNocFlow k g).setNocHeld (s.bist.noc.held.map one)

/-- NOC_LINK_FAILED (R32, R34): a packet that failed its CRC five times in a row on link `l` fails the link; every flow on it moves
to its disjoint path. -/
def execNocLinkFailed (l : Nat) (pk : NocPacket) (s : State) : Host.Outcome State Fault Refusal :=
  let v := s.nocLink l
  let ks := s.nocOn l
  if l < 256 ∧ v.2.2 = false ∧ (s.nocHeld l (nocFlowOf pk) pk.seq).any (fun p => decide (5 ≤ p.fails)) = true then
    .next (((((ks.foldl (fun s k => s.nocMove l k) s).setNocLink l (v.1, min (2 ^ 16 - 1) (v.2.1 + ks.length), true)).count
      F.BIST_NOC_PATH_CHANGES_COUNT ks.length).countEv F.BIST_NOC_LINK_FAILS_COUNT F.BIST_EVENTS_NOC_LINK))
  else .next s

end Sys2Proof.Machine
end

