-- ==== Sys2Proof/Machine/Scs.lean ====
section
/-! DEFINITION. The status and control space as a READ sees it (R13 to R18, R48 to R50): the block windows, the table windows,
the fields that are computed when they are read, reads that latch or clear, and pictures of committed state. -/

namespace Sys2Proof.Machine

/-! ### Addresses -/

/-- The table window an address lies in (R15): 0 active set, 1 shadow set, 2 codebooks, 3 stream contexts, 4 circuits. -/
def tableOf (a : Nat) : Option Nat :=
  if 0x1000000000 ≤ a ∧ a < 0x1500000000 then some ((a - 0x1000000000) / 2 ^ 32) else none

/-- The offset of an address in its table window. -/
def tableOff (a : Nat) : Nat := a % 2 ^ 32

/-- The size in bytes of the table in a window (R15). -/
def tableEnd (t : Nat) : Nat := if t ≤ 1 then 2 ^ 25 else if t = 2 then 2 ^ 26 else if t = 3 then 2 ^ 27 else 2 ^ 17

/-- An address inside a block window or a table window (R15). -/
def inScs (a : Nat) : Bool := decide (a < 0x1500000) || (tableOf a).isSome

/-! ### Tables -/

/-- Word `w` of some bytes, least significant byte first (R595). -/
def wordAt (bs : List Byte) (w : Nat) : Word := BitVec.ofNat 64 (leAt bs (8 * w) 8)

/-- Word `w` of an Almanac row (R76). -/
def rowWord (r : Row256) (w : Nat) : Word := BitVec.ofNat 64 (r.toNat / 2 ^ (64 * w))

/-- The 64 bytes of a stream context (R497). -/
def Ctx.bytes (c : Ctx) : List Byte :=
  leBytes 1 (b2n c.valid + 2 * b2n c.send + 4 * b2n c.segment + 8 * b2n c.plain + 16 * b2n c.decoded)
  ++ leBytes 1 (c.session + 32 * c.cls) ++ leBytes 1 c.keySlot ++ leBytes 1 c.owner ++ leBytes 1 c.inFmt ++ leBytes 1 c.outFmt
  ++ [c.winTop] ++ leBytes 1 0 ++ leBytes 2 c.expect ++ leBytes 2 c.circuit ++ leBytes 4 c.peerStream ++ leBytes 8 c.seg
  ++ leBytes 8 0 ++ leBytes 4 c.txNext.toNat ++ leBytes 4 c.rxNext.toNat ++ leBytes 1 c.route ++ leBytes 1 (b2n c.held)
  ++ leBytes 6 0 ++ leBytes 8 c.lastStep.toNat ++ leBytes 8 0

/-- The 512 bytes of a codebook generation record with its pins (R206). -/
def Book.bytes (b : Book) (pins : Nat) : List Byte :=
  leBytes 1 b.gen ++ leBytes 1 b.rate
  ++ leBytes 1 (b2n b.live + 2 * b2n b.current + 4 * b2n b.acked + 8 * b2n b.fixed + 16 * b2n b.conflicted) ++ leBytes 1 0
  ++ leBytes 4 b.lim ++ leBytes 8 b.step ++ leBytes 8 b.lastUse ++ leBytes 4 pins ++ leBytes 4 0
  ++ ((List.range 128).flatMap fun i => leBytes 2 (b.levels.getD i 0)) ++ List.replicate 224 0

/-- The 32 bytes of a circuit table entry (R427). -/
def Circuit.bytes (c : Circuit) : List Byte :=
  leBytes 5 c.endpoint ++ leBytes 1 c.fibre ++ leBytes 1 c.lambda ++ leBytes 1 c.state ++ leBytes 4 c.stream ++ leBytes 1 c.use
  ++ leBytes 3 0 ++ leBytes 5 c.remote ++ leBytes 11 0

/-- A word of a set's window; past the last row it reads zero (R15, R76). -/
def setWord64 (t : Tab Row256) (off : Nat) : Word :=
  if off / 32 < 2 ^ 20 then rowWord ((tfind (off / 32) t).getD 0) (off % 32 / 8) else 0

/-- A word of the circuit window (R427). -/
def circuitWord (t : Tab Circuit) (off : Nat) : Word :=
  match tfind (off / 32) t with
  | some c => if off / 32 < 4096 then wordAt c.bytes (off % 32 / 8) else 0
  | none => 0

/-- A word of the codebook window (R206). -/
def State.bookWord (s : State) (off : Nat) : Word :=
  match tfind (off / 512) s.cmp.books with
  | some b => if off / 1024 < 65536 then wordAt (b.bytes (s.bookPins (off / 1024) b.gen)) (off % 512 / 8) else 0
  | none => 0

/-- A word of the stream context window (R501). -/
def State.ctxWord (s : State) (off : Nat) : Word :=
  match tfind (off / 64) s.mem.ctx with
  | some c => if off / 64 < 2 ^ 21 then wordAt c.bytes (off % 64 / 8) else 0
  | none => 0

/-- A word of a table window as it stands. -/
def State.tableWord (s : State) (t off : Nat) : Word :=
  if t = 0 then setWord64 s.seq.active off
  else if t = 1 then setWord64 s.seq.shadow off
  else if t = 2 then s.bookWord off
  else if t = 3 then s.ctxWord off
  else circuitWord s.fab.circuits off

/-! ### Fields computed when they are read -/

/-- The session whose peer PEER_MEMBER_QUERY names. -/
def State.queriedSession (s : State) : Option Nat :=
  s.declared.find? fun n => s.peerSite n = s.f F.PEER_MEMBER_QUERY_SITE ∧ s.peerRole n = s.f F.PEER_MEMBER_QUERY_ROLE

/-- The entry that PEER_MEMBER_QUERY names. -/
def State.queriedMember (s : State) : Option Member := s.member (s.f F.PEER_MEMBER_QUERY_SITE) (s.f F.PEER_MEMBER_QUERY_ROLE)

/-- COL_INST.STATE of a collective table entry. -/
def State.instState (s : State) (c : Nat) : Nat :=
  let streams := (s.templateRows c).map fun kv => rowStream kv.2
  if s.col.failed.contains c then 4
  else if (s.seq.items.any fun it => rowEntry it.row = some c) || (s.col.running.any fun a => a.template = c) then 1
  else if s.col.held.any fun a => a.template = c then 2
  else if s.col.parked.any fun p => streams.contains p.stream then 3
  else 0

/-- The bin that BIST_BIN_QUERY selects (R717). -/
def State.queriedBin (s : State) : List Nat :=
  (tfind (binKey (s.f F.BIST_BIN_QUERY_SECTOR) (s.f F.BIST_BIN_QUERY_CLASS) (min 16 (s.f F.BIST_BIN_QUERY_TEMP))) s.bist.bins).getD []

/-- Fields of GLB_STATUS. -/
def State.glbFields (s : State) : List (Fld × Nat) :=
  [(F.GLB_STATUS_RECOVERY, s.f F.SEC_STATUS_RECOVERY), (F.GLB_STATUS_IMAGE, s.f F.IMG_STATUS_ACTIVE)
  , (F.GLB_STATUS_EXACT, s.f F.PEER_FAULT_CFG_EXACT), (F.GLB_STATUS_READY, s.f F.PWR_STATUS_READY)
  , (F.GLB_STATUS_HEALTHY, s.f F.ARR_STATUS_HEALTHY), (F.GLB_STATUS_CST_MODE, s.f F.CST_STATUS_MODE)]

/-- Fields of the selected codebook slot (CMP_SLOT_STATE). -/
def State.bookFields (s : State) : List (Fld × Nat) :=
  let k := s.f F.CMP_SLOT_QUERY_SLOT
  let c := s.curBook k
  let p := s.prevBook k
  let pins := ((s.slotBooks k).map fun e => s.bookPins k e.2.gen).sum
  let waits := (s.cmp.waits.any fun w => w.slot = k) ||
    (s.seq.items.any fun it => it.running && decide (rowOpcode it.row = opFirstpass) && decide ((s.seg (s.ctx (rowStream it.row))).cbSlot = k))
  [(F.CMP_SLOT_STATE_CURRENT, (c.map Book.gen).getD 0), (F.CMP_SLOT_STATE_PREVIOUS, (p.map Book.gen).getD 0)
  , (F.CMP_SLOT_STATE_CUR_LIVE, b2n c.isSome), (F.CMP_SLOT_STATE_PREV_LIVE, b2n p.isSome)
  , (F.CMP_SLOT_STATE_CUR_ACKED, b2n ((c.map Book.acked).getD false))
  , (F.CMP_SLOT_STATE_CONFLICTED, b2n ((s.liveBooks k).any fun e => e.2.conflicted))
  , (F.CMP_SLOT_STATE_WAITING, b2n waits), (F.CMP_SLOT_STATE_PINS, pins)]

/-- Fields of the selected member (PEER_MEMBER_STATE). -/
def State.memberFields (s : State) : List (Fld × Nat) :=
  let w := (s.queriedSession.bind fun n => tfind n s.peer.watch).getD { heardAt := 0, state := 0, holdAt := none }
  [(F.PEER_MEMBER_STATE_STATE, w.state), (F.PEER_MEMBER_STATE_REMOVED, b2n ((s.queriedMember.map fun m => decide (m.state = meRemoved)).getD false))
  , (F.PEER_MEMBER_STATE_HOLD_S, match w.holdAt with | some t => (s.now - t) / 10 ^ 9 | none => 0)]

/-- Fields of the selected key slot (CIPH_SLOT_STATE). -/
def State.slotFields (s : State) : List (Fld × Nat) :=
  let k := s.f F.CIPH_SLOT_QUERY_SLOT
  let cur := s.currentGen k
  let old := (s.gens k).find? fun g => some g.gen ≠ cur.map KeyGen.gen
  [(F.CIPH_SLOT_STATE_USE, s.slotUse k), (F.CIPH_SLOT_STATE_CURRENT, (cur.map KeyGen.gen).getD 0)
  , (F.CIPH_SLOT_STATE_OLDER, (old.map KeyGen.gen).getD 0), (F.CIPH_SLOT_STATE_CUR_LIVE, b2n cur.isSome)
  , (F.CIPH_SLOT_STATE_OLDER_LIVE, b2n old.isSome), (F.CIPH_SLOT_STATE_ERASING, b2n ((s.gens k).any KeyGen.erasing))
  , (F.CIPH_SLOT_STATE_PINS, ((s.gens k).map fun g => s.pins k g.gen).sum)]

/-- Invocations of the selected key slot's current generation, or of the other one. -/
def State.slotInvoc (s : State) (older : Bool) : Nat :=
  let k := s.f F.CIPH_SLOT_QUERY_SLOT
  let cur := s.currentGen k
  let old := (s.gens k).find? fun g => some g.gen ≠ cur.map KeyGen.gen
  ((if older then old else cur).map KeyGen.invoc).getD 0

/-- A track that runs and whose row waits for tokens reads WAITING. -/
def State.shownTrack (s : State) (n : Nat) : Nat :=
  if s.trackTries n && !s.tokensReady (rowWait (s.activeRow (s.cursor n))) then tkWaiting else s.track n

/-- ARR_SECn_STATUS.STATE as it reads: a suspect sector that waits for the boot test after SYSRST_N still reads suspect (R19,
R741). -/
def State.shownSector (s : State) (n : Nat) : Nat :=
  if s.secState n = secReset ∧ s.suspect n ∧ s.f F.GLB_STATUS_STAGE < 5 then secSuspect else s.secState n

/-- Offset of REFCLK against TB0 in ppb (DEDUCED: TB0 runs from TB3 with the addend that steers it): zero when TB0 is not
LOCKED. -/
def State.refPpb (s : State) : Nat :=
  if (s.base 0).state = tbLocked then (BitVec.ofInt 32 (-((s.base 0).rate / 1000))).toNat else 0

/-- Encrypt, and decrypt, pipelines in service: 40 on each I/O die (R22, R514), those of IOD-B while it is not dark (R679). DEDUCED (log
entry 101): they serve from boot stage 2 on, in which the gateway answers Expin. -/
def State.pipelinesUp (s : State) : Nat :=
  if s.f F.GLB_STATUS_STAGE < 2 ∧ !s.imageActive then 0 else if s.unitDark unitIodB then 40 else 80

/-- The fields of a register that are computed when it is read: register base, instance. -/
def State.overlay (s : State) (b k : Nat) : List (Fld × Nat) :=
  if b = R.GLB_STATUS.base then s.glbFields
  else if b = R.SEQ_TKn_STATUS.base then [(F.SEQ_TKn_STATUS_STATE, s.shownTrack k)]
  else if b = R.SEQ_FORECAST.base then [(F.SEQ_FORECAST_APPLIED, min 255 s.levelNow)]
  else if b = R.ARR_STATUS.base then
    [(F.ARR_STATUS_ARRAY_BUSY, b2n s.arrayItem.isSome)
    , (F.ARR_STATUS_RAMPING, b2n (decide (0 < s.arr.rampAt) && !s.elapsed s.arr.rampAt (s.f F.ARR_RAMP_TIME)))]
  else if b = R.ARR_SECn_STATUS.base then
    [(F.ARR_SECn_STATUS_STATE, s.shownSector k)
    , (F.ARR_SECn_STATUS_LANES_BUSY, (Config.freeWord s.free).toNat % 1025)
    , (F.ARR_SECn_STATUS_CHECKING, b2n (s.arr.helping.any fun h => h.1 = k))]
  else if b = R.CMP_SLOTS.base then
    [(F.CMP_SLOTS_PINNED, ((s.cmp.books.filter fun e => decide (0 < s.bookPins (e.1 / 2) e.2.gen)).map fun e => e.1 / 2).dedup.length)]
  else if b = R.CMP_SLOT_STATE.base then s.bookFields
  else if b = R.COL_INST.base then
    let c := s.f F.COL_QUERY_INDEX
    [(F.COL_INST_CHUNKS_DONE, min 0xFFFFFF ((tfind c s.col.chunksDone).getD 0))
    , (F.COL_INST_WAITING_NOW, (s.col.waiting.filter fun w => decide (w.entry = c) && w.own).length), (F.COL_INST_STATE, s.instState c)]
  else if b = R.COL_INST_STEP.base then [(F.COL_INST_STEP_STEP, (tfind (s.f F.COL_QUERY_INDEX) s.col.instStep).getD 0)]
  else if b = R.PEER_MEMBER_STATE.base then s.memberFields
  else if b = R.PEER_MEMBER_FENCE.base then
    [(F.PEER_MEMBER_FENCE_EPOCH, s.fence (s.f F.PEER_MEMBER_QUERY_SITE) (s.f F.PEER_MEMBER_QUERY_ROLE))]
  else if b = R.PEER_MEMBER_DEVICE.base then [(F.PEER_MEMBER_DEVICE_DEVICE, (s.queriedMember.map Member.device).getD 0)]
  else if b = R.BPM_ACCT_LIMITS.base then
    let l := s.bpm.limit (s.f F.BPM_ACCT_QUERY_ACCOUNT) (s.f F.BPM_ACCT_QUERY_POOL)
    [(F.BPM_ACCT_LIMITS_MIN, l.1), (F.BPM_ACCT_LIMITS_MAX, l.2)]
  else if b = R.BPM_ACCT_HELD.base then
    [(F.BPM_ACCT_HELD_HELD, s.bpm.heldBy (s.f F.BPM_ACCT_QUERY_ACCOUNT) (s.f F.BPM_ACCT_QUERY_POOL))]
  else if b = R.CIPH_STATUS.base then [(F.CIPH_STATUS_ENC_UP, s.pipelinesUp), (F.CIPH_STATUS_DEC_UP, s.pipelinesUp)]
  else if b = R.MEM_STATUS.base then
    [(F.MEM_STATUS_D_UP, if s.unitDark unitIodB then s.f F.MEM_STATUS_D_UP % 16 else s.f F.MEM_STATUS_D_UP)]
  else if b = R.CIPH_SLOT_STATE.base then s.slotFields
  else if b = R.CIPH_SLOT_INVOC.base then [(F.CIPH_SLOT_INVOC_COUNT, s.slotInvoc false)]
  else if b = R.CIPH_SLOT_INVOC_OLDER.base then [(F.CIPH_SLOT_INVOC_OLDER_COUNT, s.slotInvoc true)]
  else if b = R.HOST_STATUS.base then
    [(F.HOST_STATUS_BOOTSTRAP, b2n s.expinGen.isNone), (F.HOST_STATUS_SNAP_OPEN, s.host.snaps.length)]
  else if b = R.CST_MAP.base then
    match tfind (s.f F.CST_MAP_QUERY_COORD) s.cst.map with
    | some p => if s.f F.CST_STATUS_IS_POLE = 1 then [(F.CST_MAP_POSITION, p), (F.CST_MAP_VALID, 1)] else []
    | none => []
  else if b = R.BIST_NOC_LINK.base then
    let l := s.nocLink (s.f F.BIST_NOC_QUERY_LINK)
    [(F.BIST_NOC_LINK_RESENDS, min (2 ^ 32 - 1) l.1), (F.BIST_NOC_LINK_PATHS, min 65535 l.2.1), (F.BIST_NOC_LINK_FAILED, b2n l.2.2)]
  else if b = R.BIST_BIN.base then
    [(F.BIST_BIN_CHARGES, s.queriedBin.length)
    , (F.BIST_BIN_LAST, match s.queriedBin.getLast? with | some t => t / 10 ^ 9 % 2 ^ 32 | none => 0)]
  else if b = R.CLK_REF_PPB.base then
    [(F.CLK_REF_PPB_PPB, s.refPpb), (F.CLK_REF_PPB_VALID, b2n (decide ((s.base 0).state = tbLocked)))]
  else []

/-- A word with some of its fields replaced. -/
def putFields (w : Nat) (fs : List (Fld × Nat)) : Nat := fs.foldl (fun w x => putBits w x.1.lo x.1.w x.2) w

/-- A register word as it reads now; an address without a register reads zero (R15, R16). -/
def State.regNow (s : State) (a : Nat) : Word :=
  match regAt a with
  | none => 0
  | some r => BitVec.ofNat 64 (putFields (s.word a).toNat (s.overlay r.base (r.index a)))

/-- Any word of the SCS as it reads now. -/
def State.scsNow (s : State) (a : Nat) : Word :=
  match tableOf a with
  | some t => s.tableWord t (tableOff a)
  | none => s.regNow a

/-! ### What a read does -/

/-- Time throttled so far counted (PEER_SESSn_THROTTLE_NS). -/
def State.tallyThrottle (s : State) (n : Nat) : State :=
  match (s.sess n).throttledAt with
  | some t => (s.count F.PEER_SESSn_THROTTLE_NS_COUNT (s.now - t) n).updSess n fun x => { x with throttledAt := some s.now }
  | none => s

/-- What a read brings up to date first: running times, and the latch of a time base (R565). -/
def State.beforeRead (s : State) (a : Nat) : State :=
  match regAt a with
  | none => s
  | some r =>
    if r.base = R.PWR_CAPPED_NS.base then s.tallyCapped
    else if r.base = R.PEER_SESSn_THROTTLE_NS.base then s.tallyThrottle (r.index a)
    else if r.base = R.TIME_TBn_SEC.base then s.latchBase (r.index a)
    else s

/-- RC fields cleared by a read (R18); a count that the selected link holds is cleared there; a free value is spent. -/
def State.afterRead (s : State) (a : Nat) : State :=
  match regAt a with
  | none => s
  | some r =>
    if r.base = R.BIST_NOC_LINK.base then
      let l := s.nocLink (s.f F.BIST_NOC_QUERY_LINK)
      s.setNocLink (s.f F.BIST_NOC_QUERY_LINK) (0, 0, l.2.2)
    else if r.base = R.ARR_SECn_STATUS.base then { s with free := s.free + 1 }
    else if r.fields.any fun x => decide (x.acc = .rc) then
      s.setWord a (BitVec.ofNat 64 (putFields (s.word a).toNat ((r.fields.filter fun x => decide (x.acc = .rc)).map fun x => (x, 0))))
    else s

/-! ### Pictures -/

/-- Registers with committed fields that are computed when they are read. -/
def derivedAddrs : List Nat :=
  [R.GLB_STATUS.base, R.PEER_MEMBER_STATE.base, R.PEER_MEMBER_FENCE.base, R.PEER_MEMBER_DEVICE.base, R.BPM_ACCT_LIMITS.base
  , R.CIPH_SLOT_STATE.base, R.CST_MAP.base]

/-- The committed state as it stands (R49). -/
def State.picture (s : State) : Picture :=
  { view := s.f F.GLB_VIEW_VIEW
    regs := derivedAddrs.foldl (fun t a => tset resetWord t a (s.regNow a)) s.regs
    active := s.seq.active, shadow := s.seq.shadow, circuits := s.fab.circuits, members := s.peer.members
    keys := s.ciph.slots.map fun kv => (kv.1, (kv.2.filter fun g => !g.erasing).map KeyGen.gen) }

/-- The fields of a register that are not marked live (R49, R50). -/
def Reg.committed (r : Reg) : List Fld := r.fields.filter fun x => !x.live

/-- A word of the SCS inside a SNAPSHOT: committed fields at its view, live fields as they stand (R49, R50). -/
def State.snapWord (s : State) (p : Picture) (a : Nat) : Word :=
  match tableOf a with
  | some 0 => setWord64 p.active (tableOff a)
  | some 1 => setWord64 p.shadow (tableOff a)
  | some 4 => circuitWord p.circuits (tableOff a)
  | some t => s.tableWord t (tableOff a)
  | none =>
    match regAt a with
    | none => 0
    | some r => BitVec.ofNat 64 (takeFields r.committed (s.regNow a).toNat (regGet p.regs a).toNat)

end Sys2Proof.Machine
end

