-- ==== Sys2Proof/Machine/Swap.lean ====
section
/-! DEFINITION. The arming of a swap (R97 to R99): the fit check of the shadow set against the active image. -/

namespace Sys2Proof.Machine

/-- Kind of the message that arms a swap at a bound member (R649). -/
def mkArm : Nat := 13

/-- The arming passed on by the pole of a bound constellation to every other member (R649). -/
def State.armMembers (s : State) : State :=
  if s.f F.CST_STATUS_IS_POLE = 1 then
    ((List.range (s.f F.CST_STATUS_MEMBERS)).filter fun m => m ≠ s.f F.CST_STATUS_POSITION).foldl
      (fun (s : State) m => s.emit (.member m mkArm 0 (beBytes 8 (s.f F.SEQ_SWAP_STEP_STEP)))) s
  else s

/-- An arming (R97 to R99, R685): its code, and the swap armed when the check ends DONE. In bound mode the swap step is the
largest of the members' values (R649), and what the other members hold is a free value here (log entry 4). -/
def State.arm (s : State) (k : SwapKind) : Status × State :=
  if s.seq.swap.isSome || !s.imageActive || decide (s.f F.IMG_STATUS_STATE = 4) then
    (.refusedBusy, s.setf F.SEQ_SWAP_RESULT Status.refusedBusy.code)
  else
    let r := s.fitSwap s.shadowSet
    let s1 := (s.fitReport r.1 r.2).setf F.SEQ_SWAP_RESULT r.1.code
    if r.1 ≠ .done then (.done, s1)
    else
      let s2 : State := { s1 with seq := { s1.seq with swap := some k } }
      let s3 := (s2.setf F.SEQ_SWAP_STATE 1).setf F.SEQ_STATUS_SWAP_ARMED 1
      let w := ((List.range 16).map s.trackStep).foldl max (s.f F.SEQ_SWAP_STEP_STEP)
      if k = .step then
        if s.f F.CST_STATUS_MODE = 1 then
          (.done, ((s3.fresh).2.setf F.SEQ_SWAP_STEP_STEP (max w (s3.fresh).1.toNat)).armMembers)
        else (.done, s3.setf F.SEQ_SWAP_STEP_STEP w)
      else (.done, if s.f F.CST_STATUS_MODE = 1 then s3.armMembers else s3)

/-- ARM_STEP (R97 to R99). -/
def execArmStep (s : State) : Host.Outcome State Fault Refusal := .next (s.arm .step).2

/-- ARM_IDLE (R97, R98). -/
def execArmIdle (s : State) : Host.Outcome State Fault Refusal := .next (s.arm .idle).2

end Sys2Proof.Machine
end

