-- ==== Sys2Proof/Machine/Write.lean ====
section
/-! DEFINITION. A word written to the status and control space (R15 to R18): what each register's fields take, the refusals
of R95, R96, R98, R112, R179, R207, R405, R428, R470 and R501, and the actions that the registers start. -/

namespace Sys2Proof.Machine

/-- Bits of the fields of a register that have an access code. -/
def Reg.acc (r : Reg) (p : Access → Bool) : List Fld := r.fields.filter fun x => p x.acc

/-- A register word with its RW and RWS fields taken from the value written (R18). -/
def State.putRw (s : State) (r : Reg) (a : Nat) (v : Word) : State :=
  s.setWord a (BitVec.ofNat 64 (takeFields (r.acc fun c => decide (c = .rw) || decide (c = .rws)) (s.word a).toNat v.toNat))

/-- A register word with the W1C bits that the value sets cleared (R18). -/
def State.clearBits (s : State) (r : Reg) (a : Nat) (v : Word) : State :=
  let old := (s.word a).toNat
  let keep := (BitVec.ofNat 64 old &&& ~~~ v).toNat
  s.setWord a (BitVec.ofNat 64 (takeFields (r.acc fun c => decide (c = .w1c)) old keep))

/-- Sources of an events register whose latched bits a write has cleared are asserted no longer (R620, R621). -/
def State.clearSources (s : State) (a : Nat) (v : Word) : State :=
  match wordOfEvents a with
  | none => s
  | some w => ((List.range 32).filter fun i => v.toNat.testBit i).foldl (fun (s : State) i => s.setf F.EVT_SRCs_CFG_ASSERTED 0 (32 * w + i)) s

/-- A write of SEQ_SWAP.CMD (R97 to R99, R103). -/
def State.writeSwap (s : State) (cmd : Nat) : Status × State :=
  if cmd = 1 then s.arm .step else if cmd = 2 then s.arm .idle else if cmd = 3 then (.done, s.cancelSwap) else (.done, s)

/-- A write of SEQ_TKn_CTRL.CMD (R91, R105). -/
def State.writeTrack (s : State) (n cmd : Nat) : State :=
  if cmd = 1 then s.resumeTrack n else if cmd = 2 then s.haltTrack n else if cmd = 3 then s.abortTrack n else s

/-- A write of LINE_MOD_CMD (R411). -/
def State.writeModule (s : State) (v : Nat) : Status × State :=
  let f (x : Fld) : Nat := v / 2 ^ x.lo % 2 ^ x.w
  let s1 := s.setModule (f F.LINE_MOD_CMD_PORT) (decide (f F.LINE_MOD_CMD_WRITE = 1)) (f F.LINE_MOD_CMD_PAGE) (f F.LINE_MOD_CMD_OFFSET) (f F.LINE_MOD_CMD_DATA)
  if f F.LINE_MOD_CMD_GO = 1 then
    s1.moduleGo (f F.LINE_MOD_CMD_PORT) (decide (f F.LINE_MOD_CMD_WRITE = 1)) (f F.LINE_MOD_CMD_PAGE) (f F.LINE_MOD_CMD_OFFSET) (f F.LINE_MOD_CMD_DATA)
  else (.done, s1)

/-- What follows a change of LINE_Pp_CFG: the port's place in service, its raw TIM under the new TIM_MODE (R387) and its TX_DISABLE_N
(R389). -/
def State.afterPortCfg (s old : State) (p : Nat) : State :=
  ((s.syncPort p).syncTim p).driveTx old

/-- A policer's tokens clipped to a burst that has been lowered (R563). -/
def State.clipPolicer (s old : State) (k : Nat) : State :=
  let x := old.policerNow k
  { s with sch := { s.sch with policers := tput k { x with
      c := min x.c (s.f F.SCH_PLk_BURST_CBS k * bucketUnit), p := min x.p (s.f F.SCH_PLk_BURST_PBS k * bucketUnit) } s.sch.policers } }

/-- What follows a change of EVT_SRCs_CFG: EDGE, INVERT and FILTER belong to pin sources; a disabled source is asserted no
longer; what found no target is tried again (R620, R621). -/
def State.afterSource (s : State) (src : Nat) : State :=
  let s1 := if src / 32 = 31 then s else ((s.setf F.EVT_SRCs_CFG_EDGE 0 src).setf F.EVT_SRCs_CFG_INVERT 0 src).setf F.EVT_SRCs_CFG_FILTER 1 src
  (if s.f F.EVT_SRCs_CFG_ENABLE src = 0 then s1.setf F.EVT_SRCs_CFG_ASSERTED 0 src else s1).retryHeld

/-- A write of SEC_CTRL.CMD (R694, R700, R702, R707); the verdict of an owner command's signature is a free bit (log entry
4). -/
def State.writeSec (s : State) (cmd : Nat) : State :=
  if cmd = 1 then (s.fresh.2.execute (s.fresh.1.toNat.testBit 0)).2
  else if cmd = 2 then State.secResult s.startQuote
  else if cmd = 3 then State.secResult s.raise
  else if cmd = 4 then State.secResult s.persist
  else s

/-- A write of IMG_TWILIGHT (R677 to R680). -/
def State.writeTwilight (s : State) (cmd : Nat) : State :=
  let u := s.f F.IMG_TWILIGHT_UNIT
  if cmd = 1 then State.twilightResult (s.disable u (s.f F.IMG_TWILIGHT_DEADLINE))
  else if cmd = 2 then State.twilightResult (s.enable u)
  else s

/-- A write of BIST_CTRL (R714, R722). -/
def State.writeBist (s : State) (cmd : Nat) : State :=
  if cmd = 1 then State.bistResult s.runNow
  else if cmd = 2 then State.bistResult (s.unretire (s.f F.BIST_CTRL_SECTOR))
  else s

/-- A write of IMG_FW_CTRL (R687). -/
def State.writeFw (s : State) (restart : Nat) : State :=
  if restart = 1 then s.restartFw.2.setf F.IMG_FW_STATUS_RESULT s.restartFw.1.code else s

/-- A tile's crosstalk word: tile of the address (OPT_Tt_XT). -/
def xtTile (a : Nat) : Nat := (a - R.OPT_Tt_XT.base) / 4096

/-- The refusals of a write to a register that depend on nothing but the state (R96, R179, R470). -/
def State.regRefusal (s : State) (b a : Nat) : Option Status :=
  if (b = R.SEQ_ROWS.base ∨ b = R.SEQ_TKn_ENTRY.base) ∧ s.seq.swap.isSome then some .refusedBusy
  else if (b = R.PPE_DARK.base ∨ b = R.PPE_GAIN.base ∨ b = R.PPE_XT.base) ∧ !s.calWritable then some .refusedBusy
  else if b = R.OPT_Tt_XT.base ∧ s.tileSlotUp (xtTile a) then some .refusedBusy
  else none

/-- What a write does after a register's fields have taken it: the registers that act; `old` is the state before. -/
def State.afterWrite (s old : State) (b k v : Nat) : Status × State :=
  let f (x : Fld) : Nat := v / 2 ^ x.lo % 2 ^ x.w
  if b = R.SEQ_SWAP.base then s.writeSwap (f F.SEQ_SWAP_CMD)
  else if b = R.SEQ_TKn_CTRL.base then (.done, s.writeTrack k (f F.SEQ_TKn_CTRL_CMD))
  else if b = R.PPE_CAL.base then
    (.done, if f F.PPE_CAL_CMD = 1 then s.askQuickCal else if f F.PPE_CAL_CMD = 2 then s.askFullCal else s)
  else if b = R.PEER_SESSn_CTRL.base then (.done, old.writeSessCtrl k v)
  else if b = R.LINE_Pp_CFG.base then (.done, s.afterPortCfg old k)
  else if b = R.LINE_Pp_TTI_EXP.base then (.done, s.syncTim (k / 8))
  else if b = R.OPT_CAL.base then (.done, if f F.OPT_CAL_CMD = 1 then s.calFull (s.f F.OPT_CAL_TILES) else s)
  else if b = R.CIPH_GCS.base then (.done, old.writeGcsEncrypt (f F.CIPH_GCS_ENCRYPT))
  else if b = R.TIME_Rr_ASYM.base then (.done, old.writeAsym k (BitVec.ofNat 64 v))
  else if b = R.SCH_PLk_RATE.base ∨ b = R.SCH_PLk_BURST.base then (.done, s.clipPolicer old k)
  else if b = R.EVT_ECn_CFG.base then
    (.done, if s.f F.EVT_ECn_CFG_ENABLE k = old.f F.EVT_ECn_CFG_ENABLE k then s
            else s.setTarget (4 + k) (decide (s.f F.EVT_ECn_CFG_ENABLE k = 1)))
  else if b = R.EVT_SRCs_CFG.base then (.done, s.afterSource k)
  else if b = R.CST_CTRL.base then (.done, if f F.CST_CTRL_PROMOTE = 1 then s.writePromote else s)
  else if b = R.CST_MAP.base then (.done, old.writeMap v)
  else if b = R.IMG_CTRL.base then
    (.done, if f F.IMG_CTRL_CMD = 1 then s.startActivation else if f F.IMG_CTRL_CMD = 2 then s.discard else s)
  else if b = R.IMG_TWILIGHT.base then (.done, s.writeTwilight (f F.IMG_TWILIGHT_CMD))
  else if b = R.IMG_FW_CTRL.base then (.done, s.writeFw (f F.IMG_FW_CTRL_RESTART))
  else if b = R.SEC_CTRL.base then (.done, s.writeSec (f F.SEC_CTRL_CMD))
  else if b = R.BIST_CTRL.base then (.done, s.writeBist (f F.BIST_CTRL_CMD))
  else if b = R.PWR_CTRL.base then
    (.done, if f F.PWR_CTRL_SOFT_RESET = 1 then { s with pwr := { s.pwr with softDue := true } } else s)
  else if b = R.PWR_LIMIT.base then (.done, (if s.capped then s.relevel else s).checkCap)
  else (.done, s)

/-- A word written to a register: its code and effect. -/
def State.writeReg (s : State) (r : Reg) (a : Nat) (v : Word) : Status × State :=
  match s.regRefusal r.base a with
  | some st => (st, s)
  | none =>
    let k := r.index a
    if r.base = R.SEQ_TOKEN.base then s.writeToken k v.toNat
    else if r.base = R.LINE_GCS_MAP.base then s.writeGcsMap k v.toNat
    else if r.base = R.LINE_MOD_CMD.base then s.writeModule v.toNat
    else (((s.putRw r a v).clearBits r a v).clearSources a v).afterWrite s r.base k v.toNat

/-- A word written to the SCS: its code and effect (R15, R95, R96, R207, R428, R501). -/
def State.writeWord (s : State) (a : Nat) (v : Word) : Status × State :=
  match tableOf a with
  | some t => if t = 1 then s.writeShadow (tableOff a / 8) v.toNat else (.refusedBusy, s)
  | none =>
    match regAt a with
    | none => (.done, s)
    | some r => s.writeReg r a v

/-- What a refused write of a word leaves behind: SEQ_SWAP.RESULT holds the code of a refused arming (R98). -/
def State.refusedWord (s : State) (a : Nat) (st : Status) : State :=
  if a = R.SEQ_SWAP.base then s.setf F.SEQ_SWAP_RESULT st.code else s

end Sys2Proof.Machine
end

