-- ==== Sys2Proof/Machine/Expin.lean ====
section
/-! DEFINITION. Expin READ and WRITE (R595 to R598), transactions (R599 to R604) and snapshots (R605 to R607), key loading
(R524 to R527), membership (R616 to R618), ABORT (R614, R615) and event acknowledgement (R625), as operations of a request. -/

namespace Sys2Proof.Machine

/-! ### Runs -/

/-- A run of a READ or WRITE body: first address, number of words, the words of a WRITE (R595). -/
structure Run where
  addr : Nat
  count : Nat
  words : List Word
  deriving DecidableEq, Repr

/-- The runs of a body, and whether it ends in the middle of one; `write` says whether words follow each header. The fuel is
the body's length. -/
def runsOf (write : Bool) : Nat → List Byte → List Run × Bool
  | 0, bs => ([], !bs.isEmpty)
  | fuel + 1, bs =>
    if bs.isEmpty then ([], false)
    else
      let h := beNat (bs.take 8)
      let n := h / 2 ^ 48 + 1
      let need := if write then 8 + 8 * n else 8
      if bs.length < need then ([], true)
      else
        let ws := if write then (chunks 8 n (bs.drop 8)).map fun w => BitVec.ofNat 64 (beNat w) else []
        let r := runsOf write fuel (bs.drop need)
        (Run.mk (h % 2 ^ 48) n ws :: r.1, r.2)

/-- A run that R597 refuses: misaligned, or a word outside every block and table window. -/
def Run.bad (r : Run) : Bool := decide (r.addr % 8 ≠ 0) || !inScs r.addr || !inScs (r.addr + 8 * (r.count - 1))

/-- Index of the first offending run, if any (R597): `limit` is the number of words that the runs may name together. -/
def firstBad (limit : Nat) : List Run → Nat → Nat → Option Nat
  | [], _, _ => none
  | r :: rs, i, sum => if r.bad || decide (limit < sum + r.count) then some i else firstBad limit rs (i + 1) (sum + r.count)

/-- The runs of a body that R597 lets through, or the index of the first offending one. A body that ends in the middle of a
run offends with that run (DEDUCED). -/
def checkedRuns (write : Bool) (body : List Byte) : Except Nat (List Run) :=
  let r := runsOf write body.length body
  match firstBad (if write then body.length else 1024) r.1 0 0 with
  | some i => .error i
  | none => if r.2 then .error r.1.length else .ok r.1

/-- Addresses of a run's words, in order. -/
def Run.addrs (r : Run) : List Nat := (List.range r.count).map fun i => r.addr + 8 * i

/-- Address and value of each word of a WRITE, in order. -/
def wordsOf (rs : List Run) : List (Nat × Word) := rs.flatMap fun r => r.addrs.zip r.words

/-- The response to a READ or WRITE that R597 refuses: the index of the run in the first body byte. -/
def State.refuseRun (s : State) (seq i : Nat) : State := s.answer seq .refusedFit 0 [BitVec.ofNat 8 i]

/-! ### Operations that apply together -/

/-- The parts of a member table joined (R617): one epoch, no site and role twice. -/
def joinTables (ps : List (Nat × List Member)) : Option (Nat × List Member) :=
  match ps with
  | [] => none
  | (e, _) :: _ =>
    let ms := ps.flatMap Prod.snd
    let ks := ms.map fun m => memberKey m.site m.role
    if ps.all (fun p => decide (p.1 = e)) && decide (ks.dedup.length = ks.length) then some (e, ms) else none

/-- The epoch and entries of a table part. -/
def HeldOp.tablePart : HeldOp → Option (Nat × List Member)
  | .table e ms => some (e, ms)
  | _ => none

/-- Operations with their table parts made one, at the last part's place (R602, R617); none where the parts do not join. -/
def mergeTables (ops : List HeldOp) : Option (List HeldOp) :=
  match ops.filterMap HeldOp.tablePart with
  | [] => some ops
  | ps =>
    match joinTables ps with
    | none => none
    | some (e, ms) =>
      let after := (ops.reverse.takeWhile fun o => o.tablePart.isNone).reverse
      let before := (ops.take (ops.length - after.length)).filter fun o => o.tablePart.isNone
      some (before ++ [HeldOp.table e ms] ++ after)

/-- One operation: its code and effect. -/
def State.applyOp (s : State) : HeldOp → Status × State
  | .word a v => s.writeWord a v
  | .key b => match s.keyRefusal b with | some st => (st, s) | none => (.done, s.applyKey b)
  | .table e ms => s.commitMembers e ms

/-- What a refused operation leaves behind (R98, R526). -/
def State.refusedOp (s : State) (op : HeldOp) (st : Status) : State :=
  match op with
  | .word a _ => s.refusedWord a st
  | .key _ => s.event F.CIPH_EVENTS_KEYLOAD_REFUSED
  | .table _ _ => s

/-- Operations applied in order; the first that is refused stops them. -/
def State.applyEach : List HeldOp → State → Except (Status × HeldOp) State
  | [], s => .ok s
  | op :: rest, s =>
    match s.applyOp op with
    | (.done, s1) => State.applyEach rest s1
    | (st, _) => .error (st, op)

/-- Operations applied all together in arrival order, or not at all (R47, R598, R602), the view apart. -/
def State.applyOps (s : State) (ops : List HeldOp) : Status × State :=
  match mergeTables ops with
  | none => (.refusedFit, s)
  | some l =>
    match State.applyEach l s with
    | .ok s1 => (.done, s1)
    | .error (st, op) => (st, s.refusedOp op st)

/-- Operations committed in one view generation (R45, R47, R598, R602). -/
def State.commitOps (s : State) (ops : List HeldOp) : Status × State :=
  let r := s.applyOps ops
  (r.1, if r.1 = .done then r.2.commitView else r.2)

/-! ### Transactions -/

/-- An open transaction (R599). -/
def State.txn (s : State) (id : Nat) : Option HTxn := s.host.txns.find? fun t => t.id = id

/-- A member opens the transaction of a part that its pole forwards (R637). -/
def State.memberTxn (s : State) (q : Req) : State :=
  if 2 ^ 32 ≤ q.seq ∧ q.inTxn ∧ (s.txn q.txn).isNone then
    ({ s with host := { s.host with txns := s.host.txns ++ [HTxn.mk q.txn s.picture s.now []] } }).syncTxns
  else s

/-- A message has reached a transaction (R604). -/
def State.touchTxn (s : State) (id : Nat) : State :=
  { s with host := { s.host with txns := lmodify (fun t => decide (t.id = id)) (fun t => { t with lastAt := s.now }) s.host.txns } }

/-- A message that names a transaction has reached it, whatever becomes of the message (R604). -/
def State.noteTxn (s : State) (q : Req) : State := if q.inTxn && !q.inSnap then s.touchTxn q.txn else s

/-- Words that a transaction holds (R601). -/
def HTxn.words (t : HTxn) : Nat := (t.ops.filter fun o => match o with | .word _ _ => true | _ => false).length

/-- Operations held in the transaction that a message names (R600, R601). -/
def State.holdOps (s : State) (q : Req) (ops : List HeldOp) : State :=
  let s0 := s.memberTxn q
  match s0.txn q.txn with
  | none => s.respond q.seq .refusedBusy
  | some t =>
    let t1 : HTxn := { t with ops := t.ops ++ ops }
    let s1 := s0.touchTxn q.txn
    if 65536 < t1.words then s1.answer q.seq .refusedFit q.txn []
    else
      ({ s1 with host := { s1.host with
        txns := lmodify (fun x => decide (x.id = q.txn)) (fun x => { x with ops := t1.ops }) s1.host.txns } }).answer q.seq .done q.txn []

/-- Operations of a message outside a transaction, or held in one (R598, R600, R606). -/
def State.takeOps (s : State) (q : Req) (ops : List HeldOp) : State :=
  if q.inSnap then s.respond q.seq .refusedFit
  else if q.inTxn then s.holdOps q ops
  else
    let r := s.commitOps ops
    r.2.respond q.seq r.1

/-- TXN_BEGIN carried out (R599). -/
def State.beginTxn (s : State) (q : Req) : State :=
  s.alone q fun s =>
    if 16 ≤ s.host.txns.length then s.respond q.seq .refusedBusy
    else
      let id := s.host.lastTxn + 1
      (({ s with host := { s.host with lastTxn := id, txns := s.host.txns ++ [HTxn.mk id s.picture s.now []] } }).syncTxns).answer q.seq .done id []

/-- A committed field that an operation writes differs from the picture at TXN_BEGIN (R603). -/
def State.changedSince (s : State) (p : Picture) : HeldOp → Bool
  | .word a _ =>
    match tableOf a with
    | some 0 => decide (setWord64 p.active (tableOff a) ≠ setWord64 s.seq.active (tableOff a))
    | some 1 => decide (setWord64 p.shadow (tableOff a) ≠ setWord64 s.seq.shadow (tableOff a))
    | some 4 => decide (circuitWord p.circuits (tableOff a) ≠ circuitWord s.fab.circuits (tableOff a))
    | some _ => false
    | none =>
      match regAt a with
      | none => false
      | some r => (r.committed.filter fun x => decide (x.acc = .rw) || decide (x.acc = .rws)).any fun x =>
          decide ((regGet p.regs a).toNat / 2 ^ x.lo % 2 ^ x.w ≠ (s.regNow a).toNat / 2 ^ x.lo % 2 ^ x.w)
  | .key b => decide ((tfind b.slot p.keys).getD [] ≠ (s.liveGens b.slot).map KeyGen.gen)
  | .table _ _ => decide (p.members ≠ s.peer.members)

/-- The code of a transaction's operations, were they applied now, with CHECK set or not (R602, R603), and the state after. -/
def State.tryTxn (s : State) (t : HTxn) (check : Bool) : Status × State :=
  if check && t.ops.any fun o => s.changedSince t.base o then (.refusedBusy, s) else s.applyOps t.ops

/-- The members that hold parts of a transaction, at the pole (R637). -/
def State.txnParts (s : State) (id : Nat) : List Nat := (tfind id s.cst.txnMembers).getD []

/-- A transaction let go, here and at the members that hold parts of it (R604, R614, R638). -/
def State.discardTxn (s : State) (id : Nat) : State :=
  ((s.txnParts id).foldl (fun (s : State) m => s.sendApply id 0 true m) s).closeTxn id

/-- A commit of this gateway's own parts alone (R46, R602, R603). -/
def State.commitTxn (s0 : State) (q : Req) (t : HTxn) (check : Bool) : State :=
  let s := s0.beforeCommit
  let r := s.tryTxn t check
  let s1 := if r.1 = .done then r.2.commitView else r.2
  (s1.closeTxn t.id).answer q.seq r.1 t.id []

/-- A commit in two phases begun by the pole (R638): its own parts tried, and a prepare sent to every member with a part. -/
def State.prepareTxn (s : State) (q : Req) (t : HTxn) (check : Bool) : State :=
  let r := s.tryTxn t check
  let ms := s.txnParts t.id
  if r.1 ≠ .done then
    (r.2.discardTxn t.id).answer q.seq r.1 t.id []
  else
    let c : TwoPhase := { seq := q.seq, txn := t.id, check := check, prepare := ms, refusal := none, applying := false, view := 0, acks := [] }
    let s1 : State := { s with cst := { s.cst with commits := s.cst.commits ++ [c] } }
    ms.foldl (fun (s : State) m => s.sendPrepare t.id check m) s1

/-- TXN_COMMIT carried out (R602, R603, R638). A transaction that is not open ends it with REFUSED_BUSY (DEDUCED, as R600). -/
def State.commitReq (s : State) (q : Req) (body : List Byte) : State :=
  s.alone q fun s =>
    match body with
    | [b] =>
      if 1 < b.toNat then s.respond q.seq .refusedFit
      else match s.txn q.txn with
        | none => s.respond q.seq .refusedBusy
        | some t =>
          if s.cst.commits.any fun c => decide (c.txn = t.id) then s.respond q.seq .refusedBusy
          else if (s.txnParts t.id).isEmpty then s.commitTxn q t (decide (b.toNat = 1))
          else s.prepareTxn q t (decide (b.toNat = 1))
    | _ => s.respond q.seq .refusedFit

/-- TXN_IDLE and SNAP_LIFE in effect, in ns; 0 acts as 1 s (HOST_CFG). -/
def State.txnIdleNs (s : State) : Nat := max 1 (s.hostF F.HOST_CFG_TXN_IDLE) * 10 ^ 9
def State.snapLifeNs (s : State) : Nat := max 1 (s.hostF F.HOST_CFG_SNAP_LIFE) * 10 ^ 9

/-- TXN_EXPIRED of transaction `id` (R604). What a member holds for its pole, and what is being committed, does not expire. -/
def execTxnExpired (id : Nat) (s : State) : Host.Outcome State Fault Refusal :=
  match s.txn id with
  | some t =>
    if s.elapsed t.lastAt s.txnIdleNs ∧ !s.cstMember ∧ !(s.cst.commits.any fun c => decide (c.txn = id)) then
      .next ((s.discardTxn id).event F.HOST_EVENTS_TXN_EXPIRED)
    else .next s
  | none => .next s

/-! ### Snapshots -/

/-- The request to open or close a snapshot passed on by the pole to every other member, so that each keeps the superseded
values it needs (R640; DEDUCED). -/
def State.snapMembers (s : State) (id action : Nat) : State :=
  if s.f F.CST_STATUS_IS_POLE = 1 then
    ((List.range (s.f F.CST_STATUS_MEMBERS)).filter (· ≠ s.position)).foldl (fun (s : State) m =>
      (({ s with cst := { s.cst with nextFwd := (s.cst.nextFwd + 1) % 2 ^ 32 } }).emit
        (.member m mkForward s.cst.nextFwd (beBytes 1 5 ++ beBytes 1 0 ++ beBytes 4 id ++ beBytes 1 action)))) s
  else s

/-- A snapshot closed (R605, R607). -/
def State.closeSnap (s : State) (id : Nat) : State :=
  ({ s with host := { s.host with snaps := s.host.snaps.filter fun x => x.id ≠ id } }).snapMembers id 2

/-- SNAPSHOT carried out (R605). Closing one that is not open ends with REFUSED_BUSY (DEDUCED, as R607). A request of the pole
names the snapshot that the member opens. -/
def State.snapReq (s : State) (q : Req) (action : Nat) : State :=
  s.alone q fun s =>
    let fwd := decide (2 ^ 32 ≤ q.seq)
    if action = 1 then
      if 8 ≤ s.host.snaps.length then s.respond q.seq .refusedBusy
      else
        let id := if fwd then q.txn else s.host.lastSnap + 1
        let s1 : State := { s with host := { s.host with
          lastSnap := if fwd then s.host.lastSnap else id, snaps := s.host.snaps ++ [Snap.mk id s.picture s.now] } }
        (s1.answer q.seq .done id []).snapMembers id 1
    else if s.host.snaps.any fun x => decide (x.id = q.txn) then (s.closeSnap q.txn).answer q.seq .done q.txn []
    else s.respond q.seq .refusedBusy

/-- The body of SNAPSHOT: its ACTION. -/
def snapAction (body : List Byte) : Option Nat :=
  match body with
  | [b] => if b.toNat = 1 ∨ b.toNat = 2 then some b.toNat else none
  | _ => none

/-- Rows of two sets that differ. -/
def rowsChanged (a b : Tab Row256) : Nat :=
  (((a.map Prod.fst) ++ (b.map Prod.fst)).dedup.filter fun k => decide (tfind k a ≠ tfind k b)).length

/-- Bytes of superseded values that a snapshot needs (R607; DEDUCED: eight for a register with a changed committed field, 32
for a changed row or circuit entry). -/
def State.snapBytes (s : State) (p : Picture) : Nat :=
  let regs := ((p.regs.map Prod.fst) ++ (s.regs.map Prod.fst)).dedup.filter fun a =>
    match regAt a with
    | some r => r.committed.any fun x =>
        decide ((regGet p.regs a).toNat / 2 ^ x.lo % 2 ^ x.w ≠ (s.regNow a).toNat / 2 ^ x.lo % 2 ^ x.w)
    | none => false
  let cs := ((p.circuits.map Prod.fst) ++ (s.fab.circuits.map Prod.fst)).dedup.filter fun k =>
    decide (circuitWord p.circuits (32 * k) ≠ circuitWord s.fab.circuits (32 * k))
  8 * regs.length + 32 * (rowsChanged p.active s.seq.active + rowsChanged p.shadow s.seq.shadow + cs.length)

/-- The store of superseded values is full: 256 MiB (R607). -/
def State.storeFull (s : State) : Bool := decide (256 * 2 ^ 20 ≤ (s.host.snaps.map fun x => s.snapBytes x.pic).sum)

/-- SNAPSHOT_EXPIRED (R607, R641): snapshots open for SNAP_LIFE are closed; when the store is full, here or, as `memberFull`
says, at another member, the oldest is. -/
def execSnapshotExpired (memberFull : Bool) (s : State) : Host.Outcome State Fault Refusal :=
  if s.cstMember then .next s
  else
    let old := (s.host.snaps.filter fun x => s.elapsed x.openedAt s.snapLifeNs).map Snap.id
    let full := if memberFull || s.storeFull then (s.host.snaps.map Snap.id).take 1 else []
    let ids := (old ++ full).dedup
    .next ((ids.foldl State.closeSnap s).eventIf (!ids.isEmpty) F.HOST_EVENTS_SNAP_CLOSED)

/-! ### READ and WRITE -/

/-- A word inside an open transaction: what the transaction has written to it (R48); beyond the last entry of a table it
reads zero (R15). -/
def State.txnWord (s : State) (ops : List HeldOp) (a : Nat) : Word :=
  ops.foldl (fun (w : Word) op => match op with
    | .word b v =>
      if b ≠ a then w
      else match tableOf a with
        | some t => if tableOff a < tableEnd t then v else w
        | none => match regAt a with
          | some r => BitVec.ofNat 64 (takeFields (r.acc fun c => decide (c = .rw) || decide (c = .rws)) w.toNat v.toNat)
          | none => w
    | _ => w) (s.scsNow a)

/-- Words read one after the other, each with what its read does (R18, R595): the bytes of the response and the state. -/
def State.readAll (s : State) (value : State → Nat → Word) (as : List Nat) : List Byte × State :=
  as.foldl (fun (x : List Byte × State) a =>
    let s1 := x.2.beforeRead a
    (x.1 ++ beBytes 8 (value s1 a).toNat, s1.afterRead a)) ([], s)

/-- Blocks that a READ in recovery mode may reach (R692): GLB and SEC. -/
def recoveryBlock (a : Nat) : Bool := decide (a / 0x100000 = 0) || decide (a / 0x100000 = 0x12)

/-- READ carried out (R48 to R50, R595 to R597, R600, R606, R692). -/
def State.takeRead (s : State) (q : Req) (body : List Byte) : State :=
  match checkedRuns false body with
  | .error i => (s.noteTxn q).refuseRun q.seq i
  | .ok rs =>
    let as := rs.flatMap Run.addrs
    if s.f F.SEC_STATUS_RECOVERY = 1 ∧ !(as.all recoveryBlock) then s.respond q.seq .refusedBusy
    else if q.inSnap then
      match s.host.snaps.find? fun x => x.id = q.txn with
      | none => s.respond q.seq .refusedBusy
      | some x =>
        let r := s.readAll (fun t a => t.snapWord x.pic a) as
        r.2.answer q.seq .done q.txn r.1 (some x.pic.view)
    else if q.inTxn then
      match s.txn q.txn with
      | none => if 2 ^ 32 ≤ q.seq then (let r := s.readAll State.scsNow as; r.2.answer q.seq .done q.txn r.1) else s.respond q.seq .refusedBusy
      | some t =>
        let r := (s.touchTxn q.txn).readAll (fun u a => u.txnWord t.ops a) as
        r.2.answer q.seq .done q.txn r.1
    else
      let r := s.readAll State.scsNow as
      r.2.answer q.seq .done 0 r.1

/-- WRITE carried out (R595, R597, R598, R600, R601). -/
def State.takeWrite (s : State) (q : Req) (body : List Byte) : State :=
  if q.inTxn && !q.inSnap && decide (q.seq < 2 ^ 32) && (s.txn q.txn).isNone then s.respond q.seq .refusedBusy
  else match checkedRuns true body with
    | .error i => (s.noteTxn q).refuseRun q.seq i
    | .ok rs => s.takeOps q ((wordsOf rs).map fun w => HeldOp.word w.1 w.2)

/-- A WRITE of one word (R598). -/
def State.writeOne (s : State) (q : Req) (a : Nat) (v : Word) : State := s.gated q false fun s => s.takeOps q [HeldOp.word a v]

/-! ### Keys, membership, ABORT -/

/-- The body of a KEYLOAD (R524); none where its length is not that of its WRAP_LEN. -/
def keyBodyOf (bs : List Byte) : Option KeyBody :=
  let n (o k : Nat) : Nat := beNat ((bs.drop o).take k)
  if 8 ≤ bs.length ∧ bs.length = 8 + n 4 4 then some { slot := n 0 1, gen := n 1 1, action := n 2 1, reserved := n 3 1, wrapped := bs.drop 8 }
  else none

/-- KEYLOAD carried out (R526, R527, R600). A malformed body is refused as R526 refuses its fields. -/
def State.takeKey (s : State) (q : Req) (b : Option KeyBody) : State :=
  match b with
  | some b => s.takeOps q [HeldOp.key b]
  | none => ((s.noteTxn q).event F.CIPH_EVENTS_KEYLOAD_REFUSED).respond q.seq .refusedFit

/-- A member entry in network byte order (R341, R616). -/
def memberOf (b : List Byte) : Member :=
  { site := hdrAt b 0 1, role := hdrAt b 1 1, state := hdrAt b 2 1, flags := hdrAt b 3 1, device := hdrAt b 8 8 }

/-- A member entry that R341 allows: a site below 16, a state it names, reserved bytes zero. -/
def memberOk (b : List Byte) : Bool :=
  decide (hdrAt b 0 1 < 16) && (decide (hdrAt b 2 1 = meMember) || decide (hdrAt b 2 1 = meRemoved)) && decide (hdrAt b 3 5 = 0)

/-- ACTION, EPOCH and entries of a MEMBERSHIP body (R616); none where it is malformed. -/
def membershipOf (bs : List Byte) : Option (Nat × Nat × List Member) :=
  let n := hdrAt bs 2 2
  let es := chunks 16 n (bs.drop 16)
  if bs.length = 16 + 16 * n ∧ 1 ≤ n ∧ n ≤ 558 ∧ hdrAt bs 1 1 = 0 ∧ hdrAt bs 4 4 = 0 then
    if hdrAt bs 0 1 = 1 ∧ es.all memberOk then some (1, hdrAt bs 8 8, es.map memberOf)
    else if hdrAt bs 0 1 = 2 ∧ n = 1 ∧ hdrAt bs 8 8 = 0 then some (2, 0, es.map memberOf)
    else none
  else none

/-- A member entry that R341 allows. -/
def Member.valid (m : Member) : Bool :=
  decide (m.site < 16) && decide (m.role < 256) && (decide (m.state = meMember) || decide (m.state = meRemoved)) && decide (m.flags = 0)

/-- A table part carried out, or held (R600, R616, R617). -/
def State.takeTable (s : State) (q : Req) (epoch : Nat) (ms : List Member) : State :=
  if ms.isEmpty || decide (558 < ms.length) || !ms.all Member.valid then (s.noteTxn q).respond q.seq .refusedFit
  else s.takeOps q [HeldOp.table epoch ms]

/-- A KEEP carried out (R618). -/
def State.takeKeep (s : State) (q : Req) (site role : Nat) : State :=
  s.alone q fun s =>
    if s.declared.any fun n => decide (s.peerSite n = site) && decide (s.peerRole n = role) && decide ((s.watch n).state = mbProposed) then
      (s.keepMember site role).respond q.seq .done
    else s.respond q.seq .refusedBusy

/-- The status of an item that a track's completion ring still holds, the newest record first (R84, R87, R88). -/
def State.endedStatus (s : State) (tag : Nat) : Option Nat :=
  let t := tag / 2 ^ 60
  let c := s.f F.SEQ_TKn_DONE_COUNT t
  let ks := (List.range (min c 1024)).map fun i => t * 1024 + (c - 1 - i) % 1024
  (ks.find? fun k => s.f F.SEQ_RING_A_TAG k = tag).map fun k => s.f F.SEQ_RING_B_STATUS k

/-- The track whose pending item a tag names (R81, R85). -/
def State.pendingAt (s : State) (tag : Nat) : Option Nat :=
  (List.range 16).find? fun n =>
    s.hasPending n && decide (itemTag (s.mkItem n (s.cursor n) (s.activeRow (s.cursor n)) none) = tag)

/-- An aborted item's fate (R81, R86 to R88, R615): the code and the body byte of the answer. -/
def State.abortAnswer (s : State) (tag : Nat) : Status × List Byte × State :=
  match s.seq.items.find? fun it => itemTag it = tag with
  | some it => (.done, [], s.abortItem it.id)
  | none =>
    match s.pendingAt tag with
    | some n => (.done, [], (s.addPending n).endItem s.seq.nextId .failedAborted)
    | none => (.abortTooLate, [BitVec.ofNat 8 ((s.endedStatus tag).getD 0xFF)], s)

/-- Every item of an ad hoc instance aborted, or its held SUBMIT removed (R86, R258, R614). -/
def State.abortInstance (s : State) (id : Nat) : Status × State :=
  match s.col.held.find? fun a => a.id = id with
  | some a =>
    let s1 : State := { s with col := { s.col with held := s.col.held.filter fun x => x.id ≠ id } }
    (.done, ((s1.syncAdhoc).count F.COL_FAILED_COUNT).completion a.channel .failedAborted id)
  | none =>
    if s.col.running.any fun a => decide (a.id = id) then
      let its := (s.seq.items.filter fun it => it.adhoc = some id).map Item.id
      (.done, its.foldl State.abortItem s)
    else (.abortTooLate, s)

/-- ABORT of one TARGET (R614, R615). -/
def State.takeAbort (s : State) (q : Req) (target value : Nat) : State :=
  s.alone q fun s =>
    let late (s : State) : State := s.answer q.seq .abortTooLate 0 [0xFF]
    if target = 1 then (let r := s.abortAnswer value; r.2.2.answer q.seq r.1 0 r.2.1)
    else if target = 2 then (s.abortTrack (value % 16)).respond q.seq .done
    else if target = 3 then
      let r := s.abortInstance (value % 2 ^ 48)
      if r.1 = .done then r.2.respond q.seq .done else late s
    else if target = 4 then
      let id := value % 2 ^ 32
      if (s.txn id).isSome ∧ !(s.cst.commits.any fun c => decide (c.txn = id)) then (s.discardTxn id).respond q.seq .done else late s
    else
      let r := s.abortLoad (value % 2 ^ 32)
      if r.1 then r.2.respond q.seq .done else late s

/-! ### The commands -/

/-- READ (R48 to R50, R595 to R597, R600, R606). -/
def execRead (q : Req) (body : List Byte) (s : State) : Host.Outcome State Fault Refusal :=
  .next (s.gated q true fun s => s.takeRead q body)

/-- WRITE (R595, R597, R598, R600, R601). -/
def execWrite (q : Req) (body : List Byte) (s : State) : Host.Outcome State Fault Refusal :=
  .next (s.gated q false fun s => s.takeWrite q body)

/-- TXN_BEGIN (R599). -/
def execTxnBegin (q : Req) (s : State) : Host.Outcome State Fault Refusal := .next (s.gated q false fun s => s.beginTxn q)

/-- TXN_COMMIT (R602, R603, R638): `body` holds CFLAGS. -/
def execTxnCommit (q : Req) (body : List Byte) (s : State) : Host.Outcome State Fault Refusal :=
  .next (s.gated q false fun s => s.commitReq q body)

/-- SNAPSHOT_OPEN (R605). -/
def execSnapshotOpen (q : Req) (s : State) : Host.Outcome State Fault Refusal := .next (s.gated q false fun s => s.snapReq q 1)

/-- SNAPSHOT_CLOSE (R605) of the snapshot that the request names. -/
def execSnapshotClose (q : Req) (s : State) : Host.Outcome State Fault Refusal := .next (s.gated q false fun s => s.snapReq q 2)

/-- HOST_ADDRESS_APPLY (R583). -/
def execHostAddressApply (s : State) : Host.Outcome State Fault Refusal := .next s.hostInEffect

/-- HOST_LINK_CHANGE (R581): the PCS is aligned or not, with the lanes that are locked. -/
def execHostLinkChange (up : Bool) (lanes : Nat) (s : State) : Host.Outcome State Fault Refusal :=
  let changed := decide (s.f F.HOST_STATUS_LINK_UP ≠ b2n up)
  .next (((s.setf F.HOST_STATUS_LINK_UP (b2n up)).setf F.HOST_STATUS_LANE_LOCK lanes).eventIf changed F.HOST_EVENTS_LINK)

/-- KEY_LOAD (R524 to R527). -/
def execKeyLoad (q : Req) (slot gen reserved : Nat) (wrapped : List Byte) (s : State) : Host.Outcome State Fault Refusal :=
  .next (s.gated q false fun s => s.takeKey q (some { slot := slot, gen := gen, action := 1, reserved := reserved, wrapped := wrapped }))

/-- KEY_ERASE_GRACEFUL (R536, R759). -/
def execKeyEraseGraceful (q : Req) (slot gen reserved : Nat) (wrapped : List Byte) (s : State) : Host.Outcome State Fault Refusal :=
  .next (s.gated q false fun s => s.takeKey q (some { slot := slot, gen := gen, action := 2, reserved := reserved, wrapped := wrapped }))

/-- KEY_ERASE_IMMEDIATE (R537, R759). -/
def execKeyEraseImmediate (q : Req) (slot gen reserved : Nat) (wrapped : List Byte) (s : State) : Host.Outcome State Fault Refusal :=
  .next (s.gated q false fun s => s.takeKey q (some { slot := slot, gen := gen, action := 3, reserved := reserved, wrapped := wrapped }))

/-- MEMBERSHIP_TABLE (R616, R617). -/
def execMembershipTable (q : Req) (epoch : Nat) (ms : List Member) (s : State) : Host.Outcome State Fault Refusal :=
  .next (s.gated q false fun s => s.takeTable q epoch ms)

/-- MEMBERSHIP_KEEP (R347, R618). -/
def execMembershipKeep (q : Req) (site role : Nat) (s : State) : Host.Outcome State Fault Refusal :=
  .next (s.gated q false fun s => s.takeKeep q site role)

/-- ABORT_ITEM (R86 to R89, R614, R615) of an item tag. -/
def execAbortItem (q : Req) (value : Nat) (s : State) : Host.Outcome State Fault Refusal :=
  .next (s.gated q false fun s => s.takeAbort q 1 value)

/-- ABORT_TRACK (R91, R614). -/
def execAbortTrack (q : Req) (value : Nat) (s : State) : Host.Outcome State Fault Refusal :=
  .next (s.gated q false fun s => s.takeAbort q 2 value)

/-- ABORT_COLLECTIVE (R258, R614). -/
def execAbortCollective (q : Req) (value : Nat) (s : State) : Host.Outcome State Fault Refusal :=
  .next (s.gated q false fun s => s.takeAbort q 3 value)

/-- ABORT_TRANSACTION (R614). -/
def execAbortTransaction (q : Req) (value : Nat) (s : State) : Host.Outcome State Fault Refusal :=
  .next (s.gated q false fun s => s.takeAbort q 4 value)

/-- ABORT_LOAD (R614). -/
def execAbortLoad (q : Req) (value : Nat) (s : State) : Host.Outcome State Fault Refusal :=
  .next (s.gated q false fun s => s.takeAbort q 5 value)

/-- An EVENT request carried out (R600, R606, R625). -/
def State.takeEvent (s : State) (q : Req) (body : List Byte) : State :=
  s.alone q fun s => let r := s.serveEvent body; r.2.respond q.seq r.1

/-- EVENT_ACK (R623, R625): the host acknowledges message `seq` of `channel`. -/
def execEventAck (q : Req) (channel seq : Nat) (s : State) : Host.Outcome State Fault Refusal :=
  .next (s.gated q false fun s => s.takeEvent q (beBytes 1 channel ++ beBytes 3 0 ++ beBytes 4 seq))

/-- TOKEN_WRITE (R112): counter `i`. -/
def execTokenWrite (q : Req) (i : Nat) (v : Word) (s : State) : Host.Outcome State Fault Refusal :=
  .next (s.writeOne q (R.SEQ_TOKEN.base + 8 * (i % 4096)) v)

/-- ACTIVE_WINDOW_WRITE (R95): a word at an offset of the active window. -/
def execActiveWindowWrite (q : Req) (off : Nat) (v : Word) (s : State) : Host.Outcome State Fault Refusal :=
  .next (s.writeOne q (0x1000000000 + off % 2 ^ 32 / 8 * 8) v)

/-- SHADOW_WINDOW_WRITE (R96). -/
def execShadowWindowWrite (q : Req) (off : Nat) (v : Word) (s : State) : Host.Outcome State Fault Refusal :=
  .next (s.writeOne q (0x1100000000 + off % 2 ^ 32 / 8 * 8) v)

/-- PPE_CAL_TABLE_WRITE (R179): word `i` of PPE_DARK, PPE_GAIN and PPE_XT taken one after the other. -/
def execPpeCalTableWrite (q : Req) (table i : Nat) (v : Word) (s : State) : Host.Outcome State Fault Refusal :=
  let r := if table = 0 then R.PPE_DARK else if table = 1 then R.PPE_GAIN else R.PPE_XT
  .next (s.writeOne q (r.base + i / r.n2 % r.n1 * r.s1 + i % r.n2 * r.s2) v)

/-- CIRCUIT_TABLE_WRITE (R428). -/
def execCircuitTableWrite (q : Req) (off : Nat) (v : Word) (s : State) : Host.Outcome State Fault Refusal :=
  .next (s.writeOne q (0x1400000000 + off % 2 ^ 32 / 8 * 8) v)

/-- CONTEXT_WINDOW_WRITE (R501). -/
def execContextWindowWrite (q : Req) (off : Nat) (v : Word) (s : State) : Host.Outcome State Fault Refusal :=
  .next (s.writeOne q (0x1300000000 + off % 2 ^ 32 / 8 * 8) v)

/-- OPT_XT_WRITE (R470): word `i` of a tile. -/
def execOptXtWrite (q : Req) (tile i : Nat) (v : Word) (s : State) : Host.Outcome State Fault Refusal :=
  .next (s.writeOne q (R.OPT_Tt_XT.base + tile % R.OPT_Tt_XT.n1 * R.OPT_Tt_XT.s1 + i % R.OPT_Tt_XT.n2 * R.OPT_Tt_XT.s2) v)

/-- GCS_MAP_WRITE (R405): serial port `n`. -/
def execGcsMapWrite (q : Req) (n : Nat) (v : Word) (s : State) : Host.Outcome State Fault Refusal :=
  .next (s.writeOne q (R.LINE_GCS_MAP.base + 8 * (n % 4)) v)

end Sys2Proof.Machine
end

