-- ==== Sys2Proof/Machine/HostPort.lean ====
section
/-! DEFINITION. The host port (R546, R547, R559, R561, R562, R581, R582) and the reception of Expin requests (R584 to R594,
R634, R635). Frame and packet layouts are those of IEEE 802.3, IEEE 802.1AE, RFC 826, RFC 791, RFC 792, RFC 768, RFC 8200, RFC
4443 and RFC 4861 (log entry 7). -/

namespace Sys2Proof.Machine

/-! ### The operations -/

/-- A request whose body its operation does not have, answered REFUSED_FIT. -/
def State.badBody (s : State) (q : Req) : Host.Outcome State Fault Refusal :=
  .next (s.gated q false fun s => s.respond q.seq .refusedFit)

/-- LOAD_STREAM by its TARGET (R608); `fw` is what the check of a firmware copy would find. -/
def State.serveLoad (s : State) (q : Req) (body : List Byte) (fw : Bool × Nat) : Host.Outcome State Fault Refusal :=
  let t := hdrAt body 0 1
  if t = 1 then execLoadStructureImage q body s
  else if t = 2 then execLoadSectorPatch q body s
  else if t = 3 then execLoadFirmwareCopy q body fw.1 fw.2 s
  else if t = 4 then (if (hdrAt body 1 1).testBit 1 then execHostBulkRead q body s else execHostBulkWrite q body s)
  else s.badBody q

/-- ABORT by its TARGET (R614). -/
def State.serveAbort (s : State) (q : Req) (body : List Byte) : Host.Outcome State Fault Refusal :=
  match abortOf body with
  | some (t, v) => .next (s.gated q false fun s => s.takeAbort q t v)
  | none => s.badBody q

/-- MEMBERSHIP by its ACTION (R616). -/
def State.serveMembership (s : State) (q : Req) (body : List Byte) : Host.Outcome State Fault Refusal :=
  match membershipOf body with
  | some (1, e, ms) => execMembershipTable q e ms s
  | some (_, _, m :: _) => execMembershipKeep q m.site m.role s
  | _ => s.badBody q

/-- SNAPSHOT by its ACTION (R605). -/
def State.serveSnapshot (s : State) (q : Req) (body : List Byte) : Host.Outcome State Fault Refusal :=
  match snapAction body with
  | some 1 => execSnapshotOpen q s
  | some _ => execSnapshotClose q s
  | none => s.badBody q

/-- The operation of a TYPE carried out (R585, check 6 of R593). -/
def State.serve (s : State) (q : Req) (type : Nat) (body : List Byte) (fw : Bool × Nat) : Host.Outcome State Fault Refusal :=
  if type = 1 then execRead q body s
  else if type = 2 then execWrite q body s
  else if type = 3 then execTxnBegin q s
  else if type = 4 then execTxnCommit q body s
  else if type = 5 then s.serveSnapshot q body
  else if type = 6 then s.serveLoad q body fw
  else if type = 7 then execSubmit q body s
  else if type = 8 then s.serveAbort q body
  else if type = 9 then s.serveMembership q body
  else if type = 10 then .next (s.gated q false fun s => s.takeKey q (keyBodyOf body))
  else if type = 11 then .next (s.gated q false fun s => s.takeEvent q body)
  else s.badBody q

/-! ### MEMBER (R634, R635) -/

/-- The operations that the pole itself carries out for the whole constellation (R637 to R642; DEDUCED). -/
def poleOwn (type : Nat) (body : List Byte) : Bool :=
  decide (type = 3) || decide (type = 4) || decide (type = 5) || decide (type = 11) || (decide (type = 8) && decide (hdrAt body 0 1 = 4))

/-- FLAGS of a forwarded request: IN_TXN and IN_SNAP, as R584 places them. -/
def Req.flags (q : Req) : Nat := 2 * b2n q.inTxn + 4 * b2n q.inSnap

/-- A request of the kinds that join or read a transaction (R600). -/
def joinsTxn (type : Nat) (body : List Byte) : Bool :=
  decide (type = 1) || decide (type = 2) || decide (type = 10) || (decide (type = 9) && decide (hdrAt body 0 1 = 1))

/-- A request forwarded by the pole to a member (R635, R637); no route: FAILED_LINK (R636). -/
def State.forward (s : State) (q : Req) (m type : Nat) (body : List Byte) : State :=
  let s0 := s.ask q
  if q.inTxn && joinsTxn type body && (s.txn q.txn).isNone then s0.respond q.seq .refusedBusy
  else if s.bit F.CST_UNREACHABLE_POSITIONS m then (s0.count F.CST_MGMT_LOST_COUNT).respond q.seq .failedLink
  else
    let id := s.cst.nextFwd
    let s1 := if q.inTxn then s0.touchTxn q.txn else s0
    let w : Fwd := { id := id, member := m, seq := q.seq, txn := q.txn, inTxn := q.inTxn, kind := type }
    ({ s1 with cst := { s1.cst with nextFwd := (id + 1) % 2 ^ 32, fwds := s1.cst.fwds ++ [w] } }).emit
      (.member m mkForward id (beBytes 1 type ++ beBytes 1 q.flags ++ beBytes 4 q.txn ++ body))

/-- Whether every word of a READ or WRITE lies in the CST block (R634). -/
def inCst (type : Nat) (body : List Byte) : Bool :=
  match checkedRuns (decide (type = 2)) body with
  | .ok rs => (decide (type = 1) || decide (type = 2)) && (rs.flatMap Run.addrs).all fun a => decide (a / 0x100000 = 0x10)
  | .error _ => false

/-- Check 5 of R593 and the operation (R593, R634, R635). -/
def State.dispatch (s : State) (q : Req) (type member : Nat) (body : List Byte) (fw : Bool × Nat) : Host.Outcome State Fault Refusal :=
  let own := decide (member = 0) || decide (member = s.f F.FAB_COORD_COORD)
  if s.f F.CST_STATUS_MODE = 0 then
    if own then s.serve q type body fw else .next ((s.ask q).respond q.seq .failedLink)
  else if s.f F.CST_STATUS_IS_POLE = 0 then
    if own && inCst type body then s.serve q type body fw else .next s
  else if member = 0 ∨ poleOwn type body then s.serve q type body fw
  else match tfind member s.cst.map with
    | some p => if p = s.position then s.serve q type body fw else .next (s.forward q p type body)
    | none => if own then s.serve q type body fw else .next ((s.ask q).respond q.seq .failedLink)

/-! ### Checks 1 to 4 of R593 -/

/-- A key that may have sealed a request: its generation, or none for the bootstrap key, AES keys and the four bytes of
SALT. -/
structure Cand where
  gen : Option Nat
  keys : List (List Nat)
  salt : List Nat

/-- The bootstrap key (R588, R701). -/
def State.bootCand (s : State) : Cand :=
  match s.sec.boot with
  | some (k, t) => { gen := none, keys := aesKeys (bytesOf 32 k.toNat), salt := bytesOf 4 t.toNat }
  | none => { gen := none, keys := aesKeys (bytesOf 32 s.sec.claimKey.toNat), salt := [0, 0, 0, 0] }

/-- The keys a request is verified under, in order (R588). -/
def State.cands (s : State) : List Cand :=
  let gs := match s.expinSlot with
    | some k => (s.liveGens k).filter fun g => g.allows 1
    | none => []
  if gs = [] then [s.bootCand] else gs.map fun g => { gen := some g.gen, keys := g.keys, salt := g.saltBytes.take 4 }

/-- Whether a message verifies under a key in a direction: GMAC over header and body (R586). -/
def Cand.verifies (c : Cand) (dir seq : Nat) (msg tag : List Byte) : Bool :=
  decide (gcmTag c.keys (c.salt ++ [dir, 0, 0, 0] ++ bytesOf 4 seq) (nats msg) [] = nats tag)

/-! ### What the gateway sends, as bytes (R11, R584, R586, R624) -/

/-- The body of an EVENT message (R624). -/
def eventBody (channel : Nat) (rs : List EvRec) : List Byte :=
  beBytes 1 channel ++ beBytes 1 0 ++ beBytes 2 rs.length ++ beBytes 4 0 ++ rs.flatMap EvRec.bytes

/-- The 32-byte header of an Expin message (R584). -/
def expinHead (type flags status txn seq view len member : Nat) : List Byte :=
  beBytes 1 1 ++ beBytes 1 type ++ beBytes 1 flags ++ beBytes 1 status ++ beBytes 4 txn ++ beBytes 4 seq ++ beBytes 8 view ++ beBytes 2 len
    ++ beBytes 2 0 ++ beBytes 5 member ++ beBytes 3 0

/-- A message sealed under a key in a direction: header, body and GMAC trailer (R584, R586). -/
def Cand.seal (c : Cand) (dir seq : Nat) (head body : List Byte) : List Byte :=
  head ++ body ++ byts (gcmTag c.keys (c.salt ++ [dir, 0, 0, 0] ++ bytesOf 4 seq) (nats (head ++ body)) [])

/-- The datagram in which a response or an EVENT message leaves, sealed under `c`; `type` and `member` are those of the request answered,
or of the gateway whose events they are. -/
def Emit.datagram (c : Cand) (type member : Nat) : Emit → List Byte
  | .response seq st view txn body => c.seal 1 seq (expinHead type 1 st txn seq view body.length member) body
  | .hostEvent channel seq _ rs =>
    let body := eventBody channel rs
    c.seal 2 seq (expinHead 11 0 0 0 seq 0 body.length member) body
  | _ => []

/-- The replay state of a generation, 0 for the bootstrap key. -/
def Cand.replayKey (c : Cand) : Nat := match c.gen with | some g => g + 1 | none => 0

/-- What check 3 of R593 finds. -/
inductive SeqVerdict where
  | fresh | seen | old
  deriving DecidableEq, Repr

/-- Check 3 of R593 on a sequence, with the floor of R592 under the bootstrap key. -/
def State.seqCheck (s : State) (c : Cand) (seq : Nat) : SeqVerdict :=
  let f := s.f F.HOST_BOOT_FLOOR_FLOOR
  let floored := c.gen.isNone && (decide (seq ≤ f) || decide (0xFFFFFC00 ≤ f))
  match tfind c.replayKey s.host.replay with
  | none => if floored then .old else .fresh
  | some (top, got) =>
    if seq = top ∨ got.contains seq then .seen
    else if floored then .old
    else if newer seq top then .fresh
    else if (top + 2 ^ 32 - seq) % 2 ^ 32 ≤ 1024 then .fresh
    else .old

/-- A sequence noted as accepted (R593). -/
def State.noteSeq (s : State) (c : Cand) (seq : Nat) : State :=
  let put (v : Nat × List Nat) : State := { s with host := { s.host with replay := tput c.replayKey v s.host.replay } }
  match tfind c.replayKey s.host.replay with
  | none => put (seq, [])
  | some (top, got) =>
    if newer seq top then put (seq, (top :: got).filter fun x => decide ((seq + 2 ^ 32 - x) % 2 ^ 32 ≤ 1024))
    else put (top, seq :: got)

/-- An accepted request that has come again: its response is sent again unchanged when it is held (R593, R594). -/
def State.repeatAnswer (s : State) (c : Cand) (seq : Nat) : State :=
  let s1 := s.event F.HOST_EVENTS_REPLAY
  match s.host.answered.find? fun a => a.1 = c.gen ∧ a.2.1 = seq with
  | some a => s1.sendOut a.2.2
  | none => s1.count F.HOST_DUP_COUNT

/-- A datagram to the Expin port (R593). -/
def State.expinIn (s : State) (msg : List Byte) (fw : Bool × Nat) : Host.Outcome State Fault Refusal :=
  let fl (o n : Nat) : Nat := hdrAt msg o n
  let len := fl 20 2
  let seq := fl 8 4
  let body := (msg.drop 32).take len
  let alternate := decide (s.position = s.cst.alternate)
  if !s.answers ∨ (s.f F.CST_STATUS_MODE ≠ 0 ∧ s.f F.CST_STATUS_IS_POLE = 0 ∧ !alternate) then .next s
  else if msg.length ≠ 48 + len ∨ 9000 < msg.length ∨ msg.length < 48 then .next (s.count F.HOST_MALFORMED_COUNT)
  else match s.cands.find? fun c => c.verifies 0 seq (msg.take (32 + len)) (msg.drop (32 + len)) with
    | none => .next (s.countEv F.HOST_AUTH_FAIL_COUNT F.HOST_EVENTS_AUTH_FAIL)
    | some c =>
      match s.seqCheck c seq with
      | .seen => .next (s.repeatAnswer c seq)
      | .old => .next (s.countEv F.HOST_REPLAY_COUNT F.HOST_EVENTS_REPLAY)
      | .fresh =>
        let s1 := (s.noteSeq c seq).count F.HOST_REQUESTS_COUNT
        let q : Req := { seq := seq, gen := c.gen, inTxn := (fl 2 1).testBit 1, inSnap := (fl 2 1).testBit 2, txn := fl 4 4 }
        if fl 0 1 ≠ 1 ∨ (fl 2 1).testBit 0 ∨ 8 ≤ fl 2 1 ∨ fl 1 1 = 0 ∨ 11 < fl 1 1 ∨ fl 22 2 ≠ 0 ∨ fl 29 3 ≠ 0 ∨ (q.inTxn && q.inSnap) then
          .next ((s1.ask q).respond seq .refusedFit)
        else s1.dispatch q (fl 1 1) (fl 24 5) body fw

/-! ### MACsec, receiving side (R546, R547) -/

/-- The receive slot of a secure channel and its live generation of an association number. -/
def State.macRxGen (s : State) (sci an : Nat) : Option (Nat × KeyGen) :=
  let ks := ((s.ciph.uses.filter fun u => decide (u.2 = useMacRx)).map Prod.fst).filter fun k => decide (tfind k s.conf.sci = some sci)
  match ks with
  | k :: _ => ((s.liveGens k).find? fun g => g.an = an).map fun g => (k, g)
  | [] => none

/-- The 64-bit packet number that a frame's low 32 bits stand for, given the lowest acceptable one. -/
def xpnOf (lowest low : Nat) : Nat :=
  let hi := lowest / 2 ^ 32
  if (lowest % 2 ^ 32).testBit 31 ∧ !low.testBit 31 then (hi + 1) * 2 ^ 32 + low else hi * 2 ^ 32 + low

/-- A received frame without FCS through MACsec: the frame it carries, or none when it is discarded. -/
def State.macIn (s : State) (fr : List Byte) : Option (List Byte) × State :=
  let tci := hdrAt fr 14 1
  let sl := hdrAt fr 15 1
  let n := if sl = 0 then fr.length - 44 else sl
  if hdrAt fr 12 2 ≠ 0x88E5 ∨ tci / 4 ≠ 0x0B ∨ 48 ≤ sl ∨ fr.length < 28 + n + 16 ∨ (sl = 0 ∧ n < 48) then
    (none, s.count F.CIPH_MAC_UNTAGGED_COUNT)
  else match s.macRxGen (hdrAt fr 20 8) (tci % 4) with
    | none => (none, s.count F.CIPH_MAC_ICV_FAIL_COUNT)
    | some (k, g) =>
      let next := (tfind (256 * k + g.gen) s.ciph.macRx).getD 1
      let lowest := next - s.f F.CIPH_MACSEC_WINDOW
      let pn := xpnOf lowest (hdrAt fr 16 4)
      let iv := xorList (bytesOf 12 g.salt.toNat) (bytesOf 4 g.ssci ++ bytesOf 8 pn)
      if s.f F.CIPH_MACSEC_REPLAY = 1 ∧ pn < lowest then (none, s.count F.CIPH_MAC_REPLAY_COUNT)
      else match gcmOpen g.keys iv (nats (fr.take 28)) (nats ((fr.drop 28).take n)) (nats ((fr.drop (28 + n)).take 16)) with
        | none => (none, s.count F.CIPH_MAC_ICV_FAIL_COUNT)
        | some pt =>
          let s1 : State := { s with ciph := { s.ciph with macRx := tput (256 * k + g.gen) (max next (pn + 1)) s.ciph.macRx } }
          (some (fr.take 12 ++ byts pt), s1.updGen k g.gen fun x => { x with firstUse := some (x.firstUse.getD s.now) })

/-! ### Addresses and filters (R581, R582) -/

/-- The IPv6 link-local address from HOST_MAC by the modified EUI-64 rule (R582). -/
def State.linkLocal (s : State) : Nat :=
  let mac := s.f F.HOST_MAC_MAC
  0xFE80 * 2 ^ 112 + Nat.xor (mac / 2 ^ 24) 0x020000 * 2 ^ 40 + 0xFFFE * 2 ^ 24 + mac % 2 ^ 24

/-- The own IPv4 address, while enabled (R582). -/
def State.ownIp4 (s : State) (a : Nat) : Bool := decide (s.hostF F.HOST_CFG_IPV4_EN = 1) && decide (a = s.hostF F.HOST_IPV4_ADDR)

/-- An own IPv6 address: link-local, or the configured one while enabled (R582). -/
def State.ownIp6 (s : State) (a : Nat) : Bool :=
  decide (a = s.linkLocal) || (decide (s.hostF F.HOST_CFG_IPV6_EN = 1) && decide (a = s.hostIp6))

/-- The solicited-node address of an address. -/
def solicited (a : Nat) : Nat := 0xFF02 * 2 ^ 112 + 0x1FF * 2 ^ 24 + a % 2 ^ 24

/-- A PTP multicast address of IPv4, of IPv6. -/
def ptpIp4 (a : Nat) : Bool := decide (a = 0xE0000181) || decide (a = 0xE000006B)
def ptpIp6 (a : Nat) : Bool := decide (a / 2 ^ 120 = 0xFF) && (decide (a % 2 ^ 112 = 0x181) || decide (a % 2 ^ 112 = 0x6B))

/-- The UDP port a frame is addressed to, if it carries UDP. -/
def udpPort (fr : List Byte) : Option Nat :=
  let o := l3At fr
  let et := hdrAt fr (o - 2) 2
  if et = 0x0800 ∧ hdrAt fr (o + 9) 1 = 17 ∧ hdrAt fr (o + 6) 2 % 16384 = 0 then some (hdrAt fr (o + hdrAt fr o 1 % 16 * 4 + 2) 2)
  else if et = 0x86DD ∧ hdrAt fr (o + 6) 1 = 17 then some (hdrAt fr (o + 42) 2)
  else none

/-- The DSCP of a frame that carries IP. -/
def dscpOf (fr : List Byte) : Option Nat :=
  let o := l3At fr
  let et := hdrAt fr (o - 2) 2
  if et = 0x0800 then some (hdrAt fr (o + 1) 1 / 4) else if et = 0x86DD then some (hdrAt fr o 2 / 64 % 64) else none

/-- A frame, given without FCS, through its policer (R559, R561, R562): whether it passes. -/
def State.policeFrame (s : State) (fr : List Byte) : Bool × State :=
  let k := if udpPort fr = some (s.hostF F.HOST_CFG_PORT) then 16 else 17
  let colour := if s.f F.SCH_PLk_CTRL_AWARE k = 1 then ((dscpOf fr).map dscpColour).getD .green else .green
  let r := s.police k (fr.length + 4) colour
  (decide (r.1 ≠ .red), r.2)

/-- The tag and the destination that the port accepts: its VLAN as HOST_CFG selects, and its own address or a group
address (PRESUMED). -/
def State.accepts (s : State) (fr : List Byte) : Bool :=
  let tagged := decide (hdrAt fr 12 2 = 0x8100)
  let vlan := if s.hostF F.HOST_CFG_VLAN_EN = 1 then tagged && decide (hdrAt fr 14 2 % 4096 = s.hostF F.HOST_CFG_VLAN_ID) else !tagged
  vlan && (decide (hdrAt fr 0 6 = s.f F.HOST_MAC_MAC) || decide (hdrAt fr 0 1 % 2 = 1))

/-! ### ARP, ICMP, neighbour discovery (R581) -/

/-- An ARP packet: a request for the own address is answered. -/
def State.arpIn (s : State) (p : List Byte) : State :=
  if hdrAt p 0 8 = 0x0001080006040001 ∧ s.ownIp4 (hdrAt p 24 4) then
    s.hostSend (s.ethHead (hdrAt p 8 6) 0x0806 ++ beBytes 8 0x0001080006040002 ++ beBytes 6 (s.f F.HOST_MAC_MAC)
      ++ beBytes 4 (s.hostF F.HOST_IPV4_ADDR) ++ (p.drop 8).take 10)
  else s

/-- A message with its ICMP checksum, over a pseudo-header where there is one. -/
def icmpSum (pseudo m : List Byte) : List Byte :=
  let z := patch m 2 (beBytes 2 0)
  patch z 2 (beBytes 2 (65535 - onesSum (pseudo ++ z)))

/-- An ICMP message to the own IPv4 address: an echo request is answered. -/
def State.icmpIn (s : State) (from_ src dst : Nat) (m : List Byte) : State :=
  if hdrAt m 0 2 = 0x0800 ∧ onesSum m = 65535 ∧ 8 ≤ m.length then
    s.hostSend (s.ethHead from_ 0x0800 ++ ip4Head dst src m.length 64 1 ++ icmpSum [] (beBytes 2 0 ++ m.drop 2))
  else s

/-- The pseudo-header of IPv6. -/
def pseudo6 (src dst len next : Nat) : List Byte := beBytes 16 src ++ beBytes 16 dst ++ beBytes 4 len ++ beBytes 4 next

/-- An ICMPv6 message sent. -/
def State.icmp6Out (s : State) (mac src dst hops : Nat) (m : List Byte) : State :=
  s.hostSend (s.ethHead mac 0x86DD ++ ip6Head src dst m.length hops 58 ++ icmpSum (pseudo6 src dst m.length 58) m)

/-- An ICMPv6 message: an echo request or a solicitation of an own address is answered. -/
def State.icmp6In (s : State) (from_ src dst hops : Nat) (m : List Byte) : State :=
  let target := hdrAt m 8 16
  if onesSum (pseudo6 src dst m.length 58 ++ m) ≠ 65535 then s
  else if hdrAt m 0 2 = 0x8000 ∧ s.ownIp6 dst ∧ 8 ≤ m.length then s.icmp6Out from_ dst src 64 (beBytes 2 0x8100 ++ m.drop 2)
  else if hdrAt m 0 2 = 0x8700 ∧ hops = 255 ∧ 24 ≤ m.length ∧ s.ownIp6 target ∧ (dst = target ∨ dst = solicited target) then
    let all := 0xFF02 * 2 ^ 112 + 1
    s.icmp6Out (if src = 0 then 0x333300000001 else from_) target (if src = 0 then all else src) 255
      (beBytes 4 0x88000000 ++ beBytes 4 (if src = 0 then 0x20000000 else 0x60000000) ++ beBytes 16 target
        ++ beBytes 2 0x0201 ++ beBytes 6 (s.f F.HOST_MAC_MAC))
  else s

/-! ### IP and the port -/

/-- A UDP datagram: PTP or Expin, nothing else (R581). `fr` is its frame without FCS. -/
def State.udpIn (s : State) (own ptp : Bool) (seg fr : List Byte) (fw : Bool × Nat) : Host.Outcome State Fault Refusal :=
  let port := hdrAt seg 2 2
  let len := hdrAt seg 4 2
  if len < 8 ∨ seg.length < len then .next s
  else if (port = 319 ∨ port = 320) ∧ (own || ptp) then .next (s.ptpFrameIn (withFcs fr))
  else if port = s.hostF F.HOST_CFG_PORT ∧ own then s.expinIn ((seg.take len).drop 8) fw
  else .next s

/-- An IPv4 packet: no options, no fragments (R581). -/
def State.ip4In (s : State) (fr : List Byte) (fw : Bool × Nat) : Host.Outcome State Fault Refusal :=
  let p := fr.drop (l3At fr)
  let len := hdrAt p 2 2
  let src := hdrAt p 12 4
  let dst := hdrAt p 16 4
  let seg := (p.take len).drop 20
  if hdrAt p 0 1 ≠ 0x45 ∨ len < 20 ∨ p.length < len ∨ onesSum (p.take 20) ≠ 65535 ∨ hdrAt p 6 2 % 16384 ≠ 0 then .next s
  else if hdrAt p 9 1 = 1 then .next (if s.ownIp4 dst then s.icmpIn (hdrAt fr 6 6) src dst seg else s)
  else if hdrAt p 9 1 = 17 then
    let sum := onesSum ((p.drop 12).take 8 ++ beBytes 2 17 ++ beBytes 2 (hdrAt seg 4 2) ++ seg.take (hdrAt seg 4 2))
    if hdrAt seg 6 2 ≠ 0 ∧ sum ≠ 65535 then .next s else s.udpIn (s.ownIp4 dst) (ptpIp4 dst) seg fr fw
  else .next s

/-- An IPv6 packet without extension headers (R581). -/
def State.ip6In (s : State) (fr : List Byte) (fw : Bool × Nat) : Host.Outcome State Fault Refusal :=
  let p := fr.drop (l3At fr)
  let len := hdrAt p 4 2
  let src := hdrAt p 8 16
  let dst := hdrAt p 24 16
  let seg := (p.drop 40).take len
  if hdrAt p 0 1 / 16 ≠ 6 ∨ p.length < 40 + len then .next s
  else if hdrAt p 6 1 = 58 then .next (s.icmp6In (hdrAt fr 6 6) src dst (hdrAt p 7 1) seg)
  else if hdrAt p 6 1 = 17 then
    let n := hdrAt seg 4 2
    if hdrAt seg 6 2 = 0 ∨ onesSum (pseudo6 src dst n 17 ++ seg.take n) ≠ 65535 then .next s
    else s.udpIn (s.ownIp6 dst) (ptpIp6 dst) seg fr fw
  else .next s

/-- A frame without FCS that has passed MACsec: policed, filtered and dispatched (R559, R581, R582). -/
def State.frameIn (s : State) (fr : List Byte) (fw : Bool × Nat) : Host.Outcome State Fault Refusal :=
  let r := s.policeFrame fr
  let et := hdrAt fr (l3At fr - 2) 2
  if !r.1 || !r.2.accepts fr then .next r.2
  else if et = 0x0806 then .next (r.2.arpIn (fr.drop (l3At fr)))
  else if et = 0x88F7 then .next (r.2.ptpFrameIn (withFcs fr))
  else if et = 0x0800 then r.2.ip4In fr fw
  else if et = 0x86DD then r.2.ip6In fr fw
  else .next r.2

/-- A frame on the host port, FCS included (R547, R581). -/
def State.hostIn (s : State) (full : List Byte) (fw : Bool × Nat) : Host.Outcome State Fault Refusal :=
  let fr := full.take (full.length - 4)
  if s.asleep || decide (9216 < full.length) || decide (full.length < 64) || decide (withFcs fr ≠ full) then .next s
  else if !s.macsec then s.frameIn fr fw
  else
    let r := s.macIn fr
    match r.1 with
    | some inner => r.2.frameIn inner fw
    | none => .next r.2

/-- HOST_FRAME_RECEIVE (R547, R559, R581, R582, R593): `fw` is what the check of a firmware copy that the frame's message
completes would find (R686). -/
def execHostFrameReceive (fr : List Byte) (fw : Bool × Nat) (s : State) : Host.Outcome State Fault Refusal := s.hostIn fr fw

/-- MACSEC_FRAME_RECEIVE (R547): a frame that arrives while MACsec is in force. -/
def execMacsecFrameReceive (fr : List Byte) (fw : Bool × Nat) (s : State) : Host.Outcome State Fault Refusal :=
  if s.macsec then s.hostIn fr fw else .next s

end Sys2Proof.Machine
end

