-- ==== Sys2Proof/Machine/Constellation.lean ====
section
/-! DEFINITION. Messages between the members of a constellation: forwarded requests and their results (R635 to R637, R652),
commits in two phases (R638), the constellation's Meridian (R639, R648), token posts (R647). -/

namespace Sys2Proof.Machine

/-- A member of a constellation other than its pole, awake. -/
def State.memberNow (s : State) : Bool := !s.asleep && s.cstMember

/-- The pole of a constellation, awake. -/
def State.poleNow (s : State) : Bool :=
  !s.asleep && decide (s.f F.CST_STATUS_MODE ≠ 0) && decide (s.f F.CST_STATUS_IS_POLE = 1)

/-- The status of a code of R60; an unknown code stands for FAILED_MEMBER_LOST. -/
def Status.ofCode (n : Nat) : Status :=
  ([Status.done, .doneResent, .doneDegraded, .abortTooLate, .failedLink, .failedTag, .failedResendLimit, .failedLength, .failedFenced
  , .failedAborted, .failedKeyErased, .failedKeyExhausted, .failedPoolEmpty, .failedDisabled, .failedTableGone, .failedChecksum
  , .failedHoldExpired, .refusedFit, .refusedMode, .refusedSignature, .refusedRollback, .refusedBusy].find? fun c => c.code = n).getD .failedMemberLost

/-! ### Forwarded requests -/

/-- FORWARDED_REQUEST_RECEIVE (R635 to R637, R652): request `id` of the pole arrives, or with `again` the pole's question about
it; `flags` and `txn` as R584 has them, `fw` as in HOST_FRAME_RECEIVE. -/
def execForwardedRequestReceive (id type flags txn : Nat) (body : List Byte) (again : Bool) (fw : Bool × Nat) (s : State) :
    Host.Outcome State Fault Refusal :=
  let q : Req := { seq := 2 ^ 32 + id, gen := none, inTxn := flags.testBit 1, inSnap := flags.testBit 2, txn := txn }
  if !s.memberNow then .next s
  else match s.cst.results.find? fun r => r.1 = id with
    | some r => .next (s.emit (.member s.pole mkResult id r.2))
    | none =>
      if s.host.asked.any fun a => decide (a.1 = q.seq) then .next s
      else if again then .next (s.emit (.member s.pole mkResult id []))
      else if s.f F.CST_STATUS_IS_RESERVE = 1 then .next ((s.ask q).respond q.seq .refusedBusy)
      else s.serve q type body fw

/-- A member's result turned into the answer to the host (R635 to R637, R640). A forwarded operation that commits alone takes
its view at the pole when its result arrives (R598, R639; DEDUCED). -/
def State.forwardDone (s : State) (w : Fwd) (pl : List Byte) : State :=
  let st := Status.ofCode (hdrAt pl 0 1)
  let s1 : State := { s with cst := { s.cst with fwds := s.cst.fwds.filter fun x => x.id ≠ w.id } }
  let holds := decide (st = .done) && (decide (w.kind = 2) || decide (w.kind = 9) || decide (w.kind = 10))
  if holds && w.inTxn && (s1.txn w.txn).isSome then
    let ms := (s1.txnParts w.txn ++ [w.member]).dedup
    ({ s1 with cst := { s1.cst with txnMembers := tput w.txn ms s1.cst.txnMembers } }).answer w.seq st (hdrAt pl 9 4) (pl.drop 13) (some (hdrAt pl 1 8))
  else if holds && !w.inTxn then s1.commitView.answer w.seq st (hdrAt pl 9 4) (pl.drop 13)
  else s1.answer w.seq st (hdrAt pl 9 4) (pl.drop 13) (some (hdrAt pl 1 8))

/-- FORWARD_RESPONSE_RECEIVE (R636): a member's result for request `id`, or an empty one when it never received it. -/
def execForwardResponseReceive (id : Nat) (pl : List Byte) (s : State) : Host.Outcome State Fault Refusal :=
  if !s.poleNow then .next s
  else match s.cst.fwds.find? fun w => w.id = id with
    | some w => .next (if pl.isEmpty then s.fwdLost w else s.forwardDone w pl)
    | none => .next s

/-! ### Commits in two phases (R638) -/

/-- CST_PREPARE_RECEIVE (R638): the member's code, were its parts applied now; a part lost in a reset answers
FAILED_MEMBER_LOST. -/
def execCstPrepareReceive (txn : Nat) (check : Bool) (s : State) : Host.Outcome State Fault Refusal :=
  if !s.memberNow then .next s
  else
    let r := match s.txn txn with
      | some t => s.tryTxn t check
      | none => (.failedMemberLost, s)
    .next ((if r.1 = .done then s else r.2).emit (.member s.pole mkPrepared txn [BitVec.ofNat 8 r.1.code]))

/-- Every member has prepared: the pole applies its own parts in the next view and sends the apply (R638). -/
def State.startApply (s : State) (c : TwoPhase) : State :=
  match s.txn c.txn with
  | none => s.refuseCommit c .failedMemberLost
  | some t =>
    let r := s.tryTxn t c.check
    if r.1 ≠ .done then r.2.refuseCommit c r.1
    else
      let ms := s.txnParts c.txn
      let s1 := (r.2.closeTxn c.txn).commitView
      let v := s1.f F.GLB_VIEW_VIEW
      let c1 : TwoPhase := { c with prepare := [], applying := true, view := v, acks := ms }
      ms.foldl (fun (s : State) m => s.sendApply c.txn v false m)
        { s1 with cst := { s1.cst with commits := lmodify (fun x => decide (x.seq = c.seq)) (fun _ => c1) s1.cst.commits } }

/-- CST_PREPARE_REPLY_RECEIVE (R638): the code of the member at `pos`. -/
def execCstPrepareReplyReceive (txn pos code : Nat) (s : State) : Host.Outcome State Fault Refusal :=
  if !s.poleNow then .next s
  else match s.cst.commits.find? fun c => c.txn = txn ∧ !c.applying ∧ c.prepare.contains pos with
    | none => .next s
    | some c =>
      if code ≠ 0 then .next (s.refuseCommit c (Status.ofCode code))
      else
        let c1 : TwoPhase := { c with prepare := c.prepare.erase pos }
        let s1 : State := { s with cst := { s.cst with commits := lmodify (fun x => decide (x.seq = c.seq)) (fun _ => c1) s.cst.commits } }
        .next (if c1.prepare.isEmpty then s1.startApply c1 else s1)

/-- A view that the pole tells a member (R639, R640). -/
def State.takeView (s : State) (v : Nat) : State := s.setf F.GLB_VIEW_VIEW (max v (s.f F.GLB_VIEW_VIEW))

/-- A member's answer to an apply: whether it held the parts. -/
def State.ackApply (s : State) (txn : Nat) (held : Bool) : State := s.emit (.member s.pole mkApplied txn [BitVec.ofNat 8 (b2n held)])

/-- CST_APPLY_RECEIVE (R638, R640): the parts of a transaction applied in view `v`, or discarded. A repeated apply is
acknowledged again; transaction 0 carries the view alone. -/
def execCstApplyReceive (txn v : Nat) (discard : Bool) (s : State) : Host.Outcome State Fault Refusal :=
  if !s.memberNow then .next s
  else if txn = 0 then .next (s.takeView v)
  else if discard then .next (s.closeTxn txn)
  else if s.cst.applied.contains txn then .next (s.ackApply txn true)
  else match s.txn txn with
    | none => .next (s.ackApply txn false)
    | some t =>
      let r := s.applyOps t.ops
      let s1 := r.2.closeTxn txn
      if r.1 ≠ .done then .next (s1.ackApply txn false)
      else
        let l := s1.cst.applied ++ [txn]
        .next ((({ s1 with cst := { s1.cst with applied := l.drop (l.length - 64) } }).takeView v).ackApply txn true)

/-- CST_APPLY_ACK_RECEIVE (R638): the member at `pos` has acknowledged; `held` says that it still held its parts. The commit ends
once every member has. -/
def execCstApplyAckReceive (txn pos : Nat) (held : Bool) (s : State) : Host.Outcome State Fault Refusal :=
  if !s.poleNow then .next s
  else match s.cst.commits.find? fun c => c.txn = txn ∧ c.applying ∧ c.acks.contains pos with
    | none => .next s
    | some c =>
      let c1 : TwoPhase := { c with acks := c.acks.erase pos, refusal := if held then c.refusal else some .failedMemberLost }
      if c1.acks.isEmpty then
        .next (({ s with cst := { s.cst with commits := s.cst.commits.filter fun x => x.seq ≠ c.seq } }).answer c.seq
          (c1.refusal.getD .done) txn [])
      else .next { s with cst := { s.cst with commits := lmodify (fun x => decide (x.seq = c.seq)) (fun _ => c1) s.cst.commits } }

/-! ### The Meridian and the tokens of a constellation -/

/-- CONSTELLATION_MERIDIAN (R639): every member of an array with a COMMIT row has reached the Meridian of `step`. -/
def execConstellationMeridian (step : Nat) (s : State) : Host.Outcome State Fault Refusal :=
  if s.poleNow ∧ s.f F.CST_STATUS_MODE = 2 ∧ s.cst.meridian < step ∧ (s.commitRows = [] ∨ step ≤ s.f F.SEQ_MERIDIAN_STEP) then
    .next ({ s with cst := { s.cst with meridian := step } }).commitView
  else .next s

/-- CST_TOKEN_POST_RECEIVE (R646, R647): a post to counter `i` from a member whose swap count is `swaps`. -/
def execCstTokenPostReceive (i swaps : Nat) (s : State) : Host.Outcome State Fault Refusal :=
  if !s.asleep ∧ s.f F.CST_STATUS_MODE = 1 ∧ 3840 ≤ i ∧ i < 4096 ∧ (s.tokenOwner i).isNone ∧ swaps = s.cst.swaps then .next (s.addToken i)
  else .next s

/-- CST_MERIDIAN_REPORT_RECEIVE (R648): the member at `pos` meets the conditions of R338 for `step`. -/
def execCstMeridianReportReceive (step pos : Nat) (s : State) : Host.Outcome State Fault Refusal :=
  if s.poleNow ∧ s.f F.CST_STATUS_MODE = 1 ∧ s.f F.SEQ_MERIDIAN_STEP < step ∧ pos < s.f F.CST_STATUS_MEMBERS then
    .next (s.noteReport step pos)
  else .next s

/-- CST_MERIDIAN_RECEIVE (R639, R648): the pole's Meridian of `step` and its view arrive at a bound member. -/
def execCstMeridianReceive (step view : Nat) (s : State) : Host.Outcome State Fault Refusal :=
  if s.memberNow ∧ s.f F.CST_STATUS_MODE = 1 ∧ s.f F.SEQ_MERIDIAN_STEP < step then .next ((s.reachMeridian step).takeView view)
  else .next s

end Sys2Proof.Machine
end

