-- ==== Sys2Proof/Machine/Dispatch.lean ====
section
/-! DEFINITION. One arm per command: the direct call of its meaning. -/

namespace Sys2Proof.Machine

def exec (i : Instr) (s : State) : Host.Outcome State Fault Refusal :=
  match i with
  | .itemIssue => Sys2Proof.Machine.execItemIssue s
  | .itemStart e => Sys2Proof.Machine.execItemStart e s
  | .move id fx => Sys2Proof.Machine.execMove id fx s
  | .reduce id fx => Sys2Proof.Machine.execReduce id fx s
  | .firstpass id fx => Sys2Proof.Machine.execFirstpass id fx s
  | .encode id fx => Sys2Proof.Machine.execEncode id fx s
  | .encodeResidualCopy item => Sys2Proof.Machine.execEncodeResidualCopy item s
  | .decode id fx => Sys2Proof.Machine.execDecode id fx s
  | .project id fx => Sys2Proof.Machine.execProject id fx s
  | .ortho id fx => Sys2Proof.Machine.execOrtho id fx s
  | .seal id fx busy => Sys2Proof.Machine.execSeal id fx busy s
  | .openItem id fx busy => Sys2Proof.Machine.execOpen id fx busy s
  | .send id fx => Sys2Proof.Machine.execSend id fx s
  | .recv id => Sys2Proof.Machine.execRecv id s
  | .circuitSetup id => Sys2Proof.Machine.execCircuitSetup id s
  | .circuitConfirm id => Sys2Proof.Machine.execCircuitConfirm id s
  | .circuitRelease id => Sys2Proof.Machine.execCircuitRelease id s
  | .journal id fx => Sys2Proof.Machine.execJournal id fx s
  | .forecast id => Sys2Proof.Machine.execForecast id s
  | .forecastLowerEffect => Sys2Proof.Machine.execForecastLowerEffect s
  | .tokenWaitWatchdog n => Sys2Proof.Machine.execTokenWaitWatchdog n s
  | .armStep => Sys2Proof.Machine.execArmStep s
  | .armIdle => Sys2Proof.Machine.execArmIdle s
  | .cancel => Sys2Proof.Machine.execCancel s
  | .swapStep => Sys2Proof.Machine.execSwapStep s
  | .swapIdle => Sys2Proof.Machine.execSwapIdle s
  | .trackResume n => Sys2Proof.Machine.execTrackResume n s
  | .trackHalt n => Sys2Proof.Machine.execTrackHalt n s
  | .trackAbort n => Sys2Proof.Machine.execTrackAbort n s
  | .tokenWrite q i1 v => Sys2Proof.Machine.execTokenWrite q i1 v s
  | .activeWindowWrite q off v => Sys2Proof.Machine.execActiveWindowWrite q off v s
  | .shadowWindowWrite q off v => Sys2Proof.Machine.execShadowWindowWrite q off v s
  | .reduceCountWait id => Sys2Proof.Machine.execReduceCountWait id s
  | .reduceRebuildDone id sector again => Sys2Proof.Machine.execReduceRebuildDone id sector again s
  | .arrayRedoDone id sector again => Sys2Proof.Machine.execArrayRedoDone id sector again s
  | .ppeBandStart id fx => Sys2Proof.Machine.execPpeBandStart id fx s
  | .ppeBandFold id fx => Sys2Proof.Machine.execPpeBandFold id fx s
  | .ppeLockLost => Sys2Proof.Machine.execPpeLockLost s
  | .ppeLockReturn => Sys2Proof.Machine.execPpeLockReturn s
  | .ppeLockWaitExpired fx => Sys2Proof.Machine.execPpeLockWaitExpired fx s
  | .ppeCalQuick => Sys2Proof.Machine.execPpeCalQuick s
  | .ppeCalFull => Sys2Proof.Machine.execPpeCalFull s
  | .ppeCalPeriod => Sys2Proof.Machine.execPpeCalPeriod s
  | .ppeTempDelta temp => Sys2Proof.Machine.execPpeTempDelta temp s
  | .ppeCalDone dark gain xt lanes cols => Sys2Proof.Machine.execPpeCalDone dark gain xt lanes cols s
  | .ppeCalTableWrite q table i1 v => Sys2Proof.Machine.execPpeCalTableWrite q table i1 v s
  | .firstpassPinWait id => Sys2Proof.Machine.execFirstpassPinWait id s
  | .codebookInstallDeferred slot => Sys2Proof.Machine.execCodebookInstallDeferred slot s
  | .codebookRepeat n slot gen => Sys2Proof.Machine.execCodebookRepeat n slot gen s
  | .submit q body => Sys2Proof.Machine.execSubmit q body s
  | .adhocAdmit => Sys2Proof.Machine.execAdhocAdmit s
  | .parkExpired low => Sys2Proof.Machine.execParkExpired low s
  | .helloReceive port bs => Sys2Proof.Machine.execHelloReceive port bs s
  | .dataReceive port bs => Sys2Proof.Machine.execDataReceive port bs s
  | .abandonmentReceive port bs => Sys2Proof.Machine.execAbandonmentReceive port bs s
  | .ackReceive port bs => Sys2Proof.Machine.execAckReceive port bs s
  | .nakReceive port bs => Sys2Proof.Machine.execNakReceive port bs s
  | .probeRequestReceive port bs => Sys2Proof.Machine.execProbeRequestReceive port bs s
  | .probeReplyReceive port bs => Sys2Proof.Machine.execProbeReplyReceive port bs s
  | .codebookReceive port bs => Sys2Proof.Machine.execCodebookReceive port bs s
  | .stepReadyReceive port bs => Sys2Proof.Machine.execStepReadyReceive port bs s
  | .stepCommitReceive port bs => Sys2Proof.Machine.execStepCommitReceive port bs s
  | .epochReceive port bs => Sys2Proof.Machine.execEpochReceive port bs s
  | .horizonReceive port bs => Sys2Proof.Machine.execHorizonReceive port bs s
  | .reconcileReceive port bs => Sys2Proof.Machine.execReconcileReceive port bs s
  | .correctionSent n => Sys2Proof.Machine.execCorrectionSent n s
  | .ackSend n => Sys2Proof.Machine.execAckSend n s
  | .gapNak n => Sys2Proof.Machine.execGapNak n s
  | .resendTimer n dseq => Sys2Proof.Machine.execResendTimer n dseq s
  | .probeSend => Sys2Proof.Machine.execProbeSend s
  | .routeSilence n r => Sys2Proof.Machine.execRouteSilence n r s
  | .routeProveTimeout n r => Sys2Proof.Machine.execRouteProveTimeout n r s
  | .routeDisableWrite n v => Sys2Proof.Machine.execRouteDisableWrite n v s
  | .helloSend n => Sys2Proof.Machine.execHelloSend n s
  | .eclipseEntry n => Sys2Proof.Machine.execEclipseEntry n s
  | .meridian => Sys2Proof.Machine.execMeridian s
  | .epochWaitExpired n => Sys2Proof.Machine.execEpochWaitExpired n s
  | .memberSuspect n => Sys2Proof.Machine.execMemberSuspect n s
  | .downProposal n => Sys2Proof.Machine.execDownProposal n s
  | .memberHoldExpired n => Sys2Proof.Machine.execMemberHoldExpired n s
  | .exactHoldExpired n => Sys2Proof.Machine.execExactHoldExpired n s
  | .membershipTable q epoch ms => Sys2Proof.Machine.execMembershipTable q epoch ms s
  | .membershipKeep q site role => Sys2Proof.Machine.execMembershipKeep q site role s
  | .rawDefectChange p bit on => Sys2Proof.Machine.execRawDefectChange p bit on s
  | .defectFastSet p bit => Sys2Proof.Machine.execDefectFastSet p bit s
  | .defectFastClear p bit => Sys2Proof.Machine.execDefectFastClear p bit s
  | .failureReportSet p bit => Sys2Proof.Machine.execFailureReportSet p bit s
  | .failureReportClear p bit => Sys2Proof.Machine.execFailureReportClear p bit s
  | .modAlertFall p los => Sys2Proof.Machine.execModAlertFall p los s
  | .losFlagPoll p flag => Sys2Proof.Machine.execLosFlagPoll p flag s
  | .gfpFrameReceive p input => Sys2Proof.Machine.execGfpFrameReceive p input s
  | .csfSend p => Sys2Proof.Machine.execCsfSend p s
  | .moduleRead port page offset => Sys2Proof.Machine.execModuleRead port page offset s
  | .moduleWrite port page offset data => Sys2Proof.Machine.execModuleWrite port page offset data s
  | .moduleAccessDone answered data => Sys2Proof.Machine.execModuleAccessDone answered data s
  | .gcsMapWrite q n v => Sys2Proof.Machine.execGcsMapWrite q n v s
  | .gcsMapApply n => Sys2Proof.Machine.execGcsMapApply n s
  | .fabricRequestReceive wave flit old bs => Sys2Proof.Machine.execFabricRequestReceive wave flit old bs s
  | .fabricReplyReceive wave flit old bs => Sys2Proof.Machine.execFabricReplyReceive wave flit old bs s
  | .bulkReceive i1 bs => Sys2Proof.Machine.execBulkReceive i1 bs s
  | .escapeTimeout wave flit => Sys2Proof.Machine.execEscapeTimeout wave flit s
  | .bridgeFlush stream => Sys2Proof.Machine.execBridgeFlush stream s
  | .circuitTrained ix => Sys2Proof.Machine.execCircuitTrained ix s
  | .circuitSetupTimeout ix => Sys2Proof.Machine.execCircuitSetupTimeout ix s
  | .circuitReleased ix => Sys2Proof.Machine.execCircuitReleased ix s
  | .circuitTableWrite q off v => Sys2Proof.Machine.execCircuitTableWrite q off v s
  | .laserFailed t n => Sys2Proof.Machine.execLaserFailed t n s
  | .spareSwitched t j ok => Sys2Proof.Machine.execSpareSwitched t j ok s
  | .lockLoopPeriod t temps rings => Sys2Proof.Machine.execLockLoopPeriod t temps rings s
  | .ringRelocked ring => Sys2Proof.Machine.execRingRelocked ring s
  | .relockTimeout ring => Sys2Proof.Machine.execRelockTimeout ring s
  | .circuitNoLight ix => Sys2Proof.Machine.execCircuitNoLight ix s
  | .moveFlitReceive ix => Sys2Proof.Machine.execMoveFlitReceive ix s
  | .circuitMoveDone ix w => Sys2Proof.Machine.execCircuitMoveDone ix w s
  | .alternateHoldExpired k w => Sys2Proof.Machine.execAlternateHoldExpired k w s
  | .optCalFull tiles => Sys2Proof.Machine.execOptCalFull tiles s
  | .optCalDone t xt => Sys2Proof.Machine.execOptCalDone t xt s
  | .optXtWrite q tile i1 v => Sys2Proof.Machine.execOptXtWrite q tile i1 v s
  | .aprTrip k => Sys2Proof.Machine.execAprTrip k s
  | .aprBurst k => Sys2Proof.Machine.execAprBurst k s
  | .aprClear k => Sys2Proof.Machine.execAprClear k s
  | .laserEnChange t high => Sys2Proof.Machine.execLaserEnChange t high s
  | .sectorFault n moved => Sys2Proof.Machine.execSectorFault n moved s
  | .pageRemap => Sys2Proof.Machine.execPageRemap s
  | .remirrorDone => Sys2Proof.Machine.execRemirrorDone s
  | .scrubPass fixed bad => Sys2Proof.Machine.execScrubPass fixed bad s
  | .cxlLinkDown d => Sys2Proof.Machine.execCxlLinkDown d s
  | .contextFetch stream => Sys2Proof.Machine.execContextFetch stream s
  | .contextWindowWrite q off v => Sys2Proof.Machine.execContextWindowWrite q off v s
  | .bufferGrant => Sys2Proof.Machine.execBufferGrant s
  | .bufferHandoff pool index old new => Sys2Proof.Machine.execBufferHandoff pool index old new s
  | .bufferFree pool index by_ => Sys2Proof.Machine.execBufferFree pool index by_ s
  | .nocPacketReceive l arr => Sys2Proof.Machine.execNocPacketReceive l arr s
  | .nocLinkFailed l pk => Sys2Proof.Machine.execNocLinkFailed l pk s
  | .keyLoad q slot gen reserved wrapped => Sys2Proof.Machine.execKeyLoad q slot gen reserved wrapped s
  | .keyEraseGraceful q slot gen reserved wrapped => Sys2Proof.Machine.execKeyEraseGraceful q slot gen reserved wrapped s
  | .keyEraseImmediate q slot gen reserved wrapped => Sys2Proof.Machine.execKeyEraseImmediate q slot gen reserved wrapped s
  | .keyEraseComplete slot gen => Sys2Proof.Machine.execKeyEraseComplete slot gen s
  | .keyRetire slot gen => Sys2Proof.Machine.execKeyRetire slot gen s
  | .suspendedResume pipeline => Sys2Proof.Machine.execSuspendedResume pipeline s
  | .macsecFrameReceive fr fw => Sys2Proof.Machine.execMacsecFrameReceive fr fw s
  | .gcsEncryptWrite v => Sys2Proof.Machine.execGcsEncryptWrite v s
  | .portServe p => Sys2Proof.Machine.execPortServe p s
  | .hostFrameReceive fr fw => Sys2Proof.Machine.execHostFrameReceive fr fw s
  | .ptpMessageReceive fr => Sys2Proof.Machine.execPtpMessageReceive fr s
  | .timeSourceLost n => Sys2Proof.Machine.execTimeSourceLost n s
  | .holdoverExpired n => Sys2Proof.Machine.execHoldoverExpired n s
  | .tb0Revert => Sys2Proof.Machine.execTb0Revert s
  | .timeReportSend => Sys2Proof.Machine.execTimeReportSend s
  | .timeReportReceive port bs => Sys2Proof.Machine.execTimeReportReceive port bs s
  | .transferHoldoverExpired r => Sys2Proof.Machine.execTransferHoldoverExpired r s
  | .tcRelayReceive port bs => Sys2Proof.Machine.execTcRelayReceive port bs s
  | .ppsInEdge => Sys2Proof.Machine.execPpsInEdge s
  | .ppsOutPulse => Sys2Proof.Machine.execPpsOutPulse s
  | .asymWrite r w => Sys2Proof.Machine.execAsymWrite r w s
  | .tbSecRead n => Sys2Proof.Machine.execTbSecRead n s
  | .read q body => Sys2Proof.Machine.execRead q body s
  | .write q body => Sys2Proof.Machine.execWrite q body s
  | .txnBegin q => Sys2Proof.Machine.execTxnBegin q s
  | .txnCommit q body => Sys2Proof.Machine.execTxnCommit q body s
  | .snapshotOpen q => Sys2Proof.Machine.execSnapshotOpen q s
  | .snapshotClose q => Sys2Proof.Machine.execSnapshotClose q s
  | .txnExpired id => Sys2Proof.Machine.execTxnExpired id s
  | .snapshotExpired memberFull => Sys2Proof.Machine.execSnapshotExpired memberFull s
  | .hostAddressApply => Sys2Proof.Machine.execHostAddressApply s
  | .loadStructureImage q body => Sys2Proof.Machine.execLoadStructureImage q body s
  | .loadSectorPatch q body => Sys2Proof.Machine.execLoadSectorPatch q body s
  | .loadFirmwareCopy q body sigOk version => Sys2Proof.Machine.execLoadFirmwareCopy q body sigOk version s
  | .hostBulkWrite q body => Sys2Proof.Machine.execHostBulkWrite q body s
  | .hostBulkRead q body => Sys2Proof.Machine.execHostBulkRead q body s
  | .loadVerify sigOk body cxl rejected others part => Sys2Proof.Machine.execLoadVerify sigOk body cxl rejected others part s
  | .abortItem q value => Sys2Proof.Machine.execAbortItem q value s
  | .abortTrack q value => Sys2Proof.Machine.execAbortTrack q value s
  | .abortCollective q value => Sys2Proof.Machine.execAbortCollective q value s
  | .abortTransaction q value => Sys2Proof.Machine.execAbortTransaction q value s
  | .abortLoad q value => Sys2Proof.Machine.execAbortLoad q value s
  | .eventAck q channel seq => Sys2Proof.Machine.execEventAck q channel seq s
  | .eventAssert src => Sys2Proof.Machine.execEventAssert src s
  | .eventDeliver t origin => Sys2Proof.Machine.execEventDeliver t origin s
  | .eventResend c => Sys2Proof.Machine.execEventResend c s
  | .mpEventHandled t src => Sys2Proof.Machine.execMpEventHandled t src s
  | .pinChange i1 high => Sys2Proof.Machine.execPinChange i1 high s
  | .cstLinkTrained k cid pos link => Sys2Proof.Machine.execCstLinkTrained k cid pos link s
  | .cstLinkDown fall => Sys2Proof.Machine.execCstLinkDown fall s
  | .linkStateReceive k m ns => Sys2Proof.Machine.execLinkStateReceive k m ns s
  | .routesInstalled => Sys2Proof.Machine.execRoutesInstalled s
  | .forwardedRequestReceive id type flags txn body again fw => Sys2Proof.Machine.execForwardedRequestReceive id type flags txn body again fw s
  | .forwardResponseReceive id pl => Sys2Proof.Machine.execForwardResponseReceive id pl s
  | .cstPrepareReceive txn check => Sys2Proof.Machine.execCstPrepareReceive txn check s
  | .cstPrepareReplyReceive txn pos code => Sys2Proof.Machine.execCstPrepareReplyReceive txn pos code s
  | .cstApplyReceive txn v discard => Sys2Proof.Machine.execCstApplyReceive txn v discard s
  | .cstApplyAckReceive txn pos held => Sys2Proof.Machine.execCstApplyAckReceive txn pos held s
  | .constellationMeridian step => Sys2Proof.Machine.execConstellationMeridian step s
  | .cstEventRecordReceive pos bs => Sys2Proof.Machine.execCstEventRecordReceive pos bs s
  | .cstTokenPostReceive i1 swaps => Sys2Proof.Machine.execCstTokenPostReceive i1 swaps s
  | .cstMeridianReportReceive step pos => Sys2Proof.Machine.execCstMeridianReportReceive step pos s
  | .cstMeridianReceive step view => Sys2Proof.Machine.execCstMeridianReceive step view s
  | .cstMemberLost pos => Sys2Proof.Machine.execCstMemberLost pos s
  | .poleLost => Sys2Proof.Machine.execPoleLost s
  | .promote highest => Sys2Proof.Machine.execPromote highest s
  | .activate => Sys2Proof.Machine.execActivate s
  | .discard => Sys2Proof.Machine.execDiscard s
  | .imageActivation cxl rejected => Sys2Proof.Machine.execImageActivation cxl rejected s
  | .disable u d => Sys2Proof.Machine.execDisable u d s
  | .enable u => Sys2Proof.Machine.execEnable u s
  | .twilightDeadline u moved => Sys2Proof.Machine.execTwilightDeadline u moved s
  | .unitDark u => Sys2Proof.Machine.execUnitDark u s
  | .restart => Sys2Proof.Machine.execRestart s
  | .mpDrainLimit left => Sys2Proof.Machine.execMpDrainLimit left s
  | .mpReady m => Sys2Proof.Machine.execMpReady m s
  | .mpReadyTimeout => Sys2Proof.Machine.execMpReadyTimeout s
  | .porstNAssert => Sys2Proof.Machine.execPorstNAssert s
  | .porstNRelease sel ready => Sys2Proof.Machine.execPorstNRelease sel ready s
  | .sysrstN => Sys2Proof.Machine.execSysrstN s
  | .railsReady => Sys2Proof.Machine.execRailsReady s
  | .bootStageEnd ok other ddr => Sys2Proof.Machine.execBootStageEnd ok other ddr s
  | .claim => Sys2Proof.Machine.execClaim s
  | .addKey sigOk => Sys2Proof.Machine.execAddKey sigOk s
  | .revokeKey sigOk => Sys2Proof.Machine.execRevokeKey sigOk s
  | .release sigOk => Sys2Proof.Machine.execRelease sigOk s
  | .quote => Sys2Proof.Machine.execQuote s
  | .quoteDone sig => Sys2Proof.Machine.execQuoteDone sig s
  | .raise => Sys2Proof.Machine.execRaise s
  | .persist => Sys2Proof.Machine.execPersist s
  | .persistDone => Sys2Proof.Machine.execPersistDone s
  | .idTreeBuilt => Sys2Proof.Machine.execIdTreeBuilt s
  | .bistStart n => Sys2Proof.Machine.execBistStart n s
  | .bistEnd n misr boot sramFail hbmFail => Sys2Proof.Machine.execBistEnd n misr boot sramFail hbmFail s
  | .bistPeriod => Sys2Proof.Machine.execBistPeriod s
  | .runNow => Sys2Proof.Machine.execRunNow s
  | .unretire n => Sys2Proof.Machine.execUnretire n s
  | .vinChange mv => Sys2Proof.Machine.execVinChange mv s
  | .powerOff => Sys2Proof.Machine.execPowerOff s
  | .currentSample ma => Sys2Proof.Machine.execCurrentSample ma s
  | .capLift => Sys2Proof.Machine.execCapLift s
  | .thermalReport d temp => Sys2Proof.Machine.execThermalReport d temp s
  | .refclkLost => Sys2Proof.Machine.execRefclkLost s
  | .refclkFreeRun => Sys2Proof.Machine.execRefclkFreeRun s
  | .refclkReturn => Sys2Proof.Machine.execRefclkReturn s
  | .pllUnlock p => Sys2Proof.Machine.execPllUnlock p s
  | .pllRelocked => Sys2Proof.Machine.execPllRelocked s
  | .softReset => Sys2Proof.Machine.execSoftReset s
  | .ttiRxAccept p tti => Sys2Proof.Machine.execTtiRxAccept p tti s
  | .hostLinkChange up lanes => Sys2Proof.Machine.execHostLinkChange up lanes s
  | .fabricDelivery wave flit => Sys2Proof.Machine.execFabricDelivery wave flit s

end Sys2Proof.Machine
end

