-- ==== Sys2Proof/WellFormed.lean ====
section
/-! DEFINITION. Well-formed commands: every operand that the spec numbers or encodes in so many bits lies in its range. What a
meaning does with an operand out of range is total all the same; a sender that keeps to the spec sends none. -/

namespace Sys2Proof

open Machine

/-- A number below a bound. -/
def below (n b : Nat) : Bool := decide (n < b)

/-- A byte string of at most so many bytes. -/
def atMost (bs : List Byte) (n : Nat) : Bool := decide (bs.length ≤ n)

/-- The offset of a word in a table window (R13, R15). -/
def inWindow (off : Nat) : Bool := decide (off < 2 ^ 32) && decide (off % 8 = 0)

/-- SEQUENCE and TXN fit their fields (R584); a request cannot name both a transaction and a snapshot (R593). -/
def Machine.Req.wf (q : Req) : Bool :=
  below q.seq (2 ^ 32) && below q.txn (2 ^ 32) && (q.gen.all (below · 256)) && !(q.inTxn && q.inSnap)

/-- SITE, ROLE, STATE, FLAGS and DEVICE fit their fields (R341). -/
def Machine.Member.wf (m : Member) : Bool :=
  below m.site 256 && below m.role 256 && below m.state 256 && below m.flags 256 && below m.device (2 ^ 64)

/-- A sector number, or 0xFF for none. -/
def sectorOrNone (n : Nat) : Bool := below n 8 || decide (n = 0xFF)

/-- The sectors that an engine's work names exist. -/
def Machine.Fx.wf (fx : Fx) : Bool := sectorOrNone fx.sector && sectorOrNone fx.shadow

/-- The fields of an OTUC8 frame have their sizes: BIP-8 and BEI a byte, three GCC channels of two bytes, 42 monitored bytes, 16 bits for
each serial port (R382, R401, R403, R407). -/
def Machine.OtucFrame.wf (x : OtucFrame) : Bool :=
  [x.bipSm, x.bipPm, x.foundSm, x.foundPm, x.beiSm, x.beiPm].all (below · 256) && decide (x.gcc.length = 6) && decide (x.mon.length = 42)
    && x.rxd.all fun kv => below kv.1 4 && decide (kv.2.length = 16)

/-- A command whose operands are in range. -/
def Instr.wf : Instr → Bool
  | .itemIssue => true
  | .itemStart _ => true
  | .move _ fx => fx.wf
  | .reduce _ fx => fx.wf
  | .firstpass _ fx => fx.wf
  | .encode _ fx => fx.wf
  | .encodeResidualCopy _ => true
  | .decode _ fx => fx.wf
  | .project _ fx => fx.wf
  | .ortho _ fx => fx.wf
  | .seal _ fx _ => fx.wf
  | .openItem _ fx _ => fx.wf
  | .send _ fx => fx.wf
  | .recv _ => true
  | .circuitSetup _ => true
  | .circuitConfirm _ => true
  | .circuitRelease _ => true
  | .journal _ fx => fx.wf
  | .forecast _ => true
  | .forecastLowerEffect => true
  | .tokenWaitWatchdog n => below n 16
  | .armStep => true
  | .armIdle => true
  | .cancel => true
  | .swapStep => true
  | .swapIdle => true
  | .trackResume n => below n 16
  | .trackHalt n => below n 16
  | .trackAbort n => below n 16
  | .tokenWrite q i _ => q.wf && below i 4096
  | .activeWindowWrite q off _ => q.wf && inWindow off
  | .shadowWindowWrite q off _ => q.wf && inWindow off
  | .reduceCountWait _ => true
  | .reduceRebuildDone _ sector _ => below sector 8
  | .arrayRedoDone _ sector _ => below sector 8
  | .ppeBandStart _ fx => fx.wf
  | .ppeBandFold _ fx => fx.wf
  | .ppeLockLost => true
  | .ppeLockReturn => true
  | .ppeLockWaitExpired fx => fx.wf
  | .ppeCalQuick => true
  | .ppeCalFull => true
  | .ppeCalPeriod => true
  | .ppeTempDelta temp => below temp (2 ^ 16)
  | .ppeCalDone _ _ _ _ _ => true
  | .ppeCalTableWrite q table i _ => q.wf && below table 3 && below i 36864
  | .firstpassPinWait _ => true
  | .codebookInstallDeferred slot => below slot 65536
  | .codebookRepeat n slot gen => below n 32 && below slot 65536 && below gen 256
  | .submit q body => q.wf && atMost body 8952
  | .adhocAdmit => true
  | .parkExpired low => below low (2 ^ 32)
  | .helloReceive port bs => below port 16 && atMost bs 65536
  | .dataReceive port bs => below port 16 && atMost bs 65536
  | .abandonmentReceive port bs => below port 16 && atMost bs 65536
  | .ackReceive port bs => below port 16 && atMost bs 65536
  | .nakReceive port bs => below port 16 && atMost bs 65536
  | .probeRequestReceive port bs => below port 16 && atMost bs 65536
  | .probeReplyReceive port bs => below port 16 && atMost bs 65536
  | .codebookReceive port bs => below port 16 && atMost bs 65536
  | .stepReadyReceive port bs => below port 16 && atMost bs 65536
  | .stepCommitReceive port bs => below port 16 && atMost bs 65536
  | .epochReceive port bs => below port 16 && atMost bs 65536
  | .horizonReceive port bs => below port 16 && atMost bs 65536
  | .reconcileReceive port bs => below port 16 && atMost bs 65536
  | .correctionSent n => below n 32
  | .ackSend n => below n 32
  | .gapNak n => below n 32
  | .resendTimer n dseq => below n 32 && below dseq (2 ^ 32)
  | .probeSend => true
  | .routeSilence n r => below n 32 && below r 2
  | .routeProveTimeout n r => below n 32 && below r 2
  | .routeDisableWrite n v => below n 32 && below v (2 ^ 64)
  | .helloSend n => below n 32
  | .eclipseEntry n => below n 32
  | .meridian => true
  | .epochWaitExpired n => below n 32
  | .memberSuspect n => below n 32
  | .downProposal n => below n 32
  | .memberHoldExpired n => below n 32
  | .exactHoldExpired n => below n 32
  | .membershipTable q epoch ms => q.wf && below epoch (2 ^ 64) && ms.all Member.wf
  | .membershipKeep q site role => q.wf && below site 16 && below role 256
  | .rawDefectChange p bit _ => below p 16 && below bit 10
  | .defectFastSet p bit => below p 16 && below bit 10
  | .defectFastClear p bit => below p 16 && below bit 10
  | .failureReportSet p bit => below p 16 && below bit 10
  | .failureReportClear p bit => below p 16 && below bit 10
  | .modAlertFall p _ => below p 16
  | .losFlagPoll p _ => below p 16
  | .gfpFrameReceive p x => below p 16 && atMost x.bytes 65536 && x.frames.all OtucFrame.wf
  | .csfSend p => below p 16
  | .moduleRead port page offset => below port 16 && below page 256 && below offset 256
  | .moduleWrite port page offset data => below port 16 && below page 256 && below offset 256 && below data 256
  | .moduleAccessDone _ data => below data 256
  | .gcsMapWrite q n _ => q.wf && below n 4
  | .gcsMapApply n => below n 4
  | .fabricRequestReceive wave flit _ bs => below wave 256 && below flit (2 ^ 32) && atMost bs 65536
  | .fabricReplyReceive wave flit _ bs => below wave 256 && below flit (2 ^ 32) && atMost bs 65536
  | .bulkReceive i bs => below i 4096 && atMost bs 65536
  | .escapeTimeout wave flit => below wave 256 && below flit (2 ^ 32)
  | .bridgeFlush stream => below stream (2 ^ 21)
  | .circuitTrained ix => below ix 4096
  | .circuitSetupTimeout ix => below ix 4096
  | .circuitReleased ix => below ix 4096
  | .circuitTableWrite q off _ => q.wf && inWindow off
  | .laserFailed t n => below t 4 && below n 72
  | .spareSwitched t j _ => below t 4 && below j 8
  | .lockLoopPeriod t _ _ => below t 5
  | .ringRelocked ring => below ring 512
  | .relockTimeout ring => below ring 512
  | .circuitNoLight ix => below ix 4096
  | .moveFlitReceive ix => below ix 4096
  | .circuitMoveDone ix w => below ix 4096 && below w 16
  | .alternateHoldExpired k w => below k 16 && below w 16
  | .optCalFull tiles => below tiles 16
  | .optCalDone t _ => below t 4
  | .optXtWrite q tile i _ => q.wf && below tile 4 && below i 450
  | .aprTrip k => below k 16
  | .aprBurst k => below k 16
  | .aprClear k => below k 16
  | .laserEnChange t _ => below t 4
  | .sectorFault n _ => below n 8
  | .pageRemap => true
  | .remirrorDone => true
  | .scrubPass _ _ => true
  | .cxlLinkDown d => below d 4
  | .contextFetch stream => below stream (2 ^ 21)
  | .contextWindowWrite q off _ => q.wf && inWindow off
  | .bufferGrant => true
  | .bufferHandoff pool _ _ _ => below pool 10
  | .bufferFree pool _ _ => below pool 10
  | .nocPacketReceive l x => below l 256 && below x.packet.src 20 && below x.packet.dst 20
  | .nocLinkFailed l x => below l 256 && below x.src 20 && below x.dst 20
  | .keyLoad q slot gen reserved wrapped => q.wf && below slot 256 && below gen 256 && below reserved 256 && atMost wrapped 8944
  | .keyEraseGraceful q slot gen reserved wrapped => q.wf && below slot 256 && below gen 256 && below reserved 256 && atMost wrapped 8944
  | .keyEraseImmediate q slot gen reserved wrapped => q.wf && below slot 256 && below gen 256 && below reserved 256 && atMost wrapped 8944
  | .keyEraseComplete slot gen => below slot 256 && below gen 256
  | .keyRetire slot gen => below slot 256 && below gen 256
  | .suspendedResume pipeline => below pipeline 160
  | .macsecFrameReceive fr _ => atMost fr 9216
  | .gcsEncryptWrite v => below v 16
  | .portServe p => below p 16
  | .hostFrameReceive fr _ => atMost fr 9216
  | .ptpMessageReceive fr => atMost fr 9216
  | .timeSourceLost n => below n 3
  | .holdoverExpired n => below n 3
  | .tb0Revert => true
  | .timeReportSend => true
  | .timeReportReceive port bs => below port 16 && atMost bs 65536
  | .transferHoldoverExpired r => below r 2
  | .tcRelayReceive port bs => below port 16 && atMost bs 65536
  | .ppsInEdge => true
  | .ppsOutPulse => true
  | .asymWrite r _ => below r 2
  | .tbSecRead n => below n 4
  | .read q body => q.wf && atMost body 8952
  | .write q body => q.wf && atMost body 8952
  | .txnBegin q => q.wf
  | .txnCommit q body => q.wf && atMost body 8952
  | .snapshotOpen q => q.wf
  | .snapshotClose q => q.wf
  | .txnExpired id => below id (2 ^ 32)
  | .snapshotExpired _ => true
  | .hostAddressApply => true
  | .loadStructureImage q body => q.wf && atMost body 8952
  | .loadSectorPatch q body => q.wf && atMost body 8952
  | .loadFirmwareCopy q body _ version => q.wf && atMost body 8952 && below version (2 ^ 32)
  | .hostBulkWrite q body => q.wf && atMost body 8952
  | .hostBulkRead q body => q.wf && atMost body 8952
  | .loadVerify _ _ _ _ _ _ => true
  | .abortItem q value => q.wf && below value (2 ^ 64)
  | .abortTrack q value => q.wf && below value (2 ^ 64)
  | .abortCollective q value => q.wf && below value (2 ^ 64)
  | .abortTransaction q value => q.wf && below value (2 ^ 64)
  | .abortLoad q value => q.wf && below value (2 ^ 64)
  | .eventAck q channel seq => q.wf && below channel 8 && below seq (2 ^ 32)
  | .eventAssert src => below src 1024
  | .eventDeliver t origin => below t 12 && below origin 65
  | .eventResend c => below c 8
  | .mpEventHandled t src => below t 4 && below src 1024
  | .pinChange i _ => below i 28
  | .cstLinkTrained k cid pos link => below k 8 && below cid (2 ^ 32) && below pos 64 && below link 8
  | .cstLinkDown x => below x.link 8 && below x.resends (2 ^ 32)
  | .linkStateReceive k m ns => below k 8 && below m 64 && ns.all (below · 64)
  | .routesInstalled => true
  | .forwardedRequestReceive id type flags txn body _ _ => below id (2 ^ 32) && below type 256 && below flags 256 && below txn (2 ^ 32) && atMost body 8952
  | .forwardResponseReceive id pl => below id (2 ^ 32) && atMost pl 9000
  | .cstPrepareReceive txn _ => below txn (2 ^ 32)
  | .cstPrepareReplyReceive txn pos code => below txn (2 ^ 32) && below pos 64 && below code 256
  | .cstApplyReceive txn v _ => below txn (2 ^ 32) && below v (2 ^ 64)
  | .cstApplyAckReceive txn pos _ => below txn (2 ^ 32) && below pos 64
  | .constellationMeridian step => below step (2 ^ 64)
  | .cstEventRecordReceive pos bs => below pos 64 && atMost bs 65536
  | .cstTokenPostReceive i _ => below i 4096
  | .cstMeridianReportReceive step pos => below step (2 ^ 64) && below pos 64
  | .cstMeridianReceive step view => below step (2 ^ 64) && below view (2 ^ 64)
  | .cstMemberLost pos => below pos 64
  | .poleLost => true
  | .promote highest => below highest (2 ^ 64)
  | .activate => true
  | .discard => true
  | .imageActivation _ _ => true
  | .disable u d => below u 64 && below d (2 ^ 32)
  | .enable u => below u 64
  | .twilightDeadline u _ => below u 64
  | .unitDark u => below u 64
  | .restart => true
  | .mpDrainLimit _ => true
  | .mpReady m => below m 4
  | .mpReadyTimeout => true
  | .porstNAssert => true
  | .porstNRelease sel _ => below sel 4
  | .sysrstN => true
  | .railsReady => true
  | .bootStageEnd _ _ _ => true
  | .claim => true
  | .addKey _ => true
  | .revokeKey _ => true
  | .release _ => true
  | .quote => true
  | .quoteDone sig => atMost sig 65536
  | .raise => true
  | .persist => true
  | .persistDone => true
  | .idTreeBuilt => true
  | .bistStart n => below n 8
  | .bistEnd n _ _ _ _ => below n 8
  | .bistPeriod => true
  | .runNow => true
  | .unretire n => below n 8
  | .vinChange _ => true
  | .powerOff => true
  | .currentSample _ => true
  | .capLift => true
  | .thermalReport d temp => below d 20 && below temp (2 ^ 16)
  | .refclkLost => true
  | .refclkFreeRun => true
  | .refclkReturn => true
  | .pllUnlock p => below p 9
  | .pllRelocked => true
  | .softReset => true
  | .ttiRxAccept p tti => below p 16 && atMost tti 64
  | .hostLinkChange _ lanes => below lanes 16
  | .fabricDelivery wave flit => below wave 256 && below flit (2 ^ 32)

end Sys2Proof
end

