-- ==== Sys2Proof/Safety.lean ====
section
/-! DEFINITION. What a run is judged by: outcomes that are next states with a property, the invariant of the state's two sparse
tables that claims are stated with, and the footprint of each command: the registers and parts of the state it may change. -/

namespace Sys2Proof.Machine

/-- The register file and memory are in their canonical forms: keys strictly rising, no entry equal to what an unlisted key
holds. Equal files and equal memories are then equal data. -/
abbrev State.Canon (s : State) : Prop := tabWf resetWord s.regs = true ∧ memWf s.mem.cells = true

/-- The outcome is a next state with a property. -/
def Nexts (o : Host.Outcome State Fault Refusal) (P : State → Prop) : Prop :=
  match o with
  | .next t => P t
  | .fault _ => False
  | .refused _ => False

/-- A next state, when the outcome is one, has a property. -/
def Keeps (o : Host.Outcome State Fault Refusal) (P : State → Prop) : Prop :=
  match o with
  | .next t => P t
  | .fault _ => True
  | .refused _ => True

/-- Every command that waits is well-formed. -/
def State.queueWf (s : State) : Bool := s.pending.all Instr.wf

/-- A state is safe to step: its command, if one waits, does not end in a fault or a refusal. -/
def State.safe (s : State) : Prop := Nexts (step s) fun _ => True

/-- Sequence and status of the newest response kept (R594). -/
def State.lastAnswer (s : State) : Option (Nat × Nat) :=
  s.host.answered.getLast?.bind fun e => match e.2.2 with
    | .response seq status _ _ _ => some (seq, status)
    | _ => none

/-- A request of the host that is carried out now (R690, R692) and belongs to no transaction and no snapshot. -/
def State.hears (s : State) (q : Req) : Bool :=
  s.answers && decide (s.f F.SEC_STATUS_RECOVERY = 0) && !q.inTxn && !q.inSnap && decide (q.seq < 2 ^ 32)

/-- The address of instance `k` of a register. -/
def Reg.addr (r : Reg) (k : Nat) : Nat := r.base + k / r.n2 * r.s1 + k % r.n2 * r.s2

/-- An address lies in one of the eight-byte instances of a register (R13). -/
def Reg.spans (r : Reg) (a : Nat) : Prop := ∃ k, k < r.n1 * r.n2 ∧ r.addr k ≤ a ∧ a < r.addr k + 8

/-- Two states hold the same register words, the named registers apart. -/
def RegsBut (rs : List Reg) (s t : State) : Prop := ∀ a, (∀ r ∈ rs, ¬ r.spans a) → t.word a = s.word a

/-- An item has ended with a status: it is no longer in flight, its track's count of completion records has gone up, and the record
shows its tag and status (R84, R85). -/
def Ended (s t : State) (it : Item) (st : Status) : Prop :=
  t.item it.id = none ∧
    t.f F.SEQ_TKn_DONE_COUNT it.track = satAdd (s.f F.SEQ_TKn_DONE_COUNT it.track) 1 ∧
    t.f F.SEQ_RING_B_STATUS (it.track * 1024 + s.f F.SEQ_TKn_DONE_COUNT it.track % 1024) = st.code ∧
    t.f F.SEQ_RING_A_TAG (it.track * 1024 + s.f F.SEQ_TKn_DONE_COUNT it.track % 1024) = itemTag it % 2 ^ 64

/-- The bytes from an address of a tier upward. -/
def Holds (t : State) (tier addr : Nat) (bs : List Byte) : Prop := t.rdBytes tier addr bs.length = bs

/-- Every byte outside `n` bytes from an address of a tier upward reads as before. -/
def MemBut (tier addr n : Nat) (s t : State) : Prop :=
  ∀ u a, memKey u a < memKey tier addr ∨ memKey tier addr + n ≤ memKey u a → t.rdByte u a = s.rdByte u a

/-- Every byte of memory reads as before. -/
def SameMem (s t : State) : Prop := ∀ u a, t.rdByte u a = s.rdByte u a

/-- A saturating counter has gone up by `n` (R59). -/
def Counted (x : Fld) (k n : Nat) (s t : State) : Prop := t.f x k = min (2 ^ x.w - 1) (s.f x k + n)

/-- Every descriptor of a list lies inside its tier (R477). -/
def State.fits (s : State) (ds : List Desc) : Bool := ds.all fun d => s.inTier d.tier d.addr d.len

/-- An item's source is read without an uncorrectable word, a poisoned word or a lost page (R28, R36, R483). -/
def State.clean (s : State) (it : Item) (fx : Fx) : Bool := decide ((s.readSrc it.id (rowSrc it.row) fx).1 = .clean)

/-- A frame, given without FCS, that carries a message in a UDP datagram over IPv4 to an own address and a port (R581). -/
def State.carries (s : State) (fr : List Byte) (port : Nat) (msg : List Byte) : Prop :=
  hdrAt fr 12 2 = 0x0800 ∧ hdrAt fr 14 1 = 0x45 ∧ hdrAt fr 16 2 = 28 + msg.length ∧ onesSum ((fr.drop 14).take 20) = 65535 ∧
  hdrAt fr 20 2 % 16384 = 0 ∧ hdrAt fr 23 1 = 17 ∧ s.ownIp4 (hdrAt fr 30 4) = true ∧ hdrAt fr 36 2 = port ∧
  hdrAt fr 38 2 = 8 + msg.length ∧ hdrAt fr 40 2 = 0 ∧ (fr.drop 42).take msg.length = msg

/-- A frame, given without FCS, of a size that Ethernet has and with the own address, untagged, where no VLAN is set
(R581). -/
def State.forUs (s : State) (fr : List Byte) : Bool :=
  !s.asleep && decide (60 ≤ fr.length) && decide (fr.length ≤ 9212) && decide (s.hostF F.HOST_CFG_VLAN_EN = 0) &&
    decide (hdrAt fr 0 6 = s.f F.HOST_MAC_MAC)

/-! ### Footprints

What a command may change, named register by register and part by part: the frames of all commands at once. A footprint is
what the rules of the command's family let it reach, whatever the state; the statements about a single command say more. -/

/-- The parts of the state beside the register file. -/
inductive Part where
  | pending | now | free | out | conf | seqActive | seqShadow | seqItems | seqNextId | seqLastFirst | seqSwap
  | seqWaitAt | seqFaultTo | seqForecasts | seqTurn | arrAcc | arrWinTop | arrDecRecs | arrHome | arrChunk | arrLevel
  | arrRampAt | arrPrev | arrHelping | ppeItem | ppeK | ppeBand | ppeIntegrating | ppeMismatches | ppeFolds | ppeBegun
  | ppeHeld | ppeQStore | ppeQ | ppeLockLostAt | ppeLockErr | ppeTarget | ppeDrive | ppeCal | ppeCalDue
  | ppeCalEndedAt | ppeFailed | cmpBooks | cmpSends | cmpWaits | cmpCopies | cmpOpens | cmpRefetch | cmpAsked
  | cmpDelivered | cmpAcks | cmpDisplaced | colRunning | colHeld | colLastId | colParked | colChunksDone | colInstStep
  | colHolding | colWaiting | colFailed | memCells | memPoison | memLost | memUnencoded | memPages | memUnshadowed
  | memMirrorDX | memRemapDue | memRemirroring | memCtx | memCache | memScrubAt | memXRanges | bpmBufs | bpmQueue
  | bpmLimits | ciphK0 | ciphSlots | ciphUses | ciphGcs | ciphSuspended | ciphTagRun | ciphMacRx | schQueues
  | schFinish | schVtime | schPolicers | schPortBuf | peerSess | peerRx | peerReady | peerMembers | peerFences
  | peerWatch | peerJournal | peerReleased | peerRecon | peerStalledAt | peerSelfFenced | peerIslands | peerRecvDone
  | peerPendingCommits | peerAdopting | peerHellos | peerProbeAt | evtLast | evtGathered | evtGatherAt
  | evtCompletions | evtOutstanding | evtDelivered | evtHeld | evtSeqs | evtPins | bistBins | bistRuns | bistLastStart
  | bistRetireAfter | bistCycle | bistCycleEnd | bistSigs | bistNoc | linePorts | lineAccess | lineGcs | fabCircuits
  | fabBridge | fabReqs | fabSent | fabFlits | fabRxFlits | fabHomes | optSpares | optSwitching | optRelocking
  | optAlternate | optHeld | optMoving | optCalStart | optUnlocked | optBurstAt | optTarget | optDrive | optSensor0
  | optSensorCoef | optLag | optLevel | timeBases | timeRoutes | timePtp | timePeer | timeDiff | timeValidSince
  | timeFollows | timePpsAt | cstAlternate | cstReserve | cstMap | cstLinks | cstChangedAt | cstNextFwd | cstFwds
  | cstResults | cstTxnMembers | cstApplied | cstCommits | cstHeld | cstReports | cstMeridian | cstReported | cstSwaps
  | cstPoleGone | hostAsked | hostAnswered | hostReplay | hostInEffect | hostLastTxn | hostTxns | hostLastSnap
  | hostSnaps | hostLoad | imgOwner | imgSectors | imgStaged | imgDeadlines | imgActivating | imgPatch | imgPurpose
  | imgFw | imgCopyA | imgCopyB | imgPreferB | imgArea | secClaimKey | secBoot | secOwners | secReservedLeaf
  | secQuote | secPersisting | secStageAt | pwrPorst | pwrHeld | pwrOff | pwrOutAt | pwrCalmAt | pwrCappedAt
  | pwrRefLostAt | pwrSoftDue | pwrWarm | pwrHot
  deriving DecidableEq, Repr

/-- A part is the same in two states. -/
def Part.same (s t : State) : Part → Prop
  | .pending => t.pending = s.pending
  | .now => t.now = s.now
  | .free => t.free = s.free
  | .out => t.out = s.out
  | .conf => t.conf = s.conf
  | .seqActive => t.seq.active = s.seq.active
  | .seqShadow => t.seq.shadow = s.seq.shadow
  | .seqItems => t.seq.items = s.seq.items
  | .seqNextId => t.seq.nextId = s.seq.nextId
  | .seqLastFirst => t.seq.lastFirst = s.seq.lastFirst
  | .seqSwap => t.seq.swap = s.seq.swap
  | .seqWaitAt => t.seq.waitAt = s.seq.waitAt
  | .seqFaultTo => t.seq.faultTo = s.seq.faultTo
  | .seqForecasts => t.seq.forecasts = s.seq.forecasts
  | .seqTurn => t.seq.turn = s.seq.turn
  | .arrAcc => t.arr.acc = s.arr.acc
  | .arrWinTop => t.arr.winTop = s.arr.winTop
  | .arrDecRecs => t.arr.decRecs = s.arr.decRecs
  | .arrHome => t.arr.home = s.arr.home
  | .arrChunk => t.arr.chunk = s.arr.chunk
  | .arrLevel => t.arr.level = s.arr.level
  | .arrRampAt => t.arr.rampAt = s.arr.rampAt
  | .arrPrev => t.arr.prev = s.arr.prev
  | .arrHelping => t.arr.helping = s.arr.helping
  | .ppeItem => t.ppe.item = s.ppe.item
  | .ppeK => t.ppe.k = s.ppe.k
  | .ppeBand => t.ppe.band = s.ppe.band
  | .ppeIntegrating => t.ppe.integrating = s.ppe.integrating
  | .ppeMismatches => t.ppe.mismatches = s.ppe.mismatches
  | .ppeFolds => t.ppe.folds = s.ppe.folds
  | .ppeBegun => t.ppe.begun = s.ppe.begun
  | .ppeHeld => t.ppe.held = s.ppe.held
  | .ppeQStore => t.ppe.qStore = s.ppe.qStore
  | .ppeQ => t.ppe.q = s.ppe.q
  | .ppeLockLostAt => t.ppe.lockLostAt = s.ppe.lockLostAt
  | .ppeLockErr => t.ppe.lockErr = s.ppe.lockErr
  | .ppeTarget => t.ppe.target = s.ppe.target
  | .ppeDrive => t.ppe.drive = s.ppe.drive
  | .ppeCal => t.ppe.cal = s.ppe.cal
  | .ppeCalDue => t.ppe.calDue = s.ppe.calDue
  | .ppeCalEndedAt => t.ppe.calEndedAt = s.ppe.calEndedAt
  | .ppeFailed => t.ppe.failed = s.ppe.failed
  | .cmpBooks => t.cmp.books = s.cmp.books
  | .cmpSends => t.cmp.sends = s.cmp.sends
  | .cmpWaits => t.cmp.waits = s.cmp.waits
  | .cmpCopies => t.cmp.copies = s.cmp.copies
  | .cmpOpens => t.cmp.opens = s.cmp.opens
  | .cmpRefetch => t.cmp.refetch = s.cmp.refetch
  | .cmpAsked => t.cmp.asked = s.cmp.asked
  | .cmpDelivered => t.cmp.delivered = s.cmp.delivered
  | .cmpAcks => t.cmp.acks = s.cmp.acks
  | .cmpDisplaced => t.cmp.displaced = s.cmp.displaced
  | .colRunning => t.col.running = s.col.running
  | .colHeld => t.col.held = s.col.held
  | .colLastId => t.col.lastId = s.col.lastId
  | .colParked => t.col.parked = s.col.parked
  | .colChunksDone => t.col.chunksDone = s.col.chunksDone
  | .colInstStep => t.col.instStep = s.col.instStep
  | .colHolding => t.col.holding = s.col.holding
  | .colWaiting => t.col.waiting = s.col.waiting
  | .colFailed => t.col.failed = s.col.failed
  | .memCells => t.mem.cells = s.mem.cells
  | .memPoison => t.mem.poison = s.mem.poison
  | .memLost => t.mem.lost = s.mem.lost
  | .memUnencoded => t.mem.unencoded = s.mem.unencoded
  | .memPages => t.mem.pages = s.mem.pages
  | .memUnshadowed => t.mem.unshadowed = s.mem.unshadowed
  | .memMirrorDX => t.mem.mirrorDX = s.mem.mirrorDX
  | .memRemapDue => t.mem.remapDue = s.mem.remapDue
  | .memRemirroring => t.mem.remirroring = s.mem.remirroring
  | .memCtx => t.mem.ctx = s.mem.ctx
  | .memCache => t.mem.cache = s.mem.cache
  | .memScrubAt => t.mem.scrubAt = s.mem.scrubAt
  | .memXRanges => t.mem.xRanges = s.mem.xRanges
  | .bpmBufs => t.bpm.bufs = s.bpm.bufs
  | .bpmQueue => t.bpm.queue = s.bpm.queue
  | .bpmLimits => t.bpm.limits = s.bpm.limits
  | .ciphK0 => t.ciph.k0 = s.ciph.k0
  | .ciphSlots => t.ciph.slots = s.ciph.slots
  | .ciphUses => t.ciph.uses = s.ciph.uses
  | .ciphGcs => t.ciph.gcs = s.ciph.gcs
  | .ciphSuspended => t.ciph.suspended = s.ciph.suspended
  | .ciphTagRun => t.ciph.tagRun = s.ciph.tagRun
  | .ciphMacRx => t.ciph.macRx = s.ciph.macRx
  | .schQueues => t.sch.queues = s.sch.queues
  | .schFinish => t.sch.finish = s.sch.finish
  | .schVtime => t.sch.vtime = s.sch.vtime
  | .schPolicers => t.sch.policers = s.sch.policers
  | .schPortBuf => t.sch.portBuf = s.sch.portBuf
  | .peerSess => t.peer.sess = s.peer.sess
  | .peerRx => t.peer.rx = s.peer.rx
  | .peerReady => t.peer.ready = s.peer.ready
  | .peerMembers => t.peer.members = s.peer.members
  | .peerFences => t.peer.fences = s.peer.fences
  | .peerWatch => t.peer.watch = s.peer.watch
  | .peerJournal => t.peer.journal = s.peer.journal
  | .peerReleased => t.peer.released = s.peer.released
  | .peerRecon => t.peer.recon = s.peer.recon
  | .peerStalledAt => t.peer.stalledAt = s.peer.stalledAt
  | .peerSelfFenced => t.peer.selfFenced = s.peer.selfFenced
  | .peerIslands => t.peer.islands = s.peer.islands
  | .peerRecvDone => t.peer.recvDone = s.peer.recvDone
  | .peerPendingCommits => t.peer.pendingCommits = s.peer.pendingCommits
  | .peerAdopting => t.peer.adopting = s.peer.adopting
  | .peerHellos => t.peer.hellos = s.peer.hellos
  | .peerProbeAt => t.peer.probeAt = s.peer.probeAt
  | .evtLast => t.evt.last = s.evt.last
  | .evtGathered => t.evt.gathered = s.evt.gathered
  | .evtGatherAt => t.evt.gatherAt = s.evt.gatherAt
  | .evtCompletions => t.evt.completions = s.evt.completions
  | .evtOutstanding => t.evt.outstanding = s.evt.outstanding
  | .evtDelivered => t.evt.delivered = s.evt.delivered
  | .evtHeld => t.evt.held = s.evt.held
  | .evtSeqs => t.evt.seqs = s.evt.seqs
  | .evtPins => t.evt.pins = s.evt.pins
  | .bistBins => t.bist.bins = s.bist.bins
  | .bistRuns => t.bist.runs = s.bist.runs
  | .bistLastStart => t.bist.lastStart = s.bist.lastStart
  | .bistRetireAfter => t.bist.retireAfter = s.bist.retireAfter
  | .bistCycle => t.bist.cycle = s.bist.cycle
  | .bistCycleEnd => t.bist.cycleEnd = s.bist.cycleEnd
  | .bistSigs => t.bist.sigs = s.bist.sigs
  | .bistNoc => t.bist.noc = s.bist.noc
  | .linePorts => t.line.ports = s.line.ports
  | .lineAccess => t.line.access = s.line.access
  | .lineGcs => t.line.gcs = s.line.gcs
  | .fabCircuits => t.fab.circuits = s.fab.circuits
  | .fabBridge => t.fab.bridge = s.fab.bridge
  | .fabReqs => t.fab.reqs = s.fab.reqs
  | .fabSent => t.fab.sent = s.fab.sent
  | .fabFlits => t.fab.flits = s.fab.flits
  | .fabRxFlits => t.fab.rxFlits = s.fab.rxFlits
  | .fabHomes => t.fab.homes = s.fab.homes
  | .optSpares => t.opt.spares = s.opt.spares
  | .optSwitching => t.opt.switching = s.opt.switching
  | .optRelocking => t.opt.relocking = s.opt.relocking
  | .optAlternate => t.opt.alternate = s.opt.alternate
  | .optHeld => t.opt.held = s.opt.held
  | .optMoving => t.opt.moving = s.opt.moving
  | .optCalStart => t.opt.calStart = s.opt.calStart
  | .optUnlocked => t.opt.unlocked = s.opt.unlocked
  | .optBurstAt => t.opt.burstAt = s.opt.burstAt
  | .optTarget => t.opt.target = s.opt.target
  | .optDrive => t.opt.drive = s.opt.drive
  | .optSensor0 => t.opt.sensor0 = s.opt.sensor0
  | .optSensorCoef => t.opt.sensorCoef = s.opt.sensorCoef
  | .optLag => t.opt.lag = s.opt.lag
  | .optLevel => t.opt.level = s.opt.level
  | .timeBases => t.time.bases = s.time.bases
  | .timeRoutes => t.time.routes = s.time.routes
  | .timePtp => t.time.ptp = s.time.ptp
  | .timePeer => t.time.peer = s.time.peer
  | .timeDiff => t.time.diff = s.time.diff
  | .timeValidSince => t.time.validSince = s.time.validSince
  | .timeFollows => t.time.follows = s.time.follows
  | .timePpsAt => t.time.ppsAt = s.time.ppsAt
  | .cstAlternate => t.cst.alternate = s.cst.alternate
  | .cstReserve => t.cst.reserve = s.cst.reserve
  | .cstMap => t.cst.map = s.cst.map
  | .cstLinks => t.cst.links = s.cst.links
  | .cstChangedAt => t.cst.changedAt = s.cst.changedAt
  | .cstNextFwd => t.cst.nextFwd = s.cst.nextFwd
  | .cstFwds => t.cst.fwds = s.cst.fwds
  | .cstResults => t.cst.results = s.cst.results
  | .cstTxnMembers => t.cst.txnMembers = s.cst.txnMembers
  | .cstApplied => t.cst.applied = s.cst.applied
  | .cstCommits => t.cst.commits = s.cst.commits
  | .cstHeld => t.cst.held = s.cst.held
  | .cstReports => t.cst.reports = s.cst.reports
  | .cstMeridian => t.cst.meridian = s.cst.meridian
  | .cstReported => t.cst.reported = s.cst.reported
  | .cstSwaps => t.cst.swaps = s.cst.swaps
  | .cstPoleGone => t.cst.poleGone = s.cst.poleGone
  | .hostAsked => t.host.asked = s.host.asked
  | .hostAnswered => t.host.answered = s.host.answered
  | .hostReplay => t.host.replay = s.host.replay
  | .hostInEffect => t.host.inEffect = s.host.inEffect
  | .hostLastTxn => t.host.lastTxn = s.host.lastTxn
  | .hostTxns => t.host.txns = s.host.txns
  | .hostLastSnap => t.host.lastSnap = s.host.lastSnap
  | .hostSnaps => t.host.snaps = s.host.snaps
  | .hostLoad => t.host.load = s.host.load
  | .imgOwner => t.img.owner = s.img.owner
  | .imgSectors => t.img.sectors = s.img.sectors
  | .imgStaged => t.img.staged = s.img.staged
  | .imgDeadlines => t.img.deadlines = s.img.deadlines
  | .imgActivating => t.img.activating = s.img.activating
  | .imgPatch => t.img.patch = s.img.patch
  | .imgPurpose => t.img.purpose = s.img.purpose
  | .imgFw => t.img.fw = s.img.fw
  | .imgCopyA => t.img.copyA = s.img.copyA
  | .imgCopyB => t.img.copyB = s.img.copyB
  | .imgPreferB => t.img.preferB = s.img.preferB
  | .imgArea => t.img.area = s.img.area
  | .secClaimKey => t.sec.claimKey = s.sec.claimKey
  | .secBoot => t.sec.boot = s.sec.boot
  | .secOwners => t.sec.owners = s.sec.owners
  | .secReservedLeaf => t.sec.reservedLeaf = s.sec.reservedLeaf
  | .secQuote => t.sec.quote = s.sec.quote
  | .secPersisting => t.sec.persisting = s.sec.persisting
  | .secStageAt => t.sec.stageAt = s.sec.stageAt
  | .pwrPorst => t.pwr.porst = s.pwr.porst
  | .pwrHeld => t.pwr.held = s.pwr.held
  | .pwrOff => t.pwr.off = s.pwr.off
  | .pwrOutAt => t.pwr.outAt = s.pwr.outAt
  | .pwrCalmAt => t.pwr.calmAt = s.pwr.calmAt
  | .pwrCappedAt => t.pwr.cappedAt = s.pwr.cappedAt
  | .pwrRefLostAt => t.pwr.refLostAt = s.pwr.refLostAt
  | .pwrSoftDue => t.pwr.softDue = s.pwr.softDue
  | .pwrWarm => t.pwr.warm = s.pwr.warm
  | .pwrHot => t.pwr.hot = s.pwr.hot

/-- Registers that the end of an item, or its passing control on, may write (R64, R71, R82, R84 to R86, R255, R505 to R512). -/
def Foot.itemEnd : List Reg :=
  [R.SEQ_STATUS, R.SEQ_FORECAST, R.SEQ_EVENTS, R.SEQ_TKn_STATUS, R.SEQ_TKn_STEP, R.SEQ_TKn_DONE, R.SEQ_TKn_FAILED,
    R.SEQ_TKn_LAST_FAIL, R.SEQ_TOKEN, R.SEQ_RING_A, R.SEQ_RING_B, R.ARR_SECn_LANE_OPS, R.PPE_STATUS, R.COL_STATUS,
    R.COL_ADHOC_POOL, R.COL_EVENTS, R.COL_INSTANCES, R.COL_FAILED, R.BPM_STATUS, R.BPM_EVENTS, R.BPM_POOLp_USE,
    R.BPM_POOLp_QUEUE, R.CST_EVENTS, R.CST_HELD, R.IMG_DISABLED_ITEMS]

/-- Registers that a line block taken may write (R279 to R335, R549, R564). -/
def Foot.lineBlock : List Reg :=
  [R.GLB_VIEW, R.SEQ_MERIDIAN, R.CMP_EVENTS, R.CMP_TABLE_GONE, R.CMP_LAST_FAIL, R.CMP_LAST_FAIL_INFO, R.COL_PARK,
    R.COL_PARKED, R.PEER_STATUS, R.PEER_ROUTES, R.PEER_MERIDIAN, R.PEER_EVENTS, R.PEER_CRC_ERR, R.PEER_PROTO_ERR,
    R.PEER_KEY_UNKNOWN, R.PEER_OUT_WINDOW, R.PEER_DUP, R.PEER_EPOCH_AHEAD, R.PEER_SESSn_STATE, R.PEER_SESSn_TX,
    R.PEER_SESSn_RX, R.PEER_SESSn_WIN_A, R.PEER_SESSn_WIN_B, R.PEER_SESSn_EPH_A, R.PEER_SESSn_EPH_B,
    R.PEER_SESSn_REPLAY, R.PEER_SESSn_PEER_MERIDIAN, R.PEER_SESSn_LAST_ABANDON, R.PEER_SESSn_RECEIVED,
    R.PEER_SESSn_RESENT, R.PEER_SESSn_NAKS, R.PEER_SESSn_DELAY_STEPS, R.PEER_SESSn_TAG_FAIL, R.PEER_SESSn_THROTTLE_NS,
    R.PEER_ISLAND, R.PEER_JOURNAL, R.PEER_RECON, R.PEER_HOLD_STATUS, R.PEER_FAULT_EVENTS, R.PEER_FENCED,
    R.PEER_RECONCILES, R.FAB_LATE_REPLY, R.FAB_BRIDGED_RX, R.CIPH_EVENTS, R.CIPH_KEY_WARN, R.CIPH_KEY_EXHAUSTED,
    R.CIPH_SUSPECT, R.SCH_STATUS, R.SCH_EVENTS, R.SCH_Rr_Cc_QUEUE, R.TIME_STATUS, R.TIME_EVENTS, R.TIME_TC_RELAYED,
    R.TIME_TC_LATE, R.TIME_TC_NOLOCK, R.TIME_TBn_OFFSET, R.TIME_Rr_ASYM, R.TIME_Rr_THETA]

/-- Registers that line blocks offered to a session may write (R272 to R276, R527, R549). -/
def Foot.sessionSend : List Reg :=
  [R.PEER_EVENTS, R.PEER_SESSn_STATE, R.PEER_SESSn_TX, R.PEER_SESSn_REPLAY, R.PEER_SESSn_THROTTLE_NS, R.CIPH_EVENTS,
    R.CIPH_KEY_WARN, R.SCH_Rr_Cc_QUEUE]

/-- Registers that the loss of a sector, or its way back, may write (R23, R24, R146, R679). -/
def Foot.sectorLoss : List Reg :=
  [R.ARR_STATUS, R.ARR_EVENTS, R.ARR_MISMATCH, R.ARR_NONFINITE, R.ARR_LAST_MISMATCH, R.ARR_SECn_STATUS,
    R.ARR_SECn_MISMATCH, R.CMP_STATUS, R.MEM_STATUS, R.IMG_DRAINING, R.IMG_DARK, R.IMG_EVENTS, R.BIST_STATUS,
    R.BIST_EVENTS]

/-- Registers that an uncorrectable error of a read writes (R36, R37). -/
def Foot.readError : List Reg :=
  [R.MEM_EVENTS, R.MEM_CE_S, R.MEM_CE_H, R.MEM_CE_D, R.MEM_UE_S, R.MEM_UE_H, R.MEM_UE_D, R.MEM_UE_X, R.MEM_LAST_UE]

/-- Registers that the end of a load may write (R592, R610, R669). -/
def Foot.loadEnd : List Reg :=
  [R.CIPH_KEY_EXHAUSTED, R.HOST_STATUS, R.HOST_EVENTS, R.HOST_REFUSED, R.HOST_LOAD, R.HOST_BOOT_FLOOR, R.IMG_STATUS,
    R.IMG_LOADS, R.IMG_REFUSED]

/-- Registers that a change of a route may write (R300 to R302, R572). -/
def Foot.routeChange : List Reg :=
  [R.PEER_ROUTES, R.PEER_EVENTS, R.PEER_SESSn_STATE, R.PEER_SESSn_WIN_A, R.PEER_SESSn_WIN_B, R.PEER_SESSn_EPH_A,
    R.PEER_SESSn_EPH_B, R.PEER_SESSn_REPLAY, R.PEER_SESSn_THROTTLE_NS, R.SCH_STATUS, R.SCH_EVENTS, R.SCH_Rr_Cc_QUEUE,
    R.TIME_STATUS, R.TIME_EVENTS]

/-- Registers that an answer to the host may write (R527, R592 to R594). -/
def Foot.answer : List Reg :=
  [R.CIPH_EVENTS, R.CIPH_KEY_WARN, R.CIPH_KEY_EXHAUSTED, R.HOST_REFUSED, R.HOST_BOOT_FLOOR]

/-- Registers that a circuit that moves or drops may write (R430, R431, R448). -/
def Foot.circuitDrop : List Reg :=
  [R.FAB_STATUS, R.FAB_Fk_CFG, R.OPT_EVENTS, R.OPT_Fk_LAMBDA]

/-- Parts that the end of an item may change. -/
def Foot.itemEndParts : List Part :=
  [.out, .seqItems, .seqWaitAt, .seqFaultTo, .arrAcc, .arrWinTop, .arrDecRecs, .arrLevel, .arrRampAt, .arrPrev,
    .arrHelping, .ppeItem, .ppeIntegrating, .ppeMismatches, .ppeFolds, .ppeBegun, .ppeHeld, .ppeCal, .ppeCalDue,
    .cmpBooks, .cmpOpens, .cmpRefetch, .cmpAsked, .cmpDelivered, .cmpDisplaced, .colRunning, .colWaiting, .colFailed,
    .bpmBufs, .bpmQueue, .evtCompletions, .cstHeld]

/-- Parts that the action of a register written by the host may change. -/
def Foot.registerWriteParts : List Part :=
  [.free, .seqShadow, .seqNextId, .seqSwap, .arrHome, .arrChunk, .memCells, .memPoison, .memLost, .memUnencoded,
    .memUnshadowed, .memCtx, .ciphK0, .ciphSlots, .ciphGcs, .ciphSuspended, .ciphMacRx, .schQueues, .schFinish,
    .schPolicers, .peerSess, .peerMembers, .peerFences, .peerWatch, .peerSelfFenced, .evtLast, .evtGathered,
    .evtGatherAt, .evtHeld, .evtSeqs, .bistBins, .bistRuns, .bistLastStart, .bistRetireAfter, .bistCycle,
    .bistCycleEnd, .bistSigs, .bistNoc, .linePorts, .lineAccess, .fabCircuits, .fabReqs, .fabSent, .fabFlits,
    .fabHomes, .optCalStart, .optBurstAt, .timeBases, .timeRoutes, .timeFollows, .cstMap, .cstFwds, .cstTxnMembers,
    .cstCommits, .cstPoleGone, .hostReplay, .hostTxns, .hostSnaps, .imgStaged, .imgDeadlines, .imgActivating,
    .imgPurpose, .imgFw, .imgArea, .secBoot, .secOwners, .secReservedLeaf, .secQuote, .secPersisting, .pwrCappedAt,
    .pwrSoftDue]

/-- Parts that a line block taken may change. -/
def Foot.lineBlockParts : List Part :=
  [.free, .cmpSends, .cmpWaits, .cmpAcks, .colParked, .memCells, .memPoison, .memLost, .memUnencoded, .memUnshadowed,
    .memCtx, .ciphSlots, .ciphTagRun, .schQueues, .schFinish, .peerSess, .peerRx, .peerReady, .peerWatch,
    .peerJournal, .peerReleased, .peerRecon, .peerIslands, .peerRecvDone, .peerPendingCommits, .peerAdopting,
    .peerHellos, .fabReqs, .fabSent, .fabFlits, .fabHomes, .timeBases, .timeRoutes, .timePeer, .timeFollows]

/-- Parts that bytes written to memory change. -/
def Foot.bytesWrittenParts : List Part :=
  [.memCells, .memPoison, .memLost, .memUnencoded, .memUnshadowed]

/-- Parts that line blocks offered to a session may change. -/
def Foot.sessionSendParts : List Part :=
  [.memCtx, .ciphSlots, .schQueues, .schFinish, .peerSess]

/-- Parts that a circuit that moves or drops may change. -/
def Foot.circuitDropParts : List Part :=
  [.fabCircuits, .fabSent, .fabFlits, .fabHomes, .optAlternate, .optHeld]

/-- Parts that an answer to the host may change. -/
def Foot.answerParts : List Part :=
  [.out, .ciphSlots, .cstResults, .hostAsked, .hostAnswered]

/-- Parts that the beginning of an Eclipse may change. -/
def Foot.eclipseParts : List Part :=
  [.ppeK, .ppeBand, .ppeQStore, .ppeQ, .colHolding, .peerRx, .peerReady, .peerMembers, .peerFences, .peerWatch,
    .peerJournal, .peerReleased, .peerRecon, .peerStalledAt, .peerSelfFenced, .peerIslands, .peerRecvDone,
    .peerPendingCommits, .peerAdopting, .peerHellos, .peerProbeAt]

/-- Parts that ABORT may change. -/
def Foot.abortParts : List Part :=
  [.free, .seqNextId, .colHeld, .ciphSuspended, .fabCircuits, .cstResults, .cstTxnMembers, .hostAsked, .hostAnswered,
    .hostTxns, .hostLoad]

/-- Parts that the loss of a sector may change. -/
def Foot.sectorLossParts : List Part :=
  [.arrHome, .memRemapDue, .bistBins, .bistRetireAfter]

/-- Parts that a change of a route may change. -/
def Foot.routeChangeParts : List Part :=
  [.seqItems, .memCtx, .schQueues, .schFinish, .peerSess, .timeBases, .timeRoutes, .timeFollows]

/-- The power and reset state. -/
def Foot.powerParts : List Part :=
  [.pwrPorst, .pwrHeld, .pwrOff, .pwrOutAt, .pwrCalmAt, .pwrCappedAt, .pwrRefLostAt, .pwrSoftDue, .pwrWarm, .pwrHot]

end Sys2Proof.Machine

open Sys2Proof.Machine

/-- The registers that a command may write; none for a command whose footprint is not named: a command that writes the
register the host names, or one that loads, resets or activates the whole. -/
def Sys2Proof.Instr.writes : Instr → Option (List Reg)
  | .itemIssue => some (Foot.itemEnd ++ [R.PEER_ISLAND, R.FAB_EVENTS, R.MEM_CTX_MISS, R.MEM_CTX_CACHE, R.BPM_EMPTY,
    R.BPM_QUEUED])
  | .itemStart .. => some (Foot.itemEnd ++ [R.SEQ_FIT, R.SEQ_FIT_A, R.SEQ_FIT_B, R.CMP_EVENTS, R.CMP_TABLE_GONE,
    R.CMP_LAST_FAIL, R.CMP_LAST_FAIL_INFO, R.PPE_EVENTS, R.PPE_CLIP, R.PEER_SESSn_TX, R.PEER_ISLAND,
    R.PEER_FAULT_EVENTS, R.CIPH_EVENTS, R.CIPH_KEY_WARN, R.CIPH_KEY_EXHAUSTED, R.CIPH_EXHAUSTED_ITEMS,
    R.CIPH_ERASED_ITEMS])
  | .move .. => some (Foot.itemEnd ++ Foot.readError ++ [R.PEER_ISLAND, R.PEER_ISLAND_STEPS, R.FAB_EVENTS])
  | .reduce .. => some (Foot.itemEnd ++ Foot.sectorLoss ++ Foot.readError ++ [R.ARR_REDO, R.ARR_WIN_LOW,
    R.ARR_WIN_HIGH])
  | .firstpass .. => some (Foot.itemEnd ++ Foot.sessionSend ++ Foot.readError ++ [R.CMP_FIRSTPASS])
  | .encode .. => some (Foot.itemEnd ++ Foot.readError ++ [R.CMP_EVENTS, R.CMP_ENC_BLOCKS, R.CMP_SATURATED,
    R.CMP_NONFINITE])
  | .encodeResidualCopy .. => some ([])
  | .decode .. => some (Foot.itemEnd ++ Foot.readError ++ [R.CMP_EVENTS, R.CMP_DEC_BLOCKS, R.CMP_LENGTH,
    R.CMP_REREQUEST, R.CMP_TABLE_GONE, R.CMP_LAST_FAIL, R.CMP_LAST_FAIL_INFO, R.PEER_SESSn_NAKS, R.CIPH_EVENTS,
    R.CIPH_KEY_WARN, R.SCH_Rr_Cc_QUEUE])
  | .project .. => some (Foot.itemEnd ++ Foot.sectorLoss ++ Foot.readError ++ [R.ARR_REDO])
  | .ortho .. => some (Foot.itemEnd ++ Foot.sectorLoss ++ Foot.readError ++ [R.ARR_REDO, R.ARR_ORTHO_CLAMP])
  | .seal .. => some (Foot.itemEnd ++ Foot.sessionSend ++ Foot.readError ++ [R.CIPH_STATUS, R.CIPH_SUSPENDS])
  | .openItem .. => some (Foot.itemEnd ++ Foot.readError ++ [R.PEER_SESSn_NAKS, R.CIPH_STATUS, R.CIPH_EVENTS,
    R.CIPH_KEY_WARN, R.CIPH_TAG_FAIL, R.CIPH_SUSPENDS, R.CIPH_SUSPECT, R.SCH_Rr_Cc_QUEUE])
  | .send .. => some (Foot.itemEnd ++ Foot.readError ++ [R.PEER_EVENTS, R.PEER_SESSn_STATE, R.PEER_SESSn_TX,
    R.PEER_SESSn_REPLAY, R.PEER_SESSn_THROTTLE_NS, R.SCH_Rr_Cc_QUEUE])
  | .recv .. => some (Foot.itemEnd ++ Foot.sessionSend)
  | .circuitSetup .. => some (Foot.itemEnd ++ [R.FAB_STATUS, R.FAB_EVENTS, R.FAB_Fk_CFG, R.OPT_Fk_LAMBDA])
  | .circuitConfirm .. => some (Foot.itemEnd ++ [R.FAB_EVENTS])
  | .circuitRelease .. => some (Foot.itemEnd ++ [R.FAB_STATUS])
  | .journal .. => some (Foot.itemEnd ++ Foot.readError ++ [R.PEER_JOURNAL])
  | .forecast .. => some (Foot.itemEnd)
  | .forecastLowerEffect => some ([R.SEQ_FORECAST])
  | .tokenWaitWatchdog .. => some ([R.SEQ_EVENTS])
  | .armStep => some ([R.SEQ_STATUS, R.SEQ_SWAP, R.SEQ_SWAP_STEP, R.SEQ_FIT, R.SEQ_FIT_A, R.SEQ_FIT_B])
  | .armIdle => some ([R.SEQ_STATUS, R.SEQ_SWAP, R.SEQ_SWAP_STEP, R.SEQ_FIT, R.SEQ_FIT_A, R.SEQ_FIT_B])
  | .cancel => some ([R.SEQ_STATUS, R.SEQ_SWAP, R.SEQ_TKn_STATUS])
  | .swapStep => some ([R.GLB_VIEW, R.SEQ_STATUS, R.SEQ_SWAP, R.SEQ_ROWS, R.SEQ_EVENTS, R.SEQ_TKn_STATUS,
    R.SEQ_TKn_ENTRY, R.SEQ_TKn_STEP, R.SEQ_TOKEN])
  | .swapIdle => some ([R.GLB_VIEW, R.SEQ_STATUS, R.SEQ_SWAP, R.SEQ_ROWS, R.SEQ_EVENTS, R.SEQ_TKn_STATUS,
    R.SEQ_TKn_ENTRY, R.SEQ_TKn_STEP, R.SEQ_TOKEN, R.PEER_MERIDIAN])
  | .trackResume .. => some ([R.SEQ_STATUS, R.SEQ_TKn_STATUS])
  | .trackHalt .. => some ([R.SEQ_STATUS, R.SEQ_TKn_STATUS])
  | .trackAbort .. => some (Foot.itemEnd ++ Foot.sessionSend ++ [R.FAB_STATUS, R.FAB_Fk_CFG, R.OPT_Fk_LAMBDA,
    R.CIPH_STATUS])
  | .tokenWrite .. => none
  | .activeWindowWrite .. => none
  | .shadowWindowWrite .. => none
  | .reduceCountWait .. => some ([R.ARR_EVENTS])
  | .reduceRebuildDone .. => some (Foot.itemEnd ++ Foot.sectorLoss ++ [R.MEM_EVENTS])
  | .arrayRedoDone .. => some (Foot.itemEnd ++ Foot.sectorLoss ++ [R.SEQ_FIT, R.SEQ_FIT_A, R.SEQ_FIT_B, R.ARR_REDO,
    R.ARR_ORTHO_CLAMP, R.CMP_EVENTS, R.CMP_TABLE_GONE, R.CMP_LAST_FAIL, R.CMP_LAST_FAIL_INFO, R.PPE_EVENTS,
    R.PPE_BANDS, R.PPE_FALLBACK, R.PPE_CLIP, R.PEER_SESSn_TX, R.CIPH_EVENTS, R.CIPH_KEY_WARN, R.CIPH_KEY_EXHAUSTED,
    R.CIPH_EXHAUSTED_ITEMS, R.CIPH_ERASED_ITEMS])
  | .ppeBandStart .. => some (Foot.itemEnd ++ Foot.sectorLoss ++ [R.ARR_REDO, R.PPE_EVENTS, R.PPE_BANDS, R.PPE_REPEAT,
    R.PPE_FALLBACK, R.PPE_CLIP])
  | .ppeBandFold .. => some (Foot.itemEnd ++ Foot.sectorLoss ++ Foot.readError ++ [R.ARR_REDO, R.PPE_EVENTS,
    R.PPE_BANDS, R.PPE_MISMATCH, R.PPE_REPEAT, R.PPE_FALLBACK])
  | .ppeLockLost => some ([R.PPE_STATUS, R.PPE_EVENTS])
  | .ppeLockReturn => some ([R.PPE_STATUS, R.PPE_EVENTS, R.PPE_REPEAT, R.PPE_CLIP])
  | .ppeLockWaitExpired .. => some (Foot.itemEnd ++ Foot.sectorLoss ++ [R.ARR_REDO, R.PPE_EVENTS, R.PPE_BANDS,
    R.PPE_FALLBACK])
  | .ppeCalQuick => some ([R.PPE_STATUS])
  | .ppeCalFull => some ([R.PPE_STATUS, R.PPE_CAL_STATUS])
  | .ppeCalPeriod => some ([R.PPE_STATUS])
  | .ppeTempDelta .. => some ([R.PPE_STATUS, R.PPE_TEMP])
  | .ppeCalDone .. => some ([R.PPE_STATUS, R.PPE_CAL_STATUS, R.PPE_EVENTS, R.PPE_TEMP, R.PPE_FAULT_LASER,
    R.PPE_FAULT_COL, R.PPE_DARK, R.PPE_GAIN, R.PPE_XT])
  | .ppeCalTableWrite .. => none
  | .firstpassPinWait .. => some ([R.CMP_EVENTS])
  | .codebookInstallDeferred .. => some ([])
  | .codebookRepeat .. => some (Foot.sessionSend)
  | .submit .. => some (Foot.answer ++ [R.SEQ_STATUS, R.SEQ_FIT, R.SEQ_TKn_STATUS, R.SEQ_FIT_A, R.SEQ_FIT_B,
    R.COL_STATUS, R.COL_ADHOC_POOL, R.COL_PARK, R.COL_EVENTS, R.COL_INSTANCES, R.COL_FAILED, R.COL_HELD,
    R.COL_POOL_EMPTY, R.COL_LAST_ADHOC_ID, R.MEM_CTX_MISS, R.MEM_CTX_CACHE, R.CST_EVENTS, R.CST_HELD])
  | .adhocAdmit => some ([R.SEQ_STATUS, R.SEQ_TKn_STATUS, R.COL_STATUS, R.COL_ADHOC_POOL, R.COL_PARK, R.COL_EVENTS,
    R.COL_INSTANCES, R.COL_FAILED, R.MEM_CTX_MISS, R.MEM_CTX_CACHE, R.CST_EVENTS, R.CST_HELD])
  | .parkExpired .. => some ([R.COL_PARK, R.COL_EVENTS, R.COL_PARK_EXPIRED, R.COL_LAST_EXPIRED_ID])
  | .helloReceive .. => some (Foot.itemEnd ++ Foot.lineBlock)
  | .dataReceive .. => some (Foot.itemEnd ++ Foot.lineBlock)
  | .abandonmentReceive .. => some (Foot.itemEnd ++ Foot.lineBlock)
  | .ackReceive .. => some (Foot.itemEnd ++ Foot.lineBlock)
  | .nakReceive .. => some (Foot.itemEnd ++ Foot.lineBlock)
  | .probeRequestReceive .. => some (Foot.itemEnd ++ Foot.lineBlock)
  | .probeReplyReceive .. => some (Foot.itemEnd ++ Foot.lineBlock)
  | .codebookReceive .. => some (Foot.itemEnd ++ Foot.lineBlock)
  | .stepReadyReceive .. => some (Foot.itemEnd ++ Foot.lineBlock)
  | .stepCommitReceive .. => some (Foot.itemEnd ++ Foot.lineBlock)
  | .epochReceive .. => some (Foot.itemEnd ++ Foot.lineBlock)
  | .horizonReceive .. => some (Foot.itemEnd ++ Foot.lineBlock)
  | .reconcileReceive .. => some (Foot.itemEnd ++ Foot.lineBlock)
  | .correctionSent .. => some (Foot.itemEnd ++ Foot.sessionSend ++ [R.GLB_VIEW, R.SEQ_MERIDIAN, R.PEER_STATUS,
    R.PEER_MERIDIAN, R.PEER_SESSn_RESENT, R.PEER_ISLAND, R.PEER_JOURNAL, R.PEER_RECON, R.PEER_HOLD_STATUS,
    R.PEER_FAULT_EVENTS, R.PEER_RECONCILES])
  | .ackSend .. => some ([R.CIPH_EVENTS, R.CIPH_KEY_WARN, R.SCH_Rr_Cc_QUEUE])
  | .gapNak .. => some ([R.PEER_SESSn_NAKS, R.CIPH_EVENTS, R.CIPH_KEY_WARN, R.SCH_Rr_Cc_QUEUE])
  | .resendTimer .. => some (Foot.itemEnd ++ Foot.sessionSend ++ [R.PEER_SESSn_RESENT, R.PEER_SESSn_TIMEOUTS])
  | .probeSend => some ([R.CIPH_EVENTS, R.CIPH_KEY_WARN, R.SCH_Rr_Cc_QUEUE])
  | .routeSilence .. => some (Foot.routeChange)
  | .routeProveTimeout .. => some (Foot.routeChange)
  | .routeDisableWrite .. => some (Foot.routeChange ++ [R.PEER_SESSn_CTRL])
  | .helloSend .. => some ([R.CIPH_EVENTS, R.CIPH_KEY_WARN, R.SCH_Rr_Cc_QUEUE])
  | .eclipseEntry .. => some (Foot.itemEnd ++ [R.PEER_STATUS, R.PEER_EVENTS, R.PEER_SESSn_STATE, R.PEER_ISLAND,
    R.PEER_RECON, R.PEER_HOLD_STATUS, R.PEER_STALL_STEP])
  | .meridian => some (Foot.itemEnd ++ Foot.sessionSend ++ [R.GLB_VIEW, R.SEQ_MERIDIAN, R.PEER_MERIDIAN,
    R.PEER_ISLAND])
  | .epochWaitExpired .. => some (Foot.itemEnd ++ [R.FAB_EVENTS])
  | .memberSuspect .. => some ([R.PEER_FAULT_EVENTS])
  | .downProposal .. => some ([R.PEER_FAULT_EVENTS])
  | .memberHoldExpired .. => some (Foot.itemEnd ++ [R.PEER_FAULT_EVENTS, R.FAB_EVENTS])
  | .exactHoldExpired .. => some (Foot.itemEnd ++ [R.PEER_HOLD_STATUS, R.PEER_STALL_STEP, R.PEER_FAULT_EVENTS])
  | .membershipTable .. => none
  | .membershipKeep .. => some (Foot.answer ++ [R.PEER_FAULT_EVENTS])
  | .rawDefectChange .. => some ([])
  | .defectFastSet .. => some (Foot.routeChange ++ [R.LINE_STATUS, R.LINE_EVENTS, R.LINE_Pp_DEFECT, R.LINE_Pp_LATCH])
  | .defectFastClear .. => some (Foot.routeChange ++ [R.LINE_STATUS, R.LINE_EVENTS, R.LINE_Pp_DEFECT])
  | .failureReportSet .. => some ([R.LINE_EVENTS, R.LINE_Pp_FAILURE])
  | .failureReportClear .. => some ([R.LINE_EVENTS, R.LINE_Pp_FAILURE])
  | .modAlertFall .. => some ([R.LINE_STATUS, R.LINE_EVENTS])
  | .losFlagPoll .. => some ([])
  | .gfpFrameReceive .. => some (Foot.itemEnd ++ Foot.lineBlock ++ [R.LINE_STATUS, R.LINE_Pp_BIP_SM, R.LINE_Pp_BIP_PM,
    R.LINE_Pp_BEI_SM, R.LINE_Pp_BEI_PM, R.LINE_Pp_FEC_CORR, R.LINE_Pp_FEC_UNCORR, R.LINE_Pp_GFP_FRAMES,
    R.LINE_Pp_GFP_CHEC_CORR, R.LINE_Pp_GFP_DISCARD])
  | .csfSend .. => some ([])
  | .moduleRead .. => some ([R.LINE_MOD_CMD])
  | .moduleWrite .. => some ([R.LINE_MOD_CMD])
  | .moduleAccessDone .. => some ([R.LINE_MOD_CMD])
  | .gcsMapWrite .. => none
  | .gcsMapApply .. => some ([])
  | .fabricRequestReceive .. => some (Foot.sessionSend ++ [R.FAB_EVENTS, R.FAB_RETRY, R.FAB_MISROUTED,
    R.FAB_UNREACHABLE, R.FAB_PROTO_ERR, R.FAB_BRIDGED_TX, R.FAB_CREDITSs, R.SCH_EVENTS, R.SCH_PLk_GREEN,
    R.SCH_PLk_YELLOW, R.SCH_PLk_RED])
  | .fabricReplyReceive .. => some (Foot.sessionSend ++ [R.FAB_EVENTS, R.FAB_MISROUTED, R.FAB_UNREACHABLE,
    R.FAB_PROTO_ERR, R.FAB_BRIDGED_TX])
  | .bulkReceive .. => some (Foot.sessionSend ++ [R.FAB_STATUS, R.FAB_EVENTS, R.FAB_PROTO_ERR])
  | .escapeTimeout .. => some ([R.FAB_EVENTS, R.FAB_ESCAPED])
  | .bridgeFlush .. => some (Foot.sessionSend)
  | .circuitTrained .. => some (Foot.itemEnd ++ [R.FAB_STATUS, R.FAB_Fk_CFG])
  | .circuitSetupTimeout .. => some (Foot.itemEnd ++ Foot.circuitDrop ++ [R.FAB_EVENTS])
  | .circuitReleased .. => some (Foot.itemEnd ++ Foot.circuitDrop)
  | .circuitTableWrite .. => none
  | .laserFailed .. => some (Foot.itemEnd ++ Foot.circuitDrop ++ [R.FAB_EVENTS, R.OPT_LASER_FAIL, R.OPT_MOVE_FAILED,
    R.OPT_Tt_STATUS])
  | .spareSwitched .. => some (Foot.circuitDrop ++ [R.OPT_Tt_STATUS])
  | .lockLoopPeriod .. => some (Foot.itemEnd ++ Foot.circuitDrop ++ [R.PPE_EVENTS, R.PPE_REPEAT, R.PPE_CLIP,
    R.PPE_TEMP, R.FAB_EVENTS, R.OPT_LOCK_FAULT, R.OPT_WRONG_LOCK, R.OPT_MOVE_FAILED, R.OPT_Tt_STATUS, R.OPT_Tt_TEMP])
  | .ringRelocked .. => some (Foot.circuitDrop)
  | .relockTimeout .. => some (Foot.itemEnd ++ Foot.circuitDrop ++ [R.FAB_EVENTS, R.OPT_MOVE_FAILED, R.OPT_Tt_STATUS])
  | .circuitNoLight .. => some (Foot.itemEnd ++ Foot.circuitDrop ++ [R.FAB_EVENTS, R.OPT_MOVE_FAILED])
  | .moveFlitReceive .. => some (Foot.itemEnd ++ Foot.circuitDrop ++ [R.FAB_EVENTS, R.OPT_MOVE_FAILED])
  | .circuitMoveDone .. => some (Foot.circuitDrop ++ [R.FAB_EVENTS, R.OPT_MOVES])
  | .alternateHoldExpired .. => some ([R.FAB_STATUS, R.FAB_Fk_CFG, R.OPT_Fk_LAMBDA])
  | .optCalFull .. => some ([R.OPT_STATUS, R.OPT_CAL])
  | .optCalDone .. => some ([R.OPT_STATUS, R.OPT_CAL, R.OPT_EVENTS, R.OPT_Tt_XT])
  | .optXtWrite .. => none
  | .aprTrip .. => some (Foot.itemEnd ++ Foot.circuitDrop ++ [R.FAB_EVENTS, R.OPT_STATUS, R.OPT_APR_TRIPS])
  | .aprBurst .. => some ([])
  | .aprClear .. => some (Foot.circuitDrop ++ [R.OPT_STATUS])
  | .laserEnChange .. => some (Foot.itemEnd ++ Foot.circuitDrop ++ [R.FAB_EVENTS, R.OPT_STATUS, R.PWR_PINS])
  | .sectorFault .. => some ([R.ARR_STATUS, R.ARR_EVENTS, R.ARR_SECn_STATUS, R.CMP_STATUS, R.MEM_STATUS,
    R.IMG_DRAINING, R.IMG_DARK, R.BIST_STATUS])
  | .pageRemap => some ([R.MEM_STATUS, R.MEM_EVENTS])
  | .remirrorDone => some ([R.MEM_STATUS, R.MEM_EVENTS])
  | .scrubPass .. => some (Foot.readError)
  | .cxlLinkDown .. => some ([R.MEM_STATUS, R.MEM_CAP, R.MEM_EVENTS])
  | .contextFetch .. => some ([R.MEM_CTX_CACHE])
  | .contextWindowWrite .. => none
  | .bufferGrant => some (Foot.loadEnd ++ [R.BPM_STATUS, R.BPM_EVENTS, R.BPM_POOLp_USE, R.BPM_POOLp_QUEUE,
    R.CIPH_EVENTS, R.CIPH_KEY_WARN, R.IMG_FW_STATUS, R.IMG_EVENTS])
  | .bufferHandoff .. => some ([])
  | .bufferFree .. => some ([R.BPM_STATUS, R.BPM_EVENTS, R.BPM_BAD_FREE, R.BPM_LAST_BAD, R.BPM_POOLp_USE])
  | .nocPacketReceive .. => some ([R.BIST_NOC_RESENDS])
  | .nocLinkFailed .. => some ([R.BIST_EVENTS, R.BIST_NOC_PATH_CHANGES, R.BIST_NOC_LINK_FAILS])
  | .keyLoad .. => none
  | .keyEraseGraceful .. => none
  | .keyEraseImmediate .. => none
  | .keyEraseComplete .. => some ([R.CIPH_EVENTS])
  | .keyRetire .. => some ([R.CIPH_EVENTS])
  | .suspendedResume .. => some ([R.CIPH_STATUS])
  | .macsecFrameReceive .. => none
  | .gcsEncryptWrite .. => some ([R.CIPH_GCS])
  | .portServe .. => some ([R.PEER_EVENTS, R.PEER_SESSn_STATE, R.PEER_SESSn_REPLAY, R.PEER_SESSn_SENT,
    R.PEER_SESSn_THROTTLE_NS, R.SCH_EVENTS, R.SCH_Rr_Cc_QUEUE, R.SCH_Rr_Cc_SOJOURN, R.SCH_Rr_Cc_LATE])
  | .hostFrameReceive .. => none
  | .ptpMessageReceive .. => some (Foot.sessionSend ++ [R.CIPH_KEY_EXHAUSTED, R.TIME_STATUS, R.TIME_EVENTS,
    R.TIME_TBn_OFFSET])
  | .timeSourceLost .. => some ([R.TIME_STATUS, R.TIME_EVENTS, R.TIME_TBn_OFFSET])
  | .holdoverExpired .. => some ([R.TIME_STATUS, R.TIME_EVENTS])
  | .tb0Revert => some ([R.TIME_STATUS, R.TIME_EVENTS])
  | .timeReportSend => some (Foot.sessionSend)
  | .timeReportReceive .. => some (Foot.itemEnd ++ Foot.lineBlock)
  | .transferHoldoverExpired .. => some ([R.PEER_SESSn_EPH_A, R.PEER_SESSn_EPH_B, R.TIME_STATUS, R.TIME_EVENTS,
    R.TIME_Rr_ASYM])
  | .tcRelayReceive .. => some (Foot.itemEnd ++ Foot.lineBlock)
  | .ppsInEdge => some ([R.TIME_STATUS, R.TIME_TOD, R.TIME_EVENTS, R.TIME_PPS_REJECT, R.TIME_TBn_OFFSET,
    R.TIME_PPS_IN_SEC, R.TIME_PPS_IN_NS])
  | .ppsOutPulse => some ([])
  | .asymWrite .. => some ([R.PEER_SESSn_EPH_A, R.PEER_SESSn_EPH_B, R.TIME_STATUS, R.TIME_EVENTS, R.TIME_Rr_ASYM])
  | .tbSecRead .. => some ([R.TIME_TBn_SEC, R.TIME_TBn_NS])
  | .read .. => none
  | .write .. => none
  | .txnBegin .. => some (Foot.answer ++ [R.HOST_STATUS])
  | .txnCommit .. => none
  | .snapshotOpen .. => some (Foot.answer)
  | .snapshotClose .. => some (Foot.answer)
  | .txnExpired .. => some ([R.HOST_STATUS, R.HOST_EVENTS])
  | .snapshotExpired .. => some ([R.HOST_EVENTS])
  | .hostAddressApply => some ([])
  | .loadStructureImage .. => some (Foot.loadEnd ++ [R.BPM_STATUS, R.BPM_EVENTS, R.BPM_EMPTY, R.BPM_QUEUED,
    R.BPM_POOLp_USE, R.BPM_POOLp_QUEUE, R.CIPH_EVENTS, R.CIPH_KEY_WARN, R.IMG_FW_STATUS, R.IMG_EVENTS])
  | .loadSectorPatch .. => some (Foot.loadEnd ++ [R.BPM_STATUS, R.BPM_EVENTS, R.BPM_EMPTY, R.BPM_QUEUED,
    R.BPM_POOLp_USE, R.BPM_POOLp_QUEUE, R.CIPH_EVENTS, R.CIPH_KEY_WARN, R.IMG_FW_STATUS, R.IMG_EVENTS])
  | .loadFirmwareCopy .. => some (Foot.loadEnd ++ [R.BPM_STATUS, R.BPM_EVENTS, R.BPM_EMPTY, R.BPM_QUEUED,
    R.BPM_POOLp_USE, R.BPM_POOLp_QUEUE, R.CIPH_EVENTS, R.CIPH_KEY_WARN, R.IMG_FW_STATUS, R.IMG_EVENTS])
  | .hostBulkWrite .. => some (Foot.answer)
  | .hostBulkRead .. => some (Foot.answer)
  | .loadVerify .. => none
  | .abortItem .. => some (Foot.itemEnd ++ Foot.sessionSend ++ Foot.loadEnd ++ [R.FAB_STATUS, R.FAB_Fk_CFG,
    R.OPT_Fk_LAMBDA, R.CIPH_STATUS, R.IMG_EVENTS])
  | .abortTrack .. => some (Foot.itemEnd ++ Foot.sessionSend ++ Foot.loadEnd ++ [R.FAB_STATUS, R.FAB_Fk_CFG,
    R.OPT_Fk_LAMBDA, R.CIPH_STATUS, R.IMG_EVENTS])
  | .abortCollective .. => some (Foot.itemEnd ++ Foot.sessionSend ++ Foot.loadEnd ++ [R.FAB_STATUS, R.FAB_Fk_CFG,
    R.OPT_Fk_LAMBDA, R.CIPH_STATUS, R.IMG_EVENTS])
  | .abortTransaction .. => some (Foot.itemEnd ++ Foot.sessionSend ++ Foot.loadEnd ++ [R.FAB_STATUS, R.FAB_Fk_CFG,
    R.OPT_Fk_LAMBDA, R.CIPH_STATUS, R.IMG_EVENTS])
  | .abortLoad .. => some (Foot.itemEnd ++ Foot.sessionSend ++ Foot.loadEnd ++ [R.FAB_STATUS, R.FAB_Fk_CFG,
    R.OPT_Fk_LAMBDA, R.CIPH_STATUS, R.IMG_EVENTS])
  | .eventAck .. => some (Foot.answer ++ [R.EVT_STATUS, R.EVT_ECn_CFG, R.EVT_SRCs_CFG, R.CST_EVENTS, R.CST_HELD])
  | .eventAssert .. => some ([R.EVT_STATUS, R.EVT_SRCs_CFG, R.CST_EVENTS, R.CST_HELD])
  | .eventDeliver .. => some ([R.CIPH_EVENTS, R.CIPH_KEY_WARN, R.CIPH_KEY_EXHAUSTED, R.EVT_STATUS, R.EVT_ECn_CFG,
    R.EVT_ECn_SEQ])
  | .eventResend .. => some ([R.CIPH_EVENTS, R.CIPH_KEY_WARN, R.CIPH_KEY_EXHAUSTED, R.EVT_ECn_CFG])
  | .mpEventHandled .. => some ([R.EVT_STATUS, R.EVT_SRCs_CFG, R.CST_EVENTS, R.CST_HELD])
  | .pinChange .. => some ([R.SEQ_FORECAST, R.LINE_STATUS, R.EVT_STATUS, R.EVT_SRCs_CFG, R.CST_EVENTS, R.CST_HELD,
    R.PWR_STATUS, R.PWR_EVENTS, R.PWR_PINS])
  | .cstLinkTrained .. => some ([R.CST_EVENTS, R.CST_LINKk])
  | .cstLinkDown .. => some ([R.CST_EVENTS, R.CST_LINK_FAIL, R.CST_LINKk])
  | .linkStateReceive .. => some ([])
  | .routesInstalled => some (Foot.answer ++ [R.HOST_STATUS, R.CST_EVENTS, R.CST_UNREACHABLE, R.CST_HELD,
    R.CST_REROUTES, R.CST_MGMT_LOST])
  | .forwardedRequestReceive .. => none
  | .forwardResponseReceive .. => some (Foot.answer ++ [R.GLB_VIEW, R.CST_MGMT_LOST])
  | .cstPrepareReceive .. => none
  | .cstPrepareReplyReceive .. => none
  | .cstApplyReceive .. => none
  | .cstApplyAckReceive .. => some (Foot.answer)
  | .constellationMeridian .. => some ([R.GLB_VIEW])
  | .cstEventRecordReceive .. => some ([R.EVT_STATUS])
  | .cstTokenPostReceive .. => some ([R.SEQ_EVENTS, R.SEQ_TOKEN])
  | .cstMeridianReportReceive .. => some (Foot.itemEnd ++ Foot.sessionSend ++ [R.GLB_VIEW, R.SEQ_MERIDIAN,
    R.PEER_MERIDIAN, R.PEER_ISLAND])
  | .cstMeridianReceive .. => some (Foot.itemEnd ++ Foot.sessionSend ++ [R.GLB_VIEW, R.SEQ_MERIDIAN, R.PEER_MERIDIAN,
    R.PEER_ISLAND])
  | .cstMemberLost .. => some (Foot.itemEnd)
  | .poleLost => some (Foot.itemEnd)
  | .promote .. => some ([R.GLB_VIEW, R.HOST_STATUS, R.EVT_STATUS, R.CST_STATUS, R.CST_EVENTS, R.CST_HELD])
  | .activate => some (Foot.itemEnd ++ [R.ARR_STATUS, R.ARR_SECn_STATUS, R.CMP_STATUS, R.MEM_STATUS, R.IMG_STATUS,
    R.IMG_DRAINING])
  | .discard => some ([R.BPM_STATUS, R.BPM_EVENTS, R.BPM_POOLp_USE, R.BPM_POOLp_QUEUE, R.IMG_STATUS])
  | .imageActivation .. => none
  | .disable .. => some (Foot.itemEnd ++ [R.ARR_STATUS, R.ARR_SECn_STATUS, R.CMP_STATUS, R.MEM_STATUS, R.IMG_TWILIGHT,
    R.IMG_DRAINING])
  | .enable .. => some ([R.SEQ_STATUS, R.SEQ_TKn_STATUS, R.ARR_STATUS, R.ARR_SECn_STATUS, R.ARR_SECn_LANE_OPS,
    R.CMP_STATUS, R.PPE_STATUS, R.FAB_STATUS, R.OPT_STATUS, R.MEM_STATUS, R.IMG_TWILIGHT, R.IMG_DRAINING, R.IMG_DARK,
    R.BIST_SECn_MISR, R.BIST_SECn_LAST])
  | .twilightDeadline .. => some (Foot.itemEnd ++ Foot.sessionSend ++ Foot.sectorLoss ++ Foot.loadEnd ++
    Foot.circuitDrop ++ [R.GLB_VIEW, R.SEQ_FIT, R.SEQ_FIT_A, R.SEQ_FIT_B, R.ARR_REDO, R.CMP_EVENTS, R.CMP_TABLE_GONE,
    R.CMP_LAST_FAIL, R.CMP_LAST_FAIL_INFO, R.PPE_EVENTS, R.PPE_BANDS, R.PPE_FALLBACK, R.PPE_CLIP, R.PEER_ROUTES,
    R.PEER_SESSn_WIN_A, R.PEER_SESSn_WIN_B, R.PEER_SESSn_EPH_A, R.PEER_SESSn_EPH_B, R.FAB_EVENTS, R.OPT_STATUS,
    R.CIPH_EXHAUSTED_ITEMS, R.CIPH_ERASED_ITEMS, R.SCH_STATUS, R.SCH_EVENTS, R.TIME_STATUS, R.TIME_EVENTS,
    R.CST_LINK_FAIL, R.CST_LINKk, R.IMG_PATCH, R.BIST_SECn_MISR, R.BIST_SECn_LAST])
  | .unitDark .. => some (Foot.itemEnd ++ Foot.sessionSend ++ Foot.sectorLoss ++ Foot.loadEnd ++ Foot.circuitDrop ++
    [R.GLB_VIEW, R.SEQ_FIT, R.SEQ_FIT_A, R.SEQ_FIT_B, R.ARR_REDO, R.CMP_EVENTS, R.CMP_TABLE_GONE, R.CMP_LAST_FAIL,
    R.CMP_LAST_FAIL_INFO, R.PPE_EVENTS, R.PPE_BANDS, R.PPE_FALLBACK, R.PPE_CLIP, R.PEER_ROUTES, R.PEER_SESSn_WIN_A,
    R.PEER_SESSn_WIN_B, R.PEER_SESSn_EPH_A, R.PEER_SESSn_EPH_B, R.FAB_EVENTS, R.OPT_STATUS, R.CIPH_EXHAUSTED_ITEMS,
    R.CIPH_ERASED_ITEMS, R.SCH_STATUS, R.SCH_EVENTS, R.TIME_STATUS, R.TIME_EVENTS, R.CST_LINK_FAIL, R.CST_LINKk,
    R.IMG_PATCH, R.BIST_SECn_MISR, R.BIST_SECn_LAST])
  | .restart => some ([R.IMG_DRAINING, R.IMG_FW_STATUS])
  | .mpDrainLimit .. => some (Foot.answer ++ [R.EVT_STATUS, R.EVT_SRCs_CFG, R.CST_EVENTS, R.CST_HELD, R.IMG_DRAINING,
    R.IMG_DARK, R.IMG_FW_STATUS, R.IMG_EVENTS])
  | .mpReady .. => some ([R.EVT_STATUS, R.EVT_SRCs_CFG, R.CST_EVENTS, R.CST_HELD, R.IMG_DRAINING, R.IMG_DARK,
    R.IMG_FW_STATUS, R.IMG_EVENTS])
  | .mpReadyTimeout => some ([R.IMG_FW_STATUS, R.IMG_EVENTS])
  | .porstNAssert => none
  | .porstNRelease .. => some ([R.GLB_STATUS, R.SEC_STATUS, R.CLK_STATUS])
  | .sysrstN => none
  | .railsReady => some ([R.GLB_STATUS, R.CLK_STATUS])
  | .bootStageEnd .. => some ([R.GLB_STATUS, R.ARR_STATUS, R.ARR_SECn_STATUS, R.CMP_STATUS, R.MEM_STATUS, R.MEM_CAP,
    R.MEM_EVENTS, R.CIPH_STATUS, R.HOST_STATUS, R.HOST_BOOT_FLOOR, R.EVT_STATUS, R.EVT_SRCs_CFG, R.CST_EVENTS,
    R.CST_HELD, R.IMG_DARK, R.IMG_FW_STATUS, R.SEC_STATUS, R.SEC_LEAVES, R.BIST_STATUS, R.PWR_STATUS, R.CLK_STATUS])
  | .claim => some ([R.CIPH_STATUS, R.HOST_STATUS, R.HOST_BOOT_FLOOR, R.SEC_STATUS, R.SEC_CHALLENGE, R.SEC_CTRL,
    R.SEC_EVENTS])
  | .addKey .. => some ([R.CIPH_STATUS, R.HOST_STATUS, R.HOST_BOOT_FLOOR, R.SEC_STATUS, R.SEC_CHALLENGE, R.SEC_CTRL,
    R.SEC_EVENTS])
  | .revokeKey .. => some ([R.CIPH_STATUS, R.HOST_STATUS, R.HOST_BOOT_FLOOR, R.SEC_STATUS, R.SEC_CHALLENGE,
    R.SEC_CTRL, R.SEC_EVENTS])
  | .release .. => some ([R.CIPH_STATUS, R.HOST_STATUS, R.HOST_BOOT_FLOOR, R.SEC_STATUS, R.SEC_CHALLENGE, R.SEC_CTRL,
    R.SEC_EVENTS])
  | .quote => some ([R.SEC_STATUS, R.SEC_CTRL, R.SEC_LEAVES, R.SEC_EVENTS])
  | .quoteDone .. => some ([R.SEC_STATUS, R.SEC_CTRL, R.SEC_EVENTS, R.SEC_QUOTES, R.SEC_QUOTE])
  | .raise => some ([R.SEC_ROLLBACK, R.SEC_CTRL])
  | .persist => some ([R.SEC_CTRL])
  | .persistDone => some ([R.SEC_CTRL])
  | .idTreeBuilt => some ([R.SEC_LEAVES])
  | .bistStart .. => some ([R.ARR_STATUS, R.ARR_SECn_STATUS, R.ARR_SECn_LANE_OPS, R.CMP_STATUS, R.MEM_STATUS,
    R.BIST_STATUS, R.BIST_SECn_MISR, R.BIST_SECn_LAST])
  | .bistEnd .. => some (Foot.itemEnd ++ Foot.loadEnd ++ [R.GLB_VIEW, R.ARR_STATUS, R.ARR_EVENTS, R.ARR_SECn_STATUS,
    R.CMP_STATUS, R.MEM_STATUS, R.MEM_EVENTS, R.CIPH_EVENTS, R.CIPH_KEY_WARN, R.IMG_DRAINING, R.IMG_DARK, R.IMG_PATCH,
    R.IMG_EVENTS, R.BIST_STATUS, R.BIST_CTRL, R.BIST_EVENTS, R.BIST_RUNS, R.BIST_FAILS, R.BIST_SKIPPED,
    R.BIST_SECn_MISR, R.BIST_SECn_LAST])
  | .bistPeriod => some (Foot.itemEnd ++ [R.ARR_STATUS, R.ARR_SECn_STATUS, R.CMP_STATUS, R.MEM_STATUS, R.IMG_DRAINING,
    R.BIST_STATUS, R.BIST_EVENTS, R.BIST_SKIPPED])
  | .runNow => some (Foot.itemEnd ++ [R.ARR_STATUS, R.ARR_SECn_STATUS, R.CMP_STATUS, R.MEM_STATUS, R.IMG_DRAINING,
    R.BIST_STATUS, R.BIST_CTRL, R.BIST_EVENTS, R.BIST_SKIPPED])
  | .unretire .. => some ([R.BIST_STATUS, R.BIST_CTRL])
  | .vinChange .. => some ([R.SEQ_FORECAST, R.PWR_STATUS, R.PWR_VIN, R.PWR_EVENTS])
  | .powerOff => none
  | .currentSample .. => some ([R.SEQ_FORECAST, R.PWR_STATUS, R.PWR_VIN, R.PWR_PEAK, R.PWR_EVENTS])
  | .capLift => some ([R.SEQ_FORECAST, R.PWR_STATUS, R.PWR_CAPPED_NS])
  | .thermalReport .. => none
  | .refclkLost => some ([R.PWR_EVENTS, R.PWR_REF_LOSSES, R.CLK_STATUS])
  | .refclkFreeRun => some ([R.CLK_STATUS])
  | .refclkReturn => some ([R.CLK_STATUS])
  | .pllUnlock .. => some ([R.PWR_EVENTS, R.CLK_STATUS])
  | .pllRelocked => some ([R.PWR_EVENTS, R.CLK_STATUS])
  | .softReset => none
  | .ttiRxAccept .. => some ([R.LINE_EVENTS, R.LINE_Pp_TTI_RX])
  | .hostLinkChange .. => some ([R.HOST_STATUS, R.HOST_EVENTS])
  | .fabricDelivery .. => some ([R.FAB_CREDITSs])

/-- The parts that a command may change; none for a command whose footprint is not named. -/
def Sys2Proof.Instr.touches : Instr → Option (List Part)
  | .itemIssue => some (Foot.itemEndParts ++ [.seqActive, .seqShadow, .seqNextId, .seqLastFirst, .seqSwap,
    .seqForecasts, .seqTurn, .colChunksDone, .colInstStep, .memCtx, .memCache, .bpmLimits])
  | .itemStart .. => some (Foot.itemEndParts ++ Foot.eclipseParts ++ [.seqTurn, .ciphSlots, .peerSess])
  | .move .. => some (Foot.itemEndParts ++ Foot.bytesWrittenParts ++ [.peerReleased])
  | .reduce .. => some (Foot.itemEndParts ++ Foot.bytesWrittenParts ++ Foot.sectorLossParts ++ [.arrChunk,
    .colChunksDone, .colHolding])
  | .firstpass .. => some (Foot.itemEndParts ++ Foot.sessionSendParts ++ [.free, .cmpSends, .cmpWaits, .cmpAcks])
  | .encode .. => some (Foot.itemEndParts ++ Foot.bytesWrittenParts ++ [.cmpCopies, .colHolding])
  | .encodeResidualCopy .. => some (Foot.bytesWrittenParts ++ [.cmpCopies])
  | .decode .. => some (Foot.itemEndParts ++ Foot.bytesWrittenParts ++ [.colChunksDone, .ciphSlots, .schQueues,
    .schFinish, .peerSess])
  | .project .. => some (Foot.itemEndParts ++ Foot.bytesWrittenParts ++ Foot.sectorLossParts)
  | .ortho .. => some (Foot.itemEndParts ++ Foot.bytesWrittenParts ++ Foot.sectorLossParts)
  | .seal .. => some (Foot.itemEndParts ++ Foot.bytesWrittenParts ++ Foot.sessionSendParts ++ [.cmpSends,
    .ciphSuspended])
  | .openItem .. => some (Foot.itemEndParts ++ Foot.bytesWrittenParts ++ [.ciphSlots, .ciphSuspended, .ciphTagRun,
    .schQueues, .schFinish, .peerSess])
  | .send .. => some (Foot.itemEndParts ++ [.memCtx, .schQueues, .schFinish, .peerSess])
  | .recv .. => some (Foot.itemEndParts ++ Foot.bytesWrittenParts ++ Foot.sessionSendParts ++ [.peerRx, .peerReady,
    .peerRecvDone])
  | .circuitSetup .. => some (Foot.itemEndParts ++ [.fabCircuits])
  | .circuitConfirm .. => some (Foot.itemEndParts)
  | .circuitRelease .. => some (Foot.itemEndParts ++ [.fabCircuits])
  | .journal .. => some (Foot.itemEndParts ++ Foot.bytesWrittenParts ++ [.ciphSlots, .peerJournal])
  | .forecast .. => some (Foot.itemEndParts ++ [.optLevel])
  | .forecastLowerEffect => some ([.arrLevel, .arrRampAt, .arrPrev])
  | .tokenWaitWatchdog .. => some ([])
  | .armStep => some ([.free, .out, .seqSwap])
  | .armIdle => some ([.free, .out, .seqSwap])
  | .cancel => some ([.seqSwap])
  | .swapStep => some ([.out, .seqActive, .seqShadow, .seqSwap, .seqWaitAt, .seqFaultTo, .cstSwaps])
  | .swapIdle => some ([.out, .seqActive, .seqShadow, .seqSwap, .seqWaitAt, .seqFaultTo, .arrAcc, .arrWinTop,
    .arrDecRecs, .arrHome, .arrChunk, .colChunksDone, .colInstStep, .colHolding, .colWaiting, .colFailed, .peerReady,
    .peerIslands, .peerRecvDone, .peerPendingCommits, .cstSwaps])
  | .trackResume .. => some ([.seqWaitAt])
  | .trackHalt .. => some ([])
  | .trackAbort .. => some (Foot.itemEndParts ++ Foot.bytesWrittenParts ++ Foot.sessionSendParts ++ [.free,
    .seqNextId, .ciphSuspended, .fabCircuits])
  | .tokenWrite .. => some (Foot.itemEndParts ++ Foot.registerWriteParts ++ [.cstResults, .hostAsked, .hostAnswered])
  | .activeWindowWrite .. => some (Foot.itemEndParts ++ Foot.registerWriteParts ++ [.cstResults, .hostAsked,
    .hostAnswered])
  | .shadowWindowWrite .. => some (Foot.itemEndParts ++ Foot.registerWriteParts ++ [.cstResults, .hostAsked,
    .hostAnswered])
  | .reduceCountWait .. => some ([])
  | .reduceRebuildDone .. => some (Foot.itemEndParts ++ Foot.bytesWrittenParts ++ Foot.sectorLossParts ++ [.arrChunk,
    .colChunksDone, .colHolding, .memPages, .memRemirroring])
  | .arrayRedoDone .. => some (Foot.itemEndParts ++ Foot.bytesWrittenParts ++ Foot.eclipseParts ++
    Foot.sectorLossParts ++ [.ciphSlots, .peerSess])
  | .ppeBandStart .. => some (Foot.itemEndParts ++ Foot.bytesWrittenParts ++ Foot.sectorLossParts ++ [.ppeBand,
    .ppeLockLostAt])
  | .ppeBandFold .. => some (Foot.itemEndParts ++ Foot.bytesWrittenParts ++ Foot.sectorLossParts ++ [.free, .ppeBand])
  | .ppeLockLost => some ([.ppeIntegrating, .ppeLockLostAt])
  | .ppeLockReturn => some ([.ppeIntegrating, .ppeBegun, .ppeLockLostAt])
  | .ppeLockWaitExpired .. => some (Foot.itemEndParts ++ Foot.bytesWrittenParts ++ Foot.sectorLossParts ++ [.ppeBand])
  | .ppeCalQuick => some ([.ppeIntegrating, .ppeCal, .ppeCalDue])
  | .ppeCalFull => some ([.ppeCal])
  | .ppeCalPeriod => some ([.ppeIntegrating, .ppeCal, .ppeCalDue])
  | .ppeTempDelta .. => some ([.ppeIntegrating, .ppeCal, .ppeCalDue])
  | .ppeCalDone .. => some ([.ppeIntegrating, .ppeCal, .ppeCalDue, .ppeCalEndedAt, .ppeFailed])
  | .ppeCalTableWrite .. => some (Foot.itemEndParts ++ Foot.registerWriteParts ++ [.cstResults, .hostAsked,
    .hostAnswered])
  | .firstpassPinWait .. => some ([])
  | .codebookInstallDeferred .. => some ([.cmpBooks, .cmpWaits, .cmpAcks, .peerSess])
  | .codebookRepeat .. => some (Foot.sessionSendParts ++ [.seqItems, .cmpSends])
  | .submit .. => some (Foot.answerParts ++ [.seqItems, .seqNextId, .colRunning, .colHeld, .colLastId, .colParked,
    .colChunksDone, .colInstStep, .colWaiting, .colFailed, .memCache, .peerRx, .evtCompletions, .cstHeld])
  | .adhocAdmit => some ([.out, .seqItems, .seqNextId, .colRunning, .colHeld, .colParked, .colChunksDone,
    .colInstStep, .colWaiting, .colFailed, .memCache, .peerRx, .evtCompletions, .cstHeld])
  | .parkExpired .. => some ([.free, .colRunning, .colHeld, .colLastId, .colParked, .colChunksDone, .colInstStep,
    .colHolding, .colWaiting, .colFailed])
  | .helloReceive .. => some (Foot.itemEndParts ++ Foot.lineBlockParts)
  | .dataReceive .. => some (Foot.itemEndParts ++ Foot.lineBlockParts)
  | .abandonmentReceive .. => some (Foot.itemEndParts ++ Foot.lineBlockParts)
  | .ackReceive .. => some (Foot.itemEndParts ++ Foot.lineBlockParts)
  | .nakReceive .. => some (Foot.itemEndParts ++ Foot.lineBlockParts)
  | .probeRequestReceive .. => some (Foot.itemEndParts ++ Foot.lineBlockParts)
  | .probeReplyReceive .. => some (Foot.itemEndParts ++ Foot.lineBlockParts)
  | .codebookReceive .. => some (Foot.itemEndParts ++ Foot.lineBlockParts)
  | .stepReadyReceive .. => some (Foot.itemEndParts ++ Foot.lineBlockParts)
  | .stepCommitReceive .. => some (Foot.itemEndParts ++ Foot.lineBlockParts)
  | .epochReceive .. => some (Foot.itemEndParts ++ Foot.lineBlockParts)
  | .horizonReceive .. => some (Foot.itemEndParts ++ Foot.lineBlockParts)
  | .reconcileReceive .. => some (Foot.itemEndParts ++ Foot.lineBlockParts)
  | .correctionSent .. => some (Foot.itemEndParts ++ Foot.sessionSendParts ++ [.peerReady, .peerJournal,
    .peerReleased, .peerRecon, .peerIslands, .peerRecvDone, .peerPendingCommits])
  | .ackSend .. => some ([.ciphSlots, .schQueues, .schFinish, .peerSess])
  | .gapNak .. => some ([.ciphSlots, .schQueues, .schFinish, .peerSess])
  | .resendTimer .. => some (Foot.itemEndParts ++ Foot.sessionSendParts)
  | .probeSend => some ([.ciphSlots, .schQueues, .schFinish, .peerSess, .peerProbeAt])
  | .routeSilence .. => some (Foot.routeChangeParts)
  | .routeProveTimeout .. => some (Foot.routeChangeParts)
  | .routeDisableWrite .. => some (Foot.routeChangeParts)
  | .helloSend .. => some ([.ciphSlots, .schQueues, .schFinish, .peerSess])
  | .eclipseEntry .. => some (Foot.itemEndParts ++ [.peerSess, .peerRx, .peerReady, .peerMembers, .peerFences,
    .peerWatch, .peerJournal, .peerReleased, .peerRecon, .peerStalledAt, .peerSelfFenced, .peerIslands, .peerRecvDone,
    .peerPendingCommits, .peerAdopting, .peerHellos, .peerProbeAt])
  | .meridian => some (Foot.itemEndParts ++ Foot.sessionSendParts ++ [.peerReady, .peerReleased, .peerIslands,
    .peerRecvDone, .peerPendingCommits, .cstReports, .cstReported])
  | .epochWaitExpired .. => some (Foot.itemEndParts ++ [.fabReqs, .fabSent, .fabFlits, .fabHomes])
  | .memberSuspect .. => some ([.peerWatch])
  | .downProposal .. => some ([.peerWatch])
  | .memberHoldExpired .. => some (Foot.itemEndParts ++ [.peerSess, .peerWatch, .fabReqs, .fabSent, .fabFlits,
    .fabHomes])
  | .exactHoldExpired .. => some (Foot.itemEndParts)
  | .membershipTable .. => some (Foot.itemEndParts ++ Foot.registerWriteParts ++ [.cstResults, .hostAsked,
    .hostAnswered])
  | .membershipKeep .. => some (Foot.answerParts ++ [.peerWatch])
  | .rawDefectChange .. => some ([.linePorts])
  | .defectFastSet .. => some (Foot.routeChangeParts ++ [.linePorts])
  | .defectFastClear .. => some (Foot.routeChangeParts ++ [.linePorts])
  | .failureReportSet .. => some ([])
  | .failureReportClear .. => some ([])
  | .modAlertFall .. => some ([.linePorts])
  | .losFlagPoll .. => some ([.linePorts])
  | .gfpFrameReceive .. => some (Foot.itemEndParts ++ Foot.lineBlockParts ++ [.ciphGcs, .linePorts])
  | .csfSend .. => some ([.out, .linePorts])
  | .moduleRead .. => some ([.out, .lineAccess])
  | .moduleWrite .. => some ([.out, .lineAccess])
  | .moduleAccessDone .. => some ([.lineAccess])
  | .gcsMapWrite .. => some (Foot.itemEndParts ++ Foot.registerWriteParts ++ [.cstResults, .hostAsked, .hostAnswered])
  | .gcsMapApply .. => some ([.ciphSlots, .ciphGcs, .lineGcs])
  | .fabricRequestReceive .. => some (Foot.sessionSendParts ++ [.seqItems, .schPolicers, .fabBridge, .fabReqs,
    .fabSent, .fabFlits, .fabRxFlits, .fabHomes])
  | .fabricReplyReceive .. => some (Foot.sessionSendParts ++ [.seqItems, .fabBridge, .fabSent, .fabFlits, .fabRxFlits,
    .fabHomes])
  | .bulkReceive .. => some (Foot.bytesWrittenParts ++ Foot.sessionSendParts ++ [.seqItems, .colHolding,
    .fabCircuits])
  | .escapeTimeout .. => some ([.fabSent])
  | .bridgeFlush .. => some (Foot.sessionSendParts ++ [.seqItems, .fabBridge])
  | .circuitTrained .. => some (Foot.itemEndParts ++ [.fabCircuits, .fabSent, .fabFlits, .fabHomes])
  | .circuitSetupTimeout .. => some (Foot.itemEndParts ++ Foot.circuitDropParts ++ [.optMoving])
  | .circuitReleased .. => some (Foot.itemEndParts ++ Foot.circuitDropParts ++ [.optMoving])
  | .circuitTableWrite .. => some (Foot.itemEndParts ++ Foot.registerWriteParts ++ [.cstResults, .hostAsked,
    .hostAnswered])
  | .laserFailed .. => some (Foot.itemEndParts ++ Foot.circuitDropParts ++ [.optSpares, .optSwitching, .optMoving])
  | .spareSwitched .. => some (Foot.circuitDropParts ++ [.optSpares, .optSwitching, .optRelocking, .optUnlocked])
  | .lockLoopPeriod .. => some (Foot.itemEndParts ++ Foot.circuitDropParts ++ [.ppeLockLostAt, .ppeLockErr,
    .ppeTarget, .ppeDrive, .optRelocking, .optMoving, .optUnlocked, .optTarget, .optDrive, .optLag, .optLevel])
  | .ringRelocked .. => some (Foot.circuitDropParts ++ [.optRelocking])
  | .relockTimeout .. => some (Foot.itemEndParts ++ Foot.circuitDropParts ++ [.optSwitching, .optRelocking,
    .optMoving])
  | .circuitNoLight .. => some (Foot.itemEndParts ++ Foot.circuitDropParts ++ [.optMoving])
  | .moveFlitReceive .. => some (Foot.itemEndParts ++ Foot.circuitDropParts ++ [.optMoving])
  | .circuitMoveDone .. => some (Foot.circuitDropParts ++ [.seqItems, .optMoving])
  | .alternateHoldExpired .. => some ([.fabCircuits, .optHeld])
  | .optCalFull .. => some ([.optCalStart])
  | .optCalDone .. => some ([.optCalStart, .optSensor0])
  | .optXtWrite .. => some (Foot.itemEndParts ++ Foot.registerWriteParts ++ [.cstResults, .hostAsked, .hostAnswered])
  | .aprTrip .. => some (Foot.itemEndParts ++ Foot.circuitDropParts ++ [.optMoving, .optBurstAt])
  | .aprBurst .. => some ([.out, .optBurstAt])
  | .aprClear .. => some (Foot.circuitDropParts)
  | .laserEnChange .. => some (Foot.itemEndParts ++ Foot.circuitDropParts ++ [.optMoving, .optBurstAt])
  | .sectorFault .. => some ([.seqItems, .arrHome, .arrHelping, .memCells, .memPoison, .memLost, .memRemapDue])
  | .pageRemap => some ([.memPages, .memRemapDue, .memRemirroring])
  | .remirrorDone => some ([.memRemirroring])
  | .scrubPass .. => some ([.memPoison, .memScrubAt])
  | .cxlLinkDown .. => some ([])
  | .contextFetch .. => some ([.seqItems, .memCache])
  | .contextWindowWrite .. => some (Foot.itemEndParts ++ Foot.registerWriteParts ++ [.cstResults, .hostAsked,
    .hostAnswered])
  | .bufferGrant => some (Foot.answerParts ++ [.seqItems, .bpmBufs, .bpmQueue, .bpmLimits, .hostLoad, .imgCopyA,
    .imgCopyB, .imgPreferB])
  | .bufferHandoff .. => some ([.bpmBufs])
  | .bufferFree .. => some ([.bpmBufs])
  | .nocPacketReceive .. => some ([.bistNoc])
  | .nocLinkFailed .. => some ([.bistNoc])
  | .keyLoad .. => some (Foot.itemEndParts ++ Foot.registerWriteParts ++ [.cstResults, .hostAsked, .hostAnswered])
  | .keyEraseGraceful .. => some (Foot.itemEndParts ++ Foot.registerWriteParts ++ [.cstResults, .hostAsked,
    .hostAnswered])
  | .keyEraseImmediate .. => some (Foot.itemEndParts ++ Foot.registerWriteParts ++ [.cstResults, .hostAsked,
    .hostAnswered])
  | .keyEraseComplete .. => some ([.ciphSlots])
  | .keyRetire .. => some ([.ciphSlots])
  | .suspendedResume .. => some ([.ciphSuspended])
  | .macsecFrameReceive .. => none
  | .gcsEncryptWrite .. => some ([.ciphSlots, .ciphGcs])
  | .portServe .. => some ([.out, .seqItems, .memCtx, .schQueues, .schFinish, .schVtime, .schPortBuf, .peerSess,
    .linePorts])
  | .hostFrameReceive .. => none
  | .ptpMessageReceive .. => some (Foot.sessionSendParts ++ [.free, .out, .seqItems, .timeBases, .timePtp, .timeDiff,
    .timeValidSince])
  | .timeSourceLost .. => some ([.free, .timeBases, .timeDiff, .timeValidSince, .timeFollows])
  | .holdoverExpired .. => some ([.timeBases, .timeDiff, .timeValidSince])
  | .tb0Revert => some ([.timeDiff, .timeValidSince])
  | .timeReportSend => some (Foot.sessionSendParts ++ [.seqItems])
  | .timeReportReceive .. => some (Foot.itemEndParts ++ Foot.lineBlockParts)
  | .transferHoldoverExpired .. => some ([.timeRoutes])
  | .tcRelayReceive .. => some (Foot.itemEndParts ++ Foot.lineBlockParts)
  | .ppsInEdge => some ([.free, .timeBases, .timeDiff, .timeValidSince, .timePpsAt])
  | .ppsOutPulse => some ([.out])
  | .asymWrite .. => some ([.timeBases, .timeRoutes, .timeFollows])
  | .tbSecRead .. => some ([])
  | .read .. => some (Foot.answerParts ++ Foot.powerParts ++ [.free, .peerSess, .bistNoc, .hostTxns])
  | .write .. => some (Foot.itemEndParts ++ Foot.registerWriteParts ++ [.cstResults, .hostAsked, .hostAnswered])
  | .txnBegin .. => some (Foot.answerParts ++ [.hostLastTxn, .hostTxns])
  | .txnCommit .. => none
  | .snapshotOpen .. => some (Foot.answerParts ++ [.cstNextFwd, .hostLastSnap, .hostSnaps])
  | .snapshotClose .. => some (Foot.answerParts ++ [.cstNextFwd, .hostLastSnap, .hostSnaps])
  | .txnExpired .. => some ([.out, .cstTxnMembers, .hostTxns])
  | .snapshotExpired .. => some ([.out, .cstNextFwd, .hostSnaps])
  | .hostAddressApply => some ([.hostInEffect])
  | .loadStructureImage .. => some (Foot.answerParts ++ [.bpmBufs, .bpmQueue, .bpmLimits, .hostReplay, .hostInEffect,
    .hostLastTxn, .hostTxns, .hostLastSnap, .hostSnaps, .hostLoad, .imgCopyA, .imgCopyB, .imgPreferB])
  | .loadSectorPatch .. => some (Foot.answerParts ++ [.bpmBufs, .bpmQueue, .bpmLimits, .hostReplay, .hostInEffect,
    .hostLastTxn, .hostTxns, .hostLastSnap, .hostSnaps, .hostLoad, .imgCopyA, .imgCopyB, .imgPreferB])
  | .loadFirmwareCopy .. => some (Foot.answerParts ++ [.bpmBufs, .bpmQueue, .bpmLimits, .hostReplay, .hostInEffect,
    .hostLastTxn, .hostTxns, .hostLastSnap, .hostSnaps, .hostLoad, .imgCopyA, .imgCopyB, .imgPreferB])
  | .hostBulkWrite .. => some (Foot.bytesWrittenParts ++ Foot.answerParts)
  | .hostBulkRead .. => some (Foot.bytesWrittenParts ++ Foot.answerParts)
  | .loadVerify .. => none
  | .abortItem .. => some (Foot.itemEndParts ++ Foot.bytesWrittenParts ++ Foot.sessionSendParts ++ Foot.abortParts)
  | .abortTrack .. => some (Foot.itemEndParts ++ Foot.bytesWrittenParts ++ Foot.sessionSendParts ++ Foot.abortParts)
  | .abortCollective .. => some (Foot.itemEndParts ++ Foot.bytesWrittenParts ++ Foot.sessionSendParts ++
    Foot.abortParts)
  | .abortTransaction .. => some (Foot.itemEndParts ++ Foot.bytesWrittenParts ++ Foot.sessionSendParts ++
    Foot.abortParts)
  | .abortLoad .. => some (Foot.itemEndParts ++ Foot.bytesWrittenParts ++ Foot.sessionSendParts ++ Foot.abortParts)
  | .eventAck .. => some (Foot.answerParts ++ [.evtLast, .evtGathered, .evtGatherAt, .evtOutstanding, .evtHeld,
    .cstHeld])
  | .eventAssert .. => some ([.out, .evtLast, .evtGathered, .evtGatherAt, .evtHeld, .cstHeld])
  | .eventDeliver .. => some ([.out, .ciphSlots, .evtGathered, .evtGatherAt, .evtCompletions, .evtOutstanding,
    .evtDelivered, .evtSeqs])
  | .eventResend .. => some ([.out, .ciphSlots, .evtOutstanding])
  | .mpEventHandled .. => some ([.out, .evtLast, .evtGathered, .evtGatherAt, .evtDelivered, .evtHeld, .cstHeld])
  | .pinChange .. => some ([.out, .seqItems, .arrLevel, .arrRampAt, .arrPrev, .evtLast, .evtGathered, .evtGatherAt,
    .evtHeld, .evtPins, .cstHeld, .pwrCappedAt])
  | .cstLinkTrained .. => some ([.out, .cstLinks, .cstChangedAt])
  | .cstLinkDown .. => some ([.out, .cstLinks, .cstChangedAt])
  | .linkStateReceive .. => some ([.out, .cstLinks, .cstChangedAt])
  | .routesInstalled => some (Foot.answerParts ++ [.cstChangedAt, .cstFwds, .cstTxnMembers, .cstCommits, .cstHeld,
    .cstPoleGone, .hostTxns])
  | .forwardedRequestReceive .. => none
  | .forwardResponseReceive .. => some (Foot.answerParts ++ [.cstFwds, .cstTxnMembers])
  | .cstPrepareReceive .. => some (Foot.itemEndParts ++ Foot.registerWriteParts)
  | .cstPrepareReplyReceive .. => some (Foot.itemEndParts ++ Foot.registerWriteParts ++ [.cstResults, .hostAsked,
    .hostAnswered])
  | .cstApplyReceive .. => some (Foot.itemEndParts ++ Foot.registerWriteParts ++ [.cstApplied])
  | .cstApplyAckReceive .. => some (Foot.answerParts ++ [.cstCommits])
  | .constellationMeridian .. => some ([.out, .cstMeridian])
  | .cstEventRecordReceive .. => some ([.evtGathered, .evtGatherAt, .evtCompletions])
  | .cstTokenPostReceive .. => some ([])
  | .cstMeridianReportReceive .. => some (Foot.itemEndParts ++ Foot.sessionSendParts ++ [.peerReady, .peerReleased,
    .peerIslands, .peerRecvDone, .peerPendingCommits, .cstReports])
  | .cstMeridianReceive .. => some (Foot.itemEndParts ++ Foot.sessionSendParts ++ [.peerReady, .peerReleased,
    .peerIslands, .peerRecvDone, .peerPendingCommits])
  | .cstMemberLost .. => some (Foot.itemEndParts ++ [.seqNextId])
  | .poleLost => some (Foot.itemEndParts ++ [.seqNextId, .cstPoleGone])
  | .promote .. => some ([.out, .evtGathered, .evtGatherAt, .evtCompletions, .cstFwds, .cstTxnMembers, .cstCommits,
    .cstHeld, .cstPoleGone, .hostTxns, .hostSnaps])
  | .activate => some (Foot.itemEndParts ++ [.seqNextId, .imgDeadlines, .imgActivating])
  | .discard => some ([.bpmBufs, .bpmQueue, .imgStaged])
  | .imageActivation .. => none
  | .disable .. => some (Foot.itemEndParts ++ [.seqNextId, .bistRuns, .imgDeadlines])
  | .enable .. => some ([.out, .ppeIntegrating, .ppeCal, .ppeCalDue, .bistRuns, .optBurstAt])
  | .twilightDeadline .. => some (Foot.itemEndParts ++ Foot.bytesWrittenParts ++ Foot.sessionSendParts ++
    Foot.circuitDropParts ++ Foot.eclipseParts ++ Foot.sectorLossParts ++ [.bistRuns, .bistSigs, .optMoving,
    .timeBases, .timeRoutes, .timeFollows, .cstLinks, .cstChangedAt, .cstResults, .hostAsked, .hostAnswered,
    .hostLoad, .imgSectors, .imgDeadlines, .imgPatch, .imgPurpose])
  | .unitDark .. => some (Foot.itemEndParts ++ Foot.bytesWrittenParts ++ Foot.sessionSendParts ++
    Foot.circuitDropParts ++ Foot.eclipseParts ++ Foot.sectorLossParts ++ [.bistRuns, .bistSigs, .optMoving,
    .timeBases, .timeRoutes, .timeFollows, .cstLinks, .cstChangedAt, .cstResults, .hostAsked, .hostAnswered,
    .hostLoad, .imgSectors, .imgDeadlines, .imgPatch, .imgPurpose])
  | .restart => some ([.imgFw])
  | .mpDrainLimit .. => some (Foot.answerParts ++ [.evtLast, .evtGathered, .evtGatherAt, .evtHeld, .cstHeld, .imgFw])
  | .mpReady .. => some ([.out, .evtLast, .evtGathered, .evtGatherAt, .evtHeld, .cstHeld, .imgFw])
  | .mpReadyTimeout => some ([.free, .imgFw])
  | .porstNAssert => none
  | .porstNRelease .. => some ([.now, .secStageAt, .pwrPorst, .pwrHeld, .pwrOff])
  | .sysrstN => none
  | .railsReady => some ([.now, .secStageAt, .pwrHeld])
  | .bootStageEnd .. => some ([.out, .evtLast, .evtGathered, .evtGatherAt, .evtHeld, .bistRuns, .cstHeld,
    .secStageAt])
  | .claim => some ([.free, .ciphK0, .hostReplay, .secBoot, .secOwners])
  | .addKey .. => some ([.free, .ciphK0, .hostReplay, .secBoot, .secOwners])
  | .revokeKey .. => some ([.free, .ciphK0, .hostReplay, .secBoot, .secOwners])
  | .release .. => some ([.free, .ciphK0, .hostReplay, .secBoot, .secOwners])
  | .quote => some ([.secReservedLeaf, .secQuote])
  | .quoteDone .. => some ([.secQuote])
  | .raise => some ([])
  | .persist => some ([.imgArea, .secPersisting])
  | .persistDone => some ([.imgArea, .secPersisting])
  | .idTreeBuilt => some ([])
  | .bistStart .. => some ([.bistRuns, .bistLastStart])
  | .bistEnd .. => some (Foot.itemEndParts ++ Foot.sectorLossParts ++ [.seqNextId, .memCells, .memPoison, .memLost,
    .memPages, .memRemirroring, .ciphSlots, .bistRuns, .bistLastStart, .bistCycle, .bistCycleEnd, .bistSigs, .bistNoc,
    .cstResults, .hostAsked, .hostAnswered, .hostLoad, .imgSectors, .imgDeadlines, .imgPatch, .imgPurpose])
  | .bistPeriod => some (Foot.itemEndParts ++ [.seqNextId, .bistBins, .bistRuns, .bistLastStart, .bistRetireAfter,
    .bistCycle, .bistCycleEnd, .bistSigs, .bistNoc, .imgDeadlines, .imgPurpose])
  | .runNow => some (Foot.itemEndParts ++ [.seqNextId, .bistBins, .bistRuns, .bistLastStart, .bistRetireAfter,
    .bistCycle, .bistCycleEnd, .bistSigs, .bistNoc, .imgDeadlines, .imgPurpose])
  | .unretire .. => some ([.bistRuns])
  | .vinChange .. => some ([.seqItems, .arrLevel, .arrRampAt, .arrPrev, .pwrOutAt, .pwrCappedAt])
  | .powerOff => none
  | .currentSample .. => some ([.seqItems, .arrLevel, .arrRampAt, .arrPrev, .pwrCalmAt, .pwrCappedAt])
  | .capLift => some (Foot.powerParts ++ [.arrLevel, .arrRampAt, .arrPrev])
  | .thermalReport .. => none
  | .refclkLost => some (Foot.powerParts)
  | .refclkFreeRun => some ([])
  | .refclkReturn => some ([])
  | .pllUnlock .. => some ([])
  | .pllRelocked => some (Foot.powerParts)
  | .softReset => none
  | .ttiRxAccept .. => some ([.linePorts])
  | .hostLinkChange .. => some ([])
  | .fabricDelivery .. => some ([.out, .fabSent])

/-- Commands that move bytes between addresses that a row, a context or the host names: they stop when one lies outside its
tier (log entry 81). -/
def Sys2Proof.Instr.moves : Instr → Bool
  | .itemIssue => false
  | .itemStart .. => false
  | .move .. => true
  | .reduce .. => true
  | .firstpass .. => true
  | .encode .. => true
  | .encodeResidualCopy .. => true
  | .decode .. => true
  | .project .. => true
  | .ortho .. => true
  | .seal .. => true
  | .openItem .. => true
  | .send .. => true
  | .recv .. => true
  | .circuitSetup .. => false
  | .circuitConfirm .. => false
  | .circuitRelease .. => false
  | .journal .. => true
  | .forecast .. => false
  | .forecastLowerEffect => false
  | .tokenWaitWatchdog .. => false
  | .armStep => false
  | .armIdle => false
  | .cancel => false
  | .swapStep => false
  | .swapIdle => false
  | .trackResume .. => false
  | .trackHalt .. => false
  | .trackAbort .. => false
  | .tokenWrite .. => false
  | .activeWindowWrite .. => false
  | .shadowWindowWrite .. => false
  | .reduceCountWait .. => false
  | .reduceRebuildDone .. => true
  | .arrayRedoDone .. => true
  | .ppeBandStart .. => true
  | .ppeBandFold .. => true
  | .ppeLockLost => false
  | .ppeLockReturn => false
  | .ppeLockWaitExpired .. => true
  | .ppeCalQuick => false
  | .ppeCalFull => false
  | .ppeCalPeriod => false
  | .ppeTempDelta .. => false
  | .ppeCalDone .. => false
  | .ppeCalTableWrite .. => false
  | .firstpassPinWait .. => false
  | .codebookInstallDeferred .. => false
  | .codebookRepeat .. => false
  | .submit .. => false
  | .adhocAdmit => false
  | .parkExpired .. => false
  | .helloReceive .. => false
  | .dataReceive .. => false
  | .abandonmentReceive .. => false
  | .ackReceive .. => false
  | .nakReceive .. => false
  | .probeRequestReceive .. => false
  | .probeReplyReceive .. => false
  | .codebookReceive .. => false
  | .stepReadyReceive .. => false
  | .stepCommitReceive .. => false
  | .epochReceive .. => false
  | .horizonReceive .. => false
  | .reconcileReceive .. => false
  | .correctionSent .. => false
  | .ackSend .. => false
  | .gapNak .. => false
  | .resendTimer .. => false
  | .probeSend => false
  | .routeSilence .. => false
  | .routeProveTimeout .. => false
  | .routeDisableWrite .. => false
  | .helloSend .. => false
  | .eclipseEntry .. => false
  | .meridian => false
  | .epochWaitExpired .. => false
  | .memberSuspect .. => false
  | .downProposal .. => false
  | .memberHoldExpired .. => false
  | .exactHoldExpired .. => false
  | .membershipTable .. => false
  | .membershipKeep .. => false
  | .rawDefectChange .. => false
  | .defectFastSet .. => false
  | .defectFastClear .. => false
  | .failureReportSet .. => false
  | .failureReportClear .. => false
  | .modAlertFall .. => false
  | .losFlagPoll .. => false
  | .gfpFrameReceive .. => false
  | .csfSend .. => false
  | .moduleRead .. => false
  | .moduleWrite .. => false
  | .moduleAccessDone .. => false
  | .gcsMapWrite .. => false
  | .gcsMapApply .. => false
  | .fabricRequestReceive .. => false
  | .fabricReplyReceive .. => false
  | .bulkReceive .. => true
  | .escapeTimeout .. => false
  | .bridgeFlush .. => false
  | .circuitTrained .. => false
  | .circuitSetupTimeout .. => false
  | .circuitReleased .. => false
  | .circuitTableWrite .. => false
  | .laserFailed .. => false
  | .spareSwitched .. => false
  | .lockLoopPeriod .. => false
  | .ringRelocked .. => false
  | .relockTimeout .. => false
  | .circuitNoLight .. => false
  | .moveFlitReceive .. => false
  | .circuitMoveDone .. => false
  | .alternateHoldExpired .. => false
  | .optCalFull .. => false
  | .optCalDone .. => false
  | .optXtWrite .. => false
  | .aprTrip .. => false
  | .aprBurst .. => false
  | .aprClear .. => false
  | .laserEnChange .. => false
  | .sectorFault .. => false
  | .pageRemap => false
  | .remirrorDone => false
  | .scrubPass .. => false
  | .cxlLinkDown .. => false
  | .contextFetch .. => false
  | .contextWindowWrite .. => false
  | .bufferGrant => false
  | .bufferHandoff .. => false
  | .bufferFree .. => false
  | .nocPacketReceive .. => false
  | .nocLinkFailed .. => false
  | .keyLoad .. => false
  | .keyEraseGraceful .. => false
  | .keyEraseImmediate .. => false
  | .keyEraseComplete .. => false
  | .keyRetire .. => false
  | .suspendedResume .. => false
  | .macsecFrameReceive .. => true
  | .gcsEncryptWrite .. => false
  | .portServe .. => false
  | .hostFrameReceive .. => true
  | .ptpMessageReceive .. => false
  | .timeSourceLost .. => false
  | .holdoverExpired .. => false
  | .tb0Revert => false
  | .timeReportSend => false
  | .timeReportReceive .. => false
  | .transferHoldoverExpired .. => false
  | .tcRelayReceive .. => false
  | .ppsInEdge => false
  | .ppsOutPulse => false
  | .asymWrite .. => false
  | .tbSecRead .. => false
  | .read .. => false
  | .write .. => false
  | .txnBegin .. => false
  | .txnCommit .. => false
  | .snapshotOpen .. => false
  | .snapshotClose .. => false
  | .txnExpired .. => false
  | .snapshotExpired .. => false
  | .hostAddressApply => false
  | .loadStructureImage .. => false
  | .loadSectorPatch .. => false
  | .loadFirmwareCopy .. => false
  | .hostBulkWrite .. => true
  | .hostBulkRead .. => true
  | .loadVerify .. => false
  | .abortItem .. => false
  | .abortTrack .. => false
  | .abortCollective .. => false
  | .abortTransaction .. => false
  | .abortLoad .. => false
  | .eventAck .. => false
  | .eventAssert .. => false
  | .eventDeliver .. => false
  | .eventResend .. => false
  | .mpEventHandled .. => false
  | .pinChange .. => false
  | .cstLinkTrained .. => false
  | .cstLinkDown .. => false
  | .linkStateReceive .. => false
  | .routesInstalled => false
  | .forwardedRequestReceive .. => true
  | .forwardResponseReceive .. => false
  | .cstPrepareReceive .. => false
  | .cstPrepareReplyReceive .. => false
  | .cstApplyReceive .. => false
  | .cstApplyAckReceive .. => false
  | .constellationMeridian .. => false
  | .cstEventRecordReceive .. => false
  | .cstTokenPostReceive .. => false
  | .cstMeridianReportReceive .. => false
  | .cstMeridianReceive .. => false
  | .cstMemberLost .. => false
  | .poleLost => false
  | .promote .. => false
  | .activate => false
  | .discard => false
  | .imageActivation .. => false
  | .disable .. => false
  | .enable .. => false
  | .twilightDeadline .. => false
  | .unitDark .. => false
  | .restart => false
  | .mpDrainLimit .. => false
  | .mpReady .. => false
  | .mpReadyTimeout => false
  | .porstNAssert => false
  | .porstNRelease .. => false
  | .sysrstN => false
  | .railsReady => false
  | .bootStageEnd .. => false
  | .claim => false
  | .addKey .. => false
  | .revokeKey .. => false
  | .release .. => false
  | .quote => false
  | .quoteDone .. => false
  | .raise => false
  | .persist => false
  | .persistDone => false
  | .idTreeBuilt => false
  | .bistStart .. => false
  | .bistEnd .. => false
  | .bistPeriod => false
  | .runNow => false
  | .unretire .. => false
  | .vinChange .. => false
  | .powerOff => false
  | .currentSample .. => false
  | .capLift => false
  | .thermalReport .. => false
  | .refclkLost => false
  | .refclkFreeRun => false
  | .refclkReturn => false
  | .pllUnlock .. => false
  | .pllRelocked => false
  | .softReset => false
  | .ttiRxAccept .. => false
  | .hostLinkChange .. => false
  | .fabricDelivery .. => false
end

