-- ==== Sys2Proof/Certificates/Slice0/Obligations.lean ====
section
/-! DEFINITION. The statements about the gateway that are to be proved: the machine as a whole first, then one group per family
of commands. A clause `Nexts (exec c s) P` says that the command completes and what holds after it. Rules are named where the
statement follows them. -/

open Sys2Proof Sys2Proof.Machine

/-! ### The machine as a whole -/

/-- One step carries out the command at the front of the queue on the state with the queue's rest; on an empty queue a cycle
of TCLK passes, which is the model's choice (log entry 2). -/
def Obligations.StepTakesTheFrontCommand : Prop :=
  (∀ (s : State) (c : Instr) (rest : List Instr), step { s with pending := c :: rest } = exec c { s with pending := rest }) ∧
  (∀ s : State, s.pending = [] → step s = .next { s with now := s.now + 1 })

/-- What reset leaves: nothing in the queue, nothing in memory beside what an unlisted byte reads as, no item, key, member or
image, every register at the value of its reset column, a few of them named. -/
def Obligations.ResetLeavesTheResetColumn : Prop :=
  State.reset.Canon ∧ State.reset.queueWf = true ∧ State.reset.pending = [] ∧ State.reset.seq.items = [] ∧
  State.reset.ciph.slots = [] ∧ State.reset.ciph.k0 = none ∧ State.reset.peer.members = [] ∧ State.reset.img.staged = none ∧
  State.reset.imageActive = false ∧ (∀ a, State.reset.word a = resetWord a) ∧
  (∀ tier addr, State.reset.rdByte tier addr = unlistedByte (memKey tier addr)) ∧
  State.reset.word (R.GLB_ID.addr 0) = 0x58940010 ∧ State.reset.word (R.SEQ_WATCHDOG.addr 0) = 1000 ∧
  State.reset.word (R.ARR_RAMP.addr 0) = 2000 ∧ State.reset.word (R.PEER_FAULT_CFG.addr 0) = 0x14007800320104 ∧
  (∀ p, p < 16 → State.reset.word (R.LINE_Pp_INTEG.addr p) = 0x6400196410) ∧
  State.reset.word (R.MEM_SCRUB.addr 0) = 24 ∧ State.reset.word (R.CIPH_CFG.addr 0) = 1000 ∧
  State.reset.word (R.HOST_CFG.addr 0) = 0xA000A0000C0A8 ∧ State.reset.word (R.PWR_THERM.addr 0) = 0x73645F ∧
  (∀ p, p < 1024 → State.reset.word (R.EVT_SRCs_CFG.addr p) = 0x10000)

/-- Every step keeps the register file and memory in their canonical forms, takes at most the front command from the queue and
adds none, and leaves the commands that wait well-formed. -/
def Obligations.EveryStepKeepsCanonicalFormAndQueue : Prop :=
  (∀ s : State, s.Canon → Keeps (step s) State.Canon) ∧
  (∀ s : State, Keeps (step s) fun t => t.pending = s.pending.tail) ∧
  (∀ s : State, s.queueWf = true → Keeps (step s) fun t => t.queueWf = true) ∧
  (∀ (c : Instr) (s : State), Keeps (exec c s) fun t => t.pending = s.pending)

/-- No command is ever refused by the model, and only the commands that move bytes between addresses named from outside can
end in a fault: every other command completes in every state. -/
def Obligations.EveryCommandOutsideMovesCompletes : Prop :=
  (∀ (c : Instr) (s : State) (r : Refusal), exec c s ≠ .refused r) ∧
  (∀ (c : Instr) (s : State), c.moves = false → Nexts (exec c s) fun _ => True) ∧
  (∀ s : State, (s.pending.any Instr.moves) = false → s.safe)

/-- The frame of the register file: a command changes no word outside the registers of its footprint. -/
def Obligations.RegistersOutsideTheFootprintStay : Prop :=
  ∀ (c : Instr) (s : State) (rs : List Reg), s.Canon → c.writes = some rs → Keeps (exec c s) (RegsBut rs s)

/-- The frame of every other part of the state, memory among them: a command changes no part outside its footprint, and one
whose footprint leaves memory out leaves every byte as it was. The count of cycles goes on but where PORST_N's release takes
effect, which starts it at zero. -/
def Obligations.PartsOutsideTheFootprintStay : Prop :=
  (∀ (c : Instr) (s : State) (ps : List Part) (p : Part), c.touches = some ps → p ∉ ps → Keeps (exec c s) fun t => p.same s t) ∧
  (∀ (c : Instr) (s : State) (ps : List Part), c.touches = some ps → .memCells ∉ ps → Keeps (exec c s) (SameMem s)) ∧
  (∀ (c : Instr) (s : State), Keeps (exec c s) fun t => t.now = s.now ∨
    t.now = 0 ∧ (c = .railsReady ∨ ∃ sel ready, c = .porstNRelease sel ready))

/-- Arming while a swap is already armed, or while no image is active (R98): refused without a fit check, the code in
SEQ_SWAP.RESULT, nothing armed. -/
def Obligations.ArmingIsRefusedWhileArmedOrWithoutImage : Prop :=
  ∀ (s : State) (c : Instr), s.Canon → c = .armStep ∨ c = .armIdle → s.seq.swap ≠ none ∨ s.imageActive = false →
    Nexts (exec c s) fun t => t.f F.SEQ_SWAP_RESULT = Status.refusedBusy.code ∧ t.seq = s.seq ∧ RegsBut [R.SEQ_SWAP] s t ∧
      t.f F.SEQ_SWAP_STATE = s.f F.SEQ_SWAP_STATE

/-- Every token counter is zero after an image activation, by IMAGE_ACTIVATION or in boot stage 6, and after every swap of the
Almanac sets (R72). -/
def Obligations.TokensAreClearedByActivationAndSwap : Prop :=
  (∀ s : State, s.Canon → s.stepSwapDue = true → Nexts (exec .swapStep s) fun t => ∀ i, i < 4096 → t.token i = 0) ∧
  (∀ s : State, s.Canon → s.idleSwapDue = true → Nexts (exec .swapIdle s) fun t => ∀ i, i < 4096 → t.token i = 0) ∧
  (∀ (s : State) (cxl : List Nat) (rej : Bool) (im : Image), s.Canon → s.img.staged = some im → s.img.activating = true →
    s.seq.items = [] → Nexts (exec (.imageActivation cxl rej) s) fun t => ∀ i, i < 4096 → t.token i = 0) ∧
  (∀ (s : State) (body : ImageBody) (cxl : List Nat) (rej : Bool) (im : Image), s.Canon → s.host.load = none → s.img.area = some im →
    s.f F.GLB_STATUS_STAGE = 6 → s.imageActive = false → s.bit F.SEC_STATUS_ACTIVE im.owner = true → s.seq.items = [] →
    s.f F.SEC_ROLLBACK_COUNTER ≤ im.version → im.version < 2 ^ 32 → (s.fitImage im cxl).1 = .done → im.kind = imFull →
    Nexts (exec (.loadVerify true body cxl rej [] none) s) fun t => ∀ i, i < 4096 → t.token i = 0)

/-- The anti-rollback counter (R707). RAISE sets it to the active image's version when that is higher, ends DONE without a
change when it is not, and is refused when no image is active; and no command of the machine, a reset among them, ever lowers
it. -/
def Obligations.AntiRollbackCounterNeverFalls : Prop :=
  (∀ s : State, s.Canon → s.imageActive = true → s.f F.SEC_ROLLBACK_COUNTER < s.f F.IMG_STATUS_VERSION →
    Nexts (exec .raise s) fun t => t.f F.SEC_ROLLBACK_COUNTER = s.f F.IMG_STATUS_VERSION ∧
      t.f F.SEC_CTRL_RESULT = Status.done.code ∧ RegsBut [R.SEC_ROLLBACK, R.SEC_CTRL] s t) ∧
  (∀ s : State, s.Canon → s.imageActive = true → s.f F.IMG_STATUS_VERSION ≤ s.f F.SEC_ROLLBACK_COUNTER →
    Nexts (exec .raise s) fun t => t.f F.SEC_CTRL_RESULT = Status.done.code ∧ RegsBut [R.SEC_CTRL] s t) ∧
  (∀ s : State, s.Canon → s.imageActive = false →
    Nexts (exec .raise s) fun t => t.f F.SEC_CTRL_RESULT = Status.refusedBusy.code ∧ RegsBut [R.SEC_CTRL] s t) ∧
  (∀ (c : Instr) (s : State), s.Canon → Keeps (exec c s) fun t => s.f F.SEC_ROLLBACK_COUNTER ≤ t.f F.SEC_ROLLBACK_COUNTER)

/-- What the vault die holds for good: no command changes the device identity or the claim key, and the reservation of identity
leaves never goes back (R6, R696, R697). -/
def Obligations.IdentityStaysAndLeavesAreNotGivenBack : Prop :=
  (∀ (c : Instr) (s : State), s.Canon → Keeps (exec c s) fun t => t.f F.SEC_DEVICE_DEVICE = s.f F.SEC_DEVICE_DEVICE ∧
    t.f F.GLB_DEVICE_DEVICE = s.f F.GLB_DEVICE_DEVICE) ∧
  (∀ (c : Instr) (s : State), Keeps (exec c s) fun t => s.sec.reservedLeaf ≤ t.sec.reservedLeaf ∧ t.sec.claimKey = s.sec.claimKey)

/-! ### The sequencer -/

/-- Issue, start and the watchdog (R66, R81, R74, R93, R94). A row issues once its wait set holds tokens and takes one from
each counter; an engine that accepts an item moves it to RUNNING, and an item it refuses ends with the refusal's status;
FORECAST commits with its level taken, and a fall takes effect 20 µs after its issue; a track that waits for tokens beyond
the limit raises WATCHDOG. -/
def Obligations.ItemsIssueStartAndForecast : Prop :=
  (∀ (s : State) (n : Nat), s.Canon → n < 16 → s.trackTries n = true → (∀ m, m < 16 → m ≠ n → s.trackTries m = false) →
    s.targetOut (s.activeRow (s.cursor n)) = false → s.tokensReady (rowWait (s.activeRow (s.cursor n))) = true →
    (s.trackItems n).length < 32 →
    Nexts (exec .itemIssue s) fun t => t.seq.nextId = s.seq.nextId + 1 ∧ t.seq.lastFirst = n ∧
      ∀ i ∈ rowWait (s.activeRow (s.cursor n)), i < 4096 → i ∉ rowPost (s.activeRow (s.cursor n)) →
        t.token i = s.token i - 1) ∧
  (∀ (s : State) (e : Nat) (it : Item), s.Canon → s.nextFor e = some it → s.item it.id = some it → s.startRes it = .go →
    (rowOpcode it.row = opCommit → (s.plannedSessions.any fun n => s.nativeCut n it.step) = false) →
    Nexts (exec (.itemStart e) s) fun t => ∃ j, t.item it.id = some j ∧ j.running = true ∧ j.row = it.row) ∧
  (∀ (s : State) (e : Nat) (it : Item) (st : Status), s.Canon → it.track < 16 → s.nextFor e = some it →
    s.item it.id = some it → s.startRes it = .refuse st ∨ s.startRes it = .fail st → Nexts (exec (.itemStart e) s) fun t => Ended s t it st) ∧
  (∀ (s : State) (id : Nat) (it : Item), s.Canon → it.track < 16 → s.runningItem id opForecast = some it →
    Nexts (exec (.forecast id) s) fun t => Ended s t it it.okStatus ∧ t.opt.level = rowLevel it.row ∧
      t.f F.SEQ_FORECAST_LEVEL = max (s.f F.SEQ_FORECAST_LEVEL) (rowLevel it.row)) ∧
  (∀ (s : State), s.Canon → (s.seq.forecasts.any fun f => s.elapsed f.at_ 20000) = true →
    s.settledLevel < s.f F.SEQ_FORECAST_LEVEL →
    Nexts (exec .forecastLowerEffect s) fun t => t.f F.SEQ_FORECAST_LEVEL = s.settledLevel) ∧
  (∀ (s : State) (n since : Nat), s.Canon → s.trackTries n = true → s.tokensReady (rowWait (s.activeRow (s.cursor n))) = false →
    0 < s.f F.SEQ_WATCHDOG_LIMIT → tfind n s.seq.waitAt = some since →
    since + s.f F.SEQ_WATCHDOG_LIMIT * 10 ^ 6 < s.now →
    Nexts (exec (.tokenWaitWatchdog n) s) fun t => t.f F.SEQ_EVENTS_WATCHDOG = 1)

/-- The host's track commands (R91, R105): RESUME restarts a halted track at its cursor, HALT stops it issuing and leaves
its items, and ABORT ends every item of the track and halts it with its cursor where it was. -/
def Obligations.TrackCommandsHaltResumeAbort : Prop :=
  (∀ (s : State) (n : Nat), s.Canon → n < 16 → s.track n = tkHalted →
    Nexts (exec (.trackResume n) s) fun t => t.track n = tkRunning ∧ t.cursor n = s.cursor n ∧ t.seq.items = s.seq.items) ∧
  (∀ (s : State) (n : Nat), s.Canon → n < 16 → s.track n = tkRunning ∨ s.track n = tkParked →
    Nexts (exec (.trackHalt n) s) fun t => t.track n = tkHalted ∧ t.cursor n = s.cursor n ∧ t.seq.items = s.seq.items) ∧
  (∀ (s : State) (n : Nat), s.Canon → n < 16 → s.trackTwilight n = false →
    Nexts (exec (.trackAbort n) s) fun t => t.track n = tkHalted ∧ t.cursor n = s.cursor n ∧ t.trackItems n = [])

/-- A swap is armed, disarmed and taken (R97, R99, R101 to R103). Arming with a clean fit check ends armed, for ARM_STEP at
the largest of the written step and the tracks' steps; CANCEL disarms and releases parked tracks; a due swap exchanges the
sets, clears every token counter and starts the enabled tracks. -/
def Obligations.SwapsArmCancelAndExchange : Prop :=
  (∀ (s : State), s.Canon → s.seq.swap = none → s.imageActive = true → s.f F.IMG_STATUS_STATE ≠ 4 →
    (s.fitSwap s.shadowSet).1 = .done → s.f F.CST_STATUS_MODE = 0 →
    Nexts (exec .armStep s) fun t => t.seq.swap = some .step ∧ t.f F.SEQ_SWAP_STATE = 1 ∧ t.f F.SEQ_SWAP_RESULT = 0 ∧
      t.f F.SEQ_STATUS_SWAP_ARMED = 1 ∧
      t.f F.SEQ_SWAP_STEP_STEP = ((List.range 16).map s.trackStep).foldl max (s.f F.SEQ_SWAP_STEP_STEP)) ∧
  (∀ (s : State), s.Canon → s.seq.swap = none → s.imageActive = true → s.f F.IMG_STATUS_STATE ≠ 4 →
    (s.fitSwap s.shadowSet).1 = .done →
    Nexts (exec .armIdle s) fun t => t.seq.swap = some .idle ∧ t.f F.SEQ_SWAP_STATE = 1 ∧ t.f F.SEQ_SWAP_RESULT = 0 ∧
      t.f F.SEQ_STATUS_SWAP_ARMED = 1) ∧
  (∀ (s : State), s.Canon → s.seq.swap ≠ none →
    Nexts (exec .armStep s) (fun t => t.seq.swap = s.seq.swap ∧ t.f F.SEQ_SWAP_RESULT = Status.refusedBusy.code) ∧
    Nexts (exec .armIdle s) (fun t => t.seq.swap = s.seq.swap ∧ t.f F.SEQ_SWAP_RESULT = Status.refusedBusy.code)) ∧
  (∀ (s : State), s.Canon → s.seq.swap ≠ none →
    Nexts (exec .cancel s) fun t => t.seq.swap = none ∧ t.f F.SEQ_SWAP_STATE = 3 ∧ t.f F.SEQ_STATUS_SWAP_ARMED = 0 ∧
      ∀ n, n < 16 → t.track n = if s.track n = tkParked then tkRunning else s.track n) ∧
  (∀ (s : State), s.Canon → s.stepSwapDue = true →
    Nexts (exec .swapStep s) fun t => t.seq.active = s.seq.shadow ∧ t.seq.shadow = s.seq.active ∧ t.seq.swap = none ∧
      t.f F.SEQ_SWAP_STATE = 2 ∧ t.f F.SEQ_EVENTS_SWAPPED = 1 ∧ t.f F.SEQ_ROWS_ACTIVE = s.f F.SEQ_ROWS_SHADOW ∧
      (∀ i, i < 4096 → t.token i = 0) ∧
      ∀ n, n < 16 → s.f F.SEQ_TKn_ENTRY_SHADOW_EN n = 1 → s.trackTwilight n = false →
        t.track n = tkRunning ∧ t.cursor n = s.f F.SEQ_TKn_ENTRY_SHADOW n ∧
        t.trackStep n = (s.f F.SEQ_SWAP_STEP_STEP + 1) % 2 ^ 64) ∧
  (∀ (s : State), s.Canon → s.idleSwapDue = true →
    Nexts (exec .swapIdle s) fun t => t.seq.active = s.seq.shadow ∧ t.seq.shadow = s.seq.active ∧ t.seq.swap = none ∧
      t.f F.SEQ_SWAP_STATE = 2 ∧ t.f F.SEQ_EVENTS_SWAPPED = 1 ∧ t.f F.SEQ_ROWS_ACTIVE = s.f F.SEQ_ROWS_SHADOW ∧
      (∀ i, i < 4096 → t.token i = 0) ∧
      ∀ n, n < 16 → s.f F.SEQ_TKn_ENTRY_SHADOW_EN n = 1 → s.trackTwilight n = false →
        t.track n = tkRunning ∧ t.cursor n = s.f F.SEQ_TKn_ENTRY_SHADOW n ∧
        t.trackStep n = (s.f F.SEQ_MERIDIAN_STEP + 1) % 2 ^ 64)

/-! ### The reduction array -/

/-- REDUCE (R121, R123 to R127). A contribution is folded into the entries of its stream one element each and commits; the
rounding item that finds every count full writes the rounded results and leaves its region clear; while its count is short
it waits, and past the watchdog limit COUNT_WAIT is set. -/
def Obligations.ReduceFoldsRoundsAndWaits : Prop :=
  (∀ (s : State) (id : Nat) (fx : Fx) (it : Item), s.Canon → it.track < 16 → tabWf (fun _ => Entry.zero) s.arr.acc = true →
    s.runningItem id opReduce = some it → it.phase = 0 → s.rebuilding (rowStream it.row) = false → s.absent it = false →
    rowDstValid it.row = false → s.fits [rowSrc it.row] = true → s.clean it fx = true → s.reduceDiffers it fx = false →
    s.capped = false →
    Nexts (exec (.reduce id fx) s) fun t => Ended s t it it.okStatus ∧
      ∀ e v, (s.reduceVals it)[e]? = some v →
        t.entry (rowStream it.row) e =
          (s.entry (rowStream it.row) e).fold ((s.addReduce it fx).laneConv (rowStream it.row)) 1 v) ∧
  (∀ (s : State) (id : Nat) (fx : Fx) (it : Item), s.Canon → it.track < 16 → s.runningItem id opReduce = some it →
    it.phase = 0 → s.rebuilding (rowStream it.row) = false → s.absent it = false → rowDstValid it.row = true →
    s.fits [rowSrc it.row, rowDst it.row] = true → s.clean it fx = true → s.reduceDiffers it fx = false → s.capped = false →
    (s.addReduce it fx).countsFull it = true →
    Nexts (exec (.reduce id fx) s) fun t => Ended s t it it.okStatus ∧
      Holds t (rowDst it.row).tier (rowDst it.row).addr
        ((encodeCodes ((fmtOf (s.ctx (rowStream it.row)).outFmt).getD .fp32)
          ((List.range (s.reduceVals it).length).map fun e =>
            ((s.addReduce it fx).entry (rowStream it.row) e).round ((fmtOf (s.ctx (rowStream it.row)).outFmt).getD .fp32)
              ((s.addReduce it fx).accBase (rowStream it.row)))).take (rowDst it.row).len) ∧
      ∀ kv ∈ t.arr.acc, kv.1 / 2 ^ 24 ≠ rowStream it.row) ∧
  (∀ (s : State) (id : Nat) (fx : Fx) (it : Item), s.Canon → s.runningItem id opReduce = some it → it.phase = 0 →
    s.rebuilding (rowStream it.row) = false → s.absent it = false → rowDstValid it.row = true →
    s.fits [rowSrc it.row, rowDst it.row] = true → s.clean it fx = true → s.reduceDiffers it fx = false →
    (s.addReduce it fx).countsFull it = false →
    Nexts (exec (.reduce id fx) s) fun t => t.item it.id = some { it with phase := 1, phaseAt := s.now }) ∧
  (∀ (s : State) (id : Nat) (it : Item), s.Canon → s.runningItem id opReduce = some it → it.phase = 1 →
    s.countsFull it = false → 0 < s.f F.SEQ_WATCHDOG_LIMIT → s.longer it.phaseAt (s.f F.SEQ_WATCHDOG_LIMIT * 10 ^ 6) = true →
    Nexts (exec (.reduceCountWait id) s) fun t => t.f F.ARR_EVENTS_COUNT_WAIT = 1) ∧
  (∀ (s : State) (id : Nat) (it : Item), s.Canon → s.runningItem id opProject = some it → it.phase = 1 →
    0 < s.f F.SEQ_WATCHDOG_LIMIT → s.longer it.phaseAt (s.f F.SEQ_WATCHDOG_LIMIT * 10 ^ 6) = true →
    Nexts (exec (.reduceCountWait id) s) fun t => t.f F.ARR_EVENTS_COUNT_WAIT = 1)

/-- The redo paths of the array (R146 to R148). A rebuild whose check agrees drops the chunk's entries, adds its contributions
again, makes the rebuilding sector the chunk's home, and then commits the item: at once without DST, with the rounded results in
DST when every count is full, and else the item waits for the full count. A redo whose check agrees folds the piece and commits
the item in the same three ways, makes the folds of a band of a PPE item, and writes the results of an ORTHO; a redo of the
rounding of a PROJECT writes its rounded results. A rebuild or redo that mismatches again ends the item
FAILED_CHECKSUM and sets REDO_FAILED. -/
def Obligations.RebuildAndRedoEndTheItem : Prop :=
  (∀ (s : State) (id sector : Nat) (it : Item), s.Canon → it.track < 16 → sector < 8 → s.runningItem id opReduce = some it →
    it.phase = 2 → rowDstValid it.row = false → s.fits [rowSrc it.row] = true → s.capped = false →
    Nexts (exec (.reduceRebuildDone id sector false) s) fun t => Ended s t it it.okStatus ∧
      (tfind (rowStream it.row) t.arr.home).map Prod.fst = some sector) ∧
  (∀ (s u : State) (id sector : Nat) (it : Item), s.Canon → it.track < 16 → sector < 8 → s.runningItem id opReduce = some it →
    it.phase = 2 → rowDstValid it.row = true → s.fits [rowSrc it.row, rowDst it.row] = true →
    u = (((s.helpDone id).updItem id fun i => { i with phase := 1, phaseAt := s.now }).rebuildAcc (rowStream it.row)).rehomeChunk
      (rowStream it.row) sector →
    Nexts (exec (.reduceRebuildDone id sector false) s) fun t =>
      if u.countsFull it = true then
        (s.capped = false → Ended s t it it.okStatus) ∧
        Holds t (rowDst it.row).tier (rowDst it.row).addr
          ((encodeCodes ((fmtOf (u.ctx (rowStream it.row)).outFmt).getD .fp32)
            ((List.range (u.reduceVals it).length).map fun e =>
              (u.entry (rowStream it.row) e).round ((fmtOf (u.ctx (rowStream it.row)).outFmt).getD .fp32)
                (u.accBase (rowStream it.row)))).take (rowDst it.row).len) ∧
        ∀ kv ∈ t.arr.acc, kv.1 / 2 ^ 24 ≠ rowStream it.row
      else t.item id = some { it with phase := 1, phaseAt := s.now } ∧ t.arr.acc = u.arr.acc) ∧
  (∀ (s : State) (id sector : Nat) (it : Item), s.Canon → it.track < 16 → sector < 8 → s.runningItem id opReduce = some it →
    it.phase = 2 →
    Nexts (exec (.reduceRebuildDone id sector true) s) fun t => Ended s t it .failedChecksum ∧
      t.f F.ARR_EVENTS_REDO_FAILED = 1) ∧
  (∀ (s : State) (id sector : Nat) (it : Item), s.Canon → it.track < 16 → sector < 8 → s.runningItem id opProject = some it →
    rowPpe it.row = false → it.phase = phRedo → rowDstValid it.row = false → s.fits (s.projectDescs it.row) = true →
    s.redoDiffers it = false → s.capped = false →
    Nexts (exec (.arrayRedoDone id sector false) s) fun t => Ended s t it it.okStatus ∧
      t.mem.cells = (s.foldTiles (descOf (s.opHdr it.row).acc) (s.pieceTiles it.row)).mem.cells) ∧
  (∀ (s u : State) (id sector : Nat) (it : Item), s.Canon → it.track < 16 → sector < 8 → s.runningItem id opProject = some it →
    rowPpe it.row = false → it.phase = phRedo → rowDstValid it.row = true → s.fits (s.projectDescs it.row) = true →
    s.redoDiffers it = false → u = s.foldTiles (descOf (s.opHdr it.row).acc) (s.pieceTiles it.row) →
    Nexts (exec (.arrayRedoDone id sector false) s) fun t =>
      if u.projectFull (u.opHdr it.row) = true then
        (s.capped = false → Ended s t it it.okStatus) ∧
        Holds t (rowDst it.row).tier (rowDst it.row).addr
          ((encodeCodes ((fmtOf (u.opHdr it.row).outFmt).getD .fp32) (u.projectCodes (u.opHdr it.row))).take (rowDst it.row).len)
      else t.item id = some { it with phase := 1, phaseAt := s.now } ∧ t.mem.cells = u.mem.cells) ∧
  (∀ (s : State) (id sector : Nat) (it : Item), s.Canon → it.track < 16 → sector < 8 → s.runningItem id opOrtho = some it →
    it.phase = phRedo → rowDstValid it.row = true → s.fits [rowDst it.row] = true → s.redoDiffers it = false → s.capped = false →
    Nexts (exec (.arrayRedoDone id sector false) s) fun t => Ended s t it it.okStatus ∧
      Holds t (rowDst it.row).tier (rowDst it.row).addr
        ((encodeCodes ((fmtOf (s.opHdr it.row).outFmt).getD .fp32) (s.orthoResult it.row).1).take (rowDst it.row).len)) ∧
  (∀ (s u : State) (id sector : Nat) (it : Item), s.Canon → it.track < 16 → sector < 8 → s.runningItem id opProject = some it →
    it.phase = phReround → rowDstValid it.row = true → s.fits (s.projectDescs it.row) = true → s.capped = false →
    u = s.makeFolds (descOf (s.opHdr it.row).acc) (s.heldFolds id) → u.projectFull (s.opHdr it.row) = true →
    u.projectFull (u.opHdr it.row) = true →
    Nexts (exec (.arrayRedoDone id sector false) s) fun t => Ended s t it it.okStatus ∧
      Holds t (rowDst it.row).tier (rowDst it.row).addr
        ((encodeCodes ((fmtOf (u.opHdr it.row).outFmt).getD .fp32) (u.projectCodes (u.opHdr it.row))).take (rowDst it.row).len)) ∧
  (∀ (s : State) (id sector : Nat) (it : Item), s.Canon → sector < 8 → s.runningItem id opProject = some it →
    rowPpe it.row = true → it.phase = phRedo → s.fits (s.projectDescs it.row) = true → s.redoDiffers it = false →
    s.unitDark unitPpe = false → s.ppe.band + 1 < bandCount (s.opHdr it.row) →
    Nexts (exec (.arrayRedoDone id sector false) s) fun t => t.item id = some { it with phase := 0 } ∧
      t.ppe.band = s.ppe.band + 1 ∧ Counted F.PPE_BANDS_COUNT 0 1 s t ∧
      t.ppe.folds = s.ppe.folds ++ arrayFolds (s.opHdr it.row) (s.bandOf it.row s.ppe.band)) ∧
  (∀ (s : State) (id sector : Nat) (it : Item), s.Canon → it.track < 16 → sector < 8 →
    s.runningItem id opProject = some it ∨ s.runningItem id opOrtho = some it → it.phase = phRedo ∨ it.phase = phReround →
    Nexts (exec (.arrayRedoDone id sector true) s) fun t => Ended s t it .failedChecksum ∧ t.f F.ARR_EVENTS_REDO_FAILED = 1)

/-- PROJECT and ORTHO on the array (R133, R136 to R138). A piece folds its tile partials into the accumulator region and
commits; the piece that completes every count rounds the results into DST; an ORTHO writes the orthogonalised P. -/
def Obligations.ProjectAndOrthoWriteResults : Prop :=
  (∀ (s : State) (id : Nat) (fx : Fx) (it : Item), s.Canon → it.track < 16 → s.runningItem id opProject = some it →
    it.phase = 0 → rowPpe it.row = false → rowDstValid it.row = false → s.fits (s.projectDescs it.row) = true →
    (s.readOps it fx).1 = .clean → fx.mismatch = false → s.pieceDiffers it.row = false → s.capped = false →
    Nexts (exec (.project id fx) s) fun t => Ended s t it it.okStatus ∧
      t.mem.cells = (s.foldTiles (descOf (s.opHdr it.row).acc) (s.pieceTiles it.row)).mem.cells) ∧
  (∀ (s u : State) (id : Nat) (fx : Fx) (it : Item), s.Canon → it.track < 16 → s.runningItem id opProject = some it →
    it.phase = 0 → rowPpe it.row = false → rowDstValid it.row = true → s.fits (s.projectDescs it.row) = true →
    (s.readOps it fx).1 = .clean → fx.mismatch = false → s.pieceDiffers it.row = false → s.capped = false →
    u = s.foldTiles (descOf (s.opHdr it.row).acc) (s.pieceTiles it.row) → u.projectFull (u.opHdr it.row) = true →
    Nexts (exec (.project id fx) s) fun t => Ended s t it it.okStatus ∧
      Holds t (rowDst it.row).tier (rowDst it.row).addr
        ((encodeCodes ((fmtOf (u.opHdr it.row).outFmt).getD .fp32) (u.projectCodes (u.opHdr it.row))).take (rowDst it.row).len)) ∧
  (∀ (s : State) (id : Nat) (fx : Fx) (it : Item), s.Canon → it.track < 16 → s.runningItem id opOrtho = some it →
    it.phase = 0 → rowDstValid it.row = true →
    s.fits [⟨(rowSrc it.row).tier, (rowSrc it.row).addr, max (rowSrc it.row).len
      (64 + ((s.opHdr it.row).rows * (s.opHdr it.row).rank * fmtBits (s.opHdr it.row).inFmt + 7) / 8)⟩, rowDst it.row] = true →
    (s.readOrtho it fx).1 = .clean → fx.mismatch = false → s.orthoDiffers it.row = false → s.capped = false →
    Nexts (exec (.ortho id fx) s) fun t => Ended s t it it.okStatus ∧
      Holds t (rowDst it.row).tier (rowDst it.row).addr
        ((encodeCodes ((fmtOf (s.opHdr it.row).outFmt).getD .fp32) (s.orthoResult it.row).1).take (rowDst it.row).len))

/-! ### The photonic engine -/

/-- Bands (R158, R161, R164, R165, R168 to R170). A band begins to integrate when the engine is ready and locked: its rows are
converted the first time, and a further integration is a repeat. After the last integration a band whose checksums agree adds its
folds and the next band is due; the last band's folds are made in the accumulator region as the item commits; the first mismatch
repeats the band, and the second has the array run it. -/
def Obligations.PpeBandsIntegrateAndFold : Prop :=
  (∀ (s : State) (id : Nat) (fx : Fx) (it : Item), s.Canon → s.ppeItem id = some it → s.f F.PPE_STATUS_STATE = 0 →
    s.ppe.integrating = false → s.f F.PPE_STATUS_LOCKED = 1 → s.fits (s.projectDescs it.row) = true →
    Nexts (exec (.ppeBandStart id fx) s) fun t => t.f F.PPE_STATUS_STATE = 1 ∧ t.ppe.integrating = true ∧ t.ppe.begun = true ∧
      if s.ppe.begun = true then Counted F.PPE_REPEAT_COUNT 0 1 s t
      else Counted F.PPE_CLIP_COUNT 0 (lineClips (s.bandOf it.row s.ppe.band).rows) s t) ∧
  (∀ (s : State) (id : Nat) (fx : Fx) (it : Item) (b : CodeBand), s.Canon → s.ppeItem id = some it → s.f F.PPE_STATUS_STATE = 1 →
    s.fits (s.projectDescs it.row) = true → (s.readOps it fx).1 = .clean → s.ppe.mismatches = 0 →
    s.ppe.band + 1 < bandCount (s.opHdr it.row) → b = s.codeBand it.row s.ppe.band →
    Nexts (exec (.ppeBandFold id fx) s) fun t => t.free = s.free + b.rows.length * b.cols.length * s.ints b ∧
      if s.bandMismatch b (s.bandSums b) = true then
        t.ppe.mismatches = 1 ∧ t.ppe.band = s.ppe.band ∧ t.ppe.folds = s.ppe.folds ∧ Counted F.PPE_MISMATCH_COUNT 0 1 s t ∧
          Counted F.PPE_REPEAT_COUNT 0 1 s t ∧ t.f F.PPE_EVENTS_MISMATCH = 1
      else
        t.ppe.band = s.ppe.band + 1 ∧ Counted F.PPE_BANDS_COUNT 0 1 s t ∧
          t.ppe.folds = s.ppe.folds ++ bandFolds (s.opHdr it.row) b (s.bandSums b)) ∧
  (∀ (s : State) (id : Nat) (fx : Fx) (it : Item) (b : CodeBand), s.Canon → it.track < 16 → s.ppeItem id = some it →
    s.f F.PPE_STATUS_STATE = 1 → s.fits (s.projectDescs it.row) = true → (s.readOps it fx).1 = .clean →
    bandCount (s.opHdr it.row) ≤ s.ppe.band + 1 → rowDstValid it.row = false → s.capped = false →
    b = s.codeBand it.row s.ppe.band → s.bandMismatch b (s.bandSums b) = false →
    Nexts (exec (.ppeBandFold id fx) s) fun t => Ended s t it it.okStatus ∧ t.ppe.item = none ∧
      t.mem.cells = (s.makeFolds (descOf (s.opHdr it.row).acc)
        (s.ppe.folds ++ bandFolds (s.opHdr it.row) b (s.bandSums b))).mem.cells) ∧
  (∀ (s : State) (id : Nat) (fx : Fx) (it : Item) (b : CodeBand), s.Canon → s.ppeItem id = some it → s.f F.PPE_STATUS_STATE = 1 →
    s.fits (s.projectDescs it.row) = true → (s.readOps it fx).1 = .clean → s.ppe.mismatches ≠ 0 →
    b = s.codeBand it.row s.ppe.band → s.bandMismatch b (s.bandSums b) = true →
    Nexts (exec (.ppeBandFold id fx) s) fun t => Counted F.PPE_FALLBACK_COUNT 0 1 s t ∧ t.f F.PPE_EVENTS_FALLBACK = 1)

/-- Lock (R171, R172, R455): a lock error beyond PPE_LOCK.TOL during an integration discards the band's partials, the waiting band is
integrated once every lock error is within TOL again, and past PPE_LOCK.WAIT the band runs on the array as a fallback. -/
def Obligations.PpeLockLossReturnAndExpiry : Prop :=
  (∀ (s : State) (ring err : Nat), s.Canon → s.f F.PPE_STATUS_STATE = 1 → (ring, err) ∈ s.ppe.lockErr → s.f F.PPE_LOCK_TOL < err →
    Nexts (exec .ppeLockLost s) fun t => t.f F.PPE_STATUS_STATE = 4 ∧ t.f F.PPE_STATUS_LOCKED = 0 ∧
      t.ppe.integrating = false ∧ t.f F.PPE_EVENTS_LOCK_LOST = 1 ∧ t.ppe.band = s.ppe.band ∧ t.ppe.folds = s.ppe.folds) ∧
  (∀ (s : State) (id : Nat) (it : Item), s.Canon → s.f F.PPE_STATUS_STATE = 4 → s.ppe.item = some id →
    s.item id = some it → (∀ e ∈ s.ppe.lockErr, e.2 ≤ s.f F.PPE_LOCK_TOL) →
    Nexts (exec .ppeLockReturn s) fun t => t.f F.PPE_STATUS_STATE = 1 ∧ t.f F.PPE_STATUS_LOCKED = 1 ∧
      t.ppe.integrating = true ∧ t.ppe.lockLostAt = none ∧
      if s.ppe.begun = true then Counted F.PPE_REPEAT_COUNT 0 1 s t
      else Counted F.PPE_CLIP_COUNT 0 (lineClips (s.bandOf it.row s.ppe.band).rows) s t) ∧
  (∀ (s : State) (fx : Fx) (id t0 : Nat) (it : Item), s.Canon → s.ppe.item = some id → s.ppe.lockLostAt = some t0 →
    s.item id = some it → s.f F.PPE_STATUS_STATE = 4 → s.elapsed t0 (s.f F.PPE_LOCK_WAIT * 1000) = true →
    s.fits (s.projectDescs it.row) = true → fx.mismatch = false →
    tilesDiffer (s.opHdr it.row).wide (s.f F.ARR_ABFT_TOL) (max 1 (s.opHdr it.row).rank)
      (bandTiles (s.opHdr it.row) (s.bandOf it.row s.ppe.band)) = false →
    Nexts (exec (.ppeLockWaitExpired fx) s) fun t => Counted F.PPE_FALLBACK_COUNT 0 1 s t ∧ Counted F.PPE_BANDS_COUNT 0 1 s t ∧
      t.f F.PPE_EVENTS_FALLBACK = 1)

/-- Calibration (R174, R176, R177): QUICK, the period and a temperature move start a quick calibration between bands; FULL
starts a full one, and is refused while a PPE item is in flight; a calibration's end leaves RESULT, and the engine FAILED
when a part lies outside its limits. -/
def Obligations.PpeCalibrationStartsAndEnds : Prop :=
  (∀ (s : State), s.Canon → s.ppe.cal = none → s.f F.PPE_STATUS_STATE = 0 ∨ s.f F.PPE_STATUS_STATE = 5 →
    Nexts (exec .ppeCalQuick s) fun t => t.ppe.cal = some (.quick, s.now) ∧ t.f F.PPE_STATUS_STATE = 2) ∧
  (∀ (s : State), s.Canon → s.ppe.cal = none → s.ppeInFlight = false → s.f F.PPE_STATUS_STATE = 0 ∨ s.f F.PPE_STATUS_STATE = 5 →
    Nexts (exec .ppeCalFull s) fun t => t.ppe.cal = some (.full, s.now) ∧ t.f F.PPE_STATUS_STATE = 3) ∧
  (∀ (s : State), s.Canon → s.ppeInFlight = true →
    Nexts (exec .ppeCalFull s) fun t => t.ppe.cal = s.ppe.cal ∧ t.f F.PPE_CAL_STATUS_RESULT = Status.refusedBusy.code) ∧
  (∀ (s : State), s.Canon → s.ppe.cal = none → s.f F.PPE_STATUS_STATE = 0 ∨ s.f F.PPE_STATUS_STATE = 5 →
    0 < s.f F.PPE_CAL_PERIOD → s.elapsed s.ppe.calEndedAt (s.f F.PPE_CAL_PERIOD * 10 ^ 6) = true →
    Nexts (exec .ppeCalPeriod s) fun t => t.ppe.cal = some (.quick, s.now) ∧ t.f F.PPE_STATUS_STATE = 2) ∧
  (∀ (s : State) (temp : Nat), s.Canon → temp < 2 ^ 16 → s.ppe.cal = none → s.f F.PPE_STATUS_STATE = 0 ∨ s.f F.PPE_STATUS_STATE = 5 →
    4 * s.f F.PPE_CAL_TEMP_DELTA < (signed16 temp - signed16 (s.f F.PPE_TEMP_AT_CAL)).natAbs →
    Nexts (exec (.ppeTempDelta temp) s) fun t => t.f F.PPE_TEMP_NOW = temp ∧ t.ppe.cal = some (.quick, s.now) ∧
      t.f F.PPE_STATUS_STATE = 2) ∧
  (∀ (s : State) (dark gain xt : List (Nat × Nat)) (lanes cols : List Nat) (kind : CalKind) (t0 : Nat), s.Canon →
    s.ppe.cal = some (kind, t0) → s.elapsed t0 (if kind = .quick then 20000 else 20000000) = true → s.ppe.calDue = false →
    Nexts (exec (.ppeCalDone dark gain xt lanes cols) s) fun t => t.ppe.cal = none ∧ t.f F.PPE_EVENTS_CAL_DONE = 1 ∧
      t.f F.PPE_TEMP_AT_CAL = s.f F.PPE_TEMP_NOW ∧
      (lanes = [] → cols = [] → badGains gain = [] → t.f F.PPE_CAL_STATUS_RESULT = 0 ∧
        (s.ppe.failed = false ∨ kind = .full → t.ppe.failed = false ∧ t.f F.PPE_STATUS_STATE = 0)) ∧
      (¬ (lanes = [] ∧ cols = [] ∧ badGains gain = []) → t.f F.PPE_CAL_STATUS_RESULT = Status.failedChecksum.code ∧
        t.ppe.failed = true ∧ t.f F.PPE_STATUS_STATE = 5))

/-! ### Items that move, code and seal data -/

/-- MOVE (R80, R361, R431). With DST its bytes are copied there and every other byte stays; without DST they go to the
stream's live circuit, and an item whose circuit is not live ends FAILED_LINK. A source that cannot be read ends the item
FAILED_CHECKSUM (R36). -/
def Obligations.MoveCopiesOrSendsOnCircuit : Prop :=
  (∀ (s : State) (id : Nat) (fx : Fx) (it : Item), s.Canon → it.track < 16 → s.runningItem id opMove = some it →
    rowDstValid it.row = true → s.fits [rowSrc it.row, rowDst it.row] = true → s.clean it fx = true →
    Nexts (exec (.move id fx) s) fun t => Ended s t it it.okStatus ∧
      Holds t (rowDst it.row).tier (rowDst it.row).addr
        ((s.rdBytes (rowSrc it.row).tier (rowSrc it.row).addr (rowSrc it.row).len).take (rowDst it.row).len) ∧
      MemBut (rowDst it.row).tier (rowDst it.row).addr (min (rowSrc it.row).len (rowDst it.row).len) s t) ∧
  (∀ (s : State) (id : Nat) (fx : Fx) (it : Item), s.Canon → it.track < 16 → s.runningItem id opMove = some it →
    rowDstValid it.row = false → s.fits [rowSrc it.row] = true → s.clean it fx = true →
    s.circuitLive (s.circuitIx it.row) = true →
    Nexts (exec (.move id fx) s) fun t => Ended s t it it.okStatus ∧ SameMem s t ∧
      .circuit (s.circuitIx it.row) (s.rdBytes (rowSrc it.row).tier (rowSrc it.row).addr (rowSrc it.row).len) ∈ t.out) ∧
  (∀ (s : State) (id : Nat) (fx : Fx) (it : Item), s.Canon → it.track < 16 → s.runningItem id opMove = some it →
    rowDstValid it.row = false → s.fits [rowSrc it.row] = true → s.clean it fx = true →
    s.circuitLive (s.circuitIx it.row) = false →
    Nexts (exec (.move id fx) s) fun t => Ended s t it .failedLink ∧ SameMem s t ∧ t.f F.FAB_EVENTS_CIRCUIT_FAIL = 1) ∧
  (∀ (s : State) (id : Nat) (fx : Fx) (it : Item), s.Canon → it.track < 16 → s.runningItem id opMove = some it →
    s.fits (rowSrc it.row :: if rowDstValid it.row then [rowDst it.row] else []) = true →
    (s.readSrc it.id (rowSrc it.row) fx).1 = .failed →
    Nexts (exec (.move id fx) s) fun t => Ended s t it .failedChecksum ∧ SameMem s t)

/-- SEND, RECV and JOURNAL (R80, R268, R304, R308, R364, R365). A SEND offers its line blocks and ends once every one is acknowledged;
a RECV ends when its chunk is held, its bytes in DST, and one whose chunk was abandoned fails; in a group of one site both end at
once and move nothing. A JOURNAL of a committed step writes nothing, and one of a later step writes the CODEBOOK records it needs,
then its own record, encrypted and indexed. -/
def Obligations.SendRecvAndJournalComplete : Prop :=
  (∀ (s : State) (id : Nat) (fx : Fx) (it : Item), s.Canon → s.runningItem id opSend = some it → s.solo it.row = false →
    it.phase = 0 → s.fits [rowSrc it.row] = true → s.clean it fx = true → s.blocksOf (rowSrc it.row) ≠ [] →
    Nexts (exec (.send id fx) s) fun t => ∃ j, t.item id = some j ∧ j.phase = 1 ∧
      j.seqs = (s.blocksOf (rowSrc it.row)).map LineBlk.seq) ∧
  (∀ (s : State) (id : Nat) (fx : Fx) (it : Item), s.Canon → it.track < 16 → s.runningItem id opSend = some it →
    s.solo it.row = false → it.phase = 1 →
    (∀ b ∈ (s.sess (s.ctx (rowStream it.row)).session).tx, b.item = some id → b.phase = .acked) →
    Nexts (exec (.send id fx) s) fun t => Ended s t it it.okStatus ∧ SameMem s t) ∧
  (∀ (s : State) (id : Nat) (fx : Fx) (it : Item), s.Canon → it.track < 16 → s.runningItem id opSend = some it →
    s.solo it.row = true → Nexts (exec (.send id fx) s) fun t => Ended s t it it.okStatus ∧ SameMem s t ∧ t.out = s.out) ∧
  (∀ (s : State) (id : Nat) (it : Item) (c : RxChunk), s.Canon → it.track < 16 → s.runningItem id opRecv = some it →
    s.solo it.row = false → s.fits [rowDst it.row] = true → s.recvChunk it = some c → c.failed = false →
    Nexts (exec (.recv id) s) fun t => Ended s t it it.okStatus ∧
      Holds t (rowDst it.row).tier (rowDst it.row).addr (c.bytes.take (rowDst it.row).len) ∧
      MemBut (rowDst it.row).tier (rowDst it.row).addr (min c.bytes.length (rowDst it.row).len) s t) ∧
  (∀ (s : State) (id : Nat) (it : Item) (c : RxChunk), s.Canon → it.track < 16 → s.runningItem id opRecv = some it →
    s.solo it.row = false → s.fits [rowDst it.row] = true → s.recvChunk it = some c → c.failed = true →
    Nexts (exec (.recv id) s) fun t => Ended s t it .failedResendLimit ∧ SameMem s t) ∧
  (∀ (s : State) (id : Nat) (it : Item), s.Canon → it.track < 16 → s.runningItem id opRecv = some it →
    s.solo it.row = true → Nexts (exec (.recv id) s) fun t => Ended s t it it.okStatus ∧ SameMem s t) ∧
  (∀ (s : State) (id : Nat) (fx : Fx) (it : Item), s.Canon → it.track < 16 → s.runningItem id opJournal = some it →
    it.phase = 1 →
    Nexts (exec (.journal id fx) s) fun t => Ended s t it it.okStatus ∧ SameMem s t ∧ t.peer.journal = s.peer.journal) ∧
  (∀ (s u : State) (id : Nat) (fx : Fx) (it : Item) (k gen tier a : Nat) (g : KeyGen), s.Canon → it.track < 16 →
    s.runningItem id opJournal = some it → it.phase = 0 → s.fits [rowSrc it.row] = true →
    s.clean it fx = true → it.key = some (k, gen) →
    u = s.journalBooks it k gen (if s.peer.islands.contains it.step then 2 else 1) (s.sealBytes it) → u.genOf k gen = some g →
    u.journalPlace (64 + (s.sealBytes it).length) = some (tier, a) →
    Nexts (exec (.journal id fx) s) fun t => Ended s t it it.okStatus ∧
      Holds t tier a (ctrRecord g g.records
        (recHeader it.step (rowStream it.row) ((s.seg (s.ctx (rowStream it.row))).kind + 1)
          (if s.peer.islands.contains it.step then 2 else 1) (s.sealBytes it).length (cbHeadOf (s.sealBytes it)).block ++
          s.sealBytes it)) ∧
      ∃ r, t.peer.journal = u.peer.journal ++ [r] ∧ r.step = it.step ∧ r.tier = tier ∧ r.addr = a ∧ r.number = g.records)

/-- Fixed-rate compression (R192, R195, R199, R203, R213, R221, R222, R227, R229, R268). ENCODE writes its cblocks and leaves the new
residuals to the copy that follows; on a low-rank stream it writes its elements, or leaves their residuals; DECODE writes the decoded
bytes with their checksum record, fails on a generation that is not held or on a cblock of another shape that no peer sent, and in a
group of one site stands for the site's own contribution; FIRSTPASS installs the next generation fitted to its histogram. -/
def Obligations.CompressionItemsWriteBlocks : Prop :=
  (∀ (s : State) (id : Nat) (fx : Fx) (it : Item) (g : Seg) (sp : Nat × Nat × Nat) (x : List Desc), s.Canon → it.track < 16 →
    s.runningItem id opEncode = some it → g = s.seg (s.ctx (rowStream it.row)) → sp = s.encodeSpan it → g.lowrank = false →
    rowDstValid it.row = true → x = (s.ctx (rowStream it.row)).segDesc :: formDescs g sp.2.1 sp.2.2 →
    s.fits (rowSrc it.row :: x ++ [rowDst it.row]) = true → (s.readMany it.id (rowSrc it.row) x fx).1 = .clean →
    Nexts (exec (.encode id fx) s) fun t => Ended s t it it.okStatus ∧
      Holds t (rowDst it.row).tier (rowDst it.row).addr ((s.encodeBlocks it).flatMap BlockOut.bytes) ∧
      Counted F.CMP_ENC_BLOCKS_COUNT 0 (s.encodeBlocks it).length s t ∧
      (g.hasResid = true → t.cmp.copies = s.cmp.copies ++
        [ResidCopy.mk it.id g.resid.tier (g.resid.addr + 4 * sp.2.1)
          (residBytes ((s.encodeBlocks it).flatMap BlockOut.resid)) s.exact])) ∧
  (∀ (s : State) (id : Nat) (fx : Fx) (it : Item) (g : Seg) (sp : Nat × Nat × Nat) (x : List Desc), s.Canon → it.track < 16 →
    s.runningItem id opEncode = some it → g = s.seg (s.ctx (rowStream it.row)) → sp = s.encodeSpan it → g.lowrank = true →
    rowDstValid it.row = true → x = (s.ctx (rowStream it.row)).segDesc :: formDescs g sp.2.1 sp.2.2 →
    s.fits (rowSrc it.row :: x ++ [rowDst it.row]) = true → (s.readMany it.id (rowSrc it.row) x fx).1 = .clean →
    Nexts (exec (.encode id fx) s) fun t => Ended s t it it.okStatus ∧ t.cmp.copies = s.cmp.copies ∧
      Holds t (rowDst it.row).tier (rowDst it.row).addr
        ((encodeCodes ((fmtOf g.outFmt).getD .fp32) (((List.range sp.2.2).map fun i =>
          s.xElem g (rowSrc it.row) i (sp.2.1 + i)).map ((fmtOf g.outFmt).getD .fp32).encodeVal)).take (rowDst it.row).len)) ∧
  (∀ (s : State) (id : Nat) (fx : Fx) (it : Item) (g : Seg) (sp : Nat × Nat × Nat) (x : List Desc), s.Canon → it.track < 16 →
    s.runningItem id opEncode = some it → g = s.seg (s.ctx (rowStream it.row)) → sp = s.encodeSpan it → g.lowrank = true →
    rowDstValid it.row = false → x = (s.ctx (rowStream it.row)).segDesc :: formDescs g sp.2.1 sp.2.2 ++
      [Desc.mk g.recon.tier (g.recon.addr + 4 * sp.2.1) (4 * sp.2.2)] →
    s.fits (rowSrc it.row :: x) = true → (s.readMany it.id (rowSrc it.row) x fx).1 = .clean →
    Nexts (exec (.encode id fx) s) fun t => Ended s t it it.okStatus ∧ SameMem s t ∧
      (g.hasResid = true → ∃ rs : List Val, rs.length = sp.2.2 ∧ t.cmp.copies = s.cmp.copies ++
        [ResidCopy.mk it.id g.resid.tier (g.resid.addr + 4 * sp.2.1) (residBytes rs) s.exact])) ∧
  (∀ (s : State) (item : Nat) (c : ResidCopy), s.Canon → s.cmp.copies.find? (fun c => c.item = item) = some c →
    s.inTier c.tier c.addr c.bytes.length = true →
    Nexts (exec (.encodeResidualCopy item) s) fun t => Holds t c.tier c.addr c.bytes ∧
      MemBut c.tier c.addr c.bytes.length s t ∧ t.cmp.copies = s.cmp.copies.erase c) ∧
  (∀ (s : State) (id : Nat) (fx : Fx) (it : Item) (g : Seg), s.Canon → it.track < 16 → s.runningItem id opDecode = some it →
    g = s.seg (s.ctx (rowStream it.row)) →
    s.solo it.row = false ∨ (s.ctx (rowStream it.row)).keySlot = 0 ∨ (s.ctx (rowStream it.row)).send = true →
    ¬ (it.phase = 1 ∧ (s.cmp.refetch.any fun r => r.1 = id) = true) →
    s.fits [rowSrc it.row, rowDst it.row] = true →
    (s.readMany it.id (rowSrc it.row) [(s.ctx (rowStream it.row)).segDesc] fx).1 = .clean → s.decodeStop it = none →
    Nexts (exec (.decode id fx) s) fun t => Ended s t it it.okStatus ∧
      Holds t (rowDst it.row).tier (rowDst it.row).addr (s.decodeBytes it) ∧
      Counted F.CMP_DEC_BLOCKS_COUNT 0 (s.decodePlan it).length s t ∧
      (rowSrcBits it.row ≠ rowDstBits it.row → ∃ r ∈ t.arr.decRecs, { r with off := 0, len := 0 } =
        decRecOf (rowDstBits it.row) (if g.rate = 0xF then [] else decodeElems g.outFmt (s.decodeBytes it)))) ∧
  (∀ (s : State) (id : Nat) (fx : Fx) (it : Item), s.Canon → it.track < 16 → s.runningItem id opDecode = some it →
    s.solo it.row = true → (s.ctx (rowStream it.row)).keySlot ≠ 0 → (s.ctx (rowStream it.row)).send = false →
    s.fits [rowDst it.row] = true →
    Nexts (exec (.decode id fx) s) fun t => Ended s t it it.okStatus ∧
      Holds t (rowDst it.row).tier (rowDst it.row).addr (s.soloBytes it)) ∧
  (∀ (s : State) (id : Nat) (fx : Fx) (it : Item) (h : CbHead), s.Canon → it.track < 16 →
    s.runningItem id opDecode = some it →
    s.solo it.row = false ∨ (s.ctx (rowStream it.row)).keySlot = 0 ∨ (s.ctx (rowStream it.row)).send = true →
    ¬ (it.phase = 1 ∧ (s.cmp.refetch.any fun r => r.1 = id) = true) →
    s.fits [rowSrc it.row, rowDst it.row] = true → s.decodeStop it = some (.gone h) →
    Nexts (exec (.decode id fx) s) fun t => Ended s t it .failedTableGone ∧ SameMem s t ∧
      Counted F.CMP_TABLE_GONE_COUNT 0 1 s t) ∧
  (∀ (s : State) (id : Nat) (fx : Fx) (it : Item) (c i : Nat) (h : CbHead), s.Canon → it.track < 16 →
    s.runningItem id opDecode = some it →
    s.solo it.row = false ∨ (s.ctx (rowStream it.row)).keySlot = 0 ∨ (s.ctx (rowStream it.row)).send = true →
    ¬ (it.phase = 1 ∧ (s.cmp.refetch.any fun r => r.1 = id) = true) →
    s.fits [rowSrc it.row, rowDst it.row] = true → s.decodeStop it = some (.length c i h) → s.cmp.opens = [] →
    Nexts (exec (.decode id fx) s) fun t => Ended s t it .failedLength ∧ SameMem s t ∧ Counted F.CMP_LENGTH_COUNT 0 1 s t) ∧
  (∀ (s : State) (id : Nat) (fx : Fx) (it : Item) (g : Seg), s.Canon → it.track < 16 → s.runningItem id opFirstpass = some it →
    g = s.seg (s.ctx (rowStream it.row)) → it.phase = 0 → s.capped = false →
    s.fits (rowSrc it.row :: formDescs g 0 (min g.elems ((rowSrc it.row).len / fmtSize g.inFmt))) = true →
    (s.readMany it.id (rowSrc it.row) ((s.ctx (rowStream it.row)).segDesc ::
      formDescs g 0 (min ((rowSrc it.row).len / fmtSize g.inFmt) g.elems)) fx).1 = .clean →
    (∀ old, s.prevBook g.cbSlot = some old → s.mayRetire (rowStream it.row) old = true) →
    Nexts (exec (.firstpass id fx) s) fun t => Ended s t it it.okStatus ∧ Counted F.CMP_FIRSTPASS_COUNT 0 1 s t ∧
      ∃ b, t.curBook g.cbSlot = some b ∧
        b.gen = (match s.curBook g.cbSlot with | some o => (o.gen + 1) % 256 | none => 1) ∧
        (b.lim, b.levels) = fitBook g.rate ((s.firstpassBlocks it).flatMap blockBins)) ∧
  (∀ (s : State) (id : Nat) (it : Item), s.Canon → s.runningItem id opFirstpass = some it → it.phase = 1 →
    0 < s.f F.SEQ_WATCHDOG_LIMIT → s.longer it.phaseAt (s.f F.SEQ_WATCHDOG_LIMIT * 10 ^ 6) = true →
    Nexts (exec (.firstpassPinWait id) s) fun t => t.f F.CMP_EVENTS_PIN_WAIT = 1)

/-- Codebooks between sites (R225, R295): a deferred CODEBOOK is installed and acknowledged once the generation it retires, if any,
has no pins, and a CODEBOOK without acknowledgement is sent again. -/
def Obligations.CodebooksInstallAndRepeat : Prop :=
  (∀ (s : State) (slot : Nat) (w : BookWait), s.Canon → s.cmp.waits.find? (fun w => w.slot = slot) = some w →
    (∀ old, s.mustRetire slot = some old → s.bookPins slot old.gen = 0) →
    Nexts (exec (.codebookInstallDeferred slot) s) fun t => (t.curBook slot).map Book.body = some { w.body with step := w.body.step % 2 ^ 32 } ∧
      t.cmp.waits = (s.cmp.waits.filter fun x => !(decide (x.slot = slot) && decide (x.body.gen = w.body.gen))) ∧
      (w.stream, w.body.gen, 8) ∈ (t.sess w.session).cbAcks) ∧
  (∀ (s : State) (n slot gen : Nat) (b : BookSend) (k : Book), s.Canon →
    s.cmp.sends.find? (fun b => b.session = n ∧ b.slot = slot ∧ b.gen = gen) = some b → s.bookOf slot gen = some k →
    (∀ x ∈ (s.sess n).tx, x.kind = kCodebook → x.localStream = b.stream → x.phase = .acked) →
    s.elapsed b.sentAt (3 * max (s.rtt n 0) (s.rtt n 1) / 2 + 200000) = true →
    Nexts (exec (.codebookRepeat n slot gen) s) fun t =>
      t.cmp.sends = (s.cmp.sends.filter fun x => x ≠ b) ++ [BookSend.mk n slot b.stream gen s.now])

/-- SEAL and OPEN (R268, R276, R528, R543, R544). SEAL writes line blocks that carry the sequences and the generation latched at
its start, and ends FAILED_KEY_ERASED when that generation has been erased; OPEN writes the plaintext only when every tag passes,
asks once for fresh copies of the blocks that fail, and ends FAILED_TAG when a fresh copy fails again; in a group of one site it
ends at once. -/
def Obligations.SealAndOpenUseTheLatchedKey : Prop :=
  (∀ (s : State) (id k gen : Nat) (fx : Fx) (busy : List (Nat × Nat × Nat × Nat)) (it : Item) (g : KeyGen), s.Canon →
    it.track < 16 → s.runningItem id opSeal = some it → s.fits [rowSrc it.row, rowDst it.row] = true → s.clean it fx = true →
    it.key = some (k, gen) → s.genOf k gen = some g →
    Nexts (exec (.seal id fx busy) s) fun t => Ended s t it it.okStatus ∧
      t.rdByte (rowDst it.row).tier ((rowDst it.row).addr + 13) = BitVec.ofNat 8 g.gen ∧
      t.rdBytes (rowDst it.row).tier ((rowDst it.row).addr + 4) 4 = beBytes 4 (it.seqs.getD 0 0)) ∧
  (∀ (s : State) (id k gen : Nat) (fx : Fx) (busy : List (Nat × Nat × Nat × Nat)) (it : Item), s.Canon →
    it.track < 16 → s.runningItem id opSeal = some it → s.fits [rowSrc it.row, rowDst it.row] = true → s.clean it fx = true →
    it.key = some (k, gen) → s.genOf k gen = none →
    Nexts (exec (.seal id fx busy) s) fun t => Ended s t it .failedKeyErased ∧ SameMem s t) ∧
  (∀ (s : State) (id : Nat) (fx : Fx) (busy : List (Nat × Nat × Nat × Nat)) (it : Item), s.Canon → it.track < 16 →
    s.runningItem id opOpen = some it → s.solo it.row = false →
    ¬ (it.phase = 1 ∧ (s.cmp.refetch.any fun r => r.1 = id) = true) →
    s.fits [rowSrc it.row, rowDst it.row] = true → s.clean it fx = true →
    ((s.blocksOf (rowSrc it.row)).all fun b => (s.openOne it b).isSome) = true →
    Nexts (exec (.openItem id fx busy) s) fun t => Ended s t it it.okStatus ∧
      Holds t (rowDst it.row).tier (rowDst it.row).addr
        (((s.blocksOf (rowSrc it.row)).flatMap fun b => (s.openOne it b).getD []).take (rowDst it.row).len)) ∧
  (∀ (s : State) (id : Nat) (fx : Fx) (busy : List (Nat × Nat × Nat × Nat)) (it : Item), s.Canon → it.track < 16 →
    s.runningItem id opOpen = some it → s.solo it.row = true →
    Nexts (exec (.openItem id fx busy) s) fun t => Ended s t it it.okStatus ∧ SameMem s t) ∧
  (∀ (s : State) (id : Nat) (fx : Fx) (busy : List (Nat × Nat × Nat × Nat)) (it : Item), s.Canon →
    s.runningItem id opOpen = some it → s.solo it.row = false → it.phase = 0 →
    s.fits [rowSrc it.row, rowDst it.row] = true → s.clean it fx = true →
    ((s.blocksOf (rowSrc it.row)).all fun b => (s.openOne it b).isSome) = false →
    Nexts (exec (.openItem id fx busy) s) fun t => SameMem s t ∧ (∃ j, t.item id = some j ∧ j.phase = 1 ∧ j.resent = true) ∧
      (it.id, (s.ctx (rowStream it.row)).session,
        ((s.blocksOf (rowSrc it.row)).filter fun b => (s.openOne it b).isNone).map LineBlk.seq) ∈ t.cmp.refetch) ∧
  (∀ (s : State) (id : Nat) (fx : Fx) (busy : List (Nat × Nat × Nat × Nat)) (it : Item), s.Canon → it.track < 16 →
    s.runningItem id opOpen = some it → s.solo it.row = false → it.phase = 1 →
    (s.cmp.refetch.any fun r => r.1 = id) = false → s.fits [rowSrc it.row, rowDst it.row] = true → s.clean it fx = true →
    ((s.blocksOf (rowSrc it.row)).all fun b => (s.openOne it b).isSome) = false →
    Nexts (exec (.openItem id fx busy) s) fun t => Ended s t it .failedTag ∧ SameMem s t)

/-! ### Expin requests -/

/-- Writes of the control space (R95, R96, R112, R179, R405, R428, R470, R501). A token counter takes a value while no track
runs; the shadow set takes a word while no swap is armed; the windows that only hardware writes refuse every write;
calibration words and crosstalk words are taken while their unit is stopped; a serial channel belongs to one port. Each is
answered once. -/
def Obligations.ControlSpaceWritesActOrAreRefused : Prop :=
  (∀ (s : State) (q : Req) (i : Nat) (v : Word), s.Canon → s.hears q = true → i < 4096 →
    (∀ n, n < 16 → s.track n ≠ tkRunning ∧ s.track n ≠ tkWaiting ∧ s.track n ≠ tkParked) →
    Nexts (exec (.tokenWrite q i v) s) fun t => t.lastAnswer = some (q.seq, 0) ∧ t.token i = v.toNat) ∧
  (∀ (s : State) (q : Req) (i n : Nat) (v : Word), s.Canon → s.hears q = true → i < 4096 → n < 16 → s.track n = tkRunning →
    Nexts (exec (.tokenWrite q i v) s) fun t =>
      t.lastAnswer = some (q.seq, Status.refusedBusy.code) ∧ t.token i = s.token i) ∧
  (∀ (s : State) (q : Req) (off : Nat) (v : Word), s.Canon → s.hears q = true →
    Nexts (exec (.activeWindowWrite q off v) s) (fun t =>
      t.lastAnswer = some (q.seq, Status.refusedBusy.code) ∧ t.seq.active = s.seq.active) ∧
    Nexts (exec (.circuitTableWrite q off v) s) (fun t =>
      t.lastAnswer = some (q.seq, Status.refusedBusy.code) ∧ t.fab.circuits = s.fab.circuits) ∧
    Nexts (exec (.contextWindowWrite q off v) s) (fun t =>
      t.lastAnswer = some (q.seq, Status.refusedBusy.code) ∧ t.mem.ctx = s.mem.ctx)) ∧
  (∀ (s : State) (q : Req) (off : Nat) (v : Word), s.Canon → tabWf (fun _ => (0 : Row256)) s.seq.shadow = true →
    s.hears q = true → off < 2 ^ 25 → s.seq.swap = none →
    Nexts (exec (.shadowWindowWrite q off v) s) fun t => t.lastAnswer = some (q.seq, 0) ∧
      setWord64 t.seq.shadow off = v ∧ t.seq.active = s.seq.active) ∧
  (∀ (s : State) (q : Req) (off : Nat) (v : Word), s.Canon → s.hears q = true → s.seq.swap ≠ none →
    Nexts (exec (.shadowWindowWrite q off v) s) fun t =>
      t.lastAnswer = some (q.seq, Status.refusedBusy.code) ∧ t.seq.shadow = s.seq.shadow) ∧
  (∀ (s : State) (q : Req) (i : Nat) (v : Word), s.Canon → s.hears q = true → s.calWritable = true → i < 320 →
    Nexts (exec (.ppeCalTableWrite q 0 i v) s) (fun t =>
      t.lastAnswer = some (q.seq, 0) ∧ t.f F.PPE_DARK_DARK i = v.toNat % 2 ^ 16) ∧
    Nexts (exec (.ppeCalTableWrite q 1 i v) s) (fun t =>
      t.lastAnswer = some (q.seq, 0) ∧ t.f F.PPE_GAIN_GAIN i = v.toNat % 2 ^ 16) ∧
    Nexts (exec (.ppeCalTableWrite q 2 i v) s) (fun t =>
      t.lastAnswer = some (q.seq, 0) ∧ t.f F.PPE_XT_COEF0 i = v.toNat % 2 ^ 16 ∧ t.f F.PPE_XT_COEF3 i = v.toNat / 2 ^ 48)) ∧
  (∀ (s : State) (q : Req) (table i : Nat) (v : Word), s.Canon → s.hears q = true → s.calWritable = false → i < 16384 →
    Nexts (exec (.ppeCalTableWrite q table i v) s) fun t =>
      t.lastAnswer = some (q.seq, Status.refusedBusy.code) ∧ t.f F.PPE_DARK_DARK i = s.f F.PPE_DARK_DARK i) ∧
  (∀ (s : State) (q : Req) (tile i : Nat) (v : Word), s.Canon → s.hears q = true → tile < 4 → i < 450 →
    s.tileSlotUp tile = false →
    Nexts (exec (.optXtWrite q tile i v) s) fun t => t.lastAnswer = some (q.seq, 0) ∧
      t.f F.OPT_Tt_XT_COEF0 (450 * tile + i) = v.toNat % 2 ^ 16 ∧ t.f F.OPT_Tt_XT_COEF3 (450 * tile + i) = v.toNat / 2 ^ 48) ∧
  (∀ (s : State) (q : Req) (tile i : Nat) (v : Word), s.Canon → s.hears q = true → tile < 4 → s.tileSlotUp tile = true →
    Nexts (exec (.optXtWrite q tile i v) s) fun t => t.lastAnswer = some (q.seq, Status.refusedBusy.code)) ∧
  (∀ (s : State) (q : Req) (n : Nat) (v : Word), s.Canon → s.hears q = true → n < 4 →
    (∀ m, m < 4 → m ≠ n → s.f F.LINE_GCS_MAP_PORT m ≠ v.toNat % 16 ∨ s.f F.LINE_GCS_MAP_CHANNEL m ≠ v.toNat / 16 % 4) →
    Nexts (exec (.gcsMapWrite q n v) s) fun t => t.lastAnswer = some (q.seq, 0) ∧
      t.f F.LINE_GCS_MAP_PORT n = v.toNat % 16 ∧ t.f F.LINE_GCS_MAP_CHANNEL n = v.toNat / 16 % 4) ∧
  (∀ (s : State) (q : Req) (n m : Nat) (v : Word), s.Canon → s.hears q = true → n < 4 → m < 4 → m ≠ n →
    v.toNat / 16 % 4 ≠ 0 → s.f F.LINE_GCS_MAP_PORT m = v.toNat % 16 → s.f F.LINE_GCS_MAP_CHANNEL m = v.toNat / 16 % 4 →
    Nexts (exec (.gcsMapWrite q n v) s) fun t => t.lastAnswer = some (q.seq, Status.refusedBusy.code) ∧
      t.f F.LINE_GCS_MAP_PORT n = s.f F.LINE_GCS_MAP_PORT n)

/-- READ and WRITE (R595 to R598). A READ answers the words in order; a WRITE applies all its words or none, and a run
outside the windows ends either with REFUSED_FIT and the run's index. -/
def Obligations.ReadAndWriteAnswerAllOrNothing : Prop :=
  (∀ (s : State) (q : Req) (body : List Byte) (a : Nat), s.Canon → s.hears q = true →
    checkedRuns false body = .ok [Run.mk a 1 []] →
    Nexts (exec (.read q body) s) fun t => t.host.answered.getLast? = some (q.gen, q.seq,
      .response q.seq 0 (s.f F.GLB_VIEW_VIEW) 0 (beBytes 8 (((s.ask q).beforeRead a).scsNow a).toNat))) ∧
  (∀ (s : State) (q : Req) (body : List Byte) (i : Nat), s.Canon → s.hears q = true → checkedRuns false body = .error i →
    Nexts (exec (.read q body) s) fun t => t.host.answered.getLast? = some (q.gen, q.seq,
      .response q.seq Status.refusedFit.code (s.f F.GLB_VIEW_VIEW) 0 [BitVec.ofNat 8 i])) ∧
  (∀ (s : State) (q : Req) (body : List Byte) (v : Word), s.Canon → s.hears q = true →
    checkedRuns true body = .ok [Run.mk R.GLB_SCRATCH.base 1 [v]] →
    Nexts (exec (.write q body) s) fun t => t.lastAnswer = some (q.seq, 0) ∧ t.f F.GLB_SCRATCH_VALUE = v.toNat) ∧
  (∀ (s : State) (q : Req) (body : List Byte) (a : Nat) (v w : Word), s.Canon → s.hears q = true → tableOf a = some 0 →
    checkedRuns true body = .ok [Run.mk R.GLB_SCRATCH.base 1 [v], Run.mk a 1 [w]] →
    Nexts (exec (.write q body) s) fun t => t.lastAnswer = some (q.seq, Status.refusedBusy.code) ∧
      t.f F.GLB_SCRATCH_VALUE = s.f F.GLB_SCRATCH_VALUE) ∧
  (∀ (s : State) (q : Req) (body : List Byte) (i : Nat), s.Canon → s.hears q = true → checkedRuns true body = .error i →
    Nexts (exec (.write q body) s) fun t => t.host.answered.getLast? = some (q.gen, q.seq,
      .response q.seq Status.refusedFit.code (s.f F.GLB_VIEW_VIEW) 0 [BitVec.ofNat 8 i]) ∧
      t.f F.GLB_SCRATCH_VALUE = s.f F.GLB_SCRATCH_VALUE)

/-- Transactions and snapshots (R599, R602 to R605, R607). TXN_BEGIN opens one of at most sixteen; TXN_COMMIT applies what
the transaction holds or, with CHECK and a field changed since, refuses, and closes it either way; an idle one expires.
SNAPSHOT opens a picture of the committed state, one of at most eight, closes it, and expiry closes it. -/
def Obligations.TransactionsAndSnapshotsOpenAndClose : Prop :=
  (∀ (s : State) (q : Req), s.Canon → s.hears q = true → s.host.txns.length < 16 →
    Nexts (exec (.txnBegin q) s) fun t => t.lastAnswer = some (q.seq, 0) ∧ t.host.lastTxn = s.host.lastTxn + 1 ∧
      ∃ x, t.host.txns = s.host.txns ++ [x] ∧ x.id = s.host.lastTxn + 1 ∧ x.ops = []) ∧
  (∀ (s : State) (q : Req), s.Canon → s.hears q = true → 16 ≤ s.host.txns.length →
    Nexts (exec (.txnBegin q) s) fun t =>
      t.lastAnswer = some (q.seq, Status.refusedBusy.code) ∧ t.host.txns = s.host.txns) ∧
  (∀ (s : State) (q : Req) (x : HTxn) (v : Word), s.Canon → s.hears q = true → s.txn q.txn = some x → s.cst.commits = [] →
    s.txnParts q.txn = [] → x.ops = [.word R.GLB_SCRATCH.base v] →
    Nexts (exec (.txnCommit q [0]) s) fun t => t.lastAnswer = some (q.seq, 0) ∧ t.f F.GLB_SCRATCH_VALUE = v.toNat ∧
      t.txn q.txn = none) ∧
  (∀ (s : State) (q : Req) (x : HTxn), s.Canon → s.hears q = true → s.txn q.txn = some x → s.cst.commits = [] →
    s.txnParts q.txn = [] → (x.ops.any fun o => (s.ask q).beforeCommit.changedSince x.base o) = true →
    Nexts (exec (.txnCommit q [1]) s) fun t => t.lastAnswer = some (q.seq, Status.refusedBusy.code) ∧
      t.f F.GLB_SCRATCH_VALUE = s.f F.GLB_SCRATCH_VALUE ∧ t.txn q.txn = none) ∧
  (∀ (s : State) (q : Req), s.Canon → s.hears q = true → s.host.snaps.length < 8 →
    Nexts (exec (.snapshotOpen q) s) fun t => t.lastAnswer = some (q.seq, 0) ∧
      t.host.snaps = s.host.snaps ++ [Snap.mk (s.host.lastSnap + 1) (s.ask q).picture s.now]) ∧
  (∀ (s : State) (q : Req), s.Canon → s.hears q = true → (s.host.snaps.any fun x => x.id = q.txn) = true →
    Nexts (exec (.snapshotClose q) s) fun t => t.lastAnswer = some (q.seq, 0) ∧
      t.host.snaps = s.host.snaps.filter fun x => x.id ≠ q.txn) ∧
  (∀ (s : State) (id : Nat) (x : HTxn), s.Canon → s.txn id = some x → s.elapsed x.lastAt s.txnIdleNs = true →
    s.cstMember = false → s.cst.commits = [] →
    Nexts (exec (.txnExpired id) s) fun t => t.txn id = none ∧ t.f F.HOST_EVENTS_TXN_EXPIRED = 1) ∧
  (∀ (s : State) (full : Bool), s.Canon → s.cstMember = false → s.host.snaps ≠ [] →
    (s.host.snaps.all fun x => s.elapsed x.openedAt s.snapLifeNs) = true →
    Nexts (exec (.snapshotExpired full) s) fun t => t.host.snaps = [] ∧ t.f F.HOST_EVENTS_SNAP_CLOSED = 1)

/-- The host port's link and addresses (R581, R583): a change of the PCS shows in HOST_STATUS and latches LINK; the
configuration written takes effect all together. -/
def Obligations.HostLinkAndAddressesTakeEffect : Prop :=
  (∀ (s : State) (up : Bool) (lanes : Nat), s.Canon → lanes < 16 →
    Nexts (exec (.hostLinkChange up lanes) s) fun t => t.f F.HOST_STATUS_LINK_UP = b2n up ∧
      t.f F.HOST_STATUS_LANE_LOCK = lanes ∧ (s.f F.HOST_STATUS_LINK_UP ≠ b2n up → t.f F.HOST_EVENTS_LINK = 1)) ∧
  (∀ (s : State), s.Canon →
    Nexts (exec .hostAddressApply s) fun t => t.hostF F.HOST_CFG_PORT = s.f F.HOST_CFG_PORT ∧
      t.hostF F.HOST_CFG_TXN_IDLE = s.f F.HOST_CFG_TXN_IDLE ∧ t.hostF F.HOST_IPV4_ADDR = s.f F.HOST_IPV4_ADDR ∧
      t.regs = s.regs)

/-- SUBMIT (R181, R251 to R257, R612, R613). A template's instance is admitted when its whole claim is free, and in an
array constellation of 16 members or more also no other is held and the pool is not pressed; else it fails for want of pool space, or
is held in such a constellation. A template that is not marked ad hoc, a claim larger than the pool, a PPE row in exact mode, an ID out
of order and a full hold queue are refused. The head of the hold queue is admitted once its claim is free, and parked blocks
expire. -/
def Obligations.SubmitAdmitsHoldsOrRefuses : Prop :=
  (∀ (s : State) (q : Req) (body : List Byte) (b : SubmitBody), s.Canon → s.hears q = true → submitOf body = some b →
    s.imageActive = true → b.template < s.f F.COL_STATUS_ENTRIES → s.f F.COL_ENTRY_D_FLAGS b.template / 4 % 2 = 1 →
    (s.exact = false ∨ ∀ kv ∈ s.templateRows b.template, rowOpcode kv.2 = opProject → rowPpe kv.2 = false) →
    2 ^ 47 ≤ b.id → (∀ l, s.col.lastId = some l → l < b.id) → s.heldCompletions < 3072 →
    s.holdMode = false ∨ (s.poolPressed = false ∧ s.col.held = []) → s.adhocClaimed + s.submitClaim b ≤ s.adhocPool →
    Nexts (exec (.submit q body) s) fun t => t.lastAnswer = some (q.seq, 0) ∧ t.f F.COL_LAST_ADHOC_ID_ID = b.id ∧
      t.col.lastId = some b.id ∧ (s.templateRows b.template ≠ [] →
        (t.col.running.any fun a => a.id = b.id) = true ∧ (t.seq.items.any fun it => it.adhoc = some b.id) = true)) ∧
  (∀ (s : State) (q : Req) (body : List Byte) (b : SubmitBody), s.Canon → s.hears q = true → submitOf body = some b →
    s.imageActive = true → b.template < s.f F.COL_STATUS_ENTRIES → s.f F.COL_ENTRY_D_FLAGS b.template / 4 % 2 = 1 →
    (s.exact = false ∨ ∀ kv ∈ s.templateRows b.template, rowOpcode kv.2 = opProject → rowPpe kv.2 = false) →
    2 ^ 47 ≤ b.id → (∀ l, s.col.lastId = some l → l < b.id) → s.heldCompletions < 3072 → s.holdMode = false →
    s.submitClaim b ≤ s.adhocPool → s.adhocPool < s.adhocClaimed + s.submitClaim b →
    Nexts (exec (.submit q body) s) fun t => t.lastAnswer = some (q.seq, Status.failedPoolEmpty.code) ∧
      t.f F.COL_EVENTS_POOL_EMPTY = 1 ∧ t.col.running = s.col.running) ∧
  (∀ (s : State) (q : Req) (body : List Byte) (b : SubmitBody), s.Canon → s.hears q = true → submitOf body = some b →
    s.imageActive = true → b.template < s.f F.COL_STATUS_ENTRIES → s.f F.COL_ENTRY_D_FLAGS b.template / 4 % 2 = 1 →
    (s.exact = false ∨ ∀ kv ∈ s.templateRows b.template, rowOpcode kv.2 = opProject → rowPpe kv.2 = false) →
    2 ^ 47 ≤ b.id → (∀ l, s.col.lastId = some l → l < b.id) → s.heldCompletions < 3072 → s.holdMode = true →
    s.submitClaim b ≤ s.adhocPool →
    s.poolPressed = true ∨ s.col.held ≠ [] ∨ s.adhocPool < s.adhocClaimed + s.submitClaim b → s.col.held.length < 4096 →
    Nexts (exec (.submit q body) s) fun t => t.lastAnswer = some (q.seq, 0) ∧ t.f F.COL_EVENTS_HELD = 1 ∧
      ∃ a, t.col.held = s.col.held ++ [a] ∧ a.id = b.id ∧ a.template = b.template) ∧
  (∀ (s : State) (q : Req) (body : List Byte) (b : SubmitBody), s.Canon → s.hears q = true → submitOf body = some b →
    s.imageActive = true → b.template < s.f F.COL_STATUS_ENTRIES → s.f F.COL_ENTRY_D_FLAGS b.template / 4 % 2 = 1 →
    (s.exact = false ∨ ∀ kv ∈ s.templateRows b.template, rowOpcode kv.2 = opProject → rowPpe kv.2 = false) →
    2 ^ 47 ≤ b.id → (∀ l, s.col.lastId = some l → l < b.id) → s.heldCompletions < 3072 → s.holdMode = true →
    s.submitClaim b ≤ s.adhocPool → 4096 ≤ s.col.held.length →
    Nexts (exec (.submit q body) s) fun t =>
      t.lastAnswer = some (q.seq, Status.refusedBusy.code) ∧ t.col.held = s.col.held) ∧
  (∀ (s : State) (q : Req) (body : List Byte) (b : SubmitBody), s.Canon → s.hears q = true → submitOf body = some b →
    s.imageActive = true → b.template < s.f F.COL_STATUS_ENTRIES → s.f F.COL_ENTRY_D_FLAGS b.template / 4 % 2 = 1 →
    (s.exact = false ∨ ∀ kv ∈ s.templateRows b.template, rowOpcode kv.2 = opProject → rowPpe kv.2 = false) →
    2 ^ 47 ≤ b.id → (∀ l, s.col.lastId = some l → l < b.id) → s.heldCompletions < 3072 → s.adhocPool < s.submitClaim b →
    Nexts (exec (.submit q body) s) fun t => t.lastAnswer = some (q.seq, Status.refusedFit.code) ∧
      t.col.running = s.col.running ∧ t.f F.SEQ_FIT_A_RESOURCE 0 = resPool) ∧
  (∀ (s : State) (q : Req) (body : List Byte) (b : SubmitBody), s.Canon → s.hears q = true → submitOf body = some b →
    s.imageActive = true → b.template < s.f F.COL_STATUS_ENTRIES → s.f F.COL_ENTRY_D_FLAGS b.template / 4 % 2 = 1 →
    (s.exact = false ∨ ∀ kv ∈ s.templateRows b.template, rowOpcode kv.2 = opProject → rowPpe kv.2 = false) →
    b.id < 2 ^ 47 ∨ (∃ l, s.col.lastId = some l ∧ b.id ≤ l) →
    Nexts (exec (.submit q body) s) fun t => t.lastAnswer = some (q.seq, Status.refusedBusy.code) ∧
      t.f F.COL_EVENTS_ORDER = 1 ∧ t.col = s.col) ∧
  (∀ (s : State) (q : Req) (body : List Byte) (b : SubmitBody) (kv : Nat × Row256), s.Canon → s.hears q = true → submitOf body = some b →
    s.imageActive = true → b.template < s.f F.COL_STATUS_ENTRIES → s.f F.COL_ENTRY_D_FLAGS b.template / 4 % 2 = 1 →
    s.exact = true → kv ∈ s.templateRows b.template → rowOpcode kv.2 = opProject → rowPpe kv.2 = true →
    Nexts (exec (.submit q body) s) fun t =>
      t.lastAnswer = some (q.seq, Status.refusedMode.code) ∧ t.col = s.col) ∧
  (∀ (s : State) (q : Req) (body : List Byte) (b : SubmitBody), s.Canon → s.hears q = true → submitOf body = some b →
    s.f F.COL_ENTRY_D_FLAGS b.template / 4 % 2 = 0 →
    Nexts (exec (.submit q body) s) fun t =>
      t.lastAnswer = some (q.seq, Status.refusedFit.code) ∧ t.col.running = s.col.running) ∧
  (∀ (s : State) (a : AdHoc) (rest : List AdHoc), s.Canon → s.col.held = a :: rest → s.poolPressed = false →
    s.adhocClaimed + a.claim ≤ s.adhocPool →
    Nexts (exec .adhocAdmit s) fun t => t.col.held = rest ∧ (s.templateRows a.template ≠ [] →
      a ∈ t.col.running ∧ (t.seq.items.any fun it => it.adhoc = some a.id) = true)) ∧
  (∀ (s : State) (low : Nat) (p : Parked) (ps : List Parked), s.Canon → low < 2 ^ 32 →
    (s.col.parked.filter fun p => p.id = low) = p :: ps → s.elapsed p.at_ (max 1 (s.f F.COL_PARK_HOLD) * 10 ^ 9) = true →
    Nexts (exec (.parkExpired low) s) fun t => t.col.parked = (s.col.parked.filter fun p => p.id ≠ low) ∧
      t.f F.COL_LAST_EXPIRED_ID_ID % 2 ^ 32 = low ∧ t.f F.COL_EVENTS_PARK_EXPIRED = 1 ∧
      ∀ a, (s.col.held.find? fun a => a.id % 2 ^ 32 = low) = some a → a.id < 2 ^ 48 → t.f F.COL_LAST_EXPIRED_ID_ID = a.id)

/-- ABORT and the acknowledgement of events (R86 to R91, R258, R614, R615, R625). What is aborted in time ends
FAILED_ABORTED and the request DONE; what has ended already is answered ABORT_TOO_LATE; an acknowledged message leaves its
channel. -/
def Obligations.AbortsEndOrComeTooLate : Prop :=
  (∀ (s : State) (q : Req) (v : Nat) (it : Item), s.Canon → s.hears q = true → it.track < 16 →
    (s.seq.items.find? fun it => itemTag it = v) = some it → s.item it.id = some it →
    Nexts (exec (.abortItem q v) s) fun t => t.lastAnswer = some (q.seq, 0) ∧ Ended s t it .failedAborted) ∧
  (∀ (s : State) (q : Req) (v n : Nat), s.Canon → s.hears q = true → (s.seq.items.any fun it => itemTag it = v) = false →
    s.pendingAt v = some n → s.item s.seq.nextId = none →
    Nexts (exec (.abortItem q v) s) fun t => t.lastAnswer = some (q.seq, 0) ∧
      Ended s t (s.mkItem n (s.cursor n) (s.activeRow (s.cursor n)) none) .failedAborted) ∧
  (∀ (s : State) (q : Req) (v : Nat), s.Canon → s.hears q = true → (s.seq.items.any fun it => itemTag it = v) = false →
    s.pendingAt v = none →
    Nexts (exec (.abortItem q v) s) fun t => t.lastAnswer = some (q.seq, Status.abortTooLate.code) ∧ t.seq = s.seq) ∧
  (∀ (s : State) (q : Req) (n : Nat), s.Canon → s.hears q = true → n < 16 → s.trackTwilight n = false →
    Nexts (exec (.abortTrack q n) s) fun t => t.lastAnswer = some (q.seq, 0) ∧ t.track n = tkHalted ∧
      t.cursor n = s.cursor n ∧ t.trackItems n = []) ∧
  (∀ (s : State) (q : Req) (id : Nat), s.Canon → s.hears q = true → id < 2 ^ 48 →
    (s.col.held.any fun a => a.id = id) = true →
    Nexts (exec (.abortCollective q id) s) fun t => t.lastAnswer = some (q.seq, 0) ∧
      t.col.held = s.col.held.filter fun a => a.id ≠ id) ∧
  (∀ (s : State) (q : Req) (id : Nat), s.Canon → s.hears q = true → id < 2 ^ 48 →
    (s.col.held.any fun a => a.id = id) = false → (s.col.running.any fun a => a.id = id) = true →
    Nexts (exec (.abortCollective q id) s) fun t => t.lastAnswer = some (q.seq, 0) ∧
      (t.seq.items.any fun it => it.adhoc = some id) = false) ∧
  (∀ (s : State) (q : Req) (id : Nat), s.Canon → s.hears q = true → id < 2 ^ 32 → (s.txn id).isSome = true →
    s.cst.commits = [] →
    Nexts (exec (.abortTransaction q id) s) fun t => t.lastAnswer = some (q.seq, 0) ∧ t.txn id = none) ∧
  (∀ (s : State) (q : Req) (l : Load), s.Canon → s.hears q = true → l.id < 2 ^ 32 → s.host.load = some l → l.complete = false →
    Nexts (exec (.abortLoad q l.id) s) fun t => t.lastAnswer = some (q.seq, 0) ∧ t.host.load = none ∧
      t.f F.HOST_STATUS_LOADING = 0 ∧ t.f F.HOST_LOAD_RESULT = Status.failedAborted.code ∧ t.f F.HOST_EVENTS_LOAD_DONE = 1) ∧
  (∀ (s : State) (q : Req) (v : Nat), s.Canon → s.hears q = true → s.host.load = none →
    Nexts (exec (.abortLoad q v) s) fun t => t.lastAnswer = some (q.seq, Status.abortTooLate.code)) ∧
  (∀ (s : State) (q : Req) (c n : Nat) (m : EvMsg), s.Canon → s.hears q = true → c < 8 → n < 2 ^ 32 →
    ((s.channelMsgs c).find? fun m => m.sequence = n) = some m →
    Nexts (exec (.eventAck q c n) s) fun t => t.lastAnswer = some (q.seq, 0) ∧ t.channelMsgs c = (s.channelMsgs c).erase m)

/-- The event controller (R619 to R626, R642). A source that becomes asserted is gathered at its next target; a target's
records go out when due, a channel's message is kept until acknowledged and sent again when its RETRY has passed; the pole
gathers its members' records; a pin takes its new level. -/
def Obligations.EventsAreGatheredDeliveredAndRepeated : Prop :=
  (∀ (s : State) (src tg : Nat), s.Canon → src < 1024 → s.f F.EVT_SRCs_CFG_ENABLE src = 1 → s.edgeSource src = false →
    s.sourceLevel src = true → s.f F.EVT_SRCs_CFG_ASSERTED src = 0 → s.nextTarget src = some tg → tg < 4 ∨ s.cstMember = false →
    Nexts (exec (.eventAssert src) s) fun t => t.f F.EVT_SRCs_CFG_ASSERTED src = 1 ∧
      (((tfind tg t.evt.gathered).getD []).any fun r => r.source = src) = true) ∧
  (∀ (s : State) (g : Nat), s.Canon → g < 4 → s.deliverDue g = true →
    Nexts (exec (.eventDeliver g 0) s) fun t => tfind g t.evt.gathered = some [] ∧
      .interrupt g (((tfind g s.evt.gathered).getD []).map EvRec.source) ∈ t.out) ∧
  (∀ (s : State) (c k : Nat) (g : KeyGen), s.Canon → c < 8 → s.deliverDue (4 + c) = true → (s.channelMsgs c).length < 16 →
    s.f F.EVT_ECn_CFG_ENABLE c = 1 → s.expinGen = some (k, g) →
    Nexts (exec (.eventDeliver (4 + c) 0) s) fun t => ∃ m, t.channelMsgs c = s.channelMsgs c ++ [m] ∧
      m.recs = ((((tfind (4 + c) s.evt.gathered).getD []).take 256) ++ ((tfind c s.evt.completions).getD [])).take 256 ∧
      m.gen = g.gen ∧ t.f F.EVT_ECn_CFG_OUTSTANDING c = (s.channelMsgs c).length + 1) ∧
  (∀ (s : State) (c : Nat), s.Canon → c < 8 → s.macsec = false → s.channelMsgs c ≠ [] →
    ((s.channelMsgs c).all fun m => s.elapsed m.sentAt (max 1 (s.f F.EVT_ECn_CFG_RETRY c) * 1000000)) = true →
    Nexts (exec (.eventResend c) s) fun t => (∀ m ∈ t.channelMsgs c, m.sentAt = s.now) ∧
      ∀ m ∈ s.channelMsgs c, .hostEvent c m.sequence m.origin m.recs ∈ t.out) ∧
  (∀ (s : State) (g src : Nat), s.Canon → g < 4 → ((tfind g s.evt.delivered).getD []).contains src = true →
    Nexts (exec (.mpEventHandled g src) s) fun t => tfind g t.evt.delivered = some (((tfind g s.evt.delivered).getD []).erase src)) ∧
  (∀ (s : State) (i : Nat) (high : Bool), s.Canon → i < 28 →
    Nexts (exec (.pinChange i high) s) fun t => t.pinLevel i = high ∧
      (s.pinLevel i ≠ high → i < 16 → t.bit F.LINE_STATUS_ALERT i = !high)) ∧
  (∀ (s : State) (pos c : Nat) (bs : List Byte) (r : EvRec), s.Canon → s.f F.CST_STATUS_IS_POLE = 1 →
    pos < s.f F.CST_STATUS_MEMBERS → recsOf bs = [(c, r)] → c < 8 →
    Nexts (exec (.cstEventRecordReceive pos bs) s) fun t =>
      if r.completion then r ∈ (tfind (16 * (pos + 1) + c) t.evt.completions).getD []
      else (((tfind (16 * (pos + 1) + 4 + c) t.evt.gathered).getD []).any fun x => x.source = r.source) = true)

/-- Keys (R522 to R527, R530 to R532, R536, R537, R540, R517). A load makes its generation current; a graceful erase lets it
finish what it is used for; an immediate one takes it away and ends the items that latched it; a generation no longer current
and drained retires. -/
def Obligations.KeysLoadEraseAndRetire : Prop :=
  (∀ (s : State) (q : Req) (slot gen : Nat) (w : List Byte) (r : KeyRec), s.Canon → s.hears q = true →
    s.keyRefusal (KeyBody.mk slot gen 1 0 w) = none → s.unwrapKey (KeyBody.mk slot gen 1 0 w) = some r →
    Nexts (exec (.keyLoad q slot gen 0 w) s) fun t => t.lastAnswer = some (q.seq, 0) ∧ Counted F.CIPH_KEYLOADS_COUNT 0 1 s t ∧
      ∃ g, t.currentGen slot = some g ∧ g.gen = gen ∧ g.key = BitVec.ofNat 256 r.key ∧ g.salt = BitVec.ofNat 96 r.salt) ∧
  (∀ (s : State) (q : Req) (slot gen res : Nat) (w : List Byte) (st : Status), s.Canon → s.hears q = true →
    s.keyRefusal (KeyBody.mk slot gen 1 res w) = some st → st.ok = false →
    Nexts (exec (.keyLoad q slot gen res w) s) fun t => t.lastAnswer = some (q.seq, st.code) ∧
      t.f F.CIPH_EVENTS_KEYLOAD_REFUSED = 1 ∧ (t.gens slot).map KeyGen.gen = (s.gens slot).map KeyGen.gen) ∧
  (∀ (s : State) (q : Req) (slot gen : Nat), s.Canon → s.hears q = true → slot ≠ 0 → s.slotUse slot ≠ 0 →
    (s.liveGen slot gen).isSome = true →
    Nexts (exec (.keyEraseGraceful q slot gen 0 []) s) fun t => t.lastAnswer = some (q.seq, 0) ∧
      ∃ g, t.genOf slot gen = some g ∧ g.erasing = true) ∧
  (∀ (s : State) (q : Req) (slot gen : Nat), s.Canon → s.hears q = true → slot ≠ 0 → s.slotUse slot ≠ 0 →
    (s.genOf slot gen).isSome = true →
    Nexts (exec (.keyEraseImmediate q slot gen 0 []) s) fun t => t.lastAnswer = some (q.seq, 0) ∧ t.genOf slot gen = none ∧
      (t.seq.items.any fun it => it.key = some (slot, gen)) = false ∧ t.f F.CIPH_EVENTS_ERASED = 1) ∧
  (∀ (s : State) (slot gen : Nat) (g : KeyGen), s.Canon → s.genOf slot gen = some g → g.erasing = true → s.pins slot gen = 0 →
    Nexts (exec (.keyEraseComplete slot gen) s) fun t => t.genOf slot gen = none ∧ t.f F.CIPH_EVENTS_ERASED = 1) ∧
  (∀ (s : State) (slot gen : Nat) (new old : KeyGen), s.Canon → s.currentGen slot = some new → s.liveGen slot gen = some old →
    new.gen ≠ gen → s.pins slot gen = 0 → s.drained slot old new = true →
    Nexts (exec (.keyRetire slot gen) s) fun t => t.genOf slot gen = none ∧ (t.currentGen slot = some new) ∧
      t.f F.CIPH_EVENTS_RETIRED = 1) ∧
  (∀ (s : State) (p : Nat), s.Canon →
    Nexts (exec (.suspendedResume p) s) fun t => t.ciph.suspended = (s.ciph.suspended.filter fun x => x.1 ≠ p) ∧
      t.f F.CIPH_STATUS_SUSPENDED = (s.ciph.suspended.filter fun x => x.1 ≠ p).length % 256) ∧
  (∀ (s : State) (v : Nat), s.Canon → v < 16 →
    Nexts (exec (.gcsEncryptWrite v) s) fun t => t.f F.CIPH_GCS_ENCRYPT = v ∧
      ∀ n, n < 4 → if (s.f F.CIPH_GCS_ENCRYPT).testBit n = v.testBit n then tfind n t.ciph.gcs = tfind n s.ciph.gcs
        else (tfind n t.ciph.gcs).map GcsCipher.rxFill = some 16)

/-- Loads and host bulk data (R608 to R611, R668, R686). A message's data is staged and the message answered, the one that
completes a load when the load ends; a firmware copy replaces the copy that is not run, once its signature is good; bulk data
is written to and read from the tiers. -/
def Obligations.LoadsStageAndBulkDataMoves : Prop :=
  (∀ (s : State) (q : Req) (body : List Byte) (b : LoadBody), s.Canon → s.hears q = true → loadOf body = some b →
    b.fits = true → s.host.load = none → s.img.staged = none → b.last = false →
    (s.imageActive = true → ((s.ask q).askNeed (.account 0) 0 (16 * 2 ^ 20) 1).1 = .granted) →
    (b.target = 1 → Nexts (exec (.loadStructureImage q body) s) fun t => t.lastAnswer = some (q.seq, 0) ∧
      t.f F.HOST_STATUS_LOADING = 1 ∧ t.f F.HOST_LOAD_LOAD_ID = b.id ∧ t.f F.IMG_STATUS_STATE = 1 ∧
      ∃ l, t.host.load = some l ∧ l.id = b.id ∧ l.parts = [(b.offset, b.data)]) ∧
    (b.target = 2 → Nexts (exec (.loadSectorPatch q body) s) fun t => t.lastAnswer = some (q.seq, 0) ∧
      t.f F.HOST_STATUS_LOADING = 1 ∧ t.f F.HOST_LOAD_LOAD_ID = b.id ∧ t.f F.IMG_STATUS_STATE = 1 ∧
      ∃ l, t.host.load = some l ∧ l.id = b.id ∧ l.parts = [(b.offset, b.data)])) ∧
  (∀ (s : State) (q : Req) (body : List Byte) (b : LoadBody), s.Canon → s.hears q = true → loadOf body = some b →
    b.fits = true → b.target = 1 → s.host.load = none → s.img.staged = none → b.last = true → b.offset = 0 → b.len = b.total →
    (s.imageActive = true → ((s.ask q).askNeed (.account 0) 0 (16 * 2 ^ 20) 1).1 = .granted) →
    Nexts (exec (.loadStructureImage q body) s) fun t => t.host.answered = s.host.answered ∧ t.f F.IMG_STATUS_STATE = 2 ∧
      ∃ l, t.host.load = some l ∧ l.by_ = some q ∧ l.bytes = b.data) ∧
  (∀ (s : State) (q : Req) (body : List Byte) (b : LoadBody) (l : Load), s.Canon → s.hears q = true → loadOf body = some b →
    b.fits = true → b.target = 1 → s.host.load = some l → l.id ≠ b.id →
    Nexts (exec (.loadStructureImage q body) s) fun t =>
      t.lastAnswer = some (q.seq, Status.refusedBusy.code) ∧ t.host.load = some l) ∧
  (∀ (s : State) (q : Req) (body : List Byte) (version : Nat) (b : LoadBody), s.Canon → s.hears q = true →
    loadOf body = some b → b.fits = true → b.target = 3 → s.host.load = none → s.img.fw = none → b.last = true →
    b.offset = 0 → b.len = b.total → s.f F.IMG_FW_STATUS_COPY_B = 0 → version < 2 ^ 16 →
    (s.imageActive = true → ((s.ask q).askNeed (.account 0) 0 (16 * 2 ^ 20) 1).1 = .granted) →
    Nexts (exec (.loadFirmwareCopy q body true version) s) (fun t => t.lastAnswer = some (q.seq, 0) ∧ t.host.load = none ∧
      t.img.copyB = some (FwCopy.mk version (byts (sha256 (nats b.data)))) ∧ t.img.copyA = s.img.copyA ∧
      t.f F.IMG_FW_STATUS_B_VERSION = version ∧ t.f F.IMG_FW_STATUS_PREFER_B = 1) ∧
    Nexts (exec (.loadFirmwareCopy q body false version) s) (fun t =>
      t.lastAnswer = some (q.seq, Status.refusedSignature.code) ∧ t.host.load = none ∧ t.img.copyA = s.img.copyA ∧
      t.img.copyB = s.img.copyB)) ∧
  (∀ (s : State) (q : Req) (body : List Byte) (b : LoadBody), s.Canon → s.hears q = true → loadOf body = some b →
    b.target = 4 → s.bulkFits b = true → s.inTier (descOf b.region).tier (descOf b.region).addr (descOf b.region).len = true →
    (b.read = false → Nexts (exec (.hostBulkWrite q body) s) fun t => t.lastAnswer = some (q.seq, 0) ∧
      Holds t (descOf b.region).tier ((descOf b.region).addr + b.offset) b.data ∧
      MemBut (descOf b.region).tier ((descOf b.region).addr + b.offset) b.data.length s t) ∧
    (b.read = true → Nexts (exec (.hostBulkRead q body) s) fun t => SameMem s t ∧
      t.host.answered.getLast? = some (q.gen, q.seq, .response q.seq 0 (s.f F.GLB_VIEW_VIEW) 0
        (s.rdBytes (descOf b.region).tier ((descOf b.region).addr + b.offset) b.len)))) ∧
  (∀ (s : State) (q : Req) (body : List Byte) (b : LoadBody), s.Canon → s.hears q = true → loadOf body = some b →
    s.bulkFits b = false →
    Nexts (exec (.hostBulkWrite q body) s) fun t => t.lastAnswer = some (q.seq, Status.refusedFit.code) ∧ SameMem s t)

/-- Buffers (R505 to R513). The head of the queue is granted whole; a hand-off renames the holder of one buffer; only the
holder frees it, and a free by another is counted. -/
def Obligations.BuffersAreGrantedHandedOverAndFreed : Prop :=
  (∀ (s : State) (n : Need) (rest : List Need), s.Canon → s.bpm.queue = n :: rest → s.headGrantable = true →
    s.host.load = none →
    Nexts (exec .bufferGrant s) fun t => t.bpm.queue = rest ∧
      t.bpm.bufs.length = s.bpm.bufs.length + (n.want.map Prod.snd).sum ∧ ∀ b ∈ s.bpm.bufs, b ∈ t.bpm.bufs) ∧
  (∀ (s : State) (n : Need) (rest : List Need) (l : Load) (q : Req), s.Canon → s.bpm.queue = n :: rest → s.headGrantable = true →
    n.holder = .account 0 → s.host.load = some l → l.late = [q] → l.last = false → q.seq < 2 ^ 32 →
    Nexts (exec .bufferGrant s) fun t => t.bpm.queue = rest ∧ t.lastAnswer = some (q.seq, 0) ∧
      t.host.load = some { l with late := [] }) ∧
  (∀ (s : State) (pool ix : Nat) (old new : Holder), s.Canon →
    Nexts (exec (.bufferHandoff pool ix old new) s) fun t => t.regs = s.regs ∧ t.bpm.bufs.length = s.bpm.bufs.length ∧
      ∀ b ∈ s.bpm.bufs, (if b.pool = pool ∧ b.index = ix ∧ b.holder = old then { b with holder := new } else b) ∈ t.bpm.bufs) ∧
  (∀ (s : State) (pool ix : Nat) (h : Holder), s.Canon → pool < 10 →
    (s.bpm.bufs.any fun b => b.pool = pool ∧ b.index = ix ∧ b.holder = h) = true →
    Nexts (exec (.bufferFree pool ix h) s) fun t =>
      t.bpm.bufs = (s.bpm.bufs.filter fun b => !decide (b.pool = pool ∧ b.index = ix ∧ b.holder = h)) ∧
      t.f F.BPM_POOLp_USE_HELD pool = t.bpm.heldIn pool % 2 ^ 28) ∧
  (∀ (s : State) (pool ix : Nat) (h : Holder), s.Canon → pool < 10 → ix < 2 ^ 28 →
    (s.bpm.bufs.any fun b => b.pool = pool ∧ b.index = ix ∧ b.holder = h) = false →
    Nexts (exec (.bufferFree pool ix h) s) fun t => t.bpm = s.bpm ∧ Counted F.BPM_BAD_FREE_COUNT 0 1 s t ∧
      t.f F.BPM_EVENTS_BAD_FREE = 1 ∧ t.f F.BPM_LAST_BAD_INDEX = ix ∧ t.f F.BPM_LAST_BAD_POOL = pool)

/-- Membership and the failure detector (R338, R343 to R350, R369, R330, R616 to R618). A table of a greater epoch replaces
the members; silence makes a member SUSPECT, then PROPOSED, and past the hold EXPIRED; KEEP contests a proposal; the hold of
exact mode stops the job, that of an epoch ends what waits; the Meridian is reached once its conditions hold. -/
def Obligations.MembersSilenceAndTheMeridian : Prop :=
  (∀ (s : State) (q : Req) (epoch : Nat) (ms : List Member), s.Canon → s.hears q = true → ms ≠ [] → ms.length ≤ 558 →
    ms.all Member.valid = true → (ms.map fun m => memberKey m.site m.role).Nodup → s.f F.PEER_EPOCH_EPOCH < epoch → epoch < 2 ^ 64 →
    Nexts (exec (.membershipTable q epoch ms) s) fun t => t.lastAnswer = some (q.seq, 0) ∧ t.peer.members = ms ∧
      t.f F.PEER_EPOCH_EPOCH = epoch ∧ t.f F.PEER_FAULT_EVENTS_MEMBERSHIP = 1) ∧
  (∀ (s : State) (q : Req) (epoch : Nat) (ms : List Member), s.Canon → s.hears q = true → ms ≠ [] → ms.length ≤ 558 →
    ms.all Member.valid = true → (ms.map fun m => memberKey m.site m.role).Nodup → epoch ≤ s.f F.PEER_EPOCH_EPOCH →
    Nexts (exec (.membershipTable q epoch ms) s) fun t =>
      t.lastAnswer = some (q.seq, Status.refusedBusy.code) ∧ t.peer.members = s.peer.members) ∧
  (∀ (s : State) (q : Req) (n : Nat), s.Canon → s.hears q = true → n ∈ s.declared → (s.watch n).state = mbProposed →
    Nexts (exec (.membershipKeep q (s.peerSite n) (s.peerRole n)) s) fun t => t.lastAnswer = some (q.seq, 0) ∧
      (t.watch n).state = mbContested ∧ t.f F.PEER_FAULT_EVENTS_CONTESTED = 1) ∧
  (∀ (s : State) (n : Nat), s.Canon → (s.watch n).state = mbAlive →
    s.silent n (max 1 (s.f F.PEER_FAULT_CFG_SUSPECT) * 10000) = true →
    Nexts (exec (.memberSuspect n) s) fun t => (t.watch n).state = mbSuspect ∧ t.f F.PEER_FAULT_EVENTS_SUSPECT = 1) ∧
  (∀ (s : State) (n : Nat), s.Canon → (s.watch n).state = mbSuspect →
    s.silent n (max 1 (s.f F.PEER_FAULT_CFG_T_DOWN) * 100000) = true →
    Nexts (exec (.downProposal n) s) fun t => (t.watch n).state = mbProposed ∧ (t.watch n).holdAt = some s.now ∧
      t.f F.PEER_FAULT_EVENTS_DOWN_PROPOSED = 1) ∧
  (∀ (s : State) (n a : Nat), s.Canon → (s.watch n).holdAt = some a →
    (s.watch n).state = mbProposed ∨ (s.watch n).state = mbContested → s.elapsed a s.holdNs = true →
    Nexts (exec (.memberHoldExpired n) s) fun t => (t.watch n).state = mbExpired ∧ t.f F.PEER_FAULT_EVENTS_HOLD_EXPIRED = 1 ∧
      (t.seq.items.any fun it => (decide (rowOpcode it.row = opSend) || decide (rowOpcode it.row = opRecv)) &&
        decide ((s.ctx (rowStream it.row)).session = n)) = false) ∧
  (∀ (s : State) (n a : Nat), s.Canon → (s.sess n).leftOpenAt = some a → s.exact = true → s.sessState n ≠ ssOpen →
    s.f F.PEER_HOLD_STATUS_EXPIRED = 0 → s.elapsed a s.holdNs = true →
    Nexts (exec (.exactHoldExpired n) s) fun t => t.f F.PEER_HOLD_STATUS_EXPIRED = 1 ∧
      (∀ it ∈ t.seq.items, it.adhoc = none → it.step ≤ s.f F.SEQ_MERIDIAN_STEP) ∧
      ∀ k, k < 16 → s.trackTwilight k = false → t.track k = tkHalted) ∧
  (∀ (s : State) (n a : Nat), s.Canon → (s.sess n).epochWaitAt = some a → s.f F.PEER_SESSn_STATE_EPOCH_WAIT n = 1 →
    s.elapsed a s.holdNs = true →
    Nexts (exec (.epochWaitExpired n) s) fun t =>
      (t.seq.items.any fun it => decide (rowOpcode it.row = opSend) && decide ((s.ctx (rowStream it.row)).session = n)) = false ∧
      (0 < (s.sess n).waitFor →
        (t.seq.items.any fun it => decide (rowOpcode it.row = opRecv) && decide ((s.ctx (rowStream it.row)).session = n)) = false ∧
        (t.fab.reqs.any fun r => r.session = n) = false)) ∧
  (∀ (s : State), s.Canon → s.meridianDue = true → s.f F.CST_STATUS_MODE = 0 → s.f F.SEQ_MERIDIAN_STEP + 1 < 2 ^ 64 →
    Nexts (exec .meridian s) fun t => t.f F.SEQ_MERIDIAN_STEP = s.f F.SEQ_MERIDIAN_STEP + 1 ∧
      t.f F.GLB_VIEW_VIEW = (s.f F.GLB_VIEW_VIEW + 1) % 2 ^ 64 ∧ t.commitItems (s.f F.SEQ_MERIDIAN_STEP + 1) = [])

/-- Loss and promotion in a constellation (R650, R651, R656). A bound constellation that loses a member ends the planned
items above the Meridian and halts its tracks; one that loses its pole says so; the alternate pole takes over with the view
one above the highest applied. -/
def Obligations.ConstellationLossAndPromotion : Prop :=
  (∀ (s : State) (pos : Nat), s.Canon → s.f F.CST_STATUS_MODE = 1 → pos < s.f F.CST_STATUS_MEMBERS → pos ≠ s.position →
    Nexts (exec (.cstMemberLost pos) s) fun t =>
      (∀ it ∈ t.seq.items, it.adhoc = none → it.step ≤ s.f F.SEQ_MERIDIAN_STEP) ∧
      (∀ k, k < 16 → s.trackTwilight k = false → t.track k = tkHalted) ∧
      (s.f F.CST_STATUS_IS_POLE = 1 → t.f F.CST_EVENTS_MEMBER_LOST = 1)) ∧
  (∀ (s : State) (a : Nat), s.Canon → s.cst.poleGone = some a → s.cstMember = true → s.elapsed a 10000000 = true →
    Nexts (exec .poleLost s) fun t => t.cst.poleGone = none ∧ t.f F.CST_EVENTS_POLE_LOST = 1) ∧
  (∀ (s : State) (highest : Nat), s.Canon → s.f F.CST_STATUS_MODE ≠ 0 → s.pole ≠ s.cst.alternate → s.position = s.cst.alternate →
    Nexts (exec (.promote highest) s) fun t => t.pole = s.position ∧ t.f F.CST_STATUS_IS_POLE = 1 ∧
      t.f F.GLB_VIEW_VIEW = (max (s.f F.GLB_VIEW_VIEW) highest + 1) % 2 ^ 64 ∧ t.host.txns = [] ∧ t.host.snaps = []) ∧
  (∀ (s : State) (highest : Nat), s.Canon → s.f F.CST_STATUS_MODE ≠ 0 → s.pole ≠ s.cst.alternate → s.position ≠ s.cst.alternate →
    s.cst.alternate < 64 →
    Nexts (exec (.promote highest) s) fun t => t.pole = s.cst.alternate ∧ t.f F.CST_STATUS_IS_POLE = 0 ∧ t.host.txns = [])

/-! ### The peer protocol -/

/-- The checks on a received line block (R279, R280), on the kinds of DATA: a wrong CRC-32C, a wrong form, a key that is not
live and a tag that fails each discard the block and count it, and nothing else is taken from it. -/
def Obligations.ReceivedBlocksAreCheckedFirst : Prop :=
  ∀ (s : State) (port : Nat) (bs : List Byte) (b : LineBlk), s.Canon → b = lineBlk bs → b.kind = kData → b.abandon = false →
    b.timeBlock = false →
    (crcOk bs b = false → Nexts (exec (.dataReceive port bs) s) fun t => Counted F.PEER_CRC_ERR_COUNT 0 1 s t ∧ t.peer = s.peer) ∧
    (crcOk bs b = true → s.formOk b = false → Nexts (exec (.dataReceive port bs) s) fun t =>
      Counted F.PEER_PROTO_ERR_COUNT 0 1 s t ∧ t.peer = s.peer) ∧
    (crcOk bs b = true → s.formOk b = true →
      (b.slot ≠ s.f F.PEER_SESSn_RX_SLOT_SLOT b.session ∨ s.liveGen b.slot b.gen = none) →
      Nexts (exec (.dataReceive port bs) s) fun t => Counted F.PEER_KEY_UNKNOWN_COUNT 0 1 s t ∧ t.peer = s.peer) ∧
    (∀ g, crcOk bs b = true → s.formOk b = true → b.slot = s.f F.PEER_SESSn_RX_SLOT_SLOT b.session →
      s.liveGen b.slot b.gen = some g → s.openBlk b.session g b = none →
      Nexts (exec (.dataReceive port bs) s) fun t => Counted F.PEER_SESSn_TAG_FAIL_COUNT b.session 1 s t ∧
        t.peer.rx = s.peer.rx ∧ t.f F.PEER_SESSn_RX_CUM b.session = s.f F.PEER_SESSn_RX_CUM b.session)

/-- What a line block of each of the thirteen sorts does once it has passed the checks, every sort in every form; `u` is the state that
the checks leave. A block that the checks stop is done with. A HELLO that agrees sets the peer's window, answers unless it is a reply,
and opens an OPENING session; from ECLIPSE, or from OPEN when the peer begins anew, the session goes to RESYNC; one that
disagrees is shown while OPENING and otherwise only counted (R322 to R327). DATA is accepted, counted for the next ACK and put in its chunk; a
part of an instance not yet admitted is parked, or not accepted while the area is full; a fresh copy is no longer wanted; a correction joins its
reconciliation (R261, R262, R287, R291, R292, R320, R377). An abandonment is shown; reason 1 fails the chunk and reason 3 the item that
waits (R230, R303, R304, R544). An ACK ends what it names (R293); a NAK sends again or, of what is not held, abandons (R298, R307). A PROBE
is answered, or its reply proves the route (R310 to R315). A CODEBOOK is installed, acknowledged again, in conflict, kept waiting, or
counted when it is none (R225, R757). STEP_READY, STEP_COMMIT and EPOCH are taken in (R330, R335, R339, R354), and HORIZON and RECONCILE
drive the reconciliation (R372 to R380). -/
def Obligations.LineBlocksOfEachKindAreTaken : Prop :=
  (∀ (s u : State) (port : Nat) (bs : List Byte) (b : LineBlk), s.Canon → s.screen port bs = (none, u) → b = lineBlk bs →
    (b.kind = kHello → exec (.helloReceive port bs) s = .next u) ∧
    (b.kind = kData → b.abandon = false → b.timeBlock = false → exec (.dataReceive port bs) s = .next u) ∧
    (b.kind = kData → b.abandon = true → exec (.abandonmentReceive port bs) s = .next u) ∧
    (b.kind = kAck → exec (.ackReceive port bs) s = .next u) ∧ (b.kind = kNak → exec (.nakReceive port bs) s = .next u) ∧
    (b.kind = kProbe → exec (.probeRequestReceive port bs) s = .next u ∧ exec (.probeReplyReceive port bs) s = .next u) ∧
    (b.kind = kCodebook → exec (.codebookReceive port bs) s = .next u) ∧
    (b.kind = kStepReady → exec (.stepReadyReceive port bs) s = .next u) ∧
    (b.kind = kStepCommit → exec (.stepCommitReceive port bs) s = .next u) ∧
    (b.kind = kEpoch → exec (.epochReceive port bs) s = .next u) ∧ (b.kind = kHorizon → exec (.horizonReceive port bs) s = .next u) ∧
    (b.kind = kReconcile → exec (.reconcileReceive port bs) s = .next u)) ∧
  (∀ (s u : State) (port n : Nat) (bs : List Byte) (a : Arrival), s.Canon → s.screen port bs = (some a, u) →
    a.session = n → a.blk.kind = kHello →
    (u.helloAgrees n a.payload = false →
      (u.sessState n = ssOpening → Nexts (exec (.helloReceive port bs) s) fun t => t.sessState n = ssOpening ∧
        t.f F.PEER_EVENTS_HELLO_MISMATCH = 1 ∧ Counted F.PEER_PROTO_ERR_COUNT 0 1 u t) ∧
      (u.sessState n ≠ ssOpening → exec (.helloReceive port bs) s = .next (u.count F.PEER_SESSn_RECEIVED_COUNT 1 n))) ∧
    (u.helloAgrees n a.payload = true → Nexts (exec (.helloReceive port bs) s) fun t =>
      (t.sess n).peerWindow = some (hdrAt a.payload 36 4) ∧ Counted F.PEER_SESSn_RECEIVED_COUNT n 1 u t ∧
      (u.sessState n = ssOpening → t.sessState n = ssOpen ∧ t.f F.PEER_EVENTS_OPENED = 1) ∧
      (u.sessState n = ssOpen → hdrAt a.payload 26 1 % 2 = 0 → t.sessState n = ssOpen) ∧
      (u.sessState n = ssOpen → hdrAt a.payload 26 1 % 2 = 1 → t.sessState n = ssResync ∧ t.f F.PEER_RECON_STATE = rcHorizon ∧
        t.f F.PEER_RECON_YIELDER = u.peerSite n) ∧
      (u.sessState n = ssEclipse → t.sessState n = ssResync ∧ t.f F.PEER_RECON_STATE = rcHorizon) ∧
      (hdrAt a.payload 26 1 % 2 = 1 → t.f F.PEER_SESSn_RX_CUM n = hdrAt a.payload 28 4 ∧ (t.sess n).rxAbove = []) ∧
      (hdrAt a.payload 26 1 % 2 = 0 → ∀ b ∈ (t.sess n).tx, b.phase = .sent → newer (hdrAt a.payload 32 4) b.dseq = false) ∧
      (u.peer.adopting = false → (u.txGen n).isSome = true → (t.sess n).txCtl =
        if (hdrAt a.payload 26 1).testBit 1 then (u.sess n).txCtl else ((u.sess n).txCtl + 1) % 2 ^ 32))) ∧
  (∀ (s u : State) (port n : Nat) (bs : List Byte) (a : Arrival), s.Canon → s.screen port bs = (some a, u) →
    a.session = n → a.blk.kind = kData → a.blk.abandon = false → a.blk.timeBlock = false →
    (u.seqPlace n a.blk.seq = .wanted → Nexts (exec (.dataReceive port bs) s) fun t =>
      (t.sess n).ackCount = (u.sess n).ackCount + 1 ∧ Counted F.PEER_SESSn_RECEIVED_COUNT n 1 u t ∧
      (t.sess n).rxWanted.contains a.blk.seq = false) ∧
    (u.seqPlace n a.blk.seq = .fresh → a.blk.cls = 3 → Nexts (exec (.dataReceive port bs) s) fun t =>
      (t.sess n).ackCount = (u.sess n).ackCount + 1 ∧ Counted F.PEER_SESSn_RECEIVED_COUNT n 1 u t) ∧
    (u.seqPlace n a.blk.seq = .fresh → a.blk.cls = 4 → u.sessState n = ssResync → ∀ r, u.peer.recon = some r → r.peerSent = none →
      u.f F.PEER_RECON_STATE = rcDelta →
      Nexts (exec (.dataReceive port bs) s) fun t => (t.sess n).ackCount = (u.sess n).ackCount + 1 ∧
        t.peer.recon = some { r with inBlocks := r.inBlocks ++ [(a.blk.seq, a.blk.stream, a.payload)] }) ∧
    (u.seqPlace n a.blk.seq = .fresh → a.blk.cls ≠ 3 → (a.blk.cls = 4 → u.sessState n ≠ ssResync) →
      (a.blk.flags.testBit 0 = true → u.admitted a.blk.step = true) →
      Nexts (exec (.dataReceive port bs) s) fun t => (t.sess n).ackCount = (u.sess n).ackCount + 1 ∧
        Counted F.PEER_SESSn_RECEIVED_COUNT n 1 u t ∧
        (t.peer.rx.any fun c =>
          decide (c.session = n ∧ c.stream = a.blk.stream ∧ c.step = u.stepOf a.blk ∧ c.chunk = a.blk.chunk) &&
          (c.adhoc == a.blk.flags.testBit 0) && c.got.any fun g => g.1 = a.blk.part) = true) ∧
    (u.seqPlace n a.blk.seq = .fresh → a.blk.cls ≠ 3 → (a.blk.cls = 4 → u.sessState n ≠ ssResync) →
      a.blk.flags.testBit 0 = true → u.admitted a.blk.step = false →
      (u.f F.COL_PARK_LIMIT * 2 ^ 20 < (u.col.parked.map fun p => p.bytes.length).sum + bs.length →
        Nexts (exec (.dataReceive port bs) s) fun t => t.f F.COL_EVENTS_PARK_FULL = 1 ∧ t.col.parked = u.col.parked ∧
          (t.sess n).ackCount = (u.sess n).ackCount) ∧
      ((u.col.parked.map fun p => p.bytes.length).sum + bs.length ≤ u.f F.COL_PARK_LIMIT * 2 ^ 20 →
        Nexts (exec (.dataReceive port bs) s) fun t => Counted F.COL_PARKED_COUNT 0 1 u t ∧
          t.col.parked = u.col.parked ++ [{ id := a.blk.step, session := n, stream := a.blk.stream, dseq := a.blk.seq, bytes := bs
                                            at_ := u.now }] ∧
          (t.sess n).ackCount = (u.sess n).ackCount + 1))) ∧
  (∀ (s u : State) (port n : Nat) (bs : List Byte) (a : Arrival), s.Canon → s.screen port bs = (some a, u) →
    a.session = n → a.blk.kind = kData → a.blk.abandon = true →
    Nexts (exec (.abandonmentReceive port bs) s) fun t => t.f F.PEER_EVENTS_ABANDON = 1 ∧
      t.f F.PEER_SESSn_LAST_ABANDON_STREAM n = a.blk.stream ∧ t.f F.PEER_SESSn_LAST_ABANDON_REASON n = hdrAt a.payload 0 1 ∧
      t.f F.PEER_SESSn_LAST_ABANDON_CHUNK n = a.blk.chunk ∧ Counted F.PEER_SESSn_RECEIVED_COUNT n 1 u t ∧
      (∀ q, hdrAt a.payload 0 1 = 1 → bodyRanges a.payload (hdrAt a.payload 1 1) = [(q, q)] → (u.accept a).seqPlace n q = .fresh →
        (u.seq.items.all fun it => decide (rowOpcode it.row ≠ opRecv)) = true →
        (t.peer.rx.any fun c =>
          decide (c.session = n ∧ c.stream = a.blk.stream ∧ c.step = u.stepOf a.blk ∧ c.chunk = a.blk.chunk) && c.failed) = true) ∧
      (∀ q it, hdrAt a.payload 0 1 = 3 → bodyRanges a.payload (hdrAt a.payload 1 1) = [(q, q)] → u.cmp.refetch = [(it.id, n, [q])] →
        u.item it.id = some it → it.track < 16 → rowOpcode it.row = opOpen → Ended u t it .failedTag)) ∧
  (∀ (s u : State) (port n : Nat) (bs : List Byte) (a : Arrival), s.Canon → s.screen port bs = (some a, u) →
    a.session = n → a.blk.kind = kAck →
    Nexts (exec (.ackReceive port bs) s) fun t => (t.sess n).peerWindow = some (hdrAt a.payload 4 4) ∧
      ∀ b ∈ (t.sess n).tx, b.phase = .sent → newer (hdrAt a.payload 0 4) b.dseq = false) ∧
  (∀ (s u : State) (port n : Nat) (bs : List Byte) (a : Arrival), s.Canon → s.screen port bs = (some a, u) →
    a.session = n → a.blk.kind = kNak → Nexts (exec (.nakReceive port bs) s) fun t =>
    (∀ b, hdrAt a.payload 1 1 = 0 → bodyRanges a.payload (hdrAt a.payload 0 1) = [(b.dseq, b.dseq)] → (u.sess n).tx = [b] →
      b.phase = .sent → b.abandoned = false → u.f F.PEER_SESSn_STATE_EPOCH_WAIT n = 0 →
      u.elapsed b.lastSent (u.rtt n b.lastRoute) = true → u.upRoutes n ≠ [] →
      Counted F.PEER_SESSn_RESENT_COUNT n 1 u t ∧ ∃ c, (t.sess n).tx = [c] ∧ c.dseq = b.dseq ∧ c.resends = b.resends + 1) ∧
    (hdrAt a.payload 1 1 = 0 → u.f F.PEER_SESSn_STATE_EPOCH_WAIT n = 1 → (t.sess n).tx = (u.sess n).tx) ∧
    (∀ q, hdrAt a.payload 1 1 ≠ 0 → bodyRanges a.payload (hdrAt a.payload 0 1) = [(q, q)] → (u.sess n).tx = [] →
      (u.sess n).unsealed = [] → (u.txGen n).isSome = true →
      t.f F.PEER_SESSn_TX_NEXT n = (u.f F.PEER_SESSn_TX_NEXT n + 1) % 2 ^ 32)) ∧
  (∀ (s u : State) (port n : Nat) (bs : List Byte) (a : Arrival), s.Canon → s.screen port bs = (some a, u) →
    port < 16 → a.session = n → a.blk.kind = kProbe → (hdrAt a.payload 4 1).testBit 0 = false →
    ((u.txGen n).isSome = true → Nexts (exec (.probeRequestReceive port bs) s) fun t =>
      ∃ q, t.queue (port / 8) 0 = u.queue (port / 8) 0 ++ [q] ∧ q.session = n ∧ q.port = some (port % 8)) ∧
    ((u.txGen n) = none → exec (.probeRequestReceive port bs) s = .next (u.count F.PEER_SESSn_RECEIVED_COUNT 1 n))) ∧
  (∀ (s u : State) (port n r : Nat) (bs : List Byte) (a : Arrival), s.Canon → s.screen port bs = (some a, u) →
    port < 16 → r = port / 8 → a.session = n → a.blk.kind = kProbe → (hdrAt a.payload 4 1).testBit 0 = true →
    (u.routeDisabled n r = true → exec (.probeReplyReceive port bs) s = .next (u.count F.PEER_SESSn_RECEIVED_COUNT 1 n)) ∧
    (u.routeDisabled n r = false → Nexts (exec (.probeReplyReceive port bs) s) fun t =>
      (u.route n r = rtDown → t.route n r = rtProving ∧ ((t.sess n).rt r).proved = 1) ∧
      (u.route n r = rtProving → ((u.sess n).rt r).proved + 1 < u.ephProve →
        t.route n r = rtProving ∧ ((t.sess n).rt r).proved = ((u.sess n).rt r).proved + 1) ∧
      (u.route n r = rtProving → u.ephProve ≤ ((u.sess n).rt r).proved + 1 → t.route n r = rtUp ∧ t.f F.PEER_EVENTS_ROUTE_UP = 1) ∧
      (u.route n r = rtUp → t.route n r = rtUp ∧ ((t.sess n).rt r).replyAt = u.now))) ∧
  (∀ (s u : State) (port n : Nat) (bs : List Byte) (a : Arrival) (c : Ctx) (g : Seg), s.Canon →
    s.screen port bs = (some a, u) → a.session = n → a.blk.kind = kCodebook → c = u.ctx a.blk.stream → g = u.seg c →
    Nexts (exec (.codebookReceive port bs) s) fun t =>
    (((c.valid && !c.send && c.segment && decide (c.session = n) && decide (g.rate ≠ 0xF) && !g.fixedCb && !g.lowrank) = false ∨
        bookOfBytes g.rate a.payload = none) → Counted F.PEER_PROTO_ERR_COUNT 0 1 u t ∧ t.cmp.books = u.cmp.books) ∧
    (∀ b, (c.valid && !c.send && c.segment && decide (c.session = n) && decide (g.rate ≠ 0xF) && !g.fixedCb && !g.lowrank) = true →
      bookOfBytes g.rate a.payload = some b →
      (u.bookOf g.cbSlot b.gen = none → (u.liveBooks g.cbSlot).length < 2 → ∃ k, t.bookOf g.cbSlot b.gen = some k ∧ k.lim = b.lim ∧
        k.levels = b.levels ∧ (a.blk.stream, b.gen, 8) ∈ (t.sess n).cbAcks) ∧
      (∀ x, u.bookOf g.cbSlot b.gen = some x → x.conflicted = false → x.rate = b.rate → x.lim = b.lim → x.levels = b.levels →
        x.step % 2 ^ 32 = b.step → t.cmp.books = u.cmp.books ∧ (a.blk.stream, b.gen, 8) ∈ (t.sess n).cbAcks) ∧
      (∀ x, u.bookOf g.cbSlot b.gen = some x → x.conflicted = false → x.levels ≠ b.levels → t.f F.CMP_EVENTS_CONFLICT = 1) ∧
      (∀ old, u.bookOf g.cbSlot b.gen = none → 2 ≤ (u.liveBooks g.cbSlot).length → u.retiring g.cbSlot = some old →
        0 < u.bookPins g.cbSlot old.gen → t.cmp.books = u.cmp.books ∧
        (t.cmp.waits.any fun w => decide (w.slot = g.cbSlot ∧ w.body.gen = b.gen ∧ w.session = n)) = true))) ∧
  (∀ (s u : State) (port n k : Nat) (bs : List Byte) (a : Arrival), s.Canon → s.screen port bs = (some a, u) →
    a.session = n → a.blk.kind = kStepReady → hdrAt a.payload 0 8 = k → Nexts (exec (.stepReadyReceive port bs) s) fun t =>
    (u.f F.SEQ_MERIDIAN_STEP < k → k ≤ u.f F.SEQ_MERIDIAN_STEP + 64 → (tfind k t.peer.ready).getD 0 =
      Nat.lor ((tfind k u.peer.ready).getD 0) (hdrAt a.payload 8 2)) ∧
    ((k ≤ u.f F.SEQ_MERIDIAN_STEP ∨ u.f F.SEQ_MERIDIAN_STEP + 64 < k) → Counted F.PEER_PROTO_ERR_COUNT 0 1 u t ∧
      t.peer.ready = u.peer.ready)) ∧
  (∀ (s u : State) (port n : Nat) (bs : List Byte) (a : Arrival), s.Canon → s.screen port bs = (some a, u) →
    a.session = n → a.blk.kind = kStepCommit →
    Nexts (exec (.stepCommitReceive port bs) s) fun t => t.f F.PEER_SESSn_PEER_MERIDIAN_STEP n =
      max (u.f F.PEER_SESSn_PEER_MERIDIAN_STEP n) (hdrAt a.payload 0 8)) ∧
  (∀ (s u : State) (port n : Nat) (bs : List Byte) (a : Arrival), s.Canon → s.screen port bs = (some a, u) →
    a.session = n → a.blk.kind = kEpoch → Nexts (exec (.epochReceive port bs) s) fun t =>
    (u.f F.PEER_EPOCH_EPOCH < hdrAt a.payload 0 8 → t.f F.PEER_SESSn_STATE_EPOCH_WAIT n = 1 ∧
      (t.sess n).waitFor = max (hdrAt a.payload 0 8) (u.sess n).waitFor ∧ t.f F.PEER_EVENTS_EPOCH_AHEAD = 1) ∧
    (hdrAt a.payload 0 8 < u.f F.PEER_EPOCH_EPOCH → t.f F.PEER_SESSn_STATE_EPOCH_WAIT n = 1 ∧
      (t.sess n).waitFor = (u.sess n).waitFor) ∧
    (hdrAt a.payload 0 8 = u.f F.PEER_EPOCH_EPOCH → (u.sess n).waitFor = 0 → t.f F.PEER_SESSn_STATE_EPOCH_WAIT n = 0)) ∧
  (∀ (s u : State) (port n : Nat) (bs : List Byte) (a : Arrival), s.Canon → s.screen port bs = (some a, u) →
    a.session = n → a.blk.kind = kHorizon → Nexts (exec (.horizonReceive port bs) s) fun t =>
    (∀ r, u.sessState n = ssResync → u.peer.recon = some r → r.session = n → u.f F.PEER_RECON_STATE = rcHorizon →
      min (u.firstIsland - 1) (hdrAt a.payload 8 8 - 1) ≤ u.f F.SEQ_MERIDIAN_STEP →
      (u.exact = true → t.sessState n = ssOpen ∧ t.f F.PEER_RECON_STATE = 0 ∧ t.peer.recon = none) ∧
      (u.exact = false → t.f F.PEER_RECON_STATE = rcDelta ∧
        ∃ x, t.peer.recon = some x ∧ x.common = min (u.firstIsland - 1) (hdrAt a.payload 8 8 - 1) ∧
          x.peerThrough = hdrAt a.payload 8 8 - 1 ∧ x.yielder = if r.yielder ≠ 0xFF then r.yielder
            else if u.f F.PEER_FAULT_CFG_POLICY = 2 then u.yielderOf n else 0xFF)) ∧
    (u.sessState n ≠ ssOpen → u.sessState n ≠ ssEclipse → u.peer.recon = none →
      t.peer.recon = none ∧ t.sessState n = u.sessState n)) ∧
  (∀ (s u : State) (port n : Nat) (bs : List Byte) (a : Arrival), s.Canon → s.screen port bs = (some a, u) →
    a.session = n → a.blk.kind = kReconcile → Nexts (exec (.reconcileReceive port bs) s) fun t =>
    (u.peer.recon = none → t.peer.recon = none) ∧
    (∀ r, u.peer.recon = some r → r.session = n →
      (hdrAt a.payload 10 1 = 2 → u.f F.PEER_RECON_STATE = rcDelta → r.ownSent = false →
        t.peer.recon = some { r with peerSent := some (hdrAt a.payload 16 8, hdrAt a.payload 24 32) }) ∧
      (hdrAt a.payload 10 1 = 2 → u.f F.PEER_RECON_STATE = rcDelta → r.ownSent = true → r.inBlocks = [] → hdrAt a.payload 16 8 = 0 →
        beNat (byts (sha256 [])) ≠ hdrAt a.payload 24 32 →
        t.f F.PEER_RECON_STATE = rcFailed ∧ t.f F.PEER_FAULT_EVENTS_RECON_FAIL = 1) ∧
      (hdrAt a.payload 10 1 = 3 → u.f F.PEER_RECON_STATE = rcDelta → r.peerSent = none →
        t.peer.recon = some { r with peerApplied := true }) ∧
      (hdrAt a.payload 10 1 = 3 → u.f F.PEER_RECON_STATE = rcApplied → t.f F.PEER_RECON_STATE = 0 ∧ t.sessState n = ssOpen ∧
        t.f F.SEQ_MERIDIAN_STEP = max r.ownLast r.peerLast % 2 ^ 64 ∧ t.f F.PEER_FAULT_EVENTS_RECONCILED = 1)))

/-- The timers of the peer protocol, its routes and its Eclipse (R291, R296, R299 to R302, R309, R315, R324, R327, R376). An acknowledgement that is due goes out
and starts the count anew; an overtaken sequence is asked for; a block whose timer has run out is sent again, and past the sixteenth time
its item ends FAILED_RESEND_LIMIT; a probe and a HELLO go out when due; a silent route, one that proves itself too late and a disabled one
are down; a session that hears nothing for T_ECLIPSE is in ECLIPSE; the own corrections are sent once none waits. -/
def Obligations.PeerTimersAndRoutesAct : Prop :=
  (∀ (s : State) (n : Nat), s.Canon → n < 32 → 16 ≤ (s.sess n).ackCount → s.ackRoutes n ≠ [] → (s.txGen n).isSome = true →
    Nexts (exec (.ackSend n) s) fun t => (t.sess n).ackCount = 0 ∧ (t.sess n).ackFirst = none ∧
      ∀ r ∈ s.ackRoutes n, (t.queue r 0).length = (s.queue r 0).length + 1 ∨ t.txGen n = none) ∧
  (∀ (s : State) (n : Nat), s.Canon → n < 32 → s.overtaken n ≠ [] →
    Nexts (exec (.gapNak n) s) fun t => ∀ q ∈ s.overtaken n, ((t.sess n).naked.any fun a => a.1 = q) = true) ∧
  (∀ (s : State) (n d : Nat) (b : TxBlock), s.Canon → n < 32 →
    ((s.sess n).tx.find? fun b => b.dseq = d ∧ b.phase = TxPhase.sent) = some b → b.abandoned = false →
    s.timersRun n b = true → s.elapsed b.timerAt (3 * s.rtt n b.lastRoute / 2 + 200000) = true → b.resends < 16 →
    s.upRoutes n ≠ [] →
    Nexts (exec (.resendTimer n d) s) fun t => Counted F.PEER_SESSn_TIMEOUTS_COUNT n 1 s t ∧
      Counted F.PEER_SESSn_RESENT_COUNT n 1 s t ∧ (t.sess n).tx.length = (s.sess n).tx.length) ∧
  (∀ (s : State) (n d id : Nat) (b : TxBlock) (it : Item), s.Canon → n < 32 → it.track < 16 →
    ((s.sess n).tx.find? fun b => b.dseq = d ∧ b.phase = TxPhase.sent) = some b → b.abandoned = false →
    s.timersRun n b = true → s.elapsed b.timerAt (3 * s.rtt n b.lastRoute / 2 + 200000) = true → 16 ≤ b.resends →
    b.item = some id → s.item id = some it →
    Nexts (exec (.resendTimer n d) s) fun t => Ended s t it .failedResendLimit ∧ t.f F.PEER_EVENTS_RESEND_LIMIT = 1) ∧
  (∀ (s : State) (n : Nat), s.Canon → (∀ a, s.peer.probeAt = some a → s.elapsed a 10000 = true) → s.declared = [n] →
    n < 32 → s.sessState n ≠ ssIdle → s.routeDisabled n 0 = false → (s.txGen n).isSome = true →
    Nexts (exec .probeSend s) fun t => t.peer.probeAt = some s.now ∧ ∃ q, t.queue 0 0 = s.queue 0 0 ++ [q] ∧
      q.session = n ∧ q.port = some (s.sess n).routeA.nextPort) ∧
  (∀ (s : State) (n r : Nat), s.Canon → n < 32 → r < 2 → s.route n r = rtUp → s.routeLost n r = true →
    Nexts (exec (.routeSilence n r) s) fun t => t.route n r = rtDown ∧ t.f F.PEER_EVENTS_ROUTE_DOWN = 1) ∧
  (∀ (s : State) (n r : Nat), s.Canon → n < 32 → r < 2 → s.route n r = rtProving →
    s.elapsed ((s.sess n).rt r).replyAt 30000 = true →
    Nexts (exec (.routeProveTimeout n r) s) fun t => t.route n r = rtDown ∧ t.f F.PEER_EVENTS_ROUTE_DOWN = 1) ∧
  (∀ (s : State) (n v : Nat), s.Canon → n < 32 →
    Nexts (exec (.routeDisableWrite n v) s) fun t => t.f F.PEER_SESSn_CTRL_A_DISABLE n = v % 2 ∧
      t.f F.PEER_SESSn_CTRL_B_DISABLE n = v / 2 % 2 ∧ (v % 2 = 1 → t.route n 0 = rtDown) ∧ (v / 2 % 2 = 1 → t.route n 1 = rtDown)) ∧
  (∀ (s : State) (n : Nat), s.Canon → n < 32 → s.sessState n = ssOpening ∨ s.sessState n = ssEclipse →
    (s.sess n).helloAt = 0 ∨ s.elapsed (s.sess n).helloAt 100000 = true → (s.txGen n).isSome = true →
    Nexts (exec (.helloSend n) s) fun t => (t.sess n).helloAt = s.now ∧
      ∃ q, t.queue 0 0 = s.queue 0 0 ++ [q] ∧ q.session = n) ∧
  (∀ (s : State) (n : Nat), s.Canon → n < 32 → s.sessState n = ssOpen ∨ s.sessState n = ssResync →
    s.elapsed (s.sess n).heardAt (max 1 (s.f F.PEER_TIMING_T_ECLIPSE) * 100000) = true →
    Nexts (exec (.eclipseEntry n) s) fun t => t.sessState n = ssEclipse ∧ t.f F.PEER_EVENTS_ECLIPSE = 1) ∧
  (∀ (s : State) (n : Nat) (r : Recon), s.Canon → n < 32 → s.peer.recon = some r → r.session = n → s.f F.PEER_RECON_STATE = rcDelta →
    r.ownSent = false → r.peerSent = none →
    ((s.sess n).tx.any fun b => b.corr && (decide (b.phase = TxPhase.waiting) || decide (b.phase = TxPhase.queued))) = false →
    Nexts (exec (.correctionSent n) s) fun t => t.peer.recon = some { r with ownSent := true })

/-! ### Time -/

/-- The twelve commands of the time unit, each in every form. A PTP message of the own domain lists its master, starts an exchange, or
ends it and so steers TB0: a FREE base locks at its sixteenth update, another slews and never steps; a message of the relayed
domain goes to the peer (R567, R569, R576). A source that is lost leaves its base in HOLDOVER, but TB0 on PTP goes over to TB1 without
a step while that is LOCKED, and holdover that runs out leaves it FREE; TB0 reverts when due (R567, R568). A time report is sent on each
up route and its content kept (R573). A relayed frame leaves by the host port, or is discarded and counted when TB2 is FREE or the frame is
late (R577, R578). Transfer holdover runs out, and a written asymmetry locks its route (R574). An edge on PPS_IN is stamped, advances the time
of day, and steers TB0 or is rejected (R579); PPS_OUT rises in the cycle of a whole second (R580). A read of a SEC register latches its base (R565). A
command whose condition does not hold changes nothing. -/
def Obligations.TimeBasesHoldReportAndPulse : Prop :=
  (∀ (s : State) (fr m : List Byte) (off carrier : Nat), s.Canon → ptpAt (fr.take (fr.length - 4)) = some (off, carrier) →
    m = (fr.take (fr.length - 4)).drop off → Nexts (exec (.ptpMessageReceive fr) s) fun t =>
    (s.tb0OnPtp = true → s.f F.TIME_CFG_TB0_DOMAIN = ptpDomain m →
      (ptpType m = 11 → hdrAt m 61 2 < 255 → (s.ptp 0).masters = [] →
        ∃ x, (t.ptp 0).masters = [x] ∧ x.ident = hdrAt m 20 10 ∧ x.at_ = s.now) ∧
      (∀ b, s.ptpBest 0 = some b → b.ident = hdrAt m 20 10 →
        (ptpType m = 0 → (hdrAt m 6 1).testBit 1 = false → (t.ptp 0).syncTx = some (ptpTime m 34 + ptpCorr m) ∧
          (t.ptp 0).syncRx = s.hostRxStamp ∧ (t.ptp 0).delayTx = some s.hostTxStamp) ∧
        (ptpType m = 0 → (hdrAt m 6 1).testBit 1 = true → (t.ptp 0).syncTx = none ∧ (t.ptp 0).syncSeq = hdrAt m 30 2) ∧
        (ptpType m = 8 → hdrAt m 30 2 = (s.ptp 0).syncSeq → (s.ptp 0).syncTx = none →
          (t.ptp 0).syncTx = some (ptpTime m 34 + (s.ptp 0).syncCorr + ptpCorr m) ∧ (t.ptp 0).delayTx = some s.hostTxStamp) ∧
        (∀ t1 t3 want, ptpType m = 9 → (s.ptp 0).syncTx = some t1 → (s.ptp 0).delayTx = some t3 → hdrAt m 30 2 = (s.ptp 0).delaySeq →
          hdrAt m 44 10 = s.ptpIdent → s.onTb1 = false → want = (t1 - (s.ptp 0).syncRx + (ptpTime m 34 - ptpCorr m - t3)) / 2 →
          (t.ptp 0).delayTx = none ∧
          ((s.base 0).state ≠ tbFree → (t.base 0).state = tbLocked ∧ (t.base 0).off = s.baseOff 0 ∧ (t.base 0).phase = want - s.baseOff 0) ∧
          ((s.base 0).state = tbFree → 16 ≤ (s.base 0).good + 1 → (t.base 0).state = tbLocked ∧ (t.base 0).off = want ∧
            t.f F.TIME_EVENTS_LOCKED = 1) ∧
          ((s.base 0).state = tbFree → (s.base 0).good + 1 < 16 → (t.base 0).state = tbFree ∧ (t.base 0).good = (s.base 0).good + 1)))) ∧
    (∀ n, s.tb0OnPtp = false → s.f F.TIME_CFG_TB1_EN = 0 → s.f F.TIME_TC_ENABLE = 1 → s.f F.TIME_TC_TC_DOMAIN = ptpDomain m →
      s.f F.TIME_CFG_SESSION = n → s.timeSession n = true → (s.txGen n).isSome = true → (s.sess n).unsealed = [] →
      t.f F.PEER_SESSn_TX_NEXT n = (s.f F.PEER_SESSn_TX_NEXT n + 1) % 2 ^ 32)) ∧
  (∀ (s : State) (fr : List Byte), s.Canon → ptpAt (fr.take (fr.length - 4)) = none → exec (.ptpMessageReceive fr) s = .next s) ∧
  (∀ (s : State) (n : Nat), s.Canon → (3 ≤ n ∨ s.sourceLost n = false) → exec (.timeSourceLost n) s = .next s) ∧
  (∀ (s : State) (n : Nat), s.Canon → n = 1 ∨ n = 2 → s.sourceLost n = true → Nexts (exec (.timeSourceLost n) s) fun t =>
    ((s.base n).state = tbLocked → (t.base n).state = tbHoldover ∧ (t.base n).off = s.baseOff n ∧ t.f F.TIME_EVENTS_HOLDOVER = 1) ∧
    (n = 1 → s.onTb1 = true → (s.base 0).state = tbLocked → (t.base 0).state = tbHoldover)) ∧
  (∀ (s : State), s.Canon → s.sourceLost 0 = true → Nexts (exec (.timeSourceLost 0) s) fun t =>
    (s.onTb1 = true → t.time.validSince = none ∧ t.base 0 = s.base 0) ∧
    (s.onTb1 = false → s.tb0OnPtp = true → (s.base 0).state = tbLocked → (s.base 1).state = tbLocked → s.ptpLost 1 = false →
      t.onTb1 = true ∧ t.f F.TIME_EVENTS_SWITCHOVER = 1 ∧ (t.base 0).state = tbLocked ∧ t.baseOff 0 = s.baseOff 0) ∧
    (s.onTb1 = false → (s.base 0).state = tbLocked → (s.tb0OnPtp = false ∨ (s.base 1).state ≠ tbLocked ∨ s.ptpLost 1 = true) →
      (t.base 0).state = tbHoldover ∧ t.f F.TIME_EVENTS_HOLDOVER = 1 ∧
      (s.f F.TIME_CFG_TB0_SRC = 1 → t.f F.TIME_EVENTS_PPS_LOST = 1))) ∧
  (∀ (s : State) (n : Nat), s.Canon →
    (n < 3 → (s.base n).state = tbHoldover → s.elapsed (s.base n).heldAt s.holdoverNs = true →
      Nexts (exec (.holdoverExpired n) s) fun t => (t.base n).state = tbFree ∧ t.f F.TIME_EVENTS_FREE = 1 ∧ (n = 0 → t.onTb1 = false)) ∧
    ((3 ≤ n ∨ (s.base n).state ≠ tbHoldover ∨ s.elapsed (s.base n).heldAt s.holdoverNs = false) →
      exec (.holdoverExpired n) s = .next s)) ∧
  (∀ (s : State), s.Canon →
    (∀ a, s.time.validSince = some a → s.onTb1 = true → s.elapsed a (s.f F.TIME_HOLD_REVERT * 10 ^ 9) = true →
      Nexts (exec .tb0Revert s) fun t => t.onTb1 = false ∧ t.f F.TIME_EVENTS_SWITCHOVER = 1 ∧ t.baseOff 0 = s.baseOff 0) ∧
    ((s.time.validSince = none ∨ s.onTb1 = false ∨ (∀ a, s.time.validSince = some a →
      s.elapsed a (s.f F.TIME_HOLD_REVERT * 10 ^ 9) = false)) → exec .tb0Revert s = .next s)) ∧
  (∀ (s : State) (n : Nat), s.Canon → s.f F.TIME_CFG_SESSION = n →
    (∀ r, s.timeSession n = true → s.upRoutes n = [r] → (s.txGen n).isSome = true →
      Nexts (exec .timeReportSend s) fun t => t.f F.PEER_SESSn_TX_NEXT n = (s.f F.PEER_SESSn_TX_NEXT n + 1) % 2 ^ 32) ∧
    ((s.timeSession n = false ∨ s.upRoutes n = []) → exec .timeReportSend s = .next s)) ∧
  (∀ (s u : State) (port : Nat) (bs : List Byte) (a : Arrival), s.Canon → s.screen port bs = (some a, u) →
    a.blk.timeBlock = true → u.seqPlace a.session a.blk.seq = .fresh → u.timeSession a.session = true →
    hdrAt a.payload 0 1 = 1 →
    Nexts (exec (.timeReportReceive port bs) s) fun t =>
      t.f F.TIME_STATUS_PEER_TRACEABLE = b2n ((hdrAt a.payload 1 1).testBit 2) ∧
      ∃ p, t.time.peer = some p ∧ p.2.1 = linearAt a.payload 16 ∧ p.2.2.1 = hdrAt a.payload 1 1 % 4) ∧
  (∀ (s u : State) (port : Nat) (bs fr : List Byte) (a : Arrival), s.Canon → s.screen port bs = (some a, u) →
    a.blk.timeBlock = true → u.seqPlace a.session a.blk.seq = .fresh → u.timeSession a.session = true →
    hdrAt a.payload 0 1 = 2 →
    fr = ((a.payload.drop 32).take (hdrAt a.payload 2 2)).take (((a.payload.drop 32).take (hdrAt a.payload 2 2)).length - 4) →
    Nexts (exec (.tcRelayReceive port bs) s) fun t =>
    ((u.base 2).state = tbFree → Counted F.TIME_TC_NOLOCK_COUNT 0 1 u t ∧ t.f F.TIME_EVENTS_TC_DISCARD = 1) ∧
    (∀ off carrier, (u.base 2).state ≠ tbFree → ptpAt fr = some (off, carrier) →
      (1 < ptpType (fr.drop off) → Counted F.TIME_TC_RELAYED_COUNT 0 1 u t) ∧
      (∀ res limit : Int, ptpType (fr.drop off) ≤ 1 → u.time.follows = some 0 →
        res = (u.baseLin 2 : Int) + u.f F.TIME_LAT_HOST_TX * 4096 - linearAt a.payload 16 →
        limit = ((u.f F.PEER_SESSn_EPH_A_ONE_WAY a.session + u.f F.TIME_TC_SLACK * 1000) * 65536 : Nat) →
        (limit < res → Counted F.TIME_TC_LATE_COUNT 0 1 u t ∧ t.f F.TIME_EVENTS_TC_DISCARD = 1) ∧
        (res ≤ limit → Counted F.TIME_TC_RELAYED_COUNT 0 1 u t)))) ∧
  (∀ (s : State) (r : Nat), s.Canon →
    (r < 2 → (s.timeRoute r).state = tbHoldover → s.elapsed (s.timeRoute r).heldAt s.holdoverNs = true →
      Nexts (exec (.transferHoldoverExpired r) s) fun t => (t.timeRoute r).state = tbFree ∧ (t.timeRoute r).asym = none ∧
        t.f F.TIME_EVENTS_FREE = 1) ∧
    ((2 ≤ r ∨ (s.timeRoute r).state ≠ tbHoldover ∨ s.elapsed (s.timeRoute r).heldAt s.holdoverNs = false) →
      exec (.transferHoldoverExpired r) s = .next s)) ∧
  (∀ (s : State), s.Canon →
    Nexts (exec .ppsInEdge s) fun t => t.f F.TIME_TOD_SECONDS = (s.f F.TIME_TOD_SECONDS + 1) % 2 ^ F.TIME_TOD_SECONDS.w ∧
      t.f F.TIME_PPS_IN_NS_NS = s.baseLin 0 / 65536 % 10 ^ 9 ∧
      ((s.base 0).state = tbLocked → 100000 * 65536 < offSecond (s.baseLin 0) → Counted F.TIME_PPS_REJECT_COUNT 0 1 s t) ∧
      (((s.base 0).state ≠ tbLocked ∨ offSecond (s.baseLin 0) ≤ 100000 * 65536) → t.time.ppsAt = s.now ∧
        (s.f F.TIME_CFG_TB0_SRC = 1 → s.onTb1 = false → (s.base 0).state ≠ tbFree → (t.base 0).state = tbLocked ∧
          (t.base 0).off = s.baseOff 0 ∧
          (t.base 0).phase = ((s.f F.TIME_TOD_SECONDS * 10 ^ 9 * 65536 : Nat) : Int) - s.tb3Lin - s.baseOff 0))) ∧
  (∀ (s : State) (n : Nat), s.Canon → s.f F.TIME_CFG_PPS_SRC = n →
    ((n = 3 ∨ (s.base n).state ≠ tbFree) → s.baseLin n % (65536 * 10 ^ 9) < 65536 →
      Nexts (exec .ppsOutPulse s) fun t => t.out = s.out ++ [.pps (max 1 (s.f F.TIME_CFG_PPS_WIDTH) * 1000)]) ∧
    ((n ≠ 3 ∧ (s.base n).state = tbFree) ∨ 65536 ≤ s.baseLin n % (65536 * 10 ^ 9) → exec .ppsOutPulse s = .next s)) ∧
  (∀ (s : State) (r : Nat) (w : Word), s.Canon → r < 2 →
    (w.toNat.testBit 32 = true →
      Nexts (exec (.asymWrite r w) s) fun t => (t.timeRoute r).state = tbLocked ∧
        (t.timeRoute r).asym = some ((BitVec.ofNat 32 w.toNat).toInt * 65536 / 1000) ∧ t.f F.TIME_EVENTS_ASYM_DONE = 1) ∧
    (w.toNat.testBit 32 = false →
      Nexts (exec (.asymWrite r w) s) fun t => t.f F.TIME_Rr_ASYM_ASYM r = w.toNat % 2 ^ 32 ∧ t.timeRoute r = s.timeRoute r)) ∧
  (∀ (s : State) (n : Nat), s.Canon → n < 4 →
    Nexts (exec (.tbSecRead n) s) fun t => t.f F.TIME_TBn_SEC_SECONDS n = s.baseLin n / 65536 / 10 ^ 9 % 2 ^ 64 ∧
      t.f F.TIME_TBn_NS_NS n = s.baseLin n / 65536 % 10 ^ 9 ∧ t.f F.TIME_TBn_NS_FRAC n = s.baseLin n % 65536)

/-! ### The constellation -/

/-- The links of a constellation (R629 to R632). A link trained to the far end that its wiring lays down is up, any other is
held down; a link that fails shows its re-sends and takes its ends out of the link-state records, which go on over the other links; once the routes
are installed, the positions without one show. -/
def Obligations.ConstellationLinksTrainFailAndReroute : Prop :=
  (∀ (s : State) (k pos link : Nat), s.Canon → k < 8 → s.f F.CST_STATUS_MODE ≠ 0 → s.linkUp k = false →
    (4 ≤ k → s.bit F.IMG_DARK_UNITS 29 = false) → s.wiring k = some (pos, link) →
    Nexts (exec (.cstLinkTrained k (s.f F.CST_STATUS_CID) pos link) s) fun t => t.linkUp k = true ∧
      t.f F.CST_LINKk_FAR_POS k = pos % 64 ∧ t.f F.CST_LINKk_FAR_LINK k = link % 8 ∧ t.f F.CST_EVENTS_LINK_UP = 1 ∧
      tfind s.position t.cst.links = some t.neighbours ∧ t.cst.changedAt.isSome = true) ∧
  (∀ (s : State) (k cid pos link : Nat) (e : Nat × Nat), s.Canon → k < 8 → s.f F.CST_STATUS_MODE ≠ 0 → s.linkUp k = false →
    (4 ≤ k → s.bit F.IMG_DARK_UNITS 29 = false) → s.wiring k = some e → e ≠ (pos, link) ∨ cid ≠ s.f F.CST_STATUS_CID →
    Nexts (exec (.cstLinkTrained k cid pos link) s) fun t => t.f F.CST_LINKk_STATE k = 1 ∧ t.f F.CST_EVENTS_MISWIRED = 1 ∧
      t.cst = s.cst) ∧
  (∀ (s : State) (k resends : Nat), s.Canon → k < 8 → s.linkUp k = true →
    Nexts (exec (.cstLinkDown ⟨k, resends⟩) s) fun t => t.f F.CST_LINKk_STATE k = 1 ∧ Counted F.CST_LINK_FAIL_COUNT 0 1 s t ∧
      Counted F.CST_LINKk_RESENDS k resends s t ∧
      t.f F.CST_EVENTS_LINK_DOWN = 1 ∧ tfind s.position t.cst.links = some t.neighbours ∧ t.cst.changedAt.isSome = true) ∧
  (∀ (s : State) (k m : Nat) (ns : List Nat), s.Canon → s.linkUp k = true → m < s.f F.CST_STATUS_MEMBERS → m ≠ s.position →
    (tfind m s.cst.links).getD [] ≠ ns →
    Nexts (exec (.linkStateReceive k m ns) s) fun t => tfind m t.cst.links = some ns ∧ t.cst.changedAt.isSome = true ∧
      ∀ l, l < 8 → l ≠ k → s.linkUp l = true →
        .member (s.f F.CST_LINKk_FAR_POS l) mkLinkState m (ns.map (BitVec.ofNat 8)) ∈ t.out) ∧
  (∀ (s : State), s.Canon → s.cst.changedAt.isSome = true →
    Nexts (exec .routesInstalled s) fun t => t.cst.changedAt = none ∧ Counted F.CST_REROUTES_COUNT 0 1 s t ∧
      t.f F.CST_EVENTS_REROUTED = 1 ∧ t.f F.CST_UNREACHABLE_POSITIONS = bitsOf s.cutOff % 2 ^ 64)

/-- Messages between the members of a constellation (R634 to R639, R646 to R648, R652). A forwarded request is carried out
once and its result kept; the pole turns the result into its answer; a commit in two phases applies everywhere or nowhere; a
bound constellation has one Meridian. -/
def Obligations.ConstellationRequestsCommitsAndMeridian : Prop :=
  (∀ (s : State) (id txn a : Nat) (body : List Byte) (fw : Bool × Nat), s.Canon → s.memberNow = true →
    2 ≤ s.f F.GLB_STATUS_STAGE → s.f F.SEC_STATUS_PUF_FAIL = 0 → s.f F.SEC_STATUS_RECOVERY = 0 →
    s.f F.CST_STATUS_IS_RESERVE = 0 → (s.cst.results.any fun r => r.1 = id) = false →
    (s.host.asked.any fun a => a.1 = 2 ^ 32 + id) = false → checkedRuns false body = .ok [Run.mk a 1 []] →
    Nexts (exec (.forwardedRequestReceive id 1 0 txn body false fw) s) fun t => ∃ r, t.cst.results.getLast? = some (id, r) ∧
      t.out.getLast? = some (.member s.pole mkResult id r) ∧ r.headD 1 = 0 ∧ r.length = 21) ∧
  (∀ (s : State) (id type flags txn : Nat) (body r : List Byte) (again : Bool) (fw : Bool × Nat), s.Canon → s.memberNow = true →
    (s.cst.results.find? fun r => r.1 = id) = some (id, r) →
    Nexts (exec (.forwardedRequestReceive id type flags txn body again fw) s) fun t =>
      t = { s with out := s.out ++ [.member s.pole mkResult id r] }) ∧
  (∀ (s : State) (w : Fwd) (pl : List Byte), s.Canon → s.poleNow = true → (s.cst.fwds.find? fun x => x.id = w.id) = some w →
    w.seq < 2 ^ 32 →
    Nexts (exec (.forwardResponseReceive w.id pl) s) fun t => t.cst.fwds = s.cst.fwds.filter (fun x => x.id ≠ w.id) ∧
      if pl = [] then t.lastAnswer = some (w.seq, Status.failedLink.code) ∧ Counted F.CST_MGMT_LOST_COUNT 0 1 s t
      else t.lastAnswer = some (w.seq, (Status.ofCode (hdrAt pl 0 1)).code)) ∧
  (∀ (s : State) (txn : Nat) (check : Bool) (x : HTxn), s.Canon → s.memberNow = true → s.txn txn = some x →
    (s.tryTxn x check).1 = .done →
    Nexts (exec (.cstPrepareReceive txn check) s) fun t => t = { s with out := s.out ++ [.member s.pole mkPrepared txn [0]] }) ∧
  (∀ (s : State) (txn : Nat) (check : Bool), s.Canon → s.memberNow = true → s.txn txn = none →
    Nexts (exec (.cstPrepareReceive txn check) s) fun t =>
      t = { s with out := s.out ++ [.member s.pole mkPrepared txn [BitVec.ofNat 8 Status.failedMemberLost.code]] }) ∧
  (∀ (s : State) (c : TwoPhase) (pos code : Nat), s.Canon → s.poleNow = true → s.cst.commits = [c] → c.applying = false →
    pos ∈ c.prepare → c.seq < 2 ^ 32 → code ≠ 0 →
    Nexts (exec (.cstPrepareReplyReceive c.txn pos code) s) fun t => t.lastAnswer = some (c.seq, (Status.ofCode code).code) ∧
      t.cst.commits = [] ∧ t.txn c.txn = none ∧ t.f F.GLB_VIEW_VIEW = s.f F.GLB_VIEW_VIEW) ∧
  (∀ (s : State) (c : TwoPhase) (pos : Nat), s.Canon → s.poleNow = true → s.cst.commits = [c] → c.applying = false →
    pos ∈ c.prepare → c.prepare.erase pos ≠ [] →
    Nexts (exec (.cstPrepareReplyReceive c.txn pos 0) s) fun t => t = { s with
      cst := { s.cst with commits := [{ c with prepare := c.prepare.erase pos }] } }) ∧
  (∀ (s : State) (c : TwoPhase) (pos : Nat) (x : HTxn) (v : Word), s.Canon → s.poleNow = true → s.cst.commits = [c] →
    c.applying = false → c.prepare = [pos] → s.txn c.txn = some x → c.check = false → x.ops = [.word R.GLB_SCRATCH.base v] →
    Nexts (exec (.cstPrepareReplyReceive c.txn pos 0) s) fun t => t.f F.GLB_SCRATCH_VALUE = v.toNat ∧
      t.f F.GLB_VIEW_VIEW = (s.f F.GLB_VIEW_VIEW + 1) % 2 ^ 64 ∧ t.txn c.txn = none ∧
      (∃ d, t.cst.commits = [d] ∧ d.applying = true ∧ d.acks = s.txnParts c.txn) ∧
      ∀ m ∈ s.txnParts c.txn, .member m mkApply c.txn (beBytes 8 (t.f F.GLB_VIEW_VIEW) ++ [0]) ∈ t.out) ∧
  (∀ (s : State) (txn v : Nat) (x : HTxn) (w : Word), s.Canon → s.memberNow = true → txn ≠ 0 → v < 2 ^ 64 →
    s.cst.applied.contains txn = false → s.txn txn = some x → x.ops = [.word R.GLB_SCRATCH.base w] →
    Nexts (exec (.cstApplyReceive txn v false) s) fun t => t.f F.GLB_SCRATCH_VALUE = w.toNat ∧
      t.f F.GLB_VIEW_VIEW = max v (s.f F.GLB_VIEW_VIEW) ∧ t.txn txn = none ∧ txn ∈ t.cst.applied ∧
      t.out.getLast? = some (.member s.pole mkApplied txn [1])) ∧
  (∀ (s : State) (txn v : Nat), s.Canon → s.memberNow = true → txn ≠ 0 →
    Nexts (exec (.cstApplyReceive txn v true) s) fun t => t.txn txn = none ∧ t.f F.GLB_VIEW_VIEW = s.f F.GLB_VIEW_VIEW ∧
      t.f F.GLB_SCRATCH_VALUE = s.f F.GLB_SCRATCH_VALUE) ∧
  (∀ (s : State) (c : TwoPhase) (pos : Nat), s.Canon → s.poleNow = true → s.cst.commits = [c] → c.applying = true →
    c.acks = [pos] → c.refusal = none → c.seq < 2 ^ 32 →
    Nexts (exec (.cstApplyAckReceive c.txn pos true) s) (fun t => t.lastAnswer = some (c.seq, 0) ∧ t.cst.commits = []) ∧
    Nexts (exec (.cstApplyAckReceive c.txn pos false) s) (fun t =>
      t.lastAnswer = some (c.seq, Status.failedMemberLost.code) ∧ t.cst.commits = [])) ∧
  (∀ (s : State) (step : Nat), s.Canon → s.poleNow = true → s.f F.CST_STATUS_MODE = 2 → s.cst.meridian < step →
    step ≤ s.f F.SEQ_MERIDIAN_STEP →
    Nexts (exec (.constellationMeridian step) s) fun t => t.cst.meridian = step ∧
      t.f F.GLB_VIEW_VIEW = (s.f F.GLB_VIEW_VIEW + 1) % 2 ^ 64) ∧
  (∀ (s : State) (i : Nat), s.Canon → s.asleep = false → s.f F.CST_STATUS_MODE = 1 → 3840 ≤ i → i < 4096 →
    s.tokenOwner i = none →
    Nexts (exec (.cstTokenPostReceive i s.cst.swaps) s) (fun t => t.token i = min (2 ^ 64 - 1) (s.token i + 1)) ∧
    ∀ n, n ≠ s.cst.swaps → exec (.cstTokenPostReceive i n) s = .next s) ∧
  (∀ (s : State) (step pos : Nat), s.Canon → s.poleNow = true → s.f F.CST_STATUS_MODE = 1 → s.f F.SEQ_MERIDIAN_STEP < step →
    pos < s.f F.CST_STATUS_MEMBERS →
    Nexts (exec (.cstMeridianReportReceive step pos) s) fun t =>
      if setBit ((tfind step s.cst.reports).getD 0) pos true = 2 ^ s.f F.CST_STATUS_MEMBERS - 1 ∧
          step = s.f F.SEQ_MERIDIAN_STEP + 1 then
        t.f F.SEQ_MERIDIAN_STEP = step % 2 ^ 64 ∧ t.f F.GLB_VIEW_VIEW = (s.f F.GLB_VIEW_VIEW + 1) % 2 ^ 64
      else t = { s with cst := { s.cst with
        reports := tput step (setBit ((tfind step s.cst.reports).getD 0) pos true) s.cst.reports } }) ∧
  (∀ (s : State) (step view : Nat), s.Canon → s.memberNow = true → s.f F.CST_STATUS_MODE = 1 → s.f F.SEQ_MERIDIAN_STEP < step →
    step < 2 ^ 64 → view < 2 ^ 64 →
    Nexts (exec (.cstMeridianReceive step view) s) fun t => t.f F.SEQ_MERIDIAN_STEP = step ∧
      t.f F.GLB_VIEW_VIEW = max view (s.f F.GLB_VIEW_VIEW))

/-! ### Line ports -/

/-- Defects and their integration (R395 to R400, R402, R410). A raw defect is masked by every higher one; a defect that has
stood for the fast set time is declared and latched, one that has been gone for the fast clear time ends, and with the first
and the last of them the port fails and returns; the report follows after its own times; the module's alert and its
loss-of-signal flag make and end LOS. -/
def Obligations.LineDefectsAreMaskedIntegratedAndReported : Prop :=
  (∀ raw : Nat, raw.testBit dLos = true → maskDefects raw = 2 ^ dLos + if raw.testBit dBdi = true then 2 ^ dBdi else 0) ∧
  (∀ (s : State) (p bit : Nat) (on : Bool), s.Canon → p < 16 → bit ≠ dLos → bit < dCsf →
    Nexts (exec (.rawDefectChange p bit on) s) fun t => (t.port p).raw = setBit (s.port p).raw bit (on && (decide (bit ≠ dTim) || decide (s.f F.LINE_Pp_CFG_TIM_MODE p ≠ 0))) ∧
      (t.port p).eff = maskDefects (t.port p).rawAll ∧ t.regs = s.regs) ∧
  (∀ (s : State) (p a : Nat), s.Canon → p < 16 → (s.port p).csfAt = some a → s.elapsed a 300000000 = true →
    Nexts (exec (.rawDefectChange p dCsf false) s) fun t => (t.port p).raw.testBit dCsf = false ∧ (t.port p).csfAt = none) ∧
  (∀ (s : State) (p bit : Nat), s.Canon → p < 16 → bit < 10 → (s.port p).eff.testBit bit = true →
    (s.f F.LINE_Pp_DEFECT_DEFECT p).testBit bit = false →
    s.elapsed ((tfind bit (s.port p).since).getD 0) (max 8 (min 250 (s.f F.LINE_Pp_INTEG_FAST_SET p)) * 1000) = true →
    Nexts (exec (.defectFastSet p bit) s) fun t => (t.f F.LINE_Pp_DEFECT_DEFECT p).testBit bit = true ∧
      (t.f F.LINE_Pp_LATCH_LATCH p).testBit bit = true ∧ t.bit F.LINE_STATUS_IN_SERVICE p = t.inService p ∧
      (s.portFailed p = false → t.portFailed p = true → t.f F.LINE_EVENTS_PORT_FAILED = 1)) ∧
  (∀ (s : State) (p bit : Nat), s.Canon → p < 16 → bit < 10 → (s.port p).eff.testBit bit = false →
    (s.f F.LINE_Pp_DEFECT_DEFECT p).testBit bit = true →
    s.elapsed ((tfind bit (s.port p).since).getD 0) (max 8 (min 250 (s.f F.LINE_Pp_INTEG_FAST_CLEAR p)) * 1000) = true →
    Nexts (exec (.defectFastClear p bit) s) fun t => (t.f F.LINE_Pp_DEFECT_DEFECT p).testBit bit = false ∧
      t.f F.LINE_Pp_LATCH_LATCH p = s.f F.LINE_Pp_LATCH_LATCH p ∧ t.bit F.LINE_STATUS_IN_SERVICE p = t.inService p ∧
      (s.portFailed p = true → t.portFailed p = false → t.f F.LINE_EVENTS_PORT_RESTORED = 1)) ∧
  (∀ (s : State) (p bit : Nat), s.Canon → p < 16 → bit < 10 → (s.f F.LINE_Pp_DEFECT_DEFECT p).testBit bit = true →
    (s.f F.LINE_Pp_FAILURE_FAILURE p).testBit bit = false →
    s.elapsed ((tfind bit (s.port p).fastSince).getD 0) (s.f F.LINE_Pp_INTEG_REP_SET p * 100000000) = true →
    Nexts (exec (.failureReportSet p bit) s) fun t => (t.f F.LINE_Pp_FAILURE_FAILURE p).testBit bit = true ∧
      t.f F.LINE_EVENTS_FAILURE = 1) ∧
  (∀ (s : State) (p bit : Nat), s.Canon → p < 16 → bit < 10 → (s.f F.LINE_Pp_DEFECT_DEFECT p).testBit bit = false →
    (s.f F.LINE_Pp_FAILURE_FAILURE p).testBit bit = true →
    s.elapsed ((tfind bit (s.port p).fastSince).getD 0) (s.f F.LINE_Pp_INTEG_REP_CLEAR p * 100000000) = true →
    Nexts (exec (.failureReportClear p bit) s) fun t => (t.f F.LINE_Pp_FAILURE_FAILURE p).testBit bit = false ∧
      t.f F.LINE_EVENTS_FAILURE = 1) ∧
  (∀ (s : State) (p : Nat) (los : Bool), s.Canon → p < 16 →
    Nexts (exec (.modAlertFall p los) s) fun t => t.bit F.LINE_STATUS_ALERT p = true ∧ t.f F.LINE_EVENTS_MOD_ALERT = 1 ∧
      (t.port p).raw.testBit dLos = (los || (s.port p).raw.testBit dLos)) ∧
  (∀ (s : State) (p : Nat) (flag : Bool), s.Canon → p < 16 → (s.port p).raw.testBit dLos = true →
    s.elapsed (s.port p).pollAt 100000 = true →
    Nexts (exec (.losFlagPoll p flag) s) fun t => (t.port p).raw.testBit dLos = flag ∧ (t.port p).pollAt = s.now)

/-- Frames of the line, GFP framing, the module sideband, TTI and the serial map (R382, R386, R387, R390 to R394, R401 to R405, R407,
R411). A frame's errors are counted and go back in the frame sent, which carries the same overhead in every slice; its GCC bytes
leave by the serial port that is mapped, and the monitored bytes by the monitor. Delineation goes from
HUNT over PRESYNC to SYNC on good core headers and back on a bad one; in SYNC a good client frame is counted and a bad one
discarded. -/
def Obligations.LineFramesModulesAndSerialMap : Prop :=
  (∀ (s : State) (p pli : Nat) (bs : List Byte) (frames : List OtucFrame), s.Canon → p < 16 → s.f F.LINE_Pp_CFG_ENABLE p = 1 →
    4 ≤ bs.length → crcHeader (xorList ((nats bs).take 4) coreMask) = some (pli, false) →
    ((s.port p).gfp = .hunt → Nexts (exec (.gfpFrameReceive p ⟨bs, frames⟩) s) fun t => (t.port p).gfp = .presync 0) ∧
    (∀ n, (s.port p).gfp = .presync n → Nexts (exec (.gfpFrameReceive p ⟨bs, frames⟩) s) fun t =>
      if max 1 (s.f F.LINE_Pp_CFG_DELTA p) ≤ n + 1 then (t.port p).gfp = .sync ∧ t.bit F.LINE_STATUS_GFP_SYNC p = true
      else (t.port p).gfp = .presync (n + 1))) ∧
  (∀ (s : State) (p : Nat) (bs : List Byte) (frames : List OtucFrame), s.Canon → p < 16 → s.f F.LINE_Pp_CFG_ENABLE p = 1 → (s.port p).gfp = .sync →
    crcHeader (xorList ((nats bs).take 4) coreMask) = none →
    Nexts (exec (.gfpFrameReceive p ⟨bs, frames⟩) s) fun t => (t.port p).gfp = .hunt ∧ t.bit F.LINE_STATUS_GFP_SYNC p = false ∧
      Counted F.LINE_Pp_GFP_DISCARD_COUNT p 1 s t) ∧
  (∀ (s : State) (p pli len : Nat) (fixed e : Bool) (bs : List Byte) (frames : List OtucFrame) (area : List Nat), s.Canon → p < 16 →
    s.f F.LINE_Pp_CFG_ENABLE p = 1 → s.f F.LINE_Pp_CFG_PFCS p = 0 → (s.port p).gfp = .sync →
    crcHeader (xorList ((nats bs).take 4) coreMask) = some (pli, fixed) → pli ≤ 8252 →
    area = (gfpScramble true (s.port p).rxScr ((nats bs).drop 4)).1 → area.length = pli →
    crcHeader (area.take 4) = some (gfpType false, e) → len = hdrAt (byts (area.drop 4)) 14 2 →
    (pli = 56 + len → Nexts (exec (.gfpFrameReceive p ⟨bs, frames⟩) s) fun t => Counted F.LINE_Pp_GFP_FRAMES_COUNT p 1 s t ∧
      t.f F.LINE_Pp_GFP_CHEC_CORR_COUNT p = min (2 ^ F.LINE_Pp_GFP_CHEC_CORR_COUNT.w - 1) (s.f F.LINE_Pp_GFP_CHEC_CORR_COUNT p + b2n fixed)) ∧
    (4 ≤ pli → pli ≠ 56 + len → Nexts (exec (.gfpFrameReceive p ⟨bs, frames⟩) s) fun t => Counted F.LINE_Pp_GFP_DISCARD_COUNT p 1 s t ∧
      t.peer = s.peer)) ∧
  (∀ (s : State) (p pli : Nat) (e : Bool) (bs : List Byte) (frames : List OtucFrame) (area : List Nat) (ty : Nat), s.Canon → p < 16 →
    s.f F.LINE_Pp_CFG_ENABLE p = 1 → (s.port p).gfp = .sync → 4 ≤ pli → pli ≤ 8252 →
    crcHeader (xorList ((nats bs).take 4) coreMask) = some (pli, false) →
    area = (gfpScramble true (s.port p).rxScr ((nats bs).drop 4)).1 → crcHeader (area.take 4) = some (ty, e) →
    ty / 2 ^ 13 = 4 → ty % 256 = 1 →
    Nexts (exec (.gfpFrameReceive p ⟨bs, frames⟩) s) fun t => (t.port p).csfAt = some s.now ∧ (t.port p).raw.testBit dCsf = true) ∧
  (∀ (s : State) (p : Nat) (bs : List Byte) (fr : OtucFrame), s.Canon → p < 16 → s.f F.LINE_Pp_CFG_ENABLE p = 1 → (s.port p).gfp = .hunt →
    Nexts (exec (.gfpFrameReceive p ⟨bs, [fr]⟩) s) fun t => Counted F.LINE_Pp_BIP_SM_COUNT p (bipErrors fr.bipSm fr.foundSm) s t ∧
      Counted F.LINE_Pp_BIP_PM_COUNT p (bipErrors fr.bipPm fr.foundPm) s t ∧ Counted F.LINE_Pp_BEI_SM_COUNT p fr.beiSm s t ∧
      Counted F.LINE_Pp_BEI_PM_COUNT p fr.beiPm s t ∧
      Counted F.LINE_Pp_FEC_CORR_COUNT p (if s.f F.LINE_Pp_CFG_FEC_HERE p = 1 then fr.fecCorr else 0) s t ∧
      Counted F.LINE_Pp_FEC_UNCORR_COUNT p fr.fecUncorr s t ∧
      (∃ o, .otuc p o ∈ t.out ∧ o.length = 8 ∧ (o.drop 1).all (fun x => decide (x.gcc = List.replicate 6 0)) = true ∧
        ∀ x ∈ o, x.pt = 5 ∧ x.sm.tti = s.sentTti p ∧ x.sm.bei = bipErrors fr.bipSm fr.foundSm ∧ x.pm.bei = bipErrors fr.bipPm fr.foundPm ∧
          x.sm.bdi = s.sendsSmBdi p ∧ x.pm.bdi = s.sendsPmBdi p) ∧
      (∀ n ch, s.gcsOf p = [(n, ch)] → s.gcsEncrypted n = false → s.gcsAllOnes n = false →
        .gcs n (bitsOut (gccBytes fr.gcc ch)) ∈ t.out) ∧
      (s.f F.LINE_LMON_ENABLE = 1 → s.f F.LINE_LMON_PORT = p →
        .lmon (bitsOut (if s.lmonAllOnes then allOnes fr.mon else fr.mon)) ∈ t.out)) ∧
  (∀ (s : State) (p : Nat), s.Canon → p < 16 → s.f F.LINE_Pp_CFG_ENABLE p = 1 → s.f F.LINE_Pp_CFG_LOCK p = 0 → s.elapsed (s.port p).csfSentAt 100000000 = true →
    Nexts (exec (.csfSend p) s) fun t => (t.port p).csfSentAt = s.now ∧
      t.out = s.out ++ [.line p (s.gfpOut p csfParts).1] ∧ t.regs = s.regs) ∧
  (∀ (s : State) (p : Nat) (tti : List Byte), s.Canon → p < 16 → tti.length = 64 →
    Nexts (exec (.ttiRxAccept p tti) s) fun t => (t.port p).raw.testBit dTim = t.ttiDiffers p ∧
      (∀ w, w < 8 → t.f F.LINE_Pp_TTI_RX_TTI (8 * p + w) = leNat ((tti.drop (8 * w)).take 8)) ∧
      ((∃ w, w < 8 ∧ s.f F.LINE_Pp_TTI_RX_TTI (8 * p + w) ≠ leNat ((tti.drop (8 * w)).take 8)) → t.f F.LINE_EVENTS_TTI_CHANGE = 1)) ∧
  (∀ (s : State) (n : Nat), s.Canon → n < 4 →
    Nexts (exec (.gcsMapApply n) s) fun t => t.regs = s.regs ∧
      tfind n t.line.gcs = some (s.f F.LINE_GCS_MAP_PORT n, s.f F.LINE_GCS_MAP_CHANNEL n)) ∧
  (∀ (s : State) (p page off data : Nat), s.Canon → s.line.access = none → p < 16 → page < 256 → off < 256 → data < 256 →
    Nexts (exec (.moduleRead p page off) s) (fun t => t.f F.LINE_MOD_CMD_BUSY = 1 ∧ t.out = s.out ++ [.module p page off none] ∧
      t.line.access = some { port := p, write := false, page := page, offset := off, data := 0 }) ∧
    (controlledByte page off = false → Nexts (exec (.moduleWrite p page off data) s) fun t => t.f F.LINE_MOD_CMD_BUSY = 1 ∧
      t.out = s.out ++ [.module p page off (some data)] ∧
      t.line.access = some { port := p, write := true, page := page, offset := off, data := data }) ∧
    (controlledByte page off = true → Nexts (exec (.moduleWrite p page off data) s) fun t =>
      t.f F.LINE_MOD_CMD_RESULT = Status.refusedBusy.code ∧ t.line = s.line ∧ t.out = s.out)) ∧
  (∀ (s : State) (a : ModAccess) (data : Nat), s.Canon → s.line.access = some a →
    Nexts (exec (.moduleAccessDone true data) s) (fun t => t.line.access = none ∧ t.f F.LINE_MOD_CMD_BUSY = 0 ∧
      t.f F.LINE_MOD_CMD_RESULT = 0 ∧ t.f F.LINE_MOD_CMD_DATA = if a.write then s.f F.LINE_MOD_CMD_DATA else data % 256) ∧
    Nexts (exec (.moduleAccessDone false data) s) (fun t => t.line.access = none ∧ t.f F.LINE_MOD_CMD_BUSY = 0 ∧
      t.f F.LINE_MOD_CMD_RESULT = Status.failedLink.code ∧ t.f F.LINE_MOD_CMD_DATA = s.f F.LINE_MOD_CMD_DATA))

/-! ### Circuits, the site fabric, the scheduler -/

/-- CIRCUIT items and the states of a circuit (R430, R431, R448). SETUP claims a wavelength of the circuit's fibre pair and
ends once its link has trained; a link that does not train in time fails it; CONFIRM ends at once on an UP circuit; RELEASE
refuses new items, and the circuit is FREE once the items in flight have ended. -/
def Obligations.CircuitsSetUpConfirmAndRelease : Prop :=
  (∀ (s : State) (id : Nat) (it : Item) (c : Circuit), s.Canon → it.track < 16 → s.runningItem id opCircuit = some it →
    s.circuit (s.circuitIx it.row) = some c → c.state = cUp →
    (rowCircuitAction it.row = 1 → Nexts (exec (.circuitSetup id) s) fun t => Ended s t it it.okStatus) ∧
    (rowCircuitAction it.row = 2 → Nexts (exec (.circuitConfirm id) s) fun t => Ended s t it it.okStatus) ∧
    (rowCircuitAction it.row = 3 → Nexts (exec (.circuitRelease id) s) fun t => t.seq = s.seq ∧
      t.circuit (s.circuitIx it.row) = some { c with state := cReleasing })) ∧
  (∀ (s : State) (id w : Nat) (it : Item) (c : Circuit), s.Canon → s.runningItem id opCircuit = some it →
    rowCircuitAction it.row = 1 → s.circuit (s.circuitIx it.row) = some c → c.state = cFree → c.fibre < 16 →
    s.freeWave c.fibre = some w →
    (s.fab.circuits.any fun x => x.2.fibre = c.fibre ∧ x.2.state = cSetup ∧ x.2.claim = none) = false →
    Nexts (exec (.circuitSetup id) s) fun t => t.seq = s.seq ∧ t.slotUsage c.fibre w = useCircuit ∧
      t.circuit (s.circuitIx it.row) = some { c with state := cSetup, claim := some w, setupAt := s.now, fill := 0, raw := [] }) ∧
  (∀ (s : State) (id : Nat) (it : Item) (c : Circuit), s.Canon → it.track < 16 → s.runningItem id opCircuit = some it →
    s.circuit (s.circuitIx it.row) = some c → c.state = cFree →
    (rowCircuitAction it.row = 2 → Nexts (exec (.circuitConfirm id) s) fun t => Ended s t it .failedLink ∧
      t.f F.FAB_EVENTS_CIRCUIT_FAIL = 1) ∧
    (rowCircuitAction it.row = 3 → Nexts (exec (.circuitRelease id) s) fun t => Ended s t it it.okStatus)) ∧
  (∀ (s : State) (ix w : Nat) (c : Circuit), s.Canon → s.circuit ix = some c → c.state = cSetup → c.claim = some w →
    c.fibre < 16 → w < 16 →
    Nexts (exec (.circuitTrained ix) s) fun t => t.circuit ix = some { c with state := cUp, lambda := w, claim := none } ∧
      t.bit F.FAB_Fk_CFG_UP w c.fibre = true ∧ ∀ id ∈ s.circuitItems ix 1, t.item id = none) ∧
  (∀ (s : State) (ix : Nat) (c : Circuit), s.Canon → s.circuit ix = some c →
    (s.fab.circuits.filter fun x => x.2.state = cSetup) = [(ix, c)] →
    s.elapsed c.setupAt (max 1 (s.f F.FAB_CIRCUIT_CFG_SETUP_LIMIT) * 1000) = true →
    Nexts (exec (.circuitSetupTimeout ix) s) fun t =>
      t.circuit ix = some { c with state := cFree, claim := none, fill := 0, raw := [] } ∧
      (∀ id ∈ s.circuitItems ix 1, t.item id = none ∧ t.f F.FAB_EVENTS_CIRCUIT_FAIL = 1)) ∧
  (∀ (s : State) (ix : Nat) (c : Circuit), s.Canon → s.circuit ix = some c → c.state = cReleasing →
    (s.fab.circuits.any fun x => x.2.state = cSetup) = false → (s.opt.moving.any fun m => m.1 = ix) = false →
    (∀ it ∈ s.seq.items, s.onCircuit ix it = true → it.running = true → it.id ∈ s.circuitItems ix 3) →
    Nexts (exec (.circuitReleased ix) s) fun t =>
      t.circuit ix = some { c with state := cFree, claim := none, fill := 0, raw := [] } ∧
      ∀ id ∈ s.circuitItems ix 3, t.item id = none)

/-- The site fabric (R415 to R425, R433 to R438, R559, R560). A remote-bound request takes a credit and joins its bridge
message, and without one, or red at its policer, it is answered RETRY; one for a member that has expired, or that no gateway reaches, is
answered ERROR; a flit
that has come before is not taken twice; a reply always joins; a message leaves when its time is over; the fabric's taking of
a packet gives its request's credit back; bulk data lands, or goes over the bridge. -/
def Obligations.FabricPacketsAreBridgedAnsweredAndDelivered : Prop :=
  (∀ (s : State) (wave flit : Nat) (bs : List Byte) (p : FPkt), s.Canon → p = fpktOf bs → p.isRequest = true → p.bad = false →
    p.dst ≠ s.f F.FAB_COORD_COORD → coordSite p.dst ≠ coordSite (s.f F.FAB_COORD_COORD) →
    s.bit F.FAB_SITE_MAP_SITES (coordSite p.dst) = true → s.f F.FAB_BRIDGE_CFG_CHECK = 0 →
    s.f F.SCH_PLk_CTRL_ENABLE (coordSite p.dst) = 0 →
    if s.f F.FAB_CREDITSs_IN_USE (coordSite p.dst) < s.f F.FAB_CREDITSs_POOL (coordSite p.dst) then
      Nexts (exec (.fabricRequestReceive wave flit none bs) s) fun t =>
        t.f F.FAB_CREDITSs_IN_USE (coordSite p.dst) = s.f F.FAB_CREDITSs_IN_USE (coordSite p.dst) + 1 ∧
        if s.expired (s.ctx (s.bridgeStream (coordSite p.dst) 0 (pairHash p.dst p.src))).session then
          t.fab.reqs = s.fab.reqs ∧ t.f F.FAB_EVENTS_ERROR = 1 ∧
          ∃ x, t.fab.sent = s.fab.sent ++ [x] ∧ x.bytes = (ownReply p 0x1F Status.failedHoldExpired.code).bytes ∧ x.ends.isSome = true
        else Counted F.FAB_BRIDGED_TX_COUNT 0 1 s t ∧
        (∃ r, t.fab.reqs = s.fab.reqs ++ [r] ∧ r.site = coordSite p.dst ∧ r.src = p.src ∧ r.dst = p.dst ∧ r.tag = p.tag) ∧
        ∃ m x, tfind (s.bridgeStream (coordSite p.dst) 0 (pairHash p.dst p.src)) t.fab.bridge = some m ∧ m.bytes = x ++ bs
    else Nexts (exec (.fabricRequestReceive wave flit none bs) s) fun t => t.fab.reqs = s.fab.reqs ∧
      Counted F.FAB_RETRY_COUNT 0 1 s t ∧ ∃ x, t.fab.sent = s.fab.sent ++ [x] ∧ x.bytes = (ownReply p 0x1E 0).bytes) ∧
  (∀ (s : State) (wave flit : Nat) (bs : List Byte) (p : FPkt), s.Canon → p = fpktOf bs → p.isRequest = true → p.bad = false →
    p.dst ≠ s.f F.FAB_COORD_COORD → coordSite p.dst ≠ coordSite (s.f F.FAB_COORD_COORD) →
    s.bit F.FAB_SITE_MAP_SITES (coordSite p.dst) = true → s.f F.FAB_BRIDGE_CFG_CHECK = 0 →
    s.f F.SCH_PLk_CTRL_ENABLE (coordSite p.dst) = 1 → s.f F.SCH_PLk_CTRL_MODE (coordSite p.dst) = 0 →
    (s.policerNow (coordSite p.dst)).p < (16 + p.len + s.f F.SCH_PLk_CTRL_OVH (coordSite p.dst)) * bucketUnit →
    Nexts (exec (.fabricRequestReceive wave flit none bs) s) fun t => t.fab.reqs = s.fab.reqs ∧
      Counted F.SCH_PLk_RED_COUNT (coordSite p.dst) 1 s t ∧ t.f F.SCH_EVENTS_RED_BRIDGE = 1 ∧ Counted F.FAB_RETRY_COUNT 0 1 s t) ∧
  (∀ (s : State) (wave flit : Nat) (bs : List Byte) (p : FPkt), s.Canon → p = fpktOf bs → p.isRequest = true → p.bad = false →
    p.dst ≠ s.f F.FAB_COORD_COORD → s.bit F.FAB_SITE_MAP_SITES (coordSite p.dst) = false →
    Nexts (exec (.fabricRequestReceive wave flit none bs) s) fun t => t.fab.reqs = s.fab.reqs ∧
      Counted F.FAB_UNREACHABLE_COUNT 0 1 s t ∧ t.f F.FAB_EVENTS_ERROR = 1 ∧
      ∃ x, t.fab.sent = s.fab.sent ++ [x] ∧ x.bytes = (ownReply p 0x1F Status.failedLink.code).bytes) ∧
  (∀ (s : State) (wave flit : Nat) (bs : List Byte), s.Canon → (fpktOf bs).bad = true →
    Nexts (exec (.fabricRequestReceive wave flit none bs) s) (fun t => t.fab.reqs = s.fab.reqs ∧ t.fab.sent = s.fab.sent ∧
      Counted F.FAB_PROTO_ERR_COUNT 0 1 s t) ∧
    Nexts (exec (.fabricReplyReceive wave flit none bs) s) (fun t => t.fab.bridge = s.fab.bridge ∧ t.fab.sent = s.fab.sent ∧
      Counted F.FAB_PROTO_ERR_COUNT 0 1 s t)) ∧
  (∀ (s : State) (wave flit w f h : Nat) (bs : List Byte), s.Canon → tfind w s.fab.rxFlits = some h → f ≤ h →
    Nexts (exec (.fabricRequestReceive wave flit (some (w, f)) bs) s) (fun t => t.regs = s.regs ∧ t.fab.reqs = s.fab.reqs ∧
      t.fab.sent = s.fab.sent ∧ t.fab.bridge = s.fab.bridge) ∧
    Nexts (exec (.fabricReplyReceive wave flit (some (w, f)) bs) s) (fun t => t.regs = s.regs ∧ t.fab.sent = s.fab.sent ∧
      t.fab.bridge = s.fab.bridge)) ∧
  (∀ (s : State) (wave flit : Nat) (bs : List Byte) (p : FPkt), s.Canon → p = fpktOf bs → p.isReply = true → p.bad = false →
    p.dst ≠ s.f F.FAB_COORD_COORD → coordSite p.dst ≠ coordSite (s.f F.FAB_COORD_COORD) →
    s.bit F.FAB_SITE_MAP_SITES (coordSite p.dst) = true → s.f F.FAB_BRIDGE_CFG_CHECK = 0 →
    Nexts (exec (.fabricReplyReceive wave flit none bs) s) fun t => Counted F.FAB_BRIDGED_TX_COUNT 0 1 s t ∧
      ∃ m x, tfind (s.bridgeStream (coordSite p.dst) 1 (pairHash p.dst p.src)) t.fab.bridge = some m ∧ m.bytes = x ++ bs) ∧
  (∀ (s : State) (stream : Nat) (m : BridgeMsg), s.Canon → tfind stream s.fab.bridge = some m →
    s.elapsed m.opened (s.f F.FAB_BRIDGE_CFG_FLUSH) = true →
    Nexts (exec (.bridgeFlush stream) s) fun t => t.fab.bridge = tdel stream s.fab.bridge ∧
      (t.ctx stream).txNext = (s.ctx stream).txNext + 1) ∧
  (∀ (s : State) (wave flit : Nat) (x : FabPkt), s.Canon →
    (s.fab.sent.find? fun x => 16 * x.fibre + x.lambda = wave ∧ x.flit = flit) = some x →
    Nexts (exec (.fabricDelivery wave flit) s) fun t => t.fab.sent = s.fab.sent.erase x ∧ t.out = s.out ++ [.fabric x.vc x.bytes] ∧
      ∀ r, x.ends = some r → r.site < 16 → t.f F.FAB_CREDITSs_IN_USE r.site = s.f F.FAB_CREDITSs_IN_USE r.site - 1) ∧
  (∀ (s : State) (wave flit : Nat) (x : FabPkt), s.Canon →
    (s.fab.sent.find? fun x => 16 * x.fibre + x.lambda = wave ∧ x.flit = flit) = some x → x.vc < 2 →
    x.since + max 1 (s.f F.FAB_VC_CFG_ESCAPE) * 1000 < s.now → s.fab.sent.head? = some x →
    Nexts (exec (.escapeTimeout wave flit) s) fun t => Counted F.FAB_ESCAPED_COUNT 0 1 s t ∧ t.f F.FAB_EVENTS_ESCAPE = 1 ∧
      { x with vc := 3, bytes := { fpktOf x.bytes with vc := 3 }.bytes, since := s.now } ∈ t.fab.sent) ∧
  (∀ (s : State) (i : Nat) (bs : List Byte) (c : Circuit) (d : Nat), s.Canon → s.circuit i = some c → c.state = cUp → c.use = 1 →
    bs.length ≤ 4096 → tfind c.stream s.conf.landing = some d → s.fits [descOf d] = true → c.fill + bs.length ≤ (descOf d).len →
    Nexts (exec (.bulkReceive i bs) s) fun t => Holds t (descOf d).tier ((descOf d).addr + c.fill) bs ∧
      MemBut (descOf d).tier ((descOf d).addr + c.fill) bs.length s t ∧
      t.circuit i = some { c with fill := (c.fill + bs.length) % (descOf d).len }) ∧
  (∀ (s : State) (i : Nat) (bs : List Byte) (c : Circuit), s.Canon → s.circuit i = some c → c.state = cUp → c.use = 2 →
    bs.length ≤ 4096 → Nexts (exec (.bulkReceive i bs) s) fun t => SameMem s t ∧ (t.ctx c.stream).txNext = (s.ctx c.stream).txNext + 1) ∧
  (∀ (s : State) (i : Nat) (bs : List Byte) (c : Circuit), s.Canon → s.circuit i = some c → c.state = cUp → c.use = 3 →
    bs.length ≤ 4096 → c.fill < 2 ^ 32 → c.raw.length + bs.length < 256 * fmtSize (s.seg (s.ctx c.stream)).inFmt →
    Nexts (exec (.bulkReceive i bs) s) fun t => SameMem s t ∧ t.circuit i = some { c with raw := c.raw ++ bs } ∧ t.peer = s.peer) ∧
  (∀ (s : State) (i : Nat) (bs : List Byte) (c : Circuit), s.Canon → s.circuit i = some c → 4096 < bs.length →
    Nexts (exec (.bulkReceive i bs) s) fun t => SameMem s t ∧ t.fab.circuits = s.fab.circuits ∧ t.peer = s.peer ∧
      Counted F.FAB_PROTO_ERR_COUNT 0 1 s t)

/-- Service of a port by its route's scheduler (R549 to R553, R390): class C0 first, then C1, then the only one of the other
classes with a block that may leave; its frame goes to the chosen port and takes a place in that port's buffer; a port that is sent a further frame measures the time
that this one stood in its queue (R558). -/
def Obligations.PortsServeClassesInOrder : Prop :=
  (∀ (s u : State) (p c x : Nat) (q : QBlock), s.Canon → p < 16 →
    u = (s.portNext p).dropStale (p / 8) → c < 6 → u.headBlock (p / 8) c = some (q, x) →
    (∀ d, d < 6 → d ≠ c → d < 2 ∧ d < c ∨ 2 ≤ d ∧ 2 ≤ c → u.headBlock (p / 8) d = none) →
    Nexts (exec (.portServe p) s) fun t =>
      t.out = s.out ++ [.line x (u.gfpOut x (gfpParts (decide (u.f F.LINE_Pp_CFG_PFCS x = 1)) (nats q.bytes))).1] ∧
      ∃ n, t.portBuffer x = u.portBuffer x ++ [(n, c, q.joined)]) ∧
  (∀ (s u : State) (p : Nat), s.Canon → p < 16 → u = (s.portNext p).dropStale (p / 8) →
    (∀ c, c < 6 → u.headBlock (p / 8) c = none) →
    Nexts (exec (.portServe p) s) fun t => t.out = s.out ∧ t.portBuffer p = (s.portBuffer p).drop 1 ∧
      ∀ a b k, (s.portBuffer p).drop 1 = [(a, b, k)] → b < 6 → s.now - k < 2 ^ 32 →
        s.now - k ≤ t.f F.SCH_Rr_Cc_SOJOURN_HIGH_NS (rcReg (p / 8) b))

/-! ### Wavelengths, lasers and lock -/

/-- Moves of circuits and the spares of lasers (R444 to R447, R460 to R466). A circuit without light moves to the fibre pair's
alternate and drops when there is none; the move done, it is UP there; a laser that fails takes its slot out of use, unless a spare
serves it already, and a free spare of its wavelength is switched in. -/
def Obligations.CircuitsMoveAndSparesTakeOver : Prop :=
  (∀ (s : State) (ix w : Nat) (c : Circuit), s.Canon → s.circuit ix = some c → c.state = cUp → c.fibre < 16 → c.lambda < 16 →
    (s.openReserves c.fibre).head? = some w →
    Nexts (exec (.circuitNoLight ix) s) (fun t => t.circuit ix = some { c with state := cMoving } ∧ (ix, w, s.now) ∈ t.opt.moving ∧
      t.bit F.FAB_Fk_CFG_UP c.lambda c.fibre = false ∧ t.out = s.out ++ [.moveFlit ix c.fibre c.lambda]) ∧
    Nexts (exec (.moveFlitReceive ix) s) (fun t => t.circuit ix = some { c with state := cMoving } ∧ (ix, w, s.now) ∈ t.opt.moving ∧
      t.bit F.FAB_Fk_CFG_UP c.lambda c.fibre = false ∧ t.out = s.out ++ [.moveFlit ix c.fibre c.lambda])) ∧
  (∀ (s : State) (ix : Nat) (c : Circuit), s.Canon → s.circuit ix = some c → c.state = cUp → s.openReserves c.fibre = [] →
    (s.fab.circuits.any fun x => x.2.state = cSetup) = false →
    Nexts (exec (.circuitNoLight ix) s) fun t => Counted F.OPT_MOVE_FAILED_COUNT 0 1 s t ∧ t.f F.OPT_EVENTS_MOVE_FAILED = 1 ∧
      t.circuit ix = some { c with state := cFree, claim := none, fill := 0, raw := [] } ∧
      ∀ it ∈ s.seq.items, s.onCircuit ix it = true → t.item it.id = none) ∧
  (∀ (s : State) (ix w a : Nat) (c : Circuit), s.Canon → (s.opt.moving.find? fun m => m.1 = ix) = some (ix, w, a) →
    s.circuit ix = some c → c.state = cMoving → c.fibre < 16 → w < 16 → c.lambda ≠ w → c.lambda < 16 →
    (s.fab.circuits.any fun x => x.2.state = cSetup) = false →
    Nexts (exec (.circuitMoveDone ix w) s) fun t => t.circuit ix = some { c with lambda := w, state := cUp } ∧
      t.slotUsage c.fibre w = useCircuit ∧ t.bit F.FAB_Fk_CFG_UP w c.fibre = true ∧ Counted F.OPT_MOVES_COUNT 0 1 s t ∧
      t.f F.OPT_EVENTS_MOVED = 1 ∧ t.f F.FAB_EVENTS_CIRCUIT_MOVED = 1 ∧ (t.opt.moving.any fun m => m.1 = ix) = false) ∧
  (∀ (s : State) (k w : Nat), s.Canon →
    (s.opt.held.any fun h => decide (h.1 = k) && decide (h.2.1 = w) && s.elapsed h.2.2 100000) = true →
    Nexts (exec (.alternateHoldExpired k w) s) fun t =>
      t.opt.held = s.opt.held.filter fun h => !(decide (h.1 = k) && decide (h.2.1 = w) && s.elapsed h.2.2 100000)) ∧
  (∀ (s : State) (n l : Nat), s.Canon → n < 4 → l < 64 → ((s.opt.spares.any fun x => x.2 = slotNo (4 * n + l / 16) (l % 16)) = true ∨
      s.pairLit (4 * n + l / 16) = false) → exec (.laserFailed n l) s = .next s) ∧
  (∀ (s : State) (n l : Nat), s.Canon → n < 4 → l < 64 → s.pairLit (4 * n + l / 16) = true →
    (s.opt.spares.any fun x => x.2 = slotNo (4 * n + l / 16) (l % 16)) = false →
    s.bit F.OPT_Fk_LAMBDA_FAILED (l % 16) (4 * n + l / 16) = false →
    Nexts (exec (.laserFailed n l) s) fun t => Counted F.OPT_LASER_FAIL_COUNT 0 1 s t ∧ t.f F.OPT_EVENTS_LASER_FAIL = 1 ∧
      t.bit F.OPT_Fk_LAMBDA_FAILED (l % 16) (4 * n + l / 16) = true ∧
      if s.bit F.OPT_Tt_STATUS_SPARE_USED (l % 16 / 2) n || s.bit F.OPT_Tt_STATUS_SPARE_FAILED (l % 16 / 2) n ||
          (s.opt.switching.any fun x => x.1 = 8 * n + l % 16 / 2) then t.f F.OPT_EVENTS_SPARES_OUT = 1
      else (8 * n + l % 16 / 2, slotNo (4 * n + l / 16) (l % 16), s.now) ∈ t.opt.switching) ∧
  (∀ (s : State) (n j : Nat), s.Canon → n < 4 → j < 8 →
    Nexts (exec (.laserFailed n (64 + j)) s) fun t => Counted F.OPT_LASER_FAIL_COUNT 0 1 s t ∧
      t.bit F.OPT_Tt_STATUS_SPARE_FAILED j n = true ∧ t.bit F.OPT_Tt_STATUS_SPARE_USED j n = false) ∧
  (∀ (s : State) (n j slot a : Nat), s.Canon → n < 4 → j < 8 → slot < 256 →
    (s.opt.switching.find? fun x => x.1 = 8 * n + j) = some (8 * n + j, slot, a) →
    Nexts (exec (.spareSwitched n j true) s) (fun t => tfind (8 * n + j) t.opt.spares = some slot ∧
      t.bit F.OPT_Tt_STATUS_SPARE_USED j n = true ∧ t.bit F.OPT_Fk_LAMBDA_FAILED (slot % 16) (slot / 16) = false ∧
      t.f F.OPT_EVENTS_SPARE_USED = 1 ∧ (t.opt.switching.any fun x => x.1 = 8 * n + j) = false) ∧
    Nexts (exec (.spareSwitched n j false) s) (fun t => t.bit F.OPT_Tt_STATUS_SPARE_FAILED j n = true ∧
      t.f F.OPT_EVENTS_SPARES_OUT = 1 ∧ t.bit F.OPT_Fk_LAMBDA_FAILED (slot % 16) (slot / 16) =
        s.bit F.OPT_Fk_LAMBDA_FAILED (slot % 16) (slot / 16)))

/-- The lock loop, calibration, automatic power reduction and the laser enables (R453 to R459, R469, R473 to R476, R751). A
period records its tile's sensors; a ring that reads no lock takes its slot out of use, one locked to another pilot is relocked
or given up; a period of the photonic engine notes its lock errors against its own limit; a FULL calibration measures a tile whose slots are all down; a fibre pair without any light is reduced to bursts
until light returns; a tile whose enable goes high is dark. -/
def Obligations.RingsLockCalibrateAndPowerReduces : Prop :=
  (∀ (s : State) (n i : Nat) (temps : List Int) (rings : List RingReading), s.Canon → n < 4 → s.tileMayLight n = true →
    i < 16 → i < temps.length →
    Nexts (exec (.lockLoopPeriod n temps rings) s) fun t => t.tileTemp n i = sgn16 (nat16 (temps.getD i 0))) ∧
  (∀ (s : State) (n : Nat) (temps : List Int) (r : RingReading), s.Canon → n < 4 → s.tileMayLight n = true → r.1 / 2 / 64 = n →
    s.pairLit (r.1 / 2 / 16) = true → (s.opt.relocking.any fun x => x.1 = r.1) = false →
    s.bit F.OPT_Fk_LAMBDA_FAILED (r.1 / 2 % 16) (r.1 / 2 / 16) = false →
    (s.f F.OPT_LOCK_TOL < r.2.2.1 → Nexts (exec (.lockLoopPeriod n temps [r]) s) fun t => Counted F.OPT_LOCK_FAULT_COUNT 0 1 s t ∧
      t.f F.OPT_EVENTS_LOCK_FAULT = 1 ∧ r.1 / 2 ∈ t.opt.unlocked) ∧
    (r.2.2.1 ≤ s.f F.OPT_LOCK_TOL → r.2.2.2 ≠ r.1 / 2 % 16 → r.2.2.2 < 16 →
      Nexts (exec (.lockLoopPeriod n temps [r]) s) fun t => Counted F.OPT_WRONG_LOCK_COUNT 0 1 s t ∧
        t.f F.OPT_EVENTS_WRONG_LOCK = 1 ∧ t.bit F.OPT_Fk_LAMBDA_WRONG (r.1 / 2 % 16) (r.1 / 2 / 16) = true ∧
        (r.1, s.now) ∈ t.opt.relocking)) ∧
  (∀ (s : State) (x : Int) (r : RingReading), s.Canon →
    Nexts (exec (.lockLoopPeriod 4 [x] [r]) s) fun t => t.f F.PPE_TEMP_NOW = nat16 x ∧ tfind r.1 t.ppe.lockErr = some r.2.2.1 ∧
      (s.f F.PPE_LOCK_TOL < r.2.2.1 → t.f F.PPE_STATUS_LOCKED = 0 ∧ t.ppe.lockLostAt.isSome = true ∧
        (s.f F.PPE_STATUS_STATE = 1 → t.f F.PPE_STATUS_STATE = 4 ∧ t.f F.PPE_EVENTS_LOCK_LOST = 1)) ∧
      (r.2.2.1 ≤ s.f F.PPE_LOCK_TOL → s.ppe.lockErr = [] → t.f F.PPE_STATUS_LOCKED = 1)) ∧
  (∀ (s : State) (ring : Nat), s.Canon → ring < 512 → (s.opt.relocking.any fun x => x.1 = ring) = true →
    (s.opt.relocking.any fun x => decide (x.1 ≠ ring) && decide (x.1 / 2 = ring / 2)) = false →
    Nexts (exec (.ringRelocked ring) s) fun t => t.opt.relocking = (s.opt.relocking.filter fun x => x.1 ≠ ring) ∧
      t.bit F.OPT_Fk_LAMBDA_WRONG (ring / 2 % 16) (ring / 32) = false) ∧
  (∀ (s : State) (ring a : Nat), s.Canon → ring < 512 → (s.opt.relocking.find? fun x => x.1 = ring) = some (ring, a) →
    s.elapsed a (s.f F.OPT_LOCK_RELOCK * 1000) = true →
    Nexts (exec (.relockTimeout ring) s) fun t => t.bit F.OPT_Fk_LAMBDA_FAILED (ring / 2 % 16) (ring / 32) = true ∧
      (t.opt.relocking.any fun x => x.1 / 2 = ring / 2) = false) ∧
  (∀ (s : State) (tiles : Nat), s.Canon → tiles < 16 →
    if (List.range 4).any fun i => tiles.testBit i && (s.tileSlotUp i || s.bit F.OPT_STATUS_CALIBRATING i) then
      Nexts (exec (.optCalFull tiles) s) fun t => t.f F.OPT_CAL_RESULT = Status.refusedBusy.code ∧ t.f F.OPT_CAL_TILES = tiles ∧
        t.f F.OPT_STATUS_CALIBRATING = s.f F.OPT_STATUS_CALIBRATING
    else Nexts (exec (.optCalFull tiles) s) fun t => t.f F.OPT_CAL_TILES = tiles ∧
      ∀ i, i < 4 → t.bit F.OPT_STATUS_CALIBRATING i = (tiles.testBit i || s.bit F.OPT_STATUS_CALIBRATING i)) ∧
  (∀ (s : State) (n : Nat) (xt : List Word), s.Canon → n < 4 → s.bit F.OPT_STATUS_CALIBRATING n = true → xt.length = 450 →
    s.elapsed ((tfind n s.opt.calStart).getD 0) 40000000 = true →
    Nexts (exec (.optCalDone n xt) s) fun t => t.bit F.OPT_STATUS_CALIBRATING n = false ∧ t.f F.OPT_CAL_RESULT = 0 ∧
      t.f F.OPT_EVENTS_CAL_DONE = 1 ∧ ∀ i, i < 450 → t.f F.OPT_Tt_XT_COEF0 (450 * n + i) = (xt.getD i 0).toNat % 2 ^ 16 ∧
        t.f F.OPT_Tt_XT_COEF3 (450 * n + i) = (xt.getD i 0).toNat / 2 ^ 48) ∧
  (∀ (s : State) (k : Nat), s.Canon → k < 16 → s.pairLit k = true →
    Nexts (exec (.aprTrip k) s) fun t => t.pairApr k = true ∧ t.f F.OPT_EVENTS_APR_TRIP = 1 ∧
      Counted F.OPT_APR_TRIPS_COUNT 0 1 s t ∧ t.f F.FAB_Fk_CFG_UP k = 0) ∧
  (∀ (s : State) (k w : Nat), s.Canon → k < 16 → s.pairApr k = true → s.pairEnabled k = true → s.tileMayLight (k / 4) = true →
    s.elapsed ((tfind k s.opt.burstAt).getD 0) (max 100 (s.f F.OPT_APR_PERIOD) * 1000000) = true →
    ((List.range 16).find? fun w => s.bit F.FAB_Fk_CFG_PKT_LAMBDAS w k) = some w →
    Nexts (exec (.aprBurst k) s) fun t => t.out = s.out ++ [.burst k w (min 2000 (s.f F.OPT_APR_BURST))] ∧ tfind k t.opt.burstAt = some s.now ∧ t.regs = s.regs) ∧
  (∀ (s : State) (k : Nat), s.Canon → k < 16 → s.pairApr k = true → s.pairEnabled k = true → s.tileMayLight (k / 4) = true →
    Nexts (exec (.aprClear k) s) fun t => t.pairApr k = false ∧ t.f F.OPT_EVENTS_APR_CLEAR = 1 ∧
      ∀ w, w < 16 → s.bit F.FAB_Fk_CFG_PKT_LAMBDAS w k = true → s.slotHealthy k w = true → t.bit F.FAB_Fk_CFG_UP w k = true) ∧
  (∀ (s : State) (n : Nat), s.Canon → n < 4 →
    (s.bit F.PWR_PINS_LASER_EN_N n = false → Nexts (exec (.laserEnChange n true) s) fun t => t.bit F.PWR_PINS_LASER_EN_N n = true ∧
      t.bit F.OPT_STATUS_LIT n = false ∧ ∀ i, i < 4 → s.pairEnabled (4 * n + i) = true → t.f F.FAB_Fk_CFG_UP (4 * n + i) = 0) ∧
    (s.bit F.PWR_PINS_LASER_EN_N n = true → Nexts (exec (.laserEnChange n false) s) fun t => t.bit F.PWR_PINS_LASER_EN_N n = false ∧
      ∀ i, i < 4 → s.pairEnabled (4 * n + i) = true → t.pairApr (4 * n + i) = true))

/-! ### Sectors, memory, the on-package network -/

/-- Sectors and memory (R23, R24, R28, R481, R482, R493, R495, R496, R500, R30 to R34). A failed sector leaves the healthy set,
the array shrinks by its 64 rows and its pages without another copy read zero and are lost; the remap makes each lost
primary's secondary the primary; a scrub counts what it corrected and poisons what it could not. Over a network link that
has not failed, a packet with a bad CRC is counted and held for its re-send; one that passes leaves its sender and, at the end
of its flow's path, is delivered in order and once, and else the next link of the path holds it; five failures of one packet
in a row fail the link and move its flows to paths that share no link with the others. -/
def Obligations.SectorsPagesScrubAndNetworkLinks : Prop :=
  (∀ (s : State) (n : Nat) (moved : List Nat), s.Canon → n < 8 → s.healthy n = true →
    Nexts (exec (.sectorFault n moved) s) fun t => t.secState n = secUnusable ∧ t.bit F.BIST_STATUS_UNUSABLE n = true ∧
      t.healthyList = (s.healthyList.filter fun m => m ≠ n) ∧ t.f F.ARR_STATUS_ROWS = 64 * t.healthyList.length ∧
      t.bit F.MEM_STATUS_S_UP n = false ∧ t.bit F.MEM_STATUS_H_UP n = false ∧
      t.mem.remapDue = s.mem.remapDue ++ [(n, s.now)] ∧
      (∀ e ∈ s.mem.pages, e.1 < areaKey 0 → e.2.primary = n → s.copied e.1 e.2 = false →
        (tfind (pageCell e.1 / pageSize) t.mem.lost).isSome = true ∧
        ∀ u a, memKey u a / pageSize = pageCell e.1 / pageSize → t.rdByte u a = 0) ∧
      ∀ it, s.arrayItem = some it → t.f F.ARR_EVENTS_MOVED = 1) ∧
  (∀ (s : State) (n due : Nat) (rest : List (Nat × Nat)), s.Canon → s.mem.remapDue = (n, due) :: rest →
    (s.mem.pages.map Prod.fst).Nodup →
    Nexts (exec .pageRemap s) fun t => t.mem.remapDue = rest ∧
      ∀ e ∈ s.mem.pages, e.2.primary = n → t.f F.MEM_EVENTS_REMAPPED = 1 ∧
        (∀ m, e.2.secondary = some m → s.mem.remirroring.contains e.1 = false →
          (tfind e.1 t.mem.pages).map Page.primary = some m)) ∧
  (∀ (s : State), s.Canon → s.mem.remirroring ≠ [] →
    Nexts (exec .remirrorDone s) fun t => t.mem.remirroring = [] ∧ t.f F.MEM_STATUS_REMIRRORING = 0 ∧ t.mem.pages = s.mem.pages ∧
      ((s.mem.pages.all fun e => !e.2.mirrored || e.2.secondary.isSome) = true → t.f F.MEM_EVENTS_REMIRRORED = 1)) ∧
  (∀ (s : State) (u v a : Nat), s.Canon → s.f F.MEM_SCRUB_PERIOD ≠ 0 →
    s.elapsed s.mem.scrubAt (s.f F.MEM_SCRUB_PERIOD * 3600 * 10 ^ 9) = true → u < 3 → v < 3 → a < s.tierCap v →
    Nexts (exec (.scrubPass [u] [(v, a)]) s) fun t => t.mem.scrubAt = s.now ∧
      Counted (ceCounter u) 0 1 s t ∧ Counted (ueCounter v) 0 1 s t ∧ t.f F.MEM_EVENTS_CE = 1 ∧ t.f F.MEM_EVENTS_UE = 1 ∧
      t.f F.MEM_LAST_UE_TIER = v ∧ t.f F.MEM_LAST_UE_ADDR = a % 2 ^ 46 ∧
      t.mem.poison.contains (memKey v a / 8) = !s.hasCopy v a 1) ∧
  (∀ (s : State) (d : Nat), s.Canon → d < 4 → s.bit F.MEM_STATUS_X_UP d = true →
    Nexts (exec (.cxlLinkDown d) s) fun t => t.bit F.MEM_STATUS_X_UP d = false ∧ t.f F.MEM_EVENTS_X_LOST = 1 ∧
      t.f F.MEM_CAP_X_GIB = s.f F.MEM_CAP_X_GIB - s.mem.xRanges.getD d 0 / 2 ^ 30) ∧
  (∀ (s : State) (id stream : Nat) (it : Item), s.Canon → s.item id = some it → rowStream it.row = stream → it.ctxReady = false →
    Nexts (exec (.contextFetch stream) s) fun t => (t.item id).map Item.ctxReady = some true ∧
      t.mem.cache.getLast? = some stream) ∧
  (∀ (src dst l : Nat), l ∈ nocPath src dst true → l ∉ nocPath src dst false) ∧
  (∀ (s : State) (l src dst cls seq r p : Nat), s.Canon → l < 256 → s.nocLink l = (r, p, false) → src < 20 → dst < 20 →
    Nexts (exec (.nocPacketReceive l ⟨⟨src, dst, cls, seq⟩, false⟩) s) (fun t =>
      t.nocLink l = (min (2 ^ 32 - 1) (r + 1), p, false) ∧ Counted F.BIST_NOC_RESENDS_COUNT 0 1 s t ∧
      t.nocFlow (nocKey src dst cls) = s.nocFlow (nocKey src dst cls) ∧
      (t.nocHeld l (nocKey src dst cls) seq).map NocPkt.fails =
        some (((s.nocHeld l (nocKey src dst cls) seq).map NocPkt.fails).getD 0 + 1)) ∧
    Nexts (exec (.nocPacketReceive l ⟨⟨src, dst, cls, seq⟩, true⟩) s) fun t => t.regs = s.regs ∧ t.nocLink l = s.nocLink l ∧
      (match ((s.nocFlow (nocKey src dst cls)).path (nocKey src dst cls)).dropWhile (· ≠ l) with
       | _ :: next :: _ => t.nocFlow (nocKey src dst cls) = s.nocFlow (nocKey src dst cls) ∧
         t.bist.noc.held = s.nocRest l (nocKey src dst cls) seq ++ [NocPkt.mk next (nocKey src dst cls) seq 0]
       | _ => t.nocFlow (nocKey src dst cls) = (s.nocFlow (nocKey src dst cls)).deliver seq ∧
         t.bist.noc.held = s.nocRest l (nocKey src dst cls) seq ∧ t.nocHeld l (nocKey src dst cls) seq = none)) ∧
  (∀ (f : NocFlow) (seq : Nat), (seq < f.next ∨ seq ∈ f.ahead → f.deliver seq = f) ∧
    (f.ahead = [] → f.deliver f.next = { f with next := f.next + 1 }) ∧
    (f.next < seq → seq ∉ f.ahead → f.next ∉ f.ahead → f.deliver seq = { f with ahead := seq :: f.ahead.filter fun q => f.next ≤ q })) ∧
  (∀ (s : State) (l src dst cls seq r p : Nat) (ok : Bool), s.nocLink l = (r, p, true) →
    exec (.nocPacketReceive l ⟨⟨src, dst, cls, seq⟩, ok⟩) s = .next s) ∧
  (∀ (s : State) (l r p : Nat) (pk : NocPacket), s.Canon → l < 256 → s.nocLink l = (r, p, false) →
    (s.nocHeld l (nocFlowOf pk) pk.seq).any (fun q => decide (5 ≤ q.fails)) = true →
    Nexts (exec (.nocLinkFailed l pk) s) fun t => t.nocLink l = (r, min (2 ^ 16 - 1) (p + (s.nocOn l).length), true) ∧
      Counted F.BIST_NOC_PATH_CHANGES_COUNT 0 (s.nocOn l).length s t ∧ Counted F.BIST_NOC_LINK_FAILS_COUNT 0 1 s t ∧
      t.f F.BIST_EVENTS_NOC_LINK = 1 ∧ t.seq = s.seq ∧ t.bist.noc.held.length = s.bist.noc.held.length ∧
      ((s.bist.noc.flows.map Prod.fst).Nodup → ∀ k ∈ s.nocOn l, (t.nocFlow k).alt = !(s.nocFlow k).alt))

/-! ### The host port -/

/-- Frames of the host port (R546, R547, R559, R581, R593). A damaged frame is discarded; a request of ARP for the own address is
answered; a red frame goes no further; a message that no key verifies is counted; one that passes the checks is carried out
as the command of its operation. With MACsec in force a frame needs a valid SecTAG and ICV and a packet number in the
window, and is then taken like one without it. -/
def Obligations.HostFramesAreFilteredVerifiedAndServed : Prop :=
  (∀ (s : State) (full : List Byte) (fw : Bool × Nat),
    (full.length < 64 ∨ 9216 < full.length ∨ withFcs (full.take (full.length - 4)) ≠ full) →
    exec (.hostFrameReceive full fw) s = .next s ∧ exec (.macsecFrameReceive full fw) s = .next s) ∧
  (∀ (s : State) (fr : List Byte) (fw : Bool × Nat), s.Canon → s.forUs fr = true → s.macsec = false →
    s.f F.SCH_PLk_CTRL_ENABLE 17 = 0 → hdrAt fr 12 2 = 0x0806 → hdrAt fr 14 8 = 0x0001080006040001 → s.ownIp4 (hdrAt fr 38 4) = true →
    Nexts (exec (.hostFrameReceive (withFcs fr) fw) s) fun t => Counted F.SCH_PLk_GREEN_COUNT 17 1 s t ∧
      ∃ r, t.out = s.out ++ [.hostFrame (withFcs r)] ∧ hdrAt r 0 6 = hdrAt fr 22 6 ∧ hdrAt r 6 6 = s.f F.HOST_MAC_MAC ∧
        hdrAt r 12 2 = 0x0806 ∧ hdrAt r 14 8 = 0x0001080006040002 ∧ hdrAt r 22 6 = s.f F.HOST_MAC_MAC ∧
        hdrAt r 28 4 = hdrAt fr 38 4 ∧ hdrAt r 32 10 = hdrAt fr 22 10) ∧
  (∀ (s : State) (fr : List Byte) (fw : Bool × Nat), s.Canon → s.forUs fr = true → s.macsec = false →
    s.f F.SCH_PLk_CTRL_ENABLE 17 = 1 → s.f F.SCH_PLk_CTRL_MODE 17 = 0 → udpPort fr ≠ some (s.hostF F.HOST_CFG_PORT) →
    (s.policerNow 17).p < (fr.length + 4 + s.f F.SCH_PLk_CTRL_OVH 17) * bucketUnit →
    Nexts (exec (.hostFrameReceive (withFcs fr) fw) s) fun t => Counted F.SCH_PLk_RED_COUNT 17 1 s t ∧
      t.f F.SCH_EVENTS_RED_HOST = 1 ∧ t.out = s.out ∧ t.host = s.host ∧ t.time = s.time) ∧
  (∀ (s : State) (fr msg : List Byte) (fw : Bool × Nat), s.Canon → s.forUs fr = true → s.macsec = false →
    s.f F.SCH_PLk_CTRL_ENABLE 16 = 0 → s.carries fr (s.hostF F.HOST_CFG_PORT) msg → s.answers = true →
    s.hostF F.HOST_CFG_PORT ≠ 319 → s.hostF F.HOST_CFG_PORT ≠ 320 → s.f F.CST_STATUS_MODE = 0 →
    msg.length = 48 + hdrAt msg 20 2 → msg.length ≤ 9000 →
    (s.cands.find? fun c => c.verifies 0 (hdrAt msg 8 4) (msg.take (msg.length - 16)) (msg.drop (msg.length - 16))) = none →
    Nexts (exec (.hostFrameReceive (withFcs fr) fw) s) fun t => Counted F.HOST_AUTH_FAIL_COUNT 0 1 s t ∧
      t.f F.HOST_EVENTS_AUTH_FAIL = 1 ∧ t.host = s.host ∧ t.out = s.out) ∧
  (∀ (s : State) (fr msg : List Byte) (fw : Bool × Nat) (c : Cand), s.Canon → s.forUs fr = true → s.macsec = false →
    s.f F.SCH_PLk_CTRL_ENABLE 16 = 0 → s.carries fr (s.hostF F.HOST_CFG_PORT) msg → s.answers = true →
    s.hostF F.HOST_CFG_PORT ≠ 319 → s.hostF F.HOST_CFG_PORT ≠ 320 → s.f F.CST_STATUS_MODE = 0 →
    msg.length = 48 + hdrAt msg 20 2 → msg.length ≤ 9000 →
    (s.cands.find? fun c => c.verifies 0 (hdrAt msg 8 4) (msg.take (msg.length - 16)) (msg.drop (msg.length - 16))) = some c →
    s.seqCheck c (hdrAt msg 8 4) = .fresh → hdrAt msg 0 1 = 1 → hdrAt msg 2 1 = 0 → hdrAt msg 22 2 = 0 → hdrAt msg 24 8 = 0 →
    (hdrAt msg 1 1 = 1 → exec (.hostFrameReceive (withFcs fr) fw) s =
      exec (.read { seq := hdrAt msg 8 4, gen := c.gen, inTxn := false, inSnap := false, txn := hdrAt msg 4 4 }
        ((msg.drop 32).take (hdrAt msg 20 2)))
        (((s.count F.SCH_PLk_GREEN_COUNT 1 16).noteSeq c (hdrAt msg 8 4)).count F.HOST_REQUESTS_COUNT)) ∧
    (hdrAt msg 1 1 = 2 → exec (.hostFrameReceive (withFcs fr) fw) s =
      exec (.write { seq := hdrAt msg 8 4, gen := c.gen, inTxn := false, inSnap := false, txn := hdrAt msg 4 4 }
        ((msg.drop 32).take (hdrAt msg 20 2)))
        (((s.count F.SCH_PLk_GREEN_COUNT 1 16).noteSeq c (hdrAt msg 8 4)).count F.HOST_REQUESTS_COUNT))) ∧
  (∀ (s : State) (fr : List Byte) (fw : Bool × Nat), s.Canon → s.asleep = false → 60 ≤ fr.length → fr.length ≤ 9212 → s.macsec = true →
    (hdrAt fr 12 2 ≠ 0x88E5 → Nexts (exec (.macsecFrameReceive (withFcs fr) fw) s) fun t =>
      Counted F.CIPH_MAC_UNTAGGED_COUNT 0 1 s t ∧ t.ciph = s.ciph ∧ t.host = s.host ∧ t.out = s.out) ∧
    (hdrAt fr 12 2 = 0x88E5 → hdrAt fr 14 1 / 4 = 0x0B → hdrAt fr 15 1 = 0 → 92 ≤ fr.length →
      s.macRxGen (hdrAt fr 20 8) (hdrAt fr 14 1 % 4) = none → Nexts (exec (.macsecFrameReceive (withFcs fr) fw) s) fun t =>
      Counted F.CIPH_MAC_ICV_FAIL_COUNT 0 1 s t ∧ t.ciph = s.ciph ∧ t.host = s.host ∧ t.out = s.out)) ∧
  (∀ (s : State) (fr : List Byte) (fw : Bool × Nat) (k next pn : Nat) (g : KeyGen), s.Canon → s.asleep = false → 92 ≤ fr.length →
    fr.length ≤ 9212 → s.macsec = true → hdrAt fr 12 2 = 0x88E5 → hdrAt fr 14 1 / 4 = 0x0B → hdrAt fr 15 1 = 0 →
    s.macRxGen (hdrAt fr 20 8) (hdrAt fr 14 1 % 4) = some (k, g) → next = (tfind (256 * k + g.gen) s.ciph.macRx).getD 1 →
    pn = xpnOf (next - s.f F.CIPH_MACSEC_WINDOW) (hdrAt fr 16 4) →
    (s.f F.CIPH_MACSEC_REPLAY = 1 → pn < next - s.f F.CIPH_MACSEC_WINDOW →
      Nexts (exec (.macsecFrameReceive (withFcs fr) fw) s) fun t => Counted F.CIPH_MAC_REPLAY_COUNT 0 1 s t ∧ t.ciph = s.ciph ∧
        t.host = s.host ∧ t.out = s.out) ∧
    (next - s.f F.CIPH_MACSEC_WINDOW ≤ pn → ∀ pt, gcmOpen g.keys (xorList (bytesOf 12 g.salt.toNat) (bytesOf 4 g.ssci ++ bytesOf 8 pn))
        (nats (fr.take 28)) (nats ((fr.drop 28).take (fr.length - 44))) (nats ((fr.drop (fr.length - 16)).take 16)) = some pt →
      hdrAt (byts pt) 0 2 = 0x0806 → s.ownIp4 (hdrAt (byts pt) 26 4) = false →
      Nexts (exec (.macsecFrameReceive (withFcs fr) fw) s) fun t =>
        tfind (256 * k + g.gen) t.ciph.macRx = some (max next (pn + 1)) ∧ t.host = s.host ∧ t.out = s.out))

/-! ### Images, Twilight, management firmware -/

/-- LOAD_VERIFY (R669 to R671, R675, R682, R690). A load that fails a check ends with the check's code; a verified
ALMANAC_ONLY image becomes the shadow set; a bound member stages a FULL image and tells the pole its code, or begins a patch;
the image of the boot area is activated in stage 6. -/
def Obligations.LoadsAreVerifiedAndTaken : Prop :=
  (∀ (s : State) (sigOk : Bool) (body : ImageBody) (cxl : List Nat) (rej : Bool) (others : List (Nat × Status × List FitEntry))
      (part : Option Image) (l : Load) (v : Finding), s.Canon → s.host.load = some l → l.complete = true → l.target ≤ 2 →
    s.img.patch = none → s.imageActive = true → s.checkFile l.bytes l.target sigOk s.position = .error v →
    Nexts (exec (.loadVerify sigOk body cxl rej others part) s) fun t => t.f F.IMG_STATUS_RESULT = v.st.code ∧
      t.f F.IMG_STATUS_CHECK = v.check % 16 ∧ t.f F.IMG_STATUS_STATE = 0 ∧ t.host.load = none ∧ t.img.staged = s.img.staged ∧
      t.f F.HOST_LOAD_RESULT = v.st.code ∧ (v.st = .refusedRollback → t.f F.SEC_EVENTS_ROLLBACK = 1) ∧
      ∀ q, l.by_ = some q → q.seq < 2 ^ 32 → t.lastAnswer = some (q.seq, v.st.code)) ∧
  (∀ (s : State) (sigOk : Bool) (body : ImageBody) (cxl : List Nat) (rej : Bool) (part : Option Image) (l : Load) (c : Checked)
      (im : Image), s.Canon → s.host.load = some l → l.complete = true → l.target ≤ 2 → s.img.patch = none → s.imageActive = true →
    s.checkFile l.bytes l.target sigOk s.position = .ok c → c.image body = .ok im → (s.fitImage im cxl).1 = .done →
    im.kind = imAlmanac → s.seq.swap = none → im.count < 2 ^ 20 →
    Nexts (exec (.loadVerify sigOk body cxl rej [] part) s) fun t => t.seq.shadow = im.rows ∧ t.seq.active = s.seq.active ∧
      t.f F.SEQ_ROWS_SHADOW = im.count ∧ t.f F.IMG_STATUS_RESULT = 0 ∧ t.host.load = none ∧
      ∀ q, l.by_ = some q → q.seq < 2 ^ 32 → t.lastAnswer = some (q.seq, 0)) ∧
  (∀ (s : State) (sigOk : Bool) (body : ImageBody) (cxl : List Nat) (rej : Bool) (im : Image), s.Canon → s.host.load = none →
    s.f F.CST_STATUS_MODE = 1 → s.f F.CST_STATUS_IS_POLE = 0 → s.img.staged = none → s.img.patch = none → s.imageActive = true →
    (s.fitImage im cxl).1 = .done →
    (im.kind = imFull → Nexts (exec (.loadVerify sigOk body cxl rej [] (some im)) s) fun t => t.img.staged = some im ∧
      t.f F.IMG_STATUS_STAGED = 1 ∧ t.f F.IMG_STATUS_RESULT = 0 ∧ t.f F.IMG_EVENTS_STAGED = 1 ∧
      .member s.pole mkImagePart s.position [0] ∈ t.out) ∧
    (im.kind = imPatch → s.seq.swap = none → (s.bist.runs.any fun r => decide (r.sector = im.sector)) = false →
      tfind im.sector s.img.purpose ≠ some 1 → im.sector < 8 → s.healthy im.sector = true → s.unitDark im.sector = false →
      Nexts (exec (.loadVerify sigOk body cxl rej [] (some im)) s) fun t => t.f F.IMG_STATUS_STATE = 4 ∧
        t.f F.IMG_PATCH_SECTOR = im.sector ∧ t.f F.IMG_PATCH_STEP = 1 ∧ t.unitDraining im.sector = true ∧
        t.img.patch = some { image := im, enable := im.enable, step := 1 })) ∧
  (∀ (s : State) (body : ImageBody) (cxl : List Nat) (rej : Bool) (im : Image), s.Canon → s.host.load = none → s.img.area = some im →
    s.f F.GLB_STATUS_STAGE = 6 → s.imageActive = false → s.bit F.SEC_STATUS_ACTIVE im.owner = true →
    s.f F.SEC_ROLLBACK_COUNTER ≤ im.version → im.version < 2 ^ 32 → (s.fitImage im cxl).1 = .done → im.kind = imFull →
    Nexts (exec (.loadVerify true body cxl rej [] none) s) fun t => t.f F.GLB_STATUS_STAGE = 8 ∧ t.f F.IMG_STATUS_ACTIVE = 1 ∧
      t.f F.IMG_STATUS_VERSION = im.version ∧ t.seq.active = im.rows ∧ t.img.owner = im.owner ∧ t.f F.IMG_EVENTS_ACTIVATED = 1)

/-- ACTIVATE, DISCARD and the activation (R233, R251, R523, R671 to R674). ACTIVATE puts the tracks and the photonic engine into Twilight;
DISCARD drops what is staged; once no item is in flight the staged image's tables, rows and structure are the machine's, its
collectives are counted, ad hoc IDs start anew, and every key but K0 is gone. -/
def Obligations.ImagesActivateOrAreDiscarded : Prop :=
  (∀ (s : State) (im : Image), s.Canon → s.img.staged = some im →
    Nexts (exec .activate s) fun t => t.img.activating = true ∧ t.f F.IMG_STATUS_STATE = 3 ∧
      (∀ n, n < 16 → s.unitDark (unitTrack n) = false → t.unitDraining (unitTrack n) = true) ∧
      (s.unitDark unitPpe = false → t.unitDraining unitPpe = true)) ∧
  (∀ (s : State) (im : Image), s.Canon → s.img.staged = some im → s.img.activating = false →
    Nexts (exec .discard s) fun t => t.img.staged = none ∧ t.f F.IMG_STATUS_STAGED = 0) ∧
  (∀ (s : State), s.img.staged = none → exec .activate s = .next s ∧ exec .discard s = .next s) ∧
  (∀ (s : State) (cxl : List Nat) (rej : Bool) (im : Image), s.Canon → s.img.staged = some im → s.img.activating = true →
    s.seq.items = [] → im.version < 2 ^ 32 →
    Nexts (exec (.imageActivation cxl rej) s) fun t => t.f F.IMG_STATUS_ACTIVE = 1 ∧ t.f F.IMG_STATUS_STAGED = 0 ∧
      t.f F.IMG_STATUS_VERSION = im.version ∧ t.f F.IMG_EVENTS_ACTIVATED = 1 ∧ t.img.staged = none ∧ t.img.activating = false ∧
      t.f F.COL_STATUS_ENTRIES = min 16384 im.colls.length ∧ t.f F.COL_LAST_ADHOC_ID_ID = 0 ∧
      t.img.owner = im.owner ∧ t.img.sectors = im.body.sectors ∧ t.seq.active = im.rows ∧ t.seq.shadow = [] ∧
      t.conf.job = im.body.conf.job ∧ t.conf.site = im.body.conf.site ∧ t.conf.role = im.body.conf.role ∧
      t.ciph.slots = [] ∧ t.ciph.uses = im.body.uses ∧ t.ciph.k0 = s.ciph.k0)

/-- Twilight (R677 to R681). DISABLE puts a unit into Twilight with a deadline unless the rest would not fit; at the deadline,
or when nothing more is in flight on it, the unit goes dark; ENABLE brings a track back halted and puts a sector in line
for its test. -/
def Obligations.TwilightDrainsDarkensAndReturns : Prop :=
  (∀ (s : State) (u d : Nat), s.Canon → u < 8 → s.healthy u = true → s.unitOut u = false → s.testing u = false →
    (s.fitsWithout u = true → tfind u s.img.deadlines = none →
      Nexts (exec (.disable u d) s) fun t => t.f F.IMG_TWILIGHT_RESULT = 0 ∧ t.unitDraining u = true ∧ t.secState u = secTwilight ∧
        tfind u t.img.deadlines = some (s.now + d * 1000)) ∧
    (s.fitsWithout u = false →
      Nexts (exec (.disable u d) s) fun t => t.f F.IMG_TWILIGHT_RESULT = Status.refusedFit.code ∧ t.unitDraining u = false ∧
        t.secState u = s.secState u)) ∧
  (∀ (s : State) (u d : Nat), s.Canon → 8 ≤ u → u < 30 → s.unitDark u = false →
    Nexts (exec (.disable u d) s) fun t => t.f F.IMG_TWILIGHT_RESULT = 0 ∧ t.unitDraining u = true) ∧
  (∀ (s : State) (u d : Nat), s.Canon → 30 ≤ u →
    Nexts (exec (.disable u d) s) (fun t => t.f F.IMG_TWILIGHT_RESULT = Status.refusedBusy.code ∧ t.img = s.img) ∧
    Nexts (exec (.enable u) s) (fun t => t.f F.IMG_TWILIGHT_RESULT = Status.refusedBusy.code ∧ t.img = s.img)) ∧
  (∀ (s : State) (u due : Nat) (moved : List Nat), s.Canon → u < 30 → s.unitDraining u = true →
    (tfind u s.img.deadlines = some due → due ≤ s.now →
      Nexts (exec (.twilightDeadline u moved) s) fun t => t.unitDark u = true ∧ t.unitDraining u = false ∧
        t.f F.IMG_EVENTS_DARK = 1 ∧ (∀ n, n < 16 → u = unitTrack n → t.track n = tkDark)) ∧
    (s.unitIdle u = true →
      Nexts (exec (.unitDark u) s) fun t => t.unitDark u = true ∧ t.unitDraining u = false ∧ t.f F.IMG_EVENTS_DARK = 1)) ∧
  (∀ (s : State) (u : Nat), s.Canon → u < 30 → s.unitDraining u = false → s.unitDark u = true →
    (∀ n, n < 16 → u = unitTrack n → Nexts (exec (.enable u) s) fun t => t.f F.IMG_TWILIGHT_RESULT = 0 ∧ t.unitDark u = false ∧
      t.track n = tkHalted) ∧
    (u < 8 → s.testing u = false → s.bit F.BIST_STATUS_RETIRED u = false →
      Nexts (exec (.enable u) s) fun t => t.f F.IMG_TWILIGHT_RESULT = 0 ∧ t.secState u = secReset ∧
        ∃ r, t.bist.runs = s.bist.runs ++ [r] ∧ r.sector = u ∧ r.set = 1 ∧ r.started = none))

/-- The restart of the management processors (R687, R688): each in turn drains, restarts out of service on the preferred copy
and comes back; one that does not report ready goes back to its old copy and stops the sequence. -/
def Obligations.ManagementProcessorsRestartInTurn : Prop :=
  (∀ (s : State), s.Canon → s.img.fw = none → s.f F.SEC_STATUS_RECOVERY = 0 →
    (∀ m, m < 4 → s.major (s.bit F.IMG_FW_STATUS_COPY_B m) = s.major (decide (s.f F.IMG_FW_STATUS_PREFER_B = 1))) →
    Nexts (exec .restart s) fun t => t.f F.IMG_FW_STATUS_RESULT = 0 ∧ t.f F.IMG_FW_STATUS_RESTARTING = 1 ∧
      t.f F.IMG_FW_STATUS_MP = 0 ∧ t.unitDraining (unitMp 0) = true ∧
      t.img.fw = some { mp := 0, draining := true, since := s.now, oldB := s.bit F.IMG_FW_STATUS_COPY_B 0 }) ∧
  (∀ (s : State), s.Canon → s.img.fw.isSome = true →
    Nexts (exec .restart s) fun t => t.f F.IMG_FW_STATUS_RESULT = Status.refusedBusy.code ∧ t.img = s.img) ∧
  (∀ (s : State) (r : FwRun), s.Canon → s.img.fw = some r → r.mp < 4 → r.draining = true →
    Nexts (exec (.mpDrainLimit []) s) fun t => t.img.fw = some { r with draining := false, since := s.now } ∧
      t.bit F.IMG_FW_STATUS_COPY_B r.mp = decide (s.f F.IMG_FW_STATUS_PREFER_B = 1) ∧ t.bit F.EVT_STATUS_TGT_UP r.mp = false ∧
      t.unitDark (unitMp r.mp) = true) ∧
  (∀ (s : State) (m : Nat) (r : FwRun), s.Canon → s.img.fw = some r → r.mp = m → m < 4 → r.draining = false →
    Nexts (exec (.mpReady m) s) fun t => t.bit F.EVT_STATUS_TGT_UP m = true ∧ t.unitDark (unitMp m) = false ∧
      if m < 3 then t.unitDraining (unitMp (m + 1)) = true ∧ (t.img.fw.map FwRun.mp) = some (m + 1)
      else t.img.fw = none ∧ t.f F.IMG_FW_STATUS_RESULT = 0 ∧ t.f F.IMG_EVENTS_FW_RESTARTED = 1) ∧
  (∀ (s : State) (r : FwRun), s.Canon → s.img.fw = some r → r.mp < 4 → r.draining = false → s.elapsed r.since 1000000000 = true →
    Nexts (exec .mpReadyTimeout s) fun t => t.img.fw = none ∧ t.bit F.IMG_FW_STATUS_COPY_B r.mp = r.oldB ∧
      t.f F.IMG_FW_STATUS_RESTARTING = 0 ∧ t.f F.IMG_EVENTS_FW_FAIL = 1 ∧
      t.f F.IMG_FW_STATUS_RESULT = (Config.freeWord s.free).toNat % 256)

/-! ### Resets and boot, the vault die, self-test, power and clocks -/

/-- Resets (R19, R175, R523, R733, R739 to R744, R753). PORST_N returns every register word without a field of the vault die or the board to
its reset value and keeps the vault die, the flash and tier X; its release samples BOOT_SEL and, once the rails are ready,
starts the boot and TB3 at zero; SYSRST_N and a soft reset keep the sticky fields, the bins, retired sectors, a failed photonic
engine and the time bases too and boot from stage 2. -/
def Obligations.ResetsKeepWhatTheSpecKeeps : Prop :=
  (∀ (s : State), s.Canon → Nexts (exec .porstNAssert s) fun t => t.pwr.porst = true ∧ t.seq = State.reset.seq ∧
    t.arr = State.reset.arr ∧ t.peer = State.reset.peer ∧ t.host = State.reset.host ∧ t.time = State.reset.time ∧ t.ciph.slots = [] ∧
    (∀ a, (∀ r, regAt a = some r → ∀ x ∈ r.fields, x.vault = false ∧ x.outside = false) → t.word a = resetWord a) ∧
    t.f F.SEC_ROLLBACK_COUNTER = s.f F.SEC_ROLLBACK_COUNTER ∧ t.f F.GLB_DEVICE_DEVICE = s.f F.GLB_DEVICE_DEVICE ∧
    t.sec.owners = s.sec.owners ∧ t.sec.boot = s.sec.boot ∧ t.ciph.k0 = s.ciph.k0 ∧ t.img.area = s.img.area ∧
    t.img.copyA = s.img.copyA ∧ t.img.copyB = s.img.copyB ∧ ∀ a, t.rdByte 3 a = s.rdByte 3 a) ∧
  (∀ (s : State) (sel : Nat), s.Canon → s.pwr.porst = true → (s.pwr.off = true → s.vinInRange = true) →
    Nexts (exec (.porstNRelease sel true) s) (fun t => t.now = 0 ∧ t.f F.GLB_STATUS_STAGE = 1 ∧ t.f F.CLK_STATUS_ROOT_LOCK = 1 ∧
      t.f F.SEC_STATUS_BOOT_SEL = sel % 4 ∧ t.asleep = false) ∧
    Nexts (exec (.porstNRelease sel false) s) (fun t => t.now = s.now ∧ t.pwr.held = true ∧ t.pwr.porst = false ∧
      t.f F.SEC_STATUS_BOOT_SEL = sel % 4)) ∧
  (∀ (s : State), s.Canon → s.pwr.held = true → s.pwr.porst = false → s.pwr.off = false →
    Nexts (exec .railsReady s) fun t => t.now = 0 ∧ t.f F.GLB_STATUS_STAGE = 1 ∧ t.f F.CLK_STATUS_ROOT_LOCK = 1 ∧ t.asleep = false) ∧
  (∀ (s : State), s.Canon → s.asleep = false → 2 ≤ s.f F.GLB_STATUS_STAGE → s.f F.SEC_STATUS_PUF_FAIL = 0 →
    Nexts (exec .sysrstN s) (fun t => t.f F.GLB_STATUS_STAGE = 2 ∧ t.f F.PWR_STATUS_READY = 1 ∧ t.f F.IMG_STATUS_ACTIVE = 0 ∧
      t.seq = State.reset.seq ∧ t.mem.ctx = [] ∧ t.ciph.slots = [] ∧ t.ciph.k0 = s.ciph.k0 ∧ t.time.bases = s.time.bases ∧
      t.bist.bins = s.bist.bins ∧ t.host.lastTxn = s.host.lastTxn ∧ t.f F.GLB_SCRATCH_VALUE = s.f F.GLB_SCRATCH_VALUE ∧
      t.f F.ARR_STATUS_SUSPECT = s.f F.ARR_STATUS_SUSPECT ∧ t.f F.SEC_STATUS_BOOT_SEL = s.f F.SEC_STATUS_BOOT_SEL ∧
      t.f F.SEC_ROLLBACK_COUNTER = s.f F.SEC_ROLLBACK_COUNTER ∧ t.ppe.failed = s.ppe.failed ∧
      (∀ n, n < 4 → t.f F.TIME_TBn_OFFSET_OFFSET n = s.f F.TIME_TBn_OFFSET_OFFSET n) ∧
      ∀ n, n < 8 → s.secState n = secRetired → t.secState n = secRetired) ∧
    (s.pwr.softDue = true → exec .softReset s = exec .sysrstN s)) ∧
  (∀ (s : State), s.pwr.softDue = false → exec .softReset s = .next s)

/-- The boot stages (R690 to R692, R713). Stage 1 shows READY or a failed PUF; stage 2 goes on or into recovery mode as BOOT_SEL says;
stage 3 runs the preferred firmware copy, the other one, or none; stage 4 tests every sector that is not retired and ends
once all are tested; stage 5 takes the boot area's image. -/
def Obligations.BootStagesFollowEachOther : Prop :=
  (∀ (s : State) (ok other : Bool) (ddr : List Nat), s.Canon → s.asleep = false → s.f F.SEC_STATUS_PUF_FAIL = 0 →
    s.f F.SEC_STATUS_RECOVERY = 0 →
    (s.f F.GLB_STATUS_STAGE = 1 → Nexts (exec (.bootStageEnd ok other ddr) s) fun t =>
      if ok then t.f F.GLB_STATUS_STAGE = 2 ∧ t.f F.PWR_STATUS_READY = 1 ∧ t.f F.CLK_STATUS_PHY_LOCK = 0xFF ∧
        t.f F.CIPH_STATUS_K0_LIVE = b2n s.ciph.k0.isSome ∧ t.out = s.out ++ [.pin .readyN false]
      else t.f F.GLB_STATUS_STAGE = 1 ∧ t.f F.SEC_STATUS_PUF_FAIL = 1 ∧ t.out = s.out) ∧
    (s.f F.GLB_STATUS_STAGE = 2 → Nexts (exec (.bootStageEnd ok other ddr) s) fun t =>
      if s.f F.SEC_STATUS_BOOT_SEL = 2 then t.f F.SEC_STATUS_RECOVERY = 1 ∧ t.f F.GLB_STATUS_STAGE = 2 else t.f F.GLB_STATUS_STAGE = 3) ∧
    (s.f F.GLB_STATUS_STAGE = 3 → (ok || other) = true → Nexts (exec (.bootStageEnd ok other ddr) s) fun t =>
      t.f F.GLB_STATUS_STAGE = 4 ∧
      t.f F.SEC_STATUS_FW_B = (if ok then s.f F.IMG_FW_STATUS_PREFER_B else 1 - s.f F.IMG_FW_STATUS_PREFER_B) ∧
      (∀ m, m < 4 → t.bit F.EVT_STATUS_TGT_UP m = true) ∧
      t.bist.runs.map BistRun.sector = s.bist.runs.map BistRun.sector ++ bistOrder.filter fun n => !s.bit F.BIST_STATUS_RETIRED n) ∧
    (s.f F.GLB_STATUS_STAGE = 3 → (ok || other) = false → Nexts (exec (.bootStageEnd ok other ddr) s) fun t =>
      t.f F.SEC_STATUS_RECOVERY = 1 ∧ t.f F.GLB_STATUS_STAGE = 3) ∧
    (s.f F.GLB_STATUS_STAGE = 4 → s.bist.runs = [] → Nexts (exec (.bootStageEnd ok other ddr) s) fun t => t.f F.GLB_STATUS_STAGE = 5) ∧
    (s.f F.GLB_STATUS_STAGE = 5 → s.f F.SEC_STATUS_BOOT_SEL = 0 → s.img.area.isSome = true → s.host.load = none → s.imageActive = false →
      Nexts (exec (.bootStageEnd ok other ddr) s) fun t => t.f F.GLB_STATUS_STAGE = 6))

/-- Ownership, the identity key and the vault die's counters (R694, R697 to R707). An owner command that passes its checks has its effect;
one that does not is refused with its code; either way it ends shown and under a new challenge. A quote takes a leaf and its
bytes are shown when the signature is made; RAISE lifts the counter to the active image's version; PERSIST empties the boot area
and fills it with the staged image. -/
def Obligations.VaultCommandsTakeEffectOrAreRefused : Prop :=
  (∀ (s : State) (k0 key salt : Nat) (d : List Byte), s.Canon → s.cmdNat 0 1 = ocClaim → s.cmdRefusal false = none →
    s.claimRecord = some (k0, key, salt, d) → Nexts (exec .claim s) fun t =>
      t.ciph.k0 = some (BitVec.ofNat 256 k0) ∧ t.sec.boot = some (BitVec.ofNat 256 key, BitVec.ofNat 32 salt) ∧
      tfind (s.cmdNat 1 1) t.sec.owners = some (1, s.cmdBytes 24 60) ∧ t.f F.SEC_STATUS_OWNED = 1 ∧
      t.bit F.SEC_STATUS_ACTIVE (s.cmdNat 1 1) = true ∧ t.f F.HOST_BOOT_FLOOR_FLOOR = 0 ∧ t.f F.SEC_CTRL_RESULT = 0 ∧
      t.f F.SEC_EVENTS_CMD_DONE = 1 ∧ t.f F.SEC_CHALLENGE_CHALLENGE = (Config.freeWord s.free).toNat) ∧
  (∀ (s : State) (sigOk : Bool), s.Canon → s.cmdRefusal sigOk = none →
    (s.cmdNat 0 1 = ocAddKey → Nexts (exec (.addKey sigOk) s) fun t => tfind (s.cmdNat 1 1) t.sec.owners = some (1, s.cmdBytes 24 60) ∧
      t.bit F.SEC_STATUS_ACTIVE (s.cmdNat 1 1) = true ∧ t.f F.SEC_CTRL_RESULT = 0 ∧ t.f F.SEC_EVENTS_CMD_DONE = 1) ∧
    (s.cmdNat 0 1 = ocRevoke → Nexts (exec (.revokeKey sigOk) s) fun t => t.ownerState (s.cmdNat 1 1) = 2 ∧
      t.bit F.SEC_STATUS_REVOKED (s.cmdNat 1 1) = true ∧ t.bit F.SEC_STATUS_ACTIVE (s.cmdNat 1 1) = false ∧ t.f F.SEC_CTRL_RESULT = 0) ∧
    (s.cmdNat 0 1 = ocRelease → Nexts (exec (.release sigOk) s) fun t => t.sec.owners = [] ∧ t.sec.boot = none ∧ t.ciph.k0 = none ∧
      t.f F.SEC_STATUS_OWNED = 0 ∧ t.f F.SEC_STATUS_ACTIVE = 0 ∧ t.f F.CIPH_STATUS_K0_LIVE = 0 ∧ t.f F.SEC_CTRL_RESULT = 0)) ∧
  (∀ (s : State) (sigOk : Bool) (st : Status), s.Canon → s.cmdRefusal sigOk = some st → st ≠ .done → s.cmdNat 0 1 = ocAddKey →
    Nexts (exec (.addKey sigOk) s) fun t => t.sec = s.sec ∧ t.ciph = s.ciph ∧ t.f F.SEC_CTRL_RESULT = st.code ∧
      t.f F.SEC_EVENTS_CMD_REFUSED = 1 ∧ t.free = s.free + 1) ∧
  (∀ (s : State), s.Canon → s.sec.quote = none → s.sec.reservedLeaf < idLeaves →
    (s.treeSpent = true → s.f F.SEC_LEAVES_NEXT_TREE = 1) →
    Nexts (exec .quote s) fun t => t.f F.SEC_STATUS_QUOTE_BUSY = 1 ∧ t.f F.SEC_LEAVES_NEXT = (s.f F.SEC_LEAVES_NEXT + 1) % 2 ^ 41 ∧
      t.sec.quote = some (s.now, s.f F.SEC_LEAVES_NEXT, s.quoteBytes (s.f F.SEC_LEAVES_NEXT)) ∧
      s.f F.SEC_LEAVES_NEXT < t.sec.reservedLeaf) ∧
  (∀ (s : State), s.Canon → s.sec.quote.isSome = true →
    Nexts (exec .quote s) fun t => t.f F.SEC_CTRL_RESULT = Status.refusedBusy.code ∧ t.sec = s.sec) ∧
  (∀ (s : State) (sig b : List Byte) (at_ leaf : Nat), s.Canon → s.sec.quote = some (at_, leaf, b) → b.length = 152 → sig.length = 3604 →
    Nexts (exec (.quoteDone sig) s) fun t => t.sec.quote = none ∧ t.f F.SEC_STATUS_QUOTE_BUSY = 0 ∧ t.f F.SEC_CTRL_RESULT = 0 ∧
      Counted F.SEC_QUOTES_COUNT 0 1 s t ∧ t.f F.SEC_EVENTS_QUOTE_DONE = 1 ∧
      ∀ i, i < 469 → t.f F.SEC_QUOTE_BYTES i = hdrAt (b ++ sig) (8 * i) 8) ∧
  (∀ (s : State), s.Canon → Nexts (exec .raise s) fun t =>
    if s.imageActive then t.f F.SEC_ROLLBACK_COUNTER = max (s.f F.SEC_ROLLBACK_COUNTER) (s.f F.IMG_STATUS_VERSION) ∧ t.f F.SEC_CTRL_RESULT = 0
    else t.f F.SEC_ROLLBACK_COUNTER = s.f F.SEC_ROLLBACK_COUNTER ∧ t.f F.SEC_CTRL_RESULT = Status.refusedBusy.code) ∧
  (∀ (s : State) (im : Image), s.Canon → s.img.staged = some im → s.sec.persisting = none →
    Nexts (exec .persist s) fun t => if im.len ≤ areaBytes then t.sec.persisting = some im ∧ t.img.area = none
      else t.sec.persisting = none ∧ t.img.area = s.img.area ∧ t.f F.SEC_CTRL_RESULT = Status.refusedFit.code) ∧
  (∀ (s : State) (im : Image), s.Canon → s.sec.persisting = some im →
    Nexts (exec .persistDone s) fun t => t.sec.persisting = none ∧ t.img.area = some im ∧ t.f F.SEC_CTRL_RESULT = 0) ∧
  (∀ (s : State), s.Canon → (s.treeSpent = true ∨ treeLeaves - s.f F.SEC_LEAVES_NEXT % treeLeaves < 2 ^ 18) →
    Nexts (exec .idTreeBuilt s) fun t => t.f F.SEC_LEAVES_NEXT_TREE = 1 ∧ t.f F.SEC_LEAVES_NEXT = s.f F.SEC_LEAVES_NEXT)

/-- Self-test (R708 to R716, R722). A cycle sends its first sector into Twilight; a test starts when its limits allow it; at its end the
sector rejoins or is unusable as its signature and memories say, and an un-retired one waits dark; commands that cannot be
carried out are refused. -/
def Obligations.SelfTestsRunAndDecide : Prop :=
  (∀ (s : State), s.Canon → s.imageActive = true → s.bist.cycle = none → s.healthy 0 = true → s.suspect 0 = false →
    s.unitOut 0 = false → s.skipsTest 0 = false →
    (0 < s.f F.BIST_CFG_PERIOD → s.elapsed s.bist.cycleEnd (s.f F.BIST_CFG_PERIOD * 3600 * 10 ^ 9) = true →
      Nexts (exec .bistPeriod s) fun t => t.unitDraining 0 = true ∧ t.bist.cycle = some ((bistOrder.filter s.healthy).drop 1) ∧
        t.f F.BIST_STATUS_PHASE = (match s.bist.runs with | r :: _ => r.why | [] => 2) % 8) ∧
    Nexts (exec .runNow s) fun t => t.unitDraining 0 = true ∧ t.bist.cycle = some ((bistOrder.filter s.healthy).drop 1) ∧
      t.f F.BIST_CTRL_RESULT = 0) ∧
  (∀ (s : State), s.Canon → (s.bist.cycle.isSome = true ∨ s.imageActive = false) →
    Nexts (exec .runNow s) fun t => t.bist = s.bist ∧ t.f F.BIST_CTRL_RESULT = Status.refusedBusy.code) ∧
  (∀ (s : State) (n : Nat) (r : BistRun), s.Canon → n < 8 → (s.bist.runs.find? fun r => r.started.isNone) = some r → r.sector = n →
    if s.mayTest then Nexts (exec (.bistStart n) s) fun t => t.bist.lastStart = some s.now ∧ t.bit F.BIST_STATUS_TESTING n = true ∧
      (t.bist.runs.any fun r => decide (r.sector = n) && decide (r.started = some s.now)) = true
    else Nexts (exec (.bistStart n) s) fun t => t.bist = s.bist ∧
      t.f F.BIST_STATUS_ONE_AT_A_TIME = b2n (decide (s.f F.PWR_VIN_MV < 42200))) ∧
  (∀ (s : State) (n : Nat) (misr boot : Word) (sram hbm : Bool) (r : BistRun), s.Canon → n < 8 →
    (s.bist.runs.find? fun r => decide (r.sector = n) && r.started.isSome) = some r → s.elapsed (r.started.getD 0) (bistNs r.set) = true →
    r.patch = false → s.bist.retireAfter.contains n = false →
    (r.why = 1 → r.set = 0 → Nexts (exec (.bistEnd n misr boot sram hbm) s) fun t =>
      t.f F.BIST_SECn_MISR_MISR n = misr.toNat ∧ Counted F.BIST_RUNS_COUNT 0 1 s t ∧ t.f F.BIST_SECn_LAST_SRAM_FAIL n = b2n sram ∧
      if misr = boot ∧ sram = false ∧ hbm = false then t.healthy n = true ∧ t.bit F.BIST_STATUS_UNUSABLE n = false ∧
        t.f F.BIST_SECn_LAST_RESULT n = 0
      else t.secState n = secUnusable ∧ t.bit F.BIST_STATUS_UNUSABLE n = true ∧ Counted F.BIST_FAILS_COUNT 0 1 s t ∧
        t.f F.BIST_SECn_LAST_RESULT n = Status.failedChecksum.code ∧ t.f F.BIST_EVENTS_FAILED = 1) ∧
    (r.why = 4 → s.expectedSig r boot = some misr.toNat → Nexts (exec (.bistEnd n misr boot false false) s) fun t =>
      t.bit F.BIST_STATUS_RETIRED n = false ∧ t.secState n = secTwilight ∧ t.f F.BIST_EVENTS_UNRETIRED = 1 ∧ t.f F.BIST_CTRL_RESULT = 0)) ∧
  (∀ (s : State) (n : Nat), s.Canon → n < 8 →
    if s.bit F.BIST_STATUS_RETIRED n = true ∧ s.testing n = false then
      Nexts (exec (.unretire n) s) fun t => t.f F.BIST_CTRL_RESULT = 0 ∧
        ∃ r, t.bist.runs = s.bist.runs ++ [r] ∧ r.sector = n ∧ r.set = 2 ∧ r.started = none
    else Nexts (exec (.unretire n) s) fun t => t.f F.BIST_CTRL_RESULT = Status.refusedBusy.code ∧ t.bist = s.bist)

/-- Power, temperature and the reference clock (R727, R730, R736, R738, R746, R747). A change of the input shows and warns, and out of range
for 20 µs turns the gateway off; a current above the limit caps the array until it has stayed low for 100 µs; a die's report shows, alerts,
caps or turns off as its thresholds say; a lost REFCLK is held, then free-running, and the relocked PLL ends both; an unlocked PLL shows. -/
def Obligations.PowerHeatAndClocksActAsReported : Prop :=
  (∀ (s : State) (mv : Nat), s.Canon → mv < 2 ^ 16 → Nexts (exec (.vinChange mv) s) fun t => t.f F.PWR_VIN_MV = mv ∧
    t.f F.PWR_STATUS_ONE_SECTOR = b2n (decide (mv < 42200)) ∧ (38000 ≤ mv → mv ≤ 62000 → t.pwr.outAt = none) ∧
    (mv < 38000 ∨ 62000 < mv → t.pwr.outAt = some (s.pwr.outAt.getD s.now)) ∧
    (s.asleep = false → 40000 ≤ s.f F.PWR_VIN_MV → 38000 ≤ mv → mv < 40000 → t.f F.PWR_EVENTS_UV_WARN = 1 ∧
      t.f F.PWR_STATUS_VIN_STATE = 1 ∧ t.f F.PWR_STATUS_CURRENT_CAP = 1) ∧
    (s.asleep = false → s.f F.PWR_VIN_MV ≤ 60000 → 60000 < mv → mv ≤ 62000 → t.f F.PWR_EVENTS_OV_WARN = 1 ∧ t.f F.PWR_STATUS_VIN_STATE = 2)) ∧
  (∀ (s : State) (since : Nat), s.Canon → s.pwr.outAt = some since → s.pwr.off = false → s.elapsed since 20000 = true →
    Nexts (exec .powerOff s) fun t => t.pwr.off = true ∧ t.f F.PWR_LAST_OFF_CAUSE = (if s.f F.PWR_VIN_MV < 38000 then 1 else 2) ∧
      t.seq = State.reset.seq ∧ t.sec.owners = s.sec.owners ∧ t.img.area = s.img.area) ∧
  (∀ (s : State) (ma : Nat), s.Canon → s.asleep = false → ma < 2 ^ 16 →
    Nexts (exec (.currentSample ma) s) fun t => t.f F.PWR_VIN_MA = ma ∧ t.f F.PWR_PEAK_MA = max (s.f F.PWR_PEAK_MA) ma ∧
      (s.ampsLimit < ma → t.f F.PWR_STATUS_CURRENT_CAP = 1 ∧ (s.f F.PWR_STATUS_CURRENT_CAP = 0 → t.f F.PWR_EVENTS_CURRENT_CAP = 1))) ∧
  (∀ (s : State) (since : Nat), s.Canon → s.pwr.calmAt = some since → s.f F.PWR_STATUS_CURRENT_CAP = 1 → s.elapsed since 100000 = true →
    s.coolFault = false → 40000 ≤ s.f F.PWR_VIN_MV →
    Nexts (exec .capLift s) fun t => t.f F.PWR_STATUS_CURRENT_CAP = 0 ∧ t.f F.PWR_STATUS_THERM_CAP = s.f F.PWR_STATUS_THERM_CAP) ∧
  (∀ (s : State) (d temp : Nat), s.Canon → d < 20 → s.asleep = false → temp < 2 ^ 16 →
    if atOrAbove d (signed16 temp) (s.f F.PWR_THERM_TRIP) then
      Nexts (exec (.thermalReport d temp) s) fun t => t.pwr.off = true ∧ t.f F.PWR_LAST_OFF_CAUSE = 3 ∧ t.f F.PWR_LAST_OFF_DIE = d
    else Nexts (exec (.thermalReport d temp) s) fun t => t.f F.PWR_TEMPd_NOW d = temp ∧ t.pwr.off = s.pwr.off ∧
      (atOrAbove d (signed16 temp) s.warnAt = true → t.f F.PWR_STATUS_THERM_ALERT = 1) ∧
      (atOrAbove d (signed16 temp) s.throttleAt = true → t.f F.PWR_STATUS_THERM_CAP = 1)) ∧
  (∀ (s : State), s.Canon → s.f F.CLK_STATUS_REF_OK = 1 → Nexts (exec .refclkLost s) fun t => t.f F.CLK_STATUS_REF_OK = 0 ∧
    t.f F.CLK_STATUS_ROOT_LOCK = 0 ∧ t.f F.CLK_STATUS_HOLD = 1 ∧ Counted F.PWR_REF_LOSSES_COUNT 0 1 s t ∧
    t.f F.PWR_EVENTS_REF_LOST = 1 ∧ t.pwr.refLostAt = some s.now) ∧
  (∀ (s : State) (since : Nat), s.Canon → s.pwr.refLostAt = some since →
    (s.f F.CLK_STATUS_HOLD = 1 → s.elapsed since 1000000 = true →
      Nexts (exec .refclkFreeRun s) fun t => t.f F.CLK_STATUS_HOLD = 0 ∧ t.f F.CLK_STATUS_FREE_RUN = 1) ∧
    Nexts (exec .refclkReturn s) (fun t => t.f F.CLK_STATUS_REF_OK = 1) ∧
    (s.f F.CLK_STATUS_REF_OK = 1 → Nexts (exec .pllRelocked s) fun t => t.f F.CLK_STATUS_HOLD = 0 ∧ t.f F.CLK_STATUS_FREE_RUN = 0 ∧
      t.f F.CLK_STATUS_ROOT_LOCK = 1 ∧ t.f F.CLK_STATUS_PHY_LOCK = 0xFF ∧ t.f F.PWR_EVENTS_REF_BACK = 1 ∧ t.pwr.refLostAt = none)) ∧
  (∀ (s : State), s.Canon → s.f F.CLK_STATUS_REF_OK = 1 →
    Nexts (exec (.pllUnlock 0) s) (fun t => t.f F.CLK_STATUS_ROOT_LOCK = 0 ∧ t.f F.PWR_EVENTS_PLL_UNLOCK = 1) ∧
    ∀ p, p < 8 → Nexts (exec (.pllUnlock (p + 1)) s) fun t => t.bit F.CLK_STATUS_PHY_LOCK p = false ∧ t.f F.PWR_EVENTS_PHY_UNLOCK = 1)
end

