-- ==== Sys2Proof/Laws/Table.lean ====
section
/-! SUPPORT. Laws of the sparse tables: what a read finds after a write, and that writes keep the canonical form. -/

-- One theorem at a time: elaborated side by side, the theorems of the package take a thread each while they wait.
set_option Elab.async false

namespace Sys2Proof.Machine

variable {α : Type}

/-- The first key of a table lies above a key. -/
def headAbove (k : Nat) (t : Tab α) : Prop := ∀ kv ∈ t.head?, k < kv.1

@[simp] theorem headAbove_nil (k : Nat) : headAbove k ([] : Tab α) := by simp [headAbove]

@[simp] theorem headAbove_cons (k : Nat) (kv : Nat × α) (t : Tab α) : headAbove k (kv :: t) ↔ k < kv.1 := by
  simp [headAbove]

theorem tabWf_cons [DecidableEq α] (d : Nat → α) (k : Nat) (v : α) (t : Tab α) :
    tabWf d ((k, v) :: t) = true ↔ v ≠ d k ∧ headAbove k t ∧ tabWf d t = true := by
  cases t with
  | nil => simp [tabWf]
  | cons kv t => simp [tabWf, and_assoc]

theorem tabWf_tail [DecidableEq α] {d : Nat → α} {kv : Nat × α} {t : Tab α} (h : tabWf d (kv :: t) = true) :
    tabWf d t = true := ((tabWf_cons d kv.1 kv.2 t).1 h).2.2

/-- In canonical form every key of the tail lies above the head's. -/
theorem tabWf_above [DecidableEq α] {d : Nat → α} {k : Nat} {v : α} {t : Tab α} (h : tabWf d ((k, v) :: t) = true) :
    ∀ kv ∈ t, k < kv.1 := by
  induction t generalizing k v with
  | nil => simp
  | cons x t ih =>
    obtain ⟨x1, x2⟩ := x
    rw [tabWf_cons] at h
    have hk : k < x1 := by simpa using h.2.1
    intro kv hkv
    rcases List.mem_cons.1 hkv with rfl | hkv
    · exact hk
    · exact Nat.lt_trans hk (ih h.2.2 kv hkv)

theorem tfind_none_of_above {k : Nat} {t : Tab α} (h : ∀ kv ∈ t, k < kv.1) : tfind k t = none := by
  induction t with
  | nil => rfl
  | cons x t ih =>
    obtain ⟨x1, x2⟩ := x
    have hx : k < x1 := h (x1, x2) (by simp)
    rw [tfind, if_neg (by omega)]
    exact ih fun kv hkv => h kv (by simp [hkv])

theorem headAbove_tput {j k : Nat} {v : α} {t : Tab α} (hj : j < k) (ht : headAbove j t) : headAbove j (tput k v t) := by
  cases t with
  | nil => simpa [tput] using hj
  | cons x t =>
    obtain ⟨x1, x2⟩ := x
    have hx : j < x1 := by simpa using ht
    simp only [tput]
    split
    · simpa using hj
    · split <;> simp [*]

theorem tabWf_tput [DecidableEq α] {d : Nat → α} {k : Nat} {v : α} (hv : v ≠ d k) :
    ∀ {t : Tab α}, tabWf d t = true → tabWf d (tput k v t) = true
  | [], _ => by simpa [tput, tabWf] using hv
  | (x1, x2) :: t, h => by
    have h' := (tabWf_cons d x1 x2 t).1 h
    simp only [tput]
    split
    · exact (tabWf_cons _ _ _ _).2 ⟨hv, by simpa, h⟩
    · split
      · rename_i h2
        subst h2
        exact (tabWf_cons _ _ _ _).2 ⟨hv, h'.2.1, h'.2.2⟩
      · exact (tabWf_cons _ _ _ _).2 ⟨h'.1, headAbove_tput (by omega) h'.2.1, tabWf_tput hv h'.2.2⟩

theorem headAbove_tdel [DecidableEq α] {d : Nat → α} {j k : Nat} :
    ∀ {t : Tab α}, tabWf d t = true → headAbove j t → headAbove j (tdel k t)
  | [], _, _ => by simp [tdel]
  | (x1, x2) :: t, h, ht => by
    have hx : j < x1 := by simpa using ht
    have h' := (tabWf_cons d x1 x2 t).1 h
    simp only [tdel]
    split
    · refine headAbove_tdel h'.2.2 ?_
      intro kv hkv
      exact Nat.lt_trans hx (tabWf_above h kv (List.mem_of_mem_head? hkv))
    · simpa using hx

theorem tabWf_tdel [DecidableEq α] {d : Nat → α} {k : Nat} : ∀ {t : Tab α}, tabWf d t = true → tabWf d (tdel k t) = true
  | [], _ => rfl
  | (x1, x2) :: t, h => by
    have h' := (tabWf_cons d x1 x2 t).1 h
    simp only [tdel]
    split
    · exact tabWf_tdel h'.2.2
    · exact (tabWf_cons _ _ _ _).2 ⟨h'.1, headAbove_tdel h'.2.2 h'.2.1, tabWf_tdel h'.2.2⟩

/-- A write keeps the canonical form. -/
theorem tabWf_tset [DecidableEq α] {d : Nat → α} {k : Nat} {v : α} {t : Tab α} (h : tabWf d t = true) :
    tabWf d (tset d t k v) = true := by
  unfold tset
  split
  · exact tabWf_tdel h
  · exact tabWf_tput ‹_› h

theorem tabWf_tsetAll [DecidableEq α] {d : Nat → α} (kvs : List (Nat × α)) {t : Tab α} (h : tabWf d t = true) :
    tabWf d (tsetAll d t kvs) = true := by
  unfold tsetAll
  induction kvs generalizing t with
  | nil => exact h
  | cons kv kvs ih => exact ih (tabWf_tset h)

theorem tabWf_filter [DecidableEq α] {d : Nat → α} (p : Nat × α → Bool) :
    ∀ {t : Tab α}, tabWf d t = true → tabWf d (t.filter p) = true
  | [], _ => rfl
  | (x1, x2) :: t, h => by
    have h' := (tabWf_cons d x1 x2 t).1 h
    rw [List.filter_cons]
    split
    · refine (tabWf_cons _ _ _ _).2 ⟨h'.1, ?_, tabWf_filter p h'.2.2⟩
      intro kv hkv
      exact tabWf_above h kv (List.mem_of_mem_filter (List.mem_of_mem_head? hkv))
    · exact tabWf_filter p h'.2.2

theorem tfind_tput (k j : Nat) (v : α) : ∀ t : Tab α, tfind j (tput k v t) = if j = k then some v else tfind j t
  | [] => by
    simp only [tput, tfind]
    by_cases h : k = j <;> simp [h, eq_comm]
  | (x1, x2) :: t => by
    simp only [tput]
    split
    · simp only [tfind]
      by_cases h : k = j <;> simp [h, eq_comm]
    · split
      · rename_i h1 h2
        subst h2
        simp only [tfind]
        by_cases h : k = j <;> simp [h, eq_comm]
      · simp only [tfind, tfind_tput k j v t]
        by_cases h : x1 = j
        · subst h
          rw [if_pos rfl, if_neg (by omega), if_pos rfl]
        · simp [h]

theorem tfind_tdel (k j : Nat) : ∀ t : Tab α, tfind j (tdel k t) = if j = k then none else tfind j t
  | [] => by simp [tdel, tfind]
  | (x1, x2) :: t => by
    simp only [tdel]
    by_cases hx : x1 = k
    · subst hx
      rw [if_pos rfl, tfind_tdel x1 j t]
      by_cases hj : j = x1
      · simp [hj]
      · simp [tfind, hj, Ne.symm hj]
    · rw [if_neg hx]
      simp only [tfind, tfind_tdel k j t]
      by_cases hj : x1 = j
      · subst hj
        simp [hx]
      · simp [hj]

theorem tfind_filter_of {p : Nat × α → Bool} {j : Nat} (hp : ∀ v, p (j, v) = true) :
    ∀ {t : Tab α}, tfind j (t.filter p) = tfind j t
  | [] => rfl
  | (x1, x2) :: t => by
    rw [List.filter_cons]
    by_cases hx : x1 = j
    · subst hx
      simp [hp x2, tfind]
    · split <;> simp [tfind, hx, tfind_filter_of hp]

/-- What a table reads at a key after a write. -/
theorem tget_tset [DecidableEq α] {d : Nat → α} {t : Tab α} (h : tabWf d t = true) (k j : Nat) (v : α) :
    tget d (tset d t k v) j = if j = k then v else tget d t j := by
  unfold tget tset
  split
  · rename_i hv
    rw [tfind_tdel k j t]
    split <;> simp_all
  · rw [tfind_tput]
    split <;> simp

theorem tget_tset_same [DecidableEq α] {d : Nat → α} {t : Tab α} (h : tabWf d t = true) (k : Nat) (v : α) :
    tget d (tset d t k v) k = v := by simp [tget_tset h]

theorem tget_tset_ne [DecidableEq α] {d : Nat → α} {t : Tab α} (h : tabWf d t = true) {k j : Nat} (hj : j ≠ k) (v : α) :
    tget d (tset d t k v) j = tget d t j := by simp [tget_tset h, hj]

end Sys2Proof.Machine
end

