-- ==== Sys2Proof/Laws/Regs.lean ====
section
/-! SUPPORT. Laws of the register file: what a field reads after a field is written. -/

-- One theorem at a time: elaborated side by side, the theorems of the package take a thread each while they wait.
set_option Elab.async false

namespace Sys2Proof.Machine

theorem putBits_eq (n lo w v : Nat) :
    putBits n lo w v = 2 ^ lo * (2 ^ w * (n / 2 ^ (lo + w)) + v % 2 ^ w) + n % 2 ^ lo := by
  unfold putBits
  rw [Nat.pow_add]
  ring

theorem testBit_putBits (n lo w v i : Nat) :
    (putBits n lo w v).testBit i = if i < lo then n.testBit i else if i < lo + w then v.testBit (i - lo) else n.testBit i := by
  rw [putBits_eq, Nat.testBit_two_pow_mul_add _ (Nat.mod_lt _ (Nat.two_pow_pos _))]
  split
  · rename_i h
    simp [Nat.testBit_mod_two_pow, h]
  · rename_i h
    rw [Nat.testBit_two_pow_mul_add _ (Nat.mod_lt _ (Nat.two_pow_pos _))]
    by_cases h2 : i < lo + w
    · have : i - lo < w := by omega
      simp [h2, this, Nat.testBit_mod_two_pow]
    · have : ¬ i - lo < w := by omega
      have e : i - lo - w + (lo + w) = i := by omega
      simp [h2, this, Nat.testBit_div_two_pow, e]

theorem field_putBits_same (n lo w v : Nat) : putBits n lo w v / 2 ^ lo % 2 ^ w = v % 2 ^ w := by
  apply Nat.eq_of_testBit_eq
  intro i
  simp only [Nat.testBit_mod_two_pow, Nat.testBit_div_two_pow, testBit_putBits]
  by_cases h : i < w
  · have h1 : ¬ i + lo < lo := by omega
    have h2 : i + lo < lo + w := by omega
    simp [h, h1, h2]
  · simp [h]

theorem field_putBits_ne (n lo w v lo' w' : Nat) (h : lo' + w' ≤ lo ∨ lo + w ≤ lo') :
    putBits n lo w v / 2 ^ lo' % 2 ^ w' = n / 2 ^ lo' % 2 ^ w' := by
  apply Nat.eq_of_testBit_eq
  intro i
  simp only [Nat.testBit_mod_two_pow, Nat.testBit_div_two_pow, testBit_putBits]
  by_cases hi : i < w'
  · have h1 : i + lo' < lo ∨ lo + w ≤ i + lo' := by omega
    rcases h1 with h1 | h1
    · simp [h1]
    · have h2 : ¬ i + lo' < lo := by omega
      have h3 : ¬ i + lo' < lo + w := by omega
      simp [h2, h3]
  · simp [hi]

theorem putBits_lt (n lo w v : Nat) (hn : n < 2 ^ 64) (h : lo + w ≤ 64) : putBits n lo w v < 2 ^ 64 := by
  apply Nat.lt_pow_two_of_testBit
  intro i hi
  rw [testBit_putBits, if_neg (by omega), if_neg (by omega)]
  exact Nat.testBit_eq_false_of_lt (Nat.lt_of_lt_of_le hn (Nat.pow_le_pow_right (by decide) hi))

theorem regFld_regSetFld_same {t : Tab Word} (ht : tabWf resetWord t = true) (x : Fld) (k v : Nat) (hk : x.has k = true)
    (hx : x.lo + x.w ≤ 64) : regFld (regSetFld t x k v) x k = v % 2 ^ x.w := by
  unfold regFld regSetFld regGet
  rw [if_pos hk, tget_tset_same ht, BitVec.toNat_ofNat, Nat.mod_eq_of_lt (putBits_lt _ _ _ _ (BitVec.isLt _) hx),
    field_putBits_same]

theorem regFld_regSetFld_ne {t : Tab Word} (ht : tabWf resetWord t = true) (x y : Fld) (k j v : Nat) (hx : x.lo + x.w ≤ 64)
    (h : y.addr j ≠ x.addr k ∨ y.lo + y.w ≤ x.lo ∨ x.lo + x.w ≤ y.lo) :
    regFld (regSetFld t x k v) y j = regFld t y j := by
  unfold regSetFld
  split
  · unfold regFld regGet
    by_cases ha : y.addr j = x.addr k
    · have h2 := h.resolve_left (fun h => h ha)
      rw [ha, tget_tset_same ht, BitVec.toNat_ofNat, Nat.mod_eq_of_lt (putBits_lt _ _ _ _ (BitVec.isLt _) hx),
        field_putBits_ne _ _ _ _ _ _ h2]
    · rw [tget_tset_ne ht ha]
  · rfl

theorem tabWf_regSetFld {t : Tab Word} (ht : tabWf resetWord t = true) (x : Fld) (k v : Nat) :
    tabWf resetWord (regSetFld t x k v) = true := by
  unfold regSetFld
  split
  · exact tabWf_tset ht
  · exact ht

/-- A field reads what was written to it, cut to its width. -/
theorem State.f_setf_same {s : State} (h : s.Canon) (x : Fld) (v k : Nat) (hk : x.has k = true := by decide)
    (hx : x.lo + x.w ≤ 64 := by decide) : (s.setf x v k).f x k = v % 2 ^ x.w := regFld_regSetFld_same h.1 x k v hk hx

/-- Another field, or the field of another instance, is not changed. -/
theorem State.f_setf_ne {s : State} (h : s.Canon) (x y : Fld) (v k j : Nat) (hx : x.lo + x.w ≤ 64)
    (hy : y.addr j ≠ x.addr k ∨ y.lo + y.w ≤ x.lo ∨ x.lo + x.w ≤ y.lo) : (s.setf x v k).f y j = s.f y j :=
  regFld_regSetFld_ne h.1 x y k j v hx hy

theorem State.f_lt (s : State) (x : Fld) (k : Nat) : s.f x k < 2 ^ x.w := Nat.mod_lt _ (Nat.two_pow_pos _)

theorem State.canon_setf {s : State} (h : s.Canon) (x : Fld) (v k : Nat) : (s.setf x v k).Canon := ⟨tabWf_regSetFld h.1 x k v, h.2⟩

theorem State.canon_setWord {s : State} (h : s.Canon) (a : Nat) (v : Word) : (s.setWord a v).Canon := ⟨tabWf_tset h.1, h.2⟩

theorem State.word_setWord {s : State} (h : s.Canon) (a b : Nat) (v : Word) :
    (s.setWord a v).word b = if b = a then v else s.word b := tget_tset h.1 a b v

end Sys2Proof.Machine
end

