-- ==== Sys2Proof/Laws/Only.lean ====
section
/-! SUPPORT. What an operation leaves as it is, in one relation: the canonical forms are kept, and the registers and
parts of the state outside two masks are unchanged. One lemma per operation is stated with it. -/

-- One theorem at a time: elaborated side by side, the theorems of the package take a thread each while they wait.
set_option Elab.async false

set_option maxRecDepth 4000

namespace Sys2Proof.Machine

/-- The number of the register whose first instance lies at an address: registers are numbered from 0 in the order of their
addresses. -/
def regNo (a : Nat) : Nat :=
  bif Nat.ble 0x900010 a then (bif Nat.ble 0xE00208 a then (bif Nat.ble 0x1100060 a then (bif Nat.ble 0x1300038 a
    then (bif Nat.ble 0x1400010 a then (bif Nat.ble 0x1400040 a then (bif Nat.ble 0x1400100 a then (bif Nat.ble
    0x1400200 a then (bif Nat.ble 0x1400208 a then 367 else 366) else 365) else (bif Nat.ble 0x1400048 a then (bif
    Nat.ble 0x1400050 a then 364 else 363) else 362)) else (bif Nat.ble 0x1400028 a then (bif Nat.ble 0x1400030 a
    then (bif Nat.ble 0x1400038 a then 361 else 360) else 359) else (bif Nat.ble 0x1400018 a then (bif Nat.ble
    0x1400020 a then 358 else 357) else 356))) else (bif Nat.ble 0x1300060 a then (bif Nat.ble 0x1301008 a then (bif
    Nat.ble 0x1400000 a then (bif Nat.ble 0x1400008 a then 355 else 354) else 353) else (bif Nat.ble 0x1300068 a then
    (bif Nat.ble 0x1301000 a then 352 else 351) else 350)) else (bif Nat.ble 0x1300048 a then (bif Nat.ble 0x1300050
    a then (bif Nat.ble 0x1300058 a then 349 else 348) else 347) else (bif Nat.ble 0x1300040 a then 346 else 345))))
    else (bif Nat.ble 0x1200038 a then (bif Nat.ble 0x1300008 a then (bif Nat.ble 0x1300020 a then (bif Nat.ble
    0x1300028 a then (bif Nat.ble 0x1300030 a then 344 else 343) else 342) else (bif Nat.ble 0x1300010 a then (bif
    Nat.ble 0x1300018 a then 341 else 340) else 339)) else (bif Nat.ble 0x1204000 a then (bif Nat.ble 0x1208000 a
    then (bif Nat.ble 0x1300000 a then 338 else 337) else 336) else (bif Nat.ble 0x1200040 a then (bif Nat.ble
    0x1201000 a then 335 else 334) else 333))) else (bif Nat.ble 0x1200008 a then (bif Nat.ble 0x1200020 a then (bif
    Nat.ble 0x1200028 a then (bif Nat.ble 0x1200030 a then 332 else 331) else 330) else (bif Nat.ble 0x1200010 a then
    (bif Nat.ble 0x1200018 a then 329 else 328) else 327)) else (bif Nat.ble 0x1100070 a then (bif Nat.ble 0x1100078
    a then (bif Nat.ble 0x1200000 a then 326 else 325) else 324) else (bif Nat.ble 0x1100068 a then 323 else 322)))))
    else (bif Nat.ble 0xF08210 a then (bif Nat.ble 0x1000040 a then (bif Nat.ble 0x1100030 a then (bif Nat.ble
    0x1100048 a then (bif Nat.ble 0x1100050 a then (bif Nat.ble 0x1100058 a then 321 else 320) else 319) else (bif
    Nat.ble 0x1100038 a then (bif Nat.ble 0x1100040 a then 318 else 317) else 316)) else (bif Nat.ble 0x1100000 a
    then (bif Nat.ble 0x1100008 a then (bif Nat.ble 0x1100010 a then 315 else 314) else 313) else (bif Nat.ble
    0x1000048 a then (bif Nat.ble 0x1000100 a then 312 else 311) else 310))) else (bif Nat.ble 0x1000010 a then (bif
    Nat.ble 0x1000028 a then (bif Nat.ble 0x1000030 a then (bif Nat.ble 0x1000038 a then 309 else 308) else 307) else
    (bif Nat.ble 0x1000018 a then (bif Nat.ble 0x1000020 a then 306 else 305) else 304)) else (bif Nat.ble 0xF09000 a
    then (bif Nat.ble 0x1000000 a then (bif Nat.ble 0x1000008 a then 303 else 302) else 301) else (bif Nat.ble
    0xF08218 a then 300 else 299)))) else (bif Nat.ble 0xF00040 a then (bif Nat.ble 0xF00070 a then (bif Nat.ble
    0xF08100 a then (bif Nat.ble 0xF08200 a then (bif Nat.ble 0xF08208 a then 298 else 297) else 296) else (bif
    Nat.ble 0xF00078 a then (bif Nat.ble 0xF08000 a then 295 else 294) else 293)) else (bif Nat.ble 0xF00058 a then
    (bif Nat.ble 0xF00060 a then (bif Nat.ble 0xF00068 a then 292 else 291) else 290) else (bif Nat.ble 0xF00048 a
    then (bif Nat.ble 0xF00050 a then 289 else 288) else 287))) else (bif Nat.ble 0xF00010 a then (bif Nat.ble
    0xF00028 a then (bif Nat.ble 0xF00030 a then (bif Nat.ble 0xF00038 a then 286 else 285) else 284) else (bif
    Nat.ble 0xF00018 a then (bif Nat.ble 0xF00020 a then 283 else 282) else 281)) else (bif Nat.ble 0xE00308 a then
    (bif Nat.ble 0xF00000 a then (bif Nat.ble 0xF00008 a then 280 else 279) else 278) else (bif Nat.ble 0xE00300 a
    then 277 else 276)))))) else (bif Nat.ble 0xC00010 a then (bif Nat.ble 0xD01010 a then (bif Nat.ble 0xE00018 a
    then (bif Nat.ble 0xE00048 a then (bif Nat.ble 0xE00108 a then (bif Nat.ble 0xE00110 a then (bif Nat.ble 0xE00200
    a then 275 else 274) else 273) else (bif Nat.ble 0xE00050 a then (bif Nat.ble 0xE00100 a then 272 else 271) else
    270)) else (bif Nat.ble 0xE00030 a then (bif Nat.ble 0xE00038 a then (bif Nat.ble 0xE00040 a then 269 else 268)
    else 267) else (bif Nat.ble 0xE00020 a then (bif Nat.ble 0xE00028 a then 266 else 265) else 264))) else (bif
    Nat.ble 0xD02018 a then (bif Nat.ble 0xE00000 a then (bif Nat.ble 0xE00008 a then (bif Nat.ble 0xE00010 a then
    263 else 262) else 261) else (bif Nat.ble 0xD02020 a then (bif Nat.ble 0xD02028 a then 260 else 259) else 258))
    else (bif Nat.ble 0xD02000 a then (bif Nat.ble 0xD02008 a then (bif Nat.ble 0xD02010 a then 257 else 256) else
    255) else (bif Nat.ble 0xD01018 a then 254 else 253)))) else (bif Nat.ble 0xC00098 a then (bif Nat.ble 0xC000C8 a
    then (bif Nat.ble 0xD00010 a then (bif Nat.ble 0xD01000 a then (bif Nat.ble 0xD01008 a then 252 else 251) else
    250) else (bif Nat.ble 0xD00000 a then (bif Nat.ble 0xD00008 a then 249 else 248) else 247)) else (bif Nat.ble
    0xC000B0 a then (bif Nat.ble 0xC000B8 a then (bif Nat.ble 0xC000C0 a then 246 else 245) else 244) else (bif
    Nat.ble 0xC000A0 a then (bif Nat.ble 0xC000A8 a then 243 else 242) else 241))) else (bif Nat.ble 0xC00068 a then
    (bif Nat.ble 0xC00080 a then (bif Nat.ble 0xC00088 a then (bif Nat.ble 0xC00090 a then 240 else 239) else 238)
    else (bif Nat.ble 0xC00070 a then (bif Nat.ble 0xC00078 a then 237 else 236) else 235)) else (bif Nat.ble
    0xC00020 a then (bif Nat.ble 0xC00028 a then (bif Nat.ble 0xC00048 a then 234 else 233) else 232) else (bif
    Nat.ble 0xC00018 a then 231 else 230))))) else (bif Nat.ble 0xA00038 a then (bif Nat.ble 0xB00010 a then (bif
    Nat.ble 0xB00040 a then (bif Nat.ble 0xB01010 a then (bif Nat.ble 0xC00000 a then (bif Nat.ble 0xC00008 a then
    229 else 228) else 227) else (bif Nat.ble 0xB01000 a then (bif Nat.ble 0xB01008 a then 226 else 225) else 224))
    else (bif Nat.ble 0xB00028 a then (bif Nat.ble 0xB00030 a then (bif Nat.ble 0xB00038 a then 223 else 222) else
    221) else (bif Nat.ble 0xB00018 a then (bif Nat.ble 0xB00020 a then 220 else 219) else 218))) else (bif Nat.ble
    0xA00060 a then (bif Nat.ble 0xA00078 a then (bif Nat.ble 0xB00000 a then (bif Nat.ble 0xB00008 a then 217 else
    216) else 215) else (bif Nat.ble 0xA00068 a then (bif Nat.ble 0xA00070 a then 214 else 213) else 212)) else (bif
    Nat.ble 0xA00048 a then (bif Nat.ble 0xA00050 a then (bif Nat.ble 0xA00058 a then 211 else 210) else 209) else
    (bif Nat.ble 0xA00040 a then 208 else 207)))) else (bif Nat.ble 0x900400 a then (bif Nat.ble 0xA00008 a then (bif
    Nat.ble 0xA00020 a then (bif Nat.ble 0xA00028 a then (bif Nat.ble 0xA00030 a then 206 else 205) else 204) else
    (bif Nat.ble 0xA00010 a then (bif Nat.ble 0xA00018 a then 203 else 202) else 201)) else (bif Nat.ble 0x901008 a
    then (bif Nat.ble 0x910000 a then (bif Nat.ble 0xA00000 a then 200 else 199) else 198) else (bif Nat.ble 0x900408
    a then (bif Nat.ble 0x901000 a then 197 else 196) else 195))) else (bif Nat.ble 0x900038 a then (bif Nat.ble
    0x900050 a then (bif Nat.ble 0x900058 a then (bif Nat.ble 0x900060 a then 194 else 193) else 192) else (bif
    Nat.ble 0x900040 a then (bif Nat.ble 0x900048 a then 191 else 190) else 189)) else (bif Nat.ble 0x900020 a then
    (bif Nat.ble 0x900028 a then (bif Nat.ble 0x900030 a then 188 else 187) else 186) else (bif Nat.ble 0x900018 a
    then 185 else 184))))))) else (bif Nat.ble 0x580018 a then (bif Nat.ble 0x604060 a then (bif Nat.ble 0x701138 a
    then (bif Nat.ble 0x800048 a then (bif Nat.ble 0x800100 a then (bif Nat.ble 0x801010 a then (bif Nat.ble 0x900000
    a then (bif Nat.ble 0x900008 a then 183 else 182) else 181) else (bif Nat.ble 0x801000 a then (bif Nat.ble
    0x801008 a then 180 else 179) else 178)) else (bif Nat.ble 0x800060 a then (bif Nat.ble 0x800068 a then (bif
    Nat.ble 0x800070 a then 177 else 176) else 175) else (bif Nat.ble 0x800050 a then (bif Nat.ble 0x800058 a then
    174 else 173) else 172))) else (bif Nat.ble 0x800018 a then (bif Nat.ble 0x800030 a then (bif Nat.ble 0x800038 a
    then (bif Nat.ble 0x800040 a then 171 else 170) else 169) else (bif Nat.ble 0x800020 a then (bif Nat.ble 0x800028
    a then 168 else 167) else 166)) else (bif Nat.ble 0x800000 a then (bif Nat.ble 0x800008 a then (bif Nat.ble
    0x800010 a then 165 else 164) else 163) else (bif Nat.ble 0x701140 a then 162 else 161)))) else (bif Nat.ble
    0x701018 a then (bif Nat.ble 0x701108 a then (bif Nat.ble 0x701120 a then (bif Nat.ble 0x701128 a then (bif
    Nat.ble 0x701130 a then 160 else 159) else 158) else (bif Nat.ble 0x701110 a then (bif Nat.ble 0x701118 a then
    157 else 156) else 155)) else (bif Nat.ble 0x701080 a then (bif Nat.ble 0x7010C0 a then (bif Nat.ble 0x701100 a
    then 154 else 153) else 152) else (bif Nat.ble 0x701020 a then (bif Nat.ble 0x701040 a then 151 else 150) else
    149))) else (bif Nat.ble 0x700010 a then (bif Nat.ble 0x701000 a then (bif Nat.ble 0x701008 a then (bif Nat.ble
    0x701010 a then 148 else 147) else 146) else (bif Nat.ble 0x700030 a then (bif Nat.ble 0x700038 a then 145 else
    144) else 143)) else (bif Nat.ble 0x604070 a then (bif Nat.ble 0x700000 a then (bif Nat.ble 0x700008 a then 142
    else 141) else 140) else (bif Nat.ble 0x604068 a then 139 else 138))))) else (bif Nat.ble 0x601050 a then (bif
    Nat.ble 0x604000 a then (bif Nat.ble 0x604030 a then (bif Nat.ble 0x604048 a then (bif Nat.ble 0x604050 a then
    (bif Nat.ble 0x604058 a then 137 else 136) else 135) else (bif Nat.ble 0x604038 a then (bif Nat.ble 0x604040 a
    then 134 else 133) else 132)) else (bif Nat.ble 0x604018 a then (bif Nat.ble 0x604020 a then (bif Nat.ble
    0x604028 a then 131 else 130) else 129) else (bif Nat.ble 0x604008 a then (bif Nat.ble 0x604010 a then 128 else
    127) else 126))) else (bif Nat.ble 0x601078 a then (bif Nat.ble 0x601090 a then (bif Nat.ble 0x601098 a then (bif
    Nat.ble 0x6010A0 a then 125 else 124) else 123) else (bif Nat.ble 0x601080 a then (bif Nat.ble 0x601088 a then
    122 else 121) else 120)) else (bif Nat.ble 0x601060 a then (bif Nat.ble 0x601068 a then (bif Nat.ble 0x601070 a
    then 119 else 118) else 117) else (bif Nat.ble 0x601058 a then 116 else 115)))) else (bif Nat.ble 0x600050 a then
    (bif Nat.ble 0x601020 a then (bif Nat.ble 0x601038 a then (bif Nat.ble 0x601040 a then (bif Nat.ble 0x601048 a
    then 114 else 113) else 112) else (bif Nat.ble 0x601028 a then (bif Nat.ble 0x601030 a then 111 else 110) else
    109)) else (bif Nat.ble 0x601008 a then (bif Nat.ble 0x601010 a then (bif Nat.ble 0x601018 a then 108 else 107)
    else 106) else (bif Nat.ble 0x600058 a then (bif Nat.ble 0x601000 a then 105 else 104) else 103))) else (bif
    Nat.ble 0x600020 a then (bif Nat.ble 0x600038 a then (bif Nat.ble 0x600040 a then (bif Nat.ble 0x600048 a then
    102 else 101) else 100) else (bif Nat.ble 0x600028 a then (bif Nat.ble 0x600030 a then 99 else 98) else 97)) else
    (bif Nat.ble 0x600008 a then (bif Nat.ble 0x600010 a then (bif Nat.ble 0x600018 a then 96 else 95) else 94) else
    (bif Nat.ble 0x600000 a then 93 else 92)))))) else (bif Nat.ble 0x300028 a then (bif Nat.ble 0x400068 a then (bif
    Nat.ble 0x500030 a then (bif Nat.ble 0x500060 a then (bif Nat.ble 0x580000 a then (bif Nat.ble 0x580008 a then
    (bif Nat.ble 0x580010 a then 91 else 90) else 89) else (bif Nat.ble 0x500068 a then (bif Nat.ble 0x500070 a then
    88 else 87) else 86)) else (bif Nat.ble 0x500048 a then (bif Nat.ble 0x500050 a then (bif Nat.ble 0x500058 a then
    85 else 84) else 83) else (bif Nat.ble 0x500038 a then (bif Nat.ble 0x500040 a then 82 else 81) else 80))) else
    (bif Nat.ble 0x500000 a then (bif Nat.ble 0x500018 a then (bif Nat.ble 0x500020 a then (bif Nat.ble 0x500028 a
    then 79 else 78) else 77) else (bif Nat.ble 0x500008 a then (bif Nat.ble 0x500010 a then 76 else 75) else 74))
    else (bif Nat.ble 0x410000 a then (bif Nat.ble 0x430000 a then (bif Nat.ble 0x440000 a then 73 else 72) else 71)
    else (bif Nat.ble 0x400070 a then 70 else 69)))) else (bif Nat.ble 0x400008 a then (bif Nat.ble 0x400038 a then
    (bif Nat.ble 0x400050 a then (bif Nat.ble 0x400058 a then (bif Nat.ble 0x400060 a then 68 else 67) else 66) else
    (bif Nat.ble 0x400040 a then (bif Nat.ble 0x400048 a then 65 else 64) else 63)) else (bif Nat.ble 0x400020 a then
    (bif Nat.ble 0x400028 a then (bif Nat.ble 0x400030 a then 62 else 61) else 60) else (bif Nat.ble 0x400010 a then
    (bif Nat.ble 0x400018 a then 59 else 58) else 57))) else (bif Nat.ble 0x300050 a then (bif Nat.ble 0x300068 a
    then (bif Nat.ble 0x300070 a then (bif Nat.ble 0x400000 a then 56 else 55) else 54) else (bif Nat.ble 0x300058 a
    then (bif Nat.ble 0x300060 a then 53 else 52) else 51)) else (bif Nat.ble 0x300038 a then (bif Nat.ble 0x300040 a
    then (bif Nat.ble 0x300048 a then 50 else 49) else 48) else (bif Nat.ble 0x300030 a then 47 else 46))))) else
    (bif Nat.ble 0x130008 a then (bif Nat.ble 0x200040 a then (bif Nat.ble 0x201010 a then (bif Nat.ble 0x300010 a
    then (bif Nat.ble 0x300018 a then (bif Nat.ble 0x300020 a then 45 else 44) else 43) else (bif Nat.ble 0x300000 a
    then (bif Nat.ble 0x300008 a then 42 else 41) else 40)) else (bif Nat.ble 0x200058 a then (bif Nat.ble 0x201000 a
    then (bif Nat.ble 0x201008 a then 39 else 38) else 37) else (bif Nat.ble 0x200048 a then (bif Nat.ble 0x200050 a
    then 36 else 35) else 34))) else (bif Nat.ble 0x200010 a then (bif Nat.ble 0x200028 a then (bif Nat.ble 0x200030
    a then (bif Nat.ble 0x200038 a then 33 else 32) else 31) else (bif Nat.ble 0x200018 a then (bif Nat.ble 0x200020
    a then 30 else 29) else 28)) else (bif Nat.ble 0x140008 a then (bif Nat.ble 0x200000 a then (bif Nat.ble 0x200008
    a then 27 else 26) else 25) else (bif Nat.ble 0x140000 a then 24 else 23)))) else (bif Nat.ble 0x100038 a then
    (bif Nat.ble 0x101018 a then (bif Nat.ble 0x101030 a then (bif Nat.ble 0x120000 a then (bif Nat.ble 0x130000 a
    then 22 else 21) else 20) else (bif Nat.ble 0x101020 a then (bif Nat.ble 0x101028 a then 19 else 18) else 17))
    else (bif Nat.ble 0x101000 a then (bif Nat.ble 0x101008 a then (bif Nat.ble 0x101010 a then 16 else 15) else 14)
    else (bif Nat.ble 0x100040 a then (bif Nat.ble 0x100048 a then 13 else 12) else 11))) else (bif Nat.ble 0x100008
    a then (bif Nat.ble 0x100020 a then (bif Nat.ble 0x100028 a then (bif Nat.ble 0x100030 a then 10 else 9) else 8)
    else (bif Nat.ble 0x100010 a then (bif Nat.ble 0x100018 a then 7 else 6) else 5)) else (bif Nat.ble 0x10 a then
    (bif Nat.ble 0x18 a then (bif Nat.ble 0x20 a then 4 else 3) else 2) else (bif Nat.ble 0x8 a then 1 else 0)))))))

/-- Where the register of a number lies: address and repetition. -/
def regShape (i : Nat) : Reg :=
  bif Nat.ble 184 i then (bif Nat.ble 276 i then (bif Nat.ble 322 i then (bif Nat.ble 345 i then (bif Nat.ble 356 i
    then (bif Nat.ble 362 i then (bif Nat.ble 365 i then (bif Nat.ble 366 i then (bif Nat.ble 367 i then (⟨0x1400208,
    1, 8, 1, 8, 0, []⟩) else (⟨0x1400200, 1, 8, 1, 8, 0, []⟩)) else (⟨0x1400100, 20, 8, 1, 8, 0, []⟩)) else (bif
    Nat.ble 363 i then (bif Nat.ble 364 i then (⟨0x1400050, 1, 8, 1, 8, 0, []⟩) else (⟨0x1400048, 1, 8, 1, 8, 0,
    []⟩)) else (⟨0x1400040, 1, 8, 1, 8, 0, []⟩))) else (bif Nat.ble 359 i then (bif Nat.ble 360 i then (bif Nat.ble
    361 i then (⟨0x1400038, 1, 8, 1, 8, 0, []⟩) else (⟨0x1400030, 1, 8, 1, 8, 0, []⟩)) else (⟨0x1400028, 1, 8, 1, 8,
    0, []⟩)) else (bif Nat.ble 357 i then (bif Nat.ble 358 i then (⟨0x1400020, 1, 8, 1, 8, 0, []⟩) else (⟨0x1400018,
    1, 8, 1, 8, 0, []⟩)) else (⟨0x1400010, 1, 8, 1, 8, 0, []⟩)))) else (bif Nat.ble 350 i then (bif Nat.ble 353 i
    then (bif Nat.ble 354 i then (bif Nat.ble 355 i then (⟨0x1400008, 1, 8, 1, 8, 0, []⟩) else (⟨0x1400000, 1, 8, 1,
    8, 0, []⟩)) else (⟨0x1301008, 8, 64, 1, 8, 0, []⟩)) else (bif Nat.ble 351 i then (bif Nat.ble 352 i then
    (⟨0x1301000, 8, 64, 1, 8, 0, []⟩) else (⟨0x1300068, 1, 8, 1, 8, 0, []⟩)) else (⟨0x1300060, 1, 8, 1, 8, 0, []⟩)))
    else (bif Nat.ble 347 i then (bif Nat.ble 348 i then (bif Nat.ble 349 i then (⟨0x1300058, 1, 8, 1, 8, 0, []⟩)
    else (⟨0x1300050, 1, 8, 1, 8, 0, []⟩)) else (⟨0x1300048, 1, 8, 1, 8, 0, []⟩)) else (bif Nat.ble 346 i then
    (⟨0x1300040, 1, 8, 1, 8, 0, []⟩) else (⟨0x1300038, 1, 8, 1, 8, 0, []⟩))))) else (bif Nat.ble 333 i then (bif
    Nat.ble 339 i then (bif Nat.ble 342 i then (bif Nat.ble 343 i then (bif Nat.ble 344 i then (⟨0x1300030, 1, 8, 1,
    8, 0, []⟩) else (⟨0x1300028, 1, 8, 1, 8, 0, []⟩)) else (⟨0x1300020, 1, 8, 1, 8, 0, []⟩)) else (bif Nat.ble 340 i
    then (bif Nat.ble 341 i then (⟨0x1300018, 1, 8, 1, 8, 0, []⟩) else (⟨0x1300010, 1, 8, 1, 8, 0, []⟩)) else
    (⟨0x1300008, 1, 8, 1, 8, 0, []⟩))) else (bif Nat.ble 336 i then (bif Nat.ble 337 i then (bif Nat.ble 338 i then
    (⟨0x1300000, 1, 8, 1, 8, 0, []⟩) else (⟨0x1208000, 1024, 8, 1, 8, 0, []⟩)) else (⟨0x1204000, 2048, 8, 1, 8, 0,
    []⟩)) else (bif Nat.ble 334 i then (bif Nat.ble 335 i then (⟨0x1201000, 470, 8, 1, 8, 0, []⟩) else (⟨0x1200040,
    4, 8, 1, 8, 0, []⟩)) else (⟨0x1200038, 1, 8, 1, 8, 0, []⟩)))) else (bif Nat.ble 327 i then (bif Nat.ble 330 i
    then (bif Nat.ble 331 i then (bif Nat.ble 332 i then (⟨0x1200030, 1, 8, 1, 8, 0, []⟩) else (⟨0x1200028, 1, 8, 1,
    8, 0, []⟩)) else (⟨0x1200020, 1, 8, 1, 8, 0, []⟩)) else (bif Nat.ble 328 i then (bif Nat.ble 329 i then
    (⟨0x1200018, 1, 8, 1, 8, 0, []⟩) else (⟨0x1200010, 1, 8, 1, 8, 0, []⟩)) else (⟨0x1200008, 1, 8, 1, 8, 0, []⟩)))
    else (bif Nat.ble 324 i then (bif Nat.ble 325 i then (bif Nat.ble 326 i then (⟨0x1200000, 1, 8, 1, 8, 0, []⟩)
    else (⟨0x1100078, 1, 8, 1, 8, 0, []⟩)) else (⟨0x1100070, 1, 8, 1, 8, 0, []⟩)) else (bif Nat.ble 323 i then
    (⟨0x1100068, 1, 8, 1, 8, 0, []⟩) else (⟨0x1100060, 1, 8, 1, 8, 0, []⟩)))))) else (bif Nat.ble 299 i then (bif
    Nat.ble 310 i then (bif Nat.ble 316 i then (bif Nat.ble 319 i then (bif Nat.ble 320 i then (bif Nat.ble 321 i
    then (⟨0x1100058, 1, 8, 1, 8, 0, []⟩) else (⟨0x1100050, 1, 8, 1, 8, 0, []⟩)) else (⟨0x1100048, 1, 8, 1, 8, 0,
    []⟩)) else (bif Nat.ble 317 i then (bif Nat.ble 318 i then (⟨0x1100040, 1, 8, 1, 8, 0, []⟩) else (⟨0x1100038, 1,
    8, 1, 8, 0, []⟩)) else (⟨0x1100030, 1, 8, 1, 8, 0, []⟩))) else (bif Nat.ble 313 i then (bif Nat.ble 314 i then
    (bif Nat.ble 315 i then (⟨0x1100010, 4, 8, 1, 8, 0, []⟩) else (⟨0x1100008, 1, 8, 1, 8, 0, []⟩)) else (⟨0x1100000,
    1, 8, 1, 8, 0, []⟩)) else (bif Nat.ble 311 i then (bif Nat.ble 312 i then (⟨0x1000100, 8, 8, 1, 8, 0, []⟩) else
    (⟨0x1000048, 1, 8, 1, 8, 0, []⟩)) else (⟨0x1000040, 1, 8, 1, 8, 0, []⟩)))) else (bif Nat.ble 304 i then (bif
    Nat.ble 307 i then (bif Nat.ble 308 i then (bif Nat.ble 309 i then (⟨0x1000038, 1, 8, 1, 8, 0, []⟩) else
    (⟨0x1000030, 1, 8, 1, 8, 0, []⟩)) else (⟨0x1000028, 1, 8, 1, 8, 0, []⟩)) else (bif Nat.ble 305 i then (bif
    Nat.ble 306 i then (⟨0x1000020, 1, 8, 1, 8, 0, []⟩) else (⟨0x1000018, 1, 8, 1, 8, 0, []⟩)) else (⟨0x1000010, 1,
    8, 1, 8, 0, []⟩))) else (bif Nat.ble 301 i then (bif Nat.ble 302 i then (bif Nat.ble 303 i then (⟨0x1000008, 1,
    8, 1, 8, 0, []⟩) else (⟨0x1000000, 1, 8, 1, 8, 0, []⟩)) else (⟨0xF09000, 1024, 8, 1, 8, 0, []⟩)) else (bif
    Nat.ble 300 i then (⟨0xF08218, 8, 32, 1, 8, 0, []⟩) else (⟨0xF08210, 8, 32, 1, 8, 0, []⟩))))) else (bif Nat.ble
    287 i then (bif Nat.ble 293 i then (bif Nat.ble 296 i then (bif Nat.ble 297 i then (bif Nat.ble 298 i then
    (⟨0xF08208, 8, 32, 1, 8, 0, []⟩) else (⟨0xF08200, 8, 32, 1, 8, 0, []⟩)) else (⟨0xF08100, 12, 8, 1, 8, 0, []⟩))
    else (bif Nat.ble 294 i then (bif Nat.ble 295 i then (⟨0xF08000, 1, 8, 1, 8, 0, []⟩) else (⟨0xF00078, 1, 8, 1, 8,
    0, []⟩)) else (⟨0xF00070, 1, 8, 1, 8, 0, []⟩))) else (bif Nat.ble 290 i then (bif Nat.ble 291 i then (bif Nat.ble
    292 i then (⟨0xF00068, 1, 8, 1, 8, 0, []⟩) else (⟨0xF00060, 1, 8, 1, 8, 0, []⟩)) else (⟨0xF00058, 1, 8, 1, 8, 0,
    []⟩)) else (bif Nat.ble 288 i then (bif Nat.ble 289 i then (⟨0xF00050, 1, 8, 1, 8, 0, []⟩) else (⟨0xF00048, 1, 8,
    1, 8, 0, []⟩)) else (⟨0xF00040, 1, 8, 1, 8, 0, []⟩)))) else (bif Nat.ble 281 i then (bif Nat.ble 284 i then (bif
    Nat.ble 285 i then (bif Nat.ble 286 i then (⟨0xF00038, 1, 8, 1, 8, 0, []⟩) else (⟨0xF00030, 1, 8, 1, 8, 0, []⟩))
    else (⟨0xF00028, 1, 8, 1, 8, 0, []⟩)) else (bif Nat.ble 282 i then (bif Nat.ble 283 i then (⟨0xF00020, 1, 8, 1,
    8, 0, []⟩) else (⟨0xF00018, 1, 8, 1, 8, 0, []⟩)) else (⟨0xF00010, 1, 8, 1, 8, 0, []⟩))) else (bif Nat.ble 278 i
    then (bif Nat.ble 279 i then (bif Nat.ble 280 i then (⟨0xF00008, 1, 8, 1, 8, 0, []⟩) else (⟨0xF00000, 1, 8, 1, 8,
    0, []⟩)) else (⟨0xE00308, 2, 32, 1, 8, 0, []⟩)) else (bif Nat.ble 277 i then (⟨0xE00300, 2, 32, 1, 8, 0, []⟩)
    else (⟨0xE00208, 1, 8, 1, 8, 0, []⟩))))))) else (bif Nat.ble 230 i then (bif Nat.ble 253 i then (bif Nat.ble 264
    i then (bif Nat.ble 270 i then (bif Nat.ble 273 i then (bif Nat.ble 274 i then (bif Nat.ble 275 i then
    (⟨0xE00200, 1, 8, 1, 8, 0, []⟩) else (⟨0xE00110, 4, 32, 1, 8, 0, []⟩)) else (⟨0xE00108, 4, 32, 1, 8, 0, []⟩))
    else (bif Nat.ble 271 i then (bif Nat.ble 272 i then (⟨0xE00100, 4, 32, 1, 8, 0, []⟩) else (⟨0xE00050, 1, 8, 1,
    8, 0, []⟩)) else (⟨0xE00048, 1, 8, 1, 8, 0, []⟩))) else (bif Nat.ble 267 i then (bif Nat.ble 268 i then (bif
    Nat.ble 269 i then (⟨0xE00040, 1, 8, 1, 8, 0, []⟩) else (⟨0xE00038, 1, 8, 1, 8, 0, []⟩)) else (⟨0xE00030, 1, 8,
    1, 8, 0, []⟩)) else (bif Nat.ble 265 i then (bif Nat.ble 266 i then (⟨0xE00028, 1, 8, 1, 8, 0, []⟩) else
    (⟨0xE00020, 1, 8, 1, 8, 0, []⟩)) else (⟨0xE00018, 1, 8, 1, 8, 0, []⟩)))) else (bif Nat.ble 258 i then (bif
    Nat.ble 261 i then (bif Nat.ble 262 i then (bif Nat.ble 263 i then (⟨0xE00010, 1, 8, 1, 8, 0, []⟩) else
    (⟨0xE00008, 1, 8, 1, 8, 0, []⟩)) else (⟨0xE00000, 1, 8, 1, 8, 0, []⟩)) else (bif Nat.ble 259 i then (bif Nat.ble
    260 i then (⟨0xD02028, 18, 64, 1, 8, 0, []⟩) else (⟨0xD02020, 18, 64, 1, 8, 0, []⟩)) else (⟨0xD02018, 18, 64, 1,
    8, 0, []⟩))) else (bif Nat.ble 255 i then (bif Nat.ble 256 i then (bif Nat.ble 257 i then (⟨0xD02010, 18, 64, 1,
    8, 0, []⟩) else (⟨0xD02008, 18, 64, 1, 8, 0, []⟩)) else (⟨0xD02000, 18, 64, 1, 8, 0, []⟩)) else (bif Nat.ble 254
    i then (⟨0xD01018, 2, 256, 6, 32, 0, []⟩) else (⟨0xD01010, 2, 256, 6, 32, 0, []⟩))))) else (bif Nat.ble 241 i
    then (bif Nat.ble 247 i then (bif Nat.ble 250 i then (bif Nat.ble 251 i then (bif Nat.ble 252 i then (⟨0xD01008,
    2, 256, 6, 32, 0, []⟩) else (⟨0xD01000, 2, 256, 6, 32, 0, []⟩)) else (⟨0xD00010, 1, 8, 1, 8, 0, []⟩)) else (bif
    Nat.ble 248 i then (bif Nat.ble 249 i then (⟨0xD00008, 1, 8, 1, 8, 0, []⟩) else (⟨0xD00000, 1, 8, 1, 8, 0, []⟩))
    else (⟨0xC000C8, 1, 8, 1, 8, 0, []⟩))) else (bif Nat.ble 244 i then (bif Nat.ble 245 i then (bif Nat.ble 246 i
    then (⟨0xC000C0, 1, 8, 1, 8, 0, []⟩) else (⟨0xC000B8, 1, 8, 1, 8, 0, []⟩)) else (⟨0xC000B0, 1, 8, 1, 8, 0, []⟩))
    else (bif Nat.ble 242 i then (bif Nat.ble 243 i then (⟨0xC000A8, 1, 8, 1, 8, 0, []⟩) else (⟨0xC000A0, 1, 8, 1, 8,
    0, []⟩)) else (⟨0xC00098, 1, 8, 1, 8, 0, []⟩)))) else (bif Nat.ble 235 i then (bif Nat.ble 238 i then (bif
    Nat.ble 239 i then (bif Nat.ble 240 i then (⟨0xC00090, 1, 8, 1, 8, 0, []⟩) else (⟨0xC00088, 1, 8, 1, 8, 0, []⟩))
    else (⟨0xC00080, 1, 8, 1, 8, 0, []⟩)) else (bif Nat.ble 236 i then (bif Nat.ble 237 i then (⟨0xC00078, 1, 8, 1,
    8, 0, []⟩) else (⟨0xC00070, 1, 8, 1, 8, 0, []⟩)) else (⟨0xC00068, 1, 8, 1, 8, 0, []⟩))) else (bif Nat.ble 232 i
    then (bif Nat.ble 233 i then (bif Nat.ble 234 i then (⟨0xC00048, 4, 8, 1, 8, 0, []⟩) else (⟨0xC00028, 4, 8, 1, 8,
    0, []⟩)) else (⟨0xC00020, 1, 8, 1, 8, 0, []⟩)) else (bif Nat.ble 231 i then (⟨0xC00018, 1, 8, 1, 8, 0, []⟩) else
    (⟨0xC00010, 1, 8, 1, 8, 0, []⟩)))))) else (bif Nat.ble 207 i then (bif Nat.ble 218 i then (bif Nat.ble 224 i then
    (bif Nat.ble 227 i then (bif Nat.ble 228 i then (bif Nat.ble 229 i then (⟨0xC00008, 1, 8, 1, 8, 0, []⟩) else
    (⟨0xC00000, 1, 8, 1, 8, 0, []⟩)) else (⟨0xB01010, 10, 32, 1, 8, 0, []⟩)) else (bif Nat.ble 225 i then (bif
    Nat.ble 226 i then (⟨0xB01008, 10, 32, 1, 8, 0, []⟩) else (⟨0xB01000, 10, 32, 1, 8, 0, []⟩)) else (⟨0xB00040, 1,
    8, 1, 8, 0, []⟩))) else (bif Nat.ble 221 i then (bif Nat.ble 222 i then (bif Nat.ble 223 i then (⟨0xB00038, 1, 8,
    1, 8, 0, []⟩) else (⟨0xB00030, 1, 8, 1, 8, 0, []⟩)) else (⟨0xB00028, 1, 8, 1, 8, 0, []⟩)) else (bif Nat.ble 219 i
    then (bif Nat.ble 220 i then (⟨0xB00020, 1, 8, 1, 8, 0, []⟩) else (⟨0xB00018, 1, 8, 1, 8, 0, []⟩)) else
    (⟨0xB00010, 1, 8, 1, 8, 0, []⟩)))) else (bif Nat.ble 212 i then (bif Nat.ble 215 i then (bif Nat.ble 216 i then
    (bif Nat.ble 217 i then (⟨0xB00008, 1, 8, 1, 8, 0, []⟩) else (⟨0xB00000, 1, 8, 1, 8, 0, []⟩)) else (⟨0xA00078, 1,
    8, 1, 8, 0, []⟩)) else (bif Nat.ble 213 i then (bif Nat.ble 214 i then (⟨0xA00070, 1, 8, 1, 8, 0, []⟩) else
    (⟨0xA00068, 1, 8, 1, 8, 0, []⟩)) else (⟨0xA00060, 1, 8, 1, 8, 0, []⟩))) else (bif Nat.ble 209 i then (bif Nat.ble
    210 i then (bif Nat.ble 211 i then (⟨0xA00058, 1, 8, 1, 8, 0, []⟩) else (⟨0xA00050, 1, 8, 1, 8, 0, []⟩)) else
    (⟨0xA00048, 1, 8, 1, 8, 0, []⟩)) else (bif Nat.ble 208 i then (⟨0xA00040, 1, 8, 1, 8, 0, []⟩) else (⟨0xA00038, 1,
    8, 1, 8, 0, []⟩))))) else (bif Nat.ble 195 i then (bif Nat.ble 201 i then (bif Nat.ble 204 i then (bif Nat.ble
    205 i then (bif Nat.ble 206 i then (⟨0xA00030, 1, 8, 1, 8, 0, []⟩) else (⟨0xA00028, 1, 8, 1, 8, 0, []⟩)) else
    (⟨0xA00020, 1, 8, 1, 8, 0, []⟩)) else (bif Nat.ble 202 i then (bif Nat.ble 203 i then (⟨0xA00018, 1, 8, 1, 8, 0,
    []⟩) else (⟨0xA00010, 1, 8, 1, 8, 0, []⟩)) else (⟨0xA00008, 1, 8, 1, 8, 0, []⟩))) else (bif Nat.ble 198 i then
    (bif Nat.ble 199 i then (bif Nat.ble 200 i then (⟨0xA00000, 1, 8, 1, 8, 0, []⟩) else (⟨0x910000, 4, 4096, 450, 8,
    0, []⟩)) else (⟨0x901008, 16, 64, 1, 8, 0, []⟩)) else (bif Nat.ble 196 i then (bif Nat.ble 197 i then (⟨0x901000,
    16, 64, 1, 8, 0, []⟩) else (⟨0x900408, 4, 64, 4, 8, 0, []⟩)) else (⟨0x900400, 4, 64, 1, 8, 0, []⟩)))) else (bif
    Nat.ble 189 i then (bif Nat.ble 192 i then (bif Nat.ble 193 i then (bif Nat.ble 194 i then (⟨0x900060, 1, 8, 1,
    8, 0, []⟩) else (⟨0x900058, 1, 8, 1, 8, 0, []⟩)) else (⟨0x900050, 1, 8, 1, 8, 0, []⟩)) else (bif Nat.ble 190 i
    then (bif Nat.ble 191 i then (⟨0x900048, 1, 8, 1, 8, 0, []⟩) else (⟨0x900040, 1, 8, 1, 8, 0, []⟩)) else
    (⟨0x900038, 1, 8, 1, 8, 0, []⟩))) else (bif Nat.ble 186 i then (bif Nat.ble 187 i then (bif Nat.ble 188 i then
    (⟨0x900030, 1, 8, 1, 8, 0, []⟩) else (⟨0x900028, 1, 8, 1, 8, 0, []⟩)) else (⟨0x900020, 1, 8, 1, 8, 0, []⟩)) else
    (bif Nat.ble 185 i then (⟨0x900018, 1, 8, 1, 8, 0, []⟩) else (⟨0x900010, 1, 8, 1, 8, 0, []⟩)))))))) else (bif
    Nat.ble 92 i then (bif Nat.ble 138 i then (bif Nat.ble 161 i then (bif Nat.ble 172 i then (bif Nat.ble 178 i then
    (bif Nat.ble 181 i then (bif Nat.ble 182 i then (bif Nat.ble 183 i then (⟨0x900008, 1, 8, 1, 8, 0, []⟩) else
    (⟨0x900000, 1, 8, 1, 8, 0, []⟩)) else (⟨0x801010, 16, 64, 1, 8, 0, []⟩)) else (bif Nat.ble 179 i then (bif
    Nat.ble 180 i then (⟨0x801008, 16, 64, 1, 8, 0, []⟩) else (⟨0x801000, 16, 64, 1, 8, 0, []⟩)) else (⟨0x800100, 16,
    8, 1, 8, 0, []⟩))) else (bif Nat.ble 175 i then (bif Nat.ble 176 i then (bif Nat.ble 177 i then (⟨0x800070, 1, 8,
    1, 8, 0, []⟩) else (⟨0x800068, 1, 8, 1, 8, 0, []⟩)) else (⟨0x800060, 1, 8, 1, 8, 0, []⟩)) else (bif Nat.ble 173 i
    then (bif Nat.ble 174 i then (⟨0x800058, 1, 8, 1, 8, 0, []⟩) else (⟨0x800050, 1, 8, 1, 8, 0, []⟩)) else
    (⟨0x800048, 1, 8, 1, 8, 0, []⟩)))) else (bif Nat.ble 166 i then (bif Nat.ble 169 i then (bif Nat.ble 170 i then
    (bif Nat.ble 171 i then (⟨0x800040, 1, 8, 1, 8, 0, []⟩) else (⟨0x800038, 1, 8, 1, 8, 0, []⟩)) else (⟨0x800030, 1,
    8, 1, 8, 0, []⟩)) else (bif Nat.ble 167 i then (bif Nat.ble 168 i then (⟨0x800028, 1, 8, 1, 8, 0, []⟩) else
    (⟨0x800020, 1, 8, 1, 8, 0, []⟩)) else (⟨0x800018, 1, 8, 1, 8, 0, []⟩))) else (bif Nat.ble 163 i then (bif Nat.ble
    164 i then (bif Nat.ble 165 i then (⟨0x800010, 1, 8, 1, 8, 0, []⟩) else (⟨0x800008, 1, 8, 1, 8, 0, []⟩)) else
    (⟨0x800000, 1, 8, 1, 8, 0, []⟩)) else (bif Nat.ble 162 i then (⟨0x701140, 16, 512, 1, 8, 0, []⟩) else (⟨0x701138,
    16, 512, 1, 8, 0, []⟩))))) else (bif Nat.ble 149 i then (bif Nat.ble 155 i then (bif Nat.ble 158 i then (bif
    Nat.ble 159 i then (bif Nat.ble 160 i then (⟨0x701130, 16, 512, 1, 8, 0, []⟩) else (⟨0x701128, 16, 512, 1, 8, 0,
    []⟩)) else (⟨0x701120, 16, 512, 1, 8, 0, []⟩)) else (bif Nat.ble 156 i then (bif Nat.ble 157 i then (⟨0x701118,
    16, 512, 1, 8, 0, []⟩) else (⟨0x701110, 16, 512, 1, 8, 0, []⟩)) else (⟨0x701108, 16, 512, 1, 8, 0, []⟩))) else
    (bif Nat.ble 152 i then (bif Nat.ble 153 i then (bif Nat.ble 154 i then (⟨0x701100, 16, 512, 1, 8, 0, []⟩) else
    (⟨0x7010C0, 16, 512, 8, 8, 0, []⟩)) else (⟨0x701080, 16, 512, 8, 8, 0, []⟩)) else (bif Nat.ble 150 i then (bif
    Nat.ble 151 i then (⟨0x701040, 16, 512, 8, 8, 0, []⟩) else (⟨0x701020, 16, 512, 1, 8, 0, []⟩)) else (⟨0x701018,
    16, 512, 1, 8, 0, []⟩)))) else (bif Nat.ble 143 i then (bif Nat.ble 146 i then (bif Nat.ble 147 i then (bif
    Nat.ble 148 i then (⟨0x701010, 16, 512, 1, 8, 0, []⟩) else (⟨0x701008, 16, 512, 1, 8, 0, []⟩)) else (⟨0x701000,
    16, 512, 1, 8, 0, []⟩)) else (bif Nat.ble 144 i then (bif Nat.ble 145 i then (⟨0x700038, 1, 8, 1, 8, 0, []⟩) else
    (⟨0x700030, 1, 8, 1, 8, 0, []⟩)) else (⟨0x700010, 4, 8, 1, 8, 0, []⟩))) else (bif Nat.ble 140 i then (bif Nat.ble
    141 i then (bif Nat.ble 142 i then (⟨0x700008, 1, 8, 1, 8, 0, []⟩) else (⟨0x700000, 1, 8, 1, 8, 0, []⟩)) else
    (⟨0x604070, 1, 8, 1, 8, 0, []⟩)) else (bif Nat.ble 139 i then (⟨0x604068, 1, 8, 1, 8, 0, []⟩) else (⟨0x604060, 1,
    8, 1, 8, 0, []⟩)))))) else (bif Nat.ble 115 i then (bif Nat.ble 126 i then (bif Nat.ble 132 i then (bif Nat.ble
    135 i then (bif Nat.ble 136 i then (bif Nat.ble 137 i then (⟨0x604058, 1, 8, 1, 8, 0, []⟩) else (⟨0x604050, 1, 8,
    1, 8, 0, []⟩)) else (⟨0x604048, 1, 8, 1, 8, 0, []⟩)) else (bif Nat.ble 133 i then (bif Nat.ble 134 i then
    (⟨0x604040, 1, 8, 1, 8, 0, []⟩) else (⟨0x604038, 1, 8, 1, 8, 0, []⟩)) else (⟨0x604030, 1, 8, 1, 8, 0, []⟩))) else
    (bif Nat.ble 129 i then (bif Nat.ble 130 i then (bif Nat.ble 131 i then (⟨0x604028, 1, 8, 1, 8, 0, []⟩) else
    (⟨0x604020, 1, 8, 1, 8, 0, []⟩)) else (⟨0x604018, 1, 8, 1, 8, 0, []⟩)) else (bif Nat.ble 127 i then (bif Nat.ble
    128 i then (⟨0x604010, 1, 8, 1, 8, 0, []⟩) else (⟨0x604008, 1, 8, 1, 8, 0, []⟩)) else (⟨0x604000, 1, 8, 1, 8, 0,
    []⟩)))) else (bif Nat.ble 120 i then (bif Nat.ble 123 i then (bif Nat.ble 124 i then (bif Nat.ble 125 i then
    (⟨0x6010A0, 32, 256, 1, 8, 0, []⟩) else (⟨0x601098, 32, 256, 1, 8, 0, []⟩)) else (⟨0x601090, 32, 256, 1, 8, 0,
    []⟩)) else (bif Nat.ble 121 i then (bif Nat.ble 122 i then (⟨0x601088, 32, 256, 1, 8, 0, []⟩) else (⟨0x601080,
    32, 256, 1, 8, 0, []⟩)) else (⟨0x601078, 32, 256, 1, 8, 0, []⟩))) else (bif Nat.ble 117 i then (bif Nat.ble 118 i
    then (bif Nat.ble 119 i then (⟨0x601070, 32, 256, 1, 8, 0, []⟩) else (⟨0x601068, 32, 256, 1, 8, 0, []⟩)) else
    (⟨0x601060, 32, 256, 1, 8, 0, []⟩)) else (bif Nat.ble 116 i then (⟨0x601058, 32, 256, 1, 8, 0, []⟩) else
    (⟨0x601050, 32, 256, 1, 8, 0, []⟩))))) else (bif Nat.ble 103 i then (bif Nat.ble 109 i then (bif Nat.ble 112 i
    then (bif Nat.ble 113 i then (bif Nat.ble 114 i then (⟨0x601048, 32, 256, 1, 8, 0, []⟩) else (⟨0x601040, 32, 256,
    1, 8, 0, []⟩)) else (⟨0x601038, 32, 256, 1, 8, 0, []⟩)) else (bif Nat.ble 110 i then (bif Nat.ble 111 i then
    (⟨0x601030, 32, 256, 1, 8, 0, []⟩) else (⟨0x601028, 32, 256, 1, 8, 0, []⟩)) else (⟨0x601020, 32, 256, 1, 8, 0,
    []⟩))) else (bif Nat.ble 106 i then (bif Nat.ble 107 i then (bif Nat.ble 108 i then (⟨0x601018, 32, 256, 1, 8, 0,
    []⟩) else (⟨0x601010, 32, 256, 1, 8, 0, []⟩)) else (⟨0x601008, 32, 256, 1, 8, 0, []⟩)) else (bif Nat.ble 104 i
    then (bif Nat.ble 105 i then (⟨0x601000, 32, 256, 1, 8, 0, []⟩) else (⟨0x600058, 1, 8, 1, 8, 0, []⟩)) else
    (⟨0x600050, 1, 8, 1, 8, 0, []⟩)))) else (bif Nat.ble 97 i then (bif Nat.ble 100 i then (bif Nat.ble 101 i then
    (bif Nat.ble 102 i then (⟨0x600048, 1, 8, 1, 8, 0, []⟩) else (⟨0x600040, 1, 8, 1, 8, 0, []⟩)) else (⟨0x600038, 1,
    8, 1, 8, 0, []⟩)) else (bif Nat.ble 98 i then (bif Nat.ble 99 i then (⟨0x600030, 1, 8, 1, 8, 0, []⟩) else
    (⟨0x600028, 1, 8, 1, 8, 0, []⟩)) else (⟨0x600020, 1, 8, 1, 8, 0, []⟩))) else (bif Nat.ble 94 i then (bif Nat.ble
    95 i then (bif Nat.ble 96 i then (⟨0x600018, 1, 8, 1, 8, 0, []⟩) else (⟨0x600010, 1, 8, 1, 8, 0, []⟩)) else
    (⟨0x600008, 1, 8, 1, 8, 0, []⟩)) else (bif Nat.ble 93 i then (⟨0x600000, 1, 8, 1, 8, 0, []⟩) else (⟨0x580018,
    16384, 32, 1, 8, 0, []⟩))))))) else (bif Nat.ble 46 i then (bif Nat.ble 69 i then (bif Nat.ble 80 i then (bif
    Nat.ble 86 i then (bif Nat.ble 89 i then (bif Nat.ble 90 i then (bif Nat.ble 91 i then (⟨0x580010, 16384, 32, 1,
    8, 0, []⟩) else (⟨0x580008, 16384, 32, 1, 8, 0, []⟩)) else (⟨0x580000, 16384, 32, 1, 8, 0, []⟩)) else (bif
    Nat.ble 87 i then (bif Nat.ble 88 i then (⟨0x500070, 1, 8, 1, 8, 0, []⟩) else (⟨0x500068, 1, 8, 1, 8, 0, []⟩))
    else (⟨0x500060, 1, 8, 1, 8, 0, []⟩))) else (bif Nat.ble 83 i then (bif Nat.ble 84 i then (bif Nat.ble 85 i then
    (⟨0x500058, 1, 8, 1, 8, 0, []⟩) else (⟨0x500050, 1, 8, 1, 8, 0, []⟩)) else (⟨0x500048, 1, 8, 1, 8, 0, []⟩)) else
    (bif Nat.ble 81 i then (bif Nat.ble 82 i then (⟨0x500040, 1, 8, 1, 8, 0, []⟩) else (⟨0x500038, 1, 8, 1, 8, 0,
    []⟩)) else (⟨0x500030, 1, 8, 1, 8, 0, []⟩)))) else (bif Nat.ble 74 i then (bif Nat.ble 77 i then (bif Nat.ble 78
    i then (bif Nat.ble 79 i then (⟨0x500028, 1, 8, 1, 8, 0, []⟩) else (⟨0x500020, 1, 8, 1, 8, 0, []⟩)) else
    (⟨0x500018, 1, 8, 1, 8, 0, []⟩)) else (bif Nat.ble 75 i then (bif Nat.ble 76 i then (⟨0x500010, 1, 8, 1, 8, 0,
    []⟩) else (⟨0x500008, 1, 8, 1, 8, 0, []⟩)) else (⟨0x500000, 1, 8, 1, 8, 0, []⟩))) else (bif Nat.ble 71 i then
    (bif Nat.ble 72 i then (bif Nat.ble 73 i then (⟨0x440000, 256, 1152, 144, 8, 0, []⟩) else (⟨0x430000, 320, 8, 1,
    8, 0, []⟩)) else (⟨0x410000, 16384, 8, 1, 8, 0, []⟩)) else (bif Nat.ble 70 i then (⟨0x400070, 4, 8, 1, 8, 0, []⟩)
    else (⟨0x400068, 1, 8, 1, 8, 0, []⟩))))) else (bif Nat.ble 57 i then (bif Nat.ble 63 i then (bif Nat.ble 66 i
    then (bif Nat.ble 67 i then (bif Nat.ble 68 i then (⟨0x400060, 1, 8, 1, 8, 0, []⟩) else (⟨0x400058, 1, 8, 1, 8,
    0, []⟩)) else (⟨0x400050, 1, 8, 1, 8, 0, []⟩)) else (bif Nat.ble 64 i then (bif Nat.ble 65 i then (⟨0x400048, 1,
    8, 1, 8, 0, []⟩) else (⟨0x400040, 1, 8, 1, 8, 0, []⟩)) else (⟨0x400038, 1, 8, 1, 8, 0, []⟩))) else (bif Nat.ble
    60 i then (bif Nat.ble 61 i then (bif Nat.ble 62 i then (⟨0x400030, 1, 8, 1, 8, 0, []⟩) else (⟨0x400028, 1, 8, 1,
    8, 0, []⟩)) else (⟨0x400020, 1, 8, 1, 8, 0, []⟩)) else (bif Nat.ble 58 i then (bif Nat.ble 59 i then (⟨0x400018,
    1, 8, 1, 8, 0, []⟩) else (⟨0x400010, 1, 8, 1, 8, 0, []⟩)) else (⟨0x400008, 1, 8, 1, 8, 0, []⟩)))) else (bif
    Nat.ble 51 i then (bif Nat.ble 54 i then (bif Nat.ble 55 i then (bif Nat.ble 56 i then (⟨0x400000, 1, 8, 1, 8, 0,
    []⟩) else (⟨0x300070, 1, 8, 1, 8, 0, []⟩)) else (⟨0x300068, 1, 8, 1, 8, 0, []⟩)) else (bif Nat.ble 52 i then (bif
    Nat.ble 53 i then (⟨0x300060, 1, 8, 1, 8, 0, []⟩) else (⟨0x300058, 1, 8, 1, 8, 0, []⟩)) else (⟨0x300050, 1, 8, 1,
    8, 0, []⟩))) else (bif Nat.ble 48 i then (bif Nat.ble 49 i then (bif Nat.ble 50 i then (⟨0x300048, 1, 8, 1, 8, 0,
    []⟩) else (⟨0x300040, 1, 8, 1, 8, 0, []⟩)) else (⟨0x300038, 1, 8, 1, 8, 0, []⟩)) else (bif Nat.ble 47 i then
    (⟨0x300030, 1, 8, 1, 8, 0, []⟩) else (⟨0x300028, 1, 8, 1, 8, 0, []⟩)))))) else (bif Nat.ble 23 i then (bif
    Nat.ble 34 i then (bif Nat.ble 40 i then (bif Nat.ble 43 i then (bif Nat.ble 44 i then (bif Nat.ble 45 i then
    (⟨0x300020, 1, 8, 1, 8, 0, []⟩) else (⟨0x300018, 1, 8, 1, 8, 0, []⟩)) else (⟨0x300010, 1, 8, 1, 8, 0, []⟩)) else
    (bif Nat.ble 41 i then (bif Nat.ble 42 i then (⟨0x300008, 1, 8, 1, 8, 0, []⟩) else (⟨0x300000, 1, 8, 1, 8, 0,
    []⟩)) else (⟨0x201010, 8, 64, 1, 8, 0, []⟩))) else (bif Nat.ble 37 i then (bif Nat.ble 38 i then (bif Nat.ble 39
    i then (⟨0x201008, 8, 64, 1, 8, 0, []⟩) else (⟨0x201000, 8, 64, 1, 8, 0, []⟩)) else (⟨0x200058, 1, 8, 1, 8, 0,
    []⟩)) else (bif Nat.ble 35 i then (bif Nat.ble 36 i then (⟨0x200050, 1, 8, 1, 8, 0, []⟩) else (⟨0x200048, 1, 8,
    1, 8, 0, []⟩)) else (⟨0x200040, 1, 8, 1, 8, 0, []⟩)))) else (bif Nat.ble 28 i then (bif Nat.ble 31 i then (bif
    Nat.ble 32 i then (bif Nat.ble 33 i then (⟨0x200038, 1, 8, 1, 8, 0, []⟩) else (⟨0x200030, 1, 8, 1, 8, 0, []⟩))
    else (⟨0x200028, 1, 8, 1, 8, 0, []⟩)) else (bif Nat.ble 29 i then (bif Nat.ble 30 i then (⟨0x200020, 1, 8, 1, 8,
    0, []⟩) else (⟨0x200018, 1, 8, 1, 8, 0, []⟩)) else (⟨0x200010, 1, 8, 1, 8, 0, []⟩))) else (bif Nat.ble 25 i then
    (bif Nat.ble 26 i then (bif Nat.ble 27 i then (⟨0x200008, 1, 8, 1, 8, 0, []⟩) else (⟨0x200000, 1, 8, 1, 8, 0,
    []⟩)) else (⟨0x140008, 16, 16384, 1024, 16, 0, []⟩)) else (bif Nat.ble 24 i then (⟨0x140000, 16, 16384, 1024, 16,
    0, []⟩) else (⟨0x130008, 64, 16, 1, 8, 0, []⟩))))) else (bif Nat.ble 11 i then (bif Nat.ble 17 i then (bif
    Nat.ble 20 i then (bif Nat.ble 21 i then (bif Nat.ble 22 i then (⟨0x130000, 64, 16, 1, 8, 0, []⟩) else
    (⟨0x120000, 4096, 8, 1, 8, 0, []⟩)) else (⟨0x101030, 16, 64, 1, 8, 0, []⟩)) else (bif Nat.ble 18 i then (bif
    Nat.ble 19 i then (⟨0x101028, 16, 64, 1, 8, 0, []⟩) else (⟨0x101020, 16, 64, 1, 8, 0, []⟩)) else (⟨0x101018, 16,
    64, 1, 8, 0, []⟩))) else (bif Nat.ble 14 i then (bif Nat.ble 15 i then (bif Nat.ble 16 i then (⟨0x101010, 16, 64,
    1, 8, 0, []⟩) else (⟨0x101008, 16, 64, 1, 8, 0, []⟩)) else (⟨0x101000, 16, 64, 1, 8, 0, []⟩)) else (bif Nat.ble
    12 i then (bif Nat.ble 13 i then (⟨0x100048, 1, 8, 1, 8, 0, []⟩) else (⟨0x100040, 1, 8, 1, 8, 0, []⟩)) else
    (⟨0x100038, 1, 8, 1, 8, 0, []⟩)))) else (bif Nat.ble 5 i then (bif Nat.ble 8 i then (bif Nat.ble 9 i then (bif
    Nat.ble 10 i then (⟨0x100030, 1, 8, 1, 8, 0, []⟩) else (⟨0x100028, 1, 8, 1, 8, 0, []⟩)) else (⟨0x100020, 1, 8, 1,
    8, 0, []⟩)) else (bif Nat.ble 6 i then (bif Nat.ble 7 i then (⟨0x100018, 1, 8, 1, 8, 0, []⟩) else (⟨0x100010, 1,
    8, 1, 8, 0, []⟩)) else (⟨0x100008, 1, 8, 1, 8, 0, []⟩))) else (bif Nat.ble 2 i then (bif Nat.ble 3 i then (bif
    Nat.ble 4 i then (⟨0x20, 1, 8, 1, 8, 0, []⟩) else (⟨0x18, 1, 8, 1, 8, 0, []⟩)) else (⟨0x10, 1, 8, 1, 8, 0, []⟩))
    else (bif Nat.ble 1 i then (⟨0x8, 1, 8, 1, 8, 0, []⟩) else (⟨0x0, 1, 8, 1, 8, 0, []⟩))))))))

/-- A choice between propositions that both hold. -/
theorem ite_of {c p q : Prop} [Decidable c] (h : p) (g : q) : if c then p else q := by split <;> assumption

theorem ite_of2 {c p q r p' q' r' : Prop} [Decidable c] (h : p → q → r) (g : p' → q' → r') (a : if c then p else p')
    (b : if c then q else q') : if c then r else r' := by
  split at a <;> simp_all

theorem ite_dep {c p q : Prop} [Decidable c] (h : c → p) (g : ¬ c → q) : if c then p else q := by
  split
  · exact h ‹_›
  · exact g ‹_›

/-- Field `i` of two records agrees. -/
def SeqState.same (a b : SeqState) : Nat → Prop
  | 0 => b.active = a.active | 1 => b.shadow = a.shadow | 2 => b.items = a.items | 3 => b.nextId = a.nextId
  | 4 => b.lastFirst = a.lastFirst | 5 => b.swap = a.swap | 6 => b.waitAt = a.waitAt | 7 => b.faultTo = a.faultTo
  | 8 => b.forecasts = a.forecasts | 9 => b.turn = a.turn
  | _ => True

theorem SeqState.same_refl (a : SeqState) (i : Nat) : a.same a i := by
  unfold SeqState.same
  split <;> trivial

theorem SeqState.same_trans {a b c : SeqState} {i : Nat} (h : a.same b i) (g : b.same c i) : a.same c i := by
  unfold SeqState.same at *
  split <;> first | trivial | exact Eq.trans g h

/-- Field `i` of two records agrees. -/
def ArrState.same (a b : ArrState) : Nat → Prop
  | 0 => b.acc = a.acc | 1 => b.winTop = a.winTop | 2 => b.decRecs = a.decRecs | 3 => b.home = a.home
  | 4 => b.chunk = a.chunk | 5 => b.level = a.level | 6 => b.rampAt = a.rampAt | 7 => b.prev = a.prev
  | 8 => b.helping = a.helping
  | _ => True

theorem ArrState.same_refl (a : ArrState) (i : Nat) : a.same a i := by
  unfold ArrState.same
  split <;> trivial

theorem ArrState.same_trans {a b c : ArrState} {i : Nat} (h : a.same b i) (g : b.same c i) : a.same c i := by
  unfold ArrState.same at *
  split <;> first | trivial | exact Eq.trans g h

/-- Field `i` of two records agrees. -/
def PpeState.same (a b : PpeState) : Nat → Prop
  | 0 => b.item = a.item | 1 => b.k = a.k | 2 => b.band = a.band | 3 => b.integrating = a.integrating
  | 4 => b.mismatches = a.mismatches | 5 => b.folds = a.folds | 6 => b.begun = a.begun | 7 => b.held = a.held
  | 8 => b.qStore = a.qStore | 9 => b.q = a.q | 10 => b.lockLostAt = a.lockLostAt | 11 => b.lockErr = a.lockErr
  | 12 => b.target = a.target | 13 => b.drive = a.drive | 14 => b.cal = a.cal | 15 => b.calDue = a.calDue
  | 16 => b.calEndedAt = a.calEndedAt | 17 => b.failed = a.failed
  | _ => True

theorem PpeState.same_refl (a : PpeState) (i : Nat) : a.same a i := by
  unfold PpeState.same
  split <;> trivial

theorem PpeState.same_trans {a b c : PpeState} {i : Nat} (h : a.same b i) (g : b.same c i) : a.same c i := by
  unfold PpeState.same at *
  split <;> first | trivial | exact Eq.trans g h

/-- Field `i` of two records agrees. -/
def CmpState.same (a b : CmpState) : Nat → Prop
  | 0 => b.books = a.books | 1 => b.sends = a.sends | 2 => b.waits = a.waits | 3 => b.copies = a.copies
  | 4 => b.opens = a.opens | 5 => b.refetch = a.refetch | 6 => b.asked = a.asked | 7 => b.delivered = a.delivered
  | 8 => b.acks = a.acks | 9 => b.displaced = a.displaced
  | _ => True

theorem CmpState.same_refl (a : CmpState) (i : Nat) : a.same a i := by
  unfold CmpState.same
  split <;> trivial

theorem CmpState.same_trans {a b c : CmpState} {i : Nat} (h : a.same b i) (g : b.same c i) : a.same c i := by
  unfold CmpState.same at *
  split <;> first | trivial | exact Eq.trans g h

/-- Field `i` of two records agrees. -/
def ColState.same (a b : ColState) : Nat → Prop
  | 0 => b.running = a.running | 1 => b.held = a.held | 2 => b.lastId = a.lastId | 3 => b.parked = a.parked
  | 4 => b.chunksDone = a.chunksDone | 5 => b.instStep = a.instStep | 6 => b.holding = a.holding
  | 7 => b.waiting = a.waiting | 8 => b.failed = a.failed
  | _ => True

theorem ColState.same_refl (a : ColState) (i : Nat) : a.same a i := by
  unfold ColState.same
  split <;> trivial

theorem ColState.same_trans {a b c : ColState} {i : Nat} (h : a.same b i) (g : b.same c i) : a.same c i := by
  unfold ColState.same at *
  split <;> first | trivial | exact Eq.trans g h

/-- Field `i` of two records agrees. -/
def MemState.same (a b : MemState) : Nat → Prop
  | 0 => b.cells = a.cells | 1 => b.poison = a.poison | 2 => b.lost = a.lost | 3 => b.unencoded = a.unencoded
  | 4 => b.pages = a.pages | 5 => b.unshadowed = a.unshadowed | 6 => b.mirrorDX = a.mirrorDX
  | 7 => b.remapDue = a.remapDue | 8 => b.remirroring = a.remirroring | 9 => b.ctx = a.ctx | 10 => b.cache = a.cache
  | 11 => b.scrubAt = a.scrubAt | 12 => b.xRanges = a.xRanges
  | _ => True

theorem MemState.same_refl (a : MemState) (i : Nat) : a.same a i := by
  unfold MemState.same
  split <;> trivial

theorem MemState.same_trans {a b c : MemState} {i : Nat} (h : a.same b i) (g : b.same c i) : a.same c i := by
  unfold MemState.same at *
  split <;> first | trivial | exact Eq.trans g h

/-- Field `i` of two records agrees. -/
def BpmState.same (a b : BpmState) : Nat → Prop
  | 0 => b.bufs = a.bufs | 1 => b.queue = a.queue | 2 => b.limits = a.limits
  | _ => True

theorem BpmState.same_refl (a : BpmState) (i : Nat) : a.same a i := by
  unfold BpmState.same
  split <;> trivial

theorem BpmState.same_trans {a b c : BpmState} {i : Nat} (h : a.same b i) (g : b.same c i) : a.same c i := by
  unfold BpmState.same at *
  split <;> first | trivial | exact Eq.trans g h

/-- Field `i` of two records agrees. -/
def CiphState.same (a b : CiphState) : Nat → Prop
  | 0 => b.k0 = a.k0 | 1 => b.slots = a.slots | 2 => b.uses = a.uses | 3 => b.gcs = a.gcs
  | 4 => b.suspended = a.suspended | 5 => b.tagRun = a.tagRun | 6 => b.macRx = a.macRx
  | _ => True

theorem CiphState.same_refl (a : CiphState) (i : Nat) : a.same a i := by
  unfold CiphState.same
  split <;> trivial

theorem CiphState.same_trans {a b c : CiphState} {i : Nat} (h : a.same b i) (g : b.same c i) : a.same c i := by
  unfold CiphState.same at *
  split <;> first | trivial | exact Eq.trans g h

/-- Field `i` of two records agrees. -/
def SchState.same (a b : SchState) : Nat → Prop
  | 0 => b.queues = a.queues | 1 => b.finish = a.finish | 2 => b.vtime = a.vtime | 3 => b.policers = a.policers
  | 4 => b.portBuf = a.portBuf
  | _ => True

theorem SchState.same_refl (a : SchState) (i : Nat) : a.same a i := by
  unfold SchState.same
  split <;> trivial

theorem SchState.same_trans {a b c : SchState} {i : Nat} (h : a.same b i) (g : b.same c i) : a.same c i := by
  unfold SchState.same at *
  split <;> first | trivial | exact Eq.trans g h

/-- Field `i` of two records agrees. -/
def PeerState.same (a b : PeerState) : Nat → Prop
  | 0 => b.sess = a.sess | 1 => b.rx = a.rx | 2 => b.ready = a.ready | 3 => b.members = a.members
  | 4 => b.fences = a.fences | 5 => b.watch = a.watch | 6 => b.journal = a.journal | 7 => b.released = a.released
  | 8 => b.recon = a.recon | 9 => b.stalledAt = a.stalledAt | 10 => b.selfFenced = a.selfFenced
  | 11 => b.islands = a.islands | 12 => b.recvDone = a.recvDone | 13 => b.pendingCommits = a.pendingCommits
  | 14 => b.adopting = a.adopting | 15 => b.hellos = a.hellos | 16 => b.probeAt = a.probeAt
  | _ => True

theorem PeerState.same_refl (a : PeerState) (i : Nat) : a.same a i := by
  unfold PeerState.same
  split <;> trivial

theorem PeerState.same_trans {a b c : PeerState} {i : Nat} (h : a.same b i) (g : b.same c i) : a.same c i := by
  unfold PeerState.same at *
  split <;> first | trivial | exact Eq.trans g h

/-- Field `i` of two records agrees. -/
def EvtState.same (a b : EvtState) : Nat → Prop
  | 0 => b.last = a.last | 1 => b.gathered = a.gathered | 2 => b.gatherAt = a.gatherAt
  | 3 => b.completions = a.completions | 4 => b.outstanding = a.outstanding | 5 => b.delivered = a.delivered
  | 6 => b.held = a.held | 7 => b.seqs = a.seqs | 8 => b.pins = a.pins
  | _ => True

theorem EvtState.same_refl (a : EvtState) (i : Nat) : a.same a i := by
  unfold EvtState.same
  split <;> trivial

theorem EvtState.same_trans {a b c : EvtState} {i : Nat} (h : a.same b i) (g : b.same c i) : a.same c i := by
  unfold EvtState.same at *
  split <;> first | trivial | exact Eq.trans g h

/-- Field `i` of two records agrees. -/
def BistState.same (a b : BistState) : Nat → Prop
  | 0 => b.bins = a.bins | 1 => b.runs = a.runs | 2 => b.lastStart = a.lastStart | 3 => b.retireAfter = a.retireAfter
  | 4 => b.cycle = a.cycle | 5 => b.cycleEnd = a.cycleEnd | 6 => b.sigs = a.sigs | 7 => b.noc = a.noc
  | _ => True

theorem BistState.same_refl (a : BistState) (i : Nat) : a.same a i := by
  unfold BistState.same
  split <;> trivial

theorem BistState.same_trans {a b c : BistState} {i : Nat} (h : a.same b i) (g : b.same c i) : a.same c i := by
  unfold BistState.same at *
  split <;> first | trivial | exact Eq.trans g h

/-- Field `i` of two records agrees. -/
def LineState.same (a b : LineState) : Nat → Prop
  | 0 => b.ports = a.ports | 1 => b.access = a.access | 2 => b.gcs = a.gcs
  | _ => True

theorem LineState.same_refl (a : LineState) (i : Nat) : a.same a i := by
  unfold LineState.same
  split <;> trivial

theorem LineState.same_trans {a b c : LineState} {i : Nat} (h : a.same b i) (g : b.same c i) : a.same c i := by
  unfold LineState.same at *
  split <;> first | trivial | exact Eq.trans g h

/-- Field `i` of two records agrees. -/
def FabState.same (a b : FabState) : Nat → Prop
  | 0 => b.circuits = a.circuits | 1 => b.bridge = a.bridge | 2 => b.reqs = a.reqs | 3 => b.sent = a.sent
  | 4 => b.flits = a.flits | 5 => b.rxFlits = a.rxFlits | 6 => b.homes = a.homes
  | _ => True

theorem FabState.same_refl (a : FabState) (i : Nat) : a.same a i := by
  unfold FabState.same
  split <;> trivial

theorem FabState.same_trans {a b c : FabState} {i : Nat} (h : a.same b i) (g : b.same c i) : a.same c i := by
  unfold FabState.same at *
  split <;> first | trivial | exact Eq.trans g h

/-- Field `i` of two records agrees. -/
def OptState.same (a b : OptState) : Nat → Prop
  | 0 => b.spares = a.spares | 1 => b.switching = a.switching | 2 => b.relocking = a.relocking
  | 3 => b.alternate = a.alternate | 4 => b.held = a.held | 5 => b.moving = a.moving | 6 => b.calStart = a.calStart
  | 7 => b.unlocked = a.unlocked | 8 => b.burstAt = a.burstAt | 9 => b.target = a.target | 10 => b.drive = a.drive
  | 11 => b.sensor0 = a.sensor0 | 12 => b.sensorCoef = a.sensorCoef | 13 => b.lag = a.lag | 14 => b.level = a.level
  | _ => True

theorem OptState.same_refl (a : OptState) (i : Nat) : a.same a i := by
  unfold OptState.same
  split <;> trivial

theorem OptState.same_trans {a b c : OptState} {i : Nat} (h : a.same b i) (g : b.same c i) : a.same c i := by
  unfold OptState.same at *
  split <;> first | trivial | exact Eq.trans g h

/-- Field `i` of two records agrees. -/
def TimeState.same (a b : TimeState) : Nat → Prop
  | 0 => b.bases = a.bases | 1 => b.routes = a.routes | 2 => b.ptp = a.ptp | 3 => b.peer = a.peer
  | 4 => b.diff = a.diff | 5 => b.validSince = a.validSince | 6 => b.follows = a.follows | 7 => b.ppsAt = a.ppsAt
  | _ => True

theorem TimeState.same_refl (a : TimeState) (i : Nat) : a.same a i := by
  unfold TimeState.same
  split <;> trivial

theorem TimeState.same_trans {a b c : TimeState} {i : Nat} (h : a.same b i) (g : b.same c i) : a.same c i := by
  unfold TimeState.same at *
  split <;> first | trivial | exact Eq.trans g h

/-- Field `i` of two records agrees. -/
def CstState.same (a b : CstState) : Nat → Prop
  | 0 => b.alternate = a.alternate | 1 => b.reserve = a.reserve | 2 => b.map = a.map | 3 => b.links = a.links
  | 4 => b.changedAt = a.changedAt | 5 => b.nextFwd = a.nextFwd | 6 => b.fwds = a.fwds | 7 => b.results = a.results
  | 8 => b.txnMembers = a.txnMembers | 9 => b.applied = a.applied | 10 => b.commits = a.commits
  | 11 => b.held = a.held | 12 => b.reports = a.reports | 13 => b.meridian = a.meridian
  | 14 => b.reported = a.reported | 15 => b.swaps = a.swaps | 16 => b.poleGone = a.poleGone
  | _ => True

theorem CstState.same_refl (a : CstState) (i : Nat) : a.same a i := by
  unfold CstState.same
  split <;> trivial

theorem CstState.same_trans {a b c : CstState} {i : Nat} (h : a.same b i) (g : b.same c i) : a.same c i := by
  unfold CstState.same at *
  split <;> first | trivial | exact Eq.trans g h

/-- Field `i` of two records agrees. -/
def HostState.same (a b : HostState) : Nat → Prop
  | 0 => b.asked = a.asked | 1 => b.answered = a.answered | 2 => b.replay = a.replay | 3 => b.inEffect = a.inEffect
  | 4 => b.lastTxn = a.lastTxn | 5 => b.txns = a.txns | 6 => b.lastSnap = a.lastSnap | 7 => b.snaps = a.snaps
  | 8 => b.load = a.load
  | _ => True

theorem HostState.same_refl (a : HostState) (i : Nat) : a.same a i := by
  unfold HostState.same
  split <;> trivial

theorem HostState.same_trans {a b c : HostState} {i : Nat} (h : a.same b i) (g : b.same c i) : a.same c i := by
  unfold HostState.same at *
  split <;> first | trivial | exact Eq.trans g h

/-- Field `i` of two records agrees. -/
def ImgState.same (a b : ImgState) : Nat → Prop
  | 0 => b.owner = a.owner | 1 => b.sectors = a.sectors | 2 => b.staged = a.staged | 3 => b.deadlines = a.deadlines
  | 4 => b.activating = a.activating | 5 => b.patch = a.patch | 6 => b.purpose = a.purpose | 7 => b.fw = a.fw
  | 8 => b.copyA = a.copyA | 9 => b.copyB = a.copyB | 10 => b.preferB = a.preferB | 11 => b.area = a.area
  | _ => True

theorem ImgState.same_refl (a : ImgState) (i : Nat) : a.same a i := by
  unfold ImgState.same
  split <;> trivial

theorem ImgState.same_trans {a b c : ImgState} {i : Nat} (h : a.same b i) (g : b.same c i) : a.same c i := by
  unfold ImgState.same at *
  split <;> first | trivial | exact Eq.trans g h

/-- Field `i` of two records agrees. -/
def SecState.same (a b : SecState) : Nat → Prop
  | 0 => b.claimKey = a.claimKey | 1 => b.boot = a.boot | 2 => b.owners = a.owners
  | 3 => b.reservedLeaf = a.reservedLeaf | 4 => b.quote = a.quote | 5 => b.persisting = a.persisting
  | 6 => b.stageAt = a.stageAt
  | _ => True

theorem SecState.same_refl (a : SecState) (i : Nat) : a.same a i := by
  unfold SecState.same
  split <;> trivial

theorem SecState.same_trans {a b c : SecState} {i : Nat} (h : a.same b i) (g : b.same c i) : a.same c i := by
  unfold SecState.same at *
  split <;> first | trivial | exact Eq.trans g h

/-- Field `i` of two records agrees. -/
def PwrState.same (a b : PwrState) : Nat → Prop
  | 0 => b.porst = a.porst | 1 => b.held = a.held | 2 => b.off = a.off | 3 => b.outAt = a.outAt
  | 4 => b.calmAt = a.calmAt | 5 => b.cappedAt = a.cappedAt | 6 => b.refLostAt = a.refLostAt
  | 7 => b.softDue = a.softDue | 8 => b.warm = a.warm | 9 => b.hot = a.hot
  | _ => True

theorem PwrState.same_refl (a : PwrState) (i : Nat) : a.same a i := by
  unfold PwrState.same
  split <;> trivial

theorem PwrState.same_trans {a b c : PwrState} {i : Nat} (h : a.same b i) (g : b.same c i) : a.same c i := by
  unfold PwrState.same at *
  split <;> first | trivial | exact Eq.trans g h

/-- Part `i` of two states agrees: the fields of the state in the order of its declaration, a record's fields in its place,
the register file left out. -/
def samePart (s t : State) (i : Nat) : Prop :=
  if i < 1 then t.pending = s.pending
  else if i < 2 then t.now = s.now
  else if i < 3 then t.free = s.free
  else if i < 4 then t.out = s.out
  else if i < 5 then t.conf = s.conf
  else if i < 15 then s.seq.same t.seq (i - 5)
  else if i < 24 then s.arr.same t.arr (i - 15)
  else if i < 42 then s.ppe.same t.ppe (i - 24)
  else if i < 52 then s.cmp.same t.cmp (i - 42)
  else if i < 61 then s.col.same t.col (i - 52)
  else if i < 74 then s.mem.same t.mem (i - 61)
  else if i < 77 then s.bpm.same t.bpm (i - 74)
  else if i < 84 then s.ciph.same t.ciph (i - 77)
  else if i < 89 then s.sch.same t.sch (i - 84)
  else if i < 106 then s.peer.same t.peer (i - 89)
  else if i < 115 then s.evt.same t.evt (i - 106)
  else if i < 123 then s.bist.same t.bist (i - 115)
  else if i < 126 then s.line.same t.line (i - 123)
  else if i < 133 then s.fab.same t.fab (i - 126)
  else if i < 148 then s.opt.same t.opt (i - 133)
  else if i < 156 then s.time.same t.time (i - 148)
  else if i < 173 then s.cst.same t.cst (i - 156)
  else if i < 182 then s.host.same t.host (i - 173)
  else if i < 194 then s.img.same t.img (i - 182)
  else if i < 201 then s.sec.same t.sec (i - 194)
  else if i < 211 then s.pwr.same t.pwr (i - 201)
  else True

/-- An operation took `s` to `t`: it keeps the canonical forms, and changes only the registers whose bits are set in `B` and
the parts whose bits are set in `P`; bit 368 of `B` says that it may write any address. -/
structure Only (B P : Nat) (s t : State) : Prop where
  canon : s.Canon → t.Canon
  word : s.Canon → B.testBit 368 = false → ∀ a, (∀ i, B.testBit i = true → ¬ (regShape i).spans a) → t.word a = s.word a
  part : ∀ i, P.testBit i = false → samePart s t i

theorem samePart.refl (s : State) (i : Nat) : samePart s s i := by
  unfold samePart
  refine ite_of rfl ?_
  refine ite_of rfl ?_
  refine ite_of rfl ?_
  refine ite_of rfl ?_
  refine ite_of rfl ?_
  refine ite_of (SeqState.same_refl _ _) ?_
  refine ite_of (ArrState.same_refl _ _) ?_
  refine ite_of (PpeState.same_refl _ _) ?_
  refine ite_of (CmpState.same_refl _ _) ?_
  refine ite_of (ColState.same_refl _ _) ?_
  refine ite_of (MemState.same_refl _ _) ?_
  refine ite_of (BpmState.same_refl _ _) ?_
  refine ite_of (CiphState.same_refl _ _) ?_
  refine ite_of (SchState.same_refl _ _) ?_
  refine ite_of (PeerState.same_refl _ _) ?_
  refine ite_of (EvtState.same_refl _ _) ?_
  refine ite_of (BistState.same_refl _ _) ?_
  refine ite_of (LineState.same_refl _ _) ?_
  refine ite_of (FabState.same_refl _ _) ?_
  refine ite_of (OptState.same_refl _ _) ?_
  refine ite_of (TimeState.same_refl _ _) ?_
  refine ite_of (CstState.same_refl _ _) ?_
  refine ite_of (HostState.same_refl _ _) ?_
  refine ite_of (ImgState.same_refl _ _) ?_
  refine ite_of (SecState.same_refl _ _) ?_
  refine ite_of (PwrState.same_refl _ _) ?_
  trivial

theorem samePart.trans {s t u : State} {i : Nat} (h : samePart s t i) (g : samePart t u i) : samePart s u i := by
  unfold samePart at *
  refine ite_of2 (fun h g => Eq.trans g h) ?_ h g; clear h g; intro h g
  refine ite_of2 (fun h g => Eq.trans g h) ?_ h g; clear h g; intro h g
  refine ite_of2 (fun h g => Eq.trans g h) ?_ h g; clear h g; intro h g
  refine ite_of2 (fun h g => Eq.trans g h) ?_ h g; clear h g; intro h g
  refine ite_of2 (fun h g => Eq.trans g h) ?_ h g; clear h g; intro h g
  refine ite_of2 SeqState.same_trans ?_ h g; clear h g; intro h g
  refine ite_of2 ArrState.same_trans ?_ h g; clear h g; intro h g
  refine ite_of2 PpeState.same_trans ?_ h g; clear h g; intro h g
  refine ite_of2 CmpState.same_trans ?_ h g; clear h g; intro h g
  refine ite_of2 ColState.same_trans ?_ h g; clear h g; intro h g
  refine ite_of2 MemState.same_trans ?_ h g; clear h g; intro h g
  refine ite_of2 BpmState.same_trans ?_ h g; clear h g; intro h g
  refine ite_of2 CiphState.same_trans ?_ h g; clear h g; intro h g
  refine ite_of2 SchState.same_trans ?_ h g; clear h g; intro h g
  refine ite_of2 PeerState.same_trans ?_ h g; clear h g; intro h g
  refine ite_of2 EvtState.same_trans ?_ h g; clear h g; intro h g
  refine ite_of2 BistState.same_trans ?_ h g; clear h g; intro h g
  refine ite_of2 LineState.same_trans ?_ h g; clear h g; intro h g
  refine ite_of2 FabState.same_trans ?_ h g; clear h g; intro h g
  refine ite_of2 OptState.same_trans ?_ h g; clear h g; intro h g
  refine ite_of2 TimeState.same_trans ?_ h g; clear h g; intro h g
  refine ite_of2 CstState.same_trans ?_ h g; clear h g; intro h g
  refine ite_of2 HostState.same_trans ?_ h g; clear h g; intro h g
  refine ite_of2 ImgState.same_trans ?_ h g; clear h g; intro h g
  refine ite_of2 SecState.same_trans ?_ h g; clear h g; intro h g
  refine ite_of2 PwrState.same_trans ?_ h g; clear h g; intro h g
  trivial

/-- Two states agree in part `i`, when that is known of each record by itself. -/
theorem samePart_of {P : Nat} {s t : State}
    (hpending : P.testBit 0 = true ∨ t.pending = s.pending)
    (hnow : P.testBit 1 = true ∨ t.now = s.now)
    (hfree : P.testBit 2 = true ∨ t.free = s.free)
    (hout : P.testBit 3 = true ∨ t.out = s.out)
    (hconf : P.testBit 4 = true ∨ t.conf = s.conf)
    (hseq : ∀ k, P.testBit (k + 5) = false → s.seq.same t.seq k)
    (harr : ∀ k, P.testBit (k + 15) = false → s.arr.same t.arr k)
    (hppe : ∀ k, P.testBit (k + 24) = false → s.ppe.same t.ppe k)
    (hcmp : ∀ k, P.testBit (k + 42) = false → s.cmp.same t.cmp k)
    (hcol : ∀ k, P.testBit (k + 52) = false → s.col.same t.col k)
    (hmem : ∀ k, P.testBit (k + 61) = false → s.mem.same t.mem k)
    (hbpm : ∀ k, P.testBit (k + 74) = false → s.bpm.same t.bpm k)
    (hciph : ∀ k, P.testBit (k + 77) = false → s.ciph.same t.ciph k)
    (hsch : ∀ k, P.testBit (k + 84) = false → s.sch.same t.sch k)
    (hpeer : ∀ k, P.testBit (k + 89) = false → s.peer.same t.peer k)
    (hevt : ∀ k, P.testBit (k + 106) = false → s.evt.same t.evt k)
    (hbist : ∀ k, P.testBit (k + 115) = false → s.bist.same t.bist k)
    (hline : ∀ k, P.testBit (k + 123) = false → s.line.same t.line k)
    (hfab : ∀ k, P.testBit (k + 126) = false → s.fab.same t.fab k)
    (hopt : ∀ k, P.testBit (k + 133) = false → s.opt.same t.opt k)
    (htime : ∀ k, P.testBit (k + 148) = false → s.time.same t.time k)
    (hcst : ∀ k, P.testBit (k + 156) = false → s.cst.same t.cst k)
    (hhost : ∀ k, P.testBit (k + 173) = false → s.host.same t.host k)
    (himg : ∀ k, P.testBit (k + 182) = false → s.img.same t.img k)
    (hsec : ∀ k, P.testBit (k + 194) = false → s.sec.same t.sec k)
    (hpwr : ∀ k, P.testBit (k + 201) = false → s.pwr.same t.pwr k)
    (i : Nat) (hi : P.testBit i = false) : samePart s t i := by
  unfold samePart
  refine ite_dep (fun _ => hpending.resolve_left (by rw [← show i = 0 by omega, hi]; decide)) fun _ => ?_
  refine ite_dep (fun _ => hnow.resolve_left (by rw [← show i = 1 by omega, hi]; decide)) fun _ => ?_
  refine ite_dep (fun _ => hfree.resolve_left (by rw [← show i = 2 by omega, hi]; decide)) fun _ => ?_
  refine ite_dep (fun _ => hout.resolve_left (by rw [← show i = 3 by omega, hi]; decide)) fun _ => ?_
  refine ite_dep (fun _ => hconf.resolve_left (by rw [← show i = 4 by omega, hi]; decide)) fun _ => ?_
  refine ite_dep (fun _ => hseq _ (by rw [Nat.sub_add_cancel (by omega)]; exact hi)) fun _ => ?_
  refine ite_dep (fun _ => harr _ (by rw [Nat.sub_add_cancel (by omega)]; exact hi)) fun _ => ?_
  refine ite_dep (fun _ => hppe _ (by rw [Nat.sub_add_cancel (by omega)]; exact hi)) fun _ => ?_
  refine ite_dep (fun _ => hcmp _ (by rw [Nat.sub_add_cancel (by omega)]; exact hi)) fun _ => ?_
  refine ite_dep (fun _ => hcol _ (by rw [Nat.sub_add_cancel (by omega)]; exact hi)) fun _ => ?_
  refine ite_dep (fun _ => hmem _ (by rw [Nat.sub_add_cancel (by omega)]; exact hi)) fun _ => ?_
  refine ite_dep (fun _ => hbpm _ (by rw [Nat.sub_add_cancel (by omega)]; exact hi)) fun _ => ?_
  refine ite_dep (fun _ => hciph _ (by rw [Nat.sub_add_cancel (by omega)]; exact hi)) fun _ => ?_
  refine ite_dep (fun _ => hsch _ (by rw [Nat.sub_add_cancel (by omega)]; exact hi)) fun _ => ?_
  refine ite_dep (fun _ => hpeer _ (by rw [Nat.sub_add_cancel (by omega)]; exact hi)) fun _ => ?_
  refine ite_dep (fun _ => hevt _ (by rw [Nat.sub_add_cancel (by omega)]; exact hi)) fun _ => ?_
  refine ite_dep (fun _ => hbist _ (by rw [Nat.sub_add_cancel (by omega)]; exact hi)) fun _ => ?_
  refine ite_dep (fun _ => hline _ (by rw [Nat.sub_add_cancel (by omega)]; exact hi)) fun _ => ?_
  refine ite_dep (fun _ => hfab _ (by rw [Nat.sub_add_cancel (by omega)]; exact hi)) fun _ => ?_
  refine ite_dep (fun _ => hopt _ (by rw [Nat.sub_add_cancel (by omega)]; exact hi)) fun _ => ?_
  refine ite_dep (fun _ => htime _ (by rw [Nat.sub_add_cancel (by omega)]; exact hi)) fun _ => ?_
  refine ite_dep (fun _ => hcst _ (by rw [Nat.sub_add_cancel (by omega)]; exact hi)) fun _ => ?_
  refine ite_dep (fun _ => hhost _ (by rw [Nat.sub_add_cancel (by omega)]; exact hi)) fun _ => ?_
  refine ite_dep (fun _ => himg _ (by rw [Nat.sub_add_cancel (by omega)]; exact hi)) fun _ => ?_
  refine ite_dep (fun _ => hsec _ (by rw [Nat.sub_add_cancel (by omega)]; exact hi)) fun _ => ?_
  refine ite_dep (fun _ => hpwr _ (by rw [Nat.sub_add_cancel (by omega)]; exact hi)) fun _ => ?_
  trivial

theorem Only.refl (B P : Nat) (s : State) : Only B P s s := ⟨id, fun _ _ _ _ => rfl, fun i _ => samePart.refl s i⟩

theorem testBit_sub {b B i : Nat} (h : b ||| B = B) (hB : B.testBit i = false) : b.testBit i = false := by
  rw [← h, Nat.testBit_or, Bool.or_eq_false_iff] at hB
  exact hB.1

theorem testBit_of_or {p P i : Nat} (h : p ||| P = P) (hi : p.testBit i = true) : P.testBit i = true := by
  rw [← h, Nat.testBit_or, hi, Bool.true_or]

/-- One operation more. -/
theorem Only.step {B P b p : Nat} {s t u : State} (h : Only B P s t) (g : Only b p t u) (hb : b ||| B = B := by decide)
    (hp : p ||| P = P := by decide) : Only B P s u where
  canon hs := g.canon (h.canon hs)
  word hs hB a ha := (g.word (h.canon hs) (testBit_sub hb hB) a fun i hi => ha i (testBit_of_or hb hi)).trans
    (h.word hs hB a ha)
  part i hP := (h.part i hP).trans (g.part i (testBit_sub hp hP))

theorem Only.ite {B P : Nat} {s t u : State} {c : Prop} [Decidable c] (h : Only B P s t) (g : Only B P s u) :
    Only B P s (if c then t else u) := by split <;> assumption

theorem Only.ite' {B P : Nat} {s t u : State} {c : Prop} [Decidable c] (h : c → Only B P s t) (g : ¬ c → Only B P s u) :
    Only B P s (if c then t else u) := by
  split
  · exact h ‹_›
  · exact g ‹_›

theorem Only.iteSnd {α : Type} {B P : Nat} {s : State} {t u : α × State} {c : Prop} [Decidable c] (h : Only B P s t.2)
    (g : Only B P s u.2) : Only B P s (if c then t else u).2 := by split <;> assumption

theorem Only.iteSnd2 {α β : Type} {B P : Nat} {s : State} {t u : α × β × State} {c : Prop} [Decidable c]
    (h : Only B P s t.2.2) (g : Only B P s u.2.2) : Only B P s (if c then t else u).2.2 := by split <;> assumption

theorem Only.pair {α : Type} {B P : Nat} {s t : State} (a : α) (h : Only B P s t) : Only B P s (a, t).2 := h

theorem Only.pair2 {α β : Type} {B P : Nat} {s t : State} (a : α) (b : β) (h : Only B P s t) :
    Only B P s (a, b, t).2.2 := h

theorem Only.pairSnd {α β : Type} {B P : Nat} {s : State} {t : β × State} (a : α) (h : Only B P s t.2) :
    Only B P s (a, t).2.2 := h

theorem Only.of_snd {α : Type} {B P : Nat} {s t : State} {e : α × State} {a : α} (he : e = (a, t))
    (h : Only B P s e.2) : Only B P s t := by rw [he] at h; exact h

theorem Only.of_snd2 {α β : Type} {B P : Nat} {s t : State} {e : α × β × State} {a : α} {b : β} (he : e = (a, b, t))
    (h : Only B P s e.2.2) : Only B P s t := by rw [he] at h; exact h

/-- An operation that may give no state. -/
structure OnlyOpt (B P : Nat) (s : State) (o : Option State) : Prop where
  get : ∀ t, o = some t → Only B P s t

theorem OnlyOpt.none (B P : Nat) (s : State) : OnlyOpt B P s none := ⟨fun _ h => nomatch h⟩

theorem OnlyOpt.some {B P : Nat} {s t : State} (h : Only B P s t) : OnlyOpt B P s (some t) := ⟨fun _ e => by
  cases e; exact h⟩

theorem OnlyOpt.ite {B P : Nat} {s : State} {t u : Option State} {c : Prop} [Decidable c] (h : OnlyOpt B P s t)
    (g : OnlyOpt B P s u) : OnlyOpt B P s (if c then t else u) := by split <;> assumption

theorem Only.of_some {B P : Nat} {s t : State} {e : Option State} (he : e = some t) (h : OnlyOpt B P s e) :
    Only B P s t := h.get t he

theorem Only.getD {B P : Nat} {s t : State} {e : Option State} (h : OnlyOpt B P s e) (g : Only B P s t) :
    Only B P s (e.getD t) := by
  cases e with
  | none => exact g
  | some u => exact h.get u rfl

theorem Keeps.next {t : State} {Q : State → Prop} (h : Q t) : Keeps (.next t) Q := h

theorem Keeps.fault {r : Fault} {Q : State → Prop} : Keeps (.fault r) Q := trivial

theorem Keeps.ite {o p : Host.Outcome State Fault Refusal} {Q : State → Prop} {c : Prop} [Decidable c] (h : Keeps o Q)
    (g : Keeps p Q) : Keeps (if c then o else p) Q := by split <;> assumption

theorem Keeps.step {B P b p : Nat} {s t : State} {o : Host.Outcome State Fault Refusal} (h : Only B P s t)
    (g : Keeps o (Only b p t)) (hb : b ||| B = B := by decide) (hp : p ||| P = P := by decide) : Keeps o (Only B P s) := by
  cases o with
  | next u => exact Only.step h g hb hp
  | fault r => trivial
  | refused r => trivial

theorem OnlyOpt.step {B P b p : Nat} {s t : State} {o : Option State} (h : Only B P s t) (g : OnlyOpt b p t o)
    (hb : b ||| B = B := by decide) (hp : p ||| P = P := by decide) : OnlyOpt B P s o :=
  ⟨fun u hu => Only.step h (g.get u hu) hb hp⟩

theorem Only.foldl {α : Type} {B P : Nat} {s t : State} {f : State → α → State} {l : List α} (ht : Only B P s t)
    (h : ∀ u x, Only B P s u → Only B P s (f u x)) : Only B P s (l.foldl f t) := by
  induction l generalizing t with
  | nil => exact ht
  | cons x l ih => exact ih (h t x ht)

theorem Only.foldlSnd {α β : Type} {B P : Nat} {s : State} {t : β × State} {f : β × State → α → β × State} {l : List α}
    (ht : Only B P s t.2) (h : ∀ u x, Only B P s u.2 → Only B P s (f u x).2) : Only B P s (l.foldl f t).2 := by
  induction l generalizing t with
  | nil => exact ht
  | cons x l ih => exact ih (h t x ht)

/-! ### The file of registers -/

/-- A field's register is one whose bit is set in `B`. -/
def Fld.within (x : Fld) (B : Nat) : Bool :=
  let i := regNo x.base
  let r := regShape i
  B.testBit i && Nat.beq r.base x.base && Nat.beq r.n1 x.n1 && Nat.beq r.n2 x.n2 && Nat.beq r.s1 x.s1 && Nat.beq r.s2 x.s2

theorem Fld.spans_addr {x : Fld} {B k : Nat} (h : x.within B = true) (hk : x.has k = true) :
    B.testBit (regNo x.base) = true ∧ (regShape (regNo x.base)).spans (x.addr k) := by
  unfold Fld.within at h
  generalize regNo x.base = i at h ⊢
  simp only [Bool.and_eq_true, Nat.beq_eq] at h
  obtain ⟨⟨⟨⟨⟨h0, h1⟩, h2⟩, h3⟩, h4⟩, h5⟩ := h
  refine ⟨h0, k, ?_, ?_, ?_⟩
  · rw [h2, h3]
    exact of_decide_eq_true hk
  · unfold Reg.addr Fld.addr
    rw [h1, h3, h4, h5]
  · unfold Reg.addr Fld.addr
    rw [h1, h3, h4, h5]
    omega

theorem samePart_regs (s : State) (r : Tab Word) (i : Nat) : samePart s { s with regs := r } i := by
  unfold samePart
  refine ite_of rfl ?_
  refine ite_of rfl ?_
  refine ite_of rfl ?_
  refine ite_of rfl ?_
  refine ite_of rfl ?_
  refine ite_of (SeqState.same_refl _ _) ?_
  refine ite_of (ArrState.same_refl _ _) ?_
  refine ite_of (PpeState.same_refl _ _) ?_
  refine ite_of (CmpState.same_refl _ _) ?_
  refine ite_of (ColState.same_refl _ _) ?_
  refine ite_of (MemState.same_refl _ _) ?_
  refine ite_of (BpmState.same_refl _ _) ?_
  refine ite_of (CiphState.same_refl _ _) ?_
  refine ite_of (SchState.same_refl _ _) ?_
  refine ite_of (PeerState.same_refl _ _) ?_
  refine ite_of (EvtState.same_refl _ _) ?_
  refine ite_of (BistState.same_refl _ _) ?_
  refine ite_of (LineState.same_refl _ _) ?_
  refine ite_of (FabState.same_refl _ _) ?_
  refine ite_of (OptState.same_refl _ _) ?_
  refine ite_of (TimeState.same_refl _ _) ?_
  refine ite_of (CstState.same_refl _ _) ?_
  refine ite_of (HostState.same_refl _ _) ?_
  refine ite_of (ImgState.same_refl _ _) ?_
  refine ite_of (SecState.same_refl _ _) ?_
  refine ite_of (PwrState.same_refl _ _) ?_
  trivial

theorem Only.of_regs {B P : Nat} {s t : State} (hr : s.Canon → tabWf resetWord t.regs = true)
    (hw : s.Canon → B.testBit 368 = false → ∀ a, (∀ i, B.testBit i = true → ¬ (regShape i).spans a) → t.word a = s.word a)
    (h : t = { s with regs := t.regs }) : Only B P s t where
  canon hs := ⟨hr hs, by rw [h]; exact hs.2⟩
  word := hw
  part i _ := by
    rw [h]
    exact samePart_regs s t.regs i

theorem State.setf_only {B P : Nat} (s : State) (x : Fld) (v k : Nat) (hx : x.within B = true := by decide) :
    Only B P s (s.setf x v k) := by
  refine Only.of_regs (fun hs => tabWf_regSetFld hs.1 x k v) (fun hs _ a ha => ?_) (by unfold State.setf; rfl)
  unfold State.setf State.word regSetFld
  by_cases hk : x.has k = true
  · rw [if_pos hk]
    refine tget_tset_ne hs.1 (fun e => ?_) _
    exact ha _ (Fld.spans_addr hx hk).1 (e ▸ (Fld.spans_addr hx hk).2)
  · rw [if_neg hk]

theorem State.setWord_only (s : State) (a : Nat) (v : Word) : Only 1202453802380202612679414065556140558016349465041059773802132977424491020858679523053413887173001575952350707711 0 s (s.setWord a v) :=
  Only.of_regs (fun hs => tabWf_tset hs.1) (fun _ hB => absurd hB (by decide)) (by unfold State.setWord; rfl)

/-- A register is one whose bit is set in `B`. -/
def Reg.within (r : Reg) (B : Nat) : Bool :=
  let i := regNo r.base
  let q := regShape i
  B.testBit i && Nat.beq q.base r.base && Nat.beq q.n1 r.n1 && Nat.beq q.n2 r.n2 && Nat.beq q.s1 r.s1 && Nat.beq q.s2 r.s2

theorem State.setReg_only {B P : Nat} (s : State) (r : Reg) (k : Nat) (v : Word) (hr : r.within B = true := by decide) :
    Only B P s (s.setReg r k v) := by
  unfold State.setReg
  refine Only.ite' (fun hk => ?_) (fun _ => Only.refl _ _ _)
  refine Only.of_regs (fun hs => tabWf_tset hs.1) (fun hs _ a ha => ?_) (by unfold State.setWord; rfl)
  unfold State.setWord State.word regGet
  refine tget_tset_ne hs.1 (fun e => ?_) _
  unfold Reg.within at hr
  generalize regNo r.base = i at hr
  simp only [Bool.and_eq_true, Nat.beq_eq] at hr
  obtain ⟨⟨⟨⟨⟨h0, h1⟩, h2⟩, h3⟩, h4⟩, h5⟩ := hr
  refine ha i h0 ⟨k, by rw [h2, h3]; exact hk, ?_⟩
  unfold Reg.addr
  rw [e, h1, h3, h4, h5]
  omega

theorem State.event_only {B P : Nat} (s : State) (x : Fld) (k : Nat) (hx : x.within B = true := by decide) :
    Only B P s (s.event x k) := State.setf_only _ _ _ _ hx

theorem State.count_only {B P : Nat} (s : State) (x : Fld) (n k : Nat) (hx : x.within B = true := by decide) :
    Only B P s (s.count x n k) := State.setf_only _ _ _ _ hx

theorem State.putBit_only {B P : Nat} (s : State) (x : Fld) (b : Nat) (on : Bool) (k : Nat)
    (hx : x.within B = true := by decide) : Only B P s (s.putBit x b on k) := State.setf_only _ _ _ _ hx

theorem Only.trans {B P : Nat} {s t u : State} (h : Only B P s t) (g : Only B P t u) : Only B P s u :=
  h.step g (Nat.or_self B) (Nat.or_self P)

theorem State.eventIf_only {B P : Nat} (s : State) (b : Bool) (x : Fld) (k : Nat) (hx : x.within B = true := by decide) :
    Only B P s (s.eventIf b x k) := Only.ite (State.event_only _ _ _ hx) (Only.refl _ _ _)

theorem State.countEv_only {B P : Nat} (s : State) (x y : Fld) (n : Nat) (hx : x.within B = true := by decide)
    (hy : y.within B = true := by decide) : Only B P s (s.countEv x y n) :=
  (State.count_only _ _ _ _ hx).trans (State.event_only _ _ _ hy)

/-! ### Updates of fields -/

theorem Only.of_parts {B P : Nat} {s t : State} (hr : t.regs = s.regs) (hm : t.mem.cells = s.mem.cells)
    (h : ∀ i, P.testBit i = false → samePart s t i) : Only B P s t where
  canon hs := ⟨hr ▸ hs.1, hm ▸ hs.2⟩
  word _ _ a _ := by unfold State.word; rw [hr]
  part := h

theorem Only.up_pending {B P : Nat} {s b : State} {xpending} (h : Only B P s b)
    (hpending : P.testBit 0 = true := by decide) :
    Only B P s { b with pending := xpending } :=
  h.trans (Only.of_parts rfl rfl (samePart_of (.inl hpending) (.inr rfl) (.inr rfl) (.inr rfl) (.inr rfl) 
    (fun _ _ => SeqState.same_refl _ _) (fun _ _ => ArrState.same_refl _ _) (fun _ _ => PpeState.same_refl _ _) 
    (fun _ _ => CmpState.same_refl _ _) (fun _ _ => ColState.same_refl _ _) (fun _ _ => MemState.same_refl _ _) 
    (fun _ _ => BpmState.same_refl _ _) (fun _ _ => CiphState.same_refl _ _) (fun _ _ => SchState.same_refl _ _) 
    (fun _ _ => PeerState.same_refl _ _) (fun _ _ => EvtState.same_refl _ _) (fun _ _ => BistState.same_refl _ _) 
    (fun _ _ => LineState.same_refl _ _) (fun _ _ => FabState.same_refl _ _) (fun _ _ => OptState.same_refl _ _) 
    (fun _ _ => TimeState.same_refl _ _) (fun _ _ => CstState.same_refl _ _) (fun _ _ => HostState.same_refl _ _) 
    (fun _ _ => ImgState.same_refl _ _) (fun _ _ => SecState.same_refl _ _) (fun _ _ => PwrState.same_refl _ _)))

theorem Only.up_now {B P : Nat} {s b : State} {xnow} (h : Only B P s b)
    (hnow : P.testBit 1 = true := by decide) :
    Only B P s { b with now := xnow } :=
  h.trans (Only.of_parts rfl rfl (samePart_of (.inr rfl) (.inl hnow) (.inr rfl) (.inr rfl) (.inr rfl) 
    (fun _ _ => SeqState.same_refl _ _) (fun _ _ => ArrState.same_refl _ _) (fun _ _ => PpeState.same_refl _ _) 
    (fun _ _ => CmpState.same_refl _ _) (fun _ _ => ColState.same_refl _ _) (fun _ _ => MemState.same_refl _ _) 
    (fun _ _ => BpmState.same_refl _ _) (fun _ _ => CiphState.same_refl _ _) (fun _ _ => SchState.same_refl _ _) 
    (fun _ _ => PeerState.same_refl _ _) (fun _ _ => EvtState.same_refl _ _) (fun _ _ => BistState.same_refl _ _) 
    (fun _ _ => LineState.same_refl _ _) (fun _ _ => FabState.same_refl _ _) (fun _ _ => OptState.same_refl _ _) 
    (fun _ _ => TimeState.same_refl _ _) (fun _ _ => CstState.same_refl _ _) (fun _ _ => HostState.same_refl _ _) 
    (fun _ _ => ImgState.same_refl _ _) (fun _ _ => SecState.same_refl _ _) (fun _ _ => PwrState.same_refl _ _)))

theorem Only.up_free {B P : Nat} {s b : State} {xfree} (h : Only B P s b)
    (hfree : P.testBit 2 = true := by decide) :
    Only B P s { b with free := xfree } :=
  h.trans (Only.of_parts rfl rfl (samePart_of (.inr rfl) (.inr rfl) (.inl hfree) (.inr rfl) (.inr rfl) 
    (fun _ _ => SeqState.same_refl _ _) (fun _ _ => ArrState.same_refl _ _) (fun _ _ => PpeState.same_refl _ _) 
    (fun _ _ => CmpState.same_refl _ _) (fun _ _ => ColState.same_refl _ _) (fun _ _ => MemState.same_refl _ _) 
    (fun _ _ => BpmState.same_refl _ _) (fun _ _ => CiphState.same_refl _ _) (fun _ _ => SchState.same_refl _ _) 
    (fun _ _ => PeerState.same_refl _ _) (fun _ _ => EvtState.same_refl _ _) (fun _ _ => BistState.same_refl _ _) 
    (fun _ _ => LineState.same_refl _ _) (fun _ _ => FabState.same_refl _ _) (fun _ _ => OptState.same_refl _ _) 
    (fun _ _ => TimeState.same_refl _ _) (fun _ _ => CstState.same_refl _ _) (fun _ _ => HostState.same_refl _ _) 
    (fun _ _ => ImgState.same_refl _ _) (fun _ _ => SecState.same_refl _ _) (fun _ _ => PwrState.same_refl _ _)))

theorem Only.up_out {B P : Nat} {s b : State} {xout} (h : Only B P s b)
    (hout : P.testBit 3 = true := by decide) :
    Only B P s { b with out := xout } :=
  h.trans (Only.of_parts rfl rfl (samePart_of (.inr rfl) (.inr rfl) (.inr rfl) (.inl hout) (.inr rfl) 
    (fun _ _ => SeqState.same_refl _ _) (fun _ _ => ArrState.same_refl _ _) (fun _ _ => PpeState.same_refl _ _) 
    (fun _ _ => CmpState.same_refl _ _) (fun _ _ => ColState.same_refl _ _) (fun _ _ => MemState.same_refl _ _) 
    (fun _ _ => BpmState.same_refl _ _) (fun _ _ => CiphState.same_refl _ _) (fun _ _ => SchState.same_refl _ _) 
    (fun _ _ => PeerState.same_refl _ _) (fun _ _ => EvtState.same_refl _ _) (fun _ _ => BistState.same_refl _ _) 
    (fun _ _ => LineState.same_refl _ _) (fun _ _ => FabState.same_refl _ _) (fun _ _ => OptState.same_refl _ _) 
    (fun _ _ => TimeState.same_refl _ _) (fun _ _ => CstState.same_refl _ _) (fun _ _ => HostState.same_refl _ _) 
    (fun _ _ => ImgState.same_refl _ _) (fun _ _ => SecState.same_refl _ _) (fun _ _ => PwrState.same_refl _ _)))

theorem Only.up_conf {B P : Nat} {s b : State} {xconf} (h : Only B P s b)
    (hconf : P.testBit 4 = true := by decide) :
    Only B P s { b with conf := xconf } :=
  h.trans (Only.of_parts rfl rfl (samePart_of (.inr rfl) (.inr rfl) (.inr rfl) (.inr rfl) (.inl hconf) 
    (fun _ _ => SeqState.same_refl _ _) (fun _ _ => ArrState.same_refl _ _) (fun _ _ => PpeState.same_refl _ _) 
    (fun _ _ => CmpState.same_refl _ _) (fun _ _ => ColState.same_refl _ _) (fun _ _ => MemState.same_refl _ _) 
    (fun _ _ => BpmState.same_refl _ _) (fun _ _ => CiphState.same_refl _ _) (fun _ _ => SchState.same_refl _ _) 
    (fun _ _ => PeerState.same_refl _ _) (fun _ _ => EvtState.same_refl _ _) (fun _ _ => BistState.same_refl _ _) 
    (fun _ _ => LineState.same_refl _ _) (fun _ _ => FabState.same_refl _ _) (fun _ _ => OptState.same_refl _ _) 
    (fun _ _ => TimeState.same_refl _ _) (fun _ _ => CstState.same_refl _ _) (fun _ _ => HostState.same_refl _ _) 
    (fun _ _ => ImgState.same_refl _ _) (fun _ _ => SecState.same_refl _ _) (fun _ _ => PwrState.same_refl _ _)))

theorem Only.up_seq {B P : Nat} {s b : State} {xseq} (h : Only B P s b)
    (hseq : ∀ k, P.testBit (k + 5) = false → b.seq.same xseq k := by
      intro k hk; unfold SeqState.same; split <;> first | exact absurd hk (by decide) | rfl | trivial) :
    Only B P s { b with seq := xseq } :=
  h.trans (Only.of_parts rfl rfl (samePart_of (.inr rfl) (.inr rfl) (.inr rfl) (.inr rfl) (.inr rfl) hseq 
    (fun _ _ => ArrState.same_refl _ _) (fun _ _ => PpeState.same_refl _ _) (fun _ _ => CmpState.same_refl _ _) 
    (fun _ _ => ColState.same_refl _ _) (fun _ _ => MemState.same_refl _ _) (fun _ _ => BpmState.same_refl _ _) 
    (fun _ _ => CiphState.same_refl _ _) (fun _ _ => SchState.same_refl _ _) (fun _ _ => PeerState.same_refl _ _) 
    (fun _ _ => EvtState.same_refl _ _) (fun _ _ => BistState.same_refl _ _) (fun _ _ => LineState.same_refl _ _) 
    (fun _ _ => FabState.same_refl _ _) (fun _ _ => OptState.same_refl _ _) (fun _ _ => TimeState.same_refl _ _) 
    (fun _ _ => CstState.same_refl _ _) (fun _ _ => HostState.same_refl _ _) (fun _ _ => ImgState.same_refl _ _) 
    (fun _ _ => SecState.same_refl _ _) (fun _ _ => PwrState.same_refl _ _)))

theorem Only.up_arr {B P : Nat} {s b : State} {xarr} (h : Only B P s b)
    (harr : ∀ k, P.testBit (k + 15) = false → b.arr.same xarr k := by
      intro k hk; unfold ArrState.same; split <;> first | exact absurd hk (by decide) | rfl | trivial) :
    Only B P s { b with arr := xarr } :=
  h.trans (Only.of_parts rfl rfl (samePart_of (.inr rfl) (.inr rfl) (.inr rfl) (.inr rfl) (.inr rfl) 
    (fun _ _ => SeqState.same_refl _ _) harr (fun _ _ => PpeState.same_refl _ _) (fun _ _ => CmpState.same_refl _ _) 
    (fun _ _ => ColState.same_refl _ _) (fun _ _ => MemState.same_refl _ _) (fun _ _ => BpmState.same_refl _ _) 
    (fun _ _ => CiphState.same_refl _ _) (fun _ _ => SchState.same_refl _ _) (fun _ _ => PeerState.same_refl _ _) 
    (fun _ _ => EvtState.same_refl _ _) (fun _ _ => BistState.same_refl _ _) (fun _ _ => LineState.same_refl _ _) 
    (fun _ _ => FabState.same_refl _ _) (fun _ _ => OptState.same_refl _ _) (fun _ _ => TimeState.same_refl _ _) 
    (fun _ _ => CstState.same_refl _ _) (fun _ _ => HostState.same_refl _ _) (fun _ _ => ImgState.same_refl _ _) 
    (fun _ _ => SecState.same_refl _ _) (fun _ _ => PwrState.same_refl _ _)))

theorem Only.up_ppe {B P : Nat} {s b : State} {xppe} (h : Only B P s b)
    (hppe : ∀ k, P.testBit (k + 24) = false → b.ppe.same xppe k := by
      intro k hk; unfold PpeState.same; split <;> first | exact absurd hk (by decide) | rfl | trivial) :
    Only B P s { b with ppe := xppe } :=
  h.trans (Only.of_parts rfl rfl (samePart_of (.inr rfl) (.inr rfl) (.inr rfl) (.inr rfl) (.inr rfl) 
    (fun _ _ => SeqState.same_refl _ _) (fun _ _ => ArrState.same_refl _ _) hppe (fun _ _ => CmpState.same_refl _ _) 
    (fun _ _ => ColState.same_refl _ _) (fun _ _ => MemState.same_refl _ _) (fun _ _ => BpmState.same_refl _ _) 
    (fun _ _ => CiphState.same_refl _ _) (fun _ _ => SchState.same_refl _ _) (fun _ _ => PeerState.same_refl _ _) 
    (fun _ _ => EvtState.same_refl _ _) (fun _ _ => BistState.same_refl _ _) (fun _ _ => LineState.same_refl _ _) 
    (fun _ _ => FabState.same_refl _ _) (fun _ _ => OptState.same_refl _ _) (fun _ _ => TimeState.same_refl _ _) 
    (fun _ _ => CstState.same_refl _ _) (fun _ _ => HostState.same_refl _ _) (fun _ _ => ImgState.same_refl _ _) 
    (fun _ _ => SecState.same_refl _ _) (fun _ _ => PwrState.same_refl _ _)))

theorem Only.up_cmp {B P : Nat} {s b : State} {xcmp} (h : Only B P s b)
    (hcmp : ∀ k, P.testBit (k + 42) = false → b.cmp.same xcmp k := by
      intro k hk; unfold CmpState.same; split <;> first | exact absurd hk (by decide) | rfl | trivial) :
    Only B P s { b with cmp := xcmp } :=
  h.trans (Only.of_parts rfl rfl (samePart_of (.inr rfl) (.inr rfl) (.inr rfl) (.inr rfl) (.inr rfl) 
    (fun _ _ => SeqState.same_refl _ _) (fun _ _ => ArrState.same_refl _ _) (fun _ _ => PpeState.same_refl _ _) hcmp 
    (fun _ _ => ColState.same_refl _ _) (fun _ _ => MemState.same_refl _ _) (fun _ _ => BpmState.same_refl _ _) 
    (fun _ _ => CiphState.same_refl _ _) (fun _ _ => SchState.same_refl _ _) (fun _ _ => PeerState.same_refl _ _) 
    (fun _ _ => EvtState.same_refl _ _) (fun _ _ => BistState.same_refl _ _) (fun _ _ => LineState.same_refl _ _) 
    (fun _ _ => FabState.same_refl _ _) (fun _ _ => OptState.same_refl _ _) (fun _ _ => TimeState.same_refl _ _) 
    (fun _ _ => CstState.same_refl _ _) (fun _ _ => HostState.same_refl _ _) (fun _ _ => ImgState.same_refl _ _) 
    (fun _ _ => SecState.same_refl _ _) (fun _ _ => PwrState.same_refl _ _)))

theorem Only.up_col {B P : Nat} {s b : State} {xcol} (h : Only B P s b)
    (hcol : ∀ k, P.testBit (k + 52) = false → b.col.same xcol k := by
      intro k hk; unfold ColState.same; split <;> first | exact absurd hk (by decide) | rfl | trivial) :
    Only B P s { b with col := xcol } :=
  h.trans (Only.of_parts rfl rfl (samePart_of (.inr rfl) (.inr rfl) (.inr rfl) (.inr rfl) (.inr rfl) 
    (fun _ _ => SeqState.same_refl _ _) (fun _ _ => ArrState.same_refl _ _) (fun _ _ => PpeState.same_refl _ _) 
    (fun _ _ => CmpState.same_refl _ _) hcol (fun _ _ => MemState.same_refl _ _) (fun _ _ => BpmState.same_refl _ _) 
    (fun _ _ => CiphState.same_refl _ _) (fun _ _ => SchState.same_refl _ _) (fun _ _ => PeerState.same_refl _ _) 
    (fun _ _ => EvtState.same_refl _ _) (fun _ _ => BistState.same_refl _ _) (fun _ _ => LineState.same_refl _ _) 
    (fun _ _ => FabState.same_refl _ _) (fun _ _ => OptState.same_refl _ _) (fun _ _ => TimeState.same_refl _ _) 
    (fun _ _ => CstState.same_refl _ _) (fun _ _ => HostState.same_refl _ _) (fun _ _ => ImgState.same_refl _ _) 
    (fun _ _ => SecState.same_refl _ _) (fun _ _ => PwrState.same_refl _ _)))

theorem Only.up_mem {B P : Nat} {s b : State} {xmem} (h : Only B P s b)
    (hmem : ∀ k, P.testBit (k + 61) = false → b.mem.same xmem k := by
      intro k hk; unfold MemState.same; split <;> first | exact absurd hk (by decide) | rfl | trivial)
    (hc : xmem.cells = b.mem.cells := by rfl) :
    Only B P s { b with mem := xmem } :=
  h.trans (Only.of_parts rfl hc (samePart_of (.inr rfl) (.inr rfl) (.inr rfl) (.inr rfl) (.inr rfl) 
    (fun _ _ => SeqState.same_refl _ _) (fun _ _ => ArrState.same_refl _ _) (fun _ _ => PpeState.same_refl _ _) 
    (fun _ _ => CmpState.same_refl _ _) (fun _ _ => ColState.same_refl _ _) hmem (fun _ _ => BpmState.same_refl _ _) 
    (fun _ _ => CiphState.same_refl _ _) (fun _ _ => SchState.same_refl _ _) (fun _ _ => PeerState.same_refl _ _) 
    (fun _ _ => EvtState.same_refl _ _) (fun _ _ => BistState.same_refl _ _) (fun _ _ => LineState.same_refl _ _) 
    (fun _ _ => FabState.same_refl _ _) (fun _ _ => OptState.same_refl _ _) (fun _ _ => TimeState.same_refl _ _) 
    (fun _ _ => CstState.same_refl _ _) (fun _ _ => HostState.same_refl _ _) (fun _ _ => ImgState.same_refl _ _) 
    (fun _ _ => SecState.same_refl _ _) (fun _ _ => PwrState.same_refl _ _)))

theorem Only.up_bpm {B P : Nat} {s b : State} {xbpm} (h : Only B P s b)
    (hbpm : ∀ k, P.testBit (k + 74) = false → b.bpm.same xbpm k := by
      intro k hk; unfold BpmState.same; split <;> first | exact absurd hk (by decide) | rfl | trivial) :
    Only B P s { b with bpm := xbpm } :=
  h.trans (Only.of_parts rfl rfl (samePart_of (.inr rfl) (.inr rfl) (.inr rfl) (.inr rfl) (.inr rfl) 
    (fun _ _ => SeqState.same_refl _ _) (fun _ _ => ArrState.same_refl _ _) (fun _ _ => PpeState.same_refl _ _) 
    (fun _ _ => CmpState.same_refl _ _) (fun _ _ => ColState.same_refl _ _) (fun _ _ => MemState.same_refl _ _) hbpm 
    (fun _ _ => CiphState.same_refl _ _) (fun _ _ => SchState.same_refl _ _) (fun _ _ => PeerState.same_refl _ _) 
    (fun _ _ => EvtState.same_refl _ _) (fun _ _ => BistState.same_refl _ _) (fun _ _ => LineState.same_refl _ _) 
    (fun _ _ => FabState.same_refl _ _) (fun _ _ => OptState.same_refl _ _) (fun _ _ => TimeState.same_refl _ _) 
    (fun _ _ => CstState.same_refl _ _) (fun _ _ => HostState.same_refl _ _) (fun _ _ => ImgState.same_refl _ _) 
    (fun _ _ => SecState.same_refl _ _) (fun _ _ => PwrState.same_refl _ _)))

theorem Only.up_ciph {B P : Nat} {s b : State} {xciph} (h : Only B P s b)
    (hciph : ∀ k, P.testBit (k + 77) = false → b.ciph.same xciph k := by
      intro k hk; unfold CiphState.same; split <;> first | exact absurd hk (by decide) | rfl | trivial) :
    Only B P s { b with ciph := xciph } :=
  h.trans (Only.of_parts rfl rfl (samePart_of (.inr rfl) (.inr rfl) (.inr rfl) (.inr rfl) (.inr rfl) 
    (fun _ _ => SeqState.same_refl _ _) (fun _ _ => ArrState.same_refl _ _) (fun _ _ => PpeState.same_refl _ _) 
    (fun _ _ => CmpState.same_refl _ _) (fun _ _ => ColState.same_refl _ _) (fun _ _ => MemState.same_refl _ _) 
    (fun _ _ => BpmState.same_refl _ _) hciph (fun _ _ => SchState.same_refl _ _) 
    (fun _ _ => PeerState.same_refl _ _) (fun _ _ => EvtState.same_refl _ _) (fun _ _ => BistState.same_refl _ _) 
    (fun _ _ => LineState.same_refl _ _) (fun _ _ => FabState.same_refl _ _) (fun _ _ => OptState.same_refl _ _) 
    (fun _ _ => TimeState.same_refl _ _) (fun _ _ => CstState.same_refl _ _) (fun _ _ => HostState.same_refl _ _) 
    (fun _ _ => ImgState.same_refl _ _) (fun _ _ => SecState.same_refl _ _) (fun _ _ => PwrState.same_refl _ _)))

theorem Only.up_sch {B P : Nat} {s b : State} {xsch} (h : Only B P s b)
    (hsch : ∀ k, P.testBit (k + 84) = false → b.sch.same xsch k := by
      intro k hk; unfold SchState.same; split <;> first | exact absurd hk (by decide) | rfl | trivial) :
    Only B P s { b with sch := xsch } :=
  h.trans (Only.of_parts rfl rfl (samePart_of (.inr rfl) (.inr rfl) (.inr rfl) (.inr rfl) (.inr rfl) 
    (fun _ _ => SeqState.same_refl _ _) (fun _ _ => ArrState.same_refl _ _) (fun _ _ => PpeState.same_refl _ _) 
    (fun _ _ => CmpState.same_refl _ _) (fun _ _ => ColState.same_refl _ _) (fun _ _ => MemState.same_refl _ _) 
    (fun _ _ => BpmState.same_refl _ _) (fun _ _ => CiphState.same_refl _ _) hsch 
    (fun _ _ => PeerState.same_refl _ _) (fun _ _ => EvtState.same_refl _ _) (fun _ _ => BistState.same_refl _ _) 
    (fun _ _ => LineState.same_refl _ _) (fun _ _ => FabState.same_refl _ _) (fun _ _ => OptState.same_refl _ _) 
    (fun _ _ => TimeState.same_refl _ _) (fun _ _ => CstState.same_refl _ _) (fun _ _ => HostState.same_refl _ _) 
    (fun _ _ => ImgState.same_refl _ _) (fun _ _ => SecState.same_refl _ _) (fun _ _ => PwrState.same_refl _ _)))

theorem Only.up_peer {B P : Nat} {s b : State} {xpeer} (h : Only B P s b)
    (hpeer : ∀ k, P.testBit (k + 89) = false → b.peer.same xpeer k := by
      intro k hk; unfold PeerState.same; split <;> first | exact absurd hk (by decide) | rfl | trivial) :
    Only B P s { b with peer := xpeer } :=
  h.trans (Only.of_parts rfl rfl (samePart_of (.inr rfl) (.inr rfl) (.inr rfl) (.inr rfl) (.inr rfl) 
    (fun _ _ => SeqState.same_refl _ _) (fun _ _ => ArrState.same_refl _ _) (fun _ _ => PpeState.same_refl _ _) 
    (fun _ _ => CmpState.same_refl _ _) (fun _ _ => ColState.same_refl _ _) (fun _ _ => MemState.same_refl _ _) 
    (fun _ _ => BpmState.same_refl _ _) (fun _ _ => CiphState.same_refl _ _) (fun _ _ => SchState.same_refl _ _) 
    hpeer (fun _ _ => EvtState.same_refl _ _) (fun _ _ => BistState.same_refl _ _) 
    (fun _ _ => LineState.same_refl _ _) (fun _ _ => FabState.same_refl _ _) (fun _ _ => OptState.same_refl _ _) 
    (fun _ _ => TimeState.same_refl _ _) (fun _ _ => CstState.same_refl _ _) (fun _ _ => HostState.same_refl _ _) 
    (fun _ _ => ImgState.same_refl _ _) (fun _ _ => SecState.same_refl _ _) (fun _ _ => PwrState.same_refl _ _)))

theorem Only.up_evt {B P : Nat} {s b : State} {xevt} (h : Only B P s b)
    (hevt : ∀ k, P.testBit (k + 106) = false → b.evt.same xevt k := by
      intro k hk; unfold EvtState.same; split <;> first | exact absurd hk (by decide) | rfl | trivial) :
    Only B P s { b with evt := xevt } :=
  h.trans (Only.of_parts rfl rfl (samePart_of (.inr rfl) (.inr rfl) (.inr rfl) (.inr rfl) (.inr rfl) 
    (fun _ _ => SeqState.same_refl _ _) (fun _ _ => ArrState.same_refl _ _) (fun _ _ => PpeState.same_refl _ _) 
    (fun _ _ => CmpState.same_refl _ _) (fun _ _ => ColState.same_refl _ _) (fun _ _ => MemState.same_refl _ _) 
    (fun _ _ => BpmState.same_refl _ _) (fun _ _ => CiphState.same_refl _ _) (fun _ _ => SchState.same_refl _ _) 
    (fun _ _ => PeerState.same_refl _ _) hevt (fun _ _ => BistState.same_refl _ _) 
    (fun _ _ => LineState.same_refl _ _) (fun _ _ => FabState.same_refl _ _) (fun _ _ => OptState.same_refl _ _) 
    (fun _ _ => TimeState.same_refl _ _) (fun _ _ => CstState.same_refl _ _) (fun _ _ => HostState.same_refl _ _) 
    (fun _ _ => ImgState.same_refl _ _) (fun _ _ => SecState.same_refl _ _) (fun _ _ => PwrState.same_refl _ _)))

theorem Only.up_bist {B P : Nat} {s b : State} {xbist} (h : Only B P s b)
    (hbist : ∀ k, P.testBit (k + 115) = false → b.bist.same xbist k := by
      intro k hk; unfold BistState.same; split <;> first | exact absurd hk (by decide) | rfl | trivial) :
    Only B P s { b with bist := xbist } :=
  h.trans (Only.of_parts rfl rfl (samePart_of (.inr rfl) (.inr rfl) (.inr rfl) (.inr rfl) (.inr rfl) 
    (fun _ _ => SeqState.same_refl _ _) (fun _ _ => ArrState.same_refl _ _) (fun _ _ => PpeState.same_refl _ _) 
    (fun _ _ => CmpState.same_refl _ _) (fun _ _ => ColState.same_refl _ _) (fun _ _ => MemState.same_refl _ _) 
    (fun _ _ => BpmState.same_refl _ _) (fun _ _ => CiphState.same_refl _ _) (fun _ _ => SchState.same_refl _ _) 
    (fun _ _ => PeerState.same_refl _ _) (fun _ _ => EvtState.same_refl _ _) hbist 
    (fun _ _ => LineState.same_refl _ _) (fun _ _ => FabState.same_refl _ _) (fun _ _ => OptState.same_refl _ _) 
    (fun _ _ => TimeState.same_refl _ _) (fun _ _ => CstState.same_refl _ _) (fun _ _ => HostState.same_refl _ _) 
    (fun _ _ => ImgState.same_refl _ _) (fun _ _ => SecState.same_refl _ _) (fun _ _ => PwrState.same_refl _ _)))

theorem Only.up_line {B P : Nat} {s b : State} {xline} (h : Only B P s b)
    (hline : ∀ k, P.testBit (k + 123) = false → b.line.same xline k := by
      intro k hk; unfold LineState.same; split <;> first | exact absurd hk (by decide) | rfl | trivial) :
    Only B P s { b with line := xline } :=
  h.trans (Only.of_parts rfl rfl (samePart_of (.inr rfl) (.inr rfl) (.inr rfl) (.inr rfl) (.inr rfl) 
    (fun _ _ => SeqState.same_refl _ _) (fun _ _ => ArrState.same_refl _ _) (fun _ _ => PpeState.same_refl _ _) 
    (fun _ _ => CmpState.same_refl _ _) (fun _ _ => ColState.same_refl _ _) (fun _ _ => MemState.same_refl _ _) 
    (fun _ _ => BpmState.same_refl _ _) (fun _ _ => CiphState.same_refl _ _) (fun _ _ => SchState.same_refl _ _) 
    (fun _ _ => PeerState.same_refl _ _) (fun _ _ => EvtState.same_refl _ _) (fun _ _ => BistState.same_refl _ _) 
    hline (fun _ _ => FabState.same_refl _ _) (fun _ _ => OptState.same_refl _ _) 
    (fun _ _ => TimeState.same_refl _ _) (fun _ _ => CstState.same_refl _ _) (fun _ _ => HostState.same_refl _ _) 
    (fun _ _ => ImgState.same_refl _ _) (fun _ _ => SecState.same_refl _ _) (fun _ _ => PwrState.same_refl _ _)))

theorem Only.up_fab {B P : Nat} {s b : State} {xfab} (h : Only B P s b)
    (hfab : ∀ k, P.testBit (k + 126) = false → b.fab.same xfab k := by
      intro k hk; unfold FabState.same; split <;> first | exact absurd hk (by decide) | rfl | trivial) :
    Only B P s { b with fab := xfab } :=
  h.trans (Only.of_parts rfl rfl (samePart_of (.inr rfl) (.inr rfl) (.inr rfl) (.inr rfl) (.inr rfl) 
    (fun _ _ => SeqState.same_refl _ _) (fun _ _ => ArrState.same_refl _ _) (fun _ _ => PpeState.same_refl _ _) 
    (fun _ _ => CmpState.same_refl _ _) (fun _ _ => ColState.same_refl _ _) (fun _ _ => MemState.same_refl _ _) 
    (fun _ _ => BpmState.same_refl _ _) (fun _ _ => CiphState.same_refl _ _) (fun _ _ => SchState.same_refl _ _) 
    (fun _ _ => PeerState.same_refl _ _) (fun _ _ => EvtState.same_refl _ _) (fun _ _ => BistState.same_refl _ _) 
    (fun _ _ => LineState.same_refl _ _) hfab (fun _ _ => OptState.same_refl _ _) 
    (fun _ _ => TimeState.same_refl _ _) (fun _ _ => CstState.same_refl _ _) (fun _ _ => HostState.same_refl _ _) 
    (fun _ _ => ImgState.same_refl _ _) (fun _ _ => SecState.same_refl _ _) (fun _ _ => PwrState.same_refl _ _)))

theorem Only.up_opt {B P : Nat} {s b : State} {xopt} (h : Only B P s b)
    (hopt : ∀ k, P.testBit (k + 133) = false → b.opt.same xopt k := by
      intro k hk; unfold OptState.same; split <;> first | exact absurd hk (by decide) | rfl | trivial) :
    Only B P s { b with opt := xopt } :=
  h.trans (Only.of_parts rfl rfl (samePart_of (.inr rfl) (.inr rfl) (.inr rfl) (.inr rfl) (.inr rfl) 
    (fun _ _ => SeqState.same_refl _ _) (fun _ _ => ArrState.same_refl _ _) (fun _ _ => PpeState.same_refl _ _) 
    (fun _ _ => CmpState.same_refl _ _) (fun _ _ => ColState.same_refl _ _) (fun _ _ => MemState.same_refl _ _) 
    (fun _ _ => BpmState.same_refl _ _) (fun _ _ => CiphState.same_refl _ _) (fun _ _ => SchState.same_refl _ _) 
    (fun _ _ => PeerState.same_refl _ _) (fun _ _ => EvtState.same_refl _ _) (fun _ _ => BistState.same_refl _ _) 
    (fun _ _ => LineState.same_refl _ _) (fun _ _ => FabState.same_refl _ _) hopt 
    (fun _ _ => TimeState.same_refl _ _) (fun _ _ => CstState.same_refl _ _) (fun _ _ => HostState.same_refl _ _) 
    (fun _ _ => ImgState.same_refl _ _) (fun _ _ => SecState.same_refl _ _) (fun _ _ => PwrState.same_refl _ _)))

theorem Only.up_time {B P : Nat} {s b : State} {xtime} (h : Only B P s b)
    (htime : ∀ k, P.testBit (k + 148) = false → b.time.same xtime k := by
      intro k hk; unfold TimeState.same; split <;> first | exact absurd hk (by decide) | rfl | trivial) :
    Only B P s { b with time := xtime } :=
  h.trans (Only.of_parts rfl rfl (samePart_of (.inr rfl) (.inr rfl) (.inr rfl) (.inr rfl) (.inr rfl) 
    (fun _ _ => SeqState.same_refl _ _) (fun _ _ => ArrState.same_refl _ _) (fun _ _ => PpeState.same_refl _ _) 
    (fun _ _ => CmpState.same_refl _ _) (fun _ _ => ColState.same_refl _ _) (fun _ _ => MemState.same_refl _ _) 
    (fun _ _ => BpmState.same_refl _ _) (fun _ _ => CiphState.same_refl _ _) (fun _ _ => SchState.same_refl _ _) 
    (fun _ _ => PeerState.same_refl _ _) (fun _ _ => EvtState.same_refl _ _) (fun _ _ => BistState.same_refl _ _) 
    (fun _ _ => LineState.same_refl _ _) (fun _ _ => FabState.same_refl _ _) (fun _ _ => OptState.same_refl _ _) 
    htime (fun _ _ => CstState.same_refl _ _) (fun _ _ => HostState.same_refl _ _) 
    (fun _ _ => ImgState.same_refl _ _) (fun _ _ => SecState.same_refl _ _) (fun _ _ => PwrState.same_refl _ _)))

theorem Only.up_cst {B P : Nat} {s b : State} {xcst} (h : Only B P s b)
    (hcst : ∀ k, P.testBit (k + 156) = false → b.cst.same xcst k := by
      intro k hk; unfold CstState.same; split <;> first | exact absurd hk (by decide) | rfl | trivial) :
    Only B P s { b with cst := xcst } :=
  h.trans (Only.of_parts rfl rfl (samePart_of (.inr rfl) (.inr rfl) (.inr rfl) (.inr rfl) (.inr rfl) 
    (fun _ _ => SeqState.same_refl _ _) (fun _ _ => ArrState.same_refl _ _) (fun _ _ => PpeState.same_refl _ _) 
    (fun _ _ => CmpState.same_refl _ _) (fun _ _ => ColState.same_refl _ _) (fun _ _ => MemState.same_refl _ _) 
    (fun _ _ => BpmState.same_refl _ _) (fun _ _ => CiphState.same_refl _ _) (fun _ _ => SchState.same_refl _ _) 
    (fun _ _ => PeerState.same_refl _ _) (fun _ _ => EvtState.same_refl _ _) (fun _ _ => BistState.same_refl _ _) 
    (fun _ _ => LineState.same_refl _ _) (fun _ _ => FabState.same_refl _ _) (fun _ _ => OptState.same_refl _ _) 
    (fun _ _ => TimeState.same_refl _ _) hcst (fun _ _ => HostState.same_refl _ _) 
    (fun _ _ => ImgState.same_refl _ _) (fun _ _ => SecState.same_refl _ _) (fun _ _ => PwrState.same_refl _ _)))

theorem Only.up_host {B P : Nat} {s b : State} {xhost} (h : Only B P s b)
    (hhost : ∀ k, P.testBit (k + 173) = false → b.host.same xhost k := by
      intro k hk; unfold HostState.same; split <;> first | exact absurd hk (by decide) | rfl | trivial) :
    Only B P s { b with host := xhost } :=
  h.trans (Only.of_parts rfl rfl (samePart_of (.inr rfl) (.inr rfl) (.inr rfl) (.inr rfl) (.inr rfl) 
    (fun _ _ => SeqState.same_refl _ _) (fun _ _ => ArrState.same_refl _ _) (fun _ _ => PpeState.same_refl _ _) 
    (fun _ _ => CmpState.same_refl _ _) (fun _ _ => ColState.same_refl _ _) (fun _ _ => MemState.same_refl _ _) 
    (fun _ _ => BpmState.same_refl _ _) (fun _ _ => CiphState.same_refl _ _) (fun _ _ => SchState.same_refl _ _) 
    (fun _ _ => PeerState.same_refl _ _) (fun _ _ => EvtState.same_refl _ _) (fun _ _ => BistState.same_refl _ _) 
    (fun _ _ => LineState.same_refl _ _) (fun _ _ => FabState.same_refl _ _) (fun _ _ => OptState.same_refl _ _) 
    (fun _ _ => TimeState.same_refl _ _) (fun _ _ => CstState.same_refl _ _) hhost 
    (fun _ _ => ImgState.same_refl _ _) (fun _ _ => SecState.same_refl _ _) (fun _ _ => PwrState.same_refl _ _)))

theorem Only.up_img {B P : Nat} {s b : State} {ximg} (h : Only B P s b)
    (himg : ∀ k, P.testBit (k + 182) = false → b.img.same ximg k := by
      intro k hk; unfold ImgState.same; split <;> first | exact absurd hk (by decide) | rfl | trivial) :
    Only B P s { b with img := ximg } :=
  h.trans (Only.of_parts rfl rfl (samePart_of (.inr rfl) (.inr rfl) (.inr rfl) (.inr rfl) (.inr rfl) 
    (fun _ _ => SeqState.same_refl _ _) (fun _ _ => ArrState.same_refl _ _) (fun _ _ => PpeState.same_refl _ _) 
    (fun _ _ => CmpState.same_refl _ _) (fun _ _ => ColState.same_refl _ _) (fun _ _ => MemState.same_refl _ _) 
    (fun _ _ => BpmState.same_refl _ _) (fun _ _ => CiphState.same_refl _ _) (fun _ _ => SchState.same_refl _ _) 
    (fun _ _ => PeerState.same_refl _ _) (fun _ _ => EvtState.same_refl _ _) (fun _ _ => BistState.same_refl _ _) 
    (fun _ _ => LineState.same_refl _ _) (fun _ _ => FabState.same_refl _ _) (fun _ _ => OptState.same_refl _ _) 
    (fun _ _ => TimeState.same_refl _ _) (fun _ _ => CstState.same_refl _ _) (fun _ _ => HostState.same_refl _ _) 
    himg (fun _ _ => SecState.same_refl _ _) (fun _ _ => PwrState.same_refl _ _)))

theorem Only.up_sec {B P : Nat} {s b : State} {xsec} (h : Only B P s b)
    (hsec : ∀ k, P.testBit (k + 194) = false → b.sec.same xsec k := by
      intro k hk; unfold SecState.same; split <;> first | exact absurd hk (by decide) | rfl | trivial) :
    Only B P s { b with sec := xsec } :=
  h.trans (Only.of_parts rfl rfl (samePart_of (.inr rfl) (.inr rfl) (.inr rfl) (.inr rfl) (.inr rfl) 
    (fun _ _ => SeqState.same_refl _ _) (fun _ _ => ArrState.same_refl _ _) (fun _ _ => PpeState.same_refl _ _) 
    (fun _ _ => CmpState.same_refl _ _) (fun _ _ => ColState.same_refl _ _) (fun _ _ => MemState.same_refl _ _) 
    (fun _ _ => BpmState.same_refl _ _) (fun _ _ => CiphState.same_refl _ _) (fun _ _ => SchState.same_refl _ _) 
    (fun _ _ => PeerState.same_refl _ _) (fun _ _ => EvtState.same_refl _ _) (fun _ _ => BistState.same_refl _ _) 
    (fun _ _ => LineState.same_refl _ _) (fun _ _ => FabState.same_refl _ _) (fun _ _ => OptState.same_refl _ _) 
    (fun _ _ => TimeState.same_refl _ _) (fun _ _ => CstState.same_refl _ _) (fun _ _ => HostState.same_refl _ _) 
    (fun _ _ => ImgState.same_refl _ _) hsec (fun _ _ => PwrState.same_refl _ _)))

theorem Only.up_pwr {B P : Nat} {s b : State} {xpwr} (h : Only B P s b)
    (hpwr : ∀ k, P.testBit (k + 201) = false → b.pwr.same xpwr k := by
      intro k hk; unfold PwrState.same; split <;> first | exact absurd hk (by decide) | rfl | trivial) :
    Only B P s { b with pwr := xpwr } :=
  h.trans (Only.of_parts rfl rfl (samePart_of (.inr rfl) (.inr rfl) (.inr rfl) (.inr rfl) (.inr rfl) 
    (fun _ _ => SeqState.same_refl _ _) (fun _ _ => ArrState.same_refl _ _) (fun _ _ => PpeState.same_refl _ _) 
    (fun _ _ => CmpState.same_refl _ _) (fun _ _ => ColState.same_refl _ _) (fun _ _ => MemState.same_refl _ _) 
    (fun _ _ => BpmState.same_refl _ _) (fun _ _ => CiphState.same_refl _ _) (fun _ _ => SchState.same_refl _ _) 
    (fun _ _ => PeerState.same_refl _ _) (fun _ _ => EvtState.same_refl _ _) (fun _ _ => BistState.same_refl _ _) 
    (fun _ _ => LineState.same_refl _ _) (fun _ _ => FabState.same_refl _ _) (fun _ _ => OptState.same_refl _ _) 
    (fun _ _ => TimeState.same_refl _ _) (fun _ _ => CstState.same_refl _ _) (fun _ _ => HostState.same_refl _ _) 
    (fun _ _ => ImgState.same_refl _ _) (fun _ _ => SecState.same_refl _ _) hpwr))

theorem Only.up_arr_ppe_cmp_col_sch_peer_evt_cst_host {B P : Nat} {s b : State} {xarr} {xppe} {xcmp} {xcol} {xsch} {xpeer} {xevt} {xcst} {xhost} (h : Only B P s b)
    (harr : ∀ k, P.testBit (k + 15) = false → b.arr.same xarr k := by
      intro k hk; unfold ArrState.same; split <;> first | exact absurd hk (by decide) | rfl | trivial)
    (hppe : ∀ k, P.testBit (k + 24) = false → b.ppe.same xppe k := by
      intro k hk; unfold PpeState.same; split <;> first | exact absurd hk (by decide) | rfl | trivial)
    (hcmp : ∀ k, P.testBit (k + 42) = false → b.cmp.same xcmp k := by
      intro k hk; unfold CmpState.same; split <;> first | exact absurd hk (by decide) | rfl | trivial)
    (hcol : ∀ k, P.testBit (k + 52) = false → b.col.same xcol k := by
      intro k hk; unfold ColState.same; split <;> first | exact absurd hk (by decide) | rfl | trivial)
    (hsch : ∀ k, P.testBit (k + 84) = false → b.sch.same xsch k := by
      intro k hk; unfold SchState.same; split <;> first | exact absurd hk (by decide) | rfl | trivial)
    (hpeer : ∀ k, P.testBit (k + 89) = false → b.peer.same xpeer k := by
      intro k hk; unfold PeerState.same; split <;> first | exact absurd hk (by decide) | rfl | trivial)
    (hevt : ∀ k, P.testBit (k + 106) = false → b.evt.same xevt k := by
      intro k hk; unfold EvtState.same; split <;> first | exact absurd hk (by decide) | rfl | trivial)
    (hcst : ∀ k, P.testBit (k + 156) = false → b.cst.same xcst k := by
      intro k hk; unfold CstState.same; split <;> first | exact absurd hk (by decide) | rfl | trivial)
    (hhost : ∀ k, P.testBit (k + 173) = false → b.host.same xhost k := by
      intro k hk; unfold HostState.same; split <;> first | exact absurd hk (by decide) | rfl | trivial) :
    Only B P s { b with arr := xarr, ppe := xppe, cmp := xcmp, col := xcol, sch := xsch, peer := xpeer, evt := xevt, cst := xcst, host := xhost } :=
  h.trans (Only.of_parts rfl rfl (samePart_of (.inr rfl) (.inr rfl) (.inr rfl) (.inr rfl) (.inr rfl) 
    (fun _ _ => SeqState.same_refl _ _) harr hppe hcmp hcol (fun _ _ => MemState.same_refl _ _) 
    (fun _ _ => BpmState.same_refl _ _) (fun _ _ => CiphState.same_refl _ _) hsch hpeer hevt 
    (fun _ _ => BistState.same_refl _ _) (fun _ _ => LineState.same_refl _ _) (fun _ _ => FabState.same_refl _ _) 
    (fun _ _ => OptState.same_refl _ _) (fun _ _ => TimeState.same_refl _ _) hcst hhost 
    (fun _ _ => ImgState.same_refl _ _) (fun _ _ => SecState.same_refl _ _) (fun _ _ => PwrState.same_refl _ _)))

theorem Only.up_bist_img {B P : Nat} {s b : State} {xbist} {ximg} (h : Only B P s b)
    (hbist : ∀ k, P.testBit (k + 115) = false → b.bist.same xbist k := by
      intro k hk; unfold BistState.same; split <;> first | exact absurd hk (by decide) | rfl | trivial)
    (himg : ∀ k, P.testBit (k + 182) = false → b.img.same ximg k := by
      intro k hk; unfold ImgState.same; split <;> first | exact absurd hk (by decide) | rfl | trivial) :
    Only B P s { b with bist := xbist, img := ximg } :=
  h.trans (Only.of_parts rfl rfl (samePart_of (.inr rfl) (.inr rfl) (.inr rfl) (.inr rfl) (.inr rfl) 
    (fun _ _ => SeqState.same_refl _ _) (fun _ _ => ArrState.same_refl _ _) (fun _ _ => PpeState.same_refl _ _) 
    (fun _ _ => CmpState.same_refl _ _) (fun _ _ => ColState.same_refl _ _) (fun _ _ => MemState.same_refl _ _) 
    (fun _ _ => BpmState.same_refl _ _) (fun _ _ => CiphState.same_refl _ _) (fun _ _ => SchState.same_refl _ _) 
    (fun _ _ => PeerState.same_refl _ _) (fun _ _ => EvtState.same_refl _ _) hbist 
    (fun _ _ => LineState.same_refl _ _) (fun _ _ => FabState.same_refl _ _) (fun _ _ => OptState.same_refl _ _) 
    (fun _ _ => TimeState.same_refl _ _) (fun _ _ => CstState.same_refl _ _) (fun _ _ => HostState.same_refl _ _) 
    himg (fun _ _ => SecState.same_refl _ _) (fun _ _ => PwrState.same_refl _ _)))

theorem Only.up_bist_time_host {B P : Nat} {s b : State} {xbist} {xtime} {xhost} (h : Only B P s b)
    (hbist : ∀ k, P.testBit (k + 115) = false → b.bist.same xbist k := by
      intro k hk; unfold BistState.same; split <;> first | exact absurd hk (by decide) | rfl | trivial)
    (htime : ∀ k, P.testBit (k + 148) = false → b.time.same xtime k := by
      intro k hk; unfold TimeState.same; split <;> first | exact absurd hk (by decide) | rfl | trivial)
    (hhost : ∀ k, P.testBit (k + 173) = false → b.host.same xhost k := by
      intro k hk; unfold HostState.same; split <;> first | exact absurd hk (by decide) | rfl | trivial) :
    Only B P s { b with bist := xbist, time := xtime, host := xhost } :=
  h.trans (Only.of_parts rfl rfl (samePart_of (.inr rfl) (.inr rfl) (.inr rfl) (.inr rfl) (.inr rfl) 
    (fun _ _ => SeqState.same_refl _ _) (fun _ _ => ArrState.same_refl _ _) (fun _ _ => PpeState.same_refl _ _) 
    (fun _ _ => CmpState.same_refl _ _) (fun _ _ => ColState.same_refl _ _) (fun _ _ => MemState.same_refl _ _) 
    (fun _ _ => BpmState.same_refl _ _) (fun _ _ => CiphState.same_refl _ _) (fun _ _ => SchState.same_refl _ _) 
    (fun _ _ => PeerState.same_refl _ _) (fun _ _ => EvtState.same_refl _ _) hbist 
    (fun _ _ => LineState.same_refl _ _) (fun _ _ => FabState.same_refl _ _) (fun _ _ => OptState.same_refl _ _) 
    htime (fun _ _ => CstState.same_refl _ _) hhost (fun _ _ => ImgState.same_refl _ _) 
    (fun _ _ => SecState.same_refl _ _) (fun _ _ => PwrState.same_refl _ _)))

theorem Only.up_ciph_sec {B P : Nat} {s b : State} {xciph} {xsec} (h : Only B P s b)
    (hciph : ∀ k, P.testBit (k + 77) = false → b.ciph.same xciph k := by
      intro k hk; unfold CiphState.same; split <;> first | exact absurd hk (by decide) | rfl | trivial)
    (hsec : ∀ k, P.testBit (k + 194) = false → b.sec.same xsec k := by
      intro k hk; unfold SecState.same; split <;> first | exact absurd hk (by decide) | rfl | trivial) :
    Only B P s { b with ciph := xciph, sec := xsec } :=
  h.trans (Only.of_parts rfl rfl (samePart_of (.inr rfl) (.inr rfl) (.inr rfl) (.inr rfl) (.inr rfl) 
    (fun _ _ => SeqState.same_refl _ _) (fun _ _ => ArrState.same_refl _ _) (fun _ _ => PpeState.same_refl _ _) 
    (fun _ _ => CmpState.same_refl _ _) (fun _ _ => ColState.same_refl _ _) (fun _ _ => MemState.same_refl _ _) 
    (fun _ _ => BpmState.same_refl _ _) hciph (fun _ _ => SchState.same_refl _ _) 
    (fun _ _ => PeerState.same_refl _ _) (fun _ _ => EvtState.same_refl _ _) (fun _ _ => BistState.same_refl _ _) 
    (fun _ _ => LineState.same_refl _ _) (fun _ _ => FabState.same_refl _ _) (fun _ _ => OptState.same_refl _ _) 
    (fun _ _ => TimeState.same_refl _ _) (fun _ _ => CstState.same_refl _ _) (fun _ _ => HostState.same_refl _ _) 
    (fun _ _ => ImgState.same_refl _ _) hsec (fun _ _ => PwrState.same_refl _ _)))

theorem Only.up_cst_host {B P : Nat} {s b : State} {xcst} {xhost} (h : Only B P s b)
    (hcst : ∀ k, P.testBit (k + 156) = false → b.cst.same xcst k := by
      intro k hk; unfold CstState.same; split <;> first | exact absurd hk (by decide) | rfl | trivial)
    (hhost : ∀ k, P.testBit (k + 173) = false → b.host.same xhost k := by
      intro k hk; unfold HostState.same; split <;> first | exact absurd hk (by decide) | rfl | trivial) :
    Only B P s { b with cst := xcst, host := xhost } :=
  h.trans (Only.of_parts rfl rfl (samePart_of (.inr rfl) (.inr rfl) (.inr rfl) (.inr rfl) (.inr rfl) 
    (fun _ _ => SeqState.same_refl _ _) (fun _ _ => ArrState.same_refl _ _) (fun _ _ => PpeState.same_refl _ _) 
    (fun _ _ => CmpState.same_refl _ _) (fun _ _ => ColState.same_refl _ _) (fun _ _ => MemState.same_refl _ _) 
    (fun _ _ => BpmState.same_refl _ _) (fun _ _ => CiphState.same_refl _ _) (fun _ _ => SchState.same_refl _ _) 
    (fun _ _ => PeerState.same_refl _ _) (fun _ _ => EvtState.same_refl _ _) (fun _ _ => BistState.same_refl _ _) 
    (fun _ _ => LineState.same_refl _ _) (fun _ _ => FabState.same_refl _ _) (fun _ _ => OptState.same_refl _ _) 
    (fun _ _ => TimeState.same_refl _ _) hcst hhost (fun _ _ => ImgState.same_refl _ _) 
    (fun _ _ => SecState.same_refl _ _) (fun _ _ => PwrState.same_refl _ _)))

theorem Only.up_evt_host {B P : Nat} {s b : State} {xevt} {xhost} (h : Only B P s b)
    (hevt : ∀ k, P.testBit (k + 106) = false → b.evt.same xevt k := by
      intro k hk; unfold EvtState.same; split <;> first | exact absurd hk (by decide) | rfl | trivial)
    (hhost : ∀ k, P.testBit (k + 173) = false → b.host.same xhost k := by
      intro k hk; unfold HostState.same; split <;> first | exact absurd hk (by decide) | rfl | trivial) :
    Only B P s { b with evt := xevt, host := xhost } :=
  h.trans (Only.of_parts rfl rfl (samePart_of (.inr rfl) (.inr rfl) (.inr rfl) (.inr rfl) (.inr rfl) 
    (fun _ _ => SeqState.same_refl _ _) (fun _ _ => ArrState.same_refl _ _) (fun _ _ => PpeState.same_refl _ _) 
    (fun _ _ => CmpState.same_refl _ _) (fun _ _ => ColState.same_refl _ _) (fun _ _ => MemState.same_refl _ _) 
    (fun _ _ => BpmState.same_refl _ _) (fun _ _ => CiphState.same_refl _ _) (fun _ _ => SchState.same_refl _ _) 
    (fun _ _ => PeerState.same_refl _ _) hevt (fun _ _ => BistState.same_refl _ _) 
    (fun _ _ => LineState.same_refl _ _) (fun _ _ => FabState.same_refl _ _) (fun _ _ => OptState.same_refl _ _) 
    (fun _ _ => TimeState.same_refl _ _) (fun _ _ => CstState.same_refl _ _) hhost 
    (fun _ _ => ImgState.same_refl _ _) (fun _ _ => SecState.same_refl _ _) (fun _ _ => PwrState.same_refl _ _)))

theorem Only.up_img_sec {B P : Nat} {s b : State} {ximg} {xsec} (h : Only B P s b)
    (himg : ∀ k, P.testBit (k + 182) = false → b.img.same ximg k := by
      intro k hk; unfold ImgState.same; split <;> first | exact absurd hk (by decide) | rfl | trivial)
    (hsec : ∀ k, P.testBit (k + 194) = false → b.sec.same xsec k := by
      intro k hk; unfold SecState.same; split <;> first | exact absurd hk (by decide) | rfl | trivial) :
    Only B P s { b with img := ximg, sec := xsec } :=
  h.trans (Only.of_parts rfl rfl (samePart_of (.inr rfl) (.inr rfl) (.inr rfl) (.inr rfl) (.inr rfl) 
    (fun _ _ => SeqState.same_refl _ _) (fun _ _ => ArrState.same_refl _ _) (fun _ _ => PpeState.same_refl _ _) 
    (fun _ _ => CmpState.same_refl _ _) (fun _ _ => ColState.same_refl _ _) (fun _ _ => MemState.same_refl _ _) 
    (fun _ _ => BpmState.same_refl _ _) (fun _ _ => CiphState.same_refl _ _) (fun _ _ => SchState.same_refl _ _) 
    (fun _ _ => PeerState.same_refl _ _) (fun _ _ => EvtState.same_refl _ _) (fun _ _ => BistState.same_refl _ _) 
    (fun _ _ => LineState.same_refl _ _) (fun _ _ => FabState.same_refl _ _) (fun _ _ => OptState.same_refl _ _) 
    (fun _ _ => TimeState.same_refl _ _) (fun _ _ => CstState.same_refl _ _) (fun _ _ => HostState.same_refl _ _) 
    himg hsec (fun _ _ => PwrState.same_refl _ _)))

theorem Only.up_now_pwr {B P : Nat} {s b : State} {xnow} {xpwr} (h : Only B P s b)
    (hnow : P.testBit 1 = true := by decide)
    (hpwr : ∀ k, P.testBit (k + 201) = false → b.pwr.same xpwr k := by
      intro k hk; unfold PwrState.same; split <;> first | exact absurd hk (by decide) | rfl | trivial) :
    Only B P s { b with now := xnow, pwr := xpwr } :=
  h.trans (Only.of_parts rfl rfl (samePart_of (.inr rfl) (.inl hnow) (.inr rfl) (.inr rfl) (.inr rfl) 
    (fun _ _ => SeqState.same_refl _ _) (fun _ _ => ArrState.same_refl _ _) (fun _ _ => PpeState.same_refl _ _) 
    (fun _ _ => CmpState.same_refl _ _) (fun _ _ => ColState.same_refl _ _) (fun _ _ => MemState.same_refl _ _) 
    (fun _ _ => BpmState.same_refl _ _) (fun _ _ => CiphState.same_refl _ _) (fun _ _ => SchState.same_refl _ _) 
    (fun _ _ => PeerState.same_refl _ _) (fun _ _ => EvtState.same_refl _ _) (fun _ _ => BistState.same_refl _ _) 
    (fun _ _ => LineState.same_refl _ _) (fun _ _ => FabState.same_refl _ _) (fun _ _ => OptState.same_refl _ _) 
    (fun _ _ => TimeState.same_refl _ _) (fun _ _ => CstState.same_refl _ _) (fun _ _ => HostState.same_refl _ _) 
    (fun _ _ => ImgState.same_refl _ _) (fun _ _ => SecState.same_refl _ _) hpwr))

theorem Only.up_peer_img {B P : Nat} {s b : State} {xpeer} {ximg} (h : Only B P s b)
    (hpeer : ∀ k, P.testBit (k + 89) = false → b.peer.same xpeer k := by
      intro k hk; unfold PeerState.same; split <;> first | exact absurd hk (by decide) | rfl | trivial)
    (himg : ∀ k, P.testBit (k + 182) = false → b.img.same ximg k := by
      intro k hk; unfold ImgState.same; split <;> first | exact absurd hk (by decide) | rfl | trivial) :
    Only B P s { b with peer := xpeer, img := ximg } :=
  h.trans (Only.of_parts rfl rfl (samePart_of (.inr rfl) (.inr rfl) (.inr rfl) (.inr rfl) (.inr rfl) 
    (fun _ _ => SeqState.same_refl _ _) (fun _ _ => ArrState.same_refl _ _) (fun _ _ => PpeState.same_refl _ _) 
    (fun _ _ => CmpState.same_refl _ _) (fun _ _ => ColState.same_refl _ _) (fun _ _ => MemState.same_refl _ _) 
    (fun _ _ => BpmState.same_refl _ _) (fun _ _ => CiphState.same_refl _ _) (fun _ _ => SchState.same_refl _ _) 
    hpeer (fun _ _ => EvtState.same_refl _ _) (fun _ _ => BistState.same_refl _ _) 
    (fun _ _ => LineState.same_refl _ _) (fun _ _ => FabState.same_refl _ _) (fun _ _ => OptState.same_refl _ _) 
    (fun _ _ => TimeState.same_refl _ _) (fun _ _ => CstState.same_refl _ _) (fun _ _ => HostState.same_refl _ _) 
    himg (fun _ _ => SecState.same_refl _ _) (fun _ _ => PwrState.same_refl _ _)))

theorem Only.up_seq_arr {B P : Nat} {s b : State} {xseq} {xarr} (h : Only B P s b)
    (hseq : ∀ k, P.testBit (k + 5) = false → b.seq.same xseq k := by
      intro k hk; unfold SeqState.same; split <;> first | exact absurd hk (by decide) | rfl | trivial)
    (harr : ∀ k, P.testBit (k + 15) = false → b.arr.same xarr k := by
      intro k hk; unfold ArrState.same; split <;> first | exact absurd hk (by decide) | rfl | trivial) :
    Only B P s { b with seq := xseq, arr := xarr } :=
  h.trans (Only.of_parts rfl rfl (samePart_of (.inr rfl) (.inr rfl) (.inr rfl) (.inr rfl) (.inr rfl) hseq harr 
    (fun _ _ => PpeState.same_refl _ _) (fun _ _ => CmpState.same_refl _ _) (fun _ _ => ColState.same_refl _ _) 
    (fun _ _ => MemState.same_refl _ _) (fun _ _ => BpmState.same_refl _ _) (fun _ _ => CiphState.same_refl _ _) 
    (fun _ _ => SchState.same_refl _ _) (fun _ _ => PeerState.same_refl _ _) (fun _ _ => EvtState.same_refl _ _) 
    (fun _ _ => BistState.same_refl _ _) (fun _ _ => LineState.same_refl _ _) (fun _ _ => FabState.same_refl _ _) 
    (fun _ _ => OptState.same_refl _ _) (fun _ _ => TimeState.same_refl _ _) (fun _ _ => CstState.same_refl _ _) 
    (fun _ _ => HostState.same_refl _ _) (fun _ _ => ImgState.same_refl _ _) (fun _ _ => SecState.same_refl _ _) 
    (fun _ _ => PwrState.same_refl _ _)))

theorem Only.up_seq_arr_cmp {B P : Nat} {s b : State} {xseq} {xarr} {xcmp} (h : Only B P s b)
    (hseq : ∀ k, P.testBit (k + 5) = false → b.seq.same xseq k := by
      intro k hk; unfold SeqState.same; split <;> first | exact absurd hk (by decide) | rfl | trivial)
    (harr : ∀ k, P.testBit (k + 15) = false → b.arr.same xarr k := by
      intro k hk; unfold ArrState.same; split <;> first | exact absurd hk (by decide) | rfl | trivial)
    (hcmp : ∀ k, P.testBit (k + 42) = false → b.cmp.same xcmp k := by
      intro k hk; unfold CmpState.same; split <;> first | exact absurd hk (by decide) | rfl | trivial) :
    Only B P s { b with seq := xseq, arr := xarr, cmp := xcmp } :=
  h.trans (Only.of_parts rfl rfl (samePart_of (.inr rfl) (.inr rfl) (.inr rfl) (.inr rfl) (.inr rfl) hseq harr 
    (fun _ _ => PpeState.same_refl _ _) hcmp (fun _ _ => ColState.same_refl _ _) (fun _ _ => MemState.same_refl _ _) 
    (fun _ _ => BpmState.same_refl _ _) (fun _ _ => CiphState.same_refl _ _) (fun _ _ => SchState.same_refl _ _) 
    (fun _ _ => PeerState.same_refl _ _) (fun _ _ => EvtState.same_refl _ _) (fun _ _ => BistState.same_refl _ _) 
    (fun _ _ => LineState.same_refl _ _) (fun _ _ => FabState.same_refl _ _) (fun _ _ => OptState.same_refl _ _) 
    (fun _ _ => TimeState.same_refl _ _) (fun _ _ => CstState.same_refl _ _) (fun _ _ => HostState.same_refl _ _) 
    (fun _ _ => ImgState.same_refl _ _) (fun _ _ => SecState.same_refl _ _) (fun _ _ => PwrState.same_refl _ _)))

theorem Only.up_seq_cst {B P : Nat} {s b : State} {xseq} {xcst} (h : Only B P s b)
    (hseq : ∀ k, P.testBit (k + 5) = false → b.seq.same xseq k := by
      intro k hk; unfold SeqState.same; split <;> first | exact absurd hk (by decide) | rfl | trivial)
    (hcst : ∀ k, P.testBit (k + 156) = false → b.cst.same xcst k := by
      intro k hk; unfold CstState.same; split <;> first | exact absurd hk (by decide) | rfl | trivial) :
    Only B P s { b with seq := xseq, cst := xcst } :=
  h.trans (Only.of_parts rfl rfl (samePart_of (.inr rfl) (.inr rfl) (.inr rfl) (.inr rfl) (.inr rfl) hseq 
    (fun _ _ => ArrState.same_refl _ _) (fun _ _ => PpeState.same_refl _ _) (fun _ _ => CmpState.same_refl _ _) 
    (fun _ _ => ColState.same_refl _ _) (fun _ _ => MemState.same_refl _ _) (fun _ _ => BpmState.same_refl _ _) 
    (fun _ _ => CiphState.same_refl _ _) (fun _ _ => SchState.same_refl _ _) (fun _ _ => PeerState.same_refl _ _) 
    (fun _ _ => EvtState.same_refl _ _) (fun _ _ => BistState.same_refl _ _) (fun _ _ => LineState.same_refl _ _) 
    (fun _ _ => FabState.same_refl _ _) (fun _ _ => OptState.same_refl _ _) (fun _ _ => TimeState.same_refl _ _) hcst 
    (fun _ _ => HostState.same_refl _ _) (fun _ _ => ImgState.same_refl _ _) (fun _ _ => SecState.same_refl _ _) 
    (fun _ _ => PwrState.same_refl _ _)))

theorem Only.up_arr_col_peer {B P : Nat} {s b : State} {xarr} {xcol} {xpeer} (h : Only B P s b)
    (harr : ∀ k, P.testBit (k + 15) = false → b.arr.same xarr k := by
      intro k hk; unfold ArrState.same; split <;> first | exact absurd hk (by decide) | rfl | trivial)
    (hcol : ∀ k, P.testBit (k + 52) = false → b.col.same xcol k := by
      intro k hk; unfold ColState.same; split <;> first | exact absurd hk (by decide) | rfl | trivial)
    (hpeer : ∀ k, P.testBit (k + 89) = false → b.peer.same xpeer k := by
      intro k hk; unfold PeerState.same; split <;> first | exact absurd hk (by decide) | rfl | trivial) :
    Only B P s { b with arr := xarr, col := xcol, peer := xpeer } :=
  h.trans (Only.of_parts rfl rfl (samePart_of (.inr rfl) (.inr rfl) (.inr rfl) (.inr rfl) (.inr rfl) 
    (fun _ _ => SeqState.same_refl _ _) harr (fun _ _ => PpeState.same_refl _ _) (fun _ _ => CmpState.same_refl _ _) 
    hcol (fun _ _ => MemState.same_refl _ _) (fun _ _ => BpmState.same_refl _ _) (fun _ _ => CiphState.same_refl _ _) 
    (fun _ _ => SchState.same_refl _ _) hpeer (fun _ _ => EvtState.same_refl _ _) 
    (fun _ _ => BistState.same_refl _ _) (fun _ _ => LineState.same_refl _ _) (fun _ _ => FabState.same_refl _ _) 
    (fun _ _ => OptState.same_refl _ _) (fun _ _ => TimeState.same_refl _ _) (fun _ _ => CstState.same_refl _ _) 
    (fun _ _ => HostState.same_refl _ _) (fun _ _ => ImgState.same_refl _ _) (fun _ _ => SecState.same_refl _ _) 
    (fun _ _ => PwrState.same_refl _ _)))

theorem Only.up_ppe_bist_time_host {B P : Nat} {s b : State} {xppe} {xbist} {xtime} {xhost} (h : Only B P s b)
    (hppe : ∀ k, P.testBit (k + 24) = false → b.ppe.same xppe k := by
      intro k hk; unfold PpeState.same; split <;> first | exact absurd hk (by decide) | rfl | trivial)
    (hbist : ∀ k, P.testBit (k + 115) = false → b.bist.same xbist k := by
      intro k hk; unfold BistState.same; split <;> first | exact absurd hk (by decide) | rfl | trivial)
    (htime : ∀ k, P.testBit (k + 148) = false → b.time.same xtime k := by
      intro k hk; unfold TimeState.same; split <;> first | exact absurd hk (by decide) | rfl | trivial)
    (hhost : ∀ k, P.testBit (k + 173) = false → b.host.same xhost k := by
      intro k hk; unfold HostState.same; split <;> first | exact absurd hk (by decide) | rfl | trivial) :
    Only B P s { b with ppe := xppe, bist := xbist, time := xtime, host := xhost } :=
  h.trans (Only.of_parts rfl rfl (samePart_of (.inr rfl) (.inr rfl) (.inr rfl) (.inr rfl) (.inr rfl) 
    (fun _ _ => SeqState.same_refl _ _) (fun _ _ => ArrState.same_refl _ _) hppe (fun _ _ => CmpState.same_refl _ _) 
    (fun _ _ => ColState.same_refl _ _) (fun _ _ => MemState.same_refl _ _) (fun _ _ => BpmState.same_refl _ _) 
    (fun _ _ => CiphState.same_refl _ _) (fun _ _ => SchState.same_refl _ _) (fun _ _ => PeerState.same_refl _ _) 
    (fun _ _ => EvtState.same_refl _ _) hbist (fun _ _ => LineState.same_refl _ _) 
    (fun _ _ => FabState.same_refl _ _) (fun _ _ => OptState.same_refl _ _) htime (fun _ _ => CstState.same_refl _ _) 
    hhost (fun _ _ => ImgState.same_refl _ _) (fun _ _ => SecState.same_refl _ _) (fun _ _ => PwrState.same_refl _ _)))

/-- An update of the memory that may change its bytes. -/
theorem Only.up_cells {B P : Nat} {s b : State} {m : MemState} (h : Only B P s b)
    (hc : memWf b.mem.cells = true → memWf m.cells = true)
    (hmem : ∀ k, P.testBit (k + 61) = false → b.mem.same m k := by
      intro k hk; unfold MemState.same; split <;> first | exact absurd hk (by decide) | rfl | trivial) :
    Only B P s { b with mem := m } where
  canon hs := ⟨(h.canon hs).1, hc (h.canon hs).2⟩
  word := h.word
  part i hi := (h.part i hi).trans (samePart_of (s := b) (t := { b with mem := m }) (.inr rfl) (.inr rfl) (.inr rfl) (.inr rfl) (.inr rfl) 
    (fun _ _ => SeqState.same_refl _ _) (fun _ _ => ArrState.same_refl _ _) (fun _ _ => PpeState.same_refl _ _) 
    (fun _ _ => CmpState.same_refl _ _) (fun _ _ => ColState.same_refl _ _) hmem (fun _ _ => BpmState.same_refl _ _) 
    (fun _ _ => CiphState.same_refl _ _) (fun _ _ => SchState.same_refl _ _) (fun _ _ => PeerState.same_refl _ _) 
    (fun _ _ => EvtState.same_refl _ _) (fun _ _ => BistState.same_refl _ _) (fun _ _ => LineState.same_refl _ _) 
    (fun _ _ => FabState.same_refl _ _) (fun _ _ => OptState.same_refl _ _) (fun _ _ => TimeState.same_refl _ _) 
    (fun _ _ => CstState.same_refl _ _) (fun _ _ => HostState.same_refl _ _) (fun _ _ => ImgState.same_refl _ _) 
    (fun _ _ => SecState.same_refl _ _) (fun _ _ => PwrState.same_refl _ _) i hi)

/-- An operation that keeps the canonical forms, part by part; of the registers nothing is said. -/
theorem Only.of_all {P : Nat} {s t : State} (hc : s.Canon → t.Canon)
    (hpending : P.testBit 0 = true ∨ t.pending = s.pending := by first | exact Or.inl (by decide) | exact Or.inr rfl)
    (hnow : P.testBit 1 = true ∨ t.now = s.now := by first | exact Or.inl (by decide) | exact Or.inr rfl)
    (hfree : P.testBit 2 = true ∨ t.free = s.free := by first | exact Or.inl (by decide) | exact Or.inr rfl)
    (hout : P.testBit 3 = true ∨ t.out = s.out := by first | exact Or.inl (by decide) | exact Or.inr rfl)
    (hconf : P.testBit 4 = true ∨ t.conf = s.conf := by first | exact Or.inl (by decide) | exact Or.inr rfl)
    (hseq : ∀ k, P.testBit (k + 5) = false → s.seq.same t.seq k := by
      intro k hk; unfold SeqState.same; split <;> first | exact absurd hk (by decide) | rfl | trivial)
    (harr : ∀ k, P.testBit (k + 15) = false → s.arr.same t.arr k := by
      intro k hk; unfold ArrState.same; split <;> first | exact absurd hk (by decide) | rfl | trivial)
    (hppe : ∀ k, P.testBit (k + 24) = false → s.ppe.same t.ppe k := by
      intro k hk; unfold PpeState.same; split <;> first | exact absurd hk (by decide) | rfl | trivial)
    (hcmp : ∀ k, P.testBit (k + 42) = false → s.cmp.same t.cmp k := by
      intro k hk; unfold CmpState.same; split <;> first | exact absurd hk (by decide) | rfl | trivial)
    (hcol : ∀ k, P.testBit (k + 52) = false → s.col.same t.col k := by
      intro k hk; unfold ColState.same; split <;> first | exact absurd hk (by decide) | rfl | trivial)
    (hmem : ∀ k, P.testBit (k + 61) = false → s.mem.same t.mem k := by
      intro k hk; unfold MemState.same; split <;> first | exact absurd hk (by decide) | rfl | trivial)
    (hbpm : ∀ k, P.testBit (k + 74) = false → s.bpm.same t.bpm k := by
      intro k hk; unfold BpmState.same; split <;> first | exact absurd hk (by decide) | rfl | trivial)
    (hciph : ∀ k, P.testBit (k + 77) = false → s.ciph.same t.ciph k := by
      intro k hk; unfold CiphState.same; split <;> first | exact absurd hk (by decide) | rfl | trivial)
    (hsch : ∀ k, P.testBit (k + 84) = false → s.sch.same t.sch k := by
      intro k hk; unfold SchState.same; split <;> first | exact absurd hk (by decide) | rfl | trivial)
    (hpeer : ∀ k, P.testBit (k + 89) = false → s.peer.same t.peer k := by
      intro k hk; unfold PeerState.same; split <;> first | exact absurd hk (by decide) | rfl | trivial)
    (hevt : ∀ k, P.testBit (k + 106) = false → s.evt.same t.evt k := by
      intro k hk; unfold EvtState.same; split <;> first | exact absurd hk (by decide) | rfl | trivial)
    (hbist : ∀ k, P.testBit (k + 115) = false → s.bist.same t.bist k := by
      intro k hk; unfold BistState.same; split <;> first | exact absurd hk (by decide) | rfl | trivial)
    (hline : ∀ k, P.testBit (k + 123) = false → s.line.same t.line k := by
      intro k hk; unfold LineState.same; split <;> first | exact absurd hk (by decide) | rfl | trivial)
    (hfab : ∀ k, P.testBit (k + 126) = false → s.fab.same t.fab k := by
      intro k hk; unfold FabState.same; split <;> first | exact absurd hk (by decide) | rfl | trivial)
    (hopt : ∀ k, P.testBit (k + 133) = false → s.opt.same t.opt k := by
      intro k hk; unfold OptState.same; split <;> first | exact absurd hk (by decide) | rfl | trivial)
    (htime : ∀ k, P.testBit (k + 148) = false → s.time.same t.time k := by
      intro k hk; unfold TimeState.same; split <;> first | exact absurd hk (by decide) | rfl | trivial)
    (hcst : ∀ k, P.testBit (k + 156) = false → s.cst.same t.cst k := by
      intro k hk; unfold CstState.same; split <;> first | exact absurd hk (by decide) | rfl | trivial)
    (hhost : ∀ k, P.testBit (k + 173) = false → s.host.same t.host k := by
      intro k hk; unfold HostState.same; split <;> first | exact absurd hk (by decide) | rfl | trivial)
    (himg : ∀ k, P.testBit (k + 182) = false → s.img.same t.img k := by
      intro k hk; unfold ImgState.same; split <;> first | exact absurd hk (by decide) | rfl | trivial)
    (hsec : ∀ k, P.testBit (k + 194) = false → s.sec.same t.sec k := by
      intro k hk; unfold SecState.same; split <;> first | exact absurd hk (by decide) | rfl | trivial)
    (hpwr : ∀ k, P.testBit (k + 201) = false → s.pwr.same t.pwr k := by
      intro k hk; unfold PwrState.same; split <;> first | exact absurd hk (by decide) | rfl | trivial)
    : Only 1202453802380202612679414065556140558016349465041059773802132977424491020858679523053413887173001575952350707711 P s t where
  canon := hc
  word _ hB := absurd hB (by decide)
  part i hi := samePart_of hpending hnow hfree hout hconf hseq harr hppe hcmp hcol hmem hbpm hciph hsch hpeer hevt 
    hbist hline hfab hopt htime hcst hhost himg hsec hpwr i hi

/-! ### What a part keeps -/

theorem Only.pending_eq {B P : Nat} {s t : State} (h : Only B P s t) (hp : P.testBit 0 = false := by decide) :
    t.pending = s.pending := h.part 0 hp

theorem Only.now_eq {B P : Nat} {s t : State} (h : Only B P s t) (hp : P.testBit 1 = false := by decide) :
    t.now = s.now := h.part 1 hp

theorem Only.free_eq {B P : Nat} {s t : State} (h : Only B P s t) (hp : P.testBit 2 = false := by decide) :
    t.free = s.free := h.part 2 hp

theorem Only.out_eq {B P : Nat} {s t : State} (h : Only B P s t) (hp : P.testBit 3 = false := by decide) :
    t.out = s.out := h.part 3 hp

theorem Only.conf_eq {B P : Nat} {s t : State} (h : Only B P s t) (hp : P.testBit 4 = false := by decide) :
    t.conf = s.conf := h.part 4 hp

theorem Only.seq_active {B P : Nat} {s t : State} (h : Only B P s t) (hp : P.testBit 5 = false := by decide) :
    t.seq.active = s.seq.active := h.part 5 hp

theorem Only.seq_shadow {B P : Nat} {s t : State} (h : Only B P s t) (hp : P.testBit 6 = false := by decide) :
    t.seq.shadow = s.seq.shadow := h.part 6 hp

theorem Only.seq_items {B P : Nat} {s t : State} (h : Only B P s t) (hp : P.testBit 7 = false := by decide) :
    t.seq.items = s.seq.items := h.part 7 hp

theorem Only.seq_nextId {B P : Nat} {s t : State} (h : Only B P s t) (hp : P.testBit 8 = false := by decide) :
    t.seq.nextId = s.seq.nextId := h.part 8 hp

theorem Only.seq_lastFirst {B P : Nat} {s t : State} (h : Only B P s t) (hp : P.testBit 9 = false := by decide) :
    t.seq.lastFirst = s.seq.lastFirst := h.part 9 hp

theorem Only.seq_swap {B P : Nat} {s t : State} (h : Only B P s t) (hp : P.testBit 10 = false := by decide) :
    t.seq.swap = s.seq.swap := h.part 10 hp

theorem Only.seq_waitAt {B P : Nat} {s t : State} (h : Only B P s t) (hp : P.testBit 11 = false := by decide) :
    t.seq.waitAt = s.seq.waitAt := h.part 11 hp

theorem Only.seq_faultTo {B P : Nat} {s t : State} (h : Only B P s t) (hp : P.testBit 12 = false := by decide) :
    t.seq.faultTo = s.seq.faultTo := h.part 12 hp

theorem Only.seq_forecasts {B P : Nat} {s t : State} (h : Only B P s t) (hp : P.testBit 13 = false := by decide) :
    t.seq.forecasts = s.seq.forecasts := h.part 13 hp

theorem Only.seq_turn {B P : Nat} {s t : State} (h : Only B P s t) (hp : P.testBit 14 = false := by decide) :
    t.seq.turn = s.seq.turn := h.part 14 hp

theorem Only.arr_acc {B P : Nat} {s t : State} (h : Only B P s t) (hp : P.testBit 15 = false := by decide) :
    t.arr.acc = s.arr.acc := h.part 15 hp

theorem Only.arr_winTop {B P : Nat} {s t : State} (h : Only B P s t) (hp : P.testBit 16 = false := by decide) :
    t.arr.winTop = s.arr.winTop := h.part 16 hp

theorem Only.arr_decRecs {B P : Nat} {s t : State} (h : Only B P s t) (hp : P.testBit 17 = false := by decide) :
    t.arr.decRecs = s.arr.decRecs := h.part 17 hp

theorem Only.arr_home {B P : Nat} {s t : State} (h : Only B P s t) (hp : P.testBit 18 = false := by decide) :
    t.arr.home = s.arr.home := h.part 18 hp

theorem Only.arr_chunk {B P : Nat} {s t : State} (h : Only B P s t) (hp : P.testBit 19 = false := by decide) :
    t.arr.chunk = s.arr.chunk := h.part 19 hp

theorem Only.arr_level {B P : Nat} {s t : State} (h : Only B P s t) (hp : P.testBit 20 = false := by decide) :
    t.arr.level = s.arr.level := h.part 20 hp

theorem Only.arr_rampAt {B P : Nat} {s t : State} (h : Only B P s t) (hp : P.testBit 21 = false := by decide) :
    t.arr.rampAt = s.arr.rampAt := h.part 21 hp

theorem Only.arr_prev {B P : Nat} {s t : State} (h : Only B P s t) (hp : P.testBit 22 = false := by decide) :
    t.arr.prev = s.arr.prev := h.part 22 hp

theorem Only.arr_helping {B P : Nat} {s t : State} (h : Only B P s t) (hp : P.testBit 23 = false := by decide) :
    t.arr.helping = s.arr.helping := h.part 23 hp

theorem Only.ppe_item {B P : Nat} {s t : State} (h : Only B P s t) (hp : P.testBit 24 = false := by decide) :
    t.ppe.item = s.ppe.item := h.part 24 hp

theorem Only.ppe_k {B P : Nat} {s t : State} (h : Only B P s t) (hp : P.testBit 25 = false := by decide) :
    t.ppe.k = s.ppe.k := h.part 25 hp

theorem Only.ppe_band {B P : Nat} {s t : State} (h : Only B P s t) (hp : P.testBit 26 = false := by decide) :
    t.ppe.band = s.ppe.band := h.part 26 hp

theorem Only.ppe_integrating {B P : Nat} {s t : State} (h : Only B P s t) (hp : P.testBit 27 = false := by decide) :
    t.ppe.integrating = s.ppe.integrating := h.part 27 hp

theorem Only.ppe_mismatches {B P : Nat} {s t : State} (h : Only B P s t) (hp : P.testBit 28 = false := by decide) :
    t.ppe.mismatches = s.ppe.mismatches := h.part 28 hp

theorem Only.ppe_folds {B P : Nat} {s t : State} (h : Only B P s t) (hp : P.testBit 29 = false := by decide) :
    t.ppe.folds = s.ppe.folds := h.part 29 hp

theorem Only.ppe_begun {B P : Nat} {s t : State} (h : Only B P s t) (hp : P.testBit 30 = false := by decide) :
    t.ppe.begun = s.ppe.begun := h.part 30 hp

theorem Only.ppe_held {B P : Nat} {s t : State} (h : Only B P s t) (hp : P.testBit 31 = false := by decide) :
    t.ppe.held = s.ppe.held := h.part 31 hp

theorem Only.ppe_qStore {B P : Nat} {s t : State} (h : Only B P s t) (hp : P.testBit 32 = false := by decide) :
    t.ppe.qStore = s.ppe.qStore := h.part 32 hp

theorem Only.ppe_q {B P : Nat} {s t : State} (h : Only B P s t) (hp : P.testBit 33 = false := by decide) :
    t.ppe.q = s.ppe.q := h.part 33 hp

theorem Only.ppe_lockLostAt {B P : Nat} {s t : State} (h : Only B P s t) (hp : P.testBit 34 = false := by decide) :
    t.ppe.lockLostAt = s.ppe.lockLostAt := h.part 34 hp

theorem Only.ppe_lockErr {B P : Nat} {s t : State} (h : Only B P s t) (hp : P.testBit 35 = false := by decide) :
    t.ppe.lockErr = s.ppe.lockErr := h.part 35 hp

theorem Only.ppe_target {B P : Nat} {s t : State} (h : Only B P s t) (hp : P.testBit 36 = false := by decide) :
    t.ppe.target = s.ppe.target := h.part 36 hp

theorem Only.ppe_drive {B P : Nat} {s t : State} (h : Only B P s t) (hp : P.testBit 37 = false := by decide) :
    t.ppe.drive = s.ppe.drive := h.part 37 hp

theorem Only.ppe_cal {B P : Nat} {s t : State} (h : Only B P s t) (hp : P.testBit 38 = false := by decide) :
    t.ppe.cal = s.ppe.cal := h.part 38 hp

theorem Only.ppe_calDue {B P : Nat} {s t : State} (h : Only B P s t) (hp : P.testBit 39 = false := by decide) :
    t.ppe.calDue = s.ppe.calDue := h.part 39 hp

theorem Only.ppe_calEndedAt {B P : Nat} {s t : State} (h : Only B P s t) (hp : P.testBit 40 = false := by decide) :
    t.ppe.calEndedAt = s.ppe.calEndedAt := h.part 40 hp

theorem Only.ppe_failed {B P : Nat} {s t : State} (h : Only B P s t) (hp : P.testBit 41 = false := by decide) :
    t.ppe.failed = s.ppe.failed := h.part 41 hp

theorem Only.cmp_books {B P : Nat} {s t : State} (h : Only B P s t) (hp : P.testBit 42 = false := by decide) :
    t.cmp.books = s.cmp.books := h.part 42 hp

theorem Only.cmp_sends {B P : Nat} {s t : State} (h : Only B P s t) (hp : P.testBit 43 = false := by decide) :
    t.cmp.sends = s.cmp.sends := h.part 43 hp

theorem Only.cmp_waits {B P : Nat} {s t : State} (h : Only B P s t) (hp : P.testBit 44 = false := by decide) :
    t.cmp.waits = s.cmp.waits := h.part 44 hp

theorem Only.cmp_copies {B P : Nat} {s t : State} (h : Only B P s t) (hp : P.testBit 45 = false := by decide) :
    t.cmp.copies = s.cmp.copies := h.part 45 hp

theorem Only.cmp_opens {B P : Nat} {s t : State} (h : Only B P s t) (hp : P.testBit 46 = false := by decide) :
    t.cmp.opens = s.cmp.opens := h.part 46 hp

theorem Only.cmp_refetch {B P : Nat} {s t : State} (h : Only B P s t) (hp : P.testBit 47 = false := by decide) :
    t.cmp.refetch = s.cmp.refetch := h.part 47 hp

theorem Only.cmp_asked {B P : Nat} {s t : State} (h : Only B P s t) (hp : P.testBit 48 = false := by decide) :
    t.cmp.asked = s.cmp.asked := h.part 48 hp

theorem Only.cmp_delivered {B P : Nat} {s t : State} (h : Only B P s t) (hp : P.testBit 49 = false := by decide) :
    t.cmp.delivered = s.cmp.delivered := h.part 49 hp

theorem Only.cmp_acks {B P : Nat} {s t : State} (h : Only B P s t) (hp : P.testBit 50 = false := by decide) :
    t.cmp.acks = s.cmp.acks := h.part 50 hp

theorem Only.cmp_displaced {B P : Nat} {s t : State} (h : Only B P s t) (hp : P.testBit 51 = false := by decide) :
    t.cmp.displaced = s.cmp.displaced := h.part 51 hp

theorem Only.col_running {B P : Nat} {s t : State} (h : Only B P s t) (hp : P.testBit 52 = false := by decide) :
    t.col.running = s.col.running := h.part 52 hp

theorem Only.col_held {B P : Nat} {s t : State} (h : Only B P s t) (hp : P.testBit 53 = false := by decide) :
    t.col.held = s.col.held := h.part 53 hp

theorem Only.col_lastId {B P : Nat} {s t : State} (h : Only B P s t) (hp : P.testBit 54 = false := by decide) :
    t.col.lastId = s.col.lastId := h.part 54 hp

theorem Only.col_parked {B P : Nat} {s t : State} (h : Only B P s t) (hp : P.testBit 55 = false := by decide) :
    t.col.parked = s.col.parked := h.part 55 hp

theorem Only.col_chunksDone {B P : Nat} {s t : State} (h : Only B P s t) (hp : P.testBit 56 = false := by decide) :
    t.col.chunksDone = s.col.chunksDone := h.part 56 hp

theorem Only.col_instStep {B P : Nat} {s t : State} (h : Only B P s t) (hp : P.testBit 57 = false := by decide) :
    t.col.instStep = s.col.instStep := h.part 57 hp

theorem Only.col_holding {B P : Nat} {s t : State} (h : Only B P s t) (hp : P.testBit 58 = false := by decide) :
    t.col.holding = s.col.holding := h.part 58 hp

theorem Only.col_waiting {B P : Nat} {s t : State} (h : Only B P s t) (hp : P.testBit 59 = false := by decide) :
    t.col.waiting = s.col.waiting := h.part 59 hp

theorem Only.col_failed {B P : Nat} {s t : State} (h : Only B P s t) (hp : P.testBit 60 = false := by decide) :
    t.col.failed = s.col.failed := h.part 60 hp

theorem Only.mem_cells {B P : Nat} {s t : State} (h : Only B P s t) (hp : P.testBit 61 = false := by decide) :
    t.mem.cells = s.mem.cells := h.part 61 hp

theorem Only.mem_poison {B P : Nat} {s t : State} (h : Only B P s t) (hp : P.testBit 62 = false := by decide) :
    t.mem.poison = s.mem.poison := h.part 62 hp

theorem Only.mem_lost {B P : Nat} {s t : State} (h : Only B P s t) (hp : P.testBit 63 = false := by decide) :
    t.mem.lost = s.mem.lost := h.part 63 hp

theorem Only.mem_unencoded {B P : Nat} {s t : State} (h : Only B P s t) (hp : P.testBit 64 = false := by decide) :
    t.mem.unencoded = s.mem.unencoded := h.part 64 hp

theorem Only.mem_pages {B P : Nat} {s t : State} (h : Only B P s t) (hp : P.testBit 65 = false := by decide) :
    t.mem.pages = s.mem.pages := h.part 65 hp

theorem Only.mem_unshadowed {B P : Nat} {s t : State} (h : Only B P s t) (hp : P.testBit 66 = false := by decide) :
    t.mem.unshadowed = s.mem.unshadowed := h.part 66 hp

theorem Only.mem_mirrorDX {B P : Nat} {s t : State} (h : Only B P s t) (hp : P.testBit 67 = false := by decide) :
    t.mem.mirrorDX = s.mem.mirrorDX := h.part 67 hp

theorem Only.mem_remapDue {B P : Nat} {s t : State} (h : Only B P s t) (hp : P.testBit 68 = false := by decide) :
    t.mem.remapDue = s.mem.remapDue := h.part 68 hp

theorem Only.mem_remirroring {B P : Nat} {s t : State} (h : Only B P s t) (hp : P.testBit 69 = false := by decide) :
    t.mem.remirroring = s.mem.remirroring := h.part 69 hp

theorem Only.mem_ctx {B P : Nat} {s t : State} (h : Only B P s t) (hp : P.testBit 70 = false := by decide) :
    t.mem.ctx = s.mem.ctx := h.part 70 hp

theorem Only.mem_cache {B P : Nat} {s t : State} (h : Only B P s t) (hp : P.testBit 71 = false := by decide) :
    t.mem.cache = s.mem.cache := h.part 71 hp

theorem Only.mem_scrubAt {B P : Nat} {s t : State} (h : Only B P s t) (hp : P.testBit 72 = false := by decide) :
    t.mem.scrubAt = s.mem.scrubAt := h.part 72 hp

theorem Only.mem_xRanges {B P : Nat} {s t : State} (h : Only B P s t) (hp : P.testBit 73 = false := by decide) :
    t.mem.xRanges = s.mem.xRanges := h.part 73 hp

theorem Only.bpm_bufs {B P : Nat} {s t : State} (h : Only B P s t) (hp : P.testBit 74 = false := by decide) :
    t.bpm.bufs = s.bpm.bufs := h.part 74 hp

theorem Only.bpm_queue {B P : Nat} {s t : State} (h : Only B P s t) (hp : P.testBit 75 = false := by decide) :
    t.bpm.queue = s.bpm.queue := h.part 75 hp

theorem Only.bpm_limits {B P : Nat} {s t : State} (h : Only B P s t) (hp : P.testBit 76 = false := by decide) :
    t.bpm.limits = s.bpm.limits := h.part 76 hp

theorem Only.ciph_k0 {B P : Nat} {s t : State} (h : Only B P s t) (hp : P.testBit 77 = false := by decide) :
    t.ciph.k0 = s.ciph.k0 := h.part 77 hp

theorem Only.ciph_slots {B P : Nat} {s t : State} (h : Only B P s t) (hp : P.testBit 78 = false := by decide) :
    t.ciph.slots = s.ciph.slots := h.part 78 hp

theorem Only.ciph_uses {B P : Nat} {s t : State} (h : Only B P s t) (hp : P.testBit 79 = false := by decide) :
    t.ciph.uses = s.ciph.uses := h.part 79 hp

theorem Only.ciph_gcs {B P : Nat} {s t : State} (h : Only B P s t) (hp : P.testBit 80 = false := by decide) :
    t.ciph.gcs = s.ciph.gcs := h.part 80 hp

theorem Only.ciph_suspended {B P : Nat} {s t : State} (h : Only B P s t) (hp : P.testBit 81 = false := by decide) :
    t.ciph.suspended = s.ciph.suspended := h.part 81 hp

theorem Only.ciph_tagRun {B P : Nat} {s t : State} (h : Only B P s t) (hp : P.testBit 82 = false := by decide) :
    t.ciph.tagRun = s.ciph.tagRun := h.part 82 hp

theorem Only.ciph_macRx {B P : Nat} {s t : State} (h : Only B P s t) (hp : P.testBit 83 = false := by decide) :
    t.ciph.macRx = s.ciph.macRx := h.part 83 hp

theorem Only.sch_queues {B P : Nat} {s t : State} (h : Only B P s t) (hp : P.testBit 84 = false := by decide) :
    t.sch.queues = s.sch.queues := h.part 84 hp

theorem Only.sch_finish {B P : Nat} {s t : State} (h : Only B P s t) (hp : P.testBit 85 = false := by decide) :
    t.sch.finish = s.sch.finish := h.part 85 hp

theorem Only.sch_vtime {B P : Nat} {s t : State} (h : Only B P s t) (hp : P.testBit 86 = false := by decide) :
    t.sch.vtime = s.sch.vtime := h.part 86 hp

theorem Only.sch_policers {B P : Nat} {s t : State} (h : Only B P s t) (hp : P.testBit 87 = false := by decide) :
    t.sch.policers = s.sch.policers := h.part 87 hp

theorem Only.sch_portBuf {B P : Nat} {s t : State} (h : Only B P s t) (hp : P.testBit 88 = false := by decide) :
    t.sch.portBuf = s.sch.portBuf := h.part 88 hp

theorem Only.peer_sess {B P : Nat} {s t : State} (h : Only B P s t) (hp : P.testBit 89 = false := by decide) :
    t.peer.sess = s.peer.sess := h.part 89 hp

theorem Only.peer_rx {B P : Nat} {s t : State} (h : Only B P s t) (hp : P.testBit 90 = false := by decide) :
    t.peer.rx = s.peer.rx := h.part 90 hp

theorem Only.peer_ready {B P : Nat} {s t : State} (h : Only B P s t) (hp : P.testBit 91 = false := by decide) :
    t.peer.ready = s.peer.ready := h.part 91 hp

theorem Only.peer_members {B P : Nat} {s t : State} (h : Only B P s t) (hp : P.testBit 92 = false := by decide) :
    t.peer.members = s.peer.members := h.part 92 hp

theorem Only.peer_fences {B P : Nat} {s t : State} (h : Only B P s t) (hp : P.testBit 93 = false := by decide) :
    t.peer.fences = s.peer.fences := h.part 93 hp

theorem Only.peer_watch {B P : Nat} {s t : State} (h : Only B P s t) (hp : P.testBit 94 = false := by decide) :
    t.peer.watch = s.peer.watch := h.part 94 hp

theorem Only.peer_journal {B P : Nat} {s t : State} (h : Only B P s t) (hp : P.testBit 95 = false := by decide) :
    t.peer.journal = s.peer.journal := h.part 95 hp

theorem Only.peer_released {B P : Nat} {s t : State} (h : Only B P s t) (hp : P.testBit 96 = false := by decide) :
    t.peer.released = s.peer.released := h.part 96 hp

theorem Only.peer_recon {B P : Nat} {s t : State} (h : Only B P s t) (hp : P.testBit 97 = false := by decide) :
    t.peer.recon = s.peer.recon := h.part 97 hp

theorem Only.peer_stalledAt {B P : Nat} {s t : State} (h : Only B P s t) (hp : P.testBit 98 = false := by decide) :
    t.peer.stalledAt = s.peer.stalledAt := h.part 98 hp

theorem Only.peer_selfFenced {B P : Nat} {s t : State} (h : Only B P s t) (hp : P.testBit 99 = false := by decide) :
    t.peer.selfFenced = s.peer.selfFenced := h.part 99 hp

theorem Only.peer_islands {B P : Nat} {s t : State} (h : Only B P s t) (hp : P.testBit 100 = false := by decide) :
    t.peer.islands = s.peer.islands := h.part 100 hp

theorem Only.peer_recvDone {B P : Nat} {s t : State} (h : Only B P s t) (hp : P.testBit 101 = false := by decide) :
    t.peer.recvDone = s.peer.recvDone := h.part 101 hp

theorem Only.peer_pendingCommits {B P : Nat} {s t : State} (h : Only B P s t) (hp : P.testBit 102 = false := by decide) :
    t.peer.pendingCommits = s.peer.pendingCommits := h.part 102 hp

theorem Only.peer_adopting {B P : Nat} {s t : State} (h : Only B P s t) (hp : P.testBit 103 = false := by decide) :
    t.peer.adopting = s.peer.adopting := h.part 103 hp

theorem Only.peer_hellos {B P : Nat} {s t : State} (h : Only B P s t) (hp : P.testBit 104 = false := by decide) :
    t.peer.hellos = s.peer.hellos := h.part 104 hp

theorem Only.peer_probeAt {B P : Nat} {s t : State} (h : Only B P s t) (hp : P.testBit 105 = false := by decide) :
    t.peer.probeAt = s.peer.probeAt := h.part 105 hp

theorem Only.evt_last {B P : Nat} {s t : State} (h : Only B P s t) (hp : P.testBit 106 = false := by decide) :
    t.evt.last = s.evt.last := h.part 106 hp

theorem Only.evt_gathered {B P : Nat} {s t : State} (h : Only B P s t) (hp : P.testBit 107 = false := by decide) :
    t.evt.gathered = s.evt.gathered := h.part 107 hp

theorem Only.evt_gatherAt {B P : Nat} {s t : State} (h : Only B P s t) (hp : P.testBit 108 = false := by decide) :
    t.evt.gatherAt = s.evt.gatherAt := h.part 108 hp

theorem Only.evt_completions {B P : Nat} {s t : State} (h : Only B P s t) (hp : P.testBit 109 = false := by decide) :
    t.evt.completions = s.evt.completions := h.part 109 hp

theorem Only.evt_outstanding {B P : Nat} {s t : State} (h : Only B P s t) (hp : P.testBit 110 = false := by decide) :
    t.evt.outstanding = s.evt.outstanding := h.part 110 hp

theorem Only.evt_delivered {B P : Nat} {s t : State} (h : Only B P s t) (hp : P.testBit 111 = false := by decide) :
    t.evt.delivered = s.evt.delivered := h.part 111 hp

theorem Only.evt_held {B P : Nat} {s t : State} (h : Only B P s t) (hp : P.testBit 112 = false := by decide) :
    t.evt.held = s.evt.held := h.part 112 hp

theorem Only.evt_seqs {B P : Nat} {s t : State} (h : Only B P s t) (hp : P.testBit 113 = false := by decide) :
    t.evt.seqs = s.evt.seqs := h.part 113 hp

theorem Only.evt_pins {B P : Nat} {s t : State} (h : Only B P s t) (hp : P.testBit 114 = false := by decide) :
    t.evt.pins = s.evt.pins := h.part 114 hp

theorem Only.bist_bins {B P : Nat} {s t : State} (h : Only B P s t) (hp : P.testBit 115 = false := by decide) :
    t.bist.bins = s.bist.bins := h.part 115 hp

theorem Only.bist_runs {B P : Nat} {s t : State} (h : Only B P s t) (hp : P.testBit 116 = false := by decide) :
    t.bist.runs = s.bist.runs := h.part 116 hp

theorem Only.bist_lastStart {B P : Nat} {s t : State} (h : Only B P s t) (hp : P.testBit 117 = false := by decide) :
    t.bist.lastStart = s.bist.lastStart := h.part 117 hp

theorem Only.bist_retireAfter {B P : Nat} {s t : State} (h : Only B P s t) (hp : P.testBit 118 = false := by decide) :
    t.bist.retireAfter = s.bist.retireAfter := h.part 118 hp

theorem Only.bist_cycle {B P : Nat} {s t : State} (h : Only B P s t) (hp : P.testBit 119 = false := by decide) :
    t.bist.cycle = s.bist.cycle := h.part 119 hp

theorem Only.bist_cycleEnd {B P : Nat} {s t : State} (h : Only B P s t) (hp : P.testBit 120 = false := by decide) :
    t.bist.cycleEnd = s.bist.cycleEnd := h.part 120 hp

theorem Only.bist_sigs {B P : Nat} {s t : State} (h : Only B P s t) (hp : P.testBit 121 = false := by decide) :
    t.bist.sigs = s.bist.sigs := h.part 121 hp

theorem Only.bist_noc {B P : Nat} {s t : State} (h : Only B P s t) (hp : P.testBit 122 = false := by decide) :
    t.bist.noc = s.bist.noc := h.part 122 hp

theorem Only.line_ports {B P : Nat} {s t : State} (h : Only B P s t) (hp : P.testBit 123 = false := by decide) :
    t.line.ports = s.line.ports := h.part 123 hp

theorem Only.line_access {B P : Nat} {s t : State} (h : Only B P s t) (hp : P.testBit 124 = false := by decide) :
    t.line.access = s.line.access := h.part 124 hp

theorem Only.line_gcs {B P : Nat} {s t : State} (h : Only B P s t) (hp : P.testBit 125 = false := by decide) :
    t.line.gcs = s.line.gcs := h.part 125 hp

theorem Only.fab_circuits {B P : Nat} {s t : State} (h : Only B P s t) (hp : P.testBit 126 = false := by decide) :
    t.fab.circuits = s.fab.circuits := h.part 126 hp

theorem Only.fab_bridge {B P : Nat} {s t : State} (h : Only B P s t) (hp : P.testBit 127 = false := by decide) :
    t.fab.bridge = s.fab.bridge := h.part 127 hp

theorem Only.fab_reqs {B P : Nat} {s t : State} (h : Only B P s t) (hp : P.testBit 128 = false := by decide) :
    t.fab.reqs = s.fab.reqs := h.part 128 hp

theorem Only.fab_sent {B P : Nat} {s t : State} (h : Only B P s t) (hp : P.testBit 129 = false := by decide) :
    t.fab.sent = s.fab.sent := h.part 129 hp

theorem Only.fab_flits {B P : Nat} {s t : State} (h : Only B P s t) (hp : P.testBit 130 = false := by decide) :
    t.fab.flits = s.fab.flits := h.part 130 hp

theorem Only.fab_rxFlits {B P : Nat} {s t : State} (h : Only B P s t) (hp : P.testBit 131 = false := by decide) :
    t.fab.rxFlits = s.fab.rxFlits := h.part 131 hp

theorem Only.fab_homes {B P : Nat} {s t : State} (h : Only B P s t) (hp : P.testBit 132 = false := by decide) :
    t.fab.homes = s.fab.homes := h.part 132 hp

theorem Only.opt_spares {B P : Nat} {s t : State} (h : Only B P s t) (hp : P.testBit 133 = false := by decide) :
    t.opt.spares = s.opt.spares := h.part 133 hp

theorem Only.opt_switching {B P : Nat} {s t : State} (h : Only B P s t) (hp : P.testBit 134 = false := by decide) :
    t.opt.switching = s.opt.switching := h.part 134 hp

theorem Only.opt_relocking {B P : Nat} {s t : State} (h : Only B P s t) (hp : P.testBit 135 = false := by decide) :
    t.opt.relocking = s.opt.relocking := h.part 135 hp

theorem Only.opt_alternate {B P : Nat} {s t : State} (h : Only B P s t) (hp : P.testBit 136 = false := by decide) :
    t.opt.alternate = s.opt.alternate := h.part 136 hp

theorem Only.opt_held {B P : Nat} {s t : State} (h : Only B P s t) (hp : P.testBit 137 = false := by decide) :
    t.opt.held = s.opt.held := h.part 137 hp

theorem Only.opt_moving {B P : Nat} {s t : State} (h : Only B P s t) (hp : P.testBit 138 = false := by decide) :
    t.opt.moving = s.opt.moving := h.part 138 hp

theorem Only.opt_calStart {B P : Nat} {s t : State} (h : Only B P s t) (hp : P.testBit 139 = false := by decide) :
    t.opt.calStart = s.opt.calStart := h.part 139 hp

theorem Only.opt_unlocked {B P : Nat} {s t : State} (h : Only B P s t) (hp : P.testBit 140 = false := by decide) :
    t.opt.unlocked = s.opt.unlocked := h.part 140 hp

theorem Only.opt_burstAt {B P : Nat} {s t : State} (h : Only B P s t) (hp : P.testBit 141 = false := by decide) :
    t.opt.burstAt = s.opt.burstAt := h.part 141 hp

theorem Only.opt_target {B P : Nat} {s t : State} (h : Only B P s t) (hp : P.testBit 142 = false := by decide) :
    t.opt.target = s.opt.target := h.part 142 hp

theorem Only.opt_drive {B P : Nat} {s t : State} (h : Only B P s t) (hp : P.testBit 143 = false := by decide) :
    t.opt.drive = s.opt.drive := h.part 143 hp

theorem Only.opt_sensor0 {B P : Nat} {s t : State} (h : Only B P s t) (hp : P.testBit 144 = false := by decide) :
    t.opt.sensor0 = s.opt.sensor0 := h.part 144 hp

theorem Only.opt_sensorCoef {B P : Nat} {s t : State} (h : Only B P s t) (hp : P.testBit 145 = false := by decide) :
    t.opt.sensorCoef = s.opt.sensorCoef := h.part 145 hp

theorem Only.opt_lag {B P : Nat} {s t : State} (h : Only B P s t) (hp : P.testBit 146 = false := by decide) :
    t.opt.lag = s.opt.lag := h.part 146 hp

theorem Only.opt_level {B P : Nat} {s t : State} (h : Only B P s t) (hp : P.testBit 147 = false := by decide) :
    t.opt.level = s.opt.level := h.part 147 hp

theorem Only.time_bases {B P : Nat} {s t : State} (h : Only B P s t) (hp : P.testBit 148 = false := by decide) :
    t.time.bases = s.time.bases := h.part 148 hp

theorem Only.time_routes {B P : Nat} {s t : State} (h : Only B P s t) (hp : P.testBit 149 = false := by decide) :
    t.time.routes = s.time.routes := h.part 149 hp

theorem Only.time_ptp {B P : Nat} {s t : State} (h : Only B P s t) (hp : P.testBit 150 = false := by decide) :
    t.time.ptp = s.time.ptp := h.part 150 hp

theorem Only.time_peer {B P : Nat} {s t : State} (h : Only B P s t) (hp : P.testBit 151 = false := by decide) :
    t.time.peer = s.time.peer := h.part 151 hp

theorem Only.time_diff {B P : Nat} {s t : State} (h : Only B P s t) (hp : P.testBit 152 = false := by decide) :
    t.time.diff = s.time.diff := h.part 152 hp

theorem Only.time_validSince {B P : Nat} {s t : State} (h : Only B P s t) (hp : P.testBit 153 = false := by decide) :
    t.time.validSince = s.time.validSince := h.part 153 hp

theorem Only.time_follows {B P : Nat} {s t : State} (h : Only B P s t) (hp : P.testBit 154 = false := by decide) :
    t.time.follows = s.time.follows := h.part 154 hp

theorem Only.time_ppsAt {B P : Nat} {s t : State} (h : Only B P s t) (hp : P.testBit 155 = false := by decide) :
    t.time.ppsAt = s.time.ppsAt := h.part 155 hp

theorem Only.cst_alternate {B P : Nat} {s t : State} (h : Only B P s t) (hp : P.testBit 156 = false := by decide) :
    t.cst.alternate = s.cst.alternate := h.part 156 hp

theorem Only.cst_reserve {B P : Nat} {s t : State} (h : Only B P s t) (hp : P.testBit 157 = false := by decide) :
    t.cst.reserve = s.cst.reserve := h.part 157 hp

theorem Only.cst_map {B P : Nat} {s t : State} (h : Only B P s t) (hp : P.testBit 158 = false := by decide) :
    t.cst.map = s.cst.map := h.part 158 hp

theorem Only.cst_links {B P : Nat} {s t : State} (h : Only B P s t) (hp : P.testBit 159 = false := by decide) :
    t.cst.links = s.cst.links := h.part 159 hp

theorem Only.cst_changedAt {B P : Nat} {s t : State} (h : Only B P s t) (hp : P.testBit 160 = false := by decide) :
    t.cst.changedAt = s.cst.changedAt := h.part 160 hp

theorem Only.cst_nextFwd {B P : Nat} {s t : State} (h : Only B P s t) (hp : P.testBit 161 = false := by decide) :
    t.cst.nextFwd = s.cst.nextFwd := h.part 161 hp

theorem Only.cst_fwds {B P : Nat} {s t : State} (h : Only B P s t) (hp : P.testBit 162 = false := by decide) :
    t.cst.fwds = s.cst.fwds := h.part 162 hp

theorem Only.cst_results {B P : Nat} {s t : State} (h : Only B P s t) (hp : P.testBit 163 = false := by decide) :
    t.cst.results = s.cst.results := h.part 163 hp

theorem Only.cst_txnMembers {B P : Nat} {s t : State} (h : Only B P s t) (hp : P.testBit 164 = false := by decide) :
    t.cst.txnMembers = s.cst.txnMembers := h.part 164 hp

theorem Only.cst_applied {B P : Nat} {s t : State} (h : Only B P s t) (hp : P.testBit 165 = false := by decide) :
    t.cst.applied = s.cst.applied := h.part 165 hp

theorem Only.cst_commits {B P : Nat} {s t : State} (h : Only B P s t) (hp : P.testBit 166 = false := by decide) :
    t.cst.commits = s.cst.commits := h.part 166 hp

theorem Only.cst_held {B P : Nat} {s t : State} (h : Only B P s t) (hp : P.testBit 167 = false := by decide) :
    t.cst.held = s.cst.held := h.part 167 hp

theorem Only.cst_reports {B P : Nat} {s t : State} (h : Only B P s t) (hp : P.testBit 168 = false := by decide) :
    t.cst.reports = s.cst.reports := h.part 168 hp

theorem Only.cst_meridian {B P : Nat} {s t : State} (h : Only B P s t) (hp : P.testBit 169 = false := by decide) :
    t.cst.meridian = s.cst.meridian := h.part 169 hp

theorem Only.cst_reported {B P : Nat} {s t : State} (h : Only B P s t) (hp : P.testBit 170 = false := by decide) :
    t.cst.reported = s.cst.reported := h.part 170 hp

theorem Only.cst_swaps {B P : Nat} {s t : State} (h : Only B P s t) (hp : P.testBit 171 = false := by decide) :
    t.cst.swaps = s.cst.swaps := h.part 171 hp

theorem Only.cst_poleGone {B P : Nat} {s t : State} (h : Only B P s t) (hp : P.testBit 172 = false := by decide) :
    t.cst.poleGone = s.cst.poleGone := h.part 172 hp

theorem Only.host_asked {B P : Nat} {s t : State} (h : Only B P s t) (hp : P.testBit 173 = false := by decide) :
    t.host.asked = s.host.asked := h.part 173 hp

theorem Only.host_answered {B P : Nat} {s t : State} (h : Only B P s t) (hp : P.testBit 174 = false := by decide) :
    t.host.answered = s.host.answered := h.part 174 hp

theorem Only.host_replay {B P : Nat} {s t : State} (h : Only B P s t) (hp : P.testBit 175 = false := by decide) :
    t.host.replay = s.host.replay := h.part 175 hp

theorem Only.host_inEffect {B P : Nat} {s t : State} (h : Only B P s t) (hp : P.testBit 176 = false := by decide) :
    t.host.inEffect = s.host.inEffect := h.part 176 hp

theorem Only.host_lastTxn {B P : Nat} {s t : State} (h : Only B P s t) (hp : P.testBit 177 = false := by decide) :
    t.host.lastTxn = s.host.lastTxn := h.part 177 hp

theorem Only.host_txns {B P : Nat} {s t : State} (h : Only B P s t) (hp : P.testBit 178 = false := by decide) :
    t.host.txns = s.host.txns := h.part 178 hp

theorem Only.host_lastSnap {B P : Nat} {s t : State} (h : Only B P s t) (hp : P.testBit 179 = false := by decide) :
    t.host.lastSnap = s.host.lastSnap := h.part 179 hp

theorem Only.host_snaps {B P : Nat} {s t : State} (h : Only B P s t) (hp : P.testBit 180 = false := by decide) :
    t.host.snaps = s.host.snaps := h.part 180 hp

theorem Only.host_load {B P : Nat} {s t : State} (h : Only B P s t) (hp : P.testBit 181 = false := by decide) :
    t.host.load = s.host.load := h.part 181 hp

theorem Only.img_owner {B P : Nat} {s t : State} (h : Only B P s t) (hp : P.testBit 182 = false := by decide) :
    t.img.owner = s.img.owner := h.part 182 hp

theorem Only.img_sectors {B P : Nat} {s t : State} (h : Only B P s t) (hp : P.testBit 183 = false := by decide) :
    t.img.sectors = s.img.sectors := h.part 183 hp

theorem Only.img_staged {B P : Nat} {s t : State} (h : Only B P s t) (hp : P.testBit 184 = false := by decide) :
    t.img.staged = s.img.staged := h.part 184 hp

theorem Only.img_deadlines {B P : Nat} {s t : State} (h : Only B P s t) (hp : P.testBit 185 = false := by decide) :
    t.img.deadlines = s.img.deadlines := h.part 185 hp

theorem Only.img_activating {B P : Nat} {s t : State} (h : Only B P s t) (hp : P.testBit 186 = false := by decide) :
    t.img.activating = s.img.activating := h.part 186 hp

theorem Only.img_patch {B P : Nat} {s t : State} (h : Only B P s t) (hp : P.testBit 187 = false := by decide) :
    t.img.patch = s.img.patch := h.part 187 hp

theorem Only.img_purpose {B P : Nat} {s t : State} (h : Only B P s t) (hp : P.testBit 188 = false := by decide) :
    t.img.purpose = s.img.purpose := h.part 188 hp

theorem Only.img_fw {B P : Nat} {s t : State} (h : Only B P s t) (hp : P.testBit 189 = false := by decide) :
    t.img.fw = s.img.fw := h.part 189 hp

theorem Only.img_copyA {B P : Nat} {s t : State} (h : Only B P s t) (hp : P.testBit 190 = false := by decide) :
    t.img.copyA = s.img.copyA := h.part 190 hp

theorem Only.img_copyB {B P : Nat} {s t : State} (h : Only B P s t) (hp : P.testBit 191 = false := by decide) :
    t.img.copyB = s.img.copyB := h.part 191 hp

theorem Only.img_preferB {B P : Nat} {s t : State} (h : Only B P s t) (hp : P.testBit 192 = false := by decide) :
    t.img.preferB = s.img.preferB := h.part 192 hp

theorem Only.img_area {B P : Nat} {s t : State} (h : Only B P s t) (hp : P.testBit 193 = false := by decide) :
    t.img.area = s.img.area := h.part 193 hp

theorem Only.sec_claimKey {B P : Nat} {s t : State} (h : Only B P s t) (hp : P.testBit 194 = false := by decide) :
    t.sec.claimKey = s.sec.claimKey := h.part 194 hp

theorem Only.sec_boot {B P : Nat} {s t : State} (h : Only B P s t) (hp : P.testBit 195 = false := by decide) :
    t.sec.boot = s.sec.boot := h.part 195 hp

theorem Only.sec_owners {B P : Nat} {s t : State} (h : Only B P s t) (hp : P.testBit 196 = false := by decide) :
    t.sec.owners = s.sec.owners := h.part 196 hp

theorem Only.sec_reservedLeaf {B P : Nat} {s t : State} (h : Only B P s t) (hp : P.testBit 197 = false := by decide) :
    t.sec.reservedLeaf = s.sec.reservedLeaf := h.part 197 hp

theorem Only.sec_quote {B P : Nat} {s t : State} (h : Only B P s t) (hp : P.testBit 198 = false := by decide) :
    t.sec.quote = s.sec.quote := h.part 198 hp

theorem Only.sec_persisting {B P : Nat} {s t : State} (h : Only B P s t) (hp : P.testBit 199 = false := by decide) :
    t.sec.persisting = s.sec.persisting := h.part 199 hp

theorem Only.sec_stageAt {B P : Nat} {s t : State} (h : Only B P s t) (hp : P.testBit 200 = false := by decide) :
    t.sec.stageAt = s.sec.stageAt := h.part 200 hp

theorem Only.pwr_porst {B P : Nat} {s t : State} (h : Only B P s t) (hp : P.testBit 201 = false := by decide) :
    t.pwr.porst = s.pwr.porst := h.part 201 hp

theorem Only.pwr_held {B P : Nat} {s t : State} (h : Only B P s t) (hp : P.testBit 202 = false := by decide) :
    t.pwr.held = s.pwr.held := h.part 202 hp

theorem Only.pwr_off {B P : Nat} {s t : State} (h : Only B P s t) (hp : P.testBit 203 = false := by decide) :
    t.pwr.off = s.pwr.off := h.part 203 hp

theorem Only.pwr_outAt {B P : Nat} {s t : State} (h : Only B P s t) (hp : P.testBit 204 = false := by decide) :
    t.pwr.outAt = s.pwr.outAt := h.part 204 hp

theorem Only.pwr_calmAt {B P : Nat} {s t : State} (h : Only B P s t) (hp : P.testBit 205 = false := by decide) :
    t.pwr.calmAt = s.pwr.calmAt := h.part 205 hp

theorem Only.pwr_cappedAt {B P : Nat} {s t : State} (h : Only B P s t) (hp : P.testBit 206 = false := by decide) :
    t.pwr.cappedAt = s.pwr.cappedAt := h.part 206 hp

theorem Only.pwr_refLostAt {B P : Nat} {s t : State} (h : Only B P s t) (hp : P.testBit 207 = false := by decide) :
    t.pwr.refLostAt = s.pwr.refLostAt := h.part 207 hp

theorem Only.pwr_softDue {B P : Nat} {s t : State} (h : Only B P s t) (hp : P.testBit 208 = false := by decide) :
    t.pwr.softDue = s.pwr.softDue := h.part 208 hp

theorem Only.pwr_warm {B P : Nat} {s t : State} (h : Only B P s t) (hp : P.testBit 209 = false := by decide) :
    t.pwr.warm = s.pwr.warm := h.part 209 hp

theorem Only.pwr_hot {B P : Nat} {s t : State} (h : Only B P s t) (hp : P.testBit 210 = false := by decide) :
    t.pwr.hot = s.pwr.hot := h.part 210 hp

/-! ### Memory -/

theorem memWf_cellsWrite (bs : List Byte) {m : List Host.Cell} (k : Nat) (h : memWf m = true) :
    memWf (cellsWrite m k bs) = true := by
  induction bs generalizing m k with
  | nil => exact h
  | cons b bs ih => exact ih (k + 1) (tabWf_tset h)

theorem State.wrBytes_only (s : State) (tier addr : Nat) (bs : List Byte) :
    Only 0 108374621433043615744 s (s.wrBytes tier addr bs) :=
  Only.up_cells (Only.refl _ _ _) (memWf_cellsWrite bs _)

end Sys2Proof.Machine
end

