-- ==== Sys2Proof/Laws/Apart.lean ====
section
/-! SUPPORT. Registers that share no address, and what a field and memory read after an operation that leaves them alone. -/

-- One theorem at a time: elaborated side by side, the theorems of the package take a thread each while they wait.
set_option Elab.async false

namespace Sys2Proof.Machine

/-- The addresses of a register modulo `m`, as one interval, where they are one. -/
def Reg.residues (r : Reg) (m : Nat) : Option (Nat × Nat) :=
  let lo := r.base % m
  if r.s1 % m = 0 then
    if r.s2 % m = 0 then (if lo + 8 ≤ m then some (lo, lo + 8) else none)
    else if lo + (r.n2 - 1) * r.s2 + 8 ≤ m then some (lo, lo + (r.n2 - 1) * r.s2 + 8) else none
  else none

/-- The last address of a register, plus one. -/
def Reg.stop (r : Reg) : Nat := r.base + (r.n1 - 1) * r.s1 + (r.n2 - 1) * r.s2 + 8

/-- Two registers share no address: one lies below the other, or they interleave in one stride. -/
def Reg.apart (r q : Reg) : Bool :=
  Nat.ble r.stop q.base || Nat.ble q.stop r.base ||
    [r.s1, r.s2].any fun m =>
      match r.residues m, q.residues m with
      | some x, some y => Nat.ble x.2 y.1 || Nat.ble y.2 x.1
      | _, _ => false

theorem Reg.addr_range {r : Reg} {k : Nat} (hk : k < r.n1 * r.n2) : r.base ≤ r.addr k ∧ r.addr k + 8 ≤ r.stop := by
  have h2 : 0 < r.n2 := Nat.pos_of_ne_zero fun h0 => by simp [h0] at hk
  have hd : k / r.n2 ≤ r.n1 - 1 := by
    have := Nat.div_lt_of_lt_mul (Nat.mul_comm r.n1 r.n2 ▸ hk)
    omega
  have hm : k % r.n2 ≤ r.n2 - 1 := by
    have := Nat.mod_lt k h2
    omega
  have e1 := Nat.mul_le_mul_right r.s1 hd
  have e2 := Nat.mul_le_mul_right r.s2 hm
  unfold Reg.addr Reg.stop
  omega

theorem Reg.addr_mod {r : Reg} {k m lo hi : Nat} (h : r.residues m = some (lo, hi)) (hk : k < r.n1 * r.n2) :
    lo ≤ r.addr k % m ∧ r.addr k % m + 8 ≤ hi ∧ r.addr k % m + 8 ≤ m := by
  have h2 : 0 < r.n2 := Nat.pos_of_ne_zero fun h0 => by simp [h0] at hk
  have hm : k % r.n2 ≤ r.n2 - 1 := by
    have := Nat.mod_lt k h2
    omega
  have e2 := Nat.mul_le_mul_right r.s2 hm
  unfold Reg.residues at h
  dsimp only at h
  split at h
  · rename_i h1
    obtain ⟨c, hc⟩ := Nat.dvd_of_mod_eq_zero h1
    have ea : k / r.n2 * r.s1 = m * (c * (k / r.n2)) := by rw [hc]; ring
    split at h
    · rename_i h3
      obtain ⟨d, hd⟩ := Nat.dvd_of_mod_eq_zero h3
      have eb : k % r.n2 * r.s2 = m * (d * (k % r.n2)) := by rw [hd]; ring
      split at h
      · cases h
        have : r.addr k % m = r.base % m := by
          unfold Reg.addr
          rw [ea, eb, Nat.add_mul_mod_self_left, Nat.add_mul_mod_self_left]
        omega
      · cases h
    · split at h
      · rename_i h4
        cases h
        have : r.addr k % m = r.base % m + k % r.n2 * r.s2 := by
          unfold Reg.addr
          rw [ea, Nat.add_right_comm, Nat.add_mul_mod_self_left, Nat.add_mod, Nat.mod_eq_of_lt (a := k % r.n2 * r.s2) (by omega),
            Nat.mod_eq_of_lt (by omega)]
        omega
      · cases h
  · cases h

theorem Reg.not_both {r q : Reg} (h : r.apart q = true) {a : Nat} (hr : r.spans a) (hq : q.spans a) : False := by
  obtain ⟨j, hj, hj1, hj2⟩ := hr
  obtain ⟨k, hk, hk1, hk2⟩ := hq
  have rr := Reg.addr_range hj
  have rq := Reg.addr_range hk
  simp only [Reg.apart, Bool.or_eq_true, Nat.ble_eq, List.any_eq_true] at h
  obtain (h | h) | ⟨m, -, h⟩ := h
  · omega
  · omega
  · split at h
    · rename_i x y hx hy
      have mx := Reg.addr_mod (lo := x.1) (hi := x.2) hx hj
      have my := Reg.addr_mod (lo := y.1) (hi := y.2) hy hk
      have e1 : a % m = r.addr j % m + (a - r.addr j) := by
        conv_lhs => rw [← Nat.add_sub_cancel' hj1, Nat.add_mod, Nat.mod_eq_of_lt (a := a - r.addr j) (by omega)]
        exact Nat.mod_eq_of_lt (by omega)
      have e2 : a % m = q.addr k % m + (a - q.addr k) := by
        conv_lhs => rw [← Nat.add_sub_cancel' hk1, Nat.add_mod, Nat.mod_eq_of_lt (a := a - q.addr k) (by omega)]
        exact Nat.mod_eq_of_lt (by omega)
      simp only [Bool.or_eq_true, Nat.ble_eq] at h
      omega
    · cases h

/-- The register of a field. -/
def Fld.shape (x : Fld) : Reg := ⟨x.base, x.n1, x.s1, x.n2, x.s2, 0, []⟩

theorem Fld.shape_spans {x : Fld} {k : Nat} (hk : x.has k = true) : x.shape.spans (x.addr k) :=
  ⟨k, of_decide_eq_true hk, Nat.le_refl _, by show x.addr k < x.addr k + 8; omega⟩

/-- No register of a mask shares an address with a register. -/
def clearOf (B : Nat) (r : Reg) : Bool := !B.testBit 368 && (List.range 368).all fun i => !B.testBit i || (regShape i).apart r

theorem testBit_small {B i : Nat} (hB : B ≤ 1202453802380202612679414065556140558016349465041059773802132977424491020858679523053413887173001575952350707711) (h : B.testBit i = true) : i < 369 := by
  by_contra hc
  rw [Nat.testBit_eq_false_of_lt (Nat.lt_of_lt_of_le (Nat.lt_of_le_of_lt hB (by decide : _ < 2 ^ 123 * 2 ^ 123 * 2 ^ 123))
    (by rw [← Nat.pow_add, ← Nat.pow_add]; exact Nat.pow_le_pow_right (by decide) (Nat.le_of_not_lt hc)))] at h
  cases h

/-- A word of a register that an operation does not touch. -/
theorem Only.word_eq {B P : Nat} {s t : State} (h : Only B P s t) (hs : s.Canon) {r : Reg} {a : Nat} (ha : r.spans a)
    (hr : clearOf B r = true := by decide +kernel) (hB : B ≤ 1202453802380202612679414065556140558016349465041059773802132977424491020858679523053413887173001575952350707711 := by decide) : t.word a = s.word a := by
  simp only [clearOf, Bool.and_eq_true, Bool.not_eq_true', List.all_eq_true, Bool.or_eq_true] at hr
  refine h.word hs hr.1 a fun i hi hsp => ?_
  have hlt : i < 368 := by
    have := testBit_small hB hi
    rcases Nat.lt_or_ge i 368 with h1 | h1
    · exact h1
    · have : i = 368 := by omega
      rw [this, hr.1] at hi
      cases hi
  rcases hr.2 i (List.mem_range.2 hlt) with h1 | h1
  · rw [h1] at hi
    cases hi
  · exact Reg.not_both h1 hsp ha

/-- A field of a register that an operation does not touch. -/
theorem Only.f_eq {B P : Nat} {s t : State} (h : Only B P s t) (hs : s.Canon) (x : Fld) (k : Nat)
    (hk : x.has k = true := by decide) (hr : clearOf B x.shape = true := by decide +kernel) (hB : B ≤ 1202453802380202612679414065556140558016349465041059773802132977424491020858679523053413887173001575952350707711 := by decide) :
    t.f x k = s.f x k := by
  have := h.word hs
  unfold State.f regFld
  have e := h.word_eq hs (Fld.shape_spans hk) hr hB
  unfold State.word at e
  rw [e]

/-- Bytes of memory after an operation that stores nothing. -/
theorem Only.rdBytes_eq {B P : Nat} {s t : State} (h : Only B P s t) (tier addr len : Nat)
    (hp : P.testBit 61 = false := by decide) : t.rdBytes tier addr len = s.rdBytes tier addr len := by
  induction len generalizing addr with
  | zero => rfl
  | succ n ih =>
    unfold State.rdBytes State.rdByte
    rw [h.mem_cells hp, ih]

end Sys2Proof.Machine
end

