-- ==== Sys2Proof/Laws/OnlyShared.lean ====
section
/-! SUPPORT. What each operation changes and what it leaves as it is: shared operations: buffers, items, responses, queues, pages. One lemma per operation, stated with
the relation of Laws/Only.lean. -/

-- One theorem at a time: elaborated side by side, the theorems of the package take a thread each while they wait.
set_option Elab.async false

namespace Sys2Proof.Machine

/-! ### Ops -/

theorem State.fresh_only (s : State) :
    Only 0 4 s (State.fresh s).2 := by
  unfold State.fresh
  refine Only.pair _ ?_
  refine Only.up_free ?_
  exact Only.refl _ _ _

theorem State.emit_only (s : State) (e : Emit) :
    Only 0 8 s (State.emit s e) := by
  unfold State.emit
  refine Only.up_out ?_
  exact Only.refl _ _ _

/-! ### Flags -/

theorem State.nextView_only (s : State) :
    Only 4 0 s (State.nextView s) := by
  unfold State.nextView
  refine Only.trans ?_ (State.setf_only _ _ _ _ (by decide))
  exact Only.refl _ _ _

theorem State.ownView_only (s : State) :
    Only 4 0 s (State.ownView s) := by
  unfold State.ownView
  refine Only.ite ?_ ?_
  · refine Only.step ?_ (State.nextView_only ..)
    exact Only.refl _ _ _
  · exact Only.refl _ _ _

theorem State.syncSectors_only (s : State) :
    Only 1606938044258990275541962092341162602522202993784991925665792 0 s (State.syncSectors s) := by
  unfold State.syncSectors
  extract_lets +onlyGivenNames v0
  unfold v0
  clear v0
  extract_lets +onlyGivenNames v1
  clear_value v1
  refine Only.trans ?_ (State.setf_only _ _ _ _ (by decide))
  refine Only.trans ?_ (State.setf_only _ _ _ _ (by decide))
  refine Only.trans ?_ (State.setf_only _ _ _ _ (by decide))
  refine Only.trans ?_ (State.setf_only _ _ _ _ (by decide))
  refine Only.trans ?_ (State.setf_only _ _ _ _ (by decide))
  refine Only.trans ?_ (State.setf_only _ _ _ _ (by decide))
  exact Only.refl _ _ _

theorem State.tellView_only (s : State) :
    Only 0 8 s (State.tellView s) := by
  unfold State.tellView
  refine Only.foldl ?_ ?_
  · exact Only.refl _ _ _
  · intro u0 u1 h2
    refine Only.step ?_ (State.emit_only ..)
    exact h2

theorem State.commitView_only (s : State) :
    Only 4 8 s (State.commitView s) := by
  unfold State.commitView
  refine Only.ite ?_ ?_
  · refine Only.step ?_ (State.nextView_only ..)
    exact Only.refl _ _ _
  · refine Only.ite ?_ ?_
    · refine Only.step ?_ (State.tellView_only ..)
      refine Only.step ?_ (State.nextView_only ..)
      exact Only.refl _ _ _
    · exact Only.refl _ _ _

/-! ### Operands -/

theorem State.setCtx_only (s : State) (i : Nat) (c : Machine.Ctx) :
    Only 0 1180591620717411303424 s (State.setCtx s i c) := by
  unfold State.setCtx
  refine Only.up_mem ?_
  exact Only.refl _ _ _

/-! ### Buffers -/

theorem State.syncQueue_only (s : State) :
    Only 215679573337205118357336120696157045389097155380324579848828881993728 0 s (State.syncQueue s) := by
  unfold State.syncQueue
  refine Only.foldl ?_ ?_
  · exact Only.refl _ _ _
  · intro u0 u1 h2
    extract_lets +onlyGivenNames v3
    clear_value v3
    extract_lets +onlyGivenNames v4
    clear_value v4
    refine Only.trans ?_ (State.setf_only _ _ _ _ (by decide))
    refine Only.trans ?_ (State.setf_only _ _ _ _ (by decide))
    exact h2

theorem State.syncPool_only (s : State) (p : Nat) :
    Only 108155723543608230738761814431129533991505262976363937258177373929472 0 s (State.syncPool s p) := by
  unfold State.syncPool
  extract_lets +onlyGivenNames v0
  clear_value v0
  extract_lets +onlyGivenNames v1
  clear_value v1
  extract_lets +onlyGivenNames v2
  clear_value v2
  extract_lets +onlyGivenNames v3
  clear_value v3
  extract_lets +onlyGivenNames v4
  have h5 : Only 108155723543608230738761814431129533991505262976363937258177373929472 0 s v4 := by
    unfold v4
    refine Only.trans ?_ (State.setf_only _ _ _ _ (by decide))
    refine Only.trans ?_ (State.setf_only _ _ _ _ (by decide))
    exact Only.refl _ _ _
  obtain ⟨w6, e7⟩ : ∃ x, x = v4 := ⟨_, rfl⟩
  rw [← e7] at h5 ⊢
  clear e7 v4
  extract_lets +onlyGivenNames v8
  have h9 : Only 108155723543608230738761814431129533991505262976363937258177373929472 0 s v8 := by
    unfold v8
    refine Only.trans ?_ (State.eventIf_only _ _ _ _ (by decide))
    exact h5
  obtain ⟨w10, e11⟩ : ∃ x, x = v8 := ⟨_, rfl⟩
  rw [← e11] at h9 ⊢
  clear e11 v8
  extract_lets +onlyGivenNames v12
  have h13 : Only 108155723543608230738761814431129533991505262976363937258177373929472 0 s v12 := by
    unfold v12
    refine Only.trans ?_ (State.eventIf_only _ _ _ _ (by decide))
    exact h9
  obtain ⟨w14, e15⟩ : ∃ x, x = v12 := ⟨_, rfl⟩
  rw [← e15] at h13 ⊢
  clear e15 v12
  refine Only.trans ?_ (State.putBit_only _ _ _ _ _ (by decide))
  refine Only.trans ?_ (State.putBit_only _ _ _ _ _ (by decide))
  exact h13

theorem State.syncPools_only (s : State) (ps : List Nat) :
    Only 108155723543608230738761814431129533991505262976363937258177373929472 0 s (State.syncPools s ps) := by
  unfold State.syncPools
  refine Only.foldl ?_ ?_
  · exact Only.refl _ _ _
  · intro u0 u1 h2
    refine Only.step ?_ (State.syncPool_only ..)
    exact h2

theorem State.freeHolder_only (s : State) (h : Holder) :
    Only 323835296880813349096097935127286579380602418356688517107006255923200 56668397794435742564352 s (State.freeHolder s h) := by
  unfold State.freeHolder
  extract_lets +onlyGivenNames v0
  clear_value v0
  refine Only.step ?_ (State.syncQueue_only ..)
  refine Only.step ?_ (State.syncPools_only ..)
  refine Only.up_bpm ?_
  exact Only.refl _ _ _

theorem execBufferFree_only (pool : Nat) (index : Nat) (by_ : Holder) (s : State) :
    Keeps (execBufferFree pool index by_ s) (Only 113210713543698975700261879759945714742812227555590294598384300851200 18889465931478580854784 s) := by
  unfold execBufferFree
  refine Keeps.ite ?_ ?_
  · refine Keeps.next ?_
    refine Only.step ?_ (State.syncPool_only ..)
    refine Only.up_bpm ?_
    exact Only.refl _ _ _
  · extract_lets +onlyGivenNames v0
    clear_value v0
    refine Keeps.next ?_
    refine Only.trans ?_ (State.setf_only _ _ _ _ (by decide))
    refine Only.trans ?_ (State.setf_only _ _ _ _ (by decide))
    refine Only.trans ?_ (State.setf_only _ _ _ _ (by decide))
    refine Only.trans ?_ (State.countEv_only _ _ _ _ (by decide) (by decide))
    exact Only.refl _ _ _

theorem State.takeBuffers_only (s : State) (h : Holder) (a : Nat) (want : List (Nat × Nat)) :
    Only 108155723543608230738761814431129533991505262976363937258177373929472 132226261520350065983488 s (State.takeBuffers s h a want) := by
  unfold State.takeBuffers
  extract_lets +onlyGivenNames v0
  clear_value v0
  refine Only.step ?_ (State.syncPools_only ..)
  refine Only.up_bpm ?_
  exact Only.refl _ _ _

theorem State.grantHead_only (s : State) :
    Only 323835296880813349096097935127286579380602418356688517107006255923200 132226261520350065983616 s (State.grantHead s) := by
  unfold State.grantHead
  split
  · rename_i a0 a1
    exact Only.refl _ _ _
  · rename_i a2 a3 a4 a5
    refine Only.ite ?_ ?_
    · extract_lets +onlyGivenNames v6
      unfold v6
      clear v6
      extract_lets +onlyGivenNames v7
      have h8 : Only 323835296880813349096097935127286579380602418356688517107006255923200 132226261520350065983616 s v7 := by
        unfold v7
        refine Only.step ?_ (State.takeBuffers_only ..)
        refine Only.up_bpm ?_
        exact Only.refl _ _ _
      obtain ⟨w9, e10⟩ : ∃ x, x = v7 := ⟨_, rfl⟩
      rw [← e10] at h8 ⊢
      clear e10 v7
      extract_lets +onlyGivenNames v11
      unfold v11
      clear v11
      extract_lets +onlyGivenNames v12
      have h13 : Only 323835296880813349096097935127286579380602418356688517107006255923200 132226261520350065983616 s v12 := by
        unfold v12
        split
        · rename_i a14 a15 a16
          refine Only.up_seq ?_
          exact h8
        · rename_i a17 a18 a19
          exact h8
      obtain ⟨w20, e21⟩ : ∃ x, x = v12 := ⟨_, rfl⟩
      rw [← e21] at h13 ⊢
      clear e21 v12
      refine Only.step ?_ (State.syncQueue_only ..)
      exact h13
    · exact Only.refl _ _ _

theorem execBufferHandoff_only (pool : Nat) (index : Nat) (old : Holder) (new : Holder) (s : State) :
    Keeps (execBufferHandoff pool index old new s) (Only 0 18889465931478580854784 s) := by
  unfold execBufferHandoff
  refine Keeps.next ?_
  refine Only.up_bpm ?_
  exact Only.refl _ _ _

theorem State.askNeed_only (s : State) (h : Holder) (a : Nat) (bytes : Nat) (t : Nat) :
    Only 325099044380836035336472951459490624568429159501495106442057987653632 132226261520350065983488 s (State.askNeed s h a bytes t).2 := by
  unfold State.askNeed
  extract_lets +onlyGivenNames v0
  clear_value v0
  refine Only.iteSnd ?_ ?_
  · refine Only.pair _ ?_
    exact Only.refl _ _ _
  · refine Only.iteSnd ?_ ?_
    · refine Only.iteSnd ?_ ?_
      · refine Only.pair _ ?_
        refine Only.step ?_ (State.takeBuffers_only ..)
        exact Only.refl _ _ _
      · refine Only.pair _ ?_
        refine Only.step ?_ (State.syncQueue_only ..)
        refine Only.trans ?_ (State.countEv_only _ _ _ _ (by decide) (by decide))
        refine Only.up_bpm ?_
        exact Only.refl _ _ _
    · refine Only.iteSnd ?_ ?_
      · refine Only.pair _ ?_
        refine Only.step ?_ (State.takeBuffers_only ..)
        exact Only.refl _ _ _
      · refine Only.pair _ ?_
        refine Only.trans ?_ (State.countEv_only _ _ _ _ (by decide) (by decide))
        exact Only.refl _ _ _

/-! ### Pages -/

theorem memWf_losePage (ks : List Nat) {m : MemState} (h : memWf m.cells = true) :
    memWf (ks.foldl MemState.losePage m).cells = true := by
  induction ks generalizing m with
  | nil => exact h
  | cons k ks ih => exact ih (tabWf_filter _ h)

theorem memWf_dropFreed (ks : List Nat) {m : MemState} (h : memWf m.cells = true) :
    memWf (ks.foldl MemState.dropFreed m).cells = true := by
  induction ks generalizing m with
  | nil => exact h
  | cons k ks ih => exact ih (tabWf_filter _ h)

theorem losePage_same (ks : List Nat) (m : MemState) (k : Nat) (hk : Nat.testBit 16140901064495857664 (k + 61) = false) :
    m.same (ks.foldl MemState.losePage m) k := by
  induction ks generalizing m with
  | nil => exact MemState.same_refl _ _
  | cons x ks ih =>
    refine MemState.same_trans ?_ (ih _)
    unfold MemState.same
    split <;> first | exact absurd hk (by decide) | rfl | trivial

theorem dropFreed_same (ks : List Nat) (m : MemState) (k : Nat) (hk : Nat.testBit 16140901064495857664 (k + 61) = false) :
    m.same (ks.foldl MemState.dropFreed m) k := by
  induction ks generalizing m with
  | nil => exact MemState.same_refl _ _
  | cons x ks ih =>
    refine MemState.same_trans ?_ (ih _)
    unfold MemState.same
    split <;> first | exact absurd hk (by decide) | rfl | trivial

theorem State.loseSector_only (s : State) (n : Nat) : Only 0 16140901064495857664 s (s.loseSector n) :=
  Only.up_cells (Only.refl _ _ _) (fun h => memWf_losePage _ (memWf_dropFreed _ h)) fun k hk =>
    MemState.same_trans (dropFreed_same _ _ k hk) (losePage_same _ _ k hk)

theorem State.setRemirroring_only (s : State) (ks : List Nat) :
    Only 1606938044258990275541962092341162602522202993782792835301376 590295810358705651712 s (State.setRemirroring s ks) := by
  unfold State.setRemirroring
  refine Only.trans ?_ (State.setf_only _ _ _ _ (by decide))
  refine Only.up_mem ?_
  exact Only.refl _ _ _

theorem State.setPage_only (s : State) (k : Nat) (p : Page) :
    Only 0 36893488147419103232 s (State.setPage s k p) := by
  unfold State.setPage
  refine Only.up_mem ?_
  exact Only.refl _ _ _

theorem State.remirrorPage_only (s : State) (k : Nat) :
    Only 53028955460546679092884749047258365883232698794832163564945408 627189298506124754944 s (State.remirrorPage s k) := by
  unfold State.remirrorPage
  split
  · rename_i a0 a1
    exact Only.refl _ _ _
  · rename_i a2 a3 a4
    refine Only.ite ?_ ?_
    · split
      · rename_i a5 a6 a7
        refine Only.step ?_ (State.setRemirroring_only ..)
        refine Only.step ?_ (State.setPage_only ..)
        exact Only.refl _ _ _
      · rename_i a8 a9
        refine Only.trans ?_ (State.event_only _ _ _ (by decide))
        exact Only.refl _ _ _
    · exact Only.refl _ _ _

theorem State.remirror_only (s : State) :
    Only 53028955460546679092884749047258365883232698794832163564945408 627189298506124754944 s (State.remirror s) := by
  unfold State.remirror
  refine Only.foldl ?_ ?_
  · exact Only.refl _ _ _
  · intro u0 u1 h2
    refine Only.step ?_ (State.remirrorPage_only ..)
    exact h2

theorem State.placeArea_only (s : State) (k : Nat) :
    Only 0 36893488147419103232 s (State.placeArea s k) := by
  unfold State.placeArea
  split
  · rename_i a0 a1
    exact Only.refl _ _ _
  · rename_i a2 a3 a4
    refine Only.step ?_ (State.setPage_only ..)
    exact Only.refl _ _ _

theorem State.mirrorPage_only (s : State) (k : Nat) :
    Only 0 36893488147419103232 s (State.mirrorPage s k) := by
  unfold State.mirrorPage
  split
  · rename_i a0 a1 a2
    refine Only.ite ?_ ?_
    · exact Only.refl _ _ _
    · refine Only.step ?_ (State.setPage_only ..)
      exact Only.refl _ _ _
  · rename_i a3 a4
    exact Only.refl _ _ _

theorem State.mirrorOwn_only (s : State) :
    Only 0 36893488147419103232 s (State.mirrorOwn s) := by
  unfold State.mirrorOwn
  extract_lets +onlyGivenNames v0
  have h1 : Only 0 36893488147419103232 s v0 := by
    unfold v0
    refine Only.foldl ?_ ?_
    · exact Only.refl _ _ _
    · intro u2 u3 h4
      refine Only.step ?_ (State.placeArea_only ..)
      exact h4
  obtain ⟨w5, e6⟩ : ∃ x, x = v0 := ⟨_, rfl⟩
  rw [← e6] at h1 ⊢
  clear e6 v0
  refine Only.ite ?_ ?_
  · refine Only.foldl ?_ ?_
    · exact h1
    · intro u7 u8 h9
      refine Only.step ?_ (State.mirrorPage_only ..)
      exact h9
  · exact h1

theorem State.remapSector_only (s : State) (n : Nat) :
    Only 53028955460546679092884749047258365883232698794832163564945408 627189298506124754944 s (State.remapSector s n) := by
  unfold State.remapSector
  extract_lets +onlyGivenNames v0
  clear_value v0
  extract_lets +onlyGivenNames v1
  have h2 : Only 53028955460546679092884749047258365883232698794832163564945408 627189298506124754944 s v1 := by
    unfold v1
    refine Only.foldl ?_ ?_
    · exact Only.refl _ _ _
    · intro u3 u4 h5
      refine Only.step ?_ (State.setPage_only ..)
      exact h5
  obtain ⟨w6, e7⟩ : ∃ x, x = v1 := ⟨_, rfl⟩
  rw [← e7] at h2 ⊢
  clear e7 v1
  extract_lets +onlyGivenNames v8
  have h9 : Only 53028955460546679092884749047258365883232698794832163564945408 627189298506124754944 s v8 := by
    unfold v8
    refine Only.step ?_ (State.setRemirroring_only ..)
    exact h2
  obtain ⟨w10, e11⟩ : ∃ x, x = v8 := ⟨_, rfl⟩
  rw [← e11] at h9 ⊢
  clear e11 v8
  refine Only.step ?_ (State.remirror_only ..)
  refine Only.trans ?_ (State.eventIf_only _ _ _ _ (by decide))
  exact h9

/-! ### Items -/

theorem State.updItem_only (s : State) (id : Nat) (g : Item → Item) :
    Only 0 128 s (State.updItem s id g) := by
  unfold State.updItem
  refine Only.up_seq ?_
  exact Only.refl _ _ _

theorem State.degrade_only (s : State) (id : Nat) :
    Only 0 128 s (State.degrade s id) := by
  unfold State.degrade
  refine Only.step ?_ (State.updItem_only ..)
  exact Only.refl _ _ _

theorem State.sweepDoomed_only (s : State) :
    Only 0 2256197860196352 s (State.sweepDoomed s) := by
  unfold State.sweepDoomed
  extract_lets +onlyGivenNames v0
  clear_value v0
  refine Only.up_cmp ?_
  exact Only.refl _ _ _

theorem State.syncTrack_only (s : State) (n : Nat) :
    Only 32800 0 s (State.syncTrack s n) := by
  unfold State.syncTrack
  extract_lets +onlyGivenNames v0
  clear_value v0
  extract_lets +onlyGivenNames v1
  have h2 : Only 32800 0 s v1 := by
    unfold v1
    refine Only.trans ?_ (State.putBit_only _ _ _ _ _ (by decide))
    refine Only.trans ?_ (State.setf_only _ _ _ _ (by decide))
    exact Only.refl _ _ _
  obtain ⟨w3, e4⟩ : ∃ x, x = v1 := ⟨_, rfl⟩
  rw [← e4] at h2 ⊢
  clear e4 v1
  extract_lets +onlyGivenNames v5
  clear_value v5
  refine Only.trans ?_ (State.setf_only _ _ _ _ (by decide))
  exact h2

theorem State.syncTracks_only (s : State) :
    Only 32800 0 s (State.syncTracks s) := by
  unfold State.syncTracks
  refine Only.foldl ?_ ?_
  · exact Only.refl _ _ _
  · intro u0 u1 h2
    refine Only.step ?_ (State.syncTrack_only ..)
    exact h2

theorem State.setCursor_only (s : State) (n : Nat) (row : Nat) :
    Only 32768 2048 s (State.setCursor s n row) := by
  unfold State.setCursor
  extract_lets +onlyGivenNames v0
  have h1 : Only 32768 2048 s v0 := by
    unfold v0
    refine Only.trans ?_ (State.setf_only _ _ _ _ (by decide))
    exact Only.refl _ _ _
  obtain ⟨w2, e3⟩ : ∃ x, x = v0 := ⟨_, rfl⟩
  rw [← e3] at h1 ⊢
  clear e3 v0
  refine Only.up_seq ?_
  exact h1

theorem State.setTrack_only (s : State) (n : Nat) (st : Nat) :
    Only 32768 0 s (State.setTrack s n st) := by
  unfold State.setTrack
  refine Only.trans ?_ (State.setf_only _ _ _ _ (by decide))
  exact Only.refl _ _ _

theorem State.markResent_only (s : State) (id : Nat) :
    Only 0 128 s (State.markResent s id) := by
  unfold State.markResent
  refine Only.step ?_ (State.updItem_only ..)
  exact Only.refl _ _ _

theorem State.laneOps_only (s : State) (sector : Nat) (n : Nat) :
    Only 1099511627776 0 s (State.laneOps s sector n) := by
  unfold State.laneOps
  refine Only.ite ?_ ?_
  · refine Only.trans ?_ (State.count_only _ _ _ _ (by decide))
    exact Only.refl _ _ _
  · exact Only.refl _ _ _

theorem State.retract_only (s : State) (it : Item) :
    Only 1099511627776 98304 s (State.retract s it) := by
  unfold State.retract
  extract_lets +onlyGivenNames v0
  clear_value v0
  extract_lets +onlyGivenNames v1
  clear_value v1
  extract_lets +onlyGivenNames v2
  clear_value v2
  extract_lets +onlyGivenNames v3
  clear_value v3
  refine Only.step ?_ (State.laneOps_only ..)
  refine Only.up_arr ?_
  exact Only.refl _ _ _

theorem State.rampTo_only (s : State) (level : Nat) :
    Only 1024 7340032 s (State.rampTo s level) := by
  unfold State.rampTo
  extract_lets +onlyGivenNames v0
  clear_value v0
  refine Only.ite ?_ ?_
  · exact Only.refl _ _ _
  · refine Only.trans ?_ (State.setf_only _ _ _ _ (by decide))
    refine Only.up_arr ?_
    exact Only.refl _ _ _

theorem State.unpinDelivered_only (s : State) (it : Item) :
    Only 0 914793674309632 s (State.unpinDelivered s it) := by
  unfold State.unpinDelivered
  refine Only.ite ?_ ?_
  · extract_lets +onlyGivenNames v0
    clear_value v0
    extract_lets +onlyGivenNames v1
    clear_value v1
    extract_lets +onlyGivenNames v2
    clear_value v2
    refine Only.up_cmp ?_
    exact Only.refl _ _ _
  · exact Only.refl _ _ _

theorem State.dropDecRec_only (s : State) (it : Item) :
    Only 0 131072 s (State.dropDecRec s it) := by
  unfold State.dropDecRec
  refine Only.ite ?_ ?_
  · refine Only.up_arr ?_
    exact Only.refl _ _ _
  · exact Only.refl _ _ _

theorem State.ppeRest_only (s : State) :
    Only 72057594037927936 824767938560 s (State.ppeRest s) := by
  unfold State.ppeRest
  refine Only.ite ?_ ?_
  · refine Only.trans ?_ (State.setf_only _ _ _ _ (by decide))
    refine Only.up_ppe ?_
    exact Only.refl _ _ _
  · refine Only.trans ?_ (State.setf_only _ _ _ _ (by decide))
    refine Only.up_ppe ?_
    exact Only.refl _ _ _

theorem State.ppeRelease_only (s : State) (id : Nat) :
    Only 72057594037927936 828811247616 s (State.ppeRelease s id) := by
  unfold State.ppeRelease
  extract_lets +onlyGivenNames v0
  unfold v0
  clear v0
  extract_lets +onlyGivenNames v1
  have h2 : Only 72057594037927936 828811247616 s v1 := by
    unfold v1
    refine Only.up_ppe ?_
    exact Only.refl _ _ _
  obtain ⟨w3, e4⟩ : ∃ x, x = v1 := ⟨_, rfl⟩
  rw [← e4] at h2 ⊢
  clear e4 v1
  refine Only.ite ?_ ?_
  · extract_lets +onlyGivenNames v5
    unfold v5
    clear v5
    extract_lets +onlyGivenNames v6
    have h7 : Only 72057594037927936 828811247616 s v6 := by
      unfold v6
      refine Only.up_ppe ?_
      exact h2
    obtain ⟨w8, e9⟩ : ∃ x, x = v6 := ⟨_, rfl⟩
    rw [← e9] at h7 ⊢
    clear e9 v6
    refine Only.ite ?_ ?_
    · refine Only.step ?_ (State.ppeRest_only ..)
      exact h7
    · exact h7
  · exact h2

theorem State.addToken_only (s : State) (i : Nat) :
    Only 2105344 0 s (State.addToken s i) := by
  unfold State.addToken
  refine Only.trans ?_ (State.eventIf_only _ _ _ _ (by decide))
  refine Only.trans ?_ (State.setf_only _ _ _ _ (by decide))
  exact Only.refl _ _ _

theorem State.postToken_only (s : State) (i : Nat) :
    Only 2105344 8 s (State.postToken s i) := by
  unfold State.postToken
  split
  · rename_i a0 a1 a2
    refine Only.step ?_ (State.emit_only ..)
    exact Only.refl _ _ _
  · rename_i a3 a4
    refine Only.step ?_ (State.addToken_only ..)
    exact Only.refl _ _ _

theorem State.postTokens_only (s : State) (l : List Nat) :
    Only 2105344 8 s (State.postTokens s l) := by
  unfold State.postTokens
  refine Only.foldl ?_ ?_
  · exact Only.refl _ _ _
  · intro u0 u1 h2
    refine Only.step ?_ (State.postToken_only ..)
    exact h2

theorem State.record_only (s : State) (it : Item) (st : Status) (sector : Nat) :
    Only 52174848 0 s (State.record s it st sector) := by
  unfold State.record
  extract_lets +onlyGivenNames v0
  clear_value v0
  extract_lets +onlyGivenNames v1
  clear_value v1
  extract_lets +onlyGivenNames v2
  have h3 : Only 52174848 0 s v2 := by
    unfold v2
    refine Only.trans ?_ (State.setf_only _ _ _ _ (by decide))
    refine Only.trans ?_ (State.setf_only _ _ _ _ (by decide))
    refine Only.trans ?_ (State.setf_only _ _ _ _ (by decide))
    refine Only.trans ?_ (State.setf_only _ _ _ _ (by decide))
    exact Only.refl _ _ _
  obtain ⟨w4, e5⟩ : ∃ x, x = v2 := ⟨_, rfl⟩
  rw [← e5] at h3 ⊢
  clear e5 v2
  extract_lets +onlyGivenNames v6
  have h7 : Only 52174848 0 s v6 := by
    unfold v6
    refine Only.trans ?_ (State.count_only _ _ _ _ (by decide))
    exact h3
  obtain ⟨w8, e9⟩ : ∃ x, x = v6 := ⟨_, rfl⟩
  rw [← e9] at h7 ⊢
  clear e9 v6
  refine Only.ite ?_ ?_
  · exact h7
  · refine Only.trans ?_ (State.event_only _ _ _ (by decide))
    refine Only.trans ?_ (State.setf_only _ _ _ _ (by decide))
    refine Only.trans ?_ (State.count_only _ _ _ _ (by decide))
    exact h7

theorem State.syncAdhoc_only (s : State) :
    Only 207784125246264389402624 0 s (State.syncAdhoc s) := by
  unfold State.syncAdhoc
  extract_lets +onlyGivenNames v0
  unfold v0
  clear v0
  extract_lets +onlyGivenNames v1
  unfold v1
  clear v1
  extract_lets +onlyGivenNames v2
  clear_value v2
  extract_lets +onlyGivenNames v3
  clear_value v3
  extract_lets +onlyGivenNames v4
  have h5 : Only 207784125246264389402624 0 s v4 := by
    unfold v4
    refine Only.trans ?_ (State.eventIf_only _ _ _ _ (by decide))
    refine Only.trans ?_ (State.eventIf_only _ _ _ _ (by decide))
    exact Only.refl _ _ _
  obtain ⟨w6, e7⟩ : ∃ x, x = v4 := ⟨_, rfl⟩
  rw [← e7] at h5 ⊢
  clear e7 v4
  refine Only.trans ?_ (State.setf_only _ _ _ _ (by decide))
  refine Only.trans ?_ (State.setf_only _ _ _ _ (by decide))
  refine Only.trans ?_ (State.setf_only _ _ _ _ (by decide))
  refine Only.trans ?_ (State.setf_only _ _ _ _ (by decide))
  refine Only.trans ?_ (State.setf_only _ _ _ _ (by decide))
  refine Only.trans ?_ (State.setf_only _ _ _ _ (by decide))
  exact h5

theorem State.syncHeld_only (s : State) :
    Only 130370302485407109521180524058200202307293977194619920040712988758680403184853549195737432064 0 s (State.syncHeld s) := by
  unfold State.syncHeld
  refine Only.trans ?_ (State.setf_only _ _ _ _ (by decide))
  exact Only.refl _ _ _

theorem State.flushHeld_only (s : State) :
    Only 162962878106758886901475655072750252884117471493274900050891235948350503981066936494671790080 187072209578355573530071658587684226515959365500936 s (State.flushHeld s) := by
  unfold State.flushHeld
  refine Only.ite ?_ ?_
  · exact Only.refl _ _ _
  · refine Only.ite ?_ ?_
    · refine Only.trans ?_ (State.event_only _ _ _ (by decide))
      exact Only.refl _ _ _
    · extract_lets +onlyGivenNames v0
      clear_value v0
      refine Only.step ?_ (State.emit_only ..)
      refine Only.step ?_ (State.syncHeld_only ..)
      refine Only.up_cst ?_
      exact Only.refl _ _ _

theorem State.holdRec_only (s : State) (channel : Nat) (r : EvRec) :
    Only 130370302485407109521180524058200202307293977194619920040712988758680403184853549195737432064 187072209578355573530071658587684226515959365500928 s (State.holdRec s channel r) := by
  unfold State.holdRec
  extract_lets +onlyGivenNames v0
  clear_value v0
  refine Only.ite ?_ ?_
  · extract_lets +onlyGivenNames v1
    clear_value v1
    extract_lets +onlyGivenNames v2
    clear_value v2
    refine Only.up_cst ?_
    exact Only.refl _ _ _
  · refine Only.step ?_ (State.syncHeld_only ..)
    refine Only.up_cst ?_
    exact Only.refl _ _ _

theorem State.completion_only (s : State) (channel : Nat) (st : Status) (id : Nat) :
    Only 162962878106758886901475655072750252884117471493274900050891235948350503981066936494671790080 187072209578355574179108765904537680082271406653448 s (State.completion s channel st id) := by
  unfold State.completion
  extract_lets +onlyGivenNames v0
  clear_value v0
  refine Only.ite ?_ ?_
  · refine Only.step ?_ (State.flushHeld_only ..)
    refine Only.step ?_ (State.holdRec_only ..)
    exact Only.refl _ _ _
  · refine Only.up_evt ?_
    exact Only.refl _ _ _

theorem State.endInstance_only (s : State) (a : AdHoc) :
    Only 162962878106758886901475655072750252884117471493274900050891235948351618459556893730942222336 187072209578355574179108765904538261046623337447432 s (State.endInstance s a) := by
  unfold State.endInstance
  extract_lets +onlyGivenNames v0
  clear_value v0
  extract_lets +onlyGivenNames v1
  unfold v1
  clear v1
  extract_lets +onlyGivenNames v2
  have h3 : Only 162962878106758886901475655072750252884117471493274900050891235948351618459556893730942222336 187072209578355574179108765904538261046623337447432 s v2 := by
    unfold v2
    refine Only.up_col ?_
    exact Only.refl _ _ _
  obtain ⟨w4, e5⟩ : ∃ x, x = v2 := ⟨_, rfl⟩
  rw [← e5] at h3 ⊢
  clear e5 v2
  extract_lets +onlyGivenNames v6
  have h7 : Only 162962878106758886901475655072750252884117471493274900050891235948351618459556893730942222336 187072209578355574179108765904538261046623337447432 s v6 := by
    unfold v6
    refine Only.ite ?_ ?_
    · refine Only.trans ?_ (State.count_only _ _ _ _ (by decide))
      exact h3
    · refine Only.trans ?_ (State.count_only _ _ _ _ (by decide))
      exact h3
  obtain ⟨w8, e9⟩ : ∃ x, x = v6 := ⟨_, rfl⟩
  rw [← e9] at h7 ⊢
  clear e9 v6
  refine Only.step ?_ (State.syncAdhoc_only ..)
  refine Only.step ?_ (State.completion_only ..)
  exact h7

theorem State.adhocItemEnded_only (s : State) (id : Nat) (st : Status) :
    Only 162962878106758886901475655072750252884117471493274900050891235948351618459556893730942222336 187072209578355574179108765904538261046623337447432 s (State.adhocItemEnded s id st) := by
  unfold State.adhocItemEnded
  extract_lets +onlyGivenNames v0
  clear_value v0
  extract_lets +onlyGivenNames v1
  unfold v1
  clear v1
  extract_lets +onlyGivenNames v2
  have h3 : Only 162962878106758886901475655072750252884117471493274900050891235948351618459556893730942222336 187072209578355574179108765904538261046623337447432 s v2 := by
    unfold v2
    refine Only.up_col ?_
    exact Only.refl _ _ _
  obtain ⟨w4, e5⟩ : ∃ x, x = v2 := ⟨_, rfl⟩
  rw [← e5] at h3 ⊢
  clear e5 v2
  refine Only.ite ?_ ?_
  · exact h3
  · split
    · rename_i a6 a7 a8
      refine Only.step ?_ (State.endInstance_only ..)
      exact h3
    · rename_i a9 a10
      exact h3

theorem State.parkTrack_only (s : State) (n : Nat) :
    Only 32768 0 s (State.parkTrack s n) := by
  unfold State.parkTrack
  refine Only.ite ?_ ?_
  · exact Only.refl _ _ _
  · refine Only.step ?_ (State.setTrack_only ..)
    exact Only.refl _ _ _

theorem State.edgeEnded_only (s : State) (n : Nat) :
    Only 163840 0 s (State.edgeEnded s n) := by
  unfold State.edgeEnded
  extract_lets +onlyGivenNames v0
  clear_value v0
  refine Only.ite ?_ ?_
  · extract_lets +onlyGivenNames v1
    clear_value v1
    refine Only.ite ?_ ?_
    · refine Only.step ?_ (State.parkTrack_only ..)
      refine Only.trans ?_ (State.setf_only _ _ _ _ (by decide))
      exact Only.refl _ _ _
    · refine Only.ite ?_ ?_
      · refine Only.step ?_ (State.parkTrack_only ..)
        exact Only.refl _ _ _
      · refine Only.trans ?_ (State.setf_only _ _ _ _ (by decide))
        exact Only.refl _ _ _
  · refine Only.trans ?_ (State.setf_only _ _ _ _ (by decide))
    exact Only.refl _ _ _

theorem State.noteFault_only (s : State) (it : Item) :
    Only 0 4096 s (State.noteFault s it) := by
  unfold State.noteFault
  extract_lets +onlyGivenNames v0
  clear_value v0
  refine Only.ite ?_ ?_
  · exact Only.refl _ _ _
  · refine Only.up_seq ?_
    exact Only.refl _ _ _

theorem State.settleFault_only (s : State) (n : Nat) :
    Only 32768 6144 s (State.settleFault s n) := by
  unfold State.settleFault
  split
  · rename_i a0 a1
    exact Only.refl _ _ _
  · rename_i a2 a3 a4 a5
    refine Only.ite ?_ ?_
    · extract_lets +onlyGivenNames v6
      unfold v6
      clear v6
      extract_lets +onlyGivenNames v7
      have h8 : Only 32768 6144 s v7 := by
        unfold v7
        refine Only.up_seq ?_
        exact Only.refl _ _ _
      obtain ⟨w9, e10⟩ : ∃ x, x = v7 := ⟨_, rfl⟩
      rw [← e10] at h8 ⊢
      clear e10 v7
      refine Only.ite ?_ ?_
      · exact h8
      · extract_lets +onlyGivenNames v11
        have h12 : Only 32768 6144 s v11 := by
          unfold v11
          refine Only.step ?_ (State.setCursor_only ..)
          exact h8
        obtain ⟨w13, e14⟩ : ∃ x, x = v11 := ⟨_, rfl⟩
        rw [← e14] at h12 ⊢
        clear e14 v11
        refine Only.ite ?_ ?_
        · refine Only.step ?_ (State.setTrack_only ..)
          exact h12
        · exact h12
    · exact Only.refl _ _ _

theorem State.moveTrack_only (s : State) (it : Item) (st : Status) :
    Only 163840 6144 s (State.moveTrack s it st) := by
  unfold State.moveTrack
  extract_lets +onlyGivenNames v0
  have h1 : Only 163840 6144 s v0 := by
    unfold v0
    refine Only.ite ?_ ?_
    · refine Only.step ?_ (State.edgeEnded_only ..)
      exact Only.refl _ _ _
    · exact Only.refl _ _ _
  obtain ⟨w2, e3⟩ : ∃ x, x = v0 := ⟨_, rfl⟩
  rw [← e3] at h1 ⊢
  clear e3 v0
  extract_lets +onlyGivenNames v4
  have h5 : Only 163840 6144 s v4 := by
    unfold v4
    refine Only.ite ?_ ?_
    · refine Only.ite ?_ ?_
      · refine Only.step ?_ (State.setCursor_only ..)
        exact h1
      · exact h1
    · refine Only.ite ?_ ?_
      · exact Only.refl _ _ _
      · refine Only.step ?_ (State.noteFault_only ..)
        exact Only.refl _ _ _
  obtain ⟨w6, e7⟩ : ∃ x, x = v4 := ⟨_, rfl⟩
  rw [← e7] at h5 ⊢
  clear e7 v4
  refine Only.step ?_ (State.settleFault_only ..)
  exact h5

theorem State.noteCollFail_only (s : State) (it : Item) (st : Status) :
    Only 0 1152921504606846976 s (State.noteCollFail s it st) := by
  unfold State.noteCollFail
  split
  · rename_i a0 a1 a2
    refine Only.ite ?_ ?_
    · exact Only.refl _ _ _
    · refine Only.up_col ?_
      exact Only.refl _ _ _
  · rename_i a3 a4
    exact Only.refl _ _ _

theorem State.endItem_only (s : State) (id : Nat) (st : Status) (sector : Nat) :
    Only 68351748112347229395527596073404575714420242181980479848332668920927581994955645746794217584108576 187072209578355574179108765961207815075121536931976 s (State.endItem s id st sector) := by
  unfold State.endItem
  split
  · rename_i a0 a1
    exact Only.refl _ _ _
  · rename_i a2 a3 a4
    extract_lets +onlyGivenNames v5
    have h6 : Only 68351748112347229395527596073404575714420242181980479848332668920927581994955645746794217584108576 187072209578355574179108765961207815075121536931976 s v5 := by
      unfold v5
      refine Only.ite ?_ ?_
      · refine Only.step ?_ (State.retract_only ..)
        exact Only.refl _ _ _
      · exact Only.refl _ _ _
    obtain ⟨w7, e8⟩ : ∃ x, x = v5 := ⟨_, rfl⟩
    rw [← e8] at h6 ⊢
    clear e8 v5
    extract_lets +onlyGivenNames v9
    have h10 : Only 68351748112347229395527596073404575714420242181980479848332668920927581994955645746794217584108576 187072209578355574179108765961207815075121536931976 s v9 := by
      unfold v9
      refine Only.ite ?_ ?_
      · refine Only.step ?_ (State.rampTo_only ..)
        exact h6
      · exact h6
    obtain ⟨w11, e12⟩ : ∃ x, x = v9 := ⟨_, rfl⟩
    rw [← e12] at h10 ⊢
    clear e12 v9
    extract_lets +onlyGivenNames v13
    unfold v13
    clear v13
    extract_lets +onlyGivenNames v14
    unfold v14
    clear v14
    extract_lets +onlyGivenNames v15
    unfold v15
    clear v15
    extract_lets +onlyGivenNames v16
    have h17 : Only 68351748112347229395527596073404575714420242181980479848332668920927581994955645746794217584108576 187072209578355574179108765961207815075121536931976 s v16 := by
      unfold v16
      refine Only.up_seq_arr_cmp ?_
      exact h10
    obtain ⟨w18, e19⟩ : ∃ x, x = v16 := ⟨_, rfl⟩
    rw [← e19] at h17 ⊢
    clear e19 v16
    extract_lets +onlyGivenNames v20
    have h21 : Only 68351748112347229395527596073404575714420242181980479848332668920927581994955645746794217584108576 187072209578355574179108765961207815075121536931976 s v20 := by
      unfold v20
      refine Only.step ?_ (State.sweepDoomed_only ..)
      refine Only.step ?_ (State.unpinDelivered_only ..)
      refine Only.step ?_ (State.dropDecRec_only ..)
      refine Only.step ?_ (State.ppeRelease_only ..)
      refine Only.step ?_ (State.freeHolder_only ..)
      exact h17
    obtain ⟨w22, e23⟩ : ∃ x, x = v20 := ⟨_, rfl⟩
    rw [← e23] at h21 ⊢
    clear e23 v20
    extract_lets +onlyGivenNames v24
    have h25 : Only 68351748112347229395527596073404575714420242181980479848332668920927581994955645746794217584108576 187072209578355574179108765961207815075121536931976 s v24 := by
      unfold v24
      refine Only.ite ?_ ?_
      · refine Only.step ?_ (State.postTokens_only ..)
        exact h21
      · refine Only.ite ?_ ?_
        · refine Only.trans ?_ (State.count_only _ _ _ _ (by decide))
          exact h21
        · exact h21
    obtain ⟨w26, e27⟩ : ∃ x, x = v24 := ⟨_, rfl⟩
    rw [← e27] at h25 ⊢
    clear e27 v24
    extract_lets +onlyGivenNames v28
    have h29 : Only 68351748112347229395527596073404575714420242181980479848332668920927581994955645746794217584108576 187072209578355574179108765961207815075121536931976 s v28 := by
      unfold v28
      refine Only.step ?_ (State.record_only ..)
      exact h25
    obtain ⟨w30, e31⟩ : ∃ x, x = v28 := ⟨_, rfl⟩
    rw [← e31] at h29 ⊢
    clear e31 v28
    split
    · rename_i a32 a33 a34
      refine Only.step ?_ (State.syncTrack_only ..)
      refine Only.step ?_ (State.adhocItemEnded_only ..)
      exact h29
    · rename_i a35 a36
      refine Only.step ?_ (State.syncTrack_only ..)
      refine Only.step ?_ (State.moveTrack_only ..)
      refine Only.step ?_ (State.noteCollFail_only ..)
      exact h29

theorem State.commitItem_only (s : State) (id : Nat) (sector : Nat) :
    Only 68351748112347229395527596073404575714420242181980479848332668920927581994955645746794217584108576 187072209578355574179108765961207815075121536931976 s (State.commitItem s id sector) := by
  unfold State.commitItem
  split
  · rename_i a0 a1
    exact Only.refl _ _ _
  · rename_i a2 a3 a4
    refine Only.step ?_ (State.endItem_only ..)
    exact Only.refl _ _ _

theorem State.endWhere_only (s : State) (p : Item → Bool) (st : Status) :
    Only 68351748112347229395527596073404575714420242181980479848332668920927581994955645746794217584108576 187072209578355574179108765961207815075121536931976 s (State.endWhere s p st) := by
  unfold State.endWhere
  refine Only.foldl ?_ ?_
  · exact Only.refl _ _ _
  · intro u0 u1 h2
    refine Only.step ?_ (State.endItem_only ..)
    exact h2

theorem State.clearTokens_only (s : State) : Only 2097152 0 s s.clearTokens := by
  refine Only.of_regs (fun hs => tabWf_filter _ hs.1) (fun hs _ a ha => ?_) rfl
  unfold State.clearTokens State.word regGet tget
  rw [tfind_filter_of fun v => ?_]
  have : a < 0x120000 ∨ 0x128000 ≤ a := by
    by_contra hc
    refine ha 21 (by decide) ⟨(a - 0x120000) / 8, ?_⟩
    rw [show regShape 21 = ⟨0x120000, 4096, 8, 1, 8, 0, []⟩ from rfl]
    simp only [Reg.addr, Nat.div_one, Nat.mod_one]
    omega
  simpa using this

theorem State.fitReport_only (s : State) (code : Status) (es : List FitEntry) :
    Only 12587008 0 s (State.fitReport s code es) := by
  unfold State.fitReport
  extract_lets +onlyGivenNames v0
  clear_value v0
  extract_lets +onlyGivenNames v1
  clear_value v1
  extract_lets +onlyGivenNames v2
  have h3 : Only 12587008 0 s v2 := by
    unfold v2
    refine Only.trans ?_ (State.setf_only _ _ _ _ (by decide))
    refine Only.trans ?_ (State.setf_only _ _ _ _ (by decide))
    exact Only.refl _ _ _
  obtain ⟨w4, e5⟩ : ∃ x, x = v2 := ⟨_, rfl⟩
  rw [← e5] at h3 ⊢
  clear e5 v2
  refine Only.foldl ?_ ?_
  · exact h3
  · intro u6 u7 h8
    refine Only.trans ?_ (State.setf_only _ _ _ _ (by decide))
    refine Only.trans ?_ (State.setf_only _ _ _ _ (by decide))
    refine Only.trans ?_ (State.setf_only _ _ _ _ (by decide))
    refine Only.trans ?_ (State.setf_only _ _ _ _ (by decide))
    refine Only.trans ?_ (State.setf_only _ _ _ _ (by decide))
    exact h8

theorem State.within_only {B P : Nat} {s0 s t : State} {ds : List Desc} (h : Only B P s0 t) :
    Keeps (s.within ds t) (Only B P s0) := by
  unfold State.within
  split
  · trivial
  · exact h

theorem State.refuseItem_only (s : State) (id : Nat) (st : Status) :
    Only 68351748112347229395527596073404575714420242181980479848332668920927581994955645746794217584108576 187072209578355574179108765961207815075121536931976 s (State.refuseItem s id st) := by
  unfold State.refuseItem
  split
  · rename_i a0 a1
    exact Only.refl _ _ _
  · rename_i a2 a3 a4
    refine Only.step ?_ (State.endItem_only ..)
    refine Only.ite ?_ ?_
    · refine Only.step ?_ (State.postTokens_only ..)
      exact Only.refl _ _ _
    · exact Only.refl _ _ _

theorem State.takeTokens_only (s : State) (l : List Nat) :
    Only 2097152 0 s (State.takeTokens s l) := by
  unfold State.takeTokens
  refine Only.foldl ?_ ?_
  · exact Only.refl _ _ _
  · intro u0 u1 h2
    refine Only.trans ?_ (State.setf_only _ _ _ _ (by decide))
    exact h2

theorem State.noteUe_only (s : State) (tier : Nat) (addr : Nat) :
    Only 38720779114464629679459118577052654070375003338190176159421956096 0 s (State.noteUe s tier addr) := by
  unfold State.noteUe
  refine Only.trans ?_ (State.setf_only _ _ _ _ (by decide))
  refine Only.trans ?_ (State.setf_only _ _ _ _ (by decide))
  refine Only.trans ?_ (State.countEv_only _ _ _ _ (by unfold ueCounter; split <;> decide) (by decide))
  exact Only.refl _ _ _

theorem State.readSrc_only (s : State) (id : Nat) (d : Desc) (fx : Fx) :
    Only 39440687358292657322901917594421494916304950279404867349636972544 128 s (State.readSrc s id d fx).2 := by
  unfold State.readSrc
  extract_lets +onlyGivenNames v0
  have h1 : Only 39440687358292657322901917594421494916304950279404867349636972544 128 s v0 := by
    unfold v0
    refine Only.ite ?_ ?_
    · refine Only.trans ?_ (State.countEv_only _ _ _ _ (by unfold ceCounter; split <;> decide) (by decide))
      exact Only.refl _ _ _
    · exact Only.refl _ _ _
  obtain ⟨w2, e3⟩ : ∃ x, x = v0 := ⟨_, rfl⟩
  rw [← e3] at h1 ⊢
  clear e3 v0
  extract_lets +onlyGivenNames v4
  have h5 : Only 39440687358292657322901917594421494916304950279404867349636972544 128 s v4 := by
    unfold v4
    refine Only.ite ?_ ?_
    · refine Only.step ?_ (State.noteUe_only ..)
      exact h1
    · exact h1
  obtain ⟨w6, e7⟩ : ∃ x, x = v4 := ⟨_, rfl⟩
  rw [← e7] at h5 ⊢
  clear e7 v4
  split
  · rename_i a8 a9
    refine Only.pair _ ?_
    exact h5
  · rename_i a10 a11
    refine Only.pair _ ?_
    refine Only.step ?_ (State.degrade_only ..)
    exact h5
  · rename_i a12 a13
    refine Only.pair _ ?_
    exact h5

theorem State.readAlso_only (s : State) (id : Nat) (r : ReadEnd) (ds : List Desc) :
    Only 39440687358292657322901917594421494916304950279404867349636972544 128 s (s.readAlso id r ds).2 := by
  induction ds generalizing s r with
  | nil => exact Only.refl _ _ _
  | cons d ds ih =>
    unfold State.readAlso
    exact (Only.step (Only.refl _ _ _) (State.readSrc_only ..)).trans (ih _ _)

/-! ### Keys -/

theorem State.setGens_only (s : State) (k : Nat) (g : List KeyGen) :
    Only 0 302231454903657293676544 s (State.setGens s k g) := by
  unfold State.setGens
  refine Only.up_ciph ?_
  exact Only.refl _ _ _

theorem State.updGen_only (s : State) (k : Nat) (g : Nat) (f : KeyGen → KeyGen) :
    Only 0 302231454903657293676544 s (State.updGen s k g f) := by
  unfold State.updGen
  refine Only.step ?_ (State.setGens_only ..)
  exact Only.refl _ _ _

theorem State.countInvoc_only (s : State) (k : Nat) (g : Nat) (n : Nat) :
    Only 20705239040371691362304267586831076357353326916511159665487572671397888 302231454903657293676544 s (State.countInvoc s k g n) := by
  unfold State.countInvoc
  extract_lets +onlyGivenNames v0
  clear_value v0
  extract_lets +onlyGivenNames v1
  have h2 : Only 20705239040371691362304267586831076357353326916511159665487572671397888 302231454903657293676544 s v1 := by
    unfold v1
    refine Only.step ?_ (State.updGen_only ..)
    exact Only.refl _ _ _
  obtain ⟨w3, e4⟩ : ∃ x, x = v1 := ⟨_, rfl⟩
  rw [← e4] at h2 ⊢
  clear e4 v1
  refine Only.ite ?_ ?_
  · refine Only.trans ?_ (State.event_only _ _ _ (by decide))
    refine Only.trans ?_ (State.putBit_only _ _ _ _ _ (by decide))
    exact h2
  · exact h2

theorem State.exhaust_only (s : State) (k : Nat) (g : Nat) :
    Only 34508731733952818937173779311385127262255544860851932775812621118996480 302231454903657293676544 s (State.exhaust s k g) := by
  unfold State.exhaust
  refine Only.trans ?_ (State.event_only _ _ _ (by decide))
  refine Only.trans ?_ (State.putBit_only _ _ _ _ _ (by decide))
  refine Only.step ?_ (State.updGen_only ..)
  exact Only.refl _ _ _

theorem State.macOut_only (s : State) :
    Only 48312224427533946512043291035939178167157762805192705886137669566595072 302231454903657293676544 s (State.macOut s).2 := by
  unfold State.macOut
  refine Only.iteSnd ?_ ?_
  · refine Only.pair _ ?_
    exact Only.refl _ _ _
  · split
    · rename_i a0 a1
      refine Only.pair _ ?_
      exact Only.refl _ _ _
    · rename_i a2 a3 a4 a5
      refine Only.iteSnd ?_ ?_
      · refine Only.pair _ ?_
        refine Only.step ?_ (State.countInvoc_only ..)
        refine Only.step ?_ (State.updGen_only ..)
        exact Only.refl _ _ _
      · refine Only.pair _ ?_
        refine Only.step ?_ (State.exhaust_only ..)
        exact Only.refl _ _ _

theorem State.sendOut_only (s : State) (e : Emit) :
    Only 48312224427533946512043291035939178167157762805192705886137669566595072 302231454903657293676552 s (State.sendOut s e) := by
  unfold State.sendOut
  extract_lets +onlyGivenNames v0
  have h1 : Only 48312224427533946512043291035939178167157762805192705886137669566595072 302231454903657293676552 s v0.2 := by
    unfold v0
    refine Only.step ?_ (State.macOut_only ..)
    exact Only.refl _ _ _
  obtain ⟨w2, e3⟩ : ∃ x, x = v0 := ⟨_, rfl⟩
  rw [← e3] at h1 ⊢
  clear e3 v0
  refine Only.ite ?_ ?_
  · refine Only.step ?_ (State.emit_only ..)
    exact h1
  · exact h1

theorem State.wipeKeys_only (s : State) :
    Only 0 3929008913747544817795072 s (State.wipeKeys s) := by
  unfold State.wipeKeys
  refine Only.up_ciph ?_
  exact Only.refl _ _ _

/-! ### Respond -/

theorem State.raiseCeiling_only (s : State) (seq : Nat) :
    Only 31828687130226345097944463881396533766429193651030253916189694521162207808802136034115584 0 s (State.raiseCeiling s seq) := by
  unfold State.raiseCeiling
  refine Only.ite ?_ ?_
  · refine Only.trans ?_ (State.setf_only _ _ _ _ (by decide))
    exact Only.refl _ _ _
  · exact Only.refl _ _ _

theorem State.answer_only (s : State) (seq : Nat) (st : Status) (txn : Nat) (body : List Byte) (view : Option Nat) :
    Only 39785858912782931420742804279279613720079783099726995562394880956645465647140339609239552 35929556252142917341119387927799333210125102930198536 s (State.answer s seq st txn body view) := by
  unfold State.answer
  refine Only.ite ?_ ?_
  · extract_lets +onlyGivenNames v0
    clear_value v0
    extract_lets +onlyGivenNames v1
    clear_value v1
    extract_lets +onlyGivenNames v2
    clear_value v2
    refine Only.step ?_ (State.emit_only ..)
    refine Only.up_cst_host ?_
    exact Only.refl _ _ _
  · extract_lets +onlyGivenNames v3
    clear_value v3
    extract_lets +onlyGivenNames v4
    clear_value v4
    extract_lets +onlyGivenNames v5
    clear_value v5
    extract_lets +onlyGivenNames v6
    clear_value v6
    extract_lets +onlyGivenNames v7
    have h8 : Only 39785858912782931420742804279279613720079783099726995562394880956645465647140339609239552 35929556252142917341119387927799333210125102930198536 s v7 := by
      unfold v7
      split
      · rename_i a9 a10 a11 a12 a13
        refine Only.ite ?_ ?_
        · refine Only.step ?_ (State.exhaust_only ..)
          exact Only.refl _ _ _
        · refine Only.step ?_ (State.countInvoc_only ..)
          exact Only.refl _ _ _
      · rename_i a14 a15
        refine Only.step ?_ (State.raiseCeiling_only ..)
        exact Only.refl _ _ _
      · rename_i a16 a17 a18 a19 a20
        exact Only.refl _ _ _
    obtain ⟨w21, e22⟩ : ∃ x, x = v7 := ⟨_, rfl⟩
    rw [← e22] at h8 ⊢
    clear e22 v7
    extract_lets +onlyGivenNames v23
    clear_value v23
    extract_lets +onlyGivenNames v24
    unfold v24
    clear v24
    extract_lets +onlyGivenNames v25
    have h26 : Only 39785858912782931420742804279279613720079783099726995562394880956645465647140339609239552 35929556252142917341119387927799333210125102930198536 s v25 := by
      unfold v25
      refine Only.up_host ?_
      exact h8
    obtain ⟨w27, e28⟩ : ∃ x, x = v25 := ⟨_, rfl⟩
    rw [← e28] at h26 ⊢
    clear e28 v25
    extract_lets +onlyGivenNames v29
    have h30 : Only 39785858912782931420742804279279613720079783099726995562394880956645465647140339609239552 35929556252142917341119387927799333210125102930198536 s v29 := by
      unfold v29
      refine Only.ite ?_ ?_
      · refine Only.trans ?_ (State.count_only _ _ _ _ (by decide))
        exact h26
      · exact h26
    obtain ⟨w31, e32⟩ : ∃ x, x = v29 := ⟨_, rfl⟩
    rw [← e32] at h30 ⊢
    clear e32 v29
    refine Only.ite ?_ ?_
    · exact h30
    · refine Only.step ?_ (State.sendOut_only ..)
      exact h30

theorem State.respond_only (s : State) (seq : Nat) (st : Status) :
    Only 39785858912782931420742804279279613720079783099726995562394880956645465647140339609239552 35929556252142917341119387927799333210125102930198536 s (State.respond s seq st) := by
  unfold State.respond
  refine Only.step ?_ (State.answer_only ..)
  exact Only.refl _ _ _

theorem State.ask_only (s : State) (q : Req) :
    Only 0 11972621413014756705924586149611790497021399392059392 s (State.ask s q) := by
  unfold State.ask
  refine Only.up_host ?_
  exact Only.refl _ _ _

theorem State.gated_only {B P : Nat} {s0 s : State} {q : Req} {r : Bool} {f : State → State} (hs : Only B P s0 s)
    (hf : ∀ u, Only B P s0 u → Only B P s0 (f u)) (hb : 39785858912782931420742804279279613720079783099726995562394880956645465647140339609239552 ||| B = B := by decide)
    (hp : 35929556252142917341119387927799333210125102930198536 ||| P = P := by decide) : Only B P s0 (s.gated q r f) := by
  unfold State.gated
  have ha : Only B P s0 (s.ask q) := hs.step (State.ask_only ..) (Nat.zero_or B) (by
    rw [← hp, ← Nat.or_assoc]
    rfl)
  refine Only.ite hs (Only.ite ?_ (hf _ ha))
  exact ha.step (State.respond_only ..) hb hp

theorem State.alone_only {B P : Nat} {s0 s : State} {q : Req} {f : State → State} (hs : Only B P s0 s)
    (hf : ∀ u, Only B P s0 u → Only B P s0 (f u)) (hb : 39785858912782931420742804279279613720079783099726995562394880956645465647140339609239552 ||| B = B := by decide)
    (hp : 35929556252142917341119387927799333210125102930198536 ||| P = P := by decide) : Only B P s0 (s.alone q f) := by
  unfold State.alone
  exact Only.ite (hs.step (State.respond_only ..) hb hp) (hf _ hs)

/-! ### Queues -/

theorem State.setQueue_only (s : State) (r : Nat) (c : Nat) (q : List QBlock) :
    Only 7237005577332262213973186563042994240829374041602535252466099000494570602496 19342813113834066795298816 s (State.setQueue s r c q) := by
  unfold State.setQueue
  extract_lets +onlyGivenNames v0
  unfold v0
  clear v0
  extract_lets +onlyGivenNames v1
  have h2 : Only 7237005577332262213973186563042994240829374041602535252466099000494570602496 19342813113834066795298816 s v1 := by
    unfold v1
    refine Only.up_sch ?_
    exact Only.refl _ _ _
  obtain ⟨w3, e4⟩ : ∃ x, x = v1 := ⟨_, rfl⟩
  rw [← e4] at h2 ⊢
  clear e4 v1
  refine Only.trans ?_ (State.setf_only _ _ _ _ (by decide))
  refine Only.trans ?_ (State.setf_only _ _ _ _ (by decide))
  exact h2

theorem State.enqueue_only (s : State) (r : Nat) (c : Nat) (session : Nat) (dseq : Option Nat) (fresh : Bool) (bytes : List Byte) (port : Option Nat) (tail : Bool) :
    Only 7237005577332262213973186563042994240829374041602535252466099000494570602496 58028439341502200385896448 s (State.enqueue s r c session dseq fresh bytes port tail) := by
  unfold State.enqueue
  extract_lets +onlyGivenNames v0
  clear_value v0
  extract_lets +onlyGivenNames v1
  clear_value v1
  extract_lets +onlyGivenNames v2
  clear_value v2
  extract_lets +onlyGivenNames v3
  clear_value v3
  extract_lets +onlyGivenNames v4
  clear_value v4
  extract_lets +onlyGivenNames v5
  unfold v5
  clear v5
  extract_lets +onlyGivenNames v6
  have h7 : Only 7237005577332262213973186563042994240829374041602535252466099000494570602496 58028439341502200385896448 s v6 := by
    unfold v6
    refine Only.ite ?_ ?_
    · exact Only.refl _ _ _
    · refine Only.up_sch ?_
      exact Only.refl _ _ _
  obtain ⟨w8, e9⟩ : ∃ x, x = v6 := ⟨_, rfl⟩
  rw [← e9] at h7 ⊢
  clear e9 v6
  refine Only.step ?_ (State.setQueue_only ..)
  exact h7

/-! ### Session -/

theorem State.updSess_only (s : State) (n : Nat) (g : Sess → Sess) :
    Only 0 618970019642690137449562112 s (State.updSess s n g) := by
  unfold State.updSess
  refine Only.up_peer ?_
  exact Only.refl _ _ _

theorem State.sendCtlOn_only (s : State) (n : Nat) (kind : Nat) (body : List Byte) (r : Nat) (port : Option Nat) :
    Only 7237026282571302585664548867310581071905731394929451763625764488067242000384 677300690439095995129135104 s (State.sendCtlOn s n kind body r port) := by
  unfold State.sendCtlOn
  split
  · rename_i a0 a1
    exact Only.refl _ _ _
  · rename_i a2 a3 a4
    extract_lets +onlyGivenNames v5
    clear_value v5
    extract_lets +onlyGivenNames v6
    clear_value v6
    extract_lets +onlyGivenNames v7
    have h8 : Only 7237026282571302585664548867310581071905731394929451763625764488067242000384 677300690439095995129135104 s v7 := by
      unfold v7
      refine Only.step ?_ (State.countInvoc_only ..)
      exact Only.refl _ _ _
    obtain ⟨w9, e10⟩ : ∃ x, x = v7 := ⟨_, rfl⟩
    rw [← e10] at h8 ⊢
    clear e10 v7
    extract_lets +onlyGivenNames v11
    have h12 : Only 7237026282571302585664548867310581071905731394929451763625764488067242000384 677300690439095995129135104 s v11 := by
      unfold v11
      refine Only.step ?_ (State.updSess_only ..)
      exact h8
    obtain ⟨w13, e14⟩ : ∃ x, x = v11 := ⟨_, rfl⟩
    rw [← e14] at h12 ⊢
    clear e14 v11
    refine Only.step ?_ (State.enqueue_only ..)
    exact h12

theorem State.sendCtl_only (s : State) (n : Nat) (kind : Nat) (body : List Byte) (routes : List Nat) :
    Only 7237026282571302585664548867310581071905731394929451763625764488067242000384 677300690439095995129135104 s (State.sendCtl s n kind body routes) := by
  unfold State.sendCtl
  refine Only.foldl ?_ ?_
  · exact Only.refl _ _ _
  · intro u0 u1 h2
    refine Only.step ?_ (State.sendCtlOn_only ..)
    exact h2

theorem State.sendNak_only (s : State) (n : Nat) (reason : Nat) (seqs : List Nat) :
    Only 7237026282571302585664548867310581071907060622925236679498668295127522344960 677300690439095995129135104 s (State.sendNak s n reason seqs) := by
  unfold State.sendNak
  extract_lets +onlyGivenNames v0
  clear_value v0
  refine Only.foldl ?_ ?_
  · exact Only.refl _ _ _
  · intro u1 u2 h3
    refine Only.trans ?_ (State.count_only _ _ _ _ (by decide))
    refine Only.step ?_ (State.sendCtl_only ..)
    exact h3

theorem State.syncThrottle_only (s : State) (n : Nat) :
    Only 21267729379109718630199959127666458624 618970019642690137449562112 s (State.syncThrottle s n) := by
  unfold State.syncThrottle
  extract_lets +onlyGivenNames v0
  clear_value v0
  extract_lets +onlyGivenNames v1
  clear_value v1
  split
  · rename_i a2 a3
    refine Only.ite ?_ ?_
    · refine Only.step ?_ (State.updSess_only ..)
      refine Only.trans ?_ (State.event_only _ _ _ (by decide))
      refine Only.trans ?_ (State.setf_only _ _ _ _ (by decide))
      exact Only.refl _ _ _
    · exact Only.refl _ _ _
  · rename_i a4 a5 a6
    refine Only.ite ?_ ?_
    · exact Only.refl _ _ _
    · refine Only.step ?_ (State.updSess_only ..)
      refine Only.trans ?_ (State.count_only _ _ _ _ (by decide))
      refine Only.trans ?_ (State.setf_only _ _ _ _ (by decide))
      exact Only.refl _ _ _

theorem State.trimReplay_only (s : State) (n : Nat) (r : Nat) (need : Nat) :
    Only 0 618970019642690137449562112 s (State.trimReplay s n r need) := by
  unfold State.trimReplay
  refine Only.step ?_ (State.updSess_only ..)
  exact Only.refl _ _ _

theorem State.syncReplay_only (s : State) (n : Nat) :
    Only 20769187434139310514121985316880384 0 s (State.syncReplay s n) := by
  unfold State.syncReplay
  extract_lets +onlyGivenNames v0
  clear_value v0
  refine Only.trans ?_ (State.setf_only _ _ _ _ (by decide))
  refine Only.trans ?_ (State.setf_only _ _ _ _ (by decide))
  exact Only.refl _ _ _

theorem State.handOn_only (s : State) (n : Nat) (b : TxBlock) (r : Nat) :
    Only 7237005577332262213973186563042994240829394810789969391776613122479887482880 676999639575813055246762112 s (State.handOn s n b r) := by
  unfold State.handOn
  extract_lets +onlyGivenNames v0
  clear_value v0
  extract_lets +onlyGivenNames v1
  clear_value v1
  extract_lets +onlyGivenNames v2
  clear_value v2
  extract_lets +onlyGivenNames v3
  have h4 : Only 7237005577332262213973186563042994240829394810789969391776613122479887482880 676999639575813055246762112 s v3 := by
    unfold v3
    refine Only.step ?_ (State.updSess_only ..)
    refine Only.step ?_ (State.trimReplay_only ..)
    exact Only.refl _ _ _
  obtain ⟨w5, e6⟩ : ∃ x, x = v3 := ⟨_, rfl⟩
  rw [← e6] at h4 ⊢
  clear e6 v3
  extract_lets +onlyGivenNames v7
  have h8 : Only 7237005577332262213973186563042994240829394810789969391776613122479887482880 676999639575813055246762112 s v7 := by
    unfold v7
    split
    · rename_i a9 a10 a11
      refine Only.ite ?_ ?_
      · refine Only.step ?_ (State.degrade_only ..)
        exact h4
      · exact h4
    · rename_i a12 a13
      exact h4
  obtain ⟨w14, e15⟩ : ∃ x, x = v7 := ⟨_, rfl⟩
  rw [← e15] at h8 ⊢
  clear e15 v7
  extract_lets +onlyGivenNames v16
  clear_value v16
  extract_lets +onlyGivenNames v17
  have h18 : Only 7237005577332262213973186563042994240829394810789969391776613122479887482880 676999639575813055246762112 s v17 := by
    unfold v17
    refine Only.ite ?_ ?_
    · refine Only.step ?_ (State.setCtx_only ..)
      exact h8
    · exact h8
  obtain ⟨w19, e20⟩ : ∃ x, x = v17 := ⟨_, rfl⟩
  rw [← e20] at h18 ⊢
  clear e20 v17
  refine Only.step ?_ (State.syncReplay_only ..)
  refine Only.step ?_ (State.enqueue_only ..)
  exact h18

theorem State.handOver_only (s : State) (n : Nat) (b : TxBlock) :
    Only 7237005577332262213973186563042994240829394810789969391776613122479887482880 676999639575813055246762112 s (State.handOver s n b) := by
  unfold State.handOver
  refine Only.ite ?_ ?_
  · exact Only.refl _ _ _
  · split
    · rename_i a0 a1
      exact Only.refl _ _ _
    · rename_i a2 a3 a4
      refine Only.step ?_ (State.handOn_only ..)
      exact Only.refl _ _ _

theorem State.pumpTx_only (s : State) (n : Nat) :
    Only 7237005577332262213973186563042994240850662540169079110406813081607553941504 676999639575813055246762112 s (State.pumpTx s n) := by
  unfold State.pumpTx
  refine Only.step ?_ (State.syncThrottle_only ..)
  refine Only.foldl ?_ ?_
  · exact Only.refl _ _ _
  · intro u0 u1 h2
    refine Only.step ?_ (State.handOver_only ..)
    exact h2

theorem State.takeSeq_only (s : State) (n : Nat) :
    Only 324518553658426726783156020576256 0 s (State.takeSeq s n).2 := by
  unfold State.takeSeq
  extract_lets +onlyGivenNames v0
  clear_value v0
  refine Only.pair _ ?_
  refine Only.trans ?_ (State.setf_only _ _ _ _ (by decide))
  exact Only.refl _ _ _

theorem State.syncOldest_only (s : State) (n : Nat) :
    Only 324518553658426726783156020576256 0 s (State.syncOldest s n) := by
  unfold State.syncOldest
  extract_lets +onlyGivenNames v0
  clear_value v0
  refine Only.trans ?_ (State.setf_only _ _ _ _ (by decide))
  exact Only.refl _ _ _

theorem State.sealData_only (s : State) (n : Nat) (h : Head) (g : KeyGen) (localStream : Nat) (body : List Byte) :
    Only 20705239040371691362304267586831076357677845470169586392270728691974144 619272251097593794743238656 s (State.sealData s n h g localStream body) := by
  unfold State.sealData
  extract_lets +onlyGivenNames v0
  have h1 : Only 20705239040371691362304267586831076357677845470169586392270728691974144 619272251097593794743238656 s v0.2 := by
    unfold v0
    refine Only.step ?_ (State.takeSeq_only ..)
    exact Only.refl _ _ _
  obtain ⟨w2, e3⟩ : ∃ x, x = v0 := ⟨_, rfl⟩
  rw [← e3] at h1 ⊢
  clear e3 v0
  extract_lets +onlyGivenNames v4
  have h5 : Only 20705239040371691362304267586831076357677845470169586392270728691974144 619272251097593794743238656 s v4 := by
    unfold v4
    refine Only.step ?_ (State.countInvoc_only ..)
    exact h1
  obtain ⟨w6, e7⟩ : ∃ x, x = v4 := ⟨_, rfl⟩
  rw [← e7] at h5 ⊢
  clear e7 v4
  extract_lets +onlyGivenNames v8
  clear_value v8
  refine Only.step ?_ (State.syncOldest_only ..)
  refine Only.step ?_ (State.updSess_only ..)
  exact h5

theorem State.sendData_only (s : State) (n : Nat) (h : Head) (localStream : Nat) (body : List Byte) :
    Only 7237026282571302585664548867310581071927020218014549279993205352336245915648 677301871030716712540438656 s (State.sendData s n h localStream body) := by
  unfold State.sendData
  split
  · rename_i a0 a1 a2
    refine Only.ite ?_ ?_
    · refine Only.step ?_ (State.pumpTx_only ..)
      refine Only.step ?_ (State.sealData_only ..)
      exact Only.refl _ _ _
    · refine Only.step ?_ (State.updSess_only ..)
      exact Only.refl _ _ _
  · rename_i a3 a4
    refine Only.step ?_ (State.updSess_only ..)
    exact Only.refl _ _ _

theorem State.reRequest_only (s : State) (n : Nat) (seqs : List Nat) :
    Only 7237026282571302585664548867310581071907060622925236679498668295127522344960 677300690439095995129135104 s (State.reRequest s n seqs) := by
  unfold State.reRequest
  refine Only.step ?_ (State.sendNak_only ..)
  refine Only.step ?_ (State.updSess_only ..)
  exact Only.refl _ _ _

theorem State.setSessState_only (s : State) (n : Nat) (st : Nat) :
    Only 81139541934920964737988198137856 0 s (State.setSessState s n st) := by
  unfold State.setSessState
  refine Only.trans ?_ (State.putBit_only _ _ _ _ _ (by decide))
  refine Only.trans ?_ (State.setf_only _ _ _ _ (by decide))
  exact Only.refl _ _ _

theorem State.putWindow_only (s : State) (n : Nat) (r : Nat) (w : Nat) :
    Only 3894222643901120721397872246915072 618970019642690137449562112 s (State.putWindow s n r w) := by
  unfold State.putWindow
  refine Only.step ?_ (State.updSess_only ..)
  refine Only.ite ?_ ?_
  · refine Only.trans ?_ (State.setf_only _ _ _ _ (by decide))
    exact Only.refl _ _ _
  · refine Only.trans ?_ (State.setf_only _ _ _ _ (by decide))
    exact Only.refl _ _ _

theorem State.settleWindow_only (s : State) (n : Nat) (r : Nat) :
    Only 3894222643901120721397872246915072 618970019642690137449562112 s (State.settleWindow s n r) := by
  unfold State.settleWindow
  split
  · rename_i a0 a1 a2
    refine Only.ite ?_ ?_
    · refine Only.step ?_ (State.putWindow_only ..)
      exact Only.refl _ _ _
    · exact Only.refl _ _ _
  · rename_i a3 a4
    exact Only.refl _ _ _

theorem State.setRoute_only (s : State) (n : Nat) (r : Nat) (st : Nat) :
    Only 81149445455235247780187391131648 0 s (State.setRoute s n r st) := by
  unfold State.setRoute
  refine Only.ite ?_ ?_
  · refine Only.trans ?_ (State.putBit_only _ _ _ _ _ (by decide))
    refine Only.trans ?_ (State.setf_only _ _ _ _ (by decide))
    exact Only.refl _ _ _
  · refine Only.trans ?_ (State.putBit_only _ _ _ _ _ (by decide))
    refine Only.trans ?_ (State.setf_only _ _ _ _ (by decide))
    exact Only.refl _ _ _

theorem State.setWindow_only (s : State) (n : Nat) (r : Nat) :
    Only 3894222643901120721397872246915072 618970019642690137449562112 s (State.setWindow s n r) := by
  unfold State.setWindow
  extract_lets +onlyGivenNames v0
  clear_value v0
  refine Only.ite ?_ ?_
  · refine Only.step ?_ (State.putWindow_only ..)
    exact Only.refl _ _ _
  · refine Only.step ?_ (State.updSess_only ..)
    exact Only.refl _ _ _

theorem State.sendAbandon_only (s : State) (n : Nat) (reason : Nat) (stream : Nat) (step : Nat) (chunk : Nat) (adhoc : Bool) (rs : List (Nat × Nat)) :
    Only 7237026282571302585664548867310581071927020218014549279993205352336245915648 677301871030716712540438656 s (State.sendAbandon s n reason stream step chunk adhoc rs) := by
  unfold State.sendAbandon
  extract_lets +onlyGivenNames v0
  clear_value v0
  refine Only.foldl ?_ ?_
  · exact Only.refl _ _ _
  · intro u1 u2 h3
    refine Only.step ?_ (State.sendData_only ..)
    exact h3

theorem State.flushTx_only (s : State) (n : Nat) :
    Only 7237026282571302585664548867310581071927020218014549279993205352336245915648 677301871030716712540438656 s (State.flushTx s n) := by
  unfold State.flushTx
  extract_lets +onlyGivenNames v0
  clear_value v0
  refine Only.step ?_ (State.pumpTx_only ..)
  refine Only.foldl ?_ ?_
  · exact Only.refl _ _ _
  · intro u1 u2 h3
    split
    · rename_i a4 a5 a6
      refine Only.step ?_ (State.sealData_only ..)
      refine Only.step ?_ (State.updSess_only ..)
      exact h3
    · rename_i a7 a8
      exact h3

theorem State.sendDataOn_only (s : State) (n : Nat) (r : Nat) (h : Head) (localStream : Nat) (body : List Byte) :
    Only 7237026282571302585664548867310581071927020218014549279993205352336245915648 677301871030716712540438656 s (State.sendDataOn s n r h localStream body) := by
  unfold State.sendDataOn
  split
  · rename_i a0 a1 a2
    extract_lets +onlyGivenNames v3
    clear_value v3
    extract_lets +onlyGivenNames v4
    have h5 : Only 7237026282571302585664548867310581071927020218014549279993205352336245915648 677301871030716712540438656 s v4 := by
      unfold v4
      refine Only.step ?_ (State.sealData_only ..)
      exact Only.refl _ _ _
    obtain ⟨w6, e7⟩ : ∃ x, x = v4 := ⟨_, rfl⟩
    rw [← e7] at h5 ⊢
    clear e7 v4
    split
    · rename_i a8 a9 a10
      refine Only.ite ?_ ?_
      · refine Only.step ?_ (State.handOn_only ..)
        exact h5
      · refine Only.step ?_ (State.pumpTx_only ..)
        exact h5
    · rename_i a11 a12
      exact h5
  · rename_i a13 a14
    refine Only.step ?_ (State.sendData_only ..)
    exact Only.refl _ _ _

/-! ### Police -/

theorem State.police_only (s : State) (k : Nat) (len : Nat) (input : Colour) :
    Only 3243083124342020004636734228563641794171663242393136110011370614596629451243520 154742504910672534362390528 s (State.police s k len input).2 := by
  unfold State.police
  refine Only.iteSnd ?_ ?_
  · refine Only.pair _ ?_
    refine Only.trans ?_ (State.count_only _ _ _ _ (by decide))
    exact Only.refl _ _ _
  · extract_lets +onlyGivenNames v0
    clear_value v0
    extract_lets +onlyGivenNames v1
    clear_value v1
    extract_lets +onlyGivenNames v2
    unfold v2
    clear v2
    extract_lets +onlyGivenNames v3
    have h4 : Only 3243083124342020004636734228563641794171663242393136110011370614596629451243520 154742504910672534362390528 s v3 := by
      unfold v3
      refine Only.up_sch ?_
      exact Only.refl _ _ _
    obtain ⟨w5, e6⟩ : ∃ x, x = v3 := ⟨_, rfl⟩
    rw [← e6] at h4 ⊢
    clear e6 v3
    refine Only.pair _ ?_
    split
    · rename_i a7 a8
      refine Only.trans ?_ (State.count_only _ _ _ _ (by decide))
      exact h4
    · rename_i a9 a10
      refine Only.trans ?_ (State.count_only _ _ _ _ (by decide))
      exact h4
    · rename_i a11 a12
      refine Only.trans ?_ (State.event_only _ _ _ (by (repeat' split) <;> decide))
      refine Only.trans ?_ (State.count_only _ _ _ _ (by decide))
      exact h4

/-! ### Clock -/

theorem State.syncTime_only (s : State) :
    Only 3705346855594118253554271520278013051304639509300498049262642688253220148477952 0 s (State.syncTime s) := by
  unfold State.syncTime
  refine Only.trans ?_ (State.setf_only _ _ _ _ (by decide))
  refine Only.trans ?_ (State.setf_only _ _ _ _ (by decide))
  refine Only.trans ?_ (State.setf_only _ _ _ _ (by decide))
  refine Only.trans ?_ (State.setf_only _ _ _ _ (by decide))
  refine Only.trans ?_ (State.setf_only _ _ _ _ (by decide))
  exact Only.refl _ _ _

theorem State.setTimeRoute_only (s : State) (r : Nat) (x : TimeRoute) :
    Only 3705346855594118253554271520278013051304639509300498049262642688253220148477952 713623846352979940529142984724747568191373312 s (State.setTimeRoute s r x) := by
  unfold State.setTimeRoute
  refine Only.step ?_ (State.syncTime_only ..)
  refine Only.up_time ?_
  exact Only.refl _ _ _

theorem State.setBase_only (s : State) (n : Nat) (b : TimeBase) :
    Only 3705346855594118253554271520278013051304639509300498049262642688253220148477952 356811923176489970264571492362373784095686656 s (State.setBase s n b) := by
  unfold State.setBase
  refine Only.step ?_ (State.syncTime_only ..)
  refine Only.up_time ?_
  exact Only.refl _ _ _

theorem State.baseLost_only (s : State) (n : Nat) :
    Only 240847545613617686481027648818070848334801568104532373202071774736459309651066880 356811923176489970264571492362373784095686656 s (State.baseLost s n) := by
  unfold State.baseLost
  extract_lets +onlyGivenNames v0
  clear_value v0
  refine Only.ite ?_ ?_
  · refine Only.trans ?_ (State.event_only _ _ _ (by decide))
    refine Only.step ?_ (State.setBase_only ..)
    exact Only.refl _ _ _
  · refine Only.ite ?_ ?_
    · refine Only.step ?_ (State.setBase_only ..)
      exact Only.refl _ _ _
    · exact Only.refl _ _ _

theorem State.checkFollowed_only (s : State) :
    Only 240847545613617686481027648818070848334801568104532373202071774736459309651066880 23192775006471848067197147003554295966219632640 s (State.checkFollowed s) := by
  unfold State.checkFollowed
  extract_lets +onlyGivenNames v0
  unfold v0
  clear v0
  extract_lets +onlyGivenNames v1
  have h2 : Only 240847545613617686481027648818070848334801568104532373202071774736459309651066880 23192775006471848067197147003554295966219632640 s v1 := by
    unfold v1
    refine Only.up_time ?_
    exact Only.refl _ _ _
  obtain ⟨w3, e4⟩ : ∃ x, x = v1 := ⟨_, rfl⟩
  rw [← e4] at h2 ⊢
  clear e4 v1
  refine Only.ite ?_ ?_
  · exact h2
  · refine Only.ite ?_ ?_
    · refine Only.step ?_ (State.baseLost_only ..)
      refine Only.step ?_ (State.baseLost_only ..)
      exact h2
    · refine Only.step ?_ (State.baseLost_only ..)
      exact h2

theorem State.syncOneWay_only (s : State) (n : Nat) (r : Nat) :
    Only 15576890575604482885591488987660288 0 s (State.syncOneWay s n r) := by
  unfold State.syncOneWay
  extract_lets +onlyGivenNames v0
  clear_value v0
  extract_lets +onlyGivenNames v1
  clear_value v1
  extract_lets +onlyGivenNames v2
  clear_value v2
  extract_lets +onlyGivenNames v3
  clear_value v3
  refine Only.ite ?_ ?_
  · refine Only.trans ?_ (State.setf_only _ _ _ _ (by decide))
    exact Only.refl _ _ _
  · refine Only.trans ?_ (State.setf_only _ _ _ _ (by decide))
    exact Only.refl _ _ _

theorem State.syncAsym_only (s : State) (r : Nat) :
    Only 242833611528216133864932738352939863330300854881533017047052155700248627139638722560 0 s (State.syncAsym s r) := by
  unfold State.syncAsym
  extract_lets +onlyGivenNames v0
  clear_value v0
  refine Only.step ?_ (State.syncOneWay_only ..)
  refine Only.trans ?_ (State.setf_only _ _ _ _ (by decide))
  exact Only.refl _ _ _

theorem State.storeAsym_only (s : State) (r : Nat) (a : Int) :
    Only 243074459073829751551413766001757934178635656449637549420254227474985086449289789440 23906398852824828007726289988279043534411005952 s (State.storeAsym s r a) := by
  unfold State.storeAsym
  extract_lets +onlyGivenNames v0
  clear_value v0
  extract_lets +onlyGivenNames v1
  have h2 : Only 243074459073829751551413766001757934178635656449637549420254227474985086449289789440 23906398852824828007726289988279043534411005952 s v1 := by
    unfold v1
    refine Only.step ?_ (State.setTimeRoute_only ..)
    exact Only.refl _ _ _
  obtain ⟨w3, e4⟩ : ∃ x, x = v1 := ⟨_, rfl⟩
  rw [← e4] at h2 ⊢
  clear e4 v1
  refine Only.step ?_ (State.checkFollowed_only ..)
  refine Only.trans ?_ (State.event_only _ _ _ (by decide))
  refine Only.step ?_ (State.syncAsym_only ..)
  exact h2

theorem State.asymSample_only (s : State) (r : Nat) (v : Int) :
    Only 243074459073829751551413766001757934178635656449637549420254227474985086449289789440 23906398852824828007726289988279043534411005952 s (State.asymSample s r v) := by
  unfold State.asymSample
  extract_lets +onlyGivenNames v0
  clear_value v0
  extract_lets +onlyGivenNames v1
  clear_value v1
  extract_lets +onlyGivenNames v2
  clear_value v2
  extract_lets +onlyGivenNames v3
  have h4 : Only 243074459073829751551413766001757934178635656449637549420254227474985086449289789440 23906398852824828007726289988279043534411005952 s v3 := by
    unfold v3
    refine Only.step ?_ (State.setTimeRoute_only ..)
    exact Only.refl _ _ _
  obtain ⟨w5, e6⟩ : ∃ x, x = v3 := ⟨_, rfl⟩
  rw [← e6] at h4 ⊢
  clear e6 v3
  refine Only.ite ?_ ?_
  · refine Only.step ?_ (State.storeAsym_only ..)
    exact h4
  · exact h4

theorem State.baseUpdate_only (s : State) (n : Nat) (want : Int) :
    Only 30595048986640634419597619942935553764622408428294212392761640676906838765982449664 356811923176489970264571492362373784095686660 s (State.baseUpdate s n want) := by
  unfold State.baseUpdate
  extract_lets +onlyGivenNames v0
  clear_value v0
  extract_lets +onlyGivenNames v1
  clear_value v1
  extract_lets +onlyGivenNames v2
  have h3 : Only 30595048986640634419597619942935553764622408428294212392761640676906838765982449664 356811923176489970264571492362373784095686660 s v2 := by
    unfold v2
    refine Only.trans ?_ (State.setf_only _ _ _ _ (by decide))
    exact Only.refl _ _ _
  obtain ⟨w4, e5⟩ : ∃ x, x = v2 := ⟨_, rfl⟩
  rw [← e5] at h3 ⊢
  clear e5 v2
  refine Only.ite ?_ ?_
  · refine Only.ite ?_ ?_
    · refine Only.trans ?_ (State.event_only _ _ _ (by decide))
      refine Only.step ?_ (State.setBase_only ..)
      refine Only.step ?_ (State.fresh_only ..)
      exact h3
    · refine Only.step ?_ (State.setBase_only ..)
      exact h3
  · extract_lets +onlyGivenNames v6
    have h7 : Only 30595048986640634419597619942935553764622408428294212392761640676906838765982449664 356811923176489970264571492362373784095686660 s v6 := by
      unfold v6
      refine Only.trans ?_ (State.eventIf_only _ _ _ _ (by decide))
      exact h3
    obtain ⟨w8, e9⟩ : ∃ x, x = v6 := ⟨_, rfl⟩
    rw [← e9] at h7 ⊢
    clear e9 v6
    refine Only.step ?_ (State.setBase_only ..)
    exact h7

theorem State.timeProbe_only (s : State) (n : Nat) (r : Nat) (t1 : Int) (t2 : Nat) (rtt : Int) :
    Only 759095883571289036014395835001755143755524973072862109752766898811881537206923296768 23906398852824828007726289988279043534411005956 s (State.timeProbe s n r t1 t2 rtt) := by
  unfold State.timeProbe
  refine Only.ite ?_ ?_
  · exact Only.refl _ _ _
  · split
    · rename_i a0 a1 a2 a3 a4 a5 a6 a7 a8
      extract_lets +onlyGivenNames v9
      clear_value v9
      extract_lets +onlyGivenNames v10
      have h11 : Only 759095883571289036014395835001755143755524973072862109752766898811881537206923296768 23906398852824828007726289988279043534411005956 s v10 := by
        unfold v10
        refine Only.ite ?_ ?_
        · refine Only.step ?_ (State.asymSample_only ..)
          exact Only.refl _ _ _
        · exact Only.refl _ _ _
      obtain ⟨w12, e13⟩ : ∃ x, x = v10 := ⟨_, rfl⟩
      rw [← e13] at h11 ⊢
      clear e13 v10
      extract_lets +onlyGivenNames v14
      clear_value v14
      extract_lets +onlyGivenNames v15
      clear_value v15
      extract_lets +onlyGivenNames v16
      have h17 : Only 759095883571289036014395835001755143755524973072862109752766898811881537206923296768 23906398852824828007726289988279043534411005956 s v16 := by
        unfold v16
        refine Only.step ?_ (State.setTimeRoute_only ..)
        exact h11
      obtain ⟨w18, e19⟩ : ∃ x, x = v16 := ⟨_, rfl⟩
      rw [← e19] at h17 ⊢
      clear e19 v16
      extract_lets +onlyGivenNames v20
      have h21 : Only 759095883571289036014395835001755143755524973072862109752766898811881537206923296768 23906398852824828007726289988279043534411005956 s v20 := by
        unfold v20
        refine Only.trans ?_ (State.setf_only _ _ _ _ (by decide))
        exact h17
      obtain ⟨w22, e23⟩ : ∃ x, x = v20 := ⟨_, rfl⟩
      rw [← e23] at h21 ⊢
      clear e23 v20
      extract_lets +onlyGivenNames v24
      unfold v24
      clear v24
      extract_lets +onlyGivenNames v25
      have h26 : Only 759095883571289036014395835001755143755524973072862109752766898811881537206923296768 23906398852824828007726289988279043534411005956 s v25 := by
        unfold v25
        refine Only.up_time ?_
        exact h21
      obtain ⟨w27, e28⟩ : ∃ x, x = v25 := ⟨_, rfl⟩
      rw [← e28] at h26 ⊢
      clear e28 v25
      refine Only.ite ?_ ?_
      · extract_lets +onlyGivenNames v29
        have h30 : Only 759095883571289036014395835001755143755524973072862109752766898811881537206923296768 23906398852824828007726289988279043534411005956 s v29 := by
          unfold v29
          refine Only.step ?_ (State.baseUpdate_only ..)
          exact h26
        obtain ⟨w31, e32⟩ : ∃ x, x = v29 := ⟨_, rfl⟩
        rw [← e32] at h30 ⊢
        clear e32 v29
        refine Only.ite ?_ ?_
        · refine Only.step ?_ (State.baseUpdate_only ..)
          exact h30
        · exact h30
      · exact h26
    · rename_i a33 a34 a35
      exact Only.refl _ _ _

theorem State.timeDelayStep_only (s : State) (n : Nat) (r : Nat) :
    Only 240847545613617686481027648818070848334801568120109263777676257622050798638727168 23906398852824828007726289988279043534411005952 s (State.timeDelayStep s n r) := by
  unfold State.timeDelayStep
  refine Only.ite ?_ ?_
  · extract_lets +onlyGivenNames v0
    clear_value v0
    extract_lets +onlyGivenNames v1
    have h2 : Only 240847545613617686481027648818070848334801568120109263777676257622050798638727168 23906398852824828007726289988279043534411005952 s v1 := by
      unfold v1
      refine Only.step ?_ (State.setTimeRoute_only ..)
      exact Only.refl _ _ _
    obtain ⟨w3, e4⟩ : ∃ x, x = v1 := ⟨_, rfl⟩
    rw [← e4] at h2 ⊢
    clear e4 v1
    refine Only.step ?_ (State.checkFollowed_only ..)
    refine Only.step ?_ (State.syncOneWay_only ..)
    refine Only.trans ?_ (State.eventIf_only _ _ _ _ (by decide))
    exact h2
  · exact Only.refl _ _ _

theorem State.timeRouteUp_only (s : State) (n : Nat) (r : Nat) :
    Only 240847545613617686481027648818070848334801568120109263777676257622050798638727168 23906398852824828007726289988279043534411005952 s (State.timeRouteUp s n r) := by
  unfold State.timeRouteUp
  extract_lets +onlyGivenNames v0
  clear_value v0
  refine Only.ite ?_ ?_
  · refine Only.step ?_ (State.checkFollowed_only ..)
    refine Only.step ?_ (State.syncOneWay_only ..)
    refine Only.step ?_ (State.setTimeRoute_only ..)
    exact Only.refl _ _ _
  · exact Only.refl _ _ _

theorem State.timeRouteDown_only (s : State) (n : Nat) (r : Nat) :
    Only 240847545613617686481027648818070848334801568120109263777676257622050798638727168 23906398852824828007726289988279043534411005952 s (State.timeRouteDown s n r) := by
  unfold State.timeRouteDown
  extract_lets +onlyGivenNames v0
  clear_value v0
  refine Only.ite ?_ ?_
  · refine Only.step ?_ (State.checkFollowed_only ..)
    refine Only.step ?_ (State.syncOneWay_only ..)
    refine Only.trans ?_ (State.event_only _ _ _ (by decide))
    refine Only.step ?_ (State.setTimeRoute_only ..)
    exact Only.refl _ _ _
  · exact Only.refl _ _ _

theorem State.baseFree_only (s : State) (n : Nat) :
    Only 240847545613617686481027648818070848334801568104532373202071774736459309651066880 356811923176489970264571492362373784095686656 s (State.baseFree s n) := by
  unfold State.baseFree
  refine Only.trans ?_ (State.event_only _ _ _ (by decide))
  refine Only.step ?_ (State.setBase_only ..)
  exact Only.refl _ _ _

/-! ### Health -/

theorem State.setSec_only (s : State) (n : Nat) (st : Nat) :
    Only 1606938044258990275541962092341162602522202993785266803572736 0 s (State.setSec s n st) := by
  unfold State.setSec
  refine Only.step ?_ (State.syncSectors_only ..)
  refine Only.trans ?_ (State.setf_only _ _ _ _ (by decide))
  exact Only.refl _ _ _

theorem State.markRunning_only (s : State) (u : Nat) :
    Only 800995138470341280898133139813582042976014195883744788730140602933332397167740206258610782601216 0 s (State.markRunning s u) := by
  unfold State.markRunning
  refine Only.trans ?_ (State.putBit_only _ _ _ _ _ (by decide))
  refine Only.trans ?_ (State.putBit_only _ _ _ _ _ (by decide))
  exact Only.refl _ _ _

theorem State.markDark_only (s : State) (u : Nat) :
    Only 9344943282153981610478219964491790501386832285310355868518307034222211300290302406350459130347520 0 s (State.markDark s u) := by
  unfold State.markDark
  refine Only.trans ?_ (State.event_only _ _ _ (by decide))
  refine Only.trans ?_ (State.putBit_only _ _ _ _ _ (by decide))
  refine Only.trans ?_ (State.putBit_only _ _ _ _ _ (by decide))
  exact Only.refl _ _ _

theorem State.moveHomes_only (s : State) (n : Nat) :
    Only 0 262144 s (State.moveHomes s n) := by
  unfold State.moveHomes
  extract_lets +onlyGivenNames v0
  clear_value v0
  refine Only.up_arr ?_
  exact Only.refl _ _ _

theorem State.moveHelp_only (s : State) (n : Nat) :
    Only 0 8388608 s (State.moveHelp s n) := by
  unfold State.moveHelp
  extract_lets +onlyGivenNames v0
  clear_value v0
  refine Only.up_arr ?_
  exact Only.refl _ _ _

theorem State.sectorLoss_only (s : State) (n : Nat) (moved : List Nat) :
    Only 1073741824 311288806243857334400 s (State.sectorLoss s n moved) := by
  unfold State.sectorLoss
  extract_lets +onlyGivenNames v0
  clear_value v0
  extract_lets +onlyGivenNames v1
  have h2 : Only 1073741824 311288806243857334400 s v1 := by
    unfold v1
    refine Only.step ?_ (State.loseSector_only ..)
    refine Only.step ?_ (State.moveHomes_only ..)
    refine Only.step ?_ (State.moveHelp_only ..)
    exact Only.refl _ _ _
  obtain ⟨w3, e4⟩ : ∃ x, x = v1 := ⟨_, rfl⟩
  rw [← e4] at h2 ⊢
  clear e4 v1
  extract_lets +onlyGivenNames v5
  unfold v5
  clear v5
  extract_lets +onlyGivenNames v6
  have h7 : Only 1073741824 311288806243857334400 s v6 := by
    unfold v6
    refine Only.up_mem ?_
    exact h2
  obtain ⟨w8, e9⟩ : ∃ x, x = v6 := ⟨_, rfl⟩
  rw [← e9] at h7 ⊢
  clear e9 v6
  refine Only.trans ?_ (State.eventIf_only _ _ _ _ (by decide))
  refine Only.foldl ?_ ?_
  · exact h7
  · intro u10 u11 h12
    refine Only.step ?_ (State.degrade_only ..)
    exact h12

theorem State.sectorLeaves_only (s : State) (n : Nat) (st : Nat) (moved : List Nat) :
    Only 1606938044258990275541962092341162602522202993785267877314560 311288806243857334400 s (State.sectorLeaves s n st moved) := by
  unfold State.sectorLeaves
  refine Only.ite ?_ ?_
  · refine Only.step ?_ (State.sectorLoss_only ..)
    refine Only.step ?_ (State.setSec_only ..)
    exact Only.refl _ _ _
  · refine Only.step ?_ (State.setSec_only ..)
    exact Only.refl _ _ _

theorem State.retireNow_only (s : State) (n : Nat) (moved : List Nat) :
    Only 5039435014843341627735855609498964117564205362548291022871119537437658273529264939612374495588123705376 311288806243857334400 s (State.retireNow s n moved) := by
  unfold State.retireNow
  extract_lets +onlyGivenNames v0
  have h1 : Only 5039435014843341627735855609498964117564205362548291022871119537437658273529264939612374495588123705376 311288806243857334400 s v0 := by
    unfold v0
    refine Only.trans ?_ (State.event_only _ _ _ (by decide))
    refine Only.trans ?_ (State.putBit_only _ _ _ _ _ (by decide))
    refine Only.step ?_ (State.markDark_only ..)
    refine Only.step ?_ (State.sectorLeaves_only ..)
    exact Only.refl _ _ _
  obtain ⟨w2, e3⟩ : ∃ x, x = v0 := ⟨_, rfl⟩
  rw [← e3] at h1 ⊢
  clear e3 v0
  refine Only.ite ?_ ?_
  · refine Only.trans ?_ (State.event_only _ _ _ (by decide))
    refine Only.step ?_ (State.syncTracks_only ..)
    refine Only.foldl ?_ ?_
    · exact h1
    · intro u4 u5 h6
      refine Only.step ?_ (State.setTrack_only ..)
      exact h6
  · exact h1

theorem State.retire_only (s : State) (n : Nat) :
    Only 5039435014843341627735855609498964117564205362548291022871119537437658273529264939612374495588123705376 332306998946229279514758008927420544 s (State.retire s n) := by
  unfold State.retire
  refine Only.ite ?_ ?_
  · exact Only.refl _ _ _
  · refine Only.ite ?_ ?_
    · refine Only.up_bist ?_
      exact Only.refl _ _ _
    · refine Only.step ?_ (State.retireNow_only ..)
      exact Only.refl _ _ _

theorem State.chargeMismatch_only (s : State) (n : Nat) (cls : Nat) (it : Item) :
    Only 5039435014843341627735855609498964117564205362548291022871119537437658273529264939612374496277465956384 373845373814507900543001979561181312 s (State.chargeMismatch s n cls it) := by
  unfold State.chargeMismatch
  extract_lets +onlyGivenNames v0
  clear_value v0
  extract_lets +onlyGivenNames v1
  clear_value v1
  extract_lets +onlyGivenNames v2
  clear_value v2
  extract_lets +onlyGivenNames v3
  have h4 : Only 5039435014843341627735855609498964117564205362548291022871119537437658273529264939612374496277465956384 373845373814507900543001979561181312 s v3 := by
    unfold v3
    refine Only.trans ?_ (State.eventIf_only _ _ _ _ (by decide))
    refine Only.trans ?_ (State.setf_only _ _ _ _ (by decide))
    refine Only.trans ?_ (State.count_only _ _ _ _ (by decide))
    refine Only.trans ?_ (State.countEv_only _ _ _ _ (by decide) (by decide))
    exact Only.refl _ _ _
  obtain ⟨w5, e6⟩ : ∃ x, x = v3 := ⟨_, rfl⟩
  rw [← e6] at h4 ⊢
  clear e6 v3
  extract_lets +onlyGivenNames v7
  have h8 : Only 5039435014843341627735855609498964117564205362548291022871119537437658273529264939612374496277465956384 373845373814507900543001979561181312 s v7 := by
    unfold v7
    refine Only.trans ?_ (State.putBit_only _ _ _ _ _ (by decide))
    exact h4
  obtain ⟨w9, e10⟩ : ∃ x, x = v7 := ⟨_, rfl⟩
  rw [← e10] at h8 ⊢
  clear e10 v7
  extract_lets +onlyGivenNames v11
  have h12 : Only 5039435014843341627735855609498964117564205362548291022871119537437658273529264939612374496277465956384 373845373814507900543001979561181312 s v11 := by
    unfold v11
    refine Only.ite ?_ ?_
    · refine Only.step ?_ (State.setSec_only ..)
      exact h8
    · exact h8
  obtain ⟨w13, e14⟩ : ∃ x, x = v11 := ⟨_, rfl⟩
  rw [← e14] at h12 ⊢
  clear e14 v11
  extract_lets +onlyGivenNames v15
  unfold v15
  clear v15
  extract_lets +onlyGivenNames v16
  have h17 : Only 5039435014843341627735855609498964117564205362548291022871119537437658273529264939612374496277465956384 373845373814507900543001979561181312 s v16 := by
    unfold v16
    refine Only.up_bist ?_
    exact h12
  obtain ⟨w18, e19⟩ : ∃ x, x = v16 := ⟨_, rfl⟩
  rw [← e19] at h17 ⊢
  clear e19 v16
  refine Only.ite ?_ ?_
  · refine Only.step ?_ (State.retire_only ..)
    exact h17
  · exact h17

theorem State.sectorJoins_only (s : State) (n : Nat) :
    Only 800995138470341280898133139813582096004969656430423881614889650191698280400439001093248315817984 627189298506124754944 s (State.sectorJoins s n) := by
  unfold State.sectorJoins
  refine Only.step ?_ (State.remirror_only ..)
  refine Only.step ?_ (State.markRunning_only ..)
  refine Only.step ?_ (State.setSec_only ..)
  exact Only.refl _ _ _

/-! ### Chunks -/

theorem State.dropWaiting_only (s : State) (p : Nat → Bool) :
    Only 0 576460752303423488 s (State.dropWaiting s p) := by
  unfold State.dropWaiting
  refine Only.up_col ?_
  exact Only.refl _ _ _

theorem State.noteInstance_only (s : State) (it : Item) :
    Only 0 1369094286720630784 s (State.noteInstance s it) := by
  unfold State.noteInstance
  split
  · rename_i a0 a1
    exact Only.refl _ _ _
  · rename_i a2 a3 a4
    extract_lets +onlyGivenNames v5
    clear_value v5
    refine Only.ite ?_ ?_
    · exact Only.refl _ _ _
    · refine Only.up_col ?_
      exact Only.refl _ _ _

theorem State.noteChunkStart_only (s : State) (it : Item) :
    Only 0 288230376151711744 s (State.noteChunkStart s it) := by
  unfold State.noteChunkStart
  extract_lets +onlyGivenNames v0
  clear_value v0
  refine Only.ite ?_ ?_
  · exact Only.refl _ _ _
  · extract_lets +onlyGivenNames v1
    clear_value v1
    refine Only.up_col ?_
    exact Only.refl _ _ _

theorem State.noteArrival_only (s : State) (stream : Nat) (off : Nat) (n : Nat) :
    Only 0 288230376151711744 s (State.noteArrival s stream off n) := by
  unfold State.noteArrival
  split
  · rename_i a0 a1
    exact Only.refl _ _ _
  · rename_i a2 a3 a4
    extract_lets +onlyGivenNames v5
    clear_value v5
    refine Only.up_col ?_
    exact Only.refl _ _ _

theorem State.noteResult_only (s : State) (it : Item) (sum : Bool) (off : Nat) (len : Nat) :
    Only 0 648518346341351424 s (State.noteResult s it sum off len) := by
  unfold State.noteResult
  split
  · rename_i a0 a1
    exact Only.refl _ _ _
  · rename_i a2 a3 a4
    extract_lets +onlyGivenNames v5
    clear_value v5
    extract_lets +onlyGivenNames v6
    clear_value v6
    extract_lets +onlyGivenNames v7
    clear_value v7
    extract_lets +onlyGivenNames v8
    clear_value v8
    extract_lets +onlyGivenNames v9
    clear_value v9
    extract_lets +onlyGivenNames v10
    clear_value v10
    extract_lets +onlyGivenNames v11
    clear_value v11
    extract_lets +onlyGivenNames v12
    clear_value v12
    refine Only.ite ?_ ?_
    · refine Only.up_col ?_
      exact Only.refl _ _ _
    · refine Only.up_col ?_
      exact Only.refl _ _ _

theorem State.noteEncoded_only (s : State) (it : Item) :
    Only 0 864691128455135232 s (State.noteEncoded s it) := by
  unfold State.noteEncoded
  split
  · rename_i a0 a1
    exact Only.refl _ _ _
  · rename_i a2 a3 a4
    extract_lets +onlyGivenNames v5
    clear_value v5
    extract_lets +onlyGivenNames v6
    clear_value v6
    refine Only.up_col ?_
    exact Only.refl _ _ _

theorem State.noteSiteSum_only (s : State) (it : Item) :
    Only 0 288230376151711744 s (State.noteSiteSum s it) := by
  unfold State.noteSiteSum
  extract_lets +onlyGivenNames v0
  clear_value v0
  extract_lets +onlyGivenNames v1
  clear_value v1
  refine Only.up_col ?_
  exact Only.refl _ _ _

end Sys2Proof.Machine
end

