-- ==== Sys2Proof/Laws/Items.lean ====
section
/-! SUPPORT. Laws of the end of an item and of memory: which items are in flight after one has ended, and what a byte reads
after bytes are stored. -/

-- One theorem at a time: elaborated side by side, the theorems of the package take a thread each while they wait.
set_option Elab.async false

namespace Sys2Proof.Machine

/-! ### The end of an item -/

theorem State.adhocItemEnded_items (s : State) (id : Nat) (st : Status) : (s.adhocItemEnded id st).seq.items = s.seq.items :=
  (State.adhocItemEnded_only s id st).seq_items

/-- The items in flight after an item has ended: the others, in their order. -/
theorem State.items_endItem (s : State) (id : Nat) (st : Status) (sector : Nat) :
    (s.endItem id st sector).seq.items = s.seq.items.filter fun it => it.id ≠ id := by
  unfold State.endItem
  split
  · rename_i h
    rw [List.filter_eq_self.2]
    intro it hit
    have := List.find?_eq_none.1 h it hit
    simpa using this
  · rename_i it h
    extract_lets s0 s1 q2 q3 q4 s2 s3 s4 s5
    have e0 : s0.seq.items = s.seq.items := by
      unfold s0
      split
      · exact (State.retract_only _ _).seq_items
      · rfl
    have e1 : s1.seq.items = s0.seq.items := by
      unfold s1
      split
      · exact (State.rampTo_only _ _).seq_items
      · rfl
    have e2 : s2.seq.items = s.seq.items.filter fun it => it.id ≠ id := by rw [← e0, ← e1]
    have e3 : s3.seq.items = s2.seq.items := by
      unfold s3
      rw [(State.sweepDoomed_only _).seq_items, (State.unpinDelivered_only _ _).seq_items, (State.dropDecRec_only _ _).seq_items,
        (State.ppeRelease_only _ _).seq_items, (State.freeHolder_only _ _).seq_items]
    have e4 : s4.seq.items = s3.seq.items := by
      unfold s4
      split
      · exact (State.postTokens_only _ _).seq_items
      · split
        · exact (State.count_only (B := 1202453802380202612679414065556140558016349465041059773802132977424491020858679523053413887173001575952350707711) (P := 0) _ _ _ _ (by decide)).seq_items
        · rfl
    have e5 : s5.seq.items = s4.seq.items := (State.record_only _ _ _ _).seq_items
    rw [← e2, ← e3, ← e4, ← e5]
    split
    · rw [(State.syncTrack_only _ _).seq_items, (State.adhocItemEnded_only _ _ _).seq_items]
    · rw [(State.syncTrack_only _ _).seq_items, (State.moveTrack_only _ _ _).seq_items, (State.noteCollFail_only _ _ _).seq_items]

/-- An ended item is in flight no longer. -/
theorem State.item_endItem (s : State) (id : Nat) (st : Status) (sector : Nat) : (s.endItem id st sector).item id = none := by
  unfold State.item
  rw [State.items_endItem, List.find?_eq_none]
  intro it hit
  have := (List.mem_filter.1 hit).2
  simpa using this

/-- Every other item stays as it was. -/
theorem State.item_endItem_ne (s : State) (id : Nat) (st : Status) (sector : Nat) {j : Nat} (hj : j ≠ id) :
    (s.endItem id st sector).item j = s.item j := by
  unfold State.item
  rw [State.items_endItem, List.find?_filter]
  congr 1
  funext it
  by_cases h : it.id = j
  · simp [h, hj]
  · simp [h]

/-- What an item that reached its commit point leaves in flight. -/
theorem State.items_commitItem (s : State) (id sector : Nat) :
    (s.commitItem id sector).seq.items = s.seq.items.filter fun it => it.id ≠ id := by
  unfold State.commitItem
  split
  · rename_i h
    rw [List.filter_eq_self.2]
    intro it hit
    have := List.find?_eq_none.1 h it hit
    simpa using this
  · exact State.items_endItem _ _ _ _

theorem State.item_commitItem (s : State) (id sector : Nat) : (s.commitItem id sector).item id = none := by
  unfold State.item
  rw [State.items_commitItem, List.find?_eq_none]
  intro it hit
  have := (List.mem_filter.1 hit).2
  simpa using this

/-! ### Memory -/

theorem tget_cellsWrite {m : List Host.Cell} (h : memWf m = true) (bs : List Byte) (k j : Nat) :
    tget unlistedByte (cellsWrite m k bs) j =
      if k ≤ j ∧ j < k + bs.length then bs.getD (j - k) 0 else tget unlistedByte m j := by
  induction bs generalizing m k with
  | nil =>
    rw [if_neg (by simp only [List.length_nil]; omega)]
    rfl
  | cons b bs ih =>
    rw [cellsWrite, ih (tabWf_tset h), tget_tset h]
    by_cases hj : j = k
    · subst hj
      simp
    · by_cases h2 : k + 1 ≤ j ∧ j < k + 1 + bs.length
      · obtain ⟨i, rfl⟩ : ∃ i, j = k + 1 + i := ⟨j - (k + 1), by omega⟩
        rw [if_pos h2, if_pos (by simp; omega)]
        have e : k + 1 + i - k = i + 1 := by omega
        rw [e, List.getD_cons_succ, Nat.add_sub_cancel_left]
      · rw [if_neg h2, if_neg hj, if_neg (by simp; omega)]

/-- A byte read after bytes are stored: the stored byte inside the range, what was there outside it. -/
theorem State.rdByte_wrBytes {s : State} (h : s.Canon) (tier addr : Nat) (bs : List Byte) (t a : Nat) :
    (s.wrBytes tier addr bs).rdByte t a =
      if memKey tier addr ≤ memKey t a ∧ memKey t a < memKey tier addr + bs.length
      then bs.getD (memKey t a - memKey tier addr) 0 else s.rdByte t a :=
  tget_cellsWrite h.2 bs (memKey tier addr) (memKey t a)

/-- Every memory operation is made of stores of bytes, and a store keeps the canonical form. -/
theorem State.canon_wrBytes {s : State} (h : s.Canon) (tier addr : Nat) (bs : List Byte) : (s.wrBytes tier addr bs).Canon :=
  (State.wrBytes_only s tier addr bs).canon h

end Sys2Proof.Machine
end

