-- ==== Sys2Proof/Laws/OnlyEngines.lean ====
section
/-! SUPPORT. What each operation changes and what it leaves as it is: the engines, the transfers, the fabric and the sequencer. One lemma per operation, stated with
the relation of Laws/Only.lean. -/

-- One theorem at a time: elaborated side by side, the theorems of the package take a thread each while they wait.
set_option Elab.async false

namespace Sys2Proof.Machine

/-! ### Array -/

theorem State.helpDone_only (s : State) (id : Nat) :
    Only 0 8388608 s (State.helpDone s id) := by
  unfold State.helpDone
  refine Only.up_arr ?_
  exact Only.refl _ _ _

theorem State.setMemEntry_only (s : State) (d : Desc) (e : Nat) (a : Entry) :
    Only 0 108374621433043615744 s (State.setMemEntry s d e a) := by
  unfold State.setMemEntry
  refine Only.step ?_ (State.wrBytes_only ..)
  exact Only.refl _ _ _

theorem State.makeFolds_only (s : State) (d : Desc) (fs : List PpeFold) :
    Only 0 108374621433043615744 s (State.makeFolds s d fs) := by
  unfold State.makeFolds
  refine Only.foldl ?_ ?_
  · exact Only.refl _ _ _
  · intro u0 u1 h2
    extract_lets +onlyGivenNames v3
    clear_value v3
    refine Only.step ?_ (State.setMemEntry_only ..)
    exact h2

theorem State.commitArray_only (s : State) (it : Item) (h : OpHdr) (codes : List Nat) (sector : Nat) :
    Only 68351748112347229395527596073404575714420242181980479848332668920927581994955645746794253017588768 187072209578355574179108765961316189696554580547720 s (State.commitArray s it h codes sector) := by
  unfold State.commitArray
  extract_lets +onlyGivenNames v0
  clear_value v0
  extract_lets +onlyGivenNames v1
  clear_value v1
  extract_lets +onlyGivenNames v2
  have h3 : Only 68351748112347229395527596073404575714420242181980479848332668920927581994955645746794253017588768 187072209578355574179108765961316189696554580547720 s v2 := by
    unfold v2
    refine Only.ite ?_ ?_
    · refine Only.step ?_ (State.degrade_only ..)
      exact Only.refl _ _ _
    · exact Only.refl _ _ _
  obtain ⟨w4, e5⟩ : ∃ x, x = v2 := ⟨_, rfl⟩
  rw [← e5] at h3 ⊢
  clear e5 v2
  extract_lets +onlyGivenNames v6
  have h7 : Only 68351748112347229395527596073404575714420242181980479848332668920927581994955645746794253017588768 187072209578355574179108765961316189696554580547720 s v6 := by
    unfold v6
    refine Only.ite ?_ ?_
    · refine Only.trans ?_ (State.eventIf_only _ _ _ _ (by decide))
      refine Only.trans ?_ (State.count_only _ _ _ _ (by decide))
      refine Only.step ?_ (State.wrBytes_only ..)
      exact h3
    · exact h3
  obtain ⟨w8, e9⟩ : ∃ x, x = v6 := ⟨_, rfl⟩
  rw [← e9] at h7 ⊢
  clear e9 v6
  refine Only.step ?_ (State.commitItem_only ..)
  exact h7

theorem State.settleProject_only (s : State) (it : Item) (sector : Nat) :
    Only 68351748112347229395527596073404575714420242181980479848332668920927581994955645746794253017588768 187072209578355574179108765961316189696554580547720 s (State.settleProject s it sector) := by
  unfold State.settleProject
  extract_lets +onlyGivenNames v0
  clear_value v0
  refine Only.ite ?_ ?_
  · refine Only.step ?_ (State.commitArray_only ..)
    exact Only.refl _ _ _
  · refine Only.ite ?_ ?_
    · refine Only.step ?_ (State.commitArray_only ..)
      exact Only.refl _ _ _
    · refine Only.step ?_ (State.updItem_only ..)
      exact Only.refl _ _ _

theorem State.settleHeld_only (s : State) (it : Item) (sector : Nat) :
    Only 68351748112347229395527596073404575714420242181980479848332668920927581994955645746794253017588768 187072209578355574179108765961316189696554580547720 s (State.settleHeld s it sector) := by
  unfold State.settleHeld
  extract_lets +onlyGivenNames v0
  clear_value v0
  extract_lets +onlyGivenNames v1
  have h2 : Only 68351748112347229395527596073404575714420242181980479848332668920927581994955645746794253017588768 187072209578355574179108765961316189696554580547720 s v1 := by
    unfold v1
    refine Only.step ?_ (State.makeFolds_only ..)
    exact Only.refl _ _ _
  obtain ⟨w3, e4⟩ : ∃ x, x = v1 := ⟨_, rfl⟩
  rw [← e4] at h2 ⊢
  clear e4 v1
  refine Only.ite ?_ ?_
  · refine Only.step ?_ (State.settleProject_only ..)
    exact h2
  · refine Only.step ?_ (State.updItem_only ..)
    exact Only.refl _ _ _

theorem State.commitOrtho_only (s : State) (it : Item) (sector : Nat) :
    Only 68351748112347229395527596073404575714420242181980479848332668920927581994955645746794321737065504 187072209578355574179108765961316189696554580547720 s (State.commitOrtho s it sector) := by
  unfold State.commitOrtho
  extract_lets +onlyGivenNames v0
  clear_value v0
  extract_lets +onlyGivenNames v1
  clear_value v1
  refine Only.step ?_ (State.commitArray_only ..)
  refine Only.trans ?_ (State.eventIf_only _ _ _ _ (by decide))
  refine Only.trans ?_ (State.count_only _ _ _ _ (by decide))
  exact Only.refl _ _ _

theorem State.mismatchArray_only (s : State) (it : Item) (sector : Nat) (phase : Nat) :
    Only 5039435014843341627735855609498964117564205362548291022871119537437658273529264939612374496281760923680 373845373814507900543001979561181312 s (State.mismatchArray s it sector phase) := by
  unfold State.mismatchArray
  extract_lets +onlyGivenNames v0
  clear_value v0
  extract_lets +onlyGivenNames v1
  clear_value v1
  extract_lets +onlyGivenNames v2
  have h3 : Only 5039435014843341627735855609498964117564205362548291022871119537437658273529264939612374496281760923680 373845373814507900543001979561181312 s v2 := by
    unfold v2
    refine Only.trans ?_ (State.count_only _ _ _ _ (by decide))
    refine Only.step ?_ (State.chargeMismatch_only ..)
    exact Only.refl _ _ _
  obtain ⟨w4, e5⟩ : ∃ x, x = v2 := ⟨_, rfl⟩
  rw [← e5] at h3 ⊢
  clear e5 v2
  extract_lets +onlyGivenNames v6
  clear_value v6
  refine Only.step ?_ (State.updItem_only ..)
  refine Only.up_arr ?_
  exact h3

theorem State.foldTiles_only (s : State) (d : Desc) (ts : List (Nat × Val)) :
    Only 0 108374621433043615744 s (State.foldTiles s d ts) := by
  unfold State.foldTiles
  refine Only.foldl ?_ ?_
  · exact Only.refl _ _ _
  · intro u0 u1 h2
    refine Only.step ?_ (State.setMemEntry_only ..)
    exact h2

theorem State.foldPiece_only (s : State) (it : Item) (sector : Nat) :
    Only 68351748112347229395527596073404575714420242181980479848332668920927581994955645746794253017588768 187072209578355574179108765961316189696554580547720 s (State.foldPiece s it sector) := by
  unfold State.foldPiece
  extract_lets +onlyGivenNames v0
  clear_value v0
  refine Only.step ?_ (State.settleProject_only ..)
  refine Only.step ?_ (State.foldTiles_only ..)
  exact Only.refl _ _ _

theorem State.readOrtho_only (s : State) (it : Item) (fx : Fx) :
    Only 39440687358292657322901917594421494916304950279404867349636972544 128 s (State.readOrtho s it fx).2 := by
  unfold State.readOrtho
  extract_lets +onlyGivenNames v0
  clear_value v0
  extract_lets +onlyGivenNames v1
  have h2 : Only 39440687358292657322901917594421494916304950279404867349636972544 128 s v1.2 := by
    unfold v1
    refine Only.step ?_ (State.readSrc_only ..)
    exact Only.refl _ _ _
  obtain ⟨w3, e4⟩ : ∃ x, x = v1 := ⟨_, rfl⟩
  rw [← e4] at h2 ⊢
  clear e4 v1
  refine Only.step ?_ (State.readAlso_only ..)
  exact h2

theorem execOrtho_only (id : Nat) (fx : Fx) (s : State) :
    Keeps (execOrtho id fx s) (Only 5039503366591453974965251137095037522179360470148765660673869787701000696027564845537526157952061187104 187072209578355948024482580469200591797469637482632 s) := by
  unfold execOrtho
  split
  · rename_i a0 a1
    refine Keeps.next ?_
    exact Only.refl _ _ _
  · rename_i a2 a3 a4
    refine Keeps.ite ?_ ?_
    · refine Keeps.next ?_
      exact Only.refl _ _ _
    · extract_lets +onlyGivenNames v5
      clear_value v5
      extract_lets +onlyGivenNames v6
      clear_value v6
      extract_lets +onlyGivenNames v7
      clear_value v7
      refine State.within_only ?_
      split
      · rename_i a8 a9 a10
        have h11 : Only 5039503366591453974965251137095037522179360470148765660673869787701000696027564845537526157952061187104 187072209578355948024482580469200591797469637482632 s a9 := by
          refine Only.of_snd a10 ?_
          refine Only.step ?_ (State.readOrtho_only ..)
          exact Only.refl _ _ _
        refine Only.step ?_ (State.endItem_only ..)
        exact h11
      · rename_i a12 a13 a14 a15 a16
        have h17 : Only 5039503366591453974965251137095037522179360470148765660673869787701000696027564845537526157952061187104 187072209578355948024482580469200591797469637482632 s a14 := by
          refine Only.of_snd a16 ?_
          refine Only.step ?_ (State.readOrtho_only ..)
          exact Only.refl _ _ _
        refine Only.ite ?_ ?_
        · refine Only.step ?_ (State.mismatchArray_only ..)
          exact h17
        · refine Only.step ?_ (State.commitOrtho_only ..)
          exact h17

theorem State.readOps_only (s : State) (it : Item) (fx : Fx) :
    Only 39440687358292657322901917594421494916304950279404867349636972544 128 s (State.readOps s it fx).2 := by
  unfold State.readOps
  extract_lets +onlyGivenNames v0
  clear_value v0
  extract_lets +onlyGivenNames v1
  have h2 : Only 39440687358292657322901917594421494916304950279404867349636972544 128 s v1.2 := by
    unfold v1
    refine Only.step ?_ (State.readSrc_only ..)
    exact Only.refl _ _ _
  obtain ⟨w3, e4⟩ : ∃ x, x = v1 := ⟨_, rfl⟩
  rw [← e4] at h2 ⊢
  clear e4 v1
  refine Only.step ?_ (State.readAlso_only ..)
  exact h2

theorem State.runProject_only (s : State) (it : Item) (fx : Fx) :
    Only 5039503366591453974965251137095037522179360470148765660673869787701000696027564845537526157883341710368 187072209578355948024482580469200591797469637482632 s (State.runProject s it fx) := by
  unfold State.runProject
  refine Only.ite ?_ ?_
  · split
    · rename_i a0 a1 a2
      have h3 : Only 5039503366591453974965251137095037522179360470148765660673869787701000696027564845537526157883341710368 187072209578355948024482580469200591797469637482632 s a1 := by
        refine Only.of_snd a2 ?_
        refine Only.step ?_ (State.readOps_only ..)
        exact Only.refl _ _ _
      refine Only.step ?_ (State.endItem_only ..)
      exact h3
    · rename_i a4 a5 a6 a7 a8
      have h9 : Only 5039503366591453974965251137095037522179360470148765660673869787701000696027564845537526157883341710368 187072209578355948024482580469200591797469637482632 s a6 := by
        refine Only.of_snd a8 ?_
        refine Only.step ?_ (State.readOps_only ..)
        exact Only.refl _ _ _
      refine Only.ite ?_ ?_
      · refine Only.step ?_ (State.mismatchArray_only ..)
        exact h9
      · refine Only.step ?_ (State.foldPiece_only ..)
        exact h9
  · refine Only.ite ?_ ?_
    · refine Only.ite ?_ ?_
      · refine Only.step ?_ (State.mismatchArray_only ..)
        exact Only.refl _ _ _
      · refine Only.step ?_ (State.settleHeld_only ..)
        exact Only.refl _ _ _
    · exact Only.refl _ _ _

theorem execProject_only (id : Nat) (fx : Fx) (s : State) :
    Keeps (execProject id fx s) (Only 5039503366591453974965251137095037522179360470148765660673869787701000696027564845537526157883341710368 187072209578355948024482580469200591797469637482632 s) := by
  unfold execProject
  split
  · rename_i a0 a1
    refine Keeps.next ?_
    exact Only.refl _ _ _
  · rename_i a2 a3 a4
    refine Keeps.ite ?_ ?_
    · refine Keeps.next ?_
      exact Only.refl _ _ _
    · refine State.within_only ?_
      refine Only.step ?_ (State.runProject_only ..)
      exact Only.refl _ _ _

theorem State.freeShadows_only (s : State) (ds : List Desc) :
    Only 0 73786976294838206464 s (State.freeShadows s ds) := by
  unfold State.freeShadows
  extract_lets +onlyGivenNames v0
  clear_value v0
  extract_lets +onlyGivenNames v1
  clear_value v1
  refine Only.up_mem ?_
  exact Only.refl _ _ _

theorem State.noteContribution_only (s : State) (it : Item) :
    Only 0 524288 s (State.noteContribution s it) := by
  unfold State.noteContribution
  refine Only.up_arr ?_
  exact Only.refl _ _ _

theorem State.commitReduce_only (s : State) (it : Item) (sector : Nat) :
    Only 68351748112347229395527596073404575714420242181980479848332668920927581994955645746794253017588768 187072209578355574179108765961316549984524770973832 s (State.commitReduce s it sector) := by
  unfold State.commitReduce
  extract_lets +onlyGivenNames v0
  clear_value v0
  extract_lets +onlyGivenNames v1
  have h2 : Only 68351748112347229395527596073404575714420242181980479848332668920927581994955645746794253017588768 187072209578355574179108765961316549984524770973832 s v1 := by
    unfold v1
    refine Only.ite ?_ ?_
    · refine Only.step ?_ (State.degrade_only ..)
      exact Only.refl _ _ _
    · exact Only.refl _ _ _
  obtain ⟨w3, e4⟩ : ∃ x, x = v1 := ⟨_, rfl⟩
  rw [← e4] at h2 ⊢
  clear e4 v1
  refine Only.ite ?_ ?_
  · extract_lets +onlyGivenNames v5
    clear_value v5
    extract_lets +onlyGivenNames v6
    clear_value v6
    extract_lets +onlyGivenNames v7
    clear_value v7
    extract_lets +onlyGivenNames v8
    have h9 : Only 68351748112347229395527596073404575714420242181980479848332668920927581994955645746794253017588768 187072209578355574179108765961316549984524770973832 s v8 := by
      unfold v8
      refine Only.step ?_ (State.wrBytes_only ..)
      exact h2
    obtain ⟨w10, e11⟩ : ∃ x, x = v8 := ⟨_, rfl⟩
    rw [← e11] at h9 ⊢
    clear e11 v8
    extract_lets +onlyGivenNames v12
    clear_value v12
    extract_lets +onlyGivenNames v13
    have h14 : Only 68351748112347229395527596073404575714420242181980479848332668920927581994955645746794253017588768 187072209578355574179108765961316549984524770973832 s v13 := by
      unfold v13
      refine Only.trans ?_ (State.eventIf_only _ _ _ _ (by decide))
      refine Only.trans ?_ (State.count_only _ _ _ _ (by decide))
      exact h9
    obtain ⟨w15, e16⟩ : ∃ x, x = v13 := ⟨_, rfl⟩
    rw [← e16] at h14 ⊢
    clear e16 v13
    extract_lets +onlyGivenNames v17
    clear_value v17
    extract_lets +onlyGivenNames v18
    have h19 : Only 68351748112347229395527596073404575714420242181980479848332668920927581994955645746794253017588768 187072209578355574179108765961316549984524770973832 s v18 := by
      unfold v18
      refine Only.ite ?_ ?_
      · refine Only.step ?_ (State.noteResult_only ..)
        exact h14
      · refine Only.step ?_ (State.noteSiteSum_only ..)
        exact h14
    obtain ⟨w20, e21⟩ : ∃ x, x = v18 := ⟨_, rfl⟩
    rw [← e21] at h19 ⊢
    clear e21 v18
    extract_lets +onlyGivenNames v22
    have h23 : Only 68351748112347229395527596073404575714420242181980479848332668920927581994955645746794253017588768 187072209578355574179108765961316549984524770973832 s v22 := by
      unfold v22
      refine Only.step ?_ (State.commitItem_only ..)
      refine Only.step ?_ (State.freeShadows_only ..)
      exact h19
    obtain ⟨w24, e25⟩ : ∃ x, x = v22 := ⟨_, rfl⟩
    rw [← e25] at h23 ⊢
    clear e25 v22
    refine Only.up_arr ?_
    exact h23
  · refine Only.step ?_ (State.commitItem_only ..)
    refine Only.step ?_ (State.noteContribution_only ..)
    exact h2

theorem State.settleReduce_only (s : State) (it : Item) (sector : Nat) :
    Only 68351748112347229395527596073404575714420242181980479848332668920927581994955645746794253017588768 187072209578355574179108765961316549984524770973832 s (State.settleReduce s it sector) := by
  unfold State.settleReduce
  refine Only.ite ?_ ?_
  · refine Only.step ?_ (State.commitReduce_only ..)
    exact Only.refl _ _ _
  · refine Only.step ?_ (State.updItem_only ..)
    exact Only.refl _ _ _

theorem State.addReduce_only (s : State) (it : Item) (fx : Fx) :
    Only 1126355173376 360448 s (State.addReduce s it fx) := by
  unfold State.addReduce
  extract_lets +onlyGivenNames v0
  clear_value v0
  extract_lets +onlyGivenNames v1
  clear_value v1
  extract_lets +onlyGivenNames v2
  clear_value v2
  extract_lets +onlyGivenNames v3
  unfold v3
  clear v3
  extract_lets +onlyGivenNames v4
  have h5 : Only 1126355173376 360448 s v4 := by
    unfold v4
    refine Only.ite ?_ ?_
    · refine Only.up_arr ?_
      exact Only.refl _ _ _
    · exact Only.refl _ _ _
  obtain ⟨w6, e7⟩ : ∃ x, x = v4 := ⟨_, rfl⟩
  rw [← e7] at h5 ⊢
  clear e7 v4
  extract_lets +onlyGivenNames v8
  clear_value v8
  extract_lets +onlyGivenNames v9
  clear_value v9
  extract_lets +onlyGivenNames v10
  clear_value v10
  extract_lets +onlyGivenNames v11
  clear_value v11
  extract_lets +onlyGivenNames v12
  clear_value v12
  extract_lets +onlyGivenNames v13
  clear_value v13
  extract_lets +onlyGivenNames v14
  unfold v14
  clear v14
  extract_lets +onlyGivenNames v15
  have h16 : Only 1126355173376 360448 s v15 := by
    unfold v15
    refine Only.up_arr ?_
    exact h5
  obtain ⟨w17, e18⟩ : ∃ x, x = v15 := ⟨_, rfl⟩
  rw [← e18] at h16 ⊢
  clear e18 v15
  extract_lets +onlyGivenNames v19
  have h20 : Only 1126355173376 360448 s v19 := by
    unfold v19
    refine Only.trans ?_ (State.eventIf_only _ _ _ _ (by decide))
    refine Only.trans ?_ (State.count_only _ _ _ _ (by decide))
    refine Only.trans ?_ (State.count_only _ _ _ _ (by decide))
    exact h16
  obtain ⟨w21, e22⟩ : ∃ x, x = v19 := ⟨_, rfl⟩
  rw [← e22] at h20 ⊢
  clear e22 v19
  extract_lets +onlyGivenNames v23
  have h24 : Only 1126355173376 360448 s v23 := by
    unfold v23
    refine Only.step ?_ (State.laneOps_only ..)
    exact h20
  obtain ⟨w25, e26⟩ : ∃ x, x = v23 := ⟨_, rfl⟩
  rw [← e26] at h24 ⊢
  clear e26 v23
  refine Only.ite ?_ ?_
  · exact h24
  · refine Only.step ?_ (State.laneOps_only ..)
    exact h24

theorem State.mismatchReduce_only (s : State) (it : Item) (fx : Fx) :
    Only 5039435014843341627735855609498964117564205362548291022871119537437658273529264939612374496281760923680 373845373814507900543001979561181312 s (State.mismatchReduce s it fx) := by
  unfold State.mismatchReduce
  extract_lets +onlyGivenNames v0
  clear_value v0
  extract_lets +onlyGivenNames v1
  have h2 : Only 5039435014843341627735855609498964117564205362548291022871119537437658273529264939612374496281760923680 373845373814507900543001979561181312 s v1 := by
    unfold v1
    refine Only.trans ?_ (State.count_only _ _ _ _ (by decide))
    refine Only.step ?_ (State.chargeMismatch_only ..)
    exact Only.refl _ _ _
  obtain ⟨w3, e4⟩ : ∃ x, x = v1 := ⟨_, rfl⟩
  rw [← e4] at h2 ⊢
  clear e4 v1
  extract_lets +onlyGivenNames v5
  clear_value v5
  extract_lets +onlyGivenNames v6
  have h7 : Only 5039435014843341627735855609498964117564205362548291022871119537437658273529264939612374496281760923680 373845373814507900543001979561181312 s v6 := by
    unfold v6
    refine Only.step ?_ (State.updItem_only ..)
    exact h2
  obtain ⟨w8, e9⟩ : ∃ x, x = v6 := ⟨_, rfl⟩
  rw [← e9] at h7 ⊢
  clear e9 v6
  extract_lets +onlyGivenNames v10
  clear_value v10
  extract_lets +onlyGivenNames v11
  clear_value v11
  refine Only.up_seq_arr ?_
  exact h7

theorem State.runReduce_only (s : State) (it : Item) (fx : Fx) :
    Only 5039503366591453974965251137095037522179360470148765660673869787701000696027564845537526157909111514144 187072209578355948024482580469200952085439827646600 s (State.runReduce s it fx) := by
  unfold State.runReduce
  refine Only.ite ?_ ?_
  · exact Only.refl _ _ _
  · refine Only.ite ?_ ?_
    · refine Only.step ?_ (State.settleReduce_only ..)
      refine Only.step ?_ (State.updItem_only ..)
      exact Only.refl _ _ _
    · refine Only.ite ?_ ?_
      · split
        · rename_i a0 a1 a2
          have h3 : Only 5039503366591453974965251137095037522179360470148765660673869787701000696027564845537526157909111514144 187072209578355948024482580469200952085439827646600 s a1 := by
            refine Only.of_snd a2 ?_
            refine Only.step ?_ (State.readSrc_only ..)
            exact Only.refl _ _ _
          refine Only.step ?_ (State.endItem_only ..)
          exact h3
        · rename_i a4 a5 a6 a7 a8
          have h9 : Only 5039503366591453974965251137095037522179360470148765660673869787701000696027564845537526157909111514144 187072209578355948024482580469200952085439827646600 s a6 := by
            refine Only.of_snd a8 ?_
            refine Only.step ?_ (State.readSrc_only ..)
            exact Only.refl _ _ _
          extract_lets +onlyGivenNames v10
          have h11 : Only 5039503366591453974965251137095037522179360470148765660673869787701000696027564845537526157909111514144 187072209578355948024482580469200952085439827646600 s v10 := by
            unfold v10
            refine Only.step ?_ (State.updItem_only ..)
            refine Only.step ?_ (State.addReduce_only ..)
            exact h9
          obtain ⟨w12, e13⟩ : ∃ x, x = v10 := ⟨_, rfl⟩
          rw [← e13] at h11 ⊢
          clear e13 v10
          refine Only.ite ?_ ?_
          · refine Only.step ?_ (State.mismatchReduce_only ..)
            exact h11
          · refine Only.step ?_ (State.settleReduce_only ..)
            exact h11
      · refine Only.ite ?_ ?_
        · refine Only.ite ?_ ?_
          · refine Only.step ?_ (State.mismatchReduce_only ..)
            exact Only.refl _ _ _
          · refine Only.step ?_ (State.commitReduce_only ..)
            exact Only.refl _ _ _
        · exact Only.refl _ _ _

theorem execReduce_only (id : Nat) (fx : Fx) (s : State) :
    Keeps (execReduce id fx s) (Only 5039503366591453974965251137095037522179360470148765660673869787701000696027564845537526157909111514144 187072209578355948024482580469200952085439827646600 s) := by
  unfold execReduce
  split
  · rename_i a0 a1
    refine Keeps.next ?_
    exact Only.refl _ _ _
  · rename_i a2 a3 a4
    refine State.within_only ?_
    refine Only.step ?_ (State.runReduce_only ..)
    exact Only.refl _ _ _

theorem State.rehomeChunk_only (s : State) (stream : Nat) (sector : Nat) :
    Only 53028955460546679092884749047258365883232698794832163564945408 627189298506125017088 s (State.rehomeChunk s stream sector) := by
  unfold State.rehomeChunk
  extract_lets +onlyGivenNames v0
  clear_value v0
  extract_lets +onlyGivenNames v1
  have h2 : ∀ a0 a1, Only 53028955460546679092884749047258365883232698794832163564945408 627189298506125017088 s a0 → Only 53028955460546679092884749047258365883232698794832163564945408 627189298506125017088 s (v1 a0 a1) := by
    intro a0 a1 h30
    unfold v1
    split
    · rename_i a4 a5 a6
      refine Only.ite ?_ ?_
      · refine Only.step ?_ (State.remirrorPage_only ..)
        refine Only.step ?_ (State.setPage_only ..)
        exact h30
      · exact h30
    · rename_i a7 a8
      exact h30
  clear_value v1
  extract_lets +onlyGivenNames v9
  clear_value v9
  extract_lets +onlyGivenNames v10
  have h11 : Only 53028955460546679092884749047258365883232698794832163564945408 627189298506125017088 s v10 := by
    unfold v10
    refine Only.foldl ?_ ?_
    · exact Only.refl _ _ _
    · intro u12 u13 h14
      apply h2
      exact h14
  obtain ⟨w15, e16⟩ : ∃ x, x = v10 := ⟨_, rfl⟩
  rw [← e16] at h11 ⊢
  clear e16 v10
  extract_lets +onlyGivenNames v17
  clear_value v17
  refine Only.up_arr ?_
  exact h11

theorem State.rebuildAcc_only (s : State) (stream : Nat) :
    Only 0 32768 s (State.rebuildAcc s stream) := by
  unfold State.rebuildAcc
  extract_lets +onlyGivenNames v0
  clear_value v0
  extract_lets +onlyGivenNames v1
  clear_value v1
  refine Only.up_arr ?_
  exact Only.refl _ _ _

theorem execReduceRebuildDone_only (id : Nat) (sector : Nat) (again : Bool) (s : State) :
    Keeps (execReduceRebuildDone id sector again s) (Only 5039503366591453974965251137095037522139971204807889291039785212893534118314540605753922339900139414560 187072209578355948024482580469828141383945952401544 s) := by
  unfold execReduceRebuildDone
  split
  · rename_i a0 a1
    refine Keeps.next ?_
    exact Only.refl _ _ _
  · rename_i a2 a3 a4
    refine Keeps.ite ?_ ?_
    · refine Keeps.next ?_
      exact Only.refl _ _ _
    · extract_lets +onlyGivenNames v5
      have h6 : Only 5039503366591453974965251137095037522139971204807889291039785212893534118314540605753922339900139414560 187072209578355948024482580469828141383945952401544 s v5 := by
        unfold v5
        refine Only.step ?_ (State.updItem_only ..)
        refine Only.step ?_ (State.helpDone_only ..)
        exact Only.refl _ _ _
      obtain ⟨w7, e8⟩ : ∃ x, x = v5 := ⟨_, rfl⟩
      rw [← e8] at h6 ⊢
      clear e8 v5
      refine Keeps.ite ?_ ?_
      · refine Keeps.next ?_
        refine Only.step ?_ (State.endItem_only ..)
        refine Only.trans ?_ (State.event_only _ _ _ (by decide))
        refine Only.step ?_ (State.chargeMismatch_only ..)
        exact h6
      · refine State.within_only ?_
        refine Only.step ?_ (State.settleReduce_only ..)
        refine Only.step ?_ (State.rehomeChunk_only ..)
        refine Only.step ?_ (State.rebuildAcc_only ..)
        exact h6

/-! ### Ppe -/

theorem State.askQuickCal_only (s : State) :
    Only 72057594037927936 824767938560 s (State.askQuickCal s) := by
  unfold State.askQuickCal
  refine Only.ite ?_ ?_
  · exact Only.refl _ _ _
  · extract_lets +onlyGivenNames v0
    unfold v0
    clear v0
    extract_lets +onlyGivenNames v1
    have h2 : Only 72057594037927936 824767938560 s v1 := by
      unfold v1
      refine Only.up_ppe ?_
      exact Only.refl _ _ _
    obtain ⟨w3, e4⟩ : ∃ x, x = v1 := ⟨_, rfl⟩
    rw [← e4] at h2 ⊢
    clear e4 v1
    refine Only.ite ?_ ?_
    · exact h2
    · refine Only.step ?_ (State.ppeRest_only ..)
      exact h2

theorem State.askFullCal_only (s : State) :
    Only 648518346341351424 274877906944 s (State.askFullCal s) := by
  unfold State.askFullCal
  refine Only.ite ?_ ?_
  · refine Only.trans ?_ (State.setf_only _ _ _ _ (by decide))
    exact Only.refl _ _ _
  · refine Only.trans ?_ (State.setf_only _ _ _ _ (by decide))
    refine Only.up_ppe ?_
    exact Only.refl _ _ _

theorem State.bandDone_only (s : State) (it : Item) (fs : List PpeFold) (sector : Nat) :
    Only 68351748112347229395527596073404575714420242181980479848332668920927581994955654970166289872364576 187072209578355574179108765961316189696554647656584 s (State.bandDone s it fs sector) := by
  unfold State.bandDone
  extract_lets +onlyGivenNames v0
  unfold v0
  clear v0
  extract_lets +onlyGivenNames v1
  have h2 : Only 68351748112347229395527596073404575714420242181980479848332668920927581994955654970166289872364576 187072209578355574179108765961316189696554647656584 s v1 := by
    unfold v1
    refine Only.step ?_ (State.ppeRest_only ..)
    refine Only.trans ?_ (State.count_only _ _ _ _ (by decide))
    refine Only.up_ppe ?_
    exact Only.refl _ _ _
  obtain ⟨w3, e4⟩ : ∃ x, x = v1 := ⟨_, rfl⟩
  rw [← e4] at h2 ⊢
  clear e4 v1
  refine Only.ite ?_ ?_
  · exact h2
  · extract_lets +onlyGivenNames v5
    unfold v5
    clear v5
    extract_lets +onlyGivenNames v6
    have h7 : Only 68351748112347229395527596073404575714420242181980479848332668920927581994955654970166289872364576 187072209578355574179108765961316189696554647656584 s v6 := by
      unfold v6
      refine Only.up_ppe ?_
      exact h2
    obtain ⟨w8, e9⟩ : ∃ x, x = v6 := ⟨_, rfl⟩
    rw [← e9] at h7 ⊢
    clear e9 v6
    refine Only.step ?_ (State.settleHeld_only ..)
    exact h7

theorem State.bandOnArray_only (s : State) (it : Item) (fx : Fx) :
    Only 5039503366591453974965251137095037522139919782790473003350967870106579201111259895345743324883825108000 187072209578355948024482580469200591797469704591496 s (State.bandOnArray s it fx) := by
  unfold State.bandOnArray
  extract_lets +onlyGivenNames v0
  clear_value v0
  extract_lets +onlyGivenNames v1
  clear_value v1
  extract_lets +onlyGivenNames v2
  have h3 : Only 5039503366591453974965251137095037522139919782790473003350967870106579201111259895345743324883825108000 187072209578355948024482580469200591797469704591496 s v2 := by
    unfold v2
    refine Only.step ?_ (State.degrade_only ..)
    refine Only.trans ?_ (State.countEv_only _ _ _ _ (by decide) (by decide))
    exact Only.refl _ _ _
  obtain ⟨w4, e5⟩ : ∃ x, x = v2 := ⟨_, rfl⟩
  rw [← e5] at h3 ⊢
  clear e5 v2
  refine Only.ite ?_ ?_
  · refine Only.step ?_ (State.mismatchArray_only ..)
    refine Only.step ?_ (State.ppeRest_only ..)
    exact h3
  · refine Only.step ?_ (State.bandDone_only ..)
    exact h3

theorem State.ppeFinishBand_only (s : State) :
    Only 5039503366591453974965251137095037522139919782790473003350967870106579201111259895345743324883825108000 187072209578355948024482580469200591797469704591496 s (State.ppeFinishBand s) := by
  unfold State.ppeFinishBand
  split
  · rename_i a0 a1 a2
    refine Only.ite ?_ ?_
    · refine Only.step ?_ (State.bandOnArray_only ..)
      exact Only.refl _ _ _
    · exact Only.refl _ _ _
  · rename_i a3 a4
    exact Only.refl _ _ _

theorem State.ppeFinish_only (s : State) :
    Only 5039503366591453974965251137095037522139919782790473003350967870106579201111259895345743324883825108000 187072209578355948024482580469200591797469704591496 s (State.ppeFinish s) := by
  unfold State.ppeFinish
  split
  · rename_i a0 a1 a2
    refine Only.foldl ?_ ?_
    · exact Only.refl _ _ _
    · intro u3 u4 h5
      refine Only.step ?_ (State.ppeFinishBand_only ..)
      exact h5
  · rename_i a6 a7
    exact Only.refl _ _ _

theorem State.countClips_only (s : State) (n : Nat) :
    Only 152185638608103800832 0 s (State.countClips s n) := by
  unfold State.countClips
  refine Only.trans ?_ (State.eventIf_only _ _ _ _ (by decide))
  refine Only.trans ?_ (State.count_only _ _ _ _ (by decide))
  exact Only.refl _ _ _

theorem State.ppeTake_only (s : State) (it : Item) :
    Only 152257696202141728768 14881390592 s (State.ppeTake s it) := by
  unfold State.ppeTake
  extract_lets +onlyGivenNames v0
  clear_value v0
  extract_lets +onlyGivenNames v1
  clear_value v1
  extract_lets +onlyGivenNames v2
  clear_value v2
  extract_lets +onlyGivenNames v3
  clear_value v3
  refine Only.step ?_ (State.countClips_only ..)
  refine Only.trans ?_ (State.setf_only _ _ _ _ (by decide))
  refine Only.up_ppe ?_
  exact Only.refl _ _ _

theorem State.ppeHeaters_only (s : State) (rings : List (Nat × Int)) :
    Only 0 206158430208 s (State.ppeHeaters s rings) := by
  unfold State.ppeHeaters
  extract_lets +onlyGivenNames v0
  clear_value v0
  extract_lets +onlyGivenNames v1
  clear_value v1
  extract_lets +onlyGivenNames v2
  clear_value v2
  extract_lets +onlyGivenNames v3
  clear_value v3
  refine Only.up_ppe ?_
  exact Only.refl _ _ _

theorem State.noteLockErr_only (s : State) (ring : Nat) (err : Nat) :
    Only 0 34359738368 s (State.noteLockErr s ring err) := by
  unfold State.noteLockErr
  refine Only.up_ppe ?_
  exact Only.refl _ _ _

theorem State.integrate_only (s : State) (it : Item) :
    Only 189151184349560832000 1207959552 s (State.integrate s it) := by
  unfold State.integrate
  extract_lets +onlyGivenNames v0
  unfold v0
  clear v0
  extract_lets +onlyGivenNames v1
  have h2 : Only 189151184349560832000 1207959552 s v1 := by
    unfold v1
    refine Only.trans ?_ (State.setf_only _ _ _ _ (by decide))
    refine Only.up_ppe ?_
    exact Only.refl _ _ _
  obtain ⟨w3, e4⟩ : ∃ x, x = v1 := ⟨_, rfl⟩
  rw [← e4] at h2 ⊢
  clear e4 v1
  refine Only.ite ?_ ?_
  · refine Only.trans ?_ (State.count_only _ _ _ _ (by decide))
    exact h2
  · refine Only.step ?_ (State.countClips_only ..)
    exact h2

theorem State.ppeLock_only (s : State) :
    Only 189151184349560832000 18387828736 s (State.ppeLock s) := by
  unfold State.ppeLock
  extract_lets +onlyGivenNames v0
  unfold v0
  clear v0
  extract_lets +onlyGivenNames v1
  have h2 : Only 189151184349560832000 18387828736 s v1 := by
    unfold v1
    refine Only.trans ?_ (State.setf_only _ _ _ _ (by decide))
    refine Only.up_ppe ?_
    exact Only.refl _ _ _
  obtain ⟨w3, e4⟩ : ∃ x, x = v1 := ⟨_, rfl⟩
  rw [← e4] at h2 ⊢
  clear e4 v1
  split
  · rename_i a5 a6 a7
    refine Only.ite ?_ ?_
    · refine Only.step ?_ (State.integrate_only ..)
      exact h2
    · exact h2
  · rename_i a8 a9
    exact h2

theorem State.ppeUnlock_only (s : State) :
    Only 4683743612465315840 17314086912 s (State.ppeUnlock s) := by
  unfold State.ppeUnlock
  extract_lets +onlyGivenNames v0
  unfold v0
  clear v0
  extract_lets +onlyGivenNames v1
  have h2 : Only 4683743612465315840 17314086912 s v1 := by
    unfold v1
    refine Only.trans ?_ (State.setf_only _ _ _ _ (by decide))
    refine Only.up_ppe ?_
    exact Only.refl _ _ _
  obtain ⟨w3, e4⟩ : ∃ x, x = v1 := ⟨_, rfl⟩
  rw [← e4] at h2 ⊢
  clear e4 v1
  refine Only.ite ?_ ?_
  · refine Only.trans ?_ (State.event_only _ _ _ (by decide))
    refine Only.trans ?_ (State.setf_only _ _ _ _ (by decide))
    refine Only.up_ppe ?_
    exact h2
  · exact h2

theorem State.foldBand_only (s : State) (it : Item) (fx : Fx) :
    Only 5039503366591453974965251137095037522179360470148765660673869787701000696027564845680488424454590735392 187072209578355948024482580469200591797469704591500 s (State.foldBand s it fx) := by
  unfold State.foldBand
  split
  · rename_i a0 a1 a2
    have h3 : Only 5039503366591453974965251137095037522179360470148765660673869787701000696027564845680488424454590735392 187072209578355948024482580469200591797469704591500 s a1 := by
      refine Only.of_snd a2 ?_
      refine Only.step ?_ (State.readOps_only ..)
      exact Only.refl _ _ _
    refine Only.step ?_ (State.endItem_only ..)
    exact h3
  · rename_i a4 a5 a6 a7 a8
    have h9 : Only 5039503366591453974965251137095037522179360470148765660673869787701000696027564845680488424454590735392 187072209578355948024482580469200591797469704591500 s a6 := by
      refine Only.of_snd a8 ?_
      refine Only.step ?_ (State.readOps_only ..)
      exact Only.refl _ _ _
    extract_lets +onlyGivenNames v10
    clear_value v10
    extract_lets +onlyGivenNames v11
    clear_value v11
    extract_lets +onlyGivenNames v12
    have h13 : Only 5039503366591453974965251137095037522179360470148765660673869787701000696027564845680488424454590735392 187072209578355948024482580469200591797469704591500 s v12 := by
      unfold v12
      refine Only.up_free ?_
      exact h9
    obtain ⟨w14, e15⟩ : ∃ x, x = v12 := ⟨_, rfl⟩
    rw [← e15] at h13 ⊢
    clear e15 v12
    refine Only.ite ?_ ?_
    · extract_lets +onlyGivenNames v16
      have h17 : Only 5039503366591453974965251137095037522179360470148765660673869787701000696027564845680488424454590735392 187072209578355948024482580469200591797469704591500 s v16 := by
        unfold v16
        refine Only.trans ?_ (State.countEv_only _ _ _ _ (by decide) (by decide))
        exact h13
      obtain ⟨w18, e19⟩ : ∃ x, x = v16 := ⟨_, rfl⟩
      rw [← e19] at h17 ⊢
      clear e19 v16
      refine Only.ite ?_ ?_
      · refine Only.trans ?_ (State.count_only _ _ _ _ (by decide))
        refine Only.up_ppe ?_
        exact h17
      · refine Only.step ?_ (State.bandOnArray_only ..)
        exact h17
    · refine Only.step ?_ (State.bandDone_only ..)
      exact h13

theorem execPpeBandFold_only (id : Nat) (fx : Fx) (s : State) :
    Keeps (execPpeBandFold id fx s) (Only 5039503366591453974965251137095037522179360470148765660673869787701000696027564845680488424454590735392 187072209578355948024482580469200591797469704591500 s) := by
  unfold execPpeBandFold
  split
  · rename_i a0 a1
    refine Keeps.next ?_
    exact Only.refl _ _ _
  · rename_i a2 a3 a4
    refine Keeps.ite ?_ ?_
    · refine Keeps.next ?_
      exact Only.refl _ _ _
    · refine State.within_only ?_
      refine Only.step ?_ (State.foldBand_only ..)
      exact Only.refl _ _ _

theorem execPpeBandStart_only (id : Nat) (fx : Fx) (s : State) :
    Keeps (execPpeBandStart id fx s) (Only 5039503366591453974965251137095037522139919782790473003350967870106579201111259895530210765620920624160 187072209578355948024482580469200591797486884460680 s) := by
  unfold execPpeBandStart
  split
  · rename_i a0 a1
    refine Keeps.next ?_
    exact Only.refl _ _ _
  · rename_i a2 a3 a4
    extract_lets +onlyGivenNames v5
    clear_value v5
    refine Keeps.ite ?_ ?_
    · refine State.within_only ?_
      refine Only.step ?_ (State.bandOnArray_only ..)
      exact Only.refl _ _ _
    · refine Keeps.ite ?_ ?_
      · refine Keeps.next ?_
        exact Only.refl _ _ _
      · refine Keeps.ite ?_ ?_
        · refine Keeps.next ?_
          refine Only.trans ?_ (State.setf_only _ _ _ _ (by decide))
          refine Only.up_ppe ?_
          exact Only.refl _ _ _
        · refine State.within_only ?_
          refine Only.step ?_ (State.integrate_only ..)
          exact Only.refl _ _ _

theorem State.faultCols_only (s : State) (cols : List Nat) :
    Only 1180591620717411303424 0 s (State.faultCols s cols) := by
  unfold State.faultCols
  refine Only.foldl ?_ ?_
  · exact Only.refl _ _ _
  · intro u0 u1 h2
    refine Only.trans ?_ (State.putBit_only _ _ _ _ _ (by decide))
    exact h2

theorem execPpeCalDone_only (dark : List (Nat × Nat)) (gain : List (Nat × Nat)) (xt : List (Nat × Nat)) (lanes : List Nat) (cols : List Nat) (s : State) :
    Keeps (execPpeCalDone dark gain xt lanes cols s) (Only 18599578230663996768256 4123302821888 s) := by
  unfold execPpeCalDone
  split
  · rename_i a0 a1
    refine Keeps.next ?_
    exact Only.refl _ _ _
  · rename_i a2 a3 a4 a5
    refine Keeps.ite ?_ ?_
    · refine Keeps.next ?_
      exact Only.refl _ _ _
    · extract_lets +onlyGivenNames v6
      clear_value v6
      extract_lets +onlyGivenNames v7
      clear_value v7
      extract_lets +onlyGivenNames v8
      clear_value v8
      extract_lets +onlyGivenNames v9
      have h10 : Only 18599578230663996768256 4123302821888 s v9 := by
        unfold v9
        refine Only.foldl ?_ ?_
        · exact Only.refl _ _ _
        · intro u11 u12 h13
          refine Only.trans ?_ (State.setf_only _ _ _ _ (by decide))
          exact h13
      obtain ⟨w14, e15⟩ : ∃ x, x = v9 := ⟨_, rfl⟩
      rw [← e15] at h10 ⊢
      clear e15 v9
      extract_lets +onlyGivenNames v16
      have h17 : Only 18599578230663996768256 4123302821888 s v16 := by
        unfold v16
        refine Only.foldl ?_ ?_
        · exact h10
        · intro u18 u19 h20
          refine Only.trans ?_ (State.setf_only _ _ _ _ (by decide))
          exact h20
      obtain ⟨w21, e22⟩ : ∃ x, x = v16 := ⟨_, rfl⟩
      rw [← e22] at h17 ⊢
      clear e22 v16
      extract_lets +onlyGivenNames v23
      have h24 : Only 18599578230663996768256 4123302821888 s v23 := by
        unfold v23
        refine Only.ite ?_ ?_
        · refine Only.foldl ?_ ?_
          · exact h17
          · intro u25 u26 h27
            refine Only.trans ?_ (State.setReg_only _ _ _ _ (by decide))
            exact h27
        · exact h17
      obtain ⟨w28, e29⟩ : ∃ x, x = v23 := ⟨_, rfl⟩
      rw [← e29] at h24 ⊢
      clear e29 v23
      extract_lets +onlyGivenNames v30
      have h31 : Only 18599578230663996768256 4123302821888 s v30 := by
        unfold v30
        refine Only.ite ?_ ?_
        · refine Only.foldl ?_ ?_
          · refine Only.trans ?_ (State.setf_only _ _ _ _ (by decide))
            exact h24
          · intro u32 u33 h34
            refine Only.trans ?_ (State.setf_only _ _ _ _ (by decide))
            exact h34
        · exact h24
      obtain ⟨w35, e36⟩ : ∃ x, x = v30 := ⟨_, rfl⟩
      rw [← e36] at h31 ⊢
      clear e36 v30
      extract_lets +onlyGivenNames v37
      have h38 : Only 18599578230663996768256 4123302821888 s v37 := by
        unfold v37
        refine Only.step ?_ (State.faultCols_only ..)
        refine Only.foldl ?_ ?_
        · exact h31
        · intro u39 u40 h41
          refine Only.trans ?_ (State.putBit_only _ _ _ _ _ (by decide))
          exact h41
      obtain ⟨w42, e43⟩ : ∃ x, x = v37 := ⟨_, rfl⟩
      rw [← e43] at h38 ⊢
      clear e43 v37
      extract_lets +onlyGivenNames v44
      clear_value v44
      extract_lets +onlyGivenNames v45
      clear_value v45
      extract_lets +onlyGivenNames v46
      have h47 : Only 18599578230663996768256 4123302821888 s v46 := by
        unfold v46
        refine Only.trans ?_ (State.eventIf_only _ _ _ _ (by decide))
        refine Only.trans ?_ (State.event_only _ _ _ (by decide))
        refine Only.trans ?_ (State.setf_only _ _ _ _ (by decide))
        refine Only.trans ?_ (State.setf_only _ _ _ _ (by decide))
        refine Only.trans ?_ (State.setf_only _ _ _ _ (by decide))
        refine Only.trans ?_ (State.setf_only _ _ _ _ (by decide))
        exact h38
      obtain ⟨w48, e49⟩ : ∃ x, x = v46 := ⟨_, rfl⟩
      rw [← e49] at h47 ⊢
      clear e49 v46
      refine Keeps.next ?_
      refine Only.step ?_ (State.ppeRest_only ..)
      refine Only.up_ppe ?_
      exact h47

theorem execPpeCalFull_only (s : State) :
    Keeps (execPpeCalFull s) (Only 648518346341351424 274877906944 s) := by
  unfold execPpeCalFull
  refine Keeps.next ?_
  refine Only.step ?_ (State.askFullCal_only ..)
  exact Only.refl _ _ _

theorem execPpeCalPeriod_only (s : State) :
    Keeps (execPpeCalPeriod s) (Only 72057594037927936 824767938560 s) := by
  unfold execPpeCalPeriod
  refine Keeps.ite ?_ ?_
  · refine Keeps.next ?_
    refine Only.step ?_ (State.askQuickCal_only ..)
    exact Only.refl _ _ _
  · refine Keeps.next ?_
    exact Only.refl _ _ _

theorem execPpeCalQuick_only (s : State) :
    Keeps (execPpeCalQuick s) (Only 72057594037927936 824767938560 s) := by
  unfold execPpeCalQuick
  refine Keeps.next ?_
  refine Only.step ?_ (State.askQuickCal_only ..)
  exact Only.refl _ _ _

theorem execPpeLockLost_only (s : State) :
    Keeps (execPpeLockLost s) (Only 4683743612465315840 17314086912 s) := by
  unfold execPpeLockLost
  refine Keeps.next ?_
  refine Only.ite ?_ ?_
  · exact Only.refl _ _ _
  · refine Only.step ?_ (State.ppeUnlock_only ..)
    exact Only.refl _ _ _

theorem execPpeLockReturn_only (s : State) :
    Keeps (execPpeLockReturn s) (Only 189151184349560832000 18387828736 s) := by
  unfold execPpeLockReturn
  refine Keeps.next ?_
  refine Only.ite ?_ ?_
  · refine Only.step ?_ (State.ppeLock_only ..)
    exact Only.refl _ _ _
  · exact Only.refl _ _ _

theorem execPpeLockWaitExpired_only (fx : Fx) (s : State) :
    Keeps (execPpeLockWaitExpired fx s) (Only 5039503366591453974965251137095037522139919782790473003350967870106579201111259895345743324883825108000 187072209578355948024482580469200591797469704591496 s) := by
  unfold execPpeLockWaitExpired
  split
  · rename_i a0 a1 a2 a3 a4 a5
    refine Keeps.ite ?_ ?_
    · refine State.within_only ?_
      refine Only.step ?_ (State.bandOnArray_only ..)
      exact Only.refl _ _ _
    · refine Keeps.next ?_
      exact Only.refl _ _ _
  · rename_i a6 a7 a8
    refine Keeps.next ?_
    exact Only.refl _ _ _

theorem execPpeTempDelta_only (temp : Nat) (s : State) :
    Keeps (execPpeTempDelta temp s) (Only 295219962773390753792 824767938560 s) := by
  unfold execPpeTempDelta
  extract_lets +onlyGivenNames v0
  have h1 : Only 295219962773390753792 824767938560 s v0 := by
    unfold v0
    refine Only.trans ?_ (State.setf_only _ _ _ _ (by decide))
    exact Only.refl _ _ _
  obtain ⟨w2, e3⟩ : ∃ x, x = v0 := ⟨_, rfl⟩
  rw [← e3] at h1 ⊢
  clear e3 v0
  extract_lets +onlyGivenNames v4
  clear_value v4
  refine Keeps.ite ?_ ?_
  · refine Keeps.next ?_
    refine Only.step ?_ (State.askQuickCal_only ..)
    exact h1
  · refine Keeps.next ?_
    exact h1

/-! ### Codebook -/

theorem State.mapBooks_only (s : State) (slot : Nat) (g : Book → Book) :
    Only 0 4398046511104 s (State.mapBooks s slot g) := by
  unfold State.mapBooks
  extract_lets +onlyGivenNames v0
  clear_value v0
  refine Only.up_cmp ?_
  exact Only.refl _ _ _

theorem State.bookAcked_only (s : State) (n : Nat) (peerStream : Nat) (gen : Nat) :
    Only 0 1139094046375936 s (State.bookAcked s n peerStream gen) := by
  unfold State.bookAcked
  extract_lets +onlyGivenNames v0
  clear_value v0
  split
  · rename_i a1 a2
    exact Only.refl _ _ _
  · rename_i a3 a4 a5
    extract_lets +onlyGivenNames v6
    unfold v6
    clear v6
    extract_lets +onlyGivenNames v7
    have h8 : Only 0 1139094046375936 s v7 := by
      unfold v7
      refine Only.up_cmp ?_
      exact Only.refl _ _ _
    obtain ⟨w9, e10⟩ : ∃ x, x = v7 := ⟨_, rfl⟩
    rw [← e10] at h8 ⊢
    clear e10 v7
    refine Only.ite ?_ ?_
    · exact h8
    · refine Only.step ?_ (State.mapBooks_only ..)
      exact h8

theorem State.ackBook_only (s : State) (n : Nat) (stream : Nat) (gen : Nat) :
    Only 0 618970019642690137449562112 s (State.ackBook s n stream gen) := by
  unfold State.ackBook
  refine Only.step ?_ (State.updSess_only ..)
  exact Only.refl _ _ _

theorem State.setBook_only (s : State) (key : Nat) (b : Book) :
    Only 0 4398046511104 s (State.setBook s key b) := by
  unfold State.setBook
  refine Only.up_cmp ?_
  exact Only.refl _ _ _

theorem State.installBook_only (s : State) (slot : Nat) (b : BookBody) (acked : Bool) :
    Only 0 1147890139398144 s (State.installBook s slot b acked) := by
  unfold State.installBook
  extract_lets +onlyGivenNames v0
  have h1 : Only 0 1147890139398144 s v0 := by
    unfold v0
    refine Only.step ?_ (State.mapBooks_only ..)
    exact Only.refl _ _ _
  obtain ⟨w2, e3⟩ : ∃ x, x = v0 := ⟨_, rfl⟩
  rw [← e3] at h1 ⊢
  clear e3 v0
  extract_lets +onlyGivenNames v4
  unfold v4
  clear v4
  extract_lets +onlyGivenNames v5
  have h6 : Only 0 1147890139398144 s v5 := by
    unfold v5
    refine Only.up_cmp ?_
    exact h1
  obtain ⟨w7, e8⟩ : ∃ x, x = v5 := ⟨_, rfl⟩
  rw [← e8] at h6 ⊢
  clear e8 v5
  refine Only.step ?_ (State.setBook_only ..)
  exact h6

theorem State.retireBook_only (s : State) (slot : Nat) (gen : Nat) :
    Only 0 4398046511104 s (State.retireBook s slot gen) := by
  unfold State.retireBook
  refine Only.step ?_ (State.mapBooks_only ..)
  exact Only.refl _ _ _

theorem State.takeBook_only (s : State) (n : Nat) (slot : Nat) (stream : Nat) (b : BookBody) :
    Only 4398046511104 618970019643838027588960256 s (State.takeBook s n slot stream b) := by
  unfold State.takeBook
  extract_lets +onlyGivenNames v0
  clear_value v0
  split
  · rename_i a1 a2 a3
    refine Only.ite ?_ ?_
    · exact Only.refl _ _ _
    · refine Only.ite ?_ ?_
      · refine Only.step ?_ (State.ackBook_only ..)
        exact Only.refl _ _ _
      · refine Only.trans ?_ (State.event_only _ _ _ (by decide))
        refine Only.step ?_ (State.mapBooks_only ..)
        exact Only.refl _ _ _
  · rename_i a4 a5
    refine Only.ite ?_ ?_
    · refine Only.step ?_ (State.ackBook_only ..)
      refine Only.step ?_ (State.installBook_only ..)
      exact Only.refl _ _ _
    · split
      · rename_i a6 a7
        exact Only.refl _ _ _
      · rename_i a8 a9 a10
        refine Only.ite ?_ ?_
        · refine Only.step ?_ (State.ackBook_only ..)
          refine Only.step ?_ (State.installBook_only ..)
          refine Only.step ?_ (State.retireBook_only ..)
          exact Only.refl _ _ _
        · extract_lets +onlyGivenNames v11
          clear_value v11
          refine Only.up_cmp ?_
          exact Only.refl _ _ _

theorem execCodebookInstallDeferred_only (slot : Nat) (s : State) :
    Keeps (execCodebookInstallDeferred slot s) (Only 0 618970019643838027588960256 s) := by
  unfold execCodebookInstallDeferred
  split
  · rename_i a0 a1
    refine Keeps.next ?_
    exact Only.refl _ _ _
  · rename_i a2 a3 a4
    split
    · rename_i a5 a6
      refine Keeps.next ?_
      refine Only.step ?_ (State.ackBook_only ..)
      refine Only.step ?_ (State.installBook_only ..)
      exact Only.refl _ _ _
    · rename_i a7 a8 a9
      refine Keeps.ite ?_ ?_
      · refine Keeps.next ?_
        refine Only.step ?_ (State.ackBook_only ..)
        refine Only.step ?_ (State.installBook_only ..)
        refine Only.step ?_ (State.retireBook_only ..)
        exact Only.refl _ _ _
      · refine Keeps.next ?_
        exact Only.refl _ _ _

theorem State.sendBook_only (s : State) (n : Nat) (slot : Nat) (stream : Nat) (origin : Nat) (b : Book) :
    Only 7237026282571302585664548867310581071927020218014549279993205352336245915648 677301871030725508633460864 s (State.sendBook s n slot stream origin b) := by
  unfold State.sendBook
  extract_lets +onlyGivenNames v0
  clear_value v0
  extract_lets +onlyGivenNames v1
  clear_value v1
  extract_lets +onlyGivenNames v2
  have h3 : Only 7237026282571302585664548867310581071927020218014549279993205352336245915648 677301871030725508633460864 s v2 := by
    unfold v2
    refine Only.step ?_ (State.sendData_only ..)
    exact Only.refl _ _ _
  obtain ⟨w4, e5⟩ : ∃ x, x = v2 := ⟨_, rfl⟩
  rw [← e5] at h3 ⊢
  clear e5 v2
  refine Only.up_cmp ?_
  exact h3

theorem execCodebookRepeat_only (n : Nat) (slot : Nat) (gen : Nat) (s : State) :
    Keeps (execCodebookRepeat n slot gen s) (Only 7237026282571302585664548867310581071927020218014549279993205352336245915648 677301871030725508633460864 s) := by
  unfold execCodebookRepeat
  extract_lets +onlyGivenNames v0
  clear_value v0
  split
  · rename_i a1 a2 a3 a4 a5 a6
    extract_lets +onlyGivenNames v7
    clear_value v7
    refine Keeps.ite ?_ ?_
    · refine Keeps.next ?_
      exact Only.refl _ _ _
    · extract_lets +onlyGivenNames v8
      unfold v8
      clear v8
      extract_lets +onlyGivenNames v9
      have h10 : Only 7237026282571302585664548867310581071927020218014549279993205352336245915648 677301871030725508633460864 s v9 := by
        unfold v9
        refine Only.up_cmp ?_
        exact Only.refl _ _ _
      obtain ⟨w11, e12⟩ : ∃ x, x = v9 := ⟨_, rfl⟩
      rw [← e12] at h10 ⊢
      clear e12 v9
      refine Keeps.next ?_
      refine Only.step ?_ (State.sendBook_only ..)
      exact h10
  · rename_i a13 a14 a15
    refine Keeps.next ?_
    exact Only.refl _ _ _

/-! ### Compress -/

theorem State.cmpFail_only (s : State) (it : Item) (st : Status) (gen : Nat) (check : Nat) (block : Nat) :
    Only 7322747440988160 0 s (State.cmpFail s it st gen check block) := by
  unfold State.cmpFail
  extract_lets +onlyGivenNames v0
  have h1 : Only 7322747440988160 0 s v0 := by
    unfold v0
    refine Only.trans ?_ (State.setf_only _ _ _ _ (by decide))
    refine Only.trans ?_ (State.setf_only _ _ _ _ (by decide))
    refine Only.trans ?_ (State.setf_only _ _ _ _ (by decide))
    refine Only.trans ?_ (State.setf_only _ _ _ _ (by decide))
    refine Only.trans ?_ (State.setf_only _ _ _ _ (by decide))
    exact Only.refl _ _ _
  obtain ⟨w2, e3⟩ : ∃ x, x = v0 := ⟨_, rfl⟩
  rw [← e3] at h1 ⊢
  clear e3 v0
  refine Only.ite ?_ ?_
  · refine Only.trans ?_ (State.countEv_only _ _ _ _ (by decide) (by decide))
    exact h1
  · exact h1

theorem State.commitSolo_only (s : State) (it : Item) (sector : Nat) :
    Only 68351748112347229395527596073404575714420242181980479848332668920927581994955645746794217584108576 187072209578355574179108765961316261754148618475656 s (State.commitSolo s it sector) := by
  unfold State.commitSolo
  refine Only.step ?_ (State.commitItem_only ..)
  refine Only.step ?_ (State.noteResult_only ..)
  refine Only.step ?_ (State.wrBytes_only ..)
  exact Only.refl _ _ _

theorem State.readMany_only (s : State) (id : Nat) (src : Desc) (ds : List Desc) (fx : Fx) :
    Only 39440687358292657322901917594421494916304950279404867349636972544 128 s (State.readMany s id src ds fx).2 := by
  unfold State.readMany
  extract_lets +onlyGivenNames v0
  have h1 : Only 39440687358292657322901917594421494916304950279404867349636972544 128 s v0.2 := by
    unfold v0
    refine Only.step ?_ (State.readSrc_only ..)
    exact Only.refl _ _ _
  obtain ⟨w2, e3⟩ : ∃ x, x = v0 := ⟨_, rfl⟩
  rw [← e3] at h1 ⊢
  clear e3 v0
  refine Only.step ?_ (State.readAlso_only ..)
  exact h1

theorem State.commitDecode_only (s : State) (it : Item) (sector : Nat) :
    Only 68351748112347229395527596073404575714420242181980479848332668920927581994955645746811809770152992 187072209578355574179108765961316261754148618475656 s (State.commitDecode s it sector) := by
  unfold State.commitDecode
  extract_lets +onlyGivenNames v0
  clear_value v0
  extract_lets +onlyGivenNames v1
  clear_value v1
  extract_lets +onlyGivenNames v2
  clear_value v2
  extract_lets +onlyGivenNames v3
  clear_value v3
  extract_lets +onlyGivenNames v4
  clear_value v4
  extract_lets +onlyGivenNames v5
  clear_value v5
  extract_lets +onlyGivenNames v6
  clear_value v6
  extract_lets +onlyGivenNames v7
  have h8 : Only 68351748112347229395527596073404575714420242181980479848332668920927581994955645746811809770152992 187072209578355574179108765961316261754148618475656 s v7 := by
    unfold v7
    refine Only.trans ?_ (State.count_only _ _ _ _ (by decide))
    refine Only.step ?_ (State.wrBytes_only ..)
    exact Only.refl _ _ _
  obtain ⟨w9, e10⟩ : ∃ x, x = v7 := ⟨_, rfl⟩
  rw [← e10] at h8 ⊢
  clear e10 v7
  extract_lets +onlyGivenNames v11
  unfold v11
  clear v11
  extract_lets +onlyGivenNames v12
  have h13 : Only 68351748112347229395527596073404575714420242181980479848332668920927581994955645746811809770152992 187072209578355574179108765961316261754148618475656 s v12 := by
    unfold v12
    refine Only.up_arr ?_
    exact h8
  obtain ⟨w14, e15⟩ : ∃ x, x = v12 := ⟨_, rfl⟩
  rw [← e15] at h13 ⊢
  clear e15 v12
  refine Only.step ?_ (State.commitItem_only ..)
  refine Only.step ?_ (State.noteResult_only ..)
  exact h13

theorem State.lengthStop_only (s : State) (it : Item) (check : Nat) (i : Nat) (h : CbHead) :
    Only 68351748112347229395534833099687147017005906730847790429404575981550507231635144422834305012507680 187072209578355574179109443261898254171116666067080 s (State.lengthStop s it check i h) := by
  unfold State.lengthStop
  extract_lets +onlyGivenNames v0
  clear_value v0
  extract_lets +onlyGivenNames v1
  clear_value v1
  extract_lets +onlyGivenNames v2
  clear_value v2
  extract_lets +onlyGivenNames v3
  have h4 : Only 68351748112347229395534833099687147017005906730847790429404575981550507231635144422834305012507680 187072209578355574179109443261898254171116666067080 s v3 := by
    unfold v3
    refine Only.trans ?_ (State.countEv_only _ _ _ _ (by decide) (by decide))
    exact Only.refl _ _ _
  obtain ⟨w5, e6⟩ : ∃ x, x = v3 := ⟨_, rfl⟩
  rw [← e6] at h4 ⊢
  clear e6 v3
  split
  · rename_i a7 a8 a9
    extract_lets +onlyGivenNames v10
    clear_value v10
    refine Only.ite ?_ ?_
    · refine Only.step ?_ (State.endItem_only ..)
      refine Only.step ?_ (State.cmpFail_only ..)
      exact h4
    · extract_lets +onlyGivenNames v11
      unfold v11
      clear v11
      extract_lets +onlyGivenNames v12
      have h13 : Only 68351748112347229395534833099687147017005906730847790429404575981550507231635144422834305012507680 187072209578355574179109443261898254171116666067080 s v12 := by
        unfold v12
        refine Only.up_cmp ?_
        exact h4
      obtain ⟨w14, e15⟩ : ∃ x, x = v12 := ⟨_, rfl⟩
      rw [← e15] at h13 ⊢
      clear e15 v12
      refine Only.step ?_ (State.reRequest_only ..)
      refine Only.trans ?_ (State.count_only _ _ _ _ (by decide))
      refine Only.step ?_ (State.updItem_only ..)
      exact h13
  · rename_i a16 a17
    refine Only.step ?_ (State.endItem_only ..)
    refine Only.step ?_ (State.cmpFail_only ..)
    exact h4

theorem State.runDecode_only (s : State) (it : Item) (fx : Fx) :
    Only 68351748112347229395534833099687186457693265023505113331322170403045423536585423827719246835524640 187072209578355574179109443262006700850143747610760 s (State.runDecode s it fx) := by
  unfold State.runDecode
  refine Only.ite ?_ ?_
  · exact Only.refl _ _ _
  · extract_lets +onlyGivenNames v0
    have h1 : Only 68351748112347229395534833099687186457693265023505113331322170403045423536585423827719246835524640 187072209578355574179109443262006700850143747610760 s v0.2 := by
      unfold v0
      refine Only.step ?_ (State.readMany_only ..)
      exact Only.refl _ _ _
    obtain ⟨w2, e3⟩ : ∃ x, x = v0 := ⟨_, rfl⟩
    rw [← e3] at h1 ⊢
    clear e3 v0
    split
    · rename_i a4 a5
      refine Only.ite ?_ ?_
      · refine Only.step ?_ (State.endItem_only ..)
        exact h1
      · refine Only.step ?_ (State.commitDecode_only ..)
        exact h1
    · rename_i a6 a7 a8
      refine Only.step ?_ (State.endItem_only ..)
      refine Only.step ?_ (State.cmpFail_only ..)
      exact h1
    · rename_i a9 a10 a11 a12 a13
      refine Only.step ?_ (State.lengthStop_only ..)
      exact h1

theorem execDecode_only (id : Nat) (fx : Fx) (s : State) :
    Keeps (execDecode id fx s) (Only 68351748112347229395534833099687186457693265023505113331322170403045423536585423827719246835524640 187072209578355574179109443262006700850143747610760 s) := by
  unfold execDecode
  split
  · rename_i a0 a1
    refine Keeps.next ?_
    exact Only.refl _ _ _
  · rename_i a2 a3 a4
    extract_lets +onlyGivenNames v5
    clear_value v5
    refine Keeps.ite ?_ ?_
    · refine State.within_only ?_
      refine Only.step ?_ (State.commitSolo_only ..)
      exact Only.refl _ _ _
    · refine State.within_only ?_
      refine Only.step ?_ (State.runDecode_only ..)
      exact Only.refl _ _ _

theorem State.queueCopy_only (s : State) (it : Item) (g : Seg) (e0 : Nat) (vs : List Val) :
    Only 0 35184372088832 s (State.queueCopy s it g e0 vs) := by
  unfold State.queueCopy
  refine Only.ite ?_ ?_
  · refine Only.up_cmp ?_
    exact Only.refl _ _ _
  · exact Only.refl _ _ _

theorem State.commitEncode_only (s : State) (it : Item) (sector : Nat) :
    Only 68351748112347229395527596073404575714420242181980479848332668920927581994955645746912964839908384 187072209578355574179108765961316477962115104348296 s (State.commitEncode s it sector) := by
  unfold State.commitEncode
  extract_lets +onlyGivenNames v0
  clear_value v0
  extract_lets +onlyGivenNames v1
  clear_value v1
  extract_lets +onlyGivenNames v2
  clear_value v2
  extract_lets +onlyGivenNames v3
  clear_value v3
  refine Only.ite ?_ ?_
  · extract_lets +onlyGivenNames v4
    clear_value v4
    refine Only.ite ?_ ?_
    · extract_lets +onlyGivenNames v5
      clear_value v5
      refine Only.step ?_ (State.commitItem_only ..)
      refine Only.step ?_ (State.wrBytes_only ..)
      exact Only.refl _ _ _
    · extract_lets +onlyGivenNames v6
      clear_value v6
      extract_lets +onlyGivenNames v7
      clear_value v7
      extract_lets +onlyGivenNames v8
      have h9 : Only 68351748112347229395527596073404575714420242181980479848332668920927581994955645746912964839908384 187072209578355574179108765961316477962115104348296 s v8 := by
        unfold v8
        refine Only.trans ?_ (State.countEv_only _ _ _ _ (by decide) (by decide))
        refine Only.trans ?_ (State.countEv_only _ _ _ _ (by decide) (by decide))
        exact Only.refl _ _ _
      obtain ⟨w10, e11⟩ : ∃ x, x = v8 := ⟨_, rfl⟩
      rw [← e11] at h9 ⊢
      clear e11 v8
      refine Only.step ?_ (State.commitItem_only ..)
      refine Only.step ?_ (State.queueCopy_only ..)
      refine Only.ite ?_ ?_
      · exact h9
      · exact Only.refl _ _ _
  · extract_lets +onlyGivenNames v12
    clear_value v12
    extract_lets +onlyGivenNames v13
    clear_value v13
    extract_lets +onlyGivenNames v14
    clear_value v14
    extract_lets +onlyGivenNames v15
    have h16 : Only 68351748112347229395527596073404575714420242181980479848332668920927581994955645746912964839908384 187072209578355574179108765961316477962115104348296 s v15 := by
      unfold v15
      refine Only.step ?_ (State.wrBytes_only ..)
      exact Only.refl _ _ _
    obtain ⟨w17, e18⟩ : ∃ x, x = v15 := ⟨_, rfl⟩
    rw [← e18] at h16 ⊢
    clear e18 v15
    extract_lets +onlyGivenNames v19
    have h20 : Only 68351748112347229395527596073404575714420242181980479848332668920927581994955645746912964839908384 187072209578355574179108765961316477962115104348296 s v19 := by
      unfold v19
      refine Only.trans ?_ (State.count_only _ _ _ _ (by decide))
      refine Only.trans ?_ (State.count_only _ _ _ _ (by decide))
      refine Only.trans ?_ (State.count_only _ _ _ _ (by decide))
      exact h16
    obtain ⟨w21, e22⟩ : ∃ x, x = v19 := ⟨_, rfl⟩
    rw [← e22] at h20 ⊢
    clear e22 v19
    extract_lets +onlyGivenNames v23
    have h24 : Only 68351748112347229395527596073404575714420242181980479848332668920927581994955645746912964839908384 187072209578355574179108765961316477962115104348296 s v23 := by
      unfold v23
      refine Only.trans ?_ (State.eventIf_only _ _ _ _ (by decide))
      refine Only.trans ?_ (State.eventIf_only _ _ _ _ (by decide))
      exact h20
    obtain ⟨w25, e26⟩ : ∃ x, x = v23 := ⟨_, rfl⟩
    rw [← e26] at h24 ⊢
    clear e26 v23
    refine Only.step ?_ (State.commitItem_only ..)
    refine Only.step ?_ (State.noteEncoded_only ..)
    refine Only.step ?_ (State.queueCopy_only ..)
    exact h24

theorem execEncode_only (id : Nat) (fx : Fx) (s : State) :
    Keeps (execEncode id fx s) (Only 68351748112347229395527596073404615155107600474637802750250263342422498299905925151780314476880928 187072209578355574179108765961316477962115104348296 s) := by
  unfold execEncode
  split
  · rename_i a0 a1
    refine Keeps.next ?_
    exact Only.refl _ _ _
  · rename_i a2 a3 a4
    extract_lets +onlyGivenNames v5
    clear_value v5
    extract_lets +onlyGivenNames v6
    clear_value v6
    extract_lets +onlyGivenNames v7
    clear_value v7
    refine State.within_only ?_
    split
    · rename_i a8 a9 a10
      have h11 : Only 68351748112347229395527596073404615155107600474637802750250263342422498299905925151780314476880928 187072209578355574179108765961316477962115104348296 s a9 := by
        refine Only.of_snd a10 ?_
        refine Only.step ?_ (State.readMany_only ..)
        exact Only.refl _ _ _
      refine Only.step ?_ (State.endItem_only ..)
      exact h11
    · rename_i a12 a13 a14 a15 a16
      have h17 : Only 68351748112347229395527596073404615155107600474637802750250263342422498299905925151780314476880928 187072209578355574179108765961316477962115104348296 s a14 := by
        refine Only.of_snd a16 ?_
        refine Only.step ?_ (State.readMany_only ..)
        exact Only.refl _ _ _
      refine Only.step ?_ (State.commitEncode_only ..)
      exact h17

theorem execEncodeResidualCopy_only (item : Nat) (s : State) :
    Keeps (execEncodeResidualCopy item s) (Only 0 108374656617415704576 s) := by
  unfold execEncodeResidualCopy
  split
  · rename_i a0 a1
    refine Keeps.next ?_
    exact Only.refl _ _ _
  · rename_i a2 a3 a4
    refine State.within_only ?_
    refine Only.step ?_ (State.wrBytes_only ..)
    refine Only.up_cmp ?_
    exact Only.refl _ _ _

theorem State.sampleOps_only (s : State) (it : Item) (sector : Nat) :
    Only 1099511627776 0 s (State.sampleOps s it sector) := by
  unfold State.sampleOps
  extract_lets +onlyGivenNames v0
  clear_value v0
  extract_lets +onlyGivenNames v1
  clear_value v1
  extract_lets +onlyGivenNames v2
  clear_value v2
  refine Only.foldl ?_ ?_
  · exact Only.refl _ _ _
  · intro u3 u4 h5
    refine Only.step ?_ (State.laneOps_only ..)
    exact h5

theorem State.commitFirstpass_only (s : State) (it : Item) (sector : Nat) :
    Only 68351748112347229395534833099687147017005906730847790429404595941145596544235638953272453736866848 187072209578355574179109443263078846944122263279756 s (State.commitFirstpass s it sector) := by
  unfold State.commitFirstpass
  extract_lets +onlyGivenNames v0
  clear_value v0
  extract_lets +onlyGivenNames v1
  clear_value v1
  extract_lets +onlyGivenNames v2
  clear_value v2
  extract_lets +onlyGivenNames v3
  clear_value v3
  extract_lets +onlyGivenNames v4
  clear_value v4
  extract_lets +onlyGivenNames v5
  clear_value v5
  extract_lets +onlyGivenNames v6
  have h7 : Only 68351748112347229395534833099687147017005906730847790429404595941145596544235638953272453736866848 187072209578355574179109443263078846944122263279756 s v6 := by
    unfold v6
    split
    · rename_i a8 a9 a10
      refine Only.step ?_ (State.retireBook_only ..)
      exact Only.refl _ _ _
    · rename_i a11 a12
      exact Only.refl _ _ _
  obtain ⟨w13, e14⟩ : ∃ x, x = v6 := ⟨_, rfl⟩
  rw [← e14] at h7 ⊢
  clear e14 v6
  extract_lets +onlyGivenNames v15
  have h16 : Only 68351748112347229395534833099687147017005906730847790429404595941145596544235638953272453736866848 187072209578355574179109443263078846944122263279756 s v15 := by
    unfold v15
    refine Only.step ?_ (State.installBook_only ..)
    exact h7
  obtain ⟨w17, e18⟩ : ∃ x, x = v15 := ⟨_, rfl⟩
  rw [← e18] at h16 ⊢
  clear e18 v15
  extract_lets +onlyGivenNames v19
  have h20 : Only 68351748112347229395534833099687147017005906730847790429404595941145596544235638953272453736866848 187072209578355574179109443263078846944122263279756 s v19 := by
    unfold v19
    split
    · rename_i a21 a22
      exact h16
    · rename_i a23 a24 a25
      extract_lets +onlyGivenNames v26
      clear_value v26
      refine Only.ite ?_ ?_
      · refine Only.step ?_ (State.setCtx_only ..)
        refine Only.step ?_ (State.fresh_only ..)
        exact h16
      · refine Only.step ?_ (State.setCtx_only ..)
        exact h16
  obtain ⟨w27, e28⟩ : ∃ x, x = v19 := ⟨_, rfl⟩
  rw [← e28] at h20 ⊢
  clear e28 v19
  extract_lets +onlyGivenNames v29
  have h30 : Only 68351748112347229395534833099687147017005906730847790429404595941145596544235638953272453736866848 187072209578355574179109443263078846944122263279756 s v29 := by
    unfold v29
    refine Only.step ?_ (State.sampleOps_only ..)
    exact h20
  obtain ⟨w31, e32⟩ : ∃ x, x = v29 := ⟨_, rfl⟩
  rw [← e32] at h30 ⊢
  clear e32 v29
  extract_lets +onlyGivenNames v33
  have h34 : Only 68351748112347229395534833099687147017005906730847790429404595941145596544235638953272453736866848 187072209578355574179109443263078846944122263279756 s v33 := by
    unfold v33
    refine Only.trans ?_ (State.count_only _ _ _ _ (by decide))
    refine Only.ite ?_ ?_
    · refine Only.step ?_ (State.degrade_only ..)
      exact h30
    · exact h30
  obtain ⟨w35, e36⟩ : ∃ x, x = v33 := ⟨_, rfl⟩
  rw [← e36] at h34 ⊢
  clear e36 v33
  extract_lets +onlyGivenNames v37
  have h38 : Only 68351748112347229395534833099687147017005906730847790429404595941145596544235638953272453736866848 187072209578355574179109443263078846944122263279756 s v37 := by
    unfold v37
    split
    · rename_i a39 a40 a41 a42 a43 a44
      refine Only.step ?_ (State.sendBook_only ..)
      exact h34
    · rename_i a45 a46 a47
      exact h34
  obtain ⟨w48, e49⟩ : ∃ x, x = v37 := ⟨_, rfl⟩
  rw [← e49] at h38 ⊢
  clear e49 v37
  refine Only.step ?_ (State.commitItem_only ..)
  exact h38

theorem State.runFirstpass_only (s : State) (it : Item) (fx : Fx) :
    Only 68351748112347229395534833099687186457693265023505113331322190362640512849185918358139803373839392 187072209578355574179109443263078846944122263279756 s (State.runFirstpass s it fx) := by
  unfold State.runFirstpass
  extract_lets +onlyGivenNames v0
  clear_value v0
  extract_lets +onlyGivenNames v1
  clear_value v1
  extract_lets +onlyGivenNames v2
  clear_value v2
  extract_lets +onlyGivenNames v3
  have h4 : Only 68351748112347229395534833099687186457693265023505113331322190362640512849185918358139803373839392 187072209578355574179109443263078846944122263279756 s v3.2 := by
    unfold v3
    refine Only.iteSnd ?_ ?_
    · refine Only.step ?_ (State.readMany_only ..)
      exact Only.refl _ _ _
    · refine Only.pair _ ?_
      exact Only.refl _ _ _
  obtain ⟨w5, e6⟩ : ∃ x, x = v3 := ⟨_, rfl⟩
  rw [← e6] at h4 ⊢
  clear e6 v3
  refine Only.ite ?_ ?_
  · refine Only.step ?_ (State.endItem_only ..)
    exact h4
  · extract_lets +onlyGivenNames v7
    clear_value v7
    refine Only.ite ?_ ?_
    · refine Only.step ?_ (State.commitFirstpass_only ..)
      exact h4
    · refine Only.step ?_ (State.updItem_only ..)
      exact h4

theorem execFirstpass_only (id : Nat) (fx : Fx) (s : State) :
    Keeps (execFirstpass id fx s) (Only 68351748112347229395534833099687186457693265023505113331322190362640512849185918358139803373839392 187072209578355574179109443263078846944122263279756 s) := by
  unfold execFirstpass
  split
  · rename_i a0 a1
    refine Keeps.next ?_
    exact Only.refl _ _ _
  · rename_i a2 a3 a4
    extract_lets +onlyGivenNames v5
    clear_value v5
    refine State.within_only ?_
    refine Only.step ?_ (State.runFirstpass_only ..)
    exact Only.refl _ _ _

theorem execFirstpassPinWait_only (id : Nat) (s : State) :
    Keeps (execFirstpassPinWait id s) (Only 4398046511104 0 s) := by
  unfold execFirstpassPinWait
  split
  · rename_i a0 a1
    refine Keeps.next ?_
    exact Only.refl _ _ _
  · rename_i a2 a3 a4
    refine Keeps.next ?_
    refine Only.trans ?_ (State.eventIf_only _ _ _ _ (by decide))
    exact Only.refl _ _ _

/-! ### Cipher -/

theorem State.tagResult_only (s : State) (n : Nat) (slot : Nat) (gen : Nat) (ok : Bool) :
    Only 14141678264573865200453814761805625152072322283977122051528012134564757504 4835703278458516698824704 s (State.tagResult s n slot gen ok) := by
  unfold State.tagResult
  extract_lets +onlyGivenNames v0
  clear_value v0
  extract_lets +onlyGivenNames v1
  unfold v1
  clear v1
  extract_lets +onlyGivenNames v2
  have h3 : Only 14141678264573865200453814761805625152072322283977122051528012134564757504 4835703278458516698824704 s v2 := by
    unfold v2
    refine Only.up_ciph ?_
    exact Only.refl _ _ _
  obtain ⟨w4, e5⟩ : ∃ x, x = v2 := ⟨_, rfl⟩
  rw [← e5] at h3 ⊢
  clear e5 v2
  refine Only.ite ?_ ?_
  · refine Only.trans ?_ (State.event_only _ _ _ (by decide))
    refine Only.trans ?_ (State.setf_only _ _ _ _ (by decide))
    refine Only.trans ?_ (State.setf_only _ _ _ _ (by decide))
    refine Only.trans ?_ (State.setf_only _ _ _ _ (by decide))
    exact h3
  · exact h3

theorem State.startGcs_only (s : State) (n : Nat) :
    Only 0 1511157274518286468382720 s (State.startGcs s n) := by
  unfold State.startGcs
  split
  · rename_i a0 a1
    refine Only.up_ciph ?_
    exact Only.refl _ _ _
  · rename_i a2 a3 a4
    split
    · rename_i a5 a6
      refine Only.up_ciph ?_
      exact Only.refl _ _ _
    · rename_i a7 a8 a9
      extract_lets +onlyGivenNames v10
      clear_value v10
      extract_lets +onlyGivenNames v11
      have h12 : Only 0 1511157274518286468382720 s v11 := by
        unfold v11
        refine Only.step ?_ (State.updGen_only ..)
        exact Only.refl _ _ _
      obtain ⟨w13, e14⟩ : ∃ x, x = v11 := ⟨_, rfl⟩
      rw [← e14] at h12 ⊢
      clear e14 v11
      refine Only.up_ciph ?_
      exact h12

theorem State.writeGcsEncrypt_only (s : State) (v : Nat) :
    Only 3450873173395281893717377931138512726225554486085193277581262111899648 1511157274518286468382720 s (State.writeGcsEncrypt s v) := by
  unfold State.writeGcsEncrypt
  extract_lets +onlyGivenNames v0
  clear_value v0
  refine Only.foldl ?_ ?_
  · refine Only.trans ?_ (State.setf_only _ _ _ _ (by decide))
    exact Only.refl _ _ _
  · intro u1 u2 h3
    refine Only.step ?_ (State.startGcs_only ..)
    exact h3

theorem State.newGen_only (s : State) (k : Nat) (g : Nat) :
    Only 0 47890485652059026834082938325188223802063623624327168 s (State.newGen s k g) := by
  unfold State.newGen
  extract_lets +onlyGivenNames v0
  unfold v0
  clear v0
  extract_lets +onlyGivenNames v1
  have h2 : Only 0 47890485652059026834082938325188223802063623624327168 s v1 := by
    unfold v1
    refine Only.up_ciph ?_
    exact Only.refl _ _ _
  obtain ⟨w3, e4⟩ : ∃ x, x = v1 := ⟨_, rfl⟩
  rw [← e4] at h2 ⊢
  clear e4 v1
  refine Only.ite ?_ ?_
  · refine Only.up_evt_host ?_
    exact h2
  · exact h2

theorem State.loadKey_only (s : State) (b : KeyBody) (r : KeyRec) :
    Only 7237909706103691777829340516060952531184933959962987089472266155436892225536 47890485652059026834082939002490094832780336164765824 s (State.loadKey s b r) := by
  unfold State.loadKey
  extract_lets +onlyGivenNames v0
  have h1 : Only 7237909706103691777829340516060952531184933959962987089472266155436892225536 47890485652059026834082939002490094832780336164765824 s v0 := by
    unfold v0
    refine Only.step ?_ (State.setGens_only ..)
    refine Only.step ?_ (State.newGen_only ..)
    exact Only.refl _ _ _
  obtain ⟨w2, e3⟩ : ∃ x, x = v0 := ⟨_, rfl⟩
  rw [← e3] at h1 ⊢
  clear e3 v0
  refine Only.foldl ?_ ?_
  · refine Only.trans ?_ (State.count_only _ _ _ _ (by decide))
    exact h1
  · intro u4 u5 h6
    refine Only.step ?_ (State.flushTx_only ..)
    exact h6

theorem State.eraseGraceful_only (s : State) (k : Nat) (g : Nat) :
    Only 0 302231454903657293676544 s (State.eraseGraceful s k g) := by
  unfold State.eraseGraceful
  refine Only.ite ?_ ?_
  · refine Only.step ?_ (State.updGen_only ..)
    exact Only.refl _ _ _
  · exact Only.refl _ _ _

theorem State.dropGen_only (s : State) (k : Nat) (g : Nat) :
    Only 0 302231454903657293676544 s (State.dropGen s k g) := by
  unfold State.dropGen
  refine Only.step ?_ (State.setGens_only ..)
  exact Only.refl _ _ _

theorem State.eraseNow_only (s : State) (k : Nat) (g : Nat) :
    Only 68351748112347229395527596522018088255806888365239610896339323330249665186030771832358292131062816 187072209578355574179108766263439269978778830608520 s (State.eraseNow s k g) := by
  unfold State.eraseNow
  refine Only.ite ?_ ?_
  · extract_lets +onlyGivenNames v0
    clear_value v0
    refine Only.trans ?_ (State.event_only _ _ _ (by decide))
    refine Only.trans ?_ (State.count_only _ _ _ _ (by decide))
    refine Only.step ?_ (State.endWhere_only ..)
    refine Only.step ?_ (State.dropGen_only ..)
    exact Only.refl _ _ _
  · exact Only.refl _ _ _

theorem State.applyKey_only (s : State) (b : KeyBody) :
    Only 68351748112347229395534834424822445600794153918320915986593482811758519200949857543351204799489056 48077557861637382408262047768451302647855457701697672 s (State.applyKey s b) := by
  unfold State.applyKey
  refine Only.ite ?_ ?_
  · split
    · rename_i a0 a1 a2
      refine Only.step ?_ (State.loadKey_only ..)
      exact Only.refl _ _ _
    · rename_i a3 a4
      exact Only.refl _ _ _
  · refine Only.ite ?_ ?_
    · refine Only.trans ?_ (State.count_only _ _ _ _ (by decide))
      refine Only.step ?_ (State.eraseGraceful_only ..)
      exact Only.refl _ _ _
    · refine Only.trans ?_ (State.count_only _ _ _ _ (by decide))
      refine Only.step ?_ (State.eraseNow_only ..)
      exact Only.refl _ _ _

theorem State.latchSeal_only (s : State) (it : Item) :
    Only 20705239040371691362304267586831076357677845470169586392270728691974144 302231454903657293676672 s (State.latchSeal s it) := by
  unfold State.latchSeal
  extract_lets +onlyGivenNames v0
  clear_value v0
  split
  · rename_i a1 a2
    exact Only.refl _ _ _
  · rename_i a3 a4 a5
    extract_lets +onlyGivenNames v6
    clear_value v6
    extract_lets +onlyGivenNames v7
    clear_value v7
    extract_lets +onlyGivenNames v8
    clear_value v8
    extract_lets +onlyGivenNames v9
    have h10 : Only 20705239040371691362304267586831076357677845470169586392270728691974144 302231454903657293676672 s v9 := by
      unfold v9
      refine Only.trans ?_ (State.setf_only _ _ _ _ (by decide))
      refine Only.step ?_ (State.countInvoc_only ..)
      exact Only.refl _ _ _
    obtain ⟨w11, e12⟩ : ∃ x, x = v9 := ⟨_, rfl⟩
    rw [← e12] at h10 ⊢
    clear e12 v9
    refine Only.step ?_ (State.updItem_only ..)
    exact h10

theorem State.latchOpen_only (s : State) (it : Item) :
    Only 0 128 s (State.latchOpen s it) := by
  unfold State.latchOpen
  extract_lets +onlyGivenNames v0
  clear_value v0
  split
  · rename_i a1 a2
    exact Only.refl _ _ _
  · rename_i a3 a4 a5
    refine Only.step ?_ (State.updItem_only ..)
    exact Only.refl _ _ _

theorem execGcsEncryptWrite_only (v : Nat) (s : State) :
    Keeps (execGcsEncryptWrite v s) (Only 3450873173395281893717377931138512726225554486085193277581262111899648 1511157274518286468382720 s) := by
  unfold execGcsEncryptWrite
  refine Keeps.next ?_
  refine Only.step ?_ (State.writeGcsEncrypt_only ..)
  exact Only.refl _ _ _

theorem execKeyEraseComplete_only (slot : Nat) (gen : Nat) (s : State) :
    Keeps (execKeyEraseComplete slot gen s) (Only 6901746346790563787434755862277025452451108972170386555162524223799296 302231454903657293676544 s) := by
  unfold execKeyEraseComplete
  split
  · rename_i a0 a1 a2
    refine Keeps.ite ?_ ?_
    · refine Keeps.next ?_
      refine Only.trans ?_ (State.event_only _ _ _ (by decide))
      refine Only.step ?_ (State.dropGen_only ..)
      exact Only.refl _ _ _
    · refine Keeps.next ?_
      exact Only.refl _ _ _
  · rename_i a3 a4
    refine Keeps.next ?_
    exact Only.refl _ _ _

theorem execKeyRetire_only (slot : Nat) (gen : Nat) (s : State) :
    Keeps (execKeyRetire slot gen s) (Only 6901746346790563787434755862277025452451108972170386555162524223799296 302231454903657293676544 s) := by
  unfold execKeyRetire
  split
  · rename_i a0 a1 a2 a3 a4 a5
    refine Keeps.ite ?_ ?_
    · refine Keeps.next ?_
      refine Only.trans ?_ (State.event_only _ _ _ (by decide))
      refine Only.step ?_ (State.dropGen_only ..)
      exact Only.refl _ _ _
    · refine Keeps.next ?_
      exact Only.refl _ _ _
  · rename_i a6 a7 a8
    refine Keeps.next ?_
    exact Only.refl _ _ _

theorem State.suspendFor_only (s : State) (urgent : Bool) (busy : List (Nat × Nat × Nat × Nat)) :
    Only 110859300695323430835670766037824721329995937865486834042298045344776192 2417851639229258349412352 s (State.suspendFor s urgent busy) := by
  unfold State.suspendFor
  extract_lets +onlyGivenNames v0
  clear_value v0
  split
  · rename_i a1 a2 a3
    refine Only.ite ?_ ?_
    · extract_lets +onlyGivenNames v4
      unfold v4
      clear v4
      extract_lets +onlyGivenNames v5
      have h6 : Only 110859300695323430835670766037824721329995937865486834042298045344776192 2417851639229258349412352 s v5 := by
        unfold v5
        refine Only.up_ciph ?_
        exact Only.refl _ _ _
      obtain ⟨w7, e8⟩ : ∃ x, x = v5 := ⟨_, rfl⟩
      rw [← e8] at h6 ⊢
      clear e8 v5
      refine Only.trans ?_ (State.setf_only _ _ _ _ (by decide))
      refine Only.trans ?_ (State.count_only _ _ _ _ (by decide))
      exact h6
    · exact Only.refl _ _ _
  · rename_i a9 a10
    exact Only.refl _ _ _

theorem State.noteOpened_only (s : State) (it : Item) (bs : List LineBlk) (plain : List Byte) :
    Only 0 633318697598976 s (State.noteOpened s it bs plain) := by
  unfold State.noteOpened
  extract_lets +onlyGivenNames v0
  clear_value v0
  extract_lets +onlyGivenNames v1
  clear_value v1
  extract_lets +onlyGivenNames v2
  clear_value v2
  extract_lets +onlyGivenNames v3
  clear_value v3
  extract_lets +onlyGivenNames v4
  clear_value v4
  extract_lets +onlyGivenNames v5
  clear_value v5
  extract_lets +onlyGivenNames v6
  clear_value v6
  extract_lets +onlyGivenNames v7
  clear_value v7
  refine Only.up_cmp ?_
  exact Only.refl _ _ _

theorem State.runOpen_only (s : State) (it : Item) :
    Only 68351748112347229395534847289677636018405053696705843270968906221030554013949901829239149237806112 187072209578355574179109448097709907251066408507528 s (State.runOpen s it) := by
  unfold State.runOpen
  extract_lets +onlyGivenNames v0
  clear_value v0
  extract_lets +onlyGivenNames v1
  clear_value v1
  extract_lets +onlyGivenNames v2
  clear_value v2
  extract_lets +onlyGivenNames v3
  clear_value v3
  extract_lets +onlyGivenNames v4
  have h5 : Only 68351748112347229395534847289677636018405053696705843270968906221030554013949901829239149237806112 187072209578355574179109448097709907251066408507528 s v4 := by
    unfold v4
    refine Only.foldl ?_ ?_
    · exact Only.refl _ _ _
    · intro u6 u7 h8
      refine Only.step ?_ (State.tagResult_only ..)
      exact h8
  obtain ⟨w9, e10⟩ : ∃ x, x = v4 := ⟨_, rfl⟩
  rw [← e10] at h5 ⊢
  clear e10 v4
  extract_lets +onlyGivenNames v11
  have h12 : Only 68351748112347229395534847289677636018405053696705843270968906221030554013949901829239149237806112 187072209578355574179109448097709907251066408507528 s v11 := by
    unfold v11
    refine Only.trans ?_ (State.count_only _ _ _ _ (by decide))
    exact h5
  obtain ⟨w13, e14⟩ : ∃ x, x = v11 := ⟨_, rfl⟩
  rw [← e14] at h12 ⊢
  clear e14 v11
  refine Only.ite ?_ ?_
  · extract_lets +onlyGivenNames v15
    clear_value v15
    extract_lets +onlyGivenNames v16
    clear_value v16
    refine Only.step ?_ (State.commitItem_only ..)
    refine Only.step ?_ (State.noteOpened_only ..)
    refine Only.step ?_ (State.wrBytes_only ..)
    exact h12
  · refine Only.ite ?_ ?_
    · extract_lets +onlyGivenNames v17
      clear_value v17
      extract_lets +onlyGivenNames v18
      unfold v18
      clear v18
      extract_lets +onlyGivenNames v19
      have h20 : Only 68351748112347229395534847289677636018405053696705843270968906221030554013949901829239149237806112 187072209578355574179109448097709907251066408507528 s v19 := by
        unfold v19
        refine Only.up_cmp ?_
        exact h12
      obtain ⟨w21, e22⟩ : ∃ x, x = v19 := ⟨_, rfl⟩
      rw [← e22] at h20 ⊢
      clear e22 v19
      extract_lets +onlyGivenNames v23
      have h24 : Only 68351748112347229395534847289677636018405053696705843270968906221030554013949901829239149237806112 187072209578355574179109448097709907251066408507528 s v23 := by
        unfold v23
        refine Only.step ?_ (State.updItem_only ..)
        exact h20
      obtain ⟨w25, e26⟩ : ∃ x, x = v23 := ⟨_, rfl⟩
      rw [← e26] at h24 ⊢
      clear e26 v23
      refine Only.step ?_ (State.sendNak_only ..)
      refine Only.step ?_ (State.updSess_only ..)
      exact h24
    · refine Only.step ?_ (State.endItem_only ..)
      exact h12

theorem execOpen_only (id : Nat) (fx : Fx) (busy : List (Nat × Nat × Nat × Nat)) (s : State) :
    Keeps (execOpen id fx busy s) (Only 68351748112347229395534847400536976154415842825033932210711221972521408184387015276404544219554848 187072209578355574179109450515561546480324757919880 s) := by
  unfold execOpen
  split
  · rename_i a0 a1
    refine Keeps.next ?_
    exact Only.refl _ _ _
  · rename_i a2 a3 a4
    refine Keeps.ite ?_ ?_
    · refine Keeps.next ?_
      refine Only.step ?_ (State.commitItem_only ..)
      exact Only.refl _ _ _
    · refine Keeps.ite ?_ ?_
      · refine Keeps.next ?_
        exact Only.refl _ _ _
      · extract_lets +onlyGivenNames v5
        have h6 : Only 68351748112347229395534847400536976154415842825033932210711221972521408184387015276404544219554848 187072209578355574179109450515561546480324757919880 s v5 := by
          unfold v5
          refine Only.step ?_ (State.suspendFor_only ..)
          exact Only.refl _ _ _
        obtain ⟨w7, e8⟩ : ∃ x, x = v5 := ⟨_, rfl⟩
        rw [← e8] at h6 ⊢
        clear e8 v5
        refine State.within_only ?_
        split
        · rename_i a9 a10 a11
          have h12 : Only 68351748112347229395534847400536976154415842825033932210711221972521408184387015276404544219554848 187072209578355574179109450515561546480324757919880 s a10 := by
            refine Only.of_snd a11 ?_
            refine Only.step ?_ (State.readSrc_only ..)
            exact h6
          refine Only.ite ?_ ?_
          · refine Only.step ?_ (State.endItem_only ..)
            exact h12
          · refine Only.step ?_ (State.runOpen_only ..)
            exact h12
        · rename_i a13 a14 a15 a16 a17
          have h18 : Only 68351748112347229395534847400536976154415842825033932210711221972521408184387015276404544219554848 187072209578355574179109450515561546480324757919880 s a15 := by
            refine Only.of_snd a17 ?_
            refine Only.step ?_ (State.readSrc_only ..)
            exact h6
          refine Only.step ?_ (State.runOpen_only ..)
          exact h18

theorem State.relayBooks_only (s : State) (n : Nat) (stream : Nat) (origin : Nat) (gens : List (Nat × Nat)) :
    Only 7237026282571302585664548867310581071927020218014549279993205352336245915648 677301871030725508633460864 s (State.relayBooks s n stream origin gens) := by
  unfold State.relayBooks
  refine Only.foldl ?_ ?_
  · exact Only.refl _ _ _
  · intro u0 u1 h2
    split
    · rename_i a3 a4 a5
      refine Only.ite ?_ ?_
      · exact h2
      · refine Only.step ?_ (State.sendBook_only ..)
        exact h2
    · rename_i a6 a7
      exact h2

theorem State.commitSeal_only (s : State) (it : Item) (g : KeyGen) :
    Only 68351748112347229395534833099687147017005906730847790429404595941145596544235638952146553830024224 187072209578355574179109443263187220422063214008456 s (State.commitSeal s it g) := by
  unfold State.commitSeal
  extract_lets +onlyGivenNames v0
  clear_value v0
  extract_lets +onlyGivenNames v1
  clear_value v1
  extract_lets +onlyGivenNames v2
  clear_value v2
  extract_lets +onlyGivenNames v3
  clear_value v3
  extract_lets +onlyGivenNames v4
  clear_value v4
  extract_lets +onlyGivenNames v5
  clear_value v5
  extract_lets +onlyGivenNames v6
  clear_value v6
  extract_lets +onlyGivenNames v7
  clear_value v7
  extract_lets +onlyGivenNames v8
  clear_value v8
  extract_lets +onlyGivenNames v9
  clear_value v9
  extract_lets +onlyGivenNames v10
  clear_value v10
  extract_lets +onlyGivenNames v11
  have h12 : Only 68351748112347229395534833099687147017005906730847790429404595941145596544235638952146553830024224 187072209578355574179109443263187220422063214008456 s v11 := by
    unfold v11
    refine Only.step ?_ (State.wrBytes_only ..)
    exact Only.refl _ _ _
  obtain ⟨w13, e14⟩ : ∃ x, x = v11 := ⟨_, rfl⟩
  rw [← e14] at h12 ⊢
  clear e14 v11
  extract_lets +onlyGivenNames v15
  clear_value v15
  extract_lets +onlyGivenNames v16
  have h17 : Only 68351748112347229395534833099687147017005906730847790429404595941145596544235638952146553830024224 187072209578355574179109443263187220422063214008456 s v16 := by
    unfold v16
    refine Only.step ?_ (State.updSess_only ..)
    exact h12
  obtain ⟨w18, e19⟩ : ∃ x, x = v16 := ⟨_, rfl⟩
  rw [← e19] at h17 ⊢
  clear e19 v16
  extract_lets +onlyGivenNames v20
  have h21 : Only 68351748112347229395534833099687147017005906730847790429404595941145596544235638952146553830024224 187072209578355574179109443263187220422063214008456 s v20 := by
    unfold v20
    refine Only.ite ?_ ?_
    · exact h17
    · refine Only.step ?_ (State.setCtx_only ..)
      exact h17
  obtain ⟨w22, e23⟩ : ∃ x, x = v20 := ⟨_, rfl⟩
  rw [← e23] at h21 ⊢
  clear e23 v20
  extract_lets +onlyGivenNames v24
  have h25 : Only 68351748112347229395534833099687147017005906730847790429404595941145596544235638952146553830024224 187072209578355574179109443263187220422063214008456 s v24 := by
    unfold v24
    refine Only.ite ?_ ?_
    · refine Only.step ?_ (State.relayBooks_only ..)
      exact h21
    · exact h21
  obtain ⟨w26, e27⟩ : ∃ x, x = v24 := ⟨_, rfl⟩
  rw [← e27] at h25 ⊢
  clear e27 v24
  refine Only.step ?_ (State.commitItem_only ..)
  exact h25

theorem execSeal_only (id : Nat) (fx : Fx) (busy : List (Nat × Nat × Nat × Nat)) (s : State) :
    Keeps (execSeal id fx busy s) (Only 68351748112347229395534833210546487153016695859175879369146911692636450714672752399311948811772960 187072209578355574179109445681038859651321563420808 s) := by
  unfold execSeal
  split
  · rename_i a0 a1
    refine Keeps.next ?_
    exact Only.refl _ _ _
  · rename_i a2 a3 a4
    extract_lets +onlyGivenNames v5
    have h6 : Only 68351748112347229395534833210546487153016695859175879369146911692636450714672752399311948811772960 187072209578355574179109445681038859651321563420808 s v5 := by
      unfold v5
      refine Only.step ?_ (State.suspendFor_only ..)
      exact Only.refl _ _ _
    obtain ⟨w7, e8⟩ : ∃ x, x = v5 := ⟨_, rfl⟩
    rw [← e8] at h6 ⊢
    clear e8 v5
    refine State.within_only ?_
    split
    · rename_i a9 a10 a11
      have h12 : Only 68351748112347229395534833210546487153016695859175879369146911692636450714672752399311948811772960 187072209578355574179109445681038859651321563420808 s a10 := by
        refine Only.of_snd a11 ?_
        refine Only.step ?_ (State.readSrc_only ..)
        exact h6
      refine Only.step ?_ (State.endItem_only ..)
      exact h12
    · rename_i a13 a14 a15 a16 a17
      have h18 : Only 68351748112347229395534833210546487153016695859175879369146911692636450714672752399311948811772960 187072209578355574179109445681038859651321563420808 s a15 := by
        refine Only.of_snd a17 ?_
        refine Only.step ?_ (State.readSrc_only ..)
        exact h6
      split
      · rename_i a19 a20
        refine Only.step ?_ (State.endItem_only ..)
        exact h18
      · rename_i a21 a22 a23 a24
        split
        · rename_i a25 a26 a27
          refine Only.step ?_ (State.commitSeal_only ..)
          exact h18
        · rename_i a28 a29
          refine Only.step ?_ (State.endItem_only ..)
          exact h18

theorem execSuspendedResume_only (pipeline : Nat) (s : State) :
    Keeps (execSuspendedResume pipeline s) (Only 431359146674410236714672241392314090778194310760649159697657763987456 2417851639229258349412352 s) := by
  unfold execSuspendedResume
  extract_lets +onlyGivenNames v0
  clear_value v0
  refine Keeps.next ?_
  refine Only.trans ?_ (State.setf_only _ _ _ _ (by decide))
  refine Only.up_ciph ?_
  exact Only.refl _ _ _

/-! ### Frames -/

theorem State.takeReport_only (s : State) (pl : List Byte) :
    Only 3705346855594118253554271520278013051304639509300498049262642688253220148477952 2854495385411919762116571938898990272765493248 s (State.takeReport s pl) := by
  unfold State.takeReport
  extract_lets +onlyGivenNames v0
  clear_value v0
  extract_lets +onlyGivenNames v1
  clear_value v1
  extract_lets +onlyGivenNames v2
  clear_value v2
  extract_lets +onlyGivenNames v3
  clear_value v3
  refine Only.trans ?_ (State.setf_only _ _ _ _ (by decide))
  refine Only.up_time ?_
  exact Only.refl _ _ _

theorem State.hostSend_only (s : State) (fr : List Byte) :
    Only 48312224427533946512043291035939178167157762805192705886137669566595072 302231454903657293676552 s (State.hostSend s fr) := by
  unfold State.hostSend
  split
  · rename_i a0 a1 a2 a3
    refine Only.step ?_ (State.sendOut_only ..)
    exact Only.refl _ _ _
  · rename_i a4 a5
    refine Only.step ?_ (State.sendOut_only ..)
    exact Only.refl _ _ _

theorem State.relayOut_only (s : State) (pl : List Byte) :
    Only 3557132981418665747839634605978935820288393107095635890097329686609229012105428992 302231454903657293676552 s (State.relayOut s pl) := by
  unfold State.relayOut
  extract_lets +onlyGivenNames v0
  clear_value v0
  extract_lets +onlyGivenNames v1
  clear_value v1
  refine Only.ite ?_ ?_
  · refine Only.trans ?_ (State.event_only _ _ _ (by decide))
    refine Only.trans ?_ (State.count_only _ _ _ _ (by decide))
    exact Only.refl _ _ _
  · split
    · rename_i a2 a3
      exact Only.refl _ _ _
    · rename_i a4 a5 a6 a7
      extract_lets +onlyGivenNames v8
      clear_value v8
      refine Only.ite ?_ ?_
      · extract_lets +onlyGivenNames v9
        clear_value v9
        extract_lets +onlyGivenNames v10
        clear_value v10
        extract_lets +onlyGivenNames v11
        clear_value v11
        extract_lets +onlyGivenNames v12
        clear_value v12
        extract_lets +onlyGivenNames v13
        clear_value v13
        extract_lets +onlyGivenNames v14
        clear_value v14
        refine Only.ite ?_ ?_
        · refine Only.trans ?_ (State.event_only _ _ _ (by decide))
          refine Only.trans ?_ (State.count_only _ _ _ _ (by decide))
          exact Only.refl _ _ _
        · extract_lets +onlyGivenNames v15
          clear_value v15
          extract_lets +onlyGivenNames v16
          clear_value v16
          refine Only.trans ?_ (State.count_only _ _ _ _ (by decide))
          refine Only.step ?_ (State.hostSend_only ..)
          exact Only.refl _ _ _
      · refine Only.trans ?_ (State.count_only _ _ _ _ (by decide))
        refine Only.step ?_ (State.hostSend_only ..)
        exact Only.refl _ _ _

theorem State.timePayload_only (s : State) (n : Nat) (pl : List Byte) :
    Only 3560838328274259866093188877499213833339697746604936388146592329297482232253906944 2854495385411919762116874170353893930059169800 s (State.timePayload s n pl) := by
  unfold State.timePayload
  refine Only.ite ?_ ?_
  · exact Only.refl _ _ _
  · refine Only.ite ?_ ?_
    · refine Only.step ?_ (State.takeReport_only ..)
      exact Only.refl _ _ _
    · refine Only.ite ?_ ?_
      · refine Only.step ?_ (State.relayOut_only ..)
        exact Only.refl _ _ _
      · exact Only.refl _ _ _

/-! ### Transfer -/

theorem State.syncGate_only (s : State) :
    Only 340282366920938463463374607431768211456 0 s (State.syncGate s) := by
  unfold State.syncGate
  refine Only.trans ?_ (State.setf_only _ _ _ _ (by decide))
  exact Only.refl _ _ _

theorem State.syncIsland_only (s : State) :
    Only 340282366920938463463374607431768211456 79228162514264337593543950336 s (State.syncIsland s) := by
  unfold State.syncIsland
  extract_lets +onlyGivenNames v0
  clear_value v0
  extract_lets +onlyGivenNames v1
  unfold v1
  clear v1
  extract_lets +onlyGivenNames v2
  have h3 : Only 340282366920938463463374607431768211456 79228162514264337593543950336 s v2 := by
    unfold v2
    refine Only.up_peer ?_
    exact Only.refl _ _ _
  obtain ⟨w4, e5⟩ : ∃ x, x = v2 := ⟨_, rfl⟩
  rw [← e5] at h3 ⊢
  clear e5 v2
  refine Only.trans ?_ (State.setf_only _ _ _ _ (by decide))
  refine Only.trans ?_ (State.setf_only _ _ _ _ (by decide))
  exact h3

theorem State.sendDone_only (s : State) (id : Nat) :
    Only 68351748112347229395527596073404575714420242181980479848332668920927581994955645746794217584108576 187072209578355574179108765961207815075121536931976 s (State.sendDone s id) := by
  unfold State.sendDone
  split
  · rename_i a0 a1 a2
    extract_lets +onlyGivenNames v3
    clear_value v3
    refine Only.ite ?_ ?_
    · refine Only.step ?_ (State.commitItem_only ..)
      exact Only.refl _ _ _
    · exact Only.refl _ _ _
  · rename_i a4 a5
    exact Only.refl _ _ _

theorem State.syncJournal_only (s : State) :
    Only 680564733841876926926749214863536422912 0 s (State.syncJournal s) := by
  unfold State.syncJournal
  extract_lets +onlyGivenNames v0
  clear_value v0
  refine Only.trans ?_ (State.setf_only _ _ _ _ (by decide))
  refine Only.trans ?_ (State.setf_only _ _ _ _ (by decide))
  exact Only.refl _ _ _

theorem State.sendStep_only (s : State) (kind : Nat) (step : Nat) (set : Nat) :
    Only 7237026282571302585664548867310581071927020218014549279993205352336245915648 677301871030716712540438656 s (State.sendStep s kind step set) := by
  unfold State.sendStep
  refine Only.foldl ?_ ?_
  · exact Only.refl _ _ _
  · intro u0 u1 h2
    refine Only.step ?_ (State.sendData_only ..)
    exact h2

theorem State.growReady_only (s : State) (step : Nat) (set : Nat) :
    Only 7237026282571302585664548867310581071927020218014549279993205352336245915648 3153181949601477262338687104 s (State.growReady s step set) := by
  unfold State.growReady
  extract_lets +onlyGivenNames v0
  clear_value v0
  extract_lets +onlyGivenNames v1
  clear_value v1
  refine Only.ite ?_ ?_
  · exact Only.refl _ _ _
  · refine Only.step ?_ (State.sendStep_only ..)
    refine Only.up_peer ?_
    exact Only.refl _ _ _

theorem State.noteReady_only (s : State) :
    Only 7237026282571302585664548867310581071927020218014549279993205352336245915648 3153181949601477262338687104 s (State.noteReady s) := by
  unfold State.noteReady
  extract_lets +onlyGivenNames v0
  clear_value v0
  refine Only.foldl ?_ ?_
  · exact Only.refl _ _ _
  · intro u1 u2 h3
    refine Only.ite ?_ ?_
    · refine Only.step ?_ (State.growReady_only ..)
      exact h3
    · exact h3

theorem State.noteRecv_only (s : State) (it : Item) :
    Only 7237026282571302585664548867310581071927020218014549279993205352336245915648 2538454382406060280255745097856 s (State.noteRecv s it) := by
  unfold State.noteRecv
  refine Only.ite ?_ ?_
  · exact Only.refl _ _ _
  · extract_lets +onlyGivenNames v0
    clear_value v0
    refine Only.step ?_ (State.noteReady_only ..)
    refine Only.up_peer ?_
    exact Only.refl _ _ _

theorem State.recvDone_only (s : State) (it : Item) :
    Only 68351748112347229395534833099687147017005906730847790429404595941145596544235638952146553830024224 187072209578355574181648458283761535357085224769672 s (State.recvDone s it) := by
  unfold State.recvDone
  split
  · rename_i a0 a1
    exact Only.refl _ _ _
  · rename_i a2 a3 a4
    extract_lets +onlyGivenNames v5
    clear_value v5
    extract_lets +onlyGivenNames v6
    unfold v6
    clear v6
    extract_lets +onlyGivenNames v7
    have h8 : Only 68351748112347229395534833099687147017005906730847790429404595941145596544235638952146553830024224 187072209578355574181648458283761535357085224769672 s v7 := by
      unfold v7
      refine Only.up_peer ?_
      exact Only.refl _ _ _
    obtain ⟨w9, e10⟩ : ∃ x, x = v7 := ⟨_, rfl⟩
    rw [← e10] at h8 ⊢
    clear e10 v7
    refine Only.ite ?_ ?_
    · refine Only.step ?_ (State.endItem_only ..)
      exact h8
    · refine Only.step ?_ (State.noteRecv_only ..)
      refine Only.step ?_ (State.commitItem_only ..)
      refine Only.step ?_ (State.wrBytes_only ..)
      exact h8

theorem State.syncCircuits_only (s : State) :
    Only 11692013098647223345629478661730264157247460343808 0 s (State.syncCircuits s) := by
  unfold State.syncCircuits
  refine Only.trans ?_ (State.setf_only _ _ _ _ (by decide))
  exact Only.refl _ _ _

theorem State.setCircuit_only (s : State) (i : Nat) (c : Circuit) :
    Only 11692013098647223345629478661730264157247460343808 85070591730234615865843651857942052864 s (State.setCircuit s i c) := by
  unfold State.setCircuit
  refine Only.step ?_ (State.syncCircuits_only ..)
  refine Only.up_fab ?_
  exact Only.refl _ _ _

theorem State.abandonSend_only (s : State) (it : Item) :
    Only 7237026282571302585664548867310581071927020218014549279993205352336245915648 677301871030716712540438656 s (State.abandonSend s it) := by
  unfold State.abandonSend
  extract_lets +onlyGivenNames v0
  clear_value v0
  extract_lets +onlyGivenNames v1
  clear_value v1
  refine Only.step ?_ (State.sendAbandon_only ..)
  exact Only.refl _ _ _

theorem State.degradeWhere_only (s : State) (p : Item → Bool) :
    Only 0 128 s (State.degradeWhere s p) := by
  unfold State.degradeWhere
  refine Only.up_seq ?_
  exact Only.refl _ _ _

theorem State.failLink_only (s : State) (id : Nat) :
    Only 68351748112347229395527596073404575714420242182728768686646091215047868629306382652858055046112288 187072209578355574179108765961207815075121536931976 s (State.failLink s id) := by
  unfold State.failLink
  split
  · rename_i a0 a1 a2
    refine Only.step ?_ (State.endItem_only ..)
    refine Only.trans ?_ (State.eventIf_only _ _ _ _ (by decide))
    exact Only.refl _ _ _
  · rename_i a3 a4
    exact Only.refl _ _ _

theorem State.latchJournal_only (s : State) (it : Item) :
    Only 0 128 s (State.latchJournal s it) := by
  unfold State.latchJournal
  split
  · rename_i a0 a1 a2
    split
    · rename_i a3 a4 a5
      refine Only.step ?_ (State.updItem_only ..)
      exact Only.refl _ _ _
    · rename_i a6 a7
      exact Only.refl _ _ _
  · rename_i a8 a9
    exact Only.refl _ _ _

theorem State.writeRecord_only (s : State) (slot : Nat) (gen : Nat) (step : Nat) (stream : Nat) (kind : Nat) (release : Nat) (block0 : Nat) (book : Nat) (payload : List Byte) :
    Only 680564733841876926926749214863536422912 39614383596961693887109267456 s (State.writeRecord s slot gen step stream kind release block0 book payload) := by
  unfold State.writeRecord
  split
  · rename_i a0 a1 a2 a3 a4 a5 a6
    extract_lets +onlyGivenNames v7
    clear_value v7
    extract_lets +onlyGivenNames v8
    have h9 : Only 680564733841876926926749214863536422912 39614383596961693887109267456 s v8 := by
      unfold v8
      refine Only.step ?_ (State.updGen_only ..)
      refine Only.step ?_ (State.wrBytes_only ..)
      exact Only.refl _ _ _
    obtain ⟨w10, e11⟩ : ∃ x, x = v8 := ⟨_, rfl⟩
    rw [← e11] at h9 ⊢
    clear e11 v8
    extract_lets +onlyGivenNames v12
    clear_value v12
    refine Only.step ?_ (State.syncJournal_only ..)
    refine Only.up_peer ?_
    exact h9
  · rename_i a13 a14 a15
    exact Only.refl _ _ _

theorem State.journalBooks_only (s : State) (it : Item) (slot : Nat) (gen : Nat) (release : Nat) (bs : List Byte) :
    Only 680564733841876926926749214863536422912 39614383596961693887109267456 s (State.journalBooks s it slot gen release bs) := by
  unfold State.journalBooks
  extract_lets +onlyGivenNames v0
  clear_value v0
  refine Only.foldl ?_ ?_
  · exact Only.refl _ _ _
  · intro u1 u2 h3
    refine Only.ite ?_ ?_
    · exact h3
    · split
      · rename_i a4 a5 a6
        refine Only.step ?_ (State.writeRecord_only ..)
        exact h3
      · rename_i a7 a8
        exact h3

theorem execJournal_only (id : Nat) (fx : Fx) (s : State) :
    Keeps (execJournal id fx s) (Only 68351748112347229395527596073404615155107600474637802750250943907156340176832851900876430757504032 187072209578355574179148380344804776769008646199432 s) := by
  unfold execJournal
  split
  · rename_i a0 a1
    refine Keeps.next ?_
    exact Only.refl _ _ _
  · rename_i a2 a3 a4
    refine Keeps.ite ?_ ?_
    · refine Keeps.next ?_
      refine Only.step ?_ (State.commitItem_only ..)
      exact Only.refl _ _ _
    · refine State.within_only ?_
      split
      · rename_i a5 a6 a7
        have h8 : Only 68351748112347229395527596073404615155107600474637802750250943907156340176832851900876430757504032 187072209578355574179148380344804776769008646199432 s a6 := by
          refine Only.of_snd a7 ?_
          refine Only.step ?_ (State.readSrc_only ..)
          exact Only.refl _ _ _
        refine Only.step ?_ (State.endItem_only ..)
        exact h8
      · rename_i a9 a10 a11 a12 a13
        have h14 : Only 68351748112347229395527596073404615155107600474637802750250943907156340176832851900876430757504032 187072209578355574179148380344804776769008646199432 s a11 := by
          refine Only.of_snd a13 ?_
          refine Only.step ?_ (State.readSrc_only ..)
          exact Only.refl _ _ _
        split
        · rename_i a15 a16
          refine Only.step ?_ (State.endItem_only ..)
          exact h14
        · rename_i a17 a18 a19 a20
          extract_lets +onlyGivenNames v21
          clear_value v21
          extract_lets +onlyGivenNames v22
          clear_value v22
          extract_lets +onlyGivenNames v23
          clear_value v23
          extract_lets +onlyGivenNames v24
          have h25 : Only 68351748112347229395527596073404615155107600474637802750250943907156340176832851900876430757504032 187072209578355574179148380344804776769008646199432 s v24 := by
            unfold v24
            refine Only.step ?_ (State.journalBooks_only ..)
            exact h14
          obtain ⟨w26, e27⟩ : ∃ x, x = v24 := ⟨_, rfl⟩
          rw [← e27] at h25 ⊢
          clear e27 v24
          extract_lets +onlyGivenNames v28
          clear_value v28
          refine Only.step ?_ (State.commitItem_only ..)
          refine Only.step ?_ (State.writeRecord_only ..)
          exact h25

theorem State.noteRelease_only (s : State) (step : Nat) :
    Only 697238569821002911636454570627693065273344 79228162514264337593543950336 s (State.noteRelease s step) := by
  unfold State.noteRelease
  refine Only.ite ?_ ?_
  · exact Only.refl _ _ _
  · extract_lets +onlyGivenNames v0
    clear_value v0
    refine Only.ite ?_ ?_
    · refine Only.step ?_ (State.syncIsland_only ..)
      refine Only.up_peer ?_
      exact Only.refl _ _ _
    · refine Only.step ?_ (State.syncIsland_only ..)
      refine Only.trans ?_ (State.count_only _ _ _ _ (by decide))
      refine Only.up_peer ?_
      exact Only.refl _ _ _

theorem execMove_only (id : Nat) (fx : Fx) (s : State) :
    Keeps (execMove id fx s) (Only 68351748112347229395527596073404615155107600475386091589260924206363787845893116628353097748358176 187072209578355574179187994123830454034148124498056 s) := by
  unfold execMove
  split
  · rename_i a0 a1
    refine Keeps.next ?_
    exact Only.refl _ _ _
  · rename_i a2 a3 a4
    extract_lets +onlyGivenNames v5
    clear_value v5
    extract_lets +onlyGivenNames v6
    clear_value v6
    refine State.within_only ?_
    refine Only.ite ?_ ?_
    · refine Only.step ?_ (State.failLink_only ..)
      exact Only.refl _ _ _
    · split
      · rename_i a7 a8 a9
        have h10 : Only 68351748112347229395527596073404615155107600475386091589260924206363787845893116628353097748358176 187072209578355574179187994123830454034148124498056 s a8 := by
          refine Only.of_snd a9 ?_
          refine Only.step ?_ (State.readSrc_only ..)
          exact Only.refl _ _ _
        refine Only.step ?_ (State.endItem_only ..)
        exact h10
      · rename_i a11 a12 a13 a14 a15
        have h16 : Only 68351748112347229395527596073404615155107600475386091589260924206363787845893116628353097748358176 187072209578355574179187994123830454034148124498056 s a13 := by
          refine Only.of_snd a15 ?_
          refine Only.step ?_ (State.readSrc_only ..)
          exact Only.refl _ _ _
        extract_lets +onlyGivenNames v17
        clear_value v17
        refine Only.ite ?_ ?_
        · refine Only.step ?_ (State.commitItem_only ..)
          refine Only.step ?_ (State.wrBytes_only ..)
          exact h16
        · extract_lets +onlyGivenNames v18
          have h19 : Only 68351748112347229395527596073404615155107600475386091589260924206363787845893116628353097748358176 187072209578355574179187994123830454034148124498056 s v18 := by
            unfold v18
            refine Only.step ?_ (State.emit_only ..)
            exact h16
          obtain ⟨w20, e21⟩ : ∃ x, x = v18 := ⟨_, rfl⟩
          rw [← e21] at h19 ⊢
          clear e21 v18
          extract_lets +onlyGivenNames v22
          have h23 : Only 68351748112347229395527596073404615155107600475386091589260924206363787845893116628353097748358176 187072209578355574179187994123830454034148124498056 s v22 := by
            unfold v22
            refine Only.ite ?_ ?_
            · refine Only.step ?_ (State.noteRelease_only ..)
              exact h19
            · exact h19
          obtain ⟨w24, e25⟩ : ∃ x, x = v22 := ⟨_, rfl⟩
          rw [← e25] at h23 ⊢
          clear e25 v22
          refine Only.step ?_ (State.commitItem_only ..)
          exact h23

theorem execRecv_only (id : Nat) (s : State) :
    Keeps (execRecv id s) (Only 68351748112347229395534833099687147017005906730847790429404595941145596544235638952146553830024224 187072209578355574181648458283761535357085224769672 s) := by
  unfold execRecv
  split
  · rename_i a0 a1
    refine Keeps.next ?_
    exact Only.refl _ _ _
  · rename_i a2 a3 a4
    refine Keeps.ite ?_ ?_
    · refine Keeps.next ?_
      refine Only.step ?_ (State.noteRecv_only ..)
      refine Only.step ?_ (State.commitItem_only ..)
      exact Only.refl _ _ _
    · refine State.within_only ?_
      refine Only.step ?_ (State.recvDone_only ..)
      exact Only.refl _ _ _

theorem State.offer_only (s : State) (it : Item) :
    Only 7237005577332262213973186563042994240850662864687632768833539864763574517760 676999639575813055246762112 s (State.offer s it) := by
  unfold State.offer
  extract_lets +onlyGivenNames v0
  clear_value v0
  extract_lets +onlyGivenNames v1
  clear_value v1
  extract_lets +onlyGivenNames v2
  clear_value v2
  extract_lets +onlyGivenNames v3
  have h4 : Only 7237005577332262213973186563042994240850662864687632768833539864763574517760 676999639575813055246762112 s v3 := by
    unfold v3
    refine Only.step ?_ (State.updSess_only ..)
    exact Only.refl _ _ _
  obtain ⟨w5, e6⟩ : ∃ x, x = v3 := ⟨_, rfl⟩
  rw [← e6] at h4 ⊢
  clear e6 v3
  refine Only.step ?_ (State.pumpTx_only ..)
  refine Only.step ?_ (State.syncOldest_only ..)
  refine Only.step ?_ (State.updItem_only ..)
  exact h4

theorem execSend_only (id : Nat) (fx : Fx) (s : State) :
    Keeps (execSend id fx s) (Only 68351748112347229395534833078981947417321573661200845744491114005287185932674758691526330795598880 187072209578355574179109442960847390888176783693960 s) := by
  unfold execSend
  split
  · rename_i a0 a1
    refine Keeps.next ?_
    exact Only.refl _ _ _
  · rename_i a2 a3 a4
    refine Keeps.ite ?_ ?_
    · refine Keeps.next ?_
      refine Only.step ?_ (State.commitItem_only ..)
      exact Only.refl _ _ _
    · refine Keeps.ite ?_ ?_
      · refine State.within_only ?_
        split
        · rename_i a5 a6 a7
          have h8 : Only 68351748112347229395534833078981947417321573661200845744491114005287185932674758691526330795598880 187072209578355574179109442960847390888176783693960 s a6 := by
            refine Only.of_snd a7 ?_
            refine Only.step ?_ (State.readSrc_only ..)
            exact Only.refl _ _ _
          refine Only.step ?_ (State.endItem_only ..)
          exact h8
        · rename_i a9 a10 a11 a12 a13
          have h14 : Only 68351748112347229395534833078981947417321573661200845744491114005287185932674758691526330795598880 187072209578355574179109442960847390888176783693960 s a11 := by
            refine Only.of_snd a13 ?_
            refine Only.step ?_ (State.readSrc_only ..)
            exact Only.refl _ _ _
          refine Only.step ?_ (State.sendDone_only ..)
          refine Only.step ?_ (State.offer_only ..)
          exact h14
      · refine Keeps.next ?_
        refine Only.step ?_ (State.sendDone_only ..)
        exact Only.refl _ _ _

/-! ### Fabric -/

theorem State.putFlit_only (s : State) (x : FabPkt) :
    Only 0 7486212072260646196194241363498900652032 s (State.putFlit s x) := by
  unfold State.putFlit
  extract_lets +onlyGivenNames v0
  clear_value v0
  extract_lets +onlyGivenNames v1
  clear_value v1
  extract_lets +onlyGivenNames v2
  clear_value v2
  extract_lets +onlyGivenNames v3
  clear_value v3
  refine Only.up_fab ?_
  exact Only.refl _ _ _

theorem State.fabSend_only (s : State) (p : FPkt) (ends : Option FabReq) :
    Only 0 7486212072260646196194241363498900652032 s (State.fabSend s p ends) := by
  unfold State.fabSend
  refine Only.step ?_ (State.putFlit_only ..)
  exact Only.refl _ _ _

theorem State.bridgedIn_only (s : State) (bs : List Byte) :
    Only 215507185434265620706642550693012228946385189057069056 7826494439181584659657615970930668863488 s (State.bridgedIn s bs) := by
  unfold State.bridgedIn
  extract_lets +onlyGivenNames v0
  clear_value v0
  extract_lets +onlyGivenNames v1
  have h2 : Only 215507185434265620706642550693012228946385189057069056 7826494439181584659657615970930668863488 s v1 := by
    unfold v1
    refine Only.trans ?_ (State.count_only _ _ _ _ (by decide))
    exact Only.refl _ _ _
  obtain ⟨w3, e4⟩ : ∃ x, x = v1 := ⟨_, rfl⟩
  rw [← e4] at h2 ⊢
  clear e4 v1
  refine Only.ite ?_ ?_
  · refine Only.step ?_ (State.fabSend_only ..)
    exact h2
  · extract_lets +onlyGivenNames v5
    clear_value v5
    split
    · rename_i a6 a7 a8
      refine Only.step ?_ (State.fabSend_only ..)
      refine Only.up_fab ?_
      exact h2
    · rename_i a9 a10
      refine Only.trans ?_ (State.count_only _ _ _ _ (by decide))
      exact h2

theorem State.deliverMessage_only (s : State) (stream : Nat) (bs : List Byte) :
    Only 215507185434265620706642550693012228946385189057069056 7826494439181584659657615970930668863496 s (State.deliverMessage s stream bs) := by
  unfold State.deliverMessage
  refine Only.ite ?_ ?_
  · refine Only.foldl ?_ ?_
    · exact Only.refl _ _ _
    · intro u0 u1 h2
      refine Only.step ?_ (State.bridgedIn_only ..)
      exact h2
  · extract_lets +onlyGivenNames v3
    clear_value v3
    split
    · rename_i a4 a5 a6
      refine Only.step ?_ (State.emit_only ..)
      exact Only.refl _ _ _
    · rename_i a7 a8
      exact Only.refl _ _ _

theorem State.sendError_only (s : State) (p : FPkt) (st : Status) (ends : Option FabReq) :
    Only 748288838313422294120286634350736906063837462003712 7486212072260646196194241363498900652032 s (State.sendError s p st ends) := by
  unfold State.sendError
  refine Only.trans ?_ (State.event_only _ _ _ (by decide))
  refine Only.step ?_ (State.fabSend_only ..)
  exact Only.refl _ _ _

theorem State.errorReqs_only (s : State) (which : FabReq → Bool) (st : Status) :
    Only 748288838313422294120286634350736906063837462003712 7826494439181584659657615970930668863488 s (State.errorReqs s which st) := by
  unfold State.errorReqs
  extract_lets +onlyGivenNames v0
  clear_value v0
  extract_lets +onlyGivenNames v1
  unfold v1
  clear v1
  extract_lets +onlyGivenNames v2
  have h3 : Only 748288838313422294120286634350736906063837462003712 7826494439181584659657615970930668863488 s v2 := by
    unfold v2
    refine Only.up_fab ?_
    exact Only.refl _ _ _
  obtain ⟨w4, e5⟩ : ∃ x, x = v2 := ⟨_, rfl⟩
  rw [← e5] at h3 ⊢
  clear e5 v2
  refine Only.foldl ?_ ?_
  · exact h3
  · intro u6 u7 h8
    refine Only.step ?_ (State.sendError_only ..)
    exact h8

theorem State.syncPkt_only (s : State) :
    Only 11692013098647223345629478661730264157247460343808 0 s (State.syncPkt s) := by
  unfold State.syncPkt
  refine Only.trans ?_ (State.setf_only _ _ _ _ (by decide))
  exact Only.refl _ _ _

theorem State.rehome_only (s : State) (w : Nat) :
    Only 0 7486212072260646196194241363498900652032 s (State.rehome s w) := by
  unfold State.rehome
  extract_lets +onlyGivenNames v0
  clear_value v0
  extract_lets +onlyGivenNames v1
  clear_value v1
  extract_lets +onlyGivenNames v2
  unfold v2
  clear v2
  extract_lets +onlyGivenNames v3
  have h4 : Only 0 7486212072260646196194241363498900652032 s v3 := by
    unfold v3
    refine Only.up_fab ?_
    exact Only.refl _ _ _
  obtain ⟨w5, e6⟩ : ∃ x, x = v3 := ⟨_, rfl⟩
  rw [← e6] at h4 ⊢
  clear e6 v3
  refine Only.foldl ?_ ?_
  · exact h4
  · intro u7 u8 h9
    refine Only.step ?_ (State.putFlit_only ..)
    exact h9

theorem State.setWave_only (s : State) (w : Nat) (up : Bool) :
    Only 766259462446043076402519143053816322073526808552144896 7486212072260646196194241363498900652032 s (State.setWave s w up) := by
  unfold State.setWave
  refine Only.ite ?_ ?_
  · exact Only.refl _ _ _
  · extract_lets +onlyGivenNames v0
    have h1 : Only 766259462446043076402519143053816322073526808552144896 7486212072260646196194241363498900652032 s v0 := by
      unfold v0
      refine Only.step ?_ (State.syncPkt_only ..)
      refine Only.trans ?_ (State.putBit_only _ _ _ _ _ (by decide))
      exact Only.refl _ _ _
    obtain ⟨w2, e3⟩ : ∃ x, x = v0 := ⟨_, rfl⟩
    rw [← e3] at h1 ⊢
    clear e3 v0
    refine Only.ite ?_ ?_
    · refine Only.step ?_ (State.rehome_only ..)
      exact h1
    · exact h1

theorem State.sendMessage_only (s : State) (stream : Nat) (body : List Byte) :
    Only 7237026282571302585664548867310581071927020218014549279993205352336245915648 677301871030716712540438656 s (State.sendMessage s stream body) := by
  unfold State.sendMessage
  extract_lets +onlyGivenNames v0
  clear_value v0
  extract_lets +onlyGivenNames v1
  clear_value v1
  extract_lets +onlyGivenNames v2
  clear_value v2
  refine Only.step ?_ (State.sendData_only ..)
  refine Only.step ?_ (State.setCtx_only ..)
  exact Only.refl _ _ _

theorem State.closeBridge_only (s : State) (stream : Nat) :
    Only 7237026282571302585664548867310581071927020218014549279993205352336245915648 170141183461146533602718020428424544384 s (State.closeBridge s stream) := by
  unfold State.closeBridge
  split
  · rename_i a0 a1 a2
    refine Only.step ?_ (State.sendMessage_only ..)
    refine Only.up_fab ?_
    exact Only.refl _ _ _
  · rename_i a3 a4
    exact Only.refl _ _ _

theorem execBridgeFlush_only (stream : Nat) (s : State) :
    Keeps (execBridgeFlush stream s) (Only 7237026282571302585664548867310581071927020218014549279993205352336245915648 170141183461146533602718020428424544384 s) := by
  unfold execBridgeFlush
  split
  · rename_i a0 a1 a2
    refine Keeps.next ?_
    refine Only.ite ?_ ?_
    · refine Only.step ?_ (State.closeBridge_only ..)
      exact Only.refl _ _ _
    · exact Only.refl _ _ _
  · rename_i a3 a4
    refine Keeps.next ?_
    exact Only.refl _ _ _

theorem State.landBulk_only (s : State) (i : Nat) (c : Circuit) (bs : List Byte) :
    Only 11692013098647223345629478661730264157247460343808 85070591730234615974506503667137380352 s (State.landBulk s i c bs) := by
  unfold State.landBulk
  split
  · rename_i a0 a1
    exact Only.refl _ _ _
  · rename_i a2 a3 a4
    extract_lets +onlyGivenNames v5
    clear_value v5
    extract_lets +onlyGivenNames v6
    clear_value v6
    refine Only.step ?_ (State.setCircuit_only ..)
    refine Only.step ?_ (State.noteArrival_only ..)
    refine Only.step ?_ (State.wrBytes_only ..)
    exact Only.refl _ _ _

theorem State.bridgeBulk_only (s : State) (i : Nat) (c : Circuit) (bs : List Byte) :
    Only 7237026282571302585664548879002594170574243563644027941723469509583706259456 85070591730911917736874368570482491520 s (State.bridgeBulk s i c bs) := by
  unfold State.bridgeBulk
  refine Only.ite ?_ ?_
  · refine Only.step ?_ (State.sendMessage_only ..)
    exact Only.refl _ _ _
  · extract_lets +onlyGivenNames v0
    clear_value v0
    extract_lets +onlyGivenNames v1
    clear_value v1
    extract_lets +onlyGivenNames v2
    clear_value v2
    extract_lets +onlyGivenNames v3
    clear_value v3
    extract_lets +onlyGivenNames v4
    have h5 : Only 7237026282571302585664548879002594170574243563644027941723469509583706259456 85070591730911917736874368570482491520 s v4 := by
      unfold v4
      refine Only.step ?_ (State.setCircuit_only ..)
      exact Only.refl _ _ _
    obtain ⟨w6, e7⟩ : ∃ x, x = v4 := ⟨_, rfl⟩
    rw [← e7] at h5 ⊢
    clear e7 v4
    split
    · rename_i a8 a9 a10 a11 a12
      extract_lets +onlyGivenNames v13
      clear_value v13
      refine Only.step ?_ (State.sendMessage_only ..)
      exact h5
    · rename_i a14 a15 a16
      exact h5

theorem execBulkReceive_only (i : Nat) (bs : List Byte) (s : State) :
    Keeps (execBulkReceive i bs s) (Only 7237026282571302585664561599912845498753243608516811904250872594820560322560 85070591730911917845537220379677819008 s) := by
  unfold execBulkReceive
  split
  · rename_i a0 a1
    refine Keeps.next ?_
    exact Only.refl _ _ _
  · rename_i a2 a3 a4
    refine Keeps.ite ?_ ?_
    · refine Keeps.next ?_
      refine Only.trans ?_ (State.countEv_only _ _ _ _ (by decide) (by decide))
      exact Only.refl _ _ _
    · refine Keeps.ite ?_ ?_
      · refine Keeps.next ?_
        exact Only.refl _ _ _
      · refine Keeps.ite ?_ ?_
        · split
          · rename_i a5 a6 a7
            refine State.within_only ?_
            refine Only.step ?_ (State.landBulk_only ..)
            exact Only.refl _ _ _
          · rename_i a8 a9
            refine Keeps.next ?_
            exact Only.refl _ _ _
        · refine Keeps.next ?_
          refine Only.step ?_ (State.bridgeBulk_only ..)
          exact Only.refl _ _ _

theorem execEscapeTimeout_only (wave : Nat) (flit : Nat) (s : State) :
    Keeps (execEscapeTimeout wave flit s) (Only 48638774490372449117818631232797898894149435030241280 680564733841876926926749214863536422912 s) := by
  unfold execEscapeTimeout
  split
  · rename_i a0 a1
    refine Keeps.next ?_
    exact Only.refl _ _ _
  · rename_i a2 a3 a4
    extract_lets +onlyGivenNames v5
    clear_value v5
    extract_lets +onlyGivenNames v6
    clear_value v6
    extract_lets +onlyGivenNames v7
    clear_value v7
    refine Keeps.ite ?_ ?_
    · extract_lets +onlyGivenNames v8
      clear_value v8
      refine Keeps.next ?_
      refine Only.trans ?_ (State.countEv_only _ _ _ _ (by decide) (by decide))
      refine Only.up_fab ?_
      exact Only.refl _ _ _
    · refine Keeps.next ?_
      exact Only.refl _ _ _

theorem execFabricDelivery_only (wave : Nat) (flit : Nat) (s : State) :
    Keeps (execFabricDelivery wave flit s) (Only 383123885216472214589586756787577295904684780545900544 680564733841876926926749214863536422920 s) := by
  unfold execFabricDelivery
  split
  · rename_i a0 a1
    refine Keeps.next ?_
    exact Only.refl _ _ _
  · rename_i a2 a3 a4
    extract_lets +onlyGivenNames v5
    unfold v5
    clear v5
    extract_lets +onlyGivenNames v6
    have h7 : Only 383123885216472214589586756787577295904684780545900544 680564733841876926926749214863536422920 s v6 := by
      unfold v6
      refine Only.step ?_ (State.emit_only ..)
      refine Only.up_fab ?_
      exact Only.refl _ _ _
    obtain ⟨w8, e9⟩ : ∃ x, x = v6 := ⟨_, rfl⟩
    rw [← e9] at h7 ⊢
    clear e9 v6
    refine Keeps.next ?_
    split
    · rename_i a10 a11 a12
      refine Only.trans ?_ (State.setf_only _ _ _ _ (by decide))
      exact h7
    · rename_i a13 a14
      exact h7

theorem State.rxFlit_only (s : State) (wave : Nat) (flit : Nat) (old : Option (Nat × Nat)) :
    Only 0 2722258935367507707706996859454145691648 s (State.rxFlit s wave flit old).2 := by
  unfold State.rxFlit
  extract_lets +onlyGivenNames v0
  clear_value v0
  refine Only.pair _ ?_
  refine Only.up_fab ?_
  exact Only.refl _ _ _

theorem State.screenPkt_only (s : State) (p : FPkt) :
    OnlyOpt 21700376311089246529488312396171370275851286398107648 7486212072260646196194241363498900652032 s (State.screenPkt s p) := by
  unfold State.screenPkt
  extract_lets +onlyGivenNames v0
  clear_value v0
  refine OnlyOpt.ite ?_ ?_
  · refine OnlyOpt.some ?_
    refine Only.trans ?_ (State.countEv_only _ _ _ _ (by decide) (by decide))
    exact Only.refl _ _ _
  · refine OnlyOpt.ite ?_ ?_
    · refine OnlyOpt.some ?_
      exact Only.refl _ _ _
    · refine OnlyOpt.ite ?_ ?_
      · refine OnlyOpt.some ?_
        refine Only.step ?_ (State.sendError_only ..)
        refine Only.trans ?_ (State.count_only _ _ _ _ (by decide))
        exact Only.refl _ _ _
      · refine OnlyOpt.ite ?_ ?_
        · refine OnlyOpt.some ?_
          refine Only.step ?_ (State.sendError_only ..)
          refine Only.trans ?_ (State.count_only _ _ _ _ (by decide))
          exact Only.refl _ _ _
        · exact OnlyOpt.none _ _ _

theorem State.bridgePkt_only (s : State) (stream : Nat) (bs : List Byte) :
    Only 7237026282571302585664644648281885189980667614703746174317181523531382390784 170141183461146533602718020428424544384 s (State.bridgePkt s stream bs) := by
  unfold State.bridgePkt
  extract_lets +onlyGivenNames v0
  clear_value v0
  extract_lets +onlyGivenNames v1
  have h2 : Only 7237026282571302585664644648281885189980667614703746174317181523531382390784 170141183461146533602718020428424544384 s v1 := by
    unfold v1
    refine Only.ite ?_ ?_
    · exact Only.refl _ _ _
    · refine Only.step ?_ (State.closeBridge_only ..)
      exact Only.refl _ _ _
  obtain ⟨w3, e4⟩ : ∃ x, x = v1 := ⟨_, rfl⟩
  rw [← e4] at h2 ⊢
  clear e4 v1
  extract_lets +onlyGivenNames v5
  clear_value v5
  refine Only.trans ?_ (State.count_only _ _ _ _ (by decide))
  refine Only.up_fab ?_
  exact h2

theorem execFabricReplyReceive_only (wave : Nat) (flit : Nat) (old : Option (Nat × Nat)) (bs : List Byte) (s : State) :
    Keeps (execFabricReplyReceive wave flit old bs s) (Only 7237026282571302585664666348658196279227197103016142345687457374817780498432 10378612191089300437503956243381470888064 s) := by
  unfold execFabricReplyReceive
  extract_lets +onlyGivenNames v0
  clear_value v0
  refine Keeps.ite ?_ ?_
  · refine Keeps.next ?_
    exact Only.refl _ _ _
  · extract_lets +onlyGivenNames v1
    have h2 : Only 7237026282571302585664666348658196279227197103016142345687457374817780498432 10378612191089300437503956243381470888064 s v1.2 := by
      unfold v1
      refine Only.step ?_ (State.rxFlit_only ..)
      exact Only.refl _ _ _
    obtain ⟨w3, e4⟩ : ∃ x, x = v1 := ⟨_, rfl⟩
    rw [← e4] at h2 ⊢
    clear e4 v1
    refine Keeps.ite ?_ ?_
    · refine Keeps.next ?_
      exact h2
    · split
      · rename_i a5 a6 a7
        have h8 : Only 7237026282571302585664666348658196279227197103016142345687457374817780498432 10378612191089300437503956243381470888064 s a6 := by
          refine Only.of_some a7 ?_
          refine OnlyOpt.step ?_ (State.screenPkt_only ..)
          exact h2
        refine Keeps.next ?_
        exact h8
      · rename_i a9 a10
        refine Keeps.next ?_
        refine Only.step ?_ (State.bridgePkt_only ..)
        exact h2

theorem State.sendRetry_only (s : State) (p : FPkt) :
    Only 2244866514940266882360859903052210718191512386011136 7486212072260646196194241363498900652032 s (State.sendRetry s p) := by
  unfold State.sendRetry
  refine Only.trans ?_ (State.countEv_only _ _ _ _ (by decide) (by decide))
  refine Only.step ?_ (State.fabSend_only ..)
  exact Only.refl _ _ _

theorem State.takeRequest_only (s : State) (p : FPkt) (bs : List Byte) :
    Only 7237026282571302585665030017033616602462139562320436803823804399824314302464 7996635622642731193260333991359093407872 s (State.takeRequest s p bs) := by
  unfold State.takeRequest
  extract_lets +onlyGivenNames v0
  clear_value v0
  refine Only.ite ?_ ?_
  · refine Only.step ?_ (State.sendRetry_only ..)
    exact Only.refl _ _ _
  · extract_lets +onlyGivenNames v1
    clear_value v1
    extract_lets +onlyGivenNames v2
    clear_value v2
    extract_lets +onlyGivenNames v3
    have h4 : Only 7237026282571302585665030017033616602462139562320436803823804399824314302464 7996635622642731193260333991359093407872 s v3 := by
      unfold v3
      refine Only.trans ?_ (State.setf_only _ _ _ _ (by decide))
      exact Only.refl _ _ _
    obtain ⟨w5, e6⟩ : ∃ x, x = v3 := ⟨_, rfl⟩
    rw [← e6] at h4 ⊢
    clear e6 v3
    refine Only.ite ?_ ?_
    · refine Only.step ?_ (State.sendError_only ..)
      exact h4
    · refine Only.step ?_ (State.bridgePkt_only ..)
      refine Only.up_fab ?_
      exact h4

theorem execFabricRequestReceive_only (wave : Nat) (flit : Nat) (old : Option (Nat × Nat)) (bs : List Byte) (s : State) :
    Keeps (execFabricRequestReceive wave flit old bs s) (Only 3250320150624591307222399279532762883549949617323482308635827788783902701649920 10718894558010393643472241523347601490048 s) := by
  unfold execFabricRequestReceive
  extract_lets +onlyGivenNames v0
  clear_value v0
  refine Keeps.ite ?_ ?_
  · refine Keeps.next ?_
    exact Only.refl _ _ _
  · extract_lets +onlyGivenNames v1
    have h2 : Only 3250320150624591307222399279532762883549949617323482308635827788783902701649920 10718894558010393643472241523347601490048 s v1.2 := by
      unfold v1
      refine Only.step ?_ (State.rxFlit_only ..)
      exact Only.refl _ _ _
    obtain ⟨w3, e4⟩ : ∃ x, x = v1 := ⟨_, rfl⟩
    rw [← e4] at h2 ⊢
    clear e4 v1
    refine Keeps.ite ?_ ?_
    · refine Keeps.next ?_
      exact h2
    · split
      · rename_i a5 a6 a7
        have h8 : Only 3250320150624591307222399279532762883549949617323482308635827788783902701649920 10718894558010393643472241523347601490048 s a6 := by
          refine Only.of_some a7 ?_
          refine OnlyOpt.step ?_ (State.screenPkt_only ..)
          exact h2
        refine Keeps.next ?_
        exact h8
      · rename_i a9 a10
        extract_lets +onlyGivenNames v11
        have h12 : Only 3250320150624591307222399279532762883549949617323482308635827788783902701649920 10718894558010393643472241523347601490048 s v11.2 := by
          unfold v11
          refine Only.step ?_ (State.police_only ..)
          exact h2
        obtain ⟨w13, e14⟩ : ∃ x, x = v11 := ⟨_, rfl⟩
        rw [← e14] at h12 ⊢
        clear e14 v11
        extract_lets +onlyGivenNames v15
        refine Keeps.next ?_
        refine Only.ite ?_ ?_
        · refine Only.step ?_ (State.sendRetry_only ..)
          exact h12
        · refine Only.step ?_ (State.takeRequest_only ..)
          exact h12

/-! ### Sequencer -/

theorem State.syncMeridian_only (s : State) :
    Only 158456325028528675187087900672 0 s (State.syncMeridian s) := by
  unfold State.syncMeridian
  refine Only.trans ?_ (State.setf_only _ _ _ _ (by decide))
  refine Only.trans ?_ (State.setf_only _ _ _ _ (by decide))
  exact Only.refl _ _ _

theorem State.startTracks_only (s : State) (step : Nat) :
    Only 163872 6144 s (State.startTracks s step) := by
  unfold State.startTracks
  refine Only.step ?_ (State.syncTracks_only ..)
  refine Only.foldl ?_ ?_
  · refine Only.up_seq ?_
    exact Only.refl _ _ _
  · intro u0 u1 h2
    extract_lets +onlyGivenNames v3
    clear_value v3
    extract_lets +onlyGivenNames v4
    have h5 : Only 163872 6144 s v4 := by
      unfold v4
      refine Only.ite ?_ ?_
      · refine Only.step ?_ (State.setCursor_only ..)
        refine Only.trans ?_ (State.setf_only _ _ _ _ (by decide))
        exact h2
      · exact h2
    obtain ⟨w6, e7⟩ : ∃ x, x = v4 := ⟨_, rfl⟩
    rw [← e7] at h5 ⊢
    clear e7 v4
    refine Only.ite ?_ ?_
    · exact h5
    · refine Only.step ?_ (State.setTrack_only ..)
      exact h5

theorem State.haltTrack_only (s : State) (n : Nat) :
    Only 32800 0 s (State.haltTrack s n) := by
  unfold State.haltTrack
  refine Only.ite ?_ ?_
  · refine Only.step ?_ (State.syncTrack_only ..)
    refine Only.step ?_ (State.setTrack_only ..)
    exact Only.refl _ _ _
  · exact Only.refl _ _ _

theorem State.dropContext_only (s : State) (id : Nat) :
    Only 431359146674410236714672241392314090778194310760649159697657763987456 2417851639229258349412352 s (State.dropContext s id) := by
  unfold State.dropContext
  extract_lets +onlyGivenNames v0
  clear_value v0
  refine Only.ite ?_ ?_
  · exact Only.refl _ _ _
  · refine Only.trans ?_ (State.setf_only _ _ _ _ (by decide))
    refine Only.up_ciph ?_
    exact Only.refl _ _ _

theorem State.scramble_only (s : State) (it : Item) :
    Only 0 108374621433043615748 s (State.scramble s it) := by
  unfold State.scramble
  extract_lets +onlyGivenNames v0
  clear_value v0
  refine Only.ite ?_ ?_
  · refine Only.step ?_ (State.wrBytes_only ..)
    refine Only.up_free ?_
    exact Only.refl _ _ _
  · exact Only.refl _ _ _

theorem State.dropSetup_only (s : State) (it : Item) :
    Only 200868021791836230485821664061788379131597447749657656557568 85070591730234615865843651857942052864 s (State.dropSetup s it) := by
  unfold State.dropSetup
  refine Only.ite ?_ ?_
  · split
    · rename_i a0 a1 a2
      refine Only.ite ?_ ?_
      · extract_lets +onlyGivenNames v3
        clear_value v3
        extract_lets +onlyGivenNames v4
        have h5 : Only 200868021791836230485821664061788379131597447749657656557568 85070591730234615865843651857942052864 s v4 := by
          unfold v4
          refine Only.step ?_ (State.setCircuit_only ..)
          exact Only.refl _ _ _
        obtain ⟨w6, e7⟩ : ∃ x, x = v4 := ⟨_, rfl⟩
        rw [← e7] at h5 ⊢
        clear e7 v4
        refine Only.trans ?_ (State.setf_only _ _ _ _ (by decide))
        refine Only.trans ?_ (State.putBit_only _ _ _ _ _ (by decide))
        exact h5
      · exact Only.refl _ _ _
    · rename_i a8 a9
      exact Only.refl _ _ _
  · exact Only.refl _ _ _

theorem State.abortItem_only (s : State) (id : Nat) :
    Only 68351748112347229395534833100118506163881184989354298901282731695985579234127885559593869250569248 187072209578440644770839680296904703294383412451468 s (State.abortItem s id) := by
  unfold State.abortItem
  split
  · rename_i a0 a1
    exact Only.refl _ _ _
  · rename_i a2 a3 a4
    extract_lets +onlyGivenNames v5
    have h6 : Only 68351748112347229395534833100118506163881184989354298901282731695985579234127885559593869250569248 187072209578440644770839680296904703294383412451468 s v5 := by
      unfold v5
      refine Only.step ?_ (State.endItem_only ..)
      exact Only.refl _ _ _
    obtain ⟨w7, e8⟩ : ∃ x, x = v5 := ⟨_, rfl⟩
    rw [← e8] at h6 ⊢
    clear e8 v5
    extract_lets +onlyGivenNames v9
    have h10 : Only 68351748112347229395534833100118506163881184989354298901282731695985579234127885559593869250569248 187072209578440644770839680296904703294383412451468 s v9 := by
      unfold v9
      refine Only.step ?_ (State.dropContext_only ..)
      refine Only.step ?_ (State.scramble_only ..)
      exact h6
    obtain ⟨w11, e12⟩ : ∃ x, x = v9 := ⟨_, rfl⟩
    rw [← e12] at h10 ⊢
    clear e12 v9
    extract_lets +onlyGivenNames v13
    have h14 : Only 68351748112347229395534833100118506163881184989354298901282731695985579234127885559593869250569248 187072209578440644770839680296904703294383412451468 s v13 := by
      unfold v13
      refine Only.step ?_ (State.dropSetup_only ..)
      exact h10
    obtain ⟨w15, e16⟩ : ∃ x, x = v13 := ⟨_, rfl⟩
    rw [← e16] at h14 ⊢
    clear e16 v13
    refine Only.ite ?_ ?_
    · refine Only.step ?_ (State.abandonSend_only ..)
      exact h14
    · exact h14

theorem State.addItem_only (s : State) (it : Item) :
    Only 32800 384 s (State.addItem s it) := by
  unfold State.addItem
  refine Only.step ?_ (State.syncTrack_only ..)
  refine Only.up_seq ?_
  exact Only.refl _ _ _

theorem State.addPending_only (s : State) (n : Nat) :
    Only 32800 384 s (State.addPending s n) := by
  unfold State.addPending
  refine Only.step ?_ (State.addItem_only ..)
  exact Only.refl _ _ _

theorem State.clearFault_only (s : State) (n cur : Nat) : Only 32768 6144 s
    (({ s with seq := { s.seq with faultTo := tdel n s.seq.faultTo } } : State).setCursor n cur) :=
  (Only.up_seq (Only.refl _ _ _)).step (State.setCursor_only ..)

theorem State.stopTrackItems_only {B P : Nat} {s0 s : State} {n : Nat} {stop : State → Nat → State} (hs : Only B P s0 s)
    (hf : ∀ u x, Only B P s0 u → Only B P s0 (stop u x)) (hb : 32768 ||| B = B := by decide)
    (hp : 6144 ||| P = P := by decide) : Only B P s0 (s.stopTrackItems n stop) :=
  (Only.foldl hs hf).step (State.clearFault_only ..) hb hp

theorem State.abortTrack_only (s : State) (n : Nat) :
    Only 68351748112347229395534833100118506163881184989354298901282731695985579234127885559593869250569248 187072209578440644770839680296904703294383412451724 s (State.abortTrack s n) := by
  unfold State.abortTrack
  extract_lets +onlyGivenNames v0
  have h1 : Only 68351748112347229395534833100118506163881184989354298901282731695985579234127885559593869250569248 187072209578440644770839680296904703294383412451724 s v0 := by
    unfold v0
    refine State.stopTrackItems_only ?_ ?_
    · refine Only.ite ?_ ?_
      · refine Only.step ?_ (State.addPending_only ..)
        exact Only.refl _ _ _
      · exact Only.refl _ _ _
    · intro u2 u3 h4
      refine Only.step ?_ (State.abortItem_only ..)
      exact h4
  obtain ⟨w5, e6⟩ : ∃ x, x = v0 := ⟨_, rfl⟩
  rw [← e6] at h1 ⊢
  clear e6 v0
  refine Only.ite ?_ ?_
  · exact h1
  · refine Only.step ?_ (State.syncTrack_only ..)
    refine Only.step ?_ (State.setTrack_only ..)
    exact h1

theorem State.writeShadow_only (s : State) (w : Nat) (v : Nat) :
    Only 0 64 s (State.writeShadow s w v).2 := by
  unfold State.writeShadow
  refine Only.iteSnd ?_ ?_
  · refine Only.pair _ ?_
    exact Only.refl _ _ _
  · refine Only.iteSnd ?_ ?_
    · refine Only.pair _ ?_
      exact Only.refl _ _ _
    · extract_lets +onlyGivenNames v0
      clear_value v0
      extract_lets +onlyGivenNames v1
      clear_value v1
      extract_lets +onlyGivenNames v2
      clear_value v2
      refine Only.pair _ ?_
      refine Only.up_seq ?_
      exact Only.refl _ _ _

theorem State.writeToken_only (s : State) (i : Nat) (v : Nat) :
    Only 2097152 0 s (State.writeToken s i v).2 := by
  unfold State.writeToken
  refine Only.iteSnd ?_ ?_
  · refine Only.pair _ ?_
    exact Only.refl _ _ _
  · refine Only.pair _ ?_
    refine Only.trans ?_ (State.setf_only _ _ _ _ (by decide))
    exact Only.refl _ _ _

theorem State.cancelSwap_only (s : State) :
    Only 32864 1024 s (State.cancelSwap s) := by
  unfold State.cancelSwap
  refine Only.ite ?_ ?_
  · exact Only.refl _ _ _
  · extract_lets +onlyGivenNames v0
    unfold v0
    clear v0
    extract_lets +onlyGivenNames v1
    have h2 : Only 32864 1024 s v1 := by
      unfold v1
      refine Only.up_seq ?_
      exact Only.refl _ _ _
    obtain ⟨w3, e4⟩ : ∃ x, x = v1 := ⟨_, rfl⟩
    rw [← e4] at h2 ⊢
    clear e4 v1
    extract_lets +onlyGivenNames v5
    have h6 : Only 32864 1024 s v5 := by
      unfold v5
      refine Only.trans ?_ (State.setf_only _ _ _ _ (by decide))
      refine Only.trans ?_ (State.setf_only _ _ _ _ (by decide))
      exact h2
    obtain ⟨w7, e8⟩ : ∃ x, x = v5 := ⟨_, rfl⟩
    rw [← e8] at h6 ⊢
    clear e8 v5
    refine Only.step ?_ (State.syncTracks_only ..)
    refine Only.foldl ?_ ?_
    · exact h6
    · intro u9 u10 h11
      refine Only.ite ?_ ?_
      · refine Only.step ?_ (State.setTrack_only ..)
        exact h11
      · exact h11

theorem State.resumeTrack_only (s : State) (n : Nat) :
    Only 32800 2048 s (State.resumeTrack s n) := by
  unfold State.resumeTrack
  refine Only.ite ?_ ?_
  · refine Only.step ?_ (State.syncTrack_only ..)
    refine Only.step ?_ (State.setCursor_only ..)
    refine Only.step ?_ (State.setTrack_only ..)
    exact Only.refl _ _ _
  · exact Only.refl _ _ _

theorem State.addPendings_only (s : State) (p : Item → Bool) :
    Only 32800 384 s (State.addPendings s p) := by
  unfold State.addPendings
  refine Only.foldl ?_ ?_
  · exact Only.refl _ _ _
  · intro u0 u1 h2
    refine Only.step ?_ (State.addPending_only ..)
    exact h2

theorem State.syncCache_only (s : State) :
    Only 52656145834278593348959013841835216159447547700274555627155488768 0 s (State.syncCache s) := by
  unfold State.syncCache
  refine Only.trans ?_ (State.setf_only _ _ _ _ (by decide))
  refine Only.trans ?_ (State.setf_only _ _ _ _ (by decide))
  exact Only.refl _ _ _

theorem State.cacheTouch_only (s : State) (stream : Nat) :
    Only 52656145834278593348959013841835216159447547700274555627155488768 2361183241434822606848 s (State.cacheTouch s stream) := by
  unfold State.cacheTouch
  extract_lets +onlyGivenNames v0
  clear_value v0
  extract_lets +onlyGivenNames v1
  unfold v1
  clear v1
  extract_lets +onlyGivenNames v2
  clear_value v2
  refine Only.step ?_ (State.syncCache_only ..)
  refine Only.up_mem ?_
  exact Only.refl _ _ _

theorem State.lookCtx_only (s : State) (it : Item) :
    Only 65820182292848241686198767302294020199309434625343194533944360960 2361183241434822606976 s (State.lookCtx s it) := by
  unfold State.lookCtx
  extract_lets +onlyGivenNames v0
  clear_value v0
  refine Only.ite ?_ ?_
  · exact Only.refl _ _ _
  · refine Only.ite ?_ ?_
    · refine Only.step ?_ (State.cacheTouch_only ..)
      exact Only.refl _ _ _
    · refine Only.step ?_ (State.updItem_only ..)
      refine Only.trans ?_ (State.count_only _ _ _ _ (by decide))
      exact Only.refl _ _ _

theorem State.refuseReport_only (s : State) (it : Item) (st : Status) :
    Only 12587008 0 s (State.refuseReport s it st) := by
  unfold State.refuseReport
  refine Only.ite ?_ ?_
  · refine Only.step ?_ (State.fitReport_only ..)
    exact Only.refl _ _ _
  · refine Only.ite ?_ ?_
    · refine Only.step ?_ (State.fitReport_only ..)
      exact Only.refl _ _ _
    · exact Only.refl _ _ _

theorem State.startFailed_only (s : State) (it : Item) (st : Status) :
    Only 68351748112347229395527596770480956740267184712890821938312239618489588184164687825531911628825632 187072209578355574179108766263439269978778830608520 s (State.startFailed s it st) := by
  unfold State.startFailed
  extract_lets +onlyGivenNames v0
  clear_value v0
  refine Only.ite ?_ ?_
  · split
    · rename_i a1 a2 a3
      refine Only.step ?_ (State.endItem_only ..)
      refine Only.trans ?_ (State.count_only _ _ _ _ (by decide))
      refine Only.step ?_ (State.exhaust_only ..)
      exact Only.refl _ _ _
    · rename_i a4 a5
      refine Only.step ?_ (State.endItem_only ..)
      exact Only.refl _ _ _
  · refine Only.ite ?_ ?_
    · refine Only.step ?_ (State.endItem_only ..)
      refine Only.trans ?_ (State.count_only _ _ _ _ (by decide))
      exact Only.refl _ _ _
    · refine Only.ite ?_ ?_
      · refine Only.step ?_ (State.endItem_only ..)
        refine Only.step ?_ (State.cmpFail_only ..)
        exact Only.refl _ _ _
      · refine Only.step ?_ (State.endItem_only ..)
        exact Only.refl _ _ _

theorem State.latchEncode_only (s : State) (it : Item) :
    Only 0 4398046511232 s (State.latchEncode s it) := by
  unfold State.latchEncode
  extract_lets +onlyGivenNames v0
  clear_value v0
  split
  · rename_i a1 a2 a3
    refine Only.ite ?_ ?_
    · exact Only.refl _ _ _
    · refine Only.step ?_ (State.updItem_only ..)
      refine Only.step ?_ (State.mapBooks_only ..)
      exact Only.refl _ _ _
  · rename_i a4 a5
    exact Only.refl _ _ _

theorem State.eclipseCommit_only (s : State) (it : Item) :
    Only 68351748112347229395527596073404575714420242181980479848332668920927581994955645746794217584108576 187072209578355574260237785405794854080773092513928 s (State.eclipseCommit s it) := by
  unfold State.eclipseCommit
  refine Only.ite ?_ ?_
  · refine Only.step ?_ (State.commitItem_only ..)
    extract_lets +onlyGivenNames v0
    have h1 : Only 68351748112347229395527596073404575714420242181980479848332668920927581994955645746794217584108576 187072209578355574260237785405794854080773092513928 s v0 := by
      unfold v0
      refine Only.step ?_ (State.degrade_only ..)
      exact Only.refl _ _ _
    obtain ⟨w2, e3⟩ : ∃ x, x = v0 := ⟨_, rfl⟩
    rw [← e3] at h1 ⊢
    clear e3 v0
    refine Only.up_peer ?_
    exact h1
  · extract_lets +onlyGivenNames v4
    unfold v4
    clear v4
    extract_lets +onlyGivenNames v5
    have h6 : Only 68351748112347229395527596073404575714420242181980479848332668920927581994955645746794217584108576 187072209578355574260237785405794854080773092513928 s v5 := by
      unfold v5
      refine Only.up_peer ?_
      exact Only.refl _ _ _
    obtain ⟨w7, e8⟩ : ∃ x, x = v5 := ⟨_, rfl⟩
    rw [← e8] at h6 ⊢
    clear e8 v5
    refine Only.step ?_ (State.endItem_only ..)
    exact h6

theorem State.startItem_only (s : State) (it : Item) :
    Only 68351748112347229395527596094109814754791933544284747435163745278605427465125384324703554379883552 187072209578355574260237785708026597214819523467400 s (State.startItem s it) := by
  unfold State.startItem
  extract_lets +onlyGivenNames v0
  clear_value v0
  extract_lets +onlyGivenNames v1
  have h2 : Only 68351748112347229395527596094109814754791933544284747435163745278605427465125384324703554379883552 187072209578355574260237785708026597214819523467400 s v1 := by
    unfold v1
    refine Only.ite ?_ ?_
    · refine Only.step ?_ (State.takeTokens_only ..)
      exact Only.refl _ _ _
    · exact Only.refl _ _ _
  obtain ⟨w3, e4⟩ : ∃ x, x = v1 := ⟨_, rfl⟩
  rw [← e4] at h2 ⊢
  clear e4 v1
  extract_lets +onlyGivenNames v5
  have h6 : Only 68351748112347229395527596094109814754791933544284747435163745278605427465125384324703554379883552 187072209578355574260237785708026597214819523467400 s v5 := by
    unfold v5
    refine Only.step ?_ (State.updItem_only ..)
    refine Only.step ?_ (State.noteChunkStart_only ..)
    exact h2
  obtain ⟨w7, e8⟩ : ∃ x, x = v5 := ⟨_, rfl⟩
  rw [← e8] at h6 ⊢
  clear e8 v5
  refine Only.ite ?_ ?_
  · refine Only.step ?_ (State.latchEncode_only ..)
    exact h6
  · refine Only.ite ?_ ?_
    · refine Only.step ?_ (State.updItem_only ..)
      exact h6
    · refine Only.ite ?_ ?_
      · refine Only.step ?_ (State.ppeTake_only ..)
        exact h6
      · refine Only.ite ?_ ?_
        · refine Only.step ?_ (State.rampTo_only ..)
          exact h6
        · refine Only.ite ?_ ?_
          · refine Only.step ?_ (State.latchSeal_only ..)
            exact h6
          · refine Only.ite ?_ ?_
            · refine Only.step ?_ (State.latchOpen_only ..)
              exact h6
            · refine Only.ite ?_ ?_
              · refine Only.step ?_ (State.latchJournal_only ..)
                exact h6
              · refine Only.ite ?_ ?_
                · refine Only.step ?_ (State.degrade_only ..)
                  exact h6
                · refine Only.ite ?_ ?_
                  · refine Only.step ?_ (State.eclipseCommit_only ..)
                    exact h6
                  · exact h6

theorem execCancel_only (s : State) :
    Keeps (execCancel s) (Only 32864 1024 s) := by
  unfold execCancel
  refine Keeps.next ?_
  refine Only.step ?_ (State.cancelSwap_only ..)
  exact Only.refl _ _ _

theorem execContextFetch_only (stream : Nat) (s : State) :
    Keeps (execContextFetch stream s) (Only 52656145834278593348959013841835216159447547700274555627155488768 2361183241434822606976 s) := by
  unfold execContextFetch
  refine Keeps.ite ?_ ?_
  · extract_lets +onlyGivenNames v0
    clear_value v0
    refine Keeps.next ?_
    refine Only.step ?_ (State.cacheTouch_only ..)
    refine Only.up_seq ?_
    exact Only.refl _ _ _
  · refine Keeps.next ?_
    exact Only.refl _ _ _

theorem execForecast_only (id : Nat) (s : State) :
    Keeps (execForecast id s) (Only 68351748112347229395527596073404575714420242181980479848332668920927581994955645746794217584108576 187072387984317162424093898246953996262013584775304 s) := by
  unfold execForecast
  split
  · rename_i a0 a1
    refine Keeps.next ?_
    exact Only.refl _ _ _
  · rename_i a2 a3 a4
    extract_lets +onlyGivenNames v5
    clear_value v5
    extract_lets +onlyGivenNames v6
    unfold v6
    clear v6
    extract_lets +onlyGivenNames v7
    have h8 : Only 68351748112347229395527596073404575714420242181980479848332668920927581994955645746794217584108576 187072387984317162424093898246953996262013584775304 s v7 := by
      unfold v7
      refine Only.up_opt ?_
      exact Only.refl _ _ _
    obtain ⟨w9, e10⟩ : ∃ x, x = v7 := ⟨_, rfl⟩
    rw [← e10] at h8 ⊢
    clear e10 v7
    refine Keeps.next ?_
    refine Only.step ?_ (State.commitItem_only ..)
    refine Only.ite ?_ ?_
    · refine Only.trans ?_ (State.setf_only _ _ _ _ (by decide))
      exact h8
    · exact h8

theorem execForecastLowerEffect_only (s : State) :
    Keeps (execForecastLowerEffect s) (Only 1024 7340032 s) := by
  unfold execForecastLowerEffect
  extract_lets +onlyGivenNames v0
  unfold v0
  clear v0
  refine Keeps.ite ?_ ?_
  · extract_lets +onlyGivenNames v1
    have h2 : Only 1024 7340032 s v1 := by
      unfold v1
      refine Only.trans ?_ (State.setf_only _ _ _ _ (by decide))
      exact Only.refl _ _ _
    obtain ⟨w3, e4⟩ : ∃ x, x = v1 := ⟨_, rfl⟩
    rw [← e4] at h2 ⊢
    clear e4 v1
    refine Keeps.next ?_
    refine Only.ite ?_ ?_
    · refine Only.step ?_ (State.rampTo_only ..)
      exact h2
    · exact h2
  · refine Keeps.next ?_
    exact Only.refl _ _ _

theorem State.doSwap_only (s : State) (step : Nat) :
    Only 2335076 2993155353253689176481146537402947624255349848022120 s (State.doSwap s step) := by
  unfold State.doSwap
  extract_lets +onlyGivenNames v0
  unfold v0
  clear v0
  extract_lets +onlyGivenNames v1
  unfold v1
  clear v1
  extract_lets +onlyGivenNames v2
  have h3 : Only 2335076 2993155353253689176481146537402947624255349848022120 s v2 := by
    unfold v2
    refine Only.up_seq_cst ?_
    exact Only.refl _ _ _
  obtain ⟨w4, e5⟩ : ∃ x, x = v2 := ⟨_, rfl⟩
  rw [← e5] at h3 ⊢
  clear e5 v2
  extract_lets +onlyGivenNames v6
  have h7 : Only 2335076 2993155353253689176481146537402947624255349848022120 s v6 := by
    unfold v6
    refine Only.trans ?_ (State.setf_only _ _ _ _ (by decide))
    refine Only.trans ?_ (State.setf_only _ _ _ _ (by decide))
    refine Only.trans ?_ (State.setf_only _ _ _ _ (by decide))
    exact h3
  obtain ⟨w8, e9⟩ : ∃ x, x = v6 := ⟨_, rfl⟩
  rw [← e9] at h7 ⊢
  clear e9 v6
  extract_lets +onlyGivenNames v10
  have h11 : Only 2335076 2993155353253689176481146537402947624255349848022120 s v10 := by
    unfold v10
    refine Only.foldl ?_ ?_
    · exact h7
    · intro u12 u13 h14
      refine Only.trans ?_ (State.setf_only _ _ _ _ (by decide))
      refine Only.trans ?_ (State.setf_only _ _ _ _ (by decide))
      refine Only.trans ?_ (State.setf_only _ _ _ _ (by decide))
      refine Only.trans ?_ (State.setf_only _ _ _ _ (by decide))
      exact h14
  obtain ⟨w15, e16⟩ : ∃ x, x = v10 := ⟨_, rfl⟩
  rw [← e16] at h11 ⊢
  clear e16 v10
  refine Only.step ?_ (State.commitView_only ..)
  refine Only.trans ?_ (State.event_only _ _ _ (by decide))
  refine Only.trans ?_ (State.setf_only _ _ _ _ (by decide))
  refine Only.trans ?_ (State.setf_only _ _ _ _ (by decide))
  refine Only.step ?_ (State.startTracks_only ..)
  refine Only.step ?_ (State.clearTokens_only ..)
  exact h11

theorem State.stepSwap_only (s : State) :
    Only 2335076 2993155353253689176481146537402947624255349848022120 s (State.stepSwap s) := by
  unfold State.stepSwap
  refine Only.step ?_ (State.doSwap_only ..)
  exact Only.refl _ _ _

theorem State.abandonWork_only (s : State) :
    Only 0 8876030081678410356441897467904 s (State.abandonWork s) := by
  unfold State.abandonWork
  refine Only.up_arr_col_peer ?_
  exact Only.refl _ _ _

theorem State.idleSwap_only (s : State) :
    Only 158456325028528675187090235748 2993155353253689176490022567484626034611791745490024 s (State.idleSwap s) := by
  unfold State.idleSwap
  refine Only.step ?_ (State.doSwap_only ..)
  refine Only.step ?_ (State.syncMeridian_only ..)
  refine Only.step ?_ (State.abandonWork_only ..)
  exact Only.refl _ _ _

theorem State.noteWait_only (s : State) (n : Nat) :
    Only 0 2048 s (State.noteWait s n) := by
  unfold State.noteWait
  refine Only.ite ?_ ?_
  · refine Only.up_seq ?_
    exact Only.refl _ _ _
  · refine Only.up_seq ?_
    exact Only.refl _ _ _

theorem State.announce_only (s : State) (level : Nat) :
    Only 0 8192 s (State.announce s level) := by
  unfold State.announce
  extract_lets +onlyGivenNames v0
  clear_value v0
  extract_lets +onlyGivenNames v1
  clear_value v1
  refine Only.up_seq ?_
  exact Only.refl _ _ _

theorem State.noteLastStep_only (s : State) (it : Item) :
    Only 0 1180591620717411303424 s (State.noteLastStep s it) := by
  unfold State.noteLastStep
  extract_lets +onlyGivenNames v0
  clear_value v0
  refine Only.ite ?_ ?_
  · exact Only.refl _ _ _
  · extract_lets +onlyGivenNames v1
    clear_value v1
    refine Only.step ?_ (State.setCtx_only ..)
    exact Only.refl _ _ _

theorem State.askItemNeed_only (s : State) (it : Item) :
    Only 68351748112347229395527596073405839461920264868220854864664872966115408736100452336129269315839008 187072209578355574179108766036765678801035860351112 s (State.askItemNeed s it) := by
  unfold State.askItemNeed
  extract_lets +onlyGivenNames v0
  clear_value v0
  split
  · rename_i a1 a2 a3
    have h4 : Only 68351748112347229395527596073405839461920264868220854864664872966115408736100452336129269315839008 187072209578355574179108766036765678801035860351112 s a2 := by
      refine Only.of_snd a3 ?_
      refine Only.step ?_ (State.askNeed_only ..)
      exact Only.refl _ _ _
    exact h4
  · rename_i a5 a6 a7
    have h8 : Only 68351748112347229395527596073405839461920264868220854864664872966115408736100452336129269315839008 187072209578355574179108766036765678801035860351112 s a6 := by
      refine Only.of_snd a7 ?_
      refine Only.step ?_ (State.askNeed_only ..)
      exact Only.refl _ _ _
    refine Only.step ?_ (State.updItem_only ..)
    exact h8
  · rename_i a9 a10 a11
    have h12 : Only 68351748112347229395527596073405839461920264868220854864664872966115408736100452336129269315839008 187072209578355574179108766036765678801035860351112 s a10 := by
      refine Only.of_snd a11 ?_
      refine Only.step ?_ (State.askNeed_only ..)
      exact Only.refl _ _ _
    refine Only.step ?_ (State.endItem_only ..)
    exact h12

theorem State.issued_only (s : State) (it : Item) :
    Only 68351748112347229395527596073405905282102557717210829901745937836622815618349277959995072490415136 187072209578355574179108766040307669835970208053384 s (State.issued s it) := by
  unfold State.issued
  extract_lets +onlyGivenNames v0
  clear_value v0
  extract_lets +onlyGivenNames v1
  clear_value v1
  refine Only.ite ?_ ?_
  · extract_lets +onlyGivenNames v2
    have h3 : Only 68351748112347229395527596073405905282102557717210829901745937836622815618349277959995072490415136 187072209578355574179108766040307669835970208053384 s v2 := by
      unfold v2
      refine Only.step ?_ (State.commitItem_only ..)
      exact Only.refl _ _ _
    obtain ⟨w4, e5⟩ : ∃ x, x = v2 := ⟨_, rfl⟩
    rw [← e5] at h3 ⊢
    clear e5 v2
    refine Only.ite ?_ ?_
    · exact h3
    · refine Only.step ?_ (State.syncTrack_only ..)
      refine Only.step ?_ (State.setTrack_only ..)
      exact h3
  · refine Only.ite ?_ ?_
    · refine Only.step ?_ (State.commitItem_only ..)
      exact Only.refl _ _ _
    · refine Only.ite ?_ ?_
      · refine Only.step ?_ (State.announce_only ..)
        exact Only.refl _ _ _
      · refine Only.ite ?_ ?_
        · refine Only.step ?_ (State.endItem_only ..)
          exact Only.refl _ _ _
        · refine Only.ite ?_ ?_
          · exact Only.refl _ _ _
          · extract_lets +onlyGivenNames v6
            have h7 : Only 68351748112347229395527596073405905282102557717210829901745937836622815618349277959995072490415136 187072209578355574179108766040307669835970208053384 s v6 := by
              unfold v6
              refine Only.step ?_ (State.noteInstance_only ..)
              refine Only.step ?_ (State.noteLastStep_only ..)
              exact Only.refl _ _ _
            obtain ⟨w8, e9⟩ : ∃ x, x = v6 := ⟨_, rfl⟩
            rw [← e9] at h7 ⊢
            clear e9 v6
            refine Only.ite ?_ ?_
            · refine Only.step ?_ (State.failLink_only ..)
              exact h7
            · refine Only.ite ?_ ?_
              · refine Only.step ?_ (State.endItem_only ..)
                exact h7
              · refine Only.step ?_ (State.syncGate_only ..)
                refine Only.step ?_ (State.askItemNeed_only ..)
                refine Only.step ?_ (State.lookCtx_only ..)
                exact h7

theorem State.issueOne_only (s : State) (n : Nat) :
    Only 68351748112347229395527596073405905282102557717210829901745937836622815618349277959995072490415136 187072209578355574179108766040307669835970208053640 s (State.issueOne s n).2 := by
  unfold State.issueOne
  refine Only.iteSnd ?_ ?_
  · refine Only.pair _ ?_
    refine Only.step ?_ (State.noteWait_only ..)
    exact Only.refl _ _ _
  · extract_lets +onlyGivenNames v0
    clear_value v0
    extract_lets +onlyGivenNames v1
    clear_value v1
    extract_lets +onlyGivenNames v2
    clear_value v2
    refine Only.iteSnd ?_ ?_
    · refine Only.pair _ ?_
      refine Only.step ?_ (State.endItem_only ..)
      refine Only.step ?_ (State.addPending_only ..)
      exact Only.refl _ _ _
    · refine Only.iteSnd ?_ ?_
      · extract_lets +onlyGivenNames v3
        have h4 : Only 68351748112347229395527596073405905282102557717210829901745937836622815618349277959995072490415136 187072209578355574179108766040307669835970208053640 s v3 := by
          unfold v3
          refine Only.step ?_ (State.addItem_only ..)
          refine Only.step ?_ (State.takeTokens_only ..)
          exact Only.refl _ _ _
        obtain ⟨w5, e6⟩ : ∃ x, x = v3 := ⟨_, rfl⟩
        rw [← e6] at h4 ⊢
        clear e6 v3
        extract_lets +onlyGivenNames v7
        have h8 : Only 68351748112347229395527596073405905282102557717210829901745937836622815618349277959995072490415136 187072209578355574179108766040307669835970208053640 s v7 := by
          unfold v7
          refine Only.ite ?_ ?_
          · exact h4
          · refine Only.step ?_ (State.setCursor_only ..)
            exact h4
        obtain ⟨w9, e10⟩ : ∃ x, x = v7 := ⟨_, rfl⟩
        rw [← e10] at h8 ⊢
        clear e10 v7
        refine Only.pair _ ?_
        refine Only.step ?_ (State.issued_only ..)
        exact h8
      · refine Only.pair _ ?_
        refine Only.step ?_ (State.noteWait_only ..)
        exact Only.refl _ _ _

theorem State.issueCycle_only (s : State) :
    Only 68351748112347229395527596073405905282102557717210829901745937836622815618349277959995072490415136 187072209578355574179108766040307669835970208071656 s (State.issueCycle s) := by
  unfold State.issueCycle
  extract_lets +onlyGivenNames v0
  clear_value v0
  extract_lets +onlyGivenNames v1
  have h2 : Only 68351748112347229395527596073405905282102557717210829901745937836622815618349277959995072490415136 187072209578355574179108766040307669835970208071656 s v1.2 := by
    unfold v1
    refine Only.foldlSnd ?_ ?_
    · refine Only.pair _ ?_
      exact Only.refl _ _ _
    · intro u3 u4 h5
      extract_lets +onlyGivenNames v6
      have h7 : Only 68351748112347229395527596073405905282102557717210829901745937836622815618349277959995072490415136 187072209578355574179108766040307669835970208071656 s v6.2 := by
        unfold v6
        refine Only.step ?_ (State.issueOne_only ..)
        exact h5
      obtain ⟨w8, e9⟩ : ∃ x, x = v6 := ⟨_, rfl⟩
      rw [← e9] at h7 ⊢
      clear e9 v6
      refine Only.pair _ ?_
      exact h7
  obtain ⟨w10, e11⟩ : ∃ x, x = v1 := ⟨_, rfl⟩
  rw [← e11] at h2 ⊢
  clear e11 v1
  split
  · rename_i a12 a13 a14
    extract_lets +onlyGivenNames v15
    have h16 : Only 68351748112347229395527596073405905282102557717210829901745937836622815618349277959995072490415136 187072209578355574179108766040307669835970208071656 s v15 := by
      unfold v15
      exact h2
    obtain ⟨w17, e18⟩ : ∃ x, x = v15 := ⟨_, rfl⟩
    rw [← e18] at h16 ⊢
    clear e18 v15
    refine Only.up_seq ?_
    exact h16
  · rename_i a19 a20
    exact h2

theorem execItemIssue_only (s : State) :
    Keeps (execItemIssue s) (Only 68351748112347229395527596073405905282102557717210829901745937836622815618349277959995072490415136 187072209578355574179108766040307669835970208071656 s) := by
  unfold execItemIssue
  refine Keeps.next ?_
  refine Only.step ?_ (State.issueCycle_only ..)
  exact Only.refl _ _ _

theorem State.tryStart_only (s : State) (it : Item) :
    Only 68351748112347229395527596784284449433848312287760333663040855377946766113920751021891221305865248 187072209578355574260237785708026597214819523467400 s (State.tryStart s it) := by
  unfold State.tryStart
  split
  · rename_i a0 a1
    refine Only.step ?_ (State.startItem_only ..)
    exact Only.refl _ _ _
  · rename_i a2 a3
    refine Only.trans ?_ (State.eventIf_only _ _ _ _ (by decide))
    refine Only.step ?_ (State.syncGate_only ..)
    exact Only.refl _ _ _
  · rename_i a4 a5 a6
    refine Only.step ?_ (State.refuseItem_only ..)
    refine Only.step ?_ (State.refuseReport_only ..)
    exact Only.refl _ _ _
  · rename_i a7 a8 a9
    refine Only.step ?_ (State.startFailed_only ..)
    exact Only.refl _ _ _

theorem execItemStart_only (e : Nat) (s : State) :
    Keeps (execItemStart e s) (Only 68351748112347229395527596784284449433848312287760333663040855377946766113920751021891221305865248 187072209578355574260237785708026597214819523483784 s) := by
  unfold execItemStart
  split
  · rename_i a0 a1
    refine Keeps.next ?_
    exact Only.refl _ _ _
  · rename_i a2 a3 a4
    extract_lets +onlyGivenNames v5
    unfold v5
    clear v5
    extract_lets +onlyGivenNames v6
    have h7 : Only 68351748112347229395527596784284449433848312287760333663040855377946766113920751021891221305865248 187072209578355574260237785708026597214819523483784 s v6 := by
      unfold v6
      refine Only.ite ?_ ?_
      · exact Only.refl _ _ _
      · refine Only.up_seq ?_
        exact Only.refl _ _ _
    obtain ⟨w8, e9⟩ : ∃ x, x = v6 := ⟨_, rfl⟩
    rw [← e9] at h7 ⊢
    clear e9 v6
    refine Keeps.next ?_
    refine Only.step ?_ (State.syncGate_only ..)
    refine Only.step ?_ (State.tryStart_only ..)
    exact h7

theorem execSwapIdle_only (s : State) :
    Keeps (execSwapIdle s) (Only 158456325028528675187090235748 2993155353253689176490022567484626034611791745490024 s) := by
  unfold execSwapIdle
  refine Keeps.next ?_
  refine Only.ite ?_ ?_
  · refine Only.step ?_ (State.idleSwap_only ..)
    exact Only.refl _ _ _
  · exact Only.refl _ _ _

theorem execSwapStep_only (s : State) :
    Keeps (execSwapStep s) (Only 2335076 2993155353253689176481146537402947624255349848022120 s) := by
  unfold execSwapStep
  refine Keeps.next ?_
  refine Only.ite ?_ ?_
  · refine Only.step ?_ (State.stepSwap_only ..)
    exact Only.refl _ _ _
  · exact Only.refl _ _ _

theorem execTokenWaitWatchdog_only (n : Nat) (s : State) :
    Keeps (execTokenWaitWatchdog n s) (Only 8192 0 s) := by
  unfold execTokenWaitWatchdog
  extract_lets +onlyGivenNames v0
  clear_value v0
  refine Keeps.next ?_
  refine Only.trans ?_ (State.eventIf_only _ _ _ _ (by decide))
  exact Only.refl _ _ _

theorem execTrackAbort_only (n : Nat) (s : State) :
    Keeps (execTrackAbort n s) (Only 68351748112347229395534833100118506163881184989354298901282731695985579234127885559593869250569248 187072209578440644770839680296904703294383412451724 s) := by
  unfold execTrackAbort
  refine Keeps.next ?_
  refine Only.step ?_ (State.abortTrack_only ..)
  exact Only.refl _ _ _

theorem execTrackHalt_only (n : Nat) (s : State) :
    Keeps (execTrackHalt n s) (Only 32800 0 s) := by
  unfold execTrackHalt
  refine Keeps.next ?_
  refine Only.step ?_ (State.haltTrack_only ..)
  exact Only.refl _ _ _

theorem execTrackResume_only (n : Nat) (s : State) :
    Keeps (execTrackResume n s) (Only 32800 2048 s) := by
  unfold execTrackResume
  refine Keeps.next ?_
  refine Only.step ?_ (State.resumeTrack_only ..)
  exact Only.refl _ _ _

/-! ### Meridian -/

theorem State.markAcked_only (s : State) (n : Nat) (taken : TxBlock → Bool) :
    Only 21093705987797737240905141337456640 618970019642698933542584320 s (State.markAcked s n taken) := by
  unfold State.markAcked
  extract_lets +onlyGivenNames v0
  clear_value v0
  extract_lets +onlyGivenNames v1
  clear_value v1
  extract_lets +onlyGivenNames v2
  clear_value v2
  extract_lets +onlyGivenNames v3
  clear_value v3
  extract_lets +onlyGivenNames v4
  clear_value v4
  extract_lets +onlyGivenNames v5
  have h6 : Only 21093705987797737240905141337456640 618970019642698933542584320 s v5 := by
    unfold v5
    refine Only.step ?_ (State.updSess_only ..)
    exact Only.refl _ _ _
  obtain ⟨w7, e8⟩ : ∃ x, x = v5 := ⟨_, rfl⟩
  rw [← e8] at h6 ⊢
  clear e8 v5
  extract_lets +onlyGivenNames v9
  unfold v9
  clear v9
  extract_lets +onlyGivenNames v10
  have h11 : Only 21093705987797737240905141337456640 618970019642698933542584320 s v10 := by
    unfold v10
    refine Only.up_cmp ?_
    exact h6
  obtain ⟨w12, e13⟩ : ∃ x, x = v10 := ⟨_, rfl⟩
  rw [← e13] at h11 ⊢
  clear e13 v10
  refine Only.step ?_ (State.syncReplay_only ..)
  refine Only.step ?_ (State.syncOldest_only ..)
  exact h11

theorem State.freeReplay_only (s : State) (step : Nat) :
    Only 20769187434139310514121985316880384 618970019642690137449562112 s (State.freeReplay s step) := by
  unfold State.freeReplay
  refine Only.foldl ?_ ?_
  · exact Only.refl _ _ _
  · intro u0 u1 h2
    refine Only.step ?_ (State.syncReplay_only ..)
    refine Only.step ?_ (State.updSess_only ..)
    exact h2

theorem State.forgetSteps_only (s : State) (m : Nat) :
    Only 340303136266828927802417404604172992512 8955877214210660059510017622016 s (State.forgetSteps s m) := by
  unfold State.forgetSteps
  extract_lets +onlyGivenNames v0
  unfold v0
  clear v0
  extract_lets +onlyGivenNames v1
  have h2 : Only 340303136266828927802417404604172992512 8955877214210660059510017622016 s v1 := by
    unfold v1
    refine Only.up_peer ?_
    exact Only.refl _ _ _
  obtain ⟨w3, e4⟩ : ∃ x, x = v1 := ⟨_, rfl⟩
  rw [← e4] at h2 ⊢
  clear e4 v1
  refine Only.step ?_ (State.syncMeridian_only ..)
  refine Only.step ?_ (State.freeReplay_only ..)
  refine Only.step ?_ (State.syncGate_only ..)
  refine Only.step ?_ (State.syncIsland_only ..)
  refine Only.step ?_ (State.dropWaiting_only ..)
  exact h2

theorem State.abandonBlock_only (s : State) (n : Nat) (reason : Nat) (b : TxBlock) :
    Only 7237026282571302585664548867310581071927020218014549279993205352336245915648 677301871030716712540438656 s (State.abandonBlock s n reason b) := by
  unfold State.abandonBlock
  extract_lets +onlyGivenNames v0
  clear_value v0
  refine Only.step ?_ (State.sendData_only ..)
  exact Only.refl _ _ _

theorem State.resend_only (s : State) (n : Nat) (b : TxBlock) (counts : Bool) :
    Only 7237005577332262213973186563042994240830038655600427710402550904024710774784 676998458984192337835458688 s (State.resend s n b counts) := by
  unfold State.resend
  split
  · rename_i a0 a1
    exact Only.refl _ _ _
  · rename_i a2 a3 a4
    extract_lets +onlyGivenNames v5
    clear_value v5
    extract_lets +onlyGivenNames v6
    have h7 : Only 7237005577332262213973186563042994240830038655600427710402550904024710774784 676998458984192337835458688 s v6 := by
      unfold v6
      refine Only.step ?_ (State.updSess_only ..)
      exact Only.refl _ _ _
    obtain ⟨w8, e9⟩ : ∃ x, x = v6 := ⟨_, rfl⟩
    rw [← e9] at h7 ⊢
    clear e9 v6
    extract_lets +onlyGivenNames v10
    have h11 : Only 7237005577332262213973186563042994240830038655600427710402550904024710774784 676998458984192337835458688 s v10 := by
      unfold v10
      refine Only.trans ?_ (State.count_only _ _ _ _ (by decide))
      exact h7
    obtain ⟨w12, e13⟩ : ∃ x, x = v10 := ⟨_, rfl⟩
    rw [← e13] at h11 ⊢
    clear e13 v10
    extract_lets +onlyGivenNames v14
    have h15 : Only 7237005577332262213973186563042994240830038655600427710402550904024710774784 676998458984192337835458688 s v14 := by
      unfold v14
      split
      · rename_i a16 a17 a18
        refine Only.step ?_ (State.markResent_only ..)
        exact h11
      · rename_i a19 a20
        exact h11
    obtain ⟨w21, e22⟩ : ∃ x, x = v14 := ⟨_, rfl⟩
    rw [← e22] at h15 ⊢
    clear e22 v14
    refine Only.step ?_ (State.enqueue_only ..)
    exact h15

theorem State.resume_only (s : State) (n : Nat) (above : Option Nat) :
    Only 7237026282571302585664548867310581071927684832012441737929657255866386087936 677301871030716712540438656 s (State.resume s n above) := by
  unfold State.resume
  extract_lets +onlyGivenNames v0
  clear_value v0
  extract_lets +onlyGivenNames v1
  clear_value v1
  extract_lets +onlyGivenNames v2
  have h3 : ∀ a0 a1, Only 7237026282571302585664548867310581071927684832012441737929657255866386087936 677301871030716712540438656 s a0 → Only 7237026282571302585664548867310581071927684832012441737929657255866386087936 677301871030716712540438656 s (v2 a0 a1) := by
    intro a0 a1 h40
    unfold v2
    refine Only.ite ?_ ?_
    · refine Only.step ?_ (State.abandonBlock_only ..)
      refine Only.step ?_ (State.updSess_only ..)
      exact h40
    · refine Only.ite ?_ ?_
      · exact h40
      · refine Only.ite ?_ ?_
        · refine Only.step ?_ (State.updSess_only ..)
          exact h40
        · refine Only.step ?_ (State.resend_only ..)
          exact h40
  clear_value v2
  refine Only.step ?_ (State.pumpTx_only ..)
  refine Only.foldl ?_ ?_
  · exact Only.refl _ _ _
  · intro u5 u6 h7
    apply h3
    exact h7

theorem State.enterOpen_only (s : State) (n : Nat) (above : Option Nat) :
    Only 7237026282571302585664548867310581074649943767389852965950937157519724773376 677301871030716712540438656 s (State.enterOpen s n above) := by
  unfold State.enterOpen
  extract_lets +onlyGivenNames v0
  have h1 : Only 7237026282571302585664548867310581074649943767389852965950937157519724773376 677301871030716712540438656 s v0 := by
    unfold v0
    refine Only.trans ?_ (State.event_only _ _ _ (by decide))
    refine Only.step ?_ (State.setSessState_only ..)
    exact Only.refl _ _ _
  obtain ⟨w2, e3⟩ : ∃ x, x = v0 := ⟨_, rfl⟩
  rw [← e3] at h1 ⊢
  clear e3 v0
  extract_lets +onlyGivenNames v4
  have h5 : Only 7237026282571302585664548867310581074649943767389852965950937157519724773376 677301871030716712540438656 s v4 := by
    unfold v4
    refine Only.step ?_ (State.updSess_only ..)
    exact h1
  obtain ⟨w6, e7⟩ : ∃ x, x = v4 := ⟨_, rfl⟩
  rw [← e7] at h5 ⊢
  clear e7 v4
  extract_lets +onlyGivenNames v8
  have h9 : Only 7237026282571302585664548867310581074649943767389852965950937157519724773376 677301871030716712540438656 s v8 := by
    unfold v8
    refine Only.ite ?_ ?_
    · exact h5
    · refine Only.trans ?_ (State.setf_only _ _ _ _ (by decide))
      exact h5
  obtain ⟨w10, e11⟩ : ∃ x, x = v8 := ⟨_, rfl⟩
  rw [← e11] at h9 ⊢
  clear e11 v8
  refine Only.step ?_ (State.resume_only ..)
  exact h9

theorem State.releaseHeld_only (s : State) (n : Nat) :
    Only 0 618971200234310854860865536 s (State.releaseHeld s n) := by
  unfold State.releaseHeld
  extract_lets +onlyGivenNames v0
  clear_value v0
  extract_lets +onlyGivenNames v1
  clear_value v1
  extract_lets +onlyGivenNames v2
  have h3 : Only 0 618971200234310854860865536 s v2 := by
    unfold v2
    refine Only.foldl ?_ ?_
    · exact Only.refl _ _ _
    · intro u4 u5 h6
      refine Only.step ?_ (State.setCtx_only ..)
      exact h6
  obtain ⟨w7, e8⟩ : ∃ x, x = v2 := ⟨_, rfl⟩
  rw [← e8] at h3 ⊢
  clear e8 v2
  refine Only.step ?_ (State.updSess_only ..)
  exact h3

theorem State.settleSends_only (s : State) :
    Only 68351748112347229395527596073404575714420242181980479848332668920927581994955645746794217584108576 187072209578355574179108765961207815075121536931976 s (State.settleSends s) := by
  unfold State.settleSends
  refine Only.foldl ?_ ?_
  · exact Only.refl _ _ _
  · intro u0 u1 h2
    refine Only.step ?_ (State.sendDone_only ..)
    exact h2

theorem State.syncSingle_only (s : State) :
    Only 1356938545749799165119972480570561420155507632800475359837393562592731987968 0 s (State.syncSingle s) := by
  unfold State.syncSingle
  extract_lets +onlyGivenNames v0
  unfold v0
  clear v0
  extract_lets +onlyGivenNames v1
  have h2 : ∀ a0 a1 a2, Only 1356938545749799165119972480570561420155507632800475359837393562592731987968 0 s a0 → a2.within 1356938545749799165119972480570561420155507632800475359837393562592731987968 = true → Only 1356938545749799165119972480570561420155507632800475359837393562592731987968 0 s (v1 a0 a1 a2) := by
    intro a0 a1 a2 h30 h32
    unfold v1
    extract_lets +onlyGivenNames v4
    clear_value v4
    extract_lets +onlyGivenNames v5
    clear_value v5
    extract_lets +onlyGivenNames v6
    clear_value v6
    extract_lets +onlyGivenNames v7
    clear_value v7
    refine Only.trans ?_ (State.eventIf_only _ _ _ _ (by decide))
    refine Only.trans ?_ (State.setf_only _ _ _ _ (by assumption))
    exact h30
  clear_value v1
  apply h2
  · apply h2
    · exact Only.refl _ _ _
    · first | decide | assumption
  · first | decide | assumption

theorem State.moveQueued_only (s : State) (n : Nat) (r : Nat) :
    Only 7237005577332262213973186563042994240829374041602535252466099000494570602496 676998458984192337835458560 s (State.moveQueued s n r) := by
  unfold State.moveQueued
  refine Only.foldl ?_ ?_
  · exact Only.refl _ _ _
  · intro u0 u1 h2
    extract_lets +onlyGivenNames v3
    clear_value v3
    extract_lets +onlyGivenNames v4
    have h5 : Only 7237005577332262213973186563042994240829374041602535252466099000494570602496 676998458984192337835458560 s v4 := by
      unfold v4
      refine Only.step ?_ (State.setQueue_only ..)
      exact h2
    obtain ⟨w6, e7⟩ : ∃ x, x = v4 := ⟨_, rfl⟩
    rw [← e7] at h5 ⊢
    clear e7 v4
    extract_lets +onlyGivenNames v8
    clear_value v8
    extract_lets +onlyGivenNames v9
    clear_value v9
    refine Only.foldl ?_ ?_
    · exact h5
    · intro u10 u11 h12
      extract_lets +onlyGivenNames v13
      clear_value v13
      extract_lets +onlyGivenNames v14
      clear_value v14
      refine Only.ite ?_ ?_
      · refine Only.step ?_ (State.updSess_only ..)
        exact h12
      · extract_lets +onlyGivenNames v15
        clear_value v15
        refine Only.step ?_ (State.enqueue_only ..)
        refine Only.step ?_ (State.updSess_only ..)
        exact h12

theorem State.routeUpNow_only (s : State) (n : Nat) (r : Nat) (stepped : Bool) :
    Only 240856139557740768542406741977114461890462574294176475783088251116177269557559296 23906398852824828008403289627854856589657768064 s (State.routeUpNow s n r stepped) := by
  unfold State.routeUpNow
  extract_lets +onlyGivenNames v0
  have h1 : Only 240856139557740768542406741977114461890462574294176475783088251116177269557559296 23906398852824828008403289627854856589657768064 s v0 := by
    unfold v0
    refine Only.step ?_ (State.syncSingle_only ..)
    refine Only.trans ?_ (State.event_only _ _ _ (by decide))
    refine Only.step ?_ (State.setRoute_only ..)
    exact Only.refl _ _ _
  obtain ⟨w2, e3⟩ : ∃ x, x = v0 := ⟨_, rfl⟩
  rw [← e3] at h1 ⊢
  clear e3 v0
  extract_lets +onlyGivenNames v4
  have h5 : Only 240856139557740768542406741977114461890462574294176475783088251116177269557559296 23906398852824828008403289627854856589657768064 s v4 := by
    unfold v4
    refine Only.step ?_ (State.setWindow_only ..)
    refine Only.step ?_ (State.setWindow_only ..)
    exact h1
  obtain ⟨w6, e7⟩ : ∃ x, x = v4 := ⟨_, rfl⟩
  rw [← e7] at h5 ⊢
  clear e7 v4
  extract_lets +onlyGivenNames v8
  have h9 : Only 240856139557740768542406741977114461890462574294176475783088251116177269557559296 23906398852824828008403289627854856589657768064 s v8 := by
    unfold v8
    refine Only.step ?_ (State.updSess_only ..)
    exact h5
  obtain ⟨w10, e11⟩ : ∃ x, x = v8 := ⟨_, rfl⟩
  rw [← e11] at h9 ⊢
  clear e11 v8
  extract_lets +onlyGivenNames v12
  have h13 : Only 240856139557740768542406741977114461890462574294176475783088251116177269557559296 23906398852824828008403289627854856589657768064 s v12 := by
    unfold v12
    refine Only.ite ?_ ?_
    · exact h9
    · refine Only.step ?_ (State.timeRouteUp_only ..)
      exact h9
  obtain ⟨w14, e15⟩ : ∃ x, x = v12 := ⟨_, rfl⟩
  rw [← e15] at h13 ⊢
  clear e15 v12
  extract_lets +onlyGivenNames v16
  have h17 : Only 240856139557740768542406741977114461890462574294176475783088251116177269557559296 23906398852824828008403289627854856589657768064 s v16 := by
    unfold v16
    refine Only.ite ?_ ?_
    · exact h13
    · refine Only.step ?_ (State.moveQueued_only ..)
      exact h13
  obtain ⟨w18, e19⟩ : ∃ x, x = v16 := ⟨_, rfl⟩
  rw [← e19] at h17 ⊢
  clear e19 v16
  refine Only.step ?_ (State.pumpTx_only ..)
  exact h17

theorem State.reachMeridian_only (s : State) (m : Nat) :
    Only 68351748112347229395534833099687147017005906730847790429404936223512675939024130855429172686136868 187072209578355574188064701507269286700454342006920 s (State.reachMeridian s m) := by
  unfold State.reachMeridian
  extract_lets +onlyGivenNames v0
  have h1 : Only 68351748112347229395534833099687147017005906730847790429404936223512675939024130855429172686136868 187072209578355574188064701507269286700454342006920 s v0 := by
    unfold v0
    refine Only.foldl ?_ ?_
    · exact Only.refl _ _ _
    · intro u2 u3 h4
      refine Only.step ?_ (State.endItem_only ..)
      exact h4
  obtain ⟨w5, e6⟩ : ∃ x, x = v0 := ⟨_, rfl⟩
  rw [← e6] at h1 ⊢
  clear e6 v0
  extract_lets +onlyGivenNames v7
  have h8 : Only 68351748112347229395534833099687147017005906730847790429404936223512675939024130855429172686136868 187072209578355574188064701507269286700454342006920 s v7 := by
    unfold v7
    refine Only.trans ?_ (State.setf_only _ _ _ _ (by decide))
    exact h1
  obtain ⟨w9, e10⟩ : ∃ x, x = v7 := ⟨_, rfl⟩
  rw [← e10] at h8 ⊢
  clear e10 v7
  extract_lets +onlyGivenNames v11
  have h12 : Only 68351748112347229395534833099687147017005906730847790429404936223512675939024130855429172686136868 187072209578355574188064701507269286700454342006920 s v11 := by
    unfold v11
    refine Only.step ?_ (State.ownView_only ..)
    exact h8
  obtain ⟨w13, e14⟩ : ∃ x, x = v11 := ⟨_, rfl⟩
  rw [← e14] at h12 ⊢
  clear e14 v11
  refine Only.step ?_ (State.forgetSteps_only ..)
  refine Only.step ?_ (State.sendStep_only ..)
  exact h12

theorem State.rebind_only (s : State) (n : Nat) (r : Nat) :
    Only 0 618971200234310854860865536 s (State.rebind s n r) := by
  unfold State.rebind
  extract_lets +onlyGivenNames v0
  clear_value v0
  refine Only.foldl ?_ ?_
  · exact Only.refl _ _ _
  · intro u1 u2 h3
    extract_lets +onlyGivenNames v4
    clear_value v4
    extract_lets +onlyGivenNames v5
    clear_value v5
    extract_lets +onlyGivenNames v6
    have h7 : Only 0 618971200234310854860865536 s v6 := by
      unfold v6
      refine Only.step ?_ (State.setCtx_only ..)
      exact h3
    obtain ⟨w8, e9⟩ : ∃ x, x = v6 := ⟨_, rfl⟩
    rw [← e9] at h7 ⊢
    clear e9 v6
    refine Only.ite ?_ ?_
    · refine Only.step ?_ (State.updSess_only ..)
      exact h7
    · exact h7

theorem State.routeDown_only (s : State) (n : Nat) (r : Nat) :
    Only 240856139557740768542406741977114461890462574294176475783088251116177269557559296 23906398852824828008403289627854856589657768064 s (State.routeDown s n r) := by
  unfold State.routeDown
  extract_lets +onlyGivenNames v0
  clear_value v0
  extract_lets +onlyGivenNames v1
  have h2 : Only 240856139557740768542406741977114461890462574294176475783088251116177269557559296 23906398852824828008403289627854856589657768064 s v1 := by
    unfold v1
    refine Only.step ?_ (State.syncSingle_only ..)
    refine Only.trans ?_ (State.eventIf_only _ _ _ _ (by decide))
    refine Only.step ?_ (State.setRoute_only ..)
    exact Only.refl _ _ _
  obtain ⟨w3, e4⟩ : ∃ x, x = v1 := ⟨_, rfl⟩
  rw [← e4] at h2 ⊢
  clear e4 v1
  refine Only.ite ?_ ?_
  · exact h2
  · extract_lets +onlyGivenNames v5
    have h6 : Only 240856139557740768542406741977114461890462574294176475783088251116177269557559296 23906398852824828008403289627854856589657768064 s v5 := by
      unfold v5
      refine Only.step ?_ (State.timeRouteDown_only ..)
      refine Only.step ?_ (State.rebind_only ..)
      refine Only.step ?_ (State.setWindow_only ..)
      exact h2
    obtain ⟨w7, e8⟩ : ∃ x, x = v5 := ⟨_, rfl⟩
    rw [← e8] at h6 ⊢
    clear e8 v5
    extract_lets +onlyGivenNames v9
    have h10 : Only 240856139557740768542406741977114461890462574294176475783088251116177269557559296 23906398852824828008403289627854856589657768064 s v9 := by
      unfold v9
      refine Only.ite ?_ ?_
      · refine Only.step ?_ (State.moveQueued_only ..)
        exact h6
      · exact h6
    obtain ⟨w11, e12⟩ : ∃ x, x = v9 := ⟨_, rfl⟩
    rw [← e12] at h10 ⊢
    clear e12 v9
    extract_lets +onlyGivenNames v13
    have h14 : Only 240856139557740768542406741977114461890462574294176475783088251116177269557559296 23906398852824828008403289627854856589657768064 s v13 := by
      unfold v13
      refine Only.step ?_ (State.degradeWhere_only ..)
      exact h10
    obtain ⟨w15, e16⟩ : ∃ x, x = v13 := ⟨_, rfl⟩
    rw [← e16] at h14 ⊢
    clear e16 v13
    refine Only.step ?_ (State.pumpTx_only ..)
    exact h14

theorem State.noteReport_only (s : State) (step : Nat) (pos : Nat) :
    Only 68351748112347229395534833099687147017005906730847790429404936223512675939024130855429172686136868 561216628735066721248208018682637739732373073008776 s (State.noteReport s step pos) := by
  unfold State.noteReport
  extract_lets +onlyGivenNames v0
  clear_value v0
  extract_lets +onlyGivenNames v1
  clear_value v1
  refine Only.ite ?_ ?_
  · extract_lets +onlyGivenNames v2
    unfold v2
    clear v2
    extract_lets +onlyGivenNames v3
    have h4 : Only 68351748112347229395534833099687147017005906730847790429404936223512675939024130855429172686136868 561216628735066721248208018682637739732373073008776 s v3 := by
      unfold v3
      refine Only.up_cst ?_
      exact Only.refl _ _ _
    obtain ⟨w5, e6⟩ : ∃ x, x = v3 := ⟨_, rfl⟩
    rw [← e6] at h4 ⊢
    clear e6 v3
    extract_lets +onlyGivenNames v7
    have h8 : Only 68351748112347229395534833099687147017005906730847790429404936223512675939024130855429172686136868 561216628735066721248208018682637739732373073008776 s v7 := by
      unfold v7
      refine Only.step ?_ (State.nextView_only ..)
      refine Only.step ?_ (State.reachMeridian_only ..)
      exact h4
    obtain ⟨w9, e10⟩ : ∃ x, x = v7 := ⟨_, rfl⟩
    rw [← e10] at h8 ⊢
    clear e10 v7
    refine Only.foldl ?_ ?_
    · exact h8
    · intro u11 u12 h13
      refine Only.step ?_ (State.emit_only ..)
      exact h13
  · refine Only.up_cst ?_
    exact Only.refl _ _ _

theorem State.endSession_only (s : State) (n : Nat) (p : Item → Bool) (st : Status) :
    Only 68351748112347229395527596073404575714420242181980479848332668920927581994955645746794217584108576 187072209578355574179108765961207815075121536931976 s (State.endSession s n p st) := by
  unfold State.endSession
  refine Only.step ?_ (State.endWhere_only ..)
  exact Only.refl _ _ _

theorem State.eclipseNative_only (s : State) (n : Nat) :
    Only 68351748112347229395527596073404575714420242181980479848333009203294502933419109121401649352320032 187072209578355574260237785405794854080773092513928 s (State.eclipseNative s n) := by
  unfold State.eclipseNative
  refine Only.ite ?_ ?_
  · exact Only.refl _ _ _
  · extract_lets +onlyGivenNames v0
    clear_value v0
    extract_lets +onlyGivenNames v1
    clear_value v1
    extract_lets +onlyGivenNames v2
    clear_value v2
    extract_lets +onlyGivenNames v3
    have h4 : Only 68351748112347229395527596073404575714420242181980479848333009203294502933419109121401649352320032 187072209578355574260237785405794854080773092513928 s v3 := by
      unfold v3
      refine Only.foldl ?_ ?_
      · exact Only.refl _ _ _
      · intro u5 u6 h7
        refine Only.step ?_ (State.eclipseCommit_only ..)
        exact h7
    obtain ⟨w8, e9⟩ : ∃ x, x = v3 := ⟨_, rfl⟩
    rw [← e9] at h4 ⊢
    clear e9 v3
    refine Only.step ?_ (State.syncGate_only ..)
    refine Only.step ?_ (State.endSession_only ..)
    exact h4

theorem State.eclipse_only (s : State) (n : Nat) :
    Only 68351748112347229395527596073404575714420242181980479848342537109649745664981061632498101236180000 187072209578355574260237785405794854080773092513928 s (State.eclipse s n) := by
  unfold State.eclipse
  extract_lets +onlyGivenNames v0
  have h1 : Only 68351748112347229395527596073404575714420242181980479848342537109649745664981061632498101236180000 187072209578355574260237785405794854080773092513928 s v0 := by
    unfold v0
    refine Only.trans ?_ (State.event_only _ _ _ (by decide))
    refine Only.step ?_ (State.setSessState_only ..)
    exact Only.refl _ _ _
  obtain ⟨w2, e3⟩ : ∃ x, x = v0 := ⟨_, rfl⟩
  rw [← e3] at h1 ⊢
  clear e3 v0
  extract_lets +onlyGivenNames v4
  clear_value v4
  extract_lets +onlyGivenNames v5
  have h6 : Only 68351748112347229395527596073404575714420242181980479848342537109649745664981061632498101236180000 187072209578355574260237785405794854080773092513928 s v5 := by
    unfold v5
    refine Only.step ?_ (State.updSess_only ..)
    exact h1
  obtain ⟨w7, e8⟩ : ∃ x, x = v5 := ⟨_, rfl⟩
  rw [← e8] at h6 ⊢
  clear e8 v5
  extract_lets +onlyGivenNames v9
  unfold v9
  clear v9
  extract_lets +onlyGivenNames v10
  have h11 : Only 68351748112347229395527596073404575714420242181980479848342537109649745664981061632498101236180000 187072209578355574260237785405794854080773092513928 s v10 := by
    unfold v10
    split
    · rename_i a12 a13 a14
      refine Only.ite ?_ ?_
      · refine Only.trans ?_ (State.setf_only _ _ _ _ (by decide))
        refine Only.up_peer ?_
        exact h6
      · exact h6
    · rename_i a15 a16
      exact h6
  obtain ⟨w17, e18⟩ : ∃ x, x = v10 := ⟨_, rfl⟩
  rw [← e18] at h11 ⊢
  clear e18 v10
  refine Only.ite ?_ ?_
  · refine Only.trans ?_ (State.setf_only _ _ _ _ (by decide))
    refine Only.trans ?_ (State.setf_only _ _ _ _ (by decide))
    refine Only.up_peer ?_
    exact h11
  · refine Only.step ?_ (State.eclipseNative_only ..)
    exact h11

theorem State.endWaiting_only (s : State) (n : Nat) (st : Status) :
    Only 68351748112347229395527596073404575714420242182728768686646091215047868629306382652858055046112288 187072209586182068618290350620865431046052205795464 s (State.endWaiting s n st) := by
  unfold State.endWaiting
  refine Only.step ?_ (State.errorReqs_only ..)
  refine Only.step ?_ (State.endSession_only ..)
  exact Only.refl _ _ _

theorem State.stopJob_only (s : State) :
    Only 68351748112347229395527596073404575714420242181980479848515060269597205011372014536377645345448992 187072209578355574179108765961207815075121536931976 s (State.stopJob s) := by
  unfold State.stopJob
  extract_lets +onlyGivenNames v0
  clear_value v0
  extract_lets +onlyGivenNames v1
  clear_value v1
  extract_lets +onlyGivenNames v2
  have h3 : Only 68351748112347229395527596073404575714420242181980479848515060269597205011372014536377645345448992 187072209578355574179108765961207815075121536931976 s v2 := by
    unfold v2
    refine Only.step ?_ (State.endWhere_only ..)
    exact Only.refl _ _ _
  obtain ⟨w4, e5⟩ : ∃ x, x = v2 := ⟨_, rfl⟩
  rw [← e5] at h3 ⊢
  clear e5 v2
  extract_lets +onlyGivenNames v6
  have h7 : Only 68351748112347229395527596073404575714420242181980479848515060269597205011372014536377645345448992 187072209578355574179108765961207815075121536931976 s v6 := by
    unfold v6
    refine Only.step ?_ (State.syncTracks_only ..)
    refine Only.foldl ?_ ?_
    · exact h3
    · intro u8 u9 h10
      refine Only.ite ?_ ?_
      · exact h10
      · refine Only.step ?_ (State.setTrack_only ..)
        exact h10
  obtain ⟨w11, e12⟩ : ∃ x, x = v6 := ⟨_, rfl⟩
  rw [← e12] at h7 ⊢
  clear e12 v6
  refine Only.trans ?_ (State.event_only _ _ _ (by decide))
  refine Only.trans ?_ (State.setf_only _ _ _ _ (by decide))
  refine Only.trans ?_ (State.setf_only _ _ _ _ (by decide))
  refine Only.trans ?_ (State.setf_only _ _ _ _ (by decide))
  exact h7

theorem State.reportMeridian_only (s : State) :
    Only 68351748112347229395534833099687147017005906730847790429404936223512675939024130855429172686136868 2057794305361911309488781287384111551860047997016200 s (State.reportMeridian s) := by
  unfold State.reportMeridian
  extract_lets +onlyGivenNames v0
  clear_value v0
  refine Only.ite ?_ ?_
  · exact Only.refl _ _ _
  · extract_lets +onlyGivenNames v1
    unfold v1
    clear v1
    extract_lets +onlyGivenNames v2
    have h3 : Only 68351748112347229395534833099687147017005906730847790429404936223512675939024130855429172686136868 2057794305361911309488781287384111551860047997016200 s v2 := by
      unfold v2
      refine Only.up_cst ?_
      exact Only.refl _ _ _
    obtain ⟨w4, e5⟩ : ∃ x, x = v2 := ⟨_, rfl⟩
    rw [← e5] at h3 ⊢
    clear e5 v2
    refine Only.ite ?_ ?_
    · refine Only.step ?_ (State.noteReport_only ..)
      exact h3
    · refine Only.step ?_ (State.emit_only ..)
      exact h3

theorem State.meridianCycle_only (s : State) :
    Only 68351748112347229395534833099687147017005906730847790429404936223512675939024130855429172686136868 2057794305361911309488781287384111551860047997016200 s (State.meridianCycle s) := by
  unfold State.meridianCycle
  extract_lets +onlyGivenNames v0
  clear_value v0
  extract_lets +onlyGivenNames v1
  have h2 : Only 68351748112347229395534833099687147017005906730847790429404936223512675939024130855429172686136868 2057794305361911309488781287384111551860047997016200 s v1 := by
    unfold v1
    refine Only.step ?_ (State.syncMeridian_only ..)
    refine Only.ite ?_ ?_
    · refine Only.step ?_ (State.growReady_only ..)
      exact Only.refl _ _ _
    · exact Only.refl _ _ _
  obtain ⟨w3, e4⟩ : ∃ x, x = v1 := ⟨_, rfl⟩
  rw [← e4] at h2 ⊢
  clear e4 v1
  refine Only.ite ?_ ?_
  · exact h2
  · refine Only.ite ?_ ?_
    · refine Only.step ?_ (State.reportMeridian_only ..)
      exact h2
    · refine Only.step ?_ (State.reachMeridian_only ..)
      exact h2

theorem State.beforeCommit_only (s : State) :
    Only 68351748112347229395534833099687147017005906730847790429404936223512675939024130855429172686202724 5050949658615600485969927824787059680518556111314152 s (State.beforeCommit s) := by
  unfold State.beforeCommit
  extract_lets +onlyGivenNames v0
  have h1 : Only 68351748112347229395534833099687147017005906730847790429404936223512675939024130855429172686202724 5050949658615600485969927824787059680518556111314152 s v0 := by
    unfold v0
    refine Only.ite ?_ ?_
    · refine Only.step ?_ (State.meridianCycle_only ..)
      exact Only.refl _ _ _
    · exact Only.refl _ _ _
  obtain ⟨w2, e3⟩ : ∃ x, x = v0 := ⟨_, rfl⟩
  rw [← e3] at h1 ⊢
  clear e3 v0
  refine Only.ite ?_ ?_
  · refine Only.step ?_ (State.stepSwap_only ..)
    exact h1
  · refine Only.ite ?_ ?_
    · refine Only.step ?_ (State.idleSwap_only ..)
      exact h1
    · exact h1

theorem execMeridian_only (s : State) :
    Keeps (execMeridian s) (Only 68351748112347229395534833099687147017005906730847790429404936223512675939024130855429172686136868 2057794305361911309488781287384111551860047997016200 s) := by
  unfold execMeridian
  refine Keeps.next ?_
  refine Only.step ?_ (State.meridianCycle_only ..)
  exact Only.refl _ _ _

end Sys2Proof.Machine
end

