-- ==== Sys2Proof/Laws/OnlyPeer.lean ====
section
/-! SUPPORT. What each operation changes and what it leaves as it is: the peer protocol, collectives, the line side and scheduling. One lemma per operation, stated with
the relation of Laws/Only.lean. -/

-- One theorem at a time: elaborated side by side, the theorems of the package take a thread each while they wait.
set_option Elab.async false

namespace Sys2Proof.Machine

/-! ### Members -/

theorem State.sendEpoch_only (s : State) (n : Nat) :
    Only 7237026282571302585664548867310581071927020218014549279993205352336245915648 677301871030716712540438656 s (State.sendEpoch s n) := by
  unfold State.sendEpoch
  refine Only.step ?_ (State.sendData_only ..)
  exact Only.refl _ _ _

theorem State.answerEpoch_only (s : State) (n : Nat) :
    Only 7237026282571302585664548867310581071927020218014549279993205352336245915648 677301871030716712540438656 s (State.answerEpoch s n) := by
  unfold State.answerEpoch
  extract_lets +onlyGivenNames v0
  clear_value v0
  refine Only.ite ?_ ?_
  · refine Only.step ?_ (State.sendEpoch_only ..)
    refine Only.step ?_ (State.updSess_only ..)
    exact Only.refl _ _ _
  · exact Only.refl _ _ _

theorem State.setWatch_only (s : State) (n : Nat) (w : Watch) :
    Only 0 19807040628566084398385987584 s (State.setWatch s n w) := by
  unfold State.setWatch
  refine Only.up_peer ?_
  exact Only.refl _ _ _

theorem State.heardCurrent_only (s : State) (n : Nat) :
    Only 0 19807040628566084398385987584 s (State.heardCurrent s n) := by
  unfold State.heardCurrent
  extract_lets +onlyGivenNames v0
  clear_value v0
  refine Only.ite ?_ ?_
  · refine Only.step ?_ (State.setWatch_only ..)
    exact Only.refl _ _ _
  · exact Only.refl _ _ _

theorem State.heard_only (s : State) (n : Nat) (r : Nat) :
    Only 0 20426010648208774535835549696 s (State.heard s n r) := by
  unfold State.heard
  extract_lets +onlyGivenNames v0
  have h1 : Only 0 20426010648208774535835549696 s v0 := by
    unfold v0
    refine Only.step ?_ (State.updSess_only ..)
    exact Only.refl _ _ _
  obtain ⟨w2, e3⟩ : ∃ x, x = v0 := ⟨_, rfl⟩
  rw [← e3] at h1 ⊢
  clear e3 v0
  extract_lets +onlyGivenNames v4
  clear_value v4
  refine Only.step ?_ (State.setWatch_only ..)
  exact h1

theorem State.suspendEpoch_only (s : State) (n : Nat) (e : Nat) :
    Only 81446551064663739046163180945408 618970019642690137449562112 s (State.suspendEpoch s n e) := by
  unfold State.suspendEpoch
  extract_lets +onlyGivenNames v0
  have h1 : Only 81446551064663739046163180945408 618970019642690137449562112 s v0 := by
    unfold v0
    refine Only.trans ?_ (State.setf_only _ _ _ _ (by decide))
    exact Only.refl _ _ _
  obtain ⟨w2, e3⟩ : ∃ x, x = v0 := ⟨_, rfl⟩
  rw [← e3] at h1 ⊢
  clear e3 v0
  refine Only.trans ?_ (State.eventIf_only _ _ _ _ (by decide))
  refine Only.step ?_ (State.updSess_only ..)
  exact h1

theorem State.endEpochWait_only (s : State) (n : Nat) :
    Only 7237026282571302585664548867310581071927684832012441737929657255866386087936 677301871030716712540438656 s (State.endEpochWait s n) := by
  unfold State.endEpochWait
  refine Only.ite ?_ ?_
  · extract_lets +onlyGivenNames v0
    have h1 : Only 7237026282571302585664548867310581071927684832012441737929657255866386087936 677301871030716712540438656 s v0 := by
      unfold v0
      refine Only.step ?_ (State.updSess_only ..)
      refine Only.trans ?_ (State.setf_only _ _ _ _ (by decide))
      exact Only.refl _ _ _
    obtain ⟨w2, e3⟩ : ∃ x, x = v0 := ⟨_, rfl⟩
    rw [← e3] at h1 ⊢
    clear e3 v0
    refine Only.ite ?_ ?_
    · refine Only.step ?_ (State.resume_only ..)
      exact h1
    · exact h1
  · exact Only.refl _ _ _

theorem State.shrinkEntry_only (s : State) (lost : List Nat) (epoch : Nat) (c : Nat) :
    Only 9284550294640352061743431680 0 s (State.shrinkEntry s lost epoch c) := by
  unfold State.shrinkEntry
  extract_lets +onlyGivenNames v0
  clear_value v0
  extract_lets +onlyGivenNames v1
  clear_value v1
  refine Only.trans ?_ (State.setf_only _ _ _ _ (by decide))
  refine Only.trans ?_ (State.setf_only _ _ _ _ (by decide))
  refine Only.trans ?_ (State.setf_only _ _ _ _ (by decide))
  refine Only.trans ?_ (State.setf_only _ _ _ _ (by decide))
  exact Only.refl _ _ _

theorem State.reform_only (s : State) (lost : List Nat) (changed : List Nat) (epoch : Nat) :
    Only 68351748112347229395527596073404575714420242181980479848332668920927591279505940387146279327540256 187072209578355574179108765961207815075121537718664 s (State.reform s lost changed epoch) := by
  unfold State.reform
  extract_lets +onlyGivenNames v0
  clear_value v0
  extract_lets +onlyGivenNames v1
  clear_value v1
  extract_lets +onlyGivenNames v2
  clear_value v2
  extract_lets +onlyGivenNames v3
  have h4 : Only 68351748112347229395527596073404575714420242181980479848332668920927591279505940387146279327540256 187072209578355574179108765961207815075121537718664 s v3 := by
    unfold v3
    refine Only.foldl ?_ ?_
    · exact Only.refl _ _ _
    · intro u5 u6 h7
      refine Only.step ?_ (State.shrinkEntry_only ..)
      exact h7
  obtain ⟨w8, e9⟩ : ∃ x, x = v3 := ⟨_, rfl⟩
  rw [← e9] at h4 ⊢
  clear e9 v3
  extract_lets +onlyGivenNames v10
  have h11 : Only 68351748112347229395527596073404575714420242181980479848332668920927591279505940387146279327540256 187072209578355574179108765961207815075121537718664 s v10 := by
    unfold v10
    refine Only.foldl ?_ ?_
    · exact h4
    · intro u12 u13 h14
      refine Only.trans ?_ (State.setf_only _ _ _ _ (by decide))
      exact h14
  obtain ⟨w15, e16⟩ : ∃ x, x = v10 := ⟨_, rfl⟩
  rw [← e16] at h11 ⊢
  clear e16 v10
  refine Only.ite ?_ ?_
  · exact h11
  · extract_lets +onlyGivenNames v17
    clear_value v17
    extract_lets +onlyGivenNames v18
    clear_value v18
    extract_lets +onlyGivenNames v19
    clear_value v19
    extract_lets +onlyGivenNames v20
    have h21 : Only 68351748112347229395527596073404575714420242181980479848332668920927591279505940387146279327540256 187072209578355574179108765961207815075121537718664 s v20 := by
      unfold v20
      refine Only.step ?_ (State.endWhere_only ..)
      refine Only.step ?_ (State.addPendings_only ..)
      exact h11
    obtain ⟨w22, e23⟩ : ∃ x, x = v20 := ⟨_, rfl⟩
    rw [← e23] at h21 ⊢
    clear e23 v20
    extract_lets +onlyGivenNames v24
    have h25 : Only 68351748112347229395527596073404575714420242181980479848332668920927591279505940387146279327540256 187072209578355574179108765961207815075121537718664 s v24 := by
      unfold v24
      refine Only.foldl ?_ ?_
      · exact h21
      · intro u26 u27 h28
        refine Only.up_arr ?_
        exact h28
    obtain ⟨w29, e30⟩ : ∃ x, x = v24 := ⟨_, rfl⟩
    rw [← e30] at h25 ⊢
    clear e30 v24
    refine Only.trans ?_ (State.event_only _ _ _ (by decide))
    exact h25

theorem State.fenceSelf_only (s : State) :
    Only 68351748112347229395527596073404575714420242181980479848506893492872242030183814510537271106511904 187072209578355574179742591261321929775869888534664 s (State.fenceSelf s) := by
  unfold State.fenceSelf
  extract_lets +onlyGivenNames v0
  have h1 : Only 68351748112347229395527596073404575714420242181980479848506893492872242030183814510537271106511904 187072209578355574179742591261321929775869888534664 s v0 := by
    unfold v0
    refine Only.foldl ?_ ?_
    · exact Only.refl _ _ _
    · intro u2 u3 h4
      refine Only.step ?_ (State.setSessState_only ..)
      exact h4
  obtain ⟨w5, e6⟩ : ∃ x, x = v0 := ⟨_, rfl⟩
  rw [← e6] at h1 ⊢
  clear e6 v0
  extract_lets +onlyGivenNames v7
  have h8 : Only 68351748112347229395527596073404575714420242181980479848506893492872242030183814510537271106511904 187072209578355574179742591261321929775869888534664 s v7 := by
    unfold v7
    refine Only.step ?_ (State.endWhere_only ..)
    exact h1
  obtain ⟨w9, e10⟩ : ∃ x, x = v7 := ⟨_, rfl⟩
  rw [← e10] at h8 ⊢
  clear e10 v7
  refine Only.trans ?_ (State.event_only _ _ _ (by decide))
  refine Only.up_peer ?_
  exact h8

theorem State.fencePeer_only (s : State) (n : Nat) (removed : Bool) (siteLost : Bool) :
    Only 748288838313422294201426176285657870801825660141568 7826494439201391700286182055329054851072 s (State.fencePeer s n removed siteLost) := by
  unfold State.fencePeer
  extract_lets +onlyGivenNames v0
  clear_value v0
  extract_lets +onlyGivenNames v1
  have h2 : Only 748288838313422294201426176285657870801825660141568 7826494439201391700286182055329054851072 s v1 := by
    unfold v1
    refine Only.step ?_ (State.setWatch_only ..)
    exact Only.refl _ _ _
  obtain ⟨w3, e4⟩ : ∃ x, x = v1 := ⟨_, rfl⟩
  rw [← e4] at h2 ⊢
  clear e4 v1
  extract_lets +onlyGivenNames v5
  have h6 : Only 748288838313422294201426176285657870801825660141568 7826494439201391700286182055329054851072 s v5 := by
    unfold v5
    refine Only.step ?_ (State.errorReqs_only ..)
    exact h2
  obtain ⟨w7, e8⟩ : ∃ x, x = v5 := ⟨_, rfl⟩
  rw [← e8] at h6 ⊢
  clear e8 v5
  refine Only.ite ?_ ?_
  · refine Only.step ?_ (State.setSessState_only ..)
    exact h6
  · exact h6

theorem State.reopen_only (s : State) (n : Nat) :
    Only 81139541934920964737988198137856 618970019642690137449562112 s (State.reopen s n) := by
  unfold State.reopen
  refine Only.ite ?_ ?_
  · refine Only.step ?_ (State.updSess_only ..)
    refine Only.step ?_ (State.setSessState_only ..)
    exact Only.refl _ _ _
  · exact Only.refl _ _ _

theorem State.commitMembers_only (s : State) (epoch : Nat) (ms : List Member) :
    Only 68351748112347229395534833099687147017005906731596079267892413612927039677964929248492150664897568 187072209586182068618959515543950567111210274101640 s (State.commitMembers s epoch ms).2 := by
  unfold State.commitMembers
  refine Only.iteSnd ?_ ?_
  · refine Only.pair _ ?_
    exact Only.refl _ _ _
  · extract_lets +onlyGivenNames v0
    clear_value v0
    extract_lets +onlyGivenNames v1
    clear_value v1
    extract_lets +onlyGivenNames v2
    clear_value v2
    extract_lets +onlyGivenNames v3
    clear_value v3
    extract_lets +onlyGivenNames v4
    clear_value v4
    extract_lets +onlyGivenNames v5
    clear_value v5
    extract_lets +onlyGivenNames v6
    clear_value v6
    extract_lets +onlyGivenNames v7
    clear_value v7
    extract_lets +onlyGivenNames v8
    unfold v8
    clear v8
    extract_lets +onlyGivenNames v9
    have h10 : Only 68351748112347229395534833099687147017005906731596079267892413612927039677964929248492150664897568 187072209586182068618959515543950567111210274101640 s v9 := by
      unfold v9
      refine Only.up_peer ?_
      exact Only.refl _ _ _
    obtain ⟨w11, e12⟩ : ∃ x, x = v9 := ⟨_, rfl⟩
    rw [← e12] at h10 ⊢
    clear e12 v9
    extract_lets +onlyGivenNames v13
    have h14 : Only 68351748112347229395534833099687147017005906731596079267892413612927039677964929248492150664897568 187072209586182068618959515543950567111210274101640 s v13 := by
      unfold v13
      refine Only.trans ?_ (State.event_only _ _ _ (by decide))
      refine Only.trans ?_ (State.setf_only _ _ _ _ (by decide))
      exact h10
    obtain ⟨w15, e16⟩ : ∃ x, x = v13 := ⟨_, rfl⟩
    rw [← e16] at h14 ⊢
    clear e16 v13
    extract_lets +onlyGivenNames v17
    clear_value v17
    extract_lets +onlyGivenNames v18
    clear_value v18
    refine Only.iteSnd ?_ ?_
    · refine Only.pair _ ?_
      refine Only.step ?_ (State.syncMeridian_only ..)
      refine Only.step ?_ (State.reform_only ..)
      refine Only.step ?_ (State.fenceSelf_only ..)
      exact h14
    · extract_lets +onlyGivenNames v19
      unfold v19
      clear v19
      extract_lets +onlyGivenNames v20
      have h21 : Only 68351748112347229395534833099687147017005906731596079267892413612927039677964929248492150664897568 187072209586182068618959515543950567111210274101640 s v20 := by
        unfold v20
        refine Only.up_peer ?_
        exact h14
      obtain ⟨w22, e23⟩ : ∃ x, x = v20 := ⟨_, rfl⟩
      rw [← e23] at h21 ⊢
      clear e23 v20
      extract_lets +onlyGivenNames v24
      have h25 : ∀ a0 a1, Only 68351748112347229395534833099687147017005906731596079267892413612927039677964929248492150664897568 187072209586182068618959515543950567111210274101640 s a0 → Only 68351748112347229395534833099687147017005906731596079267892413612927039677964929248492150664897568 187072209586182068618959515543950567111210274101640 s (v24 a0 a1) := by
        intro a0 a1 h260
        unfold v24
        extract_lets +onlyGivenNames v27
        clear_value v27
        split
        · rename_i a28 a29
          extract_lets +onlyGivenNames v30
          have h31 : Only 68351748112347229395534833099687147017005906731596079267892413612927039677964929248492150664897568 187072209586182068618959515543950567111210274101640 s v30 := by
            unfold v30
            refine Only.step ?_ (State.fencePeer_only ..)
            exact h260
          obtain ⟨w32, e33⟩ : ∃ x, x = v30 := ⟨_, rfl⟩
          rw [← e33] at h31 ⊢
          clear e33 v30
          refine Only.ite ?_ ?_
          · refine Only.step ?_ (State.reopen_only ..)
            exact h31
          · exact h31
        · rename_i a34
          extract_lets +onlyGivenNames v35
          clear_value v35
          extract_lets +onlyGivenNames v36
          clear_value v36
          extract_lets +onlyGivenNames v37
          have h38 : Only 68351748112347229395534833099687147017005906731596079267892413612927039677964929248492150664897568 187072209586182068618959515543950567111210274101640 s v37 := by
            unfold v37
            refine Only.ite ?_ ?_
            · refine Only.step ?_ (State.setWatch_only ..)
              exact h260
            · exact h260
          obtain ⟨w39, e40⟩ : ∃ x, x = v37 := ⟨_, rfl⟩
          rw [← e40] at h38 ⊢
          clear e40 v37
          refine Only.ite ?_ ?_
          · refine Only.step ?_ (State.reopen_only ..)
            exact h38
          · exact h38
      clear_value v24
      extract_lets +onlyGivenNames v41
      have h42 : Only 68351748112347229395534833099687147017005906731596079267892413612927039677964929248492150664897568 187072209586182068618959515543950567111210274101640 s v41 := by
        unfold v41
        refine Only.foldl ?_ ?_
        · refine Only.step ?_ (State.reform_only ..)
          exact h21
        · intro u43 u44 h45
          apply h25
          exact h45
      obtain ⟨w46, e47⟩ : ∃ x, x = v41 := ⟨_, rfl⟩
      rw [← e47] at h42 ⊢
      clear e47 v41
      extract_lets +onlyGivenNames v48
      have h49 : Only 68351748112347229395534833099687147017005906731596079267892413612927039677964929248492150664897568 187072209586182068618959515543950567111210274101640 s v48 := by
        unfold v48
        refine Only.foldl ?_ ?_
        · exact h42
        · intro u50 u51 h52
          refine Only.ite ?_ ?_
          · refine Only.step ?_ (State.endEpochWait_only ..)
            exact h52
          · exact h52
      obtain ⟨w53, e54⟩ : ∃ x, x = v48 := ⟨_, rfl⟩
      rw [← e54] at h49 ⊢
      clear e54 v48
      extract_lets +onlyGivenNames v55
      clear_value v55
      refine Only.pair _ ?_
      refine Only.step ?_ (State.syncMeridian_only ..)
      refine Only.foldl ?_ ?_
      · exact h49
      · intro u56 u57 h58
        refine Only.step ?_ (State.sendEpoch_only ..)
        exact h58

theorem execDownProposal_only (n : Nat) (s : State) :
    Keeps (execDownProposal n s) (Only 174224571863520493293247799005065324265472 19807040628566084398385987584 s) := by
  unfold execDownProposal
  extract_lets +onlyGivenNames v0
  clear_value v0
  refine Keeps.ite ?_ ?_
  · refine Keeps.next ?_
    refine Only.trans ?_ (State.event_only _ _ _ (by decide))
    refine Only.step ?_ (State.setWatch_only ..)
    exact Only.refl _ _ _
  · refine Keeps.next ?_
    exact Only.refl _ _ _

theorem execEpochWaitExpired_only (n : Nat) (s : State) :
    Keeps (execEpochWaitExpired n s) (Only 68351748112347229395527596073404575714420242182728768686646091215047868629306382652858055046112288 187072209586182068618290350620865431046052205795464 s) := by
  unfold execEpochWaitExpired
  split
  · rename_i a0 a1 a2
    refine Keeps.ite ?_ ?_
    · refine Keeps.next ?_
      refine Only.ite ?_ ?_
      · refine Only.step ?_ (State.endSession_only ..)
        exact Only.refl _ _ _
      · refine Only.step ?_ (State.endWaiting_only ..)
        exact Only.refl _ _ _
    · refine Keeps.next ?_
      exact Only.refl _ _ _
  · rename_i a3 a4
    refine Keeps.next ?_
    exact Only.refl _ _ _

theorem execExactHoldExpired_only (n : Nat) (s : State) :
    Keeps (execExactHoldExpired n s) (Only 68351748112347229395527596073404575714420242181980479848515060269597205011372014536377645345448992 187072209578355574179108765961207815075121536931976 s) := by
  unfold execExactHoldExpired
  split
  · rename_i a0 a1 a2
    refine Keeps.ite ?_ ?_
    · refine Keeps.next ?_
      refine Only.step ?_ (State.stopJob_only ..)
      exact Only.refl _ _ _
    · refine Keeps.next ?_
      exact Only.refl _ _ _
  · rename_i a3 a4
    refine Keeps.next ?_
    exact Only.refl _ _ _

theorem State.keepMember_only (s : State) (site : Nat) (role : Nat) :
    Only 174224571863520493293247799005065324265472 19807040628566084398385987584 s (State.keepMember s site role) := by
  unfold State.keepMember
  refine Only.foldl ?_ ?_
  · exact Only.refl _ _ _
  · intro u0 u1 h2
    extract_lets +onlyGivenNames v3
    clear_value v3
    refine Only.ite ?_ ?_
    · refine Only.trans ?_ (State.event_only _ _ _ (by decide))
      refine Only.step ?_ (State.setWatch_only ..)
      exact h2
    · exact h2

theorem State.expireBridged_only (s : State) (n : Nat) :
    Only 68351748112347229395527596073404575714420242182728768686820315786911389122599630451863120370377760 187072209586182068618290969590885073736189655357576 s (State.expireBridged s n) := by
  unfold State.expireBridged
  split
  · rename_i a0 a1 a2
    refine Only.ite ?_ ?_
    · extract_lets +onlyGivenNames v3
      have h4 : Only 68351748112347229395527596073404575714420242182728768686820315786911389122599630451863120370377760 187072209586182068618290969590885073736189655357576 s v3 := by
        unfold v3
        refine Only.step ?_ (State.updSess_only ..)
        exact Only.refl _ _ _
      obtain ⟨w5, e6⟩ : ∃ x, x = v3 := ⟨_, rfl⟩
      rw [← e6] at h4 ⊢
      clear e6 v3
      refine Only.trans ?_ (State.event_only _ _ _ (by decide))
      refine Only.step ?_ (State.errorReqs_only ..)
      refine Only.step ?_ (State.endSession_only ..)
      exact h4
    · exact Only.refl _ _ _
  · rename_i a7 a8
    exact Only.refl _ _ _

theorem State.expireMember_only (s : State) (n : Nat) :
    Only 68351748112347229395527596073404575714420242182728768686820315786911389122599630451863120370377760 187072209586182068618290350620865431046052205795464 s (State.expireMember s n) := by
  unfold State.expireMember
  extract_lets +onlyGivenNames v0
  have h1 : Only 68351748112347229395527596073404575714420242182728768686820315786911389122599630451863120370377760 187072209586182068618290350620865431046052205795464 s v0 := by
    unfold v0
    refine Only.trans ?_ (State.event_only _ _ _ (by decide))
    refine Only.step ?_ (State.endWaiting_only ..)
    exact Only.refl _ _ _
  obtain ⟨w2, e3⟩ : ∃ x, x = v0 := ⟨_, rfl⟩
  rw [← e3] at h1 ⊢
  clear e3 v0
  refine Only.ite ?_ ?_
  · refine Only.step ?_ (State.endWhere_only ..)
    exact h1
  · exact h1

theorem execMemberHoldExpired_only (n : Nat) (s : State) :
    Keeps (execMemberHoldExpired n s) (Only 68351748112347229395527596073404575714420242182728768686820315786911389122599630451863120370377760 187072209586182068618310776631513639820588041345160 s) := by
  unfold execMemberHoldExpired
  extract_lets +onlyGivenNames v0
  have h1 : Only 68351748112347229395527596073404575714420242182728768686820315786911389122599630451863120370377760 187072209586182068618310776631513639820588041345160 s v0 := by
    unfold v0
    refine Only.step ?_ (State.expireBridged_only ..)
    exact Only.refl _ _ _
  obtain ⟨w2, e3⟩ : ∃ x, x = v0 := ⟨_, rfl⟩
  rw [← e3] at h1 ⊢
  clear e3 v0
  extract_lets +onlyGivenNames v4
  clear_value v4
  split
  · rename_i a5 a6 a7
    refine Keeps.ite ?_ ?_
    · refine Keeps.next ?_
      refine Only.step ?_ (State.expireMember_only ..)
      refine Only.step ?_ (State.setWatch_only ..)
      exact h1
    · refine Keeps.next ?_
      exact h1
  · rename_i a8 a9
    refine Keeps.next ?_
    exact h1

theorem execMemberSuspect_only (n : Nat) (s : State) :
    Keeps (execMemberSuspect n s) (Only 174224571863520493293247799005065324265472 19807040628566084398385987584 s) := by
  unfold execMemberSuspect
  extract_lets +onlyGivenNames v0
  clear_value v0
  refine Keeps.ite ?_ ?_
  · refine Keeps.next ?_
    refine Only.trans ?_ (State.event_only _ _ _ (by decide))
    refine Only.step ?_ (State.setWatch_only ..)
    exact Only.refl _ _ _
  · refine Keeps.next ?_
    exact Only.refl _ _ _

/-! ### Recon -/

theorem State.setRecon_only (s : State) (r : Option Recon) :
    Only 0 158456325028528675187087900672 s (State.setRecon s r) := by
  unfold State.setRecon
  refine Only.up_peer ?_
  exact Only.refl _ _ _

theorem State.enterResync_only (s : State) (n : Nat) (yielder : Option Nat) :
    Only 7237026282571302585664548867310581073288149685708206654160986824262511755264 159133626899559391899628339328 s (State.enterResync s n yielder) := by
  unfold State.enterResync
  extract_lets +onlyGivenNames v0
  clear_value v0
  extract_lets +onlyGivenNames v1
  have h2 : Only 7237026282571302585664548867310581073288149685708206654160986824262511755264 159133626899559391899628339328 s v1 := by
    unfold v1
    refine Only.trans ?_ (State.setf_only _ _ _ _ (by decide))
    refine Only.trans ?_ (State.setf_only _ _ _ _ (by decide))
    refine Only.trans ?_ (State.setf_only _ _ _ _ (by decide))
    refine Only.step ?_ (State.setRecon_only ..)
    refine Only.step ?_ (State.setSessState_only ..)
    exact Only.refl _ _ _
  obtain ⟨w3, e4⟩ : ∃ x, x = v1 := ⟨_, rfl⟩
  rw [← e4] at h2 ⊢
  clear e4 v1
  refine Only.step ?_ (State.sendData_only ..)
  exact h2

theorem State.finishRecon_only (s : State) (r : Recon) :
    Only 68351748112347229395534833099687147017005906730847790430977721988035261313130099025924534692652580 187072209578355574188262771913554947544438201882760 s (State.finishRecon s r) := by
  unfold State.finishRecon
  extract_lets +onlyGivenNames v0
  clear_value v0
  extract_lets +onlyGivenNames v1
  clear_value v1
  extract_lets +onlyGivenNames v2
  have h3 : Only 68351748112347229395534833099687147017005906730847790430977721988035261313130099025924534692652580 187072209578355574188262771913554947544438201882760 s v2 := by
    unfold v2
    refine Only.step ?_ (State.endWhere_only ..)
    exact Only.refl _ _ _
  obtain ⟨w4, e5⟩ : ∃ x, x = v2 := ⟨_, rfl⟩
  rw [← e5] at h3 ⊢
  clear e5 v2
  extract_lets +onlyGivenNames v6
  have h7 : Only 68351748112347229395534833099687147017005906730847790430977721988035261313130099025924534692652580 187072209578355574188262771913554947544438201882760 s v6 := by
    unfold v6
    refine Only.step ?_ (State.ownView_only ..)
    refine Only.step ?_ (State.startTracks_only ..)
    refine Only.step ?_ (State.clearTokens_only ..)
    refine Only.trans ?_ (State.setf_only _ _ _ _ (by decide))
    exact h3
  obtain ⟨w8, e9⟩ : ∃ x, x = v6 := ⟨_, rfl⟩
  rw [← e9] at h7 ⊢
  clear e9 v6
  extract_lets +onlyGivenNames v10
  unfold v10
  clear v10
  extract_lets +onlyGivenNames v11
  have h12 : Only 68351748112347229395534833099687147017005906730847790430977721988035261313130099025924534692652580 187072209578355574188262771913554947544438201882760 s v11 := by
    unfold v11
    refine Only.up_peer ?_
    exact h7
  obtain ⟨w13, e14⟩ : ∃ x, x = v11 := ⟨_, rfl⟩
  rw [← e14] at h12 ⊢
  clear e14 v11
  extract_lets +onlyGivenNames v15
  have h16 : Only 68351748112347229395534833099687147017005906730847790430977721988035261313130099025924534692652580 187072209578355574188262771913554947544438201882760 s v15 := by
    unfold v15
    refine Only.trans ?_ (State.setf_only _ _ _ _ (by decide))
    refine Only.trans ?_ (State.setf_only _ _ _ _ (by decide))
    refine Only.step ?_ (State.syncIsland_only ..)
    refine Only.step ?_ (State.syncJournal_only ..)
    exact h12
  obtain ⟨w17, e18⟩ : ∃ x, x = v15 := ⟨_, rfl⟩
  rw [← e18] at h16 ⊢
  clear e18 v15
  extract_lets +onlyGivenNames v19
  have h20 : Only 68351748112347229395534833099687147017005906730847790430977721988035261313130099025924534692652580 187072209578355574188262771913554947544438201882760 s v19 := by
    unfold v19
    refine Only.step ?_ (State.forgetSteps_only ..)
    refine Only.trans ?_ (State.countEv_only _ _ _ _ (by decide) (by decide))
    exact h16
  obtain ⟨w21, e22⟩ : ∃ x, x = v19 := ⟨_, rfl⟩
  rw [← e22] at h20 ⊢
  clear e22 v19
  refine Only.step ?_ (State.enterOpen_only ..)
  exact h20

theorem State.applyCorrection_only (s : State) (r : Recon) :
    Only 0 8 s (State.applyCorrection s r) := by
  unfold State.applyCorrection
  extract_lets +onlyGivenNames v0
  have h1 : ∀ a0 a1 a2, Only 0 8 s a2 → Only 0 8 s (v0 a0 a1 a2) := by
    intro a0 a1 a2 h22
    unfold v0
    extract_lets +onlyGivenNames v3
    clear_value v3
    extract_lets +onlyGivenNames v4
    clear_value v4
    extract_lets +onlyGivenNames v5
    clear_value v5
    refine Only.step ?_ (State.emit_only ..)
    exact h22
  clear_value v0
  extract_lets +onlyGivenNames v6
  have h7 : Only 0 8 s v6 := by
    unfold v6
    refine Only.foldl ?_ ?_
    · exact Only.refl _ _ _
    · intro u8 u9 h10
      apply h1
      exact h10
  obtain ⟨w11, e12⟩ : ∃ x, x = v6 := ⟨_, rfl⟩
  rw [← e12] at h7 ⊢
  clear e12 v6
  refine Only.ite ?_ ?_
  · refine Only.foldl ?_ ?_
    · exact h7
    · intro u13 u14 h15
      split
      · rename_i a16 a17 a18
        apply h1
        exact h15
      · rename_i a19 a20
        exact h15
  · exact h7

theorem State.driveRecon_only (s : State) :
    Only 68351748112347229395534833099687147017005906730847790430977721988035261313130099025924534692652580 187072209578355574188262771913554947544438201882760 s (State.driveRecon s) := by
  unfold State.driveRecon
  split
  · rename_i a0 a1
    exact Only.refl _ _ _
  · rename_i a2 a3 a4
    refine Only.ite ?_ ?_
    · refine Only.ite ?_ ?_
      · refine Only.step ?_ (State.finishRecon_only ..)
        exact Only.refl _ _ _
      · exact Only.refl _ _ _
    · refine Only.ite ?_ ?_
      · exact Only.refl _ _ _
      · split
        · rename_i a5 a6
          exact Only.refl _ _ _
        · rename_i a7 a8 a9 a10
          extract_lets +onlyGivenNames v11
          clear_value v11
          extract_lets +onlyGivenNames v12
          clear_value v12
          refine Only.ite ?_ ?_
          · exact Only.refl _ _ _
          · refine Only.ite ?_ ?_
            · extract_lets +onlyGivenNames v13
              have h14 : Only 68351748112347229395534833099687147017005906730847790430977721988035261313130099025924534692652580 187072209578355574188262771913554947544438201882760 s v13 := by
                unfold v13
                refine Only.trans ?_ (State.setf_only _ _ _ _ (by decide))
                refine Only.foldl ?_ ?_
                · exact Only.refl _ _ _
                · intro u15 u16 h17
                  refine Only.step ?_ (State.haltTrack_only ..)
                  exact h17
              obtain ⟨w18, e19⟩ : ∃ x, x = v13 := ⟨_, rfl⟩
              rw [← e19] at h14 ⊢
              clear e19 v13
              refine Only.trans ?_ (State.event_only _ _ _ (by decide))
              exact h14
            · refine Only.ite ?_ ?_
              · exact Only.refl _ _ _
              · extract_lets +onlyGivenNames v20
                have h21 : Only 68351748112347229395534833099687147017005906730847790430977721988035261313130099025924534692652580 187072209578355574188262771913554947544438201882760 s v20 := by
                  unfold v20
                  refine Only.trans ?_ (State.setf_only _ _ _ _ (by decide))
                  refine Only.step ?_ (State.applyCorrection_only ..)
                  exact Only.refl _ _ _
                obtain ⟨w22, e23⟩ : ∃ x, x = v20 := ⟨_, rfl⟩
                rw [← e23] at h21 ⊢
                clear e23 v20
                extract_lets +onlyGivenNames v24
                have h25 : Only 68351748112347229395534833099687147017005906730847790430977721988035261313130099025924534692652580 187072209578355574188262771913554947544438201882760 s v24 := by
                  unfold v24
                  refine Only.step ?_ (State.sendData_only ..)
                  exact h21
                obtain ⟨w26, e27⟩ : ∃ x, x = v24 := ⟨_, rfl⟩
                rw [← e27] at h25 ⊢
                clear e27 v24
                refine Only.ite ?_ ?_
                · refine Only.step ?_ (State.finishRecon_only ..)
                  exact h25
                · exact h25

theorem State.takeCorrection_only (s : State) (dseq : Nat) (stream : Nat) (pl : List Byte) :
    Only 68351748112347229395534833099687147017005906730847790430977721988035261313130099025924534692652580 187072209578355574188262771913554947544438201882760 s (State.takeCorrection s dseq stream pl) := by
  unfold State.takeCorrection
  split
  · rename_i a0 a1
    exact Only.refl _ _ _
  · rename_i a2 a3 a4
    refine Only.step ?_ (State.driveRecon_only ..)
    refine Only.step ?_ (State.setRecon_only ..)
    exact Only.refl _ _ _

theorem State.markCorr_only (s : State) (n : Nat) :
    Only 7237005577332262213973186563042994240850662540169079110406813081607553941504 676999639575813055246762112 s (State.markCorr s n) := by
  unfold State.markCorr
  extract_lets +onlyGivenNames v0
  clear_value v0
  refine Only.step ?_ (State.pumpTx_only ..)
  refine Only.step ?_ (State.updSess_only ..)
  exact Only.refl _ _ _

theorem State.sendCorrBook_only (s : State) (n : Nat) (stream : Nat) (step : Nat) (body : List Byte) :
    Only 7237026282571302585664548867310581071927020218014549279993205352336245915648 677301871030716712540438656 s (State.sendCorrBook s n stream step body) := by
  unfold State.sendCorrBook
  refine Only.step ?_ (State.markCorr_only ..)
  refine Only.step ?_ (State.sendData_only ..)
  exact Only.refl _ _ _

theorem State.sendCorr_only (s : State) (n : Nat) (stream : Nat) (step : Nat) (chunk : Nat) (cbs : List Byte) :
    Only 7237026282571302585664548867310581071927020218014549279993205352336245915648 159133626899559391899628339328 s (State.sendCorr s n stream step chunk cbs) := by
  unfold State.sendCorr
  extract_lets +onlyGivenNames v0
  clear_value v0
  extract_lets +onlyGivenNames v1
  clear_value v1
  extract_lets +onlyGivenNames v2
  clear_value v2
  extract_lets +onlyGivenNames v3
  have h4 : Only 7237026282571302585664548867310581071927020218014549279993205352336245915648 159133626899559391899628339328 s v3 := by
    unfold v3
    refine Only.foldl ?_ ?_
    · exact Only.refl _ _ _
    · intro u5 u6 h7
      refine Only.step ?_ (State.markCorr_only ..)
      refine Only.step ?_ (State.sendData_only ..)
      exact h7
  obtain ⟨w8, e9⟩ : ∃ x, x = v3 := ⟨_, rfl⟩
  rw [← e9] at h4 ⊢
  clear e9 v3
  split
  · rename_i a10 a11 a12
    refine Only.step ?_ (State.setRecon_only ..)
    exact h4
  · rename_i a13 a14
    exact h4

theorem State.sendMerge_only (s : State) (n : Nat) (above : Nat) :
    Only 7237026282571302585664548867310581071927020218014549279993205352336245915648 159133626899559391899628339328 s (State.sendMerge s n above) := by
  unfold State.sendMerge
  extract_lets +onlyGivenNames v0
  clear_value v0
  extract_lets +onlyGivenNames v1
  clear_value v1
  extract_lets +onlyGivenNames v2
  have h3 : Only 7237026282571302585664548867310581071927020218014549279993205352336245915648 159133626899559391899628339328 s v2 := by
    unfold v2
    refine Only.foldl ?_ ?_
    · exact Only.refl _ _ _
    · intro u4 u5 h6
      refine Only.step ?_ (State.sendCorrBook_only ..)
      exact h6
  obtain ⟨w7, e8⟩ : ∃ x, x = v2 := ⟨_, rfl⟩
  rw [← e8] at h3 ⊢
  clear e8 v2
  refine Only.foldl ?_ ?_
  · exact h3
  · intro u9 u10 h11
    refine Only.step ?_ (State.sendCorr_only ..)
    exact h11

theorem State.displaceBook_only (s : State) (slot : Nat) :
    Only 0 2256197860196352 s (State.displaceBook s slot) := by
  unfold State.displaceBook
  split
  · rename_i a0 a1
    exact Only.refl _ _ _
  · rename_i a2 a3 a4
    extract_lets +onlyGivenNames v5
    unfold v5
    clear v5
    extract_lets +onlyGivenNames v6
    have h7 : Only 0 2256197860196352 s v6 := by
      unfold v6
      refine Only.ite ?_ ?_
      · refine Only.up_cmp ?_
        exact Only.refl _ _ _
      · exact Only.refl _ _ _
    obtain ⟨w8, e9⟩ : ∃ x, x = v6 := ⟨_, rfl⟩
    rw [← e9] at h7 ⊢
    clear e9 v6
    refine Only.step ?_ (State.retireBook_only ..)
    exact h7

theorem State.sendFitted_only (s : State) (n : Nat) (stream : Nat) (step : Nat) (chunk : Nat) (vals : List Val) :
    Only 7237026282571302585664548867310581071927020218014549279993205352336245915648 159133626899562791589581422720 s (State.sendFitted s n stream step chunk vals) := by
  unfold State.sendFitted
  extract_lets +onlyGivenNames v0
  clear_value v0
  extract_lets +onlyGivenNames v1
  clear_value v1
  extract_lets +onlyGivenNames v2
  clear_value v2
  extract_lets +onlyGivenNames v3
  clear_value v3
  extract_lets +onlyGivenNames v4
  clear_value v4
  extract_lets +onlyGivenNames v5
  have h6 : Only 7237026282571302585664548867310581071927020218014549279993205352336245915648 159133626899562791589581422720 s v5 := by
    unfold v5
    refine Only.ite ?_ ?_
    · exact Only.refl _ _ _
    · refine Only.step ?_ (State.installBook_only ..)
      refine Only.step ?_ (State.displaceBook_only ..)
      exact Only.refl _ _ _
  obtain ⟨w7, e8⟩ : ∃ x, x = v5 := ⟨_, rfl⟩
  rw [← e8] at h6 ⊢
  clear e8 v5
  split
  · rename_i a9 a10 a11
    extract_lets +onlyGivenNames v12
    clear_value v12
    refine Only.step ?_ (State.sendCorr_only ..)
    refine Only.ite ?_ ?_
    · exact h6
    · refine Only.step ?_ (State.sendCorrBook_only ..)
      exact h6
  · rename_i a13 a14
    exact h6

theorem State.sendYield_only (s : State) (n : Nat) (common : Nat) (full : Bool) :
    Only 7237026282571302585664548867310581071927020218014549279993205352336245915648 159133626899562791589581422720 s (State.sendYield s n common full) := by
  unfold State.sendYield
  extract_lets +onlyGivenNames v0
  clear_value v0
  refine Only.foldl ?_ ?_
  · exact Only.refl _ _ _
  · intro u1 u2 h3
    extract_lets +onlyGivenNames v4
    clear_value v4
    extract_lets +onlyGivenNames v5
    clear_value v5
    extract_lets +onlyGivenNames v6
    clear_value v6
    extract_lets +onlyGivenNames v7
    clear_value v7
    refine Only.step ?_ (State.sendFitted_only ..)
    exact h3

theorem State.takeHorizon_only (s : State) (n : Nat) (body : List Byte) :
    Only 68351748112347229395534833099687147017005906730847790429409020276529734996563942085664083237840420 187072209578355574188223157832297816519133522794632 s (State.takeHorizon s n body) := by
  unfold State.takeHorizon
  extract_lets +onlyGivenNames v0
  clear_value v0
  extract_lets +onlyGivenNames v1
  clear_value v1
  extract_lets +onlyGivenNames v2
  clear_value v2
  extract_lets +onlyGivenNames v3
  have h4 : Only 68351748112347229395534833099687147017005906730847790429409020276529734996563942085664083237840420 187072209578355574188223157832297816519133522794632 s v3 := by
    unfold v3
    refine Only.ite ?_ ?_
    · refine Only.step ?_ (State.enterResync_only ..)
      exact Only.refl _ _ _
    · refine Only.ite ?_ ?_
      · refine Only.step ?_ (State.enterResync_only ..)
        exact Only.refl _ _ _
      · exact Only.refl _ _ _
  obtain ⟨w5, e6⟩ : ∃ x, x = v3 := ⟨_, rfl⟩
  rw [← e6] at h4 ⊢
  clear e6 v3
  split
  · rename_i a7 a8
    exact h4
  · rename_i a9 a10 a11
    refine Only.ite ?_ ?_
    · exact h4
    · extract_lets +onlyGivenNames v12
      clear_value v12
      extract_lets +onlyGivenNames v13
      clear_value v13
      extract_lets +onlyGivenNames v14
      have h15 : Only 68351748112347229395534833099687147017005906730847790429409020276529734996563942085664083237840420 187072209578355574188223157832297816519133522794632 s v14 := by
        unfold v14
        refine Only.foldl ?_ ?_
        · exact h4
        · intro u16 u17 h18
          refine Only.step ?_ (State.reachMeridian_only ..)
          exact h18
      obtain ⟨w19, e20⟩ : ∃ x, x = v14 := ⟨_, rfl⟩
      rw [← e20] at h15 ⊢
      clear e20 v14
      refine Only.ite ?_ ?_
      · refine Only.step ?_ (State.enterOpen_only ..)
        refine Only.trans ?_ (State.setf_only _ _ _ _ (by decide))
        refine Only.step ?_ (State.setRecon_only ..)
        exact h15
      · extract_lets +onlyGivenNames v21
        clear_value v21
        extract_lets +onlyGivenNames v22
        clear_value v22
        extract_lets +onlyGivenNames v23
        have h24 : Only 68351748112347229395534833099687147017005906730847790429409020276529734996563942085664083237840420 187072209578355574188223157832297816519133522794632 s v23 := by
          unfold v23
          refine Only.trans ?_ (State.setf_only _ _ _ _ (by decide))
          refine Only.trans ?_ (State.setf_only _ _ _ _ (by decide))
          refine Only.step ?_ (State.setRecon_only ..)
          exact h15
        obtain ⟨w25, e26⟩ : ∃ x, x = v23 := ⟨_, rfl⟩
        rw [← e26] at h24 ⊢
        clear e26 v23
        extract_lets +onlyGivenNames v27
        have h28 : Only 68351748112347229395534833099687147017005906730847790429409020276529734996563942085664083237840420 187072209578355574188223157832297816519133522794632 s v27 := by
          unfold v27
          refine Only.step ?_ (State.sendData_only ..)
          exact h24
        obtain ⟨w29, e30⟩ : ∃ x, x = v27 := ⟨_, rfl⟩
        rw [← e30] at h28 ⊢
        clear e30 v27
        refine Only.ite ?_ ?_
        · refine Only.step ?_ (State.sendMerge_only ..)
          exact h28
        · refine Only.ite ?_ ?_
          · exact h28
          · refine Only.step ?_ (State.sendYield_only ..)
            exact h28

theorem State.takeReconcile_only (s : State) (n : Nat) (body : List Byte) :
    Only 68351748112347229395534833099687147017005906730847790430977721988035261313130099025924534692652580 187072209578355574188262771913554947544438201882760 s (State.takeReconcile s n body) := by
  unfold State.takeReconcile
  split
  · rename_i a0 a1
    exact Only.refl _ _ _
  · rename_i a2 a3 a4
    refine Only.ite ?_ ?_
    · exact Only.refl _ _ _
    · extract_lets +onlyGivenNames v5
      clear_value v5
      extract_lets +onlyGivenNames v6
      clear_value v6
      refine Only.step ?_ (State.driveRecon_only ..)
      refine Only.step ?_ (State.setRecon_only ..)
      exact Only.refl _ _ _

theorem execCorrectionSent_only (n : Nat) (s : State) :
    Keeps (execCorrectionSent n s) (Only 68351748112347229395534833099687147017005906730847790430977721988035261313130099025924534692652580 187072209578355574188262771913554947544438201882760 s) := by
  unfold execCorrectionSent
  split
  · rename_i a0 a1
    refine Keeps.next ?_
    exact Only.refl _ _ _
  · rename_i a2 a3 a4
    extract_lets +onlyGivenNames v5
    clear_value v5
    refine Keeps.ite ?_ ?_
    · refine Keeps.next ?_
      exact Only.refl _ _ _
    · extract_lets +onlyGivenNames v6
      have h7 : Only 68351748112347229395534833099687147017005906730847790430977721988035261313130099025924534692652580 187072209578355574188262771913554947544438201882760 s v6 := by
        unfold v6
        refine Only.step ?_ (State.setRecon_only ..)
        exact Only.refl _ _ _
      obtain ⟨w8, e9⟩ : ∃ x, x = v6 := ⟨_, rfl⟩
      rw [← e9] at h7 ⊢
      clear e9 v6
      refine Keeps.next ?_
      refine Only.step ?_ (State.driveRecon_only ..)
      refine Only.step ?_ (State.sendData_only ..)
      exact h7

/-! ### Receive -/

theorem State.epochStop_only (s : State) (n : Nat) (b : LineBlk) :
    OnlyOpt 7237026282571302585664548867310581594600735830126089363616502192976173203456 677301871030716712540438656 s (State.epochStop s n b) := by
  unfold State.epochStop
  extract_lets +onlyGivenNames v0
  clear_value v0
  extract_lets +onlyGivenNames v1
  have h2 : ∀ a0, Only 7237026282571302585664548867310581594600735830126089363616502192976173203456 677301871030716712540438656 s a0 → Only 7237026282571302585664548867310581594600735830126089363616502192976173203456 677301871030716712540438656 s (v1 a0) := by
    intro a0 h30
    unfold v1
    refine Only.step ?_ (State.answerEpoch_only ..)
    refine Only.trans ?_ (State.countEv_only _ _ _ _ (by decide) (by decide))
    exact h30
  clear_value v1
  refine OnlyOpt.ite ?_ ?_
  · refine OnlyOpt.some ?_
    apply h2
    exact Only.refl _ _ _
  · refine OnlyOpt.ite ?_ ?_
    · refine OnlyOpt.some ?_
      refine Only.trans ?_ (State.count_only _ _ _ _ (by decide))
      exact Only.refl _ _ _
    · split
      · rename_i a4 a5
        refine OnlyOpt.some ?_
        refine Only.trans ?_ (State.count_only _ _ _ _ (by decide))
        exact Only.refl _ _ _
      · rename_i a6 a7 a8
        refine OnlyOpt.ite ?_ ?_
        · refine OnlyOpt.some ?_
          apply h2
          exact Only.refl _ _ _
        · refine OnlyOpt.ite ?_ ?_
          · refine OnlyOpt.some ?_
            refine Only.step ?_ (State.answerEpoch_only ..)
            refine Only.trans ?_ (State.event_only _ _ _ (by decide))
            refine Only.trans ?_ (State.count_only _ _ _ _ (by decide))
            exact Only.refl _ _ _
          · refine OnlyOpt.ite ?_ ?_
            · refine OnlyOpt.some ?_
              refine Only.trans ?_ (State.count_only _ _ _ _ (by decide))
              exact Only.refl _ _ _
            · exact OnlyOpt.none _ _ _

theorem State.takeCtl_only (s : State) (n : Nat) (q : Nat) :
    Only 0 618970019642690137449562112 s (State.takeCtl s n q) := by
  unfold State.takeCtl
  refine Only.step ?_ (State.updSess_only ..)
  exact Only.refl _ _ _

theorem State.sendAck_only (s : State) (n : Nat) :
    Only 7237026282571302585664548867310581071905731394929451763625764488067242000384 677300690439095995129135104 s (State.sendAck s n) := by
  unfold State.sendAck
  extract_lets +onlyGivenNames v0
  clear_value v0
  refine Only.ite ?_ ?_
  · exact Only.refl _ _ _
  · extract_lets +onlyGivenNames v1
    clear_value v1
    extract_lets +onlyGivenNames v2
    clear_value v2
    extract_lets +onlyGivenNames v3
    clear_value v3
    extract_lets +onlyGivenNames v4
    clear_value v4
    refine Only.step ?_ (State.updSess_only ..)
    refine Only.step ?_ (State.sendCtl_only ..)
    exact Only.refl _ _ _

theorem State.screen_only (s : State) (port : Nat) (bs : List Byte) :
    Only 7251161059089529660301215247316524942739318771644092261446935627831233740800 20489178202875259627625250944 s (State.screen s port bs).2 := by
  unfold State.screen
  extract_lets +onlyGivenNames v0
  clear_value v0
  extract_lets +onlyGivenNames v1
  clear_value v1
  extract_lets +onlyGivenNames v2
  clear_value v2
  refine Only.iteSnd ?_ ?_
  · refine Only.pair _ ?_
    refine Only.trans ?_ (State.count_only _ _ _ _ (by decide))
    exact Only.refl _ _ _
  · refine Only.iteSnd ?_ ?_
    · refine Only.pair _ ?_
      refine Only.trans ?_ (State.count_only _ _ _ _ (by decide))
      exact Only.refl _ _ _
    · extract_lets +onlyGivenNames v3
      clear_value v3
      split
      · rename_i a4 a5
        refine Only.pair _ ?_
        refine Only.trans ?_ (State.count_only _ _ _ _ (by decide))
        exact Only.refl _ _ _
      · rename_i a6 a7 a8
        split
        · rename_i a9 a10
          extract_lets +onlyGivenNames v11
          have h12 : Only 7251161059089529660301215247316524942739318771644092261446935627831233740800 20489178202875259627625250944 s v11 := by
            unfold v11
            refine Only.trans ?_ (State.count_only _ _ _ _ (by decide))
            exact Only.refl _ _ _
          obtain ⟨w13, e14⟩ : ∃ x, x = v11 := ⟨_, rfl⟩
          rw [← e14] at h12 ⊢
          clear e14 v11
          refine Only.pair _ ?_
          refine Only.ite ?_ ?_
          · refine Only.step ?_ (State.sendNak_only ..)
            refine Only.step ?_ (State.tagResult_only ..)
            exact h12
          · exact h12
        · rename_i a15 a16 a17
          extract_lets +onlyGivenNames v18
          have h19 : Only 7251161059089529660301215247316524942739318771644092261446935627831233740800 20489178202875259627625250944 s v18 := by
            unfold v18
            refine Only.ite ?_ ?_
            · refine Only.step ?_ (State.tagResult_only ..)
              exact Only.refl _ _ _
            · exact Only.refl _ _ _
          obtain ⟨w20, e21⟩ : ∃ x, x = v18 := ⟨_, rfl⟩
          rw [← e21] at h19 ⊢
          clear e21 v18
          split
          · rename_i a22 a23 a24
            have h25 : Only 7251161059089529660301215247316524942739318771644092261446935627831233740800 20489178202875259627625250944 s a23 := by
              refine Only.of_some a24 ?_
              refine OnlyOpt.step ?_ (State.epochStop_only ..)
              exact h19
            refine Only.pair _ ?_
            exact h25
          · rename_i a26 a27
            extract_lets +onlyGivenNames v28
            have h29 : Only 7251161059089529660301215247316524942739318771644092261446935627831233740800 20489178202875259627625250944 s v28 := by
              unfold v28
              refine Only.step ?_ (State.heardCurrent_only ..)
              refine Only.step ?_ (State.heard_only ..)
              exact h19
            obtain ⟨w30, e31⟩ : ∃ x, x = v28 := ⟨_, rfl⟩
            rw [← e31] at h29 ⊢
            clear e31 v28
            extract_lets +onlyGivenNames v32
            clear_value v32
            refine Only.iteSnd ?_ ?_
            · refine Only.pair _ ?_
              refine Only.step ?_ (State.takeCtl_only ..)
              exact h29
            · split
              · rename_i a33 a34
                refine Only.pair _ ?_
                refine Only.trans ?_ (State.count_only _ _ _ _ (by decide))
                exact h29
              · rename_i a35 a36
                extract_lets +onlyGivenNames v37
                have h38 : Only 7251161059089529660301215247316524942739318771644092261446935627831233740800 20489178202875259627625250944 s v37 := by
                  unfold v37
                  refine Only.trans ?_ (State.count_only _ _ _ _ (by decide))
                  exact h29
                obtain ⟨w39, e40⟩ : ∃ x, x = v37 := ⟨_, rfl⟩
                rw [← e40] at h38 ⊢
                clear e40 v37
                refine Only.pair _ ?_
                refine Only.ite ?_ ?_
                · refine Only.step ?_ (State.sendAck_only ..)
                  exact h38
                · exact h38
              · rename_i a41 a42 a43
                refine Only.pair _ ?_
                refine Only.ite ?_ ?_
                · exact h29
                · refine Only.step ?_ (State.takeCtl_only ..)
                  exact h29

theorem State.resetRx_only (s : State) (n : Nat) (ctl : Nat) (oldest : Nat) :
    Only 649037107316853453566312041152512 1856911239521947327620186112 s (State.resetRx s n ctl oldest) := by
  unfold State.resetRx
  extract_lets +onlyGivenNames v0
  have h1 : Only 649037107316853453566312041152512 1856911239521947327620186112 s v0 := by
    unfold v0
    refine Only.step ?_ (State.updSess_only ..)
    exact Only.refl _ _ _
  obtain ⟨w2, e3⟩ : ∃ x, x = v0 := ⟨_, rfl⟩
  rw [← e3] at h1 ⊢
  clear e3 v0
  extract_lets +onlyGivenNames v4
  unfold v4
  clear v4
  extract_lets +onlyGivenNames v5
  have h6 : Only 649037107316853453566312041152512 1856911239521947327620186112 s v5 := by
    unfold v5
    refine Only.up_peer ?_
    exact h1
  obtain ⟨w7, e8⟩ : ∃ x, x = v5 := ⟨_, rfl⟩
  rw [← e8] at h6 ⊢
  clear e8 v5
  extract_lets +onlyGivenNames v9
  have h10 : Only 649037107316853453566312041152512 1856911239521947327620186112 s v9 := by
    unfold v9
    refine Only.trans ?_ (State.setf_only _ _ _ _ (by decide))
    refine Only.trans ?_ (State.setf_only _ _ _ _ (by decide))
    exact h6
  obtain ⟨w11, e12⟩ : ∃ x, x = v9 := ⟨_, rfl⟩
  rw [← e12] at h10 ⊢
  clear e12 v9
  extract_lets +onlyGivenNames v13
  clear_value v13
  extract_lets +onlyGivenNames v14
  clear_value v14
  extract_lets +onlyGivenNames v15
  have h16 : Only 649037107316853453566312041152512 1856911239521947327620186112 s v15 := by
    unfold v15
    refine Only.foldl ?_ ?_
    · exact h10
    · intro u17 u18 h19
      refine Only.step ?_ (State.mapBooks_only ..)
      exact h19
  obtain ⟨w20, e21⟩ : ∃ x, x = v15 := ⟨_, rfl⟩
  rw [← e21] at h16 ⊢
  clear e21 v15
  refine Only.step ?_ (State.sweepDoomed_only ..)
  refine Only.foldl ?_ ?_
  · exact h16
  · intro u22 u23 h24
    refine Only.step ?_ (State.setCtx_only ..)
    exact h24

theorem State.sendHello_only (s : State) (n : Nat) (r : Nat) (reply : Bool) :
    Only 7237026282571302585664548867310581071905731394929451763625764488067242000384 677300690439095995129135104 s (State.sendHello s n r reply) := by
  unfold State.sendHello
  extract_lets +onlyGivenNames v0
  clear_value v0
  extract_lets +onlyGivenNames v1
  clear_value v1
  extract_lets +onlyGivenNames v2
  clear_value v2
  refine Only.step ?_ (State.sendCtlOn_only ..)
  exact Only.refl _ _ _

theorem State.adopt_only (s : State) (n : Nat) (body : List Byte) :
    Only 7237026282571302585664548867310581072247363759192065607301085699731695501860 39379549950358962101288574130180 s (State.adopt s n body) := by
  unfold State.adopt
  refine Only.ite ?_ ?_
  · exact Only.refl _ _ _
  · extract_lets +onlyGivenNames v0
    clear_value v0
    extract_lets +onlyGivenNames v1
    clear_value v1
    extract_lets +onlyGivenNames v2
    unfold v2
    clear v2
    extract_lets +onlyGivenNames v3
    have h4 : Only 7237026282571302585664548867310581072247363759192065607301085699731695501860 39379549950358962101288574130180 s v3 := by
      unfold v3
      refine Only.up_peer ?_
      exact Only.refl _ _ _
    obtain ⟨w5, e6⟩ : ∃ x, x = v3 := ⟨_, rfl⟩
    rw [← e6] at h4 ⊢
    clear e6 v3
    extract_lets +onlyGivenNames v7
    have h8 : Only 7237026282571302585664548867310581072247363759192065607301085699731695501860 39379549950358962101288574130180 s v7.2 := by
      unfold v7
      refine Only.step ?_ (State.fresh_only ..)
      exact h4
    obtain ⟨w9, e10⟩ : ∃ x, x = v7 := ⟨_, rfl⟩
    rw [← e10] at h8 ⊢
    clear e10 v7
    extract_lets +onlyGivenNames v11
    have h12 : Only 7237026282571302585664548867310581072247363759192065607301085699731695501860 39379549950358962101288574130180 s v11 := by
      unfold v11
      refine Only.ite ?_ ?_
      · refine Only.step ?_ (State.reRequest_only ..)
        exact h8
      · exact h4
    obtain ⟨w13, e14⟩ : ∃ x, x = v11 := ⟨_, rfl⟩
    rw [← e14] at h12 ⊢
    clear e14 v11
    refine Only.ite ?_ ?_
    · extract_lets +onlyGivenNames v15
      clear_value v15
      extract_lets +onlyGivenNames v16
      unfold v16
      clear v16
      extract_lets +onlyGivenNames v17
      have h18 : Only 7237026282571302585664548867310581072247363759192065607301085699731695501860 39379549950358962101288574130180 s v17 := by
        unfold v17
        refine Only.up_peer ?_
        exact h12
      obtain ⟨w19, e20⟩ : ∃ x, x = v17 := ⟨_, rfl⟩
      rw [← e20] at h18 ⊢
      clear e20 v17
      refine Only.step ?_ (State.forgetSteps_only ..)
      refine Only.step ?_ (State.ownView_only ..)
      refine Only.step ?_ (State.startTracks_only ..)
      refine Only.trans ?_ (State.setf_only _ _ _ _ (by decide))
      exact h18
    · exact h12

theorem State.takeHello_only (s : State) (a : Arrival) :
    Only 7237026282571302585664548867310581076352685480453544441250925644734678598180 39539244216607370042461925677188 s (State.takeHello s a) := by
  unfold State.takeHello
  extract_lets +onlyGivenNames v0
  clear_value v0
  extract_lets +onlyGivenNames v1
  clear_value v1
  refine Only.ite ?_ ?_
  · refine Only.ite ?_ ?_
    · refine Only.trans ?_ (State.event_only _ _ _ (by decide))
      refine Only.trans ?_ (State.count_only _ _ _ _ (by decide))
      exact Only.refl _ _ _
    · exact Only.refl _ _ _
  · extract_lets +onlyGivenNames v2
    clear_value v2
    extract_lets +onlyGivenNames v3
    clear_value v3
    extract_lets +onlyGivenNames v4
    clear_value v4
    extract_lets +onlyGivenNames v5
    clear_value v5
    extract_lets +onlyGivenNames v6
    clear_value v6
    extract_lets +onlyGivenNames v7
    have h8 : Only 7237026282571302585664548867310581076352685480453544441250925644734678598180 39539244216607370042461925677188 s v7 := by
      unfold v7
      refine Only.step ?_ (State.updSess_only ..)
      exact Only.refl _ _ _
    obtain ⟨w9, e10⟩ : ∃ x, x = v7 := ⟨_, rfl⟩
    rw [← e10] at h8 ⊢
    clear e10 v7
    extract_lets +onlyGivenNames v11
    have h12 : Only 7237026282571302585664548867310581076352685480453544441250925644734678598180 39539244216607370042461925677188 s v11 := by
      unfold v11
      refine Only.ite ?_ ?_
      · refine Only.step ?_ (State.resetRx_only ..)
        exact h8
      · refine Only.ite ?_ ?_
        · refine Only.trans ?_ (State.setf_only _ _ _ _ (by decide))
          refine Only.trans ?_ (State.setf_only _ _ _ _ (by decide))
          exact h8
        · exact h8
    obtain ⟨w13, e14⟩ : ∃ x, x = v11 := ⟨_, rfl⟩
    rw [← e14] at h12 ⊢
    clear e14 v11
    extract_lets +onlyGivenNames v15
    have h16 : Only 7237026282571302585664548867310581076352685480453544441250925644734678598180 39539244216607370042461925677188 s v15 := by
      unfold v15
      refine Only.step ?_ (State.updSess_only ..)
      exact h12
    obtain ⟨w17, e18⟩ : ∃ x, x = v15 := ⟨_, rfl⟩
    rw [← e18] at h16 ⊢
    clear e18 v15
    extract_lets +onlyGivenNames v19
    have h20 : Only 7237026282571302585664548867310581076352685480453544441250925644734678598180 39539244216607370042461925677188 s v19 := by
      unfold v19
      refine Only.ite ?_ ?_
      · exact h16
      · refine Only.step ?_ (State.markAcked_only ..)
        exact h16
    obtain ⟨w21, e22⟩ : ∃ x, x = v19 := ⟨_, rfl⟩
    rw [← e22] at h20 ⊢
    clear e22 v19
    extract_lets +onlyGivenNames v23
    have h24 : Only 7237026282571302585664548867310581076352685480453544441250925644734678598180 39539244216607370042461925677188 s v23 := by
      unfold v23
      refine Only.ite ?_ ?_
      · exact h20
      · refine Only.step ?_ (State.sendHello_only ..)
        exact h20
    obtain ⟨w25, e26⟩ : ∃ x, x = v23 := ⟨_, rfl⟩
    rw [← e26] at h24 ⊢
    clear e26 v23
    extract_lets +onlyGivenNames v27
    have h28 : Only 7237026282571302585664548867310581076352685480453544441250925644734678598180 39539244216607370042461925677188 s v27 := by
      unfold v27
      refine Only.step ?_ (State.adopt_only ..)
      exact h24
    obtain ⟨w29, e30⟩ : ∃ x, x = v27 := ⟨_, rfl⟩
    rw [← e30] at h28 ⊢
    clear e30 v27
    refine Only.ite ?_ ?_
    · refine Only.step ?_ (State.enterOpen_only ..)
      exact h28
    · refine Only.ite ?_ ?_
      · refine Only.step ?_ (State.enterResync_only ..)
        exact h28
      · refine Only.ite ?_ ?_
        · refine Only.step ?_ (State.enterResync_only ..)
          exact h28
        · exact h28

theorem State.takeAck_only (s : State) (n : Nat) (body : List Byte) :
    Only 68351748112347229395527596073404575714420242181980479848332668945915510626654503709097231168480288 187072209578355574179109384932408050520672397662344 s (State.takeAck s n body) := by
  unfold State.takeAck
  extract_lets +onlyGivenNames v0
  clear_value v0
  extract_lets +onlyGivenNames v1
  clear_value v1
  extract_lets +onlyGivenNames v2
  clear_value v2
  extract_lets +onlyGivenNames v3
  clear_value v3
  extract_lets +onlyGivenNames v4
  clear_value v4
  extract_lets +onlyGivenNames v5
  clear_value v5
  extract_lets +onlyGivenNames v6
  have h7 : Only 68351748112347229395527596073404575714420242181980479848332668945915510626654503709097231168480288 187072209578355574179109384932408050520672397662344 s v6 := by
    unfold v6
    refine Only.step ?_ (State.markAcked_only ..)
    refine Only.step ?_ (State.updSess_only ..)
    exact Only.refl _ _ _
  obtain ⟨w8, e9⟩ : ∃ x, x = v6 := ⟨_, rfl⟩
  rw [← e9] at h7 ⊢
  clear e9 v6
  extract_lets +onlyGivenNames v10
  have h11 : Only 68351748112347229395527596073404575714420242181980479848332668945915510626654503709097231168480288 187072209578355574179109384932408050520672397662344 s v10 := by
    unfold v10
    refine Only.foldl ?_ ?_
    · exact h7
    · intro u12 u13 h14
      refine Only.step ?_ (State.bookAcked_only ..)
      exact h14
  obtain ⟨w15, e16⟩ : ∃ x, x = v10 := ⟨_, rfl⟩
  rw [← e16] at h11 ⊢
  clear e16 v10
  refine Only.step ?_ (State.settleWindow_only ..)
  refine Only.step ?_ (State.settleWindow_only ..)
  refine Only.step ?_ (State.releaseHeld_only ..)
  refine Only.step ?_ (State.settleSends_only ..)
  exact h11

theorem State.notHeld_only (s : State) (n : Nat) (rs : List (Nat × Nat)) :
    Only 7237026282571302585664548867310581071927020218014549279993205352336245915648 677301871030716712540438656 s (State.notHeld s n rs) := by
  unfold State.notHeld
  refine Only.foldl ?_ ?_
  · exact Only.refl _ _ _
  · intro u0 u1 h2
    refine Only.step ?_ (State.sendData_only ..)
    exact h2

theorem State.takeNak_only (s : State) (n : Nat) (body : List Byte) :
    Only 7237026282571302585664548867310581071927684832012441737929657255866386087936 677301871030716712540438656 s (State.takeNak s n body) := by
  unfold State.takeNak
  extract_lets +onlyGivenNames v0
  clear_value v0
  extract_lets +onlyGivenNames v1
  clear_value v1
  extract_lets +onlyGivenNames v2
  clear_value v2
  extract_lets +onlyGivenNames v3
  clear_value v3
  extract_lets +onlyGivenNames v4
  clear_value v4
  extract_lets +onlyGivenNames v5
  have h6 : ∀ a0 a1, Only 7237026282571302585664548867310581071927684832012441737929657255866386087936 677301871030716712540438656 s a0 → Only 7237026282571302585664548867310581071927684832012441737929657255866386087936 677301871030716712540438656 s (v5 a0 a1) := by
    intro a0 a1 h70
    unfold v5
    refine Only.ite ?_ ?_
    · exact h70
    · refine Only.step ?_ (State.resend_only ..)
      exact h70
  clear_value v5
  extract_lets +onlyGivenNames v8
  have h9 : Only 7237026282571302585664548867310581071927684832012441737929657255866386087936 677301871030716712540438656 s v8 := by
    unfold v8
    refine Only.foldl ?_ ?_
    · exact Only.refl _ _ _
    · intro u10 u11 h12
      apply h6
      exact h12
  obtain ⟨w13, e14⟩ : ∃ x, x = v8 := ⟨_, rfl⟩
  rw [← e14] at h9 ⊢
  clear e14 v8
  refine Only.ite ?_ ?_
  · exact h9
  · refine Only.step ?_ (State.notHeld_only ..)
    exact h9

theorem State.recordRtt_only (s : State) (n : Nat) (r : Nat) (v : Nat) :
    Only 15576890575604482885591488987660288 618970019642690137449562112 s (State.recordRtt s n r v) := by
  unfold State.recordRtt
  extract_lets +onlyGivenNames v0
  have h1 : Only 15576890575604482885591488987660288 618970019642690137449562112 s v0 := by
    unfold v0
    refine Only.ite ?_ ?_
    · refine Only.trans ?_ (State.setf_only _ _ _ _ (by decide))
      exact Only.refl _ _ _
    · refine Only.trans ?_ (State.setf_only _ _ _ _ (by decide))
      exact Only.refl _ _ _
  obtain ⟨w2, e3⟩ : ∃ x, x = v0 := ⟨_, rfl⟩
  rw [← e3] at h1 ⊢
  clear e3 v0
  refine Only.step ?_ (State.syncOneWay_only ..)
  refine Only.step ?_ (State.updSess_only ..)
  exact h1

theorem State.delayStep_only (s : State) (n : Nat) (r : Nat) (v : Nat) :
    Only 240847545613617686481027648818070848334801573440915786473890927016027286182821888 23906398852824828008345260007921733671860568064 s (State.delayStep s n r v) := by
  unfold State.delayStep
  extract_lets +onlyGivenNames v0
  have h1 : Only 240847545613617686481027648818070848334801573440915786473890927016027286182821888 23906398852824828008345260007921733671860568064 s v0 := by
    unfold v0
    refine Only.step ?_ (State.setWindow_only ..)
    refine Only.trans ?_ (State.event_only _ _ _ (by decide))
    refine Only.trans ?_ (State.count_only _ _ _ _ (by decide))
    refine Only.step ?_ (State.recordRtt_only ..)
    exact Only.refl _ _ _
  obtain ⟨w2, e3⟩ : ∃ x, x = v0 := ⟨_, rfl⟩
  rw [← e3] at h1 ⊢
  clear e3 v0
  extract_lets +onlyGivenNames v4
  clear_value v4
  refine Only.step ?_ (State.timeDelayStep_only ..)
  refine Only.step ?_ (State.updSess_only ..)
  exact h1

theorem State.judgeRtt_only (s : State) (n : Nat) (r : Nat) :
    Only 240847545613617686481027648818070848334801573440915786473890927016027286182821888 23906398852824828008345260007921733671860568064 s (State.judgeRtt s n r).2 := by
  unfold State.judgeRtt
  split
  · rename_i a0 a1
    refine Only.pair _ ?_
    exact Only.refl _ _ _
  · rename_i a2 a3 a4
    extract_lets +onlyGivenNames v5
    clear_value v5
    extract_lets +onlyGivenNames v6
    clear_value v6
    refine Only.iteSnd ?_ ?_
    · refine Only.pair _ ?_
      refine Only.step ?_ (State.delayStep_only ..)
      exact Only.refl _ _ _
    · refine Only.pair _ ?_
      refine Only.step ?_ (State.recordRtt_only ..)
      exact Only.refl _ _ _

theorem State.takeReply_only (s : State) (a : Arrival) :
    Only 759095892165233159096457214094914187369080634084353088947911974296990891918963507200 23906398852824828008403289627854856589657768068 s (State.takeReply s a) := by
  unfold State.takeReply
  extract_lets +onlyGivenNames v0
  clear_value v0
  extract_lets +onlyGivenNames v1
  clear_value v1
  extract_lets +onlyGivenNames v2
  unfold v2
  clear v2
  extract_lets +onlyGivenNames v3
  clear_value v3
  extract_lets +onlyGivenNames v4
  clear_value v4
  extract_lets +onlyGivenNames v5
  clear_value v5
  extract_lets +onlyGivenNames v6
  clear_value v6
  refine Only.ite ?_ ?_
  · exact Only.refl _ _ _
  · extract_lets +onlyGivenNames v7
    clear_value v7
    extract_lets +onlyGivenNames v8
    clear_value v8
    refine Only.ite ?_ ?_
    · refine Only.step ?_ (State.timeProbe_only ..)
      refine Only.step ?_ (State.syncSingle_only ..)
      refine Only.step ?_ (State.updSess_only ..)
      refine Only.step ?_ (State.setRoute_only ..)
      exact Only.refl _ _ _
    · extract_lets +onlyGivenNames v9
      clear_value v9
      extract_lets +onlyGivenNames v10
      have h11 : Only 759095892165233159096457214094914187369080634084353088947911974296990891918963507200 23906398852824828008403289627854856589657768068 s v10 := by
        unfold v10
        refine Only.step ?_ (State.updSess_only ..)
        exact Only.refl _ _ _
      obtain ⟨w12, e13⟩ : ∃ x, x = v10 := ⟨_, rfl⟩
      rw [← e13] at h11 ⊢
      clear e13 v10
      extract_lets +onlyGivenNames v14
      have h15 : Only 759095892165233159096457214094914187369080634084353088947911974296990891918963507200 23906398852824828008403289627854856589657768068 s v14 := by
        unfold v14
        refine Only.step ?_ (State.timeProbe_only ..)
        exact h11
      obtain ⟨w16, e17⟩ : ∃ x, x = v14 := ⟨_, rfl⟩
      rw [← e17] at h15 ⊢
      clear e17 v14
      refine Only.ite ?_ ?_
      · refine Only.ite ?_ ?_
        · extract_lets +onlyGivenNames v18
          have h19 : Only 759095892165233159096457214094914187369080634084353088947911974296990891918963507200 23906398852824828008403289627854856589657768068 s v18.2 := by
            unfold v18
            refine Only.step ?_ (State.judgeRtt_only ..)
            exact h15
          obtain ⟨w20, e21⟩ : ∃ x, x = v18 := ⟨_, rfl⟩
          rw [← e21] at h19 ⊢
          clear e21 v18
          refine Only.step ?_ (State.routeUpNow_only ..)
          exact h19
        · exact h15
      · refine Only.ite ?_ ?_
        · refine Only.step ?_ (State.judgeRtt_only ..)
          exact h15
        · exact h15

theorem State.answerProbe_only (s : State) (a : Arrival) :
    Only 7237026282571302585664548867310581071905731394929451763625764488067242000384 677300690439095995129135104 s (State.answerProbe s a) := by
  unfold State.answerProbe
  extract_lets +onlyGivenNames v0
  clear_value v0
  refine Only.step ?_ (State.sendCtlOn_only ..)
  exact Only.refl _ _ _

theorem State.noteGen_only (s : State) (n : Nat) (b : LineBlk) :
    Only 0 302231454903657293676544 s (State.noteGen s n b) := by
  unfold State.noteGen
  extract_lets +onlyGivenNames v0
  clear_value v0
  refine Only.step ?_ (State.updGen_only ..)
  exact Only.refl _ _ _

theorem State.takeSeqs_only (s : State) (n : Nat) (r : Nat) (qs : List Nat) :
    Only 649037107316853453566312041152512 618970019642690137449562112 s (State.takeSeqs s n r qs) := by
  unfold State.takeSeqs
  extract_lets +onlyGivenNames v0
  clear_value v0
  extract_lets +onlyGivenNames v1
  clear_value v1
  extract_lets +onlyGivenNames v2
  clear_value v2
  extract_lets +onlyGivenNames v3
  clear_value v3
  extract_lets +onlyGivenNames v4
  clear_value v4
  refine Only.trans ?_ (State.setf_only _ _ _ _ (by decide))
  refine Only.trans ?_ (State.setf_only _ _ _ _ (by decide))
  refine Only.step ?_ (State.updSess_only ..)
  exact Only.refl _ _ _

theorem State.accept_only (s : State) (a : Arrival) :
    Only 332956036053545821679518077111238656 619272251097593794743238656 s (State.accept s a) := by
  unfold State.accept
  extract_lets +onlyGivenNames v0
  clear_value v0
  extract_lets +onlyGivenNames v1
  have h2 : Only 332956036053545821679518077111238656 619272251097593794743238656 s v1 := by
    unfold v1
    refine Only.trans ?_ (State.count_only _ _ _ _ (by decide))
    refine Only.step ?_ (State.noteGen_only ..)
    refine Only.step ?_ (State.takeSeqs_only ..)
    exact Only.refl _ _ _
  obtain ⟨w3, e4⟩ : ∃ x, x = v1 := ⟨_, rfl⟩
  rw [← e4] at h2 ⊢
  clear e4 v1
  refine Only.step ?_ (State.updSess_only ..)
  exact h2

theorem State.acceptTaken_only {B P : Nat} {s0 : State} {a : Arrival} {r : Bool × State} (h : Only B P s0 r.2)
    (hb : 332956036053545821679518077111238656 ||| B = B := by decide) (hp : 619272251097593794743238656 ||| P = P := by decide) : Only B P s0 (State.acceptTaken a r) :=
  Only.ite (h.step (State.accept_only ..) hb hp) h

theorem State.applyFresh_only (s : State) (a : Arrival) (bytes : List Byte) :
    Only 0 108374762170531971072 s (State.applyFresh s a bytes) := by
  unfold State.applyFresh
  extract_lets +onlyGivenNames v0
  clear_value v0
  extract_lets +onlyGivenNames v1
  clear_value v1
  extract_lets +onlyGivenNames v2
  clear_value v2
  extract_lets +onlyGivenNames v3
  have h4 : ∀ a0 a1, Only 0 108374762170531971072 s a0 → Only 0 108374762170531971072 s (v3 a0 a1) := by
    intro a0 a1 h50
    unfold v3
    refine Only.ite ?_ ?_
    · exact h50
    · split
      · rename_i a6 a7
        exact h50
      · rename_i a8 a9 a10
        refine Only.ite ?_ ?_
        · extract_lets +onlyGivenNames v11
          clear_value v11
          extract_lets +onlyGivenNames v12
          clear_value v12
          split
          · rename_i a13 a14 a15 a16
            refine Only.step ?_ (State.wrBytes_only ..)
            exact h50
          · rename_i a17 a18
            exact h50
        · split
          · rename_i a19 a20 a21
            refine Only.step ?_ (State.wrBytes_only ..)
            exact h50
          · rename_i a22 a23
            exact h50
  clear_value v3
  extract_lets +onlyGivenNames v24
  have h25 : Only 0 108374762170531971072 s v24 := by
    unfold v24
    refine Only.foldl ?_ ?_
    · exact Only.refl _ _ _
    · intro u26 u27 h28
      apply h4
      exact h28
  obtain ⟨w29, e30⟩ : ∃ x, x = v24 := ⟨_, rfl⟩
  rw [← e30] at h25 ⊢
  clear e30 v24
  extract_lets +onlyGivenNames v31
  clear_value v31
  refine Only.up_cmp ?_
  exact h25

theorem State.landPart_only (s : State) (a : Arrival) (bytes : List Byte) :
    Only 0 1237940039285380274899124224 s (State.landPart s a bytes) := by
  unfold State.landPart
  extract_lets +onlyGivenNames v0
  clear_value v0
  extract_lets +onlyGivenNames v1
  clear_value v1
  extract_lets +onlyGivenNames v2
  clear_value v2
  extract_lets +onlyGivenNames v3
  clear_value v3
  extract_lets +onlyGivenNames v4
  clear_value v4
  extract_lets +onlyGivenNames v5
  clear_value v5
  refine Only.up_peer ?_
  exact Only.refl _ _ _

theorem State.deliverC3_only (s : State) (n stream fuel : Nat) :
    Only 215507185434265620706642550693012228946385189057069056 7826494439182822600877492971922979291144 s (s.deliverC3 n stream fuel) := by
  induction fuel generalizing s with
  | zero => exact Only.refl _ _ _
  | succ fuel ih =>
    unfold State.deliverC3
    extract_lets k
    split
    · exact Only.refl _ _ _
    · refine Only.step ?_ (ih _)
      refine Only.step ?_ (State.deliverMessage_only ..)
      refine Only.step ?_ (State.setCtx_only ..)
      exact Only.up_peer (Only.refl _ _ _)

theorem State.park_only (s : State) (a : Arrival) (bytes : List Byte) :
    Only 5062376869636259669082112 36028797018963968 s (State.park s a bytes).2 := by
  unfold State.park
  refine Only.iteSnd ?_ ?_
  · refine Only.pair _ ?_
    refine Only.trans ?_ (State.event_only _ _ _ (by decide))
    exact Only.refl _ _ _
  · extract_lets +onlyGivenNames v0
    clear_value v0
    extract_lets +onlyGivenNames v1
    unfold v1
    clear v1
    extract_lets +onlyGivenNames v2
    have h3 : Only 5062376869636259669082112 36028797018963968 s v2 := by
      unfold v2
      refine Only.up_col ?_
      exact Only.refl _ _ _
    obtain ⟨w4, e5⟩ : ∃ x, x = v2 := ⟨_, rfl⟩
    rw [← e5] at h3 ⊢
    clear e5 v2
    refine Only.pair _ ?_
    refine Only.trans ?_ (State.count_only _ _ _ _ (by decide))
    refine Only.trans ?_ (State.setf_only _ _ _ _ (by decide))
    exact h3

theorem State.takeData_only (s : State) (a : Arrival) (bytes : List Byte) :
    Only 68351748112347232956373161353241774069823093083264541618110012942260873241134758746488814354474532 187075064081567480547207711085299158536146597943432 s (State.takeData s a bytes).2 := by
  unfold State.takeData
  extract_lets +onlyGivenNames v0
  clear_value v0
  refine Only.iteSnd ?_ ?_
  · refine Only.pair _ ?_
    refine Only.step ?_ (State.applyFresh_only ..)
    exact Only.refl _ _ _
  · refine Only.iteSnd ?_ ?_
    · refine Only.pair _ ?_
      refine Only.step ?_ (State.timePayload_only ..)
      exact Only.refl _ _ _
    · refine Only.iteSnd ?_ ?_
      · extract_lets +onlyGivenNames v1
        have h2 : Only 68351748112347232956373161353241774069823093083264541618110012942260873241134758746488814354474532 187075064081567480547207711085299158536146597943432 s v1 := by
          unfold v1
          refine Only.step ?_ (State.landPart_only ..)
          exact Only.refl _ _ _
        obtain ⟨w3, e4⟩ : ∃ x, x = v1 := ⟨_, rfl⟩
        rw [← e4] at h2 ⊢
        clear e4 v1
        refine Only.pair _ ?_
        refine Only.step ?_ (State.deliverC3_only ..)
        exact h2
      · refine Only.iteSnd ?_ ?_
        · refine Only.pair _ ?_
          refine Only.step ?_ (State.takeCorrection_only ..)
          exact Only.refl _ _ _
        · refine Only.iteSnd ?_ ?_
          · refine Only.step ?_ (State.park_only ..)
            exact Only.refl _ _ _
          · refine Only.pair _ ?_
            refine Only.step ?_ (State.landPart_only ..)
            exact Only.refl _ _ _

theorem State.failRefetch_only (s : State) (n : Nat) (rs : List (Nat × Nat)) :
    Only 68351748112347229395527596073404575714420242181980479848332668920927581994955645754116965025096736 187072209578355574179109384931227457765258986494088 s (State.failRefetch s n rs) := by
  unfold State.failRefetch
  extract_lets +onlyGivenNames v0
  clear_value v0
  extract_lets +onlyGivenNames v1
  have h2 : ∀ a0 a1, Only 68351748112347229395527596073404575714420242181980479848332668920927581994955645754116965025096736 187072209578355574179109384931227457765258986494088 s a0 → Only 68351748112347229395527596073404575714420242181980479848332668920927581994955645754116965025096736 187072209578355574179109384931227457765258986494088 s (v1 a0 a1) := by
    intro a0 a1 h30
    unfold v1
    split
    · rename_i a4 a5 a6
      refine Only.ite ?_ ?_
      · refine Only.step ?_ (State.endItem_only ..)
        exact h30
      · refine Only.step ?_ (State.endItem_only ..)
        refine Only.step ?_ (State.cmpFail_only ..)
        exact h30
    · rename_i a7 a8
      exact h30
  clear_value v1
  refine Only.step ?_ (State.updSess_only ..)
  refine Only.foldl ?_ ?_
  · exact Only.refl _ _ _
  · intro u9 u10 h11
    apply h2
    exact h11

theorem State.takeAbandon_only (s : State) (a : Arrival) :
    Only 68351748112347229395534833099687147017005906730847790429404596024871383388109734469523554579686432 187072209578355574181648458283761535357085224769672 s (State.takeAbandon s a) := by
  unfold State.takeAbandon
  extract_lets +onlyGivenNames v0
  clear_value v0
  extract_lets +onlyGivenNames v1
  clear_value v1
  extract_lets +onlyGivenNames v2
  clear_value v2
  extract_lets +onlyGivenNames v3
  clear_value v3
  extract_lets +onlyGivenNames v4
  have h5 : Only 68351748112347229395534833099687147017005906730847790429404596024871383388109734469523554579686432 187072209578355574181648458283761535357085224769672 s v4 := by
    unfold v4
    refine Only.trans ?_ (State.setf_only _ _ _ _ (by decide))
    refine Only.trans ?_ (State.setf_only _ _ _ _ (by decide))
    refine Only.trans ?_ (State.setf_only _ _ _ _ (by decide))
    refine Only.trans ?_ (State.event_only _ _ _ (by decide))
    exact Only.refl _ _ _
  obtain ⟨w6, e7⟩ : ∃ x, x = v4 := ⟨_, rfl⟩
  rw [← e7] at h5 ⊢
  clear e7 v4
  refine Only.ite ?_ ?_
  · extract_lets +onlyGivenNames v8
    clear_value v8
    extract_lets +onlyGivenNames v9
    have h10 : Only 68351748112347229395534833099687147017005906730847790429404596024871383388109734469523554579686432 187072209578355574181648458283761535357085224769672 s v9 := by
      unfold v9
      refine Only.step ?_ (State.takeSeqs_only ..)
      exact h5
    obtain ⟨w11, e12⟩ : ∃ x, x = v9 := ⟨_, rfl⟩
    rw [← e12] at h10 ⊢
    clear e12 v9
    extract_lets +onlyGivenNames v13
    clear_value v13
    extract_lets +onlyGivenNames v14
    clear_value v14
    refine Only.ite ?_ ?_
    · exact h10
    · extract_lets +onlyGivenNames v15
      clear_value v15
      extract_lets +onlyGivenNames v16
      clear_value v16
      extract_lets +onlyGivenNames v17
      unfold v17
      clear v17
      extract_lets +onlyGivenNames v18
      have h19 : Only 68351748112347229395534833099687147017005906730847790429404596024871383388109734469523554579686432 187072209578355574181648458283761535357085224769672 s v18 := by
        unfold v18
        refine Only.up_peer ?_
        exact h10
      obtain ⟨w20, e21⟩ : ∃ x, x = v18 := ⟨_, rfl⟩
      rw [← e21] at h19 ⊢
      clear e21 v18
      split
      · rename_i a22 a23 a24
        refine Only.step ?_ (State.recvDone_only ..)
        exact h19
      · rename_i a25 a26
        exact h19
  · refine Only.ite ?_ ?_
    · refine Only.step ?_ (State.failRefetch_only ..)
      exact h5
    · exact h5

theorem State.takeCodebook_only (s : State) (a : Arrival) :
    Only 1267650600228229405894749716480 618970019643838027588960256 s (State.takeCodebook s a) := by
  unfold State.takeCodebook
  extract_lets +onlyGivenNames v0
  clear_value v0
  extract_lets +onlyGivenNames v1
  clear_value v1
  extract_lets +onlyGivenNames v2
  clear_value v2
  split
  · rename_i a3 a4 a5 a6
    refine Only.step ?_ (State.takeBook_only ..)
    exact Only.refl _ _ _
  · rename_i a7 a8 a9 a10
    refine Only.trans ?_ (State.count_only _ _ _ _ (by decide))
    exact Only.refl _ _ _

theorem State.takeStepReady_only (s : State) (body : List Byte) :
    Only 7237026282571302585664548867310581071927020219440656205249963429020037021696 3153181949601477262338687104 s (State.takeStepReady s body) := by
  unfold State.takeStepReady
  extract_lets +onlyGivenNames v0
  clear_value v0
  extract_lets +onlyGivenNames v1
  clear_value v1
  refine Only.ite ?_ ?_
  · refine Only.step ?_ (State.syncMeridian_only ..)
    refine Only.step ?_ (State.growReady_only ..)
    exact Only.refl _ _ _
  · refine Only.trans ?_ (State.count_only _ _ _ _ (by decide))
    exact Only.refl _ _ _

theorem State.takeStepCommit_only (s : State) (n : Nat) (body : List Byte) :
    Only 41538374868278621028243970633760768 0 s (State.takeStepCommit s n body) := by
  unfold State.takeStepCommit
  refine Only.trans ?_ (State.setf_only _ _ _ _ (by decide))
  exact Only.refl _ _ _

theorem State.takeEpoch_only (s : State) (n : Nat) (body : List Byte) :
    Only 7237026282571302585664548867310581071927684832012441737929657255866386087936 677301871030716712540438656 s (State.takeEpoch s n body) := by
  unfold State.takeEpoch
  extract_lets +onlyGivenNames v0
  clear_value v0
  extract_lets +onlyGivenNames v1
  clear_value v1
  refine Only.ite ?_ ?_
  · refine Only.step ?_ (State.suspendEpoch_only ..)
    exact Only.refl _ _ _
  · refine Only.ite ?_ ?_
    · refine Only.step ?_ (State.suspendEpoch_only ..)
      exact Only.refl _ _ _
    · refine Only.ite ?_ ?_
      · refine Only.step ?_ (State.endEpochWait_only ..)
        exact Only.refl _ _ _
      · exact Only.refl _ _ _

theorem State.handle_only (s : State) (a : Arrival) (bytes : List Byte) :
    Only 68351748112347991811410543967205851783795565992818019369701680315077702965824660092621109550032420 187098970480420305405639051780764944367890071787660 s (State.handle s a bytes) := by
  unfold State.handle
  extract_lets +onlyGivenNames v0
  clear_value v0
  extract_lets +onlyGivenNames v1
  clear_value v1
  extract_lets +onlyGivenNames v2
  have h3 : Only 68351748112347991811410543967205851783795565992818019369701680315077702965824660092621109550032420 187098970480420305405639051780764944367890071787660 s v2 := by
    unfold v2
    refine Only.trans ?_ (State.count_only _ _ _ _ (by decide))
    exact Only.refl _ _ _
  obtain ⟨w4, e5⟩ : ∃ x, x = v2 := ⟨_, rfl⟩
  rw [← e5] at h3 ⊢
  clear e5 v2
  refine Only.ite ?_ ?_
  · refine Only.step ?_ (State.takeHello_only ..)
    exact h3
  · refine Only.ite ?_ ?_
    · refine Only.step ?_ (State.pumpTx_only ..)
      refine Only.step ?_ (State.takeAck_only ..)
      exact h3
    · refine Only.ite ?_ ?_
      · refine Only.step ?_ (State.takeNak_only ..)
        exact h3
      · refine Only.ite ?_ ?_
        · refine Only.ite ?_ ?_
          · refine Only.step ?_ (State.takeReply_only ..)
            exact h3
          · refine Only.step ?_ (State.answerProbe_only ..)
            exact h3
        · refine Only.ite ?_ ?_
          · refine State.acceptTaken_only ?_
            refine Only.step ?_ (State.takeData_only ..)
            exact Only.refl _ _ _
          · extract_lets +onlyGivenNames v6
            have h7 : Only 68351748112347991811410543967205851783795565992818019369701680315077702965824660092621109550032420 187098970480420305405639051780764944367890071787660 s v6 := by
              unfold v6
              refine Only.step ?_ (State.accept_only ..)
              exact Only.refl _ _ _
            obtain ⟨w8, e9⟩ : ∃ x, x = v6 := ⟨_, rfl⟩
            rw [← e9] at h7 ⊢
            clear e9 v6
            refine Only.ite ?_ ?_
            · refine Only.step ?_ (State.takeAbandon_only ..)
              exact h7
            · refine Only.ite ?_ ?_
              · refine Only.step ?_ (State.takeCodebook_only ..)
                exact h7
              · refine Only.ite ?_ ?_
                · refine Only.step ?_ (State.takeStepReady_only ..)
                  exact h7
                · refine Only.ite ?_ ?_
                  · refine Only.step ?_ (State.takeStepCommit_only ..)
                    exact h7
                  · refine Only.ite ?_ ?_
                    · refine Only.step ?_ (State.takeEpoch_only ..)
                      exact h7
                    · refine Only.ite ?_ ?_
                      · refine Only.step ?_ (State.takeHorizon_only ..)
                        exact h7
                      · refine Only.step ?_ (State.takeReconcile_only ..)
                        exact h7

theorem State.receiveBlock_only (s : State) (port : Nat) (bs : List Byte) :
    Only 68351748112347991811410558101982370010870202659198025313398266712538548579996764890682982230042148 187098970480420305405658863657096788910805156599948 s (State.receiveBlock s port bs) := by
  unfold State.receiveBlock
  split
  · rename_i a0 a1 a2
    have h3 : Only 68351748112347991811410558101982370010870202659198025313398266712538548579996764890682982230042148 187098970480420305405658863657096788910805156599948 s a1 := by
      refine Only.of_snd a2 ?_
      refine Only.step ?_ (State.screen_only ..)
      exact Only.refl _ _ _
    exact h3
  · rename_i a4 a5 a6 a7
    have h8 : Only 68351748112347991811410558101982370010870202659198025313398266712538548579996764890682982230042148 187098970480420305405658863657096788910805156599948 s a6 := by
      refine Only.of_snd a7 ?_
      refine Only.step ?_ (State.screen_only ..)
      exact Only.refl _ _ _
    refine Only.step ?_ (State.handle_only ..)
    exact h8

/-! ### Peer -/

theorem State.receiveSort_only (s : State) (sort : LineBlk → Bool) (port : Nat) (bs : List Byte) :
    Only 68351748112347991811410558101982370010870202659198025313398266712538548579996764890682982230042148 187098970480420305405658863657096788910805156599948 s (State.receiveSort s sort port bs) := by
  unfold State.receiveSort
  refine Only.ite ?_ ?_
  · refine Only.step ?_ (State.receiveBlock_only ..)
    exact Only.refl _ _ _
  · exact Only.refl _ _ _

theorem execAbandonmentReceive_only (port : Nat) (bs : List Byte) (s : State) :
    Keeps (execAbandonmentReceive port bs s) (Only 68351748112347991811410558101982370010870202659198025313398266712538548579996764890682982230042148 187098970480420305405658863657096788910805156599948 s) := by
  unfold execAbandonmentReceive
  refine Keeps.next ?_
  refine Only.step ?_ (State.receiveSort_only ..)
  exact Only.refl _ _ _

theorem execAckReceive_only (port : Nat) (bs : List Byte) (s : State) :
    Keeps (execAckReceive port bs s) (Only 68351748112347991811410558101982370010870202659198025313398266712538548579996764890682982230042148 187098970480420305405658863657096788910805156599948 s) := by
  unfold execAckReceive
  refine Keeps.next ?_
  refine Only.step ?_ (State.receiveSort_only ..)
  exact Only.refl _ _ _

theorem execAckSend_only (n : Nat) (s : State) :
    Keeps (execAckSend n s) (Only 7237026282571302585664548867310581071905731394929451763625764488067242000384 677300690439095995129135104 s) := by
  simp only [execAckSend]
  refine Keeps.next ?_
  refine Only.ite ?_ ?_
  · refine Only.step ?_ (State.sendAck_only ..)
    exact Only.refl _ _ _
  · exact Only.refl _ _ _

theorem State.writeSessCtrl_only (s : State) (n : Nat) (v : Nat) :
    Only 240856139557740768542406741977114461890462574294338735059917464479568847567847424 23906398852824828008403289627854856589657768064 s (State.writeSessCtrl s n v) := by
  unfold State.writeSessCtrl
  extract_lets +onlyGivenNames v0
  have h1 : Only 240856139557740768542406741977114461890462574294338735059917464479568847567847424 23906398852824828008403289627854856589657768064 s v0 := by
    unfold v0
    refine Only.trans ?_ (State.setf_only _ _ _ _ (by decide))
    refine Only.trans ?_ (State.setf_only _ _ _ _ (by decide))
    exact Only.refl _ _ _
  obtain ⟨w2, e3⟩ : ∃ x, x = v0 := ⟨_, rfl⟩
  rw [← e3] at h1 ⊢
  clear e3 v0
  refine Only.foldl ?_ ?_
  · exact h1
  · intro u4 u5 h6
    refine Only.ite ?_ ?_
    · refine Only.step ?_ (State.routeDown_only ..)
      exact h6
    · exact h6

theorem execCodebookReceive_only (port : Nat) (bs : List Byte) (s : State) :
    Keeps (execCodebookReceive port bs s) (Only 68351748112347991811410558101982370010870202659198025313398266712538548579996764890682982230042148 187098970480420305405658863657096788910805156599948 s) := by
  unfold execCodebookReceive
  refine Keeps.next ?_
  refine Only.step ?_ (State.receiveSort_only ..)
  exact Only.refl _ _ _

theorem execDataReceive_only (port : Nat) (bs : List Byte) (s : State) :
    Keeps (execDataReceive port bs s) (Only 68351748112347991811410558101982370010870202659198025313398266712538548579996764890682982230042148 187098970480420305405658863657096788910805156599948 s) := by
  unfold execDataReceive
  refine Keeps.next ?_
  refine Only.step ?_ (State.receiveSort_only ..)
  exact Only.refl _ _ _

theorem execEclipseEntry_only (n : Nat) (s : State) :
    Keeps (execEclipseEntry n s) (Only 68351748112347229395527596073404575714420242181980479848342537109649745664981061632498101236180000 187072209578355574260237785405794854080773092513928 s) := by
  unfold execEclipseEntry
  extract_lets +onlyGivenNames v0
  clear_value v0
  refine Keeps.next ?_
  refine Only.ite ?_ ?_
  · refine Only.step ?_ (State.eclipse_only ..)
    exact Only.refl _ _ _
  · exact Only.refl _ _ _

theorem execEpochReceive_only (port : Nat) (bs : List Byte) (s : State) :
    Keeps (execEpochReceive port bs s) (Only 68351748112347991811410558101982370010870202659198025313398266712538548579996764890682982230042148 187098970480420305405658863657096788910805156599948 s) := by
  unfold execEpochReceive
  refine Keeps.next ?_
  refine Only.step ?_ (State.receiveSort_only ..)
  exact Only.refl _ _ _

theorem execGapNak_only (n : Nat) (s : State) :
    Keeps (execGapNak n s) (Only 7237026282571302585664548867310581071907060622925236679498668295127522344960 677300690439095995129135104 s) := by
  unfold execGapNak
  extract_lets +onlyGivenNames v0
  clear_value v0
  refine Keeps.ite ?_ ?_
  · refine Keeps.next ?_
    exact Only.refl _ _ _
  · refine Keeps.next ?_
    refine Only.step ?_ (State.sendNak_only ..)
    refine Only.step ?_ (State.updSess_only ..)
    exact Only.refl _ _ _

theorem execHelloReceive_only (port : Nat) (bs : List Byte) (s : State) :
    Keeps (execHelloReceive port bs s) (Only 68351748112347991811410558101982370010870202659198025313398266712538548579996764890682982230042148 187098970480420305405658863657096788910805156599948 s) := by
  unfold execHelloReceive
  refine Keeps.next ?_
  refine Only.step ?_ (State.receiveSort_only ..)
  exact Only.refl _ _ _

theorem execHelloSend_only (n : Nat) (s : State) :
    Keeps (execHelloSend n s) (Only 7237026282571302585664548867310581071905731394929451763625764488067242000384 677300690439095995129135104 s) := by
  unfold execHelloSend
  extract_lets +onlyGivenNames v0
  clear_value v0
  extract_lets +onlyGivenNames v1
  clear_value v1
  refine Keeps.ite ?_ ?_
  · extract_lets +onlyGivenNames v2
    have h3 : Only 7237026282571302585664548867310581071905731394929451763625764488067242000384 677300690439095995129135104 s v2 := by
      unfold v2
      refine Only.step ?_ (State.updSess_only ..)
      exact Only.refl _ _ _
    obtain ⟨w4, e5⟩ : ∃ x, x = v2 := ⟨_, rfl⟩
    rw [← e5] at h3 ⊢
    clear e5 v2
    refine Keeps.next ?_
    refine Only.step ?_ (State.sendHello_only ..)
    refine Only.step ?_ (State.sendHello_only ..)
    exact h3
  · refine Keeps.next ?_
    exact Only.refl _ _ _

theorem execHorizonReceive_only (port : Nat) (bs : List Byte) (s : State) :
    Keeps (execHorizonReceive port bs s) (Only 68351748112347991811410558101982370010870202659198025313398266712538548579996764890682982230042148 187098970480420305405658863657096788910805156599948 s) := by
  unfold execHorizonReceive
  refine Keeps.next ?_
  refine Only.step ?_ (State.receiveSort_only ..)
  exact Only.refl _ _ _

theorem execNakReceive_only (port : Nat) (bs : List Byte) (s : State) :
    Keeps (execNakReceive port bs s) (Only 68351748112347991811410558101982370010870202659198025313398266712538548579996764890682982230042148 187098970480420305405658863657096788910805156599948 s) := by
  unfold execNakReceive
  refine Keeps.next ?_
  refine Only.step ?_ (State.receiveSort_only ..)
  exact Only.refl _ _ _

theorem State.receiveProbe_only (s : State) (reply : Bool) (port : Nat) (bs : List Byte) :
    Only 68351748112347991811410558101982370010870202659198025313398266712538548579996764890682982230042148 187098970480420305405658863657096788910805156599948 s (State.receiveProbe s reply port bs) := by
  unfold State.receiveProbe
  refine Only.ite ?_ ?_
  · exact Only.refl _ _ _
  · split
    · rename_i a0 a1 a2
      have h3 : Only 68351748112347991811410558101982370010870202659198025313398266712538548579996764890682982230042148 187098970480420305405658863657096788910805156599948 s a1 := by
        refine Only.of_snd a2 ?_
        refine Only.step ?_ (State.screen_only ..)
        exact Only.refl _ _ _
      exact h3
    · rename_i a4 a5 a6 a7
      have h8 : Only 68351748112347991811410558101982370010870202659198025313398266712538548579996764890682982230042148 187098970480420305405658863657096788910805156599948 s a6 := by
        refine Only.of_snd a7 ?_
        refine Only.step ?_ (State.screen_only ..)
        exact Only.refl _ _ _
      refine Only.ite ?_ ?_
      · refine Only.step ?_ (State.handle_only ..)
        exact h8
      · exact Only.refl _ _ _

theorem execProbeReplyReceive_only (port : Nat) (bs : List Byte) (s : State) :
    Keeps (execProbeReplyReceive port bs s) (Only 68351748112347991811410558101982370010870202659198025313398266712538548579996764890682982230042148 187098970480420305405658863657096788910805156599948 s) := by
  unfold execProbeReplyReceive
  refine Keeps.next ?_
  refine Only.step ?_ (State.receiveProbe_only ..)
  exact Only.refl _ _ _

theorem execProbeRequestReceive_only (port : Nat) (bs : List Byte) (s : State) :
    Keeps (execProbeRequestReceive port bs s) (Only 68351748112347991811410558101982370010870202659198025313398266712538548579996764890682982230042148 187098970480420305405658863657096788910805156599948 s) := by
  unfold execProbeRequestReceive
  refine Keeps.next ?_
  refine Only.step ?_ (State.receiveProbe_only ..)
  exact Only.refl _ _ _

theorem State.sendProbe_only (s : State) (n : Nat) (r : Nat) :
    Only 7237026282571302585664548867310581071905731394929451763625764488067242000384 677300690439095995129135104 s (State.sendProbe s n r) := by
  unfold State.sendProbe
  extract_lets +onlyGivenNames v0
  clear_value v0
  extract_lets +onlyGivenNames v1
  clear_value v1
  extract_lets +onlyGivenNames v2
  clear_value v2
  refine Only.step ?_ (State.updSess_only ..)
  refine Only.step ?_ (State.sendCtlOn_only ..)
  exact Only.refl _ _ _

theorem execProbeSend_only (s : State) :
    Keeps (execProbeSend s) (Only 7237026282571302585664548867310581071905731394929451763625764488067242000384 40565496507993779943889631707136 s) := by
  unfold execProbeSend
  extract_lets +onlyGivenNames v0
  clear_value v0
  refine Keeps.ite ?_ ?_
  · refine Keeps.next ?_
    exact Only.refl _ _ _
  · extract_lets +onlyGivenNames v1
    unfold v1
    clear v1
    extract_lets +onlyGivenNames v2
    have h3 : Only 7237026282571302585664548867310581071905731394929451763625764488067242000384 40565496507993779943889631707136 s v2 := by
      unfold v2
      refine Only.up_peer ?_
      exact Only.refl _ _ _
    obtain ⟨w4, e5⟩ : ∃ x, x = v2 := ⟨_, rfl⟩
    rw [← e5] at h3 ⊢
    clear e5 v2
    refine Keeps.next ?_
    refine Only.foldl ?_ ?_
    · exact h3
    · intro u6 u7 h8
      refine Only.foldl ?_ ?_
      · exact h8
      · intro u9 u10 h11
        refine Only.step ?_ (State.sendProbe_only ..)
        exact h11

theorem execReconcileReceive_only (port : Nat) (bs : List Byte) (s : State) :
    Keeps (execReconcileReceive port bs s) (Only 68351748112347991811410558101982370010870202659198025313398266712538548579996764890682982230042148 187098970480420305405658863657096788910805156599948 s) := by
  unfold execReconcileReceive
  refine Keeps.next ?_
  refine Only.step ?_ (State.receiveSort_only ..)
  exact Only.refl _ _ _

theorem State.resendLimit_only (s : State) (n : Nat) (b : TxBlock) :
    Only 68351748112347229395534833099687147017005906730847790429404595941145596544235638952146553830024224 187072209578355574179109443263078845791834077370504 s (State.resendLimit s n b) := by
  unfold State.resendLimit
  extract_lets +onlyGivenNames v0
  clear_value v0
  extract_lets +onlyGivenNames v1
  clear_value v1
  extract_lets +onlyGivenNames v2
  clear_value v2
  extract_lets +onlyGivenNames v3
  have h4 : Only 68351748112347229395534833099687147017005906730847790429404595941145596544235638952146553830024224 187072209578355574179109443263078845791834077370504 s v3 := by
    unfold v3
    refine Only.step ?_ (State.updSess_only ..)
    exact Only.refl _ _ _
  obtain ⟨w5, e6⟩ : ∃ x, x = v3 := ⟨_, rfl⟩
  rw [← e6] at h4 ⊢
  clear e6 v3
  extract_lets +onlyGivenNames v7
  have h8 : Only 68351748112347229395534833099687147017005906730847790429404595941145596544235638952146553830024224 187072209578355574179109443263078845791834077370504 s v7 := by
    unfold v7
    refine Only.trans ?_ (State.event_only _ _ _ (by decide))
    split
    · rename_i a9 a10 a11
      refine Only.step ?_ (State.endItem_only ..)
      exact h4
    · rename_i a12 a13
      exact h4
  obtain ⟨w14, e15⟩ : ∃ x, x = v7 := ⟨_, rfl⟩
  rw [← e15] at h8 ⊢
  clear e15 v7
  extract_lets +onlyGivenNames v16
  clear_value v16
  extract_lets +onlyGivenNames v17
  clear_value v17
  refine Only.foldl ?_ ?_
  · exact h8
  · intro u18 u19 h20
    refine Only.step ?_ (State.sendData_only ..)
    exact h20

theorem execResendTimer_only (n : Nat) (dseq : Nat) (s : State) :
    Keeps (execResendTimer n dseq s) (Only 68351748112347229395534833099687147017005906730847790429404599264215586006525321211664204530885664 187072209578355574179109443263078845791834077370504 s) := by
  unfold execResendTimer
  split
  · rename_i a0 a1
    refine Keeps.next ?_
    exact Only.refl _ _ _
  · rename_i a2 a3 a4
    refine Keeps.ite ?_ ?_
    · refine Keeps.next ?_
      exact Only.refl _ _ _
    · extract_lets +onlyGivenNames v5
      have h6 : Only 68351748112347229395534833099687147017005906730847790429404599264215586006525321211664204530885664 187072209578355574179109443263078845791834077370504 s v5 := by
        unfold v5
        refine Only.trans ?_ (State.count_only _ _ _ _ (by decide))
        exact Only.refl _ _ _
      obtain ⟨w7, e8⟩ : ∃ x, x = v5 := ⟨_, rfl⟩
      rw [← e8] at h6 ⊢
      clear e8 v5
      refine Keeps.next ?_
      refine Only.ite ?_ ?_
      · refine Only.step ?_ (State.resendLimit_only ..)
        exact h6
      · refine Only.step ?_ (State.resend_only ..)
        exact h6

theorem execRouteDisableWrite_only (n : Nat) (v : Nat) (s : State) :
    Keeps (execRouteDisableWrite n v s) (Only 240856139557740768542406741977114461890462574294338735059917464479568847567847424 23906398852824828008403289627854856589657768064 s) := by
  unfold execRouteDisableWrite
  refine Keeps.next ?_
  refine Only.ite ?_ ?_
  · refine Only.step ?_ (State.writeSessCtrl_only ..)
    exact Only.refl _ _ _
  · exact Only.refl _ _ _

theorem execRouteProveTimeout_only (n : Nat) (r : Nat) (s : State) :
    Keeps (execRouteProveTimeout n r s) (Only 240856139557740768542406741977114461890462574294176475783088251116177269557559296 23906398852824828008403289627854856589657768064 s) := by
  unfold execRouteProveTimeout
  refine Keeps.next ?_
  refine Only.ite ?_ ?_
  · refine Only.step ?_ (State.routeDown_only ..)
    exact Only.refl _ _ _
  · exact Only.refl _ _ _

theorem execRouteSilence_only (n : Nat) (r : Nat) (s : State) :
    Keeps (execRouteSilence n r s) (Only 240856139557740768542406741977114461890462574294176475783088251116177269557559296 23906398852824828008403289627854856589657768064 s) := by
  unfold execRouteSilence
  refine Keeps.next ?_
  refine Only.ite ?_ ?_
  · refine Only.step ?_ (State.routeDown_only ..)
    exact Only.refl _ _ _
  · exact Only.refl _ _ _

theorem execStepCommitReceive_only (port : Nat) (bs : List Byte) (s : State) :
    Keeps (execStepCommitReceive port bs s) (Only 68351748112347991811410558101982370010870202659198025313398266712538548579996764890682982230042148 187098970480420305405658863657096788910805156599948 s) := by
  unfold execStepCommitReceive
  refine Keeps.next ?_
  refine Only.step ?_ (State.receiveSort_only ..)
  exact Only.refl _ _ _

theorem execStepReadyReceive_only (port : Nat) (bs : List Byte) (s : State) :
    Keeps (execStepReadyReceive port bs s) (Only 68351748112347991811410558101982370010870202659198025313398266712538548579996764890682982230042148 187098970480420305405658863657096788910805156599948 s) := by
  unfold execStepReadyReceive
  refine Keeps.next ?_
  refine Only.step ?_ (State.receiveSort_only ..)
  exact Only.refl _ _ _

/-! ### Collective -/

theorem State.admitInstance_only (s : State) (a : AdHoc) :
    Only 162962878106758886901475655138570435176965713179473667353185256147661128642763814179210035232 187072209578355574179110003846940134791416798773640 s (State.admitInstance s a) := by
  unfold State.admitInstance
  extract_lets +onlyGivenNames v0
  unfold v0
  clear v0
  extract_lets +onlyGivenNames v1
  have h2 : Only 162962878106758886901475655138570435176965713179473667353185256147661128642763814179210035232 187072209578355574179110003846940134791416798773640 s v1 := by
    unfold v1
    refine Only.up_col ?_
    exact Only.refl _ _ _
  obtain ⟨w3, e4⟩ : ∃ x, x = v1 := ⟨_, rfl⟩
  rw [← e4] at h2 ⊢
  clear e4 v1
  extract_lets +onlyGivenNames v5
  clear_value v5
  extract_lets +onlyGivenNames v6
  have h7 : ∀ a0 a1, Only 162962878106758886901475655138570435176965713179473667353185256147661128642763814179210035232 187072209578355574179110003846940134791416798773640 s a0 → Only 162962878106758886901475655138570435176965713179473667353185256147661128642763814179210035232 187072209578355574179110003846940134791416798773640 s (v6 a0 a1) := by
    intro a0 a1 h80
    unfold v6
    extract_lets +onlyGivenNames v9
    clear_value v9
    refine Only.step ?_ (State.lookCtx_only ..)
    refine Only.step ?_ (State.noteInstance_only ..)
    refine Only.step ?_ (State.addItem_only ..)
    exact h80
  clear_value v6
  extract_lets +onlyGivenNames v10
  have h11 : Only 162962878106758886901475655138570435176965713179473667353185256147661128642763814179210035232 187072209578355574179110003846940134791416798773640 s v10 := by
    unfold v10
    refine Only.foldl ?_ ?_
    · exact h2
    · intro u12 u13 h14
      apply h7
      exact h14
  obtain ⟨w15, e16⟩ : ∃ x, x = v10 := ⟨_, rfl⟩
  rw [← e16] at h11 ⊢
  clear e16 v10
  extract_lets +onlyGivenNames v17
  clear_value v17
  extract_lets +onlyGivenNames v18
  unfold v18
  clear v18
  extract_lets +onlyGivenNames v19
  have h20 : Only 162962878106758886901475655138570435176965713179473667353185256147661128642763814179210035232 187072209578355574179110003846940134791416798773640 s v19 := by
    unfold v19
    refine Only.up_col ?_
    exact h11
  obtain ⟨w21, e22⟩ : ∃ x, x = v19 := ⟨_, rfl⟩
  rw [← e22] at h20 ⊢
  clear e22 v19
  extract_lets +onlyGivenNames v23
  have h24 : ∀ a0 a1, Only 162962878106758886901475655138570435176965713179473667353185256147661128642763814179210035232 187072209578355574179110003846940134791416798773640 s a0 → Only 162962878106758886901475655138570435176965713179473667353185256147661128642763814179210035232 187072209578355574179110003846940134791416798773640 s (v23 a0 a1) := by
    intro a0 a1 h250
    unfold v23
    extract_lets +onlyGivenNames v26
    clear_value v26
    refine Only.step ?_ (State.landPart_only ..)
    exact h250
  clear_value v23
  extract_lets +onlyGivenNames v27
  have h28 : Only 162962878106758886901475655138570435176965713179473667353185256147661128642763814179210035232 187072209578355574179110003846940134791416798773640 s v27 := by
    unfold v27
    refine Only.trans ?_ (State.setf_only _ _ _ _ (by decide))
    refine Only.foldl ?_ ?_
    · exact h20
    · intro u29 u30 h31
      apply h24
      exact h31
  obtain ⟨w32, e33⟩ : ∃ x, x = v27 := ⟨_, rfl⟩
  rw [← e33] at h28 ⊢
  clear e33 v27
  refine Only.ite ?_ ?_
  · refine Only.step ?_ (State.syncAdhoc_only ..)
    refine Only.step ?_ (State.endInstance_only ..)
    exact h28
  · refine Only.step ?_ (State.syncAdhoc_only ..)
    exact h28

theorem execAdhocAdmit_only (s : State) :
    Keeps (execAdhocAdmit s) (Only 162962878106758886901475655138570435176965713179473667353185256147661128642763814179210035232 187072209578355574179110003846940143798616053514632 s) := by
  unfold execAdhocAdmit
  split
  · rename_i a0 a1
    refine Keeps.next ?_
    exact Only.refl _ _ _
  · rename_i a2 a3 a4 a5
    refine Keeps.ite ?_ ?_
    · refine Keeps.next ?_
      exact Only.refl _ _ _
    · refine Keeps.next ?_
      refine Only.step ?_ (State.admitInstance_only ..)
      refine Only.up_col ?_
      exact Only.refl _ _ _

theorem State.endSubmit_only {B P : Nat} {s0 : State} {q : Nat} {r : Status × Option Nat × State}
    (h : Only B P s0 r.2.2) (hb : 39785858912782931420742804279279613720079783099726995562394880956645465647140339609239552 ||| B = B := by decide) (hp : 35929556252142917341119387927799333210125102930198536 ||| P = P := by decide) :
    Only B P s0 (State.endSubmit q r) := h.step (State.answer_only ..) hb hp

theorem State.submit_only (s : State) (b : SubmitBody) :
    Only 162962878106758886901475655138570435176965713179473667353185256147684098233336492133542039584 187072209578355574179110003846940161813014562996616 s (State.submit s b).2.2 := by
  unfold State.submit
  extract_lets +onlyGivenNames v0
  clear_value v0
  extract_lets +onlyGivenNames v1
  have h2 : ∀ a0, Only 162962878106758886901475655138570435176965713179473667353185256147684098233336492133542039584 187072209578355574179110003846940161813014562996616 s a0 → Only 162962878106758886901475655138570435176965713179473667353185256147684098233336492133542039584 187072209578355574179110003846940161813014562996616 s (v1 a0) := by
    intro a0 h30
    unfold v1
    refine Only.trans ?_ (State.setf_only _ _ _ _ (by decide))
    refine Only.up_col ?_
    exact h30
  clear_value v1
  refine Only.iteSnd2 ?_ ?_
  · refine Only.pair2 _ _ ?_
    exact Only.refl _ _ _
  · refine Only.iteSnd2 ?_ ?_
    · refine Only.pair2 _ _ ?_
      exact Only.refl _ _ _
    · refine Only.iteSnd2 ?_ ?_
      · refine Only.pair2 _ _ ?_
        refine Only.trans ?_ (State.event_only _ _ _ (by decide))
        exact Only.refl _ _ _
      · refine Only.iteSnd2 ?_ ?_
        · refine Only.pair2 _ _ ?_
          exact Only.refl _ _ _
        · refine Only.iteSnd2 ?_ ?_
          · refine Only.pair2 _ _ ?_
            refine Only.step ?_ (State.fitReport_only ..)
            exact Only.refl _ _ _
          · refine Only.iteSnd2 ?_ ?_
            · refine Only.iteSnd2 ?_ ?_
              · refine Only.pair2 _ _ ?_
                refine Only.trans ?_ (State.event_only _ _ _ (by decide))
                refine Only.trans ?_ (State.count_only _ _ _ _ (by decide))
                exact Only.refl _ _ _
              · refine Only.pair2 _ _ ?_
                refine Only.step ?_ (State.admitInstance_only ..)
                apply h2
                exact Only.refl _ _ _
            · refine Only.iteSnd2 ?_ ?_
              · refine Only.iteSnd2 ?_ ?_
                · refine Only.pair2 _ _ ?_
                  exact Only.refl _ _ _
                · extract_lets +onlyGivenNames v4
                  have h5 : Only 162962878106758886901475655138570435176965713179473667353185256147684098233336492133542039584 187072209578355574179110003846940161813014562996616 s v4 := by
                    unfold v4
                    apply h2
                    exact Only.refl _ _ _
                  obtain ⟨w6, e7⟩ : ∃ x, x = v4 := ⟨_, rfl⟩
                  rw [← e7] at h5 ⊢
                  clear e7 v4
                  extract_lets +onlyGivenNames v8
                  unfold v8
                  clear v8
                  extract_lets +onlyGivenNames v9
                  have h10 : Only 162962878106758886901475655138570435176965713179473667353185256147684098233336492133542039584 187072209578355574179110003846940161813014562996616 s v9 := by
                    unfold v9
                    refine Only.up_col ?_
                    exact h5
                  obtain ⟨w11, e12⟩ : ∃ x, x = v9 := ⟨_, rfl⟩
                  rw [← e12] at h10 ⊢
                  clear e12 v9
                  refine Only.pair2 _ _ ?_
                  refine Only.step ?_ (State.syncAdhoc_only ..)
                  refine Only.trans ?_ (State.event_only _ _ _ (by decide))
                  refine Only.trans ?_ (State.count_only _ _ _ _ (by decide))
                  exact h10
              · refine Only.pair2 _ _ ?_
                refine Only.step ?_ (State.admitInstance_only ..)
                apply h2
                exact Only.refl _ _ _

theorem State.takeSubmit_only (s : State) (q : Req) (body : List Byte) :
    Only 163002663965671669832896397942849714790685792962573394348747651028640743698983632473151279136 36116628461721272915298497931646273371938117493195144 s (State.takeSubmit s q body) := by
  unfold State.takeSubmit
  refine State.alone_only ?_ ?_
  · exact Only.refl _ _ _
  · intro u0 h1
    split
    · rename_i a2 a3
      refine Only.step ?_ (State.respond_only ..)
      exact h1
    · rename_i a4 a5 a6
      refine State.endSubmit_only ?_
      refine Only.step ?_ (State.submit_only ..)
      exact h1

theorem execSubmit_only (q : Req) (body : List Byte) (s : State) :
    Keeps (execSubmit q body s) (Only 163002663965671669832896397942849714790685792962573394348747651028640743698983632473151279136 36116628461721272915298497931646273371938117493195144 s) := by
  unfold execSubmit
  refine Keeps.next ?_
  refine State.gated_only ?_ ?_
  · exact Only.refl _ _ _
  · intro u0 h1
    refine Only.step ?_ (State.takeSubmit_only ..)
    exact h1

theorem State.parkedId_only (s : State) (low : Nat) :
    Only 0 4 s (State.parkedId s low).2 := by
  unfold State.parkedId
  split
  · rename_i a0 a1 a2
    refine Only.pair _ ?_
    exact Only.refl _ _ _
  · rename_i a3 a4
    refine Only.pair _ ?_
    refine Only.step ?_ (State.fresh_only ..)
    exact Only.refl _ _ _

theorem execParkExpired_only (low : Nat) (s : State) :
    Keeps (execParkExpired low s) (Only 48583706375762909958504448 2301339409586323460 s) := by
  unfold execParkExpired
  extract_lets +onlyGivenNames v0
  clear_value v0
  split
  · rename_i a1
    refine Keeps.next ?_
    exact Only.refl _ _ _
  · rename_i a2 a3 a4
    refine Keeps.ite ?_ ?_
    · refine Keeps.next ?_
      exact Only.refl _ _ _
    · extract_lets +onlyGivenNames v5
      clear_value v5
      extract_lets +onlyGivenNames v6
      have h7 : Only 48583706375762909958504448 2301339409586323460 s v6.2 := by
        unfold v6
        refine Only.step ?_ (State.parkedId_only ..)
        exact Only.refl _ _ _
      obtain ⟨w8, e9⟩ : ∃ x, x = v6 := ⟨_, rfl⟩
      rw [← e9] at h7 ⊢
      clear e9 v6
      extract_lets +onlyGivenNames v10
      have h11 : Only 48583706375762909958504448 2301339409586323460 s v10 := by
        unfold v10
        exact h7
      obtain ⟨w12, e13⟩ : ∃ x, x = v10 := ⟨_, rfl⟩
      rw [← e13] at h11 ⊢
      clear e13 v10
      extract_lets +onlyGivenNames v14
      unfold v14
      clear v14
      extract_lets +onlyGivenNames v15
      have h16 : Only 48583706375762909958504448 2301339409586323460 s v15 := by
        unfold v15
        refine Only.up_col ?_
        exact h11
      obtain ⟨w17, e18⟩ : ∃ x, x = v15 := ⟨_, rfl⟩
      rw [← e18] at h16 ⊢
      clear e18 v15
      refine Keeps.next ?_
      refine Only.trans ?_ (State.event_only _ _ _ (by decide))
      refine Only.trans ?_ (State.setf_only _ _ _ _ (by decide))
      refine Only.trans ?_ (State.count_only _ _ _ _ (by decide))
      refine Only.trans ?_ (State.setf_only _ _ _ _ (by decide))
      exact h16

/-! ### Swap -/

theorem State.armMembers_only (s : State) :
    Only 0 8 s (State.armMembers s) := by
  unfold State.armMembers
  refine Only.ite ?_ ?_
  · refine Only.foldl ?_ ?_
    · exact Only.refl _ _ _
    · intro u0 u1 h2
      refine Only.step ?_ (State.emit_only ..)
      exact h2
  · exact Only.refl _ _ _

theorem State.arm_only (s : State) (k : SwapKind) :
    Only 12587232 1036 s (State.arm s k).2 := by
  unfold State.arm
  refine Only.iteSnd ?_ ?_
  · refine Only.pair _ ?_
    refine Only.trans ?_ (State.setf_only _ _ _ _ (by decide))
    exact Only.refl _ _ _
  · extract_lets +onlyGivenNames v0
    clear_value v0
    extract_lets +onlyGivenNames v1
    have h2 : Only 12587232 1036 s v1 := by
      unfold v1
      refine Only.trans ?_ (State.setf_only _ _ _ _ (by decide))
      refine Only.step ?_ (State.fitReport_only ..)
      exact Only.refl _ _ _
    obtain ⟨w3, e4⟩ : ∃ x, x = v1 := ⟨_, rfl⟩
    rw [← e4] at h2 ⊢
    clear e4 v1
    refine Only.iteSnd ?_ ?_
    · refine Only.pair _ ?_
      exact h2
    · extract_lets +onlyGivenNames v5
      unfold v5
      clear v5
      extract_lets +onlyGivenNames v6
      have h7 : Only 12587232 1036 s v6 := by
        unfold v6
        refine Only.up_seq ?_
        exact h2
      obtain ⟨w8, e9⟩ : ∃ x, x = v6 := ⟨_, rfl⟩
      rw [← e9] at h7 ⊢
      clear e9 v6
      extract_lets +onlyGivenNames v10
      have h11 : Only 12587232 1036 s v10 := by
        unfold v10
        refine Only.trans ?_ (State.setf_only _ _ _ _ (by decide))
        refine Only.trans ?_ (State.setf_only _ _ _ _ (by decide))
        exact h7
      obtain ⟨w12, e13⟩ : ∃ x, x = v10 := ⟨_, rfl⟩
      rw [← e13] at h11 ⊢
      clear e13 v10
      extract_lets +onlyGivenNames v14
      clear_value v14
      refine Only.iteSnd ?_ ?_
      · refine Only.iteSnd ?_ ?_
        · refine Only.pair _ ?_
          refine Only.step ?_ (State.armMembers_only ..)
          refine Only.trans ?_ (State.setf_only _ _ _ _ (by decide))
          refine Only.step ?_ (State.fresh_only ..)
          exact h11
        · refine Only.pair _ ?_
          refine Only.trans ?_ (State.setf_only _ _ _ _ (by decide))
          exact h11
      · refine Only.pair _ ?_
        refine Only.ite ?_ ?_
        · refine Only.step ?_ (State.armMembers_only ..)
          exact h11
        · exact h11

theorem execArmIdle_only (s : State) :
    Keeps (execArmIdle s) (Only 12587232 1036 s) := by
  unfold execArmIdle
  refine Keeps.next ?_
  refine Only.step ?_ (State.arm_only ..)
  exact Only.refl _ _ _

theorem execArmStep_only (s : State) :
    Keeps (execArmStep s) (Only 12587232 1036 s) := by
  unfold execArmStep
  refine Keeps.next ?_
  refine Only.step ?_ (State.arm_only ..)
  exact Only.refl _ _ _

/-! ### Line -/

theorem State.driveTx_only (s : State) (old : State) :
    Only 0 8 s (State.driveTx s old) := by
  unfold State.driveTx
  refine Only.foldl ?_ ?_
  · exact Only.refl _ _ _
  · intro u0 u1 h2
    refine Only.step ?_ (State.emit_only ..)
    exact h2

theorem State.writeGcsMap_only (s : State) (n : Nat) (v : Nat) :
    Only 11150372599265311570767859136324180752990208 0 s (State.writeGcsMap s n v).2 := by
  unfold State.writeGcsMap
  extract_lets +onlyGivenNames v0
  clear_value v0
  extract_lets +onlyGivenNames v1
  clear_value v1
  refine Only.iteSnd ?_ ?_
  · refine Only.pair _ ?_
    exact Only.refl _ _ _
  · refine Only.pair _ ?_
    refine Only.trans ?_ (State.setf_only _ _ _ _ (by decide))
    refine Only.trans ?_ (State.setf_only _ _ _ _ (by decide))
    exact Only.refl _ _ _

theorem State.setModule_only (s : State) (port : Nat) (write : Bool) (page : Nat) (offset : Nat) (data : Nat) :
    Only 44601490397061246283071436545296723011960832 0 s (State.setModule s port write page offset data) := by
  unfold State.setModule
  refine Only.trans ?_ (State.setf_only _ _ _ _ (by decide))
  refine Only.trans ?_ (State.setf_only _ _ _ _ (by decide))
  refine Only.trans ?_ (State.setf_only _ _ _ _ (by decide))
  refine Only.trans ?_ (State.setf_only _ _ _ _ (by decide))
  refine Only.trans ?_ (State.setf_only _ _ _ _ (by decide))
  exact Only.refl _ _ _

theorem State.moduleGo_only (s : State) (port : Nat) (write : Bool) (page : Nat) (offset : Nat) (data : Nat) :
    Only 44601490397061246283071436545296723011960832 21267647932558653966460912964485513224 s (State.moduleGo s port write page offset data).2 := by
  unfold State.moduleGo
  refine Only.iteSnd ?_ ?_
  · refine Only.pair _ ?_
    exact Only.refl _ _ _
  · refine Only.iteSnd ?_ ?_
    · refine Only.pair _ ?_
      refine Only.trans ?_ (State.setf_only _ _ _ _ (by decide))
      exact Only.refl _ _ _
    · extract_lets +onlyGivenNames v0
      clear_value v0
      extract_lets +onlyGivenNames v1
      unfold v1
      clear v1
      extract_lets +onlyGivenNames v2
      have h3 : Only 44601490397061246283071436545296723011960832 21267647932558653966460912964485513224 s v2 := by
        unfold v2
        refine Only.up_line ?_
        exact Only.refl _ _ _
      obtain ⟨w4, e5⟩ : ∃ x, x = v2 := ⟨_, rfl⟩
      rw [← e5] at h3 ⊢
      clear e5 v2
      refine Only.pair _ ?_
      refine Only.step ?_ (State.emit_only ..)
      refine Only.trans ?_ (State.setf_only _ _ _ _ (by decide))
      exact h3

theorem State.setPort_only (s : State) (p : Nat) (x : LinePort) :
    Only 0 10633823966279326983230456482242756608 s (State.setPort s p x) := by
  unfold State.setPort
  refine Only.up_line ?_
  exact Only.refl _ _ _

theorem State.remask_only (s : State) (p : Nat) :
    Only 0 10633823966279326983230456482242756608 s (State.remask s p) := by
  unfold State.remask
  refine Only.step ?_ (State.setPort_only ..)
  exact Only.refl _ _ _

theorem State.syncTim_only (s : State) (p : Nat) :
    Only 0 10633823966279326983230456482242756608 s (State.syncTim s p) := by
  unfold State.syncTim
  refine Only.step ?_ (State.remask_only ..)
  refine Only.step ?_ (State.setPort_only ..)
  exact Only.refl _ _ _

theorem State.syncPort_only (s : State) (p : Nat) :
    Only 2787593149816327892691964784081045188247552 0 s (State.syncPort s p) := by
  unfold State.syncPort
  refine Only.trans ?_ (State.putBit_only _ _ _ _ _ (by decide))
  exact Only.refl _ _ _

theorem State.gfpOut_only (s : State) (p : Nat) (parts : List Nat × List Nat) :
    Only 0 10633823966279326983230456482242756608 s (State.gfpOut s p parts).2 := by
  unfold State.gfpOut
  extract_lets +onlyGivenNames v0
  clear_value v0
  extract_lets +onlyGivenNames v1
  clear_value v1
  extract_lets +onlyGivenNames v2
  clear_value v2
  refine Only.pair _ ?_
  refine Only.step ?_ (State.setPort_only ..)
  exact Only.refl _ _ _

theorem execCsfSend_only (p : Nat) (s : State) :
    Keeps (execCsfSend p s) (Only 0 10633823966279326983230456482242756616 s) := by
  unfold execCsfSend
  extract_lets +onlyGivenNames v0
  clear_value v0
  refine Keeps.ite ?_ ?_
  · extract_lets +onlyGivenNames v1
    have h2 : Only 0 10633823966279326983230456482242756616 s v1.2 := by
      unfold v1
      refine Only.step ?_ (State.gfpOut_only ..)
      exact Only.refl _ _ _
    obtain ⟨w3, e4⟩ : ∃ x, x = v1 := ⟨_, rfl⟩
    rw [← e4] at h2 ⊢
    clear e4 v1
    refine Keeps.next ?_
    refine Only.step ?_ (State.emit_only ..)
    refine Only.step ?_ (State.setPort_only ..)
    exact h2
  · refine Keeps.next ?_
    exact Only.refl _ _ _

theorem State.setDefects_only (s : State) (p : Nat) (v : Nat) :
    Only 240856139557740768542406741977114462255637276920115429725735637830794189217988608 23906398852824828008403289627854856589657768064 s (State.setDefects s p v) := by
  unfold State.setDefects
  extract_lets +onlyGivenNames v0
  clear_value v0
  extract_lets +onlyGivenNames v1
  have h2 : Only 240856139557740768542406741977114462255637276920115429725735637830794189217988608 23906398852824828008403289627854856589657768064 s v1 := by
    unfold v1
    refine Only.step ?_ (State.syncPort_only ..)
    refine Only.trans ?_ (State.setf_only _ _ _ _ (by decide))
    exact Only.refl _ _ _
  obtain ⟨w3, e4⟩ : ∃ x, x = v1 := ⟨_, rfl⟩
  rw [← e4] at h2 ⊢
  clear e4 v1
  extract_lets +onlyGivenNames v5
  clear_value v5
  refine Only.ite ?_ ?_
  · extract_lets +onlyGivenNames v6
    have h7 : Only 240856139557740768542406741977114462255637276920115429725735637830794189217988608 23906398852824828008403289627854856589657768064 s v6 := by
      unfold v6
      refine Only.trans ?_ (State.event_only _ _ _ (by decide))
      exact h2
    obtain ⟨w8, e9⟩ : ∃ x, x = v6 := ⟨_, rfl⟩
    rw [← e9] at h7 ⊢
    clear e9 v6
    refine Only.ite ?_ ?_
    · refine Only.foldl ?_ ?_
      · exact h7
      · intro u10 u11 h12
        refine Only.ite ?_ ?_
        · refine Only.step ?_ (State.routeDown_only ..)
          exact h12
        · exact h12
    · exact h7
  · refine Only.ite ?_ ?_
    · refine Only.trans ?_ (State.event_only _ _ _ (by decide))
      exact h2
    · exact h2

theorem execDefectFastClear_only (p : Nat) (bit : Nat) (s : State) :
    Keeps (execDefectFastClear p bit s) (Only 240856139557740768542406741977114462255637276920115429725735637830794189217988608 23906398863458651974682616611085313071900524672 s) := by
  unfold execDefectFastClear
  extract_lets +onlyGivenNames v0
  clear_value v0
  extract_lets +onlyGivenNames v1
  clear_value v1
  refine Keeps.ite ?_ ?_
  · refine Keeps.next ?_
    refine Only.step ?_ (State.setDefects_only ..)
    refine Only.step ?_ (State.setPort_only ..)
    exact Only.refl _ _ _
  · refine Keeps.next ?_
    exact Only.refl _ _ _

theorem execDefectFastSet_only (p : Nat) (bit : Nat) (s : State) :
    Keeps (execDefectFastSet p bit s) (Only 240856139557740768542406741977114463682884969626075310784021607280289325600735232 23906398863458651974682616611085313071900524672 s) := by
  unfold execDefectFastSet
  extract_lets +onlyGivenNames v0
  clear_value v0
  extract_lets +onlyGivenNames v1
  clear_value v1
  refine Keeps.ite ?_ ?_
  · extract_lets +onlyGivenNames v2
    have h3 : Only 240856139557740768542406741977114463682884969626075310784021607280289325600735232 23906398863458651974682616611085313071900524672 s v2 := by
      unfold v2
      refine Only.trans ?_ (State.putBit_only _ _ _ _ _ (by decide))
      refine Only.step ?_ (State.setPort_only ..)
      exact Only.refl _ _ _
    obtain ⟨w4, e5⟩ : ∃ x, x = v2 := ⟨_, rfl⟩
    rw [← e5] at h3 ⊢
    clear e5 v2
    refine Keeps.next ?_
    refine Only.step ?_ (State.setDefects_only ..)
    exact h3
  · refine Keeps.next ?_
    exact Only.refl _ _ _

theorem execFailureReportClear_only (p : Nat) (bit : Nat) (s : State) :
    Keeps (execFailureReportClear p bit s) (Only 719199032652612596314526914292909658567868416 0 s) := by
  unfold execFailureReportClear
  extract_lets +onlyGivenNames v0
  clear_value v0
  refine Keeps.ite ?_ ?_
  · refine Keeps.next ?_
    refine Only.trans ?_ (State.event_only _ _ _ (by decide))
    refine Only.trans ?_ (State.putBit_only _ _ _ _ _ (by decide))
    exact Only.refl _ _ _
  · refine Keeps.next ?_
    exact Only.refl _ _ _

theorem execFailureReportSet_only (p : Nat) (bit : Nat) (s : State) :
    Keeps (execFailureReportSet p bit s) (Only 719199032652612596314526914292909658567868416 0 s) := by
  unfold execFailureReportSet
  extract_lets +onlyGivenNames v0
  clear_value v0
  refine Keeps.ite ?_ ?_
  · refine Keeps.next ?_
    refine Only.trans ?_ (State.event_only _ _ _ (by decide))
    refine Only.trans ?_ (State.putBit_only _ _ _ _ _ (by decide))
    exact Only.refl _ _ _
  · refine Keeps.next ?_
    exact Only.refl _ _ _

theorem State.applyGcsMap_only (s : State) (n : Nat) :
    Only 0 42535295865118819090196344215439409152 s (State.applyGcsMap s n) := by
  unfold State.applyGcsMap
  extract_lets +onlyGivenNames v0
  clear_value v0
  extract_lets +onlyGivenNames v1
  unfold v1
  clear v1
  extract_lets +onlyGivenNames v2
  have h3 : Only 0 42535295865118819090196344215439409152 s v2 := by
    unfold v2
    refine Only.up_line ?_
    exact Only.refl _ _ _
  obtain ⟨w4, e5⟩ : ∃ x, x = v2 := ⟨_, rfl⟩
  rw [← e5] at h3 ⊢
  clear e5 v2
  refine Only.ite ?_ ?_
  · exact h3
  · refine Only.step ?_ (State.startGcs_only ..)
    exact h3

theorem execGcsMapApply_only (n : Nat) (s : State) :
    Keeps (execGcsMapApply n s) (Only 0 42535295865118819090196344215439409152 s) := by
  unfold execGcsMapApply
  refine Keeps.next ?_
  refine Only.ite ?_ ?_
  · refine Only.step ?_ (State.applyGcsMap_only ..)
    exact Only.refl _ _ _
  · exact Only.refl _ _ _

theorem State.setGfp_only (s : State) (p : Nat) (g : GfpState) :
    Only 2787593149816327892691964784081045188247552 10633823966279326983230456482242756608 s (State.setGfp s p g) := by
  unfold State.setGfp
  refine Only.step ?_ (State.remask_only ..)
  refine Only.trans ?_ (State.putBit_only _ _ _ _ _ (by decide))
  refine Only.step ?_ (State.setPort_only ..)
  exact Only.refl _ _ _

theorem State.gfpHunt_only (s : State) (p : Nat) (ns : List Nat) :
    Only 2787593149816327892691964784081045188247552 10633823966279326983230456482242756608 s (State.gfpHunt s p ns) := by
  unfold State.gfpHunt
  refine Only.step ?_ (State.setGfp_only ..)
  exact Only.refl _ _ _

theorem State.gfpDiscard_only (s : State) (p : Nat) :
    Only 5846006549323611672814739330865132078623730171904 0 s (State.gfpDiscard s p) := by
  unfold State.gfpDiscard
  refine Only.trans ?_ (State.count_only _ _ _ _ (by decide))
  exact Only.refl _ _ _

theorem State.gfpFrame_only (s : State) (p : Nat) (pli : Nat) (area : List Nat) :
    Only 68351748112347991811410558101982370010870202659205332824372514376945894896852311089862307081004580 187098970480430939229625142984080019367287399356556 s (State.gfpFrame s p pli area) := by
  unfold State.gfpFrame
  extract_lets +onlyGivenNames v0
  clear_value v0
  refine Only.ite ?_ ?_
  · exact Only.refl _ _ _
  · refine Only.ite ?_ ?_
    · refine Only.step ?_ (State.setGfp_only ..)
      refine Only.step ?_ (State.gfpDiscard_only ..)
      exact Only.refl _ _ _
    · split
      · rename_i a1 a2
        refine Only.step ?_ (State.gfpDiscard_only ..)
        exact Only.refl _ _ _
      · rename_i a3 a4 a5 a6
        refine Only.ite ?_ ?_
        · refine Only.ite ?_ ?_
          · extract_lets +onlyGivenNames v7
            clear_value v7
            refine Only.step ?_ (State.remask_only ..)
            refine Only.step ?_ (State.setPort_only ..)
            exact Only.refl _ _ _
          · exact Only.refl _ _ _
        · extract_lets +onlyGivenNames v8
          clear_value v8
          extract_lets +onlyGivenNames v9
          clear_value v9
          extract_lets +onlyGivenNames v10
          clear_value v10
          refine Only.ite ?_ ?_
          · refine Only.step ?_ (State.gfpDiscard_only ..)
            exact Only.refl _ _ _
          · refine Only.ite ?_ ?_
            · refine Only.step ?_ (State.gfpDiscard_only ..)
              exact Only.refl _ _ _
            · refine Only.step ?_ (State.receiveBlock_only ..)
              refine Only.trans ?_ (State.count_only _ _ _ _ (by decide))
              exact Only.refl _ _ _

theorem State.gfpReceive_only (s : State) (p : Nat) (bs : List Byte) :
    Only 68351748112347991811410558101982370010870202659208255827647176182782302266517743655901618946090532 187098970480430939229625142984080019367287399356556 s (State.gfpReceive s p bs) := by
  unfold State.gfpReceive
  extract_lets +onlyGivenNames v0
  clear_value v0
  extract_lets +onlyGivenNames v1
  clear_value v1
  extract_lets +onlyGivenNames v2
  clear_value v2
  extract_lets +onlyGivenNames v3
  have h4 : Only 68351748112347991811410558101982370010870202659208255827647176182782302266517743655901618946090532 187098970480430939229625142984080019367287399356556 s v3 := by
    unfold v3
    refine Only.step ?_ (State.setPort_only ..)
    exact Only.refl _ _ _
  obtain ⟨w5, e6⟩ : ∃ x, x = v3 := ⟨_, rfl⟩
  rw [← e6] at h4 ⊢
  clear e6 v3
  extract_lets +onlyGivenNames v7
  clear_value v7
  split
  · rename_i a8 a9
    refine Only.step ?_ (State.gfpHunt_only ..)
    exact h4
  · rename_i a10 a11 a12
    split
    · rename_i a13 a14
      refine Only.step ?_ (State.setGfp_only ..)
      exact h4
    · rename_i a15 a16
      refine Only.step ?_ (State.gfpHunt_only ..)
      exact h4
  · rename_i a17 a18
    split
    · rename_i a19 a20 a21
      refine Only.step ?_ (State.gfpFrame_only ..)
      refine Only.ite ?_ ?_
      · refine Only.trans ?_ (State.count_only _ _ _ _ (by decide))
        exact h4
      · exact h4
    · rename_i a22
      refine Only.step ?_ (State.setGfp_only ..)
      refine Only.step ?_ (State.gfpDiscard_only ..)
      exact h4

theorem State.setGcsCipher_only (s : State) (n : Nat) (g : GcsCipher) :
    Only 0 1208925819614629174706176 s (State.setGcsCipher s n g) := by
  unfold State.setGcsCipher
  refine Only.up_ciph ?_
  exact Only.refl _ _ _

theorem State.noteUse_only (s : State) (k : Nat) (g : Nat) :
    Only 0 302231454903657293676544 s (State.noteUse s k g) := by
  unfold State.noteUse
  refine Only.step ?_ (State.updGen_only ..)
  exact Only.refl _ _ _

theorem State.gcsByteOut_only (s : State) (n : Nat) (b : Byte) :
    Only 0 1511157274518286468382724 s (State.gcsByteOut s n b).2 := by
  unfold State.gcsByteOut
  extract_lets +onlyGivenNames v0
  clear_value v0
  extract_lets +onlyGivenNames v1
  clear_value v1
  refine Only.iteSnd ?_ ?_
  · refine Only.pair _ ?_
    refine Only.step ?_ (State.setGcsCipher_only ..)
    exact Only.refl _ _ _
  · refine Only.iteSnd ?_ ?_
    · refine Only.pair _ ?_
      exact Only.refl _ _ _
    · refine Only.iteSnd ?_ ?_
      · refine Only.pair _ ?_
        refine Only.step ?_ (State.setGcsCipher_only ..)
        exact Only.refl _ _ _
      · split
        · rename_i a2 a3 a4
          extract_lets +onlyGivenNames v5
          clear_value v5
          refine Only.pair _ ?_
          refine Only.step ?_ (State.setGcsCipher_only ..)
          refine Only.step ?_ (State.noteUse_only ..)
          exact Only.refl _ _ _
        · rename_i a6 a7
          refine Only.pair _ ?_
          refine Only.step ?_ (State.fresh_only ..)
          exact Only.refl _ _ _

theorem State.gcsBytesOut_only (s : State) (n : Nat) (bs : List Byte) :
    Only 0 1511157274518286468382724 s (State.gcsBytesOut s n bs).2 := by
  unfold State.gcsBytesOut
  refine Only.foldlSnd ?_ ?_
  · refine Only.pair _ ?_
    exact Only.refl _ _ _
  · intro u0 u1 h2
    extract_lets +onlyGivenNames v3
    have h4 : Only 0 1511157274518286468382724 s v3.2 := by
      unfold v3
      refine Only.step ?_ (State.gcsByteOut_only ..)
      exact h2
    obtain ⟨w5, e6⟩ : ∃ x, x = v3 := ⟨_, rfl⟩
    rw [← e6] at h4 ⊢
    clear e6 v3
    refine Only.pair _ ?_
    exact h4

theorem State.gcsByteIn_only (s : State) (n : Nat) (b : Byte) :
    Only 0 1208925819614629174706180 s (State.gcsByteIn s n b).2 := by
  unfold State.gcsByteIn
  extract_lets +onlyGivenNames v0
  clear_value v0
  refine Only.iteSnd ?_ ?_
  · refine Only.pair _ ?_
    exact Only.refl _ _ _
  · split
    · rename_i a1 a2 a3
      extract_lets +onlyGivenNames v4
      clear_value v4
      refine Only.pair _ ?_
      refine Only.step ?_ (State.setGcsCipher_only ..)
      exact Only.refl _ _ _
    · rename_i a5 a6
      refine Only.pair _ ?_
      refine Only.step ?_ (State.fresh_only ..)
      exact Only.refl _ _ _

theorem State.gcsBytesIn_only (s : State) (n : Nat) (bs : List Byte) :
    Only 0 1208925819614629174706180 s (State.gcsBytesIn s n bs).2 := by
  unfold State.gcsBytesIn
  refine Only.foldlSnd ?_ ?_
  · refine Only.pair _ ?_
    exact Only.refl _ _ _
  · intro u0 u1 h2
    extract_lets +onlyGivenNames v3
    have h4 : Only 0 1208925819614629174706180 s v3.2 := by
      unfold v3
      refine Only.step ?_ (State.gcsByteIn_only ..)
      exact h2
    obtain ⟨w5, e6⟩ : ∃ x, x = v3 := ⟨_, rfl⟩
    rw [← e6] at h4 ⊢
    clear e6 v3
    refine Only.pair _ ?_
    exact h4

theorem State.serveGcs_only (s : State) (p : Nat) (fr : OtucFrame) :
    Only 0 1511157274518286468382732 s (State.serveGcs s p fr).2 := by
  unfold State.serveGcs
  refine Only.foldlSnd ?_ ?_
  · refine Only.pair _ ?_
    exact Only.refl _ _ _
  · intro u0 u1 h2
    extract_lets +onlyGivenNames v3
    have h4 : Only 0 1511157274518286468382732 s v3.2 := by
      unfold v3
      refine Only.step ?_ (State.gcsBytesOut_only ..)
      exact h2
    obtain ⟨w5, e6⟩ : ∃ x, x = v3 := ⟨_, rfl⟩
    rw [← e6] at h4 ⊢
    clear e6 v3
    extract_lets +onlyGivenNames v7
    have h8 : Only 0 1511157274518286468382732 s v7.2 := by
      unfold v7
      refine Only.step ?_ (State.gcsBytesIn_only ..)
      refine Only.step ?_ (State.emit_only ..)
      exact h4
    obtain ⟨w9, e10⟩ : ∃ x, x = v7 := ⟨_, rfl⟩
    rw [← e10] at h8 ⊢
    clear e10 v7
    refine Only.pair _ ?_
    exact h8

theorem State.takeOtuc_only (s : State) (p : Nat) (fr : OtucFrame) :
    Only 1438665674247607560106752257205091097473808596992 10633823966280838140504974768711139340 s (State.takeOtuc s p fr) := by
  unfold State.takeOtuc
  extract_lets +onlyGivenNames v0
  clear_value v0
  extract_lets +onlyGivenNames v1
  clear_value v1
  extract_lets +onlyGivenNames v2
  have h3 : Only 1438665674247607560106752257205091097473808596992 10633823966280838140504974768711139340 s v2 := by
    unfold v2
    refine Only.trans ?_ (State.count_only _ _ _ _ (by decide))
    refine Only.trans ?_ (State.count_only _ _ _ _ (by decide))
    refine Only.trans ?_ (State.count_only _ _ _ _ (by decide))
    exact Only.refl _ _ _
  obtain ⟨w4, e5⟩ : ∃ x, x = v2 := ⟨_, rfl⟩
  rw [← e5] at h3 ⊢
  clear e5 v2
  extract_lets +onlyGivenNames v6
  have h7 : Only 1438665674247607560106752257205091097473808596992 10633823966280838140504974768711139340 s v6 := by
    unfold v6
    refine Only.trans ?_ (State.count_only _ _ _ _ (by decide))
    refine Only.trans ?_ (State.count_only _ _ _ _ (by decide))
    refine Only.trans ?_ (State.count_only _ _ _ _ (by decide))
    exact h3
  obtain ⟨w8, e9⟩ : ∃ x, x = v6 := ⟨_, rfl⟩
  rw [← e9] at h7 ⊢
  clear e9 v6
  extract_lets +onlyGivenNames v10
  clear_value v10
  extract_lets +onlyGivenNames v11
  have h12 : Only 1438665674247607560106752257205091097473808596992 10633823966280838140504974768711139340 s v11.2 := by
    unfold v11
    refine Only.step ?_ (State.serveGcs_only ..)
    refine Only.step ?_ (State.setPort_only ..)
    exact h7
  obtain ⟨w13, e14⟩ : ∃ x, x = v11 := ⟨_, rfl⟩
  rw [← e14] at h12 ⊢
  clear e14 v11
  extract_lets +onlyGivenNames v15
  have h16 : Only 1438665674247607560106752257205091097473808596992 10633823966280838140504974768711139340 s v15 := by
    unfold v15
    refine Only.step ?_ (State.emit_only ..)
    exact h12
  obtain ⟨w17, e18⟩ : ∃ x, x = v15 := ⟨_, rfl⟩
  rw [← e18] at h16 ⊢
  clear e18 v15
  refine Only.ite ?_ ?_
  · refine Only.step ?_ (State.emit_only ..)
    exact h16
  · exact h16

theorem execGfpFrameReceive_only (p : Nat) (input : GfpInput) (s : State) :
    Keeps (execGfpFrameReceive p input s) (Only 68351748112347991811410558101982370010870202659209694493321423790342409018774948746999092754687524 187098970480430939229625144193005838981916574062732 s) := by
  unfold execGfpFrameReceive
  refine Keeps.next ?_
  refine Only.ite ?_ ?_
  · refine Only.step ?_ (State.gfpReceive_only ..)
    refine Only.foldl ?_ ?_
    · exact Only.refl _ _ _
    · intro u0 u1 h2
      refine Only.step ?_ (State.takeOtuc_only ..)
      exact h2
  · exact Only.refl _ _ _

theorem execLosFlagPoll_only (p : Nat) (flag : Bool) (s : State) :
    Keeps (execLosFlagPoll p flag s) (Only 0 10633823966279326983230456482242756608 s) := by
  unfold execLosFlagPoll
  extract_lets +onlyGivenNames v0
  clear_value v0
  refine Keeps.ite ?_ ?_
  · refine Keeps.next ?_
    refine Only.step ?_ (State.remask_only ..)
    refine Only.step ?_ (State.setPort_only ..)
    exact Only.refl _ _ _
  · refine Keeps.next ?_
    exact Only.refl _ _ _

theorem execModAlertFall_only (p : Nat) (los : Bool) (s : State) :
    Keeps (execModAlertFall p los s) (Only 8362779449448983678075894352243135564742656 10633823966279326983230456482242756608 s) := by
  unfold execModAlertFall
  refine Keeps.ite ?_ ?_
  · refine Keeps.next ?_
    exact Only.refl _ _ _
  · extract_lets +onlyGivenNames v0
    clear_value v0
    extract_lets +onlyGivenNames v1
    have h2 : Only 8362779449448983678075894352243135564742656 10633823966279326983230456482242756608 s v1 := by
      unfold v1
      refine Only.trans ?_ (State.event_only _ _ _ (by decide))
      refine Only.trans ?_ (State.putBit_only _ _ _ _ _ (by decide))
      exact Only.refl _ _ _
    obtain ⟨w3, e4⟩ : ∃ x, x = v1 := ⟨_, rfl⟩
    rw [← e4] at h2 ⊢
    clear e4 v1
    refine Keeps.next ?_
    refine Only.step ?_ (State.remask_only ..)
    refine Only.step ?_ (State.setPort_only ..)
    exact h2

theorem execModuleAccessDone_only (answered : Bool) (data : Nat) (s : State) :
    Keeps (execModuleAccessDone answered data s) (Only 44601490397061246283071436545296723011960832 21267647932558653966460912964485513216 s) := by
  unfold execModuleAccessDone
  split
  · rename_i a0 a1
    refine Keeps.next ?_
    exact Only.refl _ _ _
  · rename_i a2 a3 a4
    extract_lets +onlyGivenNames v5
    unfold v5
    clear v5
    extract_lets +onlyGivenNames v6
    have h7 : Only 44601490397061246283071436545296723011960832 21267647932558653966460912964485513216 s v6 := by
      unfold v6
      refine Only.trans ?_ (State.setf_only _ _ _ _ (by decide))
      refine Only.up_line ?_
      exact Only.refl _ _ _
    obtain ⟨w8, e9⟩ : ∃ x, x = v6 := ⟨_, rfl⟩
    rw [← e9] at h7 ⊢
    clear e9 v6
    extract_lets +onlyGivenNames v10
    have h11 : Only 44601490397061246283071436545296723011960832 21267647932558653966460912964485513216 s v10 := by
      unfold v10
      refine Only.trans ?_ (State.setf_only _ _ _ _ (by decide))
      exact h7
    obtain ⟨w12, e13⟩ : ∃ x, x = v10 := ⟨_, rfl⟩
    rw [← e13] at h11 ⊢
    clear e13 v10
    refine Keeps.next ?_
    refine Only.ite ?_ ?_
    · refine Only.trans ?_ (State.setf_only _ _ _ _ (by decide))
      exact h11
    · exact h11

theorem execModuleRead_only (port : Nat) (page : Nat) (offset : Nat) (s : State) :
    Keeps (execModuleRead port page offset s) (Only 44601490397061246283071436545296723011960832 21267647932558653966460912964485513224 s) := by
  unfold execModuleRead
  refine Keeps.next ?_
  refine Only.step ?_ (State.moduleGo_only ..)
  refine Only.step ?_ (State.setModule_only ..)
  exact Only.refl _ _ _

theorem execModuleWrite_only (port : Nat) (page : Nat) (offset : Nat) (data : Nat) (s : State) :
    Keeps (execModuleWrite port page offset data s) (Only 44601490397061246283071436545296723011960832 21267647932558653966460912964485513224 s) := by
  unfold execModuleWrite
  refine Keeps.next ?_
  refine Only.step ?_ (State.moduleGo_only ..)
  refine Only.step ?_ (State.setModule_only ..)
  exact Only.refl _ _ _

theorem execRawDefectChange_only (p : Nat) (bit : Nat) (on : Bool) (s : State) :
    Keeps (execRawDefectChange p bit on s) (Only 0 10633823966279326983230456482242756608 s) := by
  unfold execRawDefectChange
  extract_lets +onlyGivenNames v0
  clear_value v0
  refine Keeps.ite ?_ ?_
  · refine Keeps.next ?_
    exact Only.refl _ _ _
  · refine Keeps.ite ?_ ?_
    · split
      · rename_i a1 a2 a3
        refine Keeps.next ?_
        refine Only.ite ?_ ?_
        · refine Only.step ?_ (State.remask_only ..)
          refine Only.step ?_ (State.setPort_only ..)
          exact Only.refl _ _ _
        · exact Only.refl _ _ _
      · rename_i a4 a5
        refine Keeps.next ?_
        exact Only.refl _ _ _
    · extract_lets +onlyGivenNames v6
      clear_value v6
      refine Keeps.next ?_
      refine Only.step ?_ (State.remask_only ..)
      refine Only.step ?_ (State.setPort_only ..)
      exact Only.refl _ _ _

theorem execTtiRxAccept_only (p : Nat) (tti : List Byte) (s : State) :
    Keeps (execTtiRxAccept p tti s) (Only 11423556727947311704251671685164123181438468096 10633823966279326983230456482242756608 s) := by
  unfold execTtiRxAccept
  refine Keeps.ite ?_ ?_
  · extract_lets +onlyGivenNames v0
    clear_value v0
    extract_lets +onlyGivenNames v1
    clear_value v1
    extract_lets +onlyGivenNames v2
    have h3 : Only 11423556727947311704251671685164123181438468096 10633823966279326983230456482242756608 s v2 := by
      unfold v2
      refine Only.foldl ?_ ?_
      · exact Only.refl _ _ _
      · intro u4 u5 h6
        refine Only.trans ?_ (State.setf_only _ _ _ _ (by decide))
        exact h6
    obtain ⟨w7, e8⟩ : ∃ x, x = v2 := ⟨_, rfl⟩
    rw [← e8] at h3 ⊢
    clear e8 v2
    refine Keeps.next ?_
    refine Only.trans ?_ (State.eventIf_only _ _ _ _ (by decide))
    refine Only.step ?_ (State.syncTim_only ..)
    exact h3
  · refine Keeps.next ?_
    exact Only.refl _ _ _

/-! ### Sched -/

theorem State.dropStale_only (s : State) (r : Nat) :
    Only 7237005577332262213973186563042994240829374041602535252466099000494570602496 19342813113834066795298816 s (State.dropStale s r) := by
  unfold State.dropStale
  refine Only.foldl ?_ ?_
  · exact Only.refl _ _ _
  · intro u0 u1 h2
    extract_lets +onlyGivenNames v3
    clear_value v3
    extract_lets +onlyGivenNames v4
    clear_value v4
    refine Only.ite ?_ ?_
    · exact h2
    · refine Only.step ?_ (State.setQueue_only ..)
      exact h2

theorem State.noteSent_only (s : State) (r : Nat) (q : QBlock) :
    Only 166153499473114484112975882535043072 618970019642690137449562112 s (State.noteSent s r q) := by
  unfold State.noteSent
  extract_lets +onlyGivenNames v0
  clear_value v0
  extract_lets +onlyGivenNames v1
  have h2 : Only 166153499473114484112975882535043072 618970019642690137449562112 s v1 := by
    unfold v1
    split
    · rename_i a3 a4 a5
      refine Only.step ?_ (State.updSess_only ..)
      exact Only.refl _ _ _
    · rename_i a6 a7
      exact Only.refl _ _ _
  obtain ⟨w8, e9⟩ : ∃ x, x = v1 := ⟨_, rfl⟩
  rw [← e9] at h2 ⊢
  clear e9 v1
  refine Only.ite ?_ ?_
  · refine Only.trans ?_ (State.count_only _ _ _ _ (by decide))
    exact h2
  · exact h2

theorem State.noteSojourn_only (s : State) (r : Nat) (c : Nat) (joined : Nat) :
    Only 44326659161160106060585767698638339725079916004815528421354856378029244940288 0 s (State.noteSojourn s r c joined) := by
  unfold State.noteSojourn
  extract_lets +onlyGivenNames v0
  clear_value v0
  extract_lets +onlyGivenNames v1
  clear_value v1
  extract_lets +onlyGivenNames v2
  clear_value v2
  extract_lets +onlyGivenNames v3
  have h4 : Only 44326659161160106060585767698638339725079916004815528421354856378029244940288 0 s v3 := by
    unfold v3
    refine Only.trans ?_ (State.setf_only _ _ _ _ (by decide))
    exact Only.refl _ _ _
  obtain ⟨w5, e6⟩ : ∃ x, x = v3 := ⟨_, rfl⟩
  rw [← e6] at h4 ⊢
  clear e6 v3
  refine Only.ite ?_ ?_
  · refine Only.trans ?_ (State.event_only _ _ _ (by decide))
    refine Only.trans ?_ (State.count_only _ _ _ _ (by decide))
    exact h4
  · exact h4

theorem State.setPortBuffer_only (s : State) (p : Nat) (l : List (Nat × Nat × Nat)) :
    Only 0 309485009821345068724781056 s (State.setPortBuffer s p l) := by
  unfold State.setPortBuffer
  refine Only.up_sch ?_
  exact Only.refl _ _ _

theorem State.serveRoute_only (s : State) (r : Nat) :
    Only 51563664738492368274558954261681333965930744698484080646245782435519333924864 10633823967343182885082950873395495048 s (State.serveRoute s r) := by
  unfold State.serveRoute
  extract_lets +onlyGivenNames v0
  have h1 : Only 51563664738492368274558954261681333965930744698484080646245782435519333924864 10633823967343182885082950873395495048 s v0 := by
    unfold v0
    refine Only.step ?_ (State.dropStale_only ..)
    exact Only.refl _ _ _
  obtain ⟨w2, e3⟩ : ∃ x, x = v0 := ⟨_, rfl⟩
  rw [← e3] at h1 ⊢
  clear e3 v0
  split
  · rename_i a4 a5
    exact h1
  · rename_i a6 a7 a8 a9 a10
    extract_lets +onlyGivenNames v11
    have h12 : Only 51563664738492368274558954261681333965930744698484080646245782435519333924864 10633823967343182885082950873395495048 s v11 := by
      unfold v11
      refine Only.step ?_ (State.setQueue_only ..)
      exact h1
    obtain ⟨w13, e14⟩ : ∃ x, x = v11 := ⟨_, rfl⟩
    rw [← e14] at h12 ⊢
    clear e14 v11
    extract_lets +onlyGivenNames v15
    unfold v15
    clear v15
    extract_lets +onlyGivenNames v16
    have h17 : Only 51563664738492368274558954261681333965930744698484080646245782435519333924864 10633823967343182885082950873395495048 s v16 := by
      unfold v16
      refine Only.ite ?_ ?_
      · exact h12
      · refine Only.up_sch ?_
        exact h12
    obtain ⟨w18, e19⟩ : ∃ x, x = v16 := ⟨_, rfl⟩
    rw [← e19] at h17 ⊢
    clear e19 v16
    extract_lets +onlyGivenNames v20
    have h21 : Only 51563664738492368274558954261681333965930744698484080646245782435519333924864 10633823967343182885082950873395495048 s v20 := by
      unfold v20
      refine Only.step ?_ (State.noteSent_only ..)
      refine Only.ite ?_ ?_
      · refine Only.step ?_ (State.noteSojourn_only ..)
        exact h17
      · exact h17
    obtain ⟨w22, e23⟩ : ∃ x, x = v20 := ⟨_, rfl⟩
    rw [← e23] at h21 ⊢
    clear e23 v20
    extract_lets +onlyGivenNames v24
    have h25 : Only 51563664738492368274558954261681333965930744698484080646245782435519333924864 10633823967343182885082950873395495048 s v24.2 := by
      unfold v24
      refine Only.step ?_ (State.gfpOut_only ..)
      exact h21
    obtain ⟨w26, e27⟩ : ∃ x, x = v24 := ⟨_, rfl⟩
    rw [← e27] at h25 ⊢
    clear e27 v24
    refine Only.step ?_ (State.pumpTx_only ..)
    refine Only.step ?_ (State.emit_only ..)
    refine Only.step ?_ (State.setPortBuffer_only ..)
    exact h25

theorem State.portNext_only (s : State) (p : Nat) :
    Only 44326659161160106060585767698638339725079916004815528421354856378029244940288 309485009821345068724781056 s (State.portNext s p) := by
  unfold State.portNext
  extract_lets +onlyGivenNames v0
  clear_value v0
  extract_lets +onlyGivenNames v1
  have h2 : Only 44326659161160106060585767698638339725079916004815528421354856378029244940288 309485009821345068724781056 s v1 := by
    unfold v1
    refine Only.step ?_ (State.setPortBuffer_only ..)
    exact Only.refl _ _ _
  obtain ⟨w3, e4⟩ : ∃ x, x = v1 := ⟨_, rfl⟩
  rw [← e4] at h2 ⊢
  clear e4 v1
  split
  · rename_i a5 a6 a7
    refine Only.step ?_ (State.noteSojourn_only ..)
    exact h2
  · rename_i a8
    exact h2

theorem execPortServe_only (p : Nat) (s : State) :
    Keeps (execPortServe p s) (Only 51563664738492368274558954261681333965930744698484080646245782435519333924864 10633823967343182885082950873395495048 s) := by
  unfold execPortServe
  refine Keeps.next ?_
  refine Only.ite ?_ ?_
  · refine Only.step ?_ (State.serveRoute_only ..)
    refine Only.step ?_ (State.portNext_only ..)
    exact Only.refl _ _ _
  · exact Only.refl _ _ _

end Sys2Proof.Machine
end

