-- ==== Sys2Proof/Laws/OnlyUnits.lean ====
section
/-! SUPPORT. What each operation changes and what it leaves as it is: optical control, memory, time, events, links, loads, Twilight and self-test. One lemma per operation, stated with
the relation of Laws/Only.lean. -/

-- One theorem at a time: elaborated side by side, the theorems of the package take a thread each while they wait.
set_option Elab.async false

namespace Sys2Proof.Machine

/-! ### Optical -/

theorem State.calFull_only (s : State) (tiles : Nat) :
    Only 55169839471171998900900492977411130610274608398609678336 696898287454081973172991196020261297061888 s (State.calFull s tiles) := by
  unfold State.calFull
  extract_lets +onlyGivenNames v0
  clear_value v0
  refine Only.ite ?_ ?_
  · refine Only.trans ?_ (State.setf_only _ _ _ _ (by decide))
    exact Only.refl _ _ _
  · refine Only.foldl ?_ ?_
    · exact Only.refl _ _ _
    · intro u1 u2 h3
      extract_lets +onlyGivenNames v4
      unfold v4
      clear v4
      extract_lets +onlyGivenNames v5
      have h6 : Only 55169839471171998900900492977411130610274608398609678336 696898287454081973172991196020261297061888 s v5 := by
        unfold v5
        refine Only.up_opt ?_
        exact h3
      obtain ⟨w7, e8⟩ : ∃ x, x = v5 := ⟨_, rfl⟩
      rw [← e8] at h6 ⊢
      clear e8 v5
      refine Only.trans ?_ (State.putBit_only _ _ _ _ _ (by decide))
      exact h6

theorem State.syncTile_only (s : State) (t : Nat) :
    Only 6129993855476654080656733738079898464739113736194752512 0 s (State.syncTile s t) := by
  unfold State.syncTile
  extract_lets +onlyGivenNames v0
  clear_value v0
  refine Only.trans ?_ (State.putBit_only _ _ _ _ _ (by decide))
  refine Only.trans ?_ (State.putBit_only _ _ _ _ _ (by decide))
  exact Only.refl _ _ _

theorem State.tileToApr_only (s : State) (t : Nat) :
    Only 6129993855476654080656733738079898464739113736194752512 2787593149816327892691964784081045188247552 s (State.tileToApr s t) := by
  unfold State.tileToApr
  refine Only.step ?_ (State.syncTile_only ..)
  refine Only.foldl ?_ ?_
  · exact Only.refl _ _ _
  · intro u0 u1 h2
    extract_lets +onlyGivenNames v3
    clear_value v3
    refine Only.ite ?_ ?_
    · extract_lets +onlyGivenNames v4
      have h5 : Only 6129993855476654080656733738079898464739113736194752512 2787593149816327892691964784081045188247552 s v4 := by
        unfold v4
        refine Only.trans ?_ (State.putBit_only _ _ _ _ _ (by decide))
        exact h2
      obtain ⟨w6, e7⟩ : ∃ x, x = v4 := ⟨_, rfl⟩
      rw [← e7] at h5 ⊢
      clear e7 v4
      refine Only.up_opt ?_
      exact h5
    · exact h2

theorem State.setUsage_only (s : State) (k : Nat) (w : Nat) (u : Nat) :
    Only 200868021780144217387174440716158900469867183592410196213760 0 s (State.setUsage s k w u) := by
  unfold State.setUsage
  refine Only.trans ?_ (State.putBit_only _ _ _ _ _ (by decide))
  refine Only.trans ?_ (State.setf_only _ _ _ _ (by decide))
  exact Only.refl _ _ _

theorem State.claimWaiting_only (s : State) (k : Nat) :
    Only 200868021791836230485821664061788379131597447749657656557568 85070591730234615865843651857942052864 s (State.claimWaiting s k) := by
  unfold State.claimWaiting
  extract_lets +onlyGivenNames v0
  clear_value v0
  refine Only.foldl ?_ ?_
  · exact Only.refl _ _ _
  · intro u1 u2 h3
    split
    · rename_i a4 a5 a6
      refine Only.step ?_ (State.setUsage_only ..)
      refine Only.step ?_ (State.setCircuit_only ..)
      exact h3
    · rename_i a7 a8
      exact h3

theorem execAlternateHoldExpired_only (k : Nat) (w : Nat) (s : State) :
    Keeps (execAlternateHoldExpired k w s) (Only 200868021791836230485821664061788379131597447749657656557568 174309642455250727909113642656923266318336 s) := by
  unfold execAlternateHoldExpired
  extract_lets +onlyGivenNames v0
  clear_value v0
  refine Keeps.ite ?_ ?_
  · extract_lets +onlyGivenNames v1
    unfold v1
    clear v1
    extract_lets +onlyGivenNames v2
    have h3 : Only 200868021791836230485821664061788379131597447749657656557568 174309642455250727909113642656923266318336 s v2 := by
      unfold v2
      refine Only.up_opt ?_
      exact Only.refl _ _ _
    obtain ⟨w4, e5⟩ : ∃ x, x = v2 := ⟨_, rfl⟩
    rw [← e5] at h3 ⊢
    clear e5 v2
    refine Keeps.next ?_
    refine Only.step ?_ (State.claimWaiting_only ..)
    exact h3
  · refine Keeps.next ?_
    exact Only.refl _ _ _

theorem execAprBurst_only (k : Nat) (s : State) :
    Keeps (execAprBurst k s) (Only 0 2787593149816327892691964784081045188247560 s) := by
  unfold execAprBurst
  refine Keeps.ite ?_ ?_
  · split
    · rename_i a0 a1 a2
      refine Keeps.next ?_
      refine Only.step ?_ (State.emit_only ..)
      refine Only.up_opt ?_
      exact Only.refl _ _ _
    · rename_i a3 a4
      refine Keeps.next ?_
      exact Only.refl _ _ _
  · refine Keeps.next ?_
    exact Only.refl _ _ _

theorem State.syncAlternate_only (s : State) (k : Nat) :
    Only 0 261336857795280739939871698507597986398208 s (State.syncAlternate s k) := by
  unfold State.syncAlternate
  extract_lets +onlyGivenNames v0
  clear_value v0
  extract_lets +onlyGivenNames v1
  clear_value v1
  refine Only.ite ?_ ?_
  · exact Only.refl _ _ _
  · extract_lets +onlyGivenNames v2
    clear_value v2
    extract_lets +onlyGivenNames v3
    clear_value v3
    refine Only.up_opt ?_
    exact Only.refl _ _ _

theorem State.promote_only (s : State) (k fuel : Nat) :
    Only 201260340638605884934914177555109379620873580807689198370816 0 s (s.promote k fuel) := by
  induction fuel generalizing s with
  | zero => exact Only.refl _ _ _
  | succ fuel ih =>
    unfold State.promote
    refine Only.ite ?_ (Only.refl _ _ _)
    split
    · exact ((Only.refl _ _ _).step (State.setUsage_only ..)).step (ih _)
    · exact State.event_only _ _ _

theorem State.syncReserve_only (s : State) (k : Nat) :
    Only 201260340638605884934914177555109379620873580807689198370816 261336857795280739939871698507597986398208 s (State.syncReserve s k) := by
  unfold State.syncReserve
  refine Only.ite ?_ ?_
  · refine Only.step ?_ (State.syncAlternate_only ..)
    refine Only.step ?_ (State.promote_only ..)
    exact Only.refl _ _ _
  · exact Only.refl _ _ _

theorem execAprClear_only (k : Nat) (s : State) :
    Keeps (execAprClear k s) (Only 201266470632461361588994834288847459519338319921425393123328 268908140459271620751931783522954829103104 s) := by
  unfold execAprClear
  refine Keeps.ite ?_ ?_
  · extract_lets +onlyGivenNames v0
    have h1 : Only 201266470632461361588994834288847459519338319921425393123328 268908140459271620751931783522954829103104 s v0 := by
      unfold v0
      refine Only.step ?_ (State.syncTile_only ..)
      refine Only.trans ?_ (State.event_only _ _ _ (by decide))
      refine Only.trans ?_ (State.putBit_only _ _ _ _ _ (by decide))
      exact Only.refl _ _ _
    obtain ⟨w2, e3⟩ : ∃ x, x = v0 := ⟨_, rfl⟩
    rw [← e3] at h1 ⊢
    clear e3 v0
    extract_lets +onlyGivenNames v4
    clear_value v4
    extract_lets +onlyGivenNames v5
    have h6 : Only 201266470632461361588994834288847459519338319921425393123328 268908140459271620751931783522954829103104 s v5 := by
      unfold v5
      refine Only.foldl ?_ ?_
      · exact h1
      · intro u7 u8 h9
        refine Only.step ?_ (State.setWave_only ..)
        exact h9
    obtain ⟨w10, e11⟩ : ∃ x, x = v5 := ⟨_, rfl⟩
    rw [← e11] at h6 ⊢
    clear e11 v5
    refine Keeps.next ?_
    refine Only.step ?_ (State.claimWaiting_only ..)
    refine Only.step ?_ (State.syncReserve_only ..)
    exact h6
  · refine Keeps.next ?_
    exact Only.refl _ _ _

theorem State.freeSlot_only (s : State) (k : Nat) (w : Nat) :
    Only 201260340650297898033561400900738858282603844964936658714624 268908140459271620751931783522954829103104 s (State.freeSlot s k w) := by
  unfold State.freeSlot
  refine Only.step ?_ (State.claimWaiting_only ..)
  refine Only.step ?_ (State.syncReserve_only ..)
  refine Only.step ?_ (State.setWave_only ..)
  refine Only.step ?_ (State.setUsage_only ..)
  exact Only.refl _ _ _

theorem State.freeCircuit_only (s : State) (ix : Nat) :
    Only 201260340650297898033561400900738858282603844964936658714624 617357284186312607338427381533085477634048 s (State.freeCircuit s ix) := by
  unfold State.freeCircuit
  split
  · rename_i a0 a1
    exact Only.refl _ _ _
  · rename_i a2 a3 a4
    extract_lets +onlyGivenNames v5
    have h6 : Only 201260340650297898033561400900738858282603844964936658714624 617357284186312607338427381533085477634048 s v5 := by
      unfold v5
      refine Only.step ?_ (State.setCircuit_only ..)
      exact Only.refl _ _ _
    obtain ⟨w7, e8⟩ : ∃ x, x = v5 := ⟨_, rfl⟩
    rw [← e8] at h6 ⊢
    clear e8 v5
    extract_lets +onlyGivenNames v9
    unfold v9
    clear v9
    extract_lets +onlyGivenNames v10
    have h11 : Only 201260340650297898033561400900738858282603844964936658714624 617357284186312607338427381533085477634048 s v10 := by
      unfold v10
      refine Only.up_opt ?_
      exact h6
    obtain ⟨w12, e13⟩ : ∃ x, x = v10 := ⟨_, rfl⟩
    rw [← e13] at h11 ⊢
    clear e13 v10
    refine Only.ite ?_ ?_
    · split
      · rename_i a14 a15 a16
        refine Only.step ?_ (State.freeSlot_only ..)
        exact h11
      · rename_i a17 a18
        exact h11
    · refine Only.ite ?_ ?_
      · exact h11
      · refine Only.step ?_ (State.freeSlot_only ..)
        exact h11

theorem State.dropCircuit_only (s : State) (st : Status) (ix : Nat) :
    Only 68351748112347229395527596073404575714621502523379066584679652615948607487588986497822991704826912 187072210195712858365421373299635196608207014566024 s (State.dropCircuit s st ix) := by
  unfold State.dropCircuit
  extract_lets +onlyGivenNames v0
  clear_value v0
  extract_lets +onlyGivenNames v1
  have h2 : Only 68351748112347229395527596073404575714621502523379066584679652615948607487588986497822991704826912 187072210195712858365421373299635196608207014566024 s v1 := by
    unfold v1
    refine Only.foldl ?_ ?_
    · exact Only.refl _ _ _
    · intro u3 u4 h5
      refine Only.ite ?_ ?_
      · refine Only.step ?_ (State.failLink_only ..)
        exact h5
      · refine Only.step ?_ (State.endItem_only ..)
        exact h5
  obtain ⟨w6, e7⟩ : ∃ x, x = v1 := ⟨_, rfl⟩
  rw [← e7] at h2 ⊢
  clear e7 v1
  refine Only.step ?_ (State.freeCircuit_only ..)
  exact h2

theorem State.darkPair_only (s : State) (st : Status) (k : Nat) :
    Only 68351748112347229395527596073404575714621502523379066584679652615948607487588986497822991704826912 187072210195712858365421373299635196608207014566024 s (State.darkPair s st k) := by
  unfold State.darkPair
  extract_lets +onlyGivenNames v0
  clear_value v0
  extract_lets +onlyGivenNames v1
  have h2 : Only 68351748112347229395527596073404575714621502523379066584679652615948607487588986497822991704826912 187072210195712858365421373299635196608207014566024 s v1 := by
    unfold v1
    refine Only.foldl ?_ ?_
    · exact Only.refl _ _ _
    · intro u3 u4 h5
      refine Only.step ?_ (State.dropCircuit_only ..)
      exact h5
  obtain ⟨w6, e7⟩ : ∃ x, x = v1 := ⟨_, rfl⟩
  rw [← e7] at h2 ⊢
  clear e7 v1
  refine Only.foldl ?_ ?_
  · exact h2
  · intro u8 u9 h10
    refine Only.step ?_ (State.setWave_only ..)
    exact h10

theorem execAprTrip_only (k : Nat) (s : State) :
    Keeps (execAprTrip k s) (Only 68351748112347229395527596073404575714646617060302776771290429207029546754490130394557336577287200 187072212983306008181749265991599980689252202813576 s) := by
  unfold execAprTrip
  refine Keeps.ite ?_ ?_
  · extract_lets +onlyGivenNames v0
    have h1 : Only 68351748112347229395527596073404575714646617060302776771290429207029546754490130394557336577287200 187072212983306008181749265991599980689252202813576 s v0 := by
      unfold v0
      refine Only.step ?_ (State.darkPair_only ..)
      refine Only.trans ?_ (State.count_only _ _ _ _ (by decide))
      refine Only.trans ?_ (State.event_only _ _ _ (by decide))
      refine Only.trans ?_ (State.putBit_only _ _ _ _ _ (by decide))
      exact Only.refl _ _ _
    obtain ⟨w2, e3⟩ : ∃ x, x = v0 := ⟨_, rfl⟩
    rw [← e3] at h1 ⊢
    clear e3 v0
    refine Keeps.next ?_
    refine Only.step ?_ (State.syncTile_only ..)
    refine Only.up_opt ?_
    exact h1
  · refine Keeps.next ?_
    exact Only.refl _ _ _

theorem execCircuitConfirm_only (id : Nat) (s : State) :
    Keeps (execCircuitConfirm id s) (Only 68351748112347229395527596073404575714420242182728768686646091215047868629306382652858055046112288 187072209578355574179108765961207815075121536931976 s) := by
  unfold execCircuitConfirm
  split
  · rename_i a0 a1
    refine Keeps.next ?_
    exact Only.refl _ _ _
  · rename_i a2 a3 a4
    refine Keeps.ite ?_ ?_
    · refine Keeps.next ?_
      exact Only.refl _ _ _
    · split
      · rename_i a5 a6
        refine Keeps.next ?_
        refine Only.step ?_ (State.failLink_only ..)
        exact Only.refl _ _ _
      · rename_i a7 a8 a9
        refine Keeps.next ?_
        refine Only.ite ?_ ?_
        · refine Only.step ?_ (State.commitItem_only ..)
          exact Only.refl _ _ _
        · refine Only.ite ?_ ?_
          · exact Only.refl _ _ _
          · refine Only.step ?_ (State.failLink_only ..)
            exact Only.refl _ _ _

theorem execCircuitMoveDone_only (ix : Nat) (w : Nat) (s : State) :
    Keeps (execCircuitMoveDone ix w s) (Only 207537443133973417110819484444233159049443106473238155231232 617357284186312607338427381533085477634176 s) := by
  unfold execCircuitMoveDone
  split
  · rename_i a0 a1
    refine Keeps.next ?_
    exact Only.refl _ _ _
  · rename_i a2 a3 a4
    split
    · rename_i a5 a6
      refine Keeps.next ?_
      exact Only.refl _ _ _
    · rename_i a7 a8 a9
      refine Keeps.ite ?_ ?_
      · refine Keeps.next ?_
        exact Only.refl _ _ _
      · extract_lets +onlyGivenNames v10
        clear_value v10
        extract_lets +onlyGivenNames v11
        unfold v11
        clear v11
        extract_lets +onlyGivenNames v12
        have h13 : Only 207537443133973417110819484444233159049443106473238155231232 617357284186312607338427381533085477634176 s v12 := by
          unfold v12
          refine Only.up_opt ?_
          exact Only.refl _ _ _
        obtain ⟨w14, e15⟩ : ∃ x, x = v12 := ⟨_, rfl⟩
        rw [← e15] at h13 ⊢
        clear e15 v12
        extract_lets +onlyGivenNames v16
        have h17 : Only 207537443133973417110819484444233159049443106473238155231232 617357284186312607338427381533085477634176 s v16 := by
          unfold v16
          refine Only.step ?_ (State.setCircuit_only ..)
          exact h13
        obtain ⟨w18, e19⟩ : ∃ x, x = v16 := ⟨_, rfl⟩
        rw [← e19] at h17 ⊢
        clear e19 v16
        extract_lets +onlyGivenNames v20
        have h21 : Only 207537443133973417110819484444233159049443106473238155231232 617357284186312607338427381533085477634176 s v20 := by
          unfold v20
          refine Only.step ?_ (State.degradeWhere_only ..)
          refine Only.step ?_ (State.setWave_only ..)
          refine Only.step ?_ (State.setUsage_only ..)
          exact h17
        obtain ⟨w22, e23⟩ : ∃ x, x = v20 := ⟨_, rfl⟩
        rw [← e23] at h21 ⊢
        clear e23 v20
        refine Keeps.next ?_
        refine Only.trans ?_ (State.event_only _ _ _ (by decide))
        refine Only.trans ?_ (State.event_only _ _ _ (by decide))
        refine Only.trans ?_ (State.count_only _ _ _ _ (by decide))
        refine Only.step ?_ (State.freeSlot_only ..)
        exact h21

theorem State.startMove_only (s : State) (ix : Nat) (txWorks : Bool) :
    Only 68351748112347229395527596073404575714634056726849839946207324194795022820421191208711919773852704 187072210195712858365421373299635196608207014566024 s (State.startMove s ix txWorks) := by
  unfold State.startMove
  split
  · rename_i a0 a1
    exact Only.refl _ _ _
  · rename_i a2 a3 a4
    refine Only.ite ?_ ?_
    · exact Only.refl _ _ _
    · split
      · rename_i a5 a6
        refine Only.trans ?_ (State.event_only _ _ _ (by decide))
        refine Only.trans ?_ (State.count_only _ _ _ _ (by decide))
        refine Only.step ?_ (State.dropCircuit_only ..)
        exact Only.refl _ _ _
      · rename_i a7 a8 a9
        extract_lets +onlyGivenNames v10
        have h11 : Only 68351748112347229395527596073404575714634056726849839946207324194795022820421191208711919773852704 187072210195712858365421373299635196608207014566024 s v10 := by
          unfold v10
          refine Only.step ?_ (State.setCircuit_only ..)
          exact Only.refl _ _ _
        obtain ⟨w12, e13⟩ : ∃ x, x = v10 := ⟨_, rfl⟩
        rw [← e13] at h11 ⊢
        clear e13 v10
        extract_lets +onlyGivenNames v14
        unfold v14
        clear v14
        extract_lets +onlyGivenNames v15
        have h16 : Only 68351748112347229395527596073404575714634056726849839946207324194795022820421191208711919773852704 187072210195712858365421373299635196608207014566024 s v15 := by
          unfold v15
          refine Only.up_opt ?_
          exact h11
        obtain ⟨w17, e18⟩ : ∃ x, x = v15 := ⟨_, rfl⟩
        rw [← e18] at h16 ⊢
        clear e18 v15
        extract_lets +onlyGivenNames v19
        have h20 : Only 68351748112347229395527596073404575714634056726849839946207324194795022820421191208711919773852704 187072210195712858365421373299635196608207014566024 s v19 := by
          unfold v19
          refine Only.step ?_ (State.setWave_only ..)
          exact h16
        obtain ⟨w21, e22⟩ : ∃ x, x = v19 := ⟨_, rfl⟩
        rw [← e22] at h20 ⊢
        clear e22 v19
        refine Only.ite ?_ ?_
        · refine Only.step ?_ (State.emit_only ..)
          exact h20
        · exact h20

theorem execCircuitNoLight_only (ix : Nat) (s : State) :
    Keeps (execCircuitNoLight ix s) (Only 68351748112347229395527596073404575714634056726849839946207324194795022820421191208711919773852704 187072210195712858365421373299635196608207014566024 s) := by
  unfold execCircuitNoLight
  split
  · rename_i a0 a1 a2
    refine Keeps.next ?_
    refine Only.ite ?_ ?_
    · refine Only.step ?_ (State.startMove_only ..)
      exact Only.refl _ _ _
    · exact Only.refl _ _ _
  · rename_i a3 a4
    refine Keeps.next ?_
    exact Only.refl _ _ _

theorem execCircuitRelease_only (id : Nat) (s : State) :
    Keeps (execCircuitRelease id s) (Only 68351748112347229395527596073404575714420242181992171861431316144273211473617376010951465044452384 187072209578440644770839000577073658726979478984840 s) := by
  unfold execCircuitRelease
  split
  · rename_i a0 a1
    refine Keeps.next ?_
    exact Only.refl _ _ _
  · rename_i a2 a3 a4
    refine Keeps.ite ?_ ?_
    · refine Keeps.next ?_
      exact Only.refl _ _ _
    · extract_lets +onlyGivenNames v5
      clear_value v5
      split
      · rename_i a6 a7
        refine Keeps.next ?_
        refine Only.step ?_ (State.commitItem_only ..)
        exact Only.refl _ _ _
      · rename_i a8 a9 a10
        refine Keeps.ite ?_ ?_
        · refine Keeps.next ?_
          refine Only.step ?_ (State.commitItem_only ..)
          exact Only.refl _ _ _
        · refine Keeps.ite ?_ ?_
          · refine Keeps.next ?_
            refine Only.step ?_ (State.setCircuit_only ..)
            exact Only.refl _ _ _
          · refine Keeps.next ?_
            exact Only.refl _ _ _

theorem execCircuitReleased_only (ix : Nat) (s : State) :
    Keeps (execCircuitReleased ix s) (Only 68351748112347229395527596073404575714621502522630777746366230321828320853238249591759154242823200 187072210195712858365421373299635196608207014566024 s) := by
  unfold execCircuitReleased
  split
  · rename_i a0 a1
    refine Keeps.next ?_
    exact Only.refl _ _ _
  · rename_i a2 a3 a4
    extract_lets +onlyGivenNames v5
    clear_value v5
    extract_lets +onlyGivenNames v6
    clear_value v6
    refine Keeps.ite ?_ ?_
    · refine Keeps.next ?_
      refine Only.step ?_ (State.freeCircuit_only ..)
      refine Only.foldl ?_ ?_
      · exact Only.refl _ _ _
      · intro u7 u8 h9
        refine Only.step ?_ (State.commitItem_only ..)
        exact h9
    · refine Keeps.next ?_
      exact Only.refl _ _ _

theorem execCircuitSetup_only (id : Nat) (s : State) :
    Keeps (execCircuitSetup id s) (Only 68351748112347229395527596073404575714621110204520604917131912879109657008437980100607712702669856 187072209578440644770839000577073658726979478984840 s) := by
  unfold execCircuitSetup
  split
  · rename_i a0 a1
    refine Keeps.next ?_
    exact Only.refl _ _ _
  · rename_i a2 a3 a4
    refine Keeps.ite ?_ ?_
    · refine Keeps.next ?_
      exact Only.refl _ _ _
    · extract_lets +onlyGivenNames v5
      clear_value v5
      split
      · rename_i a6 a7
        refine Keeps.next ?_
        refine Only.step ?_ (State.failLink_only ..)
        exact Only.refl _ _ _
      · rename_i a8 a9 a10
        refine Keeps.ite ?_ ?_
        · refine Keeps.next ?_
          refine Only.step ?_ (State.commitItem_only ..)
          exact Only.refl _ _ _
        · refine Keeps.ite ?_ ?_
          · refine Keeps.next ?_
            refine Only.step ?_ (State.claimWaiting_only ..)
            refine Only.step ?_ (State.setCircuit_only ..)
            exact Only.refl _ _ _
          · refine Keeps.next ?_
            exact Only.refl _ _ _

theorem execCircuitSetupTimeout_only (ix : Nat) (s : State) :
    Keeps (execCircuitSetupTimeout ix s) (Only 68351748112347229395527596073404575714621502523379066584679652615948607487588986497822991704826912 187072210195712858365421373299635196608207014566024 s) := by
  unfold execCircuitSetupTimeout
  split
  · rename_i a0 a1
    refine Keeps.next ?_
    exact Only.refl _ _ _
  · rename_i a2 a3 a4
    refine Keeps.ite ?_ ?_
    · refine Keeps.next ?_
      refine Only.step ?_ (State.freeCircuit_only ..)
      refine Only.foldl ?_ ?_
      · exact Only.refl _ _ _
      · intro u5 u6 h7
        refine Only.step ?_ (State.failLink_only ..)
        exact h7
    · refine Keeps.next ?_
      exact Only.refl _ _ _

theorem execCircuitTrained_only (ix : Nat) (s : State) :
    Keeps (execCircuitTrained ix s) (Only 68351748112347229395527596073404575714420242948239942294375745323446725048771967820321026136253472 187072209585926856843099646773267900090478379636872 s) := by
  unfold execCircuitTrained
  split
  · rename_i a0 a1
    refine Keeps.next ?_
    exact Only.refl _ _ _
  · rename_i a2 a3 a4
    split
    · rename_i a5 a6
      refine Keeps.next ?_
      exact Only.refl _ _ _
    · rename_i a7 a8 a9
      refine Keeps.ite ?_ ?_
      · refine Keeps.next ?_
        exact Only.refl _ _ _
      · extract_lets +onlyGivenNames v10
        have h11 : Only 68351748112347229395527596073404575714420242948239942294375745323446725048771967820321026136253472 187072209585926856843099646773267900090478379636872 s v10 := by
          unfold v10
          refine Only.step ?_ (State.setWave_only ..)
          refine Only.step ?_ (State.setCircuit_only ..)
          exact Only.refl _ _ _
        obtain ⟨w12, e13⟩ : ∃ x, x = v10 := ⟨_, rfl⟩
        rw [← e13] at h11 ⊢
        clear e13 v10
        refine Keeps.next ?_
        refine Only.foldl ?_ ?_
        · exact h11
        · intro u14 u15 h16
          refine Only.step ?_ (State.commitItem_only ..)
          exact h16

theorem State.darkTile_only (s : State) (t : Nat) (st : Status) :
    Only 68351748112347229395527596073404575714621508653361230048235086049336716088825720972779480439235616 187072210195712858365421373299635196608207014566024 s (State.darkTile s t st) := by
  unfold State.darkTile
  refine Only.step ?_ (State.syncTile_only ..)
  refine Only.foldl ?_ ?_
  · exact Only.refl _ _ _
  · intro u0 u1 h2
    refine Only.ite ?_ ?_
    · refine Only.step ?_ (State.darkPair_only ..)
      exact h2
    · exact h2

theorem execLaserEnChange_only (t : Nat) (high : Bool) (s : State) :
    Keeps (execLaserEnChange t high s) (Only 9394170331163684659670269616552875705576134771347900991482525116177071186507770489943621714511854292566975520 187072212983306008181749265991599980689252202813576 s) := by
  unfold execLaserEnChange
  refine Keeps.ite ?_ ?_
  · refine Keeps.next ?_
    exact Only.refl _ _ _
  · extract_lets +onlyGivenNames v0
    have h1 : Only 9394170331163684659670269616552875705576134771347900991482525116177071186507770489943621714511854292566975520 187072212983306008181749265991599980689252202813576 s v0 := by
      unfold v0
      refine Only.trans ?_ (State.putBit_only _ _ _ _ _ (by decide))
      exact Only.refl _ _ _
    obtain ⟨w2, e3⟩ : ∃ x, x = v0 := ⟨_, rfl⟩
    rw [← e3] at h1 ⊢
    clear e3 v0
    refine Keeps.next ?_
    refine Only.ite ?_ ?_
    · refine Only.step ?_ (State.darkTile_only ..)
      exact h1
    · refine Only.step ?_ (State.tileToApr_only ..)
      exact h1

theorem State.promotePacket_only (s : State) (t : Nat) :
    Only 201260340650297898033561400900738858282603844964936658714624 268823069867541386136065939871096887050240 s (State.promotePacket s t) := by
  unfold State.promotePacket
  refine Only.ite ?_ ?_
  · exact Only.refl _ _ _
  · split
    · rename_i a0 a1
      exact Only.refl _ _ _
    · rename_i a2 a3 a4 a5
      refine Only.step ?_ (State.syncReserve_only ..)
      refine Only.step ?_ (State.setWave_only ..)
      refine Only.trans ?_ (State.putBit_only _ _ _ _ _ (by decide))
      refine Only.step ?_ (State.setUsage_only ..)
      exact Only.refl _ _ _

theorem State.slotFault_only (s : State) (k : Nat) (w : Nat) :
    Only 68351748112347229395527596073404575714634056726849839946207324194795022820421191208711919773852704 187072210195712858365421373299635196608207014566024 s (State.slotFault s k w) := by
  unfold State.slotFault
  extract_lets +onlyGivenNames v0
  clear_value v0
  refine Only.ite ?_ ?_
  · refine Only.step ?_ (State.promotePacket_only ..)
    refine Only.step ?_ (State.setWave_only ..)
    exact Only.refl _ _ _
  · refine Only.ite ?_ ?_
    · extract_lets +onlyGivenNames v1
      have h2 : Only 68351748112347229395527596073404575714634056726849839946207324194795022820421191208711919773852704 187072210195712858365421373299635196608207014566024 s v1 := by
        unfold v1
        refine Only.step ?_ (State.syncReserve_only ..)
        refine Only.step ?_ (State.setUsage_only ..)
        exact Only.refl _ _ _
      obtain ⟨w3, e4⟩ : ∃ x, x = v1 := ⟨_, rfl⟩
      rw [← e4] at h2 ⊢
      clear e4 v1
      refine Only.foldl ?_ ?_
      · exact h2
      · intro u5 u6 h7
        refine Only.step ?_ (State.startMove_only ..)
        exact h7
    · refine Only.ite ?_ ?_
      · extract_lets +onlyGivenNames v8
        clear_value v8
        extract_lets +onlyGivenNames v9
        have h10 : Only 68351748112347229395527596073404575714634056726849839946207324194795022820421191208711919773852704 187072210195712858365421373299635196608207014566024 s v9 := by
          unfold v9
          refine Only.foldl ?_ ?_
          · exact Only.refl _ _ _
          · intro u11 u12 h13
            refine Only.step ?_ (State.setCircuit_only ..)
            exact h13
        obtain ⟨w14, e15⟩ : ∃ x, x = v9 := ⟨_, rfl⟩
        rw [← e15] at h10 ⊢
        clear e15 v9
        refine Only.ite ?_ ?_
        · exact h10
        · refine Only.step ?_ (State.claimWaiting_only ..)
          refine Only.step ?_ (State.setUsage_only ..)
          exact h10
      · exact Only.refl _ _ _

theorem State.slotFaults_only (s : State) (fs : List (Nat × Bool)) :
    Only 68351748112347229395527596073404575714634056726849839946207324194795022820421191208711919773852704 187072210195712858365421373299635196608207014566024 s (State.slotFaults s fs) := by
  unfold State.slotFaults
  extract_lets +onlyGivenNames v0
  have h1 : Only 68351748112347229395527596073404575714634056726849839946207324194795022820421191208711919773852704 187072210195712858365421373299635196608207014566024 s v0 := by
    unfold v0
    refine Only.foldl ?_ ?_
    · exact Only.refl _ _ _
    · intro u2 u3 h4
      refine Only.step ?_ (State.slotFault_only ..)
      exact h4
  obtain ⟨w5, e6⟩ : ∃ x, x = v0 := ⟨_, rfl⟩
  rw [← e6] at h1 ⊢
  clear e6 v0
  extract_lets +onlyGivenNames v7
  clear_value v7
  refine Only.foldl ?_ ?_
  · exact h1
  · intro u8 u9 h10
    refine Only.step ?_ (State.startMove_only ..)
    exact h10

theorem State.syncFailedSlots_only (s : State) (t : Nat) :
    Only 50216813883093446110686315385661331328818843555712276103168 0 s (State.syncFailedSlots s t) := by
  unfold State.syncFailedSlots
  extract_lets +onlyGivenNames v0
  clear_value v0
  refine Only.trans ?_ (State.setf_only _ _ _ _ (by decide))
  exact Only.refl _ _ _

theorem State.failSlot_only (s : State) (k : Nat) (w : Nat) (txWorks : Bool) :
    Only 68351748112347229395527596073404575714684273540732933392318010510180684151750010052267632049955872 187072210217490929848361434961291171483840180099208 s (State.failSlot s k w txWorks) := by
  unfold State.failSlot
  extract_lets +onlyGivenNames v0
  clear_value v0
  extract_lets +onlyGivenNames v1
  clear_value v1
  extract_lets +onlyGivenNames v2
  have h3 : Only 68351748112347229395527596073404575714684273540732933392318010510180684151750010052267632049955872 187072210217490929848361434961291171483840180099208 s v2 := by
    unfold v2
    refine Only.step ?_ (State.slotFaults_only ..)
    refine Only.trans ?_ (State.putBit_only _ _ _ _ _ (by decide))
    exact Only.refl _ _ _
  obtain ⟨w4, e5⟩ : ∃ x, x = v2 := ⟨_, rfl⟩
  rw [← e5] at h3 ⊢
  clear e5 v2
  extract_lets +onlyGivenNames v6
  clear_value v6
  extract_lets +onlyGivenNames v7
  unfold v7
  clear v7
  extract_lets +onlyGivenNames v8
  have h9 : Only 68351748112347229395527596073404575714684273540732933392318010510180684151750010052267632049955872 187072210217490929848361434961291171483840180099208 s v8 := by
    unfold v8
    refine Only.ite ?_ ?_
    · refine Only.up_opt ?_
      exact h3
    · refine Only.trans ?_ (State.event_only _ _ _ (by decide))
      exact h3
  obtain ⟨w10, e11⟩ : ∃ x, x = v8 := ⟨_, rfl⟩
  rw [← e11] at h9 ⊢
  clear e11 v8
  refine Only.step ?_ (State.syncFailedSlots_only ..)
  exact h9

theorem execLaserFailed_only (t : Nat) (n : Nat) (s : State) :
    Keeps (execLaserFailed t n s) (Only 68351748112347229395527596073404575714685058178449856727413489983858585110052022846698190054269984 187072210228379965589831465792119158921656762865800 s) := by
  unfold execLaserFailed
  refine Keeps.ite ?_ ?_
  · refine Keeps.next ?_
    exact Only.refl _ _ _
  · extract_lets +onlyGivenNames v0
    have h1 : Only 68351748112347229395527596073404575714685058178449856727413489983858585110052022846698190054269984 187072210228379965589831465792119158921656762865800 s v0 := by
      unfold v0
      refine Only.trans ?_ (State.event_only _ _ _ (by decide))
      refine Only.trans ?_ (State.count_only _ _ _ _ (by decide))
      exact Only.refl _ _ _
    obtain ⟨w2, e3⟩ : ∃ x, x = v0 := ⟨_, rfl⟩
    rw [← e3] at h1 ⊢
    clear e3 v0
    refine Keeps.ite ?_ ?_
    · extract_lets +onlyGivenNames v4
      clear_value v4
      extract_lets +onlyGivenNames v5
      clear_value v5
      refine Keeps.next ?_
      refine Only.ite ?_ ?_
      · refine Only.step ?_ (State.failSlot_only ..)
        exact h1
      · exact Only.refl _ _ _
    · extract_lets +onlyGivenNames v6
      clear_value v6
      extract_lets +onlyGivenNames v7
      have h8 : Only 68351748112347229395527596073404575714685058178449856727413489983858585110052022846698190054269984 187072210228379965589831465792119158921656762865800 s v7 := by
        unfold v7
        refine Only.trans ?_ (State.putBit_only _ _ _ _ _ (by decide))
        refine Only.trans ?_ (State.putBit_only _ _ _ _ _ (by decide))
        exact h1
      obtain ⟨w9, e10⟩ : ∃ x, x = v7 := ⟨_, rfl⟩
      rw [← e10] at h8 ⊢
      clear e10 v7
      extract_lets +onlyGivenNames v11
      clear_value v11
      extract_lets +onlyGivenNames v12
      unfold v12
      clear v12
      extract_lets +onlyGivenNames v13
      have h14 : Only 68351748112347229395527596073404575714685058178449856727413489983858585110052022846698190054269984 187072210228379965589831465792119158921656762865800 s v13 := by
        unfold v13
        refine Only.up_opt ?_
        exact h8
      obtain ⟨w15, e16⟩ : ∃ x, x = v13 := ⟨_, rfl⟩
      rw [← e16] at h14 ⊢
      clear e16 v13
      split
      · rename_i a17 a18 a19
        refine Keeps.next ?_
        refine Only.step ?_ (State.failSlot_only ..)
        exact h14
      · rename_i a20 a21
        refine Keeps.next ?_
        refine Only.ite ?_ ?_
        · refine Only.step ?_ (State.syncFailedSlots_only ..)
          refine Only.trans ?_ (State.event_only _ _ _ (by decide))
          exact h14
        · exact h14

theorem State.ppeLoop_only (s : State) (temps : List Int) (rings : List RingReading) :
    Only 484299089528913657856 258905997312 s (State.ppeLoop s temps rings) := by
  unfold State.ppeLoop
  extract_lets +onlyGivenNames v0
  have h1 : Only 484299089528913657856 258905997312 s v0 := by
    unfold v0
    split
    · rename_i a2
      exact Only.refl _ _ _
    · rename_i a3 a4 a5
      refine Only.trans ?_ (State.setf_only _ _ _ _ (by decide))
      exact Only.refl _ _ _
  obtain ⟨w6, e7⟩ : ∃ x, x = v0 := ⟨_, rfl⟩
  rw [← e7] at h1 ⊢
  clear e7 v0
  extract_lets +onlyGivenNames v8
  have h9 : Only 484299089528913657856 258905997312 s v8 := by
    unfold v8
    refine Only.foldl ?_ ?_
    · refine Only.step ?_ (State.ppeHeaters_only ..)
      exact h1
    · intro u10 u11 h12
      refine Only.step ?_ (State.noteLockErr_only ..)
      exact h12
  obtain ⟨w13, e14⟩ : ∃ x, x = v8 := ⟨_, rfl⟩
  rw [← e14] at h9 ⊢
  clear e14 v8
  refine Only.ite ?_ ?_
  · refine Only.ite ?_ ?_
    · exact h9
    · refine Only.step ?_ (State.ppeLock_only ..)
      exact h9
  · refine Only.step ?_ (State.ppeUnlock_only ..)
    exact h9

theorem State.driveTile_only (s : State) (t : Nat) (rs : List RingReading) :
    Only 0 284334501281265445054580407976266609201250304 s (State.driveTile s t rs) := by
  unfold State.driveTile
  extract_lets +onlyGivenNames v0
  clear_value v0
  extract_lets +onlyGivenNames v1
  clear_value v1
  extract_lets +onlyGivenNames v2
  unfold v2
  clear v2
  extract_lets +onlyGivenNames v3
  have h4 : Only 0 284334501281265445054580407976266609201250304 s v3 := by
    unfold v3
    refine Only.up_opt ?_
    exact Only.refl _ _ _
  obtain ⟨w5, e6⟩ : ∃ x, x = v3 := ⟨_, rfl⟩
  rw [← e6] at h4 ⊢
  clear e6 v3
  extract_lets +onlyGivenNames v7
  clear_value v7
  extract_lets +onlyGivenNames v8
  clear_value v8
  extract_lets +onlyGivenNames v9
  clear_value v9
  refine Only.up_opt ?_
  exact h4

theorem State.setTemps_only (s : State) (t : Nat) (temps : List Int) :
    Only 150650441649280338332058946156983993986456530667136828309504 0 s (State.setTemps s t temps) := by
  unfold State.setTemps
  extract_lets +onlyGivenNames v0
  have h1 : Only 150650441649280338332058946156983993986456530667136828309504 0 s v0 := by
    unfold v0
    refine Only.foldl ?_ ?_
    · exact Only.refl _ _ _
    · intro u2 u3 h4
      refine Only.trans ?_ (State.setf_only _ _ _ _ (by (repeat' split) <;> decide))
      exact h4
  obtain ⟨w5, e6⟩ : ∃ x, x = v0 := ⟨_, rfl⟩
  rw [← e6] at h1 ⊢
  clear e6 v0
  split
  · rename_i a7
    exact h1
  · rename_i a8 a9 a10
    refine Only.trans ?_ (State.setf_only _ _ _ _ (by decide))
    exact h1

theorem State.slotBack_only (s : State) (k : Nat) (w : Nat) :
    Only 201260340650297898033561400900738858282603844964936658714624 268908140459271620751931783522954829103104 s (State.slotBack s k w) := by
  unfold State.slotBack
  extract_lets +onlyGivenNames v0
  have h1 : Only 201260340650297898033561400900738858282603844964936658714624 268908140459271620751931783522954829103104 s v0 := by
    unfold v0
    refine Only.ite ?_ ?_
    · refine Only.step ?_ (State.setWave_only ..)
      exact Only.refl _ _ _
    · exact Only.refl _ _ _
  obtain ⟨w2, e3⟩ : ∃ x, x = v0 := ⟨_, rfl⟩
  rw [← e3] at h1 ⊢
  clear e3 v0
  refine Only.step ?_ (State.claimWaiting_only ..)
  refine Only.step ?_ (State.syncReserve_only ..)
  exact h1

theorem execLockLoopPeriod_only (t : Nat) (temps : List Int) (rings : List RingReading) (s : State) :
    Keeps (execLockLoopPeriod t temps rings s) (Only 68351748112347229395527596073404575714789414994800660295112259983019412564220208732994339503776800 187072495967566857504910497549337514666862839044232 s) := by
  unfold execLockLoopPeriod
  refine Keeps.ite ?_ ?_
  · refine Keeps.next ?_
    refine Only.step ?_ (State.ppeLoop_only ..)
    exact Only.refl _ _ _
  · refine Keeps.ite ?_ ?_
    · refine Keeps.next ?_
      exact Only.refl _ _ _
    · extract_lets +onlyGivenNames v0
      clear_value v0
      extract_lets +onlyGivenNames v1
      have h2 : Only 68351748112347229395527596073404575714789414994800660295112259983019412564220208732994339503776800 187072495967566857504910497549337514666862839044232 s v1 := by
        unfold v1
        refine Only.step ?_ (State.driveTile_only ..)
        refine Only.step ?_ (State.setTemps_only ..)
        exact Only.refl _ _ _
      obtain ⟨w3, e4⟩ : ∃ x, x = v1 := ⟨_, rfl⟩
      rw [← e4] at h2 ⊢
      clear e4 v1
      extract_lets +onlyGivenNames v5
      clear_value v5
      extract_lets +onlyGivenNames v6
      clear_value v6
      extract_lets +onlyGivenNames v7
      clear_value v7
      extract_lets +onlyGivenNames v8
      clear_value v8
      extract_lets +onlyGivenNames v9
      clear_value v9
      extract_lets +onlyGivenNames v10
      clear_value v10
      extract_lets +onlyGivenNames v11
      clear_value v11
      extract_lets +onlyGivenNames v12
      unfold v12
      clear v12
      extract_lets +onlyGivenNames v13
      have h14 : Only 68351748112347229395527596073404575714789414994800660295112259983019412564220208732994339503776800 187072495967566857504910497549337514666862839044232 s v13 := by
        unfold v13
        refine Only.up_opt ?_
        exact h2
      obtain ⟨w15, e16⟩ : ∃ x, x = v13 := ⟨_, rfl⟩
      rw [← e16] at h14 ⊢
      clear e16 v13
      extract_lets +onlyGivenNames v17
      have h18 : Only 68351748112347229395527596073404575714789414994800660295112259983019412564220208732994339503776800 187072495967566857504910497549337514666862839044232 s v17 := by
        unfold v17
        refine Only.foldl ?_ ?_
        · exact h14
        · intro u19 u20 h21
          refine Only.trans ?_ (State.putBit_only _ _ _ _ _ (by decide))
          exact h21
      obtain ⟨w22, e23⟩ : ∃ x, x = v17 := ⟨_, rfl⟩
      rw [← e23] at h18 ⊢
      clear e23 v17
      extract_lets +onlyGivenNames v24
      have h25 : Only 68351748112347229395527596073404575714789414994800660295112259983019412564220208732994339503776800 187072495967566857504910497549337514666862839044232 s v24 := by
        unfold v24
        refine Only.trans ?_ (State.eventIf_only _ _ _ _ (by decide))
        refine Only.trans ?_ (State.count_only _ _ _ _ (by decide))
        exact h18
      obtain ⟨w26, e27⟩ : ∃ x, x = v24 := ⟨_, rfl⟩
      rw [← e27] at h25 ⊢
      clear e27 v24
      extract_lets +onlyGivenNames v28
      have h29 : Only 68351748112347229395527596073404575714789414994800660295112259983019412564220208732994339503776800 187072495967566857504910497549337514666862839044232 s v28 := by
        unfold v28
        refine Only.trans ?_ (State.eventIf_only _ _ _ _ (by decide))
        refine Only.trans ?_ (State.count_only _ _ _ _ (by decide))
        exact h25
      obtain ⟨w30, e31⟩ : ∃ x, x = v28 := ⟨_, rfl⟩
      rw [← e31] at h29 ⊢
      clear e31 v28
      extract_lets +onlyGivenNames v32
      clear_value v32
      extract_lets +onlyGivenNames v33
      have h34 : Only 68351748112347229395527596073404575714789414994800660295112259983019412564220208732994339503776800 187072495967566857504910497549337514666862839044232 s v33 := by
        unfold v33
        refine Only.step ?_ (State.slotFaults_only ..)
        exact h29
      obtain ⟨w35, e36⟩ : ∃ x, x = v33 := ⟨_, rfl⟩
      rw [← e36] at h34 ⊢
      clear e36 v33
      extract_lets +onlyGivenNames v37
      clear_value v37
      refine Keeps.next ?_
      refine Only.foldl ?_ ?_
      · exact h34
      · intro u38 u39 h40
        refine Only.step ?_ (State.slotBack_only ..)
        exact h40

theorem execMoveFlitReceive_only (ix : Nat) (s : State) :
    Keeps (execMoveFlitReceive ix s) (Only 68351748112347229395527596073404575714634056726849839946207324194795022820421191208711919773852704 187072210195712858365421373299635196608207014566024 s) := by
  unfold execMoveFlitReceive
  split
  · rename_i a0 a1 a2
    refine Keeps.next ?_
    refine Only.ite ?_ ?_
    · refine Only.step ?_ (State.startMove_only ..)
      exact Only.refl _ _ _
    · exact Only.refl _ _ _
  · rename_i a3 a4
    refine Keeps.next ?_
    exact Only.refl _ _ _

theorem execOptCalDone_only (t : Nat) (xt : List Word) (s : State) :
    Keeps (execOptCalDone t xt s) (Only 803916510827427977317621683502509191542718168715074029486080 22997643485984705114708709468668622803042304 s) := by
  unfold execOptCalDone
  refine Keeps.ite ?_ ?_
  · extract_lets +onlyGivenNames v0
    have h1 : Only 803916510827427977317621683502509191542718168715074029486080 22997643485984705114708709468668622803042304 s v0 := by
      unfold v0
      refine Only.foldl ?_ ?_
      · exact Only.refl _ _ _
      · intro u2 u3 h4
        refine Only.trans ?_ (State.setReg_only _ _ _ _ (by decide))
        exact h4
    obtain ⟨w5, e6⟩ : ∃ x, x = v0 := ⟨_, rfl⟩
    rw [← e6] at h1 ⊢
    clear e6 v0
    extract_lets +onlyGivenNames v7
    have h8 : Only 803916510827427977317621683502509191542718168715074029486080 22997643485984705114708709468668622803042304 s v7 := by
      unfold v7
      refine Only.trans ?_ (State.setf_only _ _ _ _ (by decide))
      refine Only.trans ?_ (State.putBit_only _ _ _ _ _ (by decide))
      exact h1
    obtain ⟨w9, e10⟩ : ∃ x, x = v7 := ⟨_, rfl⟩
    rw [← e10] at h8 ⊢
    clear e10 v7
    extract_lets +onlyGivenNames v11
    clear_value v11
    refine Keeps.next ?_
    refine Only.trans ?_ (State.event_only _ _ _ (by decide))
    refine Only.up_opt ?_
    exact h8
  · refine Keeps.next ?_
    exact Only.refl _ _ _

theorem execOptCalFull_only (tiles : Nat) (s : State) :
    Keeps (execOptCalFull tiles s) (Only 55169839471171998900900492977411130610274608398609678336 696898287454081973172991196020261297061888 s) := by
  unfold execOptCalFull
  refine Keeps.next ?_
  refine Only.step ?_ (State.calFull_only ..)
  refine Only.trans ?_ (State.setf_only _ _ _ _ (by decide))
  exact Only.refl _ _ _

theorem execRelockTimeout_only (ring : Nat) (s : State) :
    Keeps (execRelockTimeout ring s) (Only 68351748112347229395527596073404575714684273540732933392318010510180684151750010052267632049955872 187072210261047072814241558284603121235106511165576 s) := by
  unfold execRelockTimeout
  split
  · rename_i a0 a1
    refine Keeps.next ?_
    exact Only.refl _ _ _
  · rename_i a2 a3 a4
    refine Keeps.ite ?_ ?_
    · extract_lets +onlyGivenNames v5
      unfold v5
      clear v5
      extract_lets +onlyGivenNames v6
      have h7 : Only 68351748112347229395527596073404575714684273540732933392318010510180684151750010052267632049955872 187072210261047072814241558284603121235106511165576 s v6 := by
        unfold v6
        refine Only.up_opt ?_
        exact Only.refl _ _ _
      obtain ⟨w8, e9⟩ : ∃ x, x = v6 := ⟨_, rfl⟩
      rw [← e9] at h7 ⊢
      clear e9 v6
      refine Keeps.next ?_
      refine Only.step ?_ (State.failSlot_only ..)
      exact h7
    · refine Keeps.next ?_
      exact Only.refl _ _ _

theorem execRingRelocked_only (ring : Nat) (s : State) :
    Keeps (execRingRelocked ring s) (Only 201260340650297898033561400900738858282603844964936658714624 312464283425151744075243733274221160169472 s) := by
  unfold execRingRelocked
  refine Keeps.ite ?_ ?_
  · extract_lets +onlyGivenNames v0
    clear_value v0
    extract_lets +onlyGivenNames v1
    unfold v1
    clear v1
    extract_lets +onlyGivenNames v2
    have h3 : Only 201260340650297898033561400900738858282603844964936658714624 312464283425151744075243733274221160169472 s v2 := by
      unfold v2
      refine Only.up_opt ?_
      exact Only.refl _ _ _
    obtain ⟨w4, e5⟩ : ∃ x, x = v2 := ⟨_, rfl⟩
    rw [← e5] at h3 ⊢
    clear e5 v2
    extract_lets +onlyGivenNames v6
    clear_value v6
    extract_lets +onlyGivenNames v7
    clear_value v7
    refine Keeps.next ?_
    refine Only.ite ?_ ?_
    · exact h3
    · refine Only.step ?_ (State.slotBack_only ..)
      refine Only.trans ?_ (State.putBit_only _ _ _ _ _ (by decide))
      exact h3
  · refine Keeps.next ?_
    exact Only.refl _ _ _

theorem execSpareSwitched_only (t : Nat) (j : Nat) (ok : Bool) (s : State) :
    Keeps (execSpareSwitched t j ok s) (Only 251477154533391344144247716286400189611422688520648934817792 1738927965557725782913710087628193502593024 s) := by
  unfold execSpareSwitched
  split
  · rename_i a0 a1
    refine Keeps.next ?_
    exact Only.refl _ _ _
  · rename_i a2 a3 a4 a5 a6
    extract_lets +onlyGivenNames v7
    clear_value v7
    extract_lets +onlyGivenNames v8
    clear_value v8
    extract_lets +onlyGivenNames v9
    unfold v9
    clear v9
    extract_lets +onlyGivenNames v10
    have h11 : Only 251477154533391344144247716286400189611422688520648934817792 1738927965557725782913710087628193502593024 s v10 := by
      unfold v10
      refine Only.up_opt ?_
      exact Only.refl _ _ _
    obtain ⟨w12, e13⟩ : ∃ x, x = v10 := ⟨_, rfl⟩
    rw [← e13] at h11 ⊢
    clear e13 v10
    refine Keeps.ite ?_ ?_
    · extract_lets +onlyGivenNames v14
      unfold v14
      clear v14
      extract_lets +onlyGivenNames v15
      have h16 : Only 251477154533391344144247716286400189611422688520648934817792 1738927965557725782913710087628193502593024 s v15 := by
        unfold v15
        refine Only.up_opt ?_
        exact h11
      obtain ⟨w17, e18⟩ : ∃ x, x = v15 := ⟨_, rfl⟩
      rw [← e18] at h16 ⊢
      clear e18 v15
      extract_lets +onlyGivenNames v19
      have h20 : Only 251477154533391344144247716286400189611422688520648934817792 1738927965557725782913710087628193502593024 s v19 := by
        unfold v19
        refine Only.trans ?_ (State.putBit_only _ _ _ _ _ (by decide))
        refine Only.trans ?_ (State.putBit_only _ _ _ _ _ (by decide))
        refine Only.trans ?_ (State.putBit_only _ _ _ _ _ (by decide))
        exact h16
      obtain ⟨w21, e22⟩ : ∃ x, x = v19 := ⟨_, rfl⟩
      rw [← e22] at h20 ⊢
      clear e22 v19
      refine Keeps.next ?_
      refine Only.step ?_ (State.syncFailedSlots_only ..)
      refine Only.step ?_ (State.slotBack_only ..)
      refine Only.trans ?_ (State.event_only _ _ _ (by decide))
      exact h20
    · refine Keeps.next ?_
      refine Only.step ?_ (State.syncFailedSlots_only ..)
      refine Only.trans ?_ (State.event_only _ _ _ (by decide))
      refine Only.trans ?_ (State.putBit_only _ _ _ _ _ (by decide))
      exact h11

/-! ### Memory -/

theorem State.cxlDown_only (s : State) (d : Nat) :
    Only 56242831549064659643968673231940691088277104782397749235548160 0 s (State.cxlDown s d) := by
  unfold State.cxlDown
  refine Only.ite ?_ ?_
  · refine Only.trans ?_ (State.event_only _ _ _ (by decide))
    refine Only.trans ?_ (State.setf_only _ _ _ _ (by decide))
    refine Only.trans ?_ (State.putBit_only _ _ _ _ _ (by decide))
    exact Only.refl _ _ _
  · exact Only.refl _ _ _

theorem execCxlLinkDown_only (d : Nat) (s : State) :
    Keeps (execCxlLinkDown d s) (Only 56242831549064659643968673231940691088277104782397749235548160 0 s) := by
  unfold execCxlLinkDown
  refine Keeps.ite ?_ ?_
  · refine Keeps.next ?_
    refine Only.step ?_ (State.cxlDown_only ..)
    exact Only.refl _ _ _
  · refine Keeps.next ?_
    exact Only.refl _ _ _

theorem State.setNocLink_only (s : State) (l : Nat) (v : Nat × Nat × Bool) :
    Only 0 5316911983139663491615228241121378304 s (State.setNocLink s l v) := by
  unfold State.setNocLink
  refine Only.up_bist ?_
  exact Only.refl _ _ _

theorem State.setNocHeld_only (s : State) (h : List NocPkt) :
    Only 0 5316911983139663491615228241121378304 s (State.setNocHeld s h) := by
  unfold State.setNocHeld
  refine Only.up_bist ?_
  exact Only.refl _ _ _

theorem State.setNocFlow_only (s : State) (k : Nat) (f : NocFlow) :
    Only 0 5316911983139663491615228241121378304 s (State.setNocFlow s k f) := by
  unfold State.setNocFlow
  refine Only.up_bist ?_
  exact Only.refl _ _ _

theorem State.nocMove_only (s : State) (l : Nat) (k : Nat) :
    Only 0 5316911983139663491615228241121378304 s (State.nocMove s l k) := by
  unfold State.nocMove
  extract_lets +onlyGivenNames v0
  clear_value v0
  extract_lets +onlyGivenNames v1
  clear_value v1
  extract_lets +onlyGivenNames v2
  clear_value v2
  refine Only.step ?_ (State.setNocHeld_only ..)
  refine Only.step ?_ (State.setNocFlow_only ..)
  exact Only.refl _ _ _

theorem execNocLinkFailed_only (l : Nat) (pk : NocPacket) (s : State) :
    Keeps (execNocLinkFailed l pk s) (Only 434510479982494016848143802430278189955599226463522009770597885586975623008951223403890233694691780460544 5316911983139663491615228241121378304 s) := by
  unfold execNocLinkFailed
  extract_lets +onlyGivenNames v0
  clear_value v0
  extract_lets +onlyGivenNames v1
  clear_value v1
  refine Keeps.ite ?_ ?_
  · refine Keeps.next ?_
    refine Only.trans ?_ (State.countEv_only _ _ _ _ (by decide) (by decide))
    refine Only.trans ?_ (State.count_only _ _ _ _ (by decide))
    refine Only.step ?_ (State.setNocLink_only ..)
    refine Only.foldl ?_ ?_
    · exact Only.refl _ _ _
    · intro u2 u3 h4
      refine Only.step ?_ (State.nocMove_only ..)
      exact h4
  · refine Keeps.next ?_
    exact Only.refl _ _ _

theorem State.nocTake_only (s : State) (l : Nat) (k : Nat) (seq : Nat) :
    Only 0 5316911983139663491615228241121378304 s (State.nocTake s l k seq) := by
  unfold State.nocTake
  extract_lets +onlyGivenNames v0
  clear_value v0
  split
  · rename_i a1 a2 a3 a4 a5
    refine Only.step ?_ (State.setNocHeld_only ..)
    refine Only.step ?_ (State.setNocFlow_only ..)
    exact Only.refl _ _ _
  · rename_i a6 a7
    refine Only.step ?_ (State.setNocHeld_only ..)
    refine Only.step ?_ (State.setNocFlow_only ..)
    exact Only.refl _ _ _

theorem State.nocNak_only (s : State) (l : Nat) (k : Nat) (seq : Nat) :
    Only 71671831749689734737838152978190216899892655911508785116799651230841339877765150252188079784691427704832 5316911983139663491615228241121378304 s (State.nocNak s l k seq) := by
  unfold State.nocNak
  extract_lets +onlyGivenNames v0
  clear_value v0
  extract_lets +onlyGivenNames v1
  clear_value v1
  refine Only.trans ?_ (State.count_only _ _ _ _ (by decide))
  refine Only.step ?_ (State.setNocLink_only ..)
  refine Only.step ?_ (State.setNocHeld_only ..)
  refine Only.step ?_ (State.setNocFlow_only ..)
  exact Only.refl _ _ _

theorem execNocPacketReceive_only (l : Nat) (arr : NocArrival) (s : State) :
    Keeps (execNocPacketReceive l arr s) (Only 71671831749689734737838152978190216899892655911508785116799651230841339877765150252188079784691427704832 5316911983139663491615228241121378304 s) := by
  unfold execNocPacketReceive
  extract_lets +onlyGivenNames v0
  clear_value v0
  refine Keeps.ite ?_ ?_
  · refine Keeps.next ?_
    exact Only.refl _ _ _
  · refine Keeps.next ?_
    refine Only.ite ?_ ?_
    · refine Only.step ?_ (State.nocTake_only ..)
      exact Only.refl _ _ _
    · refine Only.step ?_ (State.nocNak_only ..)
      exact Only.refl _ _ _

theorem execPageRemap_only (s : State) :
    Keeps (execPageRemap s) (Only 53028955460546679092884749047258365883232698794832163564945408 922337203685477580800 s) := by
  unfold execPageRemap
  split
  · rename_i a0 a1
    refine Keeps.next ?_
    exact Only.refl _ _ _
  · rename_i a2 a3 a4 a5 a6
    refine Keeps.next ?_
    refine Only.step ?_ (State.remapSector_only ..)
    refine Only.up_mem ?_
    exact Only.refl _ _ _

theorem execRemirrorDone_only (s : State) :
    Keeps (execRemirrorDone s) (Only 53028955460546679092884749047258365883232698794832163564945408 590295810358705651712 s) := by
  unfold execRemirrorDone
  refine Keeps.ite ?_ ?_
  · refine Keeps.next ?_
    exact Only.refl _ _ _
  · refine Keeps.next ?_
    refine Only.trans ?_ (State.eventIf_only _ _ _ _ (by decide))
    refine Only.step ?_ (State.setRemirroring_only ..)
    exact Only.refl _ _ _

theorem State.noteCe_only (s : State) (tier : Nat) :
    Only 771330261244315332260141804323758049210657437015740560944660480 0 s (State.noteCe s tier) := by
  unfold State.noteCe
  refine Only.trans ?_ (State.countEv_only _ _ _ _ (by unfold ceCounter; split <;> decide) (by decide))
  exact Only.refl _ _ _

theorem State.scrubBad_only (s : State) (w : Nat × Nat) :
    Only 38720779114464629679459118577052654070375003338190176159421956096 4611686018427387904 s (State.scrubBad s w) := by
  unfold State.scrubBad
  extract_lets +onlyGivenNames v0
  clear_value v0
  extract_lets +onlyGivenNames v1
  clear_value v1
  extract_lets +onlyGivenNames v2
  have h3 : Only 38720779114464629679459118577052654070375003338190176159421956096 4611686018427387904 s v2 := by
    unfold v2
    refine Only.step ?_ (State.noteUe_only ..)
    exact Only.refl _ _ _
  obtain ⟨w4, e5⟩ : ∃ x, x = v2 := ⟨_, rfl⟩
  rw [← e5] at h3 ⊢
  clear e5 v2
  refine Only.up_mem ?_
  exact h3

theorem execScrubPass_only (fixed : List Nat) (bad : List (Nat × Nat)) (s : State) :
    Keeps (execScrubPass fixed bad s) (Only 39440687358292657322901917594421494916304950279404867349636972544 4726978168888072601600 s) := by
  unfold execScrubPass
  extract_lets +onlyGivenNames v0
  clear_value v0
  refine Keeps.ite ?_ ?_
  · refine Keeps.next ?_
    exact Only.refl _ _ _
  · extract_lets +onlyGivenNames v1
    have h2 : Only 39440687358292657322901917594421494916304950279404867349636972544 4726978168888072601600 s v1 := by
      unfold v1
      refine Only.foldl ?_ ?_
      · exact Only.refl _ _ _
      · intro u3 u4 h5
        refine Only.step ?_ (State.noteCe_only ..)
        exact h5
    obtain ⟨w6, e7⟩ : ∃ x, x = v1 := ⟨_, rfl⟩
    rw [← e7] at h2 ⊢
    clear e7 v1
    extract_lets +onlyGivenNames v8
    have h9 : Only 39440687358292657322901917594421494916304950279404867349636972544 4726978168888072601600 s v8 := by
      unfold v8
      refine Only.foldl ?_ ?_
      · exact h2
      · intro u10 u11 h12
        refine Only.step ?_ (State.scrubBad_only ..)
        exact h12
    obtain ⟨w13, e14⟩ : ∃ x, x = v8 := ⟨_, rfl⟩
    rw [← e14] at h9 ⊢
    clear e14 v8
    refine Keeps.next ?_
    refine Only.up_mem ?_
    exact h9

theorem execSectorFault_only (n : Nat) (moved : List Nat) (s : State) :
    Keeps (execSectorFault n moved s) (Only 559936986539589522980641468275250883112455957260902526460061547343643242290039926288419417196561694720 311288806243857334400 s) := by
  unfold execSectorFault
  refine Keeps.ite ?_ ?_
  · refine Keeps.next ?_
    refine Only.trans ?_ (State.putBit_only _ _ _ _ _ (by decide))
    refine Only.step ?_ (State.markRunning_only ..)
    refine Only.step ?_ (State.sectorLeaves_only ..)
    exact Only.refl _ _ _
  · refine Keeps.next ?_
    exact Only.refl _ _ _

/-! ### Time -/

theorem State.writeAsym_only (s : State) (r : Nat) (w : Word) :
    Only 243074459073829751551413766001757934178635656449637549420254227474985086449289789440 23906398852824828007726289988279043534411005952 s (State.writeAsym s r w) := by
  unfold State.writeAsym
  refine Only.ite ?_ ?_
  · refine Only.step ?_ (State.storeAsym_only ..)
    exact Only.refl _ _ _
  · refine Only.trans ?_ (State.setf_only _ _ _ _ (by decide))
    exact Only.refl _ _ _

theorem execAsymWrite_only (r : Nat) (w : Word) (s : State) :
    Keeps (execAsymWrite r w s) (Only 243074459073829751551413766001757934178635656449637549420254227474985086449289789440 23906398852824828007726289988279043534411005952 s) := by
  unfold execAsymWrite
  refine Keeps.ite ?_ ?_
  · refine Keeps.next ?_
    refine Only.step ?_ (State.writeAsym_only ..)
    exact Only.refl _ _ _
  · refine Keeps.next ?_
    exact Only.refl _ _ _

theorem State.latchBase_only (s : State) (n : Nat) :
    Only 22765651080770262549837444220588112187215705145142260014669676676627784592248537088 0 s (State.latchBase s n) := by
  unfold State.latchBase
  extract_lets +onlyGivenNames v0
  clear_value v0
  refine Only.trans ?_ (State.setf_only _ _ _ _ (by decide))
  refine Only.trans ?_ (State.setf_only _ _ _ _ (by decide))
  refine Only.trans ?_ (State.setf_only _ _ _ _ (by decide))
  exact Only.refl _ _ _

theorem State.switchTb1_only (s : State) (on : Bool) (d : Option Int) :
    Only 240847545613617686481027648818070848334801568104532373202071774736459309651066880 17126972312471518572699431633393941636592959488 s (State.switchTb1 s on d) := by
  unfold State.switchTb1
  refine Only.trans ?_ (State.event_only _ _ _ (by decide))
  refine Only.trans ?_ (State.setf_only _ _ _ _ (by decide))
  refine Only.up_time ?_
  exact Only.refl _ _ _

theorem execHoldoverExpired_only (n : Nat) (s : State) :
    Keeps (execHoldoverExpired n s) (Only 240847545613617686481027648818070848334801568104532373202071774736459309651066880 17483784235648008542964003125756315420688646144 s) := by
  unfold execHoldoverExpired
  refine Keeps.ite ?_ ?_
  · extract_lets +onlyGivenNames v0
    have h1 : Only 240847545613617686481027648818070848334801568104532373202071774736459309651066880 17483784235648008542964003125756315420688646144 s v0 := by
      unfold v0
      refine Only.step ?_ (State.baseFree_only ..)
      exact Only.refl _ _ _
    obtain ⟨w2, e3⟩ : ∃ x, x = v0 := ⟨_, rfl⟩
    rw [← e3] at h1 ⊢
    clear e3 v0
    refine Keeps.next ?_
    refine Only.ite ?_ ?_
    · refine Only.step ?_ (State.switchTb1_only ..)
      exact h1
    · exact h1
  · refine Keeps.next ?_
    exact Only.refl _ _ _

theorem State.setPtp_only (s : State) (n : Nat) (p : PtpPort) :
    Only 0 1427247692705959881058285969449495136382746624 s (State.setPtp s n p) := by
  unfold State.setPtp
  refine Only.up_time ?_
  exact Only.refl _ _ _

theorem State.ptpAnnounce_only (s : State) (n : Nat) (m : List Byte) :
    Only 0 1427247692705959881058285969449495136382746624 s (State.ptpAnnounce s n m) := by
  unfold State.ptpAnnounce
  extract_lets +onlyGivenNames v0
  clear_value v0
  extract_lets +onlyGivenNames v1
  clear_value v1
  extract_lets +onlyGivenNames v2
  clear_value v2
  extract_lets +onlyGivenNames v3
  clear_value v3
  extract_lets +onlyGivenNames v4
  clear_value v4
  extract_lets +onlyGivenNames v5
  clear_value v5
  extract_lets +onlyGivenNames v6
  clear_value v6
  refine Only.ite ?_ ?_
  · exact Only.refl _ _ _
  · refine Only.step ?_ (State.setPtp_only ..)
    exact Only.refl _ _ _

theorem State.ptpAskDelay_only (s : State) (n : Nat) (carrier : Nat) :
    Only 48312224427533946512043291035939178167157762805192705886137669566595072 1427247692705959881058588200904398793676423176 s (State.ptpAskDelay s n carrier) := by
  unfold State.ptpAskDelay
  extract_lets +onlyGivenNames v0
  clear_value v0
  extract_lets +onlyGivenNames v1
  clear_value v1
  extract_lets +onlyGivenNames v2
  clear_value v2
  extract_lets +onlyGivenNames v3
  clear_value v3
  refine Only.step ?_ (State.hostSend_only ..)
  refine Only.step ?_ (State.setPtp_only ..)
  exact Only.refl _ _ _

theorem State.steerTb1_only (s : State) :
    Only 30595048986640634419597619942935553764622408428294212392761640676906838765982449664 6065802694000329494497715370160354329626673156 s (State.steerTb1 s) := by
  unfold State.steerTb1
  refine Only.ite ?_ ?_
  · extract_lets +onlyGivenNames v0
    clear_value v0
    extract_lets +onlyGivenNames v1
    clear_value v1
    extract_lets +onlyGivenNames v2
    have h3 : Only 30595048986640634419597619942935553764622408428294212392761640676906838765982449664 6065802694000329494497715370160354329626673156 s v2 := by
      unfold v2
      refine Only.step ?_ (State.setBase_only ..)
      exact Only.refl _ _ _
    obtain ⟨w4, e5⟩ : ∃ x, x = v2 := ⟨_, rfl⟩
    rw [← e5] at h3 ⊢
    clear e5 v2
    extract_lets +onlyGivenNames v6
    have h7 : Only 30595048986640634419597619942935553764622408428294212392761640676906838765982449664 6065802694000329494497715370160354329626673156 s v6 := by
      unfold v6
      refine Only.step ?_ (State.baseUpdate_only ..)
      exact h3
    obtain ⟨w8, e9⟩ : ∃ x, x = v6 := ⟨_, rfl⟩
    rw [← e9] at h7 ⊢
    clear e9 v6
    refine Only.up_time ?_
    exact h7
  · exact Only.refl _ _ _

theorem State.sourceUpdate_only (s : State) (n : Nat) (want : Int) :
    Only 30595048986640634419597619942935553764622408428294212392761640676906838765982449664 17483784235648008542964003125756315420688646148 s (State.sourceUpdate s n want) := by
  unfold State.sourceUpdate
  refine Only.ite ?_ ?_
  · refine Only.step ?_ (State.steerTb1_only ..)
    refine Only.step ?_ (State.baseUpdate_only ..)
    exact Only.refl _ _ _
  · refine Only.ite ?_ ?_
    · refine Only.ite ?_ ?_
      · refine Only.step ?_ (State.baseUpdate_only ..)
        refine Only.step ?_ (State.switchTb1_only ..)
        exact Only.refl _ _ _
      · refine Only.up_time ?_
        exact Only.refl _ _ _
    · refine Only.step ?_ (State.baseUpdate_only ..)
      exact Only.refl _ _ _

theorem State.ptpEvent_only (s : State) (n : Nat) (carrier : Nat) (m : List Byte) :
    Only 30595048986688946644025153889447597055658347606461370155566833382792976435549044736 18911031928353968424022591326660714214365069324 s (State.ptpEvent s n carrier m) := by
  unfold State.ptpEvent
  extract_lets +onlyGivenNames v0
  clear_value v0
  extract_lets +onlyGivenNames v1
  clear_value v1
  split
  · rename_i a2 a3
    extract_lets +onlyGivenNames v4
    clear_value v4
    refine Only.ite ?_ ?_
    · refine Only.step ?_ (State.setPtp_only ..)
      exact Only.refl _ _ _
    · refine Only.step ?_ (State.ptpAskDelay_only ..)
      refine Only.step ?_ (State.setPtp_only ..)
      exact Only.refl _ _ _
  · rename_i a5 a6
    refine Only.ite ?_ ?_
    · refine Only.step ?_ (State.ptpAskDelay_only ..)
      refine Only.step ?_ (State.setPtp_only ..)
      exact Only.refl _ _ _
    · exact Only.refl _ _ _
  · rename_i a7 a8
    split
    · rename_i a9 a10 a11 a12 a13 a14
      refine Only.ite ?_ ?_
      · extract_lets +onlyGivenNames v15
        clear_value v15
        refine Only.step ?_ (State.sourceUpdate_only ..)
        refine Only.step ?_ (State.setPtp_only ..)
        exact Only.refl _ _ _
      · exact Only.refl _ _ _
    · rename_i a16 a17 a18
      exact Only.refl _ _ _
  · rename_i a19 a20 a21 a22
    exact Only.refl _ _ _

theorem State.ptpSlave_only (s : State) (n : Nat) (carrier : Nat) (m : List Byte) :
    Only 30595048986688946644025153889447597055658347606461370155566833382792976435549044736 18911031928353968424022591326660714214365069324 s (State.ptpSlave s n carrier m) := by
  unfold State.ptpSlave
  refine Only.ite ?_ ?_
  · refine Only.step ?_ (State.ptpAnnounce_only ..)
    exact Only.refl _ _ _
  · split
    · rename_i a0 a1 a2
      refine Only.ite ?_ ?_
      · refine Only.step ?_ (State.ptpEvent_only ..)
        exact Only.refl _ _ _
      · exact Only.refl _ _ _
    · rename_i a3 a4
      exact Only.refl _ _ _

theorem State.relayIn_only (s : State) (fr : List Byte) :
    Only 7237026282571302585664548867310581071927020218014549279993205352336245915648 677301871030716712540438656 s (State.relayIn s fr) := by
  unfold State.relayIn
  extract_lets +onlyGivenNames v0
  clear_value v0
  refine Only.step ?_ (State.sendData_only ..)
  exact Only.refl _ _ _

theorem State.ptpFrameIn_only (s : State) (fr : List Byte) :
    Only 30595056223694523976287367862634160098652588457124234843199602216332841199123562496 18911031928353968424699590966236527269611831436 s (State.ptpFrameIn s fr) := by
  unfold State.ptpFrameIn
  split
  · rename_i a0 a1
    exact Only.refl _ _ _
  · rename_i a2 a3 a4 a5
    extract_lets +onlyGivenNames v6
    clear_value v6
    extract_lets +onlyGivenNames v7
    clear_value v7
    extract_lets +onlyGivenNames v8
    have h9 : Only 30595056223694523976287367862634160098652588457124234843199602216332841199123562496 18911031928353968424699590966236527269611831436 s v8 := by
      unfold v8
      refine Only.ite ?_ ?_
      · refine Only.step ?_ (State.ptpSlave_only ..)
        exact Only.refl _ _ _
      · exact Only.refl _ _ _
    obtain ⟨w10, e11⟩ : ∃ x, x = v8 := ⟨_, rfl⟩
    rw [← e11] at h9 ⊢
    clear e11 v8
    extract_lets +onlyGivenNames v12
    have h13 : Only 30595056223694523976287367862634160098652588457124234843199602216332841199123562496 18911031928353968424699590966236527269611831436 s v12 := by
      unfold v12
      refine Only.ite ?_ ?_
      · refine Only.step ?_ (State.ptpSlave_only ..)
        exact h9
      · exact h9
    obtain ⟨w14, e15⟩ : ∃ x, x = v12 := ⟨_, rfl⟩
    rw [← e15] at h13 ⊢
    clear e15 v12
    refine Only.ite ?_ ?_
    · refine Only.step ?_ (State.relayIn_only ..)
      exact h13
    · exact h13

theorem State.showPps_only (s : State) (lin : Nat) :
    Only 182125208646162100398699553764704897497725641161138080117357413413022276737988296704 0 s (State.showPps s lin) := by
  unfold State.showPps
  refine Only.trans ?_ (State.setf_only _ _ _ _ (by decide))
  refine Only.trans ?_ (State.setf_only _ _ _ _ (by decide))
  refine Only.trans ?_ (State.setf_only _ _ _ _ (by decide))
  exact Only.refl _ _ _

theorem execPpsInEdge_only (s : State) :
    Keeps (execPpsInEdge s) (Only 216573818362620617801993616088729584835704874679104810481352202485712464458387816448 63155710402238724736829154148140159784936538116 s) := by
  unfold execPpsInEdge
  extract_lets +onlyGivenNames v0
  clear_value v0
  extract_lets +onlyGivenNames v1
  clear_value v1
  extract_lets +onlyGivenNames v2
  have h3 : Only 216573818362620617801993616088729584835704874679104810481352202485712464458387816448 63155710402238724736829154148140159784936538116 s v2 := by
    unfold v2
    refine Only.trans ?_ (State.setf_only _ _ _ _ (by decide))
    refine Only.step ?_ (State.showPps_only ..)
    exact Only.refl _ _ _
  obtain ⟨w4, e5⟩ : ∃ x, x = v2 := ⟨_, rfl⟩
  rw [← e5] at h3 ⊢
  clear e5 v2
  refine Keeps.ite ?_ ?_
  · refine Keeps.next ?_
    refine Only.trans ?_ (State.count_only _ _ _ _ (by decide))
    exact h3
  · extract_lets +onlyGivenNames v6
    unfold v6
    clear v6
    extract_lets +onlyGivenNames v7
    have h8 : Only 216573818362620617801993616088729584835704874679104810481352202485712464458387816448 63155710402238724736829154148140159784936538116 s v7 := by
      unfold v7
      refine Only.up_time ?_
      exact h3
    obtain ⟨w9, e10⟩ : ∃ x, x = v7 := ⟨_, rfl⟩
    rw [← e10] at h8 ⊢
    clear e10 v7
    refine Keeps.ite ?_ ?_
    · refine Keeps.next ?_
      refine Only.step ?_ (State.sourceUpdate_only ..)
      exact h8
    · refine Keeps.next ?_
      exact h8

theorem execPpsOutPulse_only (s : State) :
    Keeps (execPpsOutPulse s) (Only 0 8 s) := by
  unfold execPpsOutPulse
  extract_lets +onlyGivenNames v0
  clear_value v0
  refine Keeps.ite ?_ ?_
  · refine Keeps.next ?_
    refine Only.step ?_ (State.emit_only ..)
    exact Only.refl _ _ _
  · refine Keeps.next ?_
    exact Only.refl _ _ _

theorem execPtpMessageReceive_only (fr : List Byte) (s : State) :
    Keeps (execPtpMessageReceive fr s) (Only 30595056223694523976287367862634160098652588457124234843199602216332841199123562496 18911031928353968424699590966236527269611831436 s) := by
  unfold execPtpMessageReceive
  refine Keeps.next ?_
  refine Only.step ?_ (State.ptpFrameIn_only ..)
  exact Only.refl _ _ _

theorem execTb0Revert_only (s : State) :
    Keeps (execTb0Revert s) (Only 240847545613617686481027648818070848334801568104532373202071774736459309651066880 17126972312471518572699431633393941636592959488 s) := by
  unfold execTb0Revert
  split
  · rename_i a0 a1 a2
    refine Keeps.ite ?_ ?_
    · refine Keeps.next ?_
      refine Only.step ?_ (State.switchTb1_only ..)
      exact Only.refl _ _ _
    · refine Keeps.next ?_
      exact Only.refl _ _ _
  · rename_i a3 a4
    refine Keeps.next ?_
    exact Only.refl _ _ _

theorem execTbSecRead_only (n : Nat) (s : State) :
    Keeps (execTbSecRead n s) (Only 22765651080770262549837444220588112187215705145142260014669676676627784592248537088 0 s) := by
  unfold execTbSecRead
  refine Keeps.ite ?_ ?_
  · refine Keeps.next ?_
    refine Only.step ?_ (State.latchBase_only ..)
    exact Only.refl _ _ _
  · refine Keeps.next ?_
    exact Only.refl _ _ _

theorem State.receiveTime_only (s : State) (port : Nat) (bs : List Byte) :
    Only 68351748112347991811410558101982370010870202659198025313398266712538548579996764890682982230042148 187098970480420305405658863657096788910805156599948 s (State.receiveTime s port bs) := by
  unfold State.receiveTime
  refine Only.step ?_ (State.receiveSort_only ..)
  exact Only.refl _ _ _

theorem execTcRelayReceive_only (port : Nat) (bs : List Byte) (s : State) :
    Keeps (execTcRelayReceive port bs s) (Only 68351748112347991811410558101982370010870202659198025313398266712538548579996764890682982230042148 187098970480420305405658863657096788910805156599948 s) := by
  unfold execTcRelayReceive
  refine Keeps.next ?_
  refine Only.step ?_ (State.receiveTime_only ..)
  exact Only.refl _ _ _

theorem execTimeReportReceive_only (port : Nat) (bs : List Byte) (s : State) :
    Keeps (execTimeReportReceive port bs s) (Only 68351748112347991811410558101982370010870202659198025313398266712538548579996764890682982230042148 187098970480420305405658863657096788910805156599948 s) := by
  unfold execTimeReportReceive
  refine Keeps.next ?_
  refine Only.step ?_ (State.receiveTime_only ..)
  exact Only.refl _ _ _

theorem execTimeReportSend_only (s : State) :
    Keeps (execTimeReportSend s) (Only 7237026282571302585664548867310581071927020218014549279993205352336245915648 677301871030716712540438656 s) := by
  unfold execTimeReportSend
  extract_lets +onlyGivenNames v0
  clear_value v0
  refine Keeps.ite ?_ ?_
  · extract_lets +onlyGivenNames v1
    clear_value v1
    refine Keeps.next ?_
    refine Only.foldl ?_ ?_
    · exact Only.refl _ _ _
    · intro u2 u3 h4
      refine Only.step ?_ (State.sendDataOn_only ..)
      exact h4
  · refine Keeps.next ?_
    exact Only.refl _ _ _

theorem State.tb0Lost_only (s : State) :
    Only 30595048986640634419597619942935553764622408428294212392761640676906838765982449664 17483784235648008542964003125756315420688646148 s (State.tb0Lost s) := by
  unfold State.tb0Lost
  refine Only.ite ?_ ?_
  · refine Only.up_time ?_
    exact Only.refl _ _ _
  · refine Only.ite ?_ ?_
    · refine Only.step ?_ (State.steerTb1_only ..)
      refine Only.step ?_ (State.switchTb1_only ..)
      exact Only.refl _ _ _
    · refine Only.trans ?_ (State.eventIf_only _ _ _ _ (by decide))
      refine Only.step ?_ (State.baseLost_only ..)
      exact Only.refl _ _ _

theorem execTimeSourceLost_only (n : Nat) (s : State) :
    Keeps (execTimeSourceLost n s) (Only 30595048986640634419597619942935553764622408428294212392761640676906838765982449664 40319747318943366639896578636948237602812592132 s) := by
  unfold execTimeSourceLost
  refine Keeps.ite ?_ ?_
  · refine Keeps.next ?_
    exact Only.refl _ _ _
  · refine Keeps.ite ?_ ?_
    · refine Keeps.next ?_
      refine Only.step ?_ (State.tb0Lost_only ..)
      exact Only.refl _ _ _
    · refine Keeps.ite ?_ ?_
      · refine Keeps.next ?_
        refine Only.step ?_ (State.checkFollowed_only ..)
        exact Only.refl _ _ _
      · extract_lets +onlyGivenNames v0
        have h1 : Only 30595048986640634419597619942935553764622408428294212392761640676906838765982449664 40319747318943366639896578636948237602812592132 s v0 := by
          unfold v0
          refine Only.step ?_ (State.baseLost_only ..)
          exact Only.refl _ _ _
        obtain ⟨w2, e3⟩ : ∃ x, x = v0 := ⟨_, rfl⟩
        rw [← e3] at h1 ⊢
        clear e3 v0
        refine Keeps.ite ?_ ?_
        · refine Keeps.next ?_
          refine Only.step ?_ (State.baseLost_only ..)
          exact h1
        · refine Keeps.next ?_
          exact h1

theorem execTransferHoldoverExpired_only (r : Nat) (s : State) :
    Keeps (execTransferHoldoverExpired r s) (Only 243074459073829751551413766001757934178635656449637549420254227474985086449289789440 713623846352979940529142984724747568191373312 s) := by
  unfold execTransferHoldoverExpired
  extract_lets +onlyGivenNames v0
  clear_value v0
  refine Keeps.ite ?_ ?_
  · refine Keeps.next ?_
    refine Only.trans ?_ (State.event_only _ _ _ (by decide))
    refine Only.step ?_ (State.syncAsym_only ..)
    refine Only.step ?_ (State.setTimeRoute_only ..)
    exact Only.refl _ _ _
  · refine Keeps.next ?_
    exact Only.refl _ _ _

/-! ### Events -/

theorem State.syncGathered_only (s : State) :
    Only 63657374260452690195888927762793067532858387302060507832379389042324415617604272068231168 0 s (State.syncGathered s) := by
  unfold State.syncGathered
  refine Only.trans ?_ (State.setf_only _ _ _ _ (by decide))
  exact Only.refl _ _ _

theorem State.gather_only (s : State) (origin : Nat) (t : Nat) (r : EvRec) :
    Only 63657374260452690195888927762793067532858387302060507832379389042324415617604272068231168 486777830487640090174734030864384 s (State.gather s origin t r) := by
  unfold State.gather
  extract_lets +onlyGivenNames v0
  clear_value v0
  extract_lets +onlyGivenNames v1
  clear_value v1
  refine Only.step ?_ (State.syncGathered_only ..)
  refine Only.up_evt ?_
  exact Only.refl _ _ _

theorem State.route1_only (s : State) (r : EvRec) :
    Only 167100607433688311764208435377331802273753266667908833059995896236101590996211214179106816000 187072209578355579290275986024758626916978730729480 s (State.route1 s r) := by
  unfold State.route1
  split
  · rename_i a0 a1
    refine Only.trans ?_ (State.setf_only _ _ _ _ (by decide))
    refine Only.up_evt ?_
    exact Only.refl _ _ _
  · rename_i a2 a3 a4
    extract_lets +onlyGivenNames v5
    unfold v5
    clear v5
    extract_lets +onlyGivenNames v6
    have h7 : Only 167100607433688311764208435377331802273753266667908833059995896236101590996211214179106816000 187072209578355579290275986024758626916978730729480 s v6 := by
      unfold v6
      refine Only.up_evt ?_
      exact Only.refl _ _ _
    obtain ⟨w8, e9⟩ : ∃ x, x = v6 := ⟨_, rfl⟩
    rw [← e9] at h7 ⊢
    clear e9 v6
    extract_lets +onlyGivenNames v10
    have h11 : Only 167100607433688311764208435377331802273753266667908833059995896236101590996211214179106816000 187072209578355579290275986024758626916978730729480 s v10 := by
      unfold v10
      refine Only.trans ?_ (State.setf_only _ _ _ _ (by decide))
      refine Only.trans ?_ (State.setf_only _ _ _ _ (by decide))
      exact h7
    obtain ⟨w12, e13⟩ : ∃ x, x = v10 := ⟨_, rfl⟩
    rw [← e13] at h11 ⊢
    clear e13 v10
    refine Only.ite ?_ ?_
    · refine Only.step ?_ (State.flushHeld_only ..)
      refine Only.step ?_ (State.holdRec_only ..)
      exact h11
    · refine Only.step ?_ (State.gather_only ..)
      exact h11

theorem State.retryHeld_only (s : State) :
    Only 167100607433688311764208435377331802273753266667908833059995896236101590996211214179106816000 187072209578355579290275986024758626916978730729480 s (State.retryHeld s) := by
  unfold State.retryHeld
  refine Only.foldl ?_ ?_
  · refine Only.up_evt ?_
    exact Only.refl _ _ _
  · intro u0 u1 h2
    refine Only.step ?_ (State.route1_only ..)
    exact h2

theorem State.setTarget_only (s : State) (t : Nat) (up : Bool) :
    Only 167100607433688311764208435377331802273753266667908833059995896236101590996211214179106816000 187072209578355579290275986024758626916978730729480 s (State.setTarget s t up) := by
  unfold State.setTarget
  extract_lets +onlyGivenNames v0
  have h1 : Only 167100607433688311764208435377331802273753266667908833059995896236101590996211214179106816000 187072209578355579290275986024758626916978730729480 s v0 := by
    unfold v0
    refine Only.trans ?_ (State.putBit_only _ _ _ _ _ (by decide))
    exact Only.refl _ _ _
  obtain ⟨w2, e3⟩ : ∃ x, x = v0 := ⟨_, rfl⟩
  rw [← e3] at h1 ⊢
  clear e3 v0
  refine Only.ite ?_ ?_
  · refine Only.step ?_ (State.retryHeld_only ..)
    exact h1
  · exact h1

theorem execCstEventRecordReceive_only (pos : Nat) (bs : List Byte) (s : State) :
    Keeps (execCstEventRecordReceive pos bs s) (Only 63657374260452690195888927762793067532858387302060507832379389042324415617604272068231168 1135814937804493543741046072016896 s) := by
  unfold execCstEventRecordReceive
  refine Keeps.ite ?_ ?_
  · refine Keeps.next ?_
    exact Only.refl _ _ _
  · refine Keeps.next ?_
    refine Only.foldl ?_ ?_
    · exact Only.refl _ _ _
    · intro u0 u1 h2
      refine Only.ite ?_ ?_
      · exact h2
      · refine Only.ite ?_ ?_
        · refine Only.up_evt ?_
          exact h2
        · refine Only.step ?_ (State.gather_only ..)
          exact h2

theorem State.setChannel_only (s : State) (c : Nat) (ms : List EvMsg) :
    Only 1018517988167243043134222844204689080525734196832968125318070224677190649881668353091698688 1298074214633706907132624082305024 s (State.setChannel s c ms) := by
  unfold State.setChannel
  refine Only.trans ?_ (State.setf_only _ _ _ _ (by decide))
  refine Only.up_evt ?_
  exact Only.refl _ _ _

theorem State.assertSource_only (s : State) (src : Nat) :
    Only 167100607433688311764208435377331802273753266667908833059995896236101590996211214179106816000 187072209578355579290275986024758626916978730729480 s (State.assertSource s src) := by
  unfold State.assertSource
  refine Only.step ?_ (State.route1_only ..)
  exact Only.refl _ _ _

theorem State.sample_only (s : State) (src : Nat) :
    Only 167100607433688311764208435377331802273753266667908833059995896236101590996211214179106816000 187072209578355579290275986024758626916978730729480 s (State.sample s src) := by
  unfold State.sample
  refine Only.ite ?_ ?_
  · exact Only.refl _ _ _
  · refine Only.ite ?_ ?_
    · refine Only.ite ?_ ?_
      · exact Only.refl _ _ _
      · refine Only.step ?_ (State.assertSource_only ..)
        refine Only.trans ?_ (State.setf_only _ _ _ _ (by decide))
        exact Only.refl _ _ _
    · refine Only.trans ?_ (State.setf_only _ _ _ _ (by decide))
      exact Only.refl _ _ _

theorem State.served_only (s : State) (src : Nat) :
    Only 167100607433688311764208435377331802273753266667908833059995896236101590996211214179106816000 187072209578355579290275986024758626916978730729480 s (State.served s src) := by
  unfold State.served
  refine Only.ite ?_ ?_
  · exact Only.refl _ _ _
  · refine Only.step ?_ (State.sample_only ..)
    refine Only.trans ?_ (State.setf_only _ _ _ _ (by decide))
    exact Only.refl _ _ _

theorem State.ackEvent_only (s : State) (c : Nat) (seq : Nat) :
    Only 168119125421855554807342658221536491354279000864741801185313966460778781646092882532198514688 187072209578355580588350200658465534049602813034504 s (State.ackEvent s c seq) := by
  unfold State.ackEvent
  split
  · rename_i a0 a1
    exact Only.refl _ _ _
  · rename_i a2 a3 a4
    extract_lets +onlyGivenNames v5
    have h6 : Only 168119125421855554807342658221536491354279000864741801185313966460778781646092882532198514688 187072209578355580588350200658465534049602813034504 s v5 := by
      unfold v5
      refine Only.step ?_ (State.setChannel_only ..)
      exact Only.refl _ _ _
    obtain ⟨w7, e8⟩ : ∃ x, x = v5 := ⟨_, rfl⟩
    rw [← e8] at h6 ⊢
    clear e8 v5
    extract_lets +onlyGivenNames v9
    clear_value v9
    refine Only.ite ?_ ?_
    · refine Only.foldl ?_ ?_
      · exact h6
      · intro u10 u11 h12
        refine Only.step ?_ (State.served_only ..)
        exact h12
    · refine Only.step ?_ (State.emit_only ..)
      exact h6

theorem State.serveEvent_only (s : State) (body : List Byte) :
    Only 168119125421855554807342658221536491354279000864741801185313966460778781646092882532198514688 187072209578355580588350200658465534049602813034504 s (State.serveEvent s body).2 := by
  unfold State.serveEvent
  refine Only.iteSnd ?_ ?_
  · refine Only.pair _ ?_
    exact Only.refl _ _ _
  · refine Only.pair _ ?_
    refine Only.step ?_ (State.ackEvent_only ..)
    exact Only.refl _ _ _

theorem execEventAssert_only (src : Nat) (s : State) :
    Keeps (execEventAssert src s) (Only 167100607433688311764208435377331802273753266667908833059995896236101590996211214179106816000 187072209578355579290275986024758626916978730729480 s) := by
  unfold execEventAssert
  refine Keeps.ite ?_ ?_
  · refine Keeps.next ?_
    refine Only.step ?_ (State.sample_only ..)
    exact Only.refl _ _ _
  · refine Keeps.next ?_
    exact Only.refl _ _ _

theorem State.interruptMp_only (s : State) (t : Nat) :
    Only 63657374260452690195888927762793067532858387302060507832379389042324415617604272068231168 2758407706096627177656826174898184 s (State.interruptMp s t) := by
  unfold State.interruptMp
  refine Only.ite ?_ ?_
  · extract_lets +onlyGivenNames v0
    clear_value v0
    extract_lets +onlyGivenNames v1
    clear_value v1
    refine Only.step ?_ (State.emit_only ..)
    refine Only.step ?_ (State.syncGathered_only ..)
    refine Only.up_evt ?_
    exact Only.refl _ _ _
  · exact Only.refl _ _ _

theorem State.deliverChannel_only (s : State) (origin : Nat) (c : Nat) :
    Only 3119211338762181819646869684804394255622104268836904061953747825879089071148747000909922304 12818482869810087162838320106438664 s (State.deliverChannel s origin c) := by
  unfold State.deliverChannel
  split
  rename_i a0 a1 a2 a3
  refine Only.ite ?_ ?_
  · exact Only.refl _ _ _
  · split
    · rename_i a4 a5
      exact Only.refl _ _ _
    · rename_i a6 a7 a8 a9
      extract_lets +onlyGivenNames v10
      clear_value v10
      extract_lets +onlyGivenNames v11
      clear_value v11
      extract_lets +onlyGivenNames v12
      clear_value v12
      extract_lets +onlyGivenNames v13
      unfold v13
      clear v13
      extract_lets +onlyGivenNames v14
      have h15 : Only 3119211338762181819646869684804394255622104268836904061953747825879089071148747000909922304 12818482869810087162838320106438664 s v14 := by
        unfold v14
        refine Only.up_evt ?_
        exact Only.refl _ _ _
      obtain ⟨w16, e17⟩ : ∃ x, x = v14 := ⟨_, rfl⟩
      rw [← e17] at h15 ⊢
      clear e17 v14
      extract_lets +onlyGivenNames v18
      have h19 : Only 3119211338762181819646869684804394255622104268836904061953747825879089071148747000909922304 12818482869810087162838320106438664 s v18 := by
        unfold v18
        refine Only.trans ?_ (State.setf_only _ _ _ _ (by decide))
        refine Only.step ?_ (State.setChannel_only ..)
        exact h15
      obtain ⟨w20, e21⟩ : ∃ x, x = v18 := ⟨_, rfl⟩
      rw [← e21] at h19 ⊢
      clear e21 v18
      refine Only.step ?_ (State.syncGathered_only ..)
      refine Only.step ?_ (State.sendOut_only ..)
      refine Only.step ?_ (State.countInvoc_only ..)
      exact h19

theorem execEventDeliver_only (t : Nat) (origin : Nat) (s : State) :
    Keeps (execEventDeliver t origin s) (Only 3119211338762181819646869684804394255622104268836904061953747825879089071148747000909922304 15414631299077500977103568271048712 s) := by
  unfold execEventDeliver
  refine Keeps.ite ?_ ?_
  · refine Keeps.next ?_
    exact Only.refl _ _ _
  · refine Keeps.ite ?_ ?_
    · refine Keeps.next ?_
      refine Only.ite ?_ ?_
      · refine Only.step ?_ (State.interruptMp_only ..)
        exact Only.refl _ _ _
      · exact Only.refl _ _ _
    · refine Keeps.next ?_
      refine Only.step ?_ (State.deliverChannel_only ..)
      exact Only.refl _ _ _

theorem execEventResend_only (c : Nat) (s : State) :
    Keeps (execEventResend c s) (Only 1018517988167243043182535068632223027037777487868907303485227987482383355767806022658293760 1298074214935938362036281375981576 s) := by
  unfold execEventResend
  extract_lets +onlyGivenNames v0
  clear_value v0
  extract_lets +onlyGivenNames v1
  clear_value v1
  refine Keeps.ite ?_ ?_
  · extract_lets +onlyGivenNames v2
    have h3 : Only 1018517988167243043182535068632223027037777487868907303485227987482383355767806022658293760 1298074214935938362036281375981576 s v2 := by
      unfold v2
      refine Only.step ?_ (State.setChannel_only ..)
      exact Only.refl _ _ _
    obtain ⟨w4, e5⟩ : ∃ x, x = v2 := ⟨_, rfl⟩
    rw [← e5] at h3 ⊢
    clear e5 v2
    refine Keeps.next ?_
    refine Only.foldl ?_ ?_
    · exact h3
    · intro u6 u7 h8
      refine Only.step ?_ (State.sendOut_only ..)
      exact h8
  · refine Keeps.next ?_
    exact Only.refl _ _ _

theorem execMpEventHandled_only (t : Nat) (src : Nat) (s : State) :
    Keeps (execMpEventHandled t src s) (Only 167100607433688311764208435377331802273753266667908833059995896236101590996211214179106816000 187072209578355581886424415292172441182226895339528 s) := by
  unfold execMpEventHandled
  extract_lets +onlyGivenNames v0
  clear_value v0
  refine Keeps.ite ?_ ?_
  · refine Keeps.next ?_
    refine Only.step ?_ (State.served_only ..)
    refine Only.up_evt ?_
    exact Only.refl _ _ _
  · refine Keeps.next ?_
    exact Only.refl _ _ _

/-! ### Links -/

theorem State.syncTxns_only (s : State) :
    Only 971334446112864535459730953411759453321203419526069760625906204869452142602604249088 0 s (State.syncTxns s) := by
  unfold State.syncTxns
  refine Only.trans ?_ (State.setf_only _ _ _ _ (by decide))
  exact Only.refl _ _ _

theorem State.closeTxn_only (s : State) (id : Nat) :
    Only 971334446112864535459730953411759453321203419526069760625906204869452142602604249088 383147269242669509036278015744900756432999275466588160 s (State.closeTxn s id) := by
  unfold State.closeTxn
  refine Only.step ?_ (State.syncTxns_only ..)
  refine Only.up_cst_host ?_
  exact Only.refl _ _ _

theorem State.sendApply_only (s : State) (txn : Nat) (view : Nat) (discard : Bool) (m : Nat) :
    Only 0 8 s (State.sendApply s txn view discard m) := by
  unfold State.sendApply
  refine Only.step ?_ (State.emit_only ..)
  exact Only.refl _ _ _

theorem State.noteLinks_only (s : State) (m : Nat) (ns : List Nat) :
    Only 0 2192252455996354377305527249074424529483898814464 s (State.noteLinks s m ns) := by
  unfold State.noteLinks
  refine Only.up_cst ?_
  exact Only.refl _ _ _

theorem State.sendLinkState_only (s : State) (k : Nat) (m : Nat) :
    Only 0 8 s (State.sendLinkState s k m) := by
  unfold State.sendLinkState
  refine Only.step ?_ (State.emit_only ..)
  exact Only.refl _ _ _

theorem State.ownLinkState_only (s : State) (k : Nat) :
    Only 0 2192252455996354377305527249074424529483898814472 s (State.ownLinkState s k) := by
  unfold State.ownLinkState
  extract_lets +onlyGivenNames v0
  have h1 : Only 0 2192252455996354377305527249074424529483898814472 s v0 := by
    unfold v0
    refine Only.step ?_ (State.noteLinks_only ..)
    exact Only.refl _ _ _
  obtain ⟨w2, e3⟩ : ∃ x, x = v0 := ⟨_, rfl⟩
  rw [← e3] at h1 ⊢
  clear e3 v0
  refine Only.foldl ?_ ?_
  · exact h1
  · intro u4 u5 h6
    refine Only.step ?_ (State.sendLinkState_only ..)
    exact h6

theorem State.linkDown_only (s : State) (k : Nat) :
    Only 8637032539658221005778209718855763402858225989143569702697235505262576710996547634217604874240 2192252455996354377305527249074424529483898814472 s (State.linkDown s k) := by
  unfold State.linkDown
  refine Only.ite ?_ ?_
  · refine Only.step ?_ (State.ownLinkState_only ..)
    refine Only.trans ?_ (State.countEv_only _ _ _ _ (by decide) (by decide))
    refine Only.trans ?_ (State.setf_only _ _ _ _ (by decide))
    exact Only.refl _ _ _
  · exact Only.refl _ _ _

theorem execCstLinkDown_only (fall : CstFall) (s : State) :
    Keeps (execCstLinkDown fall s) (Only 8637032539658221005778209718855763402858225989143569702697235505262576710996547634217604874240 2192252455996354377305527249074424529483898814472 s) := by
  unfold execCstLinkDown
  extract_lets +onlyGivenNames v0
  clear_value v0
  refine Keeps.next ?_
  refine Only.ite ?_ ?_
  · refine Only.step ?_ (State.linkDown_only ..)
    refine Only.trans ?_ (State.count_only _ _ _ _ (by decide))
    exact Only.refl _ _ _
  · exact Only.refl _ _ _

theorem execCstLinkTrained_only (k : Nat) (cid : Nat) (pos : Nat) (link : Nat) (s : State) :
    Keeps (execCstLinkTrained k cid pos link s) (Only 8376291934687406786735848670739362998243638034754329862615809527745215904626840535826130010112 2192252455996354377305527249074424529483898814472 s) := by
  unfold execCstLinkTrained
  refine Keeps.ite ?_ ?_
  · refine Keeps.next ?_
    exact Only.refl _ _ _
  · refine Keeps.ite ?_ ?_
    · refine Keeps.next ?_
      refine Only.trans ?_ (State.event_only _ _ _ (by decide))
      refine Only.ite ?_ ?_
      · refine Only.trans ?_ (State.setf_only _ _ _ _ (by decide))
        exact Only.refl _ _ _
      · exact Only.refl _ _ _
    · extract_lets +onlyGivenNames v0
      have h1 : Only 8376291934687406786735848670739362998243638034754329862615809527745215904626840535826130010112 2192252455996354377305527249074424529483898814472 s v0 := by
        unfold v0
        refine Only.trans ?_ (State.setf_only _ _ _ _ (by decide))
        refine Only.trans ?_ (State.setf_only _ _ _ _ (by decide))
        refine Only.trans ?_ (State.setf_only _ _ _ _ (by decide))
        exact Only.refl _ _ _
      obtain ⟨w2, e3⟩ : ∃ x, x = v0 := ⟨_, rfl⟩
      rw [← e3] at h1 ⊢
      clear e3 v0
      extract_lets +onlyGivenNames v4
      have h5 : Only 8376291934687406786735848670739362998243638034754329862615809527745215904626840535826130010112 2192252455996354377305527249074424529483898814472 s v4 := by
        unfold v4
        refine Only.step ?_ (State.ownLinkState_only ..)
        refine Only.trans ?_ (State.event_only _ _ _ (by decide))
        exact h1
      obtain ⟨w6, e7⟩ : ∃ x, x = v4 := ⟨_, rfl⟩
      rw [← e7] at h5 ⊢
      clear e7 v4
      refine Keeps.next ?_
      refine Only.foldl ?_ ?_
      · exact h5
      · intro u8 u9 h10
        refine Only.step ?_ (State.sendLinkState_only ..)
        exact h10

theorem State.refuseCommit_only (s : State) (c : TwoPhase) (st : Status) :
    Only 39786830247229044285278264010233025479533104303146521632155506862850335099282942213488640 419170361599601604164162439501993931756382358079537160 s (State.refuseCommit s c st) := by
  unfold State.refuseCommit
  extract_lets +onlyGivenNames v0
  clear_value v0
  extract_lets +onlyGivenNames v1
  unfold v1
  clear v1
  extract_lets +onlyGivenNames v2
  have h3 : Only 39786830247229044285278264010233025479533104303146521632155506862850335099282942213488640 419170361599601604164162439501993931756382358079537160 s v2 := by
    unfold v2
    refine Only.up_cst ?_
    exact Only.refl _ _ _
  obtain ⟨w4, e5⟩ : ∃ x, x = v2 := ⟨_, rfl⟩
  rw [← e5] at h3 ⊢
  clear e5 v2
  refine Only.step ?_ (State.answer_only ..)
  refine Only.step ?_ (State.closeTxn_only ..)
  refine Only.foldl ?_ ?_
  · exact h3
  · intro u6 u7 h8
    refine Only.step ?_ (State.sendApply_only ..)
    exact h8

theorem State.fwdLost_only (s : State) (w : Fwd) :
    Only 1043002205742169659100864935269880898072071897340059087321266304950399870944475533905508696064 35935402258692240952792202667130198342203726660370440 s (State.fwdLost s w) := by
  unfold State.fwdLost
  extract_lets +onlyGivenNames v0
  unfold v0
  clear v0
  extract_lets +onlyGivenNames v1
  have h2 : Only 1043002205742169659100864935269880898072071897340059087321266304950399870944475533905508696064 35935402258692240952792202667130198342203726660370440 s v1 := by
    unfold v1
    refine Only.up_cst ?_
    exact Only.refl _ _ _
  obtain ⟨w3, e4⟩ : ∃ x, x = v1 := ⟨_, rfl⟩
  rw [← e4] at h2 ⊢
  clear e4 v1
  refine Only.step ?_ (State.respond_only ..)
  refine Only.trans ?_ (State.count_only _ _ _ _ (by decide))
  exact h2

theorem State.sendPrepare_only (s : State) (txn : Nat) (check : Bool) (m : Nat) :
    Only 0 8 s (State.sendPrepare s txn check m) := by
  unfold State.sendPrepare
  refine Only.step ?_ (State.emit_only ..)
  exact Only.refl _ _ _

theorem execLinkStateReceive_only (k : Nat) (m : Nat) (ns : List Nat) (s : State) :
    Keeps (execLinkStateReceive k m ns s) (Only 0 2192252455996354377305527249074424529483898814472 s) := by
  unfold execLinkStateReceive
  refine Keeps.ite ?_ ?_
  · refine Keeps.next ?_
    exact Only.refl _ _ _
  · refine Keeps.next ?_
    refine Only.foldl ?_ ?_
    · refine Only.step ?_ (State.noteLinks_only ..)
      exact Only.refl _ _ _
    · intro u0 u1 h2
      refine Only.step ?_ (State.sendLinkState_only ..)
      exact h2

theorem State.askAgain_only (s : State) (w : Fwd) :
    Only 1043002205742169659100864935269880898072071897340059087321266304950399870944475533905508696064 35935402258692240952792202667130198342203726660370440 s (State.askAgain s w) := by
  unfold State.askAgain
  refine Only.ite ?_ ?_
  · refine Only.step ?_ (State.fwdLost_only ..)
    exact Only.refl _ _ _
  · refine Only.step ?_ (State.emit_only ..)
    exact Only.refl _ _ _

theorem State.commitAgain_only (s : State) (c : TwoPhase) :
    Only 39786830247229044285278264010233025479533104303146521632155506862850335099282942213488640 419170361599601604164162439501993931756382358079537160 s (State.commitAgain s c) := by
  unfold State.commitAgain
  refine Only.ite ?_ ?_
  · refine Only.foldl ?_ ?_
    · exact Only.refl _ _ _
    · intro u0 u1 h2
      refine Only.step ?_ (State.sendApply_only ..)
      exact h2
  · refine Only.ite ?_ ?_
    · refine Only.step ?_ (State.refuseCommit_only ..)
      exact Only.refl _ _ _
    · refine Only.foldl ?_ ?_
      · exact Only.refl _ _ _
      · intro u3 u4 h5
        refine Only.step ?_ (State.sendPrepare_only ..)
        exact h5

theorem execRoutesInstalled_only (s : State) :
    Keeps (execRoutesInstalled s) (Only 1792631446004594984960517484064263014750771719530327047081435750938718394126835584383603179520 425351052023873992605245822659551092646507296803782664 s) := by
  unfold execRoutesInstalled
  refine Keeps.ite ?_ ?_
  · refine Keeps.next ?_
    exact Only.refl _ _ _
  · extract_lets +onlyGivenNames v0
    unfold v0
    clear v0
    extract_lets +onlyGivenNames v1
    clear_value v1
    extract_lets +onlyGivenNames v2
    clear_value v2
    extract_lets +onlyGivenNames v3
    unfold v3
    clear v3
    extract_lets +onlyGivenNames v4
    have h5 : Only 1792631446004594984960517484064263014750771719530327047081435750938718394126835584383603179520 425351052023873992605245822659551092646507296803782664 s v4 := by
      unfold v4
      refine Only.up_cst ?_
      exact Only.refl _ _ _
    obtain ⟨w6, e7⟩ : ∃ x, x = v4 := ⟨_, rfl⟩
    rw [← e7] at h5 ⊢
    clear e7 v4
    extract_lets +onlyGivenNames v8
    have h9 : Only 1792631446004594984960517484064263014750771719530327047081435750938718394126835584383603179520 425351052023873992605245822659551092646507296803782664 s v8 := by
      unfold v8
      refine Only.trans ?_ (State.eventIf_only _ _ _ _ (by decide))
      refine Only.trans ?_ (State.countEv_only _ _ _ _ (by decide) (by decide))
      refine Only.trans ?_ (State.setf_only _ _ _ _ (by decide))
      exact h5
    obtain ⟨w10, e11⟩ : ∃ x, x = v8 := ⟨_, rfl⟩
    rw [← e11] at h9 ⊢
    clear e11 v8
    extract_lets +onlyGivenNames v12
    have h13 : Only 1792631446004594984960517484064263014750771719530327047081435750938718394126835584383603179520 425351052023873992605245822659551092646507296803782664 s v12 := by
      unfold v12
      refine Only.ite ?_ ?_
      · refine Only.foldl ?_ ?_
        · refine Only.foldl ?_ ?_
          · exact h9
          · intro u14 u15 h16
            refine Only.step ?_ (State.askAgain_only ..)
            exact h16
        · intro u17 u18 h19
          refine Only.step ?_ (State.commitAgain_only ..)
          exact h19
      · exact h9
    obtain ⟨w20, e21⟩ : ∃ x, x = v12 := ⟨_, rfl⟩
    rw [← e21] at h13 ⊢
    clear e21 v12
    refine Keeps.next ?_
    refine Only.step ?_ (State.flushHeld_only ..)
    exact h13

/-! ### Loads -/

theorem State.dropStaging_only (s : State) :
    Only 323835296880813349096097935127286579380602418356688517107006255923200 56668397794435742564352 s (State.dropStaging s) := by
  unfold State.dropStaging
  refine Only.step ?_ (State.freeHolder_only ..)
  exact Only.refl _ _ _

theorem State.endLoad_only (s : State) (st : Status) (es : List FitEntry) (keep : Bool) :
    Only 59824324460329119038523982374940085644619871176936102009770648380574335949477014049984142655881216 3100920637983920634057813442228474368845397783039967240 s (State.endLoad s st es keep) := by
  unfold State.endLoad
  split
  · rename_i a0 a1
    exact Only.refl _ _ _
  · rename_i a2 a3 a4
    extract_lets +onlyGivenNames v5
    unfold v5
    clear v5
    extract_lets +onlyGivenNames v6
    have h7 : Only 59824324460329119038523982374940085644619871176936102009770648380574335949477014049984142655881216 3100920637983920634057813442228474368845397783039967240 s v6 := by
      unfold v6
      refine Only.trans ?_ (State.event_only _ _ _ (by decide))
      refine Only.trans ?_ (State.setf_only _ _ _ _ (by decide))
      refine Only.trans ?_ (State.setf_only _ _ _ _ (by decide))
      refine Only.up_host ?_
      exact Only.refl _ _ _
    obtain ⟨w8, e9⟩ : ∃ x, x = v6 := ⟨_, rfl⟩
    rw [← e9] at h7 ⊢
    clear e9 v6
    extract_lets +onlyGivenNames v10
    have h11 : Only 59824324460329119038523982374940085644619871176936102009770648380574335949477014049984142655881216 3100920637983920634057813442228474368845397783039967240 s v10 := by
      unfold v10
      refine Only.ite ?_ ?_
      · exact h7
      · refine Only.ite ?_ ?_
        · refine Only.trans ?_ (State.count_only _ _ _ _ (by decide))
          refine Only.trans ?_ (State.setf_only _ _ _ _ (by decide))
          exact h7
        · refine Only.ite ?_ ?_
          · refine Only.trans ?_ (State.countEv_only _ _ _ _ (by decide) (by decide))
            refine Only.trans ?_ (State.setf_only _ _ _ _ (by decide))
            exact h7
          · refine Only.trans ?_ (State.setf_only _ _ _ _ (by decide))
            exact h7
    obtain ⟨w12, e13⟩ : ∃ x, x = v10 := ⟨_, rfl⟩
    rw [← e13] at h11 ⊢
    clear e13 v10
    extract_lets +onlyGivenNames v14
    have h15 : Only 59824324460329119038523982374940085644619871176936102009770648380574335949477014049984142655881216 3100920637983920634057813442228474368845397783039967240 s v14 := by
      unfold v14
      refine Only.ite ?_ ?_
      · exact h11
      · refine Only.step ?_ (State.dropStaging_only ..)
        exact h11
    obtain ⟨w16, e17⟩ : ∃ x, x = v14 := ⟨_, rfl⟩
    rw [← e17] at h15 ⊢
    clear e17 v14
    extract_lets +onlyGivenNames v18
    have h19 : Only 59824324460329119038523982374940085644619871176936102009770648380574335949477014049984142655881216 3100920637983920634057813442228474368845397783039967240 s v18 := by
      unfold v18
      refine Only.foldl ?_ ?_
      · exact h15
      · intro u20 u21 h22
        refine Only.step ?_ (State.respond_only ..)
        exact h22
    obtain ⟨w23, e24⟩ : ∃ x, x = v18 := ⟨_, rfl⟩
    rw [← e24] at h19 ⊢
    clear e24 v18
    split
    · rename_i a25 a26 a27
      refine Only.step ?_ (State.answer_only ..)
      exact h19
    · rename_i a28 a29
      exact h19

theorem State.abortLoad_only (s : State) (id : Nat) :
    Only 59824324460329119038523982374940085644619871176936102009770648380574335949477014049984142655881216 3100920637983920634057813442228474368845397783039967240 s (State.abortLoad s id).2 := by
  unfold State.abortLoad
  split
  · rename_i a0 a1 a2
    refine Only.iteSnd ?_ ?_
    · refine Only.pair _ ?_
      refine Only.step ?_ (State.endLoad_only ..)
      exact Only.refl _ _ _
    · refine Only.pair _ ?_
      exact Only.refl _ _ _
  · rename_i a3 a4
    refine Only.pair _ ?_
    exact Only.refl _ _ _

theorem State.finishFirmware_only (s : State) (sigOk : Bool) (version : Nat) :
    Only 61960311496250029120919004081109637759222575699292754779717689988396555675257654600007104742817792 10988028957564675257346689304055644702547967425595100364808 s (State.finishFirmware s sigOk version) := by
  unfold State.finishFirmware
  split
  · rename_i a0 a1
    exact Only.refl _ _ _
  · rename_i a2 a3 a4
    refine Only.ite ?_ ?_
    · refine Only.step ?_ (State.endLoad_only ..)
      exact Only.refl _ _ _
    · extract_lets +onlyGivenNames v5
      clear_value v5
      extract_lets +onlyGivenNames v6
      clear_value v6
      extract_lets +onlyGivenNames v7
      unfold v7
      clear v7
      extract_lets +onlyGivenNames v8
      have h9 : Only 61960311496250029120919004081109637759222575699292754779717689988396555675257654600007104742817792 10988028957564675257346689304055644702547967425595100364808 s v8 := by
        unfold v8
        refine Only.up_img ?_
        exact Only.refl _ _ _
      obtain ⟨w10, e11⟩ : ∃ x, x = v8 := ⟨_, rfl⟩
      rw [← e11] at h9 ⊢
      clear e11 v8
      extract_lets +onlyGivenNames v12
      have h13 : Only 61960311496250029120919004081109637759222575699292754779717689988396555675257654600007104742817792 10988028957564675257346689304055644702547967425595100364808 s v12 := by
        unfold v12
        refine Only.ite ?_ ?_
        · refine Only.trans ?_ (State.setf_only _ _ _ _ (by decide))
          exact h9
        · refine Only.trans ?_ (State.setf_only _ _ _ _ (by decide))
          exact h9
      obtain ⟨w14, e15⟩ : ∃ x, x = v12 := ⟨_, rfl⟩
      rw [← e15] at h13 ⊢
      clear e15 v12
      refine Only.step ?_ (State.endLoad_only ..)
      refine Only.trans ?_ (State.setf_only _ _ _ _ (by decide))
      exact h13

theorem State.loadReady_only (s : State) (fw : Bool × Nat) :
    Only 61960311496250029120919004081109637759222575699292754779717689988396555675257654600007104742817792 10988028957564675257346689304055644702547967425595100364808 s (State.loadReady s fw) := by
  unfold State.loadReady
  split
  · rename_i a0 a1 a2
    refine Only.ite ?_ ?_
    · refine Only.ite ?_ ?_
      · refine Only.step ?_ (State.finishFirmware_only ..)
        exact Only.refl _ _ _
      · refine Only.trans ?_ (State.setf_only _ _ _ _ (by decide))
        exact Only.refl _ _ _
    · exact Only.refl _ _ _
  · rename_i a3 a4
    exact Only.refl _ _ _

theorem execBufferGrant_only (s : State) :
    Keeps (execBufferGrant s) (Only 61960311496250029120919004081109637759222575699292754779717689988396555675257654600007104742817792 10988028957564675257346689304055644778105831151509423784072 s) := by
  unfold execBufferGrant
  extract_lets +onlyGivenNames v0
  clear_value v0
  extract_lets +onlyGivenNames v1
  have h2 : Only 61960311496250029120919004081109637759222575699292754779717689988396555675257654600007104742817792 10988028957564675257346689304055644778105831151509423784072 s v1 := by
    unfold v1
    refine Only.step ?_ (State.grantHead_only ..)
    exact Only.refl _ _ _
  obtain ⟨w3, e4⟩ : ∃ x, x = v1 := ⟨_, rfl⟩
  rw [← e4] at h2 ⊢
  clear e4 v1
  split
  · rename_i a5 a6 a7
    split
    · rename_i a8 a9 a10 a11
      refine Keeps.ite ?_ ?_
      · refine Keeps.next ?_
        exact h2
      · extract_lets +onlyGivenNames v12
        clear_value v12
        extract_lets +onlyGivenNames v13
        unfold v13
        clear v13
        extract_lets +onlyGivenNames v14
        have h15 : Only 61960311496250029120919004081109637759222575699292754779717689988396555675257654600007104742817792 10988028957564675257346689304055644778105831151509423784072 s v14 := by
          unfold v14
          refine Only.up_host ?_
          exact h2
        obtain ⟨w16, e17⟩ : ∃ x, x = v14 := ⟨_, rfl⟩
        rw [← e17] at h15 ⊢
        clear e17 v14
        refine Keeps.next ?_
        refine Only.ite ?_ ?_
        · refine Only.step ?_ (State.loadReady_only ..)
          exact h15
        · refine Only.step ?_ (State.respond_only ..)
          exact h15
    · rename_i a18 a19
      refine Keeps.next ?_
      exact h2
  · rename_i a20 a21
    refine Keeps.next ?_
    exact h2

theorem State.stage_only (s : State) (q : Req) (b : LoadBody) (fw : Bool × Nat) :
    Only 61960311496250029120919004081110901506722598385533129796049894033584382416402461189342156474548224 10991046058160754976036582299765346949311080544156222750728 s (State.stage s q b fw) := by
  unfold State.stage
  extract_lets +onlyGivenNames v0
  clear_value v0
  extract_lets +onlyGivenNames v1
  clear_value v1
  refine Only.ite ?_ ?_
  · refine Only.step ?_ (State.respond_only ..)
    exact Only.refl _ _ _
  · refine Only.ite ?_ ?_
    · refine Only.step ?_ (State.respond_only ..)
      exact Only.refl _ _ _
    · extract_lets +onlyGivenNames v2
      clear_value v2
      refine Only.ite ?_ ?_
      · refine Only.step ?_ (State.respond_only ..)
        exact Only.refl _ _ _
      · extract_lets +onlyGivenNames v3
        clear_value v3
        extract_lets +onlyGivenNames v4
        clear_value v4
        extract_lets +onlyGivenNames v5
        have h6 : Only 61960311496250029120919004081110901506722598385533129796049894033584382416402461189342156474548224 10991046058160754976036582299765346949311080544156222750728 s v5.2 := by
          unfold v5
          refine Only.iteSnd ?_ ?_
          · refine Only.step ?_ (State.askNeed_only ..)
            exact Only.refl _ _ _
          · refine Only.pair _ ?_
            exact Only.refl _ _ _
        obtain ⟨w7, e8⟩ : ∃ x, x = v5 := ⟨_, rfl⟩
        rw [← e8] at h6 ⊢
        clear e8 v5
        split
        · rename_i a9 a10
          refine Only.step ?_ (State.respond_only ..)
          exact h6
        · rename_i a11 a12
          extract_lets +onlyGivenNames v13
          clear_value v13
          extract_lets +onlyGivenNames v14
          clear_value v14
          extract_lets +onlyGivenNames v15
          clear_value v15
          extract_lets +onlyGivenNames v16
          have h17 : Only 61960311496250029120919004081110901506722598385533129796049894033584382416402461189342156474548224 10991046058160754976036582299765346949311080544156222750728 s v16 := by
            unfold v16
            exact h6
          obtain ⟨w18, e19⟩ : ∃ x, x = v16 := ⟨_, rfl⟩
          rw [← e19] at h17 ⊢
          clear e19 v16
          extract_lets +onlyGivenNames v20
          unfold v20
          clear v20
          extract_lets +onlyGivenNames v21
          have h22 : Only 61960311496250029120919004081110901506722598385533129796049894033584382416402461189342156474548224 10991046058160754976036582299765346949311080544156222750728 s v21 := by
            unfold v21
            refine Only.trans ?_ (State.setf_only _ _ _ _ (by decide))
            refine Only.trans ?_ (State.setf_only _ _ _ _ (by decide))
            refine Only.trans ?_ (State.setf_only _ _ _ _ (by decide))
            refine Only.up_host ?_
            exact h17
          obtain ⟨w23, e24⟩ : ∃ x, x = v21 := ⟨_, rfl⟩
          rw [← e24] at h22 ⊢
          clear e24 v21
          extract_lets +onlyGivenNames v25
          have h26 : Only 61960311496250029120919004081110901506722598385533129796049894033584382416402461189342156474548224 10991046058160754976036582299765346949311080544156222750728 s v25 := by
            unfold v25
            refine Only.ite ?_ ?_
            · exact h22
            · refine Only.trans ?_ (State.setf_only _ _ _ _ (by decide))
              exact h22
          obtain ⟨w27, e28⟩ : ∃ x, x = v25 := ⟨_, rfl⟩
          rw [← e28] at h26 ⊢
          clear e28 v25
          refine Only.ite ?_ ?_
          · refine Only.step ?_ (State.loadReady_only ..)
            exact h26
          · refine Only.ite ?_ ?_
            · exact h26
            · refine Only.step ?_ (State.respond_only ..)
              exact h26

theorem State.takeLoad_only (s : State) (target : Nat) (q : Req) (body : List Byte) (fw : Bool × Nat) :
    Only 61960311496250029120919004081110901506722598385533129796049894033584382416402461189342156474548224 10991046058160754976036582299765346949311080544156222750728 s (State.takeLoad s target q body fw) := by
  unfold State.takeLoad
  refine State.alone_only ?_ ?_
  · exact Only.refl _ _ _
  · intro u0 h1
    split
    · rename_i a2 a3 a4
      refine Only.ite ?_ ?_
      · refine Only.step ?_ (State.stage_only ..)
        exact h1
      · refine Only.step ?_ (State.respond_only ..)
        exact h1
    · rename_i a5 a6
      refine Only.step ?_ (State.respond_only ..)
      exact h1

theorem execLoadStructureImage_only (q : Req) (body : List Byte) (s : State) :
    Keeps (execLoadStructureImage q body s) (Only 61960311496250029120919004081110901506722598385533129796049894033584382416402461189342156474548224 10991046058160754976036582299765346949311080544156222750728 s) := by
  unfold execLoadStructureImage
  refine Keeps.next ?_
  refine State.gated_only ?_ ?_
  · exact Only.refl _ _ _
  · intro u0 h1
    refine Only.step ?_ (State.takeLoad_only ..)
    exact h1

theorem execLoadSectorPatch_only (q : Req) (body : List Byte) (s : State) :
    Keeps (execLoadSectorPatch q body s) (Only 61960311496250029120919004081110901506722598385533129796049894033584382416402461189342156474548224 10991046058160754976036582299765346949311080544156222750728 s) := by
  unfold execLoadSectorPatch
  refine Keeps.next ?_
  refine State.gated_only ?_ ?_
  · exact Only.refl _ _ _
  · intro u0 h1
    refine Only.step ?_ (State.takeLoad_only ..)
    exact h1

theorem execLoadFirmwareCopy_only (q : Req) (body : List Byte) (sigOk : Bool) (version : Nat) (s : State) :
    Keeps (execLoadFirmwareCopy q body sigOk version s) (Only 61960311496250029120919004081110901506722598385533129796049894033584382416402461189342156474548224 10991046058160754976036582299765346949311080544156222750728 s) := by
  unfold execLoadFirmwareCopy
  refine Keeps.next ?_
  refine State.gated_only ?_ ?_
  · exact Only.refl _ _ _
  · intro u0 h1
    refine Only.step ?_ (State.takeLoad_only ..)
    exact h1

theorem State.takeBulk_only (s : State) (read : Bool) (q : Req) (body : List Byte) :
    Keeps (State.takeBulk s read q body) (Only 39785858912782931420742804279279613720079783099726995562394880956645465647140339609239552 35929556252142917341119387927799441584746535973814280 s) := by
  unfold State.takeBulk
  refine Keeps.ite ?_ ?_
  · refine Keeps.next ?_
    refine Only.step ?_ (State.respond_only ..)
    exact Only.refl _ _ _
  · split
    · rename_i a0 a1
      refine Keeps.next ?_
      refine Only.step ?_ (State.respond_only ..)
      exact Only.refl _ _ _
    · rename_i a2 a3 a4
      extract_lets +onlyGivenNames v5
      clear_value v5
      refine Keeps.ite ?_ ?_
      · refine Keeps.next ?_
        refine Only.step ?_ (State.respond_only ..)
        exact Only.refl _ _ _
      · refine Keeps.ite ?_ ?_
        · exact Keeps.fault
        · refine Keeps.ite ?_ ?_
          · refine Keeps.next ?_
            refine Only.step ?_ (State.answer_only ..)
            exact Only.refl _ _ _
          · refine Keeps.next ?_
            refine Only.step ?_ (State.respond_only ..)
            refine Only.step ?_ (State.wrBytes_only ..)
            exact Only.refl _ _ _

theorem execHostBulkRead_only (q : Req) (body : List Byte) (s : State) :
    Keeps (execHostBulkRead q body s) (Only 39785858912782931420742804279279613720079783099726995562394880956645465647140339609239552 35929556252142917341119387927799441584746535973814280 s) := by
  unfold execHostBulkRead
  refine Keeps.ite ?_ ?_
  · refine Keeps.step ?_ (State.takeBulk_only ..)
    refine Only.step ?_ (State.ask_only ..)
    exact Only.refl _ _ _
  · refine Keeps.next ?_
    refine State.gated_only ?_ ?_
    · exact Only.refl _ _ _
    · intro u0 h1
      exact h1

theorem execHostBulkWrite_only (q : Req) (body : List Byte) (s : State) :
    Keeps (execHostBulkWrite q body s) (Only 39785858912782931420742804279279613720079783099726995562394880956645465647140339609239552 35929556252142917341119387927799441584746535973814280 s) := by
  unfold execHostBulkWrite
  refine Keeps.ite ?_ ?_
  · refine Keeps.step ?_ (State.takeBulk_only ..)
    refine Only.step ?_ (State.ask_only ..)
    exact Only.refl _ _ _
  · refine Keeps.next ?_
    refine State.gated_only ?_ ?_
    · exact Only.refl _ _ _
    · intro u0 h1
      exact h1

/-! ### Twilight -/

theorem State.setDeadline_only (s : State) (u : Nat) (d : Nat) :
    Only 0 49039857307708443467467104868809893875799651909875269632 s (State.setDeadline s u d) := by
  unfold State.setDeadline
  extract_lets +onlyGivenNames v0
  clear_value v0
  extract_lets +onlyGivenNames v1
  clear_value v1
  refine Only.up_img ?_
  exact Only.refl _ _ _

theorem State.refusePending_only (s : State) (n : Nat) :
    Only 68351748112347229395527596073404575714420242181980479848332668920927581994955645746794217584108576 187072209578355574179108765961207815075121536932232 s (State.refusePending s n) := by
  unfold State.refusePending
  extract_lets +onlyGivenNames v0
  clear_value v0
  refine Only.step ?_ (State.endItem_only ..)
  refine Only.step ?_ (State.addItem_only ..)
  exact Only.refl _ _ _

theorem State.startDrain_only (s : State) (u : Nat) (d : Nat) :
    Only 68618746491837343155826973786675769730352518291534051720118011214246522063200428809332354648548384 49040044379918021823041283977575855083614727031412201864 s (State.startDrain s u d) := by
  unfold State.startDrain
  refine Only.ite ?_ ?_
  · exact Only.refl _ _ _
  · refine Only.ite ?_ ?_
    · refine Only.step ?_ (State.setDeadline_only ..)
      exact Only.refl _ _ _
    · extract_lets +onlyGivenNames v0
      have h1 : Only 68618746491837343155826973786675769730352518291534051720118011214246522063200428809332354648548384 49040044379918021823041283977575855083614727031412201864 s v0 := by
        unfold v0
        refine Only.trans ?_ (State.putBit_only _ _ _ _ _ (by decide))
        refine Only.step ?_ (State.setDeadline_only ..)
        exact Only.refl _ _ _
      obtain ⟨w2, e3⟩ : ∃ x, x = v0 := ⟨_, rfl⟩
      rw [← e3] at h1 ⊢
      clear e3 v0
      refine Only.ite ?_ ?_
      · refine Only.ite ?_ ?_
        · refine Only.step ?_ (State.setSec_only ..)
          exact h1
        · exact h1
      · refine Only.ite ?_ ?_
        · extract_lets +onlyGivenNames v4
          clear_value v4
          extract_lets +onlyGivenNames v5
          have h6 : Only 68618746491837343155826973786675769730352518291534051720118011214246522063200428809332354648548384 49040044379918021823041283977575855083614727031412201864 s v5 := by
            unfold v5
            refine Only.step ?_ (State.syncTrack_only ..)
            refine Only.step ?_ (State.setTrack_only ..)
            exact h1
          obtain ⟨w7, e8⟩ : ∃ x, x = v5 := ⟨_, rfl⟩
          rw [← e8] at h6 ⊢
          clear e8 v5
          refine Only.ite ?_ ?_
          · refine Only.step ?_ (State.refusePending_only ..)
            exact h6
          · exact h6
        · refine Only.step ?_ (State.driveTx_only ..)
          exact h1

theorem State.twilightResult_only {B P : Nat} {s0 : State} {r : Status × State} (h : Only B P s0 r.2)
    (hb : 133499189745056880149688856635597007162669032647290798121690100488888732861290034376435130433536 ||| B = B := by decide) : Only B P s0 (State.twilightResult r) :=
  h.step (B := B) (P := P) (State.setf_only (B := 133499189745056880149688856635597007162669032647290798121690100488888732861290034376435130433536) (P := 0) ..) hb (Nat.zero_or P)

theorem State.stayDark_only (s : State) (n : Nat) :
    Only 0 83076749736557242056487941267521536 s (State.stayDark s n) := by
  unfold State.stayDark
  refine Only.up_bist ?_
  exact Only.refl _ _ _

theorem State.disable_only (s : State) (u : Nat) (d : Nat) :
    Only 68618746491837343155826973786675769730352518291534051720118011214246522063200428809332354648548384 49040044379918021823124360727312412325671214972679723400 s (State.disable s u d).2 := by
  unfold State.disable
  refine Only.iteSnd ?_ ?_
  · refine Only.pair _ ?_
    exact Only.refl _ _ _
  · refine Only.iteSnd ?_ ?_
    · refine Only.pair _ ?_
      refine Only.step ?_ (State.stayDark_only ..)
      exact Only.refl _ _ _
    · refine Only.iteSnd ?_ ?_
      · refine Only.pair _ ?_
        exact Only.refl _ _ _
      · refine Only.pair _ ?_
        refine Only.step ?_ (State.startDrain_only ..)
        exact Only.refl _ _ _

theorem State.askBist_only (s : State) (n : Nat) (set : Nat) (why : Nat) (patch : Bool) :
    Only 0 83076749736557242056487941267521536 s (State.askBist s n set why patch) := by
  unfold State.askBist
  extract_lets +onlyGivenNames v0
  clear_value v0
  refine Only.up_bist ?_
  exact Only.refl _ _ _

theorem State.resetSector_only (s : State) (n : Nat) :
    Only 27521983391880858139329850743625043289558779871626311529110056348185036605402980299362425631107874553856000 0 s (State.resetSector s n) := by
  unfold State.resetSector
  extract_lets +onlyGivenNames v0
  clear_value v0
  refine Only.trans ?_ (State.setReg_only _ _ _ _ (by decide))
  refine Only.trans ?_ (State.setReg_only _ _ _ _ (by decide))
  refine Only.trans ?_ (State.setReg_only _ _ _ _ (by decide))
  refine Only.step ?_ (State.setSec_only ..)
  exact Only.refl _ _ _

theorem State.enable_only (s : State) (u : Nat) :
    Only 27521983392681853277800192024523176429372361914602331854987656613569257865070050776428630648537815569170464 2787593232893077629249206840569811223707656 s (State.enable s u).2 := by
  unfold State.enable
  refine Only.iteSnd ?_ ?_
  · refine Only.pair _ ?_
    exact Only.refl _ _ _
  · refine Only.iteSnd ?_ ?_
    · refine Only.pair _ ?_
      exact Only.refl _ _ _
    · refine Only.iteSnd ?_ ?_
      · refine Only.pair _ ?_
        exact Only.refl _ _ _
      · refine Only.iteSnd ?_ ?_
        · refine Only.pair _ ?_
          refine Only.step ?_ (State.askBist_only ..)
          refine Only.step ?_ (State.resetSector_only ..)
          exact Only.refl _ _ _
        · refine Only.iteSnd ?_ ?_
          · refine Only.pair _ ?_
            refine Only.step ?_ (State.syncTrack_only ..)
            refine Only.step ?_ (State.setTrack_only ..)
            refine Only.step ?_ (State.markRunning_only ..)
            exact Only.refl _ _ _
          · refine Only.iteSnd ?_ ?_
            · refine Only.pair _ ?_
              refine Only.step ?_ (State.askQuickCal_only ..)
              refine Only.step ?_ (State.markRunning_only ..)
              exact Only.refl _ _ _
            · refine Only.iteSnd ?_ ?_
              · refine Only.pair _ ?_
                refine Only.step ?_ (State.tileToApr_only ..)
                refine Only.step ?_ (State.markRunning_only ..)
                exact Only.refl _ _ _
              · refine Only.pair _ ?_
                refine Only.step ?_ (State.driveTx_only ..)
                refine Only.step ?_ (State.markRunning_only ..)
                exact Only.refl _ _ _

theorem State.ppeToArray_only (s : State) :
    Only 5039503366591453974965251137095748402013639210860578783204782403728181989853947103735233123372026999840 187072209578355948105611600216019373937167624018056 s (State.ppeToArray s) := by
  unfold State.ppeToArray
  extract_lets +onlyGivenNames v0
  clear_value v0
  refine Only.foldl ?_ ?_
  · refine Only.step ?_ (State.ppeFinish_only ..)
    exact Only.refl _ _ _
  · intro u1 u2 h3
    split
    · rename_i a4 a5
      exact h3
    · rename_i a6 a7 a8
      refine Only.ite ?_ ?_
      · refine Only.step ?_ (State.ppeFinish_only ..)
        exact h3
      · split
        · rename_i a9 a10 a11
          refine Only.step ?_ (State.refuseItem_only ..)
          refine Only.step ?_ (State.refuseReport_only ..)
          exact h3
        · rename_i a12 a13 a14
          refine Only.step ?_ (State.startFailed_only ..)
          exact h3
        · rename_i a15 a16 a17
          refine Only.ite ?_ ?_
          · exact h3
          · refine Only.step ?_ (State.ppeFinish_only ..)
            refine Only.step ?_ (State.startItem_only ..)
            exact h3

theorem State.redone_only (s : State) (it : Item) (sector : Nat) :
    Only 5039503366591453974965251137095748402013639210860578783204782403728181989853947103735233123440746476576 187072209578355948105611600216019373937167624018056 s (State.redone s it sector) := by
  unfold State.redone
  refine Only.ite ?_ ?_
  · refine Only.step ?_ (State.commitOrtho_only ..)
    exact Only.refl _ _ _
  · refine Only.ite ?_ ?_
    · extract_lets +onlyGivenNames v0
      have h1 : Only 5039503366591453974965251137095748402013639210860578783204782403728181989853947103735233123440746476576 187072209578355948105611600216019373937167624018056 s v0 := by
        unfold v0
        refine Only.step ?_ (State.bandDone_only ..)
        refine Only.step ?_ (State.updItem_only ..)
        exact Only.refl _ _ _
      obtain ⟨w2, e3⟩ : ∃ x, x = v0 := ⟨_, rfl⟩
      rw [← e3] at h1 ⊢
      clear e3 v0
      refine Only.ite ?_ ?_
      · refine Only.step ?_ (State.ppeToArray_only ..)
        exact h1
      · exact h1
    · refine Only.step ?_ (State.foldPiece_only ..)
      exact Only.refl _ _ _

theorem execArrayRedoDone_only (id : Nat) (sector : Nat) (again : Bool) (s : State) :
    Keeps (execArrayRedoDone id sector again s) (Only 5039503366591453974965251137095748402013639210860578783204782403728181989853947103735233123440746476576 187072209578355948105611600216019373937167624018056 s) := by
  unfold execArrayRedoDone
  split
  · rename_i a0 a1
    refine Keeps.next ?_
    exact Only.refl _ _ _
  · rename_i a2 a3 a4
    extract_lets +onlyGivenNames v5
    clear_value v5
    extract_lets +onlyGivenNames v6
    clear_value v6
    extract_lets +onlyGivenNames v7
    have h8 : Only 5039503366591453974965251137095748402013639210860578783204782403728181989853947103735233123440746476576 187072209578355948105611600216019373937167624018056 s v7 := by
      unfold v7
      refine Only.step ?_ (State.helpDone_only ..)
      exact Only.refl _ _ _
    obtain ⟨w9, e10⟩ : ∃ x, x = v7 := ⟨_, rfl⟩
    rw [← e10] at h8 ⊢
    clear e10 v7
    refine Keeps.ite ?_ ?_
    · refine Keeps.next ?_
      exact Only.refl _ _ _
    · refine Keeps.ite ?_ ?_
      · refine Keeps.next ?_
        refine Only.step ?_ (State.endItem_only ..)
        refine Only.trans ?_ (State.event_only _ _ _ (by decide))
        refine Only.step ?_ (State.chargeMismatch_only ..)
        exact h8
      · refine State.within_only ?_
        refine Only.ite ?_ ?_
        · refine Only.step ?_ (State.settleHeld_only ..)
          exact h8
        · refine Only.step ?_ (State.redone_only ..)
          exact h8

theorem State.endPatch_only (s : State) (n : Nat) (st : Status) :
    Only 60892317978289574079721493228024861701921223438114428394744169184485445812367334324995623699349504 591579208330485242243663071867947200878441220701543202824 s (State.endPatch s n st) := by
  unfold State.endPatch
  extract_lets +onlyGivenNames v0
  unfold v0
  clear v0
  extract_lets +onlyGivenNames v1
  have h2 : Only 60892317978289574079721493228024861701921223438114428394744169184485445812367334324995623699349504 591579208330485242243663071867947200878441220701543202824 s v1 := by
    unfold v1
    refine Only.up_img ?_
    exact Only.refl _ _ _
  obtain ⟨w3, e4⟩ : ∃ x, x = v1 := ⟨_, rfl⟩
  rw [← e4] at h2 ⊢
  clear e4 v1
  refine Only.step ?_ (State.endLoad_only ..)
  refine Only.trans ?_ (State.event_only _ _ _ (by decide))
  refine Only.trans ?_ (State.setf_only _ _ _ _ (by decide))
  refine Only.trans ?_ (State.setf_only _ _ _ _ (by decide))
  refine Only.trans ?_ (State.setf_only _ _ _ _ (by decide))
  exact h2

theorem State.replacePatch_only (s : State) (n : Nat) (p : PatchRun) :
    Only 60892317978289574079721493228024861701921223438114428394744169184485445812367334324995623699349508 603839172657412353113188304076719506093198747799572709384 s (State.replacePatch s n p) := by
  unfold State.replacePatch
  extract_lets +onlyGivenNames v0
  clear_value v0
  extract_lets +onlyGivenNames v1
  unfold v1
  clear v1
  extract_lets +onlyGivenNames v2
  unfold v2
  clear v2
  extract_lets +onlyGivenNames v3
  have h4 : Only 60892317978289574079721493228024861701921223438114428394744169184485445812367334324995623699349508 603839172657412353113188304076719506093198747799572709384 s v3 := by
    unfold v3
    refine Only.up_bist_img ?_
    exact Only.refl _ _ _
  obtain ⟨w5, e6⟩ : ∃ x, x = v3 := ⟨_, rfl⟩
  rw [← e6] at h4 ⊢
  clear e6 v3
  refine Only.step ?_ (State.endPatch_only ..)
  refine Only.step ?_ (State.commitView_only ..)
  exact h4

theorem execDisable_only (u : Nat) (d : Nat) (s : State) :
    Keeps (execDisable u d s) (Only 68752245681582400035976662643311366737515187324181342518239701314735410796061718843708789778981920 49040044379918021823124360727312412325671214972679723400 s) := by
  unfold execDisable
  refine Keeps.next ?_
  refine State.twilightResult_only ?_
  refine Only.step ?_ (State.disable_only ..)
  exact Only.refl _ _ _

theorem execEnable_only (u : Nat) (s : State) :
    Keeps (execEnable u s) (Only 27521983392815352467545248904672865286007958921765000887634947411690947965558939509289920682914250699604000 2787593232893077629249206840569811223707656 s) := by
  unfold execEnable
  refine Keeps.next ?_
  refine State.twilightResult_only ?_
  refine Only.step ?_ (State.enable_only ..)
  exact Only.refl _ _ _

theorem State.clearDeadline_only (s : State) (u : Nat) :
    Only 0 49039857307708443467467104868809893875799651909875269632 s (State.clearDeadline s u) := by
  unfold State.clearDeadline
  refine Only.up_img ?_
  exact Only.refl _ _ _

theorem State.patchOn_only (s : State) (n : Nat) (p : PatchRun) :
    Only 27521983453574171256089766104244669657397223616523549163108229531659346392821758508897500162362109035806724 603839172657412353113271380826456063335255235740840230920 s (State.patchOn s n p) := by
  unfold State.patchOn
  extract_lets +onlyGivenNames v0
  have h1 : ∀ a0 a1, Only 27521983453574171256089766104244669657397223616523549163108229531659346392821758508897500162362109035806724 603839172657412353113271380826456063335255235740840230920 s a0 → Only 27521983453574171256089766104244669657397223616523549163108229531659346392821758508897500162362109035806724 603839172657412353113271380826456063335255235740840230920 s (v0 a0 a1) := by
    intro a0 a1 h20
    unfold v0
    refine Only.trans ?_ (State.setf_only _ _ _ _ (by decide))
    refine Only.up_img ?_
    exact h20
  clear_value v0
  refine Only.ite ?_ ?_
  · refine Only.step ?_ (State.askBist_only ..)
    refine Only.step ?_ (State.resetSector_only ..)
    apply h1
    exact Only.refl _ _ _
  · refine Only.step ?_ (State.replacePatch_only ..)
    refine Only.ite ?_ ?_
    · apply h1
      exact Only.refl _ _ _
    · refine Only.step ?_ (State.markDark_only ..)
      apply h1
      exact Only.refl _ _ _

theorem execReduceCountWait_only (id : Nat) (s : State) :
    Keeps (execReduceCountWait id s) (Only 1073741824 0 s) := by
  unfold execReduceCountWait
  split
  · rename_i a0 a1
    refine Keeps.next ?_
    exact Only.refl _ _ _
  · rename_i a2 a3 a4
    extract_lets +onlyGivenNames v5
    clear_value v5
    refine Keeps.next ?_
    refine Only.trans ?_ (State.eventIf_only _ _ _ _ (by decide))
    exact Only.refl _ _ _

theorem State.sectorDark_only (s : State) (n : Nat) (moved : List Nat) :
    Only 27521983453574171256089766104244669657397223616523549163108229531659346392821758508897500162362110109548548 603839172657412353113271380826456063646544041984697565320 s (State.sectorDark s n moved) := by
  unfold State.sectorDark
  extract_lets +onlyGivenNames v0
  have h1 : Only 27521983453574171256089766104244669657397223616523549163108229531659346392821758508897500162362110109548548 603839172657412353113271380826456063646544041984697565320 s v0 := by
    unfold v0
    refine Only.ite ?_ ?_
    · refine Only.step ?_ (State.sectorLoss_only ..)
      exact Only.refl _ _ _
    · exact Only.refl _ _ _
  obtain ⟨w2, e3⟩ : ∃ x, x = v0 := ⟨_, rfl⟩
  rw [← e3] at h1 ⊢
  clear e3 v0
  extract_lets +onlyGivenNames v4
  have h5 : Only 27521983453574171256089766104244669657397223616523549163108229531659346392821758508897500162362110109548548 603839172657412353113271380826456063646544041984697565320 s v4 := by
    unfold v4
    refine Only.step ?_ (State.markDark_only ..)
    exact h1
  obtain ⟨w6, e7⟩ : ∃ x, x = v4 := ⟨_, rfl⟩
  rw [← e7] at h5 ⊢
  clear e7 v4
  split
  · rename_i a8 a9 a10
    refine Only.step ?_ (State.askBist_only ..)
    exact h5
  · rename_i a11 a12 a13 a14 a15
    refine Only.step ?_ (State.patchOn_only ..)
    exact h5
  · rename_i a16 a17 a18 a19
    exact h5

theorem State.tileDark_only (s : State) (t : Nat) :
    Only 77696691394501211006005816037896366216008340938671585916753393083558927389116023379129939569583136 187072210195712858365421373299635196608207014566024 s (State.tileDark s t) := by
  unfold State.tileDark
  extract_lets +onlyGivenNames v0
  clear_value v0
  refine Only.step ?_ (State.darkTile_only ..)
  refine Only.step ?_ (State.markDark_only ..)
  refine Only.step ?_ (State.endWhere_only ..)
  exact Only.refl _ _ _

theorem State.iodBDark_only (s : State) :
    Only 9353580314693640072340137731951414807196432488413961328683578563903949660089550070161946292781056 2216158854849179205313930538702279386073556582536 s (State.iodBDark s) := by
  unfold State.iodBDark
  extract_lets +onlyGivenNames v0
  have h1 : Only 9353580314693640072340137731951414807196432488413961328683578563903949660089550070161946292781056 2216158854849179205313930538702279386073556582536 s v0 := by
    unfold v0
    refine Only.foldl ?_ ?_
    · refine Only.step ?_ (State.markDark_only ..)
      exact Only.refl _ _ _
    · intro u2 u3 h4
      refine Only.step ?_ (State.routeDown_only ..)
      exact h4
  obtain ⟨w5, e6⟩ : ∃ x, x = v0 := ⟨_, rfl⟩
  rw [← e6] at h1 ⊢
  clear e6 v0
  refine Only.foldl ?_ ?_
  · exact h1
  · intro u7 u8 h9
    refine Only.step ?_ (State.linkDown_only ..)
    exact h9

theorem State.goDark_only (s : State) (u : Nat) (moved : List Nat) :
    Only 27527022947604423867874786854988082864999996784286169402172756204024019181553556113207862268513430877942820 652879219253489847143149982932784721440594355746887932040 s (State.goDark s u moved) := by
  unfold State.goDark
  extract_lets +onlyGivenNames v0
  have h1 : Only 27527022947604423867874786854988082864999996784286169402172756204024019181553556113207862268513430877942820 652879219253489847143149982932784721440594355746887932040 s v0 := by
    unfold v0
    refine Only.step ?_ (State.clearDeadline_only ..)
    exact Only.refl _ _ _
  obtain ⟨w2, e3⟩ : ∃ x, x = v0 := ⟨_, rfl⟩
  rw [← e3] at h1 ⊢
  clear e3 v0
  refine Only.ite ?_ ?_
  · refine Only.step ?_ (State.sectorDark_only ..)
    exact h1
  · refine Only.ite ?_ ?_
    · extract_lets +onlyGivenNames v4
      clear_value v4
      extract_lets +onlyGivenNames v5
      have h6 : Only 27527022947604423867874786854988082864999996784286169402172756204024019181553556113207862268513430877942820 652879219253489847143149982932784721440594355746887932040 s v5 := by
        unfold v5
        refine State.stopTrackItems_only ?_ ?_
        · exact h1
        · intro u7 u8 h9
          refine Only.step ?_ (State.endItem_only ..)
          exact h9
      obtain ⟨w10, e11⟩ : ∃ x, x = v5 := ⟨_, rfl⟩
      rw [← e11] at h6 ⊢
      clear e11 v5
      refine Only.step ?_ (State.markDark_only ..)
      refine Only.step ?_ (State.syncTrack_only ..)
      refine Only.step ?_ (State.setTrack_only ..)
      exact h6
    · refine Only.ite ?_ ?_
      · refine Only.step ?_ (State.markDark_only ..)
        refine Only.step ?_ (State.ppeToArray_only ..)
        exact h1
      · refine Only.ite ?_ ?_
        · refine Only.step ?_ (State.tileDark_only ..)
          exact h1
        · refine Only.ite ?_ ?_
          · refine Only.step ?_ (State.iodBDark_only ..)
            exact h1
          · exact h1

theorem execTwilightDeadline_only (u : Nat) (moved : List Nat) (s : State) :
    Keeps (execTwilightDeadline u moved s) (Only 27527022947604423867874786854988082864999996784286169402172756204024019181553556113207862268513430877942820 652879219253489847143149982932784721440594355746887932040 s) := by
  unfold execTwilightDeadline
  split
  · rename_i a0 a1 a2
    refine Keeps.next ?_
    refine Only.ite ?_ ?_
    · refine Only.step ?_ (State.goDark_only ..)
      exact Only.refl _ _ _
    · exact Only.refl _ _ _
  · rename_i a3 a4
    refine Keeps.next ?_
    exact Only.refl _ _ _

theorem execUnitDark_only (u : Nat) (s : State) :
    Keeps (execUnitDark u s) (Only 27527022947604423867874786854988082864999996784286169402172756204024019181553556113207862268513430877942820 652879219253489847143149982932784721440594355746887932040 s) := by
  unfold execUnitDark
  refine Keeps.next ?_
  refine Only.ite ?_ ?_
  · refine Only.step ?_ (State.goDark_only ..)
    exact Only.refl _ _ _
  · exact Only.refl _ _ _

/-! ### Bist -/

theorem State.bistResult_only {B P : Nat} {s0 : State} {r : Status × State} (h : Only B P s0 r.2)
    (hb : 2239744742177804210557442280568444278121645497234649534899989100963791871180160945380877493271607115776 ||| B = B := by decide) : Only B P s0 (State.bistResult r) :=
  h.step (B := B) (P := P) (State.setf_only (B := 2239744742177804210557442280568444278121645497234649534899989100963791871180160945380877493271607115776) (P := 0) ..) hb (Nat.zero_or P)

theorem State.syncBist_only (s : State) :
    Only 559936185544451052639360570142111069530411374308662383724997275240947967795040236345219373317901778944 0 s (State.syncBist s) := by
  unfold State.syncBist
  extract_lets +onlyGivenNames v0
  clear_value v0
  extract_lets +onlyGivenNames v1
  clear_value v1
  refine Only.trans ?_ (State.setf_only _ _ _ _ (by decide))
  refine Only.trans ?_ (State.setf_only _ _ _ _ (by decide))
  refine Only.trans ?_ (State.setf_only _ _ _ _ (by decide))
  exact Only.refl _ _ _

theorem State.nextInCycle_only (s : State) (fuel : Nat) :
    Only 40875410163491418680016477447347894751489760677050645545976521210600415895560000453629823584561478411296 441358902841585569573370408519466054452214154822023354760 s (s.nextInCycle fuel) := by
  induction fuel generalizing s with
  | zero => exact Only.refl _ _ _
  | succ fuel ih =>
    unfold State.nextInCycle
    split
    · exact Only.refl _ _ _
    · refine Only.step ?_ (State.syncBist_only ..)
      refine Only.trans ?_ (State.event_only _ _ _)
      exact Only.up_bist (Only.refl _ _ _)
    · refine Only.ite ?_ (Only.ite ?_ ?_)
      · exact (Only.up_bist (Only.refl _ _ _)).step (ih _)
      · exact (Only.trans (Only.up_bist (Only.refl _ _ _)) (State.countEv_only _ _ _ _)).step (ih _)
      · refine Only.step ?_ (State.syncBist_only ..)
        refine Only.step ?_ (State.startDrain_only ..)
        exact Only.up_img (Only.up_bist (Only.refl _ _ _))

theorem State.startCycle_only (s : State) :
    Only 40875410163491418680016477447347894751489760677050645545976521210600415895560000453629823584561478411296 441358902841585569573370408519466054452214154822023354760 s (State.startCycle s) := by
  unfold State.startCycle
  refine Only.step ?_ (State.nextInCycle_only ..)
  refine Only.up_bist ?_
  exact Only.refl _ _ _

theorem State.runNow_only (s : State) :
    Only 40875410163491418680016477447347894751489760677050645545976521210600415895560000453629823584561478411296 441358902841585569573370408519466054452214154822023354760 s (State.runNow s).2 := by
  unfold State.runNow
  refine Only.iteSnd ?_ ?_
  · refine Only.pair _ ?_
    exact Only.refl _ _ _
  · refine Only.pair _ ?_
    refine Only.step ?_ (State.startCycle_only ..)
    exact Only.refl _ _ _

theorem State.unretire_only (s : State) (n : Nat) :
    Only 559936185544451052639360570142111069530411374308662383724997275240947967795040236345219373317901778944 83076749736557242056487941267521536 s (State.unretire s n).2 := by
  unfold State.unretire
  refine Only.iteSnd ?_ ?_
  · refine Only.pair _ ?_
    exact Only.refl _ _ _
  · refine Only.pair _ ?_
    refine Only.step ?_ (State.syncBist_only ..)
    refine Only.step ?_ (State.askBist_only ..)
    exact Only.refl _ _ _

theorem State.clearBins_only (s : State) (n : Nat) :
    Only 0 41538374868278621028243970633760768 s (State.clearBins s n) := by
  unfold State.clearBins
  refine Only.up_bist ?_
  exact Only.refl _ _ _

theorem State.afterBist_only (s : State) (r : BistRun) (pass : Bool) :
    Only 7279232105390980444227048031473811742339145792205705533277240937191158258479615840261177942004738293764 603839172657412353113229842451587785341416290276331225096 s (State.afterBist s r pass) := by
  unfold State.afterBist
  extract_lets +onlyGivenNames v0
  clear_value v0
  extract_lets +onlyGivenNames v1
  have h2 : Only 7279232105390980444227048031473811742339145792205705533277240937191158258479615840261177942004738293764 603839172657412353113229842451587785341416290276331225096 s v1 := by
    unfold v1
    refine Only.ite ?_ ?_
    · exact Only.refl _ _ _
    · refine Only.ite ?_ ?_
      · refine Only.step ?_ (State.setSec_only ..)
        exact Only.refl _ _ _
      · refine Only.step ?_ (State.setSec_only ..)
        exact Only.refl _ _ _
  obtain ⟨w3, e4⟩ : ∃ x, x = v1 := ⟨_, rfl⟩
  rw [← e4] at h2 ⊢
  clear e4 v1
  refine Only.ite ?_ ?_
  · split
    · rename_i a5 a6
      exact h2
    · rename_i a7 a8 a9
      refine Only.ite ?_ ?_
      · extract_lets +onlyGivenNames v10
        have h11 : Only 7279232105390980444227048031473811742339145792205705533277240937191158258479615840261177942004738293764 603839172657412353113229842451587785341416290276331225096 s v10 := by
          unfold v10
          refine Only.trans ?_ (State.setf_only _ _ _ _ (by decide))
          exact h2
        obtain ⟨w12, e13⟩ : ∃ x, x = v10 := ⟨_, rfl⟩
        rw [← e13] at h11 ⊢
        clear e13 v10
        refine Only.step ?_ (State.replacePatch_only ..)
        refine Only.ite ?_ ?_
        · refine Only.step ?_ (State.setSec_only ..)
          exact h11
        · refine Only.step ?_ (State.sectorJoins_only ..)
          exact h11
      · refine Only.step ?_ (State.endPatch_only ..)
        refine Only.trans ?_ (State.setf_only _ _ _ _ (by decide))
        exact h2
  · refine Only.ite ?_ ?_
    · refine Only.ite ?_ ?_
      · refine Only.step ?_ (State.sectorJoins_only ..)
        exact h2
      · exact h2
    · refine Only.ite ?_ ?_
      · refine Only.ite ?_ ?_
        · refine Only.trans ?_ (State.setf_only _ _ _ _ (by decide))
          refine Only.trans ?_ (State.event_only _ _ _ (by decide))
          refine Only.step ?_ (State.setSec_only ..)
          refine Only.step ?_ (State.clearBins_only ..)
          refine Only.trans ?_ (State.putBit_only _ _ _ _ _ (by decide))
          exact h2
        · refine Only.trans ?_ (State.setf_only _ _ _ _ (by decide))
          exact h2
      · refine Only.ite ?_ ?_
        · refine Only.ite ?_ ?_
          · refine Only.step ?_ (State.setSec_only ..)
            exact h2
          · exact h2
        · refine Only.ite ?_ ?_
          · refine Only.step ?_ (State.sectorJoins_only ..)
            exact h2
          · exact h2

theorem execBistEnd_only (n : Nat) (misr : Word) (boot : Word) (sramFail : Bool) (hbmFail : Bool) (s : State) :
    Keeps (execBistEnd n misr boot sramFail hbmFail s) (Only 27591975545118975750016915571040029614169265507273578210245924921612634185260321395750105614762330378118180 652879217037330374944163417654136522063288383536264354184 s) := by
  unfold execBistEnd
  split
  · rename_i a0 a1
    refine Keeps.next ?_
    exact Only.refl _ _ _
  · rename_i a2 a3 a4
    refine Keeps.ite ?_ ?_
    · refine Keeps.next ?_
      exact Only.refl _ _ _
    · extract_lets +onlyGivenNames v5
      clear_value v5
      extract_lets +onlyGivenNames v6
      unfold v6
      clear v6
      extract_lets +onlyGivenNames v7
      unfold v7
      clear v7
      extract_lets +onlyGivenNames v8
      have h9 : Only 27591975545118975750016915571040029614169265507273578210245924921612634185260321395750105614762330378118180 652879217037330374944163417654136522063288383536264354184 s v8 := by
        unfold v8
        refine Only.up_bist_img ?_
        exact Only.refl _ _ _
      obtain ⟨w10, e11⟩ : ∃ x, x = v8 := ⟨_, rfl⟩
      rw [← e11] at h9 ⊢
      clear e11 v8
      extract_lets +onlyGivenNames v12
      have h13 : Only 27591975545118975750016915571040029614169265507273578210245924921612634185260321395750105614762330378118180 652879217037330374944163417654136522063288383536264354184 s v12 := by
        unfold v12
        refine Only.trans ?_ (State.count_only _ _ _ _ (by decide))
        refine Only.trans ?_ (State.setf_only _ _ _ _ (by decide))
        refine Only.trans ?_ (State.setf_only _ _ _ _ (by decide))
        refine Only.trans ?_ (State.setf_only _ _ _ _ (by decide))
        refine Only.trans ?_ (State.setf_only _ _ _ _ (by decide))
        refine Only.trans ?_ (State.setf_only _ _ _ _ (by decide))
        refine Only.trans ?_ (State.setf_only _ _ _ _ (by decide))
        exact h9
      obtain ⟨w14, e15⟩ : ∃ x, x = v12 := ⟨_, rfl⟩
      rw [← e15] at h13 ⊢
      clear e15 v12
      extract_lets +onlyGivenNames v16
      have h17 : Only 27591975545118975750016915571040029614169265507273578210245924921612634185260321395750105614762330378118180 652879217037330374944163417654136522063288383536264354184 s v16 := by
        unfold v16
        refine Only.trans ?_ (State.putBit_only _ _ _ _ _ (by decide))
        refine Only.ite ?_ ?_
        · exact h13
        · refine Only.trans ?_ (State.countEv_only _ _ _ _ (by decide) (by decide))
          exact h13
      obtain ⟨w18, e19⟩ : ∃ x, x = v16 := ⟨_, rfl⟩
      rw [← e19] at h17 ⊢
      clear e19 v16
      extract_lets +onlyGivenNames v20
      have h21 : Only 27591975545118975750016915571040029614169265507273578210245924921612634185260321395750105614762330378118180 652879217037330374944163417654136522063288383536264354184 s v20 := by
        unfold v20
        refine Only.step ?_ (State.afterBist_only ..)
        exact h17
      obtain ⟨w22, e23⟩ : ∃ x, x = v20 := ⟨_, rfl⟩
      rw [← e23] at h21 ⊢
      clear e23 v20
      extract_lets +onlyGivenNames v24
      have h25 : Only 27591975545118975750016915571040029614169265507273578210245924921612634185260321395750105614762330378118180 652879217037330374944163417654136522063288383536264354184 s v24 := by
        unfold v24
        refine Only.ite ?_ ?_
        · refine Only.step ?_ (State.retireNow_only ..)
          exact h21
        · exact h21
      obtain ⟨w26, e27⟩ : ∃ x, x = v24 := ⟨_, rfl⟩
      rw [← e27] at h25 ⊢
      clear e27 v24
      refine Keeps.next ?_
      refine Only.step ?_ (State.syncBist_only ..)
      refine Only.ite ?_ ?_
      · refine Only.step ?_ (State.nextInCycle_only ..)
        exact h25
      · exact h25

theorem execBistPeriod_only (s : State) :
    Keeps (execBistPeriod s) (Only 40875410163491418680016477447347894751489760677050645545976521210600415895560000453629823584561478411296 441358902841585569573370408519466054452214154822023354760 s) := by
  unfold execBistPeriod
  extract_lets +onlyGivenNames v0
  clear_value v0
  refine Keeps.ite ?_ ?_
  · refine Keeps.next ?_
    refine Only.step ?_ (State.startCycle_only ..)
    exact Only.refl _ _ _
  · refine Keeps.next ?_
    exact Only.refl _ _ _

theorem execBistStart_only (n : Nat) (s : State) :
    Keeps (execBistStart n s) (Only 27522543328066402590382490104195185400628310283000620191493781345460277553370775339598770850481192455634944 249230249209671726169463823802564608 s) := by
  unfold execBistStart
  split
  · rename_i a0 a1
    refine Keeps.next ?_
    exact Only.refl _ _ _
  · rename_i a2 a3 a4
    refine Keeps.ite ?_ ?_
    · refine Keeps.next ?_
      exact Only.refl _ _ _
    · refine Keeps.ite ?_ ?_
      · refine Keeps.next ?_
        refine Only.trans ?_ (State.setf_only _ _ _ _ (by decide))
        exact Only.refl _ _ _
      · extract_lets +onlyGivenNames v5
        clear_value v5
        extract_lets +onlyGivenNames v6
        unfold v6
        clear v6
        extract_lets +onlyGivenNames v7
        have h8 : Only 27522543328066402590382490104195185400628310283000620191493781345460277553370775339598770850481192455634944 249230249209671726169463823802564608 s v7 := by
          unfold v7
          refine Only.up_bist ?_
          exact Only.refl _ _ _
        obtain ⟨w9, e10⟩ : ∃ x, x = v7 := ⟨_, rfl⟩
        rw [← e10] at h8 ⊢
        clear e10 v7
        refine Keeps.next ?_
        refine Only.step ?_ (State.syncBist_only ..)
        refine Only.trans ?_ (State.setf_only _ _ _ _ (by decide))
        refine Only.ite ?_ ?_
        · refine Only.step ?_ (State.resetSector_only ..)
          exact h8
        · exact h8

theorem execRunNow_only (s : State) :
    Keeps (execRunNow s) (Only 43115154905669222890573919727916339029611406174285295080876510311564207766740161399010701077833085527072 441358902841585569573370408519466054452214154822023354760 s) := by
  unfold execRunNow
  refine Keeps.next ?_
  refine State.bistResult_only ?_
  refine Only.step ?_ (State.runNow_only ..)
  exact Only.refl _ _ _

theorem execUnretire_only (n : Nat) (s : State) :
    Keeps (execUnretire n s) (Only 2799680927722255263196802850710555347652056871543311918624986376204739838975201181726096866589508894720 83076749736557242056487941267521536 s) := by
  unfold execUnretire
  refine Keeps.next ?_
  refine Only.ite ?_ ?_
  · refine State.bistResult_only ?_
    refine Only.step ?_ (State.unretire_only ..)
    exact Only.refl _ _ _
  · exact Only.refl _ _ _

end Sys2Proof.Machine
end

