-- ==== Sys2Proof/Laws/OnlyImage.lean ====
section
/-! SUPPORT. What each operation changes and what it leaves as it is: images, security, boot, power and the register space. One lemma per operation, stated with
the relation of Laws/Only.lean. -/

-- One theorem at a time: elaborated side by side, the theorems of the package take a thread each while they wait.
set_option Elab.async false

namespace Sys2Proof.Machine

/-! ### Activate -/

theorem State.raiseFloor_only (s : State) :
    Only 31829658464672457962479923612349945525882514854449779985950320427367077260944738638364672 0 s (State.raiseFloor s) := by
  unfold State.raiseFloor
  extract_lets +onlyGivenNames v0
  clear_value v0
  refine Only.trans ?_ (State.setf_only _ _ _ _ (by decide))
  refine Only.trans ?_ (State.setf_only _ _ _ _ (by decide))
  exact Only.refl _ _ _

theorem State.hostInEffect_only (s : State) :
    Only 0 95780971304118053647396689196894323976171195136475136 s (State.hostInEffect s) := by
  unfold State.hostInEffect
  extract_lets +onlyGivenNames v0
  clear_value v0
  refine Only.up_host ?_
  exact Only.refl _ _ _

theorem State.freshEngines_only (s : State) (im : Image) :
    Only 19342813113834066797395968 52755002508062604015972630333893942343901923075129344 s (State.freshEngines s im) := by
  unfold State.freshEngines
  extract_lets +onlyGivenNames v0
  unfold v0
  clear v0
  extract_lets +onlyGivenNames v1
  unfold v1
  clear v1
  extract_lets +onlyGivenNames v2
  unfold v2
  clear v2
  extract_lets +onlyGivenNames v3
  unfold v3
  clear v3
  extract_lets +onlyGivenNames v4
  unfold v4
  clear v4
  extract_lets +onlyGivenNames v5
  unfold v5
  clear v5
  extract_lets +onlyGivenNames v6
  unfold v6
  clear v6
  extract_lets +onlyGivenNames v7
  have h8 : Only 19342813113834066797395968 52755002508062604015972630333893942343901923075129344 s v7 := by
    unfold v7
    refine Only.up_arr_ppe_cmp_col_sch_peer_evt_cst_host ?_
    exact Only.refl _ _ _
  obtain ⟨w9, e10⟩ : ∃ x, x = v7 := ⟨_, rfl⟩
  rw [← e10] at h8 ⊢
  clear e10 v7
  refine Only.trans ?_ (State.setf_only _ _ _ _ (by decide))
  refine Only.step ?_ (State.clearTokens_only ..)
  extract_lets +onlyGivenNames v11
  have h12 : Only 19342813113834066797395968 52755002508062604015972630333893942343901923075129344 s v11 := by
    unfold v11
    refine Only.step ?_ (State.wipeKeys_only ..)
    exact h8
  obtain ⟨w13, e14⟩ : ∃ x, x = v11 := ⟨_, rfl⟩
  rw [← e14] at h12 ⊢
  clear e14 v11
  refine Only.up_ciph ?_
  exact h12

theorem tabWf_foldl {α : Type} {f : Tab Word → α → Tab Word} (l : List α) {t : Tab Word}
    (ht : tabWf resetWord t = true) (h : ∀ a x, tabWf resetWord a = true → tabWf resetWord (f a x) = true) :
    tabWf resetWord (l.foldl f t) = true := by
  induction l generalizing t with
  | nil => exact ht
  | cons x l ih => exact ih (h t x ht)

theorem tabWf_regsReset (p : Fld → Bool) (t : Tab Word) : tabWf resetWord (regsReset p t) = true := by
  refine tabWf_foldl t rfl fun a x ha => ?_
  split
  · exact tabWf_tset ha
  · exact ha

theorem tabWf_regsLoad {t : Tab Word} (ws : List (Nat × Word)) (ht : tabWf resetWord t = true) :
    tabWf resetWord (regsLoad t ws) = true := by
  refine tabWf_foldl ws ht fun a x ha => ?_
  split
  · exact tabWf_tset ha
  · exact ha

theorem State.withTables_only (s : State) (im : Image) (cxl : List Nat) :
    Only 1202453802380202612679414065556140558016349465041059773802132977424491020858679523053413887173001575952350707711 12259964326971723163887443194852342451270641979561614448 s (s.withTables im cxl) := by
  unfold State.withTables
  exact Only.of_all fun hs => ⟨tabWf_regsLoad _ (tabWf_regsReset _ _), hs.2⟩

theorem State.sizeWindows_only (s : State) :
    Only 3894222643901120721397872246915072 0 s (State.sizeWindows s) := by
  unfold State.sizeWindows
  refine Only.foldl ?_ ?_
  · exact Only.refl _ _ _
  · intro u0 u1 h2
    refine Only.trans ?_ (State.setf_only _ _ _ _ (by decide))
    refine Only.trans ?_ (State.setf_only _ _ _ _ (by decide))
    exact h2

theorem State.placed_only (s : State) (im : Image) (cxl : List Nat) :
    Only 1202453802380202612679414065556140558016349465041059773802132977424491020858679523053413887173001575952350707711 12259964326971723163887443194852342467411543044057472112 s (State.placed s im cxl) := by
  unfold State.placed
  extract_lets +onlyGivenNames v0
  clear_value v0
  extract_lets +onlyGivenNames v1
  have h2 : Only 1202453802380202612679414065556140558016349465041059773802132977424491020858679523053413887173001575952350707711 12259964326971723163887443194852342467411543044057472112 s v1 := by
    unfold v1
    refine Only.step ?_ (State.withTables_only ..)
    exact Only.refl _ _ _
  obtain ⟨w3, e4⟩ : ∃ x, x = v1 := ⟨_, rfl⟩
  rw [← e4] at h2 ⊢
  clear e4 v1
  extract_lets +onlyGivenNames v5
  have h6 : Only 1202453802380202612679414065556140558016349465041059773802132977424491020858679523053413887173001575952350707711 12259964326971723163887443194852342467411543044057472112 s v5 := by
    unfold v5
    refine Only.step ?_ (State.sizeWindows_only ..)
    refine Only.trans ?_ (State.setf_only _ _ _ _ (by decide))
    refine Only.trans ?_ (State.setf_only _ _ _ _ (by decide))
    refine Only.trans ?_ (State.setf_only _ _ _ _ (by decide))
    refine Only.trans ?_ (State.setf_only _ _ _ _ (by decide))
    exact h2
  obtain ⟨w7, e8⟩ : ∃ x, x = v5 := ⟨_, rfl⟩
  rw [← e8] at h6 ⊢
  clear e8 v5
  extract_lets +onlyGivenNames v9
  have h10 : Only 1202453802380202612679414065556140558016349465041059773802132977424491020858679523053413887173001575952350707711 12259964326971723163887443194852342467411543044057472112 s v9 := by
    unfold v9
    refine Only.foldl ?_ ?_
    · exact h6
    · intro u11 u12 h13
      extract_lets +onlyGivenNames v14
      clear_value v14
      refine Only.trans ?_ (State.setf_only _ _ _ _ (by decide))
      refine Only.trans ?_ (State.setf_only _ _ _ _ (by decide))
      refine Only.trans ?_ (State.setf_only _ _ _ _ (by decide))
      refine Only.trans ?_ (State.setf_only _ _ _ _ (by decide))
      exact h13
  obtain ⟨w15, e16⟩ : ∃ x, x = v9 := ⟨_, rfl⟩
  rw [← e16] at h10 ⊢
  clear e16 v9
  extract_lets +onlyGivenNames v17
  have h18 : Only 1202453802380202612679414065556140558016349465041059773802132977424491020858679523053413887173001575952350707711 12259964326971723163887443194852342467411543044057472112 s v17 := by
    unfold v17
    refine Only.foldl ?_ ?_
    · exact h10
    · intro u19 u20 h21
      refine Only.step ?_ (State.wrBytes_only ..)
      exact h21
  obtain ⟨w22, e23⟩ : ∃ x, x = v17 := ⟨_, rfl⟩
  rw [← e23] at h18 ⊢
  clear e23 v17
  extract_lets +onlyGivenNames v24
  have h25 : Only 1202453802380202612679414065556140558016349465041059773802132977424491020858679523053413887173001575952350707711 12259964326971723163887443194852342467411543044057472112 s v24 := by
    unfold v24
    refine Only.step ?_ (State.mirrorOwn_only ..)
    exact h18
  obtain ⟨w26, e27⟩ : ∃ x, x = v24 := ⟨_, rfl⟩
  rw [← e27] at h25 ⊢
  clear e27 v24
  refine Only.up_conf ?_
  exact h25

theorem State.startCst_only (s : State) (adopting : Bool) :
    Only 8148143905337944345073782858949804312763060272581772686214994116312639489068389557625421824 0 s (State.startCst s adopting) := by
  unfold State.startCst
  extract_lets +onlyGivenNames v0
  clear_value v0
  extract_lets +onlyGivenNames v1
  clear_value v1
  extract_lets +onlyGivenNames v2
  have h3 : Only 8148143905337944345073782858949804312763060272581772686214994116312639489068389557625421824 0 s v2 := by
    unfold v2
    refine Only.trans ?_ (State.setf_only _ _ _ _ (by decide))
    refine Only.trans ?_ (State.setf_only _ _ _ _ (by decide))
    exact Only.refl _ _ _
  obtain ⟨w4, e5⟩ : ∃ x, x = v2 := ⟨_, rfl⟩
  rw [← e5] at h3 ⊢
  clear e5 v2
  refine Only.trans ?_ (State.setf_only _ _ _ _ (by decide))
  refine Only.trans ?_ (State.setf_only _ _ _ _ (by decide))
  exact h3

theorem State.unitsBack_only (s : State) :
    Only 800995138470341280898133139813582042976014195883744788730140602933332397167740206258610782633984 49039857307708443467467104868809893875799651909875269632 s (State.unitsBack s) := by
  unfold State.unitsBack
  extract_lets +onlyGivenNames v0
  clear_value v0
  extract_lets +onlyGivenNames v1
  have h2 : Only 800995138470341280898133139813582042976014195883744788730140602933332397167740206258610782633984 49039857307708443467467104868809893875799651909875269632 s v1 := by
    unfold v1
    refine Only.foldl ?_ ?_
    · exact Only.refl _ _ _
    · intro u3 u4 h5
      refine Only.step ?_ (State.markRunning_only ..)
      refine Only.step ?_ (State.clearDeadline_only ..)
      exact h5
  obtain ⟨w6, e7⟩ : ∃ x, x = v1 := ⟨_, rfl⟩
  rw [← e7] at h2 ⊢
  clear e7 v1
  refine Only.foldl ?_ ?_
  · exact h2
  · intro u8 u9 h10
    refine Only.step ?_ (State.setTrack_only ..)
    exact h10

theorem State.showImage_only (s : State) (im : Image) :
    Only 83436993590660550093555535397248129476668145404556748826056312805555458038306271485271956520960 0 s (State.showImage s im) := by
  unfold State.showImage
  extract_lets +onlyGivenNames v0
  have h1 : Only 83436993590660550093555535397248129476668145404556748826056312805555458038306271485271956520960 0 s v0 := by
    unfold v0
    refine Only.foldl ?_ ?_
    · exact Only.refl _ _ _
    · intro u2 u3 h4
      refine Only.trans ?_ (State.setf_only _ _ _ _ (by decide))
      exact h4
  obtain ⟨w5, e6⟩ : ∃ x, x = v0 := ⟨_, rfl⟩
  rw [← e6] at h1 ⊢
  clear e6 v0
  refine Only.trans ?_ (State.setf_only _ _ _ _ (by decide))
  refine Only.trans ?_ (State.setf_only _ _ _ _ (by decide))
  refine Only.trans ?_ (State.setf_only _ _ _ _ (by decide))
  refine Only.trans ?_ (State.setf_only _ _ _ _ (by decide))
  refine Only.trans ?_ (State.setf_only _ _ _ _ (by decide))
  refine Only.trans ?_ (State.setf_only _ _ _ _ (by decide))
  refine Only.trans ?_ (State.setf_only _ _ _ _ (by decide))
  exact h1

theorem State.startCxl_only (s : State) :
    Only 0 8 s (State.startCxl s) := by
  unfold State.startCxl
  refine Only.step ?_ (State.emit_only ..)
  refine Only.foldl ?_ ?_
  · exact Only.refl _ _ _
  · intro u0 u1 h2
    refine Only.step ?_ (State.emit_only ..)
    exact h2

theorem State.openSessionsAnew_only (s : State) :
    Only 81139541934920964737988198137856 20426010648208774535835549696 s (State.openSessionsAnew s) := by
  unfold State.openSessionsAnew
  extract_lets +onlyGivenNames v0
  have h1 : Only 81139541934920964737988198137856 20426010648208774535835549696 s v0 := by
    unfold v0
    refine Only.trans ?_ (State.setf_only _ _ _ _ (by decide))
    exact Only.refl _ _ _
  obtain ⟨w2, e3⟩ : ∃ x, x = v0 := ⟨_, rfl⟩
  rw [← e3] at h1 ⊢
  clear e3 v0
  refine Only.foldl ?_ ?_
  · exact h1
  · intro u4 u5 h6
    extract_lets +onlyGivenNames v7
    clear_value v7
    extract_lets +onlyGivenNames v8
    have h9 : Only 81139541934920964737988198137856 20426010648208774535835549696 s v8 := by
      unfold v8
      refine Only.step ?_ (State.setWatch_only ..)
      refine Only.step ?_ (State.updSess_only ..)
      exact h6
    obtain ⟨w10, e11⟩ : ∃ x, x = v8 := ⟨_, rfl⟩
    rw [← e11] at h9 ⊢
    clear e11 v8
    refine Only.ite ?_ ?_
    · exact h9
    · refine Only.step ?_ (State.setSessState_only ..)
      exact h9

theorem State.startLasers_only (s : State) :
    Only 201266470632461361588994834288847459519338319921425393123328 356801034140748500233740664374935967512920064 s (State.startLasers s) := by
  unfold State.startLasers
  extract_lets +onlyGivenNames v0
  unfold v0
  clear v0
  extract_lets +onlyGivenNames v1
  clear_value v1
  extract_lets +onlyGivenNames v2
  have h3 : Only 201266470632461361588994834288847459519338319921425393123328 356801034140748500233740664374935967512920064 s v2 := by
    unfold v2
    refine Only.trans ?_ (State.setf_only _ _ _ _ (by decide))
    refine Only.up_opt ?_
    exact Only.refl _ _ _
  obtain ⟨w4, e5⟩ : ∃ x, x = v2 := ⟨_, rfl⟩
  rw [← e5] at h3 ⊢
  clear e5 v2
  extract_lets +onlyGivenNames v6
  have h7 : Only 201266470632461361588994834288847459519338319921425393123328 356801034140748500233740664374935967512920064 s v6 := by
    unfold v6
    refine Only.foldl ?_ ?_
    · exact h3
    · intro u8 u9 h10
      refine Only.ite ?_ ?_
      · refine Only.step ?_ (State.syncReserve_only ..)
        refine Only.foldl ?_ ?_
        · exact h10
        · intro u11 u12 h13
          refine Only.ite ?_ ?_
          · refine Only.step ?_ (State.setUsage_only ..)
            exact h13
          · exact h13
      · exact h10
  obtain ⟨w14, e15⟩ : ∃ x, x = v6 := ⟨_, rfl⟩
  rw [← e15] at h7 ⊢
  clear e15 v6
  refine Only.step ?_ (State.syncCircuits_only ..)
  refine Only.step ?_ (State.syncPkt_only ..)
  refine Only.foldl ?_ ?_
  · exact h7
  · intro u16 u17 h18
    refine Only.step ?_ (State.tileToApr_only ..)
    exact h18

theorem State.applyRecords_only (s : State) :
    Only 9344943282153981610478219964491790502993770329569346144060269126563373902812505400135727007662080 311288806243857334400 s (State.applyRecords s) := by
  unfold State.applyRecords
  refine Only.foldl ?_ ?_
  · exact Only.refl _ _ _
  · intro u0 u1 h2
    refine Only.step ?_ (State.markDark_only ..)
    refine Only.ite ?_ ?_
    · refine Only.step ?_ (State.sectorLeaves_only ..)
      exact h2
    · exact h2

theorem State.freshResiduals_only (s : State) :
    Only 0 18446744073709551616 s (State.freshResiduals s) := by
  unfold State.freshResiduals
  refine Only.up_mem ?_
  exact Only.refl _ _ _

theorem State.syncChannels_only (s : State) :
    Only 167100607433688311764208435377331802273753266667908833059995896236101590996211214179106816000 187072209578355579290275986024758626916978730729480 s (State.syncChannels s) := by
  unfold State.syncChannels
  refine Only.foldl ?_ ?_
  · exact Only.refl _ _ _
  · intro u0 u1 h2
    refine Only.step ?_ (State.setTarget_only ..)
    exact h2

theorem State.activate_only (s : State) (im : Image) (cxl : List Nat) (rejected : Bool) :
    Only 1202453802380202612679414065556140558016349465041059773802132977424491020858679523053413887173001575952350707711 190178170137655188153901346204868019382015170397539900664 s (State.activate s im cxl rejected) := by
  unfold State.activate
  extract_lets +onlyGivenNames v0
  clear_value v0
  extract_lets +onlyGivenNames v1
  clear_value v1
  extract_lets +onlyGivenNames v2
  have h3 : Only 1202453802380202612679414065556140558016349465041059773802132977424491020858679523053413887173001575952350707711 190178170137655188153901346204868019382015170397539900664 s v2 := by
    unfold v2
    refine Only.step ?_ (State.timeRouteDown_only ..)
    refine Only.step ?_ (State.timeRouteDown_only ..)
    refine Only.step ?_ (State.cancelSwap_only ..)
    exact Only.refl _ _ _
  obtain ⟨w4, e5⟩ : ∃ x, x = v2 := ⟨_, rfl⟩
  rw [← e5] at h3 ⊢
  clear e5 v2
  extract_lets +onlyGivenNames v6
  have h7 : Only 1202453802380202612679414065556140558016349465041059773802132977424491020858679523053413887173001575952350707711 190178170137655188153901346204868019382015170397539900664 s v6 := by
    unfold v6
    refine Only.foldl ?_ ?_
    · exact h3
    · intro u8 u9 h10
      refine Only.step ?_ (State.completion_only ..)
      refine Only.trans ?_ (State.count_only _ _ _ _ (by decide))
      exact h10
  obtain ⟨w11, e12⟩ : ∃ x, x = v6 := ⟨_, rfl⟩
  rw [← e12] at h7 ⊢
  clear e12 v6
  extract_lets +onlyGivenNames v13
  have h14 : Only 1202453802380202612679414065556140558016349465041059773802132977424491020858679523053413887173001575952350707711 190178170137655188153901346204868019382015170397539900664 s v13 := by
    unfold v13
    refine Only.trans ?_ (State.setf_only _ _ _ _ (by decide))
    refine Only.step ?_ (State.freshEngines_only ..)
    refine Only.step ?_ (State.placed_only ..)
    exact h7
  obtain ⟨w15, e16⟩ : ∃ x, x = v13 := ⟨_, rfl⟩
  rw [← e16] at h14 ⊢
  clear e16 v13
  extract_lets +onlyGivenNames v17
  clear_value v17
  extract_lets +onlyGivenNames v18
  unfold v18
  clear v18
  extract_lets +onlyGivenNames v19
  unfold v19
  clear v19
  extract_lets +onlyGivenNames v20
  have h21 : Only 1202453802380202612679414065556140558016349465041059773802132977424491020858679523053413887173001575952350707711 190178170137655188153901346204868019382015170397539900664 s v20 := by
    unfold v20
    refine Only.up_peer_img ?_
    exact h14
  obtain ⟨w22, e23⟩ : ∃ x, x = v20 := ⟨_, rfl⟩
  rw [← e23] at h21 ⊢
  clear e23 v20
  extract_lets +onlyGivenNames v24
  have h25 : Only 1202453802380202612679414065556140558016349465041059773802132977424491020858679523053413887173001575952350707711 190178170137655188153901346204868019382015170397539900664 s v24 := by
    unfold v24
    refine Only.step ?_ (State.startCst_only ..)
    refine Only.step ?_ (State.unitsBack_only ..)
    exact h21
  obtain ⟨w26, e27⟩ : ∃ x, x = v24 := ⟨_, rfl⟩
  rw [← e27] at h25 ⊢
  clear e27 v24
  extract_lets +onlyGivenNames v28
  have h29 : Only 1202453802380202612679414065556140558016349465041059773802132977424491020858679523053413887173001575952350707711 190178170137655188153901346204868019382015170397539900664 s v28 := by
    unfold v28
    refine Only.trans ?_ (State.event_only _ _ _ (by decide))
    refine Only.step ?_ (State.showImage_only ..)
    exact h25
  obtain ⟨w30, e31⟩ : ∃ x, x = v28 := ⟨_, rfl⟩
  rw [← e31] at h29 ⊢
  clear e31 v28
  extract_lets +onlyGivenNames v32
  have h33 : Only 1202453802380202612679414065556140558016349465041059773802132977424491020858679523053413887173001575952350707711 190178170137655188153901346204868019382015170397539900664 s v32 := by
    unfold v32
    refine Only.step ?_ (State.startCxl_only ..)
    refine Only.trans ?_ (State.eventIf_only _ _ _ _ (by decide))
    refine Only.trans ?_ (State.setf_only _ _ _ _ (by decide))
    exact h29
  obtain ⟨w34, e35⟩ : ∃ x, x = v32 := ⟨_, rfl⟩
  rw [← e35] at h33 ⊢
  clear e35 v32
  extract_lets +onlyGivenNames v36
  have h37 : Only 1202453802380202612679414065556140558016349465041059773802132977424491020858679523053413887173001575952350707711 190178170137655188153901346204868019382015170397539900664 s v36 := by
    unfold v36
    refine Only.step ?_ (State.openSessionsAnew_only ..)
    refine Only.step ?_ (State.askQuickCal_only ..)
    refine Only.step ?_ (State.startLasers_only ..)
    refine Only.step ?_ (State.applyRecords_only ..)
    refine Only.ite ?_ ?_
    · refine Only.step ?_ (State.freshResiduals_only ..)
      exact h33
    · exact h33
  obtain ⟨w38, e39⟩ : ∃ x, x = v36 := ⟨_, rfl⟩
  rw [← e39] at h37 ⊢
  clear e39 v36
  extract_lets +onlyGivenNames v40
  have h41 : Only 1202453802380202612679414065556140558016349465041059773802132977424491020858679523053413887173001575952350707711 190178170137655188153901346204868019382015170397539900664 s v40 := by
    unfold v40
    refine Only.step ?_ (State.syncCache_only ..)
    refine Only.step ?_ (State.syncPools_only ..)
    refine Only.step ?_ (State.syncAdhoc_only ..)
    refine Only.step ?_ (State.syncMeridian_only ..)
    refine Only.step ?_ (State.startTracks_only ..)
    exact h37
  obtain ⟨w42, e43⟩ : ∃ x, x = v40 := ⟨_, rfl⟩
  rw [← e43] at h41 ⊢
  clear e43 v40
  refine Only.step ?_ (State.commitView_only ..)
  refine Only.foldl ?_ ?_
  · refine Only.step ?_ (State.driveTx_only ..)
    refine Only.step ?_ (State.raiseFloor_only ..)
    refine Only.step ?_ (State.syncChannels_only ..)
    refine Only.step ?_ (State.hostInEffect_only ..)
    exact h41
  · intro u44 u45 h46
    refine Only.step ?_ (State.syncTim_only ..)
    exact h46

/-! ### Image -/

theorem State.startActivation_only (s : State) :
    Only 68635433890555475265845684893755219356247851920614963069883222476807633154808090063629409039852576 147119758995334908757975493715195642835214030851162741128 s (State.startActivation s) := by
  unfold State.startActivation
  refine Only.ite ?_ ?_
  · exact Only.refl _ _ _
  · extract_lets +onlyGivenNames v0
    clear_value v0
    extract_lets +onlyGivenNames v1
    unfold v1
    clear v1
    extract_lets +onlyGivenNames v2
    have h3 : Only 68635433890555475265845684893755219356247851920614963069883222476807633154808090063629409039852576 147119758995334908757975493715195642835214030851162741128 s v2 := by
      unfold v2
      refine Only.trans ?_ (State.setf_only _ _ _ _ (by decide))
      refine Only.up_img ?_
      exact Only.refl _ _ _
    obtain ⟨w4, e5⟩ : ∃ x, x = v2 := ⟨_, rfl⟩
    rw [← e5] at h3 ⊢
    clear e5 v2
    extract_lets +onlyGivenNames v6
    have h7 : Only 68635433890555475265845684893755219356247851920614963069883222476807633154808090063629409039852576 147119758995334908757975493715195642835214030851162741128 s v6 := by
      unfold v6
      refine Only.foldl ?_ ?_
      · exact h3
      · intro u8 u9 h10
        refine Only.step ?_ (State.startDrain_only ..)
        exact h10
    obtain ⟨w11, e12⟩ : ∃ x, x = v6 := ⟨_, rfl⟩
    rw [← e12] at h7 ⊢
    clear e12 v6
    refine Only.ite ?_ ?_
    · refine Only.foldl ?_ ?_
      · exact h7
      · intro u13 u14 h15
        refine Only.step ?_ (State.emit_only ..)
        exact h15
    · exact h7

theorem execActivate_only (s : State) :
    Keeps (execActivate s) (Only 68635433890555475265845684893755219356247851920614963069883222476807633154808090063629409039852576 147119758995334908757975493715195642835214030851162741128 s) := by
  unfold execActivate
  refine Keeps.next ?_
  refine Only.step ?_ (State.startActivation_only ..)
  exact Only.refl _ _ _

theorem State.discard_only (s : State) :
    Only 16687398718132110018711107403284922776146978177009284892497841941713509964349771404060647227392 24519928653854221733733552434405003606297620390680199168 s (State.discard s) := by
  unfold State.discard
  refine Only.ite ?_ ?_
  · exact Only.refl _ _ _
  · refine Only.step ?_ (State.dropStaging_only ..)
    refine Only.trans ?_ (State.setf_only _ _ _ _ (by decide))
    refine Only.up_img ?_
    exact Only.refl _ _ _

theorem State.setFw_only (s : State) (r : Option FwRun) :
    Only 2135987035920910082395021706169552114602704522356652769947041607822219725780640550022962086936576 784637716923335095479473677900958302012794430558004314112 s (State.setFw s r) := by
  unfold State.setFw
  refine Only.trans ?_ (State.setf_only _ _ _ _ (by decide))
  refine Only.trans ?_ (State.setf_only _ _ _ _ (by decide))
  refine Only.up_img ?_
  exact Only.refl _ _ _

theorem State.drainMp_only (s : State) (m : Nat) :
    Only 2402985415411023842694399419440746128928042587651234366190421808799997191503220618775832347803648 784637716923335095479473677900958302012794430558004314112 s (State.drainMp s m) := by
  unfold State.drainMp
  refine Only.trans ?_ (State.putBit_only _ _ _ _ _ (by decide))
  refine Only.step ?_ (State.setFw_only ..)
  exact Only.refl _ _ _

theorem State.restartFw_only (s : State) :
    Only 2402985415411023842694399419440746128928042587651234366190421808799997191503220618775832347803648 784637716923335095479473677900958302012794430558004314112 s (State.restartFw s).2 := by
  unfold State.restartFw
  refine Only.iteSnd ?_ ?_
  · refine Only.pair _ ?_
    exact Only.refl _ _ _
  · refine Only.iteSnd ?_ ?_
    · refine Only.pair _ ?_
      exact Only.refl _ _ _
    · refine Only.pair _ ?_
      refine Only.step ?_ (State.drainMp_only ..)
      exact Only.refl _ _ _

theorem execDiscard_only (s : State) :
    Keeps (execDiscard s) (Only 16687398718132110018711107403284922776146978177009284892497841941713509964349771404060647227392 24519928653854221733733552434405003606297620390680199168 s) := by
  unfold execDiscard
  refine Keeps.next ?_
  refine Only.step ?_ (State.discard_only ..)
  exact Only.refl _ _ _

theorem execImageActivation_only (cxl : List Nat) (rejected : Bool) (s : State) :
    Keeps (execImageActivation cxl rejected s) (Only 1202453802380202612679414065556140558016349465041059773802132977424491020858679523053413887173001575952350707711 190178170137655188153901346204868019382015170397539900664 s) := by
  unfold execImageActivation
  split
  · rename_i a0 a1 a2
    refine Keeps.next ?_
    refine Only.ite ?_ ?_
    · refine Only.step ?_ (State.dropStaging_only ..)
      refine Only.step ?_ (State.activate_only ..)
      exact Only.refl _ _ _
    · exact Only.refl _ _ _
  · rename_i a3 a4
    refine Keeps.next ?_
    exact Only.refl _ _ _

theorem State.bootStage_only (s : State) (n : Nat) :
    Only 2 0 s (State.bootStage s n) := by
  unfold State.bootStage
  refine Only.ite ?_ ?_
  · exact Only.refl _ _ _
  · refine Only.trans ?_ (State.setf_only _ _ _ _ (by decide))
    exact Only.refl _ _ _

theorem State.showVerdict_only (s : State) (v : Finding) :
    Only 8749019586530765829600027619577564911038573057201930657052847636902373107889111354148349762483519488 0 s (State.showVerdict s v) := by
  unfold State.showVerdict
  refine Only.trans ?_ (State.eventIf_only _ _ _ _ (by decide))
  refine Only.trans ?_ (State.setf_only _ _ _ _ (by decide))
  refine Only.trans ?_ (State.setf_only _ _ _ _ (by decide))
  refine Only.trans ?_ (State.setf_only _ _ _ _ (by decide))
  exact Only.refl _ _ _

theorem State.refuseLoad_only (s : State) (v : Finding) :
    Only 8808827223592376816528532890845425547057297594749785847712853074020386332746980706944036850748096514 3100920637983920634057813442228474368845397783039967240 s (State.refuseLoad s v) := by
  unfold State.refuseLoad
  refine Only.step ?_ (State.endLoad_only ..)
  refine Only.step ?_ (State.bootStage_only ..)
  refine Only.step ?_ (State.showVerdict_only ..)
  exact Only.refl _ _ _

theorem State.takeFull_only (s : State) (im : Image) (cxl : List Nat) (rejected : Bool) :
    Only 1202453802380202612679414065556140558016349465041059773802132977424491020858679523053413887173001575952350707711 193279090775639108787959159647096134851007870087543627000 s (State.takeFull s im cxl rejected) := by
  unfold State.takeFull
  refine Only.ite ?_ ?_
  · refine Only.step ?_ (State.endLoad_only ..)
    refine Only.trans ?_ (State.setf_only _ _ _ _ (by decide))
    refine Only.step ?_ (State.activate_only ..)
    exact Only.refl _ _ _
  · extract_lets +onlyGivenNames v0
    unfold v0
    clear v0
    extract_lets +onlyGivenNames v1
    have h2 : Only 1202453802380202612679414065556140558016349465041059773802132977424491020858679523053413887173001575952350707711 193279090775639108787959159647096134851007870087543627000 s v1 := by
      unfold v1
      refine Only.up_img ?_
      exact Only.refl _ _ _
    obtain ⟨w3, e4⟩ : ∃ x, x = v1 := ⟨_, rfl⟩
    rw [← e4] at h2 ⊢
    clear e4 v1
    refine Only.step ?_ (State.endLoad_only ..)
    refine Only.trans ?_ (State.event_only _ _ _ (by decide))
    refine Only.trans ?_ (State.setf_only _ _ _ _ (by decide))
    refine Only.step ?_ (State.showVerdict_only ..)
    exact h2

theorem State.takeAlmanac_only (s : State) (im : Image) :
    Only 8808827223592376816528532890845425547057297594749785847712853074020386332746980706944036850748162310 3100920637983920634057813442228474368845397783039967304 s (State.takeAlmanac s im) := by
  unfold State.takeAlmanac
  refine Only.ite ?_ ?_
  · refine Only.step ?_ (State.refuseLoad_only ..)
    exact Only.refl _ _ _
  · extract_lets +onlyGivenNames v0
    unfold v0
    clear v0
    extract_lets +onlyGivenNames v1
    have h2 : Only 8808827223592376816528532890845425547057297594749785847712853074020386332746980706944036850748162310 3100920637983920634057813442228474368845397783039967304 s v1 := by
      unfold v1
      refine Only.trans ?_ (State.setf_only _ _ _ _ (by decide))
      refine Only.up_seq ?_
      exact Only.refl _ _ _
    obtain ⟨w3, e4⟩ : ∃ x, x = v1 := ⟨_, rfl⟩
    rw [← e4] at h2 ⊢
    clear e4 v1
    extract_lets +onlyGivenNames v5
    have h6 : Only 8808827223592376816528532890845425547057297594749785847712853074020386332746980706944036850748162310 3100920637983920634057813442228474368845397783039967304 s v5 := by
      unfold v5
      refine Only.foldl ?_ ?_
      · exact h2
      · intro u7 u8 h9
        extract_lets +onlyGivenNames v10
        clear_value v10
        refine Only.trans ?_ (State.setf_only _ _ _ _ (by decide))
        refine Only.trans ?_ (State.setf_only _ _ _ _ (by decide))
        exact h9
    obtain ⟨w11, e12⟩ : ∃ x, x = v5 := ⟨_, rfl⟩
    rw [← e12] at h6 ⊢
    clear e12 v5
    refine Only.step ?_ (State.endLoad_only ..)
    refine Only.step ?_ (State.commitView_only ..)
    refine Only.step ?_ (State.showVerdict_only ..)
    exact h6

theorem State.takePatch_only (s : State) (im : Image) :
    Only 27521992270928818500484692989781174200963425446740701568842357147947154374180734883000150286100928944579622 652879217037330374936312664804031861750472168336509868424 s (State.takePatch s im) := by
  unfold State.takePatch
  extract_lets +onlyGivenNames v0
  clear_value v0
  extract_lets +onlyGivenNames v1
  clear_value v1
  refine Only.ite ?_ ?_
  · refine Only.step ?_ (State.refuseLoad_only ..)
    exact Only.refl _ _ _
  · extract_lets +onlyGivenNames v2
    clear_value v2
    extract_lets +onlyGivenNames v3
    unfold v3
    clear v3
    extract_lets +onlyGivenNames v4
    have h5 : Only 27521992270928818500484692989781174200963425446740701568842357147947154374180734883000150286100928944579622 652879217037330374936312664804031861750472168336509868424 s v4 := by
      unfold v4
      refine Only.up_img ?_
      exact Only.refl _ _ _
    obtain ⟨w6, e7⟩ : ∃ x, x = v4 := ⟨_, rfl⟩
    rw [← e7] at h5 ⊢
    clear e7 v4
    extract_lets +onlyGivenNames v8
    have h9 : Only 27521992270928818500484692989781174200963425446740701568842357147947154374180734883000150286100928944579622 652879217037330374936312664804031861750472168336509868424 s v8 := by
      unfold v8
      refine Only.trans ?_ (State.setf_only _ _ _ _ (by decide))
      refine Only.trans ?_ (State.setf_only _ _ _ _ (by decide))
      refine Only.trans ?_ (State.setf_only _ _ _ _ (by decide))
      refine Only.step ?_ (State.showVerdict_only ..)
      exact h5
    obtain ⟨w10, e11⟩ : ∃ x, x = v8 := ⟨_, rfl⟩
    rw [← e11] at h9 ⊢
    clear e11 v8
    refine Only.ite ?_ ?_
    · refine Only.step ?_ (State.startDrain_only ..)
      exact h9
    · refine Only.step ?_ (State.patchOn_only ..)
      exact h9

theorem State.takeImage_only (s : State) (im : Image) (cxl : List Nat) (rejected : Bool) :
    Only 1202453802380202612679414065556140558016349465041059773802132977424491020858679523053413887173001575952350707711 781757378468140430397647494822551418602660180947321724408 s (State.takeImage s im cxl rejected) := by
  unfold State.takeImage
  refine Only.ite ?_ ?_
  · refine Only.step ?_ (State.takeFull_only ..)
    exact Only.refl _ _ _
  · refine Only.ite ?_ ?_
    · refine Only.step ?_ (State.takeAlmanac_only ..)
      exact Only.refl _ _ _
    · refine Only.step ?_ (State.takePatch_only ..)
      exact Only.refl _ _ _

theorem State.verifyImage_only (s : State) (im : Image) (cxl : List Nat) (rejected : Bool) (others : List PartCode) :
    Only 1202453802380202612679414065556140558016349465041059773802132977424491020858679523053413887173001575952350707711 781757378468140430397647494822551418602660180947321724408 s (State.verifyImage s im cxl rejected others) := by
  unfold State.verifyImage
  extract_lets +onlyGivenNames v0
  clear_value v0
  split
  · rename_i a1 a2
    refine Only.step ?_ (State.takeImage_only ..)
    refine Only.step ?_ (State.fitReport_only ..)
    exact Only.refl _ _ _
  · rename_i a3 a4 a5
    refine Only.step ?_ (State.refuseLoad_only ..)
    refine Only.step ?_ (State.fitReport_only ..)
    exact Only.refl _ _ _

theorem State.verifyLoad_only (s : State) (l : Load) (sigOk : Bool) (body : ImageBody) (cxl : List Nat) (rejected : Bool) (others : List PartCode) :
    Only 1202453802380202612679414065556140558016349465041059773802132977424491020858679523053413887173001575952350707711 781757378468140430397647494822551418602660180947321724408 s (State.verifyLoad s l sigOk body cxl rejected others) := by
  unfold State.verifyLoad
  extract_lets +onlyGivenNames v0
  have h1 : Only 1202453802380202612679414065556140558016349465041059773802132977424491020858679523053413887173001575952350707711 781757378468140430397647494822551418602660180947321724408 s v0 := by
    unfold v0
    refine Only.step ?_ (State.bootStage_only ..)
    exact Only.refl _ _ _
  obtain ⟨w2, e3⟩ : ∃ x, x = v0 := ⟨_, rfl⟩
  rw [← e3] at h1 ⊢
  clear e3 v0
  split
  · rename_i a4 a5 a6
    refine Only.step ?_ (State.refuseLoad_only ..)
    exact h1
  · rename_i a7 a8 a9
    split
    · rename_i a10 a11 a12
      refine Only.step ?_ (State.refuseLoad_only ..)
      exact h1
    · rename_i a13 a14 a15
      refine Only.step ?_ (State.verifyImage_only ..)
      exact h1

theorem State.verifyArea_only (s : State) (im : Image) (sigOk : Bool) (cxl : List Nat) (rejected : Bool) :
    Only 1202453802380202612679414065556140558016349465041059773802132977424491020858679523053413887173001575952350707711 781757378468140430397647494822551418602660180947321724408 s (State.verifyArea s im sigOk cxl rejected) := by
  unfold State.verifyArea
  refine Only.ite ?_ ?_
  · refine Only.step ?_ (State.refuseLoad_only ..)
    exact Only.refl _ _ _
  · refine Only.ite ?_ ?_
    · refine Only.step ?_ (State.refuseLoad_only ..)
      exact Only.refl _ _ _
    · refine Only.step ?_ (State.verifyImage_only ..)
      exact Only.refl _ _ _

theorem execLoadVerify_only (sigOk : Bool) (body : ImageBody) (cxl : List Nat) (rejected : Bool) (others : List (Nat × Status × List FitEntry)) (part : Option Image) (s : State) :
    Keeps (execLoadVerify sigOk body cxl rejected others part s) (Only 1202453802380202612679414065556140558016349465041059773802132977424491020858679523053413887173001575952350707711 781757378468140430397647494822551418602660180947321724408 s) := by
  unfold execLoadVerify
  extract_lets +onlyGivenNames v0
  clear_value v0
  split
  · rename_i a1 a2 a3 a4 a5 a6
    refine Keeps.next ?_
    refine Only.ite ?_ ?_
    · refine Only.step ?_ (State.verifyLoad_only ..)
      exact Only.refl _ _ _
    · exact Only.refl _ _ _
  · rename_i a7 a8 a9 a10 a11 a12
    refine Keeps.next ?_
    refine Only.ite ?_ ?_
    · refine Only.step ?_ (State.verifyArea_only ..)
      exact Only.refl _ _ _
    · exact Only.refl _ _ _
  · rename_i a13 a14 a15 a16 a17
    refine Keeps.ite ?_ ?_
    · extract_lets +onlyGivenNames v18
      clear_value v18
      refine Keeps.next ?_
      refine Only.step ?_ (State.emit_only ..)
      refine Only.step ?_ (State.verifyImage_only ..)
      exact Only.refl _ _ _
    · refine Keeps.next ?_
      exact Only.refl _ _ _
  · rename_i a19 a20 a21 a22 a23
    refine Keeps.next ?_
    exact Only.refl _ _ _

theorem State.restartMp_only (s : State) (r : FwRun) :
    Only 11481097418682325381185005879096719947791810560933676547298408637940667127661939167587600324100096 784637903995544673835052968176944326771421347536735043592 s (State.restartMp s r) := by
  unfold State.restartMp
  extract_lets +onlyGivenNames v0
  have h1 : Only 11481097418682325381185005879096719947791810560933676547298408637940667127661939167587600324100096 784637903995544673835052968176944326771421347536735043592 s v0 := by
    unfold v0
    refine Only.trans ?_ (State.putBit_only _ _ _ _ _ (by decide))
    refine Only.step ?_ (State.setFw_only ..)
    exact Only.refl _ _ _
  obtain ⟨w2, e3⟩ : ∃ x, x = v0 := ⟨_, rfl⟩
  rw [← e3] at h1 ⊢
  clear e3 v0
  refine Only.step ?_ (State.markDark_only ..)
  refine Only.step ?_ (State.setTarget_only ..)
  exact h1

theorem execMpDrainLimit_only (left : List Nat) (s : State) :
    Keeps (execMpDrainLimit left s) (Only 11481097458468184293967937299839524227071424281013459647025404200335548084307404814727939933339648 784673833551796816752394087564872126104631472639665242120 s) := by
  unfold execMpDrainLimit
  split
  · rename_i a0 a1 a2
    refine Keeps.ite ?_ ?_
    · extract_lets +onlyGivenNames v3
      clear_value v3
      refine Keeps.next ?_
      refine Only.step ?_ (State.restartMp_only ..)
      refine Only.foldl ?_ ?_
      · exact Only.refl _ _ _
      · intro u4 u5 h6
        refine Only.step ?_ (State.respond_only ..)
        exact h6
    · refine Keeps.next ?_
      exact Only.refl _ _ _
  · rename_i a7 a8
    refine Keeps.next ?_
    exact Only.refl _ _ _

theorem execMpReady_only (m : Nat) (s : State) :
    Keeps (execMpReady m s) (Only 11481097418682325381185005879096719947791810560933676547298408637940667127661939167587600324100096 784637903995544673835052968176944326771421347536735043592 s) := by
  unfold execMpReady
  refine Keeps.ite ?_ ?_
  · refine Keeps.next ?_
    exact Only.refl _ _ _
  · extract_lets +onlyGivenNames v0
    have h1 : Only 11481097418682325381185005879096719947791810560933676547298408637940667127661939167587600324100096 784637903995544673835052968176944326771421347536735043592 s v0 := by
      unfold v0
      refine Only.step ?_ (State.markRunning_only ..)
      refine Only.step ?_ (State.setTarget_only ..)
      exact Only.refl _ _ _
    obtain ⟨w2, e3⟩ : ∃ x, x = v0 := ⟨_, rfl⟩
    rw [← e3] at h1 ⊢
    clear e3 v0
    split
    · rename_i a4 a5 a6
      refine Keeps.ite ?_ ?_
      · refine Keeps.next ?_
        refine Only.ite ?_ ?_
        · exact h1
        · exact Only.refl _ _ _
      · refine Keeps.ite ?_ ?_
        · refine Keeps.next ?_
          refine Only.step ?_ (State.drainMp_only ..)
          exact h1
        · refine Keeps.next ?_
          refine Only.trans ?_ (State.event_only _ _ _ (by decide))
          refine Only.trans ?_ (State.setf_only _ _ _ _ (by decide))
          refine Only.step ?_ (State.setFw_only ..)
          exact h1
    · rename_i a7 a8
      refine Keeps.next ?_
      refine Only.ite ?_ ?_
      · exact h1
      · exact Only.refl _ _ _

theorem execMpReadyTimeout_only (s : State) :
    Keeps (execMpReadyTimeout s) (Only 10679935179604550411975108530847760573013522611783263849735208039111098628903202750114810434682880 784637716923335095479473677900958302012794430558004314116 s) := by
  unfold execMpReadyTimeout
  split
  · rename_i a0 a1 a2
    refine Keeps.ite ?_ ?_
    · extract_lets +onlyGivenNames v3
      have h4 : Only 10679935179604550411975108530847760573013522611783263849735208039111098628903202750114810434682880 784637716923335095479473677900958302012794430558004314116 s v3.2 := by
        unfold v3
        refine Only.step ?_ (State.fresh_only ..)
        exact Only.refl _ _ _
      obtain ⟨w5, e6⟩ : ∃ x, x = v3 := ⟨_, rfl⟩
      rw [← e6] at h4 ⊢
      clear e6 v3
      refine Keeps.next ?_
      refine Only.trans ?_ (State.event_only _ _ _ (by decide))
      refine Only.trans ?_ (State.setf_only _ _ _ _ (by decide))
      refine Only.trans ?_ (State.putBit_only _ _ _ _ _ (by decide))
      refine Only.step ?_ (State.setFw_only ..)
      exact h4
    · refine Keeps.next ?_
      exact Only.refl _ _ _
  · rename_i a7 a8
    refine Keeps.next ?_
    exact Only.refl _ _ _

theorem execRestart_only (s : State) :
    Keeps (execRestart s) (Only 2402985415411023842694399419440746128928042587651234366190421808799997191503220618775832347803648 784637716923335095479473677900958302012794430558004314112 s) := by
  unfold execRestart
  refine Keeps.next ?_
  refine Only.trans ?_ (State.setf_only _ _ _ _ (by decide))
  refine Only.step ?_ (State.restartFw_only ..)
  exact Only.refl _ _ _

/-! ### Sec -/

theorem State.syncOwners_only (s : State) :
    Only 136703170298938245273281389194851335334573089430825777276610662900622062449960995201469573563940864 0 s (State.syncOwners s) := by
  unfold State.syncOwners
  refine Only.trans ?_ (State.setf_only _ _ _ _ (by decide))
  refine Only.trans ?_ (State.setf_only _ _ _ _ (by decide))
  refine Only.trans ?_ (State.setf_only _ _ _ _ (by decide))
  exact Only.refl _ _ _

theorem State.newBootKey_only (s : State) :
    Only 31829658464672457962479923612349945525882514854449779985950320427367077260944738638364672 47890485652059026823698344598447161988085597568237568 s (State.newBootKey s) := by
  unfold State.newBootKey
  extract_lets +onlyGivenNames v0
  unfold v0
  clear v0
  extract_lets +onlyGivenNames v1
  have h2 : Only 31829658464672457962479923612349945525882514854449779985950320427367077260944738638364672 47890485652059026823698344598447161988085597568237568 s v1 := by
    unfold v1
    refine Only.up_host ?_
    exact Only.refl _ _ _
  obtain ⟨w3, e4⟩ : ∃ x, x = v1 := ⟨_, rfl⟩
  rw [← e4] at h2 ⊢
  clear e4 v1
  refine Only.trans ?_ (State.setf_only _ _ _ _ (by decide))
  refine Only.trans ?_ (State.setf_only _ _ _ _ (by decide))
  refine Only.trans ?_ (State.setf_only _ _ _ _ (by decide))
  exact h2

theorem State.carryOut_only (s : State) :
    Only 136703170330767903737953847157762618093597445193422964372452756977350577188088721622111969966292992 150650489539765990391085769855328592584734246204563043385344 s (State.carryOut s) := by
  unfold State.carryOut
  extract_lets +onlyGivenNames v0
  clear_value v0
  extract_lets +onlyGivenNames v1
  clear_value v1
  extract_lets +onlyGivenNames v2
  clear_value v2
  extract_lets +onlyGivenNames v3
  unfold v3
  clear v3
  extract_lets +onlyGivenNames v4
  have h5 : ∀ a0, Only 136703170330767903737953847157762618093597445193422964372452756977350577188088721622111969966292992 150650489539765990391085769855328592584734246204563043385344 s (v4 a0) := by
    intro a0
    unfold v4
    refine Only.up_sec ?_
    exact Only.refl _ _ _
  clear_value v4
  refine Only.ite ?_ ?_
  · split
    · rename_i a7 a8 a9
      extract_lets +onlyGivenNames v10
      have h11 : Only 136703170330767903737953847157762618093597445193422964372452756977350577188088721622111969966292992 150650489539765990391085769855328592584734246204563043385344 s v10 := by
        unfold v10
        apply h5
      obtain ⟨w12, e13⟩ : ∃ x, x = v10 := ⟨_, rfl⟩
      rw [← e13] at h11 ⊢
      clear e13 v10
      refine Only.step ?_ (State.syncOwners_only ..)
      refine Only.step ?_ (State.newBootKey_only ..)
      refine Only.trans ?_ (State.setf_only _ _ _ _ (by decide))
      refine Only.up_ciph_sec ?_
      exact h11
    · rename_i a14 a15
      exact Only.refl _ _ _
  · refine Only.ite ?_ ?_
    · refine Only.step ?_ (State.syncOwners_only ..)
      apply h5
    · refine Only.ite ?_ ?_
      · refine Only.step ?_ (State.syncOwners_only ..)
        apply h5
      · refine Only.ite ?_ ?_
        · extract_lets +onlyGivenNames v16
          have h17 : Only 136703170330767903737953847157762618093597445193422964372452756977350577188088721622111969966292992 150650489539765990391085769855328592584734246204563043385344 s v16 := by
            unfold v16
            apply h5
          obtain ⟨w18, e19⟩ : ∃ x, x = v16 := ⟨_, rfl⟩
          rw [← e19] at h17 ⊢
          clear e19 v16
          refine Only.step ?_ (State.syncOwners_only ..)
          refine Only.step ?_ (State.newBootKey_only ..)
          refine Only.trans ?_ (State.setf_only _ _ _ _ (by decide))
          refine Only.up_ciph_sec ?_
          exact h17
        · exact Only.refl _ _ _

theorem State.execute_only (s : State) (sigOk : Bool) :
    Only 12166582156637333487786716096304680127536029315106091364714191092232092072784656299351434443593089024 150650489539765990391085769855328592584734246204563043385348 s (State.execute s sigOk).2 := by
  unfold State.execute
  extract_lets +onlyGivenNames v0
  clear_value v0
  extract_lets +onlyGivenNames v1
  have h2 : Only 12166582156637333487786716096304680127536029315106091364714191092232092072784656299351434443593089024 150650489539765990391085769855328592584734246204563043385348 s v1 := by
    unfold v1
    refine Only.ite ?_ ?_
    · refine Only.step ?_ (State.carryOut_only ..)
      exact Only.refl _ _ _
    · exact Only.refl _ _ _
  obtain ⟨w3, e4⟩ : ∃ x, x = v1 := ⟨_, rfl⟩
  rw [← e4] at h2 ⊢
  clear e4 v1
  extract_lets +onlyGivenNames v5
  have h6 : Only 12166582156637333487786716096304680127536029315106091364714191092232092072784656299351434443593089024 150650489539765990391085769855328592584734246204563043385348 s v5.2 := by
    unfold v5
    refine Only.step ?_ (State.fresh_only ..)
    exact h2
  obtain ⟨w7, e8⟩ : ∃ x, x = v5 := ⟨_, rfl⟩
  rw [← e8] at h6 ⊢
  clear e8 v5
  extract_lets +onlyGivenNames v9
  have h10 : Only 12166582156637333487786716096304680127536029315106091364714191092232092072784656299351434443593089024 150650489539765990391085769855328592584734246204563043385348 s v9 := by
    unfold v9
    refine Only.trans ?_ (State.setf_only _ _ _ _ (by decide))
    refine Only.trans ?_ (State.setf_only _ _ _ _ (by decide))
    exact h6
  obtain ⟨w11, e12⟩ : ∃ x, x = v9 := ⟨_, rfl⟩
  rw [← e12] at h10 ⊢
  clear e12 v9
  refine Only.pair _ ?_
  refine Only.trans ?_ (State.eventIf_only _ _ _ _ (by decide))
  refine Only.trans ?_ (State.event_only _ _ _ (by decide))
  exact h10

theorem State.secResult_only {B P : Nat} {s0 : State} {r : Status × State} (h : Only B P s0 r.2)
    (hb : 2187250724783011924372502227117621365353169430893212436425770606409952999199375923223513177023053824 ||| B = B := by decide) : Only B P s0 (State.secResult r) :=
  Only.ite h (h.step (B := B) (P := P) (State.setf_only (B := 2187250724783011924372502227117621365353169430893212436425770606409952999199375923223513177023053824) (P := 0) ..) hb (Nat.zero_or P))

theorem State.takeLeaf_only (s : State) :
    Only 13123504348698071546235013362705728192119016585359274618554623638459717995196255539341079062138322944 200867255532373784442745261542645325315275374222849104412672 s (State.takeLeaf s) := by
  unfold State.takeLeaf
  extract_lets +onlyGivenNames v0
  clear_value v0
  extract_lets +onlyGivenNames v1
  unfold v1
  clear v1
  extract_lets +onlyGivenNames v2
  have h3 : Only 13123504348698071546235013362705728192119016585359274618554623638459717995196255539341079062138322944 200867255532373784442745261542645325315275374222849104412672 s v2 := by
    unfold v2
    refine Only.ite ?_ ?_
    · exact Only.refl _ _ _
    · refine Only.up_sec ?_
      exact Only.refl _ _ _
  obtain ⟨w4, e5⟩ : ∃ x, x = v2 := ⟨_, rfl⟩
  rw [← e5] at h3 ⊢
  clear e5 v2
  refine Only.trans ?_ (State.eventIf_only _ _ _ _ (by decide))
  refine Only.trans ?_ (State.setf_only _ _ _ _ (by decide))
  refine Only.trans ?_ (State.setf_only _ _ _ _ (by decide))
  exact h3

theorem State.startQuote_only (s : State) :
    Only 13260207518997009791508294751900579527453589674790100395831234301360340057646216534542548635702263808 602601766597121353328235784627935975945826122668547313238016 s (State.startQuote s).2 := by
  unfold State.startQuote
  refine Only.iteSnd ?_ ?_
  · refine Only.pair _ ?_
    exact Only.refl _ _ _
  · refine Only.iteSnd ?_ ?_
    · refine Only.pair _ ?_
      refine Only.trans ?_ (State.event_only _ _ _ (by decide))
      exact Only.refl _ _ _
    · refine Only.iteSnd ?_ ?_
      · refine Only.pair _ ?_
        exact Only.refl _ _ _
      · extract_lets +onlyGivenNames v0
        clear_value v0
        extract_lets +onlyGivenNames v1
        unfold v1
        clear v1
        extract_lets +onlyGivenNames v2
        have h3 : Only 13260207518997009791508294751900579527453589674790100395831234301360340057646216534542548635702263808 602601766597121353328235784627935975945826122668547313238016 s v2 := by
          unfold v2
          refine Only.up_sec ?_
          exact Only.refl _ _ _
        obtain ⟨w4, e5⟩ : ∃ x, x = v2 := ⟨_, rfl⟩
        rw [← e5] at h3 ⊢
        clear e5 v2
        refine Only.pair _ ?_
        refine Only.trans ?_ (State.setf_only _ _ _ _ (by decide))
        refine Only.step ?_ (State.takeLeaf_only ..)
        exact h3

theorem State.raise_only (s : State) :
    Only 2734063405978764905465627783897026706691461788616515545532213258012441248999219904029391471278817280 0 s (State.raise s).2 := by
  unfold State.raise
  refine Only.iteSnd ?_ ?_
  · refine Only.pair _ ?_
    exact Only.refl _ _ _
  · extract_lets +onlyGivenNames v0
    clear_value v0
    refine Only.pair _ ?_
    refine Only.trans ?_ (State.setf_only _ _ _ _ (by decide))
    refine Only.ite ?_ ?_
    · refine Only.trans ?_ (State.setf_only _ _ _ _ (by decide))
      exact Only.refl _ _ _
    · exact Only.refl _ _ _

theorem State.persist_only (s : State) :
    Only 0 816023225600268499298652625016996634093306207780324486676480 s (State.persist s).2 := by
  unfold State.persist
  split
  · rename_i a0 a1
    refine Only.pair _ ?_
    exact Only.refl _ _ _
  · rename_i a2 a3 a4
    refine Only.iteSnd ?_ ?_
    · refine Only.pair _ ?_
      exact Only.refl _ _ _
    · refine Only.iteSnd ?_ ?_
      · refine Only.pair _ ?_
        exact Only.refl _ _ _
      · refine Only.pair _ ?_
        refine Only.up_img_sec ?_
        exact Only.refl _ _ _

theorem execAddKey_only (sigOk : Bool) (s : State) :
    Keeps (execAddKey sigOk s) (Only 12166582156637333487786716096304680127536029315106091364714191092232092072784656299351434443593089024 150650489539765990391085769855328592584734246204563043385348 s) := by
  unfold execAddKey
  refine Keeps.next ?_
  refine Only.ite ?_ ?_
  · refine Only.step ?_ (State.execute_only ..)
    exact Only.refl _ _ _
  · exact Only.refl _ _ _

theorem execClaim_only (s : State) :
    Keeps (execClaim s) (Only 12166582156637333487786716096304680127536029315106091364714191092232092072784656299351434443593089024 150650489539765990391085769855328592584734246204563043385348 s) := by
  unfold execClaim
  refine Keeps.next ?_
  refine Only.ite ?_ ?_
  · refine Only.step ?_ (State.execute_only ..)
    exact Only.refl _ _ _
  · exact Only.refl _ _ _

theorem execIdTreeBuilt_only (s : State) :
    Keeps (execIdTreeBuilt s) (Only 4374501449566023848745004454235242730706338861786424872851541212819905998398751846447026354046107648 0 s) := by
  unfold execIdTreeBuilt
  extract_lets +onlyGivenNames v0
  clear_value v0
  refine Keeps.next ?_
  refine Only.ite ?_ ?_
  · refine Only.trans ?_ (State.setf_only _ _ _ _ (by decide))
    exact Only.refl _ _ _
  · exact Only.refl _ _ _

theorem execPersist_only (s : State) :
    Keeps (execPersist s) (Only 2187250724783011924372502227117621365353169430893212436425770606409952999199375923223513177023053824 816023225600268499298652625016996634093306207780324486676480 s) := by
  unfold execPersist
  refine Keeps.next ?_
  refine State.secResult_only ?_
  refine Only.step ?_ (State.persist_only ..)
  exact Only.refl _ _ _

theorem execPersistDone_only (s : State) :
    Keeps (execPersistDone s) (Only 2187250724783011924372502227117621365353169430893212436425770606409952999199375923223513177023053824 816023225600268499298652625016996634093306207780324486676480 s) := by
  unfold execPersistDone
  split
  · rename_i a0 a1 a2
    refine Keeps.next ?_
    refine Only.trans ?_ (State.setf_only _ _ _ _ (by decide))
    refine Only.up_img_sec ?_
    exact Only.refl _ _ _
  · rename_i a3 a4
    refine Keeps.next ?_
    exact Only.refl _ _ _

theorem execQuote_only (s : State) :
    Keeps (execQuote s) (Only 15447458243780021715880796979018200892806759105683312832257004907770293056845592457766061812725317632 602601766597121353328235784627935975945826122668547313238016 s) := by
  unfold execQuote
  refine Keeps.next ?_
  refine State.secResult_only ?_
  refine Only.step ?_ (State.startQuote_only ..)
  exact Only.refl _ _ _

theorem State.putBytes_only {B P : Nat} (s : State) (x : Fld) (bs : List Byte) (hx : x.within B = true := by decide) :
    Only B P s (s.putBytes x bs) :=
  Only.foldl (Only.refl _ _ _) fun _ _ h => h.trans (State.setf_only _ _ _ _ hx)

theorem execQuoteDone_only (sig : List Byte) (s : State) :
    Keeps (execQuoteDone sig s) (Only 98562985785534474842035881609487812776227197479625385416436287951348507026421877540259562539601362944 401734511064747568885490523085290650630550748445698208825344 s) := by
  unfold execQuoteDone
  split
  · rename_i a0 a1 a2
    refine Keeps.ite ?_ ?_
    · refine Keeps.next ?_
      exact Only.refl _ _ _
    · extract_lets +onlyGivenNames v3
      unfold v3
      clear v3
      extract_lets +onlyGivenNames v4
      have h5 : Only 98562985785534474842035881609487812776227197479625385416436287951348507026421877540259562539601362944 401734511064747568885490523085290650630550748445698208825344 s v4 := by
        unfold v4
        refine Only.trans ?_ (State.putBytes_only _ _ _ (by decide))
        refine Only.up_sec ?_
        exact Only.refl _ _ _
      obtain ⟨w6, e7⟩ : ∃ x, x = v4 := ⟨_, rfl⟩
      rw [← e7] at h5 ⊢
      clear e7 v4
      refine Keeps.next ?_
      refine Only.trans ?_ (State.event_only _ _ _ (by decide))
      refine Only.trans ?_ (State.count_only _ _ _ _ (by decide))
      refine Only.trans ?_ (State.setf_only _ _ _ _ (by decide))
      refine Only.trans ?_ (State.setf_only _ _ _ _ (by decide))
      exact h5
  · rename_i a8 a9
    refine Keeps.next ?_
    exact Only.refl _ _ _

theorem execRaise_only (s : State) :
    Keeps (execRaise s) (Only 2734063405978764905465627783897026706691461788616515545532213258012441248999219904029391471278817280 0 s) := by
  unfold execRaise
  refine Keeps.next ?_
  refine State.secResult_only ?_
  refine Only.step ?_ (State.raise_only ..)
  exact Only.refl _ _ _

theorem execRelease_only (sigOk : Bool) (s : State) :
    Keeps (execRelease sigOk s) (Only 12166582156637333487786716096304680127536029315106091364714191092232092072784656299351434443593089024 150650489539765990391085769855328592584734246204563043385348 s) := by
  unfold execRelease
  refine Keeps.next ?_
  refine Only.ite ?_ ?_
  · refine Only.step ?_ (State.execute_only ..)
    exact Only.refl _ _ _
  · exact Only.refl _ _ _

theorem execRevokeKey_only (sigOk : Bool) (s : State) :
    Keeps (execRevokeKey sigOk s) (Only 12166582156637333487786716096304680127536029315106091364714191092232092072784656299351434443593089024 150650489539765990391085769855328592584734246204563043385348 s) := by
  unfold execRevokeKey
  refine Keeps.next ?_
  refine Only.ite ?_ ?_
  · refine Only.step ?_ (State.execute_only ..)
    exact Only.refl _ _ _
  · exact Only.refl _ _ _

/-! ### Boot -/

theorem State.beginStage_only (s : State) (n : Nat) :
    Only 2 1606938044258990275541962092341162602522202993782792835301376 s (State.beginStage s n) := by
  unfold State.beginStage
  refine Only.trans ?_ (State.setf_only _ _ _ _ (by decide))
  refine Only.up_sec ?_
  exact Only.refl _ _ _

theorem State.stage2_only (s : State) :
    Only 36695982367045764082564886807791692445750388626628804959649258654184735814672332515960864918900334997274626 1606938044258990275541962092341162602522202993782792835301384 s (State.stage2 s) := by
  unfold State.stage2
  extract_lets +onlyGivenNames v0
  have h1 : Only 36695982367045764082564886807791692445750388626628804959649258654184735814672332515960864918900334997274626 1606938044258990275541962092341162602522202993782792835301384 s v0 := by
    unfold v0
    refine Only.step ?_ (State.emit_only ..)
    refine Only.trans ?_ (State.setf_only _ _ _ _ (by decide))
    refine Only.step ?_ (State.beginStage_only ..)
    exact Only.refl _ _ _
  obtain ⟨w2, e3⟩ : ∃ x, x = v0 := ⟨_, rfl⟩
  rw [← e3] at h1 ⊢
  clear e3 v0
  refine Only.step ?_ (State.raiseFloor_only ..)
  refine Only.step ?_ (State.syncOwners_only ..)
  refine Only.trans ?_ (State.setf_only _ _ _ _ (by decide))
  refine Only.trans ?_ (State.setf_only _ _ _ _ (by decide))
  exact h1

theorem State.recovery_only (s : State) :
    Only 136703170298938245273281389194851335334573089430825777276610662900622062449960995201469573563940864 0 s (State.recovery s) := by
  unfold State.recovery
  refine Only.trans ?_ (State.setf_only _ _ _ _ (by decide))
  exact Only.refl _ _ _

theorem State.setDdr_only (s : State) (ddr : List Nat) :
    Only 56242831549064659643968673231940691088277104782397749235548160 0 s (State.setDdr s ddr) := by
  unfold State.setDdr
  extract_lets +onlyGivenNames v0
  clear_value v0
  refine Only.trans ?_ (State.eventIf_only _ _ _ _ (by decide))
  refine Only.trans ?_ (State.setf_only _ _ _ _ (by decide))
  refine Only.trans ?_ (State.setf_only _ _ _ _ (by decide))
  exact Only.refl _ _ _

theorem State.stage4_only (s : State) (b : Bool) (ddr : List Nat) :
    Only 560075558865645499455925157072647068183277245884048486645789121439086204559337291242101985996385026050 1606938044446062485120317754708188325104203677187712833552392 s (State.stage4 s b ddr) := by
  unfold State.stage4
  extract_lets +onlyGivenNames v0
  have h1 : Only 560075558865645499455925157072647068183277245884048486645789121439086204559337291242101985996385026050 1606938044446062485120317754708188325104203677187712833552392 s v0 := by
    unfold v0
    refine Only.trans ?_ (State.setf_only _ _ _ _ (by decide))
    refine Only.trans ?_ (State.setf_only _ _ _ _ (by decide))
    refine Only.step ?_ (State.beginStage_only ..)
    exact Only.refl _ _ _
  obtain ⟨w2, e3⟩ : ∃ x, x = v0 := ⟨_, rfl⟩
  rw [← e3] at h1 ⊢
  clear e3 v0
  extract_lets +onlyGivenNames v4
  have h5 : Only 560075558865645499455925157072647068183277245884048486645789121439086204559337291242101985996385026050 1606938044446062485120317754708188325104203677187712833552392 s v4 := by
    unfold v4
    refine Only.foldl ?_ ?_
    · refine Only.step ?_ (State.setDdr_only ..)
      exact h1
    · intro u6 u7 h8
      refine Only.step ?_ (State.setTarget_only ..)
      exact h8
  obtain ⟨w9, e10⟩ : ∃ x, x = v4 := ⟨_, rfl⟩
  rw [← e10] at h5 ⊢
  clear e10 v4
  extract_lets +onlyGivenNames v11
  clear_value v11
  extract_lets +onlyGivenNames v12
  have h13 : Only 560075558865645499455925157072647068183277245884048486645789121439086204559337291242101985996385026050 1606938044446062485120317754708188325104203677187712833552392 s v12 := by
    unfold v12
    refine Only.foldl ?_ ?_
    · exact h5
    · intro u14 u15 h16
      refine Only.trans ?_ (State.putBit_only _ _ _ _ _ (by decide))
      refine Only.step ?_ (State.setSec_only ..)
      exact h16
  obtain ⟨w17, e18⟩ : ∃ x, x = v12 := ⟨_, rfl⟩
  rw [← e18] at h13 ⊢
  clear e18 v12
  refine Only.step ?_ (State.syncBist_only ..)
  refine Only.foldl ?_ ?_
  · exact h13
  · intro u19 u20 h21
    refine Only.step ?_ (State.askBist_only ..)
    exact h21

theorem execBootStageEnd_only (ok : Bool) (other : Bool) (ddr : List Nat) (s : State) :
    Keeps (execBootStageEnd ok other ddr s) (Only 150343421839831228044355884291977237127941650366701773324843932305228073119335195211080027008444613751862198274 1606938044446062485120317754708188325104203677187712833552392 s) := by
  unfold execBootStageEnd
  extract_lets +onlyGivenNames v0
  clear_value v0
  extract_lets +onlyGivenNames v1
  clear_value v1
  refine Keeps.ite ?_ ?_
  · refine Keeps.next ?_
    exact Only.refl _ _ _
  · split
    · rename_i a2 a3
      refine Keeps.next ?_
      refine Only.ite ?_ ?_
      · refine Only.step ?_ (State.stage2_only ..)
        refine Only.trans ?_ (State.setf_only _ _ _ _ (by decide))
        exact Only.refl _ _ _
      · refine Only.trans ?_ (State.setf_only _ _ _ _ (by decide))
        exact Only.refl _ _ _
    · rename_i a4 a5
      refine Keeps.next ?_
      refine Only.ite ?_ ?_
      · refine Only.step ?_ (State.recovery_only ..)
        exact Only.refl _ _ _
      · refine Only.step ?_ (State.beginStage_only ..)
        exact Only.refl _ _ _
    · rename_i a6 a7
      refine Keeps.next ?_
      refine Only.ite ?_ ?_
      · refine Only.step ?_ (State.stage4_only ..)
        exact Only.refl _ _ _
      · refine Only.ite ?_ ?_
        · refine Only.step ?_ (State.stage4_only ..)
          exact Only.refl _ _ _
        · refine Only.step ?_ (State.recovery_only ..)
          exact Only.refl _ _ _
    · rename_i a8 a9
      refine Keeps.next ?_
      refine Only.ite ?_ ?_
      · refine Only.step ?_ (State.beginStage_only ..)
        exact Only.refl _ _ _
      · exact Only.refl _ _ _
    · rename_i a10 a11
      refine Keeps.next ?_
      refine Only.ite ?_ ?_
      · refine Only.step ?_ (State.beginStage_only ..)
        exact Only.refl _ _ _
      · exact Only.refl _ _ _
    · rename_i a12 a13 a14 a15 a16 a17
      refine Keeps.next ?_
      exact Only.refl _ _ _

theorem tabWf_regsKept (p : Fld → Bool) (t : Tab Word) : tabWf resetWord (regsKept p t) = true := by
  refine tabWf_foldl t rfl fun a x ha => ?_
  split
  · exact tabWf_tset ha
  · exact ha

theorem State.resetTo_only (s : State) (keep : Fld → Bool) :
    Only 1202453802380202612679414065556140558016349465041059773802132977424491020858679523053413887173001575952350707711 3291009114642412084309938365114701009965471731267159726697218040 s (s.resetTo keep) := by
  unfold State.resetTo
  exact Only.of_all fun hs => ⟨tabWf_regsKept _ _, tabWf_filter _ hs.2⟩

theorem State.porstReset_only (s : State) :
    Only 1202453802380202612679414065556140558016349465041059773802132977424491020858679523053413887173001575952350707711 3291009114642412084309938365114701009965471731267159726697218040 s (State.porstReset s) := by
  unfold State.porstReset
  extract_lets +onlyGivenNames v0
  have h1 : Only 1202453802380202612679414065556140558016349465041059773802132977424491020858679523053413887173001575952350707711 3291009114642412084309938365114701009965471731267159726697218040 s v0 := by
    unfold v0
    refine Only.step ?_ (State.resetTo_only ..)
    exact Only.refl _ _ _
  obtain ⟨w2, e3⟩ : ∃ x, x = v0 := ⟨_, rfl⟩
  rw [← e3] at h1 ⊢
  clear e3 v0
  refine Only.up_pwr ?_
  exact h1

theorem execPorstNAssert_only (s : State) :
    Keeps (execPorstNAssert s) (Only 1202453802380202612679414065556140558016349465041059773802132977424491020858679523053413887173001575952350707711 3291009114642412084309938365114701009965471731267159726697218040 s) := by
  unfold execPorstNAssert
  refine Keeps.next ?_
  refine Only.step ?_ (State.porstReset_only ..)
  exact Only.refl _ _ _

theorem State.boot1_only (s : State) :
    Only 150306725297525326584926758194517569752043683130132471725266622178061377607334940381676735896625196994043838466 8034690221294951377709810461705813012611014968913964176506882 s (State.boot1 s) := by
  unfold State.boot1
  refine Only.trans ?_ (State.setf_only _ _ _ _ (by decide))
  refine Only.trans ?_ (State.setf_only _ _ _ _ (by decide))
  refine Only.step ?_ (State.beginStage_only ..)
  refine Only.up_now_pwr ?_
  exact Only.refl _ _ _

theorem execPorstNRelease_only (sel : Nat) (ready : Bool) (s : State) :
    Keeps (execPorstNRelease sel ready s) (Only 150306725297662029755225696439790851141238534465467044814697447955337988270235562444126696891826666567607779330 24104070663884854133129431385117439037833044906741892529520642 s) := by
  unfold execPorstNRelease
  refine Keeps.ite ?_ ?_
  · refine Keeps.next ?_
    exact Only.refl _ _ _
  · extract_lets +onlyGivenNames v0
    clear_value v0
    extract_lets +onlyGivenNames v1
    unfold v1
    clear v1
    extract_lets +onlyGivenNames v2
    have h3 : Only 150306725297662029755225696439790851141238534465467044814697447955337988270235562444126696891826666567607779330 24104070663884854133129431385117439037833044906741892529520642 s v2 := by
      unfold v2
      refine Only.up_pwr ?_
      exact Only.refl _ _ _
    obtain ⟨w4, e5⟩ : ∃ x, x = v2 := ⟨_, rfl⟩
    rw [← e5] at h3 ⊢
    clear e5 v2
    extract_lets +onlyGivenNames v6
    have h7 : Only 150306725297662029755225696439790851141238534465467044814697447955337988270235562444126696891826666567607779330 24104070663884854133129431385117439037833044906741892529520642 s v6 := by
      unfold v6
      refine Only.trans ?_ (State.setf_only _ _ _ _ (by decide))
      exact h3
    obtain ⟨w8, e9⟩ : ∃ x, x = v6 := ⟨_, rfl⟩
    rw [← e9] at h7 ⊢
    clear e9 v6
    refine Keeps.next ?_
    refine Only.ite ?_ ?_
    · refine Only.step ?_ (State.boot1_only ..)
      exact h7
    · exact h7

theorem execRailsReady_only (s : State) :
    Keeps (execRailsReady s) (Only 150306725297525326584926758194517569752043683130132471725266622178061377607334940381676735896625196994043838466 8034690221294951377709810461705813012611014968913964176506882 s) := by
  unfold execRailsReady
  refine Keeps.next ?_
  refine Only.ite ?_ ?_
  · refine Only.step ?_ (State.boot1_only ..)
    exact Only.refl _ _ _
  · exact Only.refl _ _ _

theorem State.sysReset_only (s : State) :
    Only 1202453802380202612679414065556140558016349465041059773802132977424491020858679523053413887173001575952350707711 3291009114642412084309938365114701009965471731267159726697218040 s (State.sysReset s) := by
  unfold State.sysReset
  extract_lets +onlyGivenNames v0
  have h1 : Only 1202453802380202612679414065556140558016349465041059773802132977424491020858679523053413887173001575952350707711 3291009114642412084309938365114701009965471731267159726697218040 s v0 := by
    unfold v0
    refine Only.step ?_ (State.resetTo_only ..)
    exact Only.refl _ _ _
  obtain ⟨w2, e3⟩ : ∃ x, x = v0 := ⟨_, rfl⟩
  rw [← e3] at h1 ⊢
  clear e3 v0
  extract_lets +onlyGivenNames v4
  have h5 : Only 1202453802380202612679414065556140558016349465041059773802132977424491020858679523053413887173001575952350707711 3291009114642412084309938365114701009965471731267159726697218040 s v4 := by
    unfold v4
    refine Only.foldl ?_ ?_
    · exact h1
    · intro u6 u7 h8
      refine Only.trans ?_ (State.setf_only _ _ _ _ (by decide))
      exact h8
  obtain ⟨w9, e10⟩ : ∃ x, x = v4 := ⟨_, rfl⟩
  rw [← e10] at h5 ⊢
  clear e10 v4
  refine Only.up_ppe_bist_time_host ?_
  exact h5

theorem State.warmReset_only (s : State) :
    Only 1202453802380202612679414065556140558016349465041059773802132977424491020858679523053413887173001575952350707711 3291009114642412084309938365114701009965471731267159726697218040 s (State.warmReset s) := by
  unfold State.warmReset
  refine Only.ite ?_ ?_
  · exact Only.refl _ _ _
  · refine Only.ite ?_ ?_
    · refine Only.step ?_ (State.beginStage_only ..)
      refine Only.step ?_ (State.sysReset_only ..)
      exact Only.refl _ _ _
    · refine Only.step ?_ (State.stage2_only ..)
      refine Only.step ?_ (State.sysReset_only ..)
      exact Only.refl _ _ _

theorem execSoftReset_only (s : State) :
    Keeps (execSoftReset s) (Only 1202453802380202612679414065556140558016349465041059773802132977424491020858679523053413887173001575952350707711 3291009114642412084309938365114701009965471731267159726697218040 s) := by
  unfold execSoftReset
  refine Keeps.next ?_
  refine Only.ite ?_ ?_
  · refine Only.step ?_ (State.warmReset_only ..)
    exact Only.refl _ _ _
  · exact Only.refl _ _ _

theorem execSysrstN_only (s : State) :
    Keeps (execSysrstN s) (Only 1202453802380202612679414065556140558016349465041059773802132977424491020858679523053413887173001575952350707711 3291009114642412084309938365114701009965471731267159726697218040 s) := by
  unfold execSysrstN
  refine Keeps.next ?_
  refine Only.step ?_ (State.warmReset_only ..)
  exact Only.refl _ _ _

/-! ### Power -/

theorem State.relevel_only (s : State) :
    Only 1024 7340032 s (State.relevel s) := by
  unfold State.relevel
  refine Only.ite ?_ ?_
  · refine Only.step ?_ (State.rampTo_only ..)
    exact Only.refl _ _ _
  · split
    · rename_i a0 a1 a2
      refine Only.step ?_ (State.rampTo_only ..)
      exact Only.refl _ _ _
    · rename_i a3 a4
      exact Only.refl _ _ _

theorem State.checkCap_only (s : State) :
    Only 1210967269242757758130513432719501904740586314280852433333446907196295278574719978660969796042146362500842496 102844034832575377634685573909834406561420991602098741466628224 s (State.checkCap s) := by
  unfold State.checkCap
  refine Only.ite ?_ ?_
  · unfold State.enterCap
    refine Only.ite ?_ ?_
    · exact Only.refl _ _ _
    · extract_lets +onlyGivenNames v0
      have h1 : Only 1210967269242757758130513432719501904740586314280852433333446907196295278574719978660969796042146362500842496 102844034832575377634685573909834406561420991602098741466628224 s v0 := by
        unfold v0
        refine Only.step ?_ (State.degradeWhere_only ..)
        refine Only.trans ?_ (State.event_only _ _ _ (by decide))
        refine Only.trans ?_ (State.setf_only _ _ _ _ (by decide))
        exact Only.refl _ _ _
      obtain ⟨w2, e3⟩ : ∃ x, x = v0 := ⟨_, rfl⟩
      rw [← e3] at h1 ⊢
      clear e3 v0
      refine Only.step ?_ (State.relevel_only ..)
      refine Only.up_pwr ?_
      exact h1
  · exact Only.refl _ _ _

theorem State.tallyCapped_only (s : State) :
    Only 18788340662190665823115844774314696219005460391266558965658327772257672200916867547709591987078149624255479808 3287795238553894103758854440930018684760427325279594141026615296 s (State.tallyCapped s) := by
  unfold State.tallyCapped
  split
  · rename_i a0 a1 a2
    extract_lets +onlyGivenNames v3
    have h4 : Only 18788340662190665823115844774314696219005460391266558965658327772257672200916867547709591987078149624255479808 3287795238553894103758854440930018684760427325279594141026615296 s v3 := by
      unfold v3
      refine Only.trans ?_ (State.count_only _ _ _ _ (by decide))
      exact Only.refl _ _ _
    obtain ⟨w5, e6⟩ : ∃ x, x = v3 := ⟨_, rfl⟩
    rw [← e6] at h4 ⊢
    clear e6 v3
    refine Only.up_pwr ?_
    exact h4
  · rename_i a7 a8
    exact Only.refl _ _ _

theorem execCapLift_only (s : State) :
    Keeps (execCapLift s) (Only 18825036640046506967301617908639529610058205431093251463638129193687862966934283304638712283927911635240354816 3287795238553894103758854440930018684760427325279594141033955328 s) := by
  unfold execCapLift
  split
  · rename_i a0 a1 a2
    refine Keeps.next ?_
    refine Only.ite ?_ ?_
    · unfold State.leaveCap
      refine Only.ite ?_ ?_
      · exact Only.refl _ _ _
      · extract_lets +onlyGivenNames v3
        have h4 : Only 18825036640046506967301617908639529610058205431093251463638129193687862966934283304638712283927911635240354816 3287795238553894103758854440930018684760427325279594141033955328 s v3 := by
          unfold v3
          refine Only.trans ?_ (State.setf_only _ _ _ _ (by decide))
          exact Only.refl _ _ _
        obtain ⟨w5, e6⟩ : ∃ x, x = v3 := ⟨_, rfl⟩
        rw [← e6] at h4 ⊢
        clear e6 v3
        refine Only.ite ?_ ?_
        · exact h4
        · extract_lets +onlyGivenNames v7
          have h8 : Only 18825036640046506967301617908639529610058205431093251463638129193687862966934283304638712283927911635240354816 3287795238553894103758854440930018684760427325279594141033955328 s v7 := by
            unfold v7
            refine Only.step ?_ (State.tallyCapped_only ..)
            exact h4
          obtain ⟨w9, e10⟩ : ∃ x, x = v7 := ⟨_, rfl⟩
          rw [← e10] at h8 ⊢
          clear e10 v7
          refine Only.step ?_ (State.relevel_only ..)
          refine Only.up_pwr ?_
          exact h8
    · exact Only.refl _ _ _
  · rename_i a11 a12
    refine Keeps.next ?_
    exact Only.refl _ _ _

theorem execCurrentSample_only (ma : Nat) (s : State) :
    Keeps (execCurrentSample ma s) (Only 1431143136377804623245152238668502251057056553241007421212255435777439874679214520235691577140718428410086400 154266052248863066452028360864751609842131487403148112196272256 s) := by
  unfold execCurrentSample
  refine Keeps.ite ?_ ?_
  · refine Keeps.next ?_
    exact Only.refl _ _ _
  · extract_lets +onlyGivenNames v0
    clear_value v0
    extract_lets +onlyGivenNames v1
    have h2 : Only 1431143136377804623245152238668502251057056553241007421212255435777439874679214520235691577140718428410086400 154266052248863066452028360864751609842131487403148112196272256 s v1 := by
      unfold v1
      refine Only.trans ?_ (State.setf_only _ _ _ _ (by decide))
      refine Only.trans ?_ (State.setf_only _ _ _ _ (by decide))
      exact Only.refl _ _ _
    obtain ⟨w3, e4⟩ : ∃ x, x = v1 := ⟨_, rfl⟩
    rw [← e4] at h2 ⊢
    clear e4 v1
    extract_lets +onlyGivenNames v5
    have h6 : Only 1431143136377804623245152238668502251057056553241007421212255435777439874679214520235691577140718428410086400 154266052248863066452028360864751609842131487403148112196272256 s v5 := by
      unfold v5
      refine Only.trans ?_ (State.setf_only _ _ _ _ (by decide))
      refine Only.trans ?_ (State.setf_only _ _ _ _ (by decide))
      exact h2
    obtain ⟨w7, e8⟩ : ∃ x, x = v5 := ⟨_, rfl⟩
    rw [← e8] at h6 ⊢
    clear e8 v5
    extract_lets +onlyGivenNames v9
    unfold v9
    clear v9
    extract_lets +onlyGivenNames v10
    have h11 : Only 1431143136377804623245152238668502251057056553241007421212255435777439874679214520235691577140718428410086400 154266052248863066452028360864751609842131487403148112196272256 s v10 := by
      unfold v10
      refine Only.up_pwr ?_
      exact h6
    obtain ⟨w12, e13⟩ : ∃ x, x = v10 := ⟨_, rfl⟩
    rw [← e13] at h11 ⊢
    clear e13 v10
    refine Keeps.next ?_
    refine Only.step ?_ (State.checkCap_only ..)
    exact h11

theorem State.showPin_only (s : State) (i : Nat) (high : Bool) :
    Only 10605137600338090669688435819876850014243316509914131916162610793327918972182970080408457754365302219816829952 102844034832575377634685573909834406561420991602098741466628224 s (State.showPin s i high) := by
  unfold State.showPin
  refine Only.ite ?_ ?_
  · refine Only.trans ?_ (State.putBit_only _ _ _ _ _ (by decide))
    exact Only.refl _ _ _
  · refine Only.ite ?_ ?_
    · refine Only.trans ?_ (State.putBit_only _ _ _ _ _ (by decide))
      exact Only.refl _ _ _
    · refine Only.ite ?_ ?_
      · refine Only.trans ?_ (State.setf_only _ _ _ _ (by decide))
        exact Only.refl _ _ _
      · refine Only.ite ?_ ?_
        · refine Only.step ?_ (State.checkCap_only ..)
          refine Only.trans ?_ (State.setf_only _ _ _ _ (by decide))
          exact Only.refl _ _ _
        · exact Only.refl _ _ _

theorem execPinChange_only (i : Nat) (high : Bool) (s : State) :
    Keeps (execPinChange i high s) (Only 10605137600338090836789043253565161778451751887245934189915877461236752032178866316510048750576516398923645952 102844034832762449844263929509893869981585060743137705514238088 s) := by
  unfold execPinChange
  refine Keeps.ite ?_ ?_
  · refine Keeps.next ?_
    exact Only.refl _ _ _
  · extract_lets +onlyGivenNames v0
    clear_value v0
    extract_lets +onlyGivenNames v1
    unfold v1
    clear v1
    extract_lets +onlyGivenNames v2
    have h3 : Only 10605137600338090836789043253565161778451751887245934189915877461236752032178866316510048750576516398923645952 102844034832762449844263929509893869981585060743137705514238088 s v2 := by
      unfold v2
      refine Only.step ?_ (State.showPin_only ..)
      refine Only.up_evt ?_
      exact Only.refl _ _ _
    obtain ⟨w4, e5⟩ : ∃ x, x = v2 := ⟨_, rfl⟩
    rw [← e5] at h3 ⊢
    clear e5 v2
    refine Keeps.ite ?_ ?_
    · refine Keeps.next ?_
      exact h3
    · refine Keeps.ite ?_ ?_
      · refine Keeps.next ?_
        refine Only.ite ?_ ?_
        · refine Only.step ?_ (State.assertSource_only ..)
          exact h3
        · exact h3
      · refine Keeps.next ?_
        refine Only.step ?_ (State.sample_only ..)
        exact h3

theorem execPllRelocked_only (s : State) :
    Keeps (execPllRelocked s) (Only 151480996588912243198871498492912238265731524404586631660620267663827482119892244603408585395817581345559805952 3287795238553894103758854440930018684760427325279594141026615296 s) := by
  unfold execPllRelocked
  refine Keeps.ite ?_ ?_
  · refine Keeps.next ?_
    exact Only.refl _ _ _
  · extract_lets +onlyGivenNames v0
    have h1 : Only 151480996588912243198871498492912238265731524404586631660620267663827482119892244603408585395817581345559805952 3287795238553894103758854440930018684760427325279594141026615296 s v0 := by
      unfold v0
      refine Only.trans ?_ (State.setf_only _ _ _ _ (by decide))
      refine Only.trans ?_ (State.setf_only _ _ _ _ (by decide))
      refine Only.trans ?_ (State.setf_only _ _ _ _ (by decide))
      refine Only.trans ?_ (State.setf_only _ _ _ _ (by decide))
      exact Only.refl _ _ _
    obtain ⟨w2, e3⟩ : ∃ x, x = v0 := ⟨_, rfl⟩
    rw [← e3] at h1 ⊢
    clear e3 v0
    refine Keeps.next ?_
    extract_lets +onlyGivenNames v4
    have h5 : Only 151480996588912243198871498492912238265731524404586631660620267663827482119892244603408585395817581345559805952 3287795238553894103758854440930018684760427325279594141026615296 s v4 := by
      unfold v4
      refine Only.trans ?_ (State.eventIf_only _ _ _ _ (by decide))
      exact h1
    obtain ⟨w6, e7⟩ : ∃ x, x = v4 := ⟨_, rfl⟩
    rw [← e7] at h5 ⊢
    clear e7 v4
    refine Only.up_pwr ?_
    exact h5

theorem execPllUnlock_only (p : Nat) (s : State) :
    Keeps (execPllUnlock p s) (Only 151480996588912243198871498492912238265731524404586631660620267663827482119892244603408585395817581345559805952 0 s) := by
  unfold execPllUnlock
  refine Keeps.ite ?_ ?_
  · refine Keeps.next ?_
    exact Only.refl _ _ _
  · refine Keeps.ite ?_ ?_
    · refine Keeps.next ?_
      refine Only.trans ?_ (State.event_only _ _ _ (by decide))
      refine Only.trans ?_ (State.setf_only _ _ _ _ (by decide))
      exact Only.refl _ _ _
    · refine Keeps.next ?_
      refine Only.trans ?_ (State.event_only _ _ _ (by decide))
      refine Only.trans ?_ (State.putBit_only _ _ _ _ _ (by decide))
      exact Only.refl _ _ _

theorem State.turnOff_only (s : State) (cause : Nat) (die : Nat) :
    Only 1202453802380202612679414065556140558016349465041059773802132977424491020858679523053413887173001575952350707711 3291009114642412084309938365114701009965471731267159726697218040 s (State.turnOff s cause die) := by
  unfold State.turnOff
  extract_lets +onlyGivenNames v0
  have h1 : Only 1202453802380202612679414065556140558016349465041059773802132977424491020858679523053413887173001575952350707711 3291009114642412084309938365114701009965471731267159726697218040 s v0 := by
    unfold v0
    refine Only.step ?_ (State.resetTo_only ..)
    exact Only.refl _ _ _
  obtain ⟨w2, e3⟩ : ∃ x, x = v0 := ⟨_, rfl⟩
  rw [← e3] at h1 ⊢
  clear e3 v0
  refine Only.trans ?_ (State.setf_only _ _ _ _ (by decide))
  refine Only.trans ?_ (State.setf_only _ _ _ _ (by decide))
  refine Only.up_pwr ?_
  exact h1

theorem execPowerOff_only (s : State) :
    Keeps (execPowerOff s) (Only 1202453802380202612679414065556140558016349465041059773802132977424491020858679523053413887173001575952350707711 3291009114642412084309938365114701009965471731267159726697218040 s) := by
  unfold execPowerOff
  split
  · rename_i a0 a1 a2
    refine Keeps.next ?_
    refine Only.ite ?_ ?_
    · refine Only.step ?_ (State.turnOff_only ..)
      exact Only.refl _ _ _
    · exact Only.refl _ _ _
  · rename_i a3 a4
    refine Keeps.next ?_
    exact Only.refl _ _ _

theorem execRefclkFreeRun_only (s : State) :
    Keeps (execRefclkFreeRun s) (Only 150306725297525326584926758194517569752043683130132471725266622178061377607334940381676735896625196994043838464 0 s) := by
  unfold execRefclkFreeRun
  split
  · rename_i a0 a1 a2
    refine Keeps.next ?_
    refine Only.ite ?_ ?_
    · refine Only.trans ?_ (State.setf_only _ _ _ _ (by decide))
      refine Only.trans ?_ (State.setf_only _ _ _ _ (by decide))
      exact Only.refl _ _ _
    · exact Only.refl _ _ _
  · rename_i a3 a4
    refine Keeps.next ?_
    exact Only.refl _ _ _

theorem execRefclkLost_only (s : State) :
    Keeps (execRefclkLost s) (Only 189057677913293574845103188041541630703742445187119749591936923208342826521725979698827769369973880594070765568 3287795238553894103758854440930018684760427325279594141026615296 s) := by
  unfold execRefclkLost
  refine Keeps.ite ?_ ?_
  · refine Keeps.next ?_
    exact Only.refl _ _ _
  · extract_lets +onlyGivenNames v0
    have h1 : Only 189057677913293574845103188041541630703742445187119749591936923208342826521725979698827769369973880594070765568 3287795238553894103758854440930018684760427325279594141026615296 s v0 := by
      unfold v0
      refine Only.trans ?_ (State.setf_only _ _ _ _ (by decide))
      refine Only.trans ?_ (State.setf_only _ _ _ _ (by decide))
      refine Only.trans ?_ (State.setf_only _ _ _ _ (by decide))
      exact Only.refl _ _ _
    obtain ⟨w2, e3⟩ : ∃ x, x = v0 := ⟨_, rfl⟩
    rw [← e3] at h1 ⊢
    clear e3 v0
    refine Keeps.next ?_
    extract_lets +onlyGivenNames v4
    have h5 : Only 189057677913293574845103188041541630703742445187119749591936923208342826521725979698827769369973880594070765568 3287795238553894103758854440930018684760427325279594141026615296 s v4 := by
      unfold v4
      refine Only.trans ?_ (State.countEv_only _ _ _ _ (by decide) (by decide))
      exact h1
    obtain ⟨w6, e7⟩ : ∃ x, x = v4 := ⟨_, rfl⟩
    rw [← e7] at h5 ⊢
    clear e7 v4
    refine Only.up_pwr ?_
    exact h5

theorem execRefclkReturn_only (s : State) :
    Keeps (execRefclkReturn s) (Only 150306725297525326584926758194517569752043683130132471725266622178061377607334940381676735896625196994043838464 0 s) := by
  unfold execRefclkReturn
  refine Keeps.next ?_
  refine Only.ite ?_ ?_
  · refine Only.trans ?_ (State.setf_only _ _ _ _ (by decide))
    exact Only.refl _ _ _
  · exact Only.refl _ _ _

theorem State.setAlert_only (s : State) (on : Bool) :
    Only 36695977855841144185773134324833391052745039826692497979801421430190766017415756929120296849762010984873984 822752278660603021077484591278675252491367932816789931674304520 s (State.setAlert s on) := by
  unfold State.setAlert
  refine Only.ite ?_ ?_
  · exact Only.refl _ _ _
  · extract_lets +onlyGivenNames v0
    have h1 : Only 36695977855841144185773134324833391052745039826692497979801421430190766017415756929120296849762010984873984 822752278660603021077484591278675252491367932816789931674304520 s v0 := by
      unfold v0
      refine Only.step ?_ (State.emit_only ..)
      refine Only.trans ?_ (State.setf_only _ _ _ _ (by decide))
      exact Only.refl _ _ _
    obtain ⟨w2, e3⟩ : ∃ x, x = v0 := ⟨_, rfl⟩
    rw [← e3] at h1 ⊢
    clear e3 v0
    refine Only.up_pwr ?_
    exact h1

theorem execThermalReport_only (d : Nat) (temp : Nat) (s : State) :
    Keeps (execThermalReport d temp s) (Only 1202453802380202612679414065556140558016349465041059773802132977424491020858679523053413887173001575952350707711 3291009114642412084309938365114701009965471731267159726697218040 s) := by
  unfold execThermalReport
  refine Keeps.ite ?_ ?_
  · refine Keeps.next ?_
    exact Only.refl _ _ _
  · extract_lets +onlyGivenNames v0
    clear_value v0
    extract_lets +onlyGivenNames v1
    clear_value v1
    extract_lets +onlyGivenNames v2
    have h3 : Only 1202453802380202612679414065556140558016349465041059773802132977424491020858679523053413887173001575952350707711 3291009114642412084309938365114701009965471731267159726697218040 s v2 := by
      unfold v2
      refine Only.trans ?_ (State.setf_only _ _ _ _ (by decide))
      refine Only.trans ?_ (State.setf_only _ _ _ _ (by decide))
      exact Only.refl _ _ _
    obtain ⟨w4, e5⟩ : ∃ x, x = v2 := ⟨_, rfl⟩
    rw [← e5] at h3 ⊢
    clear e5 v2
    extract_lets +onlyGivenNames v6
    clear_value v6
    refine Keeps.ite ?_ ?_
    · refine Keeps.next ?_
      refine Only.step ?_ (State.turnOff_only ..)
      exact h3
    · extract_lets +onlyGivenNames v7
      have h8 : Only 1202453802380202612679414065556140558016349465041059773802132977424491020858679523053413887173001575952350707711 3291009114642412084309938365114701009965471731267159726697218040 s v7 := by
        unfold v7
        refine Only.trans ?_ (State.eventIf_only _ _ _ _ (by decide))
        exact h3
      obtain ⟨w9, e10⟩ : ∃ x, x = v7 := ⟨_, rfl⟩
      rw [← e10] at h8 ⊢
      clear e10 v7
      extract_lets +onlyGivenNames v11
      have h12 : Only 1202453802380202612679414065556140558016349465041059773802132977424491020858679523053413887173001575952350707711 3291009114642412084309938365114701009965471731267159726697218040 s v11 := by
        unfold v11
        refine Only.ite ?_ ?_
        · refine Only.step ?_ (State.setAlert_only ..)
          exact h8
        · refine Only.ite ?_ ?_
          · refine Only.step ?_ (State.setAlert_only ..)
            exact h8
          · exact h8
      obtain ⟨w13, e14⟩ : ∃ x, x = v11 := ⟨_, rfl⟩
      rw [← e14] at h12 ⊢
      clear e14 v11
      extract_lets +onlyGivenNames v15
      have h16 : Only 1202453802380202612679414065556140558016349465041059773802132977424491020858679523053413887173001575952350707711 3291009114642412084309938365114701009965471731267159726697218040 s v15 := by
        unfold v15
        refine Only.trans ?_ (State.eventIf_only _ _ _ _ (by decide))
        exact h12
      obtain ⟨w17, e18⟩ : ∃ x, x = v15 := ⟨_, rfl⟩
      rw [← e18] at h16 ⊢
      clear e18 v15
      extract_lets +onlyGivenNames v19
      clear_value v19
      extract_lets +onlyGivenNames v20
      unfold v20
      clear v20
      extract_lets +onlyGivenNames v21
      have h22 : Only 1202453802380202612679414065556140558016349465041059773802132977424491020858679523053413887173001575952350707711 3291009114642412084309938365114701009965471731267159726697218040 s v21 := by
        unfold v21
        refine Only.up_pwr ?_
        exact h16
      obtain ⟨w23, e24⟩ : ∃ x, x = v21 := ⟨_, rfl⟩
      rw [← e24] at h22 ⊢
      clear e24 v21
      refine Keeps.next ?_
      refine Only.ite ?_ ?_
      · unfold State.enterCap
        refine Only.ite ?_ ?_
        · exact h22
        · extract_lets +onlyGivenNames v25
          have h26 : Only 1202453802380202612679414065556140558016349465041059773802132977424491020858679523053413887173001575952350707711 3291009114642412084309938365114701009965471731267159726697218040 s v25 := by
            unfold v25
            refine Only.step ?_ (State.degradeWhere_only ..)
            refine Only.trans ?_ (State.event_only _ _ _ (by decide))
            refine Only.trans ?_ (State.setf_only _ _ _ _ (by decide))
            exact h22
          obtain ⟨w27, e28⟩ : ∃ x, x = v25 := ⟨_, rfl⟩
          rw [← e28] at h26 ⊢
          clear e28 v25
          refine Only.step ?_ (State.relevel_only ..)
          refine Only.up_pwr ?_
          exact h26
      · unfold State.leaveCap
        refine Only.ite ?_ ?_
        · exact h22
        · extract_lets +onlyGivenNames v29
          have h30 : Only 1202453802380202612679414065556140558016349465041059773802132977424491020858679523053413887173001575952350707711 3291009114642412084309938365114701009965471731267159726697218040 s v29 := by
            unfold v29
            refine Only.trans ?_ (State.setf_only _ _ _ _ (by decide))
            exact h22
          obtain ⟨w31, e32⟩ : ∃ x, x = v29 := ⟨_, rfl⟩
          rw [← e32] at h30 ⊢
          clear e32 v29
          refine Only.ite ?_ ?_
          · exact h30
          · extract_lets +onlyGivenNames v33
            have h34 : Only 1202453802380202612679414065556140558016349465041059773802132977424491020858679523053413887173001575952350707711 3291009114642412084309938365114701009965471731267159726697218040 s v33 := by
              unfold v33
              refine Only.step ?_ (State.tallyCapped_only ..)
              exact h30
            obtain ⟨w35, e36⟩ : ∃ x, x = v33 := ⟨_, rfl⟩
            rw [← e36] at h34 ⊢
            clear e36 v33
            refine Only.step ?_ (State.relevel_only ..)
            refine Only.up_pwr ?_
            exact h34

theorem execVinChange_only (mv : Nat) (s : State) :
    Keeps (execVinChange mv s) (Only 1284359224954440046502059701369168686846076393934237429293049750056676810609551492519210389741670384470590464 128555043540719222043356967387293008201776239502623426831450240 s) := by
  unfold execVinChange
  extract_lets +onlyGivenNames v0
  clear_value v0
  extract_lets +onlyGivenNames v1
  have h2 : Only 1284359224954440046502059701369168686846076393934237429293049750056676810609551492519210389741670384470590464 128555043540719222043356967387293008201776239502623426831450240 s v1 := by
    unfold v1
    refine Only.trans ?_ (State.setf_only _ _ _ _ (by decide))
    exact Only.refl _ _ _
  obtain ⟨w3, e4⟩ : ∃ x, x = v1 := ⟨_, rfl⟩
  rw [← e4] at h2 ⊢
  clear e4 v1
  extract_lets +onlyGivenNames v5
  clear_value v5
  extract_lets +onlyGivenNames v6
  clear_value v6
  extract_lets +onlyGivenNames v7
  have h8 : Only 1284359224954440046502059701369168686846076393934237429293049750056676810609551492519210389741670384470590464 128555043540719222043356967387293008201776239502623426831450240 s v7 := by
    unfold v7
    refine Only.trans ?_ (State.setf_only _ _ _ _ (by decide))
    refine Only.trans ?_ (State.setf_only _ _ _ _ (by decide))
    exact h2
  obtain ⟨w9, e10⟩ : ∃ x, x = v7 := ⟨_, rfl⟩
  rw [← e10] at h8 ⊢
  clear e10 v7
  extract_lets +onlyGivenNames v11
  unfold v11
  clear v11
  extract_lets +onlyGivenNames v12
  have h13 : Only 1284359224954440046502059701369168686846076393934237429293049750056676810609551492519210389741670384470590464 128555043540719222043356967387293008201776239502623426831450240 s v12 := by
    unfold v12
    refine Only.up_pwr ?_
    exact h8
  obtain ⟨w14, e15⟩ : ∃ x, x = v12 := ⟨_, rfl⟩
  rw [← e15] at h13 ⊢
  clear e15 v12
  refine Keeps.ite ?_ ?_
  · refine Keeps.next ?_
    exact h13
  · refine Keeps.next ?_
    refine Only.step ?_ (State.checkCap_only ..)
    refine Only.trans ?_ (State.eventIf_only _ _ _ _ (by decide))
    refine Only.trans ?_ (State.eventIf_only _ _ _ _ (by decide))
    exact h13

/-! ### Scs -/

theorem State.tallyThrottle_only (s : State) (n : Nat) :
    Only 21267647932558653966460912964485513216 618970019642690137449562112 s (State.tallyThrottle s n) := by
  unfold State.tallyThrottle
  split
  · rename_i a0 a1 a2
    refine Only.step ?_ (State.updSess_only ..)
    refine Only.trans ?_ (State.count_only _ _ _ _ (by decide))
    exact Only.refl _ _ _
  · rename_i a3 a4
    exact Only.refl _ _ _

theorem State.beforeRead_only (s : State) (a : Nat) :
    Only 18788340662190665823115844797080347299775722941104003186246439959473377367326775494937922630166847180989530112 3287795238553894103758854440930018685379397344922284278476177408 s (State.beforeRead s a) := by
  unfold State.beforeRead
  split
  · rename_i a0 a1
    exact Only.refl _ _ _
  · rename_i a2 a3 a4
    refine Only.ite ?_ ?_
    · refine Only.step ?_ (State.tallyCapped_only ..)
      exact Only.refl _ _ _
    · refine Only.ite ?_ ?_
      · refine Only.step ?_ (State.tallyThrottle_only ..)
        exact Only.refl _ _ _
      · refine Only.ite ?_ ?_
        · refine Only.step ?_ (State.latchBase_only ..)
          exact Only.refl _ _ _
        · exact Only.refl _ _ _

theorem State.afterRead_only (s : State) (a : Nat) :
    Only 1202453802380202612679414065556140558016349465041059773802132977424491020858679523053413887173001575952350707711 5316911983139663491615228241121378308 s (State.afterRead s a) := by
  unfold State.afterRead
  split
  · rename_i a0 a1
    exact Only.refl _ _ _
  · rename_i a2 a3 a4
    refine Only.ite ?_ ?_
    · extract_lets +onlyGivenNames v5
      clear_value v5
      refine Only.step ?_ (State.setNocLink_only ..)
      exact Only.refl _ _ _
    · refine Only.ite ?_ ?_
      · refine Only.up_free ?_
        exact Only.refl _ _ _
      · refine Only.ite ?_ ?_
        · refine Only.step ?_ (State.setWord_only ..)
          exact Only.refl _ _ _
        · exact Only.refl _ _ _

end Sys2Proof.Machine
end

