-- ==== Sys2Proof/Laws/OnlyHost.lean ====
section
/-! SUPPORT. What each operation changes and what it leaves as it is: the pole, writes, the expin requests, the host port and constellations. One lemma per operation, stated with
the relation of Laws/Only.lean. -/

-- One theorem at a time: elaborated side by side, the theorems of the package take a thread each while they wait.
set_option Elab.async false

namespace Sys2Proof.Machine

/-! ### Pole -/

theorem State.keepHeld_only (s : State) :
    Only 130433959859667562211376412985962995374826835581921980548545368147722727600471153467805663232 187072209578355574665886596392177770257005437517824 s (State.keepHeld s) := by
  unfold State.keepHeld
  extract_lets +onlyGivenNames v0
  unfold v0
  clear v0
  extract_lets +onlyGivenNames v1
  have h2 : Only 130433959859667562211376412985962995374826835581921980548545368147722727600471153467805663232 187072209578355574665886596392177770257005437517824 s v1 := by
    unfold v1
    refine Only.step ?_ (State.syncHeld_only ..)
    refine Only.up_cst ?_
    exact Only.refl _ _ _
  obtain ⟨w3, e4⟩ : ∃ x, x = v1 := ⟨_, rfl⟩
  rw [← e4] at h2 ⊢
  clear e4 v1
  refine Only.foldl ?_ ?_
  · exact h2
  · intro u5 u6 h7
    refine Only.ite ?_ ?_
    · refine Only.up_evt ?_
      exact h7
    · refine Only.step ?_ (State.gather_only ..)
      exact h7

theorem State.dropOldPole_only (s : State) :
    Only 971334446112864535459730953411759453321203419526069760625906204869452142602604249088 1921728502926404247146025186538640542545585700759142400 s (State.dropOldPole s) := by
  unfold State.dropOldPole
  refine Only.step ?_ (State.syncTxns_only ..)
  refine Only.up_cst_host ?_
  exact Only.refl _ _ _

theorem State.takePole_only (s : State) (highest : Nat) :
    Only 138582104736339952669314731199331461430792162477789145077159690571046457668976642895143501828 1921915575135982602720691073135032720315842706196660224 s (State.takePole s highest) := by
  unfold State.takePole
  extract_lets +onlyGivenNames v0
  have h1 : Only 138582104736339952669314731199331461430792162477789145077159690571046457668976642895143501828 1921915575135982602720691073135032720315842706196660224 s v0 := by
    unfold v0
    refine Only.step ?_ (State.keepHeld_only ..)
    refine Only.trans ?_ (State.setf_only _ _ _ _ (by decide))
    refine Only.trans ?_ (State.setf_only _ _ _ _ (by decide))
    refine Only.step ?_ (State.dropOldPole_only ..)
    exact Only.refl _ _ _
  obtain ⟨w2, e3⟩ : ∃ x, x = v0 := ⟨_, rfl⟩
  rw [← e3] at h1 ⊢
  clear e3 v0
  refine Only.trans ?_ (State.setf_only _ _ _ _ (by decide))
  exact h1

theorem State.writePromote_only (s : State) :
    Only 138582104736339952669314731199331461430792162477789145077159690571046457668976642895143501828 1921915575135982602720691073135032720315842706196660228 s (State.writePromote s) := by
  unfold State.writePromote
  refine Only.ite ?_ ?_
  · refine Only.step ?_ (State.takePole_only ..)
    refine Only.step ?_ (State.fresh_only ..)
    exact Only.refl _ _ _
  · exact Only.refl _ _ _

theorem State.writeMap_only (s : State) (v : Nat) :
    Only 0 365375409332725729550921208179070754913983135744 s (State.writeMap s v) := by
  unfold State.writeMap
  extract_lets +onlyGivenNames v0
  clear_value v0
  refine Only.ite ?_ ?_
  · refine Only.up_cst ?_
    exact Only.refl _ _ _
  · exact Only.refl _ _ _

theorem State.loseBound_only (s : State) :
    Only 68351748112347229395527596073404575714420242181980479848332668920927581994955645746794217584108576 187072209578355574179108765961207815075121536932232 s (State.loseBound s) := by
  unfold State.loseBound
  extract_lets +onlyGivenNames v0
  clear_value v0
  extract_lets +onlyGivenNames v1
  have h2 : Only 68351748112347229395527596073404575714420242181980479848332668920927581994955645746794217584108576 187072209578355574179108765961207815075121536932232 s v1 := by
    unfold v1
    refine Only.step ?_ (State.endWhere_only ..)
    refine Only.step ?_ (State.addPendings_only ..)
    exact Only.refl _ _ _
  obtain ⟨w3, e4⟩ : ∃ x, x = v1 := ⟨_, rfl⟩
  rw [← e4] at h2 ⊢
  clear e4 v1
  refine Only.step ?_ (State.syncTracks_only ..)
  refine Only.foldl ?_ ?_
  · exact h2
  · intro u5 u6 h7
    refine Only.ite ?_ ?_
    · exact h7
    · refine Only.step ?_ (State.setTrack_only ..)
      exact h7

theorem execCstMemberLost_only (pos : Nat) (s : State) :
    Keeps (execCstMemberLost pos s) (Only 68351748112347229395527596073404575714420242181980479848332668920927581994955645746794217584108576 187072209578355574179108765961207815075121536932232 s) := by
  unfold execCstMemberLost
  refine Keeps.ite ?_ ?_
  · refine Keeps.next ?_
    refine Only.step ?_ (State.loseBound_only ..)
    refine Only.trans ?_ (State.eventIf_only _ _ _ _ (by decide))
    exact Only.refl _ _ _
  · refine Keeps.next ?_
    exact Only.refl _ _ _

theorem execPoleLost_only (s : State) :
    Keeps (execPoleLost s) (Only 68351748112347229395527596073404575714420242181980479848332668920927581994955645746794217584108576 6173382916085733927141401840767103063585821232961928 s) := by
  unfold execPoleLost
  split
  · rename_i a0 a1 a2
    refine Keeps.ite ?_ ?_
    · extract_lets +onlyGivenNames v3
      unfold v3
      clear v3
      extract_lets +onlyGivenNames v4
      have h5 : Only 68351748112347229395527596073404575714420242181980479848332668920927581994955645746794217584108576 6173382916085733927141401840767103063585821232961928 s v4 := by
        unfold v4
        refine Only.trans ?_ (State.event_only _ _ _ (by decide))
        refine Only.up_cst ?_
        exact Only.refl _ _ _
      obtain ⟨w6, e7⟩ : ∃ x, x = v4 := ⟨_, rfl⟩
      rw [← e7] at h5 ⊢
      clear e7 v4
      refine Keeps.next ?_
      refine Only.ite ?_ ?_
      · refine Only.step ?_ (State.loseBound_only ..)
        exact h5
      · exact h5
    · refine Keeps.next ?_
      exact Only.refl _ _ _
  · rename_i a8 a9
    refine Keeps.next ?_
    exact Only.refl _ _ _

theorem State.newPole_only (s : State) :
    Only 171111022983431277359413973286118718940082798389142064579505558371674234049572425922009628672 1921915575135982602719555258197228226772101660124643336 s (State.newPole s) := by
  unfold State.newPole
  refine Only.step ?_ (State.flushHeld_only ..)
  refine Only.trans ?_ (State.setf_only _ _ _ _ (by decide))
  refine Only.trans ?_ (State.setf_only _ _ _ _ (by decide))
  refine Only.step ?_ (State.dropOldPole_only ..)
  exact Only.refl _ _ _

theorem execPromote_only (highest : Nat) (s : State) :
    Keeps (execPromote highest s) (Only 171174680357691730049609862213881512007615656776444125087337937760716558465190030194077859844 1921915575135982602720691073135032720315842706196660232 s) := by
  unfold execPromote
  refine Keeps.ite ?_ ?_
  · refine Keeps.next ?_
    exact Only.refl _ _ _
  · refine Keeps.ite ?_ ?_
    · refine Keeps.next ?_
      refine Only.step ?_ (State.takePole_only ..)
      exact Only.refl _ _ _
    · refine Keeps.next ?_
      refine Only.step ?_ (State.newPole_only ..)
      exact Only.refl _ _ _

/-! ### Write -/

theorem State.writeModule_only (s : State) (v : Nat) :
    Only 44601490397061246283071436545296723011960832 21267647932558653966460912964485513224 s (State.writeModule s v).2 := by
  unfold State.writeModule
  extract_lets +onlyGivenNames v0
  clear_value v0
  extract_lets +onlyGivenNames v1
  have h2 : Only 44601490397061246283071436545296723011960832 21267647932558653966460912964485513224 s v1 := by
    unfold v1
    refine Only.step ?_ (State.setModule_only ..)
    exact Only.refl _ _ _
  obtain ⟨w3, e4⟩ : ∃ x, x = v1 := ⟨_, rfl⟩
  rw [← e4] at h2 ⊢
  clear e4 v1
  refine Only.iteSnd ?_ ?_
  · refine Only.step ?_ (State.moduleGo_only ..)
    exact h2
  · refine Only.pair _ ?_
    exact h2

theorem State.writeSwap_only (s : State) (cmd : Nat) :
    Only 12620000 1036 s (State.writeSwap s cmd).2 := by
  unfold State.writeSwap
  refine Only.iteSnd ?_ ?_
  · refine Only.step ?_ (State.arm_only ..)
    exact Only.refl _ _ _
  · refine Only.iteSnd ?_ ?_
    · refine Only.step ?_ (State.arm_only ..)
      exact Only.refl _ _ _
    · refine Only.iteSnd ?_ ?_
      · refine Only.pair _ ?_
        refine Only.step ?_ (State.cancelSwap_only ..)
        exact Only.refl _ _ _
      · refine Only.pair _ ?_
        exact Only.refl _ _ _

theorem State.clearSources_only (s : State) (a : Nat) (v : Word) :
    Only 4074071952668972172536891376818756322102936787331872501272280898708762599526673412366794752 0 s (State.clearSources s a v) := by
  unfold State.clearSources
  split
  · rename_i a0 a1
    exact Only.refl _ _ _
  · rename_i a2 a3 a4
    refine Only.foldl ?_ ?_
    · exact Only.refl _ _ _
    · intro u5 u6 h7
      refine Only.trans ?_ (State.setf_only _ _ _ _ (by decide))
      exact h7

theorem State.clearBits_only (s : State) (r : Reg) (a : Nat) (v : Word) :
    Only 1202453802380202612679414065556140558016349465041059773802132977424491020858679523053413887173001575952350707711 0 s (State.clearBits s r a v) := by
  unfold State.clearBits
  extract_lets +onlyGivenNames v0
  clear_value v0
  extract_lets +onlyGivenNames v1
  clear_value v1
  refine Only.step ?_ (State.setWord_only ..)
  exact Only.refl _ _ _

theorem State.putRw_only (s : State) (r : Reg) (a : Nat) (v : Word) :
    Only 1202453802380202612679414065556140558016349465041059773802132977424491020858679523053413887173001575952350707711 0 s (State.putRw s r a v) := by
  unfold State.putRw
  refine Only.step ?_ (State.setWord_only ..)
  exact Only.refl _ _ _

theorem State.writeTrack_only (s : State) (n : Nat) (cmd : Nat) :
    Only 68351748112347229395534833100118506163881184989354298901282731695985579234127885559593869250569248 187072209578440644770839680296904703294383412451724 s (State.writeTrack s n cmd) := by
  unfold State.writeTrack
  refine Only.ite ?_ ?_
  · refine Only.step ?_ (State.resumeTrack_only ..)
    exact Only.refl _ _ _
  · refine Only.ite ?_ ?_
    · refine Only.step ?_ (State.haltTrack_only ..)
      exact Only.refl _ _ _
    · refine Only.ite ?_ ?_
      · refine Only.step ?_ (State.abortTrack_only ..)
        exact Only.refl _ _ _
      · exact Only.refl _ _ _

theorem State.afterPortCfg_only (s : State) (old : State) (p : Nat) :
    Only 2787593149816327892691964784081045188247552 10633823966279326983230456482242756616 s (State.afterPortCfg s old p) := by
  unfold State.afterPortCfg
  refine Only.step ?_ (State.driveTx_only ..)
  refine Only.step ?_ (State.syncTim_only ..)
  refine Only.step ?_ (State.syncPort_only ..)
  exact Only.refl _ _ _

theorem State.clipPolicer_only (s : State) (old : State) (k : Nat) :
    Only 0 154742504910672534362390528 s (State.clipPolicer s old k) := by
  unfold State.clipPolicer
  extract_lets +onlyGivenNames v0
  clear_value v0
  refine Only.up_sch ?_
  exact Only.refl _ _ _

theorem State.afterSource_only (s : State) (src : Nat) :
    Only 167100607433688311764208435377331802273753266667908833059995896236101590996211214179106816000 187072209578355579290275986024758626916978730729480 s (State.afterSource s src) := by
  unfold State.afterSource
  extract_lets +onlyGivenNames v0
  have h1 : Only 167100607433688311764208435377331802273753266667908833059995896236101590996211214179106816000 187072209578355579290275986024758626916978730729480 s v0 := by
    unfold v0
    refine Only.ite ?_ ?_
    · exact Only.refl _ _ _
    · refine Only.trans ?_ (State.setf_only _ _ _ _ (by decide))
      refine Only.trans ?_ (State.setf_only _ _ _ _ (by decide))
      refine Only.trans ?_ (State.setf_only _ _ _ _ (by decide))
      exact Only.refl _ _ _
  obtain ⟨w2, e3⟩ : ∃ x, x = v0 := ⟨_, rfl⟩
  rw [← e3] at h1 ⊢
  clear e3 v0
  refine Only.step ?_ (State.retryHeld_only ..)
  refine Only.ite ?_ ?_
  · refine Only.trans ?_ (State.setf_only _ _ _ _ (by decide))
    exact h1
  · exact h1

theorem State.writeTwilight_only (s : State) (cmd : Nat) :
    Only 27521983461167100579892478300200461359412534636185243069615427260023616886486521504245566357649774734124064 49040044379920809416274177055205104290455296017867970952 s (State.writeTwilight s cmd) := by
  unfold State.writeTwilight
  extract_lets +onlyGivenNames v0
  clear_value v0
  refine Only.ite ?_ ?_
  · refine State.twilightResult_only ?_
    refine Only.step ?_ (State.disable_only ..)
    exact Only.refl _ _ _
  · refine Only.ite ?_ ?_
    · refine State.twilightResult_only ?_
      refine Only.step ?_ (State.enable_only ..)
      exact Only.refl _ _ _
    · exact Only.refl _ _ _

theorem State.writeFw_only (s : State) (restart : Nat) :
    Only 2402985415411023842694399419440746128928042587651234366190421808799997191503220618775832347803648 784637716923335095479473677900958302012794430558004314112 s (State.writeFw s restart) := by
  unfold State.writeFw
  refine Only.ite ?_ ?_
  · refine Only.trans ?_ (State.setf_only _ _ _ _ (by decide))
    refine Only.step ?_ (State.restartFw_only ..)
    exact Only.refl _ _ _
  · exact Only.refl _ _ _

theorem State.writeSec_only (s : State) (cmd : Nat) :
    Only 17087896287399110317624846107319328199580660534615819346672174956654486320983252126604339091894960128 1569275481737155843017974179500261202623866576653434843299844 s (State.writeSec s cmd) := by
  unfold State.writeSec
  refine Only.ite ?_ ?_
  · refine Only.step ?_ (State.execute_only ..)
    refine Only.step ?_ (State.fresh_only ..)
    exact Only.refl _ _ _
  · refine Only.ite ?_ ?_
    · refine State.secResult_only ?_
      refine Only.step ?_ (State.startQuote_only ..)
      exact Only.refl _ _ _
    · refine Only.ite ?_ ?_
      · refine State.secResult_only ?_
        refine Only.step ?_ (State.raise_only ..)
        exact Only.refl _ _ _
      · refine Only.ite ?_ ?_
        · refine State.secResult_only ?_
          refine Only.step ?_ (State.persist_only ..)
          exact Only.refl _ _ _
        · exact Only.refl _ _ _

theorem State.writeBist_only (s : State) (cmd : Nat) :
    Only 43115154905669222890573919727916339029611406174285295080876510311564207766740161399010701077833085527072 441358902841585569573370408519466054452214154822023354760 s (State.writeBist s cmd) := by
  unfold State.writeBist
  refine Only.ite ?_ ?_
  · refine State.bistResult_only ?_
    refine Only.step ?_ (State.runNow_only ..)
    exact Only.refl _ _ _
  · refine Only.ite ?_ ?_
    · refine State.bistResult_only ?_
      refine Only.step ?_ (State.unretire_only ..)
      exact Only.refl _ _ _
    · exact Only.refl _ _ _

theorem State.writeReg_only (s : State) (r : Reg) (a : Nat) (v : Word) :
    Only 1202453802380202612679414065556140558016349465041059773802132977424491020858679523053413887173001575952350707711 515790800162605970419916606352197875746528796680624644000292236 s (State.writeReg s r a v).2 := by
  unfold State.writeReg
  split
  · rename_i a0 a1 a2
    refine Only.pair _ ?_
    exact Only.refl _ _ _
  · rename_i a3 a4
    extract_lets +onlyGivenNames v5
    clear_value v5
    refine Only.iteSnd ?_ ?_
    · refine Only.step ?_ (State.writeToken_only ..)
      exact Only.refl _ _ _
    · refine Only.iteSnd ?_ ?_
      · refine Only.step ?_ (State.writeGcsMap_only ..)
        exact Only.refl _ _ _
      · refine Only.iteSnd ?_ ?_
        · refine Only.step ?_ (State.writeModule_only ..)
          exact Only.refl _ _ _
        · unfold State.afterWrite
          extract_lets +onlyGivenNames v6
          clear_value v6
          refine Only.iteSnd ?_ ?_
          · refine Only.step ?_ (State.writeSwap_only ..)
            refine Only.step ?_ (State.clearSources_only ..)
            refine Only.step ?_ (State.clearBits_only ..)
            refine Only.step ?_ (State.putRw_only ..)
            exact Only.refl _ _ _
          · refine Only.iteSnd ?_ ?_
            · refine Only.pair _ ?_
              refine Only.step ?_ (State.writeTrack_only ..)
              refine Only.step ?_ (State.clearSources_only ..)
              refine Only.step ?_ (State.clearBits_only ..)
              refine Only.step ?_ (State.putRw_only ..)
              exact Only.refl _ _ _
            · refine Only.iteSnd ?_ ?_
              · refine Only.pair _ ?_
                refine Only.ite ?_ ?_
                · refine Only.step ?_ (State.askQuickCal_only ..)
                  refine Only.step ?_ (State.clearSources_only ..)
                  refine Only.step ?_ (State.clearBits_only ..)
                  refine Only.step ?_ (State.putRw_only ..)
                  exact Only.refl _ _ _
                · refine Only.ite ?_ ?_
                  · refine Only.step ?_ (State.askFullCal_only ..)
                    refine Only.step ?_ (State.clearSources_only ..)
                    refine Only.step ?_ (State.clearBits_only ..)
                    refine Only.step ?_ (State.putRw_only ..)
                    exact Only.refl _ _ _
                  · refine Only.step ?_ (State.clearSources_only ..)
                    refine Only.step ?_ (State.clearBits_only ..)
                    refine Only.step ?_ (State.putRw_only ..)
                    exact Only.refl _ _ _
              · refine Only.iteSnd ?_ ?_
                · refine Only.pair _ ?_
                  refine Only.step ?_ (State.writeSessCtrl_only ..)
                  exact Only.refl _ _ _
                · refine Only.iteSnd ?_ ?_
                  · refine Only.pair _ ?_
                    refine Only.step ?_ (State.afterPortCfg_only ..)
                    refine Only.step ?_ (State.clearSources_only ..)
                    refine Only.step ?_ (State.clearBits_only ..)
                    refine Only.step ?_ (State.putRw_only ..)
                    exact Only.refl _ _ _
                  · refine Only.iteSnd ?_ ?_
                    · refine Only.pair _ ?_
                      refine Only.step ?_ (State.syncTim_only ..)
                      refine Only.step ?_ (State.clearSources_only ..)
                      refine Only.step ?_ (State.clearBits_only ..)
                      refine Only.step ?_ (State.putRw_only ..)
                      exact Only.refl _ _ _
                    · refine Only.iteSnd ?_ ?_
                      · refine Only.pair _ ?_
                        refine Only.ite ?_ ?_
                        · refine Only.step ?_ (State.calFull_only ..)
                          refine Only.step ?_ (State.clearSources_only ..)
                          refine Only.step ?_ (State.clearBits_only ..)
                          refine Only.step ?_ (State.putRw_only ..)
                          exact Only.refl _ _ _
                        · refine Only.step ?_ (State.clearSources_only ..)
                          refine Only.step ?_ (State.clearBits_only ..)
                          refine Only.step ?_ (State.putRw_only ..)
                          exact Only.refl _ _ _
                      · refine Only.iteSnd ?_ ?_
                        · refine Only.pair _ ?_
                          refine Only.step ?_ (State.writeGcsEncrypt_only ..)
                          exact Only.refl _ _ _
                        · refine Only.iteSnd ?_ ?_
                          · refine Only.pair _ ?_
                            refine Only.step ?_ (State.writeAsym_only ..)
                            exact Only.refl _ _ _
                          · refine Only.iteSnd ?_ ?_
                            · refine Only.pair _ ?_
                              refine Only.step ?_ (State.clipPolicer_only ..)
                              refine Only.step ?_ (State.clearSources_only ..)
                              refine Only.step ?_ (State.clearBits_only ..)
                              refine Only.step ?_ (State.putRw_only ..)
                              exact Only.refl _ _ _
                            · refine Only.iteSnd ?_ ?_
                              · refine Only.pair _ ?_
                                refine Only.ite ?_ ?_
                                · refine Only.step ?_ (State.clearSources_only ..)
                                  refine Only.step ?_ (State.clearBits_only ..)
                                  refine Only.step ?_ (State.putRw_only ..)
                                  exact Only.refl _ _ _
                                · refine Only.step ?_ (State.setTarget_only ..)
                                  refine Only.step ?_ (State.clearSources_only ..)
                                  refine Only.step ?_ (State.clearBits_only ..)
                                  refine Only.step ?_ (State.putRw_only ..)
                                  exact Only.refl _ _ _
                              · refine Only.iteSnd ?_ ?_
                                · refine Only.pair _ ?_
                                  refine Only.step ?_ (State.afterSource_only ..)
                                  refine Only.step ?_ (State.clearSources_only ..)
                                  refine Only.step ?_ (State.clearBits_only ..)
                                  refine Only.step ?_ (State.putRw_only ..)
                                  exact Only.refl _ _ _
                                · refine Only.iteSnd ?_ ?_
                                  · refine Only.pair _ ?_
                                    refine Only.ite ?_ ?_
                                    · refine Only.step ?_ (State.writePromote_only ..)
                                      refine Only.step ?_ (State.clearSources_only ..)
                                      refine Only.step ?_ (State.clearBits_only ..)
                                      refine Only.step ?_ (State.putRw_only ..)
                                      exact Only.refl _ _ _
                                    · refine Only.step ?_ (State.clearSources_only ..)
                                      refine Only.step ?_ (State.clearBits_only ..)
                                      refine Only.step ?_ (State.putRw_only ..)
                                      exact Only.refl _ _ _
                                  · refine Only.iteSnd ?_ ?_
                                    · refine Only.pair _ ?_
                                      refine Only.step ?_ (State.writeMap_only ..)
                                      exact Only.refl _ _ _
                                    · refine Only.iteSnd ?_ ?_
                                      · refine Only.pair _ ?_
                                        refine Only.ite ?_ ?_
                                        · refine Only.step ?_ (State.startActivation_only ..)
                                          refine Only.step ?_ (State.clearSources_only ..)
                                          refine Only.step ?_ (State.clearBits_only ..)
                                          refine Only.step ?_ (State.putRw_only ..)
                                          exact Only.refl _ _ _
                                        · refine Only.ite ?_ ?_
                                          · refine Only.step ?_ (State.discard_only ..)
                                            refine Only.step ?_ (State.clearSources_only ..)
                                            refine Only.step ?_ (State.clearBits_only ..)
                                            refine Only.step ?_ (State.putRw_only ..)
                                            exact Only.refl _ _ _
                                          · refine Only.step ?_ (State.clearSources_only ..)
                                            refine Only.step ?_ (State.clearBits_only ..)
                                            refine Only.step ?_ (State.putRw_only ..)
                                            exact Only.refl _ _ _
                                      · refine Only.iteSnd ?_ ?_
                                        · refine Only.pair _ ?_
                                          refine Only.step ?_ (State.writeTwilight_only ..)
                                          refine Only.step ?_ (State.clearSources_only ..)
                                          refine Only.step ?_ (State.clearBits_only ..)
                                          refine Only.step ?_ (State.putRw_only ..)
                                          exact Only.refl _ _ _
                                        · refine Only.iteSnd ?_ ?_
                                          · refine Only.pair _ ?_
                                            refine Only.step ?_ (State.writeFw_only ..)
                                            refine Only.step ?_ (State.clearSources_only ..)
                                            refine Only.step ?_ (State.clearBits_only ..)
                                            refine Only.step ?_ (State.putRw_only ..)
                                            exact Only.refl _ _ _
                                          · refine Only.iteSnd ?_ ?_
                                            · refine Only.pair _ ?_
                                              refine Only.step ?_ (State.writeSec_only ..)
                                              refine Only.step ?_ (State.clearSources_only ..)
                                              refine Only.step ?_ (State.clearBits_only ..)
                                              refine Only.step ?_ (State.putRw_only ..)
                                              exact Only.refl _ _ _
                                            · refine Only.iteSnd ?_ ?_
                                              · refine Only.pair _ ?_
                                                refine Only.step ?_ (State.writeBist_only ..)
                                                refine Only.step ?_ (State.clearSources_only ..)
                                                refine Only.step ?_ (State.clearBits_only ..)
                                                refine Only.step ?_ (State.putRw_only ..)
                                                exact Only.refl _ _ _
                                              · refine Only.iteSnd ?_ ?_
                                                · refine Only.pair _ ?_
                                                  refine Only.ite ?_ ?_
                                                  · refine Only.up_pwr ?_
                                                    refine Only.step ?_ (State.clearSources_only ..)
                                                    refine Only.step ?_ (State.clearBits_only ..)
                                                    refine Only.step ?_ (State.putRw_only ..)
                                                    exact Only.refl _ _ _
                                                  · refine Only.step ?_ (State.clearSources_only ..)
                                                    refine Only.step ?_ (State.clearBits_only ..)
                                                    refine Only.step ?_ (State.putRw_only ..)
                                                    exact Only.refl _ _ _
                                                · refine Only.iteSnd ?_ ?_
                                                  · refine Only.pair _ ?_
                                                    refine Only.step ?_ (State.checkCap_only ..)
                                                    refine Only.ite ?_ ?_
                                                    · refine Only.step ?_ (State.relevel_only ..)
                                                      refine Only.step ?_ (State.clearSources_only ..)
                                                      refine Only.step ?_ (State.clearBits_only ..)
                                                      refine Only.step ?_ (State.putRw_only ..)
                                                      exact Only.refl _ _ _
                                                    · refine Only.step ?_ (State.clearSources_only ..)
                                                      refine Only.step ?_ (State.clearBits_only ..)
                                                      refine Only.step ?_ (State.putRw_only ..)
                                                      exact Only.refl _ _ _
                                                  · refine Only.pair _ ?_
                                                    refine Only.step ?_ (State.clearSources_only ..)
                                                    refine Only.step ?_ (State.clearBits_only ..)
                                                    refine Only.step ?_ (State.putRw_only ..)
                                                    exact Only.refl _ _ _

theorem State.writeWord_only (s : State) (a : Nat) (v : Word) :
    Only 1202453802380202612679414065556140558016349465041059773802132977424491020858679523053413887173001575952350707711 515790800162605970419916606352197875746528796680624644000292300 s (State.writeWord s a v).2 := by
  unfold State.writeWord
  split
  · rename_i a0 a1 a2
    refine Only.iteSnd ?_ ?_
    · refine Only.step ?_ (State.writeShadow_only ..)
      exact Only.refl _ _ _
    · refine Only.pair _ ?_
      exact Only.refl _ _ _
  · rename_i a3 a4
    split
    · rename_i a5 a6
      refine Only.pair _ ?_
      exact Only.refl _ _ _
    · rename_i a7 a8 a9
      refine Only.step ?_ (State.writeReg_only ..)
      exact Only.refl _ _ _

theorem State.refusedWord_only (s : State) (a : Nat) (st : Status) :
    Only 64 0 s (State.refusedWord s a st) := by
  unfold State.refusedWord
  refine Only.ite ?_ ?_
  · refine Only.trans ?_ (State.setf_only _ _ _ _ (by decide))
    exact Only.refl _ _ _
  · exact Only.refl _ _ _

/-! ### Expin -/

theorem State.abortAnswer_only (s : State) (tag : Nat) :
    Only 68351748112347229395534833100118506163881184989354298901282731695985579234127885559593869250569248 187072209578440644770839680296904703294383412451724 s (State.abortAnswer s tag).2.2 := by
  unfold State.abortAnswer
  split
  · rename_i a0 a1 a2
    refine Only.pair2 _ _ ?_
    refine Only.step ?_ (State.abortItem_only ..)
    exact Only.refl _ _ _
  · rename_i a3 a4
    split
    · rename_i a5 a6 a7
      refine Only.pair2 _ _ ?_
      refine Only.step ?_ (State.endItem_only ..)
      refine Only.step ?_ (State.addPending_only ..)
      exact Only.refl _ _ _
    · rename_i a8 a9
      refine Only.pair2 _ _ ?_
      exact Only.refl _ _ _

theorem State.abortInstance_only (s : State) (id : Nat) :
    Only 68351748112347229395534833100118506163881184989354298901282731695985579234127885559593869250569248 187072209578440644770839680296904712301582667192460 s (State.abortInstance s id).2 := by
  unfold State.abortInstance
  split
  · rename_i a0 a1 a2
    extract_lets +onlyGivenNames v3
    unfold v3
    clear v3
    extract_lets +onlyGivenNames v4
    have h5 : Only 68351748112347229395534833100118506163881184989354298901282731695985579234127885559593869250569248 187072209578440644770839680296904712301582667192460 s v4 := by
      unfold v4
      refine Only.up_col ?_
      exact Only.refl _ _ _
    obtain ⟨w6, e7⟩ : ∃ x, x = v4 := ⟨_, rfl⟩
    rw [← e7] at h5 ⊢
    clear e7 v4
    refine Only.pair _ ?_
    refine Only.step ?_ (State.completion_only ..)
    refine Only.trans ?_ (State.count_only _ _ _ _ (by decide))
    refine Only.step ?_ (State.syncAdhoc_only ..)
    exact h5
  · rename_i a8 a9
    refine Only.iteSnd ?_ ?_
    · extract_lets +onlyGivenNames v10
      clear_value v10
      refine Only.pair _ ?_
      refine Only.foldl ?_ ?_
      · exact Only.refl _ _ _
      · intro u11 u12 h13
        refine Only.step ?_ (State.abortItem_only ..)
        exact h13
    · refine Only.pair _ ?_
      exact Only.refl _ _ _

theorem State.discardTxn_only (s : State) (id : Nat) :
    Only 971334446112864535459730953411759453321203419526069760625906204869452142602604249088 383147269242669509036278015744900756432999275466588168 s (State.discardTxn s id) := by
  unfold State.discardTxn
  refine Only.step ?_ (State.closeTxn_only ..)
  refine Only.foldl ?_ ?_
  · exact Only.refl _ _ _
  · intro u0 u1 h2
    refine Only.step ?_ (State.sendApply_only ..)
    exact h2

theorem State.takeAbort_only (s : State) (q : Req) (target : Nat) (value : Nat) :
    Only 128176072572676348434058815454029517471248551454890035389095017139825985848737051426983432979129376 3484254979436168583738862297653313130138000548137507212 s (State.takeAbort s q target value) := by
  unfold State.takeAbort
  refine State.alone_only ?_ ?_
  · exact Only.refl _ _ _
  · intro u0 h1
    extract_lets +onlyGivenNames v2
    have h3 : ∀ a0, Only 128176072572676348434058815454029517471248551454890035389095017139825985848737051426983432979129376 3484254979436168583738862297653313130138000548137507212 s a0 → Only 128176072572676348434058815454029517471248551454890035389095017139825985848737051426983432979129376 3484254979436168583738862297653313130138000548137507212 s (v2 a0) := by
      intro a0 h40
      unfold v2
      refine Only.step ?_ (State.answer_only ..)
      exact h40
    clear_value v2
    refine Only.ite ?_ ?_
    · extract_lets +onlyGivenNames v5
      have h6 : Only 128176072572676348434058815454029517471248551454890035389095017139825985848737051426983432979129376 3484254979436168583738862297653313130138000548137507212 s v5.2.2 := by
        unfold v5
        refine Only.step ?_ (State.abortAnswer_only ..)
        exact h1
      obtain ⟨w7, e8⟩ : ∃ x, x = v5 := ⟨_, rfl⟩
      rw [← e8] at h6 ⊢
      clear e8 v5
      refine Only.step ?_ (State.answer_only ..)
      exact h6
    · refine Only.ite ?_ ?_
      · refine Only.step ?_ (State.respond_only ..)
        refine Only.step ?_ (State.abortTrack_only ..)
        exact h1
      · refine Only.ite ?_ ?_
        · extract_lets +onlyGivenNames v9
          have h10 : Only 128176072572676348434058815454029517471248551454890035389095017139825985848737051426983432979129376 3484254979436168583738862297653313130138000548137507212 s v9.2 := by
            unfold v9
            refine Only.step ?_ (State.abortInstance_only ..)
            exact h1
          obtain ⟨w11, e12⟩ : ∃ x, x = v9 := ⟨_, rfl⟩
          rw [← e12] at h10 ⊢
          clear e12 v9
          refine Only.ite ?_ ?_
          · refine Only.step ?_ (State.respond_only ..)
            exact h10
          · apply h3
            exact h1
        · refine Only.ite ?_ ?_
          · extract_lets +onlyGivenNames v13
            clear_value v13
            refine Only.ite ?_ ?_
            · refine Only.step ?_ (State.respond_only ..)
              refine Only.step ?_ (State.discardTxn_only ..)
              exact h1
            · apply h3
              exact h1
          · extract_lets +onlyGivenNames v14
            have h15 : Only 128176072572676348434058815454029517471248551454890035389095017139825985848737051426983432979129376 3484254979436168583738862297653313130138000548137507212 s v14.2 := by
              unfold v14
              refine Only.step ?_ (State.abortLoad_only ..)
              exact h1
            obtain ⟨w16, e17⟩ : ∃ x, x = v14 := ⟨_, rfl⟩
            rw [← e17] at h15 ⊢
            clear e17 v14
            refine Only.ite ?_ ?_
            · refine Only.step ?_ (State.respond_only ..)
              exact h15
            · apply h3
              exact h1

theorem execAbortCollective_only (q : Req) (value : Nat) (s : State) :
    Keeps (execAbortCollective q value s) (Only 128176072572676348434058815454029517471248551454890035389095017139825985848737051426983432979129376 3484254979436168583738862297653313130138000548137507212 s) := by
  unfold execAbortCollective
  refine Keeps.next ?_
  refine State.gated_only ?_ ?_
  · exact Only.refl _ _ _
  · intro u0 h1
    refine Only.step ?_ (State.takeAbort_only ..)
    exact h1

theorem execAbortItem_only (q : Req) (value : Nat) (s : State) :
    Keeps (execAbortItem q value s) (Only 128176072572676348434058815454029517471248551454890035389095017139825985848737051426983432979129376 3484254979436168583738862297653313130138000548137507212 s) := by
  unfold execAbortItem
  refine Keeps.next ?_
  refine State.gated_only ?_ ?_
  · exact Only.refl _ _ _
  · intro u0 h1
    refine Only.step ?_ (State.takeAbort_only ..)
    exact h1

theorem execAbortLoad_only (q : Req) (value : Nat) (s : State) :
    Keeps (execAbortLoad q value s) (Only 128176072572676348434058815454029517471248551454890035389095017139825985848737051426983432979129376 3484254979436168583738862297653313130138000548137507212 s) := by
  unfold execAbortLoad
  refine Keeps.next ?_
  refine State.gated_only ?_ ?_
  · exact Only.refl _ _ _
  · intro u0 h1
    refine Only.step ?_ (State.takeAbort_only ..)
    exact h1

theorem execAbortTrack_only (q : Req) (value : Nat) (s : State) :
    Keeps (execAbortTrack q value s) (Only 128176072572676348434058815454029517471248551454890035389095017139825985848737051426983432979129376 3484254979436168583738862297653313130138000548137507212 s) := by
  unfold execAbortTrack
  refine Keeps.next ?_
  refine State.gated_only ?_ ?_
  · exact Only.refl _ _ _
  · intro u0 h1
    refine Only.step ?_ (State.takeAbort_only ..)
    exact h1

theorem execAbortTransaction_only (q : Req) (value : Nat) (s : State) :
    Keeps (execAbortTransaction q value s) (Only 128176072572676348434058815454029517471248551454890035389095017139825985848737051426983432979129376 3484254979436168583738862297653313130138000548137507212 s) := by
  unfold execAbortTransaction
  refine Keeps.next ?_
  refine State.gated_only ?_ ?_
  · exact Only.refl _ _ _
  · intro u0 h1
    refine Only.step ?_ (State.takeAbort_only ..)
    exact h1

theorem State.memberTxn_only (s : State) (q : Req) :
    Only 971334446112864535459730953411759453321203419526069760625906204869452142602604249088 383123885216472214589586756787577295904684780545900544 s (State.memberTxn s q) := by
  unfold State.memberTxn
  refine Only.ite ?_ ?_
  · refine Only.step ?_ (State.syncTxns_only ..)
    refine Only.up_host ?_
    exact Only.refl _ _ _
  · exact Only.refl _ _ _

theorem State.touchTxn_only (s : State) (id : Nat) :
    Only 0 383123885216472214589586756787577295904684780545900544 s (State.touchTxn s id) := by
  unfold State.touchTxn
  refine Only.up_host ?_
  exact Only.refl _ _ _

theorem State.holdOps_only (s : State) (q : Req) (ops : List HeldOp) :
    Only 39786830247229044285278264010233025479533104303146521632155506862850335099282942213488640 419053441468615131930706144715376629114809883476099080 s (State.holdOps s q ops) := by
  unfold State.holdOps
  extract_lets +onlyGivenNames v0
  have h1 : Only 39786830247229044285278264010233025479533104303146521632155506862850335099282942213488640 419053441468615131930706144715376629114809883476099080 s v0 := by
    unfold v0
    refine Only.step ?_ (State.memberTxn_only ..)
    exact Only.refl _ _ _
  obtain ⟨w2, e3⟩ : ∃ x, x = v0 := ⟨_, rfl⟩
  rw [← e3] at h1 ⊢
  clear e3 v0
  split
  · rename_i a4 a5
    refine Only.step ?_ (State.respond_only ..)
    exact Only.refl _ _ _
  · rename_i a6 a7 a8
    extract_lets +onlyGivenNames v9
    clear_value v9
    extract_lets +onlyGivenNames v10
    have h11 : Only 39786830247229044285278264010233025479533104303146521632155506862850335099282942213488640 419053441468615131930706144715376629114809883476099080 s v10 := by
      unfold v10
      refine Only.step ?_ (State.touchTxn_only ..)
      exact h1
    obtain ⟨w12, e13⟩ : ∃ x, x = v10 := ⟨_, rfl⟩
    rw [← e13] at h11 ⊢
    clear e13 v10
    refine Only.ite ?_ ?_
    · refine Only.step ?_ (State.answer_only ..)
      exact h11
    · refine Only.step ?_ (State.answer_only ..)
      refine Only.up_host ?_
      exact h11

theorem State.applyOp_only (s : State) (x12 : HeldOp) :
    Only 1202453802380202612679414065556140558016349465041059773802132977424491020858679523053413887173001575952350707711 515790800162605970419924432857022319545550730215922046253112780 s (State.applyOp s x12).2 := by
  unfold State.applyOp
  split
  · rename_i a0 a1 a2
    refine Only.step ?_ (State.writeWord_only ..)
    exact Only.refl _ _ _
  · rename_i a3 a4
    split
    · rename_i a5 a6 a7
      refine Only.pair _ ?_
      exact Only.refl _ _ _
    · rename_i a8 a9
      refine Only.pair _ ?_
      refine Only.step ?_ (State.applyKey_only ..)
      exact Only.refl _ _ _
  · rename_i a10 a11 a12
    refine Only.step ?_ (State.commitMembers_only ..)
    exact Only.refl _ _ _

theorem State.applyEach_only (l : List HeldOp) (s : State) {t : State} (h : State.applyEach l s = .ok t) :
    Only 1202453802380202612679414065556140558016349465041059773802132977424491020858679523053413887173001575952350707711 515790800162605970419924432857022319545550730215922046253112780 s t := by
  induction l generalizing s with
  | nil =>
    unfold State.applyEach at h
    cases h
    exact Only.refl _ _ _
  | cons op l ih =>
    unfold State.applyEach at h
    split at h
    · rename_i s1 e
      exact (Only.of_snd e (State.applyOp_only ..)).trans (ih _ h)
    · cases h

theorem State.refusedOp_only (s : State) (op : HeldOp) (st : Status) :
    Only 6901746346790563787434755862277025452451108972170386555162524223799360 0 s (State.refusedOp s op st) := by
  unfold State.refusedOp
  split
  · rename_i a0 a1 a2
    refine Only.step ?_ (State.refusedWord_only ..)
    exact Only.refl _ _ _
  · rename_i a3 a4
    refine Only.trans ?_ (State.event_only _ _ _ (by decide))
    exact Only.refl _ _ _
  · rename_i a5 a6 a7
    exact Only.refl _ _ _

theorem State.applyOps_only (s : State) (ops : List HeldOp) :
    Only 1202453802380202612679414065556140558016349465041059773802132977424491020858679523053413887173001575952350707711 515790800162605970419924432857022319545550730215922046253112780 s (s.applyOps ops).2 := by
  unfold State.applyOps
  split
  · exact Only.refl _ _ _
  · split
    · rename_i e
      exact Only.step (Only.refl _ _ _) (State.applyEach_only _ _ e)
    · exact Only.pair _ (Only.step (Only.refl _ _ _) (State.refusedOp_only ..))

theorem State.commitOps_only (s : State) (ops : List HeldOp) :
    Only 1202453802380202612679414065556140558016349465041059773802132977424491020858679523053413887173001575952350707711 515790800162605970419924432857022319545550730215922046253112780 s (State.commitOps s ops).2 := by
  unfold State.commitOps
  extract_lets +onlyGivenNames v0
  have h1 : Only 1202453802380202612679414065556140558016349465041059773802132977424491020858679523053413887173001575952350707711 515790800162605970419924432857022319545550730215922046253112780 s v0.2 := by
    unfold v0
    refine Only.step ?_ (State.applyOps_only ..)
    exact Only.refl _ _ _
  obtain ⟨w2, e3⟩ : ∃ x, x = v0 := ⟨_, rfl⟩
  rw [← e3] at h1 ⊢
  clear e3 v0
  refine Only.pair _ ?_
  refine Only.ite ?_ ?_
  · refine Only.step ?_ (State.commitView_only ..)
    exact h1
  · exact h1

theorem State.takeOps_only (s : State) (q : Req) (ops : List HeldOp) :
    Only 1202453802380202612679414065556140558016349465041059773802132977424491020858679523053413887173001575952350707711 515790800198535526672067350198141707473047831971143491889634764 s (State.takeOps s q ops) := by
  unfold State.takeOps
  refine Only.ite ?_ ?_
  · refine Only.step ?_ (State.respond_only ..)
    exact Only.refl _ _ _
  · refine Only.ite ?_ ?_
    · refine Only.step ?_ (State.holdOps_only ..)
      exact Only.refl _ _ _
    · extract_lets +onlyGivenNames v0
      have h1 : Only 1202453802380202612679414065556140558016349465041059773802132977424491020858679523053413887173001575952350707711 515790800198535526672067350198141707473047831971143491889634764 s v0.2 := by
        unfold v0
        refine Only.step ?_ (State.commitOps_only ..)
        exact Only.refl _ _ _
      obtain ⟨w2, e3⟩ : ∃ x, x = v0 := ⟨_, rfl⟩
      rw [← e3] at h1 ⊢
      clear e3 v0
      refine Only.step ?_ (State.respond_only ..)
      exact h1

theorem State.writeOne_only (s : State) (q : Req) (a : Nat) (v : Word) :
    Only 1202453802380202612679414065556140558016349465041059773802132977424491020858679523053413887173001575952350707711 515790800198535526672067350198141707473047831971143491889634764 s (State.writeOne s q a v) := by
  unfold State.writeOne
  refine State.gated_only ?_ ?_
  · exact Only.refl _ _ _
  · intro u0 h1
    refine Only.step ?_ (State.takeOps_only ..)
    exact h1

theorem execActiveWindowWrite_only (q : Req) (off : Nat) (v : Word) (s : State) :
    Keeps (execActiveWindowWrite q off v s) (Only 1202453802380202612679414065556140558016349465041059773802132977424491020858679523053413887173001575952350707711 515790800198535526672067350198141707473047831971143491889634764 s) := by
  unfold execActiveWindowWrite
  refine Keeps.next ?_
  refine Only.step ?_ (State.writeOne_only ..)
  exact Only.refl _ _ _

theorem execCircuitTableWrite_only (q : Req) (off : Nat) (v : Word) (s : State) :
    Keeps (execCircuitTableWrite q off v s) (Only 1202453802380202612679414065556140558016349465041059773802132977424491020858679523053413887173001575952350707711 515790800198535526672067350198141707473047831971143491889634764 s) := by
  unfold execCircuitTableWrite
  refine Keeps.next ?_
  refine Only.step ?_ (State.writeOne_only ..)
  exact Only.refl _ _ _

theorem execContextWindowWrite_only (q : Req) (off : Nat) (v : Word) (s : State) :
    Keeps (execContextWindowWrite q off v s) (Only 1202453802380202612679414065556140558016349465041059773802132977424491020858679523053413887173001575952350707711 515790800198535526672067350198141707473047831971143491889634764 s) := by
  unfold execContextWindowWrite
  refine Keeps.next ?_
  refine Only.step ?_ (State.writeOne_only ..)
  exact Only.refl _ _ _

theorem State.tryTxn_only (s : State) (t : HTxn) (check : Bool) :
    Only 1202453802380202612679414065556140558016349465041059773802132977424491020858679523053413887173001575952350707711 515790800162605970419924432857022319545550730215922046253112780 s (State.tryTxn s t check).2 := by
  unfold State.tryTxn
  refine Only.iteSnd ?_ ?_
  · refine Only.pair _ ?_
    exact Only.refl _ _ _
  · refine Only.step ?_ (State.applyOps_only ..)
    exact Only.refl _ _ _

theorem State.takeEvent_only (s : State) (q : Req) (body : List Byte) :
    Only 168158911280768337738763401025815770967999080647841528180876361341735427111740022871807754240 36116628461721272921707738128457798744174705743233032 s (State.takeEvent s q body) := by
  unfold State.takeEvent
  refine State.alone_only ?_ ?_
  · exact Only.refl _ _ _
  · intro u0 h1
    extract_lets +onlyGivenNames v2
    have h3 : Only 168158911280768337738763401025815770967999080647841528180876361341735427111740022871807754240 36116628461721272921707738128457798744174705743233032 s v2.2 := by
      unfold v2
      refine Only.step ?_ (State.serveEvent_only ..)
      exact h1
    obtain ⟨w4, e5⟩ : ∃ x, x = v2 := ⟨_, rfl⟩
    rw [← e5] at h3 ⊢
    clear e5 v2
    refine Only.step ?_ (State.respond_only ..)
    exact h3

theorem execEventAck_only (q : Req) (channel : Nat) (seq : Nat) (s : State) :
    Keeps (execEventAck q channel seq s) (Only 168158911280768337738763401025815770967999080647841528180876361341735427111740022871807754240 36116628461721272921707738128457798744174705743233032 s) := by
  unfold execEventAck
  refine Keeps.next ?_
  refine State.gated_only ?_ ?_
  · exact Only.refl _ _ _
  · intro u0 h1
    refine Only.step ?_ (State.takeEvent_only ..)
    exact h1

theorem State.refuseRun_only (s : State) (seq : Nat) (i : Nat) :
    Only 39785858912782931420742804279279613720079783099726995562394880956645465647140339609239552 35929556252142917341119387927799333210125102930198536 s (State.refuseRun s seq i) := by
  unfold State.refuseRun
  refine Only.step ?_ (State.answer_only ..)
  exact Only.refl _ _ _

theorem State.noteTxn_only (s : State) (q : Req) :
    Only 0 383123885216472214589586756787577295904684780545900544 s (State.noteTxn s q) := by
  unfold State.noteTxn
  refine Only.ite ?_ ?_
  · refine Only.step ?_ (State.touchTxn_only ..)
    exact Only.refl _ _ _
  · exact Only.refl _ _ _

theorem State.readAll_only (s : State) (value : State → Nat → Word) (as : List Nat) :
    Only 1202453802380202612679414065556140558016349465041059773802132977424491020858679523053413887173001575952350707711 3287795238553894103758854446246930668519060836537512519597555716 s (State.readAll s value as).2 := by
  unfold State.readAll
  refine Only.foldlSnd ?_ ?_
  · refine Only.pair _ ?_
    exact Only.refl _ _ _
  · intro u0 u1 h2
    extract_lets +onlyGivenNames v3
    have h4 : Only 1202453802380202612679414065556140558016349465041059773802132977424491020858679523053413887173001575952350707711 3287795238553894103758854446246930668519060836537512519597555716 s v3 := by
      unfold v3
      refine Only.step ?_ (State.beforeRead_only ..)
      exact h2
    obtain ⟨w5, e6⟩ : ∃ x, x = v3 := ⟨_, rfl⟩
    rw [← e6] at h4 ⊢
    clear e6 v3
    refine Only.pair _ ?_
    refine Only.step ?_ (State.afterRead_only ..)
    exact h4

theorem State.takeRead_only (s : State) (q : Req) (body : List Byte) :
    Only 1202453802380202612679414065556140558016349465041059773802132977424491020858679523053413887173001575952350707711 3287795238972947545227469578177636813234437465652322403073654796 s (State.takeRead s q body) := by
  unfold State.takeRead
  split
  · rename_i a0 a1 a2
    refine Only.step ?_ (State.refuseRun_only ..)
    refine Only.step ?_ (State.noteTxn_only ..)
    exact Only.refl _ _ _
  · rename_i a3 a4 a5
    extract_lets +onlyGivenNames v6
    clear_value v6
    refine Only.ite ?_ ?_
    · refine Only.step ?_ (State.respond_only ..)
      exact Only.refl _ _ _
    · refine Only.ite ?_ ?_
      · split
        · rename_i a7 a8
          refine Only.step ?_ (State.respond_only ..)
          exact Only.refl _ _ _
        · rename_i a9 a10 a11
          extract_lets +onlyGivenNames v12
          have h13 : Only 1202453802380202612679414065556140558016349465041059773802132977424491020858679523053413887173001575952350707711 3287795238972947545227469578177636813234437465652322403073654796 s v12.2 := by
            unfold v12
            refine Only.step ?_ (State.readAll_only ..)
            exact Only.refl _ _ _
          obtain ⟨w14, e15⟩ : ∃ x, x = v12 := ⟨_, rfl⟩
          rw [← e15] at h13 ⊢
          clear e15 v12
          refine Only.step ?_ (State.answer_only ..)
          exact h13
      · refine Only.ite ?_ ?_
        · split
          · rename_i a16 a17
            refine Only.ite ?_ ?_
            · extract_lets +onlyGivenNames v18
              have h19 : Only 1202453802380202612679414065556140558016349465041059773802132977424491020858679523053413887173001575952350707711 3287795238972947545227469578177636813234437465652322403073654796 s v18.2 := by
                unfold v18
                refine Only.step ?_ (State.readAll_only ..)
                exact Only.refl _ _ _
              obtain ⟨w20, e21⟩ : ∃ x, x = v18 := ⟨_, rfl⟩
              rw [← e21] at h19 ⊢
              clear e21 v18
              refine Only.step ?_ (State.answer_only ..)
              exact h19
            · refine Only.step ?_ (State.respond_only ..)
              exact Only.refl _ _ _
          · rename_i a22 a23 a24
            extract_lets +onlyGivenNames v25
            have h26 : Only 1202453802380202612679414065556140558016349465041059773802132977424491020858679523053413887173001575952350707711 3287795238972947545227469578177636813234437465652322403073654796 s v25.2 := by
              unfold v25
              refine Only.step ?_ (State.readAll_only ..)
              refine Only.step ?_ (State.touchTxn_only ..)
              exact Only.refl _ _ _
            obtain ⟨w27, e28⟩ : ∃ x, x = v25 := ⟨_, rfl⟩
            rw [← e28] at h26 ⊢
            clear e28 v25
            refine Only.step ?_ (State.answer_only ..)
            exact h26
        · extract_lets +onlyGivenNames v29
          have h30 : Only 1202453802380202612679414065556140558016349465041059773802132977424491020858679523053413887173001575952350707711 3287795238972947545227469578177636813234437465652322403073654796 s v29.2 := by
            unfold v29
            refine Only.step ?_ (State.readAll_only ..)
            exact Only.refl _ _ _
          obtain ⟨w31, e32⟩ : ∃ x, x = v29 := ⟨_, rfl⟩
          rw [← e32] at h30 ⊢
          clear e32 v29
          refine Only.step ?_ (State.answer_only ..)
          exact h30

theorem execRead_only (q : Req) (body : List Byte) (s : State) :
    Keeps (execRead q body s) (Only 1202453802380202612679414065556140558016349465041059773802132977424491020858679523053413887173001575952350707711 3287795238972947545227469578177636813234437465652322403073654796 s) := by
  unfold execRead
  refine Keeps.next ?_
  refine State.gated_only ?_ ?_
  · exact Only.refl _ _ _
  · intro u0 h1
    refine Only.step ?_ (State.takeRead_only ..)
    exact h1

theorem State.takeWrite_only (s : State) (q : Req) (body : List Byte) :
    Only 1202453802380202612679414065556140558016349465041059773802132977424491020858679523053413887173001575952350707711 515790800198535526672067350198141707473047831971143491889634764 s (State.takeWrite s q body) := by
  unfold State.takeWrite
  refine Only.ite ?_ ?_
  · refine Only.step ?_ (State.respond_only ..)
    exact Only.refl _ _ _
  · split
    · rename_i a0 a1 a2
      refine Only.step ?_ (State.refuseRun_only ..)
      refine Only.step ?_ (State.noteTxn_only ..)
      exact Only.refl _ _ _
    · rename_i a3 a4 a5
      refine Only.step ?_ (State.takeOps_only ..)
      exact Only.refl _ _ _

theorem execWrite_only (q : Req) (body : List Byte) (s : State) :
    Keeps (execWrite q body s) (Only 1202453802380202612679414065556140558016349465041059773802132977424491020858679523053413887173001575952350707711 515790800198535526672067350198141707473047831971143491889634764 s) := by
  unfold execWrite
  refine Keeps.next ?_
  refine State.gated_only ?_ ?_
  · exact Only.refl _ _ _
  · intro u0 h1
    refine Only.step ?_ (State.takeWrite_only ..)
    exact h1

theorem State.beginTxn_only (s : State) (q : Req) :
    Only 39786830247229044285278264010233025479533104303146521632155506862850335099282942213488640 610615384076851239225499523109165277067152273749049352 s (State.beginTxn s q) := by
  unfold State.beginTxn
  refine State.alone_only ?_ ?_
  · exact Only.refl _ _ _
  · intro u0 h1
    refine Only.ite ?_ ?_
    · refine Only.step ?_ (State.respond_only ..)
      exact h1
    · extract_lets +onlyGivenNames v2
      clear_value v2
      refine Only.step ?_ (State.answer_only ..)
      refine Only.step ?_ (State.syncTxns_only ..)
      refine Only.up_host ?_
      exact h1

theorem execTxnBegin_only (q : Req) (s : State) :
    Keeps (execTxnBegin q s) (Only 39786830247229044285278264010233025479533104303146521632155506862850335099282942213488640 610615384076851239225499523109165277067152273749049352 s) := by
  unfold execTxnBegin
  refine Keeps.next ?_
  refine State.gated_only ?_ ?_
  · exact Only.refl _ _ _
  · intro u0 h1
    refine Only.step ?_ (State.beginTxn_only ..)
    exact h1

theorem State.commitTxn_only (s0 : State) (q : Req) (t : HTxn) (check : Bool) :
    Only 1202453802380202612679414065556140558016349465041059773802132977424491020858679523053413887173001575952350707711 515790800203399404121104595109932525854571812805870213922790892 s0 (State.commitTxn s0 q t check) := by
  unfold State.commitTxn
  extract_lets +onlyGivenNames v0
  have h1 : Only 1202453802380202612679414065556140558016349465041059773802132977424491020858679523053413887173001575952350707711 515790800203399404121104595109932525854571812805870213922790892 s0 v0 := by
    unfold v0
    refine Only.step ?_ (State.beforeCommit_only ..)
    exact Only.refl _ _ _
  obtain ⟨w2, e3⟩ : ∃ x, x = v0 := ⟨_, rfl⟩
  rw [← e3] at h1 ⊢
  clear e3 v0
  extract_lets +onlyGivenNames v4
  have h5 : Only 1202453802380202612679414065556140558016349465041059773802132977424491020858679523053413887173001575952350707711 515790800203399404121104595109932525854571812805870213922790892 s0 v4.2 := by
    unfold v4
    refine Only.step ?_ (State.tryTxn_only ..)
    exact h1
  obtain ⟨w6, e7⟩ : ∃ x, x = v4 := ⟨_, rfl⟩
  rw [← e7] at h5 ⊢
  clear e7 v4
  extract_lets +onlyGivenNames v8
  have h9 : Only 1202453802380202612679414065556140558016349465041059773802132977424491020858679523053413887173001575952350707711 515790800203399404121104595109932525854571812805870213922790892 s0 v8 := by
    unfold v8
    refine Only.ite ?_ ?_
    · refine Only.step ?_ (State.commitView_only ..)
      exact h5
    · exact h5
  obtain ⟨w10, e11⟩ : ∃ x, x = v8 := ⟨_, rfl⟩
  rw [← e11] at h9 ⊢
  clear e11 v8
  refine Only.step ?_ (State.answer_only ..)
  refine Only.step ?_ (State.closeTxn_only ..)
  exact h9

theorem State.prepareTxn_only (s : State) (q : Req) (t : HTxn) (check : Bool) :
    Only 1202453802380202612679414065556140558016349465041059773802132977424491020858679523053413887173001575952350707711 515790800198535526672067350198141707473047831971143491889634764 s (State.prepareTxn s q t check) := by
  unfold State.prepareTxn
  extract_lets +onlyGivenNames v0
  have h1 : Only 1202453802380202612679414065556140558016349465041059773802132977424491020858679523053413887173001575952350707711 515790800198535526672067350198141707473047831971143491889634764 s v0.2 := by
    unfold v0
    refine Only.step ?_ (State.tryTxn_only ..)
    exact Only.refl _ _ _
  obtain ⟨w2, e3⟩ : ∃ x, x = v0 := ⟨_, rfl⟩
  rw [← e3] at h1 ⊢
  clear e3 v0
  extract_lets +onlyGivenNames v4
  clear_value v4
  refine Only.ite ?_ ?_
  · refine Only.step ?_ (State.answer_only ..)
    refine Only.step ?_ (State.discardTxn_only ..)
    exact h1
  · extract_lets +onlyGivenNames v5
    clear_value v5
    extract_lets +onlyGivenNames v6
    unfold v6
    clear v6
    extract_lets +onlyGivenNames v7
    have h8 : Only 1202453802380202612679414065556140558016349465041059773802132977424491020858679523053413887173001575952350707711 515790800198535526672067350198141707473047831971143491889634764 s v7 := by
      unfold v7
      refine Only.up_cst ?_
      exact Only.refl _ _ _
    obtain ⟨w9, e10⟩ : ∃ x, x = v7 := ⟨_, rfl⟩
    rw [← e10] at h8 ⊢
    clear e10 v7
    refine Only.foldl ?_ ?_
    · exact h8
    · intro u11 u12 h13
      refine Only.step ?_ (State.sendPrepare_only ..)
      exact h13

theorem State.commitReq_only (s : State) (q : Req) (body : List Byte) :
    Only 1202453802380202612679414065556140558016349465041059773802132977424491020858679523053413887173001575952350707711 515790800203399404121104595109932525854571812805870213922790892 s (State.commitReq s q body) := by
  unfold State.commitReq
  refine State.alone_only ?_ ?_
  · exact Only.refl _ _ _
  · intro u0 h1
    split
    · rename_i a2 a3
      refine Only.ite ?_ ?_
      · refine Only.step ?_ (State.respond_only ..)
        exact h1
      · split
        · rename_i a4 a5
          refine Only.step ?_ (State.respond_only ..)
          exact h1
        · rename_i a6 a7 a8
          refine Only.ite ?_ ?_
          · refine Only.step ?_ (State.respond_only ..)
            exact h1
          · refine Only.ite ?_ ?_
            · refine Only.step ?_ (State.commitTxn_only ..)
              exact h1
            · refine Only.step ?_ (State.prepareTxn_only ..)
              exact h1
    · rename_i a9 a10
      refine Only.step ?_ (State.respond_only ..)
      exact h1

theorem execTxnCommit_only (q : Req) (body : List Byte) (s : State) :
    Keeps (execTxnCommit q body s) (Only 1202453802380202612679414065556140558016349465041059773802132977424491020858679523053413887173001575952350707711 515790800203399404121104595109932525854571812805870213922790892 s) := by
  unfold execTxnCommit
  refine Keeps.next ?_
  refine State.gated_only ?_ ?_
  · exact Only.refl _ _ _
  · intro u0 h1
    refine Only.step ?_ (State.commitReq_only ..)
    exact h1

theorem State.snapMembers_only (s : State) (id : Nat) (action : Nat) :
    Only 0 2923003274661805836407369665432566039311865085960 s (State.snapMembers s id action) := by
  unfold State.snapMembers
  refine Only.ite ?_ ?_
  · refine Only.foldl ?_ ?_
    · exact Only.refl _ _ _
    · intro u0 u1 h2
      refine Only.step ?_ (State.emit_only ..)
      refine Only.up_cst ?_
      exact h2
  · exact Only.refl _ _ _

theorem State.closeSnap_only (s : State) (id : Nat) :
    Only 0 1532498463869163520164183434519974616184778434048688136 s (State.closeSnap s id) := by
  unfold State.closeSnap
  refine Only.step ?_ (State.snapMembers_only ..)
  refine Only.up_host ?_
  exact Only.refl _ _ _

theorem State.snapReq_only (s : State) (q : Req) (action : Nat) :
    Only 39785858912782931420742804279279613720079783099726995562394880956645465647140339609239552 2334675790554250866684476336022928541204273098070687752 s (State.snapReq s q action) := by
  unfold State.snapReq
  refine State.alone_only ?_ ?_
  · exact Only.refl _ _ _
  · intro u0 h1
    extract_lets +onlyGivenNames v2
    clear_value v2
    refine Only.ite ?_ ?_
    · refine Only.ite ?_ ?_
      · refine Only.step ?_ (State.respond_only ..)
        exact h1
      · extract_lets +onlyGivenNames v3
        clear_value v3
        extract_lets +onlyGivenNames v4
        unfold v4
        clear v4
        extract_lets +onlyGivenNames v5
        have h6 : Only 39785858912782931420742804279279613720079783099726995562394880956645465647140339609239552 2334675790554250866684476336022928541204273098070687752 s v5 := by
          unfold v5
          refine Only.up_host ?_
          exact h1
        obtain ⟨w7, e8⟩ : ∃ x, x = v5 := ⟨_, rfl⟩
        rw [← e8] at h6 ⊢
        clear e8 v5
        refine Only.step ?_ (State.snapMembers_only ..)
        refine Only.step ?_ (State.answer_only ..)
        exact h6
    · refine Only.ite ?_ ?_
      · refine Only.step ?_ (State.answer_only ..)
        refine Only.step ?_ (State.closeSnap_only ..)
        exact h1
      · refine Only.step ?_ (State.respond_only ..)
        exact h1

theorem execSnapshotOpen_only (q : Req) (s : State) :
    Keeps (execSnapshotOpen q s) (Only 39785858912782931420742804279279613720079783099726995562394880956645465647140339609239552 2334675790554250866684476336022928541204273098070687752 s) := by
  unfold execSnapshotOpen
  refine Keeps.next ?_
  refine State.gated_only ?_ ?_
  · exact Only.refl _ _ _
  · intro u0 h1
    refine Only.step ?_ (State.snapReq_only ..)
    exact h1

theorem execSnapshotClose_only (q : Req) (s : State) :
    Keeps (execSnapshotClose q s) (Only 39785858912782931420742804279279613720079783099726995562394880956645465647140339609239552 2334675790554250866684476336022928541204273098070687752 s) := by
  unfold execSnapshotClose
  refine Keeps.next ?_
  refine State.gated_only ?_ ?_
  · exact Only.refl _ _ _
  · intro u0 h1
    refine Only.step ?_ (State.snapReq_only ..)
    exact h1

theorem State.takeTable_only (s : State) (q : Req) (epoch : Nat) (ms : List Member) :
    Only 1202453802380202612679414065556140558016349465041059773802132977424491020858679523053413887173001575952350707711 515790800198535526672067350198141707473047831971143491889634764 s (State.takeTable s q epoch ms) := by
  unfold State.takeTable
  refine Only.ite ?_ ?_
  · refine Only.step ?_ (State.respond_only ..)
    refine Only.step ?_ (State.noteTxn_only ..)
    exact Only.refl _ _ _
  · refine Only.step ?_ (State.takeOps_only ..)
    exact Only.refl _ _ _

theorem execMembershipTable_only (q : Req) (epoch : Nat) (ms : List Member) (s : State) :
    Keeps (execMembershipTable q epoch ms s) (Only 1202453802380202612679414065556140558016349465041059773802132977424491020858679523053413887173001575952350707711 515790800198535526672067350198141707473047831971143491889634764 s) := by
  unfold execMembershipTable
  refine Keeps.next ?_
  refine State.gated_only ?_ ?_
  · exact Only.refl _ _ _
  · intro u0 h1
    refine Only.step ?_ (State.takeTable_only ..)
    exact h1

theorem State.takeKeep_only (s : State) (q : Req) (site : Nat) (role : Nat) :
    Only 39785858912782931420742804279279613720079783099901220134258401449938713446145404933505024 35929556252142917341119407734839961776209501316186120 s (State.takeKeep s q site role) := by
  unfold State.takeKeep
  refine State.alone_only ?_ ?_
  · exact Only.refl _ _ _
  · intro u0 h1
    refine Only.ite ?_ ?_
    · refine Only.step ?_ (State.respond_only ..)
      refine Only.step ?_ (State.keepMember_only ..)
      exact h1
    · refine Only.step ?_ (State.respond_only ..)
      exact h1

theorem execMembershipKeep_only (q : Req) (site : Nat) (role : Nat) (s : State) :
    Keeps (execMembershipKeep q site role s) (Only 39785858912782931420742804279279613720079783099901220134258401449938713446145404933505024 35929556252142917341119407734839961776209501316186120 s) := by
  unfold execMembershipKeep
  refine Keeps.next ?_
  refine State.gated_only ?_ ?_
  · exact Only.refl _ _ _
  · intro u0 h1
    refine Only.step ?_ (State.takeKeep_only ..)
    exact h1

theorem State.takeKey_only (s : State) (q : Req) (b : Option KeyBody) :
    Only 1202453802380202612679414065556140558016349465041059773802132977424491020858679523053413887173001575952350707711 515790800198535526672067350198141707473047831971143491889634764 s (State.takeKey s q b) := by
  unfold State.takeKey
  split
  · rename_i a0 a1
    refine Only.step ?_ (State.takeOps_only ..)
    exact Only.refl _ _ _
  · rename_i a2
    refine Only.step ?_ (State.respond_only ..)
    refine Only.trans ?_ (State.event_only _ _ _ (by decide))
    refine Only.step ?_ (State.noteTxn_only ..)
    exact Only.refl _ _ _

theorem execGcsMapWrite_only (q : Req) (n : Nat) (v : Word) (s : State) :
    Keeps (execGcsMapWrite q n v s) (Only 1202453802380202612679414065556140558016349465041059773802132977424491020858679523053413887173001575952350707711 515790800198535526672067350198141707473047831971143491889634764 s) := by
  unfold execGcsMapWrite
  refine Keeps.next ?_
  refine Only.step ?_ (State.writeOne_only ..)
  exact Only.refl _ _ _

theorem execHostAddressApply_only (s : State) :
    Keeps (execHostAddressApply s) (Only 0 95780971304118053647396689196894323976171195136475136 s) := by
  unfold execHostAddressApply
  refine Keeps.next ?_
  refine Only.step ?_ (State.hostInEffect_only ..)
  exact Only.refl _ _ _

theorem execHostLinkChange_only (up : Bool) (lanes : Nat) (s : State) :
    Keeps (execHostLinkChange up lanes s) (Only 125302143548559525074305292990116969478435241118862999120741900428159326395735948132352 0 s) := by
  unfold execHostLinkChange
  extract_lets +onlyGivenNames v0
  clear_value v0
  refine Keeps.next ?_
  refine Only.trans ?_ (State.eventIf_only _ _ _ _ (by decide))
  refine Only.trans ?_ (State.setf_only _ _ _ _ (by decide))
  refine Only.trans ?_ (State.setf_only _ _ _ _ (by decide))
  exact Only.refl _ _ _

theorem execKeyEraseGraceful_only (q : Req) (slot : Nat) (gen : Nat) (reserved : Nat) (wrapped : List Byte) (s : State) :
    Keeps (execKeyEraseGraceful q slot gen reserved wrapped s) (Only 1202453802380202612679414065556140558016349465041059773802132977424491020858679523053413887173001575952350707711 515790800198535526672067350198141707473047831971143491889634764 s) := by
  unfold execKeyEraseGraceful
  refine Keeps.next ?_
  refine State.gated_only ?_ ?_
  · exact Only.refl _ _ _
  · intro u0 h1
    refine Only.step ?_ (State.takeKey_only ..)
    exact h1

theorem execKeyEraseImmediate_only (q : Req) (slot : Nat) (gen : Nat) (reserved : Nat) (wrapped : List Byte) (s : State) :
    Keeps (execKeyEraseImmediate q slot gen reserved wrapped s) (Only 1202453802380202612679414065556140558016349465041059773802132977424491020858679523053413887173001575952350707711 515790800198535526672067350198141707473047831971143491889634764 s) := by
  unfold execKeyEraseImmediate
  refine Keeps.next ?_
  refine State.gated_only ?_ ?_
  · exact Only.refl _ _ _
  · intro u0 h1
    refine Only.step ?_ (State.takeKey_only ..)
    exact h1

theorem execKeyLoad_only (q : Req) (slot : Nat) (gen : Nat) (reserved : Nat) (wrapped : List Byte) (s : State) :
    Keeps (execKeyLoad q slot gen reserved wrapped s) (Only 1202453802380202612679414065556140558016349465041059773802132977424491020858679523053413887173001575952350707711 515790800198535526672067350198141707473047831971143491889634764 s) := by
  unfold execKeyLoad
  refine Keeps.next ?_
  refine State.gated_only ?_ ?_
  · exact Only.refl _ _ _
  · intro u0 h1
    refine Only.step ?_ (State.takeKey_only ..)
    exact h1

theorem execOptXtWrite_only (q : Req) (tile : Nat) (i : Nat) (v : Word) (s : State) :
    Keeps (execOptXtWrite q tile i v s) (Only 1202453802380202612679414065556140558016349465041059773802132977424491020858679523053413887173001575952350707711 515790800198535526672067350198141707473047831971143491889634764 s) := by
  unfold execOptXtWrite
  refine Keeps.next ?_
  refine Only.step ?_ (State.writeOne_only ..)
  exact Only.refl _ _ _

theorem execPpeCalTableWrite_only (q : Req) (table : Nat) (i : Nat) (v : Word) (s : State) :
    Keeps (execPpeCalTableWrite q table i v s) (Only 1202453802380202612679414065556140558016349465041059773802132977424491020858679523053413887173001575952350707711 515790800198535526672067350198141707473047831971143491889634764 s) := by
  unfold execPpeCalTableWrite
  extract_lets +onlyGivenNames v0
  clear_value v0
  refine Keeps.next ?_
  refine Only.step ?_ (State.writeOne_only ..)
  exact Only.refl _ _ _

theorem execShadowWindowWrite_only (q : Req) (off : Nat) (v : Word) (s : State) :
    Keeps (execShadowWindowWrite q off v s) (Only 1202453802380202612679414065556140558016349465041059773802132977424491020858679523053413887173001575952350707711 515790800198535526672067350198141707473047831971143491889634764 s) := by
  unfold execShadowWindowWrite
  refine Keeps.next ?_
  refine Only.step ?_ (State.writeOne_only ..)
  exact Only.refl _ _ _

theorem execSnapshotExpired_only (memberFull : Bool) (s : State) :
    Keeps (execSnapshotExpired memberFull s) (Only 124330809102446660538845562036705210025114037699336929360115994223289874253133343883264 1532498463869163520164183434519974616184778434048688136 s) := by
  unfold execSnapshotExpired
  refine Keeps.ite ?_ ?_
  · refine Keeps.next ?_
    exact Only.refl _ _ _
  · extract_lets +onlyGivenNames v0
    clear_value v0
    extract_lets +onlyGivenNames v1
    clear_value v1
    extract_lets +onlyGivenNames v2
    clear_value v2
    refine Keeps.next ?_
    refine Only.trans ?_ (State.eventIf_only _ _ _ _ (by decide))
    refine Only.foldl ?_ ?_
    · exact Only.refl _ _ _
    · intro u3 u4 h5
      refine Only.step ?_ (State.closeSnap_only ..)
      exact h5

theorem execTokenWrite_only (q : Req) (i : Nat) (v : Word) (s : State) :
    Keeps (execTokenWrite q i v s) (Only 1202453802380202612679414065556140558016349465041059773802132977424491020858679523053413887173001575952350707711 515790800198535526672067350198141707473047831971143491889634764 s) := by
  unfold execTokenWrite
  refine Keeps.next ?_
  refine Only.step ?_ (State.writeOne_only ..)
  exact Only.refl _ _ _

theorem execTxnExpired_only (id : Nat) (s : State) :
    Keeps (execTxnExpired id s) (Only 125302143548559525074305292990116969478435241118862999120741900428159326395735948132352 383147269242669509036278015744900756432999275466588168 s) := by
  unfold execTxnExpired
  split
  · rename_i a0 a1 a2
    refine Keeps.ite ?_ ?_
    · refine Keeps.next ?_
      refine Only.trans ?_ (State.event_only _ _ _ (by decide))
      refine Only.step ?_ (State.discardTxn_only ..)
      exact Only.refl _ _ _
    · refine Keeps.next ?_
      exact Only.refl _ _ _
  · rename_i a3 a4
    refine Keeps.next ?_
    exact Only.refl _ _ _

/-! ### HostPort -/

theorem State.badBody_only (s : State) (q : Req) :
    Keeps (State.badBody s q) (Only 39785858912782931420742804279279613720079783099726995562394880956645465647140339609239552 35929556252142917341119387927799333210125102930198536 s) := by
  unfold State.badBody
  refine Keeps.next ?_
  refine State.gated_only ?_ ?_
  · exact Only.refl _ _ _
  · intro u0 h1
    refine Only.step ?_ (State.respond_only ..)
    exact h1

theorem State.serveSnapshot_only (s : State) (q : Req) (body : List Byte) :
    Keeps (State.serveSnapshot s q body) (Only 39785858912782931420742804279279613720079783099726995562394880956645465647140339609239552 2334675790554250866684476336022928541204273098070687752 s) := by
  unfold State.serveSnapshot
  split
  · rename_i a0 a1
    refine Keeps.step ?_ (execSnapshotOpen_only ..)
    exact Only.refl _ _ _
  · rename_i a2 a3 a4 a5
    refine Keeps.step ?_ (execSnapshotClose_only ..)
    exact Only.refl _ _ _
  · rename_i a6 a7
    refine Keeps.step ?_ (State.badBody_only ..)
    exact Only.refl _ _ _

theorem State.serveLoad_only (s : State) (q : Req) (body : List Byte) (fw : Bool × Nat) :
    Keeps (State.serveLoad s q body fw) (Only 61960311496250029120919004081110901506722598385533129796049894033584382416402461189342156474548224 10991046058160754976036582299765346949419455165589266366472 s) := by
  unfold State.serveLoad
  extract_lets +onlyGivenNames v0
  clear_value v0
  refine Keeps.ite ?_ ?_
  · refine Keeps.step ?_ (execLoadStructureImage_only ..)
    exact Only.refl _ _ _
  · refine Keeps.ite ?_ ?_
    · refine Keeps.step ?_ (execLoadSectorPatch_only ..)
      exact Only.refl _ _ _
    · refine Keeps.ite ?_ ?_
      · refine Keeps.step ?_ (execLoadFirmwareCopy_only ..)
        exact Only.refl _ _ _
      · refine Keeps.ite ?_ ?_
        · refine Keeps.ite ?_ ?_
          · refine Keeps.step ?_ (execHostBulkRead_only ..)
            exact Only.refl _ _ _
          · refine Keeps.step ?_ (execHostBulkWrite_only ..)
            exact Only.refl _ _ _
        · refine Keeps.step ?_ (State.badBody_only ..)
          exact Only.refl _ _ _

theorem State.serveAbort_only (s : State) (q : Req) (body : List Byte) :
    Keeps (State.serveAbort s q body) (Only 128176072572676348434058815454029517471248551454890035389095017139825985848737051426983432979129376 3484254979436168583738862297653313130138000548137507212 s) := by
  unfold State.serveAbort
  split
  · rename_i a0 a1 a2 a3
    refine Keeps.next ?_
    refine State.gated_only ?_ ?_
    · exact Only.refl _ _ _
    · intro u4 h5
      refine Only.step ?_ (State.takeAbort_only ..)
      exact h5
  · rename_i a6 a7
    refine Keeps.step ?_ (State.badBody_only ..)
    exact Only.refl _ _ _

theorem State.serveMembership_only (s : State) (q : Req) (body : List Byte) :
    Keeps (State.serveMembership s q body) (Only 1202453802380202612679414065556140558016349465041059773802132977424491020858679523053413887173001575952350707711 515790800198535526672067350198141707473047831971143491889634764 s) := by
  unfold State.serveMembership
  split
  · rename_i a0 a1 a2 a3
    refine Keeps.step ?_ (execMembershipTable_only ..)
    exact Only.refl _ _ _
  · rename_i a4 a5 a6 a7 a8 a9 a10
    refine Keeps.step ?_ (execMembershipKeep_only ..)
    exact Only.refl _ _ _
  · rename_i a11 a12 a13
    refine Keeps.step ?_ (State.badBody_only ..)
    exact Only.refl _ _ _

theorem State.serve_only (s : State) (q : Req) (type : Nat) (body : List Byte) (fw : Bool × Nat) :
    Keeps (State.serve s q type body fw) (Only 1202453802380202612679414065556140558016349465041059773802132977424491020858679523053413887173001575952350707711 3289376853641038235478218847767461909512895388040929805357522412 s) := by
  unfold State.serve
  refine Keeps.ite ?_ ?_
  · refine Keeps.step ?_ (execRead_only ..)
    exact Only.refl _ _ _
  · refine Keeps.ite ?_ ?_
    · refine Keeps.step ?_ (execWrite_only ..)
      exact Only.refl _ _ _
    · refine Keeps.ite ?_ ?_
      · refine Keeps.step ?_ (execTxnBegin_only ..)
        exact Only.refl _ _ _
      · refine Keeps.ite ?_ ?_
        · refine Keeps.step ?_ (execTxnCommit_only ..)
          exact Only.refl _ _ _
        · refine Keeps.ite ?_ ?_
          · refine Keeps.step ?_ (State.serveSnapshot_only ..)
            exact Only.refl _ _ _
          · refine Keeps.ite ?_ ?_
            · refine Keeps.step ?_ (State.serveLoad_only ..)
              exact Only.refl _ _ _
            · refine Keeps.ite ?_ ?_
              · refine Keeps.step ?_ (execSubmit_only ..)
                exact Only.refl _ _ _
              · refine Keeps.ite ?_ ?_
                · refine Keeps.step ?_ (State.serveAbort_only ..)
                  exact Only.refl _ _ _
                · refine Keeps.ite ?_ ?_
                  · refine Keeps.step ?_ (State.serveMembership_only ..)
                    exact Only.refl _ _ _
                  · refine Keeps.ite ?_ ?_
                    · refine Keeps.next ?_
                      refine State.gated_only ?_ ?_
                      · exact Only.refl _ _ _
                      · intro u0 h1
                        refine Only.step ?_ (State.takeKey_only ..)
                        exact h1
                    · refine Keeps.ite ?_ ?_
                      · refine Keeps.next ?_
                        refine State.gated_only ?_ ?_
                        · exact Only.refl _ _ _
                        · intro u2 h3
                          refine Only.step ?_ (State.takeEvent_only ..)
                          exact h3
                      · refine Keeps.step ?_ (State.badBody_only ..)
                        exact Only.refl _ _ _

theorem State.policeFrame_only (s : State) (fr : List Byte) :
    Only 3243083124342020004636734228563641794171663242393136110011370614596629451243520 154742504910672534362390528 s (State.policeFrame s fr).2 := by
  unfold State.policeFrame
  extract_lets +onlyGivenNames v0
  clear_value v0
  extract_lets +onlyGivenNames v1
  clear_value v1
  extract_lets +onlyGivenNames v2
  have h3 : Only 3243083124342020004636734228563641794171663242393136110011370614596629451243520 154742504910672534362390528 s v2.2 := by
    unfold v2
    refine Only.step ?_ (State.police_only ..)
    exact Only.refl _ _ _
  obtain ⟨w4, e5⟩ : ∃ x, x = v2 := ⟨_, rfl⟩
  rw [← e5] at h3 ⊢
  clear e5 v2
  refine Only.pair _ ?_
  exact h3

theorem State.arpIn_only (s : State) (p : List Byte) :
    Only 48312224427533946512043291035939178167157762805192705886137669566595072 302231454903657293676552 s (State.arpIn s p) := by
  unfold State.arpIn
  refine Only.ite ?_ ?_
  · refine Only.step ?_ (State.hostSend_only ..)
    exact Only.refl _ _ _
  · exact Only.refl _ _ _

theorem State.icmpIn_only (s : State) (from_ : Nat) (src : Nat) (dst : Nat) (m : List Byte) :
    Only 48312224427533946512043291035939178167157762805192705886137669566595072 302231454903657293676552 s (State.icmpIn s from_ src dst m) := by
  unfold State.icmpIn
  refine Only.ite ?_ ?_
  · refine Only.step ?_ (State.hostSend_only ..)
    exact Only.refl _ _ _
  · exact Only.refl _ _ _

theorem State.repeatAnswer_only (s : State) (c : Cand) (seq : Nat) :
    Only 2113623754741593277472598982157935082470229676827905966279734706988633748440936412610560 302231454903657293676552 s (State.repeatAnswer s c seq) := by
  unfold State.repeatAnswer
  extract_lets +onlyGivenNames v0
  have h1 : Only 2113623754741593277472598982157935082470229676827905966279734706988633748440936412610560 302231454903657293676552 s v0 := by
    unfold v0
    refine Only.trans ?_ (State.event_only _ _ _ (by decide))
    exact Only.refl _ _ _
  obtain ⟨w2, e3⟩ : ∃ x, x = v0 := ⟨_, rfl⟩
  rw [← e3] at h1 ⊢
  clear e3 v0
  split
  · rename_i a4 a5 a6
    refine Only.step ?_ (State.sendOut_only ..)
    exact h1
  · rename_i a7 a8
    refine Only.trans ?_ (State.count_only _ _ _ _ (by decide))
    exact h1

theorem State.noteSeq_only (s : State) (c : Cand) (seq : Nat) :
    Only 0 47890485652059026823698344598447161988085597568237568 s (State.noteSeq s c seq) := by
  unfold State.noteSeq
  extract_lets +onlyGivenNames v0
  unfold v0
  clear v0
  extract_lets +onlyGivenNames v1
  have h2 : ∀ a0, Only 0 47890485652059026823698344598447161988085597568237568 s (v1 a0) := by
    intro a0
    unfold v1
    refine Only.up_host ?_
    exact Only.refl _ _ _
  clear_value v1
  split
  · rename_i a4 a5
    apply h2
  · rename_i a6 a7 a8 a9
    refine Only.ite ?_ ?_
    · apply h2
    · apply h2

theorem State.forward_only (s : State) (q : Req) (m : Nat) (type : Nat) (body : List Byte) :
    Only 1043002205742169659100864935269880898072071897340059087321266304950399870944475533905508696064 419062210478439117348215366824372926812927819071356936 s (State.forward s q m type body) := by
  unfold State.forward
  extract_lets +onlyGivenNames v0
  have h1 : Only 1043002205742169659100864935269880898072071897340059087321266304950399870944475533905508696064 419062210478439117348215366824372926812927819071356936 s v0 := by
    unfold v0
    refine Only.step ?_ (State.ask_only ..)
    exact Only.refl _ _ _
  obtain ⟨w2, e3⟩ : ∃ x, x = v0 := ⟨_, rfl⟩
  rw [← e3] at h1 ⊢
  clear e3 v0
  refine Only.ite ?_ ?_
  · refine Only.step ?_ (State.respond_only ..)
    exact h1
  · refine Only.ite ?_ ?_
    · refine Only.step ?_ (State.respond_only ..)
      refine Only.trans ?_ (State.count_only _ _ _ _ (by decide))
      exact h1
    · extract_lets +onlyGivenNames v4
      clear_value v4
      extract_lets +onlyGivenNames v5
      have h6 : Only 1043002205742169659100864935269880898072071897340059087321266304950399870944475533905508696064 419062210478439117348215366824372926812927819071356936 s v5 := by
        unfold v5
        refine Only.ite ?_ ?_
        · refine Only.step ?_ (State.touchTxn_only ..)
          exact h1
        · exact h1
      obtain ⟨w7, e8⟩ : ∃ x, x = v5 := ⟨_, rfl⟩
      rw [← e8] at h6 ⊢
      clear e8 v5
      extract_lets +onlyGivenNames v9
      clear_value v9
      refine Only.step ?_ (State.emit_only ..)
      refine Only.up_cst ?_
      exact h6

theorem State.dispatch_only (s : State) (q : Req) (type : Nat) (member : Nat) (body : List Byte) (fw : Bool × Nat) :
    Keeps (State.dispatch s q type member body fw) (Only 1202453802380202612679414065556140558016349465041059773802132977424491020858679523053413887173001575952350707711 3289376853641038235478218847767461909512895388040929805357522412 s) := by
  unfold State.dispatch
  extract_lets +onlyGivenNames v0
  clear_value v0
  refine Keeps.ite ?_ ?_
  · refine Keeps.ite ?_ ?_
    · refine Keeps.step ?_ (State.serve_only ..)
      exact Only.refl _ _ _
    · refine Keeps.next ?_
      refine Only.step ?_ (State.respond_only ..)
      refine Only.step ?_ (State.ask_only ..)
      exact Only.refl _ _ _
  · refine Keeps.ite ?_ ?_
    · refine Keeps.ite ?_ ?_
      · refine Keeps.step ?_ (State.serve_only ..)
        exact Only.refl _ _ _
      · refine Keeps.next ?_
        exact Only.refl _ _ _
    · refine Keeps.ite ?_ ?_
      · refine Keeps.step ?_ (State.serve_only ..)
        exact Only.refl _ _ _
      · split
        · rename_i a1 a2 a3
          refine Keeps.ite ?_ ?_
          · refine Keeps.step ?_ (State.serve_only ..)
            exact Only.refl _ _ _
          · refine Keeps.next ?_
            refine Only.step ?_ (State.forward_only ..)
            exact Only.refl _ _ _
        · rename_i a4 a5
          refine Keeps.ite ?_ ?_
          · refine Keeps.step ?_ (State.serve_only ..)
            exact Only.refl _ _ _
          · refine Keeps.next ?_
            refine Only.step ?_ (State.respond_only ..)
            refine Only.step ?_ (State.ask_only ..)
            exact Only.refl _ _ _

theorem State.expinIn_only (s : State) (msg : List Byte) (fw : Bool × Nat) :
    Keeps (State.expinIn s msg fw) (Only 1202453802380202612679414065556140558016349465041059773802132977424491020858679523053413887173001575952350707711 3289376853641038235478218847767461909512895388040929805357522412 s) := by
  unfold State.expinIn
  extract_lets +onlyGivenNames v0
  clear_value v0
  extract_lets +onlyGivenNames v1
  clear_value v1
  extract_lets +onlyGivenNames v2
  clear_value v2
  extract_lets +onlyGivenNames v3
  clear_value v3
  extract_lets +onlyGivenNames v4
  clear_value v4
  refine Keeps.ite ?_ ?_
  · refine Keeps.next ?_
    exact Only.refl _ _ _
  · refine Keeps.ite ?_ ?_
    · refine Keeps.next ?_
      refine Only.trans ?_ (State.count_only _ _ _ _ (by decide))
      exact Only.refl _ _ _
    · split
      · rename_i a5 a6
        refine Keeps.next ?_
        refine Only.trans ?_ (State.countEv_only _ _ _ _ (by decide) (by decide))
        exact Only.refl _ _ _
      · rename_i a7 a8 a9
        split
        · rename_i a10 a11
          refine Keeps.next ?_
          refine Only.step ?_ (State.repeatAnswer_only ..)
          exact Only.refl _ _ _
        · rename_i a12 a13
          refine Keeps.next ?_
          refine Only.trans ?_ (State.countEv_only _ _ _ _ (by decide) (by decide))
          exact Only.refl _ _ _
        · rename_i a14 a15
          extract_lets +onlyGivenNames v16
          have h17 : Only 1202453802380202612679414065556140558016349465041059773802132977424491020858679523053413887173001575952350707711 3289376853641038235478218847767461909512895388040929805357522412 s v16 := by
            unfold v16
            refine Only.trans ?_ (State.count_only _ _ _ _ (by decide))
            refine Only.step ?_ (State.noteSeq_only ..)
            exact Only.refl _ _ _
          obtain ⟨w18, e19⟩ : ∃ x, x = v16 := ⟨_, rfl⟩
          rw [← e19] at h17 ⊢
          clear e19 v16
          extract_lets +onlyGivenNames v20
          clear_value v20
          refine Keeps.ite ?_ ?_
          · refine Keeps.next ?_
            refine Only.step ?_ (State.respond_only ..)
            refine Only.step ?_ (State.ask_only ..)
            exact h17
          · refine Keeps.step ?_ (State.dispatch_only ..)
            exact h17

theorem State.udpIn_only (s : State) (own : Bool) (ptp : Bool) (seg : List Byte) (fr : List Byte) (fw : Bool × Nat) :
    Keeps (State.udpIn s own ptp seg fr fw) (Only 1202453802380202612679414065556140558016349465041059773802132977424491020858679523053413887173001575952350707711 3289376853641038254032438852944940363270612990884366578333228524 s) := by
  unfold State.udpIn
  extract_lets +onlyGivenNames v0
  clear_value v0
  extract_lets +onlyGivenNames v1
  clear_value v1
  refine Keeps.ite ?_ ?_
  · refine Keeps.next ?_
    exact Only.refl _ _ _
  · refine Keeps.ite ?_ ?_
    · refine Keeps.next ?_
      refine Only.step ?_ (State.ptpFrameIn_only ..)
      exact Only.refl _ _ _
    · refine Keeps.ite ?_ ?_
      · refine Keeps.step ?_ (State.expinIn_only ..)
        exact Only.refl _ _ _
      · refine Keeps.next ?_
        exact Only.refl _ _ _

theorem State.ip4In_only (s : State) (fr : List Byte) (fw : Bool × Nat) :
    Keeps (State.ip4In s fr fw) (Only 1202453802380202612679414065556140558016349465041059773802132977424491020858679523053413887173001575952350707711 3289376853641038254032438852944940363270612990884366578333228524 s) := by
  unfold State.ip4In
  extract_lets +onlyGivenNames v0
  clear_value v0
  extract_lets +onlyGivenNames v1
  clear_value v1
  extract_lets +onlyGivenNames v2
  clear_value v2
  extract_lets +onlyGivenNames v3
  clear_value v3
  extract_lets +onlyGivenNames v4
  clear_value v4
  refine Keeps.ite ?_ ?_
  · refine Keeps.next ?_
    exact Only.refl _ _ _
  · refine Keeps.ite ?_ ?_
    · refine Keeps.next ?_
      refine Only.ite ?_ ?_
      · refine Only.step ?_ (State.icmpIn_only ..)
        exact Only.refl _ _ _
      · exact Only.refl _ _ _
    · refine Keeps.ite ?_ ?_
      · extract_lets +onlyGivenNames v5
        clear_value v5
        refine Keeps.ite ?_ ?_
        · refine Keeps.next ?_
          exact Only.refl _ _ _
        · refine Keeps.step ?_ (State.udpIn_only ..)
          exact Only.refl _ _ _
      · refine Keeps.next ?_
        exact Only.refl _ _ _

theorem State.icmp6Out_only (s : State) (mac : Nat) (src : Nat) (dst : Nat) (hops : Nat) (m : List Byte) :
    Only 48312224427533946512043291035939178167157762805192705886137669566595072 302231454903657293676552 s (State.icmp6Out s mac src dst hops m) := by
  unfold State.icmp6Out
  refine Only.step ?_ (State.hostSend_only ..)
  exact Only.refl _ _ _

theorem State.icmp6In_only (s : State) (from_ : Nat) (src : Nat) (dst : Nat) (hops : Nat) (m : List Byte) :
    Only 48312224427533946512043291035939178167157762805192705886137669566595072 302231454903657293676552 s (State.icmp6In s from_ src dst hops m) := by
  unfold State.icmp6In
  extract_lets +onlyGivenNames v0
  clear_value v0
  refine Only.ite ?_ ?_
  · exact Only.refl _ _ _
  · refine Only.ite ?_ ?_
    · refine Only.step ?_ (State.icmp6Out_only ..)
      exact Only.refl _ _ _
    · refine Only.ite ?_ ?_
      · extract_lets +onlyGivenNames v1
        clear_value v1
        refine Only.step ?_ (State.icmp6Out_only ..)
        exact Only.refl _ _ _
      · exact Only.refl _ _ _

theorem State.ip6In_only (s : State) (fr : List Byte) (fw : Bool × Nat) :
    Keeps (State.ip6In s fr fw) (Only 1202453802380202612679414065556140558016349465041059773802132977424491020858679523053413887173001575952350707711 3289376853641038254032438852944940363270612990884366578333228524 s) := by
  unfold State.ip6In
  extract_lets +onlyGivenNames v0
  clear_value v0
  extract_lets +onlyGivenNames v1
  clear_value v1
  extract_lets +onlyGivenNames v2
  clear_value v2
  extract_lets +onlyGivenNames v3
  clear_value v3
  extract_lets +onlyGivenNames v4
  clear_value v4
  refine Keeps.ite ?_ ?_
  · refine Keeps.next ?_
    exact Only.refl _ _ _
  · refine Keeps.ite ?_ ?_
    · refine Keeps.next ?_
      refine Only.step ?_ (State.icmp6In_only ..)
      exact Only.refl _ _ _
    · refine Keeps.ite ?_ ?_
      · extract_lets +onlyGivenNames v5
        clear_value v5
        refine Keeps.ite ?_ ?_
        · refine Keeps.next ?_
          exact Only.refl _ _ _
        · refine Keeps.step ?_ (State.udpIn_only ..)
          exact Only.refl _ _ _
      · refine Keeps.next ?_
        exact Only.refl _ _ _

theorem State.frameIn_only (s : State) (fr : List Byte) (fw : Bool × Nat) :
    Keeps (State.frameIn s fr fw) (Only 1202453802380202612679414065556140558016349465041059773802132977424491020858679523053413887173001575952350707711 3289376853641038254032438852944940363270612990884366578333228524 s) := by
  unfold State.frameIn
  extract_lets +onlyGivenNames v0
  have h1 : Only 1202453802380202612679414065556140558016349465041059773802132977424491020858679523053413887173001575952350707711 3289376853641038254032438852944940363270612990884366578333228524 s v0.2 := by
    unfold v0
    refine Only.step ?_ (State.policeFrame_only ..)
    exact Only.refl _ _ _
  obtain ⟨w2, e3⟩ : ∃ x, x = v0 := ⟨_, rfl⟩
  rw [← e3] at h1 ⊢
  clear e3 v0
  extract_lets +onlyGivenNames v4
  clear_value v4
  refine Keeps.ite ?_ ?_
  · refine Keeps.next ?_
    exact h1
  · refine Keeps.ite ?_ ?_
    · refine Keeps.next ?_
      refine Only.step ?_ (State.arpIn_only ..)
      exact h1
    · refine Keeps.ite ?_ ?_
      · refine Keeps.next ?_
        refine Only.step ?_ (State.ptpFrameIn_only ..)
        exact h1
      · refine Keeps.ite ?_ ?_
        · refine Keeps.step ?_ (State.ip4In_only ..)
          exact h1
        · refine Keeps.ite ?_ ?_
          · refine Keeps.step ?_ (State.ip6In_only ..)
            exact h1
          · refine Keeps.next ?_
            exact h1

theorem State.macIn_only (s : State) (fr : List Byte) :
    Only 12367929453448690307083082505200429610792387278129332706851243409048338432 9973638011820690691325952 s (State.macIn s fr).2 := by
  unfold State.macIn
  extract_lets +onlyGivenNames v0
  clear_value v0
  extract_lets +onlyGivenNames v1
  clear_value v1
  extract_lets +onlyGivenNames v2
  clear_value v2
  refine Only.iteSnd ?_ ?_
  · refine Only.pair _ ?_
    refine Only.trans ?_ (State.count_only _ _ _ _ (by decide))
    exact Only.refl _ _ _
  · split
    · rename_i a3 a4
      refine Only.pair _ ?_
      refine Only.trans ?_ (State.count_only _ _ _ _ (by decide))
      exact Only.refl _ _ _
    · rename_i a5 a6 a7 a8
      extract_lets +onlyGivenNames v9
      clear_value v9
      extract_lets +onlyGivenNames v10
      clear_value v10
      extract_lets +onlyGivenNames v11
      clear_value v11
      extract_lets +onlyGivenNames v12
      clear_value v12
      refine Only.iteSnd ?_ ?_
      · refine Only.pair _ ?_
        refine Only.trans ?_ (State.count_only _ _ _ _ (by decide))
        exact Only.refl _ _ _
      · split
        · rename_i a13 a14
          refine Only.pair _ ?_
          refine Only.trans ?_ (State.count_only _ _ _ _ (by decide))
          exact Only.refl _ _ _
        · rename_i a15 a16 a17
          extract_lets +onlyGivenNames v18
          unfold v18
          clear v18
          extract_lets +onlyGivenNames v19
          have h20 : Only 12367929453448690307083082505200429610792387278129332706851243409048338432 9973638011820690691325952 s v19 := by
            unfold v19
            refine Only.up_ciph ?_
            exact Only.refl _ _ _
          obtain ⟨w21, e22⟩ : ∃ x, x = v19 := ⟨_, rfl⟩
          rw [← e22] at h20 ⊢
          clear e22 v19
          refine Only.pair _ ?_
          refine Only.step ?_ (State.updGen_only ..)
          exact h20

theorem State.hostIn_only (s : State) (full : List Byte) (fw : Bool × Nat) :
    Keeps (State.hostIn s full fw) (Only 1202453802380202612679414065556140558016349465041059773802132977424491020858679523053413887173001575952350707711 3289376853641038254032438852944940363270612990884366578333228524 s) := by
  unfold State.hostIn
  extract_lets +onlyGivenNames v0
  clear_value v0
  refine Keeps.ite ?_ ?_
  · refine Keeps.next ?_
    exact Only.refl _ _ _
  · refine Keeps.ite ?_ ?_
    · refine Keeps.step ?_ (State.frameIn_only ..)
      exact Only.refl _ _ _
    · extract_lets +onlyGivenNames v1
      have h2 : Only 1202453802380202612679414065556140558016349465041059773802132977424491020858679523053413887173001575952350707711 3289376853641038254032438852944940363270612990884366578333228524 s v1.2 := by
        unfold v1
        refine Only.step ?_ (State.macIn_only ..)
        exact Only.refl _ _ _
      obtain ⟨w3, e4⟩ : ∃ x, x = v1 := ⟨_, rfl⟩
      rw [← e4] at h2 ⊢
      clear e4 v1
      split
      · rename_i a5 a6 a7
        refine Keeps.step ?_ (State.frameIn_only ..)
        exact h2
      · rename_i a8 a9
        refine Keeps.next ?_
        exact h2

theorem execHostFrameReceive_only (fr : List Byte) (fw : Bool × Nat) (s : State) :
    Keeps (execHostFrameReceive fr fw s) (Only 1202453802380202612679414065556140558016349465041059773802132977424491020858679523053413887173001575952350707711 3289376853641038254032438852944940363270612990884366578333228524 s) := by
  unfold execHostFrameReceive
  refine Keeps.step ?_ (State.hostIn_only ..)
  exact Only.refl _ _ _

theorem execMacsecFrameReceive_only (fr : List Byte) (fw : Bool × Nat) (s : State) :
    Keeps (execMacsecFrameReceive fr fw s) (Only 1202453802380202612679414065556140558016349465041059773802132977424491020858679523053413887173001575952350707711 3289376853641038254032438852944940363270612990884366578333228524 s) := by
  unfold execMacsecFrameReceive
  refine Keeps.ite ?_ ?_
  · refine Keeps.step ?_ (State.hostIn_only ..)
    exact Only.refl _ _ _
  · refine Keeps.next ?_
    exact Only.refl _ _ _

/-! ### Constellation -/

theorem execConstellationMeridian_only (step : Nat) (s : State) :
    Keeps (execConstellationMeridian step s) (Only 4 748288838313422294120286634350736906063837462003720 s) := by
  unfold execConstellationMeridian
  refine Keeps.ite ?_ ?_
  · refine Keeps.next ?_
    refine Only.step ?_ (State.commitView_only ..)
    refine Only.up_cst ?_
    exact Only.refl _ _ _
  · refine Keeps.next ?_
    exact Only.refl _ _ _

theorem execCstApplyAckReceive_only (txn : Nat) (pos : Nat) (held : Bool) (s : State) :
    Keeps (execCstApplyAckReceive txn pos held s) (Only 39785858912782931420742804279279613720079783099726995562394880956645465647140339609239552 36023092356932095127884423757093175323383082612949000 s) := by
  unfold execCstApplyAckReceive
  refine Keeps.ite ?_ ?_
  · refine Keeps.next ?_
    exact Only.refl _ _ _
  · split
    · rename_i a0 a1
      refine Keeps.next ?_
      exact Only.refl _ _ _
    · rename_i a2 a3 a4
      extract_lets +onlyGivenNames v5
      clear_value v5
      refine Keeps.ite ?_ ?_
      · refine Keeps.next ?_
        refine Only.step ?_ (State.answer_only ..)
        refine Only.up_cst ?_
        exact Only.refl _ _ _
      · refine Keeps.next ?_
        refine Only.up_cst ?_
        exact Only.refl _ _ _

theorem State.takeView_only (s : State) (v : Nat) :
    Only 4 0 s (State.takeView s v) := by
  unfold State.takeView
  refine Only.trans ?_ (State.setf_only _ _ _ _ (by decide))
  exact Only.refl _ _ _

theorem State.ackApply_only (s : State) (txn : Nat) (held : Bool) :
    Only 0 8 s (State.ackApply s txn held) := by
  unfold State.ackApply
  refine Only.step ?_ (State.emit_only ..)
  exact Only.refl _ _ _

theorem execCstApplyReceive_only (txn : Nat) (v : Nat) (discard : Bool) (s : State) :
    Keeps (execCstApplyReceive txn v discard s) (Only 1202453802380202612679414065556140558016349465041059773802132977424491020858679523053413887173001575952350707711 515790800162652738472319021750404837460197651272551036094488012 s) := by
  unfold execCstApplyReceive
  refine Keeps.ite ?_ ?_
  · refine Keeps.next ?_
    exact Only.refl _ _ _
  · refine Keeps.ite ?_ ?_
    · refine Keeps.next ?_
      refine Only.step ?_ (State.takeView_only ..)
      exact Only.refl _ _ _
    · refine Keeps.ite ?_ ?_
      · refine Keeps.next ?_
        refine Only.step ?_ (State.closeTxn_only ..)
        exact Only.refl _ _ _
      · refine Keeps.ite ?_ ?_
        · refine Keeps.next ?_
          refine Only.step ?_ (State.ackApply_only ..)
          exact Only.refl _ _ _
        · split
          · rename_i a0 a1
            refine Keeps.next ?_
            refine Only.step ?_ (State.ackApply_only ..)
            exact Only.refl _ _ _
          · rename_i a2 a3 a4
            extract_lets +onlyGivenNames v5
            have h6 : Only 1202453802380202612679414065556140558016349465041059773802132977424491020858679523053413887173001575952350707711 515790800162652738472319021750404837460197651272551036094488012 s v5.2 := by
              unfold v5
              refine Only.step ?_ (State.applyOps_only ..)
              exact Only.refl _ _ _
            obtain ⟨w7, e8⟩ : ∃ x, x = v5 := ⟨_, rfl⟩
            rw [← e8] at h6 ⊢
            clear e8 v5
            extract_lets +onlyGivenNames v9
            have h10 : Only 1202453802380202612679414065556140558016349465041059773802132977424491020858679523053413887173001575952350707711 515790800162652738472319021750404837460197651272551036094488012 s v9 := by
              unfold v9
              refine Only.step ?_ (State.closeTxn_only ..)
              exact h6
            obtain ⟨w11, e12⟩ : ∃ x, x = v9 := ⟨_, rfl⟩
            rw [← e12] at h10 ⊢
            clear e12 v9
            refine Keeps.ite ?_ ?_
            · refine Keeps.next ?_
              refine Only.step ?_ (State.ackApply_only ..)
              exact h10
            · extract_lets +onlyGivenNames v13
              clear_value v13
              refine Keeps.next ?_
              refine Only.step ?_ (State.ackApply_only ..)
              refine Only.step ?_ (State.takeView_only ..)
              refine Only.up_cst ?_
              exact h10

theorem execCstMeridianReceive_only (step : Nat) (view : Nat) (s : State) :
    Keeps (execCstMeridianReceive step view s) (Only 68351748112347229395534833099687147017005906730847790429404936223512675939024130855429172686136868 187072209578355574188064701507269286700454342006920 s) := by
  unfold execCstMeridianReceive
  refine Keeps.ite ?_ ?_
  · refine Keeps.next ?_
    refine Only.step ?_ (State.takeView_only ..)
    refine Only.step ?_ (State.reachMeridian_only ..)
    exact Only.refl _ _ _
  · refine Keeps.next ?_
    exact Only.refl _ _ _

theorem execCstMeridianReportReceive_only (step : Nat) (pos : Nat) (s : State) :
    Keeps (execCstMeridianReportReceive step pos s) (Only 68351748112347229395534833099687147017005906730847790429404936223512675939024130855429172686136868 561216628735066721248208018682637739732373073008776 s) := by
  unfold execCstMeridianReportReceive
  refine Keeps.ite ?_ ?_
  · refine Keeps.next ?_
    refine Only.step ?_ (State.noteReport_only ..)
    exact Only.refl _ _ _
  · refine Keeps.next ?_
    exact Only.refl _ _ _

theorem execCstPrepareReceive_only (txn : Nat) (check : Bool) (s : State) :
    Keeps (execCstPrepareReceive txn check s) (Only 1202453802380202612679414065556140558016349465041059773802132977424491020858679523053413887173001575952350707711 515790800162605970419924432857022319545550730215922046253112780 s) := by
  unfold execCstPrepareReceive
  refine Keeps.ite ?_ ?_
  · refine Keeps.next ?_
    exact Only.refl _ _ _
  · extract_lets +onlyGivenNames v0
    have h1 : Only 1202453802380202612679414065556140558016349465041059773802132977424491020858679523053413887173001575952350707711 515790800162605970419924432857022319545550730215922046253112780 s v0.2 := by
      unfold v0
      split
      · rename_i a2 a3 a4
        refine Only.step ?_ (State.tryTxn_only ..)
        exact Only.refl _ _ _
      · rename_i a5 a6
        refine Only.pair _ ?_
        exact Only.refl _ _ _
    refine Keeps.next ?_
    refine Only.step ?_ (State.emit_only ..)
    refine Only.ite ?_ ?_
    · exact Only.refl _ _ _
    · exact h1

theorem State.startApply_only (s : State) (c : TwoPhase) :
    Only 1202453802380202612679414065556140558016349465041059773802132977424491020858679523053413887173001575952350707711 515790800198535526672067350198141707473047831971143491889634764 s (State.startApply s c) := by
  unfold State.startApply
  split
  · rename_i a0 a1
    refine Only.step ?_ (State.refuseCommit_only ..)
    exact Only.refl _ _ _
  · rename_i a2 a3 a4
    extract_lets +onlyGivenNames v5
    have h6 : Only 1202453802380202612679414065556140558016349465041059773802132977424491020858679523053413887173001575952350707711 515790800198535526672067350198141707473047831971143491889634764 s v5.2 := by
      unfold v5
      refine Only.step ?_ (State.tryTxn_only ..)
      exact Only.refl _ _ _
    obtain ⟨w7, e8⟩ : ∃ x, x = v5 := ⟨_, rfl⟩
    rw [← e8] at h6 ⊢
    clear e8 v5
    refine Only.ite ?_ ?_
    · refine Only.step ?_ (State.refuseCommit_only ..)
      exact h6
    · extract_lets +onlyGivenNames v9
      clear_value v9
      extract_lets +onlyGivenNames v10
      have h11 : Only 1202453802380202612679414065556140558016349465041059773802132977424491020858679523053413887173001575952350707711 515790800198535526672067350198141707473047831971143491889634764 s v10 := by
        unfold v10
        refine Only.step ?_ (State.commitView_only ..)
        refine Only.step ?_ (State.closeTxn_only ..)
        exact h6
      obtain ⟨w12, e13⟩ : ∃ x, x = v10 := ⟨_, rfl⟩
      rw [← e13] at h11 ⊢
      clear e13 v10
      extract_lets +onlyGivenNames v14
      clear_value v14
      extract_lets +onlyGivenNames v15
      clear_value v15
      refine Only.foldl ?_ ?_
      · refine Only.up_cst ?_
        exact h11
      · intro u16 u17 h18
        refine Only.step ?_ (State.sendApply_only ..)
        exact h18

theorem execCstPrepareReplyReceive_only (txn : Nat) (pos : Nat) (code : Nat) (s : State) :
    Keeps (execCstPrepareReplyReceive txn pos code s) (Only 1202453802380202612679414065556140558016349465041059773802132977424491020858679523053413887173001575952350707711 515790800198535526672067350198141707473047831971143491889634764 s) := by
  unfold execCstPrepareReplyReceive
  refine Keeps.ite ?_ ?_
  · refine Keeps.next ?_
    exact Only.refl _ _ _
  · split
    · rename_i a0 a1
      refine Keeps.next ?_
      exact Only.refl _ _ _
    · rename_i a2 a3 a4
      refine Keeps.ite ?_ ?_
      · refine Keeps.next ?_
        refine Only.step ?_ (State.refuseCommit_only ..)
        exact Only.refl _ _ _
      · extract_lets +onlyGivenNames v5
        clear_value v5
        extract_lets +onlyGivenNames v6
        unfold v6
        clear v6
        extract_lets +onlyGivenNames v7
        have h8 : Only 1202453802380202612679414065556140558016349465041059773802132977424491020858679523053413887173001575952350707711 515790800198535526672067350198141707473047831971143491889634764 s v7 := by
          unfold v7
          refine Only.up_cst ?_
          exact Only.refl _ _ _
        obtain ⟨w9, e10⟩ : ∃ x, x = v7 := ⟨_, rfl⟩
        rw [← e10] at h8 ⊢
        clear e10 v7
        refine Keeps.next ?_
        refine Only.ite ?_ ?_
        · refine Only.step ?_ (State.startApply_only ..)
          exact h8
        · exact h8

theorem execCstTokenPostReceive_only (i : Nat) (swaps : Nat) (s : State) :
    Keeps (execCstTokenPostReceive i swaps s) (Only 2105344 0 s) := by
  unfold execCstTokenPostReceive
  refine Keeps.ite ?_ ?_
  · refine Keeps.next ?_
    refine Only.step ?_ (State.addToken_only ..)
    exact Only.refl _ _ _
  · refine Keeps.next ?_
    exact Only.refl _ _ _

theorem State.forwardDone_only (s : State) (w : Fwd) (pl : List Byte) :
    Only 39785858912782931420742804279279613720079783099726995562394880956645465647140339609239556 35958786284889535399483461624453658870518221581058056 s (State.forwardDone s w pl) := by
  unfold State.forwardDone
  extract_lets +onlyGivenNames v0
  clear_value v0
  extract_lets +onlyGivenNames v1
  unfold v1
  clear v1
  extract_lets +onlyGivenNames v2
  have h3 : Only 39785858912782931420742804279279613720079783099726995562394880956645465647140339609239556 35958786284889535399483461624453658870518221581058056 s v2 := by
    unfold v2
    refine Only.up_cst ?_
    exact Only.refl _ _ _
  obtain ⟨w4, e5⟩ : ∃ x, x = v2 := ⟨_, rfl⟩
  rw [← e5] at h3 ⊢
  clear e5 v2
  extract_lets +onlyGivenNames v6
  clear_value v6
  refine Only.ite ?_ ?_
  · extract_lets +onlyGivenNames v7
    clear_value v7
    refine Only.step ?_ (State.answer_only ..)
    refine Only.up_cst ?_
    exact h3
  · refine Only.ite ?_ ?_
    · refine Only.step ?_ (State.answer_only ..)
      refine Only.step ?_ (State.commitView_only ..)
      exact h3
    · refine Only.step ?_ (State.answer_only ..)
      exact h3

theorem execForwardResponseReceive_only (id : Nat) (pl : List Byte) (s : State) :
    Keeps (execForwardResponseReceive id pl s) (Only 1043002205742169659100864935269880898072071897340059087321266304950399870944475533905508696068 35958786284889535399483461624453658870518221581058056 s) := by
  unfold execForwardResponseReceive
  refine Keeps.ite ?_ ?_
  · refine Keeps.next ?_
    exact Only.refl _ _ _
  · split
    · rename_i a0 a1 a2
      refine Keeps.next ?_
      refine Only.ite ?_ ?_
      · refine Only.step ?_ (State.fwdLost_only ..)
        exact Only.refl _ _ _
      · refine Only.step ?_ (State.forwardDone_only ..)
        exact Only.refl _ _ _
    · rename_i a3 a4
      refine Keeps.next ?_
      exact Only.refl _ _ _

theorem execForwardedRequestReceive_only (id : Nat) (type : Nat) (flags : Nat) (txn : Nat) (body : List Byte) (again : Bool) (fw : Bool × Nat) (s : State) :
    Keeps (execForwardedRequestReceive id type flags txn body again fw s) (Only 1202453802380202612679414065556140558016349465041059773802132977424491020858679523053413887173001575952350707711 3289376853641038235478218847767461909512895388040929805357522412 s) := by
  unfold execForwardedRequestReceive
  extract_lets +onlyGivenNames v0
  clear_value v0
  refine Keeps.ite ?_ ?_
  · refine Keeps.next ?_
    exact Only.refl _ _ _
  · split
    · rename_i a1 a2 a3
      refine Keeps.next ?_
      refine Only.step ?_ (State.emit_only ..)
      exact Only.refl _ _ _
    · rename_i a4 a5
      refine Keeps.ite ?_ ?_
      · refine Keeps.next ?_
        exact Only.refl _ _ _
      · refine Keeps.ite ?_ ?_
        · refine Keeps.next ?_
          refine Only.step ?_ (State.emit_only ..)
          exact Only.refl _ _ _
        · refine Keeps.ite ?_ ?_
          · refine Keeps.next ?_
            refine Only.step ?_ (State.respond_only ..)
            refine Only.step ?_ (State.ask_only ..)
            exact Only.refl _ _ _
          · refine Keeps.step ?_ (State.serve_only ..)
            exact Only.refl _ _ _

end Sys2Proof.Machine
end

