-- ==== Sys2Proof/Laws/PerInstr.lean ====
section
/-! SUPPORT. The request that a command carries, and a law per command: a well-formed command carries a well-formed request
(R584, R593), whichever command it is. -/

-- One theorem at a time: elaborated side by side, the theorems of the package take a thread each while they wait.
set_option Elab.async false

namespace Sys2Proof.Laws

open Sys2Proof Sys2Proof.Machine

/-- The expin request whose operation a command is, for the commands that carry one. -/
def Request.requestOf : Instr → Option Req
  | .itemIssue => none
  | .itemStart _ => none
  | .move _ _ => none
  | .reduce _ _ => none
  | .firstpass _ _ => none
  | .encode _ _ => none
  | .encodeResidualCopy _ => none
  | .decode _ _ => none
  | .project _ _ => none
  | .ortho _ _ => none
  | .seal _ _ _ => none
  | .openItem _ _ _ => none
  | .send _ _ => none
  | .recv _ => none
  | .circuitSetup _ => none
  | .circuitConfirm _ => none
  | .circuitRelease _ => none
  | .journal _ _ => none
  | .forecast _ => none
  | .forecastLowerEffect => none
  | .tokenWaitWatchdog _ => none
  | .armStep => none
  | .armIdle => none
  | .cancel => none
  | .swapStep => none
  | .swapIdle => none
  | .trackResume _ => none
  | .trackHalt _ => none
  | .trackAbort _ => none
  | .tokenWrite q _ _ => some q
  | .activeWindowWrite q _ _ => some q
  | .shadowWindowWrite q _ _ => some q
  | .reduceCountWait _ => none
  | .reduceRebuildDone _ _ _ => none
  | .arrayRedoDone _ _ _ => none
  | .ppeBandStart _ _ => none
  | .ppeBandFold _ _ => none
  | .ppeLockLost => none
  | .ppeLockReturn => none
  | .ppeLockWaitExpired _ => none
  | .ppeCalQuick => none
  | .ppeCalFull => none
  | .ppeCalPeriod => none
  | .ppeTempDelta _ => none
  | .ppeCalDone _ _ _ _ _ => none
  | .ppeCalTableWrite q _ _ _ => some q
  | .firstpassPinWait _ => none
  | .codebookInstallDeferred _ => none
  | .codebookRepeat _ _ _ => none
  | .submit q _ => some q
  | .adhocAdmit => none
  | .parkExpired _ => none
  | .helloReceive _ _ => none
  | .dataReceive _ _ => none
  | .abandonmentReceive _ _ => none
  | .ackReceive _ _ => none
  | .nakReceive _ _ => none
  | .probeRequestReceive _ _ => none
  | .probeReplyReceive _ _ => none
  | .codebookReceive _ _ => none
  | .stepReadyReceive _ _ => none
  | .stepCommitReceive _ _ => none
  | .epochReceive _ _ => none
  | .horizonReceive _ _ => none
  | .reconcileReceive _ _ => none
  | .correctionSent _ => none
  | .ackSend _ => none
  | .gapNak _ => none
  | .resendTimer _ _ => none
  | .probeSend => none
  | .routeSilence _ _ => none
  | .routeProveTimeout _ _ => none
  | .routeDisableWrite _ _ => none
  | .helloSend _ => none
  | .eclipseEntry _ => none
  | .meridian => none
  | .epochWaitExpired _ => none
  | .memberSuspect _ => none
  | .downProposal _ => none
  | .memberHoldExpired _ => none
  | .exactHoldExpired _ => none
  | .membershipTable q _ _ => some q
  | .membershipKeep q _ _ => some q
  | .rawDefectChange _ _ _ => none
  | .defectFastSet _ _ => none
  | .defectFastClear _ _ => none
  | .failureReportSet _ _ => none
  | .failureReportClear _ _ => none
  | .modAlertFall _ _ => none
  | .losFlagPoll _ _ => none
  | .gfpFrameReceive _ _ => none
  | .csfSend _ => none
  | .moduleRead _ _ _ => none
  | .moduleWrite _ _ _ _ => none
  | .moduleAccessDone _ _ => none
  | .gcsMapWrite q _ _ => some q
  | .gcsMapApply _ => none
  | .fabricRequestReceive _ _ _ _ => none
  | .fabricReplyReceive _ _ _ _ => none
  | .bulkReceive _ _ => none
  | .escapeTimeout _ _ => none
  | .bridgeFlush _ => none
  | .circuitTrained _ => none
  | .circuitSetupTimeout _ => none
  | .circuitReleased _ => none
  | .circuitTableWrite q _ _ => some q
  | .laserFailed _ _ => none
  | .spareSwitched _ _ _ => none
  | .lockLoopPeriod _ _ _ => none
  | .ringRelocked _ => none
  | .relockTimeout _ => none
  | .circuitNoLight _ => none
  | .moveFlitReceive _ => none
  | .circuitMoveDone _ _ => none
  | .alternateHoldExpired _ _ => none
  | .optCalFull _ => none
  | .optCalDone _ _ => none
  | .optXtWrite q _ _ _ => some q
  | .aprTrip _ => none
  | .aprBurst _ => none
  | .aprClear _ => none
  | .laserEnChange _ _ => none
  | .sectorFault _ _ => none
  | .pageRemap => none
  | .remirrorDone => none
  | .scrubPass _ _ => none
  | .cxlLinkDown _ => none
  | .contextFetch _ => none
  | .contextWindowWrite q _ _ => some q
  | .bufferGrant => none
  | .bufferHandoff _ _ _ _ => none
  | .bufferFree _ _ _ => none
  | .nocPacketReceive _ _ => none
  | .nocLinkFailed _ _ => none
  | .keyLoad q _ _ _ _ => some q
  | .keyEraseGraceful q _ _ _ _ => some q
  | .keyEraseImmediate q _ _ _ _ => some q
  | .keyEraseComplete _ _ => none
  | .keyRetire _ _ => none
  | .suspendedResume _ => none
  | .macsecFrameReceive _ _ => none
  | .gcsEncryptWrite _ => none
  | .portServe _ => none
  | .hostFrameReceive _ _ => none
  | .ptpMessageReceive _ => none
  | .timeSourceLost _ => none
  | .holdoverExpired _ => none
  | .tb0Revert => none
  | .timeReportSend => none
  | .timeReportReceive _ _ => none
  | .transferHoldoverExpired _ => none
  | .tcRelayReceive _ _ => none
  | .ppsInEdge => none
  | .ppsOutPulse => none
  | .asymWrite _ _ => none
  | .tbSecRead _ => none
  | .read q _ => some q
  | .write q _ => some q
  | .txnBegin q => some q
  | .txnCommit q _ => some q
  | .snapshotOpen q => some q
  | .snapshotClose q => some q
  | .txnExpired _ => none
  | .snapshotExpired _ => none
  | .hostAddressApply => none
  | .loadStructureImage q _ => some q
  | .loadSectorPatch q _ => some q
  | .loadFirmwareCopy q _ _ _ => some q
  | .hostBulkWrite q _ => some q
  | .hostBulkRead q _ => some q
  | .loadVerify _ _ _ _ _ _ => none
  | .abortItem q _ => some q
  | .abortTrack q _ => some q
  | .abortCollective q _ => some q
  | .abortTransaction q _ => some q
  | .abortLoad q _ => some q
  | .eventAck q _ _ => some q
  | .eventAssert _ => none
  | .eventDeliver _ _ => none
  | .eventResend _ => none
  | .mpEventHandled _ _ => none
  | .pinChange _ _ => none
  | .cstLinkTrained _ _ _ _ => none
  | .cstLinkDown _ => none
  | .linkStateReceive _ _ _ => none
  | .routesInstalled => none
  | .forwardedRequestReceive _ _ _ _ _ _ _ => none
  | .forwardResponseReceive _ _ => none
  | .cstPrepareReceive _ _ => none
  | .cstPrepareReplyReceive _ _ _ => none
  | .cstApplyReceive _ _ _ => none
  | .cstApplyAckReceive _ _ _ => none
  | .constellationMeridian _ => none
  | .cstEventRecordReceive _ _ => none
  | .cstTokenPostReceive _ _ => none
  | .cstMeridianReportReceive _ _ => none
  | .cstMeridianReceive _ _ => none
  | .cstMemberLost _ => none
  | .poleLost => none
  | .promote _ => none
  | .activate => none
  | .discard => none
  | .imageActivation _ _ => none
  | .disable _ _ => none
  | .enable _ => none
  | .twilightDeadline _ _ => none
  | .unitDark _ => none
  | .restart => none
  | .mpDrainLimit _ => none
  | .mpReady _ => none
  | .mpReadyTimeout => none
  | .porstNAssert => none
  | .porstNRelease _ _ => none
  | .sysrstN => none
  | .railsReady => none
  | .bootStageEnd _ _ _ => none
  | .claim => none
  | .addKey _ => none
  | .revokeKey _ => none
  | .release _ => none
  | .quote => none
  | .quoteDone _ => none
  | .raise => none
  | .persist => none
  | .persistDone => none
  | .idTreeBuilt => none
  | .bistStart _ => none
  | .bistEnd _ _ _ _ _ => none
  | .bistPeriod => none
  | .runNow => none
  | .unretire _ => none
  | .vinChange _ => none
  | .powerOff => none
  | .currentSample _ => none
  | .capLift => none
  | .thermalReport _ _ => none
  | .refclkLost => none
  | .refclkFreeRun => none
  | .refclkReturn => none
  | .pllUnlock _ => none
  | .pllRelocked => none
  | .softReset => none
  | .ttiRxAccept _ _ => none
  | .hostLinkChange _ _ => none
  | .fabricDelivery _ _ => none

/-- A well-formed command carries a well-formed request. -/
def Request.Statement (i : Instr) : Prop :=
  i.wf = true → ∀ q, Request.requestOf i = some q → q.wf = true

/-- A command that carries no request. -/
theorem Request.of_none {i : Instr} (h : Request.requestOf i = none) : Request.Statement i := by
  intro _ q hq
  rw [h] at hq
  cases hq

/-- A command whose check starts with its request's. -/
theorem Request.of_some {i : Instr} {q : Req} (h : Request.requestOf i = some q) (hw : i.wf = true → q.wf = true) : Request.Statement i := by
  intro hi q' hq
  rw [h] at hq
  exact Option.some.inj hq ▸ hw hi

/-- The first conjunct of a chain of checks. -/
theorem Request.first {a b : Bool} (h : (a && b) = true) : a = true := (Bool.and_eq_true a b ▸ h).1

theorem Request.itemIssue :
    Request.Statement (.itemIssue) :=
  Request.of_none rfl
theorem Request.itemStart (e : Nat) :
    Request.Statement (.itemStart e) :=
  Request.of_none rfl
theorem Request.move (id : Nat) (fx : Fx) :
    Request.Statement (.move id fx) :=
  Request.of_none rfl
theorem Request.reduce (id : Nat) (fx : Fx) :
    Request.Statement (.reduce id fx) :=
  Request.of_none rfl
theorem Request.firstpass (id : Nat) (fx : Fx) :
    Request.Statement (.firstpass id fx) :=
  Request.of_none rfl
theorem Request.encode (id : Nat) (fx : Fx) :
    Request.Statement (.encode id fx) :=
  Request.of_none rfl
theorem Request.encodeResidualCopy (item : Nat) :
    Request.Statement (.encodeResidualCopy item) :=
  Request.of_none rfl
theorem Request.decode (id : Nat) (fx : Fx) :
    Request.Statement (.decode id fx) :=
  Request.of_none rfl
theorem Request.project (id : Nat) (fx : Fx) :
    Request.Statement (.project id fx) :=
  Request.of_none rfl
theorem Request.ortho (id : Nat) (fx : Fx) :
    Request.Statement (.ortho id fx) :=
  Request.of_none rfl
theorem Request.seal (id : Nat) (fx : Fx) (busy : List (Nat × Nat × Nat × Nat)) :
    Request.Statement (.seal id fx busy) :=
  Request.of_none rfl
theorem Request.openItem (id : Nat) (fx : Fx) (busy : List (Nat × Nat × Nat × Nat)) :
    Request.Statement (.openItem id fx busy) :=
  Request.of_none rfl
theorem Request.send (id : Nat) (fx : Fx) :
    Request.Statement (.send id fx) :=
  Request.of_none rfl
theorem Request.recv (id : Nat) :
    Request.Statement (.recv id) :=
  Request.of_none rfl
theorem Request.circuitSetup (id : Nat) :
    Request.Statement (.circuitSetup id) :=
  Request.of_none rfl
theorem Request.circuitConfirm (id : Nat) :
    Request.Statement (.circuitConfirm id) :=
  Request.of_none rfl
theorem Request.circuitRelease (id : Nat) :
    Request.Statement (.circuitRelease id) :=
  Request.of_none rfl
theorem Request.journal (id : Nat) (fx : Fx) :
    Request.Statement (.journal id fx) :=
  Request.of_none rfl
theorem Request.forecast (id : Nat) :
    Request.Statement (.forecast id) :=
  Request.of_none rfl
theorem Request.forecastLowerEffect :
    Request.Statement (.forecastLowerEffect) :=
  Request.of_none rfl
theorem Request.tokenWaitWatchdog (n : Nat) :
    Request.Statement (.tokenWaitWatchdog n) :=
  Request.of_none rfl
theorem Request.armStep :
    Request.Statement (.armStep) :=
  Request.of_none rfl
theorem Request.armIdle :
    Request.Statement (.armIdle) :=
  Request.of_none rfl
theorem Request.cancel :
    Request.Statement (.cancel) :=
  Request.of_none rfl
theorem Request.swapStep :
    Request.Statement (.swapStep) :=
  Request.of_none rfl
theorem Request.swapIdle :
    Request.Statement (.swapIdle) :=
  Request.of_none rfl
theorem Request.trackResume (n : Nat) :
    Request.Statement (.trackResume n) :=
  Request.of_none rfl
theorem Request.trackHalt (n : Nat) :
    Request.Statement (.trackHalt n) :=
  Request.of_none rfl
theorem Request.trackAbort (n : Nat) :
    Request.Statement (.trackAbort n) :=
  Request.of_none rfl
theorem Request.tokenWrite (q : Req) (i : Nat) (v : Word) :
    Request.Statement (.tokenWrite q i v) :=
  Request.of_some rfl (fun h => Request.first h)
theorem Request.activeWindowWrite (q : Req) (off : Nat) (v : Word) :
    Request.Statement (.activeWindowWrite q off v) :=
  Request.of_some rfl (fun h => Request.first h)
theorem Request.shadowWindowWrite (q : Req) (off : Nat) (v : Word) :
    Request.Statement (.shadowWindowWrite q off v) :=
  Request.of_some rfl (fun h => Request.first h)
theorem Request.reduceCountWait (id : Nat) :
    Request.Statement (.reduceCountWait id) :=
  Request.of_none rfl
theorem Request.reduceRebuildDone (id : Nat) (sector : Nat) (again : Bool) :
    Request.Statement (.reduceRebuildDone id sector again) :=
  Request.of_none rfl
theorem Request.arrayRedoDone (id : Nat) (sector : Nat) (again : Bool) :
    Request.Statement (.arrayRedoDone id sector again) :=
  Request.of_none rfl
theorem Request.ppeBandStart (id : Nat) (fx : Fx) :
    Request.Statement (.ppeBandStart id fx) :=
  Request.of_none rfl
theorem Request.ppeBandFold (id : Nat) (fx : Fx) :
    Request.Statement (.ppeBandFold id fx) :=
  Request.of_none rfl
theorem Request.ppeLockLost :
    Request.Statement .ppeLockLost :=
  Request.of_none rfl
theorem Request.ppeLockReturn :
    Request.Statement .ppeLockReturn :=
  Request.of_none rfl
theorem Request.ppeLockWaitExpired (fx : Fx) :
    Request.Statement (.ppeLockWaitExpired fx) :=
  Request.of_none rfl
theorem Request.ppeCalQuick :
    Request.Statement (.ppeCalQuick) :=
  Request.of_none rfl
theorem Request.ppeCalFull :
    Request.Statement (.ppeCalFull) :=
  Request.of_none rfl
theorem Request.ppeCalPeriod :
    Request.Statement (.ppeCalPeriod) :=
  Request.of_none rfl
theorem Request.ppeTempDelta (temp : Nat) :
    Request.Statement (.ppeTempDelta temp) :=
  Request.of_none rfl
theorem Request.ppeCalDone (dark : List (Nat × Nat)) (gain : List (Nat × Nat)) (xt : List (Nat × Nat)) (lanes : List Nat) (cols : List Nat) :
    Request.Statement (.ppeCalDone dark gain xt lanes cols) :=
  Request.of_none rfl
theorem Request.ppeCalTableWrite (q : Req) (table : Nat) (i : Nat) (v : Word) :
    Request.Statement (.ppeCalTableWrite q table i v) :=
  Request.of_some rfl (fun h => Request.first (Request.first h))
theorem Request.firstpassPinWait (id : Nat) :
    Request.Statement (.firstpassPinWait id) :=
  Request.of_none rfl
theorem Request.codebookInstallDeferred (slot : Nat) :
    Request.Statement (.codebookInstallDeferred slot) :=
  Request.of_none rfl
theorem Request.codebookRepeat (n : Nat) (slot : Nat) (gen : Nat) :
    Request.Statement (.codebookRepeat n slot gen) :=
  Request.of_none rfl
theorem Request.submit (q : Req) (body : List Byte) :
    Request.Statement (.submit q body) :=
  Request.of_some rfl (fun h => Request.first h)
theorem Request.adhocAdmit :
    Request.Statement (.adhocAdmit) :=
  Request.of_none rfl
theorem Request.parkExpired (low : Nat) :
    Request.Statement (.parkExpired low) :=
  Request.of_none rfl
theorem Request.helloReceive (port : Nat) (bs : List Byte) :
    Request.Statement (.helloReceive port bs) :=
  Request.of_none rfl
theorem Request.dataReceive (port : Nat) (bs : List Byte) :
    Request.Statement (.dataReceive port bs) :=
  Request.of_none rfl
theorem Request.abandonmentReceive (port : Nat) (bs : List Byte) :
    Request.Statement (.abandonmentReceive port bs) :=
  Request.of_none rfl
theorem Request.ackReceive (port : Nat) (bs : List Byte) :
    Request.Statement (.ackReceive port bs) :=
  Request.of_none rfl
theorem Request.nakReceive (port : Nat) (bs : List Byte) :
    Request.Statement (.nakReceive port bs) :=
  Request.of_none rfl
theorem Request.probeRequestReceive (port : Nat) (bs : List Byte) :
    Request.Statement (.probeRequestReceive port bs) :=
  Request.of_none rfl
theorem Request.probeReplyReceive (port : Nat) (bs : List Byte) :
    Request.Statement (.probeReplyReceive port bs) :=
  Request.of_none rfl
theorem Request.codebookReceive (port : Nat) (bs : List Byte) :
    Request.Statement (.codebookReceive port bs) :=
  Request.of_none rfl
theorem Request.stepReadyReceive (port : Nat) (bs : List Byte) :
    Request.Statement (.stepReadyReceive port bs) :=
  Request.of_none rfl
theorem Request.stepCommitReceive (port : Nat) (bs : List Byte) :
    Request.Statement (.stepCommitReceive port bs) :=
  Request.of_none rfl
theorem Request.epochReceive (port : Nat) (bs : List Byte) :
    Request.Statement (.epochReceive port bs) :=
  Request.of_none rfl
theorem Request.horizonReceive (port : Nat) (bs : List Byte) :
    Request.Statement (.horizonReceive port bs) :=
  Request.of_none rfl
theorem Request.reconcileReceive (port : Nat) (bs : List Byte) :
    Request.Statement (.reconcileReceive port bs) :=
  Request.of_none rfl
theorem Request.correctionSent (n : Nat) :
    Request.Statement (.correctionSent n) :=
  Request.of_none rfl
theorem Request.ackSend (n : Nat) :
    Request.Statement (.ackSend n) :=
  Request.of_none rfl
theorem Request.gapNak (n : Nat) :
    Request.Statement (.gapNak n) :=
  Request.of_none rfl
theorem Request.resendTimer (n : Nat) (dseq : Nat) :
    Request.Statement (.resendTimer n dseq) :=
  Request.of_none rfl
theorem Request.probeSend :
    Request.Statement (.probeSend) :=
  Request.of_none rfl
theorem Request.routeSilence (n : Nat) (r : Nat) :
    Request.Statement (.routeSilence n r) :=
  Request.of_none rfl
theorem Request.routeProveTimeout (n : Nat) (r : Nat) :
    Request.Statement (.routeProveTimeout n r) :=
  Request.of_none rfl
theorem Request.routeDisableWrite (n : Nat) (v : Nat) :
    Request.Statement (.routeDisableWrite n v) :=
  Request.of_none rfl
theorem Request.helloSend (n : Nat) :
    Request.Statement (.helloSend n) :=
  Request.of_none rfl
theorem Request.eclipseEntry (n : Nat) :
    Request.Statement (.eclipseEntry n) :=
  Request.of_none rfl
theorem Request.meridian :
    Request.Statement (.meridian) :=
  Request.of_none rfl
theorem Request.epochWaitExpired (n : Nat) :
    Request.Statement (.epochWaitExpired n) :=
  Request.of_none rfl
theorem Request.memberSuspect (n : Nat) :
    Request.Statement (.memberSuspect n) :=
  Request.of_none rfl
theorem Request.downProposal (n : Nat) :
    Request.Statement (.downProposal n) :=
  Request.of_none rfl
theorem Request.memberHoldExpired (n : Nat) :
    Request.Statement (.memberHoldExpired n) :=
  Request.of_none rfl
theorem Request.exactHoldExpired (n : Nat) :
    Request.Statement (.exactHoldExpired n) :=
  Request.of_none rfl
theorem Request.membershipTable (q : Req) (epoch : Nat) (ms : List Member) :
    Request.Statement (.membershipTable q epoch ms) :=
  Request.of_some rfl (fun h => Request.first (Request.first h))
theorem Request.membershipKeep (q : Req) (site : Nat) (role : Nat) :
    Request.Statement (.membershipKeep q site role) :=
  Request.of_some rfl (fun h => Request.first (Request.first h))
theorem Request.rawDefectChange (p : Nat) (bit : Nat) (on : Bool) :
    Request.Statement (.rawDefectChange p bit on) :=
  Request.of_none rfl
theorem Request.defectFastSet (p : Nat) (bit : Nat) :
    Request.Statement (.defectFastSet p bit) :=
  Request.of_none rfl
theorem Request.defectFastClear (p : Nat) (bit : Nat) :
    Request.Statement (.defectFastClear p bit) :=
  Request.of_none rfl
theorem Request.failureReportSet (p : Nat) (bit : Nat) :
    Request.Statement (.failureReportSet p bit) :=
  Request.of_none rfl
theorem Request.failureReportClear (p : Nat) (bit : Nat) :
    Request.Statement (.failureReportClear p bit) :=
  Request.of_none rfl
theorem Request.modAlertFall (p : Nat) (los : Bool) :
    Request.Statement (.modAlertFall p los) :=
  Request.of_none rfl
theorem Request.losFlagPoll (p : Nat) (flag : Bool) :
    Request.Statement (.losFlagPoll p flag) :=
  Request.of_none rfl
theorem Request.gfpFrameReceive (p : Nat) (input : GfpInput) :
    Request.Statement (.gfpFrameReceive p input) :=
  Request.of_none rfl
theorem Request.csfSend (p : Nat) :
    Request.Statement (.csfSend p) :=
  Request.of_none rfl
theorem Request.moduleRead (port : Nat) (page : Nat) (offset : Nat) :
    Request.Statement (.moduleRead port page offset) :=
  Request.of_none rfl
theorem Request.moduleWrite (port : Nat) (page : Nat) (offset : Nat) (data : Nat) :
    Request.Statement (.moduleWrite port page offset data) :=
  Request.of_none rfl
theorem Request.moduleAccessDone (answered : Bool) (data : Nat) :
    Request.Statement (.moduleAccessDone answered data) :=
  Request.of_none rfl
theorem Request.gcsMapWrite (q : Req) (n : Nat) (v : Word) :
    Request.Statement (.gcsMapWrite q n v) :=
  Request.of_some rfl (fun h => Request.first h)
theorem Request.gcsMapApply (n : Nat) :
    Request.Statement (.gcsMapApply n) :=
  Request.of_none rfl
theorem Request.fabricRequestReceive (wave : Nat) (flit : Nat) (old : Option (Nat × Nat)) (bs : List Byte) :
    Request.Statement (.fabricRequestReceive wave flit old bs) :=
  Request.of_none rfl
theorem Request.fabricReplyReceive (wave : Nat) (flit : Nat) (old : Option (Nat × Nat)) (bs : List Byte) :
    Request.Statement (.fabricReplyReceive wave flit old bs) :=
  Request.of_none rfl
theorem Request.bulkReceive (i : Nat) (bs : List Byte) :
    Request.Statement (.bulkReceive i bs) :=
  Request.of_none rfl
theorem Request.escapeTimeout (wave : Nat) (flit : Nat) :
    Request.Statement (.escapeTimeout wave flit) :=
  Request.of_none rfl
theorem Request.bridgeFlush (stream : Nat) :
    Request.Statement (.bridgeFlush stream) :=
  Request.of_none rfl
theorem Request.circuitTrained (ix : Nat) :
    Request.Statement (.circuitTrained ix) :=
  Request.of_none rfl
theorem Request.circuitSetupTimeout (ix : Nat) :
    Request.Statement (.circuitSetupTimeout ix) :=
  Request.of_none rfl
theorem Request.circuitReleased (ix : Nat) :
    Request.Statement (.circuitReleased ix) :=
  Request.of_none rfl
theorem Request.circuitTableWrite (q : Req) (off : Nat) (v : Word) :
    Request.Statement (.circuitTableWrite q off v) :=
  Request.of_some rfl (fun h => Request.first h)
theorem Request.laserFailed (t : Nat) (n : Nat) :
    Request.Statement (.laserFailed t n) :=
  Request.of_none rfl
theorem Request.spareSwitched (t : Nat) (j : Nat) (ok : Bool) :
    Request.Statement (.spareSwitched t j ok) :=
  Request.of_none rfl
theorem Request.lockLoopPeriod (t : Nat) (temps : List Int) (rings : List (Nat × Int × Nat × Nat)) :
    Request.Statement (.lockLoopPeriod t temps rings) :=
  Request.of_none rfl
theorem Request.ringRelocked (ring : Nat) :
    Request.Statement (.ringRelocked ring) :=
  Request.of_none rfl
theorem Request.relockTimeout (ring : Nat) :
    Request.Statement (.relockTimeout ring) :=
  Request.of_none rfl
theorem Request.circuitNoLight (ix : Nat) :
    Request.Statement (.circuitNoLight ix) :=
  Request.of_none rfl
theorem Request.moveFlitReceive (ix : Nat) :
    Request.Statement (.moveFlitReceive ix) :=
  Request.of_none rfl
theorem Request.circuitMoveDone (ix : Nat) (w : Nat) :
    Request.Statement (.circuitMoveDone ix w) :=
  Request.of_none rfl
theorem Request.alternateHoldExpired (k : Nat) (w : Nat) :
    Request.Statement (.alternateHoldExpired k w) :=
  Request.of_none rfl
theorem Request.optCalFull (tiles : Nat) :
    Request.Statement (.optCalFull tiles) :=
  Request.of_none rfl
theorem Request.optCalDone (t : Nat) (xt : List Word) :
    Request.Statement (.optCalDone t xt) :=
  Request.of_none rfl
theorem Request.optXtWrite (q : Req) (tile : Nat) (i : Nat) (v : Word) :
    Request.Statement (.optXtWrite q tile i v) :=
  Request.of_some rfl (fun h => Request.first (Request.first h))
theorem Request.aprTrip (k : Nat) :
    Request.Statement (.aprTrip k) :=
  Request.of_none rfl
theorem Request.aprBurst (k : Nat) :
    Request.Statement (.aprBurst k) :=
  Request.of_none rfl
theorem Request.aprClear (k : Nat) :
    Request.Statement (.aprClear k) :=
  Request.of_none rfl
theorem Request.laserEnChange (t : Nat) (high : Bool) :
    Request.Statement (.laserEnChange t high) :=
  Request.of_none rfl
theorem Request.sectorFault (n : Nat) (moved : List Nat) :
    Request.Statement (.sectorFault n moved) :=
  Request.of_none rfl
theorem Request.pageRemap :
    Request.Statement (.pageRemap) :=
  Request.of_none rfl
theorem Request.remirrorDone :
    Request.Statement (.remirrorDone) :=
  Request.of_none rfl
theorem Request.scrubPass (fixed : List Nat) (bad : List (Nat × Nat)) :
    Request.Statement (.scrubPass fixed bad) :=
  Request.of_none rfl
theorem Request.cxlLinkDown (d : Nat) :
    Request.Statement (.cxlLinkDown d) :=
  Request.of_none rfl
theorem Request.contextFetch (stream : Nat) :
    Request.Statement (.contextFetch stream) :=
  Request.of_none rfl
theorem Request.contextWindowWrite (q : Req) (off : Nat) (v : Word) :
    Request.Statement (.contextWindowWrite q off v) :=
  Request.of_some rfl (fun h => Request.first h)
theorem Request.bufferGrant :
    Request.Statement (.bufferGrant) :=
  Request.of_none rfl
theorem Request.bufferHandoff (pool : Nat) (index : Nat) (old : Holder) (new : Holder) :
    Request.Statement (.bufferHandoff pool index old new) :=
  Request.of_none rfl
theorem Request.bufferFree (pool : Nat) (index : Nat) (by_ : Holder) :
    Request.Statement (.bufferFree pool index by_) :=
  Request.of_none rfl
theorem Request.nocPacketReceive (l : Nat) (arr : NocArrival) :
    Request.Statement (.nocPacketReceive l arr) :=
  Request.of_none rfl
theorem Request.nocLinkFailed (l : Nat) (pk : NocPacket) :
    Request.Statement (.nocLinkFailed l pk) :=
  Request.of_none rfl
theorem Request.keyLoad (q : Req) (slot : Nat) (gen : Nat) (reserved : Nat) (wrapped : List Byte) :
    Request.Statement (.keyLoad q slot gen reserved wrapped) :=
  Request.of_some rfl (fun h => Request.first (Request.first (Request.first (Request.first h))))
theorem Request.keyEraseGraceful (q : Req) (slot : Nat) (gen : Nat) (reserved : Nat) (wrapped : List Byte) :
    Request.Statement (.keyEraseGraceful q slot gen reserved wrapped) :=
  Request.of_some rfl (fun h => Request.first (Request.first (Request.first (Request.first h))))
theorem Request.keyEraseImmediate (q : Req) (slot : Nat) (gen : Nat) (reserved : Nat) (wrapped : List Byte) :
    Request.Statement (.keyEraseImmediate q slot gen reserved wrapped) :=
  Request.of_some rfl (fun h => Request.first (Request.first (Request.first (Request.first h))))
theorem Request.keyEraseComplete (slot : Nat) (gen : Nat) :
    Request.Statement (.keyEraseComplete slot gen) :=
  Request.of_none rfl
theorem Request.keyRetire (slot : Nat) (gen : Nat) :
    Request.Statement (.keyRetire slot gen) :=
  Request.of_none rfl
theorem Request.suspendedResume (pipeline : Nat) :
    Request.Statement (.suspendedResume pipeline) :=
  Request.of_none rfl
theorem Request.macsecFrameReceive (fr : List Byte) (fw : Bool × Nat) :
    Request.Statement (.macsecFrameReceive fr fw) :=
  Request.of_none rfl
theorem Request.gcsEncryptWrite (v : Nat) :
    Request.Statement (.gcsEncryptWrite v) :=
  Request.of_none rfl
theorem Request.portServe (p : Nat) :
    Request.Statement (.portServe p) :=
  Request.of_none rfl
theorem Request.hostFrameReceive (fr : List Byte) (fw : Bool × Nat) :
    Request.Statement (.hostFrameReceive fr fw) :=
  Request.of_none rfl
theorem Request.ptpMessageReceive (fr : List Byte) :
    Request.Statement (.ptpMessageReceive fr) :=
  Request.of_none rfl
theorem Request.timeSourceLost (n : Nat) :
    Request.Statement (.timeSourceLost n) :=
  Request.of_none rfl
theorem Request.holdoverExpired (n : Nat) :
    Request.Statement (.holdoverExpired n) :=
  Request.of_none rfl
theorem Request.tb0Revert :
    Request.Statement (.tb0Revert) :=
  Request.of_none rfl
theorem Request.timeReportSend :
    Request.Statement (.timeReportSend) :=
  Request.of_none rfl
theorem Request.timeReportReceive (port : Nat) (bs : List Byte) :
    Request.Statement (.timeReportReceive port bs) :=
  Request.of_none rfl
theorem Request.transferHoldoverExpired (r : Nat) :
    Request.Statement (.transferHoldoverExpired r) :=
  Request.of_none rfl
theorem Request.tcRelayReceive (port : Nat) (bs : List Byte) :
    Request.Statement (.tcRelayReceive port bs) :=
  Request.of_none rfl
theorem Request.ppsInEdge :
    Request.Statement (.ppsInEdge) :=
  Request.of_none rfl
theorem Request.ppsOutPulse :
    Request.Statement (.ppsOutPulse) :=
  Request.of_none rfl
theorem Request.asymWrite (r : Nat) (w : Word) :
    Request.Statement (.asymWrite r w) :=
  Request.of_none rfl
theorem Request.tbSecRead (n : Nat) :
    Request.Statement (.tbSecRead n) :=
  Request.of_none rfl
theorem Request.read (q : Req) (body : List Byte) :
    Request.Statement (.read q body) :=
  Request.of_some rfl (fun h => Request.first h)
theorem Request.write (q : Req) (body : List Byte) :
    Request.Statement (.write q body) :=
  Request.of_some rfl (fun h => Request.first h)
theorem Request.txnBegin (q : Req) :
    Request.Statement (.txnBegin q) :=
  Request.of_some rfl id
theorem Request.txnCommit (q : Req) (body : List Byte) :
    Request.Statement (.txnCommit q body) :=
  Request.of_some rfl (fun h => Request.first h)
theorem Request.snapshotOpen (q : Req) :
    Request.Statement (.snapshotOpen q) :=
  Request.of_some rfl id
theorem Request.snapshotClose (q : Req) :
    Request.Statement (.snapshotClose q) :=
  Request.of_some rfl id
theorem Request.txnExpired (id : Nat) :
    Request.Statement (.txnExpired id) :=
  Request.of_none rfl
theorem Request.snapshotExpired (memberFull : Bool) :
    Request.Statement (.snapshotExpired memberFull) :=
  Request.of_none rfl
theorem Request.hostAddressApply :
    Request.Statement (.hostAddressApply) :=
  Request.of_none rfl
theorem Request.loadStructureImage (q : Req) (body : List Byte) :
    Request.Statement (.loadStructureImage q body) :=
  Request.of_some rfl (fun h => Request.first h)
theorem Request.loadSectorPatch (q : Req) (body : List Byte) :
    Request.Statement (.loadSectorPatch q body) :=
  Request.of_some rfl (fun h => Request.first h)
theorem Request.loadFirmwareCopy (q : Req) (body : List Byte) (sigOk : Bool) (version : Nat) :
    Request.Statement (.loadFirmwareCopy q body sigOk version) :=
  Request.of_some rfl (fun h => Request.first (Request.first h))
theorem Request.hostBulkWrite (q : Req) (body : List Byte) :
    Request.Statement (.hostBulkWrite q body) :=
  Request.of_some rfl (fun h => Request.first h)
theorem Request.hostBulkRead (q : Req) (body : List Byte) :
    Request.Statement (.hostBulkRead q body) :=
  Request.of_some rfl (fun h => Request.first h)
theorem Request.loadVerify (sigOk : Bool) (body : ImageBody) (cxl : List Nat) (rejected : Bool) (others : List (Nat × Status × List FitEntry)) (part : Option Image) :
    Request.Statement (.loadVerify sigOk body cxl rejected others part) :=
  Request.of_none rfl
theorem Request.abortItem (q : Req) (value : Nat) :
    Request.Statement (.abortItem q value) :=
  Request.of_some rfl (fun h => Request.first h)
theorem Request.abortTrack (q : Req) (value : Nat) :
    Request.Statement (.abortTrack q value) :=
  Request.of_some rfl (fun h => Request.first h)
theorem Request.abortCollective (q : Req) (value : Nat) :
    Request.Statement (.abortCollective q value) :=
  Request.of_some rfl (fun h => Request.first h)
theorem Request.abortTransaction (q : Req) (value : Nat) :
    Request.Statement (.abortTransaction q value) :=
  Request.of_some rfl (fun h => Request.first h)
theorem Request.abortLoad (q : Req) (value : Nat) :
    Request.Statement (.abortLoad q value) :=
  Request.of_some rfl (fun h => Request.first h)
theorem Request.eventAck (q : Req) (channel : Nat) (seq : Nat) :
    Request.Statement (.eventAck q channel seq) :=
  Request.of_some rfl (fun h => Request.first (Request.first h))
theorem Request.eventAssert (src : Nat) :
    Request.Statement (.eventAssert src) :=
  Request.of_none rfl
theorem Request.eventDeliver (t : Nat) (origin : Nat) :
    Request.Statement (.eventDeliver t origin) :=
  Request.of_none rfl
theorem Request.eventResend (c : Nat) :
    Request.Statement (.eventResend c) :=
  Request.of_none rfl
theorem Request.mpEventHandled (t : Nat) (src : Nat) :
    Request.Statement (.mpEventHandled t src) :=
  Request.of_none rfl
theorem Request.pinChange (i : Nat) (high : Bool) :
    Request.Statement (.pinChange i high) :=
  Request.of_none rfl
theorem Request.cstLinkTrained (k : Nat) (cid : Nat) (pos : Nat) (link : Nat) :
    Request.Statement (.cstLinkTrained k cid pos link) :=
  Request.of_none rfl
theorem Request.cstLinkDown (fall : CstFall) :
    Request.Statement (.cstLinkDown fall) :=
  Request.of_none rfl
theorem Request.linkStateReceive (k : Nat) (m : Nat) (ns : List Nat) :
    Request.Statement (.linkStateReceive k m ns) :=
  Request.of_none rfl
theorem Request.routesInstalled :
    Request.Statement (.routesInstalled) :=
  Request.of_none rfl
theorem Request.forwardedRequestReceive (id : Nat) (type : Nat) (flags : Nat) (txn : Nat) (body : List Byte) (again : Bool) (fw : Bool × Nat) :
    Request.Statement (.forwardedRequestReceive id type flags txn body again fw) :=
  Request.of_none rfl
theorem Request.forwardResponseReceive (id : Nat) (pl : List Byte) :
    Request.Statement (.forwardResponseReceive id pl) :=
  Request.of_none rfl
theorem Request.cstPrepareReceive (txn : Nat) (check : Bool) :
    Request.Statement (.cstPrepareReceive txn check) :=
  Request.of_none rfl
theorem Request.cstPrepareReplyReceive (txn : Nat) (pos : Nat) (code : Nat) :
    Request.Statement (.cstPrepareReplyReceive txn pos code) :=
  Request.of_none rfl
theorem Request.cstApplyReceive (txn : Nat) (v : Nat) (discard : Bool) :
    Request.Statement (.cstApplyReceive txn v discard) :=
  Request.of_none rfl
theorem Request.cstApplyAckReceive (txn : Nat) (pos : Nat) (held : Bool) :
    Request.Statement (.cstApplyAckReceive txn pos held) :=
  Request.of_none rfl
theorem Request.constellationMeridian (step : Nat) :
    Request.Statement (.constellationMeridian step) :=
  Request.of_none rfl
theorem Request.cstEventRecordReceive (pos : Nat) (bs : List Byte) :
    Request.Statement (.cstEventRecordReceive pos bs) :=
  Request.of_none rfl
theorem Request.cstTokenPostReceive (i : Nat) (swaps : Nat) :
    Request.Statement (.cstTokenPostReceive i swaps) :=
  Request.of_none rfl
theorem Request.cstMeridianReportReceive (step : Nat) (pos : Nat) :
    Request.Statement (.cstMeridianReportReceive step pos) :=
  Request.of_none rfl
theorem Request.cstMeridianReceive (step : Nat) (view : Nat) :
    Request.Statement (.cstMeridianReceive step view) :=
  Request.of_none rfl
theorem Request.cstMemberLost (pos : Nat) :
    Request.Statement (.cstMemberLost pos) :=
  Request.of_none rfl
theorem Request.poleLost :
    Request.Statement (.poleLost) :=
  Request.of_none rfl
theorem Request.promote (highest : Nat) :
    Request.Statement (.promote highest) :=
  Request.of_none rfl
theorem Request.activate :
    Request.Statement (.activate) :=
  Request.of_none rfl
theorem Request.discard :
    Request.Statement (.discard) :=
  Request.of_none rfl
theorem Request.imageActivation (cxl : List Nat) (rejected : Bool) :
    Request.Statement (.imageActivation cxl rejected) :=
  Request.of_none rfl
theorem Request.disable (u : Nat) (d : Nat) :
    Request.Statement (.disable u d) :=
  Request.of_none rfl
theorem Request.enable (u : Nat) :
    Request.Statement (.enable u) :=
  Request.of_none rfl
theorem Request.twilightDeadline (u : Nat) (moved : List Nat) :
    Request.Statement (.twilightDeadline u moved) :=
  Request.of_none rfl
theorem Request.unitDark (u : Nat) :
    Request.Statement (.unitDark u) :=
  Request.of_none rfl
theorem Request.restart :
    Request.Statement (.restart) :=
  Request.of_none rfl
theorem Request.mpDrainLimit (left : List Nat) :
    Request.Statement (.mpDrainLimit left) :=
  Request.of_none rfl
theorem Request.mpReady (m : Nat) :
    Request.Statement (.mpReady m) :=
  Request.of_none rfl
theorem Request.mpReadyTimeout :
    Request.Statement (.mpReadyTimeout) :=
  Request.of_none rfl
theorem Request.porstNAssert :
    Request.Statement (.porstNAssert) :=
  Request.of_none rfl
theorem Request.porstNRelease (sel : Nat) (ready : Bool) :
    Request.Statement (.porstNRelease sel ready) :=
  Request.of_none rfl
theorem Request.sysrstN :
    Request.Statement (.sysrstN) :=
  Request.of_none rfl
theorem Request.railsReady :
    Request.Statement (.railsReady) :=
  Request.of_none rfl
theorem Request.bootStageEnd (ok : Bool) (other : Bool) (ddr : List Nat) :
    Request.Statement (.bootStageEnd ok other ddr) :=
  Request.of_none rfl
theorem Request.claim :
    Request.Statement (.claim) :=
  Request.of_none rfl
theorem Request.addKey (sigOk : Bool) :
    Request.Statement (.addKey sigOk) :=
  Request.of_none rfl
theorem Request.revokeKey (sigOk : Bool) :
    Request.Statement (.revokeKey sigOk) :=
  Request.of_none rfl
theorem Request.release (sigOk : Bool) :
    Request.Statement (.release sigOk) :=
  Request.of_none rfl
theorem Request.quote :
    Request.Statement (.quote) :=
  Request.of_none rfl
theorem Request.quoteDone (sig : List Byte) :
    Request.Statement (.quoteDone sig) :=
  Request.of_none rfl
theorem Request.raise :
    Request.Statement (.raise) :=
  Request.of_none rfl
theorem Request.persist :
    Request.Statement (.persist) :=
  Request.of_none rfl
theorem Request.persistDone :
    Request.Statement (.persistDone) :=
  Request.of_none rfl
theorem Request.idTreeBuilt :
    Request.Statement (.idTreeBuilt) :=
  Request.of_none rfl
theorem Request.bistStart (n : Nat) :
    Request.Statement (.bistStart n) :=
  Request.of_none rfl
theorem Request.bistEnd (n : Nat) (misr : Word) (boot : Word) (sramFail : Bool) (hbmFail : Bool) :
    Request.Statement (.bistEnd n misr boot sramFail hbmFail) :=
  Request.of_none rfl
theorem Request.bistPeriod :
    Request.Statement (.bistPeriod) :=
  Request.of_none rfl
theorem Request.runNow :
    Request.Statement (.runNow) :=
  Request.of_none rfl
theorem Request.unretire (n : Nat) :
    Request.Statement (.unretire n) :=
  Request.of_none rfl
theorem Request.vinChange (mv : Nat) :
    Request.Statement (.vinChange mv) :=
  Request.of_none rfl
theorem Request.powerOff :
    Request.Statement (.powerOff) :=
  Request.of_none rfl
theorem Request.currentSample (ma : Nat) :
    Request.Statement (.currentSample ma) :=
  Request.of_none rfl
theorem Request.capLift :
    Request.Statement (.capLift) :=
  Request.of_none rfl
theorem Request.thermalReport (d : Nat) (temp : Nat) :
    Request.Statement (.thermalReport d temp) :=
  Request.of_none rfl
theorem Request.refclkLost :
    Request.Statement (.refclkLost) :=
  Request.of_none rfl
theorem Request.refclkFreeRun :
    Request.Statement (.refclkFreeRun) :=
  Request.of_none rfl
theorem Request.refclkReturn :
    Request.Statement (.refclkReturn) :=
  Request.of_none rfl
theorem Request.pllUnlock (p : Nat) :
    Request.Statement (.pllUnlock p) :=
  Request.of_none rfl
theorem Request.pllRelocked :
    Request.Statement (.pllRelocked) :=
  Request.of_none rfl
theorem Request.softReset :
    Request.Statement (.softReset) :=
  Request.of_none rfl
theorem Request.ttiRxAccept (p : Nat) (tti : List Byte) :
    Request.Statement (.ttiRxAccept p tti) :=
  Request.of_none rfl
theorem Request.hostLinkChange (up : Bool) (lanes : Nat) :
    Request.Statement (.hostLinkChange up lanes) :=
  Request.of_none rfl
theorem Request.fabricDelivery (wave : Nat) (flit : Nat) :
    Request.Statement (.fabricDelivery wave flit) :=
  Request.of_none rfl

end Sys2Proof.Laws
end

