-- ==== Sys2Proof/Laws/State.lean ====
section
/-! SUPPORT. What each update of the state leaves as it is, field by field. -/

-- One theorem at a time: elaborated side by side, the theorems of the package take a thread each while they wait.
set_option Elab.async false

namespace Sys2Proof.Machine

variable (s : State)


@[simp] theorem State.pending_setWord (a : Nat) (v : Word) : (s.setWord a v).pending = s.pending := by unfold State.setWord; rfl
@[simp] theorem State.now_setWord (a : Nat) (v : Word) : (s.setWord a v).now = s.now := by unfold State.setWord; rfl
@[simp] theorem State.free_setWord (a : Nat) (v : Word) : (s.setWord a v).free = s.free := by unfold State.setWord; rfl
@[simp] theorem State.out_setWord (a : Nat) (v : Word) : (s.setWord a v).out = s.out := by unfold State.setWord; rfl
@[simp] theorem State.conf_setWord (a : Nat) (v : Word) : (s.setWord a v).conf = s.conf := by unfold State.setWord; rfl
@[simp] theorem State.seq_setWord (a : Nat) (v : Word) : (s.setWord a v).seq = s.seq := by unfold State.setWord; rfl
@[simp] theorem State.arr_setWord (a : Nat) (v : Word) : (s.setWord a v).arr = s.arr := by unfold State.setWord; rfl
@[simp] theorem State.ppe_setWord (a : Nat) (v : Word) : (s.setWord a v).ppe = s.ppe := by unfold State.setWord; rfl
@[simp] theorem State.cmp_setWord (a : Nat) (v : Word) : (s.setWord a v).cmp = s.cmp := by unfold State.setWord; rfl
@[simp] theorem State.col_setWord (a : Nat) (v : Word) : (s.setWord a v).col = s.col := by unfold State.setWord; rfl
@[simp] theorem State.mem_setWord (a : Nat) (v : Word) : (s.setWord a v).mem = s.mem := by unfold State.setWord; rfl
@[simp] theorem State.bpm_setWord (a : Nat) (v : Word) : (s.setWord a v).bpm = s.bpm := by unfold State.setWord; rfl
@[simp] theorem State.ciph_setWord (a : Nat) (v : Word) : (s.setWord a v).ciph = s.ciph := by unfold State.setWord; rfl
@[simp] theorem State.sch_setWord (a : Nat) (v : Word) : (s.setWord a v).sch = s.sch := by unfold State.setWord; rfl
@[simp] theorem State.peer_setWord (a : Nat) (v : Word) : (s.setWord a v).peer = s.peer := by unfold State.setWord; rfl
@[simp] theorem State.evt_setWord (a : Nat) (v : Word) : (s.setWord a v).evt = s.evt := by unfold State.setWord; rfl
@[simp] theorem State.bist_setWord (a : Nat) (v : Word) : (s.setWord a v).bist = s.bist := by unfold State.setWord; rfl
@[simp] theorem State.line_setWord (a : Nat) (v : Word) : (s.setWord a v).line = s.line := by unfold State.setWord; rfl
@[simp] theorem State.fab_setWord (a : Nat) (v : Word) : (s.setWord a v).fab = s.fab := by unfold State.setWord; rfl
@[simp] theorem State.opt_setWord (a : Nat) (v : Word) : (s.setWord a v).opt = s.opt := by unfold State.setWord; rfl
@[simp] theorem State.time_setWord (a : Nat) (v : Word) : (s.setWord a v).time = s.time := by unfold State.setWord; rfl
@[simp] theorem State.cst_setWord (a : Nat) (v : Word) : (s.setWord a v).cst = s.cst := by unfold State.setWord; rfl
@[simp] theorem State.host_setWord (a : Nat) (v : Word) : (s.setWord a v).host = s.host := by unfold State.setWord; rfl
@[simp] theorem State.img_setWord (a : Nat) (v : Word) : (s.setWord a v).img = s.img := by unfold State.setWord; rfl
@[simp] theorem State.sec_setWord (a : Nat) (v : Word) : (s.setWord a v).sec = s.sec := by unfold State.setWord; rfl
@[simp] theorem State.pwr_setWord (a : Nat) (v : Word) : (s.setWord a v).pwr = s.pwr := by unfold State.setWord; rfl

@[simp] theorem State.pending_setf (x : Fld) (v k : Nat) : (s.setf x v k).pending = s.pending := by unfold State.setf; rfl
@[simp] theorem State.now_setf (x : Fld) (v k : Nat) : (s.setf x v k).now = s.now := by unfold State.setf; rfl
@[simp] theorem State.free_setf (x : Fld) (v k : Nat) : (s.setf x v k).free = s.free := by unfold State.setf; rfl
@[simp] theorem State.out_setf (x : Fld) (v k : Nat) : (s.setf x v k).out = s.out := by unfold State.setf; rfl
@[simp] theorem State.conf_setf (x : Fld) (v k : Nat) : (s.setf x v k).conf = s.conf := by unfold State.setf; rfl
@[simp] theorem State.seq_setf (x : Fld) (v k : Nat) : (s.setf x v k).seq = s.seq := by unfold State.setf; rfl
@[simp] theorem State.arr_setf (x : Fld) (v k : Nat) : (s.setf x v k).arr = s.arr := by unfold State.setf; rfl
@[simp] theorem State.ppe_setf (x : Fld) (v k : Nat) : (s.setf x v k).ppe = s.ppe := by unfold State.setf; rfl
@[simp] theorem State.cmp_setf (x : Fld) (v k : Nat) : (s.setf x v k).cmp = s.cmp := by unfold State.setf; rfl
@[simp] theorem State.col_setf (x : Fld) (v k : Nat) : (s.setf x v k).col = s.col := by unfold State.setf; rfl
@[simp] theorem State.mem_setf (x : Fld) (v k : Nat) : (s.setf x v k).mem = s.mem := by unfold State.setf; rfl
@[simp] theorem State.bpm_setf (x : Fld) (v k : Nat) : (s.setf x v k).bpm = s.bpm := by unfold State.setf; rfl
@[simp] theorem State.ciph_setf (x : Fld) (v k : Nat) : (s.setf x v k).ciph = s.ciph := by unfold State.setf; rfl
@[simp] theorem State.sch_setf (x : Fld) (v k : Nat) : (s.setf x v k).sch = s.sch := by unfold State.setf; rfl
@[simp] theorem State.peer_setf (x : Fld) (v k : Nat) : (s.setf x v k).peer = s.peer := by unfold State.setf; rfl
@[simp] theorem State.evt_setf (x : Fld) (v k : Nat) : (s.setf x v k).evt = s.evt := by unfold State.setf; rfl
@[simp] theorem State.bist_setf (x : Fld) (v k : Nat) : (s.setf x v k).bist = s.bist := by unfold State.setf; rfl
@[simp] theorem State.line_setf (x : Fld) (v k : Nat) : (s.setf x v k).line = s.line := by unfold State.setf; rfl
@[simp] theorem State.fab_setf (x : Fld) (v k : Nat) : (s.setf x v k).fab = s.fab := by unfold State.setf; rfl
@[simp] theorem State.opt_setf (x : Fld) (v k : Nat) : (s.setf x v k).opt = s.opt := by unfold State.setf; rfl
@[simp] theorem State.time_setf (x : Fld) (v k : Nat) : (s.setf x v k).time = s.time := by unfold State.setf; rfl
@[simp] theorem State.cst_setf (x : Fld) (v k : Nat) : (s.setf x v k).cst = s.cst := by unfold State.setf; rfl
@[simp] theorem State.host_setf (x : Fld) (v k : Nat) : (s.setf x v k).host = s.host := by unfold State.setf; rfl
@[simp] theorem State.img_setf (x : Fld) (v k : Nat) : (s.setf x v k).img = s.img := by unfold State.setf; rfl
@[simp] theorem State.sec_setf (x : Fld) (v k : Nat) : (s.setf x v k).sec = s.sec := by unfold State.setf; rfl
@[simp] theorem State.pwr_setf (x : Fld) (v k : Nat) : (s.setf x v k).pwr = s.pwr := by unfold State.setf; rfl

@[simp] theorem State.pending_emit (e : Emit) : (s.emit e).pending = s.pending := by unfold State.emit; rfl
@[simp] theorem State.now_emit (e : Emit) : (s.emit e).now = s.now := by unfold State.emit; rfl
@[simp] theorem State.free_emit (e : Emit) : (s.emit e).free = s.free := by unfold State.emit; rfl
@[simp] theorem State.regs_emit (e : Emit) : (s.emit e).regs = s.regs := by unfold State.emit; rfl
@[simp] theorem State.conf_emit (e : Emit) : (s.emit e).conf = s.conf := by unfold State.emit; rfl
@[simp] theorem State.seq_emit (e : Emit) : (s.emit e).seq = s.seq := by unfold State.emit; rfl
@[simp] theorem State.arr_emit (e : Emit) : (s.emit e).arr = s.arr := by unfold State.emit; rfl
@[simp] theorem State.ppe_emit (e : Emit) : (s.emit e).ppe = s.ppe := by unfold State.emit; rfl
@[simp] theorem State.cmp_emit (e : Emit) : (s.emit e).cmp = s.cmp := by unfold State.emit; rfl
@[simp] theorem State.col_emit (e : Emit) : (s.emit e).col = s.col := by unfold State.emit; rfl
@[simp] theorem State.mem_emit (e : Emit) : (s.emit e).mem = s.mem := by unfold State.emit; rfl
@[simp] theorem State.bpm_emit (e : Emit) : (s.emit e).bpm = s.bpm := by unfold State.emit; rfl
@[simp] theorem State.ciph_emit (e : Emit) : (s.emit e).ciph = s.ciph := by unfold State.emit; rfl
@[simp] theorem State.sch_emit (e : Emit) : (s.emit e).sch = s.sch := by unfold State.emit; rfl
@[simp] theorem State.peer_emit (e : Emit) : (s.emit e).peer = s.peer := by unfold State.emit; rfl
@[simp] theorem State.evt_emit (e : Emit) : (s.emit e).evt = s.evt := by unfold State.emit; rfl
@[simp] theorem State.bist_emit (e : Emit) : (s.emit e).bist = s.bist := by unfold State.emit; rfl
@[simp] theorem State.line_emit (e : Emit) : (s.emit e).line = s.line := by unfold State.emit; rfl
@[simp] theorem State.fab_emit (e : Emit) : (s.emit e).fab = s.fab := by unfold State.emit; rfl
@[simp] theorem State.opt_emit (e : Emit) : (s.emit e).opt = s.opt := by unfold State.emit; rfl
@[simp] theorem State.time_emit (e : Emit) : (s.emit e).time = s.time := by unfold State.emit; rfl
@[simp] theorem State.cst_emit (e : Emit) : (s.emit e).cst = s.cst := by unfold State.emit; rfl
@[simp] theorem State.host_emit (e : Emit) : (s.emit e).host = s.host := by unfold State.emit; rfl
@[simp] theorem State.img_emit (e : Emit) : (s.emit e).img = s.img := by unfold State.emit; rfl
@[simp] theorem State.sec_emit (e : Emit) : (s.emit e).sec = s.sec := by unfold State.emit; rfl
@[simp] theorem State.pwr_emit (e : Emit) : (s.emit e).pwr = s.pwr := by unfold State.emit; rfl

@[simp] theorem State.pending_fresh : s.fresh.2.pending = s.pending := by unfold State.fresh; rfl
@[simp] theorem State.now_fresh : s.fresh.2.now = s.now := by unfold State.fresh; rfl
@[simp] theorem State.out_fresh : s.fresh.2.out = s.out := by unfold State.fresh; rfl
@[simp] theorem State.regs_fresh : s.fresh.2.regs = s.regs := by unfold State.fresh; rfl
@[simp] theorem State.conf_fresh : s.fresh.2.conf = s.conf := by unfold State.fresh; rfl
@[simp] theorem State.seq_fresh : s.fresh.2.seq = s.seq := by unfold State.fresh; rfl
@[simp] theorem State.arr_fresh : s.fresh.2.arr = s.arr := by unfold State.fresh; rfl
@[simp] theorem State.ppe_fresh : s.fresh.2.ppe = s.ppe := by unfold State.fresh; rfl
@[simp] theorem State.cmp_fresh : s.fresh.2.cmp = s.cmp := by unfold State.fresh; rfl
@[simp] theorem State.col_fresh : s.fresh.2.col = s.col := by unfold State.fresh; rfl
@[simp] theorem State.mem_fresh : s.fresh.2.mem = s.mem := by unfold State.fresh; rfl
@[simp] theorem State.bpm_fresh : s.fresh.2.bpm = s.bpm := by unfold State.fresh; rfl
@[simp] theorem State.ciph_fresh : s.fresh.2.ciph = s.ciph := by unfold State.fresh; rfl
@[simp] theorem State.sch_fresh : s.fresh.2.sch = s.sch := by unfold State.fresh; rfl
@[simp] theorem State.peer_fresh : s.fresh.2.peer = s.peer := by unfold State.fresh; rfl
@[simp] theorem State.evt_fresh : s.fresh.2.evt = s.evt := by unfold State.fresh; rfl
@[simp] theorem State.bist_fresh : s.fresh.2.bist = s.bist := by unfold State.fresh; rfl
@[simp] theorem State.line_fresh : s.fresh.2.line = s.line := by unfold State.fresh; rfl
@[simp] theorem State.fab_fresh : s.fresh.2.fab = s.fab := by unfold State.fresh; rfl
@[simp] theorem State.opt_fresh : s.fresh.2.opt = s.opt := by unfold State.fresh; rfl
@[simp] theorem State.time_fresh : s.fresh.2.time = s.time := by unfold State.fresh; rfl
@[simp] theorem State.cst_fresh : s.fresh.2.cst = s.cst := by unfold State.fresh; rfl
@[simp] theorem State.host_fresh : s.fresh.2.host = s.host := by unfold State.fresh; rfl
@[simp] theorem State.img_fresh : s.fresh.2.img = s.img := by unfold State.fresh; rfl
@[simp] theorem State.sec_fresh : s.fresh.2.sec = s.sec := by unfold State.fresh; rfl
@[simp] theorem State.pwr_fresh : s.fresh.2.pwr = s.pwr := by unfold State.fresh; rfl

@[simp] theorem State.pending_wrBytes (tier addr : Nat) (bs : List Byte) : (s.wrBytes tier addr bs).pending = s.pending := by unfold State.wrBytes; rfl
@[simp] theorem State.now_wrBytes (tier addr : Nat) (bs : List Byte) : (s.wrBytes tier addr bs).now = s.now := by unfold State.wrBytes; rfl
@[simp] theorem State.free_wrBytes (tier addr : Nat) (bs : List Byte) : (s.wrBytes tier addr bs).free = s.free := by unfold State.wrBytes; rfl
@[simp] theorem State.out_wrBytes (tier addr : Nat) (bs : List Byte) : (s.wrBytes tier addr bs).out = s.out := by unfold State.wrBytes; rfl
@[simp] theorem State.regs_wrBytes (tier addr : Nat) (bs : List Byte) : (s.wrBytes tier addr bs).regs = s.regs := by unfold State.wrBytes; rfl
@[simp] theorem State.conf_wrBytes (tier addr : Nat) (bs : List Byte) : (s.wrBytes tier addr bs).conf = s.conf := by unfold State.wrBytes; rfl
@[simp] theorem State.seq_wrBytes (tier addr : Nat) (bs : List Byte) : (s.wrBytes tier addr bs).seq = s.seq := by unfold State.wrBytes; rfl
@[simp] theorem State.arr_wrBytes (tier addr : Nat) (bs : List Byte) : (s.wrBytes tier addr bs).arr = s.arr := by unfold State.wrBytes; rfl
@[simp] theorem State.ppe_wrBytes (tier addr : Nat) (bs : List Byte) : (s.wrBytes tier addr bs).ppe = s.ppe := by unfold State.wrBytes; rfl
@[simp] theorem State.cmp_wrBytes (tier addr : Nat) (bs : List Byte) : (s.wrBytes tier addr bs).cmp = s.cmp := by unfold State.wrBytes; rfl
@[simp] theorem State.col_wrBytes (tier addr : Nat) (bs : List Byte) : (s.wrBytes tier addr bs).col = s.col := by unfold State.wrBytes; rfl
@[simp] theorem State.bpm_wrBytes (tier addr : Nat) (bs : List Byte) : (s.wrBytes tier addr bs).bpm = s.bpm := by unfold State.wrBytes; rfl
@[simp] theorem State.ciph_wrBytes (tier addr : Nat) (bs : List Byte) : (s.wrBytes tier addr bs).ciph = s.ciph := by unfold State.wrBytes; rfl
@[simp] theorem State.sch_wrBytes (tier addr : Nat) (bs : List Byte) : (s.wrBytes tier addr bs).sch = s.sch := by unfold State.wrBytes; rfl
@[simp] theorem State.peer_wrBytes (tier addr : Nat) (bs : List Byte) : (s.wrBytes tier addr bs).peer = s.peer := by unfold State.wrBytes; rfl
@[simp] theorem State.evt_wrBytes (tier addr : Nat) (bs : List Byte) : (s.wrBytes tier addr bs).evt = s.evt := by unfold State.wrBytes; rfl
@[simp] theorem State.bist_wrBytes (tier addr : Nat) (bs : List Byte) : (s.wrBytes tier addr bs).bist = s.bist := by unfold State.wrBytes; rfl
@[simp] theorem State.line_wrBytes (tier addr : Nat) (bs : List Byte) : (s.wrBytes tier addr bs).line = s.line := by unfold State.wrBytes; rfl
@[simp] theorem State.fab_wrBytes (tier addr : Nat) (bs : List Byte) : (s.wrBytes tier addr bs).fab = s.fab := by unfold State.wrBytes; rfl
@[simp] theorem State.opt_wrBytes (tier addr : Nat) (bs : List Byte) : (s.wrBytes tier addr bs).opt = s.opt := by unfold State.wrBytes; rfl
@[simp] theorem State.time_wrBytes (tier addr : Nat) (bs : List Byte) : (s.wrBytes tier addr bs).time = s.time := by unfold State.wrBytes; rfl
@[simp] theorem State.cst_wrBytes (tier addr : Nat) (bs : List Byte) : (s.wrBytes tier addr bs).cst = s.cst := by unfold State.wrBytes; rfl
@[simp] theorem State.host_wrBytes (tier addr : Nat) (bs : List Byte) : (s.wrBytes tier addr bs).host = s.host := by unfold State.wrBytes; rfl
@[simp] theorem State.img_wrBytes (tier addr : Nat) (bs : List Byte) : (s.wrBytes tier addr bs).img = s.img := by unfold State.wrBytes; rfl
@[simp] theorem State.sec_wrBytes (tier addr : Nat) (bs : List Byte) : (s.wrBytes tier addr bs).sec = s.sec := by unfold State.wrBytes; rfl
@[simp] theorem State.pwr_wrBytes (tier addr : Nat) (bs : List Byte) : (s.wrBytes tier addr bs).pwr = s.pwr := by unfold State.wrBytes; rfl

@[simp] theorem State.pending_tick : s.tick.pending = s.pending := by unfold State.tick; rfl
@[simp] theorem State.free_tick : s.tick.free = s.free := by unfold State.tick; rfl
@[simp] theorem State.out_tick : s.tick.out = s.out := by unfold State.tick; rfl
@[simp] theorem State.regs_tick : s.tick.regs = s.regs := by unfold State.tick; rfl
@[simp] theorem State.conf_tick : s.tick.conf = s.conf := by unfold State.tick; rfl
@[simp] theorem State.seq_tick : s.tick.seq = s.seq := by unfold State.tick; rfl
@[simp] theorem State.arr_tick : s.tick.arr = s.arr := by unfold State.tick; rfl
@[simp] theorem State.ppe_tick : s.tick.ppe = s.ppe := by unfold State.tick; rfl
@[simp] theorem State.cmp_tick : s.tick.cmp = s.cmp := by unfold State.tick; rfl
@[simp] theorem State.col_tick : s.tick.col = s.col := by unfold State.tick; rfl
@[simp] theorem State.mem_tick : s.tick.mem = s.mem := by unfold State.tick; rfl
@[simp] theorem State.bpm_tick : s.tick.bpm = s.bpm := by unfold State.tick; rfl
@[simp] theorem State.ciph_tick : s.tick.ciph = s.ciph := by unfold State.tick; rfl
@[simp] theorem State.sch_tick : s.tick.sch = s.sch := by unfold State.tick; rfl
@[simp] theorem State.peer_tick : s.tick.peer = s.peer := by unfold State.tick; rfl
@[simp] theorem State.evt_tick : s.tick.evt = s.evt := by unfold State.tick; rfl
@[simp] theorem State.bist_tick : s.tick.bist = s.bist := by unfold State.tick; rfl
@[simp] theorem State.line_tick : s.tick.line = s.line := by unfold State.tick; rfl
@[simp] theorem State.fab_tick : s.tick.fab = s.fab := by unfold State.tick; rfl
@[simp] theorem State.opt_tick : s.tick.opt = s.opt := by unfold State.tick; rfl
@[simp] theorem State.time_tick : s.tick.time = s.time := by unfold State.tick; rfl
@[simp] theorem State.cst_tick : s.tick.cst = s.cst := by unfold State.tick; rfl
@[simp] theorem State.host_tick : s.tick.host = s.host := by unfold State.tick; rfl
@[simp] theorem State.img_tick : s.tick.img = s.img := by unfold State.tick; rfl
@[simp] theorem State.sec_tick : s.tick.sec = s.sec := by unfold State.tick; rfl
@[simp] theorem State.pwr_tick : s.tick.pwr = s.pwr := by unfold State.tick; rfl

@[simp] theorem State.pending_setGens (k : Nat) (g : List KeyGen) : (s.setGens k g).pending = s.pending := by unfold State.setGens; rfl
@[simp] theorem State.now_setGens (k : Nat) (g : List KeyGen) : (s.setGens k g).now = s.now := by unfold State.setGens; rfl
@[simp] theorem State.free_setGens (k : Nat) (g : List KeyGen) : (s.setGens k g).free = s.free := by unfold State.setGens; rfl
@[simp] theorem State.out_setGens (k : Nat) (g : List KeyGen) : (s.setGens k g).out = s.out := by unfold State.setGens; rfl
@[simp] theorem State.regs_setGens (k : Nat) (g : List KeyGen) : (s.setGens k g).regs = s.regs := by unfold State.setGens; rfl
@[simp] theorem State.conf_setGens (k : Nat) (g : List KeyGen) : (s.setGens k g).conf = s.conf := by unfold State.setGens; rfl
@[simp] theorem State.seq_setGens (k : Nat) (g : List KeyGen) : (s.setGens k g).seq = s.seq := by unfold State.setGens; rfl
@[simp] theorem State.arr_setGens (k : Nat) (g : List KeyGen) : (s.setGens k g).arr = s.arr := by unfold State.setGens; rfl
@[simp] theorem State.ppe_setGens (k : Nat) (g : List KeyGen) : (s.setGens k g).ppe = s.ppe := by unfold State.setGens; rfl
@[simp] theorem State.cmp_setGens (k : Nat) (g : List KeyGen) : (s.setGens k g).cmp = s.cmp := by unfold State.setGens; rfl
@[simp] theorem State.col_setGens (k : Nat) (g : List KeyGen) : (s.setGens k g).col = s.col := by unfold State.setGens; rfl
@[simp] theorem State.mem_setGens (k : Nat) (g : List KeyGen) : (s.setGens k g).mem = s.mem := by unfold State.setGens; rfl
@[simp] theorem State.bpm_setGens (k : Nat) (g : List KeyGen) : (s.setGens k g).bpm = s.bpm := by unfold State.setGens; rfl
@[simp] theorem State.sch_setGens (k : Nat) (g : List KeyGen) : (s.setGens k g).sch = s.sch := by unfold State.setGens; rfl
@[simp] theorem State.peer_setGens (k : Nat) (g : List KeyGen) : (s.setGens k g).peer = s.peer := by unfold State.setGens; rfl
@[simp] theorem State.evt_setGens (k : Nat) (g : List KeyGen) : (s.setGens k g).evt = s.evt := by unfold State.setGens; rfl
@[simp] theorem State.bist_setGens (k : Nat) (g : List KeyGen) : (s.setGens k g).bist = s.bist := by unfold State.setGens; rfl
@[simp] theorem State.line_setGens (k : Nat) (g : List KeyGen) : (s.setGens k g).line = s.line := by unfold State.setGens; rfl
@[simp] theorem State.fab_setGens (k : Nat) (g : List KeyGen) : (s.setGens k g).fab = s.fab := by unfold State.setGens; rfl
@[simp] theorem State.opt_setGens (k : Nat) (g : List KeyGen) : (s.setGens k g).opt = s.opt := by unfold State.setGens; rfl
@[simp] theorem State.time_setGens (k : Nat) (g : List KeyGen) : (s.setGens k g).time = s.time := by unfold State.setGens; rfl
@[simp] theorem State.cst_setGens (k : Nat) (g : List KeyGen) : (s.setGens k g).cst = s.cst := by unfold State.setGens; rfl
@[simp] theorem State.host_setGens (k : Nat) (g : List KeyGen) : (s.setGens k g).host = s.host := by unfold State.setGens; rfl
@[simp] theorem State.img_setGens (k : Nat) (g : List KeyGen) : (s.setGens k g).img = s.img := by unfold State.setGens; rfl
@[simp] theorem State.sec_setGens (k : Nat) (g : List KeyGen) : (s.setGens k g).sec = s.sec := by unfold State.setGens; rfl
@[simp] theorem State.pwr_setGens (k : Nat) (g : List KeyGen) : (s.setGens k g).pwr = s.pwr := by unfold State.setGens; rfl

@[simp] theorem State.pending_ask (q : Req) : (s.ask q).pending = s.pending := by unfold State.ask; rfl
@[simp] theorem State.now_ask (q : Req) : (s.ask q).now = s.now := by unfold State.ask; rfl
@[simp] theorem State.free_ask (q : Req) : (s.ask q).free = s.free := by unfold State.ask; rfl
@[simp] theorem State.out_ask (q : Req) : (s.ask q).out = s.out := by unfold State.ask; rfl
@[simp] theorem State.regs_ask (q : Req) : (s.ask q).regs = s.regs := by unfold State.ask; rfl
@[simp] theorem State.conf_ask (q : Req) : (s.ask q).conf = s.conf := by unfold State.ask; rfl
@[simp] theorem State.seq_ask (q : Req) : (s.ask q).seq = s.seq := by unfold State.ask; rfl
@[simp] theorem State.arr_ask (q : Req) : (s.ask q).arr = s.arr := by unfold State.ask; rfl
@[simp] theorem State.ppe_ask (q : Req) : (s.ask q).ppe = s.ppe := by unfold State.ask; rfl
@[simp] theorem State.cmp_ask (q : Req) : (s.ask q).cmp = s.cmp := by unfold State.ask; rfl
@[simp] theorem State.col_ask (q : Req) : (s.ask q).col = s.col := by unfold State.ask; rfl
@[simp] theorem State.mem_ask (q : Req) : (s.ask q).mem = s.mem := by unfold State.ask; rfl
@[simp] theorem State.bpm_ask (q : Req) : (s.ask q).bpm = s.bpm := by unfold State.ask; rfl
@[simp] theorem State.ciph_ask (q : Req) : (s.ask q).ciph = s.ciph := by unfold State.ask; rfl
@[simp] theorem State.sch_ask (q : Req) : (s.ask q).sch = s.sch := by unfold State.ask; rfl
@[simp] theorem State.peer_ask (q : Req) : (s.ask q).peer = s.peer := by unfold State.ask; rfl
@[simp] theorem State.evt_ask (q : Req) : (s.ask q).evt = s.evt := by unfold State.ask; rfl
@[simp] theorem State.bist_ask (q : Req) : (s.ask q).bist = s.bist := by unfold State.ask; rfl
@[simp] theorem State.line_ask (q : Req) : (s.ask q).line = s.line := by unfold State.ask; rfl
@[simp] theorem State.fab_ask (q : Req) : (s.ask q).fab = s.fab := by unfold State.ask; rfl
@[simp] theorem State.opt_ask (q : Req) : (s.ask q).opt = s.opt := by unfold State.ask; rfl
@[simp] theorem State.time_ask (q : Req) : (s.ask q).time = s.time := by unfold State.ask; rfl
@[simp] theorem State.cst_ask (q : Req) : (s.ask q).cst = s.cst := by unfold State.ask; rfl
@[simp] theorem State.img_ask (q : Req) : (s.ask q).img = s.img := by unfold State.ask; rfl
@[simp] theorem State.sec_ask (q : Req) : (s.ask q).sec = s.sec := by unfold State.ask; rfl
@[simp] theorem State.pwr_ask (q : Req) : (s.ask q).pwr = s.pwr := by unfold State.ask; rfl

@[simp] theorem State.pending_putBit (x : Fld) (b : Nat) (on : Bool) (k : Nat) : (s.putBit x b on k).pending = s.pending := by simp only [State.putBit, State.pending_setf]
@[simp] theorem State.now_putBit (x : Fld) (b : Nat) (on : Bool) (k : Nat) : (s.putBit x b on k).now = s.now := by simp only [State.putBit, State.now_setf]
@[simp] theorem State.free_putBit (x : Fld) (b : Nat) (on : Bool) (k : Nat) : (s.putBit x b on k).free = s.free := by simp only [State.putBit, State.free_setf]
@[simp] theorem State.out_putBit (x : Fld) (b : Nat) (on : Bool) (k : Nat) : (s.putBit x b on k).out = s.out := by simp only [State.putBit, State.out_setf]
@[simp] theorem State.conf_putBit (x : Fld) (b : Nat) (on : Bool) (k : Nat) : (s.putBit x b on k).conf = s.conf := by simp only [State.putBit, State.conf_setf]
@[simp] theorem State.seq_putBit (x : Fld) (b : Nat) (on : Bool) (k : Nat) : (s.putBit x b on k).seq = s.seq := by simp only [State.putBit, State.seq_setf]
@[simp] theorem State.arr_putBit (x : Fld) (b : Nat) (on : Bool) (k : Nat) : (s.putBit x b on k).arr = s.arr := by simp only [State.putBit, State.arr_setf]
@[simp] theorem State.ppe_putBit (x : Fld) (b : Nat) (on : Bool) (k : Nat) : (s.putBit x b on k).ppe = s.ppe := by simp only [State.putBit, State.ppe_setf]
@[simp] theorem State.cmp_putBit (x : Fld) (b : Nat) (on : Bool) (k : Nat) : (s.putBit x b on k).cmp = s.cmp := by simp only [State.putBit, State.cmp_setf]
@[simp] theorem State.col_putBit (x : Fld) (b : Nat) (on : Bool) (k : Nat) : (s.putBit x b on k).col = s.col := by simp only [State.putBit, State.col_setf]
@[simp] theorem State.mem_putBit (x : Fld) (b : Nat) (on : Bool) (k : Nat) : (s.putBit x b on k).mem = s.mem := by simp only [State.putBit, State.mem_setf]
@[simp] theorem State.bpm_putBit (x : Fld) (b : Nat) (on : Bool) (k : Nat) : (s.putBit x b on k).bpm = s.bpm := by simp only [State.putBit, State.bpm_setf]
@[simp] theorem State.ciph_putBit (x : Fld) (b : Nat) (on : Bool) (k : Nat) : (s.putBit x b on k).ciph = s.ciph := by simp only [State.putBit, State.ciph_setf]
@[simp] theorem State.sch_putBit (x : Fld) (b : Nat) (on : Bool) (k : Nat) : (s.putBit x b on k).sch = s.sch := by simp only [State.putBit, State.sch_setf]
@[simp] theorem State.peer_putBit (x : Fld) (b : Nat) (on : Bool) (k : Nat) : (s.putBit x b on k).peer = s.peer := by simp only [State.putBit, State.peer_setf]
@[simp] theorem State.evt_putBit (x : Fld) (b : Nat) (on : Bool) (k : Nat) : (s.putBit x b on k).evt = s.evt := by simp only [State.putBit, State.evt_setf]
@[simp] theorem State.bist_putBit (x : Fld) (b : Nat) (on : Bool) (k : Nat) : (s.putBit x b on k).bist = s.bist := by simp only [State.putBit, State.bist_setf]
@[simp] theorem State.line_putBit (x : Fld) (b : Nat) (on : Bool) (k : Nat) : (s.putBit x b on k).line = s.line := by simp only [State.putBit, State.line_setf]
@[simp] theorem State.fab_putBit (x : Fld) (b : Nat) (on : Bool) (k : Nat) : (s.putBit x b on k).fab = s.fab := by simp only [State.putBit, State.fab_setf]
@[simp] theorem State.opt_putBit (x : Fld) (b : Nat) (on : Bool) (k : Nat) : (s.putBit x b on k).opt = s.opt := by simp only [State.putBit, State.opt_setf]
@[simp] theorem State.time_putBit (x : Fld) (b : Nat) (on : Bool) (k : Nat) : (s.putBit x b on k).time = s.time := by simp only [State.putBit, State.time_setf]
@[simp] theorem State.cst_putBit (x : Fld) (b : Nat) (on : Bool) (k : Nat) : (s.putBit x b on k).cst = s.cst := by simp only [State.putBit, State.cst_setf]
@[simp] theorem State.host_putBit (x : Fld) (b : Nat) (on : Bool) (k : Nat) : (s.putBit x b on k).host = s.host := by simp only [State.putBit, State.host_setf]
@[simp] theorem State.img_putBit (x : Fld) (b : Nat) (on : Bool) (k : Nat) : (s.putBit x b on k).img = s.img := by simp only [State.putBit, State.img_setf]
@[simp] theorem State.sec_putBit (x : Fld) (b : Nat) (on : Bool) (k : Nat) : (s.putBit x b on k).sec = s.sec := by simp only [State.putBit, State.sec_setf]
@[simp] theorem State.pwr_putBit (x : Fld) (b : Nat) (on : Bool) (k : Nat) : (s.putBit x b on k).pwr = s.pwr := by simp only [State.putBit, State.pwr_setf]

@[simp] theorem State.pending_count (x : Fld) (n k : Nat) : (s.count x n k).pending = s.pending := by simp only [State.count, State.pending_setf]
@[simp] theorem State.now_count (x : Fld) (n k : Nat) : (s.count x n k).now = s.now := by simp only [State.count, State.now_setf]
@[simp] theorem State.free_count (x : Fld) (n k : Nat) : (s.count x n k).free = s.free := by simp only [State.count, State.free_setf]
@[simp] theorem State.out_count (x : Fld) (n k : Nat) : (s.count x n k).out = s.out := by simp only [State.count, State.out_setf]
@[simp] theorem State.conf_count (x : Fld) (n k : Nat) : (s.count x n k).conf = s.conf := by simp only [State.count, State.conf_setf]
@[simp] theorem State.seq_count (x : Fld) (n k : Nat) : (s.count x n k).seq = s.seq := by simp only [State.count, State.seq_setf]
@[simp] theorem State.arr_count (x : Fld) (n k : Nat) : (s.count x n k).arr = s.arr := by simp only [State.count, State.arr_setf]
@[simp] theorem State.ppe_count (x : Fld) (n k : Nat) : (s.count x n k).ppe = s.ppe := by simp only [State.count, State.ppe_setf]
@[simp] theorem State.cmp_count (x : Fld) (n k : Nat) : (s.count x n k).cmp = s.cmp := by simp only [State.count, State.cmp_setf]
@[simp] theorem State.col_count (x : Fld) (n k : Nat) : (s.count x n k).col = s.col := by simp only [State.count, State.col_setf]
@[simp] theorem State.mem_count (x : Fld) (n k : Nat) : (s.count x n k).mem = s.mem := by simp only [State.count, State.mem_setf]
@[simp] theorem State.bpm_count (x : Fld) (n k : Nat) : (s.count x n k).bpm = s.bpm := by simp only [State.count, State.bpm_setf]
@[simp] theorem State.ciph_count (x : Fld) (n k : Nat) : (s.count x n k).ciph = s.ciph := by simp only [State.count, State.ciph_setf]
@[simp] theorem State.sch_count (x : Fld) (n k : Nat) : (s.count x n k).sch = s.sch := by simp only [State.count, State.sch_setf]
@[simp] theorem State.peer_count (x : Fld) (n k : Nat) : (s.count x n k).peer = s.peer := by simp only [State.count, State.peer_setf]
@[simp] theorem State.evt_count (x : Fld) (n k : Nat) : (s.count x n k).evt = s.evt := by simp only [State.count, State.evt_setf]
@[simp] theorem State.bist_count (x : Fld) (n k : Nat) : (s.count x n k).bist = s.bist := by simp only [State.count, State.bist_setf]
@[simp] theorem State.line_count (x : Fld) (n k : Nat) : (s.count x n k).line = s.line := by simp only [State.count, State.line_setf]
@[simp] theorem State.fab_count (x : Fld) (n k : Nat) : (s.count x n k).fab = s.fab := by simp only [State.count, State.fab_setf]
@[simp] theorem State.opt_count (x : Fld) (n k : Nat) : (s.count x n k).opt = s.opt := by simp only [State.count, State.opt_setf]
@[simp] theorem State.time_count (x : Fld) (n k : Nat) : (s.count x n k).time = s.time := by simp only [State.count, State.time_setf]
@[simp] theorem State.cst_count (x : Fld) (n k : Nat) : (s.count x n k).cst = s.cst := by simp only [State.count, State.cst_setf]
@[simp] theorem State.host_count (x : Fld) (n k : Nat) : (s.count x n k).host = s.host := by simp only [State.count, State.host_setf]
@[simp] theorem State.img_count (x : Fld) (n k : Nat) : (s.count x n k).img = s.img := by simp only [State.count, State.img_setf]
@[simp] theorem State.sec_count (x : Fld) (n k : Nat) : (s.count x n k).sec = s.sec := by simp only [State.count, State.sec_setf]
@[simp] theorem State.pwr_count (x : Fld) (n k : Nat) : (s.count x n k).pwr = s.pwr := by simp only [State.count, State.pwr_setf]

@[simp] theorem State.pending_event (x : Fld) (k : Nat) : (s.event x k).pending = s.pending := by simp only [State.event, State.pending_setf]
@[simp] theorem State.now_event (x : Fld) (k : Nat) : (s.event x k).now = s.now := by simp only [State.event, State.now_setf]
@[simp] theorem State.free_event (x : Fld) (k : Nat) : (s.event x k).free = s.free := by simp only [State.event, State.free_setf]
@[simp] theorem State.out_event (x : Fld) (k : Nat) : (s.event x k).out = s.out := by simp only [State.event, State.out_setf]
@[simp] theorem State.conf_event (x : Fld) (k : Nat) : (s.event x k).conf = s.conf := by simp only [State.event, State.conf_setf]
@[simp] theorem State.seq_event (x : Fld) (k : Nat) : (s.event x k).seq = s.seq := by simp only [State.event, State.seq_setf]
@[simp] theorem State.arr_event (x : Fld) (k : Nat) : (s.event x k).arr = s.arr := by simp only [State.event, State.arr_setf]
@[simp] theorem State.ppe_event (x : Fld) (k : Nat) : (s.event x k).ppe = s.ppe := by simp only [State.event, State.ppe_setf]
@[simp] theorem State.cmp_event (x : Fld) (k : Nat) : (s.event x k).cmp = s.cmp := by simp only [State.event, State.cmp_setf]
@[simp] theorem State.col_event (x : Fld) (k : Nat) : (s.event x k).col = s.col := by simp only [State.event, State.col_setf]
@[simp] theorem State.mem_event (x : Fld) (k : Nat) : (s.event x k).mem = s.mem := by simp only [State.event, State.mem_setf]
@[simp] theorem State.bpm_event (x : Fld) (k : Nat) : (s.event x k).bpm = s.bpm := by simp only [State.event, State.bpm_setf]
@[simp] theorem State.ciph_event (x : Fld) (k : Nat) : (s.event x k).ciph = s.ciph := by simp only [State.event, State.ciph_setf]
@[simp] theorem State.sch_event (x : Fld) (k : Nat) : (s.event x k).sch = s.sch := by simp only [State.event, State.sch_setf]
@[simp] theorem State.peer_event (x : Fld) (k : Nat) : (s.event x k).peer = s.peer := by simp only [State.event, State.peer_setf]
@[simp] theorem State.evt_event (x : Fld) (k : Nat) : (s.event x k).evt = s.evt := by simp only [State.event, State.evt_setf]
@[simp] theorem State.bist_event (x : Fld) (k : Nat) : (s.event x k).bist = s.bist := by simp only [State.event, State.bist_setf]
@[simp] theorem State.line_event (x : Fld) (k : Nat) : (s.event x k).line = s.line := by simp only [State.event, State.line_setf]
@[simp] theorem State.fab_event (x : Fld) (k : Nat) : (s.event x k).fab = s.fab := by simp only [State.event, State.fab_setf]
@[simp] theorem State.opt_event (x : Fld) (k : Nat) : (s.event x k).opt = s.opt := by simp only [State.event, State.opt_setf]
@[simp] theorem State.time_event (x : Fld) (k : Nat) : (s.event x k).time = s.time := by simp only [State.event, State.time_setf]
@[simp] theorem State.cst_event (x : Fld) (k : Nat) : (s.event x k).cst = s.cst := by simp only [State.event, State.cst_setf]
@[simp] theorem State.host_event (x : Fld) (k : Nat) : (s.event x k).host = s.host := by simp only [State.event, State.host_setf]
@[simp] theorem State.img_event (x : Fld) (k : Nat) : (s.event x k).img = s.img := by simp only [State.event, State.img_setf]
@[simp] theorem State.sec_event (x : Fld) (k : Nat) : (s.event x k).sec = s.sec := by simp only [State.event, State.sec_setf]
@[simp] theorem State.pwr_event (x : Fld) (k : Nat) : (s.event x k).pwr = s.pwr := by simp only [State.event, State.pwr_setf]

@[simp] theorem State.pending_countEv (c e : Fld) (n : Nat) : (s.countEv c e n).pending = s.pending := by simp only [State.countEv, State.pending_event, State.pending_count]
@[simp] theorem State.now_countEv (c e : Fld) (n : Nat) : (s.countEv c e n).now = s.now := by simp only [State.countEv, State.now_event, State.now_count]
@[simp] theorem State.free_countEv (c e : Fld) (n : Nat) : (s.countEv c e n).free = s.free := by simp only [State.countEv, State.free_event, State.free_count]
@[simp] theorem State.out_countEv (c e : Fld) (n : Nat) : (s.countEv c e n).out = s.out := by simp only [State.countEv, State.out_event, State.out_count]
@[simp] theorem State.conf_countEv (c e : Fld) (n : Nat) : (s.countEv c e n).conf = s.conf := by simp only [State.countEv, State.conf_event, State.conf_count]
@[simp] theorem State.seq_countEv (c e : Fld) (n : Nat) : (s.countEv c e n).seq = s.seq := by simp only [State.countEv, State.seq_event, State.seq_count]
@[simp] theorem State.arr_countEv (c e : Fld) (n : Nat) : (s.countEv c e n).arr = s.arr := by simp only [State.countEv, State.arr_event, State.arr_count]
@[simp] theorem State.ppe_countEv (c e : Fld) (n : Nat) : (s.countEv c e n).ppe = s.ppe := by simp only [State.countEv, State.ppe_event, State.ppe_count]
@[simp] theorem State.cmp_countEv (c e : Fld) (n : Nat) : (s.countEv c e n).cmp = s.cmp := by simp only [State.countEv, State.cmp_event, State.cmp_count]
@[simp] theorem State.col_countEv (c e : Fld) (n : Nat) : (s.countEv c e n).col = s.col := by simp only [State.countEv, State.col_event, State.col_count]
@[simp] theorem State.mem_countEv (c e : Fld) (n : Nat) : (s.countEv c e n).mem = s.mem := by simp only [State.countEv, State.mem_event, State.mem_count]
@[simp] theorem State.bpm_countEv (c e : Fld) (n : Nat) : (s.countEv c e n).bpm = s.bpm := by simp only [State.countEv, State.bpm_event, State.bpm_count]
@[simp] theorem State.ciph_countEv (c e : Fld) (n : Nat) : (s.countEv c e n).ciph = s.ciph := by simp only [State.countEv, State.ciph_event, State.ciph_count]
@[simp] theorem State.sch_countEv (c e : Fld) (n : Nat) : (s.countEv c e n).sch = s.sch := by simp only [State.countEv, State.sch_event, State.sch_count]
@[simp] theorem State.peer_countEv (c e : Fld) (n : Nat) : (s.countEv c e n).peer = s.peer := by simp only [State.countEv, State.peer_event, State.peer_count]
@[simp] theorem State.evt_countEv (c e : Fld) (n : Nat) : (s.countEv c e n).evt = s.evt := by simp only [State.countEv, State.evt_event, State.evt_count]
@[simp] theorem State.bist_countEv (c e : Fld) (n : Nat) : (s.countEv c e n).bist = s.bist := by simp only [State.countEv, State.bist_event, State.bist_count]
@[simp] theorem State.line_countEv (c e : Fld) (n : Nat) : (s.countEv c e n).line = s.line := by simp only [State.countEv, State.line_event, State.line_count]
@[simp] theorem State.fab_countEv (c e : Fld) (n : Nat) : (s.countEv c e n).fab = s.fab := by simp only [State.countEv, State.fab_event, State.fab_count]
@[simp] theorem State.opt_countEv (c e : Fld) (n : Nat) : (s.countEv c e n).opt = s.opt := by simp only [State.countEv, State.opt_event, State.opt_count]
@[simp] theorem State.time_countEv (c e : Fld) (n : Nat) : (s.countEv c e n).time = s.time := by simp only [State.countEv, State.time_event, State.time_count]
@[simp] theorem State.cst_countEv (c e : Fld) (n : Nat) : (s.countEv c e n).cst = s.cst := by simp only [State.countEv, State.cst_event, State.cst_count]
@[simp] theorem State.host_countEv (c e : Fld) (n : Nat) : (s.countEv c e n).host = s.host := by simp only [State.countEv, State.host_event, State.host_count]
@[simp] theorem State.img_countEv (c e : Fld) (n : Nat) : (s.countEv c e n).img = s.img := by simp only [State.countEv, State.img_event, State.img_count]
@[simp] theorem State.sec_countEv (c e : Fld) (n : Nat) : (s.countEv c e n).sec = s.sec := by simp only [State.countEv, State.sec_event, State.sec_count]
@[simp] theorem State.pwr_countEv (c e : Fld) (n : Nat) : (s.countEv c e n).pwr = s.pwr := by simp only [State.countEv, State.pwr_event, State.pwr_count]

@[simp] theorem State.pending_nextView : s.nextView.pending = s.pending := by simp only [State.nextView, State.pending_setf]
@[simp] theorem State.now_nextView : s.nextView.now = s.now := by simp only [State.nextView, State.now_setf]
@[simp] theorem State.free_nextView : s.nextView.free = s.free := by simp only [State.nextView, State.free_setf]
@[simp] theorem State.out_nextView : s.nextView.out = s.out := by simp only [State.nextView, State.out_setf]
@[simp] theorem State.conf_nextView : s.nextView.conf = s.conf := by simp only [State.nextView, State.conf_setf]
@[simp] theorem State.seq_nextView : s.nextView.seq = s.seq := by simp only [State.nextView, State.seq_setf]
@[simp] theorem State.arr_nextView : s.nextView.arr = s.arr := by simp only [State.nextView, State.arr_setf]
@[simp] theorem State.ppe_nextView : s.nextView.ppe = s.ppe := by simp only [State.nextView, State.ppe_setf]
@[simp] theorem State.cmp_nextView : s.nextView.cmp = s.cmp := by simp only [State.nextView, State.cmp_setf]
@[simp] theorem State.col_nextView : s.nextView.col = s.col := by simp only [State.nextView, State.col_setf]
@[simp] theorem State.mem_nextView : s.nextView.mem = s.mem := by simp only [State.nextView, State.mem_setf]
@[simp] theorem State.bpm_nextView : s.nextView.bpm = s.bpm := by simp only [State.nextView, State.bpm_setf]
@[simp] theorem State.ciph_nextView : s.nextView.ciph = s.ciph := by simp only [State.nextView, State.ciph_setf]
@[simp] theorem State.sch_nextView : s.nextView.sch = s.sch := by simp only [State.nextView, State.sch_setf]
@[simp] theorem State.peer_nextView : s.nextView.peer = s.peer := by simp only [State.nextView, State.peer_setf]
@[simp] theorem State.evt_nextView : s.nextView.evt = s.evt := by simp only [State.nextView, State.evt_setf]
@[simp] theorem State.bist_nextView : s.nextView.bist = s.bist := by simp only [State.nextView, State.bist_setf]
@[simp] theorem State.line_nextView : s.nextView.line = s.line := by simp only [State.nextView, State.line_setf]
@[simp] theorem State.fab_nextView : s.nextView.fab = s.fab := by simp only [State.nextView, State.fab_setf]
@[simp] theorem State.opt_nextView : s.nextView.opt = s.opt := by simp only [State.nextView, State.opt_setf]
@[simp] theorem State.time_nextView : s.nextView.time = s.time := by simp only [State.nextView, State.time_setf]
@[simp] theorem State.cst_nextView : s.nextView.cst = s.cst := by simp only [State.nextView, State.cst_setf]
@[simp] theorem State.host_nextView : s.nextView.host = s.host := by simp only [State.nextView, State.host_setf]
@[simp] theorem State.img_nextView : s.nextView.img = s.img := by simp only [State.nextView, State.img_setf]
@[simp] theorem State.sec_nextView : s.nextView.sec = s.sec := by simp only [State.nextView, State.sec_setf]
@[simp] theorem State.pwr_nextView : s.nextView.pwr = s.pwr := by simp only [State.nextView, State.pwr_setf]

@[simp] theorem State.pending_eventIf (b : Bool) (x : Fld) (k : Nat) : (s.eventIf b x k).pending = s.pending := by unfold State.eventIf; split <;> simp only [State.pending_event]
@[simp] theorem State.now_eventIf (b : Bool) (x : Fld) (k : Nat) : (s.eventIf b x k).now = s.now := by unfold State.eventIf; split <;> simp only [State.now_event]
@[simp] theorem State.free_eventIf (b : Bool) (x : Fld) (k : Nat) : (s.eventIf b x k).free = s.free := by unfold State.eventIf; split <;> simp only [State.free_event]
@[simp] theorem State.out_eventIf (b : Bool) (x : Fld) (k : Nat) : (s.eventIf b x k).out = s.out := by unfold State.eventIf; split <;> simp only [State.out_event]
@[simp] theorem State.conf_eventIf (b : Bool) (x : Fld) (k : Nat) : (s.eventIf b x k).conf = s.conf := by unfold State.eventIf; split <;> simp only [State.conf_event]
@[simp] theorem State.seq_eventIf (b : Bool) (x : Fld) (k : Nat) : (s.eventIf b x k).seq = s.seq := by unfold State.eventIf; split <;> simp only [State.seq_event]
@[simp] theorem State.arr_eventIf (b : Bool) (x : Fld) (k : Nat) : (s.eventIf b x k).arr = s.arr := by unfold State.eventIf; split <;> simp only [State.arr_event]
@[simp] theorem State.ppe_eventIf (b : Bool) (x : Fld) (k : Nat) : (s.eventIf b x k).ppe = s.ppe := by unfold State.eventIf; split <;> simp only [State.ppe_event]
@[simp] theorem State.cmp_eventIf (b : Bool) (x : Fld) (k : Nat) : (s.eventIf b x k).cmp = s.cmp := by unfold State.eventIf; split <;> simp only [State.cmp_event]
@[simp] theorem State.col_eventIf (b : Bool) (x : Fld) (k : Nat) : (s.eventIf b x k).col = s.col := by unfold State.eventIf; split <;> simp only [State.col_event]
@[simp] theorem State.mem_eventIf (b : Bool) (x : Fld) (k : Nat) : (s.eventIf b x k).mem = s.mem := by unfold State.eventIf; split <;> simp only [State.mem_event]
@[simp] theorem State.bpm_eventIf (b : Bool) (x : Fld) (k : Nat) : (s.eventIf b x k).bpm = s.bpm := by unfold State.eventIf; split <;> simp only [State.bpm_event]
@[simp] theorem State.ciph_eventIf (b : Bool) (x : Fld) (k : Nat) : (s.eventIf b x k).ciph = s.ciph := by unfold State.eventIf; split <;> simp only [State.ciph_event]
@[simp] theorem State.sch_eventIf (b : Bool) (x : Fld) (k : Nat) : (s.eventIf b x k).sch = s.sch := by unfold State.eventIf; split <;> simp only [State.sch_event]
@[simp] theorem State.peer_eventIf (b : Bool) (x : Fld) (k : Nat) : (s.eventIf b x k).peer = s.peer := by unfold State.eventIf; split <;> simp only [State.peer_event]
@[simp] theorem State.evt_eventIf (b : Bool) (x : Fld) (k : Nat) : (s.eventIf b x k).evt = s.evt := by unfold State.eventIf; split <;> simp only [State.evt_event]
@[simp] theorem State.bist_eventIf (b : Bool) (x : Fld) (k : Nat) : (s.eventIf b x k).bist = s.bist := by unfold State.eventIf; split <;> simp only [State.bist_event]
@[simp] theorem State.line_eventIf (b : Bool) (x : Fld) (k : Nat) : (s.eventIf b x k).line = s.line := by unfold State.eventIf; split <;> simp only [State.line_event]
@[simp] theorem State.fab_eventIf (b : Bool) (x : Fld) (k : Nat) : (s.eventIf b x k).fab = s.fab := by unfold State.eventIf; split <;> simp only [State.fab_event]
@[simp] theorem State.opt_eventIf (b : Bool) (x : Fld) (k : Nat) : (s.eventIf b x k).opt = s.opt := by unfold State.eventIf; split <;> simp only [State.opt_event]
@[simp] theorem State.time_eventIf (b : Bool) (x : Fld) (k : Nat) : (s.eventIf b x k).time = s.time := by unfold State.eventIf; split <;> simp only [State.time_event]
@[simp] theorem State.cst_eventIf (b : Bool) (x : Fld) (k : Nat) : (s.eventIf b x k).cst = s.cst := by unfold State.eventIf; split <;> simp only [State.cst_event]
@[simp] theorem State.host_eventIf (b : Bool) (x : Fld) (k : Nat) : (s.eventIf b x k).host = s.host := by unfold State.eventIf; split <;> simp only [State.host_event]
@[simp] theorem State.img_eventIf (b : Bool) (x : Fld) (k : Nat) : (s.eventIf b x k).img = s.img := by unfold State.eventIf; split <;> simp only [State.img_event]
@[simp] theorem State.sec_eventIf (b : Bool) (x : Fld) (k : Nat) : (s.eventIf b x k).sec = s.sec := by unfold State.eventIf; split <;> simp only [State.sec_event]
@[simp] theorem State.pwr_eventIf (b : Bool) (x : Fld) (k : Nat) : (s.eventIf b x k).pwr = s.pwr := by unfold State.eventIf; split <;> simp only [State.pwr_event]

@[simp] theorem State.out_emit (e : Emit) : (s.emit e).out = s.out ++ [e] := rfl
@[simp] theorem State.now_tick : s.tick.now = s.now + 1 := rfl
@[simp] theorem State.free_fresh : s.fresh.2.free = s.free + 1 := rfl

end Sys2Proof.Machine
end

