-- ==== Sys2Proof/Tests/Slice0.lean ====
section
/-! SUPPORT. Small tests: the checks of WellFormed refuse an ill-formed command each; for every clause of every statement
with hypotheses a state and operands that meet them, with what the command then does, computed by hand from the rule named. -/

-- The package as one text stays within the memory limit when its proofs are elaborated one after the other.
set_option Elab.async false

namespace Sys2Proof.Tests

open Sys2Proof Sys2Proof.Machine

/-- A state after reset with fields set: field, instance, value. -/
def tS (fs : List (Fld × Nat × Nat)) : State := fs.foldl (fun s e => s.setf e.1 e.2.2 e.2.1) State.reset

/-- Whether an outcome is a next state that passes a test. -/
def nx (o : Host.Outcome State Fault Refusal) (p : State → Bool) : Bool :=
  match o with
  | .next t => p t
  | .fault _ => false
  | .refused _ => false

/-- A descriptor's 52 bits (R77): tier, address in units of 256 bytes, blocks of 256 bytes less one. -/
def tD (tier addr256 blocks : Nat) : Nat := tier + 4 * addr256 + 2 ^ 36 * (blocks - 1)

/-- A row (R76) of track 1 that posts and waits for nothing and belongs to no collective. -/
def tRow (op : Nat) (more : Nat := 0) : Row256 := BitVec.ofNat 256 (op + 2 ^ 8 + 0xFFFF * 2 ^ 81 + more)
/-- SRC of a row, and DST with its valid flag. -/
def tSrc (d : Nat) : Nat := 2 ^ 12 + d * 2 ^ 129
def tDst (d : Nat) : Nat := 2 ^ 13 + d * 2 ^ 181

/-- Item 7 of a row, running. -/
def tItem (row : Row256) : Item :=
  { id := 7, track := 1, rowIx := 3, row := row, step := 5, adhoc := none, waitTaken := true, running := true, issuedAt := 0
    resent := false, degraded := false, phase := 0, phaseAt := 0, key := none, books := [], seqs := [], needQueued := false
    ctxReady := true }

/-- A state with these items in flight. -/
def tIn (s : State) (its : List Item) : State := { s with seq := { s.seq with items := its, nextId := 8 } }

/-- Nothing unusual met. -/
def fx0 : Fx := { sector := 0, shadow := 4, mismatch := false, ue := false }

/-- Item 7 of track 1 has ended with a status and has its record (R84, R85), computed as `Ended` says it. -/
def tEnded (s t : State) (st : Status) : Bool :=
  (t.item 7).isNone && decide (t.f F.SEQ_TKn_DONE_COUNT 1 = s.f F.SEQ_TKn_DONE_COUNT 1 + 1) &&
    decide (t.f F.SEQ_RING_B_STATUS 1024 = st.code) && decide (t.f F.SEQ_RING_A_TAG 1024 = 2 ^ 60 + 3 * 2 ^ 40 + 5)

/-! ### Well-formed commands

For every operand that Instr.wf checks, a command that is ill-formed in that operand alone. -/

def wfQ : Req := { seq := 0, gen := none, inTxn := false, inSnap := false, txn := 0 }
def wfBadQ : Req := { wfQ with seq := 2 ^ 32 }
def wfBadFx : Fx := { fx0 with shadow := 8 }
def wfMember : Member := { site := 0, role := 0, state := 0, flags := 0, device := 0 }
def wfBadMember : Member := { wfMember with site := 256 }
def wfFrame : OtucFrame :=
  { bipSm := 0, bipPm := 0, foundSm := 0, foundPm := 0, beiSm := 0, beiPm := 0, fecCorr := 0, fecUncorr := 0, gcc := List.replicate 6 0
    mon := List.replicate 42 0, rxd := [(3, List.replicate 16 false)] }
def wfBadFrame : OtucFrame := { wfFrame with gcc := [] }
def wfLong (n : Nat) : List Byte := List.replicate (n + 1) 0
theorem atMost_wfLong (n : Nat) : atMost (wfLong n) n = false := by simp [atMost, wfLong]

/-- SEQUENCE, TXN and generation in range, and not a transaction and a snapshot at once; every field of a member, the sectors
of an engine's work, and the parts of a line frame. -/
theorem test_wf_parts : wfQ.wf = true ∧ ({ wfQ with seq := 2 ^ 32 } : Req).wf = false ∧ ({ wfQ with txn := 2 ^ 32 } : Req).wf = false ∧
    ({ wfQ with gen := some 256 } : Req).wf = false ∧ ({ wfQ with inTxn := true, inSnap := true } : Req).wf = false ∧
    wfMember.wf = true ∧ ({ wfMember with site := 256 } : Member).wf = false ∧ ({ wfMember with role := 256 } : Member).wf = false ∧
    ({ wfMember with state := 256 } : Member).wf = false ∧ ({ wfMember with flags := 256 } : Member).wf = false ∧
    ({ wfMember with device := 2 ^ 64 } : Member).wf = false ∧ fx0.wf = true ∧ ({ fx0 with sector := 8 } : Fx).wf = false ∧
    ({ fx0 with shadow := 8 } : Fx).wf = false ∧ ({ fx0 with sector := 0xFF } : Fx).wf = true ∧
    wfFrame.wf = true ∧ ({ wfFrame with bipSm := 256 } : OtucFrame).wf = false ∧ ({ wfFrame with beiPm := 256 } : OtucFrame).wf = false ∧
    wfBadFrame.wf = false ∧ ({ wfFrame with mon := [] } : OtucFrame).wf = false ∧
    ({ wfFrame with rxd := [(4, List.replicate 16 false)] } : OtucFrame).wf = false ∧
    ({ wfFrame with rxd := [(0, [true])] } : OtucFrame).wf = false := by decide +kernel

theorem test_wf_accepts_1 : (([
    .move 0 fx0, .reduce 0 fx0, .firstpass 0 fx0, .encode 0 fx0, .decode 0 fx0, .project 0 fx0, .ortho 0 fx0, .seal 0
    fx0 [], .openItem 0 fx0 [], .send 0 fx0, .journal 0 fx0, .tokenWaitWatchdog 0, .trackResume 0, .trackHalt 0,
    .trackAbort 0, .tokenWrite wfQ 0 0, .activeWindowWrite wfQ 0 0, .shadowWindowWrite wfQ 0 0, .reduceRebuildDone 0 0
    false, .arrayRedoDone 0 0 false, .ppeBandStart 0 fx0, .ppeBandFold 0 fx0, .ppeLockWaitExpired fx0, .ppeTempDelta
    0, .ppeCalTableWrite wfQ 0 0 0, .codebookInstallDeferred 0, .codebookRepeat 0 0 0, .submit wfQ [], .parkExpired 0,
    .helloReceive 0 [], .dataReceive 0 [], .abandonmentReceive 0 [], .ackReceive 0 [], .nakReceive 0 [],
    .probeRequestReceive 0 [], .probeReplyReceive 0 [], .codebookReceive 0 [], .stepReadyReceive 0 [],
    .stepCommitReceive 0 [], .epochReceive 0 [], .horizonReceive 0 [], .reconcileReceive 0 [], .correctionSent 0,
    .ackSend 0, .gapNak 0, .resendTimer 0 0, .routeSilence 0 0, .routeProveTimeout 0 0, .routeDisableWrite 0 0,
    .helloSend 0, .eclipseEntry 0, .epochWaitExpired 0, .memberSuspect 0, .downProposal 0, .memberHoldExpired 0,
    .exactHoldExpired 0, .membershipTable wfQ 0 [], .membershipKeep wfQ 0 0, .rawDefectChange 0 0 false,
    .defectFastSet 0 0] : List Instr).all (Instr.wf)) = true := by decide +kernel

theorem test_wf_accepts_2 : (([
    .defectFastClear 0 0, .failureReportSet 0 0, .failureReportClear 0 0, .modAlertFall 0 false, .losFlagPoll 0 false,
    .gfpFrameReceive 0 ⟨[], []⟩, .csfSend 0, .moduleRead 0 0 0, .moduleWrite 0 0 0 0, .moduleAccessDone false 0,
    .gcsMapWrite wfQ 0 0, .gcsMapApply 0, .fabricRequestReceive 0 0 none [], .fabricReplyReceive 0 0 none [],
    .bulkReceive 0 [], .escapeTimeout 0 0, .bridgeFlush 0, .circuitTrained 0, .circuitSetupTimeout 0, .circuitReleased
    0, .circuitTableWrite wfQ 0 0, .laserFailed 0 0, .spareSwitched 0 0 false, .lockLoopPeriod 0 [] [], .ringRelocked
    0, .relockTimeout 0, .circuitNoLight 0, .moveFlitReceive 0, .circuitMoveDone 0 0, .alternateHoldExpired 0 0,
    .optCalFull 0, .optCalDone 0 [], .optXtWrite wfQ 0 0 0, .aprTrip 0, .aprBurst 0, .aprClear 0, .laserEnChange 0
    false, .sectorFault 0 [], .cxlLinkDown 0, .contextFetch 0, .contextWindowWrite wfQ 0 0, .bufferHandoff 0 0 (.item
    0) (.item 0), .bufferFree 0 0 (.item 0), .nocPacketReceive 0 ⟨⟨0, 0, 0, 0⟩, false⟩, .nocLinkFailed 0 ⟨0, 0, 0, 0⟩,
    .keyLoad wfQ 0 0 0 [], .keyEraseGraceful wfQ 0 0 0 [], .keyEraseImmediate wfQ 0 0 0 [], .keyEraseComplete 0 0,
    .keyRetire 0 0, .suspendedResume 0, .macsecFrameReceive [] (false, 0), .gcsEncryptWrite 0, .portServe 0,
    .hostFrameReceive [] (false, 0), .ptpMessageReceive [], .timeSourceLost 0, .holdoverExpired 0, .timeReportReceive
    0 [], .transferHoldoverExpired 0] : List Instr).all (Instr.wf)) = true := by decide +kernel

theorem test_wf_accepts_3 : (([
    .tcRelayReceive 0 [], .asymWrite 0 0, .tbSecRead 0, .read wfQ [], .write wfQ [], .txnBegin wfQ, .txnCommit wfQ [],
    .snapshotOpen wfQ, .snapshotClose wfQ, .txnExpired 0, .loadStructureImage wfQ [], .loadSectorPatch wfQ [],
    .loadFirmwareCopy wfQ [] false 0, .hostBulkWrite wfQ [], .hostBulkRead wfQ [], .abortItem wfQ 0, .abortTrack wfQ
    0, .abortCollective wfQ 0, .abortTransaction wfQ 0, .abortLoad wfQ 0, .eventAck wfQ 0 0, .eventAssert 0,
    .eventDeliver 0 0, .eventResend 0, .mpEventHandled 0 0, .pinChange 0 false, .cstLinkTrained 0 0 0 0, .cstLinkDown
    ⟨0, 0⟩, .linkStateReceive 0 0 [], .forwardedRequestReceive 0 0 0 0 [] false (false, 0), .forwardResponseReceive 0
    [], .cstPrepareReceive 0 false, .cstPrepareReplyReceive 0 0 0, .cstApplyReceive 0 0 false, .cstApplyAckReceive 0 0
    false, .constellationMeridian 0, .cstEventRecordReceive 0 [], .cstTokenPostReceive 0 0, .cstMeridianReportReceive
    0 0, .cstMeridianReceive 0 0, .cstMemberLost 0, .promote 0, .disable 0 0, .enable 0, .twilightDeadline 0 [],
    .unitDark 0, .mpReady 0, .porstNRelease 0 false, .quoteDone [], .bistStart 0, .bistEnd 0 0 0 false false,
    .unretire 0, .thermalReport 0 0, .pllUnlock 0, .ttiRxAccept 0 [], .hostLinkChange false 0, .fabricDelivery 0 0] : List Instr).all (Instr.wf)) = true := by decide +kernel

theorem test_wf_refuses_1 : (([
    .move 0 wfBadFx, .reduce 0 wfBadFx, .firstpass 0 wfBadFx, .encode 0 wfBadFx, .decode 0 wfBadFx, .project 0
    wfBadFx, .ortho 0 wfBadFx, .seal 0 wfBadFx [], .openItem 0 wfBadFx [], .send 0 wfBadFx, .journal 0 wfBadFx,
    .tokenWaitWatchdog 16, .trackResume 16, .trackHalt 16, .trackAbort 16, .tokenWrite wfBadQ 0 0, .tokenWrite wfQ
    4096 0, .activeWindowWrite wfBadQ 0 0, .activeWindowWrite wfQ (2 ^ 32) 0, .activeWindowWrite wfQ 4 0,
    .shadowWindowWrite wfBadQ 0 0, .shadowWindowWrite wfQ (2 ^ 32) 0, .shadowWindowWrite wfQ 4 0, .reduceRebuildDone 0
    8 false, .arrayRedoDone 0 8 false, .ppeBandStart 0 wfBadFx, .ppeBandFold 0 wfBadFx, .ppeLockWaitExpired wfBadFx,
    .ppeTempDelta (2 ^ 16), .ppeCalTableWrite wfBadQ 0 0 0, .ppeCalTableWrite wfQ 3 0 0, .ppeCalTableWrite wfQ 0 36864
    0, .codebookInstallDeferred 65536, .codebookRepeat 32 0 0, .codebookRepeat 0 65536 0, .codebookRepeat 0 0 256,
    .submit wfBadQ [], .parkExpired (2 ^ 32), .helloReceive 16 [], .dataReceive 16 [], .abandonmentReceive 16 [],
    .ackReceive 16 [], .nakReceive 16 [], .probeRequestReceive 16 [], .probeReplyReceive 16 [], .codebookReceive 16
    [], .stepReadyReceive 16 [], .stepCommitReceive 16 [], .epochReceive 16 [], .horizonReceive 16 [],
    .reconcileReceive 16 [], .correctionSent 32, .ackSend 32, .gapNak 32, .resendTimer 32 0, .resendTimer 0 (2 ^ 32),
    .routeSilence 32 0, .routeSilence 0 2, .routeProveTimeout 32 0, .routeProveTimeout 0 2] : List Instr).all (fun c => !c.wf)) = true := by decide +kernel

theorem test_wf_refuses_2 : (([
    .routeDisableWrite 32 0, .routeDisableWrite 0 (2 ^ 64), .helloSend 32, .eclipseEntry 32, .epochWaitExpired 32,
    .memberSuspect 32, .downProposal 32, .memberHoldExpired 32, .exactHoldExpired 32, .membershipTable wfBadQ 0 [],
    .membershipTable wfQ (2 ^ 64) [], .membershipTable wfQ 0 [wfBadMember], .membershipKeep wfBadQ 0 0,
    .membershipKeep wfQ 16 0, .membershipKeep wfQ 0 256, .rawDefectChange 16 0 false, .rawDefectChange 0 10 false,
    .defectFastSet 16 0, .defectFastSet 0 10, .defectFastClear 16 0, .defectFastClear 0 10, .failureReportSet 16 0,
    .failureReportSet 0 10, .failureReportClear 16 0, .failureReportClear 0 10, .modAlertFall 16 false, .losFlagPoll
    16 false, .gfpFrameReceive 16 ⟨[], []⟩, .gfpFrameReceive 0 ⟨[], [wfBadFrame]⟩, .csfSend 16, .moduleRead 16 0 0,
    .moduleRead 0 256 0, .moduleRead 0 0 256, .moduleWrite 16 0 0 0, .moduleWrite 0 256 0 0, .moduleWrite 0 0 256 0,
    .moduleWrite 0 0 0 256, .moduleAccessDone false 256, .gcsMapWrite wfBadQ 0 0, .gcsMapWrite wfQ 4 0, .gcsMapApply
    4, .fabricRequestReceive 256 0 none [], .fabricRequestReceive 0 (2 ^ 32) none [], .fabricReplyReceive 256 0 none
    [], .fabricReplyReceive 0 (2 ^ 32) none [], .bulkReceive 4096 [], .escapeTimeout 256 0, .escapeTimeout 0 (2 ^ 32),
    .bridgeFlush (2 ^ 21), .circuitTrained 4096, .circuitSetupTimeout 4096, .circuitReleased 4096, .circuitTableWrite
    wfBadQ 0 0, .circuitTableWrite wfQ (2 ^ 32) 0, .circuitTableWrite wfQ 4 0, .laserFailed 4 0, .laserFailed 0 72,
    .spareSwitched 4 0 false, .spareSwitched 0 8 false, .lockLoopPeriod 5 [] []] : List Instr).all (fun c => !c.wf)) = true := by decide +kernel

theorem test_wf_refuses_3 : (([
    .ringRelocked 512, .relockTimeout 512, .circuitNoLight 4096, .moveFlitReceive 4096, .circuitMoveDone 4096 0,
    .circuitMoveDone 0 16, .alternateHoldExpired 16 0, .alternateHoldExpired 0 16, .optCalFull 16, .optCalDone 4 [],
    .optXtWrite wfBadQ 0 0 0, .optXtWrite wfQ 4 0 0, .optXtWrite wfQ 0 450 0, .aprTrip 16, .aprBurst 16, .aprClear 16,
    .laserEnChange 4 false, .sectorFault 8 [], .cxlLinkDown 4, .contextFetch (2 ^ 21), .contextWindowWrite wfBadQ 0 0,
    .contextWindowWrite wfQ (2 ^ 32) 0, .contextWindowWrite wfQ 4 0, .bufferHandoff 10 0 (.item 0) (.item 0),
    .bufferFree 10 0 (.item 0), .nocPacketReceive 256 ⟨⟨0, 0, 0, 0⟩, false⟩, .nocPacketReceive 0 ⟨⟨20, 0, 0, 0⟩,
    false⟩, .nocPacketReceive 0 ⟨⟨0, 20, 0, 0⟩, false⟩, .nocLinkFailed 256 ⟨0, 0, 0, 0⟩, .nocLinkFailed 0 ⟨20, 0, 0,
    0⟩, .nocLinkFailed 0 ⟨0, 20, 0, 0⟩, .keyLoad wfBadQ 0 0 0 [], .keyLoad wfQ 256 0 0 [], .keyLoad wfQ 0 256 0 [],
    .keyLoad wfQ 0 0 256 [], .keyEraseGraceful wfBadQ 0 0 0 [], .keyEraseGraceful wfQ 256 0 0 [], .keyEraseGraceful
    wfQ 0 256 0 [], .keyEraseGraceful wfQ 0 0 256 [], .keyEraseImmediate wfBadQ 0 0 0 [], .keyEraseImmediate wfQ 256 0
    0 [], .keyEraseImmediate wfQ 0 256 0 [], .keyEraseImmediate wfQ 0 0 256 [], .keyEraseComplete 256 0,
    .keyEraseComplete 0 256, .keyRetire 256 0, .keyRetire 0 256, .suspendedResume 160, .gcsEncryptWrite 16, .portServe
    16, .timeSourceLost 3, .holdoverExpired 3, .timeReportReceive 16 [], .transferHoldoverExpired 2, .tcRelayReceive
    16 [], .asymWrite 2 0, .tbSecRead 4, .read wfBadQ [], .write wfBadQ [], .txnBegin wfBadQ] : List Instr).all (fun c => !c.wf)) = true := by decide +kernel

theorem test_wf_refuses_4 : (([
    .txnCommit wfBadQ [], .snapshotOpen wfBadQ, .snapshotClose wfBadQ, .txnExpired (2 ^ 32), .loadStructureImage
    wfBadQ [], .loadSectorPatch wfBadQ [], .loadFirmwareCopy wfBadQ [] false 0, .loadFirmwareCopy wfQ [] false (2 ^
    32), .hostBulkWrite wfBadQ [], .hostBulkRead wfBadQ [], .abortItem wfBadQ 0, .abortItem wfQ (2 ^ 64), .abortTrack
    wfBadQ 0, .abortTrack wfQ (2 ^ 64), .abortCollective wfBadQ 0, .abortCollective wfQ (2 ^ 64), .abortTransaction
    wfBadQ 0, .abortTransaction wfQ (2 ^ 64), .abortLoad wfBadQ 0, .abortLoad wfQ (2 ^ 64), .eventAck wfBadQ 0 0,
    .eventAck wfQ 8 0, .eventAck wfQ 0 (2 ^ 32), .eventAssert 1024, .eventDeliver 12 0, .eventDeliver 0 65,
    .eventResend 8, .mpEventHandled 4 0, .mpEventHandled 0 1024, .pinChange 28 false, .cstLinkTrained 8 0 0 0,
    .cstLinkTrained 0 (2 ^ 32) 0 0, .cstLinkTrained 0 0 64 0, .cstLinkTrained 0 0 0 8, .cstLinkDown ⟨8, 0⟩,
    .cstLinkDown ⟨0, 2 ^ 32⟩, .linkStateReceive 8 0 [], .linkStateReceive 0 64 [], .linkStateReceive 0 0 [64],
    .forwardedRequestReceive (2 ^ 32) 0 0 0 [] false (false, 0), .forwardedRequestReceive 0 256 0 0 [] false (false,
    0), .forwardedRequestReceive 0 0 256 0 [] false (false, 0), .forwardedRequestReceive 0 0 0 (2 ^ 32) [] false
    (false, 0), .forwardResponseReceive (2 ^ 32) [], .cstPrepareReceive (2 ^ 32) false, .cstPrepareReplyReceive (2 ^
    32) 0 0, .cstPrepareReplyReceive 0 64 0, .cstPrepareReplyReceive 0 0 256, .cstApplyReceive (2 ^ 32) 0 false,
    .cstApplyReceive 0 (2 ^ 64) false, .cstApplyAckReceive (2 ^ 32) 0 false, .cstApplyAckReceive 0 64 false,
    .constellationMeridian (2 ^ 64), .cstEventRecordReceive 64 [], .cstTokenPostReceive 4096 0,
    .cstMeridianReportReceive (2 ^ 64) 0, .cstMeridianReportReceive 0 64, .cstMeridianReceive (2 ^ 64) 0,
    .cstMeridianReceive 0 (2 ^ 64), .cstMemberLost 64] : List Instr).all (fun c => !c.wf)) = true := by decide +kernel

theorem test_wf_refuses_5 : (([
    .promote (2 ^ 64), .disable 64 0, .disable 0 (2 ^ 32), .enable 64, .twilightDeadline 64 [], .unitDark 64, .mpReady
    4, .porstNRelease 4 false, .bistStart 8, .bistEnd 8 0 0 false false, .unretire 8, .thermalReport 20 0,
    .thermalReport 0 (2 ^ 16), .pllUnlock 9, .ttiRxAccept 16 [], .hostLinkChange false 16, .fabricDelivery 256 0,
    .fabricDelivery 0 (2 ^ 32)] : List Instr).all (fun c => !c.wf)) = true := by decide +kernel

theorem test_wf_refuses_long_1 : (Instr.submit wfQ (wfLong 8952)).wf = false ∧
    (Instr.helloReceive 0 (wfLong 65536)).wf = false ∧
    (Instr.dataReceive 0 (wfLong 65536)).wf = false ∧
    (Instr.abandonmentReceive 0 (wfLong 65536)).wf = false ∧
    (Instr.ackReceive 0 (wfLong 65536)).wf = false ∧
    (Instr.nakReceive 0 (wfLong 65536)).wf = false ∧
    (Instr.probeRequestReceive 0 (wfLong 65536)).wf = false ∧
    (Instr.probeReplyReceive 0 (wfLong 65536)).wf = false ∧
    (Instr.codebookReceive 0 (wfLong 65536)).wf = false ∧
    (Instr.stepReadyReceive 0 (wfLong 65536)).wf = false ∧
    (Instr.stepCommitReceive 0 (wfLong 65536)).wf = false ∧
    (Instr.epochReceive 0 (wfLong 65536)).wf = false := by
  simp only [Instr.wf, atMost_wfLong, Bool.and_false, Bool.false_and, and_self]

theorem test_wf_refuses_long_2 : (Instr.horizonReceive 0 (wfLong 65536)).wf = false ∧
    (Instr.reconcileReceive 0 (wfLong 65536)).wf = false ∧
    (Instr.gfpFrameReceive 0 ⟨wfLong 65536, []⟩).wf = false ∧
    (Instr.fabricRequestReceive 0 0 none (wfLong 65536)).wf = false ∧
    (Instr.fabricReplyReceive 0 0 none (wfLong 65536)).wf = false ∧
    (Instr.bulkReceive 0 (wfLong 65536)).wf = false ∧
    (Instr.keyLoad wfQ 0 0 0 (wfLong 8944)).wf = false ∧
    (Instr.keyEraseGraceful wfQ 0 0 0 (wfLong 8944)).wf = false ∧
    (Instr.keyEraseImmediate wfQ 0 0 0 (wfLong 8944)).wf = false ∧
    (Instr.macsecFrameReceive (wfLong 9216) (false, 0)).wf = false ∧
    (Instr.hostFrameReceive (wfLong 9216) (false, 0)).wf = false ∧
    (Instr.ptpMessageReceive (wfLong 9216)).wf = false := by
  simp only [Instr.wf, atMost_wfLong, Bool.and_false, Bool.false_and, and_self]

theorem test_wf_refuses_long_3 : (Instr.timeReportReceive 0 (wfLong 65536)).wf = false ∧
    (Instr.tcRelayReceive 0 (wfLong 65536)).wf = false ∧
    (Instr.read wfQ (wfLong 8952)).wf = false ∧
    (Instr.write wfQ (wfLong 8952)).wf = false ∧
    (Instr.txnCommit wfQ (wfLong 8952)).wf = false ∧
    (Instr.loadStructureImage wfQ (wfLong 8952)).wf = false ∧
    (Instr.loadSectorPatch wfQ (wfLong 8952)).wf = false ∧
    (Instr.loadFirmwareCopy wfQ (wfLong 8952) false 0).wf = false ∧
    (Instr.hostBulkWrite wfQ (wfLong 8952)).wf = false ∧
    (Instr.hostBulkRead wfQ (wfLong 8952)).wf = false ∧
    (Instr.forwardedRequestReceive 0 0 0 0 (wfLong 8952) false (false, 0)).wf = false ∧
    (Instr.forwardResponseReceive 0 (wfLong 9000)).wf = false := by
  simp only [Instr.wf, atMost_wfLong, Bool.and_false, Bool.false_and, and_self]

theorem test_wf_refuses_long_4 : (Instr.cstEventRecordReceive 0 (wfLong 65536)).wf = false ∧
    (Instr.quoteDone (wfLong 65536)).wf = false ∧
    (Instr.ttiRxAccept 0 (wfLong 64)).wf = false := by
  simp only [Instr.wf, atMost_wfLong, Bool.and_false, Bool.false_and, and_self]

/-! ### The sequencer -/

/-- Track 1 runs a WAIT row for token 5 at row 0. -/
def tIssue : State :=
  let s := tS [(F.IMG_STATUS_ACTIVE, 0, 1), (F.SEQ_TKn_STATUS_STATE, 1, 1), (F.SEQ_TOKEN_COUNT, 5, 3), (F.SEQ_WATCHDOG_LIMIT, 0, 2)]
  { s with now := 2000001, seq := { s.seq with active := [(0, tRow opWait (5 * 2 ^ 97 + 2 ^ 109))], waitAt := [(1, 0)] } }

theorem test_itemIssue_takes_a_token : tIssue.Canon ∧ tIssue.trackTries 1 = true ∧
    (∀ m, m < 16 → m ≠ 1 → tIssue.trackTries m = false) ∧ tIssue.targetOut (tIssue.activeRow (tIssue.cursor 1)) = false ∧
    rowWait (tIssue.activeRow (tIssue.cursor 1)) = [5] ∧ rowPost (tIssue.activeRow (tIssue.cursor 1)) = [] ∧
    tIssue.tokensReady [5] = true ∧ (tIssue.trackItems 1).length < 32 ∧
    nx (exec .itemIssue tIssue) (fun t => t.token 5 = 2 && t.seq.nextId = 1 && t.seq.lastFirst = 1) = true := by decide +kernel

theorem test_tokenWaitWatchdog_raises : (tIssue.setf F.SEQ_TOKEN_COUNT 0 5).Canon ∧
    (tIssue.setf F.SEQ_TOKEN_COUNT 0 5).trackTries 1 = true ∧ (tIssue.setf F.SEQ_TOKEN_COUNT 0 5).tokensReady [5] = false ∧
    0 < tIssue.f F.SEQ_WATCHDOG_LIMIT ∧ tfind 1 tIssue.seq.waitAt = some 0 ∧
    0 + tIssue.f F.SEQ_WATCHDOG_LIMIT * 10 ^ 6 < tIssue.now ∧
    nx (exec (.tokenWaitWatchdog 1) (tIssue.setf F.SEQ_TOKEN_COUNT 0 5)) (fun t => t.f F.SEQ_EVENTS_WATCHDOG = 1) = true := by
  decide +kernel

/-- Item 7 issued and not started. -/
def tWait (row : Row256) : Item := { tItem row with running := false }

/-- A FORECAST of level 9 issued at time 0, and one of level 200 not yet started. -/
def tFc : State := tIn (tS []) [tWait (tRow opForecast (9 * 2 ^ 129))]

theorem test_itemStart_starts : tFc.Canon ∧ tFc.nextFor opForecast = some (tWait (tRow opForecast (9 * 2 ^ 129))) ∧
    tFc.item 7 = some (tWait (tRow opForecast (9 * 2 ^ 129))) ∧ tFc.startRes (tWait (tRow opForecast (9 * 2 ^ 129))) = .go ∧
    nx (exec (.itemStart opForecast) tFc) (fun t => (t.item 7).any fun j => j.running) = true := by decide +kernel

/-- A REDUCE whose decoded contribution has no checksum record (R142). -/
def tRefuse : State :=
  let s := tIn (tS []) [tWait (tRow opReduce (tSrc (tD 0 0 1)))]
  s.setCtx 0 { Ctx.invalid with valid := true, decoded := true }

theorem test_itemStart_refuses : tRefuse.Canon ∧ tRefuse.nextFor opReduce = some (tWait (tRow opReduce (tSrc (tD 0 0 1)))) ∧
    tRefuse.item 7 = some (tWait (tRow opReduce (tSrc (tD 0 0 1)))) ∧
    tRefuse.startRes (tWait (tRow opReduce (tSrc (tD 0 0 1)))) = .refuse .refusedFit ∧
    nx (exec (.itemStart opReduce) tRefuse) (fun t => tEnded tRefuse t .refusedFit) = true := by decide +kernel

theorem test_forecast_takes_the_level :
    (tIn (tS []) [tItem (tRow opForecast (9 * 2 ^ 129))]).Canon ∧
    (tIn (tS []) [tItem (tRow opForecast (9 * 2 ^ 129))]).runningItem 7 opForecast = some (tItem (tRow opForecast (9 * 2 ^ 129))) ∧
    nx (exec (.forecast 7) (tIn (tS []) [tItem (tRow opForecast (9 * 2 ^ 129))]))
      (fun t => tEnded (tS []) t .done && t.opt.level = 9 && t.f F.SEQ_FORECAST_LEVEL = 9) = true := by decide +kernel

/-- Level 200 in effect, level 9 announced 20 µs ago. -/
def tLower : State :=
  let s := tS [(F.SEQ_FORECAST_LEVEL, 0, 200)]
  { s with now := 20000, seq := { s.seq with forecasts := [⟨0, 9⟩] } }

theorem test_forecastLowerEffect_lowers : tLower.Canon ∧ (tLower.seq.forecasts.any fun f => tLower.elapsed f.at_ 20000) = true ∧
    tLower.startLevel < tLower.f F.SEQ_FORECAST_LEVEL ∧
    (tLower.seq.forecasts.any fun f => !tLower.elapsed f.at_ 20000 && decide (tLower.startLevel < f.level)) = false ∧
    nx (exec .forecastLowerEffect tLower) (fun t => t.f F.SEQ_FORECAST_LEVEL = 9) = true := by decide +kernel

theorem test_trackResume_restarts : (tS [(F.SEQ_TKn_STATUS_STATE, 2, 4), (F.SEQ_TKn_STATUS_CURSOR, 2, 77)]).Canon ∧
    (tS [(F.SEQ_TKn_STATUS_STATE, 2, 4), (F.SEQ_TKn_STATUS_CURSOR, 2, 77)]).track 2 = tkHalted ∧
    nx (exec (.trackResume 2) (tS [(F.SEQ_TKn_STATUS_STATE, 2, 4), (F.SEQ_TKn_STATUS_CURSOR, 2, 77)]))
      (fun t => t.track 2 = tkRunning && t.cursor 2 = 77) = true := by decide +kernel

theorem test_trackHalt_halts : (tS [(F.SEQ_TKn_STATUS_STATE, 15, 3)]).Canon ∧
    (tS [(F.SEQ_TKn_STATUS_STATE, 15, 3)]).track 15 = tkParked ∧
    nx (exec (.trackHalt 15) (tS [(F.SEQ_TKn_STATUS_STATE, 15, 3)])) (fun t => t.track 15 = tkHalted) = true := by decide +kernel

/-- Track 1 runs at row 40 with item 7 in flight. -/
def tAbort : State := tIn (tS [(F.SEQ_TKn_STATUS_STATE, 1, 1), (F.SEQ_TKn_STATUS_CURSOR, 1, 40)])
  [tItem (tRow opWait (2 ^ 40 * 9)), { tItem (tRow opWait) with id := 8, track := 2 }]

theorem test_trackAbort_ends_and_halts : tAbort.Canon ∧ tAbort.trackTwilight 1 = false ∧
    nx (exec (.trackAbort 1) tAbort) (fun t => tEnded tAbort t .failedAborted && t.track 1 = tkHalted && t.cursor 1 = 40 &&
      t.trackItems 1 = [] && (t.item 8).isSome) = true := by decide +kernel

/-- An active image, one HALT row in the shadow set. -/
def tArm : State := tS [(F.SEQ_ROWS_SHADOW, 0, 1), (F.IMG_STATUS_ACTIVE, 0, 1), (F.SEQ_SWAP_STEP_STEP, 0, 4), (F.SEQ_TKn_STEP_STEP, 3, 9)]

theorem test_arm_needs_the_fit : tArm.Canon ∧ tArm.seq.swap = none ∧ tArm.imageActive = true ∧ tArm.f F.IMG_STATUS_STATE ≠ 4 ∧
    (tArm.fitSwap tArm.shadowSet).1 = .done ∧ tArm.f F.CST_STATUS_MODE = 0 := by decide +kernel

theorem test_armStep_takes_the_largest_step :
    nx (exec .armStep tArm) (fun t => t.seq.swap = some .step && t.f F.SEQ_SWAP_STEP_STEP = 9 && t.f F.SEQ_SWAP_STATE = 1 &&
      t.f F.SEQ_STATUS_SWAP_ARMED = 1) = true := by decide +kernel

theorem test_armIdle_arms :
    nx (exec .armIdle tArm) (fun t => t.seq.swap = some .idle && t.f F.SEQ_SWAP_RESULT = 0 && t.f F.SEQ_SWAP_STATE = 1) = true := by
  decide +kernel

/-- An ARM_STEP swap armed for step 4, track 3 parked on it. -/
def tSwap : State :=
  let s := tS [(F.SEQ_TKn_STATUS_STATE, 3, 3), (F.SEQ_TKn_ENTRY_ACTIVE_EN, 3, 1), (F.SEQ_SWAP_STEP_STEP, 0, 4),
    (F.SEQ_MERIDIAN_STEP, 0, 4), (F.SEQ_TOKEN_COUNT, 4095, 8), (F.SEQ_ROWS_SHADOW, 0, 2), (F.SEQ_TKn_ENTRY_SHADOW, 3, 1),
    (F.SEQ_TKn_ENTRY_SHADOW_EN, 3, 1)]
  { s with seq := { s.seq with swap := some .step, active := [(0, 1)], shadow := [(1, 2)] } }

theorem test_arm_refused_while_armed : tSwap.Canon ∧ tSwap.seq.swap ≠ none ∧
    nx (exec .armStep tSwap) (fun t => t.f F.SEQ_SWAP_RESULT = 0x24 && t.seq.swap = some .step) = true := by decide +kernel

theorem test_cancel_releases : nx (exec .cancel tSwap) (fun t => t.seq.swap.isNone && t.f F.SEQ_SWAP_STATE = 3 &&
    t.track 3 = tkRunning && t.track 0 = tkIdle) = true := by decide +kernel

theorem test_swapStep_exchanges : tSwap.stepSwapDue = true ∧ tSwap.f F.SEQ_TKn_ENTRY_SHADOW_EN 3 = 1 ∧
    tSwap.trackTwilight 3 = false ∧
    nx (exec .swapStep tSwap) (fun t => t.seq.active = [(1, 2)] && t.token 4095 = 0 && t.track 3 = tkRunning && t.cursor 3 = 1 &&
      t.trackStep 3 = 5 && t.f F.SEQ_ROWS_ACTIVE = 2) = true := by decide +kernel

theorem test_swapIdle_exchanges : ({ tArm with seq := { tArm.seq with swap := some .idle } } : State).Canon ∧
    ({ tArm with seq := { tArm.seq with swap := some .idle, shadow := [(1, 2)] } } : State).idleSwapDue = true ∧
    nx (exec .swapIdle { tArm with seq := { tArm.seq with swap := some .idle, shadow := [(1, 2)] } })
      (fun t => t.seq.active = [(1, 2)] && t.seq.swap.isNone && t.f F.SEQ_SWAP_STATE = 2) = true := by decide +kernel

/-! ### The reduction array -/

/-- The FP32 codes of 1 and 3, little end first. -/
def one32 : List Byte := [0, 0, 0x80, 0x3F]
def three32 : List Byte := [0, 0, 0x40, 0x40]

/-- A REDUCE of 64 FP32 elements, 1 the first, at the start of tier S; `more` gives it a destination. -/
def tRed (more : Nat) (expect : Nat) (its : Item → Item) : State :=
  let s := tIn (tS [(F.SEQ_WATCHDOG_LIMIT, 0, 1)]) [its (tItem (tRow opReduce (tSrc (tD 0 0 1) + more)))]
  (s.setCtx 0 { Ctx.invalid with valid := true, expect := expect }).wrBytes 0 0 one32

theorem test_reduce_folds : (tRed 0 2 id).Canon ∧ tabWf (fun _ => Entry.zero) (tRed 0 2 id).arr.acc = true ∧
    (tRed 0 2 id).runningItem 7 opReduce = some (tItem (tRow opReduce (tSrc (tD 0 0 1)))) ∧ (tRed 0 2 id).rebuilding 0 = false ∧
    (tRed 0 2 id).absent (tItem (tRow opReduce (tSrc (tD 0 0 1)))) = false ∧
    rowDstValid (tRow opReduce (tSrc (tD 0 0 1))) = false ∧ rowStream (tRow opReduce (tSrc (tD 0 0 1))) = 0 ∧
    (tRed 0 2 id).fits [rowSrc (tRow opReduce (tSrc (tD 0 0 1)))] = true ∧
    (tRed 0 2 id).clean (tItem (tRow opReduce (tSrc (tD 0 0 1)))) fx0 = true ∧ (tRed 0 2 id).capped = false ∧
    (tRed 0 2 id).reduceDiffers (tItem (tRow opReduce (tSrc (tD 0 0 1)))) fx0 = false ∧
    nx (exec (.reduce 7 fx0) (tRed 0 2 id)) (fun t => tEnded (tRed 0 2 id) t .done && (t.entry 0 0).contrib = 1 &&
      (t.entry 0 0).sum = 2 ^ 255 && (t.entry 0 63).contrib = 1) = true := by decide +kernel

/-- The rounding item of an expected count of 1, which writes 1 at block 4 of tier S. -/
theorem test_reduce_rounds : (tRed (tDst (tD 0 4 1)) 1 id).Canon ∧
    (tRed (tDst (tD 0 4 1)) 1 id).runningItem 7 opReduce = some (tItem (tRow opReduce (tSrc (tD 0 0 1) + tDst (tD 0 4 1)))) ∧
    rowDstValid (tRow opReduce (tSrc (tD 0 0 1) + tDst (tD 0 4 1))) = true ∧
    (tRed (tDst (tD 0 4 1)) 1 id).fits [⟨0, 0, 256⟩, ⟨0, 1024, 256⟩] = true ∧
    (tRed (tDst (tD 0 4 1)) 1 id).clean (tItem (tRow opReduce (tSrc (tD 0 0 1) + tDst (tD 0 4 1)))) fx0 = true ∧
    (tRed (tDst (tD 0 4 1)) 1 id).reduceDiffers (tItem (tRow opReduce (tSrc (tD 0 0 1) + tDst (tD 0 4 1)))) fx0 = false ∧
    ((tRed (tDst (tD 0 4 1)) 1 id).addReduce (tItem (tRow opReduce (tSrc (tD 0 0 1) + tDst (tD 0 4 1)))) fx0).countsFull
      (tItem (tRow opReduce (tSrc (tD 0 0 1) + tDst (tD 0 4 1)))) = true ∧
    nx (exec (.reduce 7 fx0) (tRed (tDst (tD 0 4 1)) 1 id)) (fun t => tEnded (tRed 0 1 id) t .done &&
      t.rdBytes 0 1024 4 = one32 && t.arr.acc = []) = true := by decide +kernel

/-- The same with an expected count of 2: the item waits, and past 1 ms COUNT_WAIT is set. -/
theorem test_reduce_waits :
    ((tRed (tDst (tD 0 4 1)) 2 id).addReduce (tItem (tRow opReduce (tSrc (tD 0 0 1) + tDst (tD 0 4 1)))) fx0).countsFull
      (tItem (tRow opReduce (tSrc (tD 0 0 1) + tDst (tD 0 4 1)))) = false ∧
    nx (exec (.reduce 7 fx0) (tRed (tDst (tD 0 4 1)) 2 id)) (fun t => (t.item 7).any fun j => j.phase = 1) = true := by
  decide +kernel

theorem test_reduceCountWait_raises :
    ((tRed (tDst (tD 0 4 1)) 2 fun i => { i with phase := 1 }).runningItem 7 opReduce).any
      (fun it => decide (it.phase = 1) && !(tRed (tDst (tD 0 4 1)) 2 fun i => { i with phase := 1 }).countsFull it) = true ∧
    0 < (tRed (tDst (tD 0 4 1)) 2 fun i => { i with phase := 1 }).f F.SEQ_WATCHDOG_LIMIT ∧
    ({ tRed (tDst (tD 0 4 1)) 2 (fun i => { i with phase := 1 }) with now := 10 ^ 6 + 1 } : State).longer 0 (10 ^ 6) = true ∧
    nx (exec (.reduceCountWait 7) { tRed (tDst (tD 0 4 1)) 2 (fun i => { i with phase := 1 }) with now := 10 ^ 6 + 1 })
      (fun t => t.f F.ARR_EVENTS_COUNT_WAIT = 1) = true := by decide +kernel

/-- A REDUCE under rebuild, its block already added. -/
def tRebuild : State := tRed 0 2 fun i => { i with phase := 2, degraded := true }

theorem test_reduceRebuildDone_ends : tRebuild.Canon ∧ (tRebuild.runningItem 7 opReduce).any (fun it => it.phase = 2) = true ∧
    tRebuild.fits [⟨0, 0, 256⟩] = true ∧ tRebuild.capped = false ∧
    nx (exec (.reduceRebuildDone 7 4 false) tRebuild) (fun t => tEnded tRebuild t .doneDegraded) = true := by decide +kernel

/-- A rounding REDUCE under rebuild: its one contribution fills a count of 1, and not a count of 2. -/
def tRebuild2 (expect : Nat) : State := tRed (tDst (tD 0 4 1)) expect fun i => { i with phase := 2 }

theorem test_reduceRebuildDone_rounds : (tRebuild2 1).Canon ∧
    ((tRebuild2 1).runningItem 7 opReduce).any (fun it => decide (it.phase = 2) && rowDstValid it.row) = true ∧
    (tRebuild2 1).fits [⟨0, 0, 256⟩, ⟨0, 1024, 256⟩] = true ∧
    nx (exec (.reduceRebuildDone 7 4 false) (tRebuild2 1)) (fun t => tEnded (tS []) t .done && t.rdBytes 0 1024 4 = one32 &&
      t.arr.acc = []) = true := by decide +kernel

theorem test_reduceRebuildDone_waits :
    nx (exec (.reduceRebuildDone 7 4 false) (tRebuild2 2)) (fun t => (t.item 7).any (fun j => j.phase = 1) &&
      (t.entry 0 0).contrib = 1 && (tfind 0 t.arr.home).map Prod.fst = some 4) = true := by decide +kernel

theorem test_reduceRebuildDone_fails :
    nx (exec (.reduceRebuildDone 7 4 true) tRebuild) (fun t => tEnded tRebuild t .failedChecksum &&
      t.f F.ARR_EVENTS_REDO_FAILED = 1) = true := by decide +kernel

/-- A FORWARD header of one row of 64 columns and rank 1, FP32 throughout; its operand at 1 KiB, its accumulator at 2 KiB. -/
def tHdr (kind rows cols rank len : Nat) : List Byte :=
  leBytes 64 (kind + 2 ^ 32 * rows + 2 ^ 64 * cols + 2 ^ 96 * rank + 2 ^ 192 * tD 0 4 1 + 2 ^ 256 * tD 0 8 1 + 2 ^ 384 * len)

/-- A PROJECT of a piece whose first element is 1, by a Q whose first element is 3. -/
def tProj (op : Nat) (hdr : List Byte) (more : Nat) (its : Item → Item) : State :=
  let s := tIn (tS []) [its (tItem (tRow op (tSrc (tD 0 0 2) + more)))]
  ((s.wrBytes 0 0 hdr).wrBytes 0 64 one32).wrBytes 0 1024 three32

theorem test_project_folds : (tProj opProject (tHdr 1 1 64 1 64) 0 id).Canon ∧
    (tProj opProject (tHdr 1 1 64 1 64) 0 id).runningItem 7 opProject = some (tItem (tRow opProject (tSrc (tD 0 0 2)))) ∧
    rowPpe (tRow opProject (tSrc (tD 0 0 2))) = false ∧ rowDstValid (tRow opProject (tSrc (tD 0 0 2))) = false ∧
    (tProj opProject (tHdr 1 1 64 1 64) 0 id).fits
      ((tProj opProject (tHdr 1 1 64 1 64) 0 id).projectDescs (tRow opProject (tSrc (tD 0 0 2)))) = true ∧
    ((tProj opProject (tHdr 1 1 64 1 64) 0 id).readOps (tItem (tRow opProject (tSrc (tD 0 0 2)))) fx0).1 = .clean ∧
    nx (exec (.project 7 fx0) (tProj opProject (tHdr 1 1 64 1 64) 0 id)) (fun t =>
      tEnded (tProj opProject (tHdr 1 1 64 1 64) 0 id) t .done && (t.memEntry ⟨0, 2048, 48⟩ 0).contrib = 1 &&
        (t.memEntry ⟨0, 2048, 48⟩ 0).sum = 3 * 2 ^ 149) = true := by decide +kernel

/-- One tile is all that a row of 64 columns expects, so this piece rounds 3 into DST. -/
theorem test_project_rounds :
    ((tProj opProject (tHdr 1 1 64 1 64) (tDst (tD 0 12 1)) id).foldTiles ⟨0, 2048, 256⟩
      ((tProj opProject (tHdr 1 1 64 1 64) (tDst (tD 0 12 1)) id).pieceTiles (tRow opProject (tSrc (tD 0 0 2))))).projectFull
      (opHdrOf (tHdr 1 1 64 1 64)) = true ∧
    nx (exec (.project 7 fx0) (tProj opProject (tHdr 1 1 64 1 64) (tDst (tD 0 12 1)) id)) (fun t =>
      tEnded (tS []) t .done && t.rdBytes 0 3072 4 = three32) = true := by decide +kernel

/-- The same piece without DST: neither checksum differs. -/
theorem test_project_checks : (tProj opProject (tHdr 1 1 64 1 64) 0 id).pieceDiffers (tRow opProject (tSrc (tD 0 0 2))) = false ∧
    (tProj opProject (tHdr 1 1 64 1 64) (tDst (tD 0 12 1)) id).pieceDiffers (tRow opProject (tSrc (tD 0 0 2))) = false := by decide +kernel

/-- An ORTHO of no rows and one column: its Gram matrix is one zero, so both rounds clamp a pivot, and nothing is written. -/
def tOrtho0 (its : Item → Item) : State := tProj opOrtho (tHdr 3 0 1 1 1) (tDst (tD 0 12 1)) its

theorem test_ortho_commits : (tOrtho0 id).Canon ∧
    ((tOrtho0 id).runningItem 7 opOrtho).any (fun it => rowDstValid it.row && decide (it.phase = 0) &&
      decide (((tOrtho0 id).readOrtho it fx0).1 = .clean) && !(tOrtho0 id).orthoDiffers it.row) = true ∧
    (tOrtho0 id).fits [⟨0, 0, 512⟩, ⟨0, 3072, 256⟩] = true ∧ (tOrtho0 id).capped = false ∧
    nx (exec (.ortho 7 fx0) (tOrtho0 id)) (fun t => tEnded (tS []) t .done && t.f F.ARR_ORTHO_CLAMP_COUNT = 2) = true := by
  decide +kernel

theorem test_arrayRedoDone_ortho :
    ((tOrtho0 fun i => { i with phase := phRedo }).runningItem 7 opOrtho).any (fun it => decide (it.phase = phRedo) &&
      !(tOrtho0 fun i => { i with phase := phRedo }).redoDiffers it) = true ∧
    nx (exec (.arrayRedoDone 7 4 false) (tOrtho0 fun i => { i with phase := phRedo })) (fun t => tEnded (tS []) t .done) = true := by
  decide +kernel

/-- A PROJECT whose piece another sector folds again. -/
def tRedo (more : Nat) (cols : Nat) (its : Item → Item) : State :=
  tProj opProject (tHdr 1 1 cols 1 64) more fun i => its { i with phase := phRedo }

theorem test_arrayRedoDone_folds : ((tRedo 0 64 id).runningItem 7 opProject).any (fun it => decide (it.phase = phRedo) &&
      !(tRedo 0 64 id).redoDiffers it && !rowPpe it.row) = true ∧ (tRedo 0 64 id).capped = false ∧
    (tRedo 0 64 id).fits ((tRedo 0 64 id).projectDescs (tRow opProject (tSrc (tD 0 0 2)))) = true ∧
    nx (exec (.arrayRedoDone 7 4 false) (tRedo 0 64 id)) (fun t => tEnded (tS []) t .done &&
      (t.memEntry ⟨0, 2048, 48⟩ 0).contrib = 1) = true := by decide +kernel

theorem test_arrayRedoDone_rounds :
    ((tRedo (tDst (tD 0 12 1)) 64 id).runningItem 7 opProject).any (fun it => !(tRedo (tDst (tD 0 12 1)) 64 id).redoDiffers it) = true ∧
    nx (exec (.arrayRedoDone 7 4 false) (tRedo (tDst (tD 0 12 1)) 64 id)) (fun t => tEnded (tS []) t .done &&
      t.rdBytes 0 3072 4 = three32) = true := by decide +kernel

/-- A row of 128 columns expects two tiles, and the piece brings one. -/
theorem test_arrayRedoDone_waits :
    ((tRedo (tDst (tD 0 12 1)) 128 id).runningItem 7 opProject).any (fun it => !(tRedo (tDst (tD 0 12 1)) 128 id).redoDiffers it) = true ∧
    nx (exec (.arrayRedoDone 7 4 false) (tRedo (tDst (tD 0 12 1)) 128 id)) (fun t => (t.item 7).any (fun j => j.phase = 1) &&
      (t.memEntry ⟨0, 2048, 48⟩ 0).contrib = 1) = true := by decide +kernel

/-- A PROJECT that waits for its count and is rounded again; one tile of value 1 has been folded. -/
def tReround : State :=
  (tProj opProject (tHdr 1 1 64 1 64) (tDst (tD 0 12 1)) fun i => { i with phase := phReround }).setMemEntry ⟨0, 2048, 48⟩ 0
    (Entry.zero.fold toProj 1 (.fin false ⟨1, 0⟩))

theorem test_arrayRedoDone_rounds_again :
    (tReround.runningItem 7 opProject).any (fun it => decide (it.phase = phReround) && rowDstValid it.row &&
      tReround.fits (tReround.projectDescs it.row)) = true ∧
    (tReround.makeFolds ⟨0, 2048, 256⟩ (tReround.heldFolds 7)).projectFull (opHdrOf (tHdr 1 1 64 1 64)) = true ∧
    nx (exec (.arrayRedoDone 7 4 false) tReround) (fun t => tEnded (tS []) t .done && t.rdBytes 0 3072 4 = one32) = true := by
  decide +kernel

theorem test_arrayRedoDone_fails : ((tOrtho0 fun i => { i with phase := phReround }).runningItem 7 opOrtho).any
      (fun it => it.phase = phReround) = true ∧
    nx (exec (.arrayRedoDone 7 4 true) (tOrtho0 fun i => { i with phase := phReround }))
      (fun t => tEnded (tS []) t .failedChecksum && t.f F.ARR_EVENTS_REDO_FAILED = 1) = true := by decide +kernel

/-! ### The photonic engine -/

/-- A PPE item of `rows` rows of one column and rank 1 in the engine. -/
def tPpe (rows : Nat) (fs : List (Fld × Nat × Nat)) : State :=
  let s := tIn (tS ([(F.PPE_STATUS_LOCKED, 0, 1), (F.PPE_STATUS_STATE, 0, 0)] ++ fs)) [tItem (tRow opProject (tSrc (tD 0 64 9) + 2 ^ 16))]
  let s := (s.wrBytes 0 (64 * 256) (tHdr 1 rows 1 1 rows)).wrBytes 0 (64 * 256 + 64) one32
  { s with ppe := { s.ppe with item := some 7, k := 16 } }

def ppeRow : Row256 := tRow opProject (tSrc (tD 0 64 9) + 2 ^ 16)

theorem test_ppeBandStart_integrates : (tPpe 2 []).Canon ∧ ((tPpe 2 []).ppeItem 7).isSome = true ∧
    (tPpe 2 []).f F.PPE_STATUS_STATE = 0 ∧ (tPpe 2 []).ppe.integrating = false ∧ (tPpe 2 []).f F.PPE_STATUS_LOCKED = 1 ∧
    (tPpe 2 []).fits ((tPpe 2 []).projectDescs ppeRow) = true ∧
    nx (exec (.ppeBandStart 7 fx0) (tPpe 2 [])) (fun t => t.f F.PPE_STATUS_STATE = 1 && t.ppe.integrating && t.ppe.begun) = true := by
  decide +kernel

/-- The first of two bands integrates. -/
def tFold (rows : Nat) : State := tPpe rows [(F.PPE_STATUS_STATE, 0, 1)]

theorem test_ppeBandFold_can_run : (tFold 257).Canon ∧ ((tFold 257).ppeItem 7).isSome = true ∧ (tFold 257).f F.PPE_STATUS_STATE = 1 ∧
    (tFold 257).fits ((tFold 257).projectDescs ppeRow) = true ∧
    ((tFold 257).readOps (tItem ppeRow) fx0).1 = .clean ∧ (tFold 257).ppe.mismatches = 0 ∧
    (tFold 257).ppe.band + 1 < bandCount ((tFold 257).opHdr ppeRow) := by decide +kernel

/-- The last band of an item whose Q store holds no column: nothing differs and nothing is folded. -/
theorem test_ppeBandFold_commits : bandCount ((tFold 2).opHdr ppeRow) ≤ (tFold 2).ppe.band + 1 ∧ rowDstValid ppeRow = false ∧
    (tFold 2).bandMismatch ((tFold 2).codeBand ppeRow 0) ((tFold 2).bandSums ((tFold 2).codeBand ppeRow 0)) = false ∧
    nx (exec (.ppeBandFold 7 fx0) (tFold 2)) (fun t => tEnded (tS []) t .done && t.ppe.item.isNone) = true := by decide +kernel

/-- A Q store whose columns differ in length: nothing is integrated, and the checksum row names 64 · 5. -/
def tDiffer (n : Nat) : State :=
  { tFold 2 with ppe := { (tFold 2).ppe with mismatches := n, q := [⟨0, [], false⟩, ⟨0, [5], false⟩] } }

theorem test_ppeBandFold_mismatches :
    (tDiffer 1).bandMismatch ((tDiffer 1).codeBand ppeRow 0) ((tDiffer 1).bandSums ((tDiffer 1).codeBand ppeRow 0)) = true ∧
    nx (exec (.ppeBandFold 7 fx0) (tDiffer 0)) (fun t => t.ppe.mismatches = 1 && t.f F.PPE_REPEAT_COUNT = 1 && t.ppe.band = 0) = true ∧
    nx (exec (.ppeBandFold 7 fx0) (tDiffer 1)) (fun t => t.f F.PPE_FALLBACK_COUNT = 1 && t.f F.PPE_EVENTS_FALLBACK = 1) = true := by
  decide +kernel

/-- An integrating band, with ring 3 read far from its line. -/
def tFar : State := { tFold 257 with ppe := { (tFold 257).ppe with lockErr := [(3, 65535)] } }

theorem test_ppeLockLost_discards : tFar.Canon ∧ tFar.f F.PPE_STATUS_STATE = 1 ∧ tFar.f F.PPE_LOCK_TOL < 65535 ∧
    nx (exec .ppeLockLost tFar) (fun t => t.f F.PPE_STATUS_STATE = 4 && t.f F.PPE_STATUS_LOCKED = 0 &&
      t.f F.PPE_EVENTS_LOCK_LOST = 1) = true := by decide +kernel

/-- The band waits for lock since time 0, with ring 3 last read at an error. -/
def tNoLock (begun : Bool) (err : Nat) : State :=
  let s := tPpe 2 [(F.PPE_STATUS_STATE, 0, 4), (F.PPE_LOCK_WAIT, 0, 1)]
  { s with now := 1000, ppe := { s.ppe with lockLostAt := some 0, begun := begun, lockErr := [(3, err)] } }

theorem test_ppeLockReturn_integrates : (tNoLock true 0).Canon ∧ (tNoLock true 0).f F.PPE_STATUS_STATE = 4 ∧
    nx (exec .ppeLockReturn (tNoLock true 0)) (fun t => t.f F.PPE_STATUS_STATE = 1 && t.ppe.integrating &&
      t.f F.PPE_REPEAT_COUNT = 1) = true ∧
    nx (exec .ppeLockReturn (tNoLock true 65535)) (fun t => t.f F.PPE_STATUS_STATE = 4) = true ∧
    nx (exec .ppeLockReturn (tNoLock false 0)) (fun t => t.f F.PPE_STATUS_STATE = 1 && t.f F.PPE_REPEAT_COUNT = 0) = true := by
  decide +kernel

theorem test_ppeLockWaitExpired_falls_back : (tNoLock true 65535).ppe.item = some 7 ∧ ((tNoLock true 65535).item 7).isSome = true ∧
    (tNoLock true 65535).elapsed 0 ((tNoLock true 65535).f F.PPE_LOCK_WAIT * 1000) = true ∧
    (tNoLock true 65535).fits ((tNoLock true 65535).projectDescs ppeRow) = true ∧
    tilesDiffer true ((tNoLock true 65535).f F.ARR_ABFT_TOL) 1 (bandTiles ((tNoLock true 65535).opHdr ppeRow) ((tNoLock true 65535).bandOf ppeRow 0)) = false ∧
    nx (exec (.ppeLockWaitExpired fx0) (tNoLock true 65535)) (fun t => t.f F.PPE_FALLBACK_COUNT = 1 && t.f F.PPE_BANDS_COUNT = 1 &&
      t.f F.PPE_EVENTS_FALLBACK = 1) = true := by decide +kernel

/-- The first of two bands was run on the array, mismatched, and is done again there. -/
theorem test_arrayRedoDone_band :
    nx (exec (.arrayRedoDone 7 4 false) ((tFold 257).updItem 7 fun i => { i with phase := phRedo })) (fun t =>
      (t.item 7).any (fun j => j.phase = 0) && t.ppe.band = 1 && t.f F.PPE_BANDS_COUNT = 1) = true ∧
    (tFold 257).unitDark unitPpe = false ∧ rowPpe ppeRow = true ∧
    ((tFold 257).updItem 7 fun i => { i with phase := phRedo }).redoDiffers { tItem ppeRow with phase := phRedo } = false := by
  decide +kernel

/-- A photonic engine that is ready. -/
def tReady (fs : List (Fld × Nat × Nat)) : State := tS ((F.PPE_STATUS_STATE, 0, 0) :: fs)

theorem test_ppeCalQuick_starts : (tReady []).Canon ∧ (tReady []).ppe.cal = none ∧ (tReady []).f F.PPE_STATUS_STATE = 0 ∧
    nx (exec .ppeCalQuick (tReady [])) (fun t => t.ppe.cal = some (.quick, 0) && t.f F.PPE_STATUS_STATE = 2) = true := by decide +kernel

theorem test_ppeCalFull_starts : (tReady []).ppeInFlight = false ∧
    nx (exec .ppeCalFull (tReady [])) (fun t => t.ppe.cal = some (.full, 0) && t.f F.PPE_STATUS_STATE = 3) = true := by decide +kernel

theorem test_ppeCalFull_refused : (tFold 2).ppeInFlight = true ∧
    nx (exec .ppeCalFull (tFold 2)) (fun t => t.ppe.cal.isNone && t.f F.PPE_CAL_STATUS_RESULT = 0x24) = true := by decide +kernel

theorem test_ppeCalPeriod_starts : 0 < (tReady [(F.PPE_CAL_PERIOD, 0, 2)]).f F.PPE_CAL_PERIOD ∧
    ({ tReady [(F.PPE_CAL_PERIOD, 0, 2)] with now := 2000000 } : State).elapsed 0 (2 * 10 ^ 6) = true ∧
    nx (exec .ppeCalPeriod { tReady [(F.PPE_CAL_PERIOD, 0, 2)] with now := 2000000 }) (fun t => t.f F.PPE_STATUS_STATE = 2) = true := by
  decide +kernel

/-- The die moves from 0 to −1/2 °C with a limit of 1/4 °C in 1/4 °C: 8 sixteenths against 4. -/
theorem test_ppeTempDelta_starts : 4 * (tReady [(F.PPE_CAL_TEMP_DELTA, 0, 1)]).f F.PPE_CAL_TEMP_DELTA <
      (signed16 0xFFF8 - signed16 ((tReady [(F.PPE_CAL_TEMP_DELTA, 0, 1)]).f F.PPE_TEMP_AT_CAL)).natAbs ∧
    nx (exec (.ppeTempDelta 0xFFF8) (tReady [(F.PPE_CAL_TEMP_DELTA, 0, 1)])) (fun t => t.f F.PPE_TEMP_NOW = 0xFFF8 &&
      t.f F.PPE_STATUS_STATE = 2) = true := by decide +kernel

/-- A full calibration that began 20 ms ago. -/
def tCal : State :=
  let s := tS [(F.PPE_STATUS_STATE, 0, 3), (F.PPE_TEMP_NOW, 0, 33)]
  { s with now := 20000000, ppe := { s.ppe with cal := some (.full, 0), failed := true } }

theorem test_ppeCalDone_passes : tCal.Canon ∧ tCal.ppe.cal = some (.full, 0) ∧ tCal.elapsed 0 20000000 = true ∧
    tCal.ppe.calDue = false ∧ badGains [(3, 0x2000)] = [] ∧
    nx (exec (.ppeCalDone [(0, 5)] [(3, 0x2000)] [(1, 9)] [] []) tCal) (fun t => t.ppe.cal.isNone &&
      t.f F.PPE_STATUS_STATE = 0 && t.f F.PPE_TEMP_AT_CAL = 33 && t.f F.PPE_GAIN_GAIN 3 = 0x2000 &&
      t.f F.PPE_EVENTS_CAL_DONE = 1) = true := by decide +kernel

theorem test_ppeCalDone_fails : badGains [(70, 0x1FFF)] = [70] ∧
    nx (exec (.ppeCalDone [] [(70, 0x1FFF)] [] [] []) tCal) (fun t => t.f F.PPE_STATUS_STATE = 5 &&
      t.f F.PPE_CAL_STATUS_RESULT = 0x1C && t.f F.PPE_FAULT_COL_COLUMN = 64) = true := by decide +kernel

/-! ### Items that move, code and seal data -/

/-- Item 7 of a row in flight, with some bytes at the start of tier S. -/
def tRun (row : Row256) (bs : List Byte) (fs : List (Fld × Nat × Nat) := []) (its : Item → Item := id) : State :=
  (tIn (tS fs) [its (tItem row)]).wrBytes 0 0 bs

def mvRow : Row256 := tRow opMove (tSrc (tD 0 0 1) + tDst (tD 0 4 2))

theorem test_move_copies : (tRun mvRow [1, 2, 3]).Canon ∧ (tRun mvRow [1, 2, 3]).runningItem 7 opMove = some (tItem mvRow) ∧
    rowDstValid mvRow = true ∧ (tRun mvRow [1, 2, 3]).fits [rowSrc mvRow, rowDst mvRow] = true ∧
    (tRun mvRow [1, 2, 3]).clean (tItem mvRow) fx0 = true ∧
    nx (exec (.move 7 fx0) (tRun mvRow [1, 2, 3])) (fun t => tEnded (tS []) t .done && t.rdBytes 0 1024 4 = [1, 2, 3, 0] &&
      t.rdBytes 0 0 3 = [1, 2, 3]) = true := by decide +kernel

def mvcRow : Row256 := tRow opMove (tSrc (tD 0 0 1))

/-- The stream's circuit 0 in a state. -/
def tCirc (st : Nat) : Circuit :=
  { endpoint := 1, fibre := 2, lambda := 3, state := st, stream := 0, use := 0, remote := 0, claim := none, setupAt := 0
    fill := 0, raw := [] }

def tMvc (st : Nat) : State :=
  let s := tRun mvcRow [9]
  { s with fab := { s.fab with circuits := [(0, tCirc st)] } }

theorem test_move_goes_on_circuit : (tMvc 2).Canon ∧ rowDstValid mvcRow = false ∧ (tMvc 2).fits [rowSrc mvcRow] = true ∧
    (tMvc 2).clean (tItem mvcRow) fx0 = true ∧ (tMvc 2).circuitLive ((tMvc 2).circuitIx mvcRow) = true ∧
    nx (exec (.move 7 fx0) (tMvc 2)) (fun t => tEnded (tS []) t .done && t.out = [.circuit 0 (9 :: List.replicate 255 0)]) = true := by
  decide +kernel

theorem test_move_fails_on_dead_circuit : (tMvc 0).circuitLive ((tMvc 0).circuitIx mvcRow) = false ∧
    nx (exec (.move 7 fx0) (tMvc 0)) (fun t => tEnded (tS []) t .failedLink && t.f F.FAB_EVENTS_CIRCUIT_FAIL = 1) = true := by
  decide +kernel

theorem test_move_fails_on_bad_word : ((tRun mvRow []).readSrc 7 (rowSrc mvRow) { fx0 with ue := true }).1 = .failed ∧
    nx (exec (.move 7 { fx0 with ue := true }) (tRun mvRow [])) (fun t => tEnded (tS []) t .failedChecksum) = true := by
  decide +kernel

/-- A line block header without payload, sequence 9, part 0 of 1. -/
def blk9 : List Byte := [0x12, 0, 0, 0, 0, 0, 0, 9] ++ List.replicate 44 0
def sdRow : Row256 := tRow opSend (tSrc (tD 0 0 1) - 2 ^ 81)

theorem test_send_offers : (tRun sdRow blk9).Canon ∧ ((tRun sdRow blk9).runningItem 7 opSend).isSome = true ∧
    (tRun sdRow blk9).solo sdRow = false ∧ (tRun sdRow blk9).clean (tItem sdRow) fx0 = true ∧
    ((tRun sdRow blk9).blocksOf (rowSrc sdRow)).map LineBlk.seq = [9] ∧
    nx (exec (.send 7 fx0) (tRun sdRow blk9)) (fun t => (t.item 7).any fun j => j.phase = 1 && j.seqs = [9]) = true := by
  decide +kernel

theorem test_send_ends_when_acked : ((tRun sdRow [] [] fun i => { i with phase := 1 }).runningItem 7 opSend).any
      (fun it => it.phase = 1) = true ∧ ((tRun sdRow [] [] fun i => { i with phase := 1 }).sess 0).tx = [] ∧
    nx (exec (.send 7 fx0) (tRun sdRow [] [] fun i => { i with phase := 1 })) (fun t => tEnded (tS []) t .done) = true := by
  decide +kernel

/-- A row of entry 0 in a group of one site. -/
def soloRow (op more : Nat) : Row256 := BitVec.ofNat 256 (op + 2 ^ 8 + more)
def tSolo (op more : Nat) : State := tRun (soloRow op more) [] [(F.COL_ENTRY_A_SITES, 0, 1)]

theorem test_send_solo : ((tSolo opSend (tSrc (tD 0 0 1))).runningItem 7 opSend).any
      (fun it => (tSolo opSend (tSrc (tD 0 0 1))).solo it.row) = true ∧
    nx (exec (.send 7 fx0) (tSolo opSend (tSrc (tD 0 0 1)))) (fun t => tEnded (tS []) t .done && t.out = []) = true := by decide +kernel

theorem test_recv_solo : ((tSolo opRecv (tDst (tD 0 4 1))).runningItem 7 opRecv).any
      (fun it => (tSolo opRecv (tDst (tD 0 4 1))).solo it.row) = true ∧
    nx (exec (.recv 7) (tSolo opRecv (tDst (tD 0 4 1)))) (fun t => tEnded (tS []) t .done) = true := by decide +kernel

theorem test_open_solo : ((tSolo opOpen (tSrc (tD 0 0 1))).runningItem 7 opOpen).any
      (fun it => (tSolo opOpen (tSrc (tD 0 0 1))).solo it.row) = true ∧
    nx (exec (.openItem 7 fx0 []) (tSolo opOpen (tSrc (tD 0 0 1)))) (fun t => tEnded (tS []) t .done) = true := by decide +kernel

def rvRow : Row256 := tRow opRecv (tDst (tD 0 4 1))
/-- A chunk of step 5 with one part of two bytes. -/
def chunk5 (failed : Bool) : RxChunk :=
  { session := 0, stream := 0, step := 5, chunk := 0, parts := 1, adhoc := false, got := [(0, 3, [7, 8])], failed := failed }
def tRecv (failed : Bool) : State :=
  let s := tRun rvRow []
  { s with peer := { s.peer with rx := [chunk5 failed] } }

theorem test_recv_commits : (tRecv false).Canon ∧ ((tRecv false).runningItem 7 opRecv).isSome = true ∧
    (tRecv false).solo rvRow = false ∧ (tRecv false).fits [rowDst rvRow] = true ∧
    (tRecv false).recvChunk (tItem rvRow) = some (chunk5 false) ∧
    nx (exec (.recv 7) (tRecv false)) (fun t => tEnded (tS []) t .done && t.rdBytes 0 1024 2 = [7, 8]) = true := by decide +kernel

theorem test_recv_fails_when_abandoned : (tRecv true).recvChunk (tItem rvRow) = some (chunk5 true) ∧
    nx (exec (.recv 7) (tRecv true)) (fun t => tEnded (tS []) t .failedResendLimit) = true := by decide +kernel

def jnRow : Row256 := tRow opJournal (tSrc (tD 0 0 1))
/-- A generation 1 with key and salt zero. -/
def gen1 : KeyGen := KeyGen.mk' 1 0 0 0 0

/-- A JOURNAL item whose step was at or below the Meridian at issue. -/
def tJnDone : State := tRun jnRow [] [(F.SEQ_MERIDIAN_STEP, 0, 5)] fun i => { i with phase := 1 }

theorem test_journal_of_committed_step : tJnDone.Canon ∧ (tJnDone.runningItem 7 opJournal).any (fun it => it.phase = 1) = true ∧
    nx (exec (.journal 7 fx0) tJnDone) (fun t => tEnded (tS []) t .done && t.peer.journal = []) = true := by decide +kernel

/-- A journal reservation of 1 MiB in tier D and a key for it. -/
def tJn : State :=
  let s := tRun jnRow [] [(F.MEM_CAP_D_GIB, 0, 1)] fun i => { i with key := some (2, 1) }
  { s with ciph := { s.ciph with slots := [(2, [gen1])], uses := [(2, useJournal)] }, conf := { s.conf with journal := [(2, 0, 2 ^ 20)] } }

theorem test_journal_can_write : tJn.Canon ∧ (tJn.runningItem 7 opJournal).any (fun it => it.key = some (2, 1) && it.phase = 0) = true ∧
    tJn.fits [rowSrc jnRow] = true ∧ tJn.clean (tItem jnRow) fx0 = true ∧
    tJn.genOf 2 1 = some gen1 ∧ tJn.sealBooks (tItem jnRow) 0 (tJn.sealBytes (tItem jnRow)).length = [] ∧
    tJn.journalPlace (64 + (tJn.sealBytes (tItem jnRow)).length) = some (2, 0) := by decide +kernel

/-- The record takes 64 bytes of header and the 256 of SRC. -/
theorem test_journal_writes : nx (exec (.journal 7 fx0) tJn) (fun t => tEnded (tS []) t .done &&
    t.peer.journal.map (fun r => (r.step, r.tier, r.addr, r.len, r.number)) = [(5, 2, 0, 320, 0)]) = true := by decide +kernel

/-- A segment descriptor at block 16 of tier S: 4 elements, RAW, cblocks from block 4. -/
def tSeg (rate : Nat) : List Byte :=
  leBytes 64 (4 + rate * 2 ^ 80 + tD 0 4 2 * 2 ^ 128)
def tCod (op rate : Nat) (bs : List Byte) (src dst : Nat) : State :=
  let s := (tRun (tRow op (tSrc src + tDst dst)) bs).wrBytes 0 4096 (tSeg rate)
  s.setCtx 0 { Ctx.invalid with valid := true, segment := true, seg := tD 0 16 1 }

def enRow : Row256 := tRow opEncode (tSrc (tD 0 0 1) + tDst (tD 0 4 2))

theorem test_encode_writes_cblock : (tCod opEncode 0xF [1, 2, 3, 4] (tD 0 0 1) (tD 0 4 2)).Canon ∧
    ((tCod opEncode 0xF [1, 2, 3, 4] (tD 0 0 1) (tD 0 4 2)).seg
      ((tCod opEncode 0xF [1, 2, 3, 4] (tD 0 0 1) (tD 0 4 2)).ctx 0)).lowrank = false ∧
    (tCod opEncode 0xF [1, 2, 3, 4] (tD 0 0 1) (tD 0 4 2)).encodeSpan (tItem enRow) = (0, 0, 4) ∧
    (tCod opEncode 0xF [1, 2, 3, 4] (tD 0 0 1) (tD 0 4 2)).fits [rowSrc enRow, ⟨0, 4096, 64⟩, rowDst enRow] = true ∧
    ((tCod opEncode 0xF [1, 2, 3, 4] (tD 0 0 1) (tD 0 4 2)).readMany 7 (rowSrc enRow) [⟨0, 4096, 64⟩] fx0).1 = .clean ∧
    nx (exec (.encode 7 fx0) (tCod opEncode 0xF [1, 2, 3, 4] (tD 0 0 1) (tD 0 4 2))) (fun t => tEnded (tS []) t .done &&
      t.rdBytes 0 1024 13 = [0, 0, 0xF0, 0, 0, 0, 0, 0, 1, 2, 3, 4, 0] && t.f F.CMP_ENC_BLOCKS_COUNT = 1) = true := by decide +kernel

/-- A pass over a low-rank segment of one element. -/
def tLow (more : Nat) : State :=
  let s := (tRun (tRow opEncode (tSrc (tD 0 0 1) + more)) []).wrBytes 0 4096 (leBytes 64 (1 + 2 ^ 385))
  s.setCtx 0 { Ctx.invalid with valid := true, segment := true, seg := tD 0 16 1 }
def lowSeg : Seg := segOf (leBytes 64 (1 + 2 ^ 385))
def lowRow (more : Nat) : Row256 := tRow opEncode (tSrc (tD 0 0 1) + more)

theorem tLow_span (more : Nat) (h : (tLow more).seg ((tLow more).ctx (rowStream (lowRow more))) = lowSeg)
    (h2 : (rowSrc (lowRow more)).len = 256) : (tLow more).encodeSpan (tItem (lowRow more)) = (0, 0, 1) := by
  have e : (tItem (lowRow more)).row = lowRow more := rfl
  have a : lowSeg.lowrank = true := by decide +kernel
  have b : lowSeg.elems = 1 := by decide +kernel
  have c : srcSize lowSeg = 4 := by decide +kernel
  simp [State.encodeSpan, e, h, h2, a, b, c, Nat.mod_one]

theorem test_encode_lowrank : (tLow (tDst (tD 0 4 1))).Canon ∧ (tLow (tDst (tD 0 4 1))).encodeSpan (tItem (lowRow (tDst (tD 0 4 1)))) = (0, 0, 1) ∧
    ((tLow (tDst (tD 0 4 1))).runningItem 7 opEncode).any (fun it => rowDstValid it.row) = true ∧
    (tLow (tDst (tD 0 4 1))).fits [⟨0, 0, 256⟩, ⟨0, 4096, 64⟩, ⟨0, 1024, 256⟩] = true ∧
    ((tLow (tDst (tD 0 4 1))).readMany 7 ⟨0, 0, 256⟩ [⟨0, 4096, 64⟩] fx0).1 = .clean :=
  ⟨by decide +kernel, tLow_span _ (by decide +kernel) (by decide +kernel), by decide +kernel, by decide +kernel, by decide +kernel⟩

theorem test_encode_lowrank_leaves_residuals : (tLow 0).Canon ∧ (tLow 0).encodeSpan (tItem (lowRow 0)) = (0, 0, 1) ∧
    ((tLow 0).runningItem 7 opEncode).any (fun it => !rowDstValid it.row) = true ∧
    (tLow 0).fits [⟨0, 0, 256⟩, ⟨0, 4096, 64⟩, ⟨0, 0, 4⟩] = true ∧
    ((tLow 0).readMany 7 ⟨0, 0, 256⟩ [⟨0, 4096, 64⟩, ⟨0, 0, 4⟩] fx0).1 = .clean :=
  ⟨by decide +kernel, tLow_span _ (by decide +kernel) (by decide +kernel), by decide +kernel, by decide +kernel, by decide +kernel⟩

theorem test_encodeResidualCopy_copies :
    nx (exec (.encodeResidualCopy 7) { tS [] with cmp := { (tS []).cmp with copies := [⟨7, 0, 512, [5, 6], false⟩] } })
      (fun t => t.rdBytes 0 511 4 = [0, 5, 6, 0] && t.cmp.copies = []) = true := by decide +kernel

/-- The RAW cblock of block 0 with elements 1, 2, 3, 4. -/
def rawBlk : List Byte := [0, 0, 0xF0, 0, 0, 0, 0, 0, 1, 2, 3, 4]
def deRow : Row256 := tRow opDecode (tSrc (tD 0 0 2) + tDst (tD 0 4 1))

theorem test_decode_writes_elements : (tCod opDecode 0xF rawBlk (tD 0 0 2) (tD 0 4 1)).solo deRow = false ∧
    ((tCod opDecode 0xF rawBlk (tD 0 0 2) (tD 0 4 1)).readMany 7 (rowSrc deRow) [⟨0, 4096, 64⟩] fx0).1 = .clean ∧
    (tCod opDecode 0xF rawBlk (tD 0 0 2) (tD 0 4 1)).decodeStop (tItem deRow) = none ∧ rowSrcBits deRow ≠ rowDstBits deRow ∧
    nx (exec (.decode 7 fx0) (tCod opDecode 0xF rawBlk (tD 0 0 2) (tD 0 4 1))) (fun t => tEnded (tS []) t .done &&
      t.rdBytes 0 1024 5 = [1, 2, 3, 4, 0] && t.f F.CMP_DEC_BLOCKS_COUNT = 1 && t.arr.decRecs.length = 1) = true := by decide +kernel

/-- A coded cblock of generation 3 of which no record is held. -/
theorem test_decode_fails_without_book :
    (tCod opDecode 4 [3, 0x7F, 0x40] (tD 0 0 2) (tD 0 4 1)).decodeStop (tItem deRow) = some (.gone ⟨3, 0x7F, 4, 0, 0, 0⟩) ∧
    nx (exec (.decode 7 fx0) (tCod opDecode 4 [3, 0x7F, 0x40] (tD 0 0 2) (tD 0 4 1))) (fun t => tEnded (tS []) t .failedTableGone &&
      t.f F.CMP_TABLE_GONE_COUNT = 1) = true := by decide +kernel

/-- The same cblock with its block number 1 where it should go on from itself alone: the segment has one block. -/
theorem test_decode_fails_length :
    (tCod opDecode 0xF [0, 0, 0xF0, 0, 0, 0, 0, 1] (tD 0 0 2) (tD 0 4 1)).decodeStop (tItem deRow) =
      some (.length 3 0 ⟨0, 0, 15, 0, 0, 1⟩) ∧
    nx (exec (.decode 7 fx0) (tCod opDecode 0xF [0, 0, 0xF0, 0, 0, 0, 0, 1] (tD 0 0 2) (tD 0 4 1))) (fun t =>
      tEnded (tS []) t .failedLength && t.f F.CMP_LENGTH_COUNT = 1) = true := by decide +kernel

/-- No ENCODE row of the entry is left, so nothing stands for its contribution. -/
theorem test_decode_solo :
    (((tSolo opDecode (tDst (tD 0 4 1))).setCtx 0 { Ctx.invalid with keySlot := 5 }).runningItem 7 opDecode).any (fun it =>
      ((tSolo opDecode (tDst (tD 0 4 1))).setCtx 0 { Ctx.invalid with keySlot := 5 }).solo it.row) = true ∧
    ((tSolo opDecode (tDst (tD 0 4 1))).setCtx 0 { Ctx.invalid with keySlot := 5 }).ctx 0 = { Ctx.invalid with keySlot := 5 } ∧
    nx (exec (.decode 7 fx0) ((tSolo opDecode (tDst (tD 0 4 1))).setCtx 0 { Ctx.invalid with keySlot := 5 })) (fun t =>
      tEnded (tS []) t .done) = true := by decide +kernel

def fpRow : Row256 := tRow opFirstpass (tSrc (tD 0 0 1))

/-- A first pass over zeros at rate 2: the evenly spaced book with LIM 2, which ascends to 3/4 of it. -/
theorem test_firstpass_installs : (tCod opFirstpass 2 [] (tD 0 0 1) 0).Canon ∧
    (tCod opFirstpass 2 [] (tD 0 0 1) 0).prevBook 0 = none ∧ (tCod opFirstpass 2 [] (tD 0 0 1) 0).capped = false ∧
    ((tCod opFirstpass 2 [] (tD 0 0 1) 0).readMany 7 (rowSrc fpRow) [⟨0, 4096, 64⟩] fx0).1 = .clean ∧
    nx (exec (.firstpass 7 fx0) (tCod opFirstpass 2 [] (tD 0 0 1) 0)) (fun t => tEnded (tS []) t .done &&
      (t.curBook 0).any (fun b => b.gen = 1 && b.lim = 0x40000000 && b.levels = [0x3F00, 0x3FC0]) &&
      t.f F.CMP_FIRSTPASS_COUNT = 1) = true := by decide +kernel

theorem test_firstpassPinWait_raises : ((tRun fpRow [] [(F.SEQ_WATCHDOG_LIMIT, 0, 1)] fun i => { i with phase := 1 }).runningItem
      7 opFirstpass).any (fun it => it.phase = 1) = true ∧
    nx (exec (.firstpassPinWait 7) { tRun fpRow [] [(F.SEQ_WATCHDOG_LIMIT, 0, 1)] (fun i => { i with phase := 1 }) with now := 10 ^ 6 + 1 })
      (fun t => t.f F.CMP_EVENTS_PIN_WAIT = 1) = true := by decide +kernel

/-- A live record of slot 3. -/
def tBook (gen : Nat) (current : Bool) : Book :=
  { gen := gen, rate := 2, live := true, current := current, acked := false, fixed := false, conflicted := false, lim := 0x40000000
    step := 0, lastUse := 0, levels := [0x3F00, 0x3FC0], doomed := false }
def tBooks : State :=
  { tS [] with
    cmp := { (tS []).cmp with books := [(6, tBook 1 false), (7, tBook 2 true)], sends := [⟨1, 3, 9, 2, 0⟩]
                              waits := [⟨1, 3, 9, ⟨3, 2, 0x40000000, 8, [0x3F00, 0x3FC0]⟩⟩] }
    now := 200000 }

theorem test_codebookInstallDeferred_installs : tBooks.Canon ∧ tBooks.mustRetire 3 = some (tBook 1 false) ∧ tBooks.bookPins 3 1 = 0 ∧
    (tBooks.cmp.waits.find? fun w => w.slot = 3).isSome = true ∧
    nx (exec (.codebookInstallDeferred 3) tBooks) (fun t => (t.curBook 3).any (fun b => b.gen = 3) && t.cmp.waits = [] &&
      (t.sess 1).cbAcks = [(9, 3, 8)]) = true := by decide +kernel

theorem test_codebookRepeat_sends_again : tBooks.bookOf 3 2 = some (tBook 2 true) ∧ (tBooks.sess 1).tx = [] ∧
    tBooks.elapsed 0 (3 * max (tBooks.rtt 1 0) (tBooks.rtt 1 1) / 2 + 200000) = true ∧
    nx (exec (.codebookRepeat 1 3 2) tBooks) (fun t => t.cmp.sends = [⟨1, 3, 9, 2, 200000⟩]) = true := by decide +kernel

def slRow : Row256 := tRow opSeal (tSrc (tD 0 0 1) + tDst (tD 0 4 2))
def tSl : State :=
  let s := tRun slRow [1] [] fun i => { i with key := some (0, 1), seqs := [0x01020304] }
  { s with ciph := { s.ciph with slots := [(0, [gen1])] } }

theorem test_seal_seals : tSl.Canon ∧ (tSl.runningItem 7 opSeal).any (fun it => it.key = some (0, 1)) = true ∧
    tSl.fits [rowSrc slRow, rowDst slRow] = true ∧ tSl.clean (tItem slRow) fx0 = true ∧ tSl.genOf 0 1 = some gen1 ∧
    nx (exec (.seal 7 fx0 []) tSl) (fun t => tEnded (tS []) t .done) = true := by
  decide +kernel

theorem test_seal_fails_when_erased : ({ tSl with ciph := { tSl.ciph with slots := [] } } : State).genOf 0 1 = none ∧
    nx (exec (.seal 7 fx0 []) { tSl with ciph := { tSl.ciph with slots := [] } }) (fun t => tEnded (tS []) t .failedKeyErased) = true := by
  decide +kernel

def opRow : Row256 := tRow opOpen (tSrc (tD 0 0 1) + tDst (tD 0 4 2))

/-- A range too short for the block its header claims holds no line block, so no tag can fail. -/
theorem test_open_commits : (tRun opRow (List.replicate 16 0xFF)).blocksOf (rowSrc opRow) = [] ∧
    (tRun opRow (List.replicate 16 0xFF)).clean (tItem opRow) fx0 = true ∧
    nx (exec (.openItem 7 fx0 []) (tRun opRow (List.replicate 16 0xFF))) (fun t => tEnded (tS []) t .done) = true := by decide +kernel

/-- A sealed block of two bytes, opened under the generation that sealed it. -/
def tOp : State :=
  let s := tRun opRow []
  let s := { s with ciph := { s.ciph with slots := [(0, [gen1])] } }
  let h : Head :=
    { kind := kData, adhoc := false, abandon := false, relay := false, cls := 0, origin := 0, step := 0, stream := 0, chunk := 0
      part := 0, parts := 1 }
  s.wrBytes 0 0 (s.sealBlock 0 h 9 gen1 [7, 8])

theorem test_open_opens : tOp.Canon ∧ ((tOp.blocksOf (rowSrc opRow)).map fun b => tOp.openOne (tItem opRow) b) = [some [7, 8]] ∧
    nx (exec (.openItem 7 fx0 []) tOp) (fun t => tEnded (tS []) t .done && t.rdBytes 0 1024 3 = [7, 8, 0]) = true := by decide +kernel

theorem test_open_asks_again : (((tRun opRow []).blocksOf (rowSrc opRow)).all fun b => ((tRun opRow []).openOne (tItem opRow) b).isSome) = false ∧
    nx (exec (.openItem 7 fx0 []) (tRun opRow [])) (fun t => (t.item 7).any (fun j => j.phase = 1 && j.resent) &&
      t.cmp.refetch = [(7, 0, [0])]) = true := by decide +kernel

theorem test_open_fails_again : (((tRun opRow [] [] fun i => { i with phase := 1 }).blocksOf (rowSrc opRow)).all fun b =>
      ((tRun opRow [] [] fun i => { i with phase := 1 }).openOne (tItem opRow) b).isSome) = false ∧
    nx (exec (.openItem 7 fx0 []) (tRun opRow [] [] fun i => { i with phase := 1 })) (fun t => tEnded (tS []) t .failedTag) = true := by
  decide +kernel

/-! ### The arithmetic of the ciphers, on published examples -/

/-- The AES-256 example of FIPS 197, appendix C.3. -/
theorem test_aes256_example : aesEnc (aesKeys (List.range 32)) ((List.range 16).map (· * 17)) =
    [0x8e, 0xa2, 0xb7, 0xca, 0x51, 0x67, 0x45, 0xbf, 0xea, 0xfc, 0x49, 0x90, 0x4b, 0x49, 0x60, 0x89] := by decide +kernel

/-- SHA-256 of "abc" (FIPS 180). -/
theorem test_sha256_example : sha256 [0x61, 0x62, 0x63] =
    [0xba, 0x78, 0x16, 0xbf, 0x8f, 0x01, 0xcf, 0xea, 0x41, 0x41, 0x40, 0xde, 0x5d, 0xae, 0x22, 0x23,
     0xb0, 0x03, 0x61, 0xa3, 0x96, 0x17, 0x7a, 0x9c, 0xb4, 0x10, 0xff, 0x61, 0xf2, 0x00, 0x15, 0xad] := by decide +kernel

/-- CRC-32C of the digits 1 to 9. -/
theorem test_crc32c_example : crc32c [0x31, 0x32, 0x33, 0x34, 0x35, 0x36, 0x37, 0x38, 0x39] = 0xE3069283 := by decide +kernel

/-- Test case 14 of the GCM specification: key and IV zero, one block of zeros. -/
theorem test_gcm_example : gcmSeal (aesKeys (List.replicate 32 0)) (List.replicate 12 0) [] (List.replicate 16 0) =
    ([0xce, 0xa7, 0x40, 0x3d, 0x4d, 0x60, 0x6b, 0x6e, 0x07, 0x4e, 0xc5, 0xd3, 0xba, 0xf3, 0x9d, 0x18],
     [0xd0, 0xd1, 0xc8, 0xa7, 0x99, 0x99, 0x6b, 0xf0, 0x26, 0x5b, 0x98, 0xb5, 0xd4, 0x8a, 0xb9, 0x19]) := by decide +kernel

/-! ### Expin requests -/

/-- Request 9 of the host, outside every transaction and snapshot, under the bootstrap key. -/
def tQ : Req := { seq := 9, gen := none, inTxn := false, inSnap := false, txn := 0 }

/-- A state in stage 7 out of reset, with fields set. -/
def tUp (fs : List (Fld × Nat × Nat)) : State :=
  let s := tS ((F.GLB_STATUS_STAGE, 0, 7) :: fs)
  { s with pwr := { s.pwr with porst := false } }

/-- The newest answer kept is to request 9 and has a code. -/
def tSays (t : State) (st : Status) : Bool := decide (t.lastAnswer = some (9, st.code))

theorem test_tokenWrite_sets_a_counter : (tUp []).Canon ∧ (tUp []).hears tQ = true ∧ (∀ n, n < 16 →
    (tUp []).track n ≠ tkRunning ∧ (tUp []).track n ≠ tkWaiting ∧ (tUp []).track n ≠ tkParked) ∧
    nx (exec (.tokenWrite tQ 4095 0xAB) (tUp [])) (fun t => tSays t .done && t.token 4095 = 0xAB) = true := by decide +kernel

theorem test_tokenWrite_waits_for_tracks : (tUp [(F.SEQ_TKn_STATUS_STATE, 15, 1)]).Canon ∧
    (tUp [(F.SEQ_TKn_STATUS_STATE, 15, 1)]).track 15 = tkRunning ∧ (tUp [(F.SEQ_TKn_STATUS_STATE, 15, 1)]).hears tQ = true ∧
    nx (exec (.tokenWrite tQ 0 1) (tUp [(F.SEQ_TKn_STATUS_STATE, 15, 1)])) (fun t => tSays t .refusedBusy && t.token 0 = 0) = true := by
  decide +kernel

theorem test_hardware_windows_refuse :
    nx (exec (.activeWindowWrite tQ 0 1) (tUp [])) (fun t => tSays t .refusedBusy) = true ∧
    nx (exec (.circuitTableWrite tQ (2 ^ 32 - 8) 1) (tUp [])) (fun t => tSays t .refusedBusy) = true ∧
    nx (exec (.contextWindowWrite tQ 64 1) (tUp [])) (fun t => tSays t .refusedBusy) = true := by decide +kernel

/-- A swap armed. -/
def tArmed : State := let s := tUp []; { s with seq := { s.seq with swap := some .idle } }

theorem test_shadowWindowWrite_takes_a_word : tabWf (fun _ => (0 : Row256)) (tUp []).seq.shadow = true ∧ (tUp []).seq.swap = none ∧
    nx (exec (.shadowWindowWrite tQ (2 ^ 25 - 8) 77) (tUp [])) (fun t => tSays t .done && setWord64 t.seq.shadow (2 ^ 25 - 8) = 77) = true ∧
    tArmed.Canon ∧ tArmed.hears tQ = true ∧ tArmed.seq.swap ≠ none ∧
    nx (exec (.shadowWindowWrite tQ 0 77) tArmed) (fun t => tSays t .refusedBusy && t.seq.shadow = []) = true := by decide +kernel

theorem test_ppeCalTableWrite_while_dark : (tUp []).calWritable = true ∧
    nx (exec (.ppeCalTableWrite tQ 0 319 0x1234) (tUp [])) (fun t => tSays t .done && t.f F.PPE_DARK_DARK 319 = 0x1234) = true ∧
    nx (exec (.ppeCalTableWrite tQ 1 319 0x1234) (tUp [])) (fun t => t.f F.PPE_GAIN_GAIN 319 = 0x1234) = true ∧
    nx (exec (.ppeCalTableWrite tQ 2 319 0x9876000000001234) (tUp []))
      (fun t => t.f F.PPE_XT_COEF0 319 = 0x1234 && t.f F.PPE_XT_COEF3 319 = 0x9876) = true ∧
    (tUp [(F.PPE_STATUS_STATE, 0, 1)]).Canon ∧ (tUp [(F.PPE_STATUS_STATE, 0, 1)]).hears tQ = true ∧
    (tUp [(F.PPE_STATUS_STATE, 0, 1)]).calWritable = false ∧
    nx (exec (.ppeCalTableWrite tQ 0 16383 5) (tUp [(F.PPE_STATUS_STATE, 0, 1)]))
      (fun t => tSays t .refusedBusy && t.f F.PPE_DARK_DARK 16383 = 0) = true := by decide +kernel

theorem test_optXtWrite_while_the_tile_is_down : (tUp []).tileSlotUp 3 = false ∧
    nx (exec (.optXtWrite tQ 3 449 0xFFFF000000000007) (tUp []))
      (fun t => tSays t .done && t.f F.OPT_Tt_XT_COEF0 1799 = 7 && t.f F.OPT_Tt_XT_COEF3 1799 = 0xFFFF) = true ∧
    (tUp [(F.FAB_Fk_CFG_UP, 15, 1)]).Canon ∧ (tUp [(F.FAB_Fk_CFG_UP, 15, 1)]).hears tQ = true ∧
    (tUp [(F.FAB_Fk_CFG_UP, 15, 1)]).tileSlotUp 3 = true ∧
    nx (exec (.optXtWrite tQ 3 0 1) (tUp [(F.FAB_Fk_CFG_UP, 15, 1)])) (fun t => tSays t .refusedBusy) = true := by decide +kernel

theorem test_gcsMapWrite_one_port_a_channel :
    (∀ m, m < 4 → m ≠ 3 → (tUp []).f F.LINE_GCS_MAP_PORT m ≠ (0x25 : Word).toNat % 16 ∨
      (tUp []).f F.LINE_GCS_MAP_CHANNEL m ≠ (0x25 : Word).toNat / 16 % 4) ∧
    nx (exec (.gcsMapWrite tQ 3 0x25) (tUp []))
      (fun t => tSays t .done && t.f F.LINE_GCS_MAP_PORT 3 = 5 && t.f F.LINE_GCS_MAP_CHANNEL 3 = 2) = true ∧
    (tUp [(F.LINE_GCS_MAP_PORT, 0, 5), (F.LINE_GCS_MAP_CHANNEL, 0, 2)]).Canon ∧
    (tUp [(F.LINE_GCS_MAP_PORT, 0, 5), (F.LINE_GCS_MAP_CHANNEL, 0, 2)]).hears tQ = true ∧
    nx (exec (.gcsMapWrite tQ 3 0x25) (tUp [(F.LINE_GCS_MAP_PORT, 0, 5), (F.LINE_GCS_MAP_CHANNEL, 0, 2)]))
      (fun t => tSays t .refusedBusy && t.f F.LINE_GCS_MAP_PORT 3 = 0) = true := by decide +kernel

/-- The header of a run (R595): words less one, address. -/
def tRunHd (a : Nat) : List Byte := beBytes 8 a

theorem test_read_answers_a_word : checkedRuns false (tRunHd R.GLB_SCRATCH.base) = .ok [Run.mk R.GLB_SCRATCH.base 1 []] ∧
    nx (exec (.read tQ (tRunHd R.GLB_SCRATCH.base)) (tUp [(F.GLB_SCRATCH_VALUE, 0, 0x1122)])) (fun t =>
      t.host.answered.getLast? = some (none, 9, .response 9 0 0 0 [0, 0, 0, 0, 0, 0, 0x11, 0x22])) = true ∧
    checkedRuns false (tRunHd 0x21) = .error 0 ∧
    nx (exec (.read tQ (tRunHd 0x21)) (tUp [])) (fun t =>
      t.host.answered.getLast? = some (none, 9, .response 9 0x20 0 0 [0])) = true := by decide +kernel

theorem test_write_all_or_none :
    checkedRuns true (tRunHd R.GLB_SCRATCH.base ++ beBytes 8 5) = .ok [Run.mk R.GLB_SCRATCH.base 1 [5]] ∧
    nx (exec (.write tQ (tRunHd R.GLB_SCRATCH.base ++ beBytes 8 5)) (tUp [])) (fun t =>
      tSays t .done && t.f F.GLB_SCRATCH_VALUE = 5 && t.f F.GLB_VIEW_VIEW = 1) = true ∧
    tableOf 0x1000000000 = some 0 ∧
    checkedRuns true (tRunHd R.GLB_SCRATCH.base ++ beBytes 8 5 ++ tRunHd 0x1000000000 ++ beBytes 8 6) =
      .ok [Run.mk R.GLB_SCRATCH.base 1 [5], Run.mk 0x1000000000 1 [6]] ∧
    nx (exec (.write tQ (tRunHd R.GLB_SCRATCH.base ++ beBytes 8 5 ++ tRunHd 0x1000000000 ++ beBytes 8 6)) (tUp [])) (fun t =>
      tSays t .refusedBusy && t.f F.GLB_SCRATCH_VALUE = 0) = true ∧
    checkedRuns true (tRunHd 0x1500000000 ++ beBytes 8 5) = .error 0 := by decide +kernel

/-- Transaction 4 open, holding a write of GLB_SCRATCH; the picture it began with shows another value when `old` is not 0. -/
def tTxn (old : Nat) : State :=
  let s := tUp []
  let p := (s.setf F.GLB_SCRATCH_VALUE old).picture
  { s with host := { s.host with txns := [HTxn.mk 4 p 0 [.word R.GLB_SCRATCH.base 6]], lastTxn := 4 } }

def tQ4 : Req := { tQ with txn := 4 }

theorem test_txnBegin_opens : (tUp []).host.txns.length < 16 ∧
    nx (exec (.txnBegin tQ) (tUp [])) (fun t => tSays t .done && t.host.lastTxn = 1 && t.host.txns.map HTxn.id = [1]) = true ∧
    nx (exec (.txnBegin tQ) { tTxn 0 with host := { (tTxn 0).host with txns := List.replicate 16 ((tTxn 0).host.txns.headD
      (HTxn.mk 0 (tUp []).picture 0 [])) } }) (fun t => tSays t .refusedBusy) = true := by decide +kernel

theorem test_txnCommit_applies_and_closes : (tTxn 0).Canon ∧ (tTxn 0).hears tQ4 = true ∧ (tTxn 0).txnParts 4 = [] ∧
    ((tTxn 0).txn 4).map HTxn.ops = some [.word R.GLB_SCRATCH.base 6] ∧
    nx (exec (.txnCommit tQ4 [0]) (tTxn 0)) (fun t => tSays t .done && t.f F.GLB_SCRATCH_VALUE = 6 && (t.txn 4).isNone) = true := by
  decide +kernel

theorem test_txnCommit_check_refuses : (tTxn 3).Canon ∧ (tTxn 3).hears tQ4 = true ∧
    (((tTxn 3).txn 4).any fun x => x.ops.any fun o => ((tTxn 3).ask tQ4).beforeCommit.changedSince x.base o) = true ∧
    nx (exec (.txnCommit tQ4 [1]) (tTxn 3)) (fun t => tSays t .refusedBusy && t.f F.GLB_SCRATCH_VALUE = 0 && (t.txn 4).isNone) = true := by
  decide +kernel

/-- The same, and a snapshot opened at time 0, ten seconds on. -/
def tOld : State :=
  let s := tTxn 0
  { s with now := 10 ^ 10, host := { s.host with snaps := [Snap.mk 1 s.picture 0], lastSnap := 1 } }

theorem test_snapshot_opens_and_closes : (tUp []).host.snaps.length < 8 ∧
    nx (exec (.snapshotOpen tQ) (tUp [])) (fun t => tSays t .done && t.host.snaps.map Snap.id = [1]) = true ∧
    tOld.Canon ∧ tOld.hears { tQ with txn := 1 } = true ∧ (tOld.host.snaps.any fun x => x.id = 1) = true ∧
    nx (exec (.snapshotClose { tQ with txn := 1 }) tOld) (fun t => tSays t .done && t.host.snaps = []) = true := by decide +kernel

theorem test_idle_ones_expire : (tOld.txn 4).isSome = true ∧ tOld.elapsed 0 tOld.txnIdleNs = true ∧ tOld.cstMember = false ∧
    tOld.cst.commits = [] ∧ nx (exec (.txnExpired 4) tOld) (fun t => (t.txn 4).isNone && t.f F.HOST_EVENTS_TXN_EXPIRED = 1) = true ∧
    tOld.host.snaps ≠ [] ∧ (tOld.host.snaps.all fun x => tOld.elapsed x.openedAt tOld.snapLifeNs) = true ∧
    nx (exec (.snapshotExpired false) tOld) (fun t => t.host.snaps = [] && t.f F.HOST_EVENTS_SNAP_CLOSED = 1) = true := by
  decide +kernel

theorem test_hostLinkChange_shows : (tUp []).f F.HOST_STATUS_LINK_UP ≠ b2n true ∧
    nx (exec (.hostLinkChange true 15) (tUp [])) (fun t => t.f F.HOST_STATUS_LINK_UP = 1 && t.f F.HOST_STATUS_LANE_LOCK = 15 &&
      t.f F.HOST_EVENTS_LINK = 1) = true ∧
    nx (exec .hostAddressApply (tUp [(F.HOST_CFG_PORT, 0, 5)])) (fun t => t.hostF F.HOST_CFG_PORT = 5) = true := by decide +kernel

/-! ### Ad hoc collectives, aborts, events -/

/-- A SUBMIT body (R612): template 2, channel 0, an ID, one element, no descriptors. -/
def tSub (id : Nat) : List Byte := beBytes 2 2 ++ [0, 0, 0, 0] ++ beBytes 6 id ++ beBytes 4 0 ++ beBytes 8 1 ++ beBytes 16 0

/-- Template 2 with a WAIT row and a MOVE row, an image active, `n` MiB of pool for instances. -/
def tCol (n : Nat) (fs : List (Fld × Nat × Nat)) : State :=
  let s := tUp ([(F.IMG_STATUS_ACTIVE, 0, 1), (F.COL_STATUS_ENTRIES, 0, 3), (F.COL_ENTRY_D_FLAGS, 2, 4), (F.COL_ENTRY_D_DEPTH, 2, 1)
    , (F.COL_ENTRY_D_CHUNK_LOG2, 2, 12), (F.SEQ_ROWS_ACTIVE, 0, 4)] ++ fs)
  { s with seq := { s.seq with active := [(1, BitVec.ofNat 256 (opMove + 2 ^ 8 + 2 * 2 ^ 81))] }
           bpm := { s.bpm with limits := [(16, (0, n))] } }

def tB (id : Nat) : SubmitBody := { template := 2, channel := 0, id := id, elems := 1, src := 0, dst := 0 }

theorem test_submit_admits : (tCol 4096 []).Canon ∧ (tCol 4096 []).hears tQ = true ∧ submitOf (tSub (2 ^ 47)) = some (tB (2 ^ 47)) ∧
    (tCol 4096 []).imageActive = true ∧ (tCol 4096 []).templateRows 2 ≠ [] ∧ (tCol 4096 []).holdMode = false ∧
    (tCol 4096 []).heldCompletions < 3072 ∧ 2 < (tCol 4096 []).f F.COL_STATUS_ENTRIES ∧
    (tCol 4096 []).f F.COL_ENTRY_D_FLAGS 2 / 4 % 2 = 1 ∧
    (tCol 4096 []).adhocClaimed + (tCol 4096 []).submitClaim (tB (2 ^ 47)) ≤ (tCol 4096 []).adhocPool ∧
    nx (exec (.submit tQ (tSub (2 ^ 47))) (tCol 4096 [])) (fun t => tSays t .done && t.f F.COL_LAST_ADHOC_ID_ID = 2 ^ 47 &&
      (t.col.running.map AdHoc.id = [2 ^ 47]) && t.seq.items.map Item.adhoc = [some (2 ^ 47)]) = true := by decide +kernel

/-- An instance already claims all but 16 bytes of the pool; `m` is the mode of the constellation. -/
def tFull (m : Nat) : State :=
  let s := tCol 1 [(F.CST_STATUS_MODE, 0, m), (F.CST_STATUS_MEMBERS, 0, 16)]
  { s with col := { s.col with running := [{ id := 2 ^ 47, template := 2, channel := 0, elems := 1, src := 0, dst := 0, claim := 240, outcome := .done }] } }

theorem test_submit_without_pool : (tFull 0).Canon ∧ (tFull 0).hears tQ = true ∧ (tFull 0).holdMode = false ∧
    (tFull 0).submitClaim (tB (2 ^ 47 + 1)) ≤ (tFull 0).adhocPool ∧
    (tFull 0).adhocPool < (tFull 0).adhocClaimed + (tFull 0).submitClaim (tB (2 ^ 47 + 1)) ∧
    nx (exec (.submit tQ (tSub (2 ^ 47 + 1))) (tFull 0)) (fun t => tSays t .failedPoolEmpty && t.f F.COL_EVENTS_POOL_EMPTY = 1) = true ∧
    (tFull 2).Canon ∧ (tFull 2).hears tQ = true ∧ (tFull 2).holdMode = true ∧ (tFull 2).imageActive = true ∧
    (tFull 2).submitClaim (tB (2 ^ 47 + 1)) ≤ (tFull 2).adhocPool ∧
    (tFull 2).adhocPool < (tFull 2).adhocClaimed + (tFull 2).submitClaim (tB (2 ^ 47 + 1)) ∧
    nx (exec (.submit tQ (tSub (2 ^ 47 + 1))) (tFull 2)) (fun t => tSays t .done && t.f F.COL_EVENTS_HELD = 1 &&
      t.col.held.map AdHoc.id = [2 ^ 47 + 1]) = true ∧
    (tUp []).f F.COL_ENTRY_D_FLAGS 2 / 4 % 2 = 0 ∧
    nx (exec (.submit tQ (tSub (2 ^ 47))) (tUp [])) (fun t => tSays t .refusedFit) = true := by decide +kernel

/-- One instance held, and a block parked at time 0 for another. -/
def tHeld : State :=
  let s := tCol 4096 []
  { s with now := 120 * 10 ^ 9, col := { s.col with
      held := [{ id := 2 ^ 47, template := 2, channel := 0, elems := 1, src := 0, dst := 0, claim := 256, outcome := .done }]
      parked := [{ id := 5, session := 0, stream := 0, dseq := 0, bytes := [], at_ := 0 }] } }

theorem test_adhocAdmit_and_parkExpired : tHeld.Canon ∧ tHeld.poolPressed = false ∧ tHeld.adhocClaimed + 256 ≤ tHeld.adhocPool ∧
    nx (exec .adhocAdmit tHeld) (fun t => t.col.held = [] && t.col.running.map AdHoc.id = [2 ^ 47] &&
      t.seq.items.map Item.adhoc = [some (2 ^ 47)]) = true := by decide +kernel

/-- The instance that is held has parked blocks. -/
def tPark : State :=
  { tHeld with col := { tHeld.col with held := tHeld.col.held.map fun a => { a with id := 2 ^ 47 + 5 } } }

theorem test_parkExpired_discards : tPark.Canon ∧ tPark.elapsed 0 (max 1 (tPark.f F.COL_PARK_HOLD) * 10 ^ 9) = true ∧
    (tPark.col.parked.filter fun p => p.id = 5) ≠ [] ∧
    nx (exec (.parkExpired 5) tPark) (fun t => t.col.parked = [] && t.f F.COL_LAST_EXPIRED_ID_ID = 2 ^ 47 + 5 &&
      t.f F.COL_EVENTS_PARK_EXPIRED = 1) = true := by decide +kernel

/-- The template has a PPE row, and the job is in exact mode when `exact` is 1. -/
def tPpeTemplate (exact : Nat) : State :=
  let s := tCol 4096 [(F.PEER_FAULT_CFG_EXACT, 0, exact)]
  { s with seq := { s.seq with active := [(1, BitVec.ofNat 256 (opProject + 2 ^ 16 + 2 ^ 8 + 2 * 2 ^ 81))] } }

theorem test_submit_refused : (tFull 0).col.lastId = none ∧
    nx (exec (.submit tQ (tSub 5)) (tCol 4096 [])) (fun t => tSays t .refusedBusy && t.f F.COL_EVENTS_ORDER = 1) = true ∧
    (tCol 0 []).adhocPool < (tCol 0 []).submitClaim (tB (2 ^ 47)) ∧
    nx (exec (.submit tQ (tSub (2 ^ 47))) (tCol 0 [])) (fun t => tSays t .refusedFit && t.f F.SEQ_FIT_A_RESOURCE 0 = resPool) = true ∧
    (tPpeTemplate 1).exact = true ∧
    ((tPpeTemplate 1).templateRows 2).any (fun kv => decide (rowOpcode kv.2 = opProject) && rowPpe kv.2) = true ∧
    nx (exec (.submit tQ (tSub (2 ^ 47))) (tPpeTemplate 1)) (fun t => tSays t .refusedMode) = true := by decide +kernel

/-- A full hold queue of an array constellation of 16 members. -/
def tQueue : State :=
  let a : AdHoc := { id := 2 ^ 47 + 9, template := 2, channel := 0, elems := 1, src := 0, dst := 0, claim := 0, outcome := .done }
  { tFull 2 with col := { (tFull 2).col with held := List.replicate 4096 a } }

theorem test_submit_queue_full : tQueue.Canon ∧ tQueue.holdMode = true ∧ tQueue.col.held.length = 4096 ∧
    nx (exec (.submit tQ (tSub (2 ^ 47 + 10))) tQueue) (fun t => tSays t .refusedBusy) = true := by decide +kernel

/-- Track 1 runs and its row 0 waits for a token: its item is pending. -/
def tPend : State :=
  let s := tUp [(F.SEQ_TKn_STATUS_STATE, 1, 1), (F.IMG_STATUS_ACTIVE, 0, 1)]
  { s with seq := { s.seq with active := [(0, tRow opMove (5 * 2 ^ 97 + 2 ^ 109))] } }

theorem test_abortItem_pending : tPend.Canon ∧ tPend.pendingAt (2 ^ 60) = some 1 ∧ tPend.item tPend.seq.nextId = none ∧
    nx (exec (.abortItem tQ (2 ^ 60)) tPend) (fun t => tSays t .done && t.f F.SEQ_TKn_DONE_COUNT 1 = 1 &&
      t.f F.SEQ_RING_B_STATUS 1024 = Status.failedAborted.code && tPend.pendingAt 77 = none) = true := by decide +kernel

/-- Item 7 of track 1 in flight, a MOVE. -/
def tFly : State := tIn (tUp []) [tItem (tRow opMove (tSrc (tD 0 0 1)))]

theorem test_abortItem_in_time_and_late : tFly.Canon ∧ tFly.hears tQ = true ∧
    tFly.seq.items.map itemTag = [2 ^ 60 + 3 * 2 ^ 40 + 5] ∧ (tFly.item 7).isSome = true ∧
    nx (exec (.abortItem tQ (2 ^ 60 + 3 * 2 ^ 40 + 5)) tFly) (fun t => tSays t .done && tEnded tFly t .failedAborted) = true ∧
    nx (exec (.abortItem tQ 77) tFly) (fun t => tSays t .abortTooLate && t.seq = tFly.seq) = true := by decide +kernel

theorem test_abortTrack_and_abortCollective : tFly.trackTwilight 1 = false ∧
    nx (exec (.abortTrack tQ 1) tFly) (fun t => tSays t .done && t.track 1 = tkHalted && (t.trackItems 1).isEmpty) = true ∧
    tHeld.hears tQ = true ∧ (tHeld.col.held.any fun a => a.id = 2 ^ 47) = true ∧
    nx (exec (.abortCollective tQ (2 ^ 47)) tHeld) (fun t => tSays t .done && t.col.held = []) = true ∧
    (tFull 0).col.held = [] ∧ ((tFull 0).col.running.any fun a => a.id = 2 ^ 47) = true ∧
    nx (exec (.abortCollective tQ (2 ^ 47)) (tIn (tFull 0) [{ tItem (tRow opMove) with adhoc := some (2 ^ 47) }]))
      (fun t => tSays t .done && t.seq.items = [] && t.col.running = []) = true := by decide +kernel

/-- Load 6 in progress, its last message not yet here. -/
def tLoading : State :=
  let s := tUp [(F.HOST_STATUS_LOADING, 0, 1)]
  { s with host := { s.host with load := some { target := 1, id := 6, total := 9000, region := 0, parts := [(0, [1, 2])], last := false, by_ := none, late := [] } } }

theorem test_abortTransaction_and_abortLoad : ((tTxn 0).txn 4).isSome = true ∧ (tTxn 0).hears tQ = true ∧
    nx (exec (.abortTransaction tQ 4) (tTxn 0)) (fun t => tSays t .done && (t.txn 4).isNone) = true ∧
    tLoading.Canon ∧ tLoading.hears tQ = true ∧ (tLoading.host.load.any fun l => !l.complete) = true ∧
    nx (exec (.abortLoad tQ 6) tLoading) (fun t => tSays t .done && t.host.load = none && t.f F.HOST_STATUS_LOADING = 0 &&
      t.f F.HOST_LOAD_RESULT = 0x15 && t.f F.HOST_EVENTS_LOAD_DONE = 1) = true ∧
    nx (exec (.abortLoad tQ 6) (tUp [])) (fun t => tSays t .abortTooLate) = true := by decide +kernel

/-- The source of SEQ_EVENTS.WATCHDOG (R619). -/
def tSrcNo : Nat := 32 + F.SEQ_EVENTS_WATCHDOG.lo

def tWd : State := tUp [(F.EVT_SRCs_CFG_ENABLE, tSrcNo, 1), (F.EVT_SRCs_CFG_TARGETS, tSrcNo, 4), (F.EVT_STATUS_TGT_UP, 0, 4), (F.SEQ_EVENTS_WATCHDOG, 0, 1)]

theorem test_eventAssert_gathers : tWd.Canon ∧ tWd.f F.EVT_SRCs_CFG_ENABLE tSrcNo = 1 ∧ tWd.edgeSource tSrcNo = false ∧
    tWd.sourceLevel tSrcNo = true ∧ tWd.f F.EVT_SRCs_CFG_ASSERTED tSrcNo = 0 ∧ tWd.nextTarget tSrcNo = some 2 ∧
    nx (exec (.eventAssert tSrcNo) tWd) (fun t => t.f F.EVT_SRCs_CFG_ASSERTED tSrcNo = 1 &&
      ((tfind 2 t.evt.gathered).getD []).map EvRec.source = [tSrcNo]) = true := by decide +kernel

/-- A record of source 40 that waits at targets 1 and 6, delivered already to processor 0, and a message outstanding on
channel 3 since time 0. -/
def tRec : EvRec := { completion := false, status := 0, source := 40, count := 1, tag := 0, time := 0 }

/-- A KEYLOADed generation 3, key of zeros. -/
def tGen : KeyGen := KeyGen.mk' 3 0 0 0 0

def tEv : State :=
  let s := tUp [(F.EVT_ECn_CFG_ENABLE, 2, 1), (F.EVT_ECn_CFG_RETRY, 3, 1)]
  { s with
    now := 10 ^ 9
    ciph := { s.ciph with uses := [(9, useExpin)], slots := [(9, [tGen])] }
    evt := { s.evt with gathered := [(1, [tRec]), (6, [tRec])], delivered := [(0, [40])]
                        outstanding := [(3, [{ sequence := 8, origin := 0, gen := 3, recs := [tRec], sentAt := 0 }])] } }

theorem test_eventDeliver_sends : tEv.Canon ∧ tEv.deliverDue 1 = true ∧ tEv.deliverDue 6 = true ∧
    tEv.expinGen = some (9, tGen) ∧
    nx (exec (.eventDeliver 1 0) tEv) (fun t => tfind 1 t.evt.gathered = some [] && t.out.contains (.interrupt 1 [40])) = true ∧
    nx (exec (.eventDeliver 6 0) tEv) (fun t => (t.channelMsgs 2).map EvMsg.recs = [[tRec]] && t.f F.EVT_ECn_CFG_OUTSTANDING 2 = 1) = true := by
  decide +kernel

theorem test_eventResend_handled_and_acknowledged : tEv.macsec = false ∧ tEv.hears tQ = true ∧
    ((tEv.channelMsgs 3).all fun m => tEv.elapsed m.sentAt (max 1 (tEv.f F.EVT_ECn_CFG_RETRY 3) * 1000000)) = true ∧
    nx (exec (.eventResend 3) tEv) (fun t => t.out.contains (.hostEvent 3 8 0 [tRec]) && (t.channelMsgs 3).map EvMsg.sentAt = [10 ^ 9]) = true ∧
    nx (exec (.mpEventHandled 0 40) tEv) (fun t => tfind 0 t.evt.delivered = some []) = true ∧
    nx (exec (.eventAck tQ 3 8) tEv) (fun t => tSays t .done && t.channelMsgs 3 = []) = true := by decide +kernel

theorem test_pinChange_takes_the_level : (tUp []).pinLevel 15 ≠ false ∧
    nx (exec (.pinChange 15 false) (tUp [])) (fun t => !t.pinLevel 15 && t.bit F.LINE_STATUS_ALERT 15) = true := by decide +kernel

/-- The pole of three members. -/
def tPole : State := tUp [(F.CST_STATUS_MODE, 0, 2), (F.CST_STATUS_IS_POLE, 0, 1), (F.CST_STATUS_MEMBERS, 0, 3)]

theorem test_cstEventRecordReceive_gathers : tPole.Canon ∧ recsOf (beBytes 1 7 ++ tRec.bytes) = [(7, tRec)] ∧
    nx (exec (.cstEventRecordReceive 2 (beBytes 1 7 ++ tRec.bytes)) tPole)
      (fun t => ((tfind 59 t.evt.gathered).getD []).map EvRec.source = [40]) = true ∧
    recsOf (beBytes 1 7 ++ { tRec with completion := true }.bytes) = [(7, { tRec with completion := true })] ∧
    nx (exec (.cstEventRecordReceive 2 (beBytes 1 7 ++ { tRec with completion := true }.bytes)) tPole)
      (fun t => tfind 55 t.evt.completions = some [{ tRec with completion := true }]) = true := by decide +kernel

/-! ### Keys, loads, buffers -/

/-- K0 zero; slots 4 and 9 with a use; slot 4 holds generation 1 and the newer 2, slot 9 generation 3; item 7 latched (4, 2). -/
def tKeys : State :=
  let s := tIn (tUp []) [{ tItem (tRow opSeal) with key := some (4, 2) }]
  { s with ciph := { s.ciph with k0 := some 0, uses := [(4, useLineTx), (9, useExpin)]
                                 slots := [(4, [{ tGen with gen := 2 }, { tGen with gen := 1 }]), (9, [{ tGen with erasing := true }])] } }

/-- The record of generation 5 of slot 9 (key 7, use 0xA), wrapped under K0 (R524, R525): computed with another AES. -/
def tWrapped : List Byte :=
  beBytes 72 0x813AE0BE4550F35251A882733526E1BBCF811ABEF69C2FB1317B5B066E0D2C9F5FA5E96E937460FA16CCBB8616EF0F5D2BDFE62F6FD6DF011CF6C8134E770194346600BC76D0D31E

/-- The unwrap steps with the counts `t + k` down to `t + 1`: the first `k` of `t + k` steps. -/
def tSteps (n t : Nat) : Nat → Nat × List Nat → Nat × List Nat
  | 0, ar => ar
  | k + 1, (a, rs) =>
    let b := aesDec (aesKeys (List.replicate 32 0)) (bytesOf 8 (Nat.xor a (t + k + 1)) ++ bytesOf 8 (rs.getD ((t + k) % n) 0))
    tSteps n t k (natOf (b.take 8), rs.set ((t + k) % n) (natOf (b.drop 8)))

theorem unwrapSteps_tSteps (n t : Nat) : ∀ (k : Nat) (ar : Nat × List Nat),
    unwrapSteps (aesKeys (List.replicate 32 0)) n (t + k) ar = unwrapSteps (aesKeys (List.replicate 32 0)) n t (tSteps n t k ar)
  | 0, _ => rfl
  | k + 1, (a, rs) => by
    rw [← Nat.add_assoc, unwrapSteps, tSteps]
    exact unwrapSteps_tSteps n t k _

/-- AES key unwrap from the end of its steps. -/
theorem keyUnwrap_of_steps {w pt : List Nat} {n : Nat} {a b : Nat × List Nat} (hn : w.length / 8 - 1 = n)
    (ha : (natOf (w.take 8), (chunks 8 n (w.drop 8)).map natOf) = a) (hs : unwrapSteps (aesKeys (List.replicate 32 0)) n (6 * n) a = b)
    (hb : w.length % 8 = 0 ∧ 2 ≤ n ∧ b.1 / 2 ^ 32 = 0xA65959A6 ∧ 8 * (n - 1) < b.1 % 2 ^ 32 ∧ b.1 % 2 ^ 32 ≤ 8 * n ∧
      ((b.2.flatMap (bytesOf 8)).drop (b.1 % 2 ^ 32)).all (fun b => b = 0) = true)
    (hp : (b.2.flatMap (bytesOf 8)).take (b.1 % 2 ^ 32) = pt) : keyUnwrap (List.replicate 32 0) w = some pt := by
  subst hn ha hs hp
  exact if_pos hb

theorem bytesOf_zero_key : bytesOf 32 (0 : BitVec 256).toNat = List.replicate 32 0 := by decide +kernel

theorem tKey_steps_1 : tSteps 8 36 12 (0x813ae0be4550f352, [0x51a882733526e1bb, 0xcf811abef69c2fb1,
    0x317b5b066e0d2c9f, 0x5fa5e96e937460fa, 0x16ccbb8616ef0f5d, 0x2bdfe62f6fd6df01, 0x1cf6c8134e770194,
    0x346600bc76d0d31e]) = (0xeaf5bcbfc7502ea6, [0x4a0d69ef0e378af6, 0xfd7a3b7b8d27ac39, 0xe922013769aac3ed,
    0xdc152c727c7ffec8, 0x52e83a31d2fe999b, 0x4ef3ae9a36b1f097, 0x58029e8a62533aff, 0xb48f62819129d9ea]) := by decide +kernel

theorem tKey_steps_2 : tSteps 8 24 12 (0xeaf5bcbfc7502ea6, [0x4a0d69ef0e378af6, 0xfd7a3b7b8d27ac39,
    0xe922013769aac3ed, 0xdc152c727c7ffec8, 0x52e83a31d2fe999b, 0x4ef3ae9a36b1f097, 0x58029e8a62533aff,
    0xb48f62819129d9ea]) = (0xa5de5b6558806f65, [0x7a6cce4fc8e1732, 0xfc1b822545048e85, 0xbb79a54d10076107,
    0xf1e02242e6f8e82b, 0x83977e91cdd3377c, 0x1ee7f28a7e901946, 0xc98e8d541662cbb9, 0xf47111e4781e9458]) := by decide +kernel

theorem tKey_steps_3 : tSteps 8 12 12 (0xa5de5b6558806f65, [0x7a6cce4fc8e1732, 0xfc1b822545048e85, 0xbb79a54d10076107,
    0xf1e02242e6f8e82b, 0x83977e91cdd3377c, 0x1ee7f28a7e901946, 0xc98e8d541662cbb9, 0xf47111e4781e9458]) =
    (0x6a8782ca2a4c5494, [0x510b520df3f19934, 0xdb0af2e122e32116, 0x85e6f33a42980971, 0xd311dbf893462c80,
    0xed6fe7be87508b8b, 0x12f3b4aada9e92fb, 0x762816cdd26eb1c6, 0xbbddb0dc1857aa98]) := by decide +kernel

theorem tKey_steps_4 : tSteps 8 0 12 (0x6a8782ca2a4c5494, [0x510b520df3f19934, 0xdb0af2e122e32116, 0x85e6f33a42980971,
    0xd311dbf893462c80, 0xed6fe7be87508b8b, 0x12f3b4aada9e92fb, 0x762816cdd26eb1c6, 0xbbddb0dc1857aa98]) =
    (0xa65959a60000003c, [0x0, 0x0, 0x0, 0x7, 0x0, 0x0, 0x9050a00, 0x0]) := by decide +kernel

/-- The key unwrap of `tWrapped` under a key of zeros. -/
theorem tKey_steps : unwrapSteps (aesKeys (List.replicate 32 0)) 8 48 (0x813ae0be4550f352, [0x51a882733526e1bb,
    0xcf811abef69c2fb1, 0x317b5b066e0d2c9f, 0x5fa5e96e937460fa, 0x16ccbb8616ef0f5d, 0x2bdfe62f6fd6df01,
    0x1cf6c8134e770194, 0x346600bc76d0d31e]) = (0xa65959a60000003c, [0x0, 0x0, 0x0, 0x7, 0x0, 0x0, 0x9050a00, 0x0]) :=
    by
  rw [show (48 : Nat) = 36 + 12 from rfl, unwrapSteps_tSteps, tKey_steps_1]
  rw [show (36 : Nat) = 24 + 12 from rfl, unwrapSteps_tSteps, tKey_steps_2]
  rw [show (24 : Nat) = 12 + 12 from rfl, unwrapSteps_tSteps, tKey_steps_3]
  rw [show (12 : Nat) = 0 + 12 from rfl, unwrapSteps_tSteps, tKey_steps_4]
  rfl
theorem tKey_unwraps : keyUnwrap (List.replicate 32 0) (nats tWrapped) = some [0, 0, 0, 0, 0, 0, 0, 0, 0, 0, 0, 0, 0,
    0, 0, 0, 0, 0, 0, 0, 0, 0, 0, 0, 0, 0, 0, 0, 0, 0, 0, 7, 0, 0, 0, 0, 0, 0, 0, 0, 0, 0, 0, 0, 0, 0, 0, 0, 0, 0, 0,
    0, 9, 5, 10, 0, 0, 0, 0, 0] :=
  keyUnwrap_of_steps (by decide +kernel) (by decide +kernel) tKey_steps (by decide +kernel) (by decide +kernel)

theorem unwrapKey_of {s : State} {b : KeyBody} {k : BitVec 256} {l : List Nat} (hk : s.ciph.k0 = some k)
    (hu : keyUnwrap (bytesOf 32 k.toNat) (nats b.wrapped) = some l) (hl : l.length = 60) :
    s.unwrapKey b = some (keyRecOf (byts l)) := by
  unfold State.unwrapKey
  rw [hk]
  simp [hu, hl]

theorem tKeys_unwrapKey : tKeys.unwrapKey (KeyBody.mk 9 5 1 0 tWrapped) = some (keyRecOf (byts [0, 0, 0, 0, 0, 0, 0, 0, 0, 0, 0, 0, 0, 0, 0, 0, 0, 0, 0, 0, 0, 0, 0, 0, 0, 0, 0, 0, 0, 0, 0, 7, 0, 0, 0, 0, 0, 0, 0, 0, 0, 0, 0, 0, 0, 0, 0, 0, 0, 0, 0, 0, 9, 5, 10, 0, 0, 0, 0, 0])) :=
  unwrapKey_of (k := 0) rfl (bytesOf_zero_key.symm ▸ tKey_unwraps) rfl

theorem test_keyLoad_unwraps : (tKeys.keyRefusal (KeyBody.mk 9 5 1 0 tWrapped)).isNone = true ∧
    (tKeys.unwrapKey (KeyBody.mk 9 5 1 0 tWrapped)).map KeyRec.key = some 7 := by
  unfold State.keyRefusal
  rw [tKeys_unwrapKey]
  decide +kernel

theorem test_keyLoad_refuses : tKeys.Canon ∧ tKeys.hears tQ = true ∧
    tKeys.keyRefusal (KeyBody.mk 9 5 1 1 tWrapped) = some .refusedFit ∧
    nx (exec (.keyLoad tQ 9 5 1 tWrapped) tKeys) (fun t => tSays t .refusedFit && t.f F.CIPH_EVENTS_KEYLOAD_REFUSED = 1) = true := by
  decide +kernel

theorem test_key_erasures : tKeys.slotUse 4 ≠ 0 ∧ (tKeys.liveGen 4 1).isSome = true ∧ (tKeys.genOf 4 2).isSome = true ∧
    nx (exec (.keyEraseGraceful tQ 4 1 0 []) tKeys) (fun t => tSays t .done && (t.genOf 4 1).any KeyGen.erasing) = true ∧
    nx (exec (.keyEraseImmediate tQ 4 2 0 []) tKeys) (fun t => tSays t .done && (t.genOf 4 2).isNone && t.seq.items = [] &&
      t.f F.CIPH_EVENTS_ERASED = 1 && t.f F.SEQ_RING_B_STATUS 1024 = 0x16) = true ∧
    ((tKeys.genOf 9 3).any KeyGen.erasing) = true ∧ tKeys.pins 9 3 = 0 ∧
    nx (exec (.keyEraseComplete 9 3) tKeys) (fun t => (t.genOf 9 3).isNone && t.f F.CIPH_EVENTS_ERASED = 1) = true := by decide +kernel

theorem test_keyRetire_and_the_rest : (tKeys.currentGen 4).map KeyGen.gen = some 2 ∧ (tKeys.liveGen 4 1).isSome = true ∧
    tKeys.pins 4 1 = 0 ∧ tKeys.drained 4 { tGen with gen := 1 } { tGen with gen := 2 } = true ∧
    nx (exec (.keyRetire 4 1) tKeys) (fun t => (t.genOf 4 1).isNone && t.f F.CIPH_EVENTS_RETIRED = 1) = true ∧
    nx (exec (.suspendedResume 2) { tKeys with ciph := { tKeys.ciph with suspended := [(2, 4, 1, 5), (3, 4, 1, 5)] } })
      (fun t => t.ciph.suspended = [(3, 4, 1, 5)] && t.f F.CIPH_STATUS_SUSPENDED = 1) = true ∧
    nx (exec (.gcsEncryptWrite 15) tKeys) (fun t => t.f F.CIPH_GCS_ENCRYPT = 15 && (tfind 3 t.ciph.gcs).map GcsCipher.rxFill = some 16) = true := by
  decide +kernel

/-- A LOAD_STREAM body (R608): target, flags, offset, total, region and data; load ID 6. -/
def tLoadB (target flags len offset total region : Nat) (data : List Byte) : List Byte :=
  beBytes 1 target ++ beBytes 1 flags ++ beBytes 2 len ++ beBytes 4 6 ++ beBytes 8 offset ++ beBytes 8 total ++ beBytes 8 region ++ data

def tLong : List Byte := List.replicate 8192 0x5A

theorem test_loads_stage : (loadOf (tLoadB 1 0 8192 0 9000 0 tLong)).any (fun b => b.fits && !b.last && decide (b.target = 1)) = true ∧
    nx (exec (.loadStructureImage tQ (tLoadB 1 0 8192 0 9000 0 tLong)) (tUp [])) (fun t => tSays t .done &&
      t.f F.HOST_STATUS_LOADING = 1 && t.f F.HOST_LOAD_LOAD_ID = 6 && t.f F.IMG_STATUS_STATE = 1 &&
      (t.host.load.map fun l => l.parts.map Prod.fst) = some [0]) = true ∧
    (loadOf (tLoadB 2 0 8192 0 9000 7 tLong)).any (fun b => b.fits && !b.last && decide (b.target = 2)) = true ∧
    nx (exec (.loadSectorPatch tQ (tLoadB 2 0 8192 0 9000 7 tLong)) (tUp [])) (fun t => tSays t .done && t.f F.IMG_STATUS_STATE = 1) = true := by
  decide +kernel

theorem test_load_completes_or_is_busy : (loadOf (tLoadB 1 1 3 0 3 0 [1, 2, 3])).any (fun b => b.fits && b.last && decide (b.len = b.total)) = true ∧
    nx (exec (.loadStructureImage tQ (tLoadB 1 1 3 0 3 0 [1, 2, 3])) (tUp [])) (fun t => t.host.answered = [] &&
      t.f F.IMG_STATUS_STATE = 2 && (t.host.load.map fun l => (l.by_, l.bytes)) = some (some tQ, [1, 2, 3])) = true ∧
    nx (exec (.loadStructureImage tQ (tLoadB 1 1 3 0 3 0 [1, 2, 3])) { tLoading with host := { tLoading.host with
      load := tLoading.host.load.map fun l => { l with id := 8 } } }) (fun t => tSays t .refusedBusy) = true := by decide +kernel

theorem test_loadFirmwareCopy_replaces_the_other : (loadOf (tLoadB 3 1 3 0 3 0 [97, 98, 99])).any (fun b => b.fits && b.last) = true ∧
    nx (exec (.loadFirmwareCopy tQ (tLoadB 3 1 3 0 3 0 [97, 98, 99]) true 0x0102) (tUp [])) (fun t => tSays t .done && t.host.load = none &&
      (t.img.copyB.map FwCopy.version) = some 0x0102 && t.img.copyA = none && t.f F.IMG_FW_STATUS_B_VERSION = 0x0102 &&
      t.f F.IMG_FW_STATUS_PREFER_B = 1) = true ∧
    nx (exec (.loadFirmwareCopy tQ (tLoadB 3 1 3 0 3 0 [97, 98, 99]) false 0x0102) (tUp [])) (fun t => tSays t .refusedSignature &&
      t.host.load = none && t.img.copyB = none) = true := by decide +kernel

/-- A region of one block at the start of tier S that the image opened to the host. -/
def tBulk : State := let s := tUp []; { s with conf := { s.conf with bulk := [tD 0 4 1] } }

theorem test_hostBulk_moves : tBulk.Canon ∧ tBulk.hears tQ = true ∧
    (loadOf (tLoadB 4 0 3 0 3 (tD 0 4 1) [1, 2, 3])).any (fun b => tBulk.bulkFits b && !b.read && decide (b.target = 4)) = true ∧
    tBulk.inTier (descOf (tD 0 4 1)).tier (descOf (tD 0 4 1)).addr (descOf (tD 0 4 1)).len = true ∧
    nx (exec (.hostBulkWrite tQ (tLoadB 4 0 3 0 3 (tD 0 4 1) [1, 2, 3])) tBulk) (fun t => tSays t .done && t.rdBytes 0 1023 5 = [0, 1, 2, 3, 0]) = true ∧
    nx (exec (.hostBulkRead tQ (tLoadB 4 2 3 0 3 (tD 0 4 1) [])) (tBulk.wrBytes 0 1024 [7, 8, 9]))
      (fun t => t.host.answered.getLast? = some (none, 9, .response 9 0 0 0 [7, 8, 9])) = true ∧
    (loadOf (tLoadB 4 0 3 0 3 (tD 0 5 1) [1, 2, 3])).any (fun b => !tBulk.bulkFits b) = true ∧
    nx (exec (.hostBulkWrite tQ (tLoadB 4 0 3 0 3 (tD 0 5 1) [1, 2, 3])) tBulk) (fun t => tSays t .refusedFit && t.mem.cells = []) = true := by
  decide +kernel

/-- Pool 9 has ten buffers, one of them held by item 5; account 0 may take five; a need of two waits. -/
def tPool : State :=
  let s := tUp [(F.BPM_POOLp_CFG_COUNT, 9, 10)]
  { s with bpm := { bufs := [Buf.mk 9 0 (.item 5) 0], queue := [Need.mk (.account 0) 0 [(9, 2)]], limits := [(9, (0, 5))] } }

def tLate : State :=
  let s := tPool
  { s with host := { s.host with load := some { target := 1, id := 6, total := 9000, region := 0, parts := [(0, [])], last := false, by_ := none, late := [tQ] } } }

theorem test_bufferGrant_grants : tPool.Canon ∧ tPool.headGrantable = true ∧
    nx (exec .bufferGrant tPool) (fun t => t.bpm.queue = [] && t.bpm.bufs.map Buf.index = [0, 1, 2]) = true ∧ tLate.Canon ∧
    tLate.headGrantable = true ∧ nx (exec .bufferGrant tLate) (fun t => tSays t .done && t.bpm.queue = [] &&
      (t.host.load.map Load.late) = some []) = true := by decide +kernel

theorem test_buffers_change_hands : nx (exec (.bufferHandoff 9 0 (.item 5) (.item 6)) tPool) (fun t => t.bpm.bufs = [Buf.mk 9 0 (.item 6) 0]) = true ∧
    (tPool.bpm.bufs.any fun b => b.pool = 9 ∧ b.index = 0 ∧ b.holder = .item 5) = true ∧
    nx (exec (.bufferFree 9 0 (.item 5)) tPool) (fun t => t.bpm.bufs = [] && t.f F.BPM_POOLp_USE_HELD 9 = 0) = true ∧
    (tPool.bpm.bufs.any fun b => b.pool = 9 ∧ b.index = 0 ∧ b.holder = .item 4) = false ∧
    nx (exec (.bufferFree 9 0 (.item 4)) tPool) (fun t => t.bpm = tPool.bpm && t.f F.BPM_BAD_FREE_COUNT = 1 && t.f F.BPM_EVENTS_BAD_FREE = 1 &&
      t.f F.BPM_LAST_BAD_POOL = 9) = true := by decide +kernel

/-! ### Members, the Meridian, the pole -/

def tMem (site role : Nat) : Member := { site := site, role := role, state := meMember, flags := 0, device := 1 }

theorem test_membershipTable_takes_a_greater_epoch : [tMem 15 255, tMem 0 0].all Member.valid = true ∧
    ([tMem 15 255, tMem 0 0].map fun m => memberKey m.site m.role).Nodup ∧
    nx (exec (.membershipTable tQ 1 [tMem 15 255, tMem 0 0]) (tUp [])) (fun t => tSays t .done && t.f F.PEER_EPOCH_EPOCH = 1 &&
      t.peer.members = [tMem 15 255, tMem 0 0] && t.f F.PEER_FAULT_EVENTS_MEMBERSHIP = 1) = true ∧
    nx (exec (.membershipTable tQ 0 [tMem 15 255]) (tUp [])) (fun t => tSays t .refusedBusy && t.peer.members = []) = true := by decide +kernel

/-- Session 2 declared, its peer site 3 role 1, with detector state `w` since time 0, at time `now`. -/
def tWatch (w now : Nat) (fs : List (Fld × Nat × Nat)) : State :=
  let s := tIn (tUp ([(F.PEER_SESSn_CFG_PEER_SITE, 2, 3), (F.PEER_SESSn_CFG_PEER_ROLE, 2, 1)] ++ fs)) [tItem (tRow opRecv)]
  ({ s with now := now, conf := { s.conf with sess := [(2, SessConf.mk 0 0)] }
            peer := { s.peer with watch := [(2, { heardAt := 0, state := w, holdAt := if w = mbProposed then some 0 else none })] } }).setCtx 0
    { Ctx.invalid with valid := true, session := 2 }

theorem test_detector_moves_on : (tWatch mbAlive (10 ^ 12) []).Canon ∧
    (tWatch mbAlive (10 ^ 12) []).silent 2 (max 1 ((tWatch mbAlive (10 ^ 12) []).f F.PEER_FAULT_CFG_SUSPECT) * 10000) = true ∧
    nx (exec (.memberSuspect 2) (tWatch mbAlive (10 ^ 12) [])) (fun t => (t.watch 2).state = mbSuspect && t.f F.PEER_FAULT_EVENTS_SUSPECT = 1) = true ∧
    (tWatch mbSuspect (10 ^ 12) []).silent 2 (max 1 ((tWatch mbSuspect (10 ^ 12) []).f F.PEER_FAULT_CFG_T_DOWN) * 100000) = true ∧
    nx (exec (.downProposal 2) (tWatch mbSuspect (10 ^ 12) [])) (fun t => (t.watch 2).state = mbProposed && (t.watch 2).holdAt = some (10 ^ 12) &&
      t.f F.PEER_FAULT_EVENTS_DOWN_PROPOSED = 1) = true := by decide +kernel

theorem test_hold_and_keep : (tWatch mbProposed (10 ^ 15) []).Canon ∧ (tWatch mbProposed (10 ^ 15) []).elapsed 0 (tWatch mbProposed (10 ^ 15) []).holdNs = true ∧
    nx (exec (.memberHoldExpired 2) (tWatch mbProposed (10 ^ 15) [])) (fun t => (t.watch 2).state = mbExpired && t.seq.items = [] &&
      t.f F.PEER_FAULT_EVENTS_HOLD_EXPIRED = 1) = true ∧ 2 ∈ (tWatch mbProposed 0 []).declared ∧ (tWatch mbProposed 0 []).hears tQ = true ∧
    nx (exec (.membershipKeep tQ 3 1) (tWatch mbProposed 0 [])) (fun t => tSays t .done && (t.watch 2).state = mbContested &&
      t.f F.PEER_FAULT_EVENTS_CONTESTED = 1) = true := by decide +kernel

/-- Exact mode; session 2 left OPEN at time 0 and waits for an epoch since then. -/
def tStall : State :=
  let s := (tWatch mbAlive (10 ^ 15) [(F.PEER_FAULT_CFG_EXACT, 0, 1), (F.PEER_SESSn_STATE_EPOCH_WAIT, 2, 1), (F.PEER_SESSn_STATE_STATE, 2, 3)])
  s.updSess 2 fun x => { x with leftOpenAt := some 0, epochWaitAt := some 0 }

theorem test_exact_and_epoch_holds : tStall.Canon ∧ tStall.exact = true ∧ tStall.sessState 2 ≠ ssOpen ∧ tStall.f F.PEER_HOLD_STATUS_EXPIRED = 0 ∧
    (tStall.sess 2).leftOpenAt = some 0 ∧ tStall.elapsed 0 tStall.holdNs = true ∧
    nx (exec (.exactHoldExpired 2) tStall) (fun t => t.f F.PEER_HOLD_STATUS_EXPIRED = 1 && t.seq.items = [] && t.track 15 = tkHalted) = true ∧
    tStall.f F.PEER_SESSn_STATE_EPOCH_WAIT 2 = 1 ∧ (tStall.sess 2).epochWaitAt = some 0 ∧
    nx (exec (.epochWaitExpired 2) tStall) (fun t => t.seq.items = tStall.seq.items && !t.seq.items.isEmpty) = true ∧
    nx (exec (.epochWaitExpired 2) (tStall.updSess 2 fun x => { x with waitFor := 9 })) (fun t =>
      t.seq.items = [] && t.f F.SEQ_RING_B_STATUS 1024 = 0x1D) = true := by decide +kernel

/-- An active set with one COMMIT row, whose item of step 1 waits; no other site is required. -/
def tCommit : State :=
  let s := tIn (tUp [(F.IMG_STATUS_ACTIVE, 0, 1), (F.SEQ_ROWS_ACTIVE, 0, 4)]) [{ tItem (tRow opCommit) with step := 1, rowIx := 3 }]
  { s with seq := { s.seq with active := [(3, tRow opCommit)] } }

theorem test_meridian_is_reached : tCommit.Canon ∧ tCommit.meridianDue = true ∧
    nx (exec .meridian tCommit) (fun t => t.f F.SEQ_MERIDIAN_STEP = 1 && t.f F.GLB_VIEW_VIEW = 1 && t.commitItems 1 = []) = true := by decide +kernel

/-- Member 1 of a bound constellation of three whose pole is member 0 and whose alternate is `alt`; no route has reached the
pole since time 0. -/
def tBound (alt : Nat) : State :=
  let s := tUp [(F.CST_STATUS_MODE, 0, 1), (F.CST_STATUS_MEMBERS, 0, 3), (F.CST_STATUS_POSITION, 0, 1)]
  { tIn s [tItem (tRow opMove)] with now := 10000000, cst := { s.cst with alternate := alt, poleGone := some 0 } }

theorem test_bound_constellation_loses : (tBound 1).Canon ∧ 2 ≠ (tBound 1).position ∧ (tBound 1).cstMember = true ∧
    nx (exec (.cstMemberLost 2) (tBound 1)) (fun t => t.seq.items = [] && t.track 0 = tkHalted) = true ∧
    (tBound 1).elapsed 0 10000000 = true ∧
    nx (exec .poleLost (tBound 1)) (fun t => t.cst.poleGone = none && t.f F.CST_EVENTS_POLE_LOST = 1) = true ∧
    (tBound 1).pole ≠ 1 ∧ (tBound 1).position = 1 ∧
    nx (exec (.promote 41) (tBound 1)) (fun t => t.pole = 1 && t.f F.CST_STATUS_IS_POLE = 1 && t.f F.GLB_VIEW_VIEW = 42) = true ∧
    (tBound 63).Canon ∧ nx (exec (.promote 41) (tBound 63)) (fun t => t.pole = 63 && t.f F.CST_STATUS_IS_POLE = 0) = true := by decide +kernel

/-! ### The peer protocol. The blocks below are of session 2, sealed under generation 1 of slot 5 (key and salt zero) by site 3
with another AES-GCM and CRC-32C, and laid out by hand from R276 to R279 and R322 to R333. -/

def wHello : List Byte := beBytes 100 0x110002030000000000000000050100300000000000000000000000000000000080FAA0613FE0DB55D2264F92F3FDCD893164E93EFF1C761A6F3905E6587B8DDCCEEB2D1B4EE6AF9F864460A44FB4B8A5B9E6C252FA4CA12518994ECD2CB325044F692AAF
def wHelloJob : List Byte := beBytes 100 0x110002030000000000000000050100300000000000000000000000000000000080FAA0613FE0DB5CD2264F92F3FDCD893164E93EFF1C761A6F3905E6587B8DDCCEEB2D1B4EE6AF9F864460A44FB4B8A5F03DC95A4CA667F0B3B6FCAEEA9DA004CCB3EAC8
def wData : List Byte := beBytes 55 0x120042030000000000000000050100030000000000000004000000060000000125715E3A8EF1EDFA528A6BC46A2CC9E44D134D84FB2889
def wDataBad : List Byte := beBytes 55 0x120042030000000000000000050100030000000000000004000000060000000125715E3B8EF1EDFA528A6BC46A2CC9E44D134D76F72577
def wCrc : List Byte := beBytes 55 0x120042030000000000000000050100030000000000000004000000060000000125715E3A8EF1EDFA528A6BC46A2CC9E44D134C84FB2889
def wForm : List Byte := beBytes 55 0x120842030000000000000000050100030000000000000004000000060000000125715E3A8EF1EDFA528A6BC46A2CC9E44D134D9299DA16
def wKey : List Byte := beBytes 55 0x120042030000000000000000060100030000000000000004000000060000000125715E3A8EF1EDFA528A6BC46A2CC9E44D134DE5F92B0B
def wPark : List Byte := beBytes 55 0x120102030000000000000000050100030000000800000004000000060000000125715E9F2FD682BA2FA335102655283A05A01268267871
def wAbandon : List Byte := beBytes 56 0x120202030000000000000000050100040000000000000004000000060000000127735D9A07CBD2380C2637C786EAC9792BF695FC67B1C969
def wAck : List Byte := beBytes 68 0x130002030000000000000000050100100000000000000000000000000000000080FAA0683FE0DB18D2264F92F3FDCD89AB6413EBBC35A7937ADA64DDE59E3BB7F1DF3810
def wNak : List Byte := beBytes 64 0x1400020300000000000000000501000C0000000000000000000000000000000081FAA0613FE0DB5DD2264F9A8C6D78B12AA7C362381F1F706106B4AB670D4943
def wProbeReq : List Byte := beBytes 84 0x150002030000000000000000050100200000000000000000000000000000000080FAA0613FE3DB55D2264F92F3FDCD893164E93EFF1C761A6C3807E6587B8DDC06BE30E64C7D844AB363A32E318A738790A8376A
def wProbeRep : List Byte := beBytes 84 0x150002030000000000000000050100200000000000000000000000000000000080FAA0613EE3DB55D2264F92F3FDCD893164E93EFF1C761A6C3807E6587B8DDCF8DD81E55914DA39858BE2A0D106B038DE26E4A4
def wBook : List Byte := beBytes 72 0x1600020300000000000000000501001400000000000000040000000000000000257C5D9AE395EC88C6F4811EE98DCFE1C56FD5C646532A3CA6AEA9C9491ED7A8B753901BE0D53543
def wBook2 : List Byte := beBytes 72 0x160002030000000000000000050100140000000000000004000000000000000027715D9ADC15EC88C6F48119E98DCFE1FA6FEA460850C32AB2D1F6965A3B828B54B81D3E9491082C
def wReady : List Byte := beBytes 68 0x170002030000000000000000050100100000000000000000000000000000000024735D9AE395ECC846F4811EE98DCFE1B0C3FEAF707B041EAEEC8C6C2D0953A039899CE9
def wCommit : List Byte := beBytes 68 0x180002030000000000000000050100100000000000000000000000000000000024735D9AE395EC84C6F4811EE98DCFE15D202425C492507A746914459B58D4D66D7F4630
def wEpoch : List Byte := beBytes 100 0x190002030000000000000000050100300000000000000000000000000000000024735D9AE395EC8DC6F4811EE98DCFE1C56FD5C6FEC9538C9D4027FD7DB83CB1E6CBFA13F0EBF9950A9D6E537CF90A955F73CF9F1E31D9CD94DE766117B5AA13A4534978
def wHorizon : List Byte := beBytes 108 0x1A0002030000000000000000050100380000000000000000000000000000000024735D9AE395EC88C6F4811EE98DCFE0C56CD5C6FEC9538C9D4027FD7DB83CB1E6CBFA13F0EBF9950A9D6E537CF90A95CA049567321CB745AA9F9472A4D244671401690FD707EC1A6438DAE8
def wRecon : List Byte := beBytes 108 0x1B0002030000000000000000050100380000000000000000000000000000000024735D9AE395EC88C70B831EE98DCFE1C56FD5C6FEC953889D4027FD7DB83CB1E6CBFA13F0EBF9950A9D6E537CF90A95CA049567321CB743CAA8FF45434152C1D98664EB78636A170EB66B1E
def wReport : List Byte := beBytes 84 0x1200220300000000000000000501002000000000001FFFFF000000000000000125765D9AE395EC88C6F4811EE98DCF85C56FD5C6FEC9538B9D4027F87DB83CB10991441A8BD3F33A78EEBE778B53EFDDEF5B1DEC
def wRelay : List Byte := beBytes 166 0x1200220300000000000000000501007200000000001FFFFF000000000000000126735DC8E395EC88C6F4811EE98DCFE1C56FD5C6FEC9538C9D4027FD7DB83CB1E6CBFA13F0EBF9950A9D6E53F40E1197CA449567321CB745B6480754A08962DBC5DA6A7D5D40F7E452A895B99CC902E9EFDAB4484F830DD53BA503647048DF61A348FA01482CD16E9DD1B160B8644F300A0AF73EE7C7661AA0EDF846828804C7C22FDC056E99
def wHelloNew : List Byte := beBytes 100 0x110002030000000000000000050100300000000000000000000000000000000080FAA0613FE0DB55D2264F92F3FDCD893164E93EFF1C761A6F3906E6587B8DF4CEEB2D1B4EE6AF9F864460A44FB4B8A5623399D04E6D8E8D9EA52F79A58E043A32050CA5
def wDataC3 : List Byte := beBytes 55 0x120062030000000000000000050100030000000000000004000000000000000125715E0D1A7ECC5D2900F14F93D8F9FF80B2CFD119BE14
def wDataC4 : List Byte := beBytes 55 0x120082030000000000000000050100030000000000000004000000060000000125715EB569E4AE03D71A3349AA296A8C7E29F4EDAEDB48
def wAbandon1 : List Byte := beBytes 64 0x1202020300000000000000000501000C0000000000000004000000060000000125725D9AE395EC89C6F4811FD859256A1314730D73030E331E097F0CC60C02FA
def wAbandon3 : List Byte := beBytes 64 0x1202020300000000000000000501000C0000000000000004000000060000000127725D9AE395EC89C6F4811F5FFE2C901E280BE983A90577FD33368AFF949013
def wNak1 : List Byte := beBytes 64 0x1400020300000000000000000501000C0000000000000000000000000000000081FBA0613FE0DB5DD2264F9A1FE8AB35D7A15D5E4A674A75C377298F751DD6A4
def wReadyFar : List Byte := beBytes 68 0x170002030000000000000000050100100000000000000000000000000000000024735D9AE395ECC946F4811EE98DCFE1DAAFEE3EA7BEDF9B7D68716AB33521D8ACA7157C
def wBook3 : List Byte := beBytes 72 0x160002030000000000000000050100140000000000000004000000000000000027715D9ADC15EC88C6F48119E98DCFE1FA6FEA067726225E53EEB731D5271C9E15D08159578E0FBA
def wRecon3 : List Byte := beBytes 108 0x1B0002030000000000000000050100380000000000000000000000000000000024735D9AE395EC88C70B821EE98DCFE1C56FD5C6FEC9538C9D4027FD7DB83CB1E6CBFA13F0EBF9950A9D6E537CF90A95CA049567321CB7458EFD3FBB4FBA676B61693F438E53E7498A5AC366
def wReconBad : List Byte := beBytes 108 0x1B0002030000000000000000050100380000000000000000000000000000000024735D9AE395EC88C70B831EE98DCFE1C56FD5C6FEC9538C9D4027FD7DB83CB1E6CBFA13F0EBF9950A9D6E537CF90A95CA049567321CB743545B059AEDE018EEEA6CECDC7B1B21E82644C11B
def wEpochEq : List Byte := beBytes 100 0x190002030000000000000000050100300000000000000000000000000000000024735D9AE395EC88C6F4811EE98DCFE1C56FD5C6FEC9538C9D4027FD7DB83CB1E6CBFA13F0EBF9950A9D6E537CF90A9577BCCBF75B38C1696BCE5C5BD413F313F97B64C7
def wRelayLate : List Byte := beBytes 166 0x1200220300000000000000000501007200000000001FFFFF000000000000000126735DC8E395EC88C6F4811EE98DCFE1C56FD5C6FEC9538C9D4027FD7DB83CB1E6CBFA13F0EBF9950A9D6E53F40E1A97CA449567321CB745B6480754A08962DBC5DA6A7D5D40F7E452A895B99CC902E9EFDAB4484F830DD53BA503647048DF61A348FA01482CD16E9DD1B160B8644F300A0A340DB5206330C36F52F0C03FD13E9DC009E42649
def wRelaySync : List Byte := beBytes 166 0x1200220300000000000000000501007200000000001FFFFF000000000000000126735DC8E395EC88C6F4811EE98DCFE1C56FD5C6FEC9749C9D4027FD7DB83CB1E6CBFA13F0EBF9950A9D6E53F40E1A97CA449567321CB745B6480754A08962DBC5DA6A7D5D40F7E452A895B99CC902E9EFDAB4484F830DD53BA503647048DF61A348FA01482CD16E9DD1B160B8644F300A0A4CA8EA898C85978D4B08B770C427F4A4D85C6AC6

/-- Session 2 declared toward site 3 in its role 1, with keys for receiving; fields set; nothing can be sealed. -/
def tLink (fs : List (Fld × Nat × Nat)) : State :=
  let s := tUp ([(F.PEER_SESSn_CFG_PEER_SITE, 2, 3), (F.PEER_SESSn_CFG_PEER_ROLE, 2, 1), (F.PEER_SESSn_RX_SLOT_SLOT, 2, 5)
    , (F.PEER_SESSn_CFG_TX_SLOT, 2, 6), (F.PEER_SESSn_WIN_A_WMAX, 2, 64), (F.PEER_SESSn_STATE_STATE, 2, ssOpen)] ++ fs)
  { s with now := 10 ^ 9, conf := { s.conf with sess := [(2, SessConf.mk 0 0)] }
           ciph := { s.ciph with uses := [(5, useLineRx)], slots := [(5, [gen1])] } }

/-- What the checks hand on of a block, put to a test with the state that they leave. -/
def tPass (s : State) (bs : List Byte) (p : Arrival → State → Bool) : Bool :=
  match s.screen 3 bs with
  | (some a, u) => decide (a.session = 2) && p a u
  | (none, _) => false

theorem test_checks_in_order : (tLink []).Canon ∧
    (lineBlk wCrc).kind = kData ∧ (lineBlk wCrc).abandon = false ∧ (lineBlk wCrc).timeBlock = false ∧ crcOk wCrc (lineBlk wCrc) = false ∧
    nx (exec (.dataReceive 3 wCrc) (tLink [])) (fun t => t.f F.PEER_CRC_ERR_COUNT = 1 && t.peer.rx = []) = true ∧
    crcOk wForm (lineBlk wForm) = true ∧ (tLink []).formOk (lineBlk wForm) = false ∧
    nx (exec (.dataReceive 3 wForm) (tLink [])) (fun t => t.f F.PEER_PROTO_ERR_COUNT = 1) = true ∧
    crcOk wKey (lineBlk wKey) = true ∧ (tLink []).formOk (lineBlk wKey) = true ∧ (lineBlk wKey).slot ≠ (tLink []).f F.PEER_SESSn_RX_SLOT_SLOT 2 ∧
    nx (exec (.dataReceive 3 wKey) (tLink [])) (fun t => t.f F.PEER_KEY_UNKNOWN_COUNT = 1) = true := by decide +kernel

theorem test_check_of_the_tag : (lineBlk wDataBad).kind = kData ∧ crcOk wDataBad (lineBlk wDataBad) = true ∧
    (tLink []).formOk (lineBlk wDataBad) = true ∧ (tLink []).liveGen 5 1 = some gen1 ∧ (lineBlk wDataBad).slot = 5 ∧
    (tLink []).openBlk 2 gen1 (lineBlk wDataBad) = none ∧
    nx (exec (.dataReceive 3 wDataBad) (tLink [])) (fun t => t.f F.PEER_SESSn_TAG_FAIL_COUNT 2 = 1 && t.peer.rx = []) = true := by
  decide +kernel

theorem test_helloReceive_opens_or_disagrees :
    tPass (tLink [(F.PEER_SESSn_STATE_STATE, 2, ssOpening)]) wHello (fun a u => a.blk.kind = kHello && u.helloAgrees 2 a.payload &&
      u.sessState 2 = ssOpening) = true ∧
    nx (exec (.helloReceive 3 wHello) (tLink [(F.PEER_SESSn_STATE_STATE, 2, ssOpening)])) (fun t => t.sessState 2 = ssOpen &&
      t.f F.PEER_EVENTS_OPENED = 1 && (t.sess 2).peerWindow = some 77) = true ∧
    tPass (tLink [(F.PEER_SESSn_STATE_STATE, 2, ssOpening)]) wHelloJob (fun a u => !u.helloAgrees 2 a.payload && u.sessState 2 = ssOpening) = true ∧
    nx (exec (.helloReceive 3 wHelloJob) (tLink [(F.PEER_SESSn_STATE_STATE, 2, ssOpening)])) (fun t => t.sessState 2 = ssOpening &&
      t.f F.PEER_EVENTS_HELLO_MISMATCH = 1) = true := by decide +kernel

theorem test_dataReceive_lands :
    tPass (tLink []) wData (fun a u => a.blk.kind = kData && !a.blk.abandon && !a.blk.timeBlock && a.blk.cls = 2 &&
      u.seqPlace 2 a.blk.seq = .fresh && !a.blk.flags.testBit 0) = true ∧
    nx (exec (.dataReceive 3 wData) (tLink [])) (fun t => (t.sess 2).ackCount = 1 && t.f F.PEER_SESSn_RECEIVED_COUNT 2 = 1 &&
      t.peer.rx.map RxChunk.got = [[(0, 0, wData)]]) = true := by decide +kernel

theorem test_dataReceive_park_full :
    tPass (tLink [(F.COL_PARK_LIMIT, 0, 0)]) wPark (fun a u => a.blk.cls = 0 && u.seqPlace 2 a.blk.seq = .fresh && a.blk.flags.testBit 0 &&
      !u.admitted a.blk.step && u.f F.COL_PARK_LIMIT * 2 ^ 20 < (u.col.parked.map fun p => p.bytes.length).sum + wPark.length) = true ∧
    nx (exec (.dataReceive 3 wPark) (tLink [(F.COL_PARK_LIMIT, 0, 0)])) (fun t => t.f F.COL_EVENTS_PARK_FULL = 1 && t.col.parked = [] &&
      (t.sess 2).ackCount = 0) = true := by decide +kernel

theorem test_abandonmentReceive_shows :
    tPass (tLink []) wAbandon (fun a _ => a.blk.kind = kData && a.blk.abandon) = true ∧
    nx (exec (.abandonmentReceive 3 wAbandon) (tLink [])) (fun t => t.f F.PEER_EVENTS_ABANDON = 1 &&
      t.f F.PEER_SESSn_LAST_ABANDON_STREAM 2 = 4 && t.f F.PEER_SESSn_LAST_ABANDON_REASON 2 = 3 &&
      t.f F.PEER_SESSn_LAST_ABANDON_CHUNK 2 = 6) = true := by decide +kernel

/-- Block 8 of session 2, sent a second ago by an item. -/
def tOut (item : Option Nat) (resends : Nat) : TxBlock :=
  { dseq := 8, kind := kData, cls := 0, stream := 4, localStream := 0, step := 5, chunk := 6, adhoc := false, bytes := [1]
    item := item, books := [], phase := .sent, firstRoute := 0, lastRoute := 0, lastSent := 0, timerAt := 0, resends := resends
    abandoned := false, corr := false }

/-- Route A of session 2 up and that block unacknowledged. -/
def tSent (item : Option Nat) (resends : Nat) : State :=
  (tIn (tLink [(F.PEER_SESSn_STATE_ROUTE_A, 2, rtUp)]) [tItem (tRow opSend)]).updSess 2 fun x => { x with tx := [tOut item resends] }

theorem test_ackReceive_is_done_with_it :
    tPass (tSent none 0) wAck (fun a _ => a.blk.kind = kAck) = true ∧
    nx (exec (.ackReceive 3 wAck) (tSent none 0)) (fun t => (t.sess 2).peerWindow = some 77 &&
      (t.sess 2).tx.all fun b => b.phase ≠ .sent) = true := by decide +kernel

theorem test_nakReceive_sends_again :
    tPass (tSent none 0) wNak (fun a u => a.blk.kind = kNak && hdrAt a.payload 1 1 = 0 &&
      bodyRanges a.payload (hdrAt a.payload 0 1) = [(8, 8)] && (u.sess 2).tx = [tOut none 0] &&
      u.f F.PEER_SESSn_STATE_EPOCH_WAIT 2 = 0 && u.elapsed 0 (u.rtt 2 0) && u.upRoutes 2 ≠ []) = true ∧
    nx (exec (.nakReceive 3 wNak) (tSent none 0)) (fun t => t.f F.PEER_SESSn_RESENT_COUNT 2 = 1 &&
      (t.sess 2).tx.map TxBlock.resends = [1]) = true := by decide +kernel

/-- The session can seal. -/
def tSealing (s : State) : State := s.setf F.PEER_SESSn_CFG_TX_SLOT 5 2

theorem test_probeRequestReceive_answers :
    tPass (tSealing (tLink [])) wProbeReq (fun a u => a.blk.kind = kProbe && !(hdrAt a.payload 4 1).testBit 0 && (u.txGen 2).isSome) = true ∧
    nx (exec (.probeRequestReceive 3 wProbeReq) (tSealing (tLink []))) (fun t => (t.queue 0 0).map QBlock.port = [some 3] &&
      (t.queue 0 0).map QBlock.session = [2]) = true := by decide +kernel

theorem test_probeReplyReceive_proves :
    tPass (tLink []) wProbeRep (fun a u => (hdrAt a.payload 4 1).testBit 0 && !u.routeDisabled 2 0 && u.route 2 0 = rtDown) = true ∧
    nx (exec (.probeReplyReceive 3 wProbeRep) (tLink [])) (fun t => t.route 2 0 = rtProving) = true ∧
    tPass ((tLink [(F.PEER_SESSn_STATE_ROUTE_A, 2, rtProving)]).updSess 2 fun x => { x with routeA := { x.routeA with proved := 99 } })
      wProbeRep (fun _ u => !u.routeDisabled 2 0 && u.route 2 0 = rtProving && u.ephProve ≤ ((u.sess 2).rt 0).proved + 1) = true ∧
    nx (exec (.probeReplyReceive 3 wProbeRep) ((tLink [(F.PEER_SESSn_STATE_ROUTE_A, 2, rtProving)]).updSess 2
      fun x => { x with routeA := { x.routeA with proved := 99 } })) (fun t => t.route 2 0 = rtUp && t.f F.PEER_EVENTS_ROUTE_UP = 1) = true := by
  decide +kernel

/-- Stream 4 receives segments of rate 2 on session 2. -/
def tBookIn : State :=
  ((tLink []).wrBytes 0 4096 (tSeg 2)).setCtx 4 { Ctx.invalid with valid := true, segment := true, session := 2, seg := tD 0 16 1 }

theorem test_codebookReceive_installs_or_counts :
    tPass (tLink []) wBook (fun a u => a.blk.kind = kCodebook && !(u.ctx a.blk.stream).valid) = true ∧
    nx (exec (.codebookReceive 3 wBook) (tLink [])) (fun t => t.f F.PEER_PROTO_ERR_COUNT = 1 && t.cmp.books = []) = true ∧
    tPass tBookIn wBook2 (fun a u => let c := u.ctx a.blk.stream; let g := u.seg c
      c.valid && !c.send && c.segment && c.session = 2 && g.rate = 2 && !g.fixedCb && !g.lowrank &&
      bookOfBytes g.rate a.payload = some ⟨3, 2, 0x3F800000, 7, [0x3F00, 0x3F80]⟩ && u.bookOf g.cbSlot 3 = none && u.liveBooks g.cbSlot = []) = true ∧
    nx (exec (.codebookReceive 3 wBook2) tBookIn) (fun t => (t.bookOf 0 3).any (fun k => k.lim = 0x3F800000 && k.levels = [0x3F00, 0x3F80]) &&
      (t.sess 2).cbAcks = [(4, 3, 8)]) = true := by decide +kernel

theorem test_stepReady_and_stepCommit :
    tPass (tLink []) wReady (fun a u => a.blk.kind = kStepReady && hdrAt a.payload 0 8 = u.f F.SEQ_MERIDIAN_STEP + 64) = true ∧
    nx (exec (.stepReadyReceive 3 wReady) (tLink [])) (fun t => (tfind 64 t.peer.ready).getD 0 = 0x8000) = true ∧
    tPass (tLink []) wCommit (fun a _ => a.blk.kind = kStepCommit) = true ∧
    nx (exec (.stepCommitReceive 3 wCommit) (tLink [])) (fun t => t.f F.PEER_SESSn_PEER_MERIDIAN_STEP 2 = 12) = true := by decide +kernel

theorem test_epochReceive_waits :
    tPass (tLink []) wEpoch (fun a u => a.blk.kind = kEpoch && u.f F.PEER_EPOCH_EPOCH < hdrAt a.payload 0 8) = true ∧
    nx (exec (.epochReceive 3 wEpoch) (tLink [])) (fun t => t.f F.PEER_SESSn_STATE_EPOCH_WAIT 2 = 1 && (t.sess 2).waitFor = 5 &&
      t.f F.PEER_EVENTS_EPOCH_AHEAD = 1) = true := by decide +kernel

/-- A reconciliation of session 2. -/
def tRec0 : Recon :=
  { session := 2, common := 0, peerThrough := 0, peerLast := 0, yielder := 0xFF, ownLast := 0, outBlocks := [], inBlocks := []
    ownSent := false, peerSent := none, peerApplied := false }

def tResync (st : Nat) : State :=
  (tLink [(F.PEER_SESSn_STATE_STATE, 2, ssResync), (F.PEER_RECON_STATE, 0, st)]).setRecon (some tRec0)

theorem test_horizonReceive_agrees_on_a_step :
    tPass (tResync rcHorizon) wHorizon (fun a u => a.blk.kind = kHorizon && u.sessState 2 = ssResync && u.peer.recon = some tRec0 &&
      u.f F.PEER_RECON_STATE = rcHorizon && !u.exact && u.f F.PEER_FAULT_CFG_POLICY ≠ 2 &&
      min (u.firstIsland - 1) (hdrAt a.payload 8 8 - 1) ≤ u.f F.SEQ_MERIDIAN_STEP) = true ∧
    nx (exec (.horizonReceive 3 wHorizon) (tResync rcHorizon)) (fun t => t.f F.PEER_RECON_STATE = rcDelta &&
      t.peer.recon.any fun x => x.common = 0 && x.peerThrough = 0) = true := by decide +kernel

theorem test_reconcileReceive_keeps_the_digest :
    tPass (tResync rcDelta) wRecon (fun a u => a.blk.kind = kReconcile && u.peer.recon = some tRec0 && hdrAt a.payload 10 1 = 2 &&
      u.f F.PEER_RECON_STATE = rcDelta) = true ∧
    nx (exec (.reconcileReceive 3 wRecon) (tResync rcDelta)) (fun t => t.peer.recon = some { tRec0 with peerSent := some (4, 6) }) = true ∧
    (tResync rcDelta).Canon ∧ ((tResync rcDelta).sess 2).tx = [] ∧
    nx (exec (.correctionSent 2) (tResync rcDelta)) (fun t => t.peer.recon = some { tRec0 with ownSent := true }) = true := by decide +kernel

theorem test_stopped_block_is_done_with : (tLink []).Canon ∧ (tLink []).screen 3 wCrc = (none, (tLink []).count F.PEER_CRC_ERR_COUNT) ∧
    (lineBlk wCrc).kind = kData ∧ (lineBlk wCrc).abandon = false ∧ (lineBlk wCrc).timeBlock = false := by decide +kernel

theorem test_helloReceive_elsewhere :
    tPass (tLink []) wHelloJob (fun a u => !u.helloAgrees 2 a.payload && u.sessState 2 = ssOpen) = true ∧
    nx (exec (.helloReceive 3 wHelloJob) (tLink [])) (fun t => t.f F.PEER_EVENTS_HELLO_MISMATCH = 0 && t.f F.PEER_SESSn_RECEIVED_COUNT 2 = 1) = true ∧
    nx (exec (.helloReceive 3 wHello) (tLink [])) (fun t => t.sessState 2 = ssOpen && (t.sess 2).txCtl = 0) = true ∧
    nx (exec (.helloReceive 3 wHello) (tLink [(F.PEER_SESSn_STATE_STATE, 2, ssEclipse)])) (fun t => t.sessState 2 = ssResync &&
      t.f F.PEER_RECON_STATE = rcHorizon) = true := by decide +kernel

theorem test_helloReceive_new :
    tPass (tLink [(F.PEER_SESSn_CFG_TX_SLOT, 2, 5)]) wHelloNew (fun a u => u.helloAgrees 2 a.payload && hdrAt a.payload 26 1 = 1 &&
      u.sessState 2 = ssOpen && !u.peer.adopting && (u.txGen 2).isSome) = true ∧
    nx (exec (.helloReceive 3 wHelloNew) (tLink [(F.PEER_SESSn_CFG_TX_SLOT, 2, 5)])) (fun t => t.sessState 2 = ssResync &&
      t.f F.PEER_RECON_YIELDER = 3 && t.f F.PEER_SESSn_RX_CUM 2 = 40 && (t.sess 2).txCtl = 1) = true := by decide +kernel

/-- Session 2 has taken in block 0 and asks for it again. -/
def tWants : State := (tLink [(F.PEER_SESSn_RX_CUM, 2, 1)]).updSess 2 fun x => { x with rxWanted := [0] }

theorem test_dataReceive_wanted_and_delivered :
    tPass tWants wData (fun a u => u.seqPlace 2 a.blk.seq = .wanted && !a.blk.timeBlock) = true ∧
    nx (exec (.dataReceive 3 wData) tWants) (fun t => (t.sess 2).rxWanted = [] && (t.sess 2).ackCount = 1) = true ∧
    tPass (tLink []) wDataC3 (fun a u => u.seqPlace 2 a.blk.seq = .fresh && a.blk.cls = 3) = true ∧
    nx (exec (.dataReceive 3 wDataC3) (tLink [])) (fun t => (t.sess 2).ackCount = 1 && t.peer.rx = []) = true := by decide +kernel

theorem test_dataReceive_parks : tPass (tLink [(F.COL_PARK_LIMIT, 0, 1)]) wPark (fun a u => a.blk.flags.testBit 0 && !u.admitted a.blk.step &&
      (u.col.parked.map fun p => p.bytes.length).sum + wPark.length ≤ u.f F.COL_PARK_LIMIT * 2 ^ 20) = true ∧
    nx (exec (.dataReceive 3 wPark) (tLink [(F.COL_PARK_LIMIT, 0, 1)])) (fun t => t.f F.COL_PARKED_COUNT = 1 &&
      t.col.parked.map Parked.id = [8] && (t.sess 2).ackCount = 1) = true := by decide +kernel

/-- An OPEN that has asked for block 1 once more. -/
def tAsking : State :=
  let s := tIn (tLink []) [tItem (tRow opOpen)]
  { s with cmp := { s.cmp with refetch := [(7, 2, [1])] } }

theorem test_abandonmentReceive_fails_chunk_or_item :
    tPass (tLink []) wAbandon1 (fun a u => hdrAt a.payload 0 1 = 1 && bodyRanges a.payload 1 = [(1, 1)] &&
      (u.accept a).seqPlace 2 1 = .fresh) = true ∧
    nx (exec (.abandonmentReceive 3 wAbandon1) (tLink [])) (fun t => t.peer.rx.map (fun c => (c.chunk, c.failed)) = [(6, true)]) = true ∧
    tPass tAsking wAbandon3 (fun a u => hdrAt a.payload 0 1 = 3 && bodyRanges a.payload 1 = [(1, 1)] && u.cmp.refetch = [(7, 2, [1])] &&
      (u.item 7).isSome) = true ∧
    nx (exec (.abandonmentReceive 3 wAbandon3) tAsking) (fun t => tEnded tAsking t .failedTag) = true := by decide +kernel

theorem test_nakReceive_not_held_or_suspended :
    tPass (tLink [(F.PEER_SESSn_CFG_TX_SLOT, 2, 5)]) wNak1 (fun a u => hdrAt a.payload 1 1 = 1 && bodyRanges a.payload 1 = [(8, 8)] &&
      (u.sess 2).tx = [] && (u.sess 2).unsealed = [] && (u.txGen 2).isSome) = true ∧
    nx (exec (.nakReceive 3 wNak1) (tLink [(F.PEER_SESSn_CFG_TX_SLOT, 2, 5)])) (fun t => t.f F.PEER_SESSn_TX_NEXT 2 = 1) = true ∧
    nx (exec (.nakReceive 3 wNak) ((tSent none 0).setf F.PEER_SESSn_STATE_EPOCH_WAIT 1 2)) (fun t => (t.sess 2).tx = [tOut none 0]) = true := by
  decide +kernel

theorem test_probes_elsewhere :
    ((tLink []).txGen 2) = none ∧
    nx (exec (.probeRequestReceive 3 wProbeReq) (tLink [])) (fun t => t.queue 0 0 = [] && t.f F.PEER_SESSn_RECEIVED_COUNT 2 = 1) = true ∧
    nx (exec (.probeReplyReceive 3 wProbeRep) (tLink [(F.PEER_SESSn_CTRL_A_DISABLE, 2, 1)])) (fun t => t.route 2 0 = rtDown) = true ∧
    nx (exec (.probeReplyReceive 3 wProbeRep) (tLink [(F.PEER_SESSn_STATE_ROUTE_A, 2, rtProving)])) (fun t => t.route 2 0 = rtProving &&
      ((t.sess 2).rt 0).proved = 1) = true ∧
    nx (exec (.probeReplyReceive 3 wProbeRep) (tLink [(F.PEER_SESSn_STATE_ROUTE_A, 2, rtUp)])) (fun t => t.route 2 0 = rtUp &&
      ((t.sess 2).rt 0).replyAt = 10 ^ 9) = true := by decide +kernel

/-- Slot 0 of the receiving stream 4 with live generations. -/
def tRxBooks (bs : List Book) (opens : Nat) : State :=
  let s := bs.zipIdx.foldl (fun s b => s.setBook b.2 b.1) tBookIn
  if opens = 0 then s else { s with seq := { s.seq with items := [{ tItem (tRow opDecode) with books := [(0, 1)] }] } }

def tRxBook (gen : Nat) (current : Bool) : Book :=
  { gen := gen, rate := 2, live := true, current := current, acked := true, fixed := false, conflicted := false, lim := 0x3F800000, step := 7
    lastUse := 0, levels := [0x3F00, 0x3F80], doomed := false }

theorem test_codebookReceive_again_conflict_waits :
    tPass (tRxBooks [tRxBook 3 true] 0) wBook2 (fun a u => (u.bookOf 0 3) = some (tRxBook 3 true) && (u.seg (u.ctx a.blk.stream)).cbSlot = 0) = true ∧
    nx (exec (.codebookReceive 3 wBook2) (tRxBooks [tRxBook 3 true] 0)) (fun t => (t.sess 2).cbAcks = [(4, 3, 8)] && t.cmp.books = [(0, tRxBook 3 true)]) = true ∧
    nx (exec (.codebookReceive 3 wBook3) (tRxBooks [tRxBook 3 true] 0)) (fun t => t.f F.CMP_EVENTS_CONFLICT = 1) = true ∧
    tPass (tRxBooks [tRxBook 1 false, tRxBook 2 true] 1) wBook2 (fun _ u => (u.bookOf 0 3).isNone && (u.liveBooks 0).length = 2 &&
      (u.retiring 0).map Book.gen = some 1 && 0 < u.bookPins 0 1) = true ∧
    nx (exec (.codebookReceive 3 wBook2) (tRxBooks [tRxBook 1 false, tRxBook 2 true] 1)) (fun t => t.cmp.waits.map (fun w => w.body.gen) = [3] &&
      t.cmp.books.length = 2) = true := by decide +kernel

theorem test_stepReady_too_far_and_epochs :
    tPass (tLink []) wReadyFar (fun a u => hdrAt a.payload 0 8 = u.f F.SEQ_MERIDIAN_STEP + 65) = true ∧
    nx (exec (.stepReadyReceive 3 wReadyFar) (tLink [])) (fun t => t.f F.PEER_PROTO_ERR_COUNT = 1 && t.peer.ready = []) = true ∧
    nx (exec (.epochReceive 3 wEpochEq) (tLink [(F.PEER_SESSn_STATE_EPOCH_WAIT, 2, 1)])) (fun t => t.f F.PEER_SESSn_STATE_EPOCH_WAIT 2 = 0) = true ∧
    tPass (tLink [(F.PEER_EPOCH_EPOCH, 0, 1)]) wEpochEq (fun a u => hdrAt a.payload 0 8 < u.f F.PEER_EPOCH_EPOCH) = true ∧
    nx (exec (.epochReceive 3 wEpochEq) (tLink [(F.PEER_EPOCH_EPOCH, 0, 1)])) (fun t => t.f F.PEER_SESSn_STATE_EPOCH_WAIT 2 = 1) = true ∧
    tPass ((tLink []).setf F.PEER_SESSn_STATE_EPOCH_WAIT 1 2) wEpochEq (fun a u => hdrAt a.payload 0 8 = u.f F.PEER_EPOCH_EPOCH &&
      (u.sess 2).waitFor = 0) = true := by decide +kernel

theorem test_horizon_and_reconcile_elsewhere :
    (tLink []).peer.recon = none ∧ tPass (tLink [(F.PEER_SESSn_STATE_STATE, 2, ssOpening)]) wHorizon (fun _ u => u.peer.recon = none &&
      u.sessState 2 = ssOpening) = true ∧
    nx (exec (.horizonReceive 3 wHorizon) (tLink [(F.PEER_SESSn_STATE_STATE, 2, ssOpening)])) (fun t => t.peer.recon = none) = true ∧
    nx (exec (.reconcileReceive 3 wRecon3) (tResync rcDelta)) (fun t => t.peer.recon = some { tRec0 with peerApplied := true }) = true ∧
    nx (exec (.reconcileReceive 3 wRecon3) (tResync rcApplied)) (fun t => t.f F.PEER_RECON_STATE = 0 && t.sessState 2 = ssOpen &&
      t.f F.PEER_FAULT_EVENTS_RECONCILED = 1) = true := by decide +kernel

theorem test_horizonReceive_exact_and_correction :
    (tResync rcHorizon).Canon ∧ ((tResync rcHorizon).setf F.PEER_FAULT_CFG_EXACT 1).exact = true ∧
    nx (exec (.horizonReceive 3 wHorizon) ((tResync rcHorizon).setf F.PEER_FAULT_CFG_EXACT 1)) (fun t =>
      t.sessState 2 = ssOpen && t.f F.PEER_RECON_STATE = 0 && t.peer.recon = none) = true ∧
    tPass (tResync rcDelta) wDataC4 (fun a u => u.seqPlace 2 a.blk.seq = .fresh && a.blk.cls = 4 && u.sessState 2 = ssResync) = true ∧
    nx (exec (.dataReceive 3 wDataC4) (tResync rcDelta)) (fun t => (t.sess 2).ackCount = 1 &&
      t.peer.recon = some { tRec0 with inBlocks := [(0, 4, [1, 2, 3])] }) = true := by decide +kernel

theorem test_reconcileReceive_mismatch_fails :
    let s := (tResync rcDelta).setRecon (some { tRec0 with ownSent := true })
    tPass s wReconBad (fun a u => u.f F.PEER_RECON_STATE = rcDelta && hdrAt a.payload 16 8 = 0 && hdrAt a.payload 24 32 = 6) = true ∧
    beNat (byts (sha256 [])) ≠ 6 ∧
    nx (exec (.reconcileReceive 3 wReconBad) s) (fun t => t.f F.PEER_RECON_STATE = rcFailed && t.f F.PEER_FAULT_EVENTS_RECON_FAIL = 1) = true := by
  decide +kernel

theorem test_ackSend_and_gapNak :
    let s := (tSealing (tLink [(F.PEER_SESSn_STATE_ROUTE_A, 2, rtUp), (F.PEER_SESSn_RX_HIGH, 2, 2)])).updSess 2 fun x =>
      { x with ackCount := 16, rxAbove := [(1, 0, 0)] }
    s.Canon ∧ s.ackRoutes 2 = [0] ∧ (s.txGen 2).isSome = true ∧ s.overtaken 2 = [0] ∧
    nx (exec (.ackSend 2) s) (fun t => (t.sess 2).ackCount = 0 && (t.queue 0 0).length = 1) = true ∧
    nx (exec (.gapNak 2) s) (fun t => (t.sess 2).naked.map Prod.fst = [0]) = true := by decide +kernel

theorem test_resendTimer_sends_again_or_ends :
    (tSent (some 7) 15).Canon ∧ ((tSent (some 7) 15).sess 2).tx = [tOut (some 7) 15] ∧ (tSent (some 7) 15).timersRun 2 (tOut (some 7) 15) = true ∧
    (tSent (some 7) 15).elapsed 0 (3 * (tSent (some 7) 15).rtt 2 0 / 2 + 200000) = true ∧ (tSent (some 7) 15).upRoutes 2 ≠ [] ∧
    nx (exec (.resendTimer 2 8) (tSent (some 7) 15)) (fun t => t.f F.PEER_SESSn_TIMEOUTS_COUNT 2 = 1 &&
      t.f F.PEER_SESSn_RESENT_COUNT 2 = 1 && (t.sess 2).tx.map TxBlock.resends = [16]) = true ∧
    (tSent (some 7) 16).Canon ∧ ((tSent (some 7) 16).item 7).isSome = true ∧ (tSent (some 7) 16).timersRun 2 (tOut (some 7) 16) = true ∧
    nx (exec (.resendTimer 2 8) (tSent (some 7) 16)) (fun t => tEnded (tSent (some 7) 16) t .failedResendLimit &&
      t.f F.PEER_EVENTS_RESEND_LIMIT = 1) = true := by decide +kernel

theorem test_probeSend_and_helloSend :
    let s := tSealing (tLink [(F.PEER_SESSn_STATE_STATE, 2, ssOpening), (F.PEER_SESSn_CTRL_B_DISABLE, 2, 1)])
    s.Canon ∧ s.peer.probeAt = none ∧ s.declared = [2] ∧ s.routeDisabled 2 0 = false ∧ (s.txGen 2).isSome = true ∧ (s.sess 2).helloAt = 0 ∧
    nx (exec .probeSend s) (fun t => t.peer.probeAt = some (10 ^ 9) && (t.queue 0 0).map QBlock.port = [some 0]) = true ∧
    nx (exec (.helloSend 2) s) (fun t => (t.sess 2).helloAt = 10 ^ 9 && (t.queue 0 0).map QBlock.session = [2]) = true := by decide +kernel

theorem test_routes_go_down :
    (tSent none 0).route 2 0 = rtUp ∧ (tSent none 0).routeLost 2 0 = true ∧
    nx (exec (.routeSilence 2 0) (tSent none 0)) (fun t => t.route 2 0 = rtDown && t.f F.PEER_EVENTS_ROUTE_DOWN = 1) = true ∧
    (tLink [(F.PEER_SESSn_STATE_ROUTE_B, 2, rtProving)]).Canon ∧ (tLink [(F.PEER_SESSn_STATE_ROUTE_B, 2, rtProving)]).route 2 1 = rtProving ∧
    nx (exec (.routeProveTimeout 2 1) (tLink [(F.PEER_SESSn_STATE_ROUTE_B, 2, rtProving)])) (fun t => t.route 2 1 = rtDown) = true ∧
    nx (exec (.routeDisableWrite 2 3) (tSent none 0)) (fun t => t.f F.PEER_SESSn_CTRL_A_DISABLE 2 = 1 &&
      t.f F.PEER_SESSn_CTRL_B_DISABLE 2 = 1 && t.route 2 0 = rtDown) = true ∧
    (tSent none 0).elapsed 0 (max 1 ((tSent none 0).f F.PEER_TIMING_T_ECLIPSE) * 100000) = true ∧
    nx (exec (.eclipseEntry 2) (tSent none 0)) (fun t => t.sessState 2 = ssEclipse && t.f F.PEER_EVENTS_ECLIPSE = 1) = true := by decide +kernel

/-! ### Time -/

/-- Bases and routes of the time unit, ten thousand seconds on. -/
def tTime (fs : List (Fld × Nat × Nat)) (b : TimeBase) (r : TimeRoute) : State :=
  let s := tLink fs
  { s with now := 10 ^ 13, time := { s.time with bases := [(0, b), (1, b), (2, b)], routes := [(0, r)] } }

def tBase (st : Nat) : TimeBase := { TimeBase.init with state := st }

/-- A PTP message on Ethernet: type, flags, 64 bytes, an FCS of zeros. -/
def tPtp (type flags : Nat) : List Byte :=
  List.replicate 12 0 ++ beBytes 2 0x88F7 ++ [BitVec.ofNat 8 type, 2] ++ beBytes 2 64 ++ [0, 0, BitVec.ofNat 8 flags, 0] ++ beBytes 12 0
    ++ beBytes 10 77 ++ beBytes 2 3 ++ beBytes 32 0 ++ beBytes 4 0

def tMaster : State :=
  let s := tTime [] (tBase 1) TimeRoute.init
  s.setPtp 0 { PtpPort.init with masters := [{ ident := 77, rank := [], at_ := 10 ^ 13, interval := 10 ^ 9, qualified := true }] }

theorem test_ptpMessageReceive_takes_master_and_sync :
    ptpAt ((tPtp 11 0).take ((tPtp 11 0).length - 4)) = some (14, 0) ∧ (tTime [] (tBase 1) TimeRoute.init).Canon ∧
    (tTime [] (tBase 1) TimeRoute.init).tb0OnPtp = true ∧ ptpDomain ((tPtp 11 0).drop 14) = (tLink []).f F.TIME_CFG_TB0_DOMAIN ∧
    ptpType ((tPtp 11 0).drop 14) = 11 ∧
    nx (exec (.ptpMessageReceive (tPtp 11 0)) (tTime [] (tBase 1) TimeRoute.init)) (fun t => (t.ptp 0).masters.map PtpMaster.ident = [77]) = true ∧
    ptpType ((tPtp 0 0).drop 14) = 0 ∧ (tMaster.ptpBest 0).map PtpMaster.ident = some 77 ∧
    nx (exec (.ptpMessageReceive (tPtp 0 0)) tMaster) (fun t => (t.ptp 0).syncTx = some 0 && (t.ptp 0).delayTx.isSome) = true := by
  decide +kernel

/-- Sync and delay request of an exchange with that master are out. -/
def tAsked (b : TimeBase) : State :=
  (tTime [] b TimeRoute.init).setPtp 0 { PtpPort.init with
    masters := [{ ident := 77, rank := [], at_ := 10 ^ 13, interval := 10 ^ 9, qualified := true }], syncTx := some 0, syncRx := 0
    delayTx := some 0, delaySeq := 3 }

/-- The Delay_Resp for an identity, received at second 2 of the master. -/
def tResp (ident : Nat) : List Byte :=
  List.replicate 12 0 ++ beBytes 2 0x88F7 ++ [9, 2] ++ beBytes 2 54 ++ beBytes 16 0 ++ beBytes 10 77 ++ beBytes 2 3 ++ beBytes 2 0
    ++ beBytes 6 2 ++ beBytes 4 0 ++ beBytes 10 ident ++ beBytes 4 0

theorem test_ptpMessageReceive_steers :
    let m := ((tResp (tAsked (tBase 2)).ptpIdent).take 68).drop 14
    (tAsked (tBase 2)).Canon ∧ ptpType m = 9 ∧ hdrAt m 30 2 = 3 ∧ hdrAt m 44 10 = (tAsked (tBase 2)).ptpIdent ∧ (tAsked (tBase 2)).onTb1 = false ∧
    ptpTime m 34 = 2 * 10 ^ 9 * 65536 ∧
    nx (exec (.ptpMessageReceive (tResp (tAsked (tBase 2)).ptpIdent)) (tAsked (tBase 2))) (fun t => (t.base 0).state = tbLocked &&
      (t.base 0).phase = 10 ^ 9 * 65536 && (t.base 0).off = 0) = true ∧
    nx (exec (.ptpMessageReceive (tResp (tAsked { tBase 0 with good := 14 }).ptpIdent)) (tAsked { tBase 0 with good := 14 })) (fun t =>
      (t.base 0).state = tbFree && (t.base 0).good = 15) = true := by decide +kernel

theorem test_ptpMessageReceive_two_step_relay_none :
    nx (exec (.ptpMessageReceive (tPtp 0 2)) tMaster) (fun t => (t.ptp 0).syncTx = none && (t.ptp 0).syncSeq = 3) = true ∧
    nx (exec (.ptpMessageReceive (tPtp 8 0)) (tMaster.setPtp 0 { (tMaster.ptp 0) with syncSeq := 3 })) (fun t => (t.ptp 0).syncTx = some 0) = true ∧
    ptpAt ([0, 0, 0, 0].take 0) = none ∧
    let s := tSealing (tTime [(F.TIME_CFG_TB0_SRC, 0, 1), (F.TIME_TC_ENABLE, 0, 1), (F.TIME_CFG_SESSION, 0, 2)] (tBase 1) TimeRoute.init)
    s.tb0OnPtp = false ∧ s.f F.TIME_CFG_TB1_EN = 0 ∧ s.f F.TIME_TC_TC_DOMAIN = ptpDomain ((tPtp 0 0).drop 14) ∧ s.timeSession 2 = true ∧
    (s.txGen 2).isSome = true ∧ (s.sess 2).unsealed = [] ∧
    nx (exec (.ptpMessageReceive (tPtp 0 0)) s) (fun t => t.f F.PEER_SESSn_TX_NEXT 2 = 1) = true := by decide +kernel

theorem test_timeSourceLost_of_tb0 :
    let s := (tTime [] (tBase 1) TimeRoute.init).setPtp 1 { PtpPort.init with
      masters := [{ ident := 77, rank := [], at_ := 10 ^ 13, interval := 10 ^ 9, qualified := true }], syncAt := 10 ^ 13 }
    s.Canon ∧ s.sourceLost 0 = true ∧ s.sourceLost 1 = false ∧ s.onTb1 = false ∧ s.tb0OnPtp = true ∧ s.ptpLost 1 = false ∧
    nx (exec (.timeSourceLost 0) s) (fun t => t.onTb1 && t.f F.TIME_EVENTS_SWITCHOVER = 1 && (t.base 0).state = tbLocked && t.baseOff 0 = 0) = true ∧
    nx (exec (.timeSourceLost 0) (tTime [] (tBase 1) TimeRoute.init)) (fun t => (t.base 0).state = tbHoldover && t.f F.TIME_EVENTS_HOLDOVER = 1) = true ∧
    nx (exec (.timeSourceLost 0) (tTime [(F.TIME_STATUS_ON_TB1, 0, 1)] (tBase 1) TimeRoute.init)) (fun t => t.time.validSince = none &&
      (t.base 0).state = tbLocked) = true ∧
    nx (exec (.timeSourceLost 1) (tTime [(F.TIME_STATUS_ON_TB1, 0, 1)] (tBase 1) TimeRoute.init)) (fun t => (t.base 0).state = tbHoldover &&
      (t.base 1).state = tbHoldover) = true := by decide +kernel

theorem test_nothing_is_due :
    let s := tTime [(F.TIME_CFG_PPS_SRC, 0, 0)] (tBase 0) TimeRoute.init
    (s.base 1).state ≠ tbHoldover ∧ s.time.validSince = none ∧ s.timeSession 2 = false ∧ (s.timeRoute 0).state ≠ tbHoldover ∧
    nx (exec .ppsOutPulse s) (fun t => t.out = []) = true ∧
    nx (exec (.asymWrite 0 0x0FFFFFFFF) s) (fun t => t.f F.TIME_Rr_ASYM_ASYM 0 = 0xFFFFFFFF && t.timeRoute 0 = s.timeRoute 0) = true := by
  decide +kernel

theorem test_ppsInEdge_steers :
    let s := tTime [(F.TIME_CFG_TB0_SRC, 0, 1), (F.TIME_TOD_SECONDS, 0, 10001)] (tBase 1) TimeRoute.init
    s.onTb1 = false ∧ offSecond (s.baseLin 0) ≤ 100000 * 65536 ∧
    nx (exec .ppsInEdge s) (fun t => t.time.ppsAt = 10 ^ 13 && (t.base 0).state = tbLocked && (t.base 0).phase = 10 ^ 9 * 65536) = true := by
  decide +kernel

theorem test_sources_lost_and_holdover :
    (tTime [(F.TIME_CFG_TB0_SRC, 0, 1)] (tBase 1) TimeRoute.init).sourceLost 1 = true ∧
    nx (exec (.timeSourceLost 1) (tTime [] (tBase 1) TimeRoute.init)) (fun t => (t.base 1).state = tbHoldover && t.f F.TIME_EVENTS_HOLDOVER = 1) = true ∧
    (tTime [] (tBase 1) TimeRoute.init).sourceLost 2 = true ∧
    nx (exec (.timeSourceLost 2) (tTime [] (tBase 1) TimeRoute.init)) (fun t => (t.base 2).state = tbHoldover) = true ∧
    (tTime [(F.TIME_CFG_TB0_SRC, 0, 1)] (tBase 1) TimeRoute.init).elapsed 0 1100000000 = true ∧
    nx (exec (.timeSourceLost 0) (tTime [(F.TIME_CFG_TB0_SRC, 0, 1)] (tBase 1) TimeRoute.init)) (fun t => (t.base 0).state = tbHoldover &&
      t.f F.TIME_EVENTS_PPS_LOST = 1) = true ∧
    (tTime [] (tBase 2) TimeRoute.init).elapsed 0 (tTime [] (tBase 2) TimeRoute.init).holdoverNs = true ∧
    nx (exec (.holdoverExpired 2) (tTime [] (tBase 2) TimeRoute.init)) (fun t => (t.base 2).state = tbFree && t.f F.TIME_EVENTS_FREE = 1) = true := by
  decide +kernel

theorem test_revert_holdover_and_pulses :
    let s := tTime [(F.TIME_STATUS_ON_TB1, 0, 1), (F.TIME_CFG_PPS_SRC, 0, 3), (F.TIME_TOD_SECONDS, 0, 9)] (tBase 1) { TimeRoute.init with state := 2, asym := some 5 }
    let v := { s with time := { s.time with validSince := some 0 } }
    v.Canon ∧ v.elapsed 0 (v.f F.TIME_HOLD_REVERT * 10 ^ 9) = true ∧
    nx (exec .tb0Revert v) (fun t => !t.onTb1 && t.f F.TIME_EVENTS_SWITCHOVER = 1) = true ∧
    (s.timeRoute 0).state = tbHoldover ∧ s.elapsed 0 s.holdoverNs = true ∧
    nx (exec (.transferHoldoverExpired 0) s) (fun t => (t.timeRoute 0).state = tbFree && (t.timeRoute 0).asym = none) = true ∧
    nx (exec .ppsInEdge s) (fun t => t.f F.TIME_TOD_SECONDS = 10 && t.f F.TIME_PPS_IN_NS_NS = 0) = true ∧
    nx (exec .ppsInEdge { s with now := s.now + 10 ^ 8 }) (fun t => t.f F.TIME_PPS_REJECT_COUNT = 1) = true ∧
    s.baseLin 3 % (65536 * 10 ^ 9) < 65536 ∧
    nx (exec .ppsOutPulse s) (fun t => t.out = [.pps (max 1 (s.f F.TIME_CFG_PPS_WIDTH) * 1000)]) = true := by decide +kernel

theorem test_timeReportSend_asymWrite_tbSecRead :
    let s := tSealing (tTime [(F.TIME_CFG_SESSION, 0, 2), (F.PEER_SESSn_STATE_ROUTE_B, 2, rtUp), (F.PEER_SESSn_TX_NEXT, 2, 2 ^ 32 - 1)] (tBase 1) TimeRoute.init)
    s.Canon ∧ s.timeSession 2 = true ∧ s.upRoutes 2 = [1] ∧ (s.txGen 2).isSome = true ∧
    nx (exec .timeReportSend s) (fun t => t.f F.PEER_SESSn_TX_NEXT 2 = 0) = true ∧
    nx (exec (.asymWrite 1 0x1FFFFFC18) s) (fun t => (t.timeRoute 1).state = tbLocked && (t.timeRoute 1).asym = some (-65536) &&
      t.f F.TIME_EVENTS_ASYM_DONE = 1) = true ∧
    nx (exec (.tbSecRead 3) s) (fun t => t.f F.TIME_TBn_SEC_SECONDS 3 = 10000 && t.f F.TIME_TBn_NS_NS 3 = 0) = true := by decide +kernel

theorem test_timeReportReceive_keeps_the_report :
    tPass (tTime [(F.TIME_CFG_SESSION, 0, 2)] (tBase 0) TimeRoute.init) wReport (fun a u => a.blk.timeBlock &&
      u.seqPlace 2 a.blk.seq = .fresh && u.timeSession 2 && hdrAt a.payload 0 1 = 1) = true ∧
    nx (exec (.timeReportReceive 3 wReport) (tTime [(F.TIME_CFG_SESSION, 0, 2)] (tBase 0) TimeRoute.init)) (fun t =>
      t.f F.TIME_STATUS_PEER_TRACEABLE = 1 && t.time.peer.any fun p => p.2.1 = (7 * 10 ^ 9 + 5) * 65536 && p.2.2.1 = 1) = true := by
  decide +kernel

theorem test_tcRelayReceive_free_base :
    tPass (tTime [(F.TIME_CFG_SESSION, 0, 2)] (tBase 0) TimeRoute.init) wRelay (fun a u => a.blk.timeBlock &&
      u.seqPlace 2 a.blk.seq = .fresh && u.timeSession 2 && hdrAt a.payload 0 1 = 2 && (u.base 2).state = tbFree) = true ∧
    nx (exec (.tcRelayReceive 3 wRelay) (tTime [(F.TIME_CFG_SESSION, 0, 2)] (tBase 0) TimeRoute.init)) (fun t =>
      t.f F.TIME_TC_NOLOCK_COUNT = 1 && t.f F.TIME_EVENTS_TC_DISCARD = 1) = true := by decide +kernel

theorem test_tcRelayReceive_relays :
    tPass (tTime [(F.TIME_CFG_SESSION, 0, 2)] (tBase 1) TimeRoute.init) wRelay (fun a u => (u.base 2).state ≠ tbFree &&
      (let fr := ((a.payload.drop 32).take (hdrAt a.payload 2 2)).take (((a.payload.drop 32).take (hdrAt a.payload 2 2)).length - 4)
       (ptpAt fr).any fun oc => 1 < ptpType (fr.drop oc.1))) = true ∧
    nx (exec (.tcRelayReceive 3 wRelay) (tTime [(F.TIME_CFG_SESSION, 0, 2)] (tBase 1) TimeRoute.init)) (fun t =>
      t.f F.TIME_TC_RELAYED_COUNT = 1) = true := by decide +kernel

theorem test_tcRelayReceive_late_or_in_time :
    let s := tTime [(F.TIME_CFG_SESSION, 0, 2)] (tBase 1) TimeRoute.init
    let v := { s with time := { s.time with follows := some 0 } }
    let fr := fun (a : Arrival) => ((a.payload.drop 32).take (hdrAt a.payload 2 2)).take (((a.payload.drop 32).take (hdrAt a.payload 2 2)).length - 4)
    tPass v wRelayLate (fun a u => ptpAt (fr a) = some (14, 0) && ptpType ((fr a).drop 14) = 0 && u.time.follows = some 0 &&
      (0 : Int) < u.baseLin 2 - linearAt a.payload 16 - (u.f F.PEER_SESSn_EPH_A_ONE_WAY 2 + u.f F.TIME_TC_SLACK * 1000) * 65536) = true ∧
    nx (exec (.tcRelayReceive 3 wRelayLate) v) (fun t => t.f F.TIME_TC_LATE_COUNT = 1 && t.f F.TIME_EVENTS_TC_DISCARD = 1) = true ∧
    nx (exec (.tcRelayReceive 3 wRelaySync) v) (fun t => t.f F.TIME_TC_RELAYED_COUNT = 1) = true := by decide +kernel

/-! ### The constellation -/

/-- An array of three members; this one is member 1; link 0 leads to link 1 of member 2, link 1 to link 0 of member 0. -/
def tArray (fs : List (Fld × Nat × Nat)) : State :=
  tUp ([(F.CST_STATUS_MODE, 0, 2), (F.CST_STATUS_MEMBERS, 0, 3), (F.CST_STATUS_POSITION, 0, 1), (F.CST_STATUS_CID, 0, 6)] ++ fs)

theorem test_cstLinkTrained_checks_the_far_end : (tArray []).Canon ∧ (tArray []).linkUp 0 = false ∧ (tArray []).wiring 0 = some (2, 1) ∧
    nx (exec (.cstLinkTrained 0 6 2 1) (tArray [])) (fun t => t.linkUp 0 && t.f F.CST_LINKk_FAR_POS 0 = 2 && t.f F.CST_LINKk_FAR_LINK 0 = 1 &&
      t.f F.CST_EVENTS_LINK_UP = 1 && tfind 1 t.cst.links = some [2]) = true ∧
    (tArray []).wiring 1 = some (0, 0) ∧
    nx (exec (.cstLinkTrained 1 6 2 0) (tArray [])) (fun t => t.f F.CST_LINKk_STATE 1 = 1 && t.f F.CST_EVENTS_MISWIRED = 1) = true ∧
    nx (exec (.cstLinkTrained 1 7 0 0) (tArray [])) (fun t => t.f F.CST_LINKk_STATE 1 = 1 && t.f F.CST_EVENTS_MISWIRED = 1) = true := by
  decide +kernel

/-- Both links up; member 2 says that it reaches nobody. -/
def tLinked : State :=
  let s := tArray [(F.CST_LINKk_STATE, 0, 3), (F.CST_LINKk_FAR_POS, 0, 2), (F.CST_LINKk_STATE, 1, 3)]
  { s with cst := { s.cst with links := [(0, [1]), (1, [0])], changedAt := some 0 } }

theorem test_links_fail_and_routes_follow : tLinked.Canon ∧ tLinked.linkUp 1 = true ∧
    nx (exec (.cstLinkDown ⟨1, 9⟩) tLinked) (fun t => t.f F.CST_LINKk_RESENDS 1 = 9 && t.f F.CST_LINKk_STATE 1 = 1 && t.f F.CST_LINK_FAIL_COUNT = 1 &&
      t.f F.CST_EVENTS_LINK_DOWN = 1 && tfind 1 t.cst.links = some [2]) = true ∧
    (tfind 0 tLinked.cst.links).getD [] ≠ [1, 2] ∧
    nx (exec (.linkStateReceive 1 0 [1, 2]) tLinked) (fun t => tfind 0 t.cst.links = some [1, 2] &&
      t.out = [.member 2 mkLinkState 0 [1, 2]]) = true ∧
    nx (exec .routesInstalled tLinked) (fun t => t.cst.changedAt = none && t.f F.CST_REROUTES_COUNT = 1 &&
      t.f F.CST_EVENTS_REROUTED = 1 && t.f F.CST_UNREACHABLE_POSITIONS = 4) = true := by decide +kernel

/-- Member 1 has answered request 8 of its pole, and holds transaction 4. -/
def tMemb : State :=
  let s := tArray []
  { s with cst := { s.cst with results := [(8, [5])] }, host := { s.host with txns := (tTxn 0).host.txns } }

theorem test_forwardedRequestReceive_once : tMemb.Canon ∧ tMemb.memberNow = true ∧ (tMemb.cst.results.any fun r => r.1 = 9) = false ∧
    nx (exec (.forwardedRequestReceive 9 1 0 0 (tRunHd R.GLB_SCRATCH.base) false (false, 0)) tMemb) (fun t =>
      t.out = [.member 0 mkResult 9 (List.replicate 21 0)] && t.cst.results.getLast? = some (9, List.replicate 21 0)) = true ∧
    (tMemb.cst.results.find? fun r => r.1 = 8) = some (8, [5]) ∧
    nx (exec (.forwardedRequestReceive 8 2 0 0 [] true (false, 0)) tMemb) (fun t => t.out = [.member 0 mkResult 8 [5]]) = true := by
  decide +kernel

theorem test_prepare_and_apply_at_a_member : ((tMemb.txn 4).any fun x => (tMemb.tryTxn x false).1 = .done) = true ∧
    nx (exec (.cstPrepareReceive 4 false) tMemb) (fun t => t.out = [.member 0 mkPrepared 4 [0]]) = true ∧ tMemb.txn 5 = none ∧
    nx (exec (.cstPrepareReceive 5 false) tMemb) (fun t => t.out = [.member 0 mkPrepared 5 [0x1A]]) = true ∧
    ((tMemb.txn 4).map HTxn.ops) = some [.word R.GLB_SCRATCH.base 6] ∧
    nx (exec (.cstApplyReceive 4 30 false) tMemb) (fun t => t.f F.GLB_SCRATCH_VALUE = 6 && t.f F.GLB_VIEW_VIEW = 30 &&
      (t.txn 4).isNone && t.cst.applied = [4] && t.out = [.member 0 mkApplied 4 [1]]) = true ∧
    nx (exec (.cstApplyReceive 4 30 true) tMemb) (fun t => (t.txn 4).isNone && t.f F.GLB_SCRATCH_VALUE = 0 && t.f F.GLB_VIEW_VIEW = 0) = true := by
  decide +kernel

/-- The pole, with a forwarded request and a commit of transaction 4, a part of which member 2 holds. -/
def tPole2 (prep acks : List Nat) (app : Bool) : State :=
  let s := (tMemb.setf F.CST_STATUS_IS_POLE 1).setf F.CST_STATUS_POLE 1
  { s with cst := { s.cst with fwds := [{ id := 7, member := 2, seq := 9, txn := 0, inTxn := false, kind := 1 }]
                               txnMembers := [(4, [2])]
                               commits := [{ seq := 10, txn := 4, check := false, prepare := prep, refusal := none
                                             applying := app, view := 0, acks := acks }] } }

theorem test_forwardResponseReceive_answers : (tPole2 [2] [] false).Canon ∧ (tPole2 [2] [] false).poleNow = true ∧
    nx (exec (.forwardResponseReceive 7 []) (tPole2 [2] [] false)) (fun t => tSays t .failedLink && t.cst.fwds = [] &&
      t.f F.CST_MGMT_LOST_COUNT = 1) = true ∧
    nx (exec (.forwardResponseReceive 7 (0x43 :: List.replicate 12 0)) (tPole2 [2] [] false)) (fun t =>
      t.lastAnswer = some (9, 0x1A)) = true := by decide +kernel

theorem test_cstPrepareReplyReceive_goes_on :
    nx (exec (.cstPrepareReplyReceive 4 2 0x11) (tPole2 [0, 2] [] false)) (fun t => t.lastAnswer = some (10, 0x11) && t.cst.commits = [] &&
      (t.txn 4).isNone) = true ∧
    nx (exec (.cstPrepareReplyReceive 4 2 0) (tPole2 [0, 2] [] false)) (fun t => t.cst.commits.map TwoPhase.prepare = [[0]]) = true ∧
    nx (exec (.cstPrepareReplyReceive 4 2 0) (tPole2 [2] [] false)) (fun t => t.f F.GLB_SCRATCH_VALUE = 6 && t.f F.GLB_VIEW_VIEW = 1 &&
      (t.txn 4).isNone && t.cst.commits.map TwoPhase.acks = [[2]] &&
      t.out.contains (.member 2 mkApply 4 [0, 0, 0, 0, 0, 0, 0, 1, 0])) = true := by decide +kernel

theorem test_cstApplyAckReceive_ends_it : (tPole2 [] [2] true).Canon ∧ (tPole2 [] [2] true).poleNow = true ∧
    nx (exec (.cstApplyAckReceive 4 2 true) (tPole2 [] [2] true)) (fun t => t.lastAnswer = some (10, 0) && t.cst.commits = []) = true ∧
    nx (exec (.cstApplyAckReceive 4 2 false) (tPole2 [] [2] true)) (fun t => t.lastAnswer = some (10, 0x1A)) = true ∧
    nx (exec (.constellationMeridian 3) ((tPole2 [] [] true).setf F.SEQ_MERIDIAN_STEP 3)) (fun t => t.cst.meridian = 3 &&
      t.f F.GLB_VIEW_VIEW = 1) = true := by decide +kernel

/-- Two bound members; this one is the pole, or not. -/
def tBnd (pole : Nat) : State :=
  tUp [(F.CST_STATUS_MODE, 0, 1), (F.CST_STATUS_MEMBERS, 0, 2), (F.CST_STATUS_POSITION, 0, 1), (F.CST_STATUS_IS_POLE, 0, pole), (F.CST_STATUS_POLE, 0, pole)]

theorem test_bound_constellation_meridian : (tBnd 1).Canon ∧ (tBnd 1).poleNow = true ∧
    nx (exec (.cstMeridianReportReceive 1 0) (tBnd 1)) (fun t => t.cst.reports = [(1, 1)] && t.f F.SEQ_MERIDIAN_STEP = 0) = true ∧
    nx (exec (.cstMeridianReportReceive 1 0) { tBnd 1 with cst := { (tBnd 1).cst with reports := [(1, 2)] } }) (fun t =>
      t.f F.SEQ_MERIDIAN_STEP = 1 && t.f F.GLB_VIEW_VIEW = 1) = true ∧
    (tBnd 0).Canon ∧ (tBnd 0).memberNow = true ∧
    nx (exec (.cstMeridianReceive 4 12) (tBnd 0)) (fun t => t.f F.SEQ_MERIDIAN_STEP = 4 && t.f F.GLB_VIEW_VIEW = 12) = true := by
  decide +kernel

theorem test_cstTokenPostReceive_needs_the_swap_count : (tBnd 0).tokenOwner 3872 = none ∧ (tBnd 0).asleep = false ∧
    nx (exec (.cstTokenPostReceive 3872 0) (tBnd 0)) (fun t => t.token 3872 = 1) = true ∧
    nx (exec (.cstTokenPostReceive 3872 1) (tBnd 0)) (fun t => t.token 3872 = 0) = true := by decide +kernel

/-! ### Line ports -/

/-- Port 5 enabled, with its private state, a second on. -/
def tPort (fs : List (Fld × Nat × Nat)) (f : LinePort → LinePort) : State :=
  let s := tUp ((F.LINE_Pp_CFG_ENABLE, 5, 1) :: fs)
  { s with now := 10 ^ 9 }.setPort 5 (f LinePort.init)

theorem test_rawDefectChange_masks :
    nx (exec (.rawDefectChange 5 dLof true) (tPort [] id)) (fun t => (t.port 5).raw = 2 && (t.port 5).eff = 2) = true ∧
    (tPort [] fun x => { x with raw := 0x200, csfAt := some 0 }).Canon ∧ (tPort [] id).elapsed 0 300000000 = true ∧
    nx (exec (.rawDefectChange 5 dCsf false) (tPort [] fun x => { x with raw := 0x200, csfAt := some 0 })) (fun t => (t.port 5).raw = 0 &&
      (t.port 5).csfAt = none) = true ∧ maskDefects 0x3FF = 0x41 := by decide +kernel

theorem test_defects_integrate : (tPort [] id).Canon ∧ (tPort [] id).portFailed 5 = false ∧ (tPort [] id).elapsed 0 16000 = true ∧
    (tPort [] id).f F.LINE_Pp_INTEG_FAST_SET 5 = 16 ∧ (tPort [] id).f F.LINE_Pp_INTEG_FAST_CLEAR 5 = 100 ∧ ((tPort [] id).port 5).eff = 0x100 ∧
    nx (exec (.defectFastSet 5 dLfd) (tPort [] id)) (fun t => t.f F.LINE_Pp_DEFECT_DEFECT 5 = 0x100 && t.f F.LINE_Pp_LATCH_LATCH 5 = 0x100 &&
      t.portFailed 5 && t.f F.LINE_EVENTS_PORT_FAILED = 1 && !t.bit F.LINE_STATUS_IN_SERVICE 5) = true ∧
    (tPort [(F.LINE_Pp_DEFECT_DEFECT, 5, 1)] id).portFailed 5 = true ∧
    nx (exec (.defectFastClear 5 dLos) (tPort [(F.LINE_Pp_DEFECT_DEFECT, 5, 1)] id)) (fun t => t.f F.LINE_Pp_DEFECT_DEFECT 5 = 0 &&
      t.f F.LINE_EVENTS_PORT_RESTORED = 1 && t.bit F.LINE_STATUS_IN_SERVICE 5) = true := by decide +kernel

theorem test_failures_are_reported :
    let s := tPort [(F.LINE_Pp_DEFECT_DEFECT, 5, 1), (F.LINE_Pp_FAILURE_FAILURE, 5, 2), (F.LINE_Pp_INTEG_REP_SET, 5, 10)
      , (F.LINE_Pp_INTEG_REP_CLEAR, 5, 10)] id
    s.Canon ∧ s.elapsed 0 (10 * 100000000) = true ∧
    nx (exec (.failureReportSet 5 0) s) (fun t => t.f F.LINE_Pp_FAILURE_FAILURE 5 = 3 && t.f F.LINE_EVENTS_FAILURE = 1) = true ∧
    nx (exec (.failureReportClear 5 1) s) (fun t => t.f F.LINE_Pp_FAILURE_FAILURE 5 = 0 && t.f F.LINE_EVENTS_FAILURE = 1) = true ∧
    nx (exec (.modAlertFall 5 true) s) (fun t => t.f F.LINE_STATUS_ALERT = 32 && t.f F.LINE_EVENTS_MOD_ALERT = 1 && (t.port 5).raw = 1) = true ∧
    (tPort [] fun x => { x with raw := 1 }).elapsed 0 100000 = true ∧
    nx (exec (.losFlagPoll 5 false) (tPort [] fun x => { x with raw := 1 })) (fun t => (t.port 5).raw = 0 && (t.port 5).pollAt = 10 ^ 9) = true := by
  decide +kernel

/-! GFP frames laid out by hand from R390 and R391 with another CRC-16 and scrambler: a client frame of 52 zero bytes, one of
53, a management frame of UPI 1, the first one with one and with two header bits wrong. -/

def gData : List Byte := beBytes 60 0xB69386BB00F3DF7C00001E7BEF800003CF7DF0000079EFBE00000F3DF7C00001E7BEF800003CF7DF0000079EFBE00000F3DF7C00001E7BEF800003CF
def gShort : List Byte := beBytes 61 0xB692969A00F3DF7C00001E7BEF800003CF7DF0000079EFBE00000F3DF7C00001E7BEF800003CF7DF0000079EFBE00000F3DF7C00001E7BEF800003CF7D
def gCsf : List Byte := beBytes 8 0xB6AF716480010BB9
def gFixed : List Byte := beBytes 60 0xF69386BB00F3DF7C00001E7BEF800003CF7DF0000079EFBE00000F3DF7C00001E7BEF800003CF7DF0000079EFBE00000F3DF7C00001E7BEF800003CF
def gBad : List Byte := beBytes 60 0xF69286BB00F3DF7C00001E7BEF800003CF7DF0000079EFBE00000F3DF7C00001E7BEF800003CF7DF0000079EFBE00000F3DF7C00001E7BEF800003CF

/-- The reading of a frame in SYNC by the functions of the statement. -/
def tArea (bs : List Byte) : List Nat := (gfpScramble true 0 ((nats bs).drop 4)).1
def tCore (bs : List Byte) : Option (Nat × Bool) := crcHeader (xorList ((nats bs).take 4) coreMask)

theorem test_gfp_delineation : tCore gData = some (56, false) ∧ ((tPort [] id).port 5).gfp = .hunt ∧ (tPort [] id).f F.LINE_Pp_CFG_DELTA 5 = 1 ∧
    nx (exec (.gfpFrameReceive 5 ⟨gData, []⟩) (tPort [] id)) (fun t => (t.port 5).gfp = .presync 0) = true ∧
    nx (exec (.gfpFrameReceive 5 ⟨gData, []⟩) (tPort [] fun x => { x with gfp := .presync 0 })) (fun t => (t.port 5).gfp = .sync &&
      t.bit F.LINE_STATUS_GFP_SYNC 5) = true ∧
    nx (exec (.gfpFrameReceive 5 ⟨gData, []⟩) (tPort [(F.LINE_Pp_CFG_DELTA, 5, 3)] fun x => { x with gfp := .presync 1 })) (fun t =>
      (t.port 5).gfp = .presync 2) = true ∧
    tCore gBad = none ∧
    nx (exec (.gfpFrameReceive 5 ⟨gBad, []⟩) (tPort [] fun x => { x with gfp := .sync })) (fun t => (t.port 5).gfp = .hunt &&
      t.f F.LINE_Pp_GFP_DISCARD_COUNT 5 = 1) = true := by decide +kernel

theorem test_gfp_frames_in_sync : (tPort [] fun x => { x with gfp := .sync }).Canon ∧
    tCore gFixed = some (56, true) ∧ (tArea gFixed).length = 56 ∧ crcHeader ((tArea gFixed).take 4) = some (gfpType false, false) ∧
    hdrAt (byts ((tArea gFixed).drop 4)) 14 2 = 0 ∧
    nx (exec (.gfpFrameReceive 5 ⟨gFixed, []⟩) (tPort [] fun x => { x with gfp := .sync })) (fun t => t.f F.LINE_Pp_GFP_FRAMES_COUNT 5 = 1 &&
      t.f F.LINE_Pp_GFP_CHEC_CORR_COUNT 5 = 1) = true ∧
    tCore gShort = some (57, false) ∧ (tArea gShort).length = 57 ∧ crcHeader ((tArea gShort).take 4) = some (gfpType false, false) ∧
    nx (exec (.gfpFrameReceive 5 ⟨gShort, []⟩) (tPort [] fun x => { x with gfp := .sync })) (fun t => t.f F.LINE_Pp_GFP_DISCARD_COUNT 5 = 1) = true ∧
    tCore gCsf = some (4, false) ∧ crcHeader ((tArea gCsf).take 4) = some (0x8001, false) ∧
    nx (exec (.gfpFrameReceive 5 ⟨gCsf, []⟩) (tPort [] fun x => { x with gfp := .sync })) (fun t => (t.port 5).csfAt = some (10 ^ 9) &&
      (t.port 5).raw = 0x200) = true := by decide +kernel

/-- A frame with three bits wrong in SM, one in PM, a BEI of 2 in SM, and GCC1 bytes 0x81 and 0x01. -/
def tOtuc : OtucFrame :=
  { bipSm := 7, bipPm := 1, foundSm := 0, foundPm := 0, beiSm := 2, beiPm := 0, fecCorr := 9, fecUncorr := 1
    gcc := [0, 0, 0x81, 0x01, 0, 0], mon := [0x80], rxd := [] }

theorem test_gfpFrameReceive_takes_a_frame :
    let s0 := tPort [(F.LINE_LMON_ENABLE, 0, 1), (F.LINE_LMON_PORT, 0, 5), (F.LINE_Pp_TTI_TX_TTI, 40, 3), (F.LINE_Pp_CFG_FEC_HERE, 5, 0)] id
    let s := { s0 with line := { s0.line with gcs := [(3, (5, 2))] } }
    s.Canon ∧ (s.port 5).gfp = .hunt ∧ s.gcsOf 5 = [(3, 2)] ∧ s.gcsEncrypted 3 = false ∧ s.gcsAllOnes 3 = false ∧ s.lmonAllOnes = false ∧
    nx (exec (.gfpFrameReceive 5 ⟨[], [tOtuc]⟩) s) (fun t => t.f F.LINE_Pp_BIP_SM_COUNT 5 = 3 && t.f F.LINE_Pp_BIP_PM_COUNT 5 = 1 &&
      t.f F.LINE_Pp_BEI_SM_COUNT 5 = 2 && t.f F.LINE_Pp_FEC_CORR_COUNT 5 = 0 && t.f F.LINE_Pp_FEC_UNCORR_COUNT 5 = 1 &&
      t.out.contains (.gcs 3 [true, false, false, false, false, false, false, true, false, false, false, false, false, false, false, true]) &&
      t.out.contains (.lmon [true, false, false, false, false, false, false, false]) &&
      t.out.any fun e => match e with | .otuc 5 o => o.length = 8 && o.all fun x => x.sm.bei = 3 && x.pm.bei = 1 && x.pt = 5 && x.sm.tti.take 1 = [3] | _ => false) = true := by
  decide +kernel

theorem test_csfSend_ttiRxAccept_gcsMapApply :
    nx (exec (.csfSend 5) (tPort [] id)) (fun t => (t.port 5).csfSentAt = 10 ^ 9 && t.out = [.line 5 gCsf]) = true ∧
    nx (exec (.ttiRxAccept 5 (List.replicate 63 0 ++ [1])) (tPort [] id)) (fun t => t.f F.LINE_Pp_TTI_RX_TTI 47 = 2 ^ 56 &&
      t.f F.LINE_Pp_TTI_RX_TTI 40 = 0 && t.f F.LINE_EVENTS_TTI_CHANGE = 1) = true ∧
    nx (exec (.ttiRxAccept 5 (1 :: List.replicate 63 0)) (tPort [(F.LINE_Pp_CFG_TIM_MODE, 5, 1)] id)) (fun t => (t.port 5).raw.testBit dTim) = true ∧
    nx (exec (.ttiRxAccept 5 (1 :: List.replicate 63 0)) (tPort [(F.LINE_Pp_CFG_TIM_MODE, 5, 2)] id)) (fun t => !(t.port 5).raw.testBit dTim) = true ∧
    nx (exec (.gcsMapApply 3) (tPort [(F.LINE_GCS_MAP_PORT, 3, 15), (F.LINE_GCS_MAP_CHANNEL, 3, 2)] id)) (fun t => tfind 3 t.line.gcs = some (15, 2)) = true := by
  decide +kernel

/-- An access of a module in progress. -/
def tAcc (w : Bool) : State :=
  let s := tPort [(F.LINE_MOD_CMD_BUSY, 0, 1)] id
  { s with line := { s.line with access := some { port := 1, write := w, page := 2, offset := 3, data := 4 } } }

theorem test_modules : (tPort [] id).line.access = none ∧ controlledByte 0 255 = false ∧ controlledByte 16 128 = true ∧
    nx (exec (.moduleRead 15 255 255) (tPort [] id)) (fun t => t.f F.LINE_MOD_CMD_BUSY = 1 && t.out = [.module 15 255 255 none]) = true ∧
    nx (exec (.moduleWrite 15 0 255 9) (tPort [] id)) (fun t => t.f F.LINE_MOD_CMD_BUSY = 1 && t.out = [.module 15 0 255 (some 9)]) = true ∧
    nx (exec (.moduleWrite 15 16 128 9) (tPort [] id)) (fun t => t.f F.LINE_MOD_CMD_RESULT = 0x24 && t.out = []) = true ∧
    (tAcc false).Canon ∧
    nx (exec (.moduleAccessDone true 0x155) (tAcc false)) (fun t => t.line.access = none && t.f F.LINE_MOD_CMD_BUSY = 0 && t.f F.LINE_MOD_CMD_DATA = 0x55) = true ∧
    nx (exec (.moduleAccessDone true 0x55) (tAcc true)) (fun t => t.f F.LINE_MOD_CMD_RESULT = 0 && t.f F.LINE_MOD_CMD_DATA = 0) = true ∧
    nx (exec (.moduleAccessDone false 0x55) (tAcc false)) (fun t => t.f F.LINE_MOD_CMD_RESULT = 0x10 && t.f F.LINE_MOD_CMD_DATA = 0) = true := by
  decide +kernel

/-! ### Circuits, the site fabric, the scheduler -/

/-- A CIRCUIT row of stream 0 with an action. -/
def cRow (a : Nat) : Row256 := tRow opCircuit (a * 2 ^ 129)

/-- Tile 0 lit with its fibre pair 2 enabled, and circuit 0 of that pair in a state. -/
def tOpt (st : Nat) (claim : Option Nat) (act : Nat) (fs : List (Fld × Nat × Nat)) : State :=
  let s := tIn (tUp ([(F.IMG_STATUS_ACTIVE, 0, 1), (F.PWR_PINS_LASER_EN_N, 0, 14), (F.OPT_Fk_CFG_ENABLE, 2, 1)] ++ fs)) [tItem (cRow act)]
  { s with now := 10 ^ 9, fab := { s.fab with circuits := [(0, { tCirc st with claim := claim })] } }

theorem test_circuit_up_ends_and_confirms : rowCircuitAction (cRow 1) = 1 ∧ rowCircuitAction (cRow 2) = 2 ∧ rowCircuitAction (cRow 3) = 3 ∧
    (tOpt cUp none 1 []).Canon ∧ ((tOpt cUp none 1 []).runningItem 7 opCircuit).isSome = true ∧
    nx (exec (.circuitSetup 7) (tOpt cUp none 1 [])) (fun t => tEnded (tS []) t .done) = true ∧
    nx (exec (.circuitConfirm 7) (tOpt cUp none 2 [])) (fun t => tEnded (tS []) t .done) = true ∧
    nx (exec (.circuitRelease 7) (tOpt cUp none 3 [])) (fun t => (t.circuit 0).any (fun c => c.state = cReleasing) && (t.item 7).isSome) = true ∧
    nx (exec (.circuitConfirm 7) (tOpt cFree none 2 [])) (fun t => tEnded (tS []) t .failedLink && t.f F.FAB_EVENTS_CIRCUIT_FAIL = 1) = true ∧
    nx (exec (.circuitRelease 7) (tOpt cFree none 3 [])) (fun t => tEnded (tS []) t .done) = true := by decide +kernel

theorem test_circuit_sets_up_and_trains : (tOpt cFree none 1 []).freeWave 2 = some 0 ∧
    nx (exec (.circuitSetup 7) (tOpt cFree none 1 [])) (fun t => (t.circuit 0).any (fun c => c.state = cSetup && c.claim = some 0) &&
      t.slotUsage 2 0 = useCircuit) = true ∧
    nx (exec (.circuitTrained 0) (tOpt cSetup (some 4) 1 [])) (fun t => (t.circuit 0).any (fun c => c.state = cUp && c.lambda = 4) &&
      t.bit F.FAB_Fk_CFG_UP 4 2 && (t.item 7).isNone) = true ∧
    (tOpt cSetup (some 4) 1 []).elapsed 0 (max 1 ((tOpt cSetup (some 4) 1 []).f F.FAB_CIRCUIT_CFG_SETUP_LIMIT) * 1000) = true ∧
    nx (exec (.circuitSetupTimeout 0) (tOpt cSetup (some 4) 1 [])) (fun t => (t.circuit 0).any (fun c => c.state = cFree && c.claim = none) &&
      tEnded (tS []) t .failedLink && t.f F.FAB_EVENTS_CIRCUIT_FAIL = 1) = true ∧
    (tOpt cReleasing none 3 []).circuitItems 0 3 = [7] ∧
    nx (exec (.circuitReleased 0) (tOpt cReleasing none 3 [])) (fun t => (t.circuit 0).any (fun c => c.state = cFree) && (t.item 7).isNone) = true := by
  decide +kernel

/-- This gateway is at site 1; site 2 is reached through it. -/
def tFab (fs : List (Fld × Nat × Nat)) : State :=
  { tUp ([(F.FAB_COORD_COORD, 0, 2 ^ 36), (F.FAB_SITE_MAP_SITES, 0, 4), (F.FAB_BRIDGE_CFG_CHECK, 0, 0), (F.FAB_CREDITSs_POOL, 2, 1)] ++ fs) with now := 10 ^ 9 }

/-- A packet of a type to site 2 on channel 0, tag 9, without payload. -/
def tPkt (type : Nat) : FPkt := { dst := 2 * 2 ^ 36 + 5, src := 2 ^ 36 + 6, vc := 0, type := type, status := 0, len := 0, tag := 9, payload := [] }
def tPk (type : Nat) : List Byte := (tPkt type).bytes

theorem test_fabricRequestReceive_takes_a_credit : fpktOf (tPk 1) = tPkt 1 ∧ (tPkt 1).isRequest = true ∧ (tPkt 1).bad = false ∧
    coordSite (tPkt 1).dst = 2 ∧ (tFab []).Canon ∧ (tFab []).bit F.FAB_SITE_MAP_SITES 2 = true ∧
    nx (exec (.fabricRequestReceive 0 0 none (tPk 1)) (tFab [])) (fun t => t.f F.FAB_CREDITSs_IN_USE 2 = 1 && t.f F.FAB_BRIDGED_TX_COUNT = 1 &&
      t.fab.reqs.map FabReq.tag = [9] && t.fab.bridge.map (fun b => b.2.bytes) = [tPk 1]) = true ∧
    nx (exec (.fabricRequestReceive 0 0 none (tPk 1)) (tFab [(F.FAB_CREDITSs_IN_USE, 2, 1)])) (fun t => t.fab.reqs = [] &&
      t.f F.FAB_RETRY_COUNT = 1 && t.fab.sent.map (fun x => (fpktOf x.bytes).type) = [0x1E]) = true ∧
    ((tFab [(F.SCH_PLk_CTRL_ENABLE, 2, 1)]).policerNow 2).p = 0 ∧
    nx (exec (.fabricRequestReceive 0 0 none (tPk 1)) (tFab [(F.SCH_PLk_CTRL_ENABLE, 2, 1)])) (fun t => t.f F.SCH_PLk_RED_COUNT 2 = 1 &&
      t.f F.SCH_EVENTS_RED_BRIDGE = 1 && t.f F.FAB_RETRY_COUNT = 1 && t.fab.reqs = []) = true := by decide +kernel

theorem test_fabric_discards_and_errors :
    nx (exec (.fabricRequestReceive 0 0 none (tPk 1)) (tFab [(F.FAB_SITE_MAP_SITES, 0, 2)])) (fun t => t.f F.FAB_UNREACHABLE_COUNT = 1 &&
      t.f F.FAB_EVENTS_ERROR = 1 && t.fab.sent.map (fun x => ((fpktOf x.bytes).type, (fpktOf x.bytes).status)) = [(0x1F, 0x10)]) = true ∧
    (fpktOf (tPk 0x21)).bad = true ∧
    nx (exec (.fabricRequestReceive 0 0 none (tPk 0x21)) (tFab [])) (fun t => t.f F.FAB_PROTO_ERR_COUNT = 1 && t.fab.reqs = []) = true ∧
    nx (exec (.fabricReplyReceive 0 0 none (tPk 0x21)) (tFab [])) (fun t => t.f F.FAB_PROTO_ERR_COUNT = 1 && t.fab.bridge = []) = true ∧
    (fpktOf (tPk 0x10)).isReply = true ∧ (fpktOf (tPk 0x10)).bad = false ∧
    nx (exec (.fabricReplyReceive 0 0 none (tPk 0x10)) (tFab [])) (fun t => t.f F.FAB_BRIDGED_TX_COUNT = 1 &&
      t.fab.bridge.map (fun b => b.2.bytes) = [tPk 0x10]) = true := by decide +kernel

/-- A flit 3 of wavelength 4 has been received; stream 0's bridge message holds two bytes; a packet that ends a request is out. -/
def tOutPkt : FabPkt :=
  { bytes := tPk 0x10, vc := 1, fibre := 1, lambda := 2, flit := 3, old := none, since := 0
    ends := some { site := 2, src := 0, dst := 0, tag := 0, stream := 0, session := 0 } }
def tBusy : State :=
  let s := tFab [(F.FAB_CREDITSs_IN_USE, 2, 1)]
  { s with fab := { s.fab with rxFlits := [(4, 3)], bridge := [(0, { opened := 0, bytes := [1, 2] })], sent := [tOutPkt] } }

theorem test_fabric_flits_bridge_and_delivery : tBusy.Canon ∧ tfind 4 tBusy.fab.rxFlits = some 3 ∧
    nx (exec (.fabricRequestReceive 0 0 (some (4, 3)) (tPk 1)) tBusy) (fun t => t.fab.reqs = [] && t.fab.sent = [tOutPkt]) = true ∧
    nx (exec (.fabricReplyReceive 0 0 (some (4, 3)) (tPk 0x10)) tBusy) (fun t => t.fab.bridge = tBusy.fab.bridge) = true ∧
    tBusy.elapsed 0 (tBusy.f F.FAB_BRIDGE_CFG_FLUSH) = true ∧
    nx (exec (.bridgeFlush 0) tBusy) (fun t => t.fab.bridge = [] && (t.ctx 0).txNext = 1) = true ∧
    nx (exec (.fabricDelivery 18 3) tBusy) (fun t => t.fab.sent = [] && t.out = [.fabric 1 (tPk 0x10)] && t.f F.FAB_CREDITSs_IN_USE 2 = 0) = true ∧
    0 + max 1 (tBusy.f F.FAB_VC_CFG_ESCAPE) * 1000 < tBusy.now ∧
    nx (exec (.escapeTimeout 18 3) tBusy) (fun t => t.f F.FAB_ESCAPED_COUNT = 1 && t.f F.FAB_EVENTS_ESCAPE = 1 && t.fab.sent.map FabPkt.vc = [3]) = true := by
  decide +kernel

/-- Circuit 0 UP for a use; stream 0 lands at block 4 of tier S and sends segments of FP8. -/
def tBulkC (use : Nat) : State :=
  let s := ((tUp []).wrBytes 0 4096 (tSeg 0xF)).setCtx 0 { Ctx.invalid with valid := true, segment := true, seg := tD 0 16 1 }
  { s with conf := { s.conf with landing := [(0, tD 0 4 1)] }, fab := { s.fab with circuits := [(0, { tCirc cUp with use := use, fill := 254 })] } }

theorem test_bulkReceive_lands_or_crosses : (tBulkC 1).Canon ∧ (tBulkC 1).fits [descOf (tD 0 4 1)] = true ∧
    nx (exec (.bulkReceive 0 [7, 8]) (tBulkC 1)) (fun t => t.rdBytes 0 1277 4 = [0, 7, 8, 0] && (t.circuit 0).any fun c => c.fill = 0) = true ∧
    nx (exec (.bulkReceive 0 [7, 8]) (tBulkC 2)) (fun t => (t.ctx 0).txNext = 1) = true ∧
    0 + 2 < 256 * fmtSize ((tBulkC 3).seg ((tBulkC 3).ctx 0)).inFmt ∧
    nx (exec (.bulkReceive 0 [7, 8]) (tBulkC 3)) (fun t => (t.circuit 0).any fun c => c.raw = [7, 8]) = true ∧
    nx (exec (.bulkReceive 0 (List.replicate 4097 7)) (tBulkC 3)) (fun t => t.f F.FAB_PROTO_ERR_COUNT 0 = 1) = true := by decide +kernel

/-- A control-space block of session 0, which can seal, waits on route A in class `c`; port 1 in service, its buffer holding frames. -/
def tPortQ (c : Nat) (l : List (Nat × Nat × Nat)) : State :=
  let s := tUp [(F.IMG_STATUS_ACTIVE, 0, 1), (F.LINE_Pp_CFG_ENABLE, 1, 1), (F.PEER_SESSn_CFG_TX_SLOT, 0, 5)]
  ({ s with ciph := { s.ciph with slots := [(5, [gen1])] } }.setPortBuffer 1 l).enqueue 0 c 0 none true (List.replicate 52 0)

theorem test_portServe_sends : (tPortQ 0 [(60, 0, 0)]).Canon ∧ ((tPortQ 0 []).txGen 0).isSome = true ∧
    (((tPortQ 0 [(60, 0, 0)]).portNext 1).dropStale 0).headBlock 0 0 = ((tPortQ 0 []).queue 0 0).head?.map (fun q => (q, 1)) ∧
    ((tPortQ 0 []).queue 0 0).length = 1 ∧
    nx (exec (.portServe 1) (tPortQ 0 [(60, 0, 0)])) (fun t => t.out = [.line 1 gData] && t.portBuffer 1 = [(60, 0, 0)] && t.queue 0 0 = []) = true ∧
    (((tPortQ 3 []).portNext 1).dropStale 0).headBlock 0 3 = ((tPortQ 3 []).queue 0 3).head?.map (fun q => (q, 1)) ∧
    ([0, 1, 2, 4, 5].all fun d => ((((tPortQ 3 []).portNext 1).dropStale 0).headBlock 0 d).isNone) = true ∧
    nx (exec (.portServe 1) (tPortQ 3 [])) (fun t => t.out = [.line 1 gData]) = true := by decide +kernel

theorem test_portServe_goes_on :
    let s := { tUp [] with now := 700 }.setPortBuffer 1 [(60, 0, 0), (60, 2, 100)]
    s.Canon ∧ ((List.range 6).all fun d => ((s.portNext 1).dropStale 0).headBlock 0 d = none) = true ∧
    nx (exec (.portServe 1) s) (fun t => t.out = [] && t.portBuffer 1 = [(60, 2, 100)] && t.f F.SCH_Rr_Cc_SOJOURN_HIGH_NS 2 = 600) = true := by
  decide +kernel

theorem test_lockLoopPeriod_of_the_photonic_engine :
    nx (exec (.lockLoopPeriod 4 [-3] [(70, 0, 2, 0)]) (tS [(F.PPE_LOCK_TOL, 0, 1), (F.PPE_STATUS_STATE, 0, 1), (F.PPE_STATUS_LOCKED, 0, 1)]))
      (fun t => t.f F.PPE_TEMP_NOW = 2 ^ 16 - 3 && t.f F.PPE_STATUS_LOCKED = 0 && t.f F.PPE_STATUS_STATE = 4 &&
        t.f F.PPE_EVENTS_LOCK_LOST = 1) = true := by decide +kernel

/-! ### Wavelengths, lasers and lock -/

/-- Slot 15 of pair 2 in reserve (use 3). -/
def tMv (st : Nat) (mv : List (Nat × Nat × Nat)) : State :=
  let s := tOpt st none 1 [(F.OPT_Fk_LAMBDA_USE, 2, 3 * 2 ^ 30 + 2 * 2 ^ 6), (F.FAB_Fk_CFG_UP, 2, 8)]
  { s with opt := { s.opt with moving := mv, held := [(2, 6, 0), (2, 6, 10 ^ 9)] } }

theorem test_circuits_move : (tMv cUp []).Canon ∧ (tMv cUp []).openReserves 2 = [15] ∧
    nx (exec (.circuitNoLight 0) (tMv cUp [])) (fun t => (t.circuit 0).any (fun c => c.state = cMoving) && t.opt.moving = [(0, 15, 10 ^ 9)] &&
      !t.bit F.FAB_Fk_CFG_UP 3 2 && t.out = [.moveFlit 0 2 3]) = true ∧
    nx (exec (.moveFlitReceive 0) (tMv cUp [])) (fun t => t.opt.moving = [(0, 15, 10 ^ 9)]) = true ∧
    (tOpt cUp none 1 []).openReserves 2 = [] ∧ (tOpt cUp none 1 []).onCircuit 0 (tItem (cRow 1)) = true ∧
    nx (exec (.circuitNoLight 0) (tOpt cUp none 1 [])) (fun t => t.f F.OPT_MOVE_FAILED_COUNT = 1 && t.f F.OPT_EVENTS_MOVE_FAILED = 1 &&
      (t.circuit 0).any (fun c => c.state = cFree) && (t.item 7).isNone) = true ∧
    nx (exec (.circuitMoveDone 0 15) (tMv cMoving [(0, 15, 0)])) (fun t => (t.circuit 0).any (fun c => c.state = cUp && c.lambda = 15) &&
      t.slotUsage 2 15 = useCircuit && t.bit F.FAB_Fk_CFG_UP 15 2 && t.f F.OPT_MOVES_COUNT = 1 && t.f F.OPT_EVENTS_MOVED = 1 &&
      t.f F.FAB_EVENTS_CIRCUIT_MOVED = 1 && t.opt.moving = []) = true ∧
    nx (exec (.alternateHoldExpired 2 6) (tMv cUp [])) (fun t => t.opt.held = [(2, 6, 10 ^ 9)]) = true := by decide +kernel

/-- The spare of wavelengths 6 and 7 is being switched in for slot 6 of pair 2, which has failed. -/
def tSw : State :=
  let s := tOpt cFree none 1 [(F.OPT_Fk_LAMBDA_FAILED, 2, 64)]
  { s with opt := { s.opt with switching := [(3, 38, 0)] } }

/-- A spare serves that slot. -/
def tSpared : State := { tSw with opt := { tSw.opt with switching := [], spares := [(3, 38)] } }

theorem test_laserFailed_dark_already :
    (tSpared.opt.spares.any fun x => x.2 = slotNo 2 6) = true ∧ nx (exec (.laserFailed 0 38) tSpared) (fun t => t = tSpared) = true := by decide +kernel

theorem test_spares_take_over : (tOpt cFree none 1 []).pairLit 2 = true ∧
    nx (exec (.laserFailed 0 38) (tOpt cFree none 1 [])) (fun t => t.f F.OPT_LASER_FAIL_COUNT = 1 && t.f F.OPT_EVENTS_LASER_FAIL = 1 &&
      t.bit F.OPT_Fk_LAMBDA_FAILED 6 2 && t.opt.switching = [(3, 38, 10 ^ 9)]) = true ∧
    nx (exec (.laserFailed 0 39) tSw) (fun t => t.bit F.OPT_Fk_LAMBDA_FAILED 7 2 && t.f F.OPT_EVENTS_SPARES_OUT = 1) = true ∧
    nx (exec (.laserFailed 0 67) tSw) (fun t => t.bit F.OPT_Tt_STATUS_SPARE_FAILED 3 0 && t.f F.OPT_LASER_FAIL_COUNT = 1) = true ∧ tSw.Canon ∧
    nx (exec (.spareSwitched 0 3 true) tSw) (fun t => tfind 3 t.opt.spares = some 38 && t.bit F.OPT_Tt_STATUS_SPARE_USED 3 0 &&
      !t.bit F.OPT_Fk_LAMBDA_FAILED 6 2 && t.f F.OPT_EVENTS_SPARE_USED = 1 && t.opt.switching = []) = true ∧
    nx (exec (.spareSwitched 0 3 false) tSw) (fun t => t.bit F.OPT_Tt_STATUS_SPARE_FAILED 3 0 && t.f F.OPT_EVENTS_SPARES_OUT = 1 &&
      t.bit F.OPT_Fk_LAMBDA_FAILED 6 2) = true := by decide +kernel

/-- Ring 76, the modulator of slot 6 of pair 2, relocks since time 0. -/
def tRing : State :=
  let s := tOpt cFree none 1 [(F.OPT_Fk_LAMBDA_WRONG, 2, 64)]
  { s with now := 10 ^ 12, opt := { s.opt with relocking := [(76, 0)] } }

theorem test_lockLoopPeriod_reads_sensors_and_rings : (tOpt cFree none 1 []).tileMayLight 0 = true ∧
    nx (exec (.lockLoopPeriod 0 (List.replicate 15 0 ++ [-5]) []) (tOpt cFree none 1 [])) (fun t => t.tileTemp 0 15 = -5) = true ∧
    (tOpt cFree none 1 []).f F.OPT_LOCK_TOL < 65535 ∧
    nx (exec (.lockLoopPeriod 0 [] [(76, 0, 65535, 6)]) (tOpt cFree none 1 [])) (fun t => t.f F.OPT_LOCK_FAULT_COUNT = 1 &&
      t.f F.OPT_EVENTS_LOCK_FAULT = 1 && t.opt.unlocked = [38]) = true ∧
    nx (exec (.lockLoopPeriod 0 [] [(76, 0, 0, 7)]) (tOpt cFree none 1 [])) (fun t => t.f F.OPT_WRONG_LOCK_COUNT = 1 &&
      t.f F.OPT_EVENTS_WRONG_LOCK = 1 && t.bit F.OPT_Fk_LAMBDA_WRONG 6 2 && t.opt.relocking = [(76, 10 ^ 9)]) = true ∧
    nx (exec (.ringRelocked 76) tRing) (fun t => t.opt.relocking = [] && !t.bit F.OPT_Fk_LAMBDA_WRONG 6 2) = true ∧ tRing.Canon ∧
    tRing.elapsed 0 (tRing.f F.OPT_LOCK_RELOCK * 1000) = true ∧
    nx (exec (.relockTimeout 76) tRing) (fun t => t.bit F.OPT_Fk_LAMBDA_FAILED 6 2 && t.opt.relocking = []) = true := by decide +kernel

theorem test_optCal : nx (exec (.optCalFull 10) (tUp [])) (fun t => t.f F.OPT_STATUS_CALIBRATING = 10 && t.f F.OPT_CAL_TILES = 10) = true ∧
    nx (exec (.optCalFull 2) (tUp [(F.OPT_STATUS_CALIBRATING, 0, 2)])) (fun t => t.f F.OPT_CAL_RESULT = 0x24 && t.f F.OPT_STATUS_CALIBRATING = 2) = true ∧
    nx (exec (.optCalDone 1 (List.replicate 449 0 ++ [0x9876000000001234])) { tUp [(F.OPT_STATUS_CALIBRATING, 0, 2)] with now := 40000000 }) (fun t =>
      t.f F.OPT_STATUS_CALIBRATING = 0 && t.f F.OPT_CAL_RESULT = 0 && t.f F.OPT_EVENTS_CAL_DONE = 1 &&
      t.f F.OPT_Tt_XT_COEF0 899 = 0x1234 && t.f F.OPT_Tt_XT_COEF3 899 = 0x9876) = true := by decide +kernel

/-- Pair 2 in automatic power reduction. -/
def tApr : State := tOpt cFree none 1 [(F.OPT_STATUS_APR, 0, 4)]

theorem test_apr_and_laser_enable :
    nx (exec (.aprTrip 2) (tMv cUp [])) (fun t => t.pairApr 2 && t.f F.OPT_EVENTS_APR_TRIP = 1 && t.f F.OPT_APR_TRIPS_COUNT = 1 &&
      t.f F.FAB_Fk_CFG_UP 2 = 0) = true ∧
    tApr.Canon ∧ tApr.pairApr 2 = true ∧ tApr.tileMayLight 0 = true ∧ tApr.elapsed 0 (max 100 (tApr.f F.OPT_APR_PERIOD) * 1000000) = true ∧
    tApr.bit F.FAB_Fk_CFG_PKT_LAMBDAS 0 2 = true ∧ tApr.slotHealthy 2 0 = true ∧
    nx (exec (.aprBurst 2) tApr) (fun t => t.out = [.burst 2 0 2000] && tfind 2 t.opt.burstAt = some (10 ^ 9)) = true ∧
    nx (exec (.aprClear 2) tApr) (fun t => !t.pairApr 2 && t.f F.OPT_EVENTS_APR_CLEAR = 1 && t.bit F.FAB_Fk_CFG_UP 0 2) = true ∧
    nx (exec (.laserEnChange 0 true) (tMv cUp [])) (fun t => t.bit F.PWR_PINS_LASER_EN_N 0 && !t.bit F.OPT_STATUS_LIT 0 &&
      t.f F.FAB_Fk_CFG_UP 2 = 0) = true ∧
    nx (exec (.laserEnChange 0 false) (tOpt cFree none 1 [(F.PWR_PINS_LASER_EN_N, 0, 15)])) (fun t => !t.bit F.PWR_PINS_LASER_EN_N 0 &&
      t.pairApr 2) = true := by decide +kernel

/-! ### Sectors, memory, the on-package network -/

/-- Sectors 0 to 7 healthy; page 3 of tier S has its primary in sector 2 and its copy in sector 5, page 4 lies in sector 2 only. -/
def tPages (fs : List (Fld × Nat × Nat)) : State :=
  let s := tS ((List.range 8).map (fun n => (F.ARR_SECn_STATUS_STATE, n, 0)) ++ fs)
  { s with mem := { s.mem with
      pages := [(3, { primary := 2, secondary := some 5, mirrored := true }), (4, { primary := 2, secondary := none, mirrored := false })]
      cells := [(pageCell 3, 7), (pageCell 4, 9)] } }

theorem test_sectorFault_shrinks_the_array : (tPages []).Canon ∧ (tPages []).healthyList = [0, 1, 2, 3, 4, 5, 6, 7] ∧
    (tPages []).copied 4 { primary := 2, secondary := none, mirrored := false } = false ∧
    nx (exec (.sectorFault 2 []) (tIn (tPages []) [tItem (tRow opProject)])) (fun t => t.secState 2 = secUnusable && t.bit F.BIST_STATUS_UNUSABLE 2 &&
      t.healthyList = [0, 1, 3, 4, 5, 6, 7] && t.f F.ARR_STATUS_ROWS = 448 && t.f F.MEM_STATUS_S_UP = 0xFB && t.f F.MEM_STATUS_H_UP = 0xFB &&
      t.mem.remapDue = [(2, 0)] && t.rdByte 0 (3 * pageSize) = 7 && t.rdByte 0 (4 * pageSize) = 0 && (tfind 4 t.mem.lost).isSome &&
      t.f F.ARR_EVENTS_MOVED = 1) = true := by decide +kernel

theorem test_pageRemap_and_remirrorDone :
    nx (exec .pageRemap { tPages [] with mem := { (tPages []).mem with remapDue := [(2, 0), (6, 1)] } }) (fun t => t.mem.remapDue = [(6, 1)] &&
      t.f F.MEM_EVENTS_REMAPPED = 1 && (tfind 3 t.mem.pages).map Page.primary = some 5 &&
      (tfind 3 t.mem.pages).map Page.secondary = some (some 0) && t.mem.remirroring = [3] && t.f F.MEM_STATUS_REMIRRORING = 1) = true ∧
    nx (exec .remirrorDone { tPages [(F.MEM_STATUS_REMIRRORING, 0, 1)] with mem := { (tPages []).mem with remirroring := [3] } }) (fun t =>
      t.mem.remirroring = [] && t.f F.MEM_STATUS_REMIRRORING = 0 && t.f F.MEM_EVENTS_REMIRRORED = 1) = true := by decide +kernel

/-- A scrub period of an hour is over. -/
def tScrub : State := { tPages [(F.MEM_SCRUB_PERIOD, 0, 1)] with now := 3600 * 10 ^ 9 }

theorem test_scrubPass_counts_and_poisons : tScrub.Canon ∧ tScrub.elapsed tScrub.mem.scrubAt (1 * 3600 * 10 ^ 9) = true ∧
    tScrub.hasCopy 0 (3 * pageSize) 1 = true ∧ tScrub.hasCopy 0 (4 * pageSize + 8) 1 = false ∧
    nx (exec (.scrubPass [1] [(0, 4 * pageSize + 8)]) tScrub) (fun t => t.mem.scrubAt = 3600 * 10 ^ 9 && t.f F.MEM_CE_H_COUNT = 1 &&
      t.f F.MEM_UE_S_COUNT = 1 && t.f F.MEM_EVENTS_CE = 1 && t.f F.MEM_EVENTS_UE = 1 && t.f F.MEM_LAST_UE_ADDR = 4 * pageSize + 8 &&
      t.mem.poison = [(4 * pageSize + 8) / 8]) = true ∧
    nx (exec (.scrubPass [2] [(0, 3 * pageSize)]) tScrub) (fun t => t.mem.poison = [] && t.f F.MEM_CE_D_COUNT = 1) = true := by decide +kernel

theorem test_cxl_and_context :
    nx (exec (.cxlLinkDown 3) { tS [(F.MEM_STATUS_X_UP, 0, 15), (F.MEM_CAP_X_GIB, 0, 12)] with mem := { (tS []).mem with xRanges := [0, 0, 0, 2 ^ 33] } })
      (fun t => t.f F.MEM_STATUS_X_UP = 7 && t.f F.MEM_EVENTS_X_LOST = 1 && t.f F.MEM_CAP_X_GIB = 4) = true ∧
    nx (exec (.contextFetch 0) (tIn (tS []) [{ tItem (tRow opReduce) with ctxReady := false }])) (fun t =>
      (t.item 7).map Item.ctxReady = some true && t.mem.cache = [0] && t.f F.MEM_CTX_CACHE_RESIDENT = 1) = true := by decide +kernel

/-- Link 255 with a packet of a flow that failed its CRC five times in a row on it. -/
def tNoc : State :=
  let s := (tS []).setNocLink 255 (5, 0, false)
  { s with bist := { s.bist with noc := { s.bist.noc with held := [NocPkt.mk 255 (nocKey 3 19 2) 7 5] } } }

theorem test_network_links_hold_resend_and_fail : tNoc.Canon ∧ tNoc.nocLink 255 = (5, 0, false) ∧
    (tNoc.nocHeld 255 (nocFlowOf ⟨3, 19, 2, 7⟩) 7).any (fun q => decide (5 ≤ q.fails)) = true ∧
    nx (exec (.nocPacketReceive 255 ⟨⟨3, 19, 2, 7⟩, false⟩) tNoc) (fun t => t.nocLink 255 = (6, 0, false) && t.f F.BIST_NOC_RESENDS_COUNT = 1 &&
      t.bist.noc.held = [NocPkt.mk 255 (nocKey 3 19 2) 7 6]) = true ∧
    nx (exec (.nocPacketReceive 0 ⟨⟨0, 1, 0, 9⟩, false⟩) tNoc) (fun t => t.nocLink 0 = (1, 0, false) && t.bist.noc.held.length = 2) = true ∧
    nx (exec (.nocLinkFailed 255 ⟨3, 19, 2, 7⟩) tNoc) (fun t => t.nocLink 255 = (5, 0, true) && t.f F.BIST_NOC_PATH_CHANGES_COUNT = 0 &&
      t.f F.BIST_NOC_LINK_FAILS_COUNT = 1 && t.f F.BIST_EVENTS_NOC_LINK = 1 && nx (exec (.nocPacketReceive 255 ⟨⟨3, 19, 2, 7⟩, true⟩) t) (fun u => u = t)) =
        true := by decide +kernel

theorem test_network_flows_deliver_in_order_and_once :
    (NocFlow.mk false 7 [8, 9, 11]).deliver 7 = NocFlow.mk false 10 [11] ∧ (NocFlow.mk false 7 [9]).deliver 9 = NocFlow.mk false 7 [9] ∧
    (NocFlow.mk false 7 [9]).deliver 6 = NocFlow.mk false 7 [9] ∧ (NocFlow.mk false 7 []).deliver 7 = NocFlow.mk false 8 [] ∧
    (NocFlow.mk true 7 [9]).deliver 8 = NocFlow.mk true 7 [8, 9] := by decide +kernel

/-! ### The host port -/

/-- The own MAC and IPv4 address, both enabled. -/
def tHp (fs : List (Fld × Nat × Nat)) : State :=
  let s := tUp ([(F.HOST_MAC_MAC, 0, 0x0A0B0C0D0E0F)] ++ fs)
  let w := regSetFld (regSetFld (regSetFld s.host.inEffect F.HOST_CFG_IPV4_EN 0 1) F.HOST_IPV4_ADDR 0 0xC0A80001) F.HOST_CFG_VLAN_EN 0 0
  { s with host := { s.host with inEffect := w } }

/-- A request of ARP from 192.168.0.2 for an address. -/
def tArp (ip : Nat) : List Byte := beBytes 6 0xFFFFFFFFFFFF ++ beBytes 6 0x020202020202 ++ beBytes 2 0x0806 ++ beBytes 8 0x0001080006040001 ++
  beBytes 6 0x020202020202 ++ beBytes 4 0xC0A80002 ++ beBytes 6 0 ++ beBytes 4 ip ++ List.replicate 18 0
def tArpUs : List Byte := beBytes 6 0x0A0B0C0D0E0F ++ (tArp 0xC0A80001).drop 6

theorem test_hostFrame_arp_is_answered : (tHp []).Canon ∧ (tHp []).forUs tArpUs = true ∧ (tHp []).macsec = false ∧
    hdrAt tArpUs 12 2 = 0x0806 ∧ hdrAt tArpUs 14 8 = 0x0001080006040001 ∧ (tHp []).ownIp4 (hdrAt tArpUs 38 4) = true ∧
    nx (exec (.hostFrameReceive (withFcs tArpUs) (true, 0)) (tHp [])) (fun t => t.f F.SCH_PLk_GREEN_COUNT 17 = 1 &&
      t.out = [.hostFrame (withFcs (beBytes 6 0x020202020202 ++ beBytes 6 0x0A0B0C0D0E0F ++ beBytes 2 0x0806 ++
        beBytes 8 0x0001080006040002 ++ beBytes 6 0x0A0B0C0D0E0F ++ beBytes 4 0xC0A80001 ++ beBytes 6 0x020202020202 ++
        beBytes 4 0xC0A80002 ++ List.replicate 18 0))]) = true := by decide +kernel

theorem test_hostFrame_damaged_or_red : withFcs ((List.replicate 64 (0 : Byte)).take 60) ≠ List.replicate 64 0 ∧
    udpPort tArpUs ≠ some ((tHp []).hostF F.HOST_CFG_PORT) ∧ ((tHp [(F.SCH_PLk_CTRL_ENABLE, 17, 1)]).policerNow 17).p = 0 ∧
    nx (exec (.hostFrameReceive (withFcs tArpUs) (true, 0)) (tHp [(F.SCH_PLk_CTRL_ENABLE, 17, 1)])) (fun t => t.f F.SCH_PLk_RED_COUNT 17 = 1 &&
      t.f F.SCH_EVENTS_RED_HOST = 1 && t.out = []) = true := by decide +kernel

/-- The Expin port in effect, a message for it with its tag under the bootstrap key of zeros, and the frame that carries it. -/
def tXp : Nat := (tHp []).hostF F.HOST_CFG_PORT
def tMsg (type : Nat) (tag : List Byte) : List Byte := beBytes 4 (2 ^ 24 + type * 2 ^ 16) ++ beBytes 4 0 ++ beBytes 4 9 ++ List.replicate 20 0 ++ tag
def tTag (type : Nat) : List Byte := byts (gcmTag (aesKeys (List.replicate 32 0)) ([0, 0, 0, 0] ++ [0, 0, 0, 0] ++ bytesOf 4 9) (nats (tMsg type [])) [])
def tUdp (m : List Byte) : List Byte := beBytes 6 0x0A0B0C0D0E0F ++ beBytes 6 0x020202020202 ++ beBytes 2 0x0800 ++
  ip4Head 0xC0A80002 0xC0A80001 (8 + m.length) 64 17 ++ beBytes 2 7 ++ beBytes 2 tXp ++ beBytes 2 (8 + m.length) ++ beBytes 2 0 ++ m
def tGood : List Byte := tMsg 1 (tTag 1)
def tBadM : List Byte := tMsg 1 (List.replicate 16 0)

theorem test_expin_frames_meet_the_hypotheses : (tHp []).forUs (tUdp tGood) = true ∧ (tHp []).carries (tUdp tGood) tXp tGood ∧
    tXp ≠ 319 ∧ tXp ≠ 320 ∧ (tHp []).answers = true ∧ tGood.length = 48 + hdrAt tGood 20 2 ∧ (tHp []).forUs (tUdp tBadM) = true ∧
    (tHp []).carries (tUdp tBadM) tXp tBadM ∧ (tHp []).seqCheck (tHp []).bootCand 9 = .fresh ∧
    hdrAt tGood 0 4 = 0x01010000 ∧ hdrAt tGood 8 4 = 9 ∧ hdrAt tGood 24 8 = 0 := by unfold State.carries; decide +kernel

theorem test_expin_unverified_is_counted :
    nx (exec (.hostFrameReceive (withFcs (tUdp tBadM)) (true, 0)) (tHp [])) (fun t => t.f F.HOST_AUTH_FAIL_COUNT = 1 &&
      t.f F.HOST_EVENTS_AUTH_FAIL = 1 && t.out = [] && t.host.answered = []) = true := by decide +kernel

theorem test_expin_read_and_write_are_served :
    nx (exec (.hostFrameReceive (withFcs (tUdp tGood)) (true, 0)) (tHp [])) (fun t => t.f F.HOST_REQUESTS_COUNT = 1 &&
      tSays t .done) = true ∧
    nx (exec (.hostFrameReceive (withFcs (tUdp (tMsg 2 (tTag 2)))) (true, 0)) (tHp [])) (fun t => t.f F.HOST_REQUESTS_COUNT = 1 &&
      tSays t .done) = true := by decide +kernel

/-- MACsec in force; slot 3 receives channel 5 under a key of zeros, association number 1. -/
def tMacK : KeyGen := KeyGen.mk' 2 0 0 1 0
def tMac (fs : List (Fld × Nat × Nat)) : State :=
  let s := tHp ([(F.CIPH_MACSEC_ENABLE, 0, 1)] ++ fs)
  { s with ciph := { s.ciph with uses := [(3, useMacRx)], slots := [(3, [tMacK])] }, conf := { s.conf with sci := [(3, 5)] } }
def tSecured : List Byte := macSeal tMacK 5 (tArp 0xC0A80009)

theorem test_macsec_untagged_unkeyed_replayed : hdrAt tSecured 12 2 = 0x88E5 ∧ hdrAt tSecured 14 1 / 4 = 0x0B ∧ hdrAt tSecured 15 1 = 0 ∧
    tSecured.length = 92 ∧ ((tMac []).macRxGen 5 1).isSome = true ∧ (tMac []).asleep = false ∧ (tMac []).Canon ∧
    nx (exec (.macsecFrameReceive (withFcs tArpUs) (true, 0)) (tMac [])) (fun t => t.f F.CIPH_MAC_UNTAGGED_COUNT = 1 && t.out = []) = true ∧
    nx (exec (.macsecFrameReceive (withFcs tSecured) (true, 0)) { tMac [] with conf := Conf.none }) (fun t =>
      t.f F.CIPH_MAC_ICV_FAIL_COUNT = 1) = true ∧
    nx (exec (.macsecFrameReceive (withFcs tSecured) (true, 0)) (let s := tMac [(F.CIPH_MACSEC_REPLAY, 0, 1), (F.CIPH_MACSEC_WINDOW, 0, 0)];
      { s with ciph := { s.ciph with macRx := [(256 * 3 + 2, 5)] } })) (fun t => t.f F.CIPH_MAC_REPLAY_COUNT = 1) = true := by decide +kernel

theorem test_macsec_frame_is_taken :
    nx (exec (.macsecFrameReceive (withFcs tSecured) (true, 0)) (tMac [])) (fun t => tfind (256 * 3 + 2) t.ciph.macRx = some 2 &&
      t.f F.CIPH_MAC_ICV_FAIL_COUNT = 0 && t.f F.SCH_PLk_GREEN_COUNT 17 = 1 && t.out = []) = true := by decide +kernel

/-! ### Images, Twilight, management firmware -/

def tBody : ImageBody :=
  { regs := [], conf := { Conf.none with site := 3 }, uses := [(4, 1)], ctx := [], mem := [], circuits := [], books := [], limits := [], pages := []
    mirrorDX := [], sectors := [(2, false)], sensorCoef := [], alternate := 0, reserve := none, map := [] }

/-- An image of a kind, version 5, for sector 2, with one empty row and every signature it needs. -/
def tImg (kind : Nat) : Image :=
  { kind := kind, version := 5, digest := List.replicate 32 7, owner := 1, sector := 2, len := 8192, rows := [(0, 1)], count := 1, entries := []
    sigIds := if kind = imFull then (List.range 8).flatMap (fun n => [(n, 1), (n, 2)]) else [(2, 1), (2, 2)], sigs := [], colls := [], optcal := false, body := tBody }
def tFullIm : Image := { tImg imFull with rows := [] }

/-- Every sector healthy, stage 8, an active image. -/
def tLive (fs : List (Fld × Nat × Nat)) : State :=
  tUp ((List.range 8).map (fun n => (F.ARR_SECn_STATUS_STATE, n, 0)) ++ [(F.IMG_STATUS_ACTIVE, 0, 1)] ++ fs)

/-- A load of target 1 with these bytes, complete, asked for by request 9. -/
def tLd (bs : List Byte) : Load :=
  { target := 1, id := 6, total := bs.length, region := 0, parts := [(0, bs)], last := true, by_ := some { seq := 9, gen := none, inTxn := false, inSnap := false, txn := 0 }, late := [] }
def tLoaded (s : State) (bs : List Byte) : State := { s with host := { s.host with load := some (tLd bs) } }

theorem test_loadVerify_refuses : (tLd [1]).complete = true ∧ (tLoaded (tLive []) [1]).Canon ∧
    (match (tLive []).checkFile (tLd [1]).bytes 1 true 0 with | .error v => decide (v.check = 1 ∧ v.st = .refusedFit) | .ok _ => false) = true ∧
    nx (exec (.loadVerify true tBody [] false [] none) (tLoaded (tLive [(F.IMG_STATUS_STATE, 0, 2)]) [1])) (fun t =>
      t.f F.IMG_STATUS_RESULT = Status.refusedFit.code && t.f F.IMG_STATUS_CHECK = 1 && t.f F.IMG_STATUS_STATE = 0 && t.host.load = none &&
      t.f F.HOST_LOAD_RESULT = Status.refusedFit.code && tSays t .refusedFit) = true := by decide +kernel

/-- An ALMANAC_ONLY image file (R658, R660, R664) of owner 1: its header with its CRC, its section of one empty row, one byte of
signature. -/
def tAlm : List Byte := leBytes 4 1 ++ leBytes 2 0 ++ List.replicate 122 0 ++ List.replicate 32 0
def tHdA : List Byte :=
  leBytes 4 0x54534931 ++ leBytes 1 2 ++ leBytes 1 0x10 ++ leBytes 2 1 ++ leBytes 4 5 ++ leBytes 4 1 ++ leBytes 8 (4096 + 160 + 1) ++ leBytes 32 0 ++
  leBytes 1 1 ++ leBytes 1 0 ++ leBytes 2 0
def tHdB : List Byte :=
  leBytes 1 2 ++ leBytes 1 0 ++ leBytes 1 0xFF ++ leBytes 1 0 ++ leBytes 4 (crc32c (nats tAlm)) ++ leBytes 8 4096 ++ leBytes 8 160 ++ leBytes 8 160
def tImHdr (crc : Nat) : List Byte := tHdA ++ (leBytes 4 crc ++ (tHdB ++ List.replicate 4000 0))
def tImCrc : Nat := crc32c (nats (tHdA ++ beBytes 4 0 ++ (tHdB ++ List.replicate 4000 0)))
def tFile : List Byte := tImHdr tImCrc ++ (tAlm ++ [0])

theorem crcStep_lt (n c : Nat) (h : c < 2 ^ 32) : crcStep 0x82F63B78 n c < 2 ^ 32 := by
  induction n generalizing c with
  | zero => exact h
  | succ n ih =>
    have d : c >>> 1 < 2 ^ 32 := Nat.lt_of_le_of_lt (Nat.shiftRight_le c 1) h
    rw [crcStep]; apply ih; split
    · exact Nat.xor_lt_two_pow d (by decide)
    · exact d

theorem crc32c_lt (bs : List Byte) : crc32c (nats bs) < 2 ^ 32 := by
  have h (l : List Byte) (c : Nat) (hc : c < 2 ^ 32) :
      (nats l).foldl (fun c b => crcStep 0x82F63B78 8 (Nat.xor c b)) c < 2 ^ 32 := by
    induction l generalizing c with
    | nil => exact hc
    | cons b bs ih => exact ih _ (crcStep_lt _ _ (Nat.xor_lt_two_pow hc (Nat.lt_trans b.isLt (by decide))))
  exact Nat.xor_lt_two_pow (h bs _ (by decide)) (by decide)

theorem tImHdr_parts (n : Nat) (l : n < 2 ^ 32) (bs : List Byte) (hf : bs = tImHdr n ++ (tAlm ++ [0])) :
    (bs.take 4096).take 60 ++ beBytes 4 0 ++ (bs.take 4096).drop 64 = tHdA ++ beBytes 4 0 ++ (tHdB ++ List.replicate 4000 0) ∧
    leAt bs 60 4 = n := by
  have a : tHdA.length = 60 := by decide +kernel
  have b : tHdB.length = 32 := by decide +kernel
  have x : (leBytes 4 n).length = 4 := rfl
  have t : bs.take 4096 = tImHdr n :=
    hf ▸ List.take_left' (by rw [tImHdr, List.length_append, List.length_append, List.length_append, List.length_replicate, a, b, x])
  have d : (tImHdr n).drop 64 = tHdB ++ List.replicate 4000 0 := by
    rw [tImHdr, ← List.append_assoc]; exact List.drop_left' (by rw [List.length_append, a, x])
  have p : (tImHdr n).take 60 = tHdA := List.take_left' a
  refine ⟨by rw [t, d, p], ?_⟩
  have f : (bs.drop 60).take 4 = leBytes 4 n := by
    rw [hf, tImHdr, List.append_assoc, List.drop_left' a, List.append_assoc]; exact List.take_left' x
  rw [leAt, f]; simp [leBytes, leNat]; omega

theorem tFile_crcFits : (imgHdrOf tFile).crcFits tFile = true := by
  obtain ⟨h, e⟩ := tImHdr_parts tImCrc (crc32c_lt _) tFile rfl
  have e' : (imgHdrOf tFile).crc = tImCrc := e
  unfold ImgHdr.crcFits
  simp only [h, e']
  exact decide_eq_true rfl

/-- The load of that file on a gateway with an active image whose owner slot 1 is active: every check passes. -/
def tAlmS : State := tLoaded (tLive [(F.SEC_STATUS_ACTIVE, 0, 2)]) tFile

theorem tFile_passes : tAlmS.checkFile tFile 1 true tAlmS.position =
    .ok { hdr := imgHdrOf tFile, len := tFile.length, digest := (imgHdrOf tFile).digest tFile, plain := [(2, tAlm)] } := by
  have h1 : (imgHdrOf tFile).wellFormed tFile = true := by decide +kernel
  have h2 : (imgHdrOf tFile).kind = imAlmanac := by decide +kernel
  have h3 : (imgHdrOf tFile).stepping = tAlmS.f F.GLB_ID_STEPPING := by decide +kernel
  have h4 : ((imgHdrOf tFile).secs.find? fun e => decide (crc32c (nats (e.stored tFile)) ≠ e.crc)) = none := by decide +kernel
  have h5 : (imgHdrOf tFile).owner = 1 := by decide +kernel
  have h6 : tAlmS.bit F.SEC_STATUS_ACTIVE 1 = true := by decide +kernel
  have h7 : ¬ (imgHdrOf tFile).version < tAlmS.f F.SEC_ROLLBACK_COUNTER := by decide +kernel
  have h8 : leBytes 32 (imgHdrOf tFile).base = tAlmS.activeDigest := by decide +kernel
  have h9 : tAlmS.imageActive = true := by decide +kernel
  have h10 : tAlmS.openAll tFile (fun e => decide (e.member = 0xFF) || decide (e.member = tAlmS.position)) (imgHdrOf tFile).secs =
    .ok [(2, tAlm)] := by decide +kernel
  simp only [State.checkFile, h1, h2, tFile_crcFits, h3, h4, h5, h6, h7, h8, h9, h10]
  simp [imAlmanac, imPatch, imFull]

theorem tLd_bytes (bs : List Byte) : (tLd bs).bytes = bs := by simp [Load.bytes, tLd]

theorem tAlm_image (h : ImgHdr) (n : Nat) (d : List Byte) (hk : h.kind = imAlmanac) :
    ∃ im, Checked.image { hdr := h, len := n, digest := d, plain := [(2, tAlm)] } tBody = .ok im ∧ im.kind = imAlmanac ∧
      im.set = { rows := [], count := 1, entries := [] } := by
  have a : almanacOf tAlm = some ([], 1, []) := by decide +kernel
  simp [Checked.image, Checked.sec, a, hk, imAlmanac, imPatch, imFull, Image.set]

theorem test_loadVerify_takes_an_almanac : (tLd tFile).complete = true ∧ tAlmS.imageActive = true ∧ tAlmS.seq.swap = none ∧
    ∃ c im, tAlmS.checkFile (tLd tFile).bytes 1 true tAlmS.position = .ok c ∧ c.image tBody = .ok im ∧ (tAlmS.fitImage im []).1 = .done ∧
      im.kind = imAlmanac ∧ im.set.count = 1 := by
  obtain ⟨im, h1, h2, h3⟩ := tAlm_image (imgHdrOf tFile) tFile.length ((imgHdrOf tFile).digest tFile) (by decide +kernel)
  refine ⟨by decide +kernel, by decide +kernel, rfl, _, im, by rw [tLd_bytes]; exact tFile_passes, h1, ?_, h2, by rw [h3]⟩
  have h4 : (tAlmS.fitSwap { rows := [], count := 1, entries := [] }).1 = .done := by decide +kernel
  simp [State.fitImage, h2, h3, h4, imAlmanac, imFull]

/-- A bound member that is not the pole. -/
def tMbr (fs : List (Fld × Nat × Nat)) : State := tLive ([(F.CST_STATUS_MODE, 0, 1), (F.CST_STATUS_POSITION, 0, 1)] ++ fs)

theorem test_loadVerify_stages_and_patches : (tMbr []).Canon ∧ ((tMbr []).fitImage tFullIm []).1 = .done ∧ ((tMbr []).fitImage (tImg imPatch) []).1 = .done ∧
    nx (exec (.loadVerify true tBody [] false [] (some tFullIm)) (tMbr [])) (fun t => t.img.staged = some tFullIm && t.f F.IMG_STATUS_STAGED = 1 &&
      t.f F.IMG_EVENTS_STAGED = 1 && t.out = [.member 0 mkImagePart 1 [0]]) = true ∧
    nx (exec (.loadVerify true tBody [] false [] (some (tImg imPatch))) (tMbr [])) (fun t => t.f F.IMG_STATUS_STATE = 4 && t.f F.IMG_PATCH_SECTOR = 2 &&
      t.f F.IMG_PATCH_STEP = 1 && t.unitDraining 2 && t.secState 2 = secTwilight) = true := by decide +kernel

/-- Stage 6 with the boot area's image. -/
def tAreaS : State :=
  let s := tLive [(F.GLB_STATUS_STAGE, 0, 6), (F.IMG_STATUS_ACTIVE, 0, 0), (F.SEC_STATUS_ACTIVE, 0, 2)]
  { s with img := { s.img with area := some tFullIm } }

theorem test_loadVerify_boots_the_area : tAreaS.Canon ∧ tAreaS.imageActive = false ∧ (tAreaS.fitImage tFullIm []).1 = .done ∧
    nx (exec (.loadVerify true tBody [] false [] none) tAreaS) (fun t => t.f F.GLB_STATUS_STAGE = 8 && t.f F.IMG_STATUS_ACTIVE = 1 &&
      t.f F.IMG_STATUS_VERSION = 5 && t.img.owner = 1 && t.f F.IMG_EVENTS_ACTIVATED = 1 && t.unitDark 2) = true := by decide +kernel

def tStaged (act : Bool) : State := { tLive [(F.IMG_STATUS_STAGED, 0, 1)] with img := { State.reset.img with staged := some (tImg imFull), activating := act } }

theorem test_activate_and_discard : (tStaged false).Canon ∧
    nx (exec .activate (tStaged false)) (fun t => t.img.activating && t.f F.IMG_STATUS_STATE = 3 && t.f F.IMG_DRAINING_UNITS = 0x1FFFF00) = true ∧
    nx (exec .discard (tStaged false)) (fun t => t.img.staged = none && t.f F.IMG_STATUS_STAGED = 0) = true := by decide +kernel

theorem test_imageActivation_places_the_image :
    nx (exec (.imageActivation [] false) (tStaged true)) (fun t => t.f F.IMG_STATUS_ACTIVE = 1 && t.f F.IMG_STATUS_STAGED = 0 &&
      t.f F.IMG_STATUS_VERSION = 5 && t.img.staged = none && !t.img.activating && t.seq.active = [(0, 1)] && t.conf.site = 3 &&
      t.ciph.uses = [(4, 1)] && t.img.sectors = [(2, false)] &&
      t.f F.COL_STATUS_ENTRIES = 0 && t.f F.COL_LAST_ADHOC_ID_ID = 0) = true := by decide +kernel

theorem test_disable : (tLive []).fitsWithout 2 = true ∧ (tLive []).unitOut 2 = false ∧
    ({ tLive [] with conf := { Conf.none with needS := 2 ^ 40 } }).fitsWithout 2 = false ∧
    nx (exec (.disable 2 7) (tLive [])) (fun t => t.f F.IMG_TWILIGHT_RESULT = 0 && t.f F.IMG_DRAINING_UNITS = 4 && t.secState 2 = secTwilight &&
      t.img.deadlines = [(2, 7000)]) = true ∧
    nx (exec (.disable 2 7) { tLive [] with conf := { Conf.none with needS := 2 ^ 40 } }) (fun t => t.f F.IMG_TWILIGHT_RESULT = Status.refusedFit.code &&
      t.f F.IMG_DRAINING_UNITS = 0) = true ∧
    nx (exec (.disable 29 7) (tLive [])) (fun t => t.f F.IMG_TWILIGHT_RESULT = 0 && t.unitDraining 29) = true ∧
    nx (exec (.disable 30 7) (tLive [])) (fun t => t.f F.IMG_TWILIGHT_RESULT = Status.refusedBusy.code && t.f F.IMG_DRAINING_UNITS = 0) = true := by
  decide +kernel

theorem test_enable : nx (exec (.enable 9) (tLive [(F.IMG_DARK_UNITS, 0, 2 ^ 9), (F.SEQ_TKn_STATUS_STATE, 1, tkDark)])) (fun t =>
      t.f F.IMG_TWILIGHT_RESULT = 0 && t.f F.IMG_DARK_UNITS = 0 && t.track 1 = tkHalted) = true ∧
    nx (exec (.enable 2) (tLive [(F.IMG_DARK_UNITS, 0, 4)])) (fun t => t.secState 2 = secReset && t.bist.runs.map BistRun.sector = [2]) = true ∧
    nx (exec (.enable 31) (tLive [])) (fun t => t.f F.IMG_TWILIGHT_RESULT = Status.refusedBusy.code) = true := by decide +kernel

/-- Unit 9, track 1, in Twilight, its deadline at time 0. -/
def tDim : State := { tLive [(F.IMG_DRAINING_UNITS, 0, 2 ^ 9 + 4)] with img := { State.reset.img with deadlines := [(9, 0)] } }

theorem test_units_go_dark : tDim.unitIdle 2 = true ∧
    nx (exec (.twilightDeadline 9 []) tDim) (fun t => t.unitDark 9 && !t.unitDraining 9 && t.f F.IMG_EVENTS_DARK = 1 && t.track 1 = tkDark) = true ∧
    nx (exec (.unitDark 2) tDim) (fun t => t.unitDark 2 && !t.unitDraining 2 && t.f F.IMG_EVENTS_DARK = 1) = true := by decide +kernel

/-- Processor `m` restarts, drained or not, since time 0; both copies have major version 1 and B is preferred. -/
def tFw (m : Nat) (draining : Bool) (fs : List (Fld × Nat × Nat)) : State :=
  { tLive ([(F.IMG_FW_STATUS_A_VERSION, 0, 256), (F.IMG_FW_STATUS_B_VERSION, 0, 257), (F.IMG_FW_STATUS_PREFER_B, 0, 1)] ++ fs) with
    now := 10 ^ 9, img := { State.reset.img with fw := some { mp := m, draining := draining, since := 0, oldB := true } } }

theorem test_restart : nx (exec .restart { tFw 0 false [] with img := State.reset.img }) (fun t => t.f F.IMG_FW_STATUS_RESULT = 0 &&
      t.f F.IMG_FW_STATUS_RESTARTING = 1 && t.unitDraining 30 && t.img.fw = some { mp := 0, draining := true, since := 10 ^ 9, oldB := false }) = true ∧
    nx (exec .restart (tFw 0 false [])) (fun t => t.f F.IMG_FW_STATUS_RESULT = Status.refusedBusy.code) = true ∧
    nx (exec (.mpDrainLimit []) (tFw 3 true [(F.EVT_STATUS_TGT_UP, 0, 15)])) (fun t => t.f F.IMG_FW_STATUS_COPY_B = 8 && t.f F.EVT_STATUS_TGT_UP = 7 &&
      t.unitDark 33 && t.img.fw = some { mp := 3, draining := false, since := 10 ^ 9, oldB := true }) = true := by decide +kernel

theorem test_mpReady_and_its_timeout :
    nx (exec (.mpReady 2) (tFw 2 false [(F.IMG_DARK_UNITS, 0, 2 ^ 32)])) (fun t => t.f F.EVT_STATUS_TGT_UP = 4 && !t.unitDark 32 && t.unitDraining 33 &&
      t.img.fw.map FwRun.mp = some 3) = true ∧
    nx (exec (.mpReady 3) (tFw 3 false [])) (fun t => t.img.fw = none && t.f F.IMG_FW_STATUS_RESULT = 0 && t.f F.IMG_EVENTS_FW_RESTARTED = 1) = true ∧
    nx (exec .mpReadyTimeout (tFw 1 false [])) (fun t => t.img.fw = none && t.free = 1) = true := by
  decide +kernel

/-! ### Resets and boot, the vault die, self-test, power and clocks -/

/-- Running in stage 8 with a bin, a sticky word, an owner and a byte of tier X. -/
def tOn : State :=
  let s := tLive [(F.GLB_STATUS_STAGE, 0, 8), (F.GLB_SCRATCH_VALUE, 0, 77), (F.ARR_STATUS_SUSPECT, 0, 4), (F.SEC_ROLLBACK_COUNTER, 0, 6), (F.MEM_SCRUB_PERIOD, 0, 9),
    (F.ARR_SECn_STATUS_STATE, 3, secRetired), (F.TIME_TBn_OFFSET_OFFSET, 2, 11)]
  { s with bist := { s.bist with bins := [(5, [1])] }, sec := { s.sec with owners := [(1, 1, [])], boot := some (1, 2) }
           mem := { s.mem with cells := [(5, 7), (memKey 3 9, 8)] }, pwr := { s.pwr with softDue := true }, ppe := { s.ppe with failed := true } }

theorem test_resets : tOn.Canon ∧ tOn.asleep = false ∧
    nx (exec .porstNAssert tOn) (fun t => t.pwr.porst && t.seq = State.reset.seq && t.f F.SEC_ROLLBACK_COUNTER = 6 && t.f F.GLB_SCRATCH_VALUE = 0 &&
      t.f F.MEM_SCRUB_PERIOD = 24 && t.f F.IMG_STATUS_ACTIVE = 0 && t.sec.boot = some (1, 2) && t.rdByte 3 9 = 8 && t.bist.bins = []) = true ∧
    nx (exec .sysrstN tOn) (fun t => t.f F.GLB_STATUS_STAGE = 2 && t.f F.PWR_STATUS_READY = 1 && t.f F.GLB_SCRATCH_VALUE = 77 && t.f F.IMG_STATUS_ACTIVE = 0 &&
      t.f F.ARR_STATUS_SUSPECT = 4 && t.bist.bins = [(5, [1])] && t.f F.SEC_ROLLBACK_COUNTER = 6 && t.f F.MEM_SCRUB_PERIOD = 24 &&
      t.ppe.failed && t.secState 3 = secRetired && t.f F.TIME_TBn_OFFSET_OFFSET 2 = 11) = true ∧
    nx (exec .softReset tOn) (fun t => t.f F.GLB_STATUS_STAGE = 2 && t.f F.IMG_STATUS_ACTIVE = 0) = true := by decide +kernel

theorem test_reset_pins :
    nx (exec (.porstNRelease 6 true) State.reset) (fun t => t.now = 0 && t.f F.GLB_STATUS_STAGE = 1 && t.f F.SEC_STATUS_BOOT_SEL = 2 && !t.asleep) = true ∧
    nx (exec (.porstNRelease 6 false) State.reset) (fun t => t.pwr.held && !t.pwr.porst && t.f F.GLB_STATUS_STAGE = 0) = true ∧
    nx (exec .railsReady { State.reset with pwr := { State.reset.pwr with porst := false, held := true } }) (fun t => t.f F.GLB_STATUS_STAGE = 1 &&
      t.f F.CLK_STATUS_ROOT_LOCK = 1 && !t.asleep) = true := by decide +kernel

/-- Awake in a boot stage. -/
def tStage (n : Nat) (fs : List (Fld × Nat × Nat)) : State := tUp ([(F.GLB_STATUS_STAGE, 0, n)] ++ fs)

theorem test_boot_stages_1_to_3 :
    nx (exec (.bootStageEnd true true []) (tStage 1 [])) (fun t => t.f F.GLB_STATUS_STAGE = 2 && t.f F.PWR_STATUS_READY = 1 &&
      t.f F.CLK_STATUS_PHY_LOCK = 0xFF && t.out = [.pin .readyN false]) = true ∧
    nx (exec (.bootStageEnd false true []) (tStage 1 [])) (fun t => t.f F.GLB_STATUS_STAGE = 1 && t.f F.SEC_STATUS_PUF_FAIL = 1) = true ∧
    nx (exec (.bootStageEnd true true []) (tStage 2 [])) (fun t => t.f F.GLB_STATUS_STAGE = 3) = true ∧
    nx (exec (.bootStageEnd true true []) (tStage 2 [(F.SEC_STATUS_BOOT_SEL, 0, 2)])) (fun t => t.f F.SEC_STATUS_RECOVERY = 1) = true ∧
    nx (exec (.bootStageEnd false false []) (tStage 3 [])) (fun t => t.f F.SEC_STATUS_RECOVERY = 1 && t.f F.GLB_STATUS_STAGE = 3) = true := by
  decide +kernel

theorem test_boot_stages_3_to_5 :
    nx (exec (.bootStageEnd false true (List.replicate 8 64)) (tStage 3 [(F.BIST_STATUS_RETIRED, 0, 16)])) (fun t => t.f F.GLB_STATUS_STAGE = 4 &&
      t.f F.SEC_STATUS_FW_B = 1 && t.f F.EVT_STATUS_TGT_UP = 15 && t.bist.runs.map BistRun.sector = [0, 2, 6, 1, 3, 5, 7] &&
      t.f F.MEM_CAP_D_GIB = 512) = true ∧
    nx (exec (.bootStageEnd true true []) (tStage 4 [])) (fun t => t.f F.GLB_STATUS_STAGE = 5) = true ∧
    nx (exec (.bootStageEnd true true []) { tStage 5 [] with img := { State.reset.img with area := some tFullIm } }) (fun t =>
      t.f F.GLB_STATUS_STAGE = 6) = true := by decide +kernel

/-- A CLAIM of slot 2 for a key of zeros (R702): K0 3, BOOT_KEY 4, BOOT_SALT 5 and the key's SHA-256, wrapped under a claim key of
zeros, computed with another AES. -/
def tClaim : List Byte := [1, 2] ++ List.replicate 82 0 ++ beBytes 4 112 ++
  beBytes 112 0x2949600E19DCDF9A5A1E5DDF18323103230FEC7066A66CD23BC754D9DC304865F696295FEC90B011E6222EE36A013D8C4D66F7DCCC395624C0A4560C8E6A98F18935AFE87E944106729FEC66F4750443E3A732ECF07241D32D4053D7B96C14788516BA47517768ED854616EF9532F7D2
def tCmd (bs : List Byte) (fs : List (Fld × Nat × Nat)) : State :=
  tUp (((chunks 8 (bs.length / 8) bs).zipIdx.map fun c => (F.SEC_CMD_BYTES, c.2, beNat c.1)) ++ fs)

theorem tClaim_steps_1 : tSteps 13 65 13 (0x2949600e19dcdf9a, [0x5a1e5ddf18323103, 0x230fec7066a66cd2,
    0x3bc754d9dc304865, 0xf696295fec90b011, 0xe6222ee36a013d8c, 0x4d66f7dccc395624, 0xc0a4560c8e6a98f1,
    0x8935afe87e944106, 0x729fec66f4750443, 0xe3a732ecf07241d3, 0x2d4053d7b96c1478, 0x8516ba47517768ed,
    0x854616ef9532f7d2]) = (0x7b2c2c23498ae31a, [0xe7f925ccdab38493, 0x88fd661a548834d8, 0xd274b6e194c17503,
    0xc08eea34de62a8a7, 0xcf0e7bc772443ed1, 0x5714dc0f0ad148a4, 0x32997540ff578158, 0x8a4f5b44e5bc3f07,
    0x1d42e46d6dac19c9, 0x17bd4c4e6a075a5a, 0x85faab56a8658a0c, 0xe3b7f37c11b90f28, 0xd79451b42a117db9]) := by decide +kernel

theorem tClaim_steps_2 : tSteps 13 52 13 (0x7b2c2c23498ae31a, [0xe7f925ccdab38493, 0x88fd661a548834d8,
    0xd274b6e194c17503, 0xc08eea34de62a8a7, 0xcf0e7bc772443ed1, 0x5714dc0f0ad148a4, 0x32997540ff578158,
    0x8a4f5b44e5bc3f07, 0x1d42e46d6dac19c9, 0x17bd4c4e6a075a5a, 0x85faab56a8658a0c, 0xe3b7f37c11b90f28,
    0xd79451b42a117db9]) = (0xa0bf90e873e433cb, [0xa50d2d53bbdb180e, 0xb0c805a1c243579, 0xbd55e35c7a7a26c3,
    0x688838455dc5dacf, 0xd6c88560b9fca176, 0x87576f4668956bd7, 0x64a74678ee257a6, 0x6edb9e397df98103,
    0x937c2de576a3121d, 0x701c5412024d8788, 0xd2b415ee060a15bd, 0x2ae609d14308833e, 0xd83a7aea3410826d]) := by decide +kernel

theorem tClaim_steps_3 : tSteps 13 39 13 (0xa0bf90e873e433cb, [0xa50d2d53bbdb180e, 0xb0c805a1c243579,
    0xbd55e35c7a7a26c3, 0x688838455dc5dacf, 0xd6c88560b9fca176, 0x87576f4668956bd7, 0x64a74678ee257a6,
    0x6edb9e397df98103, 0x937c2de576a3121d, 0x701c5412024d8788, 0xd2b415ee060a15bd, 0x2ae609d14308833e,
    0xd83a7aea3410826d]) = (0x455eb3932c11acd8, [0x7f9f4764d2a1a157, 0x3cc71f306de6e38b, 0xe3d0521162f8a3c2,
    0x9280ab1f17649c86, 0x4bdf1d543735d50d, 0x194d304c964efa62, 0xab83ae817968476f, 0xe9f3bb3accaa6599,
    0xae4e43f65fb5d79f, 0x2a4fcbdb849d4e5, 0xc1f654f866d36d1f, 0x98bb921325747f32, 0xed296e61faf5b731]) := by decide +kernel

theorem tClaim_steps_4 : tSteps 13 26 13 (0x455eb3932c11acd8, [0x7f9f4764d2a1a157, 0x3cc71f306de6e38b,
    0xe3d0521162f8a3c2, 0x9280ab1f17649c86, 0x4bdf1d543735d50d, 0x194d304c964efa62, 0xab83ae817968476f,
    0xe9f3bb3accaa6599, 0xae4e43f65fb5d79f, 0x2a4fcbdb849d4e5, 0xc1f654f866d36d1f, 0x98bb921325747f32,
    0xed296e61faf5b731]) = (0xb260423b81162d4a, [0x8d956142fe53b2b5, 0x6ae719c6d072a4ad, 0x1e3731dc29aaae24,
    0x57cd543b0423d229, 0x47a3e654ca2549c3, 0xb0952ce0ff68d9fc, 0x1ed3a2bb2c672db1, 0xf560533571f5e667,
    0xd623be9278664086, 0xd175fc14b417c631, 0x3391430f44ce6fc9, 0x1a3270be12732d93, 0x4937bd7ed0c12629]) := by decide +kernel

theorem tClaim_steps_5 : tSteps 13 13 13 (0xb260423b81162d4a, [0x8d956142fe53b2b5, 0x6ae719c6d072a4ad,
    0x1e3731dc29aaae24, 0x57cd543b0423d229, 0x47a3e654ca2549c3, 0xb0952ce0ff68d9fc, 0x1ed3a2bb2c672db1,
    0xf560533571f5e667, 0xd623be9278664086, 0xd175fc14b417c631, 0x3391430f44ce6fc9, 0x1a3270be12732d93,
    0x4937bd7ed0c12629]) = (0x87096a27cb8f9489, [0x82a176ff437ea014, 0xee4f71df249b061e, 0xed2315b29e3a4773,
    0xd83ad3b6b8c092d, 0xc57312fdbf11350a, 0xfc1dc369967df327, 0xc411bc1ab8fe95ef, 0x9a9b15809a0826a,
    0x3eb77d8b53fd2868, 0x304ba40bd534c1f9, 0xdfa83e8eceb996fa, 0x56424ce3aeaa4895, 0xa86d925e8b58cc2]) := by decide +kernel

theorem tClaim_steps_6 : tSteps 13 0 13 (0x87096a27cb8f9489, [0x82a176ff437ea014, 0xee4f71df249b061e,
    0xed2315b29e3a4773, 0xd83ad3b6b8c092d, 0xc57312fdbf11350a, 0xfc1dc369967df327, 0xc411bc1ab8fe95ef,
    0x9a9b15809a0826a, 0x3eb77d8b53fd2868, 0x304ba40bd534c1f9, 0xdfa83e8eceb996fa, 0x56424ce3aeaa4895,
    0xa86d925e8b58cc2]) = (0xa65959a600000064, [0x0, 0x0, 0x0, 0x3, 0x0, 0x0, 0x0, 0x4, 0x55dcc1b58,
    0x72dd9ff1c234501f, 0x1fefda01f664164e, 0x1583c3e1bb3dbea4, 0x7588ab3100000000]) := by decide +kernel

/-- The key unwrap of the record of `tClaim` under a claim key of zeros. -/
theorem tClaim_steps : unwrapSteps (aesKeys (List.replicate 32 0)) 13 78 (0x2949600e19dcdf9a, [0x5a1e5ddf18323103,
    0x230fec7066a66cd2, 0x3bc754d9dc304865, 0xf696295fec90b011, 0xe6222ee36a013d8c, 0x4d66f7dccc395624,
    0xc0a4560c8e6a98f1, 0x8935afe87e944106, 0x729fec66f4750443, 0xe3a732ecf07241d3, 0x2d4053d7b96c1478,
    0x8516ba47517768ed, 0x854616ef9532f7d2]) = (0xa65959a600000064, [0x0, 0x0, 0x0, 0x3, 0x0, 0x0, 0x0, 0x4,
    0x55dcc1b58, 0x72dd9ff1c234501f, 0x1fefda01f664164e, 0x1583c3e1bb3dbea4, 0x7588ab3100000000]) := by
  rw [show (78 : Nat) = 65 + 13 from rfl, unwrapSteps_tSteps, tClaim_steps_1]
  rw [show (65 : Nat) = 52 + 13 from rfl, unwrapSteps_tSteps, tClaim_steps_2]
  rw [show (52 : Nat) = 39 + 13 from rfl, unwrapSteps_tSteps, tClaim_steps_3]
  rw [show (39 : Nat) = 26 + 13 from rfl, unwrapSteps_tSteps, tClaim_steps_4]
  rw [show (26 : Nat) = 13 + 13 from rfl, unwrapSteps_tSteps, tClaim_steps_5]
  rw [show (13 : Nat) = 0 + 13 from rfl, unwrapSteps_tSteps, tClaim_steps_6]
  rfl
theorem tClaim_unwraps : keyUnwrap (List.replicate 32 0) (nats ((tCmd tClaim []).cmdBytes 88 112)) = some [0, 0, 0, 0,
    0, 0, 0, 0, 0, 0, 0, 0, 0, 0, 0, 0, 0, 0, 0, 0, 0, 0, 0, 0, 0, 0, 0, 0, 0, 0, 0, 3, 0, 0, 0, 0, 0, 0, 0, 0, 0, 0,
    0, 0, 0, 0, 0, 0, 0, 0, 0, 0, 0, 0, 0, 0, 0, 0, 0, 0, 0, 0, 0, 4, 0, 0, 0, 5, 93, 204, 27, 88, 114, 221, 159, 241,
    194, 52, 80, 31, 31, 239, 218, 1, 246, 100, 22, 78, 21, 131, 195, 225, 187, 61, 190, 164, 117, 136, 171, 49] :=
  keyUnwrap_of_steps (by decide +kernel) (by decide +kernel) tClaim_steps (by decide +kernel) (by decide +kernel)

theorem tClaim_record : (tCmd tClaim []).claimRecord = some (3, 4, 5, byts [93, 204, 27, 88, 114, 221, 159, 241, 194, 52, 80, 31, 31, 239, 218, 1, 246, 100, 22, 78, 21, 131, 195, 225, 187, 61, 190, 164, 117, 136, 171, 49]) := by
  have h : (tCmd tClaim []).sec.claimKey = 0 := by decide +kernel
  have h2 : (tCmd tClaim []).cmdNat 84 4 = 112 := by decide +kernel
  simp only [State.claimRecord, h, h2]
  rw [bytesOf_zero_key, tClaim_unwraps]
  decide +kernel

theorem test_claim_is_authentic : (tCmd tClaim []).cmdNat 0 1 = ocClaim ∧ (tCmd tClaim []).cmdRefusal false = none := by
  refine ⟨by decide +kernel, ?_⟩
  unfold State.cmdRefusal
  rw [tClaim_record]
  decide +kernel

theorem test_claim_record_unwraps : ((tCmd tClaim []).claimRecord.map fun r => (r.1, r.2.1, r.2.2.1)) = some (3, 4, 5) ∧
    (tCmd tClaim []).Canon := by
  rw [tClaim_record]
  decide +kernel

/-- An owner command to slot 3 of a gateway owned by slots 0 and 1. -/
def tOwn (cmd slot : Nat) : State :=
  let s := tCmd ([BitVec.ofNat 8 cmd, BitVec.ofNat 8 slot] ++ List.replicate 86 0) [(F.SEC_STATUS_ACTIVE, 0, 3)]
  { s with sec := { s.sec with owners := [(0, 1, []), (1, 1, [])], boot := some (1, 2) } }

theorem test_owner_commands : (tOwn 2 3).cmdRefusal true = none ∧ (tOwn 3 1).cmdRefusal true = none ∧ (tOwn 4 0).cmdRefusal true = none ∧
    (tOwn 2 3).cmdNat 0 1 = ocAddKey ∧ (tOwn 3 1).cmdNat 0 1 = ocRevoke ∧ (tOwn 4 0).cmdNat 0 1 = ocRelease ∧
    (tOwn 2 1).cmdRefusal true = some .refusedBusy ∧
    nx (exec (.addKey true) (tOwn 2 3)) (fun t => t.ownerState 3 = 1 && t.free = 1) = true ∧
    nx (exec (.addKey true) (tOwn 2 1)) (fun t => t.sec = (tOwn 2 1).sec && t.free = 1) = true ∧
    nx (exec (.revokeKey true) (tOwn 3 1)) (fun t => t.ownerState 1 = 2 && t.ownerState 0 = 1) = true ∧
    nx (exec (.release true) (tOwn 4 0)) (fun t => t.sec.owners = [] && t.sec.boot = none && t.ciph.k0 = none) = true := by decide +kernel

theorem test_quote_raise_persist : (tS []).treeSpent = false ∧
    nx (exec .quote (tLive [(F.SEC_LEAVES_NEXT, 0, 5)])) (fun t => t.f F.SEC_STATUS_QUOTE_BUSY = 1 && t.f F.SEC_LEAVES_NEXT = 6 &&
      t.sec.reservedLeaf = 1029 && t.sec.quote.map (fun q => (q.1, q.2.1, q.2.2.length)) = some (0, 5, 152)) = true ∧
    nx (exec .quote { tLive [] with sec := { State.reset.sec with quote := some (0, 5, []) } }) (fun t =>
      t.f F.SEC_CTRL_RESULT = Status.refusedBusy.code) = true ∧
    nx (exec .raise (tLive [(F.IMG_STATUS_VERSION, 0, 9), (F.SEC_ROLLBACK_COUNTER, 0, 6)])) (fun t => t.f F.SEC_ROLLBACK_COUNTER = 9) = true ∧
    nx (exec .persist { tLive [] with img := { State.reset.img with staged := some tFullIm, area := some (tImg 1) } }) (fun t =>
      t.sec.persisting = some tFullIm && t.img.area = none) = true ∧
    nx (exec .persistDone { tLive [] with sec := { State.reset.sec with persisting := some tFullIm } }) (fun t => t.sec.persisting = none &&
      t.img.area = some tFullIm) = true ∧
    nx (exec .idTreeBuilt (tLive [(F.SEC_LEAVES_NEXT, 0, 2 ^ 20)])) (fun t => t.f F.SEC_LEAVES_NEXT_TREE = 1) = true := by decide +kernel

/-- A quote in building. -/
def tQuote : State := { tLive [(F.SEC_STATUS_QUOTE_BUSY, 0, 1)] with sec := { State.reset.sec with quote := some (0, 5, List.replicate 152 1) } }

theorem test_quoteDone_meets_the_hypotheses : tQuote.Canon ∧ tQuote.sec.quote = some (0, 5, List.replicate 152 1) ∧
    (List.replicate 152 (1 : Byte)).length = 152 ∧ (List.replicate 3604 (0 : Byte)).length = 3604 :=
  ⟨by decide +kernel, rfl, List.length_replicate, List.length_replicate⟩

/-- A test of sector 2 in line or begun at time 0, for a reason. -/
def tBist (why set : Nat) (started : Option Nat) (fs : List (Fld × Nat × Nat)) : State :=
  let s := tLive ([(F.PWR_VIN_MV, 0, 48000), (F.ARR_SECn_STATUS_STATE, 2, 5)] ++ fs)
  { s with now := 10 ^ 8, bist := { s.bist with
      runs := [{ sector := 2, set := set, why := why, started := started, stayDark := false, patch := false }], sigs := [(18, 0, 9)] } }

theorem test_bist_starts : (tBist 1 0 none []).mayTest = true ∧
    nx (exec (.bistStart 2) (tBist 1 0 none [])) (fun t => t.f F.BIST_STATUS_TESTING = 4 && t.bist.lastStart = some (10 ^ 8)) = true ∧
    nx (exec (.bistStart 2) (tBist 1 0 none [(F.PWR_VIN_MV, 0, 39000)])) (fun t => t.f F.BIST_STATUS_ONE_AT_A_TIME = 1 && t.bist.lastStart = none) = true ∧
    nx (exec .runNow (tLive [])) (fun t => t.unitDraining 0 && t.bist.cycle = some [2, 4, 6, 1, 3, 5, 7] && t.f F.BIST_CTRL_RESULT = 0) = true ∧
    nx (exec .runNow (tUp [])) (fun t => t.f F.BIST_CTRL_RESULT = Status.refusedBusy.code) = true ∧
    nx (exec .bistPeriod { tLive [(F.BIST_CFG_PERIOD, 0, 1)] with now := 3600 * 10 ^ 9 }) (fun t => t.unitDraining 0 && t.f F.BIST_STATUS_PHASE = 2) = true := by
  decide +kernel

theorem test_bist_ends : (tBist 1 0 (some 0) []).elapsed 0 (bistNs 0) = true ∧ (tBist 4 2 (some 0) []).elapsed 0 (bistNs 2) = true ∧
    nx (exec (.bistEnd 2 5 5 false false) (tBist 1 0 (some 0) [])) (fun t => t.healthy 2 && t.f F.BIST_SECn_MISR_MISR 2 = 5 && t.f F.BIST_RUNS_COUNT = 1 &&
      t.f F.BIST_STATUS_UNUSABLE = 0 && t.bist.runs = []) = true ∧
    nx (exec (.bistEnd 2 5 5 true false) (tBist 1 0 (some 0) [])) (fun t => t.secState 2 = secUnusable && t.f F.BIST_STATUS_UNUSABLE = 4 &&
      t.f F.BIST_FAILS_COUNT = 1 && t.f F.BIST_SECn_LAST_SRAM_FAIL 2 = 1) = true ∧
    nx (exec (.bistEnd 2 9 5 false false) (tBist 4 2 (some 0) [(F.BIST_STATUS_RETIRED, 0, 4)])) (fun t => t.f F.BIST_STATUS_RETIRED = 0 &&
      t.secState 2 = secTwilight && t.f F.BIST_EVENTS_UNRETIRED = 1) = true ∧
    nx (exec (.unretire 2) (tLive [(F.BIST_STATUS_RETIRED, 0, 4)])) (fun t => t.f F.BIST_CTRL_RESULT = 0 && t.bist.runs.map BistRun.set = [2]) = true ∧
    nx (exec (.unretire 2) (tLive [])) (fun t => t.f F.BIST_CTRL_RESULT = Status.refusedBusy.code) = true := by decide +kernel

/-- Capped, with the current calm since time 0. -/
def tCalm : State :=
  { tLive [(F.PWR_VIN_MV, 0, 48000), (F.PWR_STATUS_CURRENT_CAP, 0, 1)] with
    now := 100000, pwr := { State.reset.pwr with porst := false, calmAt := some 0 } }

/-- The input out of range since time 0. -/
def tVinOut : State := { tOn with now := 20000, pwr := { tOn.pwr with outAt := some 0 } }

theorem test_power : nx (exec (.vinChange 39000) (tLive [(F.PWR_VIN_MV, 0, 48000)])) (fun t => t.f F.PWR_VIN_MV = 39000 && t.f F.PWR_EVENTS_UV_WARN = 1 &&
      t.f F.PWR_STATUS_VIN_STATE = 1 && t.f F.PWR_STATUS_ONE_SECTOR = 1 && t.f F.PWR_STATUS_CURRENT_CAP = 1 && t.pwr.outAt = none) = true ∧
    nx (exec (.vinChange 61000) (tLive [(F.PWR_VIN_MV, 0, 48000)])) (fun t => t.f F.PWR_EVENTS_OV_WARN = 1 && t.f F.PWR_STATUS_VIN_STATE = 2) = true ∧
    nx (exec (.vinChange 63000) (tLive [])) (fun t => t.pwr.outAt = some 0) = true ∧
    nx (exec .powerOff tVinOut) (fun t => t.pwr.off && t.f F.PWR_LAST_OFF_CAUSE = 1 &&
      t.sec.owners = [(1, 1, [])]) = true ∧
    nx (exec (.currentSample 30001) (tLive [(F.PWR_VIN_MV, 0, 48000)])) (fun t => t.f F.PWR_VIN_MA = 30001 && t.f F.PWR_PEAK_MA = 30001 &&
      t.f F.PWR_STATUS_CURRENT_CAP = 1 && t.f F.PWR_EVENTS_CURRENT_CAP = 1) = true ∧
    nx (exec .capLift tCalm) (fun t => t.f F.PWR_STATUS_CURRENT_CAP = 0) = true := by decide +kernel

theorem test_heat : nx (exec (.thermalReport 19 (16 * 110)) (tLive [])) (fun t => t.pwr.off && t.f F.PWR_LAST_OFF_CAUSE = 3 && t.f F.PWR_LAST_OFF_DIE = 19) = true ∧
    nx (exec (.thermalReport 0 (16 * 100)) (tLive [])) (fun t => t.f F.PWR_TEMPd_NOW 0 = 1600 && t.f F.PWR_STATUS_THERM_ALERT = 1 &&
      t.f F.PWR_STATUS_THERM_CAP = 1 && !t.pwr.off) = true := by decide +kernel

/-- REFCLK lost at time 0. -/
def tRef (fs : List (Fld × Nat × Nat)) : State :=
  { tLive fs with now := 10 ^ 6, pwr := { State.reset.pwr with porst := false, refLostAt := some 0 } }

theorem test_clocks : nx (exec .refclkLost (tLive [(F.CLK_STATUS_REF_OK, 0, 1), (F.CLK_STATUS_ROOT_LOCK, 0, 1)])) (fun t => t.f F.CLK_STATUS_REF_OK = 0 &&
      t.f F.CLK_STATUS_ROOT_LOCK = 0 && t.f F.CLK_STATUS_HOLD = 1 && t.f F.PWR_REF_LOSSES_COUNT = 1 && t.pwr.refLostAt = some 0) = true ∧
    nx (exec .refclkFreeRun (tRef [(F.CLK_STATUS_HOLD, 0, 1)])) (fun t => t.f F.CLK_STATUS_HOLD = 0 && t.f F.CLK_STATUS_FREE_RUN = 1) = true ∧
    nx (exec .refclkReturn (tRef [])) (fun t => t.f F.CLK_STATUS_REF_OK = 1) = true ∧
    nx (exec .pllRelocked (tRef [(F.CLK_STATUS_REF_OK, 0, 1), (F.CLK_STATUS_HOLD, 0, 1)])) (fun t => t.f F.CLK_STATUS_HOLD = 0 && t.f F.CLK_STATUS_PHY_LOCK = 0xFF &&
      t.f F.PWR_EVENTS_REF_BACK = 1 && t.pwr.refLostAt = none) = true ∧
    nx (exec (.pllUnlock 0) (tLive [(F.CLK_STATUS_REF_OK, 0, 1), (F.CLK_STATUS_ROOT_LOCK, 0, 1)])) (fun t => t.f F.CLK_STATUS_ROOT_LOCK = 0 &&
      t.f F.PWR_EVENTS_PLL_UNLOCK = 1) = true ∧
    nx (exec (.pllUnlock 8) (tLive [(F.CLK_STATUS_REF_OK, 0, 1), (F.CLK_STATUS_PHY_LOCK, 0, 0xFF)])) (fun t => t.f F.CLK_STATUS_PHY_LOCK = 0x7F &&
      t.f F.PWR_EVENTS_PHY_UNLOCK = 1) = true := by decide +kernel

/-! ### The machine as a whole -/

theorem test_reset_column : State.reset.Canon ∧ State.reset.queueWf = true ∧ State.reset.imageActive = false ∧
    State.reset.word (R.GLB_ID.addr 0) = 0x58940010 ∧ State.reset.word (R.SEQ_WATCHDOG.addr 0) = 1000 ∧
    State.reset.word (R.ARR_RAMP.addr 0) = 2000 ∧ State.reset.word (R.PEER_FAULT_CFG.addr 0) = 0x14007800320104 ∧
    State.reset.word (R.LINE_Pp_INTEG.addr 15) = 0x6400196410 ∧ State.reset.word (R.MEM_SCRUB.addr 0) = 24 ∧
    State.reset.word (R.CIPH_CFG.addr 0) = 1000 ∧ State.reset.word (R.HOST_CFG.addr 0) = 0xA000A0000C0A8 ∧
    State.reset.word (R.PWR_THERM.addr 0) = 0x73645F ∧ State.reset.word (R.EVT_SRCs_CFG.addr 1023) = 0x10000 := by decide +kernel

/-- Two commands wait; the first one is carried out and the second stays. -/
theorem test_step_takes_the_front : ({ State.reset with pending := [.discard, .activate] } : State).queueWf = true ∧
    nx (step { State.reset with pending := [.discard, .activate] }) (fun t => t.pending = [.activate]) = true ∧
    nx (step State.reset) (fun t => t.now = 1) = true ∧ (∀ n, decodeTableWord n 0 = none) :=
  ⟨by decide +kernel, by decide +kernel, by decide +kernel, fun _ => rfl⟩

/-- A MOVE from beyond tier S (the reset capacity of no tier reaches there) stops; a command that moves nothing does not. -/
def tAway : State := tIn (tS []) [tItem (tRow opMove (tSrc (tD 0 (2 ^ 30) 1) + tDst (tD 0 0 1)))]

theorem test_only_moves_stop : Instr.discard.moves = false ∧ (State.reset.pending.any Instr.moves) = false ∧
    (match exec (.move 7 fx0) tAway with | .fault (.outsideTier _ _) => true | _ => false) = true := by decide +kernel

theorem test_footprints : (Instr.armStep.writes.any fun rs => decide (R.SEQ_SWAP ∈ rs) && decide (R.SEC_ROLLBACK ∉ rs)) = true ∧
    (Instr.armStep.touches.any fun ps => decide (Part.memCells ∉ ps) && decide (Part.seqItems ∉ ps)) = true ∧
    R.SEQ_SWAP.spans 0x100010 ∧ ¬ R.SEQ_SWAP.spans 0x100018 :=
  ⟨by decide +kernel, by decide +kernel, ⟨0, by decide, by decide, by decide⟩, fun ⟨k, hk, h1, h2⟩ => by
    have : k = 0 := by simp [R.SEQ_SWAP] at hk; omega
    subst this
    simp [R.SEQ_SWAP, Reg.addr] at h2⟩

theorem test_arm_refused_without_image : State.reset.imageActive = false ∧
    nx (exec .armIdle State.reset) (fun t => t.f F.SEQ_SWAP_RESULT = 0x24 && t.seq.swap = none && t.word (R.SEQ_FIT.addr 0) = 0) = true := by
  decide +kernel

theorem test_tokens_cleared : ((tStaged true).setf F.SEQ_TOKEN_COUNT 8 4095).Canon ∧
    nx (exec (.imageActivation [] false) ((tStaged true).setf F.SEQ_TOKEN_COUNT 8 4095)) (fun t => t.token 4095 = 0) = true ∧
    nx (exec (.loadVerify true tBody [] false [] none) (tAreaS.setf F.SEQ_TOKEN_COUNT 8 0)) (fun t => t.token 0 = 0) = true := by
  decide +kernel

/-- The counter stands at 6; the active image's version is 9, then 3; a reset keeps it. -/
theorem test_rollback_counter :
    nx (exec .raise (tLive [(F.IMG_STATUS_VERSION, 0, 9), (F.SEC_ROLLBACK_COUNTER, 0, 6)])) (fun t => t.f F.SEC_ROLLBACK_COUNTER = 9) = true ∧
    nx (exec .raise (tLive [(F.IMG_STATUS_VERSION, 0, 3), (F.SEC_ROLLBACK_COUNTER, 0, 6)])) (fun t => t.f F.SEC_ROLLBACK_COUNTER = 6 &&
      t.f F.SEC_CTRL_RESULT = 0) = true ∧
    nx (exec .raise (tS [(F.SEC_ROLLBACK_COUNTER, 0, 6)])) (fun t => t.f F.SEC_CTRL_RESULT = 0x24) = true ∧
    nx (exec .porstNAssert (tS [(F.SEC_ROLLBACK_COUNTER, 0, 6), (F.SEC_DEVICE_DEVICE, 0, 77)])) (fun t => t.f F.SEC_ROLLBACK_COUNTER = 6 &&
      t.f F.SEC_DEVICE_DEVICE = 77) = true := by decide +kernel

end Sys2Proof.Tests
end

section
/-! The token counters and the register file: one rule per fact that the statements of the Almanac family rest on. -/

namespace Sys2Proof.Machine

/-! ### Writes and the canonical forms -/

/-- A field written changes no word outside its register. -/
theorem State.setf_regsBut {s : State} (hs : s.Canon) (x : Fld) (v k : Nat) {r : Reg} (hk : k < r.n1 * r.n2)
    (hr : r.addr k = x.addr k) : RegsBut [r] s (s.setf x v k) := by
  intro a ha
  have hne : a ≠ x.addr k := by
    rintro rfl
    exact ha r (by simp) ⟨k, hk, by omega, by omega⟩
  unfold State.setf State.word regSetFld
  split
  · exact tget_tset_ne hs.1 hne _
  · rfl

/-- A fold of operations whose changes are known keeps the canonical forms. -/
theorem State.canon_foldl {α : Type} {B P : Nat} {f : State → α → State} (l : List α) {s : State} (hs : s.Canon)
    (h : ∀ u x, Only B P u (f u x)) : (l.foldl f s).Canon :=
  (Only.foldl (Only.refl B P s) fun u x hu => hu.trans (h u x)).canon hs

/-! ### Token counters at zero -/

/-- The canonical forms hold and every token counter is zero (R72). -/
def State.TokensClear (s : State) : Prop := s.Canon ∧ ∀ i, i < 4096 → s.token i = 0

/-- The mask of the registers 0 to 367 without number 21, that of the token counters: 2 ^ 368 - 1 - 2 ^ 21. -/
def allButTokens : Nat :=
  601226901190101306339707032778070279008174732520529886901066488712245510429339761526706943586500787976173256703

theorem clearOf_allButTokens : clearOf allButTokens F.SEQ_TOKEN_COUNT.shape = true := by decide +kernel

/-- In the sequencer's block only registers outside the token counters have a reset value other than zero. -/
theorem regBlock_sequencer_rst : ∀ r ∈ regBlock 1, 0 < r.s1 ∧ (r.rst = 0 ∨ r.base + r.n1 * r.s1 ≤ 0x120000 ∨ 0x128000 ≤ r.base) := by
  decide

theorem Reg.covers_range {r : Reg} {a : Nat} (h : r.covers a = true) (hs : 0 < r.s1) :
    r.base ≤ a ∧ a < r.base + r.n1 * r.s1 := by
  simp only [Reg.covers, Bool.and_eq_true, decide_eq_true_eq] at h
  obtain ⟨hb, ⟨hn, -⟩, -⟩ := h
  have := (Nat.div_lt_iff_lt_mul hs).1 hn
  omega

theorem resetWord_token {i : Nat} (hi : i < 4096) : resetWord (F.SEQ_TOKEN_COUNT.addr i) = 0 := by
  have ha : F.SEQ_TOKEN_COUNT.addr i = 0x120000 + 8 * i := by simp [Fld.addr, F.SEQ_TOKEN_COUNT]; omega
  have hb : (0x120000 + 8 * i) / 0x100000 = 1 := by omega
  unfold resetWord regAt
  rw [ha, hb]
  split
  next r hr =>
    obtain ⟨hs, hrst⟩ := regBlock_sequencer_rst r (List.mem_of_find?_eq_some hr)
    have hc : r.covers (0x120000 + 8 * i) = true := by simpa using List.find?_some hr
    obtain ⟨hlo, hhi⟩ := Reg.covers_range hc hs
    have h0 : r.rst = 0 := by omega
    rw [h0]
    rfl
  next => rfl

theorem tfind_filter_none {α : Type} {p : Nat × α → Bool} {k : Nat} (hp : ∀ v, p (k, v) = false) (t : Tab α) :
    tfind k (t.filter p) = none := by
  induction t with
  | nil => rfl
  | cons x t ih =>
    rw [List.filter_cons]
    split
    next hx =>
      rw [tfind, if_neg (by rintro rfl; simp [hp x.2] at hx)]
      exact ih
    next => exact ih

theorem State.token_clearTokens (s : State) {i : Nat} (hi : i < 4096) : s.clearTokens.token i = 0 := by
  have ha : F.SEQ_TOKEN_COUNT.addr i = 0x120000 + 8 * i := by simp [Fld.addr, F.SEQ_TOKEN_COUNT]; omega
  have hw : s.clearTokens.word (F.SEQ_TOKEN_COUNT.addr i) = 0 := by
    unfold State.clearTokens State.word regGet tget
    rw [tfind_filter_none (fun v => by simp [ha]; omega)]
    exact resetWord_token hi
  unfold State.token State.f regFld
  unfold State.word at hw
  simp [hw]

theorem State.clearTokens_tokensClear {s : State} (hs : s.Canon) : s.clearTokens.TokensClear :=
  ⟨(State.clearTokens_only s).canon hs, fun _ hi => s.token_clearTokens hi⟩

/-- An operation that writes no token counter leaves them at zero. -/
theorem State.TokensClear.step {B P : Nat} {s t : State} (hs : s.TokensClear) (h : Only B P s t)
    (hB : B ||| allButTokens = allButTokens := by decide) : t.TokensClear := by
  refine ⟨h.canon hs.1, fun i hi => ?_⟩
  have hf : t.f F.SEQ_TOKEN_COUNT i = s.f F.SEQ_TOKEN_COUNT i :=
    ((Only.refl allButTokens P s).step h hB (Nat.or_self P)).f_eq hs.1 F.SEQ_TOKEN_COUNT i
      (by simpa [Fld.has, F.SEQ_TOKEN_COUNT] using hi) clearOf_allButTokens (by decide)
  exact hf.trans (hs.2 i hi)

theorem State.TokensClear.setf {s : State} (hs : s.TokensClear) (x : Fld) (v k : Nat)
    (hx : x.within allButTokens = true := by decide) : (s.setf x v k).TokensClear :=
  hs.step (State.setf_only (P := 0) s x v k hx) (Nat.or_self _)

theorem State.TokensClear.event {s : State} (hs : s.TokensClear) (x : Fld) (k : Nat)
    (hx : x.within allButTokens = true := by decide) : (s.event x k).TokensClear := hs.setf x 1 k hx

theorem State.TokensClear.eventIf {s : State} (hs : s.TokensClear) (b : Bool) (x : Fld) (k : Nat)
    (hx : x.within allButTokens = true := by decide) : (s.eventIf b x k).TokensClear := by
  cases b with
  | true => exact hs.event x k hx
  | false => exact hs

theorem State.TokensClear.foldl {α : Type} {f : State → α → State} (l : List α) {s : State} (hs : s.TokensClear)
    (h : ∀ u x, u.TokensClear → (f u x).TokensClear) : (l.foldl f s).TokensClear := by
  induction l generalizing s with
  | nil => exact hs
  | cons x l ih => exact ih (h s x hs)

/-- Between the setting to zero and its end a swap writes no token counter. -/
theorem State.doSwap_tokensClear {s : State} (hs : s.Canon) (step : Nat) : (s.doSwap step).TokensClear := by
  unfold State.doSwap
  extract_lets seq1 cst1 s1 s2 s3
  have h2 : s2.Canon := State.canon_setf (State.canon_setf (State.canon_setf hs _ _ _) _ _ _) _ _ _
  have h3 : s3.Canon := State.canon_foldl (B := allButTokens) (P := 0) _ h2 fun u n =>
    (((State.setf_only u _ _ _).trans (State.setf_only _ _ _ _)).trans (State.setf_only _ _ _ _)).trans
      (State.setf_only _ _ _ _)
  have h4 := (State.clearTokens_tokensClear h3).step (State.startTracks_only _ step)
  have h5 := ((h4.setf F.SEQ_SWAP_STATE 2 0).setf F.SEQ_STATUS_SWAP_ARMED 0 0).event F.SEQ_EVENTS_SWAPPED 0
  exact h5.step (State.commitView_only _)

theorem State.stepSwap_tokensClear {s : State} (hs : s.Canon) : s.stepSwap.TokensClear := State.doSwap_tokensClear hs _

theorem State.idleSwap_tokensClear {s : State} (hs : s.Canon) : s.idleSwap.TokensClear :=
  State.doSwap_tokensClear ((State.syncMeridian_only _).canon ((State.abandonWork_only s).canon hs)) _

theorem State.freshEngines_tokensClear {s : State} (hs : s.Canon) (im : Image) : (s.freshEngines im).TokensClear := by
  unfold State.freshEngines
  refine State.TokensClear.setf (State.clearTokens_tokensClear ?_) _ _ _
  exact hs

/-- Everything that follows the fresh engines in an activation leaves the token counters alone. -/
theorem State.activate_tokensClear {s : State} (hs : s.Canon) (im : Image) (cxl : List Nat) (rejected : Bool) :
    (s.activate im cxl rejected).TokensClear := by
  unfold State.activate
  extract_lets wasReserve n s0 s1 s2 adopting peer3 img3 s3 s4 s5 s6 s7 s8
  have h0 : s0.Canon := (State.timeRouteDown_only ..).canon ((State.timeRouteDown_only ..).canon
    ((State.cancelSwap_only s).canon hs))
  have h1 : s1.Canon := State.canon_foldl (B := allButTokens) _ h0 fun u _ =>
    (State.count_only u _ _ _).step (State.completion_only ..) (by decide) (Nat.or_self _)
  have h2 : s2.TokensClear := (State.freshEngines_tokensClear ((State.placed_only s1 im cxl).canon h1) im).setf _ _ _
  -- The update that follows writes no register, which is read off the record once s2 is opaque.
  clear_value s2
  have h3 : s3.TokensClear := h2
  have h4 : s4.TokensClear := (h3.step (State.unitsBack_only _)).step (State.startCst_only _ adopting)
  have h5 : s5.TokensClear := (h4.step (State.showImage_only _ im)).event _ _
  have h6 : s6.TokensClear := ((h5.setf _ _ _).eventIf _ _ _).step (State.startCxl_only _)
  have hr : (if adopting then s6.freshResiduals else s6).TokensClear := by
    split
    · exact h6.step (State.freshResiduals_only _)
    · exact h6
  have h7 : s7.TokensClear := (((hr.step (State.applyRecords_only _)).step (State.startLasers_only _)).step
    (State.askQuickCal_only _)).step (State.openSessionsAnew_only _)
  have h8 : s8.TokensClear := ((((h7.step (State.startTracks_only _ _)).step (State.syncMeridian_only _)).step
    (State.syncAdhoc_only _)).step (State.syncPools_only _ _)).step (State.syncCache_only _)
  have h9 := (((h8.step (State.hostInEffect_only _)).step (State.syncChannels_only _)).step (State.raiseFloor_only _)).step
    (State.driveTx_only _ s)
  have h10 : ((List.range 16).foldl State.syncTim (s8.hostInEffect.syncChannels.raiseFloor.driveTx s)).TokensClear :=
    h9.foldl _ fun _ _ hu => hu.step (State.syncTim_only ..)
  exact h10.step (State.commitView_only _)

/-! ### The image of the boot area -/

theorem State.takeFull_of_inactive {s : State} (h : s.imageActive = false) (im : Image) (cxl : List Nat) (rejected : Bool) :
    s.takeFull im cxl rejected = ((s.activate im cxl rejected).setf F.GLB_STATUS_STAGE 8).endLoad .done [] false := by
  simp [State.takeFull, h]

theorem State.imageActive_fitReport {s : State} (hs : s.Canon) (st : Status) (es : List FitEntry) :
    (s.fitReport st es).imageActive = s.imageActive := by
  unfold State.imageActive
  rw [(State.fitReport_only s st es).f_eq hs F.IMG_STATUS_ACTIVE 0]

theorem firstFailing_single_done (pos : Nat) (es : List FitEntry) : firstFailing [⟨pos, .done, es⟩] = none := by
  simp [firstFailing]

/-- A single gateway's image that passes the fit check is taken (R669, R690). -/
theorem State.verifyImage_of_fits {s : State} {im : Image} {cxl : List Nat} (h : (s.fitImage im cxl).1 = .done)
    (rejected : Bool) : s.verifyImage im cxl rejected [] = (s.fitReport .done []).takeImage im cxl rejected := by
  unfold State.verifyImage
  dsimp only
  rw [h, firstFailing_single_done]

theorem State.verifyArea_of_valid {s : State} {im : Image} (hown : s.bit F.SEC_STATUS_ACTIVE im.owner = true)
    (hver : s.f F.SEC_ROLLBACK_COUNTER ≤ im.version) (cxl : List Nat) (rejected : Bool) :
    s.verifyArea im true cxl rejected = s.verifyImage im cxl rejected [] := by
  simp [State.verifyArea, hown, Nat.not_lt.2 hver]

/-- A fitting FULL image of the boot area is activated at once, and no token counter is written after that. -/
theorem State.verifyArea_tokensClear {s : State} {im : Image} {cxl : List Nat} (hs : s.Canon) (hin : s.imageActive = false)
    (hown : s.bit F.SEC_STATUS_ACTIVE im.owner = true) (hver : s.f F.SEC_ROLLBACK_COUNTER ≤ im.version)
    (hfit : (s.fitImage im cxl).1 = .done) (hkind : im.kind = imFull) (rejected : Bool) :
    (s.verifyArea im true cxl rejected).TokensClear := by
  rw [State.verifyArea_of_valid hown hver, State.verifyImage_of_fits hfit, State.takeImage, if_pos hkind,
    State.takeFull_of_inactive ((State.imageActive_fitReport hs _ _).trans hin)]
  have ha := State.activate_tokensClear ((State.fitReport_only s .done []).canon hs) im cxl rejected
  exact (ha.setf _ _ _).step (State.endLoad_only ..)

/-! ### Arming -/

/-- An arming that meets an armed swap or no active image ends before the fit check (R98). -/
theorem State.arm_refused {s : State} (h : s.seq.swap ≠ none ∨ s.imageActive = false) (k : SwapKind) :
    s.arm k = (.refusedBusy, s.setf F.SEQ_SWAP_RESULT Status.refusedBusy.code) := by
  have hc : (s.seq.swap.isSome || !s.imageActive) = true := by
    obtain h | h := h
    · simp [Option.isSome_iff_ne_none.2 h]
    · simp [h]
  simp [State.arm, hc]

theorem exec_arm_refused {s : State} {c : Instr} (hc : c = .armStep ∨ c = .armIdle)
    (h : s.seq.swap ≠ none ∨ s.imageActive = false) :
    exec c s = .next (s.setf F.SEQ_SWAP_RESULT Status.refusedBusy.code) := by
  obtain rfl | rfl := hc
  · exact congrArg (fun r => Host.Outcome.next r.2) (State.arm_refused h .step)
  · exact congrArg (fun r => Host.Outcome.next r.2) (State.arm_refused h .idle)

end Sys2Proof.Machine
end

section
/-! The statements of the Almanac family. -/

namespace Sys2Proof.Proofs

open Sys2Proof Sys2Proof.Machine

/-- Settles O7: a refused arming writes RESULT of SEQ_SWAP and nothing else. -/
theorem armingIsRefusedWhileArmedOrWithoutImage : Obligations.ArmingIsRefusedWhileArmedOrWithoutImage := by
  intro s c hs hc h
  rw [exec_arm_refused hc h]
  refine ⟨?_, State.seq_setf .., State.setf_regsBut hs _ _ _ (by decide) rfl, ?_⟩
  · exact State.f_setf_same hs F.SEQ_SWAP_RESULT _ 0
  · exact State.f_setf_ne hs F.SEQ_SWAP_RESULT F.SEQ_SWAP_STATE _ 0 0 (by decide) (by decide)

/-- Settles O8: each of the four commands sets the counters to zero, and what it does after that writes none of them. -/
theorem tokensAreClearedByActivationAndSwap : Obligations.TokensAreClearedByActivationAndSwap := by
  refine ⟨fun s hs hdue => ?_, fun s hs hdue => ?_, fun s cxl rej im hs hst hact hitems => ?_,
    fun s body cxl rej im hs hload harea hstage hin hown hitems hver _ hfit hkind => ?_⟩
  · have he : exec .swapStep s = .next s.stepSwap := congrArg Host.Outcome.next (if_pos hdue)
    rw [he]
    exact (State.stepSwap_tokensClear hs).2
  · have he : exec .swapIdle s = .next s.idleSwap := congrArg Host.Outcome.next (if_pos hdue)
    rw [he]
    exact (State.idleSwap_tokensClear hs).2
  · have he : exec (.imageActivation cxl rej) s = .next (s.activate im cxl rej).dropStaging := by
      change execImageActivation cxl rej s = _
      simp [execImageActivation, hst, hact, hitems]
    rw [he]
    exact ((State.activate_tokensClear hs im cxl rej).step (State.dropStaging_only _)).2
  · have he : exec (.loadVerify true body cxl rej [] none) s = .next (s.verifyArea im true cxl rej) := by
      change execLoadVerify true body cxl rej [] none s = _
      simp [execLoadVerify, hload, harea, hstage, hin]
    rw [he]
    exact (State.verifyArea_tokensClear hs hin hown hver hfit hkind rej).2

end Sys2Proof.Proofs
end

section
/-! The anti-rollback counter: what an operation does to it, and the operations that may write the word it lies in. -/

-- One theorem at a time: elaborated side by side, each takes a thread of its own while it waits.
set_option Elab.async false

namespace Sys2Proof.Machine

/-! ### The counter as a part of its register's word -/

/-- The address of SEC_ROLLBACK. -/
def counterAddr : Nat := 0x1200010

/-- The anti-rollback counter in a word of SEC_ROLLBACK. -/
def counterOf (w : Word) : Nat := w.toNat % 2 ^ 32

theorem State.counter_eq (s : State) : s.f F.SEC_ROLLBACK_COUNTER = counterOf (s.word counterAddr) := by
  unfold State.f regFld counterOf State.word
  rw [show F.SEC_ROLLBACK_COUNTER.addr 0 = counterAddr by decide, show F.SEC_ROLLBACK_COUNTER.lo = 0 from rfl,
    Nat.pow_zero, Nat.div_one]
  rfl

theorem regAt_counterAddr : regAt counterAddr = some R.SEC_ROLLBACK := by decide

/-- No field of SEC_ROLLBACK is taken where the counter is not. -/
theorem rollback_fields_filter {p : Fld → Bool} (hp : p F.SEC_ROLLBACK_COUNTER = false) :
    R.SEC_ROLLBACK.fields.filter p = [] := by
  simp [R.SEC_ROLLBACK, hp]

theorem takeFields_singleton (x : Fld) (w v : Nat) : takeFields [x] w v = putBits w x.lo x.w (v / 2 ^ x.lo) := rfl

/-- The counter alone taken from a word is the whole counter. -/
theorem counterOf_takeFields (w v : Word) :
    counterOf (BitVec.ofNat 64 (takeFields [F.SEC_ROLLBACK_COUNTER] w.toNat v.toNat)) = counterOf v := by
  have hlt : putBits w.toNat 0 32 v.toNat < 2 ^ 64 := putBits_lt _ _ _ _ w.isLt (by decide)
  have hf : putBits w.toNat 0 32 v.toNat % 2 ^ 32 = v.toNat % 2 ^ 32 := by
    simpa only [Nat.pow_zero, Nat.div_one] using field_putBits_same w.toNat 0 32 v.toNat
  unfold counterOf
  rw [takeFields_singleton, show F.SEC_ROLLBACK_COUNTER.lo = 0 from rfl, show F.SEC_ROLLBACK_COUNTER.w = 32 from rfl,
    Nat.pow_zero, Nat.div_one, BitVec.toNat_ofNat, Nat.mod_eq_of_lt hlt, hf]

/-! ### Operations that do not lower the counter -/

/-- An operation took `s` to `t`: it keeps the canonical forms, and the anti-rollback counter has not fallen (R707). -/
structure Climbs (s t : State) : Prop where
  canon : s.Canon → t.Canon
  le : s.Canon → s.f F.SEC_ROLLBACK_COUNTER ≤ t.f F.SEC_ROLLBACK_COUNTER

/-- The mask of the registers 0 to 367 without number 328, SEC_ROLLBACK: 2 ^ 368 - 1 - 2 ^ 328. -/
def allButRollback : Nat :=
  601226901189554493658511279796977153451395327179191594543343185603139067777737273276907099605694909681919590399

theorem clearOf_allButRollback : clearOf allButRollback F.SEC_ROLLBACK_COUNTER.shape = true := by decide +kernel

theorem Climbs.refl (s : State) : Climbs s s := ⟨id, fun _ => Nat.le_refl _⟩

theorem Climbs.trans {s t u : State} (h : Climbs s t) (g : Climbs t u) : Climbs s u :=
  ⟨fun hs => g.canon (h.canon hs), fun hs => (h.le hs).trans (g.le (h.canon hs))⟩

/-- An operation that does not touch SEC_ROLLBACK leaves the counter as it is. -/
theorem Only.climbs {B P : Nat} {s t : State} (h : Only B P s t)
    (hB : B ||| allButRollback = allButRollback := by decide) : Climbs s t where
  canon := h.canon
  le hs := (((Only.refl allButRollback P s).step h hB (Nat.or_self P)).f_eq hs F.SEC_ROLLBACK_COUNTER 0 (by decide)
    clearOf_allButRollback (by decide)).ge

theorem Climbs.step {B P : Nat} {s t u : State} (h : Climbs s t) (g : Only B P t u)
    (hB : B ||| allButRollback = allButRollback := by decide) : Climbs s u := h.trans (g.climbs hB)

/-- A change of parts beside the register file and the memory's cells. -/
theorem Climbs.parts {s t u : State} (h : Climbs s t) (hr : u.regs = t.regs := by rfl)
    (hm : u.mem.cells = t.mem.cells := by rfl) : Climbs s u where
  canon hs := ⟨hr ▸ (h.canon hs).1, hm ▸ (h.canon hs).2⟩
  le hs := (h.le hs).trans_eq (by unfold State.f; rw [hr])

theorem Climbs.setf {s t : State} (h : Climbs s t) (x : Fld) (v k : Nat) (hx : x.within allButRollback = true := by decide) :
    Climbs s (t.setf x v k) := h.step (State.setf_only (P := 0) t x v k hx) (Nat.or_self _)

theorem Climbs.event {s t : State} (h : Climbs s t) (x : Fld) (k : Nat) (hx : x.within allButRollback = true := by decide) :
    Climbs s (t.event x k) := h.setf x 1 k hx

theorem Climbs.ite {s t u : State} {c : Prop} [Decidable c] (h : Climbs s t) (g : Climbs s u) :
    Climbs s (if c then t else u) := by split <;> assumption

theorem Climbs.iteSnd {α : Type} {s : State} {t u : α × State} {c : Prop} [Decidable c] (h : Climbs s t.2)
    (g : Climbs s u.2) : Climbs s (if c then t else u).2 := by split <;> assumption

theorem Climbs.eventIf {s t : State} (h : Climbs s t) (b : Bool) (x : Fld) (k : Nat)
    (hx : x.within allButRollback = true := by decide) : Climbs s (t.eventIf b x k) := (h.event x k hx).ite h

theorem Climbs.foldl {α : Type} {f : State → α → State} (l : List α) {s t : State} (ht : Climbs s t)
    (h : ∀ u x, Climbs u (f u x)) : Climbs s (l.foldl f t) := by
  induction l generalizing t with
  | nil => exact ht
  | cons x l ih => exact ih (ht.trans (h t x))

/-- A word written changes the counter only at its own address. -/
theorem State.setWord_climbs (s : State) {a : Nat} {v : Word} (h : a = counterAddr → v = s.word counterAddr) :
    Climbs s (s.setWord a v) where
  canon hs := State.canon_setWord hs a v
  le hs := by
    rw [State.counter_eq, State.counter_eq, State.word_setWord hs]
    split
    next ha => rw [h ha.symm]
    next => exact Nat.le_refl _

/-- A command that ends in a next state does not lower the counter. -/
theorem Keeps.climbs {B P : Nat} {s : State} {o : Host.Outcome State Fault Refusal} (h : Keeps o (Only B P s))
    (hB : B ||| allButRollback = allButRollback := by decide) : Keeps o (Climbs s) := by
  cases o with
  | next t => exact Only.climbs h hB
  | fault r => trivial
  | refused r => trivial

theorem Climbs.keeps {s t : State} {o : Host.Outcome State Fault Refusal} (h : Climbs s t) (g : Keeps o (Climbs t)) :
    Keeps o (Climbs s) := by
  cases o with
  | next u => exact h.trans g
  | fault r => trivial
  | refused r => trivial

theorem Keeps.counter_le {s : State} {o : Host.Outcome State Fault Refusal} (h : Keeps o (Climbs s)) (hs : s.Canon) :
    Keeps o fun t => s.f F.SEC_ROLLBACK_COUNTER ≤ t.f F.SEC_ROLLBACK_COUNTER := by
  cases o with
  | next t => exact Climbs.le h hs
  | fault r => trivial
  | refused r => trivial

/-! ### Register files rebuilt word by word -/

/-- A file that is built entry by entry from a canonical one shows at an address what its entry there gave. -/
theorem counterOf_foldl {step : Tab Word → Nat × Word → Tab Word}
    (hwf : ∀ a kv, tabWf resetWord a = true → tabWf resetWord (step a kv) = true)
    (hat : ∀ a v, tabWf resetWord a = true → counterOf (regGet (step a (counterAddr, v)) counterAddr) = counterOf v)
    (hne : ∀ a kv, tabWf resetWord a = true → kv.1 ≠ counterAddr → regGet (step a kv) counterAddr = regGet a counterAddr)
    (t : Tab Word) {a : Tab Word} (ht : tabWf resetWord t = true) (ha : tabWf resetWord a = true) :
    counterOf (regGet (t.foldl step a) counterAddr) = counterOf ((tfind counterAddr t).getD (regGet a counterAddr)) := by
  induction t generalizing a with
  | nil => rfl
  | cons kv t ih =>
    obtain ⟨k, v⟩ := kv
    rw [List.foldl_cons, ih (tabWf_tail ht) (hwf a _ ha), tfind]
    split
    next hk =>
      subst hk
      rw [tfind_none_of_above (tabWf_above ht)]
      exact hat a v ha
    next hk => rw [hne a _ ha hk]

/-- A reset of a register file keeps the counter's entry where it leaves the counter out (R663). -/
theorem counterOf_regsReset {p : Fld → Bool} (hp : p F.SEC_ROLLBACK_COUNTER = false) {t : Tab Word}
    (ht : tabWf resetWord t = true) :
    counterOf (regGet (regsReset p t) counterAddr) = counterOf (regGet t counterAddr) := by
  refine counterOf_foldl (fun a kv ha => ?_) (fun a v ha => ?_) (fun a kv ha hk => ?_) t ht rfl
  · split
    · exact tabWf_tset ha
    · exact ha
  · rw [regAt_counterAddr]
    dsimp only
    rw [rollback_fields_filter hp]
    unfold regGet
    rw [tget_tset_same ha]
    simp [takeFields]
  · split
    · exact tget_tset_ne ha (Ne.symm hk) _
    · rfl

/-- A register file of which some fields are kept, the counter among them, keeps the counter (R741). -/
theorem counterOf_regsKept {p : Fld → Bool} (hp : p F.SEC_ROLLBACK_COUNTER = true) {t : Tab Word}
    (ht : tabWf resetWord t = true) :
    counterOf (regGet (regsKept p t) counterAddr) = counterOf (regGet t counterAddr) := by
  refine counterOf_foldl (fun a kv ha => ?_) (fun a v ha => ?_) (fun a kv ha hk => ?_) t ht rfl
  · split
    · exact tabWf_tset ha
    · exact ha
  · rw [regAt_counterAddr]
    dsimp only
    rw [show R.SEC_ROLLBACK.fields.filter p = [F.SEC_ROLLBACK_COUNTER] by simp [R.SEC_ROLLBACK, hp]]
    unfold regGet
    rw [tget_tset_same ha]
    exact counterOf_takeFields 0 v
  · split
    · exact tget_tset_ne ha (Ne.symm hk) _
    · rfl

/-- An image's words leave SEC_ROLLBACK alone: no image sets the counter (R662). -/
theorem regGet_regsLoad_counterAddr (ws : List (Nat × Word)) {t : Tab Word} (ht : tabWf resetWord t = true) :
    regGet (regsLoad t ws) counterAddr = regGet t counterAddr := by
  unfold regsLoad
  induction ws generalizing t with
  | nil => rfl
  | cons kv ws ih =>
    rw [List.foldl_cons]
    split
    next r hr =>
      rw [ih (tabWf_tset ht)]
      unfold regGet
      by_cases hk : kv.1 = counterAddr
      · obtain rfl : R.SEC_ROLLBACK = r := by simpa [hk, regAt_counterAddr] using hr
        rw [hk, tget_tset_same ht, rollback_fields_filter (by decide)]
        simp [takeFields]
      · exact tget_tset_ne ht (Ne.symm hk) _
    next => exact ih ht

end Sys2Proof.Machine
end

section
/-! The operations that may write SEC_ROLLBACK's word do not lower the counter: RAISE, host writes and reads, images, resets. -/

-- One theorem at a time: elaborated side by side, each takes a thread of its own while it waits.
set_option Elab.async false

namespace Sys2Proof.Machine

/-! ### RAISE -/

theorem State.counter_setf {s : State} (hs : s.Canon) (v : Nat) :
    (s.setf F.SEC_ROLLBACK_COUNTER v).f F.SEC_ROLLBACK_COUNTER = v % 2 ^ 32 :=
  State.f_setf_same hs F.SEC_ROLLBACK_COUNTER v 0

/-- The active image's version fits the counter (R707). -/
theorem State.version_mod (s : State) : s.f F.IMG_STATUS_VERSION % 2 ^ 32 = s.f F.IMG_STATUS_VERSION :=
  Nat.mod_eq_of_lt (State.f_lt s F.IMG_STATUS_VERSION 0)

theorem State.raise_climbs (s : State) : Climbs s s.raise.2 := by
  unfold State.raise
  refine Climbs.iteSnd (.refl s) (Climbs.setf (?_ : Climbs s (if _ then _ else _)) _ _ _)
  split
  next hlt =>
    refine ⟨fun hs => State.canon_setf hs _ _ _, fun hs => ?_⟩
    rw [State.counter_setf hs, State.version_mod]
    exact hlt.le
  next => exact .refl s

theorem State.secResult_climbs {s : State} {r : Status × State} (h : Climbs s r.2) : Climbs s (State.secResult r) :=
  h.ite (h.setf _ _ _)

/-! ### Words that the host writes (R18) -/

/-- A word written to a register's own fields: SEC_ROLLBACK has none that a write takes. -/
theorem State.setWord_takeFields_climbs (s : State) {r : Reg} {a : Nat} (ha : regAt a = some r) {p : Access → Bool}
    (hp : p .ro = false) (v : Nat) :
    Climbs s (s.setWord a (BitVec.ofNat 64 (takeFields (r.acc p) (s.word a).toNat v))) := by
  refine s.setWord_climbs fun h => ?_
  subst h
  obtain rfl : R.SEC_ROLLBACK = r := by simpa [regAt_counterAddr] using ha
  have hnone : R.SEC_ROLLBACK.acc p = [] := rollback_fields_filter hp
  simp [hnone, takeFields]

theorem State.putRw_climbs (s : State) {r : Reg} {a : Nat} (ha : regAt a = some r) (v : Word) : Climbs s (s.putRw r a v) :=
  s.setWord_takeFields_climbs ha (by decide) _

theorem State.clearBits_climbs (s : State) {r : Reg} {a : Nat} (ha : regAt a = some r) (v : Word) :
    Climbs s (s.clearBits r a v) :=
  s.setWord_takeFields_climbs ha (by decide) _

/-- SEC_CTRL: RAISE is the one command that changes the counter. -/
theorem State.writeSec_climbs (s : State) (cmd : Nat) : Climbs s (s.writeSec cmd) := by
  unfold State.writeSec
  exact .ite ((State.fresh_only s).climbs.step (State.execute_only ..))
    (.ite (State.secResult_climbs (State.startQuote_only s).climbs)
      (.ite (State.secResult_climbs s.raise_climbs)
        (.ite (State.secResult_climbs (State.persist_only s).climbs) (.refl s))))

/-- What follows a write of a register's fields: SEC_CTRL apart, no register that acts touches the counter. -/
theorem State.afterWrite_climbs {s old : State} (h : Climbs old s) (b k v : Nat) :
    Climbs old (s.afterWrite old b k v).2 := by
  unfold State.afterWrite
  extract_lets f
  refine .iteSnd (h.step (State.writeSwap_only ..)) ?_
  refine .iteSnd (h.step (State.writeTrack_only ..)) ?_
  refine .iteSnd (.ite (h.step (State.askQuickCal_only ..)) (.ite (h.step (State.askFullCal_only ..)) h)) ?_
  refine .iteSnd (State.writeSessCtrl_only ..).climbs ?_
  refine .iteSnd (h.step (State.afterPortCfg_only ..)) ?_
  refine .iteSnd (h.step (State.syncTim_only ..)) ?_
  refine .iteSnd (.ite (h.step (State.calFull_only ..)) h) ?_
  refine .iteSnd (State.writeGcsEncrypt_only ..).climbs ?_
  refine .iteSnd (State.writeAsym_only ..).climbs ?_
  refine .iteSnd (h.step (State.clipPolicer_only ..)) ?_
  refine .iteSnd (.ite h (h.step (State.setTarget_only ..))) ?_
  refine .iteSnd (h.step (State.afterSource_only ..)) ?_
  refine .iteSnd (.ite (h.step (State.writePromote_only ..)) h) ?_
  refine .iteSnd (State.writeMap_only ..).climbs ?_
  refine .iteSnd (.ite (h.step (State.startActivation_only ..)) (.ite (h.step (State.discard_only ..)) h)) ?_
  refine .iteSnd (h.step (State.writeTwilight_only ..)) ?_
  refine .iteSnd (h.step (State.writeFw_only ..)) ?_
  refine .iteSnd (h.trans (s.writeSec_climbs _)) ?_
  refine .iteSnd (h.step (State.writeBist_only ..)) ?_
  refine .iteSnd (.ite h.parts h) ?_
  refine .iteSnd (Climbs.step (.ite (h.step (State.relevel_only ..)) h) (State.checkCap_only ..)) ?_
  exact h

theorem State.writeReg_climbs (s : State) {r : Reg} {a : Nat} (ha : regAt a = some r) (v : Word) :
    Climbs s (s.writeReg r a v).2 := by
  unfold State.writeReg
  split
  next => exact .refl s
  next =>
    refine .iteSnd (State.writeToken_only ..).climbs ?_
    refine .iteSnd (State.writeGcsMap_only ..).climbs ?_
    refine .iteSnd (State.writeModule_only ..).climbs ?_
    refine State.afterWrite_climbs ?_ _ _ _
    exact ((s.putRw_climbs ha v).trans (State.clearBits_climbs _ ha v)).step (State.clearSources_only ..)

theorem State.writeWord_climbs (s : State) (a : Nat) (v : Word) : Climbs s (s.writeWord a v).2 := by
  unfold State.writeWord
  split
  next => exact .iteSnd (State.writeShadow_only ..).climbs (.refl s)
  next =>
    split
    next => exact .refl s
    next r hr => exact s.writeReg_climbs hr v

/-! ### Operations of the host that apply together (R598, R602) -/

theorem State.applyOp_climbs (s : State) (op : HeldOp) : Climbs s (s.applyOp op).2 := by
  cases op with
  | word a v => exact s.writeWord_climbs a v
  | key b =>
    unfold State.applyOp
    dsimp only
    split
    · exact .refl s
    · exact (State.applyKey_only ..).climbs
  | table e ms => exact (State.commitMembers_only ..).climbs

theorem State.applyEach_climbs (l : List HeldOp) {s t : State} (h : State.applyEach l s = .ok t) : Climbs s t := by
  induction l generalizing s with
  | nil =>
    obtain rfl : s = t := by simpa [State.applyEach] using h
    exact .refl s
  | cons op l ih =>
    unfold State.applyEach at h
    split at h
    next s1 e =>
      have h1 : Climbs s s1 := by simpa [e] using s.applyOp_climbs op
      exact h1.trans (ih h)
    next => cases h

theorem State.applyOps_climbs (s : State) (ops : List HeldOp) : Climbs s (s.applyOps ops).2 := by
  unfold State.applyOps
  split
  next => exact .refl s
  next =>
    split
    next e => exact State.applyEach_climbs _ e
    next => exact (State.refusedOp_only ..).climbs

theorem State.commitOps_climbs (s : State) (ops : List HeldOp) : Climbs s (s.commitOps ops).2 :=
  .ite ((s.applyOps_climbs ops).step (State.commitView_only _)) (s.applyOps_climbs ops)

theorem State.takeOps_climbs (s : State) (q : Req) (ops : List HeldOp) : Climbs s (s.takeOps q ops) := by
  unfold State.takeOps
  exact .ite (State.respond_only ..).climbs
    (.ite (State.holdOps_only ..).climbs ((s.commitOps_climbs ops).step (State.respond_only ..)))

theorem State.tryTxn_climbs (s : State) (t : HTxn) (check : Bool) : Climbs s (s.tryTxn t check).2 := by
  unfold State.tryTxn
  exact .iteSnd (.refl s) (s.applyOps_climbs _)

/-- A request taken up lowers the counter only if its operation does. -/
theorem State.gated_climbs (s : State) (q : Req) (r : Bool) {f : State → State} (hf : ∀ u, Climbs u (f u)) :
    Climbs s (s.gated q r f) := by
  have ha : Climbs s (s.ask q) := (State.ask_only ..).climbs
  unfold State.gated
  exact .ite (.refl s) (.ite (ha.step (State.respond_only ..)) (ha.trans (hf _)))

theorem State.alone_climbs (s : State) (q : Req) {f : State → State} (hf : ∀ u, Climbs u (f u)) :
    Climbs s (s.alone q f) := by
  unfold State.alone
  exact .ite (State.respond_only ..).climbs (hf s)

theorem State.writeOne_climbs (s : State) (q : Req) (a : Nat) (v : Word) : Climbs s (s.writeOne q a v) :=
  s.gated_climbs q false fun u => u.takeOps_climbs q _

theorem State.takeWrite_climbs (s : State) (q : Req) (body : List Byte) : Climbs s (s.takeWrite q body) := by
  unfold State.takeWrite
  refine .ite (State.respond_only ..).climbs ?_
  split
  next => exact (State.noteTxn_only ..).climbs.step (State.refuseRun_only ..)
  next => exact s.takeOps_climbs q _

theorem State.takeKey_climbs (s : State) (q : Req) (b : Option KeyBody) : Climbs s (s.takeKey q b) := by
  cases b with
  | some b => exact s.takeOps_climbs q _
  | none => exact ((State.noteTxn_only ..).climbs.event _ _).step (State.respond_only ..)

theorem State.takeTable_climbs (s : State) (q : Req) (epoch : Nat) (ms : List Member) :
    Climbs s (s.takeTable q epoch ms) := by
  unfold State.takeTable
  exact .ite ((State.noteTxn_only ..).climbs.step (State.respond_only ..)) (s.takeOps_climbs q _)

theorem State.commitTxn_climbs (s : State) (q : Req) (t : HTxn) (check : Bool) : Climbs s (s.commitTxn q t check) := by
  have h : Climbs s (s.beforeCommit.tryTxn t check).2 :=
    (State.beforeCommit_only s).climbs.trans (State.tryTxn_climbs _ t check)
  exact ((Climbs.ite (h.step (State.commitView_only _)) h).step (State.closeTxn_only ..)).step (State.answer_only ..)

theorem State.prepareTxn_climbs (s : State) (q : Req) (t : HTxn) (check : Bool) :
    Climbs s (s.prepareTxn q t check) := by
  unfold State.prepareTxn
  extract_lets r ms c cst1 s1
  have h1 : Climbs s s1 := (Climbs.refl s).parts
  exact .ite (((s.tryTxn_climbs t check).step (State.discardTxn_only ..)).step (State.answer_only ..))
    (h1.foldl _ fun u m => (State.sendPrepare_only ..).climbs)

theorem State.commitReq_climbs (s : State) (q : Req) (body : List Byte) : Climbs s (s.commitReq q body) := by
  refine s.alone_climbs q fun u => ?_
  have hr : ∀ st, Climbs u (u.respond q.seq st) := fun st => (State.respond_only ..).climbs
  split
  next =>
    refine .ite (hr _) ?_
    split
    next => exact hr _
    next => exact .ite (hr _) (.ite (u.commitTxn_climbs q _ _) (u.prepareTxn_climbs q _ _))
  next => exact hr _

/-! ### Words that the host reads (R18) -/

/-- A read clears RC fields, of which SEC_ROLLBACK has none. -/
theorem State.afterRead_climbs (s : State) (a : Nat) : Climbs s (s.afterRead a) := by
  unfold State.afterRead
  split
  next => exact .refl s
  next r hr =>
    refine .ite (State.setNocLink_only ..).climbs (.ite (Climbs.refl s).parts ?_)
    split
    next hrc =>
      refine s.setWord_climbs fun h => ?_
      subst h
      obtain rfl : R.SEC_ROLLBACK = r := by simpa [regAt_counterAddr] using hr
      exact absurd hrc (by decide)
    next => exact .refl s

theorem State.readAll_climbs (s : State) (value : State → Nat → Word) (as : List Nat) :
    Climbs s (s.readAll value as).2 := by
  suffices h : ∀ x : List Byte × State, Climbs s x.2 → Climbs s (as.foldl (fun (x : List Byte × State) a =>
      let s1 := x.2.beforeRead a
      (x.1 ++ beBytes 8 (value s1 a).toNat, s1.afterRead a)) x).2 from h ([], s) (.refl s)
  induction as with
  | nil => exact fun x hx => hx
  | cons a as ih => exact fun x hx => ih _ ((hx.step (State.beforeRead_only x.2 a)).trans (State.afterRead_climbs _ a))

theorem State.takeRead_climbs (s : State) (q : Req) (body : List Byte) : Climbs s (s.takeRead q body) := by
  have hr : ∀ st, Climbs s (s.respond q.seq st) := fun st => (State.respond_only ..).climbs
  unfold State.takeRead
  split
  next => exact (State.noteTxn_only ..).climbs.step (State.refuseRun_only ..)
  next rs _ =>
    refine .ite (hr _) (.ite ?_ (.ite ?_ ((s.readAll_climbs _ _).step (State.answer_only ..))))
    · split
      next => exact hr _
      next => exact (s.readAll_climbs _ _).step (State.answer_only ..)
    · split
      next => exact .ite ((s.readAll_climbs _ _).step (State.answer_only ..)) (hr _)
      next =>
        exact ((State.touchTxn_only ..).climbs.trans (State.readAll_climbs _ _ _)).step (State.answer_only ..)

/-! ### Images (R662, R672) -/

theorem State.withTables_climbs (s : State) (im : Image) (cxl : List Nat) : Climbs s (s.withTables im cxl) where
  canon := (s.withTables_only im cxl).canon
  le hs := by
    rw [State.counter_eq, State.counter_eq]
    unfold State.withTables State.word
    rw [regGet_regsLoad_counterAddr _ (tabWf_regsReset _ _), counterOf_regsReset (by decide) hs.1]

theorem State.placed_climbs (s : State) (im : Image) (cxl : List Nat) : Climbs s (s.placed im cxl) := by
  unfold State.placed
  extract_lets b s1 s2 s3 s4 s5
  have h1 : Climbs s s1 := s.withTables_climbs im cxl
  have h2 : Climbs s s2 :=
    ((((h1.setf _ _ _).setf _ _ _).setf _ _ _).setf _ _ _).step (State.sizeWindows_only _)
  have h3 : Climbs s s3 := h2.foldl _ fun u _ =>
    ((((Climbs.refl u).setf _ _ _).setf _ _ _).setf _ _ _).setf _ _ _
  have h4 : Climbs s s4 := h3.foldl _ fun u _ => (State.wrBytes_only ..).climbs
  exact (h4.step (State.mirrorOwn_only s4)).parts

/-- Of an activation, only the placing of the tables may write SEC_ROLLBACK's word. -/
theorem State.activate_climbs (s : State) (im : Image) (cxl : List Nat) (rejected : Bool) :
    Climbs s (s.activate im cxl rejected) := by
  unfold State.activate
  extract_lets wasReserve n s0 s1 s2 adopting peer3 img3 s3 s4 s5 s6 s7 s8
  have h0 : Climbs s s0 := ((State.cancelSwap_only s).climbs.step (State.timeRouteDown_only ..)).step
    (State.timeRouteDown_only ..)
  have h1 : Climbs s s1 := h0.foldl _ fun u _ =>
    ((Climbs.refl u).setf _ _ _).step (State.completion_only ..)
  have h2 : Climbs s s2 := ((h1.trans (s1.placed_climbs im cxl)).step (State.freshEngines_only ..)).setf _ _ _
  clear_value s2
  have h3 : Climbs s s3 := h2.parts
  have h4 : Climbs s s4 := (h3.step (State.unitsBack_only _)).step (State.startCst_only _ adopting)
  have h5 : Climbs s s5 := (h4.step (State.showImage_only _ im)).event _ _
  have h6 : Climbs s s6 := ((h5.setf _ _ _).eventIf _ _ _).step (State.startCxl_only _)
  have hr : Climbs s (if adopting then s6.freshResiduals else s6) := .ite (h6.step (State.freshResiduals_only _)) h6
  have h7 : Climbs s s7 := (((hr.step (State.applyRecords_only _)).step (State.startLasers_only _)).step
    (State.askQuickCal_only _)).step (State.openSessionsAnew_only _)
  have h8 : Climbs s s8 := ((((h7.step (State.startTracks_only _ _)).step (State.syncMeridian_only _)).step
    (State.syncAdhoc_only _)).step (State.syncPools_only _ _)).step (State.syncCache_only _)
  have h9 := (((h8.step (State.hostInEffect_only _)).step (State.syncChannels_only _)).step
    (State.raiseFloor_only _)).step (State.driveTx_only _ s)
  exact (h9.foldl (f := State.syncTim) _ fun u p => (State.syncTim_only u p).climbs).step (State.commitView_only _)

theorem State.takeImage_climbs (s : State) (im : Image) (cxl : List Nat) (rejected : Bool) :
    Climbs s (s.takeImage im cxl rejected) := by
  unfold State.takeImage
  refine .ite ?_ (.ite (State.takeAlmanac_only ..).climbs (State.takePatch_only ..).climbs)
  unfold State.takeFull
  extract_lets img1 s1
  have h1 : Climbs s s1 := (Climbs.refl s).parts
  exact .ite (((s.activate_climbs im cxl rejected).setf _ _ _).step (State.endLoad_only ..))
    ((((h1.step (State.showVerdict_only ..)).setf _ _ _).event _ _).step (State.endLoad_only ..))

theorem State.verifyImage_climbs (s : State) (im : Image) (cxl : List Nat) (rejected : Bool) (others : List PartCode) :
    Climbs s (s.verifyImage im cxl rejected others) := by
  unfold State.verifyImage
  extract_lets own
  split
  next => exact (State.fitReport_only ..).climbs.trans (State.takeImage_climbs ..)
  next => exact (State.fitReport_only ..).climbs.step (State.refuseLoad_only ..)

theorem State.verifyLoad_climbs (s : State) (l : Load) (sigOk : Bool) (body : ImageBody) (cxl : List Nat) (rejected : Bool)
    (others : List PartCode) : Climbs s (s.verifyLoad l sigOk body cxl rejected others) := by
  have h1 : Climbs s (s.bootStage 6) := (State.bootStage_only s 6).climbs
  unfold State.verifyLoad
  extract_lets s1
  split
  next => exact h1.step (State.refuseLoad_only ..)
  next =>
    split
    next => exact h1.step (State.refuseLoad_only ..)
    next => exact h1.trans (State.verifyImage_climbs ..)

theorem State.verifyArea_climbs (s : State) (im : Image) (sigOk : Bool) (cxl : List Nat) (rejected : Bool) :
    Climbs s (s.verifyArea im sigOk cxl rejected) := by
  unfold State.verifyArea
  exact .ite (State.refuseLoad_only ..).climbs (.ite (State.refuseLoad_only ..).climbs (s.verifyImage_climbs ..))

/-! ### Resets (R741) -/

/-- A reset that keeps the vault's fields keeps the counter. -/
theorem State.resetTo_climbs (s : State) {keep : Fld → Bool} (hk : keep F.SEC_ROLLBACK_COUNTER = true) :
    Climbs s (s.resetTo keep) where
  canon := (s.resetTo_only keep).canon
  le hs := by
    rw [State.counter_eq, State.counter_eq]
    unfold State.resetTo State.word
    rw [counterOf_regsKept hk hs.1]

theorem State.porstReset_climbs (s : State) : Climbs s s.porstReset :=
  (s.resetTo_climbs (keep := fun x => x.vault || x.outside) (by decide)).parts

theorem State.sysReset_climbs (s : State) : Climbs s s.sysReset := by
  have h0 := s.resetTo_climbs (keep := fun x => x.vault || x.outside || x.sticky) (by decide)
  exact (h0.foldl (f := fun s n => s.setf F.ARR_SECn_STATUS_STATE secRetired n) _ fun u n =>
    (Climbs.refl u).setf _ _ _).parts

theorem State.warmReset_climbs (s : State) : Climbs s s.warmReset := by
  unfold State.warmReset
  exact .ite (.refl s) (.ite (s.sysReset_climbs.step (State.beginStage_only ..))
    (s.sysReset_climbs.step (State.stage2_only ..)))

theorem State.turnOff_climbs (s : State) (cause die : Nat) : Climbs s (s.turnOff cause die) := by
  have h0 := s.resetTo_climbs (keep := fun x => x.vault || x.outside) (by decide)
  exact (Climbs.setf h0.parts _ _ _).setf _ _ _

end Sys2Proof.Machine
end

section
/-! The commands that may write SEC_ROLLBACK's word, and all commands together. -/

-- One theorem at a time: elaborated side by side, each takes a thread of its own while it waits.
set_option Elab.async false

namespace Sys2Proof.Machine

/-! ### Requests of the host -/

theorem execRead_climbs (q : Req) (body : List Byte) (s : State) : Keeps (execRead q body s) (Climbs s) :=
  s.gated_climbs _ _ fun u => u.takeRead_climbs ..

theorem execWrite_climbs (q : Req) (body : List Byte) (s : State) : Keeps (execWrite q body s) (Climbs s) :=
  s.gated_climbs _ _ fun u => u.takeWrite_climbs ..

theorem execTxnCommit_climbs (q : Req) (body : List Byte) (s : State) : Keeps (execTxnCommit q body s) (Climbs s) :=
  s.gated_climbs _ _ fun u => u.commitReq_climbs ..

theorem execMembershipTable_climbs (q : Req) (epoch : Nat) (ms : List Member) (s : State) :
    Keeps (execMembershipTable q epoch ms s) (Climbs s) :=
  s.gated_climbs _ _ fun u => u.takeTable_climbs ..

theorem State.serveMembership_climbs (s : State) (q : Req) (body : List Byte) :
    Keeps (s.serveMembership q body) (Climbs s) := by
  unfold State.serveMembership
  split
  next => exact execMembershipTable_climbs ..
  next => exact (execMembershipKeep_only ..).climbs
  next => exact (s.badBody_only q).climbs

theorem State.serve_climbs (s : State) (q : Req) (type : Nat) (body : List Byte) (fw : Bool × Nat) :
    Keeps (s.serve q type body fw) (Climbs s) := by
  unfold State.serve
  refine .ite (execRead_climbs ..) ?_
  refine .ite (execWrite_climbs ..) ?_
  refine .ite (execTxnBegin_only ..).climbs ?_
  refine .ite (execTxnCommit_climbs ..) ?_
  refine .ite (State.serveSnapshot_only ..).climbs ?_
  refine .ite (State.serveLoad_only ..).climbs ?_
  refine .ite (execSubmit_only ..).climbs ?_
  refine .ite (State.serveAbort_only ..).climbs ?_
  refine .ite (s.serveMembership_climbs ..) ?_
  refine .ite (s.gated_climbs _ _ fun u => u.takeKey_climbs ..) ?_
  refine .ite (s.gated_climbs _ _ fun u => (State.takeEvent_only ..).climbs) ?_
  exact (s.badBody_only q).climbs

theorem State.dispatch_climbs (s : State) (q : Req) (type member : Nat) (body : List Byte) (fw : Bool × Nat) :
    Keeps (s.dispatch q type member body fw) (Climbs s) := by
  have hserve : Keeps (s.serve q type body fw) (Climbs s) := s.serve_climbs ..
  have hlost : Keeps (.next ((s.ask q).respond q.seq .failedLink)) (Climbs s) :=
    (State.ask_only ..).climbs.step (State.respond_only ..)
  unfold State.dispatch
  refine .ite (.ite hserve hlost) (.ite (.ite hserve (.next (.refl s))) (.ite hserve ?_))
  split
  next => exact .ite hserve (.next (State.forward_only ..).climbs)
  next => exact .ite hserve hlost

theorem State.expinIn_climbs (s : State) (msg : List Byte) (fw : Bool × Nat) : Keeps (s.expinIn msg fw) (Climbs s) := by
  unfold State.expinIn
  extract_lets fl len seq body alternate
  refine .ite (.next (.refl s)) (.ite (.next ((Climbs.refl s).setf _ _ _)) ?_)
  split
  next => exact ((Climbs.refl s).setf _ _ _).event _ _
  next c _ =>
    split
    next => exact (State.repeatAnswer_only ..).climbs
    next => exact ((Climbs.refl s).setf _ _ _).event _ _
    next =>
      extract_lets s1 q
      have h1 : Climbs s s1 := (State.noteSeq_only ..).climbs.setf _ _ _
      exact .ite (.next ((h1.step (State.ask_only ..)).step (State.respond_only ..)))
        (h1.keeps (State.dispatch_climbs ..))

/-! ### Frames at the host port -/

theorem State.udpIn_climbs (s : State) (own ptp : Bool) (seg fr : List Byte) (fw : Bool × Nat) :
    Keeps (s.udpIn own ptp seg fr fw) (Climbs s) := by
  unfold State.udpIn
  exact .ite (.next (.refl s)) (.ite (.next (State.ptpFrameIn_only ..).climbs)
    (.ite (s.expinIn_climbs ..) (.next (.refl s))))

theorem State.ip4In_climbs (s : State) (fr : List Byte) (fw : Bool × Nat) : Keeps (s.ip4In fr fw) (Climbs s) := by
  unfold State.ip4In
  exact .ite (.next (.refl s)) (.ite (.next (.ite (State.icmpIn_only ..).climbs (.refl s)))
    (.ite (.ite (.next (.refl s)) (s.udpIn_climbs ..)) (.next (.refl s))))

theorem State.ip6In_climbs (s : State) (fr : List Byte) (fw : Bool × Nat) : Keeps (s.ip6In fr fw) (Climbs s) := by
  unfold State.ip6In
  exact .ite (.next (.refl s)) (.ite (.next (State.icmp6In_only ..).climbs)
    (.ite (.ite (.next (.refl s)) (s.udpIn_climbs ..)) (.next (.refl s))))

theorem State.frameIn_climbs (s : State) (fr : List Byte) (fw : Bool × Nat) : Keeps (s.frameIn fr fw) (Climbs s) := by
  have h : Climbs s (s.policeFrame fr).2 := (State.policeFrame_only ..).climbs
  unfold State.frameIn
  exact .ite (.next h) (.ite (.next (h.step (State.arpIn_only ..))) (.ite (.next (h.step (State.ptpFrameIn_only ..)))
    (.ite (h.keeps (State.ip4In_climbs ..)) (.ite (h.keeps (State.ip6In_climbs ..)) (.next h)))))

theorem State.hostIn_climbs (s : State) (full : List Byte) (fw : Bool × Nat) : Keeps (s.hostIn full fw) (Climbs s) := by
  unfold State.hostIn
  extract_lets fr r
  have h : Climbs s r.2 := (s.macIn_only fr).climbs
  refine .ite (.next (.refl s)) (.ite (s.frameIn_climbs ..) ?_)
  split
  next => exact h.keeps (State.frameIn_climbs ..)
  next => exact h

theorem execMacsecFrameReceive_climbs (fr : List Byte) (fw : Bool × Nat) (s : State) :
    Keeps (execMacsecFrameReceive fr fw s) (Climbs s) :=
  .ite (s.hostIn_climbs fr fw) (.next (.refl s))

/-! ### Messages between the members of a constellation -/

theorem execForwardedRequestReceive_climbs (id type flags txn : Nat) (body : List Byte) (again : Bool) (fw : Bool × Nat)
    (s : State) : Keeps (execForwardedRequestReceive id type flags txn body again fw s) (Climbs s) := by
  have hemit : ∀ e, Keeps (.next (s.emit e)) (Climbs s) := fun e => (s.emit_only e).climbs
  unfold execForwardedRequestReceive
  refine .ite (.next (.refl s)) ?_
  split
  next => exact hemit _
  next =>
    exact .ite (.next (.refl s)) (.ite (hemit _)
      (.ite (.next ((State.ask_only ..).climbs.step (State.respond_only ..))) (s.serve_climbs ..)))

theorem execCstPrepareReceive_climbs (txn : Nat) (check : Bool) (s : State) :
    Keeps (execCstPrepareReceive txn check s) (Climbs s) := by
  unfold execCstPrepareReceive
  refine .ite (.next (.refl s)) ?_
  extract_lets r
  have hr : Climbs s r.2 := by
    unfold r
    split
    next => exact s.tryTxn_climbs ..
    next => exact .refl s
  exact (Climbs.ite (.refl s) hr).step (State.emit_only ..)

theorem State.startApply_climbs (s : State) (c : TwoPhase) : Climbs s (s.startApply c) := by
  unfold State.startApply
  split
  next => exact (State.refuseCommit_only ..).climbs
  next t _ =>
    have hr : Climbs s (s.tryTxn t c.check).2 := s.tryTxn_climbs ..
    refine .ite (hr.step (State.refuseCommit_only ..)) (.foldl _ ?_ fun u m => (State.sendApply_only ..).climbs)
    exact ((hr.step (State.closeTxn_only ..)).step (State.commitView_only _)).parts

theorem execCstPrepareReplyReceive_climbs (txn pos code : Nat) (s : State) :
    Keeps (execCstPrepareReplyReceive txn pos code s) (Climbs s) := by
  unfold execCstPrepareReplyReceive
  refine .ite (.next (.refl s)) ?_
  split
  next => exact .refl s
  next =>
    refine .ite (.next (State.refuseCommit_only ..).climbs) ?_
    extract_lets c1 cst1 s1
    have h1 : Climbs s s1 := (Climbs.refl s).parts
    exact Climbs.ite (h1.trans (State.startApply_climbs ..)) h1

theorem execCstApplyReceive_climbs (txn v : Nat) (discard : Bool) (s : State) :
    Keeps (execCstApplyReceive txn v discard s) (Climbs s) := by
  unfold execCstApplyReceive
  refine .ite (.next (.refl s)) (.ite (.next (State.takeView_only ..).climbs)
    (.ite (.next (State.closeTxn_only ..).climbs) (.ite (.next (State.ackApply_only ..).climbs) ?_)))
  split
  next => exact (State.ackApply_only ..).climbs
  next t _ =>
    have h : Climbs s ((s.applyOps t.ops).2.closeTxn txn) := (s.applyOps_climbs _).step (State.closeTxn_only ..)
    exact .ite (.next (h.step (State.ackApply_only ..)))
      (.next ((h.parts.step (State.takeView_only ..)).step (State.ackApply_only ..)))

/-! ### Images, resets and power -/

theorem execImageActivation_climbs (cxl : List Nat) (rejected : Bool) (s : State) :
    Keeps (execImageActivation cxl rejected s) (Climbs s) := by
  unfold execImageActivation
  split
  next => exact Climbs.ite ((s.activate_climbs ..).step (State.dropStaging_only _)) (.refl s)
  next => exact .refl s

theorem execLoadVerify_climbs (sigOk : Bool) (body : ImageBody) (cxl : List Nat) (rejected : Bool)
    (others : List (Nat × Status × List FitEntry)) (part : Option Image) (s : State) :
    Keeps (execLoadVerify sigOk body cxl rejected others part s) (Climbs s) := by
  unfold execLoadVerify
  extract_lets os
  split
  next => exact Climbs.ite (s.verifyLoad_climbs ..) (.refl s)
  next => exact Climbs.ite (s.verifyArea_climbs ..) (.refl s)
  next => exact .ite (.next ((s.verifyImage_climbs ..).step (State.emit_only ..))) (.next (.refl s))
  next => exact .refl s

theorem execSoftReset_climbs (s : State) : Keeps (execSoftReset s) (Climbs s) :=
  Climbs.ite s.warmReset_climbs (.refl s)

theorem execPowerOff_climbs (s : State) : Keeps (execPowerOff s) (Climbs s) := by
  unfold execPowerOff
  split
  next => exact Climbs.ite (s.turnOff_climbs ..) (.refl s)
  next => exact .refl s

theorem Climbs.enterThermalCap {s t : State} (h : Climbs s t) :
    Climbs s (t.enterCap F.PWR_STATUS_THERM_CAP F.PWR_EVENTS_THERM_CAP) := by
  unfold State.enterCap
  extract_lets s1
  have h1 : Climbs s s1 := ((h.setf _ _ _).event _ _).step (State.degradeWhere_only ..)
  exact .ite h (h1.parts.step (State.relevel_only _))

theorem Climbs.leaveThermalCap {s t : State} (h : Climbs s t) : Climbs s (t.leaveCap F.PWR_STATUS_THERM_CAP) := by
  have h1 : Climbs s (t.setf F.PWR_STATUS_THERM_CAP 0) := h.setf _ _ _
  unfold State.leaveCap
  exact .ite h (.ite h1 ((h1.step (State.tallyCapped_only _)).parts.step (State.relevel_only _)))

theorem execThermalReport_climbs (d temp : Nat) (s : State) : Keeps (execThermalReport d temp s) (Climbs s) := by
  unfold execThermalReport
  refine .ite (.next (.refl s)) ?_
  extract_lets t old s1 reach s2 s3 s4 hot pwr1 s5
  have h1 : Climbs s s1 := ((Climbs.refl s).setf _ _ _).setf _ _ _
  have h2 : Climbs s s2 := h1.eventIf _ _ _
  have h3 : Climbs s s3 := .ite (h2.step (State.setAlert_only ..)) (.ite (h2.step (State.setAlert_only ..)) h2)
  have h4 : Climbs s s4 := h3.eventIf _ _ _
  have h5 : Climbs s s5 := h4.parts
  exact .ite (.next (h1.trans (s1.turnOff_climbs ..))) (.next (.ite h5.enterThermalCap h5.leaveThermalCap))

/-! ### All commands -/

/-- Every command keeps the canonical forms and does not lower the anti-rollback counter (R707): one that does not touch
SEC_ROLLBACK by what it leaves as it is, and the others by what they do to its word. -/
theorem exec_climbs (c : Instr) (s : State) : Keeps (exec c s) (Climbs s) :=
  match c with
  | .itemIssue => (execItemIssue_only ..).climbs
  | .itemStart .. => (execItemStart_only ..).climbs
  | .move .. => (execMove_only ..).climbs
  | .reduce .. => (execReduce_only ..).climbs
  | .firstpass .. => (execFirstpass_only ..).climbs
  | .encode .. => (execEncode_only ..).climbs
  | .encodeResidualCopy .. => (execEncodeResidualCopy_only ..).climbs
  | .decode .. => (execDecode_only ..).climbs
  | .project .. => (execProject_only ..).climbs
  | .ortho .. => (execOrtho_only ..).climbs
  | .seal .. => (execSeal_only ..).climbs
  | .openItem .. => (execOpen_only ..).climbs
  | .send .. => (execSend_only ..).climbs
  | .recv .. => (execRecv_only ..).climbs
  | .circuitSetup .. => (execCircuitSetup_only ..).climbs
  | .circuitConfirm .. => (execCircuitConfirm_only ..).climbs
  | .circuitRelease .. => (execCircuitRelease_only ..).climbs
  | .journal .. => (execJournal_only ..).climbs
  | .forecast .. => (execForecast_only ..).climbs
  | .forecastLowerEffect => (execForecastLowerEffect_only ..).climbs
  | .tokenWaitWatchdog .. => (execTokenWaitWatchdog_only ..).climbs
  | .armStep => (execArmStep_only ..).climbs
  | .armIdle => (execArmIdle_only ..).climbs
  | .cancel => (execCancel_only ..).climbs
  | .swapStep => (execSwapStep_only ..).climbs
  | .swapIdle => (execSwapIdle_only ..).climbs
  | .trackResume .. => (execTrackResume_only ..).climbs
  | .trackHalt .. => (execTrackHalt_only ..).climbs
  | .trackAbort .. => (execTrackAbort_only ..).climbs
  | .tokenWrite .. => s.writeOne_climbs ..
  | .activeWindowWrite .. => s.writeOne_climbs ..
  | .shadowWindowWrite .. => s.writeOne_climbs ..
  | .reduceCountWait .. => (execReduceCountWait_only ..).climbs
  | .reduceRebuildDone .. => (execReduceRebuildDone_only ..).climbs
  | .arrayRedoDone .. => (execArrayRedoDone_only ..).climbs
  | .ppeBandStart .. => (execPpeBandStart_only ..).climbs
  | .ppeBandFold .. => (execPpeBandFold_only ..).climbs
  | .ppeLockLost => (execPpeLockLost_only ..).climbs
  | .ppeLockReturn => (execPpeLockReturn_only ..).climbs
  | .ppeLockWaitExpired .. => (execPpeLockWaitExpired_only ..).climbs
  | .ppeCalQuick => (execPpeCalQuick_only ..).climbs
  | .ppeCalFull => (execPpeCalFull_only ..).climbs
  | .ppeCalPeriod => (execPpeCalPeriod_only ..).climbs
  | .ppeTempDelta .. => (execPpeTempDelta_only ..).climbs
  | .ppeCalDone .. => (execPpeCalDone_only ..).climbs
  | .ppeCalTableWrite .. => s.writeOne_climbs ..
  | .firstpassPinWait .. => (execFirstpassPinWait_only ..).climbs
  | .codebookInstallDeferred .. => (execCodebookInstallDeferred_only ..).climbs
  | .codebookRepeat .. => (execCodebookRepeat_only ..).climbs
  | .submit .. => (execSubmit_only ..).climbs
  | .adhocAdmit => (execAdhocAdmit_only ..).climbs
  | .parkExpired .. => (execParkExpired_only ..).climbs
  | .helloReceive .. => (execHelloReceive_only ..).climbs
  | .dataReceive .. => (execDataReceive_only ..).climbs
  | .abandonmentReceive .. => (execAbandonmentReceive_only ..).climbs
  | .ackReceive .. => (execAckReceive_only ..).climbs
  | .nakReceive .. => (execNakReceive_only ..).climbs
  | .probeRequestReceive .. => (execProbeRequestReceive_only ..).climbs
  | .probeReplyReceive .. => (execProbeReplyReceive_only ..).climbs
  | .codebookReceive .. => (execCodebookReceive_only ..).climbs
  | .stepReadyReceive .. => (execStepReadyReceive_only ..).climbs
  | .stepCommitReceive .. => (execStepCommitReceive_only ..).climbs
  | .epochReceive .. => (execEpochReceive_only ..).climbs
  | .horizonReceive .. => (execHorizonReceive_only ..).climbs
  | .reconcileReceive .. => (execReconcileReceive_only ..).climbs
  | .correctionSent .. => (execCorrectionSent_only ..).climbs
  | .ackSend .. => (execAckSend_only ..).climbs
  | .gapNak .. => (execGapNak_only ..).climbs
  | .resendTimer .. => (execResendTimer_only ..).climbs
  | .probeSend => (execProbeSend_only ..).climbs
  | .routeSilence .. => (execRouteSilence_only ..).climbs
  | .routeProveTimeout .. => (execRouteProveTimeout_only ..).climbs
  | .routeDisableWrite .. => (execRouteDisableWrite_only ..).climbs
  | .helloSend .. => (execHelloSend_only ..).climbs
  | .eclipseEntry .. => (execEclipseEntry_only ..).climbs
  | .meridian => (execMeridian_only ..).climbs
  | .epochWaitExpired .. => (execEpochWaitExpired_only ..).climbs
  | .memberSuspect .. => (execMemberSuspect_only ..).climbs
  | .downProposal .. => (execDownProposal_only ..).climbs
  | .memberHoldExpired .. => (execMemberHoldExpired_only ..).climbs
  | .exactHoldExpired .. => (execExactHoldExpired_only ..).climbs
  | .membershipTable .. => execMembershipTable_climbs ..
  | .membershipKeep .. => (execMembershipKeep_only ..).climbs
  | .rawDefectChange .. => (execRawDefectChange_only ..).climbs
  | .defectFastSet .. => (execDefectFastSet_only ..).climbs
  | .defectFastClear .. => (execDefectFastClear_only ..).climbs
  | .failureReportSet .. => (execFailureReportSet_only ..).climbs
  | .failureReportClear .. => (execFailureReportClear_only ..).climbs
  | .modAlertFall .. => (execModAlertFall_only ..).climbs
  | .losFlagPoll .. => (execLosFlagPoll_only ..).climbs
  | .gfpFrameReceive .. => (execGfpFrameReceive_only ..).climbs
  | .csfSend .. => (execCsfSend_only ..).climbs
  | .moduleRead .. => (execModuleRead_only ..).climbs
  | .moduleWrite .. => (execModuleWrite_only ..).climbs
  | .moduleAccessDone .. => (execModuleAccessDone_only ..).climbs
  | .gcsMapWrite .. => s.writeOne_climbs ..
  | .gcsMapApply .. => (execGcsMapApply_only ..).climbs
  | .fabricRequestReceive .. => (execFabricRequestReceive_only ..).climbs
  | .fabricReplyReceive .. => (execFabricReplyReceive_only ..).climbs
  | .bulkReceive .. => (execBulkReceive_only ..).climbs
  | .escapeTimeout .. => (execEscapeTimeout_only ..).climbs
  | .bridgeFlush .. => (execBridgeFlush_only ..).climbs
  | .circuitTrained .. => (execCircuitTrained_only ..).climbs
  | .circuitSetupTimeout .. => (execCircuitSetupTimeout_only ..).climbs
  | .circuitReleased .. => (execCircuitReleased_only ..).climbs
  | .circuitTableWrite .. => s.writeOne_climbs ..
  | .laserFailed .. => (execLaserFailed_only ..).climbs
  | .spareSwitched .. => (execSpareSwitched_only ..).climbs
  | .lockLoopPeriod .. => (execLockLoopPeriod_only ..).climbs
  | .ringRelocked .. => (execRingRelocked_only ..).climbs
  | .relockTimeout .. => (execRelockTimeout_only ..).climbs
  | .circuitNoLight .. => (execCircuitNoLight_only ..).climbs
  | .moveFlitReceive .. => (execMoveFlitReceive_only ..).climbs
  | .circuitMoveDone .. => (execCircuitMoveDone_only ..).climbs
  | .alternateHoldExpired .. => (execAlternateHoldExpired_only ..).climbs
  | .optCalFull .. => (execOptCalFull_only ..).climbs
  | .optCalDone .. => (execOptCalDone_only ..).climbs
  | .optXtWrite .. => s.writeOne_climbs ..
  | .aprTrip .. => (execAprTrip_only ..).climbs
  | .aprBurst .. => (execAprBurst_only ..).climbs
  | .aprClear .. => (execAprClear_only ..).climbs
  | .laserEnChange .. => (execLaserEnChange_only ..).climbs
  | .sectorFault .. => (execSectorFault_only ..).climbs
  | .pageRemap => (execPageRemap_only ..).climbs
  | .remirrorDone => (execRemirrorDone_only ..).climbs
  | .scrubPass .. => (execScrubPass_only ..).climbs
  | .cxlLinkDown .. => (execCxlLinkDown_only ..).climbs
  | .contextFetch .. => (execContextFetch_only ..).climbs
  | .contextWindowWrite .. => s.writeOne_climbs ..
  | .bufferGrant => (execBufferGrant_only ..).climbs
  | .bufferHandoff .. => (execBufferHandoff_only ..).climbs
  | .bufferFree .. => (execBufferFree_only ..).climbs
  | .nocPacketReceive .. => (execNocPacketReceive_only ..).climbs
  | .nocLinkFailed .. => (execNocLinkFailed_only ..).climbs
  | .keyLoad .. => s.gated_climbs _ _ fun u => u.takeKey_climbs ..
  | .keyEraseGraceful .. => s.gated_climbs _ _ fun u => u.takeKey_climbs ..
  | .keyEraseImmediate .. => s.gated_climbs _ _ fun u => u.takeKey_climbs ..
  | .keyEraseComplete .. => (execKeyEraseComplete_only ..).climbs
  | .keyRetire .. => (execKeyRetire_only ..).climbs
  | .suspendedResume .. => (execSuspendedResume_only ..).climbs
  | .macsecFrameReceive .. => execMacsecFrameReceive_climbs ..
  | .gcsEncryptWrite .. => (execGcsEncryptWrite_only ..).climbs
  | .portServe .. => (execPortServe_only ..).climbs
  | .hostFrameReceive .. => s.hostIn_climbs ..
  | .ptpMessageReceive .. => (execPtpMessageReceive_only ..).climbs
  | .timeSourceLost .. => (execTimeSourceLost_only ..).climbs
  | .holdoverExpired .. => (execHoldoverExpired_only ..).climbs
  | .tb0Revert => (execTb0Revert_only ..).climbs
  | .timeReportSend => (execTimeReportSend_only ..).climbs
  | .timeReportReceive .. => (execTimeReportReceive_only ..).climbs
  | .transferHoldoverExpired .. => (execTransferHoldoverExpired_only ..).climbs
  | .tcRelayReceive .. => (execTcRelayReceive_only ..).climbs
  | .ppsInEdge => (execPpsInEdge_only ..).climbs
  | .ppsOutPulse => (execPpsOutPulse_only ..).climbs
  | .asymWrite .. => (execAsymWrite_only ..).climbs
  | .tbSecRead .. => (execTbSecRead_only ..).climbs
  | .read .. => execRead_climbs ..
  | .write .. => execWrite_climbs ..
  | .txnBegin .. => (execTxnBegin_only ..).climbs
  | .txnCommit .. => execTxnCommit_climbs ..
  | .snapshotOpen .. => (execSnapshotOpen_only ..).climbs
  | .snapshotClose .. => (execSnapshotClose_only ..).climbs
  | .txnExpired .. => (execTxnExpired_only ..).climbs
  | .snapshotExpired .. => (execSnapshotExpired_only ..).climbs
  | .hostAddressApply => (execHostAddressApply_only ..).climbs
  | .loadStructureImage .. => (execLoadStructureImage_only ..).climbs
  | .loadSectorPatch .. => (execLoadSectorPatch_only ..).climbs
  | .loadFirmwareCopy .. => (execLoadFirmwareCopy_only ..).climbs
  | .hostBulkWrite .. => (execHostBulkWrite_only ..).climbs
  | .hostBulkRead .. => (execHostBulkRead_only ..).climbs
  | .loadVerify .. => execLoadVerify_climbs ..
  | .abortItem .. => (execAbortItem_only ..).climbs
  | .abortTrack .. => (execAbortTrack_only ..).climbs
  | .abortCollective .. => (execAbortCollective_only ..).climbs
  | .abortTransaction .. => (execAbortTransaction_only ..).climbs
  | .abortLoad .. => (execAbortLoad_only ..).climbs
  | .eventAck .. => (execEventAck_only ..).climbs
  | .eventAssert .. => (execEventAssert_only ..).climbs
  | .eventDeliver .. => (execEventDeliver_only ..).climbs
  | .eventResend .. => (execEventResend_only ..).climbs
  | .mpEventHandled .. => (execMpEventHandled_only ..).climbs
  | .pinChange .. => (execPinChange_only ..).climbs
  | .cstLinkTrained .. => (execCstLinkTrained_only ..).climbs
  | .cstLinkDown .. => (execCstLinkDown_only ..).climbs
  | .linkStateReceive .. => (execLinkStateReceive_only ..).climbs
  | .routesInstalled => (execRoutesInstalled_only ..).climbs
  | .forwardedRequestReceive .. => execForwardedRequestReceive_climbs ..
  | .forwardResponseReceive .. => (execForwardResponseReceive_only ..).climbs
  | .cstPrepareReceive .. => execCstPrepareReceive_climbs ..
  | .cstPrepareReplyReceive .. => execCstPrepareReplyReceive_climbs ..
  | .cstApplyReceive .. => execCstApplyReceive_climbs ..
  | .cstApplyAckReceive .. => (execCstApplyAckReceive_only ..).climbs
  | .constellationMeridian .. => (execConstellationMeridian_only ..).climbs
  | .cstEventRecordReceive .. => (execCstEventRecordReceive_only ..).climbs
  | .cstTokenPostReceive .. => (execCstTokenPostReceive_only ..).climbs
  | .cstMeridianReportReceive .. => (execCstMeridianReportReceive_only ..).climbs
  | .cstMeridianReceive .. => (execCstMeridianReceive_only ..).climbs
  | .cstMemberLost .. => (execCstMemberLost_only ..).climbs
  | .poleLost => (execPoleLost_only ..).climbs
  | .promote .. => (execPromote_only ..).climbs
  | .activate => (execActivate_only ..).climbs
  | .discard => (execDiscard_only ..).climbs
  | .imageActivation .. => execImageActivation_climbs ..
  | .disable .. => (execDisable_only ..).climbs
  | .enable .. => (execEnable_only ..).climbs
  | .twilightDeadline .. => (execTwilightDeadline_only ..).climbs
  | .unitDark .. => (execUnitDark_only ..).climbs
  | .restart => (execRestart_only ..).climbs
  | .mpDrainLimit .. => (execMpDrainLimit_only ..).climbs
  | .mpReady .. => (execMpReady_only ..).climbs
  | .mpReadyTimeout => (execMpReadyTimeout_only ..).climbs
  | .porstNAssert => s.porstReset_climbs
  | .porstNRelease .. => (execPorstNRelease_only ..).climbs
  | .sysrstN => s.warmReset_climbs
  | .railsReady => (execRailsReady_only ..).climbs
  | .bootStageEnd .. => (execBootStageEnd_only ..).climbs
  | .claim => (execClaim_only ..).climbs
  | .addKey .. => (execAddKey_only ..).climbs
  | .revokeKey .. => (execRevokeKey_only ..).climbs
  | .release .. => (execRelease_only ..).climbs
  | .quote => (execQuote_only ..).climbs
  | .quoteDone .. => (execQuoteDone_only ..).climbs
  | .raise => State.secResult_climbs s.raise_climbs
  | .persist => (execPersist_only ..).climbs
  | .persistDone => (execPersistDone_only ..).climbs
  | .idTreeBuilt => (execIdTreeBuilt_only ..).climbs
  | .bistStart .. => (execBistStart_only ..).climbs
  | .bistEnd .. => (execBistEnd_only ..).climbs
  | .bistPeriod => (execBistPeriod_only ..).climbs
  | .runNow => (execRunNow_only ..).climbs
  | .unretire .. => (execUnretire_only ..).climbs
  | .vinChange .. => (execVinChange_only ..).climbs
  | .powerOff => execPowerOff_climbs ..
  | .currentSample .. => (execCurrentSample_only ..).climbs
  | .capLift => (execCapLift_only ..).climbs
  | .thermalReport .. => execThermalReport_climbs ..
  | .refclkLost => (execRefclkLost_only ..).climbs
  | .refclkFreeRun => (execRefclkFreeRun_only ..).climbs
  | .refclkReturn => (execRefclkReturn_only ..).climbs
  | .pllUnlock .. => (execPllUnlock_only ..).climbs
  | .pllRelocked => (execPllRelocked_only ..).climbs
  | .softReset => execSoftReset_climbs ..
  | .ttiRxAccept .. => (execTtiRxAccept_only ..).climbs
  | .hostLinkChange .. => (execHostLinkChange_only ..).climbs
  | .fabricDelivery .. => (execFabricDelivery_only ..).climbs

/-! ### The three cases of RAISE -/

theorem exec_raise_higher {s : State} (hact : s.imageActive = true)
    (hlt : s.f F.SEC_ROLLBACK_COUNTER < s.f F.IMG_STATUS_VERSION) :
    exec .raise s = .next ((s.setf F.SEC_ROLLBACK_COUNTER (s.f F.IMG_STATUS_VERSION)).setf F.SEC_CTRL_RESULT
      Status.done.code) := by
  change execRaise s = _
  simp [execRaise, State.secResult, State.raise, hact, hlt]

theorem exec_raise_notHigher {s : State} (hact : s.imageActive = true)
    (hle : s.f F.IMG_STATUS_VERSION ≤ s.f F.SEC_ROLLBACK_COUNTER) :
    exec .raise s = .next (s.setf F.SEC_CTRL_RESULT Status.done.code) := by
  change execRaise s = _
  simp [execRaise, State.secResult, State.raise, hact, Nat.not_lt.2 hle]

theorem exec_raise_inactive {s : State} (hact : s.imageActive = false) :
    exec .raise s = .next (s.setf F.SEC_CTRL_RESULT Status.refusedBusy.code) := by
  change execRaise s = _
  simp [execRaise, State.secResult, State.raise, hact]

/-- What two operations one after the other leave as it is. -/
theorem RegsBut.trans {rs qs : List Reg} {s t u : State} (h : RegsBut rs s t) (g : RegsBut qs t u) :
    RegsBut (rs ++ qs) s u := fun a ha =>
  (g a fun r hr => ha r (List.mem_append_right rs hr)).trans (h a fun r hr => ha r (List.mem_append_left qs hr))

end Sys2Proof.Machine
end

section
/-! The statement of the boot and attestation family. -/

namespace Sys2Proof.Proofs

open Sys2Proof Sys2Proof.Machine

/-- Settles O9: RAISE by its three cases, and every command by `exec_climbs`. -/
theorem antiRollbackCounterNeverFalls : Obligations.AntiRollbackCounterNeverFalls := by
  refine ⟨fun s hs hact hlt => ?_, fun s hs hact hle => ?_, fun s hs hact => ?_, fun c s hs => ?_⟩
  · rw [exec_raise_higher hact hlt]
    have hs1 := State.canon_setf hs F.SEC_ROLLBACK_COUNTER (s.f F.IMG_STATUS_VERSION) 0
    refine ⟨?_, State.f_setf_same hs1 F.SEC_CTRL_RESULT _ 0, ?_⟩
    · rw [State.f_setf_ne hs1 F.SEC_CTRL_RESULT F.SEC_ROLLBACK_COUNTER _ 0 0 (by decide) (by decide), State.counter_setf hs,
        State.version_mod]
    · exact (State.setf_regsBut hs _ _ _ (by decide) rfl).trans (State.setf_regsBut hs1 _ _ _ (by decide) rfl)
  · rw [exec_raise_notHigher hact hle]
    exact ⟨State.f_setf_same hs F.SEC_CTRL_RESULT _ 0, State.setf_regsBut hs _ _ _ (by decide) rfl⟩
  · rw [exec_raise_inactive hact]
    exact ⟨State.f_setf_same hs F.SEC_CTRL_RESULT _ 0, State.setf_regsBut hs _ _ _ (by decide) rfl⟩
  · exact (exec_climbs c s).counter_le hs

end Sys2Proof.Proofs
end
